-- ==== Sys2Proof/Word.lean ====
section
/-! DEFINITION. The plainest types and arithmetic of the model: words, association lists and
two's-complement readings. -/

namespace Sys2Proof

/-- A byte of host memory, of DRAM or of a frame. -/
abbrev Byte := BitVec 8

/-- A finite map as a list of pairs; a key stands at most once, the first entry counts. -/
abbrev AMap (κ α : Type) := List (κ × α)

/-- The value a map holds at a key. -/
def aget {κ α : Type} [DecidableEq κ] : AMap κ α → κ → Option α
  | [], _ => none
  | (a, x) :: m, k => if a = k then some x else aget m k

/-- The map with one key set: an entry the key already has is replaced in place. -/
def aput {κ α : Type} [DecidableEq κ] : AMap κ α → κ → α → AMap κ α
  | [], k, v => [(k, v)]
  | (a, x) :: m, k, v => if a = k then (a, v) :: m else (a, x) :: aput m k v

/-- The map with one key taken out. -/
def adel {κ α : Type} [DecidableEq κ] : AMap κ α → κ → AMap κ α
  | [], _ => []
  | (a, x) :: m, k => if a = k then adel m k else (a, x) :: adel m k

/-- An integer as the w-bit two's-complement pattern that holds it, modulo 2^w (R7). -/
def toBits (w : Nat) (x : Int) : Nat := (x % (2 ^ w : Int)).toNat

/-- The signed value of a w-bit two's-complement pattern (R7). -/
def ofBits (w n : Nat) : Int :=
  if n % 2 ^ w < 2 ^ (w - 1) then (n % 2 ^ w : Nat) else (n % 2 ^ w : Nat) - (2 ^ w : Int)

/-- An integer held between two ends. -/
def clampI (lo hi x : Int) : Int := if x < lo then lo else if hi < x then hi else x

/-- A signed value saturated to w bits. -/
def satI (w : Nat) (x : Int) : Int := clampI (-(2 ^ (w - 1) : Int)) ((2 ^ (w - 1) : Int) - 1) x

/-- An unsigned value saturated to w bits; a negative one becomes 0. -/
def satU (w : Nat) (x : Int) : Nat := if x < 0 then 0 else if (2 ^ w : Int) ≤ x then 2 ^ w - 1 else x.toNat

/-- Division rounded up. -/
def ceilDiv (a b : Nat) : Nat := (a + b - 1) / b

/-- Signed division truncated towards zero. -/
def truncDiv (a b : Int) : Int := Int.tdiv a b

/-- Signed division rounded to nearest, ties away from zero. -/
def roundDiv (a : Int) (b : Nat) : Int :=
  if a < 0 then -(((-a).toNat * 2 + b) / (2 * b) : Nat) else ((a.toNat * 2 + b) / (2 * b) : Nat)

/-- Integer square root, by bisection on the bits of the answer: `fuel` bits below the top one. -/
def isqrtAux : Nat → Nat → Nat → Nat
  | 0, _, r => r
  | b + 1, n, r => if (r + 2 ^ b) * (r + 2 ^ b) ≤ n then isqrtAux b n (r + 2 ^ b) else isqrtAux b n r

/-- The largest integer whose square is at most n, for n below 2^256. -/
def isqrt (n : Nat) : Nat := isqrtAux 128 n 0

/-- The smallest integer whose square is at least n, for n below 2^256. -/
def ceilSqrt (n : Nat) : Nat := if isqrt n * isqrt n = n then isqrt n else isqrt n + 1

/-- Bit k of a number. -/
def bit (n k : Nat) : Bool := n / 2 ^ k % 2 = 1

/-- A number with bit k set. -/
def setBit (n k : Nat) : Nat := if bit n k then n else n + 2 ^ k

/-- A number with bit k cleared. -/
def clrBit (n k : Nat) : Nat := if bit n k then n - 2 ^ k else n

/-- The little-endian bytes of a number (R8). -/
def leBytes : Nat → Nat → List Byte
  | 0, _ => []
  | k + 1, n => BitVec.ofNat 8 n :: leBytes k (n / 256)

/-- The number some little-endian bytes spell (R8). -/
def leNat : List Byte → Nat
  | [] => 0
  | b :: bs => b.toNat + 256 * leNat bs

/-- A Bool as the bit a register shows. -/
def b2n (b : Bool) : Nat := if b then 1 else 0

end Sys2Proof
end

