-- ==== Sys2Proof/Syntax.lean ====
section
/-! DEFINITION. The commands the engine takes, with what they carry: one constructor for each row of spec/opcode_table.json. -/

namespace Sys2Proof

/-- The roles a session can hold (R427). -/
inductive Role where
  | operator | installer | maker
  deriving DecidableEq, Repr

/-- The initiator classes of register accesses (R394). -/
inductive Ini where
  | host | coach | dump
  deriving DecidableEq, Repr

/-- What every ring command carries: the CMD ring, the descriptor's TAG, SESSION, IRQ and FENCE (R374), and whether
the host-memory accesses it makes succeed. -/
structure Ctx where
  ring    : Nat
  tag     : Nat
  session : Nat
  irq     : Bool
  fence   : Bool
  dmaOk   : Bool
  deriving DecidableEq, Repr

/-- A register write access: the initiator's class, the window offset, the value, whether all byte enables are set
(R473), and whether the value arrives with a poison tag (R399). -/
structure WrAcc where
  ini    : Ini
  addr   : Nat
  value  : Nat
  full   : Bool
  poison : Bool
  deriving DecidableEq, Repr

/-- What a partner's baton carries that the twin acts on or reports (R339): the fields by name, in the baton's order; a stamp is none where its
marker did not leave or come (R337);
`syncBad` is the mark of a loss of SYN_C in the lap (R337), `request` a RESYNC_REQ (R353): 0 none, 1 full, 2
configuration alone. -/
structure Baton where
  role       : Nat
  side       : Nat
  claim      : Bool
  fenceFault : Bool
  synced     : Bool
  following  : Bool
  regions    : Nat
  lap        : Nat
  markTx     : Option Int
  markRx     : Option Int
  rateAdj    : Int
  disc       : Nat
  stepArmed  : Bool
  tebSat     : Bool
  sel        : Nat
  slew       : Int
  teb        : Nat
  trace      : Nat
  utc        : Nat
  leapAt     : Nat
  leap       : Nat
  lanes      : List Nat
  t0         : Nat
  teb0       : Nat
  uyUse      : Nat
  amaxUse    : Nat
  wUse       : Nat
  lockHist   : Nat
  modelSrc   : Nat
  ptpSeq     : List Nat
  upMpd      : List Int
  stateSeq   : Nat
  grantSeq   : Nat
  stateAck   : Nat
  grantAck   : Nat
  handover   : Nat
  syncBad    : Bool
  request    : Nat
  deriving DecidableEq, Repr

/-- What a HELLO carries (R333, R353): SIDE, ROLE, TWIN_EN, LOCAL_MAC of PORT_0, a RESYNC_REQ as in a baton, and the fused transmit delay of the
pair in units of 2^-10 ns; the receive delay stands beside it. -/
structure Hello where
  side    : Nat
  role    : Nat
  twinEn  : Bool
  mac     : Nat
  request : Nat
  txDelay : Nat
  deriving DecidableEq, Repr

/-- A journal record as it arrives from the partner (R340): its number, kind, originating role and side, the status it
completed with, the opcode, and its parameters in order. -/
structure JournalMsg where
  seq    : Nat
  kind   : Nat
  role   : Nat
  side   : Nat
  result : Nat
  op     : Nat
  body   : List Int
  deriving DecidableEq, Repr

/-- A satellite as the stored orbit data shows it (R211, R213): constellation, SVID, elevation and azimuth in degrees, health; the predicted
Time Core time of reception less the time of transmission, in units of 2^-16 ns, and the predicted Doppler over the carrier on a perfect clock, in
units of 2^-48. -/
structure Sky where
  const   : Nat
  svid    : Nat
  elev    : Int
  azim    : Nat
  healthy : Bool
  lag     : Int
  rate    : Int
  deriving DecidableEq, Repr

/-- What a channel's correlators give at an epoch (R206, R207, R217, R222), in the units of R222: the code phase at the newest captured sample,
and the carrier as the sample lines show it, before SWAP_IQ, INV_Q and the mixing by -IF: its phase turned since LOCK_TIME began and its
frequency off the band's nominal one. -/
structure ChMeas where
  ch        : Nat
  codePhase : Nat
  ambig     : Nat
  tow       : Nat
  week      : Nat
  cn0       : Nat
  accPhase  : Int
  doppler   : Int
  halfOk    : Bool
  deriving DecidableEq, Repr

/-- What a photo-finish meets: what the channels hold at the latch, and the words of a unit's CONTENT, each as HID and number, that arrive with a
poison tag (R399, R409, R411). -/
structure Latched where
  ms  : List ChMeas
  bad : List (Nat × Nat)
  deriving DecidableEq, Repr

/-- What LOS tells: the lane, and the time since its last edge in units of 2^-16 ns (R90). -/
structure LaneGap where
  n     : Nat
  since : Nat
  deriving DecidableEq, Repr

/-- What TAKE_BACK meets: the TDC lane, and the difference of the overlap in units of 2^-10 ns (R154, R156). -/
structure Overlap where
  k    : Nat
  diff : Int
  deriving DecidableEq, Repr

/-- A channel's cos 2φ at its last integrations, newest first, in units of 10^-6 (R215). -/
structure LockInd where
  n    : Nat
  cos2 : List Int
  deriving DecidableEq, Repr

/-- The greatest C/N0 of a channel over the last second, in units of 0.01 dB-Hz (R215). -/
structure PeakCn0 where
  n   : Nat
  cn0 : Nat
  deriving DecidableEq, Repr

/-- How often each 2-bit code came on one pair of sample lines in a millisecond (R207, R208). -/
structure CodeCount where
  c0 : Nat
  c1 : Nat
  c2 : Nat
  c3 : Nat
  deriving DecidableEq, Repr

/-- What the standard's models give for one channel's signal at an epoch (R223, R224): elevation in whole degrees (rounded down), azimuth,
health, whether an inter-system offset is broadcast, the estimate of reference system time less Time Core in units of
2^-16 ns without the corrections for the ionosphere, ANT_DELAY and SIG_DELAY, the broadcast range accuracy over c and the broadcast model's
ionospheric delay in units of 2^-16 ns (rounded up), the unit vector to the satellite in units of 2^-30, and the sine of the elevation in units
of 2^-30, rounded down. -/
structure SolIn where
  ch      : Nat
  elev    : Int
  azim    : Nat
  healthy : Bool
  isb     : Bool
  x       : Int
  ura     : Nat
  iono    : Nat
  ex      : Int
  ey      : Int
  ez      : Int
  sinEl   : Nat
  deriving DecidableEq, Repr

/-- UTC data decoded from a satellite of the reference constellation (R225): TAI - UTC in seconds, the sign of an announced
leap or 0, and its L in TAI seconds. -/
structure UtcData where
  taiUtc : Int
  sign   : Int
  leapAt : Nat
  deriving DecidableEq, Repr

/-- A client's key (R284): port, address type (0 IPv4, 1 IPv6, 2 L2), address as a number (its first octet the most
significant), VLAN. -/
structure CKey where
  port   : Nat
  kind   : Nat
  addr   : Nat
  vlan   : Nat
  tagged : Bool
  deriving DecidableEq, Repr

/-- A request's source as the port read it: its key, the PCP of its tag, its UDP port, and whether it was sent to IPV6_B; and the slots of the
client table whose bytes in DRAM have come to fail their CHECK since the request before (R290). -/
structure Peer where
  key   : CKey
  pcp   : Nat
  sport : Nat
  toB   : Bool
  bad   : List Nat
  deriving DecidableEq, Repr

/-- A grant word (R285). -/
structure Grant where
  expiry : Nat := 0
  log    : Int := 0
  inst   : Nat := 0
  live   : Bool := false
  deriving DecidableEq, Repr

/-- A client entry (R285). -/
structure CltEntry where
  key        : CKey
  pinned     : Bool := false
  learned    : Bool := false
  ntpClass   : Nat := 0
  rule       : Nat := 255
  bucket     : Nat := 0
  lastSeen   : Nat := 0
  created    : Nat := 0
  announce   : Grant := {}
  sync       : Grant := {}
  delayResp  : Grant := {}
  tokens     : Nat := 0
  ptpTokens  : Nat := 0
  requests   : Nat := 0
  answered   : Nat := 0
  shed       : Nat := 0
  refused    : Nat := 0
  authFail   : Nat := 0
  hostTag    : List Byte := []
  deriving DecidableEq, Repr

/-- A bulk image as it arrives (R353): S0 and G0, the register words with their window offsets, client entries, grants by client,
instance, message type and grant word, key check values by slot, its size in KiB, and how long it took in ms. -/
structure BulkImage where
  s0      : Nat
  g0      : Nat
  words   : List (Nat × Nat)
  entries : List CltEntry
  grants  : List (CKey × Nat × Nat × Nat)
  kcvs    : List (Nat × Nat)
  kib     : Nat
  ms      : Nat
  deriving DecidableEq, Repr

/-- The destination address of a pause frame, and the enable vector of a PFC frame (R320). -/
structure PauseTo where
  dst  : Nat
  mask : Nat
  deriving DecidableEq, Repr

/-- When and where a frame's last SFD bit crossed the MII boundary: the port counter's time in units of 2^-32 ns, and its bit's
position within its FEC codeword, from 1 (R307). -/
structure MiiAt where
  t : Nat
  k : Nat
  deriving DecidableEq, Repr

/-- A received frame (R310): its bytes from the destination address to the FCS, its stamp, whether the receive buffer lacked room at
its SFD, its FCS was wrong, or the link went DOWN before its end; codewords corrected and not correctable and errored blocks seen
since the frame before; the slots of the client table whose bytes in DRAM have come to fail their CHECK (R290); whether its writes to host memory succeed. -/
structure RxFrame where
  bytes   : List Byte
  at_     : MiiAt
  noRoom  : Bool
  fcsBad  : Bool
  cut     : Bool
  fecOk   : Nat
  fecBad  : Nat
  pcsBad  : Nat
  bad     : List Nat
  dmaOk   : Bool
  deriving DecidableEq, Repr

/-- The AUTHENTICATION TLV of a PTP message (R245): secParamIndicator, SPP, keyID, whether it is the last TLV, its ICV, and the
bytes the ICV is computed over. -/
structure AuthTlv where
  ind   : Nat
  spp   : Nat
  keyId : Nat
  last  : Bool
  icv   : List Byte
  body  : List Byte
  deriving DecidableEq, Repr

/-- What every received PTP message carries: instance of its domain (R312), source, stamp, transport (0 L2, 1 UDP over IPv4, 2
UDP over IPv6), whether it came by unicast, sequenceId, source portIdentity (clockIdentity and portNumber), correctionField in
units of 2^-16 ns, AUTHENTICATION TLV. -/
structure PtpIn where
  inst    : Nat
  peer    : Peer
  at_     : MiiAt
  trans   : Nat
  unicast : Bool
  seq     : Nat
  clock   : Nat
  portNo  : Nat
  corr    : Int
  auth    : Option AuthTlv
  deriving DecidableEq, Repr

/-- A TIME_BOUND TLV received (R249): organizationId, flags, BOUND. -/
structure BoundTlv where
  org   : Nat
  flags : Nat
  bound : Nat
  deriving DecidableEq, Repr

/-- The fields of an Announce message (R235). -/
structure AnnounceBody where
  cls       : Nat
  accuracy  : Nat
  variance  : Nat
  prio1     : Nat
  prio2     : Nat
  gm        : Nat
  steps     : Nat
  utcOffset : Int
  utcValid  : Bool
  leap61    : Bool
  leap59    : Bool
  ptpScale  : Bool
  timeTrace : Bool
  freqTrace : Bool
  source    : Nat
  localPrio : Option Nat
  deriving DecidableEq, Repr

/-- A TLV of unicast negotiation (IEEE 1588-2019, R242 to R244): 0 REQUEST, 1 GRANT, 2 CANCEL, 3 ACKNOWLEDGE_CANCEL; message
type (0 Announce, 1 Sync, 2 Delay_Resp, 3 Pdelay_Resp), period, seconds. -/
structure NegTlv where
  kind : Nat
  typ  : Nat
  log  : Int
  dur  : Nat
  deriving DecidableEq, Repr

/-- One constructor for each row of the opcode table, in its order: the commands software puts on a ring, the accesses to the register
window, and what comes to the engine from time, pins, links and faults. A ring command carries what its descriptor says of it (`Ctx`). -/
inductive Instr where
  /-- NOP, R382. -/
  | nop (c : Ctx) (echo : Nat)
  /-- ABORT, R383. -/
  | abort (c : Ctx) (ring tag : Nat)
  /-- UNIT_ENABLE, R40. -/
  | unitEnable (c : Ctx) (hid : Nat)
  /-- UNIT_DISABLE, R40. -/
  | unitDisable (c : Ctx) (hid : Nat)
  /-- UNIT_RESET, R41. -/
  | unitReset (c : Ctx) (hid : Nat)
  /-- UNIT_STATE, R375. -/
  | unitState (c : Ctx) (hid addr len : Nat)
  /-- TIME_RESET, R62: the next acquisition may step again. -/
  | timeReset (c : Ctx)
  /-- PHASE_ADJ, R61: offset in units of 2^-32 ns. -/
  | phaseAdj (c : Ctx) (offset : Int)
  /-- SLEW_LIMIT_SET, R77: limit in units of 2^-48. -/
  | slewLimitSet (c : Ctx) (limit : Nat)
  /-- STEP_THRESH_SET, R77. -/
  | stepThreshSet (c : Ctx) (ns : Nat)
  /-- LEAP_SET, R70. -/
  | leapSet (c : Ctx) (year month : Nat) (sign : Int)
  /-- UTC_OFFSET_SET, R77. -/
  | utcOffsetSet (c : Ctx) (current : Int)
  /-- CMP_ARM, R67: target and period in units of 2^-16 ns. -/
  | cmpArm (c : Ctx) (n mode : Nat) (actEvent actPf : Bool) (target period : Nat)
  /-- CMP_DISARM, R77. -/
  | cmpDisarm (c : Ctx) (n : Nat)
  /-- LANE_FORCE, R108. -/
  | laneForce (c : Ctx) (n : Nat)
  /-- LANE_RELEASE, R110. -/
  | laneRelease (c : Ctx)
  /-- LANE_CLEAR, R111. -/
  | laneClear (c : Ctx) (n : Nat)
  /-- LANE_SET, R112: lane, register offset within the lane block, value. -/
  | laneSet (c : Ctx) (n off value : Nat)
  /-- SEL_MODE_SET, R112. -/
  | selModeSet (c : Ctx) (revertive wtr avg agree span : Nat)
  /-- HOB_SET, R137. -/
  | hobSet (c : Ctx) (off value : Nat)
  /-- MODEL_RESET, R137. -/
  | modelReset (c : Ctx)
  /-- TEB_PREDICT, R137: seconds. -/
  | tebPredict (c : Ctx) (tau : Nat)
  /-- HEAT_START, R159, in the order of its parameters. -/
  | heatStart (c : Ctx) (k start startEdge stop stopEdge splits n window sgn win scale keep stat : Nat)
  /-- HEAT_STOP, R150. -/
  | heatStop (c : Ctx) (k : Nat)
  /-- REFIN_DELAY_SET, R159. -/
  | refinDelaySet (c : Ctx) (pin : Nat) (delay : Int)
  /-- WARM_SET, R158. -/
  | warmSet (c : Ctx)
  /-- TIM_SET, R159. -/
  | timSet (c : Ctx) (off value : Nat)
  /-- TIM_CALIBRATE, R157. -/
  | timCalibrate (c : Ctx)
  /-- SYN_SET, R182. -/
  | synSet (c : Ctx) (g off value : Nat)
  /-- SYN_START, R182. -/
  | synStart (c : Ctx) (g : Nat)
  /-- SYN_STOP, R182. -/
  | synStop (c : Ctx) (g : Nat)
  /-- SYN_FREQ_STEP, R182. -/
  | synFreqStep (c : Ctx) (g num den : Nat)
  /-- OUT_SET, R201. -/
  | outSet (c : Ctx) (hid off value : Nat)
  /-- OUT_ALIGN, R201: method 0 JUMP, 1 WALK. -/
  | outAlign (c : Ctx) (mask method rate : Nat)
  /-- GNB_SET, R230. -/
  | gnbSet (c : Ctx) (off value : Nat)
  /-- GNSS_POS_SET, R230: mode 1 SURVEY, 2 HOLD; mm; seconds. -/
  | gnssPosSet (c : Ctx) (mode : Nat) (x y z : Int) (posU time : Nat)
  /-- GNSS_NAV_LOAD, R229, R230: the records whose parity or CRC fails, and those too far from their reference time, by number. -/
  | gnssNavLoad (c : Ctx) (addr len : Nat) (parityBad tooOld : List Nat)
  /-- GNSS_NAV_READ, R230: selection 0 all, 1 to 3 one TYPE. -/
  | gnssNavRead (c : Ctx) (addr len sel : Nat)
  /-- GNSS_COLD_START, R230. -/
  | gnssColdStart (c : Ctx)
  /-- PTP_INST_SET, R257. -/
  | ptpInstSet (c : Ctx) (k off value : Nat)
  /-- PTP_INST_START, R257. -/
  | ptpInstStart (c : Ctx) (k : Nat)
  /-- PTP_INST_STOP, R257. -/
  | ptpInstStop (c : Ctx) (k : Nat)
  /-- PTP_SA_SET, R257. -/
  | ptpSaSet (c : Ctx) (i off value : Nat)
  /-- PTP_CLOCK_ID_SET, R257. -/
  | ptpClockIdSet (c : Ctx) (id : Nat)
  /-- PTP_GRANT_CANCEL, R257: one requester, or all. -/
  | ptpGrantCancel (c : Ctx) (k : Nat) (who : Option CKey)
  /-- NTP_SET, R281. -/
  | ntpSet (c : Ctx) (off value : Nat)
  /-- KEY_INSTALL, R279: len is the length of a wrapped key. -/
  | keyInstall (c : Ctx) (slot usage : Nat) (kek : Option Nat) (addr len : Nat)
  /-- KEY_ERASE, R279. -/
  | keyErase (c : Ctx) (slot : Nat)
  /-- NTS_COOKIE_MAKE, R281. -/
  | ntsCookieMake (c : Ctx) (count addrKeys addrOut : Nat)
  /-- CLT_SET, R301. -/
  | cltSet (c : Ctx) (off value : Nat)
  /-- CLT_ENTRY_ADD, R301. -/
  | cltEntryAdd (c : Ctx) (k : CKey) (cls rule : Nat) (tag : List Byte)
  /-- CLT_ENTRY_DEL, R299. -/
  | cltEntryDel (c : Ctx) (k : CKey)
  /-- CLT_ENTRY_READ, R301. -/
  | cltEntryRead (c : Ctx) (k : CKey) (addr : Nat)
  /-- CLT_DUMP, R301. -/
  | cltDump (c : Ctx) (first count addr : Nat)
  /-- CLT_FLUSH, R301. -/
  | cltFlush (c : Ctx)
  /-- PORT_SET, R328. -/
  | portSet (c : Ctx) (p off value : Nat)
  /-- PORT_LINK_RESET, R328. -/
  | portLinkReset (c : Ctx) (p : Nat)
  /-- SEIZE, R350. -/
  | seize (c : Ctx)
  /-- YIELD, R352. -/
  | yield (c : Ctx) (laps : Nat)
  /-- TWN_RESYNC, R356. -/
  | twnResync (c : Ctx)
  /-- TWN_SET, R356. -/
  | twnSet (c : Ctx) (off value : Nat)
  /-- FAB_SET, R404. -/
  | fabSet (c : Ctx) (off value : Nat)
  /-- PF_SNAPSHOT, R407. -/
  | pfSnapshot (c : Ctx) (at16 : Nat) (system : Bool) (addr : Nat)
  /-- PMC_SET, R424. -/
  | pmcSet (c : Ctx) (off value : Nat)
  /-- LOG_READ, R424. -/
  | logRead (c : Ctx) (source first count addr : Nat)
  /-- SESSION_CHALLENGE, R433. -/
  | sessionChallenge (c : Ctx) (role addr : Nat)
  /-- SESSION_OPEN, R435. -/
  | sessionOpen (c : Ctx) (id : Nat) (bind : Bool) (addr : Nat)
  /-- SESSION_CLOSE, R438. -/
  | sessionClose (c : Ctx) (n : Nat)
  /-- ROLE_KEY_SET, R432. -/
  | roleKeySet (c : Ctx) (target : Nat) (clear : Bool) (addr : Nat)
  /-- PWR_DOMAIN_SET, R448. -/
  | pwrDomainSet (c : Ctx) (d action : Nat)
  /-- FIELD_RESET, R450. -/
  | fieldReset (c : Ctx)
  /-- BIST_RUN, R462. -/
  | bistRun (c : Ctx) (sets : Nat) (fails : List (Nat × Nat))
  /-- FW_UPDATE, R461. -/
  | fwUpdate (c : Ctx) (target addr len verify : Nat)
  /-- FUSE_WRITE, R464. -/
  | fuseWrite (c : Ctx) (field value : Nat)
  /-- TRIM_SET, R464. -/
  | trimSet (c : Ctx) (trim value : Nat)
  /-- LOCK_SET, R362. -/
  | lockSet (a : WrAcc)
  /-- HIF_KICK, R366. -/
  | hifKick (a : WrAcc)
  /-- RING_ENABLE, R372. -/
  | ringEnable (n : Nat) (a : WrAcc)
  /-- RING_DISABLE, R372. -/
  | ringDisable (n : Nat) (a : WrAcc)
  /-- PF_RELEASE, R410. -/
  | pfRelease (a : WrAcc)
  /-- FLUSH, R402: a write of RQ_CTRL. -/
  | flush (q : Nat) (a : WrAcc)
  /-- PMC_CLEAR, R414. -/
  | pmcClear (r : Nat) (a : WrAcc)
  /-- W1C_WRITE, R18. -/
  | w1cWrite (a : WrAcc)
  /-- RC_READ, R19. -/
  | rcRead (ini : Ini) (addr : Nat) (poison : Bool)
  /-- LO_READ, R470. -/
  | loRead (ini : Ini) (addr : Nat) (poison : Bool)
  /-- LINEAR_LO_READ, R56. -/
  | linearLoRead (ini : Ini) (poison : Bool)
  /-- HI_WRITE, R471. -/
  | hiWrite (a : WrAcc)
  /-- LO_WRITE, R471. -/
  | loWrite (a : WrAcc)
  /-- REGISTER_WRITE, R13. -/
  | registerWrite (a : WrAcc)
  /-- DEFAULT_HIT, R395. -/
  | defaultHit (ini addr : Nat) (write regWindow : Bool)
  /-- DOORBELL_POLL, R366. -/
  | doorbellPoll (dmaOk : Bool) (bad : List Nat) (indOk : Bool)
  /-- STATUS_BLOCK_WRITE, R368. -/
  | statusBlockWrite (dmaOk : Bool)
  /-- MOD_TIME_EXPIRY, R385. -/
  | modTimeExpiry (n : Nat)
  /-- RING_STOPPED, R372. -/
  | ringStopped (n : Nat)
  /-- HOST_RESET, R386. -/
  | hostReset (cause : Nat)
  /-- RECORD_QUEUE_DELIVERY, R401. -/
  | recordQueueDelivery (q : Nat) (poisoned dmaOk : Bool)
  /-- HS_TIMEOUT, R396. -/
  | hsTimeout (target ini : Nat)
  /-- PARITY, R398. -/
  | parity (hid q : Nat)
  /-- DRAIN, R397: initiator port, responses discarded, beats masked. -/
  | drain (n discards masked : Nat)
  /-- SPEED_LOW, R405: unit 10^6 transfers per second. -/
  | speedLow (rate : Nat)
  /-- UNIT_FENCED, R40. -/
  | unitFenced (hid cause : Nat)
  /-- REGION_FENCED, R46. -/
  | regionFenced (hid cause : Nat)
  /-- DIE_FAULT, R46. -/
  | dieFault (die hid cause : Nat)
  /-- UNIT_RESET_DONE, R40. -/
  | unitResetDone (hid : Nat) (pass : Bool)
  /-- UNITS_ABSENT, R40. -/
  | unitsAbsent (d : Nat)
  /-- UNITS_PRESENT, R40. -/
  | unitsPresent (d : Nat)
  /-- LAP_BOUNDARY, R87. -/
  | lapBoundary (tx0 tx1 : Int)
  /-- LANE_MEASUREMENT, R84: lane, offset in units of 2^-16 ns, before the delay of its source is taken off (R142). -/
  | laneMeasurement (n : Nat) (offset : Int)
  /-- LOS, R91. -/
  | los (g : LaneGap)
  /-- QUAL_TIME_EXPIRY, R88. -/
  | qualTimeExpiry (n : Nat)
  /-- DISQ_HOLD_EXPIRY, R88. -/
  | disqHoldExpiry (n : Nat)
  /-- WTR_EXPIRY, R97. -/
  | wtrExpiry
  /-- WARN_CLEAR, R92: lane; 0 frequency, 1 drift, 2 phase. -/
  | warnClear (n k : Nat)
  /-- DISAGREE_END, R100: the two lanes; 16 the holdover prediction. -/
  | disagreeEnd (a b : Nat)
  /-- SHADOW_ANCHOR, R101. -/
  | shadowAnchor
  /-- LOOP_SETTLED, R115. -/
  | loopSettled
  /-- MODEL_REFIT, R122. -/
  | modelRefit
  /-- MODEL_VALID, R121. -/
  | modelValid
  /-- WARM_CLEARED, R158. -/
  | warmCleared
  /-- WARM_TIMEOUT, R158. -/
  | warmTimeout
  /-- BUILDOUT_RETIRED, R497. -/
  | buildoutRetired
  /-- STEP_DONE, R63. -/
  | stepDone
  /-- CMP_FIRED, R66. -/
  | cmpFired (n : Nat)
  /-- LEAP_COMMITTED, R71. -/
  | leapCommitted
  /-- LEAP_APPLIED, R71. -/
  | leapApplied
  /-- SMEAR_END, R72. -/
  | smearEnd
  /-- MARKER_LAUNCH, R73. -/
  | markerLaunch
  /-- MARKER_ARRIVAL, R74: port, CRC, the port counter at its first bit and the round trip, both in units of 2^-10 ns, spread below 4 ps rms. -/
  | markerArrival (p : Nat) (crcOk : Bool) (counter : Int) (roundTrip : Nat) (steady : Bool)
  /-- MARKER_MISSED, R76. -/
  | markerMissed (p : Nat)
  /-- NO_GOOD_MARKER, R76. -/
  | noGoodMarker (p : Nat)
  /-- PORT_COUNTER_STEP, R74. -/
  | portCounterStep (p : Nat)
  /-- START_EDGE, R146: TDC lane, place after the TCLK edge in 1/102,400 of a period. -/
  | startEdge (k fine : Nat)
  /-- STOP_EDGE, R146. -/
  | stopEdge (k fine : Nat)
  /-- WINDOW_EXPIRY, R146. -/
  | windowExpiry (k : Nat)
  /-- CAL_SLOT_START, R154. -/
  | calSlotStart (k : Nat)
  /-- CAL_HANDOVER, R154. -/
  | calHandover (k : Nat)
  /-- CAL_RECONNECT, R154: largest check error, largest overlap difference, mean bin width. -/
  | calReconnect (k : Nat) (err diff : Int) (lsb : Nat)
  /-- CAL_RETURN, R154. -/
  | calReturn (k : Nat)
  /-- CAL_STALE, R157. -/
  | calStale (k : Nat)
  /-- TAKE_BACK, R156. -/
  | takeBack (o : Overlap)
  /-- FOLLOWER_TICK, R165. -/
  | followerTick
  /-- LOCK_WINDOW, R173, R176: difference in counts, VCO in kHz, held VCO against its target in units of 2^-40. -/
  | lockWindow (g diff vcoKHz : Nat) (foff : Int)
  /-- CYCLE_SLIP, R174. -/
  | cycleSlip (g : Nat)
  /-- BAND_CAL_DONE, R175: the band and its ends in MHz. -/
  | bandCalDone (g : Nat) (found : Bool) (band lo hi : Nat)
  /-- ACQUIRE_TIMEOUT, R175. -/
  | acquireTimeout (g : Nat)
  /-- RELOCK_DELAY_EXPIRY, R175. -/
  | relockDelayExpiry (g : Nat)
  /-- RELOCK_RELEASE, R177: measured offset in units of 2^-52 ns, measured rate in units of 2^-48. -/
  | relockRelease (g : Nat) (offset rate : Int)
  /-- SYN_HOLD_END, R178. -/
  | synHoldEnd
  /-- CLOCK_WALK_STEP, R172, R196: clock n by n, pulse n by 16 + n. -/
  | clockWalkStep (i : Nat)
  /-- PULSE_EDGE, R194. -/
  | pulseEdge (n : Nat)
  /-- TOD_MESSAGE, R199. -/
  | todMessage (k : Nat)
  /-- SAMPLE_CHECK, R208: the codes of I and Q of each band. -/
  | sampleCheck (i1 q1 i5 q5 : CodeCount)
  /-- CHANNEL_ASSIGN, R211. -/
  | channelAssign (sky : List Sky)
  /-- ACQ_DWELL, R212: engine, power above the noise floor in 0.25 dB, cell. -/
  | acqDwell (k peak cell : Nat)
  /-- PULL_IN_LOCKED, R216. -/
  | pullInLocked (n : Nat)
  /-- PULLIN_TIME_EXPIRY, R216. -/
  | pullinTimeExpiry (n : Nat)
  /-- CARRIER_LOCK_LOST, R215. -/
  | carrierLockLost (l : LockInd)
  /-- CODE_LOCK_LOST, R215. -/
  | codeLockLost (p : PeakCn0)
  /-- REACQ_TIME_EXPIRY, R216. -/
  | reacqTimeExpiry (n : Nat)
  /-- EPOCH, R217. -/
  | epoch (ms : List ChMeas)
  /-- SOLUTION, R223 to R226. -/
  | solution (ins : List SolIn) (corr px py pz : Int)
  /-- SOLUTION_TIMEOUT, R226. -/
  | solutionTimeout
  /-- NAV_DECODE, R225, R228. -/
  | navDecode (const svid typ msg : Nat) (body : List Byte) (utc : Option UtcData)
  /-- SURVEY_DONE, R223. -/
  | surveyDone
  /-- SYNC_TX, R236, R237: by multicast or to a granted client; skip: not composed in its interval (R298). -/
  | syncTx (k : Nat) (dst : Option CKey) (skip : Bool)
  /-- ANNOUNCE_TX, R235: as SYNC_TX. -/
  | announceTx (k : Nat) (dst : Option CKey) (skip : Bool)
  /-- PDELAY_REQ_TX, R234. -/
  | pdelayReqTx (k : Nat)
  /-- DELAY_REQ_TX, R252. -/
  | delayReqTx (k : Nat)
  /-- DELAY_REQ, R239. -/
  | delayReq (q : PtpIn)
  /-- PDELAY_REQ, R239. -/
  | pdelayReq (q : PtpIn)
  /-- PDELAY_RESP_RX, R234: t3 - t2 beyond the correctionField, unit 2^-16 ns. -/
  | pdelayRespRx (q : PtpIn) (turn : Int)
  /-- REQUEST_UNICAST_TRANSMISSION, R242. -/
  | requestUnicastTransmission (q : PtpIn) (tlvs : List NegTlv)
  /-- CANCEL_UNICAST_TRANSMISSION, R244. -/
  | cancelUnicastTransmission (q : PtpIn) (tlvs : List NegTlv)
  /-- GRANT_EXPIRY, R244. -/
  | grantExpiry (c : CKey) (typ : Nat)
  /-- GRANT_RX, R251. -/
  | grantRx (q : PtpIn) (tlvs : List NegTlv)
  /-- GRANT_RENEWAL, R251. -/
  | grantRenewal (k m typ : Nat)
  /-- ANNOUNCE_RX, R251. -/
  | announceRx (q : PtpIn) (b : AnnounceBody) (tlv : Option BoundTlv)
  /-- SYNC_RX, R252: t1 in units of 2^-16 ns; a two-step Sync with its Follow_Up. -/
  | syncRx (q : PtpIn) (t1 : Nat) (tlv : Option BoundTlv)
  /-- DELAY_RESP_RX, R252: t4 in units of 2^-16 ns. -/
  | delayRespRx (q : PtpIn) (t4 : Nat)
  /-- ANNOUNCE_TIMEOUT, R254. -/
  | announceTimeout (k : Nat)
  /-- LOS_TIME_EXPIRY, R254. -/
  | losTimeExpiry (k : Nat)
  /-- SA_SWITCH, R248. -/
  | saSwitch (k : Nat)
  /-- NTP_REQUEST, R263: source, stamp, NTP payload. -/
  | ntpRequest (q : Peer) (at_ : MiiAt) (pay : List Byte)
  /-- NTS_REQUEST, R273: source, stamp, NTP payload. -/
  | ntsRequest (q : Peer) (at_ : MiiAt) (pay : List Byte)
  /-- NTS_LAUNCH, R274: time of the MII boundary in units of 2^-32 ns. -/
  | ntsLaunch (p t : Nat)
  /-- MK_SWITCH, R272. -/
  | mkSwitch
  /-- AGE_SWEEP, R288: the slots visited. -/
  | ageSweep (first count : Nat)
  /-- TABLE_READY, R300. -/
  | tableReady
  /-- LINK_ALIGN, R305. -/
  | linkAlign (p : Nat)
  /-- LINK_UP, R305: RX_SKEW in units of 2^-10 ns. -/
  | linkUp (p skew : Nat)
  /-- ALIGN_TIMEOUT, R305. -/
  | alignTimeout (p : Nat)
  /-- LINK_DOWN, R305. -/
  | linkDown (p : Nat) (localFault remoteFault : Bool)
  /-- FRAME_RECEIVED, R310. -/
  | frameReceived (p : Nat) (rx : RxFrame)
  /-- PAUSE_FRAME, R320: for PFC the priorities named and a time each; for PAUSE one time. -/
  | pauseFrame (p : Nat) (pfc : Bool) (mask : PauseTo) (quanta : List Nat)
  /-- PAUSE_EXPIRY, R320. -/
  | pauseExpiry (p q : Nat)
  /-- PAUSE_WD, R321. -/
  | pauseWd (p : Nat)
  /-- WD_IGNORE_END, R321. -/
  | wdIgnoreEnd (p q : Nat)
  /-- HOST_FRAME_FETCH, R316. -/
  | hostFrameFetch (p : Nat) (dmaOk : Bool)
  /-- FRAME_TRANSMIT, R316: time of the MII boundary in units of 2^-32 ns; whether the link went DOWN before its end. -/
  | frameTransmit (p t : Nat) (cut : Bool)
  /-- ESMC_PDU, R324. -/
  | esmcPdu (p oui sub ver typ len ssm : Nat) (ext : Bool)
  /-- ESMC_TIMEOUT, R324. -/
  | esmcTimeout (p : Nat)
  /-- ESMC_INFO_TX, R325. -/
  | esmcInfoTx (p : Nat)
  /-- ESMC_EVENT_TX, R325. -/
  | esmcEventTx (p : Nat)
  /-- PAIR_TRAINED, R333: pair, the partner's HELLO up to its fused transmit delay, and its fused receive delay in units of 2^-10 ns. -/
  | pairTrained (n : Nat) (txDelay : Hello) (rxDelay : Nat)
  /-- TRAINING_TIMEOUT, R333. -/
  | trainingTimeout (n : Nat)
  /-- PAIR_DOWN, R333: cause 1 block lock, 2 CRC. -/
  | pairDown (n cause : Nat)
  /-- RELAY_MARKER_RX, R335: stamp less the boundary in units of 2^-16 ns. -/
  | relayMarkerRx (n : Nat) (lap : Nat) (stamp : Int)
  /-- BATON_TX, R339. -/
  | batonTx
  /-- BATON_RX, R334, R339: the baton as it came, and the value of its CRC field. -/
  | batonRx (b : Baton) (crcOk : Nat)
  /-- BATON_DUE, R345. -/
  | batonDue
  /-- JOURNAL_RECORD, R334, R340: the record as it came, and the value of its CRC-32. -/
  | journalRecord (r : JournalMsg) (crcOk : Nat)
  /-- JOURNAL_ACK_TIMEOUT, R341. -/
  | journalAckTimeout
  /-- FENCE_CHANGE, R343: lines A and B, high or low. -/
  | fenceChange (a b : Bool)
  /-- FENCE_FAULT_CLEAR, R343. -/
  | fenceFaultClear
  /-- SENSE_WINDOW, R344. -/
  | senseWindow (aLow : Bool)
  /-- PROMOTION, R348. -/
  | promotion
  /-- SEIZE_FRAME, R350. -/
  | seizeFrame
  /-- SEIZE_HOLD_EXPIRY, R350. -/
  | seizeHoldExpiry
  /-- HANDOVER, R352. -/
  | handover
  /-- RESYNC_REQ, R353. -/
  | resyncReq (configOnly : Bool)
  /-- RESYNC_DONE, R346, R353: the image. -/
  | resyncDone (img : BulkImage)
  /-- LISTEN_EXPIRY, R347. -/
  | listenExpiry
  /-- SIDE_B_WAIT_EXPIRY, R347. -/
  | sideBWaitExpiry
  /-- PF_TRIG, R407. -/
  | pfTrig (falling : Bool)
  /-- PF_LATCH, R409. -/
  | pfLatch (x : Latched)
  /-- PF_TAKEN, R409. -/
  | pfTaken
  /-- DUMP, R417. -/
  | dump
  /-- SESSION_IDLE_TIMEOUT, R438. -/
  | sessionIdleTimeout (n : Nat)
  /-- CHALLENGE_EXPIRY, R433. -/
  | challengeExpiry (id : Nat)
  /-- LOCKOUT_END, R436. -/
  | lockoutEnd (role : Nat)
  /-- DRBG_RESEED, R442. -/
  | drbgReseed
  /-- HEALTH_FAIL, R443. -/
  | healthFail (test : Nat)
  /-- DRBG_WITHHELD, R443. -/
  | drbgWithheld
  /-- WITHHOLDING_FAULT, R443. -/
  | withholdingFault
  /-- PACKAGE_RESET, R452. -/
  | packageReset (cause : Nat)
  /-- KEEPER_CHECK, R456. -/
  | keeperCheck (rtcStopped crcBad sealedBad : Bool)
  /-- TCLK_PLL_LOCK, R457. -/
  | tclkPllLock
  /-- OSC_MISSING, R457. -/
  | oscMissing (secs : Nat)
  /-- FW_BOOT, R458. -/
  | fwBoot (causeA causeB verA verB : Nat)
  /-- TIME_RECOVERY, R459. -/
  | timeRecovery (rtcNow : Nat)
  /-- TRACK_UP, R457. -/
  | trackUp
  /-- FIELD_UP, R457. -/
  | fieldUp
  /-- DRAM_TRAIN, R460. -/
  | dramTrain (pass : Bool) (failCh step ms readyMs : Nat)
  /-- DRAM_RETRAIN, R460. -/
  | dramRetrain
  /-- FIELD_RESTORED, R451. -/
  | fieldRestored (ms : Nat)
  /-- KEEPER_WRITE, R455. -/
  | keeperWrite (rtc : Nat) (foff : Option Int)
  /-- VBAT_LOW, R454. -/
  | vbatLow (cell : Nat)
  /-- BROWN_OUT, R454. -/
  | brownOut
  /-- D3HOT, R359. -/
  | d3hot (on : Bool)
  /-- VECTOR_UNMASK, R385. -/
  | vectorUnmask (v : Nat)
  /-- HOST_BACK, R386. -/
  | hostBack
  /-- NO_LATCH, R409. -/
  | noLatch (hids : List Nat)
  /-- RELOCK_RETRY, R175. -/
  | relockRetry (g : Nat)
  /-- CARRIER_LOCK_SET, R216. -/
  | carrierLockSet (l : LockInd)
  /-- BIT_SYNC, R215. -/
  | bitSync (n : Nat)
  /-- ON_CELL, R454. -/
  | onCell (on : Bool) (cell : Nat)
  deriving DecidableEq, Repr

end Sys2Proof
end

