-- ==== Sys2Proof/Decode.lean ====
section
/-! DEFINITION. The table gives its rows no bits: the engine's commands are descriptors, register accesses and events, which no one word
spells (R374; log entry 41). So no word decodes. -/

namespace Sys2Proof

/-- The command a word spells by the table's bits: none, as no row has bits. -/
def decodeTableWord (_nbits _w : Nat) : Option Instr := none

end Sys2Proof
end

