-- ==== Sys2Proof/Config.lean ====
section
/-! DEFINITION. What an implementation, a board or a standard function fixes and the spec gives no value
for: constants without a body, so that nothing can be proved about a value of one, and the numbers the spec
fixes for every part. -/

namespace Sys2Proof.Config

/-- The value fused at manufacture into the register field with this key (R498: the manual gives none). -/
opaque fused : Nat → Nat

/-- The value the board record gives the field with this key (RTC_CFG, MEM_CFG; R458). -/
opaque boardRecord : Nat → Nat

/-- The TWIN_SIDE strap ball as read at package reset: 0 side A, 1 side B (R39). -/
opaque twinSide : Nat

/-- K_MAKER, fused at manufacture (R430). -/
opaque makerKey : List Byte

/-- The negotiated PCIe link: speed code in the low 4 bits, lanes in the next 4 (HIF_STATUS). -/
opaque pcieLink : Nat

/-- A value the spec leaves undefined or does not state; the argument tells the uses apart (log entry 2). -/
opaque freeValue : Nat → Nat

/-- The n-th block of DRBG output asked for, by its draw number (R442). -/
opaque drbg : Nat → List Byte

/-- What a constellation's own standard makes of a navigation message's body by constellation and message type (R228, R229): whether its parity or
CRC holds, its issue of data, and its reference time as LINEAR_NS. -/
opaque navSound : Nat → Nat → List Byte → Bool
@[inherit_doc navSound] opaque navIssue : Nat → Nat → List Byte → Nat
@[inherit_doc navSound] opaque navRefTime : Nat → Nat → List Byte → Nat

/-- The TLV of G.8275 that carries a localPriority (R235): the spec names it and gives no layout (log entry 187). -/
opaque g8275Tlv : Nat → List Byte

/-- The 64-bit keyed hash of a client key under the salt, for its sets, fingerprint and drop bucket (R286). -/
opaque clientHash : List Byte → List Byte → Nat

/-- Depth of the record queues of R400. -/
def rqDepth (q : Nat) : Nat := if q = 0 then 256 else if q = 5 then 128 else 64

end Sys2Proof.Config
end

