-- ==== Sys2Proof/Machine/Crypto.lean ====
section
/-! DEFINITION. The standard functions the spec names (R245, R271 to R274, R279, R432, R434): SHA-256 and HMAC (FIPS 180-4, RFC 2104), AES
(FIPS 197), AES-CMAC (RFC 4493), AES-SIV (RFC 5297) and AES Key Wrap's unwrapping (RFC 3394). Their definitions are those standards' own (PRESUMED,
log entry 45). -/

namespace Sys2Proof

/-- One bit of the CRC-32 of IEEE 802.3, reflected; n steps on a register. -/
def crc32Bits : Nat → Nat → Nat
  | 0, c => c
  | n + 1, c => crc32Bits n (if c % 2 = 1 then (c / 2) ^^^ 0xEDB88320 else c / 2)

/-- The CRC-32 register run over bytes. -/
def crc32Run : List Byte → Nat → Nat
  | [], c => c
  | b :: bs, c => crc32Run bs (crc32Bits 8 (c ^^^ b.toNat))

/-- CRC-32 with the IEEE 802.3 polynomial (R285, R334). -/
def crc32 (bs : List Byte) : Nat := crc32Run bs 0xFFFFFFFF ^^^ 0xFFFFFFFF

end Sys2Proof

namespace Sys2Proof.Crypto

/-- Byte strings combined by exclusive or, as long as the shorter. -/
def xorB (a b : List Byte) : List Byte := List.zipWith (· ^^^ ·) a b

/-- A string's value, most significant byte first, and the bytes of a value in that order. -/
def ofBe (bs : List Byte) : Nat := leNat bs.reverse
@[inherit_doc ofBe] def toBe (k n : Nat) : List Byte := (leBytes k n).reverse

/-- A string cut into blocks of k bytes, the last perhaps shorter; `fuel` bounds their number. -/
def blocks (k : Nat) : Nat → List Byte → List (List Byte)
  | 0, _ => []
  | fuel + 1, bs => if bs.isEmpty then [] else bs.take k :: blocks k fuel (bs.drop k)

/-! ## SHA-256 and HMAC -/

/-- The round constants of SHA-256. -/
def shaK : List Nat :=
  [0x428a2f98, 0x71374491, 0xb5c0fbcf, 0xe9b5dba5, 0x3956c25b, 0x59f111f1, 0x923f82a4, 0xab1c5ed5,
   0xd807aa98, 0x12835b01, 0x243185be, 0x550c7dc3, 0x72be5d74, 0x80deb1fe, 0x9bdc06a7, 0xc19bf174]
  ++ [0xe49b69c1, 0xefbe4786, 0x0fc19dc6, 0x240ca1cc, 0x2de92c6f, 0x4a7484aa, 0x5cb0a9dc, 0x76f988da,
   0x983e5152, 0xa831c66d, 0xb00327c8, 0xbf597fc7, 0xc6e00bf3, 0xd5a79147, 0x06ca6351, 0x14292967]
  ++ [0x27b70a85, 0x2e1b2138, 0x4d2c6dfc, 0x53380d13, 0x650a7354, 0x766a0abb, 0x81c2c92e, 0x92722c85,
   0xa2bfe8a1, 0xa81a664b, 0xc24b8b70, 0xc76c51a3, 0xd192e819, 0xd6990624, 0xf40e3585, 0x106aa070]
  ++ [0x19a4c116, 0x1e376c08, 0x2748774c, 0x34b0bcb5, 0x391c0cb3, 0x4ed8aa4a, 0x5b9cca4f, 0x682e6ff3,
   0x748f82ee, 0x78a5636f, 0x84c87814, 0x8cc70208, 0x90befffa, 0xa4506ceb, 0xbef9a3f7, 0xc67178f2]

/-- A 32-bit word turned right. -/
def ror (n x : Nat) : Nat := (x / 2 ^ n + x * 2 ^ (32 - n)) % 2 ^ 32

/-- The message schedule, latest word first, lengthened by some words. -/
def shaSched : Nat → List Nat → List Nat
  | 0, ws => ws
  | k + 1, ws =>
    let a := ws.getD 14 0
    let b := ws.getD 1 0
    let s0 := ror 7 a ^^^ ror 18 a ^^^ (a / 2 ^ 3)
    let s1 := ror 17 b ^^^ ror 19 b ^^^ (b / 2 ^ 10)
    shaSched k ((ws.getD 15 0 + s0 + ws.getD 6 0 + s1) % 2 ^ 32 :: ws)

/-- One round on the eight working words. -/
def shaRound (v : List Nat) (kw : Nat × Nat) : List Nat :=
  match v with
  | [a, b, c, d, e, f, g, h] =>
    let s1 := ror 6 e ^^^ ror 11 e ^^^ ror 25 e
    let ch := (e &&& f) ^^^ ((2 ^ 32 - 1 - e) &&& g)
    let t1 := h + s1 + ch + kw.1 + kw.2
    let s0 := ror 2 a ^^^ ror 13 a ^^^ ror 22 a
    let maj := (a &&& b) ^^^ (a &&& c) ^^^ (b &&& c)
    [(t1 + s0 + maj) % 2 ^ 32, a, b, c, (d + t1) % 2 ^ 32, e, f, g]
  | _ => v

/-- A block of 64 bytes taken into the hash. -/
def shaBlock (h : List Nat) (bs : List Byte) : List Nat :=
  let ws := (shaSched 48 ((blocks 4 16 bs).map ofBe).reverse).reverse
  let v := (shaK.zip ws).foldl shaRound h
  List.zipWith (fun x y => (x + y) % 2 ^ 32) h v

/-- SHA-256. -/
def sha256 (m : List Byte) : List Byte :=
  let pad := (119 - m.length % 64) % 64
  let x := m ++ [(0x80 : Byte)] ++ List.replicate pad (0 : Byte) ++ toBe 8 (8 * m.length)
  let h0 := [0x6a09e667, 0xbb67ae85, 0x3c6ef372, 0xa54ff53a, 0x510e527f, 0x9b05688c, 0x1f83d9ab, 0x5be0cd19]
  ((blocks 64 (x.length / 64) x).foldl shaBlock h0).flatMap (toBe 4)

/-- HMAC-SHA-256 of a message under a key. -/
def hmac (key m : List Byte) : List Byte :=
  let k := (if 64 < key.length then sha256 key else key)
  let k := k ++ List.replicate (64 - k.length) (0 : Byte)
  sha256 (k.map (· ^^^ 0x5C) ++ sha256 (k.map (· ^^^ 0x36) ++ m))

/-! ## AES -/

/-- The S-box. -/
def sbox : List Nat :=
  [0x63, 0x7c, 0x77, 0x7b, 0xf2, 0x6b, 0x6f, 0xc5, 0x30, 0x01, 0x67, 0x2b, 0xfe, 0xd7, 0xab, 0x76,
   0xca, 0x82, 0xc9, 0x7d, 0xfa, 0x59, 0x47, 0xf0, 0xad, 0xd4, 0xa2, 0xaf, 0x9c, 0xa4, 0x72, 0xc0]
  ++ [0xb7, 0xfd, 0x93, 0x26, 0x36, 0x3f, 0xf7, 0xcc, 0x34, 0xa5, 0xe5, 0xf1, 0x71, 0xd8, 0x31, 0x15,
   0x04, 0xc7, 0x23, 0xc3, 0x18, 0x96, 0x05, 0x9a, 0x07, 0x12, 0x80, 0xe2, 0xeb, 0x27, 0xb2, 0x75]
  ++ [0x09, 0x83, 0x2c, 0x1a, 0x1b, 0x6e, 0x5a, 0xa0, 0x52, 0x3b, 0xd6, 0xb3, 0x29, 0xe3, 0x2f, 0x84,
   0x53, 0xd1, 0x00, 0xed, 0x20, 0xfc, 0xb1, 0x5b, 0x6a, 0xcb, 0xbe, 0x39, 0x4a, 0x4c, 0x58, 0xcf]
  ++ [0xd0, 0xef, 0xaa, 0xfb, 0x43, 0x4d, 0x33, 0x85, 0x45, 0xf9, 0x02, 0x7f, 0x50, 0x3c, 0x9f, 0xa8,
   0x51, 0xa3, 0x40, 0x8f, 0x92, 0x9d, 0x38, 0xf5, 0xbc, 0xb6, 0xda, 0x21, 0x10, 0xff, 0xf3, 0xd2]
  ++ [0xcd, 0x0c, 0x13, 0xec, 0x5f, 0x97, 0x44, 0x17, 0xc4, 0xa7, 0x7e, 0x3d, 0x64, 0x5d, 0x19, 0x73,
   0x60, 0x81, 0x4f, 0xdc, 0x22, 0x2a, 0x90, 0x88, 0x46, 0xee, 0xb8, 0x14, 0xde, 0x5e, 0x0b, 0xdb]
  ++ [0xe0, 0x32, 0x3a, 0x0a, 0x49, 0x06, 0x24, 0x5c, 0xc2, 0xd3, 0xac, 0x62, 0x91, 0x95, 0xe4, 0x79,
   0xe7, 0xc8, 0x37, 0x6d, 0x8d, 0xd5, 0x4e, 0xa9, 0x6c, 0x56, 0xf4, 0xea, 0x65, 0x7a, 0xae, 0x08]
  ++ [0xba, 0x78, 0x25, 0x2e, 0x1c, 0xa6, 0xb4, 0xc6, 0xe8, 0xdd, 0x74, 0x1f, 0x4b, 0xbd, 0x8b, 0x8a,
   0x70, 0x3e, 0xb5, 0x66, 0x48, 0x03, 0xf6, 0x0e, 0x61, 0x35, 0x57, 0xb9, 0x86, 0xc1, 0x1d, 0x9e]
  ++ [0xe1, 0xf8, 0x98, 0x11, 0x69, 0xd9, 0x8e, 0x94, 0x9b, 0x1e, 0x87, 0xe9, 0xce, 0x55, 0x28, 0xdf,
   0x8c, 0xa1, 0x89, 0x0d, 0xbf, 0xe6, 0x42, 0x68, 0x41, 0x99, 0x2d, 0x0f, 0xb0, 0x54, 0xbb, 0x16]

/-- A byte through the S-box, and back. -/
def sub (b : Byte) : Byte := BitVec.ofNat 8 (sbox.getD b.toNat 0)
@[inherit_doc sub] def unsub (b : Byte) : Byte := BitVec.ofNat 8 (sbox.findIdx fun x => decide (x = b.toNat))

/-- Twice a byte in the field of AES, and its products with 2 to 3 and 9 to 14 by the bits of the factor. -/
def dbl8 (b : Byte) : Byte := (b <<< 1) ^^^ (if b.msb then 0x1B else 0)
@[inherit_doc dbl8] def mul8 (k : Nat) (b : Byte) : Byte :=
  (if k % 2 = 1 then b else 0) ^^^ (if k / 2 % 2 = 1 then dbl8 b else 0) ^^^ (if k / 4 % 2 = 1 then dbl8 (dbl8 b) else 0)
    ^^^ (if k / 8 % 2 = 1 then dbl8 (dbl8 (dbl8 b)) else 0)

/-- A state of 16 bytes, column by column, reordered. -/
def pick (st : List Byte) (ix : List Nat) : List Byte := ix.map fun i => st.getD i 0

/-- The rows shifted, and shifted back. -/
def shiftRows (st : List Byte) : List Byte := pick st [0, 5, 10, 15, 4, 9, 14, 3, 8, 13, 2, 7, 12, 1, 6, 11]
@[inherit_doc shiftRows] def unshiftRows (st : List Byte) : List Byte := pick st [0, 13, 10, 7, 4, 1, 14, 11, 8, 5, 2, 15, 12, 9, 6, 3]

/-- Each column multiplied by the circulant matrix of four factors. -/
def mixCols (k0 k1 k2 k3 : Nat) : List Byte → List Byte
  | a :: b :: c :: d :: r =>
    (mul8 k0 a ^^^ mul8 k1 b ^^^ mul8 k2 c ^^^ mul8 k3 d) :: (mul8 k3 a ^^^ mul8 k0 b ^^^ mul8 k1 c ^^^ mul8 k2 d)
      :: (mul8 k2 a ^^^ mul8 k3 b ^^^ mul8 k0 c ^^^ mul8 k1 d) :: (mul8 k1 a ^^^ mul8 k2 b ^^^ mul8 k3 c ^^^ mul8 k0 d)
      :: mixCols k0 k1 k2 k3 r
  | _ => []

/-- 2 to the k in the field of AES. -/
def rcon : Nat → Byte
  | 0 => 1
  | k + 1 => dbl8 (rcon k)

/-- The key schedule, latest word first, lengthened by some words; `nk` words of key, the next word's number. -/
def keyWords (nk : Nat) : Nat → Nat → List (List Byte) → List (List Byte)
  | 0, _, ws => ws
  | k + 1, i, ws =>
    let t := ws.headD []
    let t := if i % nk = 0 then xorB ((t.drop 1 ++ t.take 1).map sub) [rcon (i / nk - 1), 0, 0, 0]
      else if 6 < nk ∧ i % nk = 4 then t.map sub else t
    keyWords nk k (i + 1) (xorB t (ws.getD (nk - 1) []) :: ws)

/-- The round keys of a key of 16 or 32 bytes, first to last. -/
def roundKeys (key : List Byte) : List (List Byte) :=
  let nk := key.length / 4
  let ws := (keyWords nk (28 + 3 * nk) nk (blocks 4 nk key).reverse).reverse
  blocks 16 (7 + nk) ws.flatten

/-- The rounds after the first key, to the last. -/
def encRounds (st : List Byte) : List (List Byte) → List Byte
  | [] => st
  | [k] => xorB (shiftRows (st.map sub)) k
  | k :: ks => encRounds (xorB (mixCols 2 3 1 1 (shiftRows (st.map sub))) k) ks

/-- AES of a block under a key of 16 or 32 bytes. -/
def aesEnc (key b : List Byte) : List Byte :=
  match roundKeys key with
  | k :: ks => encRounds (xorB b k) ks
  | [] => b

/-- The inverse rounds, from the round keys last to first. -/
def decRounds (st : List Byte) : List (List Byte) → List Byte
  | [] => st
  | [k] => xorB ((unshiftRows st).map unsub) k
  | k :: ks => decRounds (mixCols 14 11 13 9 (xorB ((unshiftRows st).map unsub) k)) ks

/-- AES backwards. -/
def aesDec (key b : List Byte) : List Byte :=
  match (roundKeys key).reverse with
  | k :: ks => decRounds (xorB b k) ks
  | [] => b

/-! ## CMAC and SIV -/

/-- Twice a block in the field of CMAC. -/
def dbl (b : List Byte) : List Byte :=
  let n := ofBe b
  toBe 16 (((2 * n) % 2 ^ 128) ^^^ (if 2 ^ 127 ≤ n then 0x87 else 0))

/-- A block of zeros. -/
def zero16 : List Byte := List.replicate 16 0

/-- A string shorter than a block, ended by a 1 bit and zeros. -/
def pad16 (x : List Byte) : List Byte := x ++ [(0x80 : Byte)] ++ List.replicate (15 - x.length) (0 : Byte)

/-- AES-CMAC of a message. -/
def cmac (key m : List Byte) : List Byte :=
  let k1 := dbl (aesEnc key zero16)
  let n := max 1 (ceilDiv m.length 16)
  let last := m.drop (16 * (n - 1))
  let last := if last.length = 16 then xorB last k1 else xorB (pad16 last) (dbl k1)
  let c := (blocks 16 (n - 1) m).foldl (fun c b => aesEnc key (xorB c b)) zero16
  aesEnc key (xorB c last)

/-- S2V of some strings and the plaintext. -/
def s2v (key : List Byte) (ad : List (List Byte)) (plain : List Byte) : List Byte :=
  let d := ad.foldl (fun d a => xorB (dbl d) (cmac key a)) (cmac key zero16)
  if 16 ≤ plain.length then
    let n := plain.length - 16
    cmac key (plain.take n ++ xorB (plain.drop n) d)
  else cmac key (xorB (dbl d) (pad16 plain))

/-- A string under AES in counter mode from a counter block. -/
def ctr (key : List Byte) : Nat → Nat → List Byte → List Byte
  | 0, _, _ => []
  | k + 1, c, m => if m.isEmpty then [] else xorB m (aesEnc key (toBe 16 (c % 2 ^ 128))) ++ ctr key k (c + 1) (m.drop 16)

/-- AES-SIV's counter mode from the synthetic initialisation vector, of which two bits are cleared. -/
def sivCtr (key v m : List Byte) : List Byte :=
  let top := fun (i : Nat) (b : Byte) => if i = 8 ∨ i = 12 then b &&& 0x7F else b
  ctr key (m.length / 16 + 1) (ofBe (v.mapIdx top)) m

/-- AES-SIV sealing under a key whose first half makes the vector and whose second half encrypts: the vector, then the ciphertext. -/
def sivSeal (key : List Byte) (ad : List (List Byte)) (plain : List Byte) : List Byte :=
  let h := key.length / 2
  let v := s2v (key.take h) ad plain
  v ++ sivCtr (key.drop h) v plain

/-- AES-SIV opening: the plaintext, or nothing where the vector is wrong. -/
def sivOpen (key : List Byte) (ad : List (List Byte)) (ct : List Byte) : Option (List Byte) :=
  let h := key.length / 2
  let v := ct.take 16
  let plain := sivCtr (key.drop h) v (ct.drop 16)
  if 16 ≤ ct.length ∧ s2v (key.take h) ad plain = v then some plain else none

/-! ## What the engine uses besides -/

/-- The steps of AES Key Wrap's unwrapping with counter t: the register A and the blocks, those still to be passed last to first. -/
def unwrapRound (key : List Byte) (n j : Nat) : Nat → List Byte × List (List Byte) → List Byte × List (List Byte)
  | 0, x => x
  | i + 1, (a, rs) =>
    let b := aesDec key (xorB a (toBe 8 (n * j + i + 1)) ++ rs.getD i [])
    unwrapRound key n j i (b.take 8, rs.set i (b.drop 8))

/-- AES Key Wrap's unwrapping: the key, or nothing where the integrity check fails. -/
def keyUnwrap (kek w : List Byte) : Option (List Byte) :=
  let n := w.length / 8 - 1
  let x := [5, 4, 3, 2, 1, 0].foldl (fun x j => unwrapRound kek n j n x) (w.take 8, blocks 8 n (w.drop 8))
  if x.1 = List.replicate 8 (0xA6 : Byte) then some x.2.flatten else none

/-- The key check value of a key: the first three bytes of the AES of a block of zeros, the first least significant (R279). -/
def kcv (key : List Byte) : Nat := leNat ((aesEnc key zero16).take 3)

/-- The ICV of a PTP message: HMAC-SHA-256 cut to 16 octets (ALG 0), or AES-CMAC (ALG 1) (R245). -/
def ptpIcv (alg : Nat) (key m : List Byte) : List Byte := if alg = 0 then (hmac key m).take 16 else cmac key m

end Sys2Proof.Crypto
end

