-- ==== Sys2Proof/Machine/State.lean ====
section
/-! DEFINITION. The state of the CT9620-BI as plain data: the register fields, the hidden state behind them,
the Time Core, the units, the host interface, the trouble log and the counters, the tables of the services,
host memory, what the engine has put out, and the queue of commands that wait. -/

namespace Sys2Proof.Machine

/-! ## Registers -/

/-- The access codes of R13. -/
inductive Acc where
  | ro | rw | w1c | rc | wo
  deriving DecidableEq, Repr

/-- One field of a register word: its address in the window, its place, its reset value, its access code, the
role its write effect needs (R14), whether CONFIG_LOCK leaves it open (R17), whether it is kept through resets
(R21), whether it is signed, and the range outside which a written value becomes the nearer end. -/
structure Fld where
  addr  : Nat
  lo    : Nat
  width : Nat
  reset : Nat
  acc   : Acc
  role  : Option Role := none
  live  : Bool := false
  kept  : Bool := false
  sgn   : Bool := false
  range : Option (Int × Int) := none

/-- The key a field is stored under: its word's address and its lowest bit. -/
def Fld.key (f : Fld) : Nat := f.addr * 32 + f.lo

/-- A register word of the map, or an array of them: base address, strides and counts, the fields of the
instance with given indices, the words its LO read latches (R470), whether it is served from a latch, and
whether its write is staged (R471). -/
structure RegT where
  base    : Nat
  stride1 : Nat
  count1  : Nat
  stride2 : Nat
  count2  : Nat
  fields  : Nat → Nat → List Fld
  latch   : List Nat := []
  latched : Bool := false
  staged  : Bool := false

/-- A single word. -/
def RegT.one (base : Nat) (fs : List Fld) : RegT := ⟨base, 4, 1, 4, 1, fun _ _ => fs, [], false, false⟩

/-- An array of words with one index. -/
def RegT.arr (base stride count : Nat) (fs : Nat → List Fld) : RegT :=
  ⟨base, stride, count, 4, 1, fun n _ => fs n, [], false, false⟩

/-- An array of words with two indices. -/
def RegT.arr2 (base stride1 count1 stride2 count2 : Nat) (fs : Nat → Nat → List Fld) : RegT :=
  ⟨base, stride1, count1, stride2, count2, fs, [], false, false⟩

/-! ## Time -/

/-- A step decided and not yet made (R63): its whole nanoseconds, the rest in units of 2^-52 ns, the TCLK edge of
the decision, and the time bus markers launched after that edge. -/
structure StepPlan where
  whole    : Int
  rest     : Int
  edge     : Nat
  launches : Nat
  deriving DecidableEq, Repr

/-- A leap offer refused (R70): its source (0 host, 1 GNSS), kind (1 announcement, 2 TAI - UTC), sign, L in seconds, and TAI - UTC. -/
structure LeapOffer where
  src  : Nat
  kind : Nat
  sign : Int
  l    : Int
  utc  : Int
  deriving DecidableEq, Repr

/-- The Time Core (R53, R57 to R63): the time in units of 2^-52 ns since the PTP epoch, the time at the edge before, the time advanced by
increments alone (the measure of durations), the TCLK edges counted, RATE_ADJ and RATE_TOTAL in units of 2^-48,
SLEW_REMAIN in units of 2^-52 ns, whether the slew was reduced at the last edge, the step that waits; the model's
rate r_m of the lap (R101), the sums over the edges of 25 × r_m and of 25 × RATE_ADJ, the departure from the shadow
since its anchor (R101), B_slew (R497), whether B_slew became 0 at an edge and 0x002D has not been raised, and the distinct leap
offers refused (R70). -/
structure TimeCore where
  time    : Nat
  prev    : Nat
  run     : Nat
  edges   : Nat
  rateAdj : Int
  rt      : Int
  slew    : Int
  reduced : Bool
  plan    : Option StepPlan
  ref     : Int
  refSum  : Int
  adjSum  : Int
  dep     : Int
  bSlew   : Int
  bDone   : Bool
  offers  : List LeapOffer
  deriving DecidableEq, Repr

/-! ## Units -/

/-- The five states of R40, in the order of their codes in R411. -/
inductive UnitSt where
  | absent | disabled | enabled | fenced | resetting
  deriving DecidableEq, Repr

/-- One unit: its state, the fault cause of its last fence (R38), how many times running it was fenced within
1 s of UNIT_RESET_DONE (R46), the instant of its last UNIT_RESET_DONE, the level that fenced it (its own HID, or
the region's or die's), and the faults that wait. -/
structure UnitRec where
  st       : UnitSt
  cause    : Nat
  repeats  : Nat
  resetAt  : Option Nat
  fencedBy : Nat
  deriving DecidableEq, Repr

/-! ## Events, the trouble log, the counters -/

/-- One data item of an event: its size in bytes and its value (R375). -/
structure Item where
  size : Nat
  val  : Nat
  deriving DecidableEq, Repr

/-- The severities of R378. -/
inductive Sev where
  | info | warning | error | critical
  deriving DecidableEq, Repr

/-- An event as it is logged and recorded (R378, R420): sequence number, instant, code, unit, severity, side and
remoteness, role, TEB and traceability, data. -/
structure LogEntry where
  seq    : Nat
  ns     : Nat
  frac   : Nat
  code   : Nat
  hid    : Nat
  sev    : Sev
  side   : Nat
  remote : Bool
  role   : Nat
  teb    : Nat
  trace  : Nat
  items  : List Item
  deriving DecidableEq, Repr

/-- The trouble log (R419 to R422): its entries newest first, the next SEQ, the overwrites, the keeper's copy of
the last entries, and the entries kept from the run before. -/
structure Log where
  entries : List LogEntry
  nextSeq : Nat
  wraps   : Nat
  keeper  : List LogEntry
  prev    : List LogEntry
  prevOk  : Bool
  deriving DecidableEq, Repr

/-- A record queue of R400 other than the timestamp queues' contents: records held, oldest first. -/
structure EvtQueue where
  recs : List LogEntry
  lost : Nat
  deriving DecidableEq, Repr

/-- The performance counters (R414 to R418), by region × 8 + counter: value and value at the last photo-finish;
by region: saturation bits, elapsed base, elapsed at the last photo-finish, and whether a configuration changed
since the last dump; the words that came to the dump engine poisoned for the next dump, by address (R399). -/
structure Pmc where
  cnt     : AMap Nat Nat
  snap    : AMap Nat Nat
  sat     : AMap Nat Nat
  base    : AMap Nat Nat
  elSnap  : AMap Nat Nat
  changed : List Nat
  bad     : List Nat := []
  deriving DecidableEq, Repr

/-- A snapshot trigger that waits: the instant in units of 2^-16 ns, its source bit, the compare unit, the event
code, the command that asked, its address, and whether a step stands with it, for STEPPED (R63, R408). -/
structure PfTrig where
  at16 : Nat
  src  : Nat
  cmp  : Nat
  code : Nat
  cmd  : Option Ctx
  addr : Nat
  stepped : Bool
  deriving DecidableEq, Repr

/-- One snapshot record (R411) as its header and content words. -/
structure PfRec where
  hid     : Nat
  flags   : Nat
  st      : UnitSt
  seq     : Nat
  at16    : Nat
  content : List Nat
  deriving DecidableEq, Repr

/-- The photo-finish network (R407 to R413): triggers that wait, the snapshot memory, the units that have not
latched yet, the contents of fenced units at their fencing (R49), the flags behind PF_STATUS, the trigger in hand, and the words of its
records that arrive poisoned, by HID and number (R399). -/
structure Pf where
  trigs   : List PfTrig
  recs    : List PfRec
  unlatched : List Nat
  frozen  : AMap Nat (List Nat)
  busy    : Bool
  held    : Bool
  current : Option PfTrig
  bad     : List (Nat × Nat) := []
  deriving DecidableEq, Repr

/-! ## Host interface -/

/-- A ring command fetched and not completed (R381, R383). `arg` is what its running form waits on; a withheld
completion carries status, data, the journal sequence number it waits for, and the running instant since when (R341). -/
structure InFlight where
  ctx      : Ctx
  op       : Nat
  role     : Nat
  started  : Bool
  arg      : List Nat
  withheld : Option (Nat × Nat × Nat × Nat)
  deriving DecidableEq, Repr

/-- A completion (R377): ring, tag, status, data, and whether ABORT ended the command. -/
structure Done where
  ring    : Nat
  tag     : Nat
  status  : Nat
  data    : Nat
  byAbort : Bool
  deriving DecidableEq, Repr

/-- A completion that waits for D0, with the ring it goes to and its IRQ (R359). -/
structure HeldCpl where
  cpl  : Nat
  done : Done
  irq  : Bool
  deriving DecidableEq, Repr

/-- The host interface's hidden state: indices of the status block and of the doorbell block by ring, commands
in flight oldest first, completions newest first, entries written and not yet signalled by ring, vectors that
wait for the next status-block write, masked vectors and their pending bits, whether the status block is due,
its sequence number, and the words latched and staged by initiator class. -/
structure Hif where
  engIdx    : AMap Nat Nat
  hostIdx   : AMap Nat Nat
  inflight  : List InFlight
  done      : List Done
  unsignal  : AMap Nat Nat
  toSignal  : List Nat
  masked    : List Nat
  pbits     : List Nat
  stDirty   : Bool
  stSeq     : Nat
  pollEvery : Nat
  idlePolls : Nat
  latches   : AMap Nat Nat
  staged    : AMap Nat Nat
  hostUp    : Bool
  lastReset : Nat
  discards  : Nat
  rdata     : Nat
  d3hot     : Bool
  waiting   : List HeldCpl
  deriving DecidableEq, Repr

/-! ## Roles -/

/-- An open session (R435 to R438). -/
structure Session where
  role   : Nat
  ring   : Nat
  openAt : Nat
  lastAt : Nat
  deriving DecidableEq, Repr

/-- An outstanding challenge (R433). -/
structure Challenge where
  id    : Nat
  role  : Nat
  ring  : Nat
  nonce : List Byte
  madeAt : Nat
  deriving DecidableEq, Repr

/-- The roles' keys, sessions and challenges (R427 to R439): keys by role, sessions by number, the register
session, challenges oldest first, failure counts, the next CHALLENGE_ID. -/
structure Roles where
  keys       : AMap Nat (List Byte)
  sealed     : AMap Nat (List Byte)
  sessions   : AMap Nat Session
  regSession : Option Nat
  challenges : List Challenge
  fails      : AMap Nat Nat
  nextId     : Nat
  draws      : Nat
  deriving DecidableEq, Repr

/-- A key slot (R278, R279): usage, whether it came wrapped, its key, its KCV. -/
structure KeySlot where
  usage   : Nat
  wrapped : Bool
  key     : List Byte
  deriving DecidableEq, Repr

/-! ## Keeper and start-up -/

/-- The keeper store (R455): the time pair with its RTC count, the bound and traceability stored with it, the role keys, the
brown-out latch, the number of writes. Its other records are the kept register fields, the model's fits and the log's last entries,
which the state holds once, at their own places. -/
structure Keeper where
  time16   : Nat
  rtc      : Nat
  teb      : Nat
  trace    : Nat
  keys     : AMap Nat (List Byte)
  brownOut : Bool
  writes   : Nat
  deriving DecidableEq, Repr

/-- The boot control block and the fuses software can change (R458, R464): the preferred slot; the board record's fields that
TRIM_SET wrote, by their keys; the fuses as FUSE_WRITE left them, none where it wrote none; the length of the board record FW_UPDATE
wrote last, 0 for none. -/
structure Boot where
  preferred : Nat
  trims     : AMap Nat Nat
  fwSvn     : Option Nat
  revoked   : Option Nat
  record    : Nat
  deriving DecidableEq, Repr

/-- A point of time a measurement holds for (R85, R103): the running time and the TCLK edges at it, the sum of 25 × r_m, the sum of the
Time Core's steps in units of 2^-16 ns, and the Time Core time in units of 2^-16 ns. -/
structure Mark where
  run   : Nat
  edges : Nat
  ref   : Int
  steps : Int
  at16  : Nat
  deriving DecidableEq, Repr

/-! ## Twin -/

/-- A journal record (R340): its number, kind, originating role and side, the status it completed with on the
originating twin, the opcode, and its parameters in order. -/
structure JournalRec where
  seq    : Nat
  kind   : Nat
  role   : Nat
  side   : Nat
  result : Nat
  op     : Nat
  body   : List Int
  deriving DecidableEq, Repr

/-- The twin's hidden state: journal numbers sent, acknowledged by the partner, and applied from the partner; the
records kept of both journals (R354); records received and waiting for a lap boundary; the active's view of the
partner's SYNCED (R341); the last intact partner baton; the stamps of this lap's markers by pair, less the boundary,
in units of 2^-16 ns, and those of markers received by 2 × (LAP_NO modulo 2^24) + pair (R335); the HELLO last received on each pair, with the
receive delay (R333); and the boundary that this lap's measurement holds for (R103). -/
structure Twin where
  stateSeq   : Nat
  grantSeq   : Nat
  stateAck   : Nat
  grantAck   : Nat
  stateDone  : Nat
  grantDone  : Nat
  journal    : List JournalRec
  grants     : List JournalRec
  inbox      : List JournalRec
  partnerSynced : Bool
  baton      : Option Baton
  markTx     : AMap Nat Int
  markRx     : AMap Nat Int
  hello      : AMap Nat (Hello × Nat)
  mark       : Mark
  deriving DecidableEq, Repr

/-! ## Lanes and discipline -/

/-- The shadow a lane that failed the cross-check is held to (R102): its anchor's running ns, its TEB, whether that TEB waits for the end
of the lap, the copied parameters u_y, a_max and w, and what the Time Core had departed from it before the present shadow was anchored,
unit 2^-52 ns. -/
structure HeldShadow where
  at_  : Int
  teb  : Int
  wait : Bool
  uy   : Int
  amax : Int
  w    : Int
  dep  : Int
  deriving DecidableEq, Repr

/-- One measurement of a lane kept for its averages: the running time and the TCLK edges at it, the lane's offset in
units of 2^-16 ns unfolded and with the Time Core's steps taken out, and the sum of 25 × r_m up to it. -/
structure LanePt where
  run   : Nat
  edges : Nat
  u     : Int
  ref   : Int
  deriving DecidableEq, Repr

/-- What the selector keeps of a lane beside its registers (R85 to R101): whether its signal is present, whether it
was lost since the last lap boundary, the configuration last judged, a LANE_SET and a LANE_CLEAR that wait for the lap boundary, the measurements of AVG_WIN and
the samples of y_L of 10 × AVG_WIN, newest first, the last 64 residuals, the warning hurdles crossed now, when DRIFT set,
the source's uncertainty U_src, the cross-check's verdict that waits for the lap, the shadow it failed against (R102), A_dis held after an
episode (R100), the latest q_H with the sum and count of the second (R123), whether the source may be used (R125), and y_L, D_L and the
residual before their registers saturate, with the running time at which the history began. -/
structure LaneRec where
  up      : Bool := false
  los     : Bool := false
  cfg     : Option (Nat × Nat × Nat) := none
  changed : Bool := false
  clear   : Bool := false
  hist    : List LanePt := []
  ys      : List (Nat × Int) := []
  resids  : List Int := []
  warn    : Nat := 0
  driftAt : Nat := 0
  uSrc    : Nat := 0
  xfail   : Bool := false
  xpass   : Bool := false
  shadow  : Option HeldShadow := none
  jump    : Bool := false
  held    : Nat := 0
  q       : Option Int := none
  qSum    : Int := 0
  qCnt    : Nat := 0
  usable  : Bool := false
  y       : Int := 0
  d       : Int := 0
  res     : Int := 0
  since   : Nat := 0
  deriving DecidableEq, Repr

/-- A disagreement in progress (R99, R100): the two lanes, when it began, the lane an arbiter decided against, whether it
is the allowance of a forced lane a (R109), whose other party is the lane left or, as 16, the holdover prediction, and the A_dis it last
gave the SELECTED lane, unit 2^-8 ns. -/
structure Episode where
  a       : Nat
  b       : Nat
  since   : Nat
  loser   : Option Nat
  force   : Bool
  last    : Nat
  deriving DecidableEq, Repr

/-- A fit of R122: rate (unit 2^-48), drift (unit 2^-60 per s), t_fit as running time in ns and as LINEAR_NS, u_y (unit
2^-48), whether the drift was fitted, whether the fit was restored from the keeper, whether it was valid when it was stored (R121), and the records of
the history: instant in running ns and rate, newest first, with the number gathered since the reset. -/
structure Fit where
  rate     : Int := 0
  drift    : Int := 0
  at_      : Int := 0
  linAt    : Nat := 0
  uy       : Nat := 0
  fitted   : Bool := false
  restored : Bool := false
  whole    : Bool := false
  recs     : List (Nat × Int) := []
  count    : Nat := 0
  deriving DecidableEq, Repr

/-- The discipline logic's hidden state: the OCXO model and the atomic models by lane (R121 to R123). -/
structure Disc where
  ocxo : Fit
  atom : AMap Nat Fit
  deriving DecidableEq, Repr

/-! ## Time-interval measurement -/

/-- A measurement in hand (R146): its start stamp on the Time Core's scale and on the scale of its intervals, both in
units of 2^-16 ns, the steps made up to it, the intervals of its splits in units of 2^-10 ns with COINCIDENT, the STOP edges
lost in dead time during it, and the flags WARMING, STEPPED and SPARE gathered. -/
structure OpenMeas where
  start   : Nat
  scaled  : Int
  steps   : Int
  splits  : List (Int × Bool)
  dead    : Nat
  warming : Bool
  stepped : Bool
  spare   : Bool
  deriving DecidableEq, Repr

/-- A STOP stamp that waits for a start: the stamp on the heat's scale, the steps made by then, and whether the spare took it (R146, R148). -/
structure StopStamp where
  at_   : Int
  steps : Int
  spare : Bool
  deriving DecidableEq, Repr

/-- What a TDC lane keeps of its heat (R146 to R152): the measurement in hand, the STOP stamps that wait for a start, false starts since the last close, the last stamps of the two channels in
units of 2^-16 ns of nominal TCLK periods, and the statistics: x_1, S1, S2 and the extremes. -/
structure HeatRec where
  meas      : Option OpenMeas := none
  waiting   : List StopStamp := []
  falses    : Nat := 0
  lastStart : Option Int := none
  lastStop  : Option Int := none
  x1        : Int := 0
  s1        : Int := 0
  s2        : Int := 0
  mn        : Int := 0
  mx        : Int := 0
  deriving DecidableEq, Repr

/-- The TIM's hidden state: heats by TDC lane, the result memory by record number, whether it is full, the TDC lane
moved to serve a reference lane by its number (R156), the last 100 values of y_k newest first (R158), when each unit last
passed its check, the failed rotations running of each unit, and whether its staleness was reported (R155, R157). -/
structure Tim where
  heats   : AMap Nat HeatRec := []
  records : AMap Nat (List Byte) := []
  full    : Bool := false
  moved   : AMap Nat Nat := []
  warmRun : List Int := []
  calAt   : AMap Nat Nat := []
  fails   : AMap Nat Nat := []
  stale   : List Nat := []
  deriving DecidableEq, Repr

/-! ## Synthesis groups and outputs -/

/-- A frequency ramp (R167 to R169): the steps made and to make, whether f_ref rises, its start and its goal as NUM and
DEN, and whether an ABORT waits for the next follower tick (R384). -/
structure Ramp where
  made  : Nat
  total : Nat
  up    : Bool
  num0  : Nat
  den0  : Nat
  num1  : Nat
  den1  : Nat
  abort : Bool
  deriving DecidableEq, Repr

/-- What a lock window goes by (R173, R176): LOCK_TOL, UNLOCK_TOL, K, RELOCK_DELAY, HOLD_DEV. -/
structure LockCfg where
  tol   : Nat
  unl   : Nat
  k     : Nat
  delay : Nat
  dev   : Nat
  deriving DecidableEq, Repr

/-- A synthesis group's hidden state (R162 to R177): G in units of 2^-52 ns, the DDS phase φ in units of 1/(den × 10^9 × 2^52) cycles, f_ref
in use as a ratio num / den, a ramp's steps included, N in use, what the window in hand goes by where the registers have changed
since it began (R182), r_tick and
r_D, good windows running, ACQUIRE timeouts of the start, running ns of the last loss, failed attempts since it, whether
the track-and-hold was released in this attempt and where its ramp back stands (0 none or done, 1 waits for the follower
tick, 2 runs), whether the held frequency is beyond HOLD_DEV, and the ramp. -/
structure SynRec where
  g        : Int := 0
  phi      : Int := 0
  win      : Option LockCfg := none
  num      : Nat := 0
  den      : Nat := 1
  n        : Nat := 40
  rTick    : Int := 0
  rD       : Int := 0
  windows  : Nat := 0
  tries    : Nat := 0
  lossAt   : Nat := 0
  attempts : Nat := 0
  released : Bool := false
  back     : Nat := 0
  devOver  : Bool := false
  ramp     : Option Ramp := none
  deriving DecidableEq, Repr

/-- An alignment in hand (R196): JUMP or WALK, its RATE, E_n at acceptance in units of 2^-16 ns, the ideal edge of a pulse's JUMP, and of a
pulse the WIDTH and OFFSET set at acceptance, which it takes into use (R193). -/
structure Align where
  jump : Bool
  rate : Nat
  e0   : Int
  edge : Int
  width : Nat := 0
  ofs   : Int := 0
  deriving DecidableEq, Repr

/-- A clock or pulse output's hidden state (R170 to R172, R188 to R196): A_n in units of 2^-52 ns, the number of the next
edge, the time of the last edge, the time at which the pulse in hand ends, whether MISALIGNED was raised since the last alignment, WIDTH and OFFSET in use, the
running time (unit 2^-52 ns) of the last interpolator step, and the alignment in hand. -/
structure OutRec where
  a      : Int := 0
  next   : Int := 0
  last   : Int := 0
  active : Option Int := none
  warned : Bool := false
  width  : Nat := 0
  ofs    : Int := 0
  walkAt : Nat := 0
  align  : Option Align := none
  deriving DecidableEq, Repr

/-! ## GNSS baseband -/

/-- A channel's three loops (R215): the bandwidths of the carrier-aided second-order DLL in units of 0.01 Hz and of the third-order PLL in Hz, the
second-order FLL's in Hz where it assists, the early-late spacing in units of 10^-3 chip, and the ms they integrate over. -/
structure Loops where
  dll     : Nat
  pll     : Nat
  fll     : Option Nat
  spacing : Nat
  coh     : Nat
  deriving DecidableEq, Repr

/-- A channel's hidden state (R211 to R222): whether its search is blind, elevation and azimuth last known (-128 and 511
when not), when carrier lock began (running ns), the losses of carrier lock since the assignment, one since the last
epoch, and bit synchronisation; whether the signal was assigned on the strength of its satellite's L1 signal (R211); the orbit data's
prediction: Time Core less transmission in units of 2^-16 ns, its rate in units of 2^-48, and the Time Core time it holds for in units of 2^-16 ns
(R213); the code phase last known in units of 2^-24 chip, with the TCLK edge it holds for and the Doppler in units of 2^-8 Hz (R216); the sample
captured last when LOCK_TIME began; and the loops, while they run (R215). -/
structure ChanRec where
  blind   : Bool := false
  elev    : Int := -128
  azim    : Nat := 511
  lockAt  : Nat := 0
  slips   : Nat := 0
  slip    : Bool := false
  bitSync : Bool := false
  byTrack : Bool := false
  lag     : Int := 0
  rate    : Int := 0
  predAt  : Nat := 0
  code    : Nat := 0
  codeAt  : Nat := 0
  dopp    : Int := 0
  lockK   : Nat := 0
  loop    : Option Loops := none
  deriving DecidableEq, Repr

/-- An acquisition engine's search (R212, R213): the channel served, code and Doppler bins, the next cell, the cell to be
confirmed, and the prediction the window is centred on, in units of 2^-24 chip and of 2^-8 Hz. -/
structure AcqRec where
  ch      : Nat
  code    : Nat
  dopp    : Nat
  cell    : Nat
  confirm : Option Nat
  midCode : Nat
  midDopp : Int
  deriving DecidableEq, Repr

/-- A navigation record (R229): constellation, SVID, type, whether it was loaded, message type, LINEAR_NS of reception,
body. -/
structure NavRec where
  const  : Nat
  svid   : Nat
  typ    : Nat
  loaded : Bool
  msg    : Nat
  rx     : Nat
  body   : List Byte
  deriving DecidableEq, Repr

/-- A channel as latched at an epoch (R217, R222). -/
structure ChSnap where
  ch      : Nat
  st      : Nat
  sig     : Nat
  svid    : Nat
  code    : Bool
  carrier : Bool
  lockMs  : Nat
  slip    : Bool
  slips   : Nat
  bitSync : Bool
  fault   : Bool
  meas    : ChMeas
  deriving DecidableEq, Repr

/-- An epoch latched and not yet solved (R217, R218, R221): its number, instant, STEPPED, WARMING, RATE_TOTAL, the bands'
faults, the channels, the running time of the latch in ns (R214), MEAS_RATE, whether the position mode was SURVEY, and the latch edge as a
lane's measurement is dated by it (R103). -/
structure Latch where
  no      : Nat
  linear  : Nat
  frac    : Nat
  stepped : Bool
  warming : Bool
  rate    : Int
  faults  : Nat
  chans   : List ChSnap
  run     : Nat
  code    : Nat
  survey  : Bool
  mark    : Mark
  deriving DecidableEq, Repr

/-- The baseband's hidden state: channels, acquisition engines, the channels that wait for one, navigation records, the
epoch in hand, the epochs dropped since the last one written, the UTC data by satellite, the data last acted on, and the
survey's sums of the per-second positions and of their squares (R223). -/
structure Gnss where
  chans   : AMap Nat ChanRec := []
  acq     : AMap Nat AcqRec := []
  queue   : List Nat := []
  nav     : List NavRec := []
  latch   : Option Latch := none
  dropped : Nat := 0
  utc     : AMap (Nat × Nat) UtcData := []
  acted   : Option UtcData := none
  sx      : Int := 0
  sy      : Int := 0
  sz      : Int := 0
  sq      : Nat := 0
  deriving DecidableEq, Repr
/-! ## Client table -/

/-- A grant in the calendar (R290): its client, message type (0 Announce, 1 Sync, 2 Delay_Resp), instance, period, expiry as
LINEAR_NS, the TCLK edge it was last served at plus 1, and whether its request was verified; whether it waits for the transmit instant of its
GRANT, and the period and expiry of a renewal that waits for its own (R244). -/
structure CalRec where
  key    : CKey
  typ    : Nat
  inst   : Nat
  log    : Int
  expiry : Nat
  last   : Nat
  signed : Bool
  waits  : Bool := false
  next   : Option (Int × Nat) := none
  deriving DecidableEq, Repr

/-- The client table (R284 to R300): entries by slot, the index of their fingerprints by slot, the cache's slots, each with whether its entry was modified
since it was read, the slots whose bytes in DRAM fail their CHECK, the salt, the grant calendar; port buckets by port x 8 + class and the
auth bucket, each as tokens in units of 10^-9 and the running time of the last refill; rates and depths of the port buckets
in use this lap; this lap's demand and admitted charges by class; C in use. A bucket not listed is full. -/
structure Clt where
  entries  : AMap Nat CltEntry := []
  index    : AMap Nat Nat := []
  cache    : AMap Nat Bool := []
  bad      : List Nat := []
  salt     : List Byte := []
  calendar : List CalRec := []
  buckets  : AMap Nat (Nat × Nat) := []
  auth     : Option (Nat × Nat) := none
  rates    : AMap Nat (Nat × Nat) := []
  demand   : AMap Nat Nat := []
  admitted : AMap Nat Nat := []
  cap      : Option Nat := none
  deriving DecidableEq, Repr

/-! ## Ports and frames -/

/-- A PTP message to be sent (R237 to R250): messageType, instance, transport, unicast destination, sequenceId, logMessageInterval, the
timestamp it carries in ns and whether it is a promised one, correctionField (unit 2^-16 ns), TIME_BOUND as BOUND, TRACE, FLAGS
and LANE_TYPE, the SA that signs it, Announce body, negotiation TLVs, sequenceId and portIdentity of the request answered, the time it was
received at, and whether it leaves from IPV6_B. -/
structure PtpMsg where
  typ      : Nat
  inst     : Nat
  trans    : Nat
  dst      : Option CKey
  seq      : Nat
  log      : Int
  time     : Nat := 0
  promised : Bool := false
  corr     : Int := 0
  tlv      : Option (Nat × Nat × Nat × Nat) := none
  sa       : Option Nat := none
  body     : Option AnnounceBody := none
  neg      : List NegTlv := []
  req      : Option (Nat × Nat × Nat) := none
  turn     : Nat := 0
  fromB    : Bool := false
  deriving DecidableEq, Repr

/-- An NTP reply to be sent (R263 to R274): its client and the UDP port and own address it answers, header, the extension fields after it, whether the class is smeared, whether
it is a kiss packet, and for an NTS reply its promised time in ns and the root dispersion under the seal. -/
structure NtpMsg where
  dst   : CKey
  dport : Nat
  fromB : Bool
  hdr   : List Byte
  ext   : List Byte
  smear : Bool
  kiss  : Bool
  tp    : Option Nat
  disp  : Nat
  deriving DecidableEq, Repr

/-- The UDP header a message is sent under (R233, R240, R268): source and destination address, ports, length, checksum, and the octets of the
datagram after the message. -/
structure Udp where
  src   : Nat
  dst   : Nat
  sport : Nat
  dport : Nat
  len   : Nat
  sum   : Nat
  tail  : List Byte
  deriving DecidableEq, Repr

/-- How a message of a service is carried (R233): its destination address, where the spec gives it, its EtherType, and its UDP header over IP. -/
structure Carriage where
  mac   : Option Nat
  etype : Nat
  udp   : Option Udp
  deriving DecidableEq, Repr

/-- A host frame fetched from PKT_TX (R317, R379): its bytes, and the SEQ and TAG of a stamp asked for. -/
structure HostFrame where
  bytes : List Byte
  stamp : Option (Nat × Nat)
  deriving DecidableEq, Repr

/-- What a transmit FIFO holds. -/
inductive TxBody where
  | ptp (m : PtpMsg)
  | ntp (m : NtpMsg)
  | host (f : HostFrame)
  | esmc (code : Nat) (event : Bool)
  deriving DecidableEq, Repr

/-- A frame in a transmit FIFO (R316): its priority, the VLAN tag it is sent with (a host frame's is in its bytes), its content. -/
structure TxItem where
  prio : Nat
  tci  : Option Nat
  body : TxBody
  deriving DecidableEq, Repr

/-- A TSQ record that waits (R317). -/
structure TsqRec where
  seq    : Nat
  tag    : Nat
  status : Nat
  flags  : Nat
  stamp  : Nat
  bound  : Nat
  trace  : Nat
  lost   : Nat
  deriving DecidableEq, Repr

/-- A port's hidden state (R76, R309 to R325): the round trips of its last 256 good markers running, newest first, unit 2^-10 ns, whether its
last stamp was flagged, the frames in its FIFOs oldest first, NTS replies
held for their time, ends and beginnings of pauses by priority, the last pause naming an ignored priority, TSQ records that wait, records
lost since the last delivered, the running times (ms) of ESMC PDUs sent in the last second. -/
structure PortRec where
  trips    : List Nat := []
  flagged  : Bool := false
  fifo     : List TxItem := []
  held     : List TxItem := []
  pauseEnd : AMap Nat Nat := []
  pausedAt : AMap Nat Nat := []
  ignored  : AMap Nat Nat := []
  tsq      : List TsqRec := []
  tsqLost  : Nat := 0
  esmcSent : List Nat := []
  deriving DecidableEq, Repr

/-! ## PTP -/

/-- A foreign master an upstream hears (R251): portIdentity, address, running times of its last Announces newest first, the last one's
content. -/
structure Foreign where
  clock  : Nat
  portNo : Nat
  key    : CKey
  times  : List Nat
  body   : AnnounceBody
  deriving DecidableEq, Repr

/-- A PTP instance's hidden state (R236 to R255): sequence counters of Sync, Announce, Signaling and delay requests; the TCLK edges plus 1 at
which each was last sent at its boundary; by port + 4 × transport the delay request in the air with its transmit stamp, unit 2^-16 ns, 0 until it is sent; foreign masters, the parent, the last Sync's
t2 - t1 - c_s, delay measurements newest first, running times of the last offset and of the parent's last Announce, the last
TIME_BOUND believed, the LOS declared by its cause, the parent's class at the last Announce, and the grants got from configured masters by
master x 4 + message type as expiry running times (0 denied). -/
structure InstRec where
  seqSync  : Nat := 0
  seqAnn   : Nat := 0
  seqSig   : Nat := 0
  seqDelay : Nat := 0
  lastSync : Nat := 0
  lastAnn  : Nat := 0
  lastDly  : Nat := 0
  asked    : AMap Nat (Nat × Nat) := []
  foreign  : List Foreign := []
  parent   : Option (Nat × Nat) := none
  down     : Option Int := none
  delays   : List Int := []
  offAt    : Nat := 0
  annAt    : Nat := 0
  bound    : Option BoundTlv := none
  los      : Option Nat := none
  grants   : AMap Nat Nat := []
  deriving DecidableEq, Repr

/-- A GRANT withheld until the partner's baton acknowledges its record, and the running instant since when (R341). -/
structure HeldGrant where
  seq  : Nat
  since : Nat
  port : Nat
  tci  : Option Nat
  msg  : PtpMsg
  deriving DecidableEq, Repr

-- TYPES-END

/-! ## Hidden variables and deadlines -/

/-- The scalars of the engine that no register shows, each with the rule that names it. -/
inductive Var where
  /-- Data and instant of the last raising of 0x0720 + n, for the once-a-second limit (R405); 0 when never. -/
  | fabRaised (n : Nat)
  /-- Lines of the twin fence as sampled, A and B (R343). -/
  | fenceA | fenceB
  /-- The instant DRBG output began to be withheld, and of the last reseed (R443). -/
  | withheldAt | reseedAt
  /-- Health-test failures in the current second (R443). -/
  | healthFails
  /-- The lap in hand, LAP_NO (R87). -/
  | lapNo
  /-- Dump instants: the last one, in units of the period (R417), and dump entries lost (R418). -/
  | dumpLast | dumpLost
  /-- RTC count (R454), in units of 1/32,768 s. -/
  | rtcCount
  /-- The TCLK edge of the last time bus marker plus 1, the next SEQ, and what the last marker carried: TIME in units of 2^-32 ns, DELAY, RATE,
  and the step in ns that the marker before it announced, which it is launched with (R73, R74). -/
  | markerEdge | markerSeq | markerTime | markerDelay | markerRate | markerStep
  /-- The TCLK edge of the last lap boundary plus 1 (R59, R87). -/
  | lapEdge
  /-- Consecutive good markers of a port, and the instant it entered UNSURE (R76). -/
  | tbGood (p : Nat)
  | tbUnsureAt (p : Nat)
  /-- A port counter: what it read at a TCLK edge, unit 2^-52 ns, the edge, and the rate it has run at since, unit 2^-48: RATE fed forward and
  what the servo adds; the step announced to it, ns, and the instant of its own time at which it makes it, ns (R74). -/
  | portCtr (p : Nat) | portAt (p : Nat) | portRate (p : Nat) | portStep (p : Nat) | portStepAt (p : Nat)
  /-- A compare unit's period in units of 2^-16 ns, and whether it was armed late (R67, R68). -/
  | cmpPer (n : Nat)
  | cmpLate (n : Nat)
  /-- Source of the leap announcement: 0 host, 1 GNSS (R70). -/
  | leapSrc
  /-- The leap of the smear window: L in seconds, its sign, CURRENT before it (R72). -/
  | smearL | smearSign | smearBefore
  /-- The TCLK edge of the last step plus 1 (R63). -/
  | stepEdge
  /-- The sense window that last found A low, plus 1 (R344), and until when a SEIZE frame of the partner holds, running ns (R350, R351). -/
  | senseLow | partnerHold
  /-- The TCLK edge of the last baton sent plus 1, and that of the last due point (R339, R345). -/
  | batonEdge | dueEdge
  /-- Whether a RESYNC twin has applied its bulk image, plus the time it took in ms (R346). -/
  | imaged
  /-- Boundaries running without a usable two-way measurement, and whether this lap has one: 1 usable, 2 whole but from a partner that is
  not ACTIVE (R337). -/
  | marksMissed | markUsable
  /-- Whether the listening of R347 is over. -/
  | listened
  /-- S0 and G0 of a bulk transfer (R353). -/
  | bulkState | bulkGrant
  /-- Running instant of the last partner baton, in ns, and 1 once there was one (R348). -/
  | batonAt | batonSeen
  /-- Whether SYN_C lost lock in the lap in hand (R179, R337). -/
  | lapBadC
  /-- The die whose fault was raised: 1 + HID of the unit at fault; the fault cause of a region's last fence, and whether the installer had
  disabled the region by then (R46, R47). -/
  | dieFault (d : Nat) | regionCause (r : Nat) | regionOff (r : Nat)
  /-- How many of a record queue's oldest records came from a unit since fenced, and are delivered with a poison tag (R45). -/
  | rqPoison (q : Nat)
  /-- The sum of the Time Core's steps, unit 2^-16 ns (R85, R145). -/
  | stepSum
  /-- The forced lane plus 1, 0 for none (R108). -/
  | forcedLane
  /-- The lane named by WTR plus 1 (R97). -/
  | wtrLane
  /-- When B_slew last became non-zero, running ns; the lane SELECTED at the edge at which it last became 0, 0xFF for none, and the time
  taken until then in ms (R497). -/
  | bSlewAt | retLane | retMs
  /-- Whether the loop is frozen, with LINEAR_NS and the TEB at the freeze (R91, R127). -/
  | frozen | freezeAt | freezeTeb
  /-- Whether the loop has settled (R115), the last e (unit 2^-52 ns) and the running time of the last update (R119). -/
  | settled | lastE | lastUpdate
  /-- Whether a selection of this lap spent the step allowance (R115), and the kind of lane selected at the last lap:
  0 none, 1 FREQUENCY, 2 PHASE or TIME (R117, R130). -/
  | spentNow | hadSel
  /-- The shadow of R101: whether it is anchored, its instant as running ns, its TEB, whether the anchor waits for the lap's
  TEB. -/
  | shadowOn | shadowAt | shadowTeb | shadowWait
  /-- CAL_SEQ (R132), and the lane that last gave the bound its phase plus 1. -/
  | calSeq | phaseLane
  /-- T0 as LINEAR_NS and TEB0 of the anchor that a FREQUENCY lane's bound grows from, and whether a PHASE or TIME lane was ever selected
  since the package reset (R130). -/
  | freqT0 | freqTeb0 | hadPhase
  /-- The second in hand of the model: edges, sum of RATE_ADJ, running ns, and whether it has begun (R122). -/
  | secEdges | secAdj | secAt | secOn
  /-- Whether a lane that needs a TDC lane has none (R156). -/
  | tdcLost (n : Nat)
  /-- The nominal interval of PTP upstream measurements of a port, ns (R119). -/
  | upEvery (p : Nat)
  /-- The atomic source in use plus 1; 0 the OCXO model or none (R124). -/
  | holdSrc
  /-- The shadow's parameters, copied at its anchor as holdover's would be (R101). -/
  | shadowUy | shadowAmax | shadowW
  /-- Last raising of a TIM event for a TDC lane, running ns + 1 (R160). -/
  | timRaised (code k : Nat)
  /-- The unit in its calibration slot plus 1, the phase of the slot (1 shadowed, 2 handed over, 3 reconnected), and
  whether its check and its overlap passed (R154, R155); phase 4 is the overlap of a take-back (R156). Whether a step left the rotation out of
  alignment (R154). -/
  | calUnit | calPhase | calOk | calSkew
  /-- The unit plus 1 that finishes the measurement of a TDC lane's heat before its work passes on (R156), and the edges since a TDC lane
  stamped one for its reference lane (R140). -/
  | tdcLeaving (k : Nat) | tdcEdges (k : Nat)
  /-- When WARMING was set, and the snapshot of the second in hand: lane plus 1, edges, running time, offset, and whether the
  run is broken; the last span formed plus 1 (R158, R160). -/
  | warmAt | warmLane | warmEdges | warmRun | warmOff | warmBroken | warmSpan
  /-- The TCLK edge of the last follower tick plus 1 (R59, R165). -/
  | tickEdge
  /-- The instant of the last ideal edge a TOD unit has sent a message for, unit 2^-16 ns, whether it was fenced since it was last ENABLED, and
  its message count (R199, R204). -/
  | todLast (k : Nat) | todFrom (k : Nat) | todSeq (k : Nat)
  /-- The Time Core time of the last two rising edges of the sample clock and the stamp of the sample captured last, unit 2^-52 ns (R205, R206). -/
  | sclkAt | sclkWas | capStamp
  /-- The epoch series' last number (R217), the sample-clock edge that latches an epoch besides plus 1 and whether a step passed one (R217, R218), the
  baseband's start (R214), the second of the last
  assignment (R211), the millisecond of the last sample check (R208), a band's bad and good milliseconds running (R208), the
  second last surveyed (R223). -/
  | epochLast | epochOwed | epochStep | gnssStart | assignSec | sliMs | sliBad (b : Nat) | sliGood (b : Nat) | surveySec
  /-- Last raising of an NTP failure event, running ns + 1 (R282). -/
  | ntpRaised (n : Nat)
  /-- Last raising of a port's event 0x0420 + n, running ns + 1 (R329), and its transmitted ESMC code when it last
  changed (R325). -/
  | portRaised (p n : Nat) | esmcCode (p : Nat)
  /-- The instant of the last measurement the loop took, unit 2^-16 ns (R119, R263). -/
  | refAt
  /-- The kiss bucket: what is missing to full, unit 10^-9 packets, and the running time of that (R269). -/
  | kodUsed | kodAt
  /-- Last raising of a PTP event for an instance or port, running ns + 1 (R247, R250, R256), and whether an SA's
  taking over of transmissions is noted (R248). -/
  | ptpRaised (n k : Nat) | saOn (i : Nat)
  /-- The instance from which the rotation of skipped messages goes on (R298). -/
  | skipTurn
  /-- 1 + the side of origin while a record of the partner's journal is applied (R52). -/
  | originSide
  /-- A request for configuration alone is out (R342, R353). -/
  | cfgWanted
  /-- The last stamp of a TDC lane, unit 2^-16 ns (R412). -/
  | tdcStamp (k : Nat)
  /-- The instant of a dump a step caused, unit 2^-16 ns; 0 for none (R417). -/
  | dumpStep
  /-- Where the second of healthFails began (R443). -/
  | healthFrom
  /-- 1 + the instant of the last status block write, running ns (R368). -/
  | stAt
  /-- Whether a write of HIF_KICK asks for a poll at once (R366). -/
  | kicked
  /-- Whether a domain is kept off by a command or by a failed training (R449, R460). -/
  | offCmd (d : Nat)
  /-- Whether a FIELD_RESET waits for its restoration (R451), and the kind of HIF_STATUS.STATE to return to. -/
  | fieldReset
  /-- 1 + the RECORD restored from the keeper, while no lane has given phase since the package reset (R459); 0 for none. -/
  | traceRec
  /-- Whether the keeper check of this start-up found the keeper's contents lost by its supply (R422). -/
  | keepLost
  /-- Self-test in hand (R462): the set that runs plus 1, the sets left as a mask, the first failing HID, whether ABORT asked it
  to end, whether a maker calibration runs (R157). -/
  | bistSet | bistLeft | bistFirst | bistAbort | calRun
  -- VAR-END
  deriving DecidableEq, Repr

/-- The deadlines of the engine, each an instant of Time Core running time in ns (R22). -/
inductive Tm where
  /-- MOD_TIME of a ring's first unsignalled entry (R385). -/
  | modTime (ring : Nat)
  /-- End of a role's lockout (R436). -/
  | lockout (role : Nat)
  /-- 1 ms without a good marker on a port (R76). -/
  | tbQuiet (p : Nat)
  /-- The fence has read RELEASED from then for 1 ms (R348), 64 laps without a cause of FENCE_FAULT (R343). -/
  | fenceReleased | fenceClear
  /-- SEIZE_HOLD's 8 ms (R350). -/
  | seizeHold
  /-- 4 laps for an acknowledgement of the oldest withheld record (R341). -/
  | journalAck
  /-- LISTEN laps after package reset, side B's further 32 laps (R347). -/
  | listen | sideB
  /-- A pair's 100 ms of TRAINING (R333). -/
  | training (n : Nat)
  /-- QUAL_TIME and DISQ_HOLD of a lane (R88), the return of a quantity within its warning hurdle (R92): 0 frequency, 1
  drift, 2 phase. -/
  | qual (n : Nat) | disq (n : Nat) | warn (n k : Nat)
  /-- WTR (R97), the end of a disagreement between two lanes, the first 16 higher where it is the allowance of a forced lane (R100, R109),
  the shadow's next anchor (R101). -/
  | wtr | agree (a b : Nat) | shadow
  /-- LOCK_TIME since the loop's error fell within LOCK_THRESH (R115), the model's next second (R122). -/
  | settle | modelSec
  /-- WINDOW of a TDC lane's measurement (R146), the calibration slot's next point (R154), the next second of R158. -/
  | tdcWindow (k : Nat) | cal
  /-- 20 ms of ACQUIRE (R175), RELOCK_DELAY or 1 s to the next re-lock attempt of a group (R175), 1 ms after SYN_D locks
  (R178). -/
  | acquire (g : Nat) | relock (g : Nat) | synHold
  /-- PULLIN_TIME and REACQ_TIME of a channel (R216), a dwell of an acquisition engine (R212), two epoch periods without a
  solution (R226). -/
  | pullIn (n : Nat) | reacq (n : Nat) | dwell (k : Nat) | solution
  /-- 2 ms in ALIGNING (R305), 5 s without a valid ESMC PDU (R324), the next information PDU (R325). -/
  | align (p : Nat) | esmcQuiet (p : Nat) | esmcInfo (p : Nat)
  /-- The next doorbell poll (R366). -/
  | poll
  /-- The end of the self-test set or of the maker calibration in hand (R157, R462). -/
  | bist
  -- TM-END
  deriving DecidableEq, Repr

/-! ## What the engine puts out -/

/-- What leaves the engine's balls and links, newest first in State.out. -/
inductive Out where
  /-- An MSI-X message of a vector (R385). -/
  | msi (vector : Nat)
  /-- A time bus marker (R73): SEQ, the launch edge's time in units of 2^-32 ns, RATE_TOTAL, TEB, TRACE, STATE,
  FLAGS, UTC word, STEP, smear offset in units of 2^-8 ns, DELAY; and its 416 bits as 52 bytes in the order they are sent. -/
  | marker (seq time32 : Nat) (rate : Int) (teb trace state flags utc : Nat) (step smear : Int) (delay : Nat) (bits : List Byte)
  /-- A journal record sent to the partner, and its frame's bytes with the CRC-32 (R334, R340). -/
  | journal (r : JournalRec) (frame : List Byte)
  /-- A baton sent, and its 256 bytes (R339). -/
  | baton (b : Baton) (frame : List Byte)
  /-- The marker of the Relay Link launched on a pair, with LAP_NO modulo 2^24, and its 64-bit block (R335). -/
  | relayMarker (pair lap block : Nat)
  /-- A HELLO sent on a pair, with the pair's fused receive delay (R333). -/
  | hello (pair : Nat) (h : Hello) (rxDelay : Nat)
  /-- What the fence drivers do from now on: true claims, false releases both lines (R343). -/
  | fence (claim : Bool)
  /-- A SEIZE frame (R350), a request for missing journal records from a number on (R354), a request for a bulk
  image (R353), and a bulk image sent, with the table of key check values (R280). -/
  | seizeFrame
  | journalAsk (grant : Bool) (fromSeq : Nat)
  | resyncReq (configOnly : Bool)
  | bulk (configOnly : Bool) (kcvs : List (Nat × Nat))
  /-- An edge of a pulse output (R194): LINEAR_NS of its ideal edge, E_n and QERR in units of 2^-16 ns; a 64-byte time-of-day
  message of a TOD unit (R199). -/
  | pulse (n linear : Nat) (e qerr : Int)
  /-- The driver of a clock (n) or pulse (16 + n) output takes a steady level (R185, R189), and a clock output begins to run with a first edge,
  which is to that level, under a standard and a strength (R188); each at an instant in units of 2^-16 ns. -/
  | drive (i : Nat) (high : Bool) (at_ : Int)
  | clock (n : Nat) (high : Bool) (std strength : Nat) (at_ : Int)
  | tod (k : Nat) (bytes : List Byte)
  /-- GNS_SCLK begins or ceases to run (R205). -/
  | sclk (runs : Bool)
  /-- Frames a port sends: PTP (with the message's octets) and NTP (header and fields), each with how it is carried, from the host, ESMC with its code; and a frame steered to the units that handle
  it: 0 MAC control, 1 ESMC, 2 an instance's PTP, 3 NTP (R312). -/
  | ptp (p : Nat) (tci : Option Nat) (m : PtpMsg) (wire : List Byte) (c : Carriage)
  | ntp (p : Nat) (tci : Option Nat) (dst : CKey) (bytes : List Byte) (c : Carriage)
  | hostFrame (p : Nat) (bytes : List Byte)
  | esmc (p code : Nat) (event : Bool)
  | steered (p unit inst : Nat)
  -- OUT-END
  deriving DecidableEq, Repr

/-! ## The whole -/

/-- The state of the engine. -/
structure State where
  /-- Register fields away from their reset values, by Fld.key. -/
  regs    : AMap Nat Nat
  /-- Hidden scalars away from 0. -/
  vars    : AMap Var Int
  /-- Running deadlines. -/
  timers  : AMap Tm Nat
  tc      : TimeCore
  /-- Units by HID; one not listed is ABSENT. -/
  units   : AMap Nat UnitRec
  log     : Log
  evtq    : EvtQueue
  pmc     : Pmc
  pf      : Pf
  hif     : Hif
  roles   : Roles
  keys    : AMap Nat KeySlot
  keeper  : Keeper
  boot    : Boot
  /-- The configuration shadow of R451: register fields by key, and the key slots. -/
  shadow  : AMap Nat Nat
  shadowKeys : AMap Nat KeySlot
  /-- Host memory in its canonical form: addresses rising, no byte of 0 listed. -/
  mem     : List Host.Cell
  out     : List Out
  /-- The model's own counter of free values taken (log entry 2). -/
  free    : Nat
  twin    : Twin
  lanes   : AMap Nat LaneRec
  episodes : List Episode
  disc    : Disc
  tim     : Tim
  syn     : AMap Nat SynRec
  /-- Clock outputs by number, pulse outputs by 16 + number. -/
  outs    : AMap Nat OutRec
  gnss    : Gnss
  /-- The partner's key check values by slot, as its journal and bulk image told them; a slot not listed is not known (R280). -/
  partnerKcv : AMap Nat Nat
  clt     : Clt
  ports   : AMap Nat PortRec
  insts   : AMap Nat InstRec
  heldGrants : List HeldGrant
  /-- Dump entries that wait in record queue 5, oldest first (R400, R418). -/
  dumpq   : List (List Byte)
  /-- The instants of a unit's parity errors within the last second, by HID, newest first (R398). -/
  parity  : AMap Nat (List Nat)
  -- STATE-END
  /-- The commands that wait, first in first out. -/
  pending : List Instr
  deriving DecidableEq, Repr

/-- Why a step stops with a fault: no meaning of this model does. Safe. -/
inductive Fault where
  /-- Raised by no meaning; kept so that the type has a name for a stop the spec would call a fault. Safe. -/
  | none
  deriving DecidableEq, Repr

/-- Why a step is refused. -/
inductive Refusal where
  /-- Raised by a Dispatch arm whose command has no meaning in the model yet. Safe: nothing is claimed of it. -/
  | notModelled (mnemonic : String)
  deriving DecidableEq, Repr

/-- The engine right after a package reset is released, on a new part that has never run (R452, R457): every
register at its reset value, every unit ABSENT, KEEP and TCORE powered, start-up in KEEPER_CHECK. -/
def State.reset : State where
  regs := []
  vars := []
  timers := []
  tc := ⟨0, 0, 0, 0, 0, 0, 0, false, none, 0, 0, 0, 0, 0, false, []⟩
  units := []
  log := ⟨[], 0, 0, [], [], false⟩
  evtq := ⟨[], 0⟩
  pmc := ⟨[], [], [], [], [], [], []⟩
  pf := ⟨[], [], [], [], false, false, none, []⟩
  hif := ⟨[], [], [], [], [], [], List.range 32, [], false, 0, 4, 0, [], [], true, 0, 0, 0, false, []⟩
  roles := ⟨[], [], [], none, [], [], 0, 0⟩
  keys := []
  keeper := ⟨0, 0, 0, 0, [], false, 0⟩
  boot := ⟨0, [], none, none, 0⟩
  shadow := []
  shadowKeys := []
  mem := []
  out := []
  free := 0
  twin := ⟨0, 0, 0, 0, 0, 0, [], [], [], false, none, [], [], [], ⟨0, 0, 0, 0, 0⟩⟩
  lanes := []
  episodes := []
  disc := ⟨{}, []⟩
  tim := {}
  syn := []
  outs := []
  gnss := {}
  partnerKcv := []
  clt := {}
  ports := []
  insts := []
  heldGrants := []
  dumpq := []
  parity := []
  -- RESET-END
  pending := []

end Sys2Proof.Machine
end

