-- ==== Sys2Proof/Machine/RegMap.lean ====
section
/-! DEFINITION. The register map: one definition per field of every register the spec's field maps give
(address in the 16 MiB window, bit position, width, reset value, access code, role, range), named by the
spec's register and field names, and one table row per register word.
An index argument is the instance number the spec's table counts (lane, port, group, entry); a second one
is the inner index. A field whose reset column reads fused or board record reads an uninterpreted constant
of Config (R498); one whose column reads kept starts at the value of a new part (log entry 3). -/

namespace Sys2Proof.Machine

namespace Reg

/-- TCO_STATUS.STEP_ARMED: A step is allowed (R62) -/
def TCO_STATUS_STEP_ARMED : Fld :=
  { addr := 0x100000, lo := 0, width := 1, reset := 1, acc := .ro }
/-- TCO_STATUS.SLEWING: SLEW_REMAIN is not 0 -/
def TCO_STATUS_SLEWING : Fld :=
  { addr := 0x100000, lo := 1, width := 1, reset := 0, acc := .ro }
/-- TCO_STATUS.RATE_CLAMPED: RATE_ADJ is at ±RMAX -/
def TCO_STATUS_RATE_CLAMPED : Fld :=
  { addr := 0x100000, lo := 2, width := 1, reset := 0, acc := .ro }
/-- TCO_STATUS.SLEW_CLAMPED: The slew is reduced at this edge -/
def TCO_STATUS_SLEW_CLAMPED : Fld :=
  { addr := 0x100000, lo := 3, width := 1, reset := 0, acc := .ro }
/-- TCO_STATUS.LEAP_PENDING: A leap is announced -/
def TCO_STATUS_LEAP_PENDING : Fld :=
  { addr := 0x100000, lo := 4, width := 1, reset := 0, acc := .ro }
/-- TCO_STATUS.LEAP_COMMITTED: Within 43,200 s of L -/
def TCO_STATUS_LEAP_COMMITTED : Fld :=
  { addr := 0x100000, lo := 5, width := 1, reset := 0, acc := .ro }
/-- TCO_STATUS.LEAP_SIGN: 0: insertion; 1: deletion -/
def TCO_STATUS_LEAP_SIGN : Fld :=
  { addr := 0x100000, lo := 6, width := 1, reset := 0, acc := .ro }
/-- TCO_STATUS.SMEAR_ACTIVE: Inside the smear window of a committed leap, whatever SMEAR_ALLOW is (R72) -/
def TCO_STATUS_SMEAR_ACTIVE : Fld :=
  { addr := 0x100000, lo := 7, width := 1, reset := 0, acc := .ro }
/-- TCO_STATUS.TB_TRACKING: Bit p is 1 when PORT_p is TRACKING -/
def TCO_STATUS_TB_TRACKING : Fld :=
  { addr := 0x100000, lo := 8, width := 4, reset := 0, acc := .ro }
/-- TCO_STICKY.STEP_DONE: A step was made. Live, as are all bits of this register -/
def TCO_STICKY_STEP_DONE : Fld :=
  { addr := 0x100004, lo := 0, width := 1, reset := 0, acc := .w1c, role := some .operator, live := true }
/-- TCO_STICKY.RATE_CLAMP_HIT: RATE_ADJ was clamped -/
def TCO_STICKY_RATE_CLAMP_HIT : Fld :=
  { addr := 0x100004, lo := 1, width := 1, reset := 0, acc := .w1c, role := some .operator, live := true }
/-- TCO_STICKY.SLEW_CLAMP_HIT: The slew was reduced -/
def TCO_STICKY_SLEW_CLAMP_HIT : Fld :=
  { addr := 0x100004, lo := 2, width := 1, reset := 0, acc := .w1c, role := some .operator, live := true }
/-- TCO_STICKY.LEAP_CONFLICT: An announcement was refused -/
def TCO_STICKY_LEAP_CONFLICT : Fld :=
  { addr := 0x100004, lo := 3, width := 1, reset := 0, acc := .w1c, role := some .operator, live := true }
/-- TCO_STICKY.CMP_LATE: A compare was armed in the past -/
def TCO_STICKY_CMP_LATE : Fld :=
  { addr := 0x100004, lo := 4, width := 1, reset := 0, acc := .w1c, role := some .operator, live := true }
/-- TCO_STICKY.CMP_STEPPED: A step passed a compare target -/
def TCO_STICKY_CMP_STEPPED : Fld :=
  { addr := 0x100004, lo := 5, width := 1, reset := 0, acc := .w1c, role := some .operator, live := true }
/-- TCO_STICKY.SLEW_RANGE: A correction was refused -/
def TCO_STICKY_SLEW_RANGE : Fld :=
  { addr := 0x100004, lo := 6, width := 1, reset := 0, acc := .w1c, role := some .operator, live := true }
/-- TCO_STICKY.TB_UNSURE_SEEN: Bit p: PORT_p entered UNSURE -/
def TCO_STICKY_TB_UNSURE_SEEN : Fld :=
  { addr := 0x100004, lo := 8, width := 4, reset := 0, acc := .w1c, role := some .operator, live := true }
/-- TCO_EVT_EN.EN: Live. One bit per event (R78):; [0]: 0x0010; [1]: 0x0011; [2]: 0x0012; [3]: 0x0013; [4]: 0x0014; [5]: 0x0015; [6]: 0x0016; [7]: 0x0017; [8]: 0x0018; [9]: 0x0410; [10]: 0x0411; [11]: 0x0412 -/
def TCO_EVT_EN_EN : Fld :=
  { addr := 0x100008, lo := 0, width := 12, reset := 0xfff, acc := .rw, role := some .installer, live := true }
/-- TCO_CTRL.LEAP_SRC: 0b00: GNSS_FIRST; 0b01: HOST_ONLY; 0b10, 0b11: treated as GNSS_FIRST -/
def TCO_CTRL_LEAP_SRC : Fld :=
  { addr := 0x10000c, lo := 0, width := 2, reset := 0, acc := .rw, role := some .installer }
/-- TCO_CTRL.SMEAR_ALLOW: 0: no class is smeared, whatever its setting -/
def TCO_CTRL_SMEAR_ALLOW : Fld :=
  { addr := 0x10000c, lo := 2, width := 1, reset := 1, acc := .rw, role := some .installer }
/-- STEP_THRESH.THRESH: Unit 1 ns, 0 to 1,000,000,000. A larger value is written as 1,000,000,000 -/
def STEP_THRESH_THRESH : Fld :=
  { addr := 0x100010, lo := 0, width := 30, reset := 0x3e8, acc := .rw, role := some .installer, range := some (0, 1000000000) }
/-- TIME_SEC_LO.SEC_LO: SECONDS[31:0]; read latches as in R56 -/
def TIME_SEC_LO_SEC_LO : Fld :=
  { addr := 0x100020, lo := 0, width := 32, reset := 0, acc := .ro }
/-- TIME_SEC_HI.SEC_HI: SECONDS[47:32] -/
def TIME_SEC_HI_SEC_HI : Fld :=
  { addr := 0x100024, lo := 0, width := 16, reset := 0, acc := .ro }
/-- TIME_NS.NS: NANOSECONDS -/
def TIME_NS_NS : Fld :=
  { addr := 0x100028, lo := 0, width := 30, reset := 0, acc := .ro }
/-- TIME_FRAC.FRAC: Unit 2^-32 ns -/
def TIME_FRAC_FRAC : Fld :=
  { addr := 0x10002c, lo := 0, width := 32, reset := 0, acc := .ro }
/-- LINEAR_LO.LIN_LO: LINEAR_NS[31:0], unit 1 ns; a read is always fresh and latches LINEAR_HI and LINEAR_FRAC (R56) -/
def LINEAR_LO_LIN_LO : Fld :=
  { addr := 0x100030, lo := 0, width := 32, reset := 0, acc := .ro }
/-- LINEAR_HI.LIN_HI: LINEAR_NS[63:32] -/
def LINEAR_HI_LIN_HI : Fld :=
  { addr := 0x100034, lo := 0, width := 32, reset := 0, acc := .ro }
/-- LINEAR_FRAC.LIN_FRAC: Unit 2^-16 ns (R55) -/
def LINEAR_FRAC_LIN_FRAC : Fld :=
  { addr := 0x100038, lo := 0, width := 16, reset := 0, acc := .ro }
/-- RATE_ADJ_LO.RA_LO: RATE_ADJ[31:0], unit 2^-48 -/
def RATE_ADJ_LO_RA_LO : Fld :=
  { addr := 0x100040, lo := 0, width := 32, reset := 0, acc := .ro }
/-- RATE_ADJ_HI.RA_HI: RATE_ADJ[47:32], signed -/
def RATE_ADJ_HI_RA_HI : Fld :=
  { addr := 0x100044, lo := 0, width := 16, reset := 0, acc := .ro }
/-- RATE_TOTAL_LO.RT_LO: RATE_TOTAL[31:0], unit 2^-48 -/
def RATE_TOTAL_LO_RT_LO : Fld :=
  { addr := 0x100048, lo := 0, width := 32, reset := 0, acc := .ro }
/-- RATE_TOTAL_HI.RT_HI: RATE_TOTAL[47:32], signed -/
def RATE_TOTAL_HI_RT_HI : Fld :=
  { addr := 0x10004c, lo := 0, width := 16, reset := 0, acc := .ro }
/-- SLEW_LIMIT_LO.SL_LO: SLEW_LIMIT[31:0], unit 2^-48. A value outside 28,147 to 28,147,497,671 is written as the nearer end -/
def SLEW_LIMIT_LO_SL_LO : Fld :=
  { addr := 0x100050, lo := 0, width := 32, reset := 0x2af31e, acc := .rw, role := some .installer }
/-- SLEW_LIMIT_HI.SL_HI: SLEW_LIMIT[47:32] -/
def SLEW_LIMIT_HI_SL_HI : Fld :=
  { addr := 0x100054, lo := 0, width := 16, reset := 0, acc := .rw, role := some .installer }
/-- SLEW_REMAIN_LO.SR_LO: Unit 2^-32 ns -/
def SLEW_REMAIN_LO_SR_LO : Fld :=
  { addr := 0x100058, lo := 0, width := 32, reset := 0, acc := .ro }
/-- SLEW_REMAIN_HI.SR_HI: Signed -/
def SLEW_REMAIN_HI_SR_HI : Fld :=
  { addr := 0x10005c, lo := 0, width := 32, reset := 0, acc := .ro }
/-- STEP_AT_LO.SA_LO: LINEAR_NS of the last step edge, before the step (R63) -/
def STEP_AT_LO_SA_LO : Fld :=
  { addr := 0x100060, lo := 0, width := 32, reset := 0, acc := .ro }
/-- STEP_AT_HI.SA_HI -/
def STEP_AT_HI_SA_HI : Fld :=
  { addr := 0x100064, lo := 0, width := 32, reset := 0, acc := .ro }
/-- STEP_SIZE_LO.SS_LO: Last step, unit 1 ns -/
def STEP_SIZE_LO_SS_LO : Fld :=
  { addr := 0x100068, lo := 0, width := 32, reset := 0, acc := .ro }
/-- STEP_SIZE_HI.SS_HI: Signed -/
def STEP_SIZE_HI_SS_HI : Fld :=
  { addr := 0x10006c, lo := 0, width := 32, reset := 0, acc := .ro }
/-- UTC_OFFSET.CURRENT: Signed seconds -/
def UTC_OFFSET_CURRENT : Fld :=
  { addr := 0x100070, lo := 0, width := 16, reset := 0, acc := .ro, kept := true }
/-- UTC_OFFSET.NEXT: Signed seconds -/
def UTC_OFFSET_NEXT : Fld :=
  { addr := 0x100070, lo := 16, width := 16, reset := 0, acc := .ro, kept := true }
/-- LEAP_AT_LO.LA_LO: L as LINEAR_NS -/
def LEAP_AT_LO_LA_LO : Fld :=
  { addr := 0x100074, lo := 0, width := 32, reset := 0, acc := .ro, kept := true }
/-- LEAP_AT_HI.LA_HI -/
def LEAP_AT_HI_LA_HI : Fld :=
  { addr := 0x100078, lo := 0, width := 32, reset := 0, acc := .ro, kept := true }
/-- SMEAR_LO.SM_LO: Current smear offset, unit 2^-32 ns -/
def SMEAR_LO_SM_LO : Fld :=
  { addr := 0x100080, lo := 0, width := 32, reset := 0, acc := .ro }
/-- SMEAR_HI.SM_HI: Signed -/
def SMEAR_HI_SM_HI : Fld :=
  { addr := 0x100084, lo := 0, width := 32, reset := 0, acc := .ro }
/-- CMP_CTRL.MODE: 0b00: OFF; 0b01: ONE_SHOT; 0b10: PERIODIC -/
def CMP_CTRL_MODE (n : Nat) : Fld :=
  { addr := 0x100100 + 0x40 * n, lo := 0, width := 2, reset := 0, acc := .ro }
/-- CMP_CTRL.ACT_EVENT: Raise 0x0017 on firing -/
def CMP_CTRL_ACT_EVENT (n : Nat) : Fld :=
  { addr := 0x100100 + 0x40 * n, lo := 2, width := 1, reset := 0, acc := .ro }
/-- CMP_CTRL.ACT_PF: Trigger a photo-finish on firing -/
def CMP_CTRL_ACT_PF (n : Nat) : Fld :=
  { addr := 0x100100 + 0x40 * n, lo := 3, width := 1, reset := 0, acc := .ro }
/-- CMP_CTRL.ARMED -/
def CMP_CTRL_ARMED (n : Nat) : Fld :=
  { addr := 0x100100 + 0x40 * n, lo := 8, width := 1, reset := 0, acc := .ro }
/-- CMP_CTRL.LATE -/
def CMP_CTRL_LATE (n : Nat) : Fld :=
  { addr := 0x100100 + 0x40 * n, lo := 9, width := 1, reset := 0, acc := .ro }
/-- CMP_CTRL.STEPPED -/
def CMP_CTRL_STEPPED (n : Nat) : Fld :=
  { addr := 0x100100 + 0x40 * n, lo := 10, width := 1, reset := 0, acc := .ro }
/-- CMP_CTRL.SKIPPED: Members passed by the last step or by a late arming, the member fired for included (R67, R68), saturating at 65,535 -/
def CMP_CTRL_SKIPPED (n : Nat) : Fld :=
  { addr := 0x100100 + 0x40 * n, lo := 16, width := 16, reset := 0, acc := .ro }
/-- CMP_TGT_LO.TGT: Target, LINEAR_NS and 2^-16 ns fraction -/
def CMP_TGT_LO_TGT (n : Nat) : Fld :=
  { addr := 0x100104 + 0x40 * n, lo := 0, width := 32, reset := 0, acc := .ro }
/-- CMP_TGT_HI.TGT: Target, LINEAR_NS and 2^-16 ns fraction -/
def CMP_TGT_HI_TGT (n : Nat) : Fld :=
  { addr := 0x100108 + 0x40 * n, lo := 0, width := 32, reset := 0, acc := .ro }
/-- CMP_TGT_FRAC.TGT: Target, LINEAR_NS and 2^-16 ns fraction -/
def CMP_TGT_FRAC_TGT (n : Nat) : Fld :=
  { addr := 0x10010c + 0x40 * n, lo := 0, width := 16, reset := 0, acc := .ro }
/-- CMP_PER_LO.PER: Period, 1 µs to 2^40 ns -/
def CMP_PER_LO_PER (n : Nat) : Fld :=
  { addr := 0x100110 + 0x40 * n, lo := 0, width := 32, reset := 0, acc := .ro }
/-- CMP_PER_HI.PER: Period, 1 µs to 2^40 ns -/
def CMP_PER_HI_PER (n : Nat) : Fld :=
  { addr := 0x100114 + 0x40 * n, lo := 0, width := 8, reset := 0, acc := .ro }
/-- CMP_PER_FRAC.PER: Period, 1 µs to 2^40 ns -/
def CMP_PER_FRAC_PER (n : Nat) : Fld :=
  { addr := 0x100118 + 0x40 * n, lo := 0, width := 16, reset := 0, acc := .ro }
/-- CMP_FIRED_LO.FIRED: Last fire instant -/
def CMP_FIRED_LO_FIRED (n : Nat) : Fld :=
  { addr := 0x10011c + 0x40 * n, lo := 0, width := 32, reset := 0, acc := .ro }
/-- CMP_FIRED_HI.FIRED: Last fire instant -/
def CMP_FIRED_HI_FIRED (n : Nat) : Fld :=
  { addr := 0x100120 + 0x40 * n, lo := 0, width := 32, reset := 0, acc := .ro }
/-- CMP_FIRED_FRAC.FIRED: Last fire instant -/
def CMP_FIRED_FRAC_FIRED (n : Nat) : Fld :=
  { addr := 0x100124 + 0x40 * n, lo := 0, width := 16, reset := 0, acc := .ro }
/-- TB_STATUS.STATE: Two bits per port, PORT_0 in [1:0]:; 0b00: CALIBRATING; 0b01: TRACKING; 0b10: UNSURE; 0b11: OFF -/
def TB_STATUS_STATE : Fld :=
  { addr := 0x100800, lo := 0, width := 8, reset := 0, acc := .ro }
/-- TB_DELAY.DELAY: Unit 2^-10 ns (R75) -/
def TB_DELAY_DELAY : Fld :=
  { addr := 0x100804, lo := 0, width := 16, reset := 0, acc := .ro }
/-- TB_ASYM.ASYM: Signed, unit 2^-10 ns -/
def TB_ASYM_ASYM : Fld :=
  { addr := 0x100808, lo := 0, width := 16, reset := Config.fused ((0x100808) * 32) % 2 ^ 16, acc := .ro }
/-- TB_ERR.ERR: Last port error, signed, unit 2^-10 ns -/
def TB_ERR_ERR (n : Nat) : Fld :=
  { addr := 0x100810 + 0x10 * n, lo := 0, width := 16, reset := 0, acc := .ro }
/-- TB_PEAK.PEAK: Largest magnitude of ERR since the last read -/
def TB_PEAK_PEAK (n : Nat) : Fld :=
  { addr := 0x100814 + 0x10 * n, lo := 0, width := 16, reset := 0, acc := .rc, live := true }
/-- TB_MISS.MISS: Markers missed or failing CRC -/
def TB_MISS_MISS (n : Nat) : Fld :=
  { addr := 0x100818 + 0x10 * n, lo := 0, width := 32, reset := 0, acc := .rc, live := true }
/-- TB_SKEW.SKEW: Signed, unit 2^-10 ns -/
def TB_SKEW_SKEW (n : Nat) : Fld :=
  { addr := 0x10081c + 0x10 * n, lo := 0, width := 16, reset := Config.fused ((0x10081c + 0x10 * n) * 32) % 2 ^ 16, acc := .ro }
/-- SEL_STATUS.CUR: Selected lane, valid when CUR_VALID is 1 -/
def SEL_STATUS_CUR : Fld :=
  { addr := 0x110000, lo := 0, width := 4, reset := 0, acc := .ro }
/-- SEL_STATUS.CUR_VALID: A lane is selected -/
def SEL_STATUS_CUR_VALID : Fld :=
  { addr := 0x110000, lo := 4, width := 1, reset := 0, acc := .ro }
/-- SEL_STATUS.FORCED: The selection is forced -/
def SEL_STATUS_FORCED : Fld :=
  { addr := 0x110000, lo := 5, width := 1, reset := 0, acc := .ro }
/-- SEL_STATUS.PARTNER_SEL: The PARTNER lane is selected (standby) -/
def SEL_STATUS_PARTNER_SEL : Fld :=
  { addr := 0x110000, lo := 6, width := 1, reset := 0, acc := .ro }
/-- SEL_STATUS.WTR_RUNNING -/
def SEL_STATUS_WTR_RUNNING : Fld :=
  { addr := 0x110000, lo := 7, width := 1, reset := 0, acc := .ro }
/-- SEL_STATUS.NO_FIT: No lane is selected -/
def SEL_STATUS_NO_FIT : Fld :=
  { addr := 0x110000, lo := 8, width := 1, reset := 0, acc := .ro }
/-- SEL_STATUS.DISAGREE_HOLD: No lane is selected because of R99 -/
def SEL_STATUS_DISAGREE_HOLD : Fld :=
  { addr := 0x110000, lo := 9, width := 1, reset := 0, acc := .ro }
/-- SEL_STATUS.BUILDOUT_OPEN: B_open is not 0 -/
def SEL_STATUS_BUILDOUT_OPEN : Fld :=
  { addr := 0x110000, lo := 10, width := 1, reset := 0, acc := .ro }
/-- SEL_STATUS.WTR_LANE: Lane whose WTR is running -/
def SEL_STATUS_WTR_LANE : Fld :=
  { addr := 0x110000, lo := 12, width := 4, reset := 0, acc := .ro }
/-- SEL_STATUS.WTR_REMAIN: Unit 1 s -/
def SEL_STATUS_WTR_REMAIN : Fld :=
  { addr := 0x110000, lo := 16, width := 12, reset := 0, acc := .ro }
/-- SEL_CTRL.REVERTIVE: 0: non-revertive; 1: revertive -/
def SEL_CTRL_REVERTIVE : Fld :=
  { addr := 0x110004, lo := 0, width := 1, reset := 0, acc := .rw, role := some .installer }
/-- SEL_TIMERS.WTR: Unit 1 s, 0 to 3,600 -/
def SEL_TIMERS_WTR : Fld :=
  { addr := 0x110008, lo := 0, width := 12, reset := 0x12c, acc := .rw, role := some .installer, range := some (0, 3600) }
/-- SEL_TIMERS.AVG_WIN: Unit 1 s, 10 to 10,000 -/
def SEL_TIMERS_AVG_WIN : Fld :=
  { addr := 0x110008, lo := 16, width := 14, reset := 0x64, acc := .rw, role := some .installer, range := some (10, 10000) }
/-- SEL_AGREE.AGREE: Agreement hurdle, unit 2^-48; reset is 1 × 10^-10 -/
def SEL_AGREE_AGREE : Fld :=
  { addr := 0x11000c, lo := 0, width := 32, reset := 0x6df3, acc := .rw, role := some .installer }
/-- SEL_XCHK.XCHK_SPAN: Unit 1 s, 600 to 65,535 -/
def SEL_XCHK_XCHK_SPAN : Fld :=
  { addr := 0x110010, lo := 0, width := 16, reset := 0xe10, acc := .rw, role := some .installer, range := some (600, 65535) }
/-- SEL_EVT_EN.EN: Live.; [0]: 0x0021; [1]: 0x002C; [2]: 0x002D; [3]: 0x002E; [4]: 0x002F -/
def SEL_EVT_EN_EN : Fld :=
  { addr := 0x110014, lo := 0, width := 5, reset := 0x1f, acc := .rw, role := some .installer, live := true }
/-- SEL_SWITCHES.COUNT: Switches since last read -/
def SEL_SWITCHES_COUNT : Fld :=
  { addr := 0x110018, lo := 0, width := 32, reset := 0, acc := .rc, live := true }
/-- SEL_LAST_AT_LO.AT_LO: LINEAR_NS of the last switch; read latches HI -/
def SEL_LAST_AT_LO_AT_LO : Fld :=
  { addr := 0x110020, lo := 0, width := 32, reset := 0, acc := .ro }
/-- SEL_LAST_AT_HI.AT_HI -/
def SEL_LAST_AT_HI_AT_HI : Fld :=
  { addr := 0x110024, lo := 0, width := 32, reset := 0, acc := .ro }
/-- SEL_LAST_LANES.FROM -/
def SEL_LAST_LANES_FROM : Fld :=
  { addr := 0x110028, lo := 0, width := 4, reset := 0, acc := .ro }
/-- SEL_LAST_LANES.FROM_VALID: 0: switched from none -/
def SEL_LAST_LANES_FROM_VALID : Fld :=
  { addr := 0x110028, lo := 4, width := 1, reset := 0, acc := .ro }
/-- SEL_LAST_LANES.TO -/
def SEL_LAST_LANES_TO : Fld :=
  { addr := 0x110028, lo := 8, width := 4, reset := 0, acc := .ro }
/-- SEL_LAST_LANES.TO_VALID: 0: switched to none -/
def SEL_LAST_LANES_TO_VALID : Fld :=
  { addr := 0x110028, lo := 12, width := 1, reset := 0, acc := .ro }
/-- SEL_BUILDOUT_LO.BO_LO: Build-out at the last switch, unit 2^-16 ns -/
def SEL_BUILDOUT_LO_BO_LO : Fld :=
  { addr := 0x110030, lo := 0, width := 32, reset := 0, acc := .ro }
/-- SEL_BUILDOUT_HI.BO_HI: Signed -/
def SEL_BUILDOUT_HI_BO_HI : Fld :=
  { addr := 0x110034, lo := 0, width := 32, reset := 0, acc := .ro }
/-- SEL_B_OPEN.B_OPEN: Unit 2^-8 ns, rounded up (R104) -/
def SEL_B_OPEN_B_OPEN : Fld :=
  { addr := 0x110038, lo := 0, width := 32, reset := 0, acc := .ro }
/-- LANE_CFG.SOURCE: As in R79 -/
def LANE_CFG_SOURCE (n : Nat) : Fld :=
  { addr := 0x110100 + 0x80 * n, lo := 0, width := 5, reset := 0, acc := .rw, role := some .installer }
/-- LANE_CFG.TYPE: 0b00: FREQUENCY; 0b01: PHASE; 0b10: TIME; 0b11: HOLDOVER -/
def LANE_CFG_TYPE (n : Nat) : Fld :=
  { addr := 0x110100 + 0x80 * n, lo := 5, width := 2, reset := 0, acc := .rw, role := some .installer }
/-- LANE_CFG.RANK: 1 highest to 15; 0 disabled -/
def LANE_CFG_RANK (n : Nat) : Fld :=
  { addr := 0x110100 + 0x80 * n, lo := 8, width := 4, reset := 0, acc := .rw, role := some .installer }
/-- LANE_CFG.XCHK_EN: Apply R101. Always applied for SOURCE 0x08 -/
def LANE_CFG_XCHK_EN (n : Nat) : Fld :=
  { addr := 0x110100 + 0x80 * n, lo := 12, width := 1, reset := 0, acc := .rw, role := some .installer }
/-- LANE_CFG.QL_MIN: SyncE lanes; 0x0 means no gate -/
def LANE_CFG_QL_MIN (n : Nat) : Fld :=
  { addr := 0x110100 + 0x80 * n, lo := 16, width := 4, reset := 0, acc := .rw, role := some .installer }
/-- LANE_NOMINAL.NOMINAL: Unit 2^-4 Hz (R80); reset is 10 MHz -/
def LANE_NOMINAL_NOMINAL (n : Nat) : Fld :=
  { addr := 0x110104 + 0x80 * n, lo := 0, width := 32, reset := 0x9896800, acc := .rw, role := some .installer }
/-- LANE_TIMERS.QUAL_TIME: Unit 1 s, 1 to 3,600 -/
def LANE_TIMERS_QUAL_TIME (n : Nat) : Fld :=
  { addr := 0x110108 + 0x80 * n, lo := 0, width := 12, reset := 0x3c, acc := .rw, role := some .installer, range := some (1, 3600) }
/-- LANE_TIMERS.DISQ_HOLD: Unit 1 s, 0 to 3,600; 0 means leave only by LANE_CLEAR -/
def LANE_TIMERS_DISQ_HOLD (n : Nat) : Fld :=
  { addr := 0x110108 + 0x80 * n, lo := 16, width := 12, reset := 0x258, acc := .rw, role := some .installer, range := some (0, 3600) }
/-- LANE_U.U: Installer uncertainty, unit 2^-8 ns; reset is 1,000 ns -/
def LANE_U_U (n : Nat) : Fld :=
  { addr := 0x11010c + 0x80 * n, lo := 0, width := 32, reset := 0x3e800, acc := .rw, role := some .installer }
/-- LANE_TRACE.RECORD: The installer's part of the traceability ID, composed as set out in Discipline, holdover and the time error bound -/
def LANE_TRACE_RECORD (n : Nat) : Fld :=
  { addr := 0x110110 + 0x80 * n, lo := 0, width := 16, reset := 0, acc := .rw, role := some .installer }
/-- FREQ_WARN.HURDLE: Unit 2^-48; reset is 10 ppb -/
def FREQ_WARN_HURDLE (n : Nat) : Fld :=
  { addr := 0x110114 + 0x80 * n, lo := 0, width := 32, reset := 0x2af31e, acc := .rw, role := some .installer }
/-- FREQ_LIMIT.HURDLE: Unit 2^-48; reset is 100 ppb -/
def FREQ_LIMIT_HURDLE (n : Nat) : Fld :=
  { addr := 0x110118 + 0x80 * n, lo := 0, width := 32, reset := 0x1ad7f2a, acc := .rw, role := some .installer }
/-- DRIFT_WARN.HURDLE: Unit 2^-60 per s; reset is 1 ppb per day -/
def DRIFT_WARN_HURDLE (n : Nat) : Fld :=
  { addr := 0x11011c + 0x80 * n, lo := 0, width := 32, reset := 0x3420, acc := .rw, role := some .installer }
/-- DRIFT_LIMIT.HURDLE: Unit 2^-60 per s; reset is 10 ppb per day -/
def DRIFT_LIMIT_HURDLE (n : Nat) : Fld :=
  { addr := 0x110120 + 0x80 * n, lo := 0, width := 32, reset := 0x20940, acc := .rw, role := some .installer }
/-- PHASE_WARN.HURDLE: Unit 2^-8 ns; reset is 100 ns -/
def PHASE_WARN_HURDLE (n : Nat) : Fld :=
  { addr := 0x110124 + 0x80 * n, lo := 0, width := 32, reset := 0x6400, acc := .rw, role := some .installer }
/-- PHASE_LIMIT.HURDLE: Unit 2^-8 ns; reset is 1,000 ns -/
def PHASE_LIMIT_HURDLE (n : Nat) : Fld :=
  { addr := 0x110128 + 0x80 * n, lo := 0, width := 32, reset := 0x3e800, acc := .rw, role := some .installer }
/-- LANE_EVT_EN.EN: Live. Bits [9:0] enable the events of LANE_STICKY bits [9:0]; bit [10] enables 0x0020 -/
def LANE_EVT_EN_EN (n : Nat) : Fld :=
  { addr := 0x11012c + 0x80 * n, lo := 0, width := 11, reset := 0x7ff, acc := .rw, role := some .installer, live := true }
/-- LANE_STATE.STATE: Encoded as in R88 -/
def LANE_STATE_STATE (n : Nat) : Fld :=
  { addr := 0x110130 + 0x80 * n, lo := 0, width := 3, reset := 0, acc := .ro }
/-- LANE_STATE.FORCED -/
def LANE_STATE_FORCED (n : Nat) : Fld :=
  { addr := 0x110130 + 0x80 * n, lo := 3, width := 1, reset := 0, acc := .ro }
/-- LANE_STATE.WARN: A warning hurdle is crossed now -/
def LANE_STATE_WARN (n : Nat) : Fld :=
  { addr := 0x110130 + 0x80 * n, lo := 4, width := 1, reset := 0, acc := .ro }
/-- LANE_STATE.DISAGREE_NOW: In an unresolved disagreement -/
def LANE_STATE_DISAGREE_NOW (n : Nat) : Fld :=
  { addr := 0x110130 + 0x80 * n, lo := 5, width := 1, reset := 0, acc := .ro }
/-- LANE_STATE.BUILDOUT_KEPT: A build-out is kept (R104) -/
def LANE_STATE_BUILDOUT_KEPT (n : Nat) : Fld :=
  { addr := 0x110130 + 0x80 * n, lo := 6, width := 1, reset := 0, acc := .ro }
/-- LANE_STATE.CAUSE: 0: none; 1: LOS; 2: FREQ_LIMIT; 3: DRIFT_LIMIT; 4: PHASE_LIMIT; 5: QL; 6: CONFIG; 7: DISAGREE; 8: PHASE_JUMP; 9: XCHK; 10: fenced; 11: rank 0 -/
def LANE_STATE_CAUSE (n : Nat) : Fld :=
  { addr := 0x110130 + 0x80 * n, lo := 8, width := 8, reset := 0, acc := .ro }
/-- LANE_STATE.TIMER: QUAL_TIME or DISQ_HOLD remaining, unit 1 s -/
def LANE_STATE_TIMER (n : Nat) : Fld :=
  { addr := 0x110130 + 0x80 * n, lo := 16, width := 16, reset := 0, acc := .ro }
/-- LANE_STICKY.LOS: Live, as are all bits of this register -/
def LANE_STICKY_LOS (n : Nat) : Fld :=
  { addr := 0x110134 + 0x80 * n, lo := 0, width := 1, reset := 0, acc := .w1c, role := some .operator, live := true }
/-- LANE_STICKY.FREQ_WARN -/
def LANE_STICKY_FREQ_WARN (n : Nat) : Fld :=
  { addr := 0x110134 + 0x80 * n, lo := 1, width := 1, reset := 0, acc := .w1c, role := some .operator, live := true }
/-- LANE_STICKY.FREQ_LIMIT -/
def LANE_STICKY_FREQ_LIMIT (n : Nat) : Fld :=
  { addr := 0x110134 + 0x80 * n, lo := 2, width := 1, reset := 0, acc := .w1c, role := some .operator, live := true }
/-- LANE_STICKY.DRIFT -/
def LANE_STICKY_DRIFT (n : Nat) : Fld :=
  { addr := 0x110134 + 0x80 * n, lo := 3, width := 1, reset := 0, acc := .w1c, role := some .operator, live := true }
/-- LANE_STICKY.DRIFT_LIMIT -/
def LANE_STICKY_DRIFT_LIMIT (n : Nat) : Fld :=
  { addr := 0x110134 + 0x80 * n, lo := 4, width := 1, reset := 0, acc := .w1c, role := some .operator, live := true }
/-- LANE_STICKY.PHASE_WARN -/
def LANE_STICKY_PHASE_WARN (n : Nat) : Fld :=
  { addr := 0x110134 + 0x80 * n, lo := 5, width := 1, reset := 0, acc := .w1c, role := some .operator, live := true }
/-- LANE_STICKY.PHASE_LIMIT -/
def LANE_STICKY_PHASE_LIMIT (n : Nat) : Fld :=
  { addr := 0x110134 + 0x80 * n, lo := 6, width := 1, reset := 0, acc := .w1c, role := some .operator, live := true }
/-- LANE_STICKY.PHASE_JUMP -/
def LANE_STICKY_PHASE_JUMP (n : Nat) : Fld :=
  { addr := 0x110134 + 0x80 * n, lo := 7, width := 1, reset := 0, acc := .w1c, role := some .operator, live := true }
/-- LANE_STICKY.DISAGREE -/
def LANE_STICKY_DISAGREE (n : Nat) : Fld :=
  { addr := 0x110134 + 0x80 * n, lo := 8, width := 1, reset := 0, acc := .w1c, role := some .operator, live := true }
/-- LANE_STICKY.QUAL_FAIL -/
def LANE_STICKY_QUAL_FAIL (n : Nat) : Fld :=
  { addr := 0x110134 + 0x80 * n, lo := 9, width := 1, reset := 0, acc := .w1c, role := some .operator, live := true }
/-- LANE_FOFF.FOFF: y_L, signed, unit 2^-48, saturating -/
def LANE_FOFF_FOFF (n : Nat) : Fld :=
  { addr := 0x110138 + 0x80 * n, lo := 0, width := 32, reset := 0, acc := .ro }
/-- LANE_DRIFT.DRIFT: D_L, signed, unit 2^-60 per s, saturating -/
def LANE_DRIFT_DRIFT (n : Nat) : Fld :=
  { addr := 0x11013c + 0x80 * n, lo := 0, width := 32, reset := 0, acc := .ro }
/-- LANE_OFFSET_LO.OFS_LO: Unit 2^-16 ns; read latches HI -/
def LANE_OFFSET_LO_OFS_LO (n : Nat) : Fld :=
  { addr := 0x110140 + 0x80 * n, lo := 0, width := 32, reset := 0, acc := .ro }
/-- LANE_OFFSET_HI.OFS_HI: Signed -/
def LANE_OFFSET_HI_OFS_HI (n : Nat) : Fld :=
  { addr := 0x110144 + 0x80 * n, lo := 0, width := 32, reset := 0, acc := .ro }
/-- LANE_RESID.RESID: Signed, unit 2^-8 ns, saturating -/
def LANE_RESID_RESID (n : Nat) : Fld :=
  { addr := 0x110148 + 0x80 * n, lo := 0, width := 32, reset := 0, acc := .ro }
/-- LANE_SIGMA.SIGMA: σ_res, unit 2^-8 ns -/
def LANE_SIGMA_SIGMA (n : Nat) : Fld :=
  { addr := 0x11014c + 0x80 * n, lo := 0, width := 32, reset := 0, acc := .ro }
/-- LANE_BUILDOUT_LO.BO_LO: Unit 2^-16 ns; read latches HI -/
def LANE_BUILDOUT_LO_BO_LO (n : Nat) : Fld :=
  { addr := 0x110150 + 0x80 * n, lo := 0, width := 32, reset := 0, acc := .ro }
/-- LANE_BUILDOUT_HI.BO_HI: Signed -/
def LANE_BUILDOUT_HI_BO_HI (n : Nat) : Fld :=
  { addr := 0x110154 + 0x80 * n, lo := 0, width := 32, reset := 0, acc := .ro }
/-- LANE_ALLOW.ALLOW: A_drift + A_dis, unit 2^-8 ns -/
def LANE_ALLOW_ALLOW (n : Nat) : Fld :=
  { addr := 0x110158 + 0x80 * n, lo := 0, width := 32, reset := 0, acc := .ro }
/-- LANE_QL.QL: Last received ESMC quality level -/
def LANE_QL_QL (n : Nat) : Fld :=
  { addr := 0x11015c + 0x80 * n, lo := 0, width := 4, reset := 0, acc := .ro }
/-- LANE_QL.QL_VALID: A valid ESMC message arrived within 5 s -/
def LANE_QL_QL_VALID (n : Nat) : Fld :=
  { addr := 0x11015c + 0x80 * n, lo := 4, width := 1, reset := 0, acc := .ro }
/-- LANE_QUAL_FAILS.COUNT: Qualification restarts since last read -/
def LANE_QUAL_FAILS_COUNT (n : Nat) : Fld :=
  { addr := 0x110160 + 0x80 * n, lo := 0, width := 32, reset := 0, acc := .rc, live := true }
/-- HOB_STATUS.STATE: Discipline state, as in R114 -/
def HOB_STATUS_STATE : Fld :=
  { addr := 0x150000, lo := 0, width := 3, reset := 0, acc := .ro }
/-- HOB_STATUS.MODEL_VALID: R121 -/
def HOB_STATUS_MODEL_VALID : Fld :=
  { addr := 0x150000, lo := 3, width := 1, reset := 0, acc := .ro }
/-- HOB_STATUS.ATOMIC_USE: An atomic source is in use -/
def HOB_STATUS_ATOMIC_USE : Fld :=
  { addr := 0x150000, lo := 4, width := 1, reset := 0, acc := .ro }
/-- HOB_STATUS.TEB_SAT: The TEB is saturated now -/
def HOB_STATUS_TEB_SAT : Fld :=
  { addr := 0x150000, lo := 5, width := 1, reset := 0, acc := .ro }
/-- HOB_STATUS.SETTLING: Lane selected, loop not settled -/
def HOB_STATUS_SETTLING : Fld :=
  { addr := 0x150000, lo := 6, width := 1, reset := 0, acc := .ro }
/-- HOB_STATUS.ANCHORED: The TEB follows R127 or R130 -/
def HOB_STATUS_ANCHORED : Fld :=
  { addr := 0x150000, lo := 7, width := 1, reset := 0, acc := .ro }
/-- HOB_STATUS.CC_DEFAULT: clockClass served in the default and SMPTE profiles -/
def HOB_STATUS_CC_DEFAULT : Fld :=
  { addr := 0x150000, lo := 8, width := 8, reset := 0xf8, acc := .ro }
/-- HOB_STATUS.CC_TELECOM: clockClass served in the G.8275 profiles -/
def HOB_STATUS_CC_TELECOM : Fld :=
  { addr := 0x150000, lo := 16, width := 8, reset := 0xf8, acc := .ro }
/-- HOB_STICKY.HOLDOVER_ENTERED: Live, as are all bits of this register -/
def HOB_STICKY_HOLDOVER_ENTERED : Fld :=
  { addr := 0x150004, lo := 0, width := 1, reset := 0, acc := .w1c, role := some .operator, live := true }
/-- HOB_STICKY.HOLDOVER_EXCEEDED -/
def HOB_STICKY_HOLDOVER_EXCEEDED : Fld :=
  { addr := 0x150004, lo := 1, width := 1, reset := 0, acc := .w1c, role := some .operator, live := true }
/-- HOB_STICKY.FREERUN_ENTERED -/
def HOB_STICKY_FREERUN_ENTERED : Fld :=
  { addr := 0x150004, lo := 2, width := 1, reset := 0, acc := .w1c, role := some .operator, live := true }
/-- HOB_STICKY.TEB_SAT -/
def HOB_STICKY_TEB_SAT : Fld :=
  { addr := 0x150004, lo := 3, width := 1, reset := 0, acc := .w1c, role := some .operator, live := true }
/-- HOB_STICKY.MODEL_RESET -/
def HOB_STICKY_MODEL_RESET : Fld :=
  { addr := 0x150004, lo := 4, width := 1, reset := 0, acc := .w1c, role := some .operator, live := true }
/-- HOB_STICKY.HOLD_SRC_LOST -/
def HOB_STICKY_HOLD_SRC_LOST : Fld :=
  { addr := 0x150004, lo := 5, width := 1, reset := 0, acc := .w1c, role := some .operator, live := true }
/-- HOB_STICKY.MODEL_VALID -/
def HOB_STICKY_MODEL_VALID : Fld :=
  { addr := 0x150004, lo := 6, width := 1, reset := 0, acc := .w1c, role := some .operator, live := true }
/-- HOB_EVT_EN.EN: Live. Bits [6:0] enable the events of HOB_STICKY bits [6:0]; bit [7] enables 0x0030 -/
def HOB_EVT_EN_EN : Fld :=
  { addr := 0x150008, lo := 0, width := 8, reset := 0xff, acc := .rw, role := some .installer, live := true }
/-- HOB_TEB.TEB: Unit 2^-8 ns -/
def HOB_TEB_TEB : Fld :=
  { addr := 0x15000c, lo := 0, width := 32, reset := 0xffffffff, acc := .ro }
/-- HOB_TRACE.TRACE: As in R132 -/
def HOB_TRACE_TRACE : Fld :=
  { addr := 0x150010, lo := 0, width := 32, reset := 0, acc := .ro }
/-- HOB_LOCK_HIST.SECONDS: Unit 1 s, saturating -/
def HOB_LOCK_HIST_SECONDS : Fld :=
  { addr := 0x150014, lo := 0, width := 32, reset := 0, acc := .ro, kept := true }
/-- HOB_LOOP_BW.BW_PT: PHASE and TIME lanes, unit 1 mHz, 1 to 1,000 -/
def HOB_LOOP_BW_BW_PT : Fld :=
  { addr := 0x150020, lo := 0, width := 16, reset := 0xa, acc := .rw, role := some .installer, range := some (1, 1000) }
/-- HOB_LOOP_BW.BW_F: FREQUENCY lanes, unit 1 mHz, 1 to 1,000 -/
def HOB_LOOP_BW_BW_F : Fld :=
  { addr := 0x150020, lo := 16, width := 16, reset := 0x64, acc := .rw, role := some .installer, range := some (1, 1000) }
/-- HOB_LOOP_DAMP.ZETA: Unit 1/64, 32 to 255 -/
def HOB_LOOP_DAMP_ZETA : Fld :=
  { addr := 0x150024, lo := 0, width := 8, reset := 0x2d, acc := .rw, role := some .installer, range := some (32, 255) }
/-- HOB_LOOP_DAMP.ACQ_BOOST: 1 to 16 -/
def HOB_LOOP_DAMP_ACQ_BOOST : Fld :=
  { addr := 0x150024, lo := 8, width := 8, reset := 8, acc := .rw, role := some .installer, range := some (1, 16) }
/-- HOB_LOCK.LOCK_THRESH: Unit 1 ns, 1 to 65,535 -/
def HOB_LOCK_LOCK_THRESH : Fld :=
  { addr := 0x150028, lo := 0, width := 16, reset := 0x64, acc := .rw, role := some .installer, range := some (1, 65535) }
/-- HOB_LOCK.LOCK_TIME: Unit 1 s, 1 to 3,600 -/
def HOB_LOCK_LOCK_TIME : Fld :=
  { addr := 0x150028, lo := 16, width := 16, reset := 0x3c, acc := .rw, role := some .installer, range := some (1, 3600) }
/-- HOB_LIMIT.HOLDOVER_LIMIT: Unit 2^-8 ns; the reset value is 1,000 ns -/
def HOB_LIMIT_HOLDOVER_LIMIT : Fld :=
  { addr := 0x15002c, lo := 0, width := 32, reset := 0x3e800, acc := .rw, role := some .installer }
/-- HOB_MODEL_WIN.WIN: Unit 1 s, 300 to 86,400 -/
def HOB_MODEL_WIN_WIN : Fld :=
  { addr := 0x150030, lo := 0, width := 17, reset := 0x3840, acc := .rw, role := some .installer, range := some (300, 86400) }
/-- HOB_NOM_LO.NOM_LO: Nominal correction [31:0], unit 2^-48 -/
def HOB_NOM_LO_NOM_LO : Fld :=
  { addr := 0x150034, lo := 0, width := 32, reset := 0, acc := .rw, role := some .installer }
/-- HOB_NOM_HI.NOM_HI: [47:32], signed; clamped as in R58 -/
def HOB_NOM_HI_NOM_HI : Fld :=
  { addr := 0x150038, lo := 0, width := 16, reset := 0, acc := .rw, role := some .installer }
/-- HOB_NOM_UY.UY: Unit 2^-48; the reset value is 1 ppm -/
def HOB_NOM_UY_UY : Fld :=
  { addr := 0x15003c, lo := 0, width := 32, reset := 0x10c6f7a1, acc := .rw, role := some .installer }
/-- HOB_OSC_CLASS.OCXO: Class code (R126) -/
def HOB_OSC_CLASS_OCXO : Fld :=
  { addr := 0x150040, lo := 0, width := 4, reset := 1, acc := .rw, role := some .installer }
/-- HOB_OSC_CLASS.ATOMIC: Class of every HOLDOVER lane -/
def HOB_OSC_CLASS_ATOMIC : Fld :=
  { addr := 0x150040, lo := 8, width := 4, reset := 3, acc := .rw, role := some .installer }
/-- OCXO_AMAX.AMAX: Unit 2^-60 per s -/
def OCXO_AMAX_AMAX : Fld :=
  { addr := 0x150044, lo := 0, width := 32, reset := 0xfa4, acc := .rw, role := some .installer }
/-- OCXO_W.W: Unit 2^-16 ns per √s -/
def OCXO_W_W : Fld :=
  { addr := 0x150048, lo := 0, width := 32, reset := 0x10000, acc := .rw, role := some .installer }
/-- OCXO_UYMIN.UYMIN: Unit 2^-48 -/
def OCXO_UYMIN_UYMIN : Fld :=
  { addr := 0x15004c, lo := 0, width := 32, reset := 0x36fa, acc := .rw, role := some .installer }
/-- ATOM_AMAX.AMAX: Unit 2^-60 per s -/
def ATOM_AMAX_AMAX : Fld :=
  { addr := 0x150050, lo := 0, width := 32, reset := 0x17, acc := .rw, role := some .installer }
/-- ATOM_W.W: Unit 2^-16 ns per √s -/
def ATOM_W_W : Fld :=
  { addr := 0x150054, lo := 0, width := 32, reset := 0x3334, acc := .rw, role := some .installer }
/-- ATOM_UYMIN.UYMIN: Unit 2^-48 -/
def ATOM_UYMIN_UYMIN : Fld :=
  { addr := 0x150058, lo := 0, width := 32, reset := 0x233, acc := .rw, role := some .installer }
/-- HOB_MODEL_RATE_LO.R_LO: Rate of the source in use at t_fit, unit 2^-48 (r_fit, or c_H for an atomic source); read latches HI -/
def HOB_MODEL_RATE_LO_R_LO : Fld :=
  { addr := 0x150080, lo := 0, width := 32, reset := 0, acc := .ro, kept := true }
/-- HOB_MODEL_RATE_HI.R_HI: Signed -/
def HOB_MODEL_RATE_HI_R_HI : Fld :=
  { addr := 0x150084, lo := 0, width := 16, reset := 0, acc := .ro, kept := true }
/-- HOB_MODEL_DRIFT.DRIFT: d_fit or d_H, signed, unit 2^-60 per s -/
def HOB_MODEL_DRIFT_DRIFT : Fld :=
  { addr := 0x150088, lo := 0, width := 32, reset := 0, acc := .ro, kept := true }
/-- HOB_MODEL_SRC.LANE: HOLDOVER lane, valid when ATOMIC is 1 -/
def HOB_MODEL_SRC_LANE : Fld :=
  { addr := 0x15008c, lo := 0, width := 4, reset := 0, acc := .ro, kept := true }
/-- HOB_MODEL_SRC.ATOMIC -/
def HOB_MODEL_SRC_ATOMIC : Fld :=
  { addr := 0x15008c, lo := 4, width := 1, reset := 0, acc := .ro, kept := true }
/-- HOB_MODEL_SRC.VALID -/
def HOB_MODEL_SRC_VALID : Fld :=
  { addr := 0x15008c, lo := 5, width := 1, reset := 0, acc := .ro, kept := true }
/-- HOB_MODEL_SRC.DRIFT_FITTED: At least 3,600 records -/
def HOB_MODEL_SRC_DRIFT_FITTED : Fld :=
  { addr := 0x15008c, lo := 6, width := 1, reset := 0, acc := .ro, kept := true }
/-- HOB_MODEL_UY.UY: u_y of the source in use, unit 2^-48 -/
def HOB_MODEL_UY_UY : Fld :=
  { addr := 0x150090, lo := 0, width := 32, reset := 0, acc := .ro, kept := true }
/-- HOB_FIT_AT_LO.FA_LO: t_fit as LINEAR_NS; read latches HI -/
def HOB_FIT_AT_LO_FA_LO : Fld :=
  { addr := 0x150094, lo := 0, width := 32, reset := 0, acc := .ro, kept := true }
/-- HOB_FIT_AT_HI.FA_HI -/
def HOB_FIT_AT_HI_FA_HI : Fld :=
  { addr := 0x150098, lo := 0, width := 32, reset := 0, acc := .ro, kept := true }
/-- HOB_T0_LO.T0_LO: Anchor T0 as LINEAR_NS; read latches HI -/
def HOB_T0_LO_T0_LO : Fld :=
  { addr := 0x1500a0, lo := 0, width := 32, reset := 0, acc := .ro, kept := true }
/-- HOB_T0_HI.T0_HI -/
def HOB_T0_HI_T0_HI : Fld :=
  { addr := 0x1500a4, lo := 0, width := 32, reset := 0, acc := .ro, kept := true }
/-- HOB_TEB0.TEB0: Unit 2^-8 ns -/
def HOB_TEB0_TEB0 : Fld :=
  { addr := 0x1500a8, lo := 0, width := 32, reset := 0, acc := .ro, kept := true }
/-- HOB_UY_USE.UY: Unit 2^-48 -/
def HOB_UY_USE_UY : Fld :=
  { addr := 0x1500ac, lo := 0, width := 32, reset := 0, acc := .ro, kept := true }
/-- HOB_AMAX_USE.AMAX: Unit 2^-60 per s -/
def HOB_AMAX_USE_AMAX : Fld :=
  { addr := 0x1500b0, lo := 0, width := 32, reset := 0, acc := .ro, kept := true }
/-- HOB_W_USE.W: Unit 2^-16 ns per √s -/
def HOB_W_USE_W : Fld :=
  { addr := 0x1500b4, lo := 0, width := 32, reset := 0, acc := .ro, kept := true }
/-- LANE_UY.UY: Fractional frequency uncertainty of LANE_n when it is selected as a FREQUENCY lane (R130), unit 2^-48; the reset value is 1 × 10^-10 -/
def LANE_UY_UY (n : Nat) : Fld :=
  { addr := 0x150100 + 0x4 * n, lo := 0, width := 32, reset := 0x6df4, acc := .rw, role := some .installer }
/-- TIM_STATUS.WARMING: R158 -/
def TIM_STATUS_WARMING : Fld :=
  { addr := 0x120000, lo := 0, width := 1, reset := 1, acc := .ro }
/-- TIM_STATUS.WARM_BY_TIMEOUT: WARMING was cleared by TIMEOUT -/
def TIM_STATUS_WARM_BY_TIMEOUT : Fld :=
  { addr := 0x120000, lo := 1, width := 1, reset := 0, acc := .ro }
/-- TIM_STATUS.ROTATING: The rotation of R154 runs -/
def TIM_STATUS_ROTATING : Fld :=
  { addr := 0x120000, lo := 2, width := 1, reset := 1, acc := .ro }
/-- TIM_STATUS.SPARE_SUBST: The spare stands in permanently -/
def TIM_STATUS_SPARE_SUBST : Fld :=
  { addr := 0x120000, lo := 3, width := 1, reset := 0, acc := .ro }
/-- TIM_STATUS.SUBST_LANE: Lane the spare stands in for -/
def TIM_STATUS_SUBST_LANE : Fld :=
  { addr := 0x120000, lo := 8, width := 5, reset := 0, acc := .ro }
/-- TIM_STATUS.CAL_LANE: Unit in its calibration slot; 24 is the spare -/
def TIM_STATUS_CAL_LANE : Fld :=
  { addr := 0x120000, lo := 16, width := 5, reset := 0, acc := .ro }
/-- TIM_STICKY.STICKY: Live. Bits [8:0] are the conditions of codes 0x0043 to 0x004B in order -/
def TIM_STICKY_STICKY : Fld :=
  { addr := 0x120004, lo := 0, width := 9, reset := 0, acc := .w1c, role := some .operator, live := true }
/-- TIM_EVT_EN.EN: Live. Bits [8:0] enable the events of TIM_STICKY; [9] 0x0040; [10] 0x0041; [11] 0x0042 -/
def TIM_EVT_EN_EN : Fld :=
  { addr := 0x120008, lo := 0, width := 12, reset := 0xfff, acc := .rw, role := some .installer, live := true }
/-- TIM_WARM.TIMEOUT: Unit 1 s; reset is 7,200 s; 0 means no timeout -/
def TIM_WARM_TIMEOUT : Fld :=
  { addr := 0x12000c, lo := 0, width := 16, reset := 0x1c20, acc := .rw, role := some .installer }
/-- TIM_WARM.ELAPSED: Seconds since WARMING was set, saturating -/
def TIM_WARM_ELAPSED : Fld :=
  { addr := 0x12000c, lo := 16, width := 16, reset := 0, acc := .ro }
/-- TIM_WARM_SPAN.SPAN: max(y) − min(y) over the current run, unit 2^-48 -/
def TIM_WARM_SPAN_SPAN : Fld :=
  { addr := 0x120010, lo := 0, width := 32, reset := 0xffffffff, acc := .ro }
/-- TIM_CAL_CTRL.CAL_TOL: Unit 2^-10 ns, 1 to 1,024 -/
def TIM_CAL_CTRL_CAL_TOL : Fld :=
  { addr := 0x120014, lo := 0, width := 16, reset := 0xa, acc := .rw, role := some .maker, range := some (1, 1024) }
/-- TIM_CAL_CTRL.STALE_AGE: Unit 1 s, 1 to 3,600 -/
def TIM_CAL_CTRL_STALE_AGE : Fld :=
  { addr := 0x120014, lo := 16, width := 16, reset := 0xa, acc := .rw, role := some .installer, range := some (1, 3600) }
/-- TIM_RES_WR.WR: Next record to be written -/
def TIM_RES_WR_WR : Fld :=
  { addr := 0x120020, lo := 0, width := 9, reset := 0, acc := .ro }
/-- TIM_RES_RD.RD: Live. Oldest unconsumed record -/
def TIM_RES_RD_RD : Fld :=
  { addr := 0x120024, lo := 0, width := 9, reset := 0, acc := .rw, live := true }
/-- TIM_RES_LOST.COUNT: Records overwritten (R152) -/
def TIM_RES_LOST_COUNT : Fld :=
  { addr := 0x120028, lo := 0, width := 32, reset := 0, acc := .rc, live := true }
/-- REFIN_DELAY.DELAY: Signed, unit 2^-10 ns, for n from 0 to 7 (R142) -/
def REFIN_DELAY_DELAY (n : Nat) : Fld :=
  { addr := 0x120040 + 0x4 * n, lo := 0, width := 32, reset := 0, acc := .rw, role := some .installer }
/-- TDC_CFG.USE: 0b00: IDLE; 0b01: HEAT; 0b10: LANE; 0b11: CAL (spare: self-calibrating) -/
def TDC_CFG_USE (n : Nat) : Fld :=
  { addr := 0x120100 + 0x80 * n, lo := 0, width := 2, reset := 0, acc := .ro }
/-- TDC_CFG.START_SRC: R141 -/
def TDC_CFG_START_SRC (n : Nat) : Fld :=
  { addr := 0x120100 + 0x80 * n, lo := 2, width := 6, reset := 0, acc := .ro }
/-- TDC_CFG.START_EDGE: 0: rising; 1: falling -/
def TDC_CFG_START_EDGE (n : Nat) : Fld :=
  { addr := 0x120100 + 0x80 * n, lo := 8, width := 1, reset := 0, acc := .ro }
/-- TDC_CFG.STOP_SRC: R141 -/
def TDC_CFG_STOP_SRC (n : Nat) : Fld :=
  { addr := 0x120100 + 0x80 * n, lo := 9, width := 6, reset := 0, acc := .ro }
/-- TDC_CFG.STOP_EDGE: 0: rising; 1: falling -/
def TDC_CFG_STOP_EDGE (n : Nat) : Fld :=
  { addr := 0x120100 + 0x80 * n, lo := 15, width := 1, reset := 0, acc := .ro }
/-- TDC_CFG.SPLITS: 1 to 8 -/
def TDC_CFG_SPLITS (n : Nat) : Fld :=
  { addr := 0x120100 + 0x80 * n, lo := 16, width := 4, reset := 1, acc := .ro }
/-- TDC_CFG.SIGNED -/
def TDC_CFG_SIGNED (n : Nat) : Fld :=
  { addr := 0x120100 + 0x80 * n, lo := 20, width := 1, reset := 0, acc := .ro }
/-- TDC_CFG.SCALE: R144 -/
def TDC_CFG_SCALE (n : Nat) : Fld :=
  { addr := 0x120100 + 0x80 * n, lo := 21, width := 1, reset := 0, acc := .ro }
/-- TDC_CFG.KEEP -/
def TDC_CFG_KEEP (n : Nat) : Fld :=
  { addr := 0x120100 + 0x80 * n, lo := 22, width := 1, reset := 0, acc := .ro }
/-- TDC_CFG.STAT_SPLIT: Split number minus 1 -/
def TDC_CFG_STAT_SPLIT (n : Nat) : Fld :=
  { addr := 0x120100 + 0x80 * n, lo := 23, width := 3, reset := 0, acc := .ro }
/-- TDC_CFG.SERVED_BY: Unit stamping now; 24 is the spare. On the spare: lane whose work it carries -/
def TDC_CFG_SERVED_BY (n : Nat) : Fld :=
  { addr := 0x120100 + 0x80 * n, lo := 26, width := 5, reset := n, acc := .ro }
/-- TDC_HEAT.N -/
def TDC_HEAT_N (n : Nat) : Fld :=
  { addr := 0x120104 + 0x80 * n, lo := 0, width := 16, reset := 0, acc := .ro }
/-- TDC_HEAT.DONE: Measurements closed -/
def TDC_HEAT_DONE (n : Nat) : Fld :=
  { addr := 0x120104 + 0x80 * n, lo := 16, width := 16, reset := 0, acc := .ro }
/-- TDC_WINDOW.WINDOW: Unit 1 µs -/
def TDC_WINDOW_WINDOW (n : Nat) : Fld :=
  { addr := 0x120108 + 0x80 * n, lo := 0, width := 22, reset := 0, acc := .ro }
/-- TDC_SIGNED_WIN.WIN: Unit 1 ns -/
def TDC_SIGNED_WIN_WIN (n : Nat) : Fld :=
  { addr := 0x12010c + 0x80 * n, lo := 0, width := 30, reset := 0, acc := .ro }
/-- TDC_STATE.HEAT_STATE: Encoded as in R150 -/
def TDC_STATE_HEAT_STATE (n : Nat) : Fld :=
  { addr := 0x120110 + 0x80 * n, lo := 0, width := 3, reset := 0, acc := .ro }
/-- TDC_STATE.WARM_SEEN: A record of this heat carried WARMING -/
def TDC_STATE_WARM_SEEN (n : Nat) : Fld :=
  { addr := 0x120110 + 0x80 * n, lo := 3, width := 1, reset := 0, acc := .ro }
/-- TDC_STATE.STEP_SEEN: A record carried STEPPED -/
def TDC_STATE_STEP_SEEN (n : Nat) : Fld :=
  { addr := 0x120110 + 0x80 * n, lo := 4, width := 1, reset := 0, acc := .ro }
/-- TDC_STATE.SPARE_SEEN: A record carried SPARE -/
def TDC_STATE_SPARE_SEEN (n : Nat) : Fld :=
  { addr := 0x120110 + 0x80 * n, lo := 5, width := 1, reset := 0, acc := .ro }
/-- TDC_STATE.HEAT_NO: Heats started on this lane, modulo 2^16 -/
def TDC_STATE_HEAT_NO (n : Nat) : Fld :=
  { addr := 0x120110 + 0x80 * n, lo := 16, width := 16, reset := 0, acc := .ro }
/-- TDC_FALSE_START.COUNT: R148 -/
def TDC_FALSE_START_COUNT (n : Nat) : Fld :=
  { addr := 0x120114 + 0x80 * n, lo := 0, width := 32, reset := 0, acc := .rc, live := true }
/-- TDC_DEAD_LOST.COUNT: R149 -/
def TDC_DEAD_LOST_COUNT (n : Nat) : Fld :=
  { addr := 0x120118 + 0x80 * n, lo := 0, width := 32, reset := 0, acc := .rc, live := true }
/-- TDC_TIMEOUTS.COUNT: Measurements closed with TIMEOUT -/
def TDC_TIMEOUTS_COUNT (n : Nat) : Fld :=
  { addr := 0x12011c + 0x80 * n, lo := 0, width := 32, reset := 0, acc := .rc, live := true }
/-- TDC_START_SKIPPED.COUNT: R149 -/
def TDC_START_SKIPPED_COUNT (n : Nat) : Fld :=
  { addr := 0x120120 + 0x80 * n, lo := 0, width := 32, reset := 0, acc := .rc, live := true }
/-- STAT_COUNT.INCLUDED: n of R151 -/
def STAT_COUNT_INCLUDED (n : Nat) : Fld :=
  { addr := 0x120124 + 0x80 * n, lo := 0, width := 16, reset := 0, acc := .ro }
/-- STAT_COUNT.EXCLUDED -/
def STAT_COUNT_EXCLUDED (n : Nat) : Fld :=
  { addr := 0x120124 + 0x80 * n, lo := 16, width := 16, reset := 0, acc := .ro }
/-- STAT_MEAN_LO.MEAN_LO: Unit 2^-16 ns; read latches +0x2C to +0x40 -/
def STAT_MEAN_LO_MEAN_LO (n : Nat) : Fld :=
  { addr := 0x120128 + 0x80 * n, lo := 0, width := 32, reset := 0, acc := .ro }
/-- STAT_MEAN_HI.MEAN_HI: Signed -/
def STAT_MEAN_HI_MEAN_HI (n : Nat) : Fld :=
  { addr := 0x12012c + 0x80 * n, lo := 0, width := 32, reset := 0, acc := .ro }
/-- STAT_SD.SD: Unit 2^-16 ns, saturating -/
def STAT_SD_SD (n : Nat) : Fld :=
  { addr := 0x120130 + 0x80 * n, lo := 0, width := 32, reset := 0, acc := .ro }
/-- STAT_MIN_LO.MIN_LO: Unit 2^-10 ns -/
def STAT_MIN_LO_MIN_LO (n : Nat) : Fld :=
  { addr := 0x120134 + 0x80 * n, lo := 0, width := 32, reset := 0, acc := .ro }
/-- STAT_MIN_HI.MIN_HI: Signed 48-bit value [47:32] -/
def STAT_MIN_HI_MIN_HI (n : Nat) : Fld :=
  { addr := 0x120138 + 0x80 * n, lo := 0, width := 16, reset := 0, acc := .ro }
/-- STAT_MAX_LO.MAX_LO: Unit 2^-10 ns -/
def STAT_MAX_LO_MAX_LO (n : Nat) : Fld :=
  { addr := 0x12013c + 0x80 * n, lo := 0, width := 32, reset := 0, acc := .ro }
/-- STAT_MAX_HI.MAX_HI: Signed 48-bit value [47:32] -/
def STAT_MAX_HI_MAX_HI (n : Nat) : Fld :=
  { addr := 0x120140 + 0x80 * n, lo := 0, width := 16, reset := 0, acc := .ro }
/-- TDC_CAL_AGE.AGE: Unit 1 s since the last passed check, saturating -/
def TDC_CAL_AGE_AGE (n : Nat) : Fld :=
  { addr := 0x120e00 + 0x10 * n, lo := 0, width := 16, reset := 0xffff, acc := .ro }
/-- TDC_CAL_LSB.LSB: Mean bin width, unit 2^-32 ns; 1 ps is about 4,294,967 -/
def TDC_CAL_LSB_LSB (n : Nat) : Fld :=
  { addr := 0x120e04 + 0x10 * n, lo := 0, width := 32, reset := 0, acc := .ro }
/-- TDC_CAL_DIFF.DIFF: Largest overlap difference in the last slot, signed, unit 2^-10 ns -/
def TDC_CAL_DIFF_DIFF (n : Nat) : Fld :=
  { addr := 0x120e08 + 0x10 * n, lo := 0, width := 16, reset := 0, acc := .ro }
/-- TDC_CAL_FAILS.COUNT: Failed checks and comparisons (R155) -/
def TDC_CAL_FAILS_COUNT (n : Nat) : Fld :=
  { addr := 0x120e0c + 0x10 * n, lo := 0, width := 32, reset := 0, acc := .rc, live := true }
/-- SYN_SUMMARY.STATE_A: SYN_A state, encoded as in R175 -/
def SYN_SUMMARY_STATE_A : Fld :=
  { addr := 0x130000, lo := 0, width := 3, reset := 0, acc := .ro }
/-- SYN_SUMMARY.STATE_B: SYN_B -/
def SYN_SUMMARY_STATE_B : Fld :=
  { addr := 0x130000, lo := 4, width := 3, reset := 0, acc := .ro }
/-- SYN_SUMMARY.STATE_C: SYN_C -/
def SYN_SUMMARY_STATE_C : Fld :=
  { addr := 0x130000, lo := 8, width := 3, reset := 1, acc := .ro }
/-- SYN_SUMMARY.STATE_D: SYN_D -/
def SYN_SUMMARY_STATE_D : Fld :=
  { addr := 0x130000, lo := 12, width := 3, reset := 1, acc := .ro }
/-- SYN_SUMMARY.LOCKED: Bit g is 1 when group g is LOCKED -/
def SYN_SUMMARY_LOCKED : Fld :=
  { addr := 0x130000, lo := 16, width := 4, reset := 0, acc := .ro }
/-- SYN_CFG.FILTER: R166 -/
def SYN_CFG_FILTER (n : Nat) : Fld :=
  { addr := 0x130100 + 0x100 * n, lo := 0, width := 3, reset := if n < 2 then 2 else 3, acc := .rw, role := some .installer }
/-- SYN_CFG.EXT_LF: 1: external filter on LF_x and LFG_x -/
def SYN_CFG_EXT_LF (n : Nat) : Fld :=
  { addr := 0x130100 + 0x100 * n, lo := 3, width := 1, reset := 0, acc := .rw, role := some .installer }
/-- SYN_CFG.ICP: Unit 0.5 mA, 1 to 15 -/
def SYN_CFG_ICP (n : Nat) : Fld :=
  { addr := 0x130100 + 0x100 * n, lo := 4, width := 4, reset := 8, acc := .rw, role := some .installer, range := some (1, 15) }
/-- SYN_CFG.N: 22 to 160; fixed at 40 on SYN_C and SYN_D -/
def SYN_CFG_N (n : Nat) : Fld :=
  { addr := 0x130100 + 0x100 * n, lo := 8, width := 8, reset := 0x28, acc := .rw, role := some .installer, range := some (22, 160) }
/-- SYN_NUM_LO.NUM_LO: NUM[31:0], unit 1 Hz × DEN -/
def SYN_NUM_LO_NUM_LO (n : Nat) : Fld :=
  { addr := 0x130104 + 0x100 * n, lo := 0, width := 32, reset := if n < 2 then 0x8f0d180 else 0x9502f90, acc := .rw, role := some .installer }
/-- SYN_NUM_HI.NUM_HI: NUM[47:32] -/
def SYN_NUM_HI_NUM_HI (n : Nat) : Fld :=
  { addr := 0x130108 + 0x100 * n, lo := 0, width := 16, reset := 0, acc := .rw, role := some .installer }
/-- SYN_DEN.DEN: 1 to 65,535 -/
def SYN_DEN_DEN (n : Nat) : Fld :=
  { addr := 0x13010c + 0x100 * n, lo := 0, width := 16, reset := 1, acc := .rw, role := some .installer, range := some (1, 65535) }
/-- SYN_LOCK.WIN_LOG2: 8 to 20 -/
def SYN_LOCK_WIN_LOG2 (n : Nat) : Fld :=
  { addr := 0x130110 + 0x100 * n, lo := 0, width := 5, reset := 0xc, acc := .rw, role := some .installer, range := some (8, 20) }
/-- SYN_LOCK.K: 1 to 255 -/
def SYN_LOCK_K (n : Nat) : Fld :=
  { addr := 0x130110 + 0x100 * n, lo := 8, width := 8, reset := 0x10, acc := .rw, role := some .installer, range := some (1, 255) }
/-- SYN_LOCK.LOCK_TOL: Counts, 0 to 15 -/
def SYN_LOCK_LOCK_TOL (n : Nat) : Fld :=
  { addr := 0x130110 + 0x100 * n, lo := 16, width := 4, reset := 1, acc := .rw, role := some .installer }
/-- SYN_LOCK.UNLOCK_TOL: Counts, 1 to 15 -/
def SYN_LOCK_UNLOCK_TOL (n : Nat) : Fld :=
  { addr := 0x130110 + 0x100 * n, lo := 20, width := 4, reset := 2, acc := .rw, role := some .installer, range := some (1, 15) }
/-- SYN_HOLD.RELOCK_DELAY: Unit 1 ms, 1 to 10,000 -/
def SYN_HOLD_RELOCK_DELAY (n : Nat) : Fld :=
  { addr := 0x130114 + 0x100 * n, lo := 0, width := 14, reset := 0xa, acc := .rw, role := some .installer, range := some (1, 10000) }
/-- SYN_HOLD.HOLD_DEV: Unit 1 ppm, 1 to 1,000 -/
def SYN_HOLD_HOLD_DEV (n : Nat) : Fld :=
  { addr := 0x130114 + 0x100 * n, lo := 16, width := 16, reset := 0x32, acc := .rw, role := some .installer, range := some (1, 1000) }
/-- SYN_STATE.STATE: R175 -/
def SYN_STATE_STATE (n : Nat) : Fld :=
  { addr := 0x130118 + 0x100 * n, lo := 0, width := 3, reset := if n < 2 then 0 else 1, acc := .ro }
/-- SYN_STATE.TH_ENGAGED: Track-and-hold engaged -/
def SYN_STATE_TH_ENGAGED (n : Nat) : Fld :=
  { addr := 0x130118 + 0x100 * n, lo := 3, width := 1, reset := 0, acc := .ro }
/-- SYN_STATE.RAMPING: R167 -/
def SYN_STATE_RAMPING (n : Nat) : Fld :=
  { addr := 0x130118 + 0x100 * n, lo := 4, width := 1, reset := 0, acc := .ro }
/-- SYN_STATE.FOLLOW_LIMITED: r_D differs from RATE_TOTAL now -/
def SYN_STATE_FOLLOW_LIMITED (n : Nat) : Fld :=
  { addr := 0x130118 + 0x100 * n, lo := 5, width := 1, reset := 0, acc := .ro }
/-- SYN_STATE.CAUSE: Last loss:; 0b00: none; 0b01: slip; 0b10: counter; 0b11: fence -/
def SYN_STATE_CAUSE (n : Nat) : Fld :=
  { addr := 0x130118 + 0x100 * n, lo := 6, width := 2, reset := 0, acc := .ro }
/-- SYN_STATE.CFG_PENDING: A value for +0x00 to +0x0C waits for the next start (R182) -/
def SYN_STATE_CFG_PENDING (n : Nat) : Fld :=
  { addr := 0x130118 + 0x100 * n, lo := 8, width := 1, reset := 0, acc := .ro }
/-- SYN_STATE.RAMP_LEFT: Steps remaining -/
def SYN_STATE_RAMP_LEFT (n : Nat) : Fld :=
  { addr := 0x130118 + 0x100 * n, lo := 16, width := 16, reset := 0, acc := .ro }
/-- SYN_STICKY.STICKY: Live. Bits [4:0] are the conditions of 0x0111 to 0x0115 in order -/
def SYN_STICKY_STICKY (n : Nat) : Fld :=
  { addr := 0x13011c + 0x100 * n, lo := 0, width := 5, reset := 0, acc := .w1c, role := some .operator, live := true }
/-- SYN_EVT_EN.EN: Live. Bits [4:0] enable SYN_STICKY events; [5] 0x0110; [6] 0x0116; [7] 0x0117 -/
def SYN_EVT_EN_EN (n : Nat) : Fld :=
  { addr := 0x130120 + 0x100 * n, lo := 0, width := 8, reset := 0xff, acc := .rw, role := some .installer, live := true }
/-- SYN_BAND.BAND: Band in use -/
def SYN_BAND_BAND (n : Nat) : Fld :=
  { addr := 0x130124 + 0x100 * n, lo := 0, width := 6, reset := 0, acc := .ro }
/-- SYN_BAND.LO: Lowest VCO frequency of the band, unit 1 MHz -/
def SYN_BAND_LO (n : Nat) : Fld :=
  { addr := 0x130124 + 0x100 * n, lo := 6, width := 13, reset := 0, acc := .ro }
/-- SYN_BAND.HI: Highest, unit 1 MHz -/
def SYN_BAND_HI (n : Nat) : Fld :=
  { addr := 0x130124 + 0x100 * n, lo := 19, width := 13, reset := 0, acc := .ro }
/-- SYN_GRP_ERR_LO.G_LO: G[31:0], unit 1 ns; read latches +0x2C and +0x30 -/
def SYN_GRP_ERR_LO_G_LO (n : Nat) : Fld :=
  { addr := 0x130128 + 0x100 * n, lo := 0, width := 32, reset := 0, acc := .ro }
/-- SYN_GRP_ERR_HI.G_HI: G[63:32], signed -/
def SYN_GRP_ERR_HI_G_HI (n : Nat) : Fld :=
  { addr := 0x13012c + 0x100 * n, lo := 0, width := 32, reset := 0, acc := .ro }
/-- SYN_GRP_ERR_FRAC.G_FRAC: Unit 2^-16 ns (R163) -/
def SYN_GRP_ERR_FRAC_G_FRAC (n : Nat) : Fld :=
  { addr := 0x130130 + 0x100 * n, lo := 0, width := 16, reset := 0, acc := .ro }
/-- SYN_HELD_FOFF.FOFF: Held VCO against its target, signed, unit 2^-40, saturating -/
def SYN_HELD_FOFF_FOFF (n : Nat) : Fld :=
  { addr := 0x130134 + 0x100 * n, lo := 0, width := 32, reset := 0, acc := .ro }
/-- SYN_VCO_KHZ.FREQ: Measured VCO frequency, unit 1 kHz -/
def SYN_VCO_KHZ_FREQ (n : Nat) : Fld :=
  { addr := 0x130138 + 0x100 * n, lo := 0, width := 23, reset := 0, acc := .ro }
/-- SYN_LOSSES.COUNT: Losses of lock -/
def SYN_LOSSES_COUNT (n : Nat) : Fld :=
  { addr := 0x13013c + 0x100 * n, lo := 0, width := 32, reset := 0, acc := .rc, live := true }
/-- SYN_RELOCK_FAILS.COUNT: Failed attempts, including ACQUIRE timeouts -/
def SYN_RELOCK_FAILS_COUNT (n : Nat) : Fld :=
  { addr := 0x130140 + 0x100 * n, lo := 0, width := 32, reset := 0, acc := .rc, live := true }
/-- SYN_LAST_LOSS_LO.AT_LO: LINEAR_NS of the last loss; read latches HI -/
def SYN_LAST_LOSS_LO_AT_LO (n : Nat) : Fld :=
  { addr := 0x130148 + 0x100 * n, lo := 0, width := 32, reset := 0, acc := .ro }
/-- SYN_LAST_LOSS_HI.AT_HI -/
def SYN_LAST_LOSS_HI_AT_HI (n : Nat) : Fld :=
  { addr := 0x13014c + 0x100 * n, lo := 0, width := 32, reset := 0, acc := .ro }
/-- OUT_STATUS.CLK_RUN: Bit n: CLKOUT_n in RUN or HELD -/
def OUT_STATUS_CLK_RUN : Fld :=
  { addr := 0x140000, lo := 0, width := 16, reset := 0, acc := .ro }
/-- OUT_STATUS.PULSE_RUN: Bit n: PULSE_n in RUN or HELD -/
def OUT_STATUS_PULSE_RUN : Fld :=
  { addr := 0x140000, lo := 16, width := 8, reset := 0, acc := .ro }
/-- OUT_STATUS.TOD_ON: Bit k: TOD_k ENABLED -/
def OUT_STATUS_TOD_ON : Fld :=
  { addr := 0x140000, lo := 24, width := 2, reset := 0, acc := .ro }
/-- OUT_STICKY.MISALIGNED: Live. R202 -/
def OUT_STICKY_MISALIGNED : Fld :=
  { addr := 0x140004, lo := 0, width := 8, reset := 0, acc := .w1c, role := some .operator, live := true }
/-- OUT_EVT_EN.EN: Live.; [0]: 0x0120; [1]: 0x0121; [2]: 0x0122; [3]: 0x0123 -/
def OUT_EVT_EN_EN : Fld :=
  { addr := 0x140008, lo := 0, width := 4, reset := 0xd, acc := .rw, role := some .installer, live := true }
/-- OUT_ALIGN_WARN.WARN: Unit 2^-8 ns; reset is 1 ns -/
def OUT_ALIGN_WARN_WARN : Fld :=
  { addr := 0x14000c, lo := 0, width := 32, reset := 0x100, acc := .rw, role := some .installer }
/-- CLK_CFG.GROUP: 0b00: SYN_A; 0b01: SYN_B; 0b10: SYN_C; 0b11: SYN_D -/
def CLK_CFG_GROUP (n : Nat) : Fld :=
  { addr := 0x140100 + 0x20 * n, lo := 0, width := 2, reset := 0, acc := .rw, role := some .installer }
/-- CLK_CFG.STD: 0b00: LVDS; 0b01: HCSL; 0b10: LVCMOS; 0b11: refused -/
def CLK_CFG_STD (n : Nat) : Fld :=
  { addr := 0x140100 + 0x20 * n, lo := 2, width := 2, reset := 0, acc := .rw, role := some .installer }
/-- CLK_CFG.INVERT -/
def CLK_CFG_INVERT (n : Nat) : Fld :=
  { addr := 0x140100 + 0x20 * n, lo := 4, width := 1, reset := 0, acc := .rw, role := some .installer }
/-- CLK_CFG.DRIVE: LVCMOS strength, 0b00 lowest to 0b11 highest -/
def CLK_CFG_DRIVE (n : Nat) : Fld :=
  { addr := 0x140100 + 0x20 * n, lo := 5, width := 2, reset := 1, acc := .rw, role := some .installer }
/-- CLK_CFG.DIV: 4 to 16,777,215 -/
def CLK_CFG_DIV (n : Nat) : Fld :=
  { addr := 0x140100 + 0x20 * n, lo := 8, width := 24, reset := 0x28, acc := .rw, role := some .installer, range := some (4, 16777215) }
/-- CLK_STATE.STATE: R187 -/
def CLK_STATE_STATE (n : Nat) : Fld :=
  { addr := 0x140104 + 0x20 * n, lo := 0, width := 3, reset := 0, acc := .ro }
/-- CLK_STATE.WALKING -/
def CLK_STATE_WALKING (n : Nat) : Fld :=
  { addr := 0x140104 + 0x20 * n, lo := 3, width := 1, reset := 0, acc := .ro }
/-- CLK_STATE.FENCE_LAST -/
def CLK_STATE_FENCE_LAST (n : Nat) : Fld :=
  { addr := 0x140104 + 0x20 * n, lo := 4, width := 1, reset := 0, acc := .ro }
/-- CLK_PH.PH: Signed, unit 1/64 VCO period -/
def CLK_PH_PH (n : Nat) : Fld :=
  { addr := 0x140108 + 0x20 * n, lo := 0, width := 32, reset := 0, acc := .ro }
/-- CLK_ERR.E: E_n, signed, unit 2^-16 ns, saturating -/
def CLK_ERR_E (n : Nat) : Fld :=
  { addr := 0x14010c + 0x20 * n, lo := 0, width := 32, reset := 0, acc := .ro }
/-- CLK_DELAY.D: D_n of R171 for the present GROUP and STD, unit 2^-16 ns (R498) -/
def CLK_DELAY_D (n : Nat) : Fld :=
  { addr := 0x140110 + 0x20 * n, lo := 0, width := 32, reset := Config.fused ((0x140110 + 0x20 * n) * 32) % 2 ^ 32, acc := .ro }
/-- PULSE_CFG.GROUP: As CLK_CFG.GROUP -/
def PULSE_CFG_GROUP (n : Nat) : Fld :=
  { addr := 0x140400 + 0x40 * n, lo := 0, width := 2, reset := 0, acc := .rw, role := some .installer }
/-- PULSE_CFG.STD: 0: LVDS; 1: LVCMOS -/
def PULSE_CFG_STD (n : Nat) : Fld :=
  { addr := 0x140400 + 0x40 * n, lo := 2, width := 1, reset := 1, acc := .rw, role := some .installer }
/-- PULSE_CFG.POLARITY: 0: active high; 1: active low -/
def PULSE_CFG_POLARITY (n : Nat) : Fld :=
  { addr := 0x140400 + 0x40 * n, lo := 3, width := 1, reset := 0, acc := .rw, role := some .installer }
/-- PULSE_CFG.MODE: R189 -/
def PULSE_CFG_MODE (n : Nat) : Fld :=
  { addr := 0x140400 + 0x40 * n, lo := 4, width := 4, reset := 0, acc := .rw, role := some .installer }
/-- PULSE_CFG.QERR_EVT: Live. R194 -/
def PULSE_CFG_QERR_EVT (n : Nat) : Fld :=
  { addr := 0x140400 + 0x40 * n, lo := 8, width := 1, reset := 0, acc := .rw, role := some .installer, live := true }
/-- PULSE_WIDTH.WIDTH: Unit 1 ns; reset is 10 µs -/
def PULSE_WIDTH_WIDTH (n : Nat) : Fld :=
  { addr := 0x140404 + 0x40 * n, lo := 0, width := 32, reset := 0x2710, acc := .rw, role := some .installer }
/-- PULSE_PNUM.PNUM: 1 to 4,294,967,295 -/
def PULSE_PNUM_PNUM (n : Nat) : Fld :=
  { addr := 0x140408 + 0x40 * n, lo := 0, width := 32, reset := 1, acc := .rw, role := some .installer, range := some (1, 4294967295) }
/-- PULSE_PDEN.PDEN: 1 to 16,777,215 -/
def PULSE_PDEN_PDEN (n : Nat) : Fld :=
  { addr := 0x14040c + 0x40 * n, lo := 0, width := 24, reset := 1, acc := .rw, role := some .installer, range := some (1, 16777215) }
/-- PULSE_OFFSET_LO.OFS_LO: Unit 2^-16 ns -/
def PULSE_OFFSET_LO_OFS_LO (n : Nat) : Fld :=
  { addr := 0x140410 + 0x40 * n, lo := 0, width := 32, reset := 0, acc := .rw, role := some .installer }
/-- PULSE_OFFSET_HI.OFS_HI: Signed, within ±1 s -/
def PULSE_OFFSET_HI_OFS_HI (n : Nat) : Fld :=
  { addr := 0x140414 + 0x40 * n, lo := 0, width := 32, reset := 0, acc := .rw, role := some .installer }
/-- PULSE_U.U: Live. Unit 2^-8 ns -/
def PULSE_U_U (n : Nat) : Fld :=
  { addr := 0x140418 + 0x40 * n, lo := 0, width := 32, reset := 0, acc := .rw, role := some .installer, live := true }
/-- PULSE_STATE.STATE: R187 -/
def PULSE_STATE_STATE (n : Nat) : Fld :=
  { addr := 0x14041c + 0x40 * n, lo := 0, width := 3, reset := 0, acc := .ro }
/-- PULSE_STATE.PENDING: R193 -/
def PULSE_STATE_PENDING (n : Nat) : Fld :=
  { addr := 0x14041c + 0x40 * n, lo := 3, width := 1, reset := 0, acc := .ro }
/-- PULSE_STATE.FENCE_LAST -/
def PULSE_STATE_FENCE_LAST (n : Nat) : Fld :=
  { addr := 0x14041c + 0x40 * n, lo := 4, width := 1, reset := 0, acc := .ro }
/-- PULSE_STATE.ALIGNING -/
def PULSE_STATE_ALIGNING (n : Nat) : Fld :=
  { addr := 0x14041c + 0x40 * n, lo := 5, width := 1, reset := 0, acc := .ro }
/-- PULSE_STATE.STEPPED: R191 -/
def PULSE_STATE_STEPPED (n : Nat) : Fld :=
  { addr := 0x14041c + 0x40 * n, lo := 6, width := 1, reset := 0, acc := .ro }
/-- PULSE_ERR_LO.E_LO: E_n, unit 2^-16 ns; read latches +0x24 to +0x30 -/
def PULSE_ERR_LO_E_LO (n : Nat) : Fld :=
  { addr := 0x140420 + 0x40 * n, lo := 0, width := 32, reset := 0, acc := .ro }
/-- PULSE_ERR_HI.E_HI: Signed -/
def PULSE_ERR_HI_E_HI (n : Nat) : Fld :=
  { addr := 0x140424 + 0x40 * n, lo := 0, width := 32, reset := 0, acc := .ro }
/-- PULSE_QERR.QERR: Last edge, signed, unit 2^-16 ns -/
def PULSE_QERR_QERR (n : Nat) : Fld :=
  { addr := 0x140428 + 0x40 * n, lo := 0, width := 32, reset := 0, acc := .ro }
/-- PULSE_EDGE_LO.AT_LO: LINEAR_NS of the last ideal edge -/
def PULSE_EDGE_LO_AT_LO (n : Nat) : Fld :=
  { addr := 0x14042c + 0x40 * n, lo := 0, width := 32, reset := 0, acc := .ro }
/-- PULSE_EDGE_HI.AT_HI -/
def PULSE_EDGE_HI_AT_HI (n : Nat) : Fld :=
  { addr := 0x140430 + 0x40 * n, lo := 0, width := 32, reset := 0, acc := .ro }
/-- PULSE_DELAY.D: D_n of R190 for the present GROUP and STD, unit 2^-16 ns (R498) -/
def PULSE_DELAY_D (n : Nat) : Fld :=
  { addr := 0x140434 + 0x40 * n, lo := 0, width := 32, reset := Config.fused ((0x140434 + 0x40 * n) * 32) % 2 ^ 32, acc := .ro }
/-- TOD_CFG.PULSE: Pulse output (R198) -/
def TOD_CFG_PULSE (n : Nat) : Fld :=
  { addr := 0x140800 + 0x20 * n, lo := 0, width := 3, reset := 0, acc := .rw, role := some .installer }
/-- TOD_CFG.BAUD: 0b00: 115,200; 0b01: 230,400; 0b10: 460,800; 0b11: 921,600 -/
def TOD_CFG_BAUD (n : Nat) : Fld :=
  { addr := 0x140800 + 0x20 * n, lo := 4, width := 2, reset := 0, acc := .rw, role := some .installer }
/-- TOD_SENT.COUNT: Messages sent -/
def TOD_SENT_COUNT (n : Nat) : Fld :=
  { addr := 0x140804 + 0x20 * n, lo := 0, width := 32, reset := 0, acc := .rc, live := true }
/-- TOD_LAST.SEQ: SEQ of the last message -/
def TOD_LAST_SEQ (n : Nat) : Fld :=
  { addr := 0x140808 + 0x20 * n, lo := 0, width := 8, reset := 0, acc := .ro }
/-- TOD_LAST.NO_EDGE: NO_EDGE of the last message -/
def TOD_LAST_NO_EDGE (n : Nat) : Fld :=
  { addr := 0x140808 + 0x20 * n, lo := 8, width := 1, reset := 0, acc := .ro }
/-- GNB_STATUS.POS_STATE: 0b00: NONE; 0b01: SURVEY; 0b10: HOLD -/
def GNB_STATUS_POS_STATE : Fld :=
  { addr := 0x180000, lo := 0, width := 2, reset := 0, acc := .ro, kept := true }
/-- GNB_STATUS.SOLN_VALID: R226 -/
def GNB_STATUS_SOLN_VALID : Fld :=
  { addr := 0x180000, lo := 2, width := 1, reset := 0, acc := .ro }
/-- GNB_STATUS.RUNNING: Baseband started (R214) -/
def GNB_STATUS_RUNNING : Fld :=
  { addr := 0x180000, lo := 3, width := 1, reset := 0, acc := .ro }
/-- GNB_STATUS.CH_TRACK: Channels in TRACK -/
def GNB_STATUS_CH_TRACK : Fld :=
  { addr := 0x180000, lo := 8, width := 8, reset := 0, acc := .ro }
/-- GNB_STATUS.SATS_USED -/
def GNB_STATUS_SATS_USED : Fld :=
  { addr := 0x180000, lo := 16, width := 8, reset := 0, acc := .ro }
/-- GNB_STICKY.STICKY: Live. Conditions of 0x0211 to 0x0216 in order -/
def GNB_STICKY_STICKY : Fld :=
  { addr := 0x180004, lo := 0, width := 6, reset := 0, acc := .w1c, role := some .operator, live := true }
/-- GNB_EVT_EN.EN: Live. [5:0] GNB_STICKY events; [6] 0x0210; [7] 0x0217; [8] 0x0218; [9] 0x0219 -/
def GNB_EVT_EN_EN : Fld :=
  { addr := 0x180008, lo := 0, width := 10, reset := 0x2ff, acc := .rw, role := some .installer, live := true }
/-- GNB_CTRL.RUN: 0: every channel OFF -/
def GNB_CTRL_RUN : Fld :=
  { addr := 0x18000c, lo := 0, width := 1, reset := 1, acc := .rw, role := some .installer }
/-- GNB_CTRL.MEAS_RATE: 0b000: 1 Hz; 0b001: 2 Hz; 0b010: 5 Hz; 0b011: 10 Hz; 0b100: 20 Hz -/
def GNB_CTRL_MEAS_RATE : Fld :=
  { addr := 0x18000c, lo := 1, width := 3, reset := 0, acc := .rw, role := some .installer }
/-- GNB_CTRL.MEAS_RING: Live. R220 -/
def GNB_CTRL_MEAS_RING : Fld :=
  { addr := 0x18000c, lo := 4, width := 1, reset := 0, acc := .rw, role := some .installer, live := true }
/-- GNB_CTRL.REF_CONST: Constellation code; QZSS is written as GPS -/
def GNB_CTRL_REF_CONST : Fld :=
  { addr := 0x18000c, lo := 5, width := 2, reset := 0, acc := .rw, role := some .installer }
/-- GNB_CTRL.IONO_DUAL: Form iono-free pairs -/
def GNB_CTRL_IONO_DUAL : Fld :=
  { addr := 0x18000c, lo := 7, width := 1, reset := 1, acc := .rw, role := some .installer }
/-- GNB_CTRL.EPH_TRUST: R228 -/
def GNB_CTRL_EPH_TRUST : Fld :=
  { addr := 0x18000c, lo := 8, width := 1, reset := 0, acc := .rw, role := some .installer }
/-- GNB_SIG_EN.EN: Bit per SIG code -/
def GNB_SIG_EN_EN : Fld :=
  { addr := 0x180010, lo := 0, width := 8, reset := 0xff, acc := .rw, role := some .installer }
/-- GNB_MASK.ELEV_MASK: Unit 1°, 0 to 60 -/
def GNB_MASK_ELEV_MASK : Fld :=
  { addr := 0x180014, lo := 0, width := 7, reset := 0xa, acc := .rw, role := some .installer, range := some (0, 60) }
/-- GNB_MASK.MIN_CN0: Unit 1 dB-Hz, 20 to 50 -/
def GNB_MASK_MIN_CN0 : Fld :=
  { addr := 0x180014, lo := 8, width := 8, reset := 0x1e, acc := .rw, role := some .installer, range := some (20, 50) }
/-- GNB_MASK.MIN_SATS: 1 to 12 -/
def GNB_MASK_MIN_SATS : Fld :=
  { addr := 0x180014, lo := 16, width := 4, reset := 4, acc := .rw, role := some .installer, range := some (1, 12) }
/-- GNB_MASK.MIN_LOCK: Unit 1 s, 0 to 255 -/
def GNB_MASK_MIN_LOCK : Fld :=
  { addr := 0x180014, lo := 20, width := 8, reset := 0xa, acc := .rw, role := some .installer }
/-- GNB_LOOP.DLL_BW: Unit 0.01 Hz, 5 to 500 -/
def GNB_LOOP_DLL_BW : Fld :=
  { addr := 0x180018, lo := 0, width := 10, reset := 0x32, acc := .rw, role := some .installer, range := some (5, 500) }
/-- GNB_LOOP.PLL_BW: Unit 1 Hz, 1 to 50 -/
def GNB_LOOP_PLL_BW : Fld :=
  { addr := 0x180018, lo := 10, width := 6, reset := 0xf, acc := .rw, role := some .installer, range := some (1, 50) }
/-- GNB_LOOP.FLL_BW: Unit 1 Hz, 1 to 20 -/
def GNB_LOOP_FLL_BW : Fld :=
  { addr := 0x180018, lo := 16, width := 5, reset := 0xa, acc := .rw, role := some .installer, range := some (1, 20) }
/-- GNB_LOOP.T_COH: Unit 1 ms, 1 to 20 -/
def GNB_LOOP_T_COH : Fld :=
  { addr := 0x180018, lo := 21, width := 5, reset := 0x14, acc := .rw, role := some .installer, range := some (1, 20) }
/-- GNB_LOOP.CORR_SPACING: 0b000: 0.05; 0b001: 0.075; 0b010: 0.1; 0b011: 0.2; 0b100: 0.5 chip; others: 0.1 -/
def GNB_LOOP_CORR_SPACING : Fld :=
  { addr := 0x180018, lo := 26, width := 3, reset := 2, acc := .rw, role := some .installer }
/-- GNB_ACQ.ACQ_TCOH: Unit 1 ms, 1 to 20 -/
def GNB_ACQ_ACQ_TCOH : Fld :=
  { addr := 0x18001c, lo := 0, width := 5, reset := 1, acc := .rw, role := some .installer, range := some (1, 20) }
/-- GNB_ACQ.ACQ_NC: 1 to 1,000, with T_c × ACQ_NC ≤ 1,000 ms -/
def GNB_ACQ_ACQ_NC : Fld :=
  { addr := 0x18001c, lo := 5, width := 10, reset := 0xa, acc := .rw, role := some .installer, range := some (1, 1000) }
/-- GNB_ACQ.ACQ_THRESH: Unit 0.25 dB, 20 to 120 -/
def GNB_ACQ_ACQ_THRESH : Fld :=
  { addr := 0x18001c, lo := 16, width := 8, reset := 0x38, acc := .rw, role := some .installer, range := some (20, 120) }
/-- GNB_TIMERS.REACQ_TIME: Unit 1 s, 1 to 60 -/
def GNB_TIMERS_REACQ_TIME : Fld :=
  { addr := 0x180020, lo := 0, width := 8, reset := 0xa, acc := .rw, role := some .installer, range := some (1, 60) }
/-- GNB_TIMERS.PULLIN_TIME: Unit 100 ms, 5 to 100 -/
def GNB_TIMERS_PULLIN_TIME : Fld :=
  { addr := 0x180020, lo := 8, width := 8, reset := 0x14, acc := .rw, role := some .installer, range := some (5, 100) }
/-- GNB_TIMERS.CN0_DROP: Unit 1 dB-Hz, 15 to 40 -/
def GNB_TIMERS_CN0_DROP : Fld :=
  { addr := 0x180020, lo := 16, width := 8, reset := 0x19, acc := .rw, role := some .installer, range := some (15, 40) }
/-- GNB_ISB_U.ISB_U: Unit 2^-8 ns; reset is 5 ns -/
def GNB_ISB_U_ISB_U : Fld :=
  { addr := 0x180024, lo := 0, width := 32, reset := 0x500, acc := .rw, role := some .installer }
/-- GNB_POS_X_LO.X_LO: ECEF X, unit 1 mm; read latches HI -/
def GNB_POS_X_LO_X_LO : Fld :=
  { addr := 0x180040, lo := 0, width := 32, reset := 0, acc := .ro, kept := true }
/-- GNB_POS_X_HI.X_HI: Signed -/
def GNB_POS_X_HI_X_HI : Fld :=
  { addr := 0x180044, lo := 0, width := 32, reset := 0, acc := .ro, kept := true }
/-- GNB_POS_Y_LO.Y_LO: As X -/
def GNB_POS_Y_LO_Y_LO : Fld :=
  { addr := 0x180048, lo := 0, width := 32, reset := 0, acc := .ro, kept := true }
/-- GNB_POS_Y_HI.Y_HI -/
def GNB_POS_Y_HI_Y_HI : Fld :=
  { addr := 0x18004c, lo := 0, width := 32, reset := 0, acc := .ro, kept := true }
/-- GNB_POS_Z_LO.Z_LO: As X -/
def GNB_POS_Z_LO_Z_LO : Fld :=
  { addr := 0x180050, lo := 0, width := 32, reset := 0, acc := .ro, kept := true }
/-- GNB_POS_Z_HI.Z_HI -/
def GNB_POS_Z_HI_Z_HI : Fld :=
  { addr := 0x180054, lo := 0, width := 32, reset := 0, acc := .ro, kept := true }
/-- GNB_POS_U.POS_U: Unit 1 mm -/
def GNB_POS_U_POS_U : Fld :=
  { addr := 0x180058, lo := 0, width := 32, reset := 0, acc := .ro, kept := true }
/-- GNB_SURVEY.SURVEY_TIME: Unit 1 s, 600 to 86,400; reads 86,400 (0x1_5180) as shipped and after keeper loss (R223, R456) -/
def GNB_SURVEY_SURVEY_TIME : Fld :=
  { addr := 0x18005c, lo := 0, width := 17, reset := 0x15180, acc := .ro, kept := true }
/-- GNB_SURVEY_DONE.ELAPSED: Seconds of valid survey; 0 as shipped and after keeper loss -/
def GNB_SURVEY_DONE_ELAPSED : Fld :=
  { addr := 0x180060, lo := 0, width := 17, reset := 0, acc := .ro, kept := true }
/-- GNB_ANT_DELAY_L1.DELAY: Antenna phase centre to clock root (R206), L1 band, signed, unit 2^-8 ns -/
def GNB_ANT_DELAY_L1_DELAY : Fld :=
  { addr := 0x180080, lo := 0, width := 32, reset := 0, acc := .rw, role := some .installer }
/-- GNB_ANT_DELAY_L5.DELAY: As L1, L5 band -/
def GNB_ANT_DELAY_L5_DELAY : Fld :=
  { addr := 0x180084, lo := 0, width := 32, reset := 0, acc := .rw, role := some .installer }
/-- GNB_SIG_DELAY.DELAY: Signal s, 0 to 7, internal bias, signed, unit 2^-8 ns -/
def GNB_SIG_DELAY_DELAY (n : Nat) : Fld :=
  { addr := 0x180088 + 0x4 * n, lo := 0, width := 32, reset := 0, acc := .rw, role := some .installer }
/-- GNB_U_SRC.U_SRC: Unit 2^-8 ns (R224) -/
def GNB_U_SRC_U_SRC : Fld :=
  { addr := 0x1800c0, lo := 0, width := 32, reset := 0xffffffff, acc := .ro }
/-- GNB_SIGMA_T.SIGMA: Unit 2^-8 ns -/
def GNB_SIGMA_T_SIGMA : Fld :=
  { addr := 0x1800c4, lo := 0, width := 32, reset := 0xffffffff, acc := .ro }
/-- GNB_GNSS_UTC.TAI_UTC: As the header's GNSS_UTC -/
def GNB_GNSS_UTC_TAI_UTC : Fld :=
  { addr := 0x1800c8, lo := 0, width := 16, reset := 0x7fff, acc := .ro }
/-- GNB_EPOCH_NO.EPOCH_NO -/
def GNB_EPOCH_NO_EPOCH_NO : Fld :=
  { addr := 0x1800cc, lo := 0, width := 32, reset := 0, acc := .ro }
/-- GNB_MEAS_DROPPED.COUNT: R220 -/
def GNB_MEAS_DROPPED_COUNT : Fld :=
  { addr := 0x1800d0, lo := 0, width := 32, reset := 0, acc := .rc, live := true }
/-- GNB_TTFF.TTFF: Unit 1 ms; all ones until the first fix -/
def GNB_TTFF_TTFF : Fld :=
  { addr := 0x1800d4, lo := 0, width := 32, reset := 0xffffffff, acc := .ro }
/-- GNB_LATCH_LO.AT_LO: LINEAR_NS of the last latch; read latches HI -/
def GNB_LATCH_LO_AT_LO : Fld :=
  { addr := 0x1800d8, lo := 0, width := 32, reset := 0, acc := .ro }
/-- GNB_LATCH_HI.AT_HI -/
def GNB_LATCH_HI_AT_HI : Fld :=
  { addr := 0x1800dc, lo := 0, width := 32, reset := 0, acc := .ro }
/-- GNB_SLI_CFG.L1_EN: Band enabled -/
def GNB_SLI_CFG_L1_EN : Fld :=
  { addr := 0x180100, lo := 0, width := 1, reset := 1, acc := .rw, role := some .installer }
/-- GNB_SLI_CFG.L5_EN -/
def GNB_SLI_CFG_L5_EN : Fld :=
  { addr := 0x180100, lo := 1, width := 1, reset := 1, acc := .rw, role := some .installer }
/-- GNB_SLI_CFG.FORMAT: R207 -/
def GNB_SLI_CFG_FORMAT : Fld :=
  { addr := 0x180100, lo := 2, width := 1, reset := 0, acc := .rw, role := some .installer }
/-- GNB_SLI_CFG.SWAP_IQ -/
def GNB_SLI_CFG_SWAP_IQ : Fld :=
  { addr := 0x180100, lo := 3, width := 1, reset := 0, acc := .rw, role := some .installer }
/-- GNB_SLI_CFG.INV_Q -/
def GNB_SLI_CFG_INV_Q : Fld :=
  { addr := 0x180100, lo := 4, width := 1, reset := 0, acc := .rw, role := some .installer }
/-- GNB_SLI_CFG.CAP_PHASE: R206 -/
def GNB_SLI_CFG_CAP_PHASE : Fld :=
  { addr := 0x180100, lo := 5, width := 3, reset := 4, acc := .rw, role := some .installer }
/-- GNB_IF_L1.IF: Signed, unit 1 Hz, ±20,000,000 -/
def GNB_IF_L1_IF : Fld :=
  { addr := 0x180104, lo := 0, width := 32, reset := 0, acc := .rw, role := some .installer, sgn := true, range := some (-20000000, 20000000) }
/-- GNB_IF_L5.IF: As L1 -/
def GNB_IF_L5_IF : Fld :=
  { addr := 0x180108, lo := 0, width := 32, reset := 0, acc := .rw, role := some .installer, sgn := true, range := some (-20000000, 20000000) }
/-- GNB_SLI_STATUS.DENS_L1: Unit 0.5 % -/
def GNB_SLI_STATUS_DENS_L1 : Fld :=
  { addr := 0x18010c, lo := 0, width := 8, reset := 0, acc := .ro }
/-- GNB_SLI_STATUS.DENS_L5 -/
def GNB_SLI_STATUS_DENS_L5 : Fld :=
  { addr := 0x18010c, lo := 8, width := 8, reset := 0, acc := .ro }
/-- GNB_SLI_STATUS.STUCK_L1: [19] I1, [18] I0, [17] Q1, [16] Q0 -/
def GNB_SLI_STATUS_STUCK_L1 : Fld :=
  { addr := 0x18010c, lo := 16, width := 4, reset := 0, acc := .ro }
/-- GNB_SLI_STATUS.STUCK_L5: As L1 -/
def GNB_SLI_STATUS_STUCK_L5 : Fld :=
  { addr := 0x18010c, lo := 20, width := 4, reset := 0, acc := .ro }
/-- GNB_SLI_STATUS.FAULT_L1 -/
def GNB_SLI_STATUS_FAULT_L1 : Fld :=
  { addr := 0x18010c, lo := 24, width := 1, reset := 0, acc := .ro }
/-- GNB_SLI_STATUS.FAULT_L5 -/
def GNB_SLI_STATUS_FAULT_L5 : Fld :=
  { addr := 0x18010c, lo := 25, width := 1, reset := 0, acc := .ro }
/-- GNB_SLI_FAULTS.COUNT: Entries into FAULT -/
def GNB_SLI_FAULTS_COUNT : Fld :=
  { addr := 0x180110, lo := 0, width := 32, reset := 0, acc := .rc, live := true }
/-- CH_STATUS.STATE: R216; 0b111 when FENCED or ABSENT -/
def CH_STATUS_STATE (n : Nat) : Fld :=
  { addr := 0x181000 + 0x20 * n, lo := 0, width := 3, reset := 0, acc := .ro }
/-- CH_STATUS.SIG -/
def CH_STATUS_SIG (n : Nat) : Fld :=
  { addr := 0x181000 + 0x20 * n, lo := 3, width := 4, reset := 0, acc := .ro }
/-- CH_STATUS.SVID -/
def CH_STATUS_SVID (n : Nat) : Fld :=
  { addr := 0x181000 + 0x20 * n, lo := 8, width := 8, reset := 0, acc := .ro }
/-- CH_STATUS.EXCLUDE: As in R222 -/
def CH_STATUS_EXCLUDE (n : Nat) : Fld :=
  { addr := 0x181000 + 0x20 * n, lo := 16, width := 8, reset := 0, acc := .ro }
/-- CH_STATUS.CODE_LOCK -/
def CH_STATUS_CODE_LOCK (n : Nat) : Fld :=
  { addr := 0x181000 + 0x20 * n, lo := 24, width := 1, reset := 0, acc := .ro }
/-- CH_STATUS.CARRIER_LOCK -/
def CH_STATUS_CARRIER_LOCK (n : Nat) : Fld :=
  { addr := 0x181000 + 0x20 * n, lo := 25, width := 1, reset := 0, acc := .ro }
/-- CH_STATUS.USED -/
def CH_STATUS_USED (n : Nat) : Fld :=
  { addr := 0x181000 + 0x20 * n, lo := 26, width := 1, reset := 0, acc := .ro }
/-- CH_CN0.CN0: Unit 0.01 dB-Hz -/
def CH_CN0_CN0 (n : Nat) : Fld :=
  { addr := 0x181004 + 0x20 * n, lo := 0, width := 16, reset := 0, acc := .ro }
/-- CH_DOPPLER.DOPPLER: Signed, unit 2^-8 Hz -/
def CH_DOPPLER_DOPPLER (n : Nat) : Fld :=
  { addr := 0x181008 + 0x20 * n, lo := 0, width := 32, reset := 0, acc := .ro }
/-- CH_LOCK_TIME.LOCK_TIME: Unit 1 ms -/
def CH_LOCK_TIME_LOCK_TIME (n : Nat) : Fld :=
  { addr := 0x18100c + 0x20 * n, lo := 0, width := 32, reset := 0, acc := .ro }
/-- CH_RESID.RESIDUAL: Signed, unit 2^-8 ns -/
def CH_RESID_RESIDUAL (n : Nat) : Fld :=
  { addr := 0x181010 + 0x20 * n, lo := 0, width := 32, reset := 0, acc := .ro }
/-- CH_SLIPS.COUNT: Carrier lock losses -/
def CH_SLIPS_COUNT (n : Nat) : Fld :=
  { addr := 0x181014 + 0x20 * n, lo := 0, width := 32, reset := 0, acc := .rc, live := true }
/-- ACQ_STATUS.BUSY -/
def ACQ_STATUS_BUSY (n : Nat) : Fld :=
  { addr := 0x183000 + 0x10 * n, lo := 0, width := 1, reset := 0, acc := .ro }
/-- ACQ_STATUS.AIDED: R213 -/
def ACQ_STATUS_AIDED (n : Nat) : Fld :=
  { addr := 0x183000 + 0x10 * n, lo := 1, width := 1, reset := 0, acc := .ro }
/-- ACQ_STATUS.CHANNEL: Channel served -/
def ACQ_STATUS_CHANNEL (n : Nat) : Fld :=
  { addr := 0x183000 + 0x10 * n, lo := 8, width := 8, reset := 0, acc := .ro }
/-- ACQ_STATUS.SIG -/
def ACQ_STATUS_SIG (n : Nat) : Fld :=
  { addr := 0x183000 + 0x10 * n, lo := 16, width := 4, reset := 0, acc := .ro }
/-- ACQ_STATUS.SVID -/
def ACQ_STATUS_SVID (n : Nat) : Fld :=
  { addr := 0x183000 + 0x10 * n, lo := 24, width := 8, reset := 0, acc := .ro }
/-- ACQ_DWELLS.COUNT: Dwells made -/
def ACQ_DWELLS_COUNT (n : Nat) : Fld :=
  { addr := 0x183004 + 0x10 * n, lo := 0, width := 32, reset := 0, acc := .rc, live := true }
/-- ACQ_DETECTS.COUNT: Confirmed cells -/
def ACQ_DETECTS_COUNT (n : Nat) : Fld :=
  { addr := 0x183008 + 0x10 * n, lo := 0, width := 32, reset := 0, acc := .rc, live := true }
/-- PTP_STATUS.SERVING: Bit k: INST_k in SERVING -/
def PTP_STATUS_SERVING : Fld :=
  { addr := 0x340000, lo := 0, width := 4, reset := 0, acc := .ro }
/-- PTP_STATUS.UP_SLAVE: Bit p: the upstream on PORT_p has a parent -/
def PTP_STATUS_UP_SLAVE : Fld :=
  { addr := 0x340000, lo := 4, width := 4, reset := 0, acc := .ro }
/-- PTP_STICKY.STICKY: Live. Conditions of 0x0511 to 0x051A in order -/
def PTP_STICKY_STICKY : Fld :=
  { addr := 0x340004, lo := 0, width := 10, reset := 0, acc := .w1c, role := some .operator, live := true }
/-- PTP_EVT_EN.EN: Live. [9:0] PTP_STICKY events; [10] 0x0510 -/
def PTP_EVT_EN_EN : Fld :=
  { addr := 0x340008, lo := 0, width := 11, reset := 0x7ff, acc := .rw, role := some .installer, live := true }
/-- PTP_CLOCK_ID_LO.ID_LO: clockIdentity octets 4 to 7, octet 7 in [7:0] -/
def PTP_CLOCK_ID_LO_ID_LO : Fld :=
  { addr := 0x340010, lo := 0, width := 32, reset := 0, acc := .rw, role := some .installer }
/-- PTP_CLOCK_ID_HI.ID_HI: Octets 0 to 3, octet 3 in [7:0] -/
def PTP_CLOCK_ID_HI_ID_HI : Fld :=
  { addr := 0x340014, lo := 0, width := 32, reset := 0, acc := .rw, role := some .installer }
/-- PTP_INST_CFG.PROFILE: R233 -/
def PTP_INST_CFG_PROFILE (n : Nat) : Fld :=
  { addr := 0x340100 + 0x100 * n, lo := 0, width := 3, reset := 0, acc := .rw, role := some .installer }
/-- PTP_INST_CFG.ROLE: 0: SERVICE; 1: UPSTREAM -/
def PTP_INST_CFG_ROLE (n : Nat) : Fld :=
  { addr := 0x340100 + 0x100 * n, lo := 3, width := 1, reset := 0, acc := .rw, role := some .installer }
/-- PTP_INST_CFG.PORTS: Bit p: PORT_p -/
def PTP_INST_CFG_PORTS (n : Nat) : Fld :=
  { addr := 0x340100 + 0x100 * n, lo := 4, width := 4, reset := 0, acc := .rw, role := some .installer }
/-- PTP_INST_CFG.DOMAIN: 0xFF: profile default -/
def PTP_INST_CFG_DOMAIN (n : Nat) : Fld :=
  { addr := 0x340100 + 0x100 * n, lo := 8, width := 8, reset := 0xff, acc := .rw, role := some .installer }
/-- PTP_INST_CFG.TRANSPORT: [16] L2; [17] UDP4; [18] UDP6; limited to the profile's set -/
def PTP_INST_CFG_TRANSPORT (n : Nat) : Fld :=
  { addr := 0x340100 + 0x100 * n, lo := 16, width := 3, reset := 7, acc := .rw, role := some .installer }
/-- PTP_INST_CFG.L2_FWD: 1: 01-1B-19-00-00-00; 0: 01-80-C2-00-00-0E -/
def PTP_INST_CFG_L2_FWD (n : Nat) : Fld :=
  { addr := 0x340100 + 0x100 * n, lo := 19, width := 1, reset := 1, acc := .rw, role := some .installer }
/-- PTP_INST_CFG.AUTH: 0b00: OFF; 0b01: OPTIONAL; 0b10: REQUIRED; 0b11: written as REQUIRED -/
def PTP_INST_CFG_AUTH (n : Nat) : Fld :=
  { addr := 0x340100 + 0x100 * n, lo := 20, width := 2, reset := 0, acc := .rw, role := some .installer }
/-- PTP_INST_CFG.TLV_EN: R250 -/
def PTP_INST_CFG_TLV_EN (n : Nat) : Fld :=
  { addr := 0x340100 + 0x100 * n, lo := 22, width := 1, reset := 1, acc := .rw, role := some .installer }
/-- PTP_INST_CFG.BC_MODE: R251 -/
def PTP_INST_CFG_BC_MODE (n : Nat) : Fld :=
  { addr := 0x340100 + 0x100 * n, lo := 23, width := 1, reset := 0, acc := .rw, role := some .installer }
/-- PTP_INST_CFG.MIXED_OK: R234 -/
def PTP_INST_CFG_MIXED_OK (n : Nat) : Fld :=
  { addr := 0x340100 + 0x100 * n, lo := 24, width := 1, reset := 1, acc := .rw, role := some .installer }
/-- PTP_INST_CFG.SERVE_FREERUN: R236 -/
def PTP_INST_CFG_SERVE_FREERUN (n : Nat) : Fld :=
  { addr := 0x340100 + 0x100 * n, lo := 25, width := 1, reset := 1, acc := .rw, role := some .installer }
/-- PTP_INST_CFG.PTP_TO_HOST: Live. R256 -/
def PTP_INST_CFG_PTP_TO_HOST (n : Nat) : Fld :=
  { addr := 0x340100 + 0x100 * n, lo := 26, width := 1, reset := 0, acc := .rw, role := some .installer, live := true }
/-- PTP_INST_INTV.LOG_SYNC: Signed; 0x7F: profile default -/
def PTP_INST_INTV_LOG_SYNC (n : Nat) : Fld :=
  { addr := 0x340104 + 0x100 * n, lo := 0, width := 8, reset := 0x7f, acc := .rw, role := some .installer }
/-- PTP_INST_INTV.LOG_ANNOUNCE: As LOG_SYNC -/
def PTP_INST_INTV_LOG_ANNOUNCE (n : Nat) : Fld :=
  { addr := 0x340104 + 0x100 * n, lo := 8, width := 8, reset := 0x7f, acc := .rw, role := some .installer }
/-- PTP_INST_INTV.LOG_DELAY: logMin(P)DelayReqInterval; as LOG_SYNC -/
def PTP_INST_INTV_LOG_DELAY (n : Nat) : Fld :=
  { addr := 0x340104 + 0x100 * n, lo := 16, width := 8, reset := 0x7f, acc := .rw, role := some .installer }
/-- PTP_INST_INTV.ANNOUNCE_TIMEOUT: 2 to 10 -/
def PTP_INST_INTV_ANNOUNCE_TIMEOUT (n : Nat) : Fld :=
  { addr := 0x340104 + 0x100 * n, lo := 24, width := 4, reset := 3, acc := .rw, role := some .installer, range := some (2, 10) }
/-- PTP_INST_PRIO.PRIORITY1 -/
def PTP_INST_PRIO_PRIORITY1 (n : Nat) : Fld :=
  { addr := 0x340108 + 0x100 * n, lo := 0, width := 8, reset := 0x80, acc := .rw, role := some .installer }
/-- PTP_INST_PRIO.PRIORITY2 -/
def PTP_INST_PRIO_PRIORITY2 (n : Nat) : Fld :=
  { addr := 0x340108 + 0x100 * n, lo := 8, width := 8, reset := 0x80, acc := .rw, role := some .installer }
/-- PTP_INST_PRIO.LOCAL_PRIORITY: 1 to 255; PROFILE 3 and 4 -/
def PTP_INST_PRIO_LOCAL_PRIORITY (n : Nat) : Fld :=
  { addr := 0x340108 + 0x100 * n, lo := 16, width := 8, reset := 0x80, acc := .rw, role := some .installer, range := some (1, 255) }
/-- PTP_GRANT_DUR.DUR_MIN: Unit 1 s, 10 to 1,000 -/
def PTP_GRANT_DUR_DUR_MIN (n : Nat) : Fld :=
  { addr := 0x34010c + 0x100 * n, lo := 0, width := 10, reset := 0xa, acc := .rw, role := some .installer, range := some (10, 1000) }
/-- PTP_GRANT_DUR.DUR_MAX: Unit 1 s, DUR_MIN to 1,000 -/
def PTP_GRANT_DUR_DUR_MAX (n : Nat) : Fld :=
  { addr := 0x34010c + 0x100 * n, lo := 16, width := 10, reset := 0x3e8, acc := .rw, role := some .installer, range := some (10, 1000) }
/-- PTP_GRANT_BUDGET.BUDGET: Live. Messages per second, 0 to 32,000,000 -/
def PTP_GRANT_BUDGET_BUDGET (n : Nat) : Fld :=
  { addr := 0x340110 + 0x100 * n, lo := 0, width := 25, reset := 0xf42400, acc := .rw, role := some .installer, live := true, range := some (0, 32000000) }
/-- PTP_GRANT_LIMIT.MIN_LOG_PERIOD: Signed, −7 to 4 -/
def PTP_GRANT_LIMIT_MIN_LOG_PERIOD (n : Nat) : Fld :=
  { addr := 0x340114 + 0x100 * n, lo := 0, width := 8, reset := 0xf9, acc := .rw, role := some .installer, sgn := true, range := some (-7, 4) }
/-- PTP_GRANT_LIMIT.MAX_SLAVES: 0 to 524,288 -/
def PTP_GRANT_LIMIT_MAX_SLAVES (n : Nat) : Fld :=
  { addr := 0x340114 + 0x100 * n, lo := 8, width := 20, reset := 0x80000, acc := .rw, role := some .installer, range := some (0, 524288) }
/-- PTP_INST_STATE.STATE: R236 -/
def PTP_INST_STATE_STATE (n : Nat) : Fld :=
  { addr := 0x340118 + 0x100 * n, lo := 0, width := 2, reset := 0, acc := .ro }
/-- PTP_INST_STATE.PORTS_SERVING -/
def PTP_INST_STATE_PORTS_SERVING (n : Nat) : Fld :=
  { addr := 0x340118 + 0x100 * n, lo := 4, width := 4, reset := 0, acc := .ro }
/-- PTP_INST_STATE.NO_TX_SA: R248 -/
def PTP_INST_STATE_NO_TX_SA (n : Nat) : Fld :=
  { addr := 0x340118 + 0x100 * n, lo := 8, width := 1, reset := 0, acc := .ro }
/-- PTP_GRANT_USE.USE: Messages per second granted (R243) -/
def PTP_GRANT_USE_USE (n : Nat) : Fld :=
  { addr := 0x34011c + 0x100 * n, lo := 0, width := 25, reset := 0, acc := .ro }
/-- PTP_GRANT_SLAVES.COUNT: Requesters holding a grant -/
def PTP_GRANT_SLAVES_COUNT (n : Nat) : Fld :=
  { addr := 0x340120 + 0x100 * n, lo := 0, width := 20, reset := 0, acc := .ro }
/-- PTP_UP_ASYM.A: Signed, unit 2^-8 ns -/
def PTP_UP_ASYM_A (n : Nat) : Fld :=
  { addr := 0x340124 + 0x100 * n, lo := 0, width := 32, reset := 0, acc := .rw, role := some .installer }
/-- PTP_UP_DEFAULT_U.U: Unit 2^-8 ns; reset is 1,000 ns -/
def PTP_UP_DEFAULT_U_U (n : Nat) : Fld :=
  { addr := 0x340128 + 0x100 * n, lo := 0, width := 32, reset := 0x3e800, acc := .rw, role := some .installer }
/-- PTP_UP_CTRL.DELAY_AVG: 1 to 64 -/
def PTP_UP_CTRL_DELAY_AVG (n : Nat) : Fld :=
  { addr := 0x34012c + 0x100 * n, lo := 0, width := 6, reset := 8, acc := .rw, role := some .installer, range := some (1, 63) }
/-- PTP_UP_CTRL.UP_CC_MAX -/
def PTP_UP_CTRL_UP_CC_MAX (n : Nat) : Fld :=
  { addr := 0x34012c + 0x100 * n, lo := 8, width := 8, reset := 7, acc := .rw, role := some .installer }
/-- PTP_UP_CTRL.LOS_TIME: Unit 1 ms, 100 to 60,000 -/
def PTP_UP_CTRL_LOS_TIME (n : Nat) : Fld :=
  { addr := 0x34012c + 0x100 * n, lo := 16, width := 16, reset := 0x7d0, acc := .rw, role := some .installer, range := some (100, 60000) }
/-- TX_SYNC.COUNT -/
def TX_SYNC_COUNT (n : Nat) : Fld :=
  { addr := 0x340140 + 0x100 * n, lo := 0, width := 32, reset := 0, acc := .rc, live := true }
/-- TX_ANNOUNCE.COUNT -/
def TX_ANNOUNCE_COUNT (n : Nat) : Fld :=
  { addr := 0x340144 + 0x100 * n, lo := 0, width := 32, reset := 0, acc := .rc, live := true }
/-- TX_DELAY_RESP.COUNT: Delay_Resp and Pdelay_Resp -/
def TX_DELAY_RESP_COUNT (n : Nat) : Fld :=
  { addr := 0x340148 + 0x100 * n, lo := 0, width := 32, reset := 0, acc := .rc, live := true }
/-- RX_DELAY_REQ.COUNT: Delay_Req and Pdelay_Req -/
def RX_DELAY_REQ_COUNT (n : Nat) : Fld :=
  { addr := 0x34014c + 0x100 * n, lo := 0, width := 32, reset := 0, acc := .rc, live := true }
/-- AUTH_FAIL.COUNT: R247, R248 -/
def AUTH_FAIL_COUNT (n : Nat) : Fld :=
  { addr := 0x340150 + 0x100 * n, lo := 0, width := 32, reset := 0, acc := .rc, live := true }
/-- AUTH_MISSING.COUNT: R247 -/
def AUTH_MISSING_COUNT (n : Nat) : Fld :=
  { addr := 0x340154 + 0x100 * n, lo := 0, width := 32, reset := 0, acc := .rc, live := true }
/-- GRANT_DENIED.COUNT: R242 -/
def GRANT_DENIED_COUNT (n : Nat) : Fld :=
  { addr := 0x340158 + 0x100 * n, lo := 0, width := 32, reset := 0, acc := .rc, live := true }
/-- STALE_DROP.COUNT: R250 -/
def PTP_STALE_DROP_COUNT (n : Nat) : Fld :=
  { addr := 0x34015c + 0x100 * n, lo := 0, width := 32, reset := 0, acc := .rc, live := true }
/-- TX_LATE_DROP.COUNT: R238 -/
def TX_LATE_DROP_COUNT (n : Nat) : Fld :=
  { addr := 0x340160 + 0x100 * n, lo := 0, width := 32, reset := 0, acc := .rc, live := true }
/-- FOREIGN_ANNOUNCE.COUNT: R256 -/
def FOREIGN_ANNOUNCE_COUNT (n : Nat) : Fld :=
  { addr := 0x340164 + 0x100 * n, lo := 0, width := 32, reset := 0, acc := .rc, live := true }
/-- LOOP_DISCARD.COUNT: R251 -/
def LOOP_DISCARD_COUNT (n : Nat) : Fld :=
  { addr := 0x340168 + 0x100 * n, lo := 0, width := 32, reset := 0, acc := .rc, live := true }
/-- DISCARDED.COUNT: R256 -/
def DISCARDED_COUNT (n : Nat) : Fld :=
  { addr := 0x34016c + 0x100 * n, lo := 0, width := 32, reset := 0, acc := .rc, live := true }
/-- UP_PARENT_LO.ID_LO: Parent clockIdentity octets 4 to 7; read latches +0x84 to +0x9C -/
def UP_PARENT_LO_ID_LO (n : Nat) : Fld :=
  { addr := 0x340180 + 0x100 * n, lo := 0, width := 32, reset := 0, acc := .ro }
/-- UP_PARENT_HI.ID_HI: Octets 0 to 3 -/
def UP_PARENT_HI_ID_HI (n : Nat) : Fld :=
  { addr := 0x340184 + 0x100 * n, lo := 0, width := 32, reset := 0, acc := .ro }
/-- UP_PARENT_PORT.PORT: Parent portNumber -/
def UP_PARENT_PORT_PORT (n : Nat) : Fld :=
  { addr := 0x340188 + 0x100 * n, lo := 0, width := 16, reset := 0, acc := .ro }
/-- UP_PARENT_PORT.CLASS: Parent's clockClass -/
def UP_PARENT_PORT_CLASS (n : Nat) : Fld :=
  { addr := 0x340188 + 0x100 * n, lo := 16, width := 8, reset := 0xff, acc := .ro }
/-- UP_PARENT_PORT.ACCURACY: Parent's clockAccuracy -/
def UP_PARENT_PORT_ACCURACY (n : Nat) : Fld :=
  { addr := 0x340188 + 0x100 * n, lo := 24, width := 8, reset := 0xfe, acc := .ro }
/-- UP_MPD_LO.MPD_LO: mpd, unit 2^-16 ns -/
def UP_MPD_LO_MPD_LO (n : Nat) : Fld :=
  { addr := 0x34018c + 0x100 * n, lo := 0, width := 32, reset := 0, acc := .ro }
/-- UP_MPD_HI.MPD_HI: Signed -/
def UP_MPD_HI_MPD_HI (n : Nat) : Fld :=
  { addr := 0x340190 + 0x100 * n, lo := 0, width := 32, reset := 0, acc := .ro }
/-- UP_U_SRC.U: U_src (R253), unit 2^-8 ns -/
def UP_U_SRC_U (n : Nat) : Fld :=
  { addr := 0x340194 + 0x100 * n, lo := 0, width := 32, reset := 0xffffffff, acc := .ro }
/-- UP_STATE.STATE: 0b000: IDLE; 0b001: LISTENING; 0b010: NEGOTIATING; 0b011: SLAVE; 0b100: LOST -/
def UP_STATE_STATE (n : Nat) : Fld :=
  { addr := 0x340198 + 0x100 * n, lo := 0, width := 3, reset := 0, acc := .ro }
/-- UP_STATE.U_FROM: Rule of R253 in use: 0b01 to 0b11 -/
def UP_STATE_U_FROM (n : Nat) : Fld :=
  { addr := 0x340198 + 0x100 * n, lo := 3, width := 2, reset := 3, acc := .ro }
/-- PTP_PEER_DELAY.DELAY: Neighbour delay (R234), unit 2^-8 ns -/
def PTP_PEER_DELAY_DELAY (n : Nat) : Fld :=
  { addr := 0x34019c + 0x100 * n, lo := 0, width := 32, reset := 0, acc := .ro }
/-- UP_ADDR_0.ADDR: IPv6 address octets 0 to 11, octet 0 in [31:24] of the first word; unused for IPv4 -/
def UP_ADDR_0_ADDR (n : Nat) (m : Nat) : Fld :=
  { addr := 0x3401c0 + 0x100 * n + 0x10 * m, lo := 0, width := 32, reset := 0, acc := .rw, role := some .installer }
/-- UP_ADDR_1.ADDR: IPv6 address octets 0 to 11, octet 0 in [31:24] of the first word; unused for IPv4 -/
def UP_ADDR_1_ADDR (n : Nat) (m : Nat) : Fld :=
  { addr := 0x3401c4 + 0x100 * n + 0x10 * m, lo := 0, width := 32, reset := 0, acc := .rw, role := some .installer }
/-- UP_ADDR_2.ADDR: IPv6 address octets 0 to 11, octet 0 in [31:24] of the first word; unused for IPv4 -/
def UP_ADDR_2_ADDR (n : Nat) (m : Nat) : Fld :=
  { addr := 0x3401c8 + 0x100 * n + 0x10 * m, lo := 0, width := 32, reset := 0, acc := .rw, role := some .installer }
/-- UP_ADDR_LAST.ADDR: IPv6 octets 12 to 15, or the IPv4 address -/
def UP_ADDR_LAST_ADDR (n : Nat) (m : Nat) : Fld :=
  { addr := 0x3401cc + 0x100 * n + 0x10 * m, lo := 0, width := 32, reset := 0, acc := .rw, role := some .installer }
/-- SA_CFG.VALID -/
def SA_CFG_VALID (n : Nat) : Fld :=
  { addr := 0x340800 + 0x20 * n, lo := 0, width := 1, reset := 0, acc := .rw, role := some .installer }
/-- SA_CFG.TX: May sign transmissions -/
def SA_CFG_TX (n : Nat) : Fld :=
  { addr := 0x340800 + 0x20 * n, lo := 1, width := 1, reset := 0, acc := .rw, role := some .installer }
/-- SA_CFG.GROUP: Used for multicast -/
def SA_CFG_GROUP (n : Nat) : Fld :=
  { addr := 0x340800 + 0x20 * n, lo := 2, width := 1, reset := 0, acc := .rw, role := some .installer }
/-- SA_CFG.ALG: 0: HMAC-SHA-256-128; 1: AES-CMAC -/
def SA_CFG_ALG (n : Nat) : Fld :=
  { addr := 0x340800 + 0x20 * n, lo := 3, width := 1, reset := 0, acc := .rw, role := some .installer }
/-- SA_CFG.SPP -/
def SA_CFG_SPP (n : Nat) : Fld :=
  { addr := 0x340800 + 0x20 * n, lo := 8, width := 8, reset := 0, acc := .rw, role := some .installer }
/-- SA_CFG.KEY_SLOT: Key table slot (R246) -/
def SA_CFG_KEY_SLOT (n : Nat) : Fld :=
  { addr := 0x340800 + 0x20 * n, lo := 16, width := 12, reset := 0, acc := .rw, role := some .installer }
/-- SA_KEY_ID.KEY_ID -/
def SA_KEY_ID_KEY_ID (n : Nat) : Fld :=
  { addr := 0x340804 + 0x20 * n, lo := 0, width := 32, reset := 0, acc := .rw, role := some .installer }
/-- SA_FROM_LO.FROM_LO: LINEAR_NS -/
def SA_FROM_LO_FROM_LO (n : Nat) : Fld :=
  { addr := 0x340808 + 0x20 * n, lo := 0, width := 32, reset := 0, acc := .rw, role := some .installer }
/-- SA_FROM_HI.FROM_HI -/
def SA_FROM_HI_FROM_HI (n : Nat) : Fld :=
  { addr := 0x34080c + 0x20 * n, lo := 0, width := 32, reset := 0, acc := .rw, role := some .installer }
/-- SA_UNTIL_LO.UNTIL_LO: LINEAR_NS -/
def SA_UNTIL_LO_UNTIL_LO (n : Nat) : Fld :=
  { addr := 0x340810 + 0x20 * n, lo := 0, width := 32, reset := 0xffffffff, acc := .rw, role := some .installer }
/-- SA_UNTIL_HI.UNTIL_HI -/
def SA_UNTIL_HI_UNTIL_HI (n : Nat) : Fld :=
  { addr := 0x340814 + 0x20 * n, lo := 0, width := 32, reset := 0x7fffffff, acc := .rw, role := some .installer }
/-- SA_USES.COUNT: Messages verified or signed -/
def SA_USES_COUNT (n : Nat) : Fld :=
  { addr := 0x340818 + 0x20 * n, lo := 0, width := 32, reset := 0, acc := .rc, live := true }
/-- NTP_CTRL.PORT_EN: Bit p: PORT_p answers (R260) -/
def NTP_CTRL_PORT_EN : Fld :=
  { addr := 0x341000, lo := 0, width := 4, reset := 0, acc := .rw, role := some .installer }
/-- NTP_CTRL.UNSYNC_DROP: R264 -/
def NTP_CTRL_UNSYNC_DROP : Fld :=
  { addr := 0x341000, lo := 4, width := 1, reset := 0, acc := .rw, role := some .installer }
/-- NTP_CTRL.EXCEEDED_UNSYNC: R264 -/
def NTP_CTRL_EXCEEDED_UNSYNC : Fld :=
  { addr := 0x341000, lo := 5, width := 1, reset := 0, acc := .rw, role := some .installer }
/-- NTP_CTRL.NTP_TO_HOST: Live. R261 -/
def NTP_CTRL_NTP_TO_HOST : Fld :=
  { addr := 0x341000, lo := 6, width := 1, reset := 0, acc := .rw, role := some .installer, live := true }
/-- NTP_CTRL.NTS_EN: 0: NTS requests dropped and counted in NTS_MALFORMED -/
def NTP_CTRL_NTS_EN : Fld :=
  { addr := 0x341000, lo := 7, width := 1, reset := 1, acc := .rw, role := some .installer }
/-- NTP_CTRL.LAUNCH_LEAD: Unit 1 µs, 2 to 255 (R274) -/
def NTP_CTRL_LAUNCH_LEAD : Fld :=
  { addr := 0x341000, lo := 8, width := 8, reset := 0xa, acc := .rw, role := some .installer, range := some (2, 255) }
/-- NTP_CTRL.NTS_MAX_COOKIES: 1 to 8 -/
def NTP_CTRL_NTS_MAX_COOKIES : Fld :=
  { addr := 0x341000, lo := 16, width := 4, reset := 8, acc := .rw, role := some .installer, range := some (1, 8) }
/-- NTP_STATUS.SERVING: Bit p: PORT_p answers now -/
def NTP_STATUS_SERVING : Fld :=
  { addr := 0x341004, lo := 0, width := 4, reset := 0, acc := .ro }
/-- NTP_STATUS.UNSYNC: R264 -/
def NTP_STATUS_UNSYNC : Fld :=
  { addr := 0x341004, lo := 4, width := 1, reset := 0, acc := .ro }
/-- NTP_STATUS.LI: LI of a reply composed now, unsmeared -/
def NTP_STATUS_LI : Fld :=
  { addr := 0x341004, lo := 5, width := 2, reset := 3, acc := .ro }
/-- NTP_STATUS.MINT_ENTRY: Minting entry, valid when MINT_VALID is 1 -/
def NTP_STATUS_MINT_ENTRY : Fld :=
  { addr := 0x341004, lo := 8, width := 4, reset := 0, acc := .ro }
/-- NTP_STATUS.MINT_VALID: R272 -/
def NTP_STATUS_MINT_VALID : Fld :=
  { addr := 0x341004, lo := 12, width := 1, reset := 0, acc := .ro }
/-- NTP_STICKY.STICKY: Live. Conditions of 0x0521 to 0x0527 in order -/
def NTP_STICKY_STICKY : Fld :=
  { addr := 0x341008, lo := 0, width := 7, reset := 0, acc := .w1c, role := some .operator, live := true }
/-- NTP_EVT_EN.EN: Live. [6:0] NTP_STICKY events; [7] 0x0520 -/
def NTP_EVT_EN_EN : Fld :=
  { addr := 0x34100c, lo := 0, width := 8, reset := 0xff, acc := .rw, role := some .installer, live := true }
/-- NTP_KOD_LIMIT.RATE: Kiss packets per second, 0 to 1,000,000; reset is 100,000 -/
def NTP_KOD_LIMIT_RATE : Fld :=
  { addr := 0x341010, lo := 0, width := 24, reset := 0x186a0, acc := .rw, role := some .installer, range := some (0, 1000000) }
/-- NTP_REFID.REFID: Reference ID for LANE_n, first character in [31:24]; 0: default of R265 -/
def NTP_REFID_REFID (n : Nat) : Fld :=
  { addr := 0x341040 + 0x4 * n, lo := 0, width := 32, reset := 0, acc := .rw, role := some .installer }
/-- NTP_CLASS.SMEAR: R267 -/
def NTP_CLASS_SMEAR (n : Nat) : Fld :=
  { addr := 0x341100 + 0x4 * n, lo := 0, width := 1, reset := 0, acc := .rw, role := some .installer }
/-- NTP_CLASS.KOD_RATE: R269 -/
def NTP_CLASS_KOD_RATE (n : Nat) : Fld :=
  { addr := 0x341100 + 0x4 * n, lo := 1, width := 1, reset := 0, acc := .rw, role := some .installer }
/-- NTP_CLASS.NTS_ONLY: R269 -/
def NTP_CLASS_NTS_ONLY (n : Nat) : Fld :=
  { addr := 0x341100 + 0x4 * n, lo := 2, width := 1, reset := 0, acc := .rw, role := some .installer }
/-- NTP_CLASS.KOD_DENY: R269 -/
def NTP_CLASS_KOD_DENY (n : Nat) : Fld :=
  { addr := 0x341100 + 0x4 * n, lo := 3, width := 1, reset := 0, acc := .rw, role := some .installer }
/-- NTP_CLASS.MINPOLL: 0 to 17 -/
def NTP_CLASS_MINPOLL (n : Nat) : Fld :=
  { addr := 0x341100 + 0x4 * n, lo := 8, width := 5, reset := 0, acc := .rw, role := some .installer, range := some (0, 17) }
/-- NTP_RX.COUNT: Mode 3 requests received -/
def NTP_RX_COUNT : Fld :=
  { addr := 0x341200, lo := 0, width := 32, reset := 0, acc := .rc, live := true }
/-- NTP_TX.COUNT: Plain replies sent, kiss packets included -/
def NTP_TX_COUNT : Fld :=
  { addr := 0x341204, lo := 0, width := 32, reset := 0, acc := .rc, live := true }
/-- NTS_TX.COUNT: NTS replies sent -/
def NTS_TX_COUNT : Fld :=
  { addr := 0x341208, lo := 0, width := 32, reset := 0, acc := .rc, live := true }
/-- COOKIES_MINTED.COUNT: Including NTS_COOKIE_MAKE -/
def COOKIES_MINTED_COUNT : Fld :=
  { addr := 0x34120c, lo := 0, width := 32, reset := 0, acc := .rc, live := true }
/-- NTP_NOT_SERVING.COUNT: R260 -/
def NTP_NOT_SERVING_COUNT : Fld :=
  { addr := 0x341210, lo := 0, width := 32, reset := 0, acc := .rc, live := true }
/-- VERSION_DISCARD.COUNT: R261 -/
def VERSION_DISCARD_COUNT : Fld :=
  { addr := 0x341214, lo := 0, width := 32, reset := 0, acc := .rc, live := true }
/-- MODE_DISCARD.COUNT: R261 -/
def MODE_DISCARD_COUNT : Fld :=
  { addr := 0x341218, lo := 0, width := 32, reset := 0, acc := .rc, live := true }
/-- MAC_UNSUPPORTED.COUNT: R262 -/
def MAC_UNSUPPORTED_COUNT : Fld :=
  { addr := 0x34121c, lo := 0, width := 32, reset := 0, acc := .rc, live := true }
/-- UNSYNC_DROPPED.COUNT: R264 -/
def UNSYNC_DROPPED_COUNT : Fld :=
  { addr := 0x341220, lo := 0, width := 32, reset := 0, acc := .rc, live := true }
/-- PLAIN_REFUSED.COUNT: R269 -/
def PLAIN_REFUSED_COUNT : Fld :=
  { addr := 0x341224, lo := 0, width := 32, reset := 0, acc := .rc, live := true }
/-- KOD_SUPPRESSED.COUNT: R269 -/
def KOD_SUPPRESSED_COUNT : Fld :=
  { addr := 0x341228, lo := 0, width := 32, reset := 0, acc := .rc, live := true }
/-- NTS_MALFORMED.COUNT: R273 -/
def NTS_MALFORMED_COUNT : Fld :=
  { addr := 0x34122c, lo := 0, width := 32, reset := 0, acc := .rc, live := true }
/-- COOKIE_KEY_UNKNOWN.COUNT: R273 -/
def COOKIE_KEY_UNKNOWN_COUNT : Fld :=
  { addr := 0x341230, lo := 0, width := 32, reset := 0, acc := .rc, live := true }
/-- COOKIE_BAD.COUNT: R273 -/
def COOKIE_BAD_COUNT : Fld :=
  { addr := 0x341234, lo := 0, width := 32, reset := 0, acc := .rc, live := true }
/-- NTS_AUTH_BAD.COUNT: R273, R276 -/
def NTS_AUTH_BAD_COUNT : Fld :=
  { addr := 0x341238, lo := 0, width := 32, reset := 0, acc := .rc, live := true }
/-- NO_MINT_KEY.COUNT: R273 -/
def NO_MINT_KEY_COUNT : Fld :=
  { addr := 0x34123c, lo := 0, width := 32, reset := 0, acc := .rc, live := true }
/-- NO_RANDOM.COUNT: R273 -/
def NO_RANDOM_COUNT : Fld :=
  { addr := 0x341240, lo := 0, width := 32, reset := 0, acc := .rc, live := true }
/-- NTP_TX_LATE_DROP.COUNT: R274 -/
def NTP_TX_LATE_DROP_COUNT : Fld :=
  { addr := 0x341244, lo := 0, width := 32, reset := 0, acc := .rc, live := true }
/-- STALE_DROP.COUNT: R275 -/
def NTP_STALE_DROP_COUNT : Fld :=
  { addr := 0x341248, lo := 0, width := 32, reset := 0, acc := .rc, live := true }
/-- COOKIES_TRIMMED.COUNT: Cookies withheld by the length rule of R273 -/
def COOKIES_TRIMMED_COUNT : Fld :=
  { addr := 0x34124c, lo := 0, width := 32, reset := 0, acc := .rc, live := true }
/-- MK_CFG.VALID -/
def MK_CFG_VALID (n : Nat) : Fld :=
  { addr := 0x341400 + 0x20 * n, lo := 0, width := 1, reset := 0, acc := .rw, role := some .installer }
/-- MK_CFG.MINT: R272 -/
def MK_CFG_MINT (n : Nat) : Fld :=
  { addr := 0x341400 + 0x20 * n, lo := 1, width := 1, reset := 0, acc := .rw, role := some .installer }
/-- MK_CFG.KEY_SLOT: Slot of usage NTS_MASTER -/
def MK_CFG_KEY_SLOT (n : Nat) : Fld :=
  { addr := 0x341400 + 0x20 * n, lo := 16, width := 12, reset := 0, acc := .rw, role := some .installer }
/-- MK_KEY_ID.KEY_ID: Written into bytes 0 to 3 of each cookie -/
def MK_KEY_ID_KEY_ID (n : Nat) : Fld :=
  { addr := 0x341404 + 0x20 * n, lo := 0, width := 32, reset := 0, acc := .rw, role := some .installer }
/-- MK_FROM_LO.FROM_LO: LINEAR_NS -/
def MK_FROM_LO_FROM_LO (n : Nat) : Fld :=
  { addr := 0x341408 + 0x20 * n, lo := 0, width := 32, reset := 0, acc := .rw, role := some .installer }
/-- MK_FROM_HI.FROM_HI -/
def MK_FROM_HI_FROM_HI (n : Nat) : Fld :=
  { addr := 0x34140c + 0x20 * n, lo := 0, width := 32, reset := 0, acc := .rw, role := some .installer }
/-- MK_UNTIL_LO.UNTIL_LO: LINEAR_NS -/
def MK_UNTIL_LO_UNTIL_LO (n : Nat) : Fld :=
  { addr := 0x341410 + 0x20 * n, lo := 0, width := 32, reset := 0xffffffff, acc := .rw, role := some .installer }
/-- MK_UNTIL_HI.UNTIL_HI -/
def MK_UNTIL_HI_UNTIL_HI (n : Nat) : Fld :=
  { addr := 0x341414 + 0x20 * n, lo := 0, width := 32, reset := 0x7fffffff, acc := .rw, role := some .installer }
/-- MK_OPENED.COUNT: Cookies opened under this entry -/
def MK_OPENED_COUNT (n : Nat) : Fld :=
  { addr := 0x341418 + 0x20 * n, lo := 0, width := 32, reset := 0, acc := .rc, live := true }
/-- MK_MINTED.COUNT: Cookies sealed under this entry -/
def MK_MINTED_COUNT (n : Nat) : Fld :=
  { addr := 0x34141c + 0x20 * n, lo := 0, width := 32, reset := 0, acc := .rc, live := true }
/-- KEY_STATUS.SLOTS_USED: Slots not EMPTY -/
def KEY_STATUS_SLOTS_USED : Fld :=
  { addr := 0x360000, lo := 0, width := 13, reset := 0, acc := .ro }
/-- KEY_STATUS.MISMATCH_SLOT: Last slot that raised 0x0613 -/
def KEY_STATUS_MISMATCH_SLOT : Fld :=
  { addr := 0x360000, lo := 16, width := 16, reset := 0, acc := .ro }
/-- KEY_STICKY.STICKY: Live. [0] UNWRAP_FAIL; [1] KEY_MISMATCH -/
def KEY_STICKY_STICKY : Fld :=
  { addr := 0x360004, lo := 0, width := 2, reset := 0, acc := .w1c, role := some .operator, live := true }
/-- KEY_EVT_EN.EN: Live. [1:0] KEY_STICKY events; [2] 0x0610; [3] 0x0611 -/
def KEY_EVT_EN_EN : Fld :=
  { addr := 0x360008, lo := 0, width := 4, reset := 0xf, acc := .rw, role := some .installer, live := true }
/-- KEY_META.VALID: Slot s, for s from 0 to 4,095 -/
def KEY_META_VALID (n : Nat) : Fld :=
  { addr := 0x361000 + 0x8 * n, lo := 0, width := 1, reset := 0, acc := .ro }
/-- KEY_META.USAGE: R278 -/
def KEY_META_USAGE (n : Nat) : Fld :=
  { addr := 0x361000 + 0x8 * n, lo := 1, width := 3, reset := 0, acc := .ro }
/-- KEY_META.WRAPPED: Installed under a KEK -/
def KEY_META_WRAPPED (n : Nat) : Fld :=
  { addr := 0x361000 + 0x8 * n, lo := 4, width := 1, reset := 0, acc := .ro }
/-- KEY_META.IN_USE: R278 -/
def KEY_META_IN_USE (n : Nat) : Fld :=
  { addr := 0x361000 + 0x8 * n, lo := 5, width := 1, reset := 0, acc := .ro }
/-- KEY_META.LEN: Key length in bytes -/
def KEY_META_LEN (n : Nat) : Fld :=
  { addr := 0x361000 + 0x8 * n, lo := 8, width := 8, reset := 0, acc := .ro }
/-- KEY_KCV.KCV: R279 -/
def KEY_KCV_KCV (n : Nat) : Fld :=
  { addr := 0x361004 + 0x8 * n, lo := 0, width := 24, reset := 0, acc := .ro }
/-- CLT_STATUS.ENTRIES: Valid entries -/
def CLT_STATUS_ENTRIES : Fld :=
  { addr := 0x380000, lo := 0, width := 23, reset := 0, acc := .ro }
/-- CLT_STATUS.READY: R300 -/
def CLT_STATUS_READY : Fld :=
  { addr := 0x380000, lo := 24, width := 1, reset := 0, acc := .ro }
/-- CLT_STATUS.OVERLOAD: R296 -/
def CLT_STATUS_OVERLOAD : Fld :=
  { addr := 0x380000, lo := 25, width := 1, reset := 0, acc := .ro }
/-- CLT_STATUS.OVERCOMMIT: R298 -/
def CLT_STATUS_OVERCOMMIT : Fld :=
  { addr := 0x380000, lo := 26, width := 1, reset := 0, acc := .ro }
/-- CLT_STATUS.AUTH_REDUCED: R294 -/
def CLT_STATUS_AUTH_REDUCED : Fld :=
  { addr := 0x380000, lo := 27, width := 1, reset := 0, acc := .ro }
/-- CLT_STICKY.STICKY: Live. Conditions of 0x0531 to 0x0535 in order -/
def CLT_STICKY_STICKY : Fld :=
  { addr := 0x380004, lo := 0, width := 5, reset := 0, acc := .w1c, role := some .operator, live := true }
/-- CLT_EVT_EN.EN: Live. [4:0] CLT_STICKY events; [5] 0x0530 -/
def CLT_EVT_EN_EN : Fld :=
  { addr := 0x380008, lo := 0, width := 6, reset := 0x3f, acc := .rw, role := some .installer, live := true }
/-- CLT_CTRL.SIZE_LOG2: Slots as a power of 2, 16 to 22 -/
def CLT_CTRL_SIZE_LOG2 : Fld :=
  { addr := 0x38000c, lo := 0, width := 5, reset := 0x16, acc := .rw, role := some .installer, range := some (16, 22) }
/-- CLT_CTRL.LEARN_EN: R287 -/
def CLT_CTRL_LEARN_EN : Fld :=
  { addr := 0x38000c, lo := 8, width := 1, reset := 1, acc := .rw, role := some .installer }
/-- CLT_CTRL.SHED_MAX: 1 to 255 (R296) -/
def CLT_CTRL_SHED_MAX : Fld :=
  { addr := 0x38000c, lo := 16, width := 8, reset := 0xf0, acc := .rw, role := some .installer, range := some (1, 255) }
/-- CLT_CTRL.BASE_GB: DRAM base of the table, unit 1 GiB -/
def CLT_CTRL_BASE_GB : Fld :=
  { addr := 0x38000c, lo := 28, width := 4, reset := 0, acc := .rw, role := some .installer }
/-- CLT_AGE.AGE_TIME: Unit 1 s, 600 to 200,000; reset is 48 h -/
def CLT_AGE_AGE_TIME : Fld :=
  { addr := 0x380010, lo := 0, width := 18, reset := 0x2a300, acc := .rw, role := some .installer, range := some (600, 200000) }
/-- CLT_BUDGET.BUDGET: Messages per second, 1,000,000 to 32,000,000 -/
def CLT_BUDGET_BUDGET : Fld :=
  { addr := 0x380014, lo := 0, width := 25, reset := 0x1e84800, acc := .rw, role := some .installer, range := some (1000000, 32000000) }
/-- CLT_AUTH_BUDGET.BUDGET: Authenticated exchanges per second, 0 to 16,000,000 -/
def CLT_AUTH_BUDGET_BUDGET : Fld :=
  { addr := 0x380018, lo := 0, width := 24, reset := 0xf42400, acc := .rw, role := some .installer, range := some (0, 16000000) }
/-- CLT_FLOOR.F_EVENT: Unit 1/256 of C -/
def CLT_FLOOR_F_EVENT : Fld :=
  { addr := 0x38001c, lo := 0, width := 8, reset := 0, acc := .rw, role := some .installer }
/-- CLT_FLOOR.F_GENERAL -/
def CLT_FLOOR_F_GENERAL : Fld :=
  { addr := 0x38001c, lo := 8, width := 8, reset := 3, acc := .rw, role := some .installer }
/-- CLT_FLOOR.F_NTS -/
def CLT_FLOOR_F_NTS : Fld :=
  { addr := 0x38001c, lo := 16, width := 8, reset := 0x1a, acc := .rw, role := some .installer }
/-- CLT_FLOOR.F_PLAIN -/
def CLT_FLOOR_F_PLAIN : Fld :=
  { addr := 0x38001c, lo := 24, width := 8, reset := 0x1a, acc := .rw, role := some .installer }
/-- CLT_RESERVED.RESERVED: Messages per second (R294) -/
def CLT_RESERVED_RESERVED : Fld :=
  { addr := 0x380020, lo := 0, width := 25, reset := 0, acc := .ro }
/-- CLT_RESERVED_AUTH.RESERVED -/
def CLT_RESERVED_AUTH_RESERVED : Fld :=
  { addr := 0x380024, lo := 0, width := 25, reset := 0, acc := .ro }
/-- CLT_AUTH_EFF.EFF: R294 -/
def CLT_AUTH_EFF_EFF : Fld :=
  { addr := 0x380028, lo := 0, width := 25, reset := 0xf42400, acc := .ro }
/-- CLS_DEMAND.D: d_c of the last lap -/
def CLS_DEMAND_D (n : Nat) : Fld :=
  { addr := 0x380100 + 0x40 * n, lo := 0, width := 24, reset := 0, acc := .ro }
/-- CLS_ALLOW.A: a_c of the current lap -/
def CLS_ALLOW_A (n : Nat) : Fld :=
  { addr := 0x380104 + 0x40 * n, lo := 0, width := 24, reset := 0, acc := .ro }
/-- CLS_SHED.K: k_c -/
def CLS_SHED_K (n : Nat) : Fld :=
  { addr := 0x380108 + 0x40 * n, lo := 0, width := 8, reset := 0, acc := .ro }
/-- CLS_SHED.START: START_c -/
def CLS_SHED_START (n : Nat) : Fld :=
  { addr := 0x380108 + 0x40 * n, lo := 8, width := 8, reset := 0, acc := .ro }
/-- CLS_ADMITTED.COUNT -/
def CLS_ADMITTED_COUNT (n : Nat) : Fld :=
  { addr := 0x380110 + 0x40 * n, lo := 0, width := 32, reset := 0, acc := .rc, live := true }
/-- CLS_SHED_FAIR.COUNT: R296 -/
def CLS_SHED_FAIR_COUNT (n : Nat) : Fld :=
  { addr := 0x380114 + 0x40 * n, lo := 0, width := 32, reset := 0, acc := .rc, live := true }
/-- CLS_SHED_OVERFLOW.COUNT: R291, R297 -/
def CLS_SHED_OVERFLOW_COUNT (n : Nat) : Fld :=
  { addr := 0x380118 + 0x40 * n, lo := 0, width := 32, reset := 0, acc := .rc, live := true }
/-- CLS_SHED_PORT.COUNT: R293 -/
def CLS_SHED_PORT_COUNT (n : Nat) : Fld :=
  { addr := 0x38011c + 0x40 * n, lo := 0, width := 32, reset := 0, acc := .rc, live := true }
/-- CLS_SHED_CLIENT.COUNT: R292 -/
def CLS_SHED_CLIENT_COUNT (n : Nat) : Fld :=
  { addr := 0x380120 + 0x40 * n, lo := 0, width := 32, reset := 0, acc := .rc, live := true }
/-- CLS_REFUSED.COUNT: R291, R289 -/
def CLS_REFUSED_COUNT (n : Nat) : Fld :=
  { addr := 0x380124 + 0x40 * n, lo := 0, width := 32, reset := 0, acc := .rc, live := true }
/-- CLT_LEARNED.COUNT: R287 -/
def CLT_LEARNED_COUNT : Fld :=
  { addr := 0x380300, lo := 0, width := 32, reset := 0, acc := .rc, live := true }
/-- CLT_EVICTED.COUNT: R288 -/
def CLT_EVICTED_COUNT : Fld :=
  { addr := 0x380304, lo := 0, width := 32, reset := 0, acc := .rc, live := true }
/-- CLT_AGED.COUNT: R288 -/
def CLT_AGED_COUNT : Fld :=
  { addr := 0x380308, lo := 0, width := 32, reset := 0, acc := .rc, live := true }
/-- CLT_TABLE_FULL.COUNT: R288 -/
def CLT_TABLE_FULL_COUNT : Fld :=
  { addr := 0x38030c, lo := 0, width := 32, reset := 0, acc := .rc, live := true }
/-- CLT_ENTRY_BAD.COUNT: R290 -/
def CLT_ENTRY_BAD_COUNT : Fld :=
  { addr := 0x380310, lo := 0, width := 32, reset := 0, acc := .rc, live := true }
/-- CLT_NO_ENTRY.COUNT: Admitted without an entry -/
def CLT_NO_ENTRY_COUNT : Fld :=
  { addr := 0x380314, lo := 0, width := 32, reset := 0, acc := .rc, live := true }
/-- CLT_ORIG_SKIPPED.COUNT: R298 -/
def CLT_ORIG_SKIPPED_COUNT : Fld :=
  { addr := 0x380318, lo := 0, width := 32, reset := 0, acc := .rc, live := true }
/-- CLT_CACHE_HITS.COUNT -/
def CLT_CACHE_HITS_COUNT : Fld :=
  { addr := 0x38031c, lo := 0, width := 32, reset := 0, acc := .rc, live := true }
/-- CLT_CACHE_MISSES.COUNT -/
def CLT_CACHE_MISSES_COUNT : Fld :=
  { addr := 0x380320, lo := 0, width := 32, reset := 0, acc := .rc, live := true }
/-- PB_RATE.RATE: Per second; 0 closes the class on the port; CONTROL resets to 0x001_86A0 (100,000) -/
def PB_RATE_RATE (n : Nat) (m : Nat) : Fld :=
  { addr := 0x380400 + 0x40 * n + 0x8 * m, lo := 0, width := 25, reset := if m = 4 then 0x186A0 else 0x1E84800, acc := .rw, role := some .installer }
/-- PB_DEPTH.DEPTH: Requests, 1 to 16,777,215; CONTROL resets to 0x00_2710 (10,000) -/
def PB_DEPTH_DEPTH (n : Nat) (m : Nat) : Fld :=
  { addr := 0x380404 + 0x40 * n + 0x8 * m, lo := 0, width := 24, reset := if m = 4 then 0x2710 else 0x7A120, acc := .rw, role := some .installer, range := some (1, 16777215) }
/-- RULE_ADDR.ADDR: IPv6 octet 0 in [31:24] of RULE_ADDR_0; IPv4 in RULE_ADDR_3; MAC in RULE_ADDR_2[15:0] and RULE_ADDR_3 -/
def RULE_ADDR_ADDR (n : Nat) (m : Nat) : Fld :=
  { addr := 0x381000 + 0x20 * n + 0x4 * m, lo := 0, width := 32, reset := 0, acc := .rw, role := some .installer }
/-- RULE_CFG.PREFIX_LEN: 0 to 32 for IPv4, 128 for IPv6, 48 for L2 -/
def RULE_CFG_PREFIX_LEN (n : Nat) : Fld :=
  { addr := 0x381010 + 0x20 * n, lo := 0, width := 8, reset := 0, acc := .rw, role := some .installer }
/-- RULE_CFG.FAMILY: As KEY_TYPE -/
def RULE_CFG_FAMILY (n : Nat) : Fld :=
  { addr := 0x381010 + 0x20 * n, lo := 8, width := 2, reset := 0, acc := .rw, role := some .installer }
/-- RULE_CFG.PORTS: Bit p: PORT_p -/
def RULE_CFG_PORTS (n : Nat) : Fld :=
  { addr := 0x381010 + 0x20 * n, lo := 10, width := 4, reset := 0xf, acc := .rw, role := some .installer }
/-- RULE_CFG.VALID: Rule 255 reads 1 -/
def RULE_CFG_VALID (n : Nat) : Fld :=
  { addr := 0x381010 + 0x20 * n, lo := 16, width := 1, reset := if n = 255 then 1 else 0, acc := .rw, role := some .installer }
/-- RULE_CFG.LEARN: R287 -/
def RULE_CFG_LEARN (n : Nat) : Fld :=
  { addr := 0x381010 + 0x20 * n, lo := 17, width := 1, reset := 1, acc := .rw, role := some .installer }
/-- RULE_CFG.PTP_OK: R291 -/
def RULE_CFG_PTP_OK (n : Nat) : Fld :=
  { addr := 0x381010 + 0x20 * n, lo := 18, width := 1, reset := 1, acc := .rw, role := some .installer }
/-- RULE_CFG.DENY: R287 -/
def RULE_CFG_DENY (n : Nat) : Fld :=
  { addr := 0x381010 + 0x20 * n, lo := 19, width := 1, reset := 0, acc := .rw, role := some .installer }
/-- RULE_CFG.NTP_CLASS: R267 -/
def RULE_CFG_NTP_CLASS (n : Nat) : Fld :=
  { addr := 0x381010 + 0x20 * n, lo := 20, width := 4, reset := 0, acc := .rw, role := some .installer }
/-- RULE_RATE.RATE: Unit 1/16 request per s; 0 means no limit -/
def RULE_RATE_RATE (n : Nat) : Fld :=
  { addr := 0x381014 + 0x20 * n, lo := 0, width := 24, reset := 0, acc := .rw, role := some .installer }
/-- RULE_RATE.BURST: Requests, 1 to 255 -/
def RULE_RATE_BURST (n : Nat) : Fld :=
  { addr := 0x381014 + 0x20 * n, lo := 24, width := 8, reset := 8, acc := .rw, role := some .installer, range := some (1, 255) }
/-- RULE_HITS.COUNT: Requests matched -/
def RULE_HITS_COUNT (n : Nat) : Fld :=
  { addr := 0x381018 + 0x20 * n, lo := 0, width := 32, reset := 0, acc := .rc, live := true }
/-- PORT_CFG.MODE: R304 -/
def PORT_CFG_MODE (n : Nat) : Fld :=
  { addr := 0x300000 + 0x4000 * n, lo := 0, width := 3, reset := 4, acc := .rw, role := some .installer }
/-- PORT_CFG.FEC: 0b00: none; 0b01: RS(528,514); 0b10: RS(544,514) -/
def PORT_CFG_FEC (n : Nat) : Fld :=
  { addr := 0x300000 + 0x4000 * n, lo := 4, width := 2, reset := 1, acc := .rw, role := some .installer }
/-- PORT_CFG.AN_EN: Clause 37, 1000BASE-X only -/
def PORT_CFG_AN_EN (n : Nat) : Fld :=
  { addr := 0x300000 + 0x4000 * n, lo := 6, width := 1, reset := 1, acc := .rw, role := some .installer }
/-- PORT_CFG.STRIP_FCS: R313 -/
def PORT_CFG_STRIP_FCS (n : Nat) : Fld :=
  { addr := 0x300000 + 0x4000 * n, lo := 7, width := 1, reset := 1, acc := .rw, role := some .installer }
/-- PORT_CFG.MAX_FRAME: Bytes, 1,518 to 9,216 -/
def PORT_CFG_MAX_FRAME (n : Nat) : Fld :=
  { addr := 0x300000 + 0x4000 * n, lo := 16, width := 14, reset := 0x5f2, acc := .rw, role := some .installer, range := some (1518, 9216) }
/-- PORT_TX_EQ.PRE: Pre-cursor, 0 to 15 -/
def PORT_TX_EQ_PRE (n : Nat) : Fld :=
  { addr := 0x300004 + 0x4000 * n, lo := 0, width := 6, reset := 4, acc := .rw, role := some .installer, range := some (0, 15) }
/-- PORT_TX_EQ.MAIN: Main cursor, 32 to 63 -/
def PORT_TX_EQ_MAIN (n : Nat) : Fld :=
  { addr := 0x300004 + 0x4000 * n, lo := 6, width := 6, reset := 0x30, acc := .rw, role := some .installer, range := some (32, 63) }
/-- PORT_TX_EQ.POST: Post-cursor, 0 to 31 -/
def PORT_TX_EQ_POST (n : Nat) : Fld :=
  { addr := 0x300004 + 0x4000 * n, lo := 12, width := 6, reset := 8, acc := .rw, role := some .installer, range := some (0, 31) }
/-- STATION_MAC_LO.MAC_LO: Octets 2 to 5, octet 5 in [7:0] -/
def STATION_MAC_LO_MAC_LO (n : Nat) : Fld :=
  { addr := 0x300010 + 0x4000 * n, lo := 0, width := 32, reset := 0, acc := .rw, role := some .installer }
/-- STATION_MAC_HI.MAC_HI: Octets 0 to 1, octet 1 in [7:0] -/
def STATION_MAC_HI_MAC_HI (n : Nat) : Fld :=
  { addr := 0x300014 + 0x4000 * n, lo := 0, width := 16, reset := 0, acc := .rw, role := some .installer }
/-- LOCAL_MAC_LO.MAC_LO: As STATION_MAC_LO (R319) -/
def LOCAL_MAC_LO_MAC_LO (n : Nat) : Fld :=
  { addr := 0x300018 + 0x4000 * n, lo := 0, width := 32, reset := Config.fused ((0x300018 + 0x4000 * n) * 32) % 2 ^ 32, acc := .ro }
/-- LOCAL_MAC_HI.MAC_HI -/
def LOCAL_MAC_HI_MAC_HI (n : Nat) : Fld :=
  { addr := 0x30001c + 0x4000 * n, lo := 0, width := 16, reset := Config.fused ((0x30001c + 0x4000 * n) * 32) % 2 ^ 16, acc := .ro }
/-- IPV4_ADDR.ADDR: Octet 0 in [31:24]; 0: none -/
def IPV4_ADDR_ADDR (n : Nat) : Fld :=
  { addr := 0x300020 + 0x4000 * n, lo := 0, width := 32, reset := 0, acc := .rw, role := some .installer }
/-- IPV6_A.ADDR: Octet 0 in [31:24] of IPV6_A_0; all 0: none -/
def IPV6_A_ADDR (n : Nat) (m : Nat) : Fld :=
  { addr := 0x300030 + 0x4000 * n + 0x4 * m, lo := 0, width := 32, reset := 0, acc := .rw, role := some .installer }
/-- IPV6_B.ADDR: As IPV6_A -/
def IPV6_B_ADDR (n : Nat) (m : Nat) : Fld :=
  { addr := 0x300040 + 0x4000 * n + 0x4 * m, lo := 0, width := 32, reset := 0, acc := .rw, role := some .installer }
/-- VLAN_CTRL.UNTAGGED_OK: R311 -/
def VLAN_CTRL_UNTAGGED_OK (n : Nat) : Fld :=
  { addr := 0x300050 + 0x4000 * n, lo := 0, width := 1, reset := 1, acc := .rw, role := some .installer }
/-- VLAN_CTRL.TX_PCP: R316 -/
def VLAN_CTRL_TX_PCP (n : Nat) : Fld :=
  { addr := 0x300050 + 0x4000 * n, lo := 12, width := 3, reset := 6, acc := .rw, role := some .installer }
/-- VLAN_CTRL.UNTAGGED_PRI: R316, R320 -/
def VLAN_CTRL_UNTAGGED_PRI (n : Nat) : Fld :=
  { addr := 0x300050 + 0x4000 * n, lo := 16, width := 3, reset := 0, acc := .rw, role := some .installer }
/-- VLAN_CTRL.TX_VLAN: 0: untagged -/
def VLAN_CTRL_TX_VLAN (n : Nat) : Fld :=
  { addr := 0x300050 + 0x4000 * n, lo := 20, width := 12, reset := 0, acc := .rw, role := some .installer }
/-- VLAN.VID: Entry i, for i from 0 to 15 -/
def VLAN_VID (n : Nat) (m : Nat) : Fld :=
  { addr := 0x300060 + 0x4000 * n + 0x4 * m, lo := 0, width := 12, reset := 0, acc := .rw, role := some .installer }
/-- VLAN.VALID -/
def VLAN_VALID (n : Nat) (m : Nat) : Fld :=
  { addr := 0x300060 + 0x4000 * n + 0x4 * m, lo := 12, width := 1, reset := 0, acc := .rw, role := some .installer }
/-- MC_FILTER_LO.MAC_LO: Entry j, for j from 0 to 15; octets 2 to 5 -/
def MC_FILTER_LO_MAC_LO (n : Nat) (m : Nat) : Fld :=
  { addr := 0x3000a0 + 0x4000 * n + 0x8 * m, lo := 0, width := 32, reset := 0, acc := .rw, role := some .installer }
/-- MC_FILTER_HI.MAC_HI: Octets 0 to 1 -/
def MC_FILTER_HI_MAC_HI (n : Nat) (m : Nat) : Fld :=
  { addr := 0x3000a4 + 0x4000 * n + 0x8 * m, lo := 0, width := 16, reset := 0, acc := .rw, role := some .installer }
/-- MC_FILTER_HI.VALID -/
def MC_FILTER_HI_VALID (n : Nat) (m : Nat) : Fld :=
  { addr := 0x3000a4 + 0x4000 * n + 0x8 * m, lo := 16, width := 1, reset := 0, acc := .rw, role := some .installer }
/-- MC_FILTER_HI.MATCH_24: Compare octets 0 to 2 only -/
def MC_FILTER_HI_MATCH_24 (n : Nat) (m : Nat) : Fld :=
  { addr := 0x3000a4 + 0x4000 * n + 0x8 * m, lo := 17, width := 1, reset := 0, acc := .rw, role := some .installer }
/-- TX_PHY_DELAY.DELAY: Unit 2^-10 ns, for the current mode -/
def TX_PHY_DELAY_DELAY (n : Nat) : Fld :=
  { addr := 0x300140 + 0x4000 * n, lo := 0, width := 32, reset := Config.fused ((0x300140 + 0x4000 * n) * 32) % 2 ^ 32, acc := .ro }
/-- RX_PHY_DELAY.DELAY: Unit 2^-10 ns -/
def RX_PHY_DELAY_DELAY (n : Nat) : Fld :=
  { addr := 0x300144 + 0x4000 * n, lo := 0, width := 32, reset := Config.fused ((0x300144 + 0x4000 * n) * 32) % 2 ^ 32, acc := .ro }
/-- RX_SKEW.SKEW: Unit 2^-10 ns, measured at ALIGNING -/
def RX_SKEW_SKEW (n : Nat) : Fld :=
  { addr := 0x300148 + 0x4000 * n, lo := 0, width := 32, reset := 0, acc := .ro }
/-- TX_EXT_DELAY.DELAY: Signed, unit 2^-10 ns, within ±1,024,000 units -/
def TX_EXT_DELAY_DELAY (n : Nat) : Fld :=
  { addr := 0x30014c + 0x4000 * n, lo := 0, width := 32, reset := 0, acc := .rw, role := some .installer, sgn := true, range := some (-1024000, 1024000) }
/-- RX_EXT_DELAY.DELAY: As TX_EXT_DELAY -/
def RX_EXT_DELAY_DELAY (n : Nat) : Fld :=
  { addr := 0x300150 + 0x4000 * n, lo := 0, width := 32, reset := 0, acc := .rw, role := some .installer, sgn := true, range := some (-1024000, 1024000) }
/-- P_BASE.P: Unit 2^-8 ns (R304) -/
def P_BASE_P (n : Nat) : Fld :=
  { addr := 0x300154 + 0x4000 * n, lo := 0, width := 32, reset := Config.fused ((0x300154 + 0x4000 * n) * 32) % 2 ^ 32, acc := .ro }
/-- EXT_U.U: Unit 2^-8 ns, 0 to 25,600 -/
def EXT_U_U (n : Nat) : Fld :=
  { addr := 0x300158 + 0x4000 * n, lo := 0, width := 32, reset := 0, acc := .rw, role := some .installer, range := some (0, 25600) }
/-- P_PORT.P: Present P_port (R308), unit 2^-8 ns -/
def P_PORT_P (n : Nat) : Fld :=
  { addr := 0x30015c + 0x4000 * n, lo := 0, width := 32, reset := 0, acc := .ro }
/-- PAUSE_CFG.WD: Unit 1 ms, 1 to 1,000 -/
def PAUSE_CFG_WD (n : Nat) : Fld :=
  { addr := 0x300160 + 0x4000 * n, lo := 0, width := 10, reset := 0xa, acc := .rw, role := some .installer, range := some (1, 1000) }
/-- PAUSE_CFG.WD_EN: Live. R321 -/
def PAUSE_CFG_WD_EN (n : Nat) : Fld :=
  { addr := 0x300160 + 0x4000 * n, lo := 10, width := 1, reset := 1, acc := .rw, role := some .installer, live := true }
/-- SYNCE_CFG.ESMC_TX_EN: R325 -/
def SYNCE_CFG_ESMC_TX_EN (n : Nat) : Fld :=
  { addr := 0x300170 + 0x4000 * n, lo := 0, width := 1, reset := 1, acc := .rw, role := some .installer }
/-- SYNCE_CFG.ESMC_TO_HOST: Live. R312 -/
def SYNCE_CFG_ESMC_TO_HOST (n : Nat) : Fld :=
  { addr := 0x300170 + 0x4000 * n, lo := 1, width := 1, reset := 0, acc := .rw, role := some .installer, live := true }
/-- SYNCE_CFG.QL_LOCKED: SSM code -/
def SYNCE_CFG_QL_LOCKED (n : Nat) : Fld :=
  { addr := 0x300170 + 0x4000 * n, lo := 8, width := 4, reset := 2, acc := .rw, role := some .installer }
/-- SYNCE_CFG.QL_HOLD -/
def SYNCE_CFG_QL_HOLD (n : Nat) : Fld :=
  { addr := 0x300170 + 0x4000 * n, lo := 12, width := 4, reset := 4, acc := .rw, role := some .installer }
/-- SYNCE_CFG.QL_EXCEEDED -/
def SYNCE_CFG_QL_EXCEEDED (n : Nat) : Fld :=
  { addr := 0x300170 + 0x4000 * n, lo := 16, width := 4, reset := 0xb, acc := .rw, role := some .installer }
/-- SYNCE_CFG.QL_FREE -/
def SYNCE_CFG_QL_FREE (n : Nat) : Fld :=
  { addr := 0x300170 + 0x4000 * n, lo := 20, width := 4, reset := 0xb, acc := .rw, role := some .installer }
/-- SYNCE_STATUS.RX_QL: Last received code -/
def SYNCE_STATUS_RX_QL (n : Nat) : Fld :=
  { addr := 0x300174 + 0x4000 * n, lo := 0, width := 4, reset := 0, acc := .ro }
/-- SYNCE_STATUS.QL_VALID: A valid PDU within 5 s -/
def SYNCE_STATUS_QL_VALID (n : Nat) : Fld :=
  { addr := 0x300174 + 0x4000 * n, lo := 4, width := 1, reset := 0, acc := .ro }
/-- SYNCE_STATUS.CDR_LOCK -/
def SYNCE_STATUS_CDR_LOCK (n : Nat) : Fld :=
  { addr := 0x300174 + 0x4000 * n, lo := 5, width := 1, reset := 0, acc := .ro }
/-- SYNCE_STATUS.EXT_TLV_SEEN: R324 -/
def SYNCE_STATUS_EXT_TLV_SEEN (n : Nat) : Fld :=
  { addr := 0x300174 + 0x4000 * n, lo := 6, width := 1, reset := 0, acc := .ro }
/-- SYNCE_STATUS.TX_QL: Code sent (R325) -/
def SYNCE_STATUS_TX_QL (n : Nat) : Fld :=
  { addr := 0x300174 + 0x4000 * n, lo := 8, width := 4, reset := 0xf, acc := .ro }
/-- PORT_STATUS.LINK: R305 -/
def PORT_STATUS_LINK (n : Nat) : Fld :=
  { addr := 0x300180 + 0x4000 * n, lo := 0, width := 3, reset := 0, acc := .ro }
/-- PORT_STATUS.FEC_LOCK -/
def PORT_STATUS_FEC_LOCK (n : Nat) : Fld :=
  { addr := 0x300180 + 0x4000 * n, lo := 3, width := 1, reset := 0, acc := .ro }
/-- PORT_STATUS.LOCAL_FAULT -/
def PORT_STATUS_LOCAL_FAULT (n : Nat) : Fld :=
  { addr := 0x300180 + 0x4000 * n, lo := 4, width := 1, reset := 0, acc := .ro }
/-- PORT_STATUS.REMOTE_FAULT -/
def PORT_STATUS_REMOTE_FAULT (n : Nat) : Fld :=
  { addr := 0x300180 + 0x4000 * n, lo := 5, width := 1, reset := 0, acc := .ro }
/-- PORT_STATUS.SYN_HOLD: R309 -/
def PORT_STATUS_SYN_HOLD (n : Nat) : Fld :=
  { addr := 0x300180 + 0x4000 * n, lo := 6, width := 1, reset := 0, acc := .ro }
/-- PORT_STATUS.TB_UNSURE: R309 -/
def PORT_STATUS_TB_UNSURE (n : Nat) : Fld :=
  { addr := 0x300180 + 0x4000 * n, lo := 7, width := 1, reset := 0, acc := .ro }
/-- PORT_STATUS.PAUSED: Bit q: priority q halted -/
def PORT_STATUS_PAUSED (n : Nat) : Fld :=
  { addr := 0x300180 + 0x4000 * n, lo := 8, width := 8, reset := 0, acc := .ro }
/-- PORT_STATUS.WD_IGNORE: Bit q: pause ignored (R321) -/
def PORT_STATUS_WD_IGNORE (n : Nat) : Fld :=
  { addr := 0x300180 + 0x4000 * n, lo := 16, width := 8, reset := 0, acc := .ro }
/-- PORT_STICKY.STICKY: Live. Conditions of 0x0421 to 0x0428 in order -/
def PORT_STICKY_STICKY (n : Nat) : Fld :=
  { addr := 0x300184 + 0x4000 * n, lo := 0, width := 8, reset := 0, acc := .w1c, role := some .operator, live := true }
/-- PORT_EVT_EN.EN: Live. [7:0] PORT_STICKY events; [8] 0x0420 -/
def PORT_EVT_EN_EN (n : Nat) : Fld :=
  { addr := 0x300188 + 0x4000 * n, lo := 0, width := 9, reset := 0x1ff, acc := .rw, role := some .installer, live := true }
/-- TSQ_STATUS.DEPTH: Records waiting on die, 0 to 64 -/
def TSQ_STATUS_DEPTH (n : Nat) : Fld :=
  { addr := 0x300190 + 0x4000 * n, lo := 0, width := 7, reset := 0, acc := .ro }
/-- TSQ_NEXT_SEQ.SEQ: SEQ of the next request (R317) -/
def TSQ_NEXT_SEQ_SEQ (n : Nat) : Fld :=
  { addr := 0x300194 + 0x4000 * n, lo := 0, width := 32, reset := 0, acc := .ro }
/-- RX_FRAMES.COUNT: Frames passing R310 -/
def RX_FRAMES_COUNT (n : Nat) : Fld :=
  { addr := 0x300200 + 0x4000 * n, lo := 0, width := 32, reset := 0, acc := .rc, live := true }
/-- TX_FRAMES.COUNT -/
def TX_FRAMES_COUNT (n : Nat) : Fld :=
  { addr := 0x300204 + 0x4000 * n, lo := 0, width := 32, reset := 0, acc := .rc, live := true }
/-- RX_OCTETS_LO.LO: Read latches HI and clears both halves -/
def RX_OCTETS_LO_LO (n : Nat) : Fld :=
  { addr := 0x300208 + 0x4000 * n, lo := 0, width := 32, reset := 0, acc := .rc, live := true }
/-- RX_OCTETS_HI.HI -/
def RX_OCTETS_HI_HI (n : Nat) : Fld :=
  { addr := 0x30020c + 0x4000 * n, lo := 0, width := 32, reset := 0, acc := .ro }
/-- TX_OCTETS_LO.LO: As RX_OCTETS_LO -/
def TX_OCTETS_LO_LO (n : Nat) : Fld :=
  { addr := 0x300210 + 0x4000 * n, lo := 0, width := 32, reset := 0, acc := .rc, live := true }
/-- TX_OCTETS_HI.HI -/
def TX_OCTETS_HI_HI (n : Nat) : Fld :=
  { addr := 0x300214 + 0x4000 * n, lo := 0, width := 32, reset := 0, acc := .ro }
/-- RX_FIFO_DROP.COUNT: R310 -/
def RX_FIFO_DROP_COUNT (n : Nat) : Fld :=
  { addr := 0x300218 + 0x4000 * n, lo := 0, width := 32, reset := 0, acc := .rc, live := true }
/-- RX_RUNT.COUNT: R310 -/
def RX_RUNT_COUNT (n : Nat) : Fld :=
  { addr := 0x30021c + 0x4000 * n, lo := 0, width := 32, reset := 0, acc := .rc, live := true }
/-- RX_OVERSIZE.COUNT: R310 -/
def RX_OVERSIZE_COUNT (n : Nat) : Fld :=
  { addr := 0x300220 + 0x4000 * n, lo := 0, width := 32, reset := 0, acc := .rc, live := true }
/-- RX_FCS_ERR.COUNT: R310 -/
def RX_FCS_ERR_COUNT (n : Nat) : Fld :=
  { addr := 0x300224 + 0x4000 * n, lo := 0, width := 32, reset := 0, acc := .rc, live := true }
/-- RX_TRUNCATED.COUNT: R310 -/
def RX_TRUNCATED_COUNT (n : Nat) : Fld :=
  { addr := 0x300228 + 0x4000 * n, lo := 0, width := 32, reset := 0, acc := .rc, live := true }
/-- RX_FILTERED.COUNT: R311, R312 -/
def RX_FILTERED_COUNT (n : Nat) : Fld :=
  { addr := 0x30022c + 0x4000 * n, lo := 0, width := 32, reset := 0, acc := .rc, live := true }
/-- RX_CSUM_ERR.COUNT: R312 -/
def RX_CSUM_ERR_COUNT (n : Nat) : Fld :=
  { addr := 0x300230 + 0x4000 * n, lo := 0, width := 32, reset := 0, acc := .rc, live := true }
/-- RX_TO_HOST.COUNT: Frames delivered to PKT_RX -/
def RX_TO_HOST_COUNT (n : Nat) : Fld :=
  { addr := 0x300234 + 0x4000 * n, lo := 0, width := 32, reset := 0, acc := .rc, live := true }
/-- RX_NOBUF_DROP.COUNT: R315 -/
def RX_NOBUF_DROP_COUNT (n : Nat) : Fld :=
  { addr := 0x300238 + 0x4000 * n, lo := 0, width := 32, reset := 0, acc := .rc, live := true }
/-- TX_FROM_HOST.COUNT: Host frames sent -/
def TX_FROM_HOST_COUNT (n : Nat) : Fld :=
  { addr := 0x30023c + 0x4000 * n, lo := 0, width := 32, reset := 0, acc := .rc, live := true }
/-- TX_HOST_DROP.COUNT: R316, R327 -/
def TX_HOST_DROP_COUNT (n : Nat) : Fld :=
  { addr := 0x300240 + 0x4000 * n, lo := 0, width := 32, reset := 0, acc := .rc, live := true }
/-- TX_STANDBY_DROP.COUNT: R319 -/
def TX_STANDBY_DROP_COUNT (n : Nat) : Fld :=
  { addr := 0x300244 + 0x4000 * n, lo := 0, width := 32, reset := 0, acc := .rc, live := true }
/-- TX_TIME_DROP.COUNT: R316 -/
def TX_TIME_DROP_COUNT (n : Nat) : Fld :=
  { addr := 0x300248 + 0x4000 * n, lo := 0, width := 32, reset := 0, acc := .rc, live := true }
/-- RX_PAUSE.COUNT: R320 -/
def RX_PAUSE_COUNT (n : Nat) : Fld :=
  { addr := 0x30024c + 0x4000 * n, lo := 0, width := 32, reset := 0, acc := .rc, live := true }
/-- RX_PFC.COUNT: R320 -/
def RX_PFC_COUNT (n : Nat) : Fld :=
  { addr := 0x300250 + 0x4000 * n, lo := 0, width := 32, reset := 0, acc := .rc, live := true }
/-- PAUSE_WD_BREAKS.COUNT: R321 -/
def PAUSE_WD_BREAKS_COUNT (n : Nat) : Fld :=
  { addr := 0x300254 + 0x4000 * n, lo := 0, width := 32, reset := 0, acc := .rc, live := true }
/-- TSQ_LOST.COUNT: R318 -/
def TSQ_LOST_COUNT (n : Nat) : Fld :=
  { addr := 0x300258 + 0x4000 * n, lo := 0, width := 32, reset := 0, acc := .rc, live := true }
/-- STAMPS_FLAGGED.COUNT: R309 -/
def STAMPS_FLAGGED_COUNT (n : Nat) : Fld :=
  { addr := 0x30025c + 0x4000 * n, lo := 0, width := 32, reset := 0, acc := .rc, live := true }
/-- FEC_CORRECTED.COUNT: Codewords corrected -/
def FEC_CORRECTED_COUNT (n : Nat) : Fld :=
  { addr := 0x300260 + 0x4000 * n, lo := 0, width := 32, reset := 0, acc := .rc, live := true }
/-- FEC_UNCORRECTED.COUNT: Codewords not correctable -/
def FEC_UNCORRECTED_COUNT (n : Nat) : Fld :=
  { addr := 0x300264 + 0x4000 * n, lo := 0, width := 32, reset := 0, acc := .rc, live := true }
/-- PCS_ERR_BLOCKS.COUNT: Errored blocks or code groups -/
def PCS_ERR_BLOCKS_COUNT (n : Nat) : Fld :=
  { addr := 0x300268 + 0x4000 * n, lo := 0, width := 32, reset := 0, acc := .rc, live := true }
/-- LINK_DOWNS.COUNT: R305 -/
def LINK_DOWNS_COUNT (n : Nat) : Fld :=
  { addr := 0x30026c + 0x4000 * n, lo := 0, width := 32, reset := 0, acc := .rc, live := true }
/-- ESMC_RX.COUNT: R324 -/
def ESMC_RX_COUNT (n : Nat) : Fld :=
  { addr := 0x300270 + 0x4000 * n, lo := 0, width := 32, reset := 0, acc := .rc, live := true }
/-- ESMC_BAD.COUNT: R324 -/
def ESMC_BAD_COUNT (n : Nat) : Fld :=
  { addr := 0x300274 + 0x4000 * n, lo := 0, width := 32, reset := 0, acc := .rc, live := true }
/-- TWN_STATUS.ROLE: 0b000: ALONE; 0b001: STARTING; 0b010: ACTIVE; 0b011: STANDBY; 0b100: RESYNC; 0b101: FAULT -/
def TWN_STATUS_ROLE : Fld :=
  { addr := 0x200000, lo := 0, width := 3, reset := 1, acc := .ro }
/-- TWN_STATUS.SIDE: 0: A; 1: B -/
def TWN_STATUS_SIDE : Fld :=
  { addr := 0x200000, lo := 3, width := 1, reset := Config.twinSide % 2, acc := .ro }
/-- TWN_STATUS.CLAIMING -/
def TWN_STATUS_CLAIMING : Fld :=
  { addr := 0x200000, lo := 4, width := 1, reset := 0, acc := .ro }
/-- TWN_STATUS.FENCE: 0b00: RELEASED; 0b01: CLAIMED; 0b10: FAULT, both high; 0b11: FAULT, both low -/
def TWN_STATUS_FENCE : Fld :=
  { addr := 0x200000, lo := 5, width := 2, reset := 0, acc := .ro }
/-- TWN_STATUS.LINK_UP: R332 -/
def TWN_STATUS_LINK_UP : Fld :=
  { addr := 0x200000, lo := 7, width := 1, reset := 0, acc := .ro }
/-- TWN_STATUS.SYNCED: R346 -/
def TWN_STATUS_SYNCED : Fld :=
  { addr := 0x200000, lo := 8, width := 1, reset := 0, acc := .ro }
/-- TWN_STATUS.FOLLOWING: R348 -/
def TWN_STATUS_FOLLOWING : Fld :=
  { addr := 0x200000, lo := 9, width := 1, reset := 0, acc := .ro }
/-- TWN_STATUS.PARTNER_FIT: The partner meets R352 -/
def TWN_STATUS_PARTNER_FIT : Fld :=
  { addr := 0x200000, lo := 10, width := 1, reset := 0, acc := .ro }
/-- TWN_STATUS.HANDOVER_PENDING -/
def TWN_STATUS_HANDOVER_PENDING : Fld :=
  { addr := 0x200000, lo := 11, width := 1, reset := 0, acc := .ro }
/-- TWN_STATUS.SEIZE_HOLD: R350 -/
def TWN_STATUS_SEIZE_HOLD : Fld :=
  { addr := 0x200000, lo := 12, width := 1, reset := 0, acc := .ro }
/-- TWN_STATUS.FENCE_FAULT: R343 -/
def TWN_STATUS_FENCE_FAULT : Fld :=
  { addr := 0x200000, lo := 13, width := 1, reset := 0, acc := .ro }
/-- TWN_STATUS.PARTNER_ROLE: As ROLE; 0b111 when no baton is held -/
def TWN_STATUS_PARTNER_ROLE : Fld :=
  { addr := 0x200000, lo := 16, width := 3, reset := 7, acc := .ro }
/-- TWN_STATUS.LEASE_LEFT: R345 -/
def TWN_STATUS_LEASE_LEFT : Fld :=
  { addr := 0x200000, lo := 20, width := 3, reset := 0, acc := .ro }
/-- TWN_STICKY.STICKY: Live. Conditions of 0x0B11 to 0x0B18 in order -/
def TWN_STICKY_STICKY : Fld :=
  { addr := 0x200004, lo := 0, width := 8, reset := 0, acc := .w1c, role := some .operator, live := true }
/-- TWN_EVT_EN.EN: Live. [7:0] TWN_STICKY events; [8] 0x0B10; [9] 0x0B19; [10] 0x0B1A -/
def TWN_EVT_EN_EN : Fld :=
  { addr := 0x200008, lo := 0, width := 11, reset := 0x7ff, acc := .rw, role := some .installer, live := true }
/-- TWN_CTRL.TWIN_EN: R331 -/
def TWN_CTRL_TWIN_EN : Fld :=
  { addr := 0x20000c, lo := 0, width := 1, reset := 0, acc := .rw, role := some .installer }
/-- TWN_CTRL.PROMOTE_EN: R348 -/
def TWN_CTRL_PROMOTE_EN : Fld :=
  { addr := 0x20000c, lo := 1, width := 1, reset := 1, acc := .rw, role := some .installer }
/-- TWN_CTRL.GRANT_HOLD: R341 -/
def TWN_CTRL_GRANT_HOLD : Fld :=
  { addr := 0x20000c, lo := 2, width := 1, reset := 1, acc := .rw, role := some .installer }
/-- TWN_CTRL.LISTEN: Laps, 16 to 255 (R347) -/
def TWN_CTRL_LISTEN : Fld :=
  { addr := 0x20000c, lo := 8, width := 8, reset := 0x40, acc := .rw, role := some .installer, range := some (16, 255) }
/-- TWN_RL_U.U: Unit 2^-8 ns (R338) -/
def TWN_RL_U_U : Fld :=
  { addr := 0x200010, lo := 0, width := 32, reset := 0x28, acc := .rw, role := some .installer }
/-- RL_EXT_ASYM_0.ASYM: Pair 0: trace delay inbound less outbound, signed, unit 2^-10 ns -/
def RL_EXT_ASYM_0_ASYM : Fld :=
  { addr := 0x200014, lo := 0, width := 32, reset := 0, acc := .rw, role := some .installer }
/-- RL_EXT_ASYM_1.ASYM: Pair 1, as pair 0 -/
def RL_EXT_ASYM_1_ASYM : Fld :=
  { addr := 0x200018, lo := 0, width := 32, reset := 0, acc := .rw, role := some .installer }
/-- TWN_RL_STICKY.STICKY: Live. RL_STICKY: conditions of 0x0311 to 0x0314 in order -/
def TWN_RL_STICKY_STICKY : Fld :=
  { addr := 0x20001c, lo := 0, width := 4, reset := 0, acc := .w1c, role := some .operator, live := true }
/-- TWN_RL_STICKY.RL_EN: Live. Bit n enables the event of RL_STICKY bit n -/
def TWN_RL_STICKY_RL_EN : Fld :=
  { addr := 0x20001c, lo := 8, width := 4, reset := 0xf, acc := .rw, role := some .installer, live := true }
/-- TWN_RL_STICKY.RL_STATE_EN: Live. Enables 0x0310 RL_STATE (R357) -/
def TWN_RL_STICKY_RL_STATE_EN : Fld :=
  { addr := 0x20001c, lo := 12, width := 1, reset := 1, acc := .rw, role := some .installer, live := true }
/-- TWN_TT_OFFSET_LO.OFS_LO: Latest offset of the partner (R336), unit 2^-16 ns; read latches +0x44 -/
def TWN_TT_OFFSET_LO_OFS_LO : Fld :=
  { addr := 0x200040, lo := 0, width := 32, reset := 0, acc := .ro }
/-- TWN_TT_OFFSET_HI.OFS_HI: Signed -/
def TWN_TT_OFFSET_HI_OFS_HI : Fld :=
  { addr := 0x200044, lo := 0, width := 32, reset := 0, acc := .ro }
/-- TWN_TT_RTT.RTT: (t2 − t1) + (t4 − t3), unit 2^-10 ns -/
def TWN_TT_RTT_RTT : Fld :=
  { addr := 0x200048, lo := 0, width := 32, reset := 0, acc := .ro }
/-- TWN_LAST_BATON_LO.AT_LO: LINEAR_NS of the last intact partner baton; read latches HI -/
def TWN_LAST_BATON_LO_AT_LO : Fld :=
  { addr := 0x200050, lo := 0, width := 32, reset := 0, acc := .ro }
/-- TWN_LAST_BATON_HI.AT_HI -/
def TWN_LAST_BATON_HI_AT_HI : Fld :=
  { addr := 0x200054, lo := 0, width := 32, reset := 0, acc := .ro }
/-- TWN_STATE_SEQ_LO.SEQ_LO: Last state record sent; read latches HI -/
def TWN_STATE_SEQ_LO_SEQ_LO : Fld :=
  { addr := 0x200060, lo := 0, width := 32, reset := 0, acc := .ro }
/-- TWN_STATE_SEQ_HI.SEQ_HI -/
def TWN_STATE_SEQ_HI_SEQ_HI : Fld :=
  { addr := 0x200064, lo := 0, width := 32, reset := 0, acc := .ro }
/-- TWN_STATE_ACK_LO.ACK_LO: Last state record acknowledged by the partner; read latches HI -/
def TWN_STATE_ACK_LO_ACK_LO : Fld :=
  { addr := 0x200068, lo := 0, width := 32, reset := 0, acc := .ro }
/-- TWN_STATE_ACK_HI.ACK_HI -/
def TWN_STATE_ACK_HI_ACK_HI : Fld :=
  { addr := 0x20006c, lo := 0, width := 32, reset := 0, acc := .ro }
/-- TWN_GRANT_SEQ_LO.SEQ_LO: As TWN_STATE_SEQ, client-grant journal -/
def TWN_GRANT_SEQ_LO_SEQ_LO : Fld :=
  { addr := 0x200070, lo := 0, width := 32, reset := 0, acc := .ro }
/-- TWN_GRANT_SEQ_HI.SEQ_HI -/
def TWN_GRANT_SEQ_HI_SEQ_HI : Fld :=
  { addr := 0x200074, lo := 0, width := 32, reset := 0, acc := .ro }
/-- TWN_GRANT_ACK_LO.ACK_LO: As TWN_STATE_ACK -/
def TWN_GRANT_ACK_LO_ACK_LO : Fld :=
  { addr := 0x200078, lo := 0, width := 32, reset := 0, acc := .ro }
/-- TWN_GRANT_ACK_HI.ACK_HI -/
def TWN_GRANT_ACK_HI_ACK_HI : Fld :=
  { addr := 0x20007c, lo := 0, width := 32, reset := 0, acc := .ro }
/-- TWN_HANDOVER.LAP: HANDOVER_LAP pending; 0 when none -/
def TWN_HANDOVER_LAP : Fld :=
  { addr := 0x200080, lo := 0, width := 32, reset := 0, acc := .ro }
/-- TWN_RESYNC_BYTES.BYTES: Size of the last bulk image, unit 1 KiB -/
def TWN_RESYNC_BYTES_BYTES : Fld :=
  { addr := 0x200084, lo := 0, width := 32, reset := 0, acc := .ro }
/-- BATONS_RX.COUNT: Intact partner batons -/
def BATONS_RX_COUNT : Fld :=
  { addr := 0x200100, lo := 0, width := 32, reset := 0, acc := .rc, live := true }
/-- BATONS_BAD.COUNT: R334 -/
def BATONS_BAD_COUNT : Fld :=
  { addr := 0x200104, lo := 0, width := 32, reset := 0, acc := .rc, live := true }
/-- JOURNAL_BAD.COUNT: R334 -/
def JOURNAL_BAD_COUNT : Fld :=
  { addr := 0x200108, lo := 0, width := 32, reset := 0, acc := .rc, live := true }
/-- LEASE_EXPIRIES.COUNT: R345 -/
def LEASE_EXPIRIES_COUNT : Fld :=
  { addr := 0x20010c, lo := 0, width := 32, reset := 0, acc := .rc, live := true }
/-- PROMOTIONS.COUNT: R348, R350, R352 -/
def PROMOTIONS_COUNT : Fld :=
  { addr := 0x200110, lo := 0, width := 32, reset := 0, acc := .rc, live := true }
/-- DEMOTIONS.COUNT: R351, R352 -/
def DEMOTIONS_COUNT : Fld :=
  { addr := 0x200114, lo := 0, width := 32, reset := 0, acc := .rc, live := true }
/-- MARKS_UNUSABLE.COUNT: Boundaries without a usable measurement (R337) -/
def MARKS_UNUSABLE_COUNT : Fld :=
  { addr := 0x200118, lo := 0, width := 32, reset := 0, acc := .rc, live := true }
/-- RL_TRAIN_FAILS.COUNT: R333 -/
def RL_TRAIN_FAILS_COUNT : Fld :=
  { addr := 0x20011c, lo := 0, width := 32, reset := 0, acc := .rc, live := true }
/-- RL_PAIR_STATUS.STATE: 0b00: OFF; 0b01: TRAINING; 0b10: UP -/
def RL_PAIR_STATUS_STATE (n : Nat) : Fld :=
  { addr := 0x200200 + 0x10 * n, lo := 0, width := 2, reset := 0, acc := .ro }
/-- RL_PAIR_STATUS.TX_FENCED: RLTX_n fenced -/
def RL_PAIR_STATUS_TX_FENCED (n : Nat) : Fld :=
  { addr := 0x200200 + 0x10 * n, lo := 2, width := 1, reset := 0, acc := .ro }
/-- RL_PAIR_STATUS.RX_FENCED: RLRX_n fenced -/
def RL_PAIR_STATUS_RX_FENCED (n : Nat) : Fld :=
  { addr := 0x200200 + 0x10 * n, lo := 3, width := 1, reset := 0, acc := .ro }
/-- RL_TX_DELAY.DELAY: Marker stamp point to the balls, unit 2^-10 ns -/
def RL_TX_DELAY_DELAY (n : Nat) : Fld :=
  { addr := 0x200204 + 0x10 * n, lo := 0, width := 32, reset := Config.fused ((0x200204 + 0x10 * n) * 32) % 2 ^ 32, acc := .ro }
/-- RL_RX_DELAY.DELAY: Balls to the marker stamp point, unit 2^-10 ns -/
def RL_RX_DELAY_DELAY (n : Nat) : Fld :=
  { addr := 0x200208 + 0x10 * n, lo := 0, width := 32, reset := Config.fused ((0x200208 + 0x10 * n) * 32) % 2 ^ 32, acc := .ro }
/-- RL_ERR_BLOCKS.COUNT: Errored 64b/66b blocks -/
def RL_ERR_BLOCKS_COUNT (n : Nat) : Fld :=
  { addr := 0x20020c + 0x10 * n, lo := 0, width := 32, reset := 0, acc := .rc, live := true }
/-- HIF_STATUS.STATE: R362 -/
def HIF_STATUS_STATE : Fld :=
  { addr := 0x20000, lo := 0, width := 2, reset := 0, acc := .ro, live := true }
/-- HIF_STATUS.CONFIG_LOCK: R363 -/
def HIF_STATUS_CONFIG_LOCK : Fld :=
  { addr := 0x20000, lo := 2, width := 1, reset := 0, acc := .ro, live := true }
/-- HIF_STATUS.REG_ROLE: Role of the register session:; 0b00: none; 0b01: OPERATOR; 0b10: INSTALLER; 0b11: MAKER -/
def HIF_STATUS_REG_ROLE : Fld :=
  { addr := 0x20000, lo := 4, width := 2, reset := 0, acc := .ro, live := true }
/-- HIF_STATUS.LINK_SPEED: 3: 8 GT/s; 4: 16 GT/s; 1, 2: lower training rates -/
def HIF_STATUS_LINK_SPEED : Fld :=
  { addr := 0x20000, lo := 8, width := 4, reset := 0, acc := .ro, live := true }
/-- HIF_STATUS.LINK_WIDTH: Lanes: 1, 2, 4 or 8 -/
def HIF_STATUS_LINK_WIDTH : Fld :=
  { addr := 0x20000, lo := 12, width := 4, reset := 0, acc := .ro, live := true }
/-- HIF_STICKY.STICKY: Conditions of 0x0711 to 0x0715 in order -/
def HIF_STICKY_STICKY : Fld :=
  { addr := 0x20004, lo := 0, width := 5, reset := 0, acc := .w1c, role := some .operator, live := true }
/-- HIF_EVT_EN.EN: [4:0] HIF_STICKY events; [5] 0x0710; [6] 0x0716 -/
def HIF_EVT_EN_EN : Fld :=
  { addr := 0x20008, lo := 0, width := 7, reset := 0x7f, acc := .rw, role := some .installer, live := true }
/-- HIF_LOCK.LOCK_SET: Writing 1 in READY sets CONFIG_LOCK (R362) -/
def HIF_LOCK_LOCK_SET : Fld :=
  { addr := 0x2000c, lo := 0, width := 1, reset := 0, acc := .wo, role := some .installer }
/-- DB_BASE_LO.ADDR_LO: Doorbell block; bits [7:0] are written as 0 -/
def DB_BASE_LO_ADDR_LO : Fld :=
  { addr := 0x20010, lo := 0, width := 32, reset := 0, acc := .rw, live := true }
/-- DB_BASE_HI.ADDR_HI -/
def DB_BASE_HI_ADDR_HI : Fld :=
  { addr := 0x20014, lo := 0, width := 32, reset := 0, acc := .rw, live := true }
/-- ST_BASE_LO.ADDR_LO: Status block; bits [8:0] are written as 0 -/
def ST_BASE_LO_ADDR_LO : Fld :=
  { addr := 0x20018, lo := 0, width := 32, reset := 0, acc := .rw, live := true }
/-- ST_BASE_HI.ADDR_HI -/
def ST_BASE_HI_ADDR_HI : Fld :=
  { addr := 0x2001c, lo := 0, width := 32, reset := 0, acc := .rw, live := true }
/-- DB_POLL.POLL: Unit 0.5 µs, 1 to 128 -/
def DB_POLL_POLL : Fld :=
  { addr := 0x20020, lo := 0, width := 8, reset := 4, acc := .rw, live := true, range := some (1, 128) }
/-- DB_POLL.ADAPT: R366 -/
def DB_POLL_ADAPT : Fld :=
  { addr := 0x20020, lo := 8, width := 1, reset := 0, acc := .rw, live := true }
/-- DB_POLL.IDLE_POLLS: 1 to 255 -/
def DB_POLL_IDLE_POLLS : Fld :=
  { addr := 0x20020, lo := 16, width := 8, reset := 0x10, acc := .rw, live := true, range := some (1, 255) }
/-- DB_POLL.MAX: Unit 0.5 µs, 1 to 128 -/
def DB_POLL_MAX : Fld :=
  { addr := 0x20020, lo := 24, width := 8, reset := 0x80, acc := .rw, live := true, range := some (1, 128) }
/-- HIF_KICK.KICK: Any write polls at once (R366) -/
def HIF_KICK_KICK : Fld :=
  { addr := 0x20024, lo := 0, width := 32, reset := 0, acc := .wo, live := true }
/-- ST_CTRL.ST_MIN: Unit 100 ns, 1 to 10,000 -/
def ST_CTRL_ST_MIN : Fld :=
  { addr := 0x20028, lo := 0, width := 16, reset := 0xa, acc := .rw, live := true, range := some (1, 10000) }
/-- ST_CTRL.HEARTBEAT: Unit 1 ms, 1 to 1,000 -/
def ST_CTRL_HEARTBEAT : Fld :=
  { addr := 0x20028, lo := 16, width := 10, reset := 1, acc := .rw, live := true, range := some (1, 1000) }
/-- HIF_DB_POLLS.COUNT: Polls made -/
def HIF_DB_POLLS_COUNT : Fld :=
  { addr := 0x20030, lo := 0, width := 32, reset := 0, acc := .rc, live := true }
/-- HIF_DB_FAILS.COUNT: R366 -/
def HIF_DB_FAILS_COUNT : Fld :=
  { addr := 0x20034, lo := 0, width := 32, reset := 0, acc := .rc, live := true }
/-- HIF_CPL_DISCARDED.COUNT: R386 -/
def HIF_CPL_DISCARDED_COUNT : Fld :=
  { addr := 0x20038, lo := 0, width := 32, reset := 0, acc := .rc, live := true }
/-- HIF_EVT_LOST.COUNT: R373 -/
def HIF_EVT_LOST_COUNT : Fld :=
  { addr := 0x2003c, lo := 0, width := 32, reset := 0, acc := .rc, live := true }
/-- HIF_NO_RIGHT.COUNT: R382 -/
def HIF_NO_RIGHT_COUNT : Fld :=
  { addr := 0x20040, lo := 0, width := 32, reset := 0, acc := .rc, live := true }
/-- HIF_INFLIGHT.COUNT: Commands fetched and not completed, 0 to 256 -/
def HIF_INFLIGHT_COUNT : Fld :=
  { addr := 0x20044, lo := 0, width := 9, reset := 0, acc := .ro, live := true }
/-- RING_BASE_LO.ADDR_LO: Aligned to 4 KiB (R371) -/
def RING_BASE_LO_ADDR_LO (n : Nat) : Fld :=
  { addr := 0x20100 + 0x20 * n, lo := 0, width := 32, reset := 0, acc := .rw, live := true }
/-- RING_BASE_HI.ADDR_HI -/
def RING_BASE_HI_ADDR_HI (n : Nat) : Fld :=
  { addr := 0x20104 + 0x20 * n, lo := 0, width := 32, reset := 0, acc := .rw, live := true }
/-- RING_CFG.TYPE: R370 -/
def RING_CFG_TYPE (n : Nat) : Fld :=
  { addr := 0x20108 + 0x20 * n, lo := 0, width := 3, reset := 0, acc := .rw, live := true }
/-- RING_CFG.SIZE_LOG2: 6 to 16 -/
def RING_CFG_SIZE_LOG2 (n : Nat) : Fld :=
  { addr := 0x20108 + 0x20 * n, lo := 3, width := 5, reset := 6, acc := .rw, live := true, range := some (6, 16) }
/-- RING_CFG.PORTS: Bit p: PORT_p; PKT and TSQ rings -/
def RING_CFG_PORTS (n : Nat) : Fld :=
  { addr := 0x20108 + 0x20 * n, lo := 8, width := 4, reset := 0, acc := .rw, live := true }
/-- RING_CFG.PARTNER: CPL ring of a CMD ring -/
def RING_CFG_PARTNER (n : Nat) : Fld :=
  { addr := 0x20108 + 0x20 * n, lo := 12, width := 6, reset := 0, acc := .rw, live := true }
/-- RING_CFG.VECTOR: 1 to 31; 0: none (R385) -/
def RING_CFG_VECTOR (n : Nat) : Fld :=
  { addr := 0x20108 + 0x20 * n, lo := 18, width := 5, reset := 0, acc := .rw, live := true }
/-- RING_CFG.IRQ_SEV: EVT: severity that signals at once -/
def RING_CFG_IRQ_SEV (n : Nat) : Fld :=
  { addr := 0x20108 + 0x20 * n, lo := 23, width := 2, reset := 3, acc := .rw, live := true }
/-- RING_CFG.MIN_SEV: EVT: lowest severity written -/
def RING_CFG_MIN_SEV (n : Nat) : Fld :=
  { addr := 0x20108 + 0x20 * n, lo := 25, width := 2, reset := 0, acc := .rw, live := true }
/-- RING_MOD.MOD_COUNT: 1 to 255 -/
def RING_MOD_MOD_COUNT (n : Nat) : Fld :=
  { addr := 0x2010c + 0x20 * n, lo := 0, width := 8, reset := 8, acc := .rw, live := true, range := some (1, 255) }
/-- RING_MOD.MOD_TIME: Unit 1 µs, 0 to 65,535; 0 signals every entry -/
def RING_MOD_MOD_TIME (n : Nat) : Fld :=
  { addr := 0x2010c + 0x20 * n, lo := 8, width := 16, reset := 0x32, acc := .rw, live := true }
/-- RING_CTRL.ENABLE: R372 -/
def RING_CTRL_ENABLE (n : Nat) : Fld :=
  { addr := 0x20110 + 0x20 * n, lo := 0, width := 1, reset := 0, acc := .rw, live := true }
/-- RING_STATUS.STATE: R372 -/
def RING_STATUS_STATE (n : Nat) : Fld :=
  { addr := 0x20114 + 0x20 * n, lo := 0, width := 2, reset := 0, acc := .ro, live := true }
/-- RING_STATUS.CAUSE: 0: none; 1: CONFIG; 2: INDEX; 3: DMA -/
def RING_STATUS_CAUSE (n : Nat) : Fld :=
  { addr := 0x20114 + 0x20 * n, lo := 4, width := 4, reset := 0, acc := .ro, live := true }
/-- RING_ENGINE_IDX.IDX: As in the status block -/
def RING_ENGINE_IDX_IDX (n : Nat) : Fld :=
  { addr := 0x20118 + 0x20 * n, lo := 0, width := 32, reset := 0, acc := .ro, live := true }
/-- RING_HOST_IDX.IDX: HOST_IDX as last read from the doorbell block -/
def RING_HOST_IDX_IDX (n : Nat) : Fld :=
  { addr := 0x2011c + 0x20 * n, lo := 0, width := 32, reset := 0, acc := .ro, live := true }
/-- FAB_STATUS.DRAINING: Bit per initiator port, as in R389 -/
def FAB_STATUS_DRAINING : Fld :=
  { addr := 0x40000, lo := 0, width := 9, reset := 0, acc := .ro }
/-- FAB_STATUS.DCB_TRAINED: R393 -/
def FAB_STATUS_DCB_TRAINED : Fld :=
  { addr := 0x40000, lo := 16, width := 1, reset := 0, acc := .ro }
/-- FAB_STICKY.STICKY: Live. Conditions of 0x0720 to 0x0725 in order -/
def FAB_STICKY_STICKY : Fld :=
  { addr := 0x40004, lo := 0, width := 6, reset := 0, acc := .w1c, role := some .operator, live := true }
/-- FAB_EVT_EN.EN: Live. Bit n enables 0x0720 + n -/
def FAB_EVT_EN_EN : Fld :=
  { addr := 0x40008, lo := 0, width := 6, reset := 0x3f, acc := .rw, role := some .installer, live := true }
/-- FAB_CTRL.HS_TIMEOUT: Unit 1 µs, 1 to 1,000 (R396) -/
def FAB_CTRL_HS_TIMEOUT : Fld :=
  { addr := 0x4000c, lo := 0, width := 10, reset := 0xa, acc := .rw, role := some .installer, range := some (1, 1000) }
/-- FAB_CTRL.PAR_LIMIT: Errors per unit per second, 1 to 15 (R398) -/
def FAB_CTRL_PAR_LIMIT : Fld :=
  { addr := 0x4000c, lo := 16, width := 4, reset := 4, acc := .rw, role := some .installer, range := some (1, 15) }
/-- FAB_SPEED.RATE: Transfer rate of a fast-matrix path, as predicted from a replica of its handshake stages, measured each 1 ms, unit 10^6 transfers per second. Reads on the scale of R28: at least 900 over the recommended operating range, about 1,400 at nominal conditions -/
def FAB_SPEED_RATE : Fld :=
  { addr := 0x40010, lo := 0, width := 16, reset := 0, acc := .ro }
/-- FAB_DEF_COUNT.COUNT: R395 -/
def FAB_DEF_COUNT_COUNT : Fld :=
  { addr := 0x40014, lo := 0, width := 32, reset := 0, acc := .rc, live := true }
/-- FAB_DEF_ADDR_LO.ADDR_LO: Address of the last default-target access; read latches +0x1C and +0x20 -/
def FAB_DEF_ADDR_LO_ADDR_LO : Fld :=
  { addr := 0x40018, lo := 0, width := 32, reset := 0, acc := .ro }
/-- FAB_DEF_ADDR_HI.ADDR_HI -/
def FAB_DEF_ADDR_HI_ADDR_HI : Fld :=
  { addr := 0x4001c, lo := 0, width := 32, reset := 0, acc := .ro }
/-- FAB_DEF_INFO.HID: Initiator presented (R389) -/
def FAB_DEF_INFO_HID : Fld :=
  { addr := 0x40020, lo := 0, width := 16, reset := 0, acc := .ro }
/-- FAB_DEF_INFO.WRITE: 0: read; 1: write -/
def FAB_DEF_INFO_WRITE : Fld :=
  { addr := 0x40020, lo := 16, width := 1, reset := 0, acc := .ro }
/-- FAB_DEF_INFO.REG_WINDOW: The address is a register window offset -/
def FAB_DEF_INFO_REG_WINDOW : Fld :=
  { addr := 0x40020, lo := 17, width := 1, reset := 0, acc := .ro }
/-- FAB_PARITY_ERR.COUNT: Transport-buffer parity errors (R398) -/
def FAB_PARITY_ERR_COUNT : Fld :=
  { addr := 0x40024, lo := 0, width := 32, reset := 0, acc := .rc, live := true }
/-- FAB_PARITY_LAST.HID: Unit of the last detection -/
def FAB_PARITY_LAST_HID : Fld :=
  { addr := 0x40028, lo := 0, width := 16, reset := 0, acc := .ro }
/-- FAB_TIMEOUTS.COUNT: R396 -/
def FAB_TIMEOUTS_COUNT : Fld :=
  { addr := 0x4002c, lo := 0, width := 32, reset := 0, acc := .rc, live := true }
/-- FAB_DRAINS.COUNT: R397 -/
def FAB_DRAINS_COUNT : Fld :=
  { addr := 0x40030, lo := 0, width := 32, reset := 0, acc := .rc, live := true }
/-- FAB_DRAIN_DISCARDS.COUNT: Responses discarded in drains -/
def FAB_DRAIN_DISCARDS_COUNT : Fld :=
  { addr := 0x40034, lo := 0, width := 32, reset := 0, acc := .rc, live := true }
/-- RQ_STATUS.FILL: Records held -/
def RQ_STATUS_FILL (n : Nat) : Fld :=
  { addr := 0x40100 + 0x20 * n, lo := 0, width := 9, reset := 0, acc := .ro }
/-- RQ_STATUS.DEPTH: Records the queue holds -/
def RQ_STATUS_DEPTH (n : Nat) : Fld :=
  { addr := 0x40100 + 0x20 * n, lo := 16, width := 9, reset := Config.rqDepth n, acc := .ro }
/-- RQ_STATUS.FLUSHING: R402 -/
def RQ_STATUS_FLUSHING (n : Nat) : Fld :=
  { addr := 0x40100 + 0x20 * n, lo := 31, width := 1, reset := 0, acc := .ro }
/-- RQ_CTRL.FLUSH: Live. Writing 1 requests a flush (R402) -/
def RQ_CTRL_FLUSH (n : Nat) : Fld :=
  { addr := 0x40104 + 0x20 * n, lo := 0, width := 1, reset := 0, acc := .wo, role := some .operator, live := true }
/-- RQ_LOST.COUNT: R401 -/
def RQ_LOST_COUNT (n : Nat) : Fld :=
  { addr := 0x40108 + 0x20 * n, lo := 0, width := 32, reset := 0, acc := .rc, live := true }
/-- RQ_PARITY.COUNT: Records discarded for a poisoned word -/
def RQ_PARITY_COUNT (n : Nat) : Fld :=
  { addr := 0x4010c + 0x20 * n, lo := 0, width := 32, reset := 0, acc := .rc, live := true }
/-- RQ_FLUSHED.COUNT: R402 -/
def RQ_FLUSHED_COUNT (n : Nat) : Fld :=
  { addr := 0x40110 + 0x20 * n, lo := 0, width := 32, reset := 0, acc := .rc, live := true }
/-- RQ_HIGH.FILL: Highest FILL since the last read -/
def RQ_HIGH_FILL (n : Nat) : Fld :=
  { addr := 0x40114 + 0x20 * n, lo := 0, width := 9, reset := 0, acc := .rc, live := true }
/-- PF_STATUS.BUSY: R409 -/
def PF_STATUS_BUSY : Fld :=
  { addr := 0x70000, lo := 0, width := 1, reset := 0, acc := .ro, live := true }
/-- PF_STATUS.HELD: R410 -/
def PF_STATUS_HELD : Fld :=
  { addr := 0x70000, lo := 1, width := 1, reset := 0, acc := .ro, live := true }
/-- PF_STATUS.PENDING: A T_L is scheduled -/
def PF_STATUS_PENDING : Fld :=
  { addr := 0x70000, lo := 2, width := 1, reset := 0, acc := .ro, live := true }
/-- PF_STICKY.STICKY: [0] PF_TAKEN; [1] PF_MISSED -/
def PF_STICKY_STICKY : Fld :=
  { addr := 0x70004, lo := 0, width := 2, reset := 0, acc := .w1c, role := some .operator, live := true }
/-- PF_EVT_EN.EN: Bit n enables 0x0050 + n -/
def PF_EVT_EN_EN : Fld :=
  { addr := 0x70008, lo := 0, width := 2, reset := 3, acc := .rw, role := some .installer, live := true }
/-- PF_CTRL.SRC_CMP: R407 -/
def PF_CTRL_SRC_CMP : Fld :=
  { addr := 0x7000c, lo := 0, width := 1, reset := 1, acc := .rw, role := some .operator, live := true }
/-- PF_CTRL.SRC_PIN -/
def PF_CTRL_SRC_PIN : Fld :=
  { addr := 0x7000c, lo := 1, width := 1, reset := 0, acc := .rw, role := some .operator, live := true }
/-- PF_CTRL.SRC_EVT -/
def PF_CTRL_SRC_EVT : Fld :=
  { addr := 0x7000c, lo := 2, width := 1, reset := 1, acc := .rw, role := some .operator, live := true }
/-- PF_CTRL.PIN_EDGE: 0: rising; 1: falling -/
def PF_CTRL_PIN_EDGE : Fld :=
  { addr := 0x7000c, lo := 3, width := 1, reset := 0, acc := .rw, role := some .operator, live := true }
/-- PF_CTRL.HOLD: R410 -/
def PF_CTRL_HOLD : Fld :=
  { addr := 0x7000c, lo := 4, width := 1, reset := 0, acc := .rw, role := some .operator, live := true }
/-- PF_RELEASE.RELEASE: Writing 1 releases the memory -/
def PF_RELEASE_RELEASE : Fld :=
  { addr := 0x70010, lo := 0, width := 1, reset := 0, acc := .wo, role := some .operator, live := true }
/-- PF_SEQ.SEQ: Snapshots taken -/
def PF_SEQ_SEQ : Fld :=
  { addr := 0x70014, lo := 0, width := 32, reset := 0, acc := .ro, live := true }
/-- PF_AT_LO.AT_LO: T_L of the last snapshot; read latches +0x1C and +0x20 -/
def PF_AT_LO_AT_LO : Fld :=
  { addr := 0x70018, lo := 0, width := 32, reset := 0, acc := .ro, live := true }
/-- PF_AT_HI.AT_HI -/
def PF_AT_HI_AT_HI : Fld :=
  { addr := 0x7001c, lo := 0, width := 32, reset := 0, acc := .ro, live := true }
/-- PF_AT_FRAC.FRAC: Unit 2^-16 ns -/
def PF_AT_FRAC_FRAC : Fld :=
  { addr := 0x70020, lo := 0, width := 16, reset := 0, acc := .ro, live := true }
/-- PF_SOURCES.SRC: [0] compare; [1] pin; [2] command; [3] event; [4] system -/
def PF_SOURCES_SRC : Fld :=
  { addr := 0x70024, lo := 0, width := 5, reset := 0, acc := .ro, live := true }
/-- PF_SOURCES.CMP: Compare unit -/
def PF_SOURCES_CMP : Fld :=
  { addr := 0x70024, lo := 8, width := 4, reset := 0, acc := .ro, live := true }
/-- PF_SOURCES.CODE: Triggering event code -/
def PF_SOURCES_CODE : Fld :=
  { addr := 0x70024, lo := 16, width := 16, reset := 0, acc := .ro, live := true }
/-- PF_PIN_AT_LO.AT_LO: Sampling edge (R407); read latches HI -/
def PF_PIN_AT_LO_AT_LO : Fld :=
  { addr := 0x70028, lo := 0, width := 32, reset := 0, acc := .ro, live := true }
/-- PF_PIN_AT_HI.AT_HI -/
def PF_PIN_AT_HI_AT_HI : Fld :=
  { addr := 0x7002c, lo := 0, width := 32, reset := 0, acc := .ro, live := true }
/-- PF_MISSED.COUNT: R413 -/
def PF_MISSED_COUNT : Fld :=
  { addr := 0x70030, lo := 0, width := 32, reset := 0, acc := .rc, live := true }
/-- PF_FLAGS.STEPPED: R408 -/
def PF_FLAGS_STEPPED : Fld :=
  { addr := 0x70034, lo := 0, width := 1, reset := 0, acc := .ro, live := true }
/-- PF_EVT_CODE.CODE: k from 0 to 7; 0: unused -/
def PF_EVT_CODE_CODE (n : Nat) : Fld :=
  { addr := 0x70040 + 0x4 * n, lo := 0, width := 16, reset := if n = 0 then 0x21 else 0, acc := .rw, role := some .operator, live := true }
/-- PF_RECORD.DATA: Record i, for i from 0 to 360, in HID order (R411) -/
def PF_RECORD_DATA (n : Nat) (m : Nat) : Fld :=
  { addr := 0x78000 + 0x40 * n + 0x4 * m, lo := 0, width := 32, reset := 0, acc := .ro, live := true }
/-- DUMP_CTRL.PERIOD: 0 to 8: 1, 2, 5, 10, 20, 50, 100, 200, 500 ms; 9 to 16: 1, 2, 5, 10, 15, 20, 30, 60 s -/
def DUMP_CTRL_PERIOD : Fld :=
  { addr := 0x50000, lo := 0, width := 5, reset := 9, acc := .rw, role := some .operator, live := true, range := some (0, 16) }
/-- DUMP_CTRL.EN: R417 -/
def DUMP_CTRL_EN : Fld :=
  { addr := 0x50000, lo := 8, width := 1, reset := 0, acc := .rw, role := some .operator, live := true }
/-- DUMP_CTRL.PORT_STATS: R418 -/
def DUMP_CTRL_PORT_STATS : Fld :=
  { addr := 0x50000, lo := 9, width := 1, reset := 0, acc := .rw, role := some .operator, live := true }
/-- DUMP_CTRL.REGIONS: Bit r -/
def DUMP_CTRL_REGIONS : Fld :=
  { addr := 0x50000, lo := 16, width := 8, reset := 0xff, acc := .rw, role := some .operator, live := true }
/-- DUMP_NO.NO -/
def DUMP_NO_NO : Fld :=
  { addr := 0x50004, lo := 0, width := 32, reset := 0, acc := .ro, live := true }
/-- PMC_STATUS.SAT: Bit k: CNT_k saturated -/
def PMC_STATUS_SAT (n : Nat) : Fld :=
  { addr := 0x50400 + 0x400 * n, lo := 0, width := 8, reset := 0, acc := .ro, live := true }
/-- PMC_STICKY.STICKY: R425 -/
def PMC_STICKY_STICKY (n : Nat) : Fld :=
  { addr := 0x50404 + 0x400 * n, lo := 0, width := 8, reset := 0, acc := .w1c, role := some .operator, live := true }
/-- PMC_EVT_EN.EN: CNT_SAT -/
def PMC_EVT_EN_EN (n : Nat) : Fld :=
  { addr := 0x50408 + 0x400 * n, lo := 0, width := 1, reset := 1, acc := .rw, role := some .installer, live := true }
/-- PMC_CLEAR.CLEAR: Bit k clears CNT_k; [8] clears ELAPSED (R414) -/
def PMC_CLEAR_CLEAR (n : Nat) : Fld :=
  { addr := 0x5040c + 0x400 * n, lo := 0, width := 9, reset := 0, acc := .wo, role := some .operator, live := true }
/-- ELAPSED_LO.LO: Unit 1 ns; read latches HI -/
def ELAPSED_LO_LO (n : Nat) : Fld :=
  { addr := 0x50410 + 0x400 * n, lo := 0, width := 32, reset := 0, acc := .ro, live := true }
/-- ELAPSED_HI.HI -/
def ELAPSED_HI_HI (n : Nat) : Fld :=
  { addr := 0x50414 + 0x400 * n, lo := 0, width := 32, reset := 0, acc := .ro, live := true }
/-- ELAPSED_SNAP_LO.LO: At the last photo-finish -/
def ELAPSED_SNAP_LO_LO (n : Nat) : Fld :=
  { addr := 0x50418 + 0x400 * n, lo := 0, width := 32, reset := 0, acc := .ro, live := true }
/-- ELAPSED_SNAP_HI.HI -/
def ELAPSED_SNAP_HI_HI (n : Nat) : Fld :=
  { addr := 0x5041c + 0x400 * n, lo := 0, width := 32, reset := 0, acc := .ro, live := true }
/-- CNT_CFG.EVENT: R415 -/
def CNT_CFG_EVENT (n : Nat) (m : Nat) : Fld :=
  { addr := 0x50440 + 0x400 * n + 0x40 * m, lo := 0, width := 8, reset := 0, acc := .rw, role := some .operator, live := true }
/-- CNT_CFG.ROLE: R416 -/
def CNT_CFG_ROLE (n : Nat) (m : Nat) : Fld :=
  { addr := 0x50440 + 0x400 * n + 0x40 * m, lo := 8, width := 4, reset := 0xf, acc := .rw, role := some .operator, live := true }
/-- CNT_CFG.CLASS: R416 -/
def CNT_CFG_CLASS (n : Nat) (m : Nat) : Fld :=
  { addr := 0x50440 + 0x400 * n + 0x40 * m, lo := 16, width := 5, reset := 0x1f, acc := .rw, role := some .operator, live := true }
/-- CNT_HID.MATCH -/
def CNT_HID_MATCH (n : Nat) (m : Nat) : Fld :=
  { addr := 0x50444 + 0x400 * n + 0x40 * m, lo := 0, width := 16, reset := 0, acc := .rw, role := some .operator, live := true }
/-- CNT_HID.MASK: 0: every HID -/
def CNT_HID_MASK (n : Nat) (m : Nat) : Fld :=
  { addr := 0x50444 + 0x400 * n + 0x40 * m, lo := 16, width := 16, reset := 0, acc := .rw, role := some .operator, live := true }
/-- CNT_ADDR_LO.ADDR_LO: Window base -/
def CNT_ADDR_LO_ADDR_LO (n : Nat) (m : Nat) : Fld :=
  { addr := 0x50448 + 0x400 * n + 0x40 * m, lo := 0, width := 32, reset := 0, acc := .rw, role := some .operator, live := true }
/-- CNT_ADDR_HI.ADDR_HI: Bits [47:32] -/
def CNT_ADDR_HI_ADDR_HI (n : Nat) (m : Nat) : Fld :=
  { addr := 0x5044c + 0x400 * n + 0x40 * m, lo := 0, width := 16, reset := 0, acc := .rw, role := some .operator, live := true }
/-- CNT_WIN.SIZE_LOG2: 6 to 48; 0: no address filter -/
def CNT_WIN_SIZE_LOG2 (n : Nat) (m : Nat) : Fld :=
  { addr := 0x50450 + 0x400 * n + 0x40 * m, lo := 0, width := 6, reset := 0, acc := .rw, role := some .operator, live := true }
/-- CNT_VAL_LO.LO: Read latches HI (R394) -/
def CNT_VAL_LO_LO (n : Nat) (m : Nat) : Fld :=
  { addr := 0x50454 + 0x400 * n + 0x40 * m, lo := 0, width := 32, reset := 0, acc := .ro, live := true }
/-- CNT_VAL_HI.HI -/
def CNT_VAL_HI_HI (n : Nat) (m : Nat) : Fld :=
  { addr := 0x50458 + 0x400 * n + 0x40 * m, lo := 0, width := 16, reset := 0, acc := .ro, live := true }
/-- CNT_SNAP_LO.LO: At the last photo-finish -/
def CNT_SNAP_LO_LO (n : Nat) (m : Nat) : Fld :=
  { addr := 0x5045c + 0x400 * n + 0x40 * m, lo := 0, width := 32, reset := 0, acc := .ro, live := true }
/-- CNT_SNAP_HI.HI -/
def CNT_SNAP_HI_HI (n : Nat) (m : Nat) : Fld :=
  { addr := 0x50460 + 0x400 * n + 0x40 * m, lo := 0, width := 16, reset := 0, acc := .ro, live := true }
/-- LOG_STATUS.FILL: Entries held, 0 to 16,384 -/
def LOG_STATUS_FILL : Fld :=
  { addr := 0x60000, lo := 0, width := 15, reset := 0, acc := .ro, live := true }
/-- LOG_STATUS.PREV_VALID: R422 -/
def LOG_STATUS_PREV_VALID : Fld :=
  { addr := 0x60000, lo := 16, width := 1, reset := 0, acc := .ro, live := true }
/-- LOG_STATUS.PREV_COUNT: 0 to 32 -/
def LOG_STATUS_PREV_COUNT : Fld :=
  { addr := 0x60000, lo := 17, width := 6, reset := 0, acc := .ro, live := true }
/-- LOG_STICKY.WRITE_REFUSED: A write was refused -/
def LOG_STICKY_WRITE_REFUSED : Fld :=
  { addr := 0x60004, lo := 0, width := 1, reset := 0, acc := .w1c, role := some .operator, live := true }
/-- LOG_EVT_EN.EN: 0x0732 -/
def LOG_EVT_EN_EN : Fld :=
  { addr := 0x60008, lo := 0, width := 1, reset := 1, acc := .rw, role := some .installer, live := true }
/-- LOG_NEXT_SEQ.SEQ: SEQ of the next entry -/
def LOG_NEXT_SEQ_SEQ : Fld :=
  { addr := 0x60010, lo := 0, width := 32, reset := 0, acc := .ro, live := true, kept := true }
/-- LOG_OLDEST_SEQ.SEQ: Oldest entry held -/
def LOG_OLDEST_SEQ_SEQ : Fld :=
  { addr := 0x60014, lo := 0, width := 32, reset := 0, acc := .ro, live := true }
/-- LOG_WRAPS.COUNT: R419 -/
def LOG_WRAPS_COUNT : Fld :=
  { addr := 0x60018, lo := 0, width := 32, reset := 0, acc := .rc, live := true }
/-- LOG_LAST.ENTRY: Newest entry, bytes 0 to 3 in the first word -/
def LOG_LAST_ENTRY (n : Nat) : Fld :=
  { addr := 0x60100 + 0x4 * n, lo := 0, width := 32, reset := 0, acc := .ro, live := true }
/-- LOG_PREV.ENTRY: Kept entry i, for i from 0 to 31, oldest first -/
def LOG_PREV_ENTRY (n : Nat) (m : Nat) : Fld :=
  { addr := 0x61000 + 0x20 * n + 0x4 * m, lo := 0, width := 32, reset := 0, acc := .ro, live := true }
/-- ROLE_STATUS.MAKER_KEY: K_MAKER present -/
def ROLE_STATUS_MAKER_KEY : Fld :=
  { addr := 0x100, lo := 0, width := 1, reset := Config.fused ((0x100) * 32) % 2 ^ 1, acc := .ro, live := true }
/-- ROLE_STATUS.INSTALLER_KEY: Set (R431) -/
def ROLE_STATUS_INSTALLER_KEY : Fld :=
  { addr := 0x100, lo := 1, width := 1, reset := 0, acc := .ro, live := true }
/-- ROLE_STATUS.OPERATOR_KEY: Set -/
def ROLE_STATUS_OPERATOR_KEY : Fld :=
  { addr := 0x100, lo := 2, width := 1, reset := 0, acc := .ro, live := true }
/-- ROLE_STATUS.LOCKED_OUT: [3] OPERATOR, [4] INSTALLER, [5] MAKER -/
def ROLE_STATUS_LOCKED_OUT : Fld :=
  { addr := 0x100, lo := 3, width := 3, reset := 0, acc := .ro, live := true }
/-- ROLE_STATUS.OPEN: Sessions open, 0 to 16 -/
def ROLE_STATUS_OPEN : Fld :=
  { addr := 0x100, lo := 8, width := 5, reset := 0, acc := .ro, live := true }
/-- ROLE_STATUS.REG_SESSION: Register session; 0: none -/
def ROLE_STATUS_REG_SESSION : Fld :=
  { addr := 0x100, lo := 16, width := 5, reset := 0, acc := .ro, live := true }
/-- ROLE_STICKY.STICKY: Conditions of 0x0632 to 0x0635 in order -/
def ROLE_STICKY_STICKY : Fld :=
  { addr := 0x104, lo := 0, width := 4, reset := 0, acc := .w1c, role := some .operator, live := true }
/-- ROLE_EVT_EN.EN: [3:0] ROLE_STICKY events; [4] 0x0630; [5] 0x0631 -/
def ROLE_EVT_EN_EN : Fld :=
  { addr := 0x108, lo := 0, width := 6, reset := 0x3f, acc := .rw, role := some .installer, live := true }
/-- SESSION_CFG.IDLE_TIMEOUT: Unit 1 s, 10 to 65,535; reset is 900 s -/
def SESSION_CFG_IDLE_TIMEOUT : Fld :=
  { addr := 0x10c, lo := 0, width := 16, reset := 0x384, acc := .rw, role := some .installer, live := true, range := some (10, 65535) }
/-- SESSION_CFG.FAIL_LIMIT: 1 to 15 -/
def SESSION_CFG_FAIL_LIMIT : Fld :=
  { addr := 0x10c, lo := 16, width := 4, reset := 5, acc := .rw, role := some .installer, live := true, range := some (1, 15) }
/-- SESSION_CFG.LOCKOUT: Unit 1 s, 10 to 3,600 -/
def SESSION_CFG_LOCKOUT : Fld :=
  { addr := 0x10c, lo := 20, width := 12, reset := 0x3c, acc := .rw, role := some .installer, live := true, range := some (10, 3600) }
/-- MAKER_KCV.KCV: R430 -/
def MAKER_KCV_KCV : Fld :=
  { addr := 0x110, lo := 0, width := 24, reset := Config.fused ((0x110) * 32) % 2 ^ 24, acc := .ro, live := true }
/-- INSTALLER_KCV.KCV: Loaded at start-up (R431); 0 while unset -/
def INSTALLER_KCV_KCV : Fld :=
  { addr := 0x114, lo := 0, width := 24, reset := 0, acc := .ro, live := true }
/-- OPERATOR_KCV.KCV: As INSTALLER_KCV -/
def OPERATOR_KCV_KCV : Fld :=
  { addr := 0x118, lo := 0, width := 24, reset := 0, acc := .ro, live := true }
/-- SESSION_OPENS.COUNT: Successful opens -/
def SESSION_OPENS_COUNT : Fld :=
  { addr := 0x120, lo := 0, width := 32, reset := 0, acc := .rc, live := true }
/-- SESSION_FAILS.COUNT: SESSION_OPEN refused -/
def SESSION_FAILS_COUNT : Fld :=
  { addr := 0x124, lo := 0, width := 32, reset := 0, acc := .rc, live := true }
/-- SESS_STATE.OPEN: Session s, for s from 1 to 16 -/
def SESS_STATE_OPEN (n : Nat) : Fld :=
  { addr := 0x200 + 0x10 * n, lo := 0, width := 1, reset := 0, acc := .ro, live := true }
/-- SESS_STATE.ROLE: R427 -/
def SESS_STATE_ROLE (n : Nat) : Fld :=
  { addr := 0x200 + 0x10 * n, lo := 1, width := 2, reset := 0, acc := .ro, live := true }
/-- SESS_STATE.REG_BOUND: Register session -/
def SESS_STATE_REG_BOUND (n : Nat) : Fld :=
  { addr := 0x200 + 0x10 * n, lo := 3, width := 1, reset := 0, acc := .ro, live := true }
/-- SESS_STATE.RING: CMD ring (R437) -/
def SESS_STATE_RING (n : Nat) : Fld :=
  { addr := 0x200 + 0x10 * n, lo := 4, width := 6, reset := 0, acc := .ro, live := true }
/-- SESS_STATE.IDLE: Seconds idle, saturating -/
def SESS_STATE_IDLE (n : Nat) : Fld :=
  { addr := 0x200 + 0x10 * n, lo := 16, width := 16, reset := 0, acc := .ro, live := true }
/-- SESS_AT_LO.AT_LO: LINEAR_NS of opening; read latches HI -/
def SESS_AT_LO_AT_LO (n : Nat) : Fld :=
  { addr := 0x204 + 0x10 * n, lo := 0, width := 32, reset := 0, acc := .ro, live := true }
/-- SESS_AT_HI.AT_HI -/
def SESS_AT_HI_AT_HI (n : Nat) : Fld :=
  { addr := 0x208 + 0x10 * n, lo := 0, width := 32, reset := 0, acc := .ro, live := true }
/-- TRNG_STATUS.DRBG_READY: Instantiated -/
def TRNG_STATUS_DRBG_READY : Fld :=
  { addr := 0x360040, lo := 0, width := 1, reset := 0, acc := .ro, live := true }
/-- TRNG_STATUS.WITHHELD: R443 -/
def TRNG_STATUS_WITHHELD : Fld :=
  { addr := 0x360040, lo := 1, width := 1, reset := 0, acc := .ro, live := true }
/-- TRNG_STATUS.SINCE_RESEED: Seconds, saturating -/
def TRNG_STATUS_SINCE_RESEED : Fld :=
  { addr := 0x360040, lo := 8, width := 8, reset := 0, acc := .ro, live := true }
/-- TRNG_STICKY.STICKY: [0] HEALTH_FAIL; [1] WITHHELD -/
def TRNG_STICKY_STICKY : Fld :=
  { addr := 0x360044, lo := 0, width := 2, reset := 0, acc := .w1c, role := some .operator, live := true }
/-- TRNG_EVT_EN.EN: [1:0] TRNG_STICKY events; [2] 0x0622 -/
def TRNG_EVT_EN_EN : Fld :=
  { addr := 0x360048, lo := 0, width := 3, reset := 7, acc := .rw, role := some .installer, live := true }
/-- DRBG_RESEEDS.COUNT: Completed reseeds -/
def DRBG_RESEEDS_COUNT : Fld :=
  { addr := 0x36004c, lo := 0, width := 32, reset := 0, acc := .rc, live := true }
/-- TRNG_BLOCKS_FAILED.COUNT: Blocks discarded (R443) -/
def TRNG_BLOCKS_FAILED_COUNT : Fld :=
  { addr := 0x360050, lo := 0, width := 32, reset := 0, acc := .rc, live := true }
/-- PWR_STATUS.PHASE: R457 -/
def PWR_STATUS_PHASE : Fld :=
  { addr := 0x10000, lo := 0, width := 4, reset := 0, acc := .ro }
/-- PWR_STATUS.KEEP_VALID: R456 -/
def PWR_STATUS_KEEP_VALID : Fld :=
  { addr := 0x10000, lo := 4, width := 1, reset := 0, acc := .ro }
/-- PWR_STATUS.FW_SLOT: 0: A; 1: B -/
def PWR_STATUS_FW_SLOT : Fld :=
  { addr := 0x10000, lo := 5, width := 1, reset := 0, acc := .ro }
/-- PWR_STATUS.BIST_RUNNING -/
def PWR_STATUS_BIST_RUNNING : Fld :=
  { addr := 0x10000, lo := 6, width := 1, reset := 0, acc := .ro }
/-- PWR_STATUS.OSC_MISSING -/
def PWR_STATUS_OSC_MISSING : Fld :=
  { addr := 0x10000, lo := 7, width := 1, reset := 0, acc := .ro }
/-- PWR_STATUS.ON: Bit d: domain d powered -/
def PWR_STATUS_ON : Fld :=
  { addr := 0x10000, lo := 16, width := 14, reset := 3, acc := .ro }
/-- PWR_STICKY.STICKY: Conditions of 0x0A11 to 0x0A18 in order -/
def PWR_STICKY_STICKY : Fld :=
  { addr := 0x10004, lo := 0, width := 8, reset := 0, acc := .w1c, role := some .operator, live := true }
/-- PWR_EVT_EN.EN: [7:0] PWR_STICKY events; [8] 0x0A10; [9] 0x0A19 -/
def PWR_EVT_EN_EN : Fld :=
  { addr := 0x10008, lo := 0, width := 10, reset := 0x3ff, acc := .rw, role := some .installer }
/-- PWR_RESET_CAUSE.CAUSE: Last package reset:; 0: power-on; 1: RESET_N; 2: core supply monitor -/
def PWR_RESET_CAUSE_CAUSE : Fld :=
  { addr := 0x1000c, lo := 0, width := 2, reset := 0, acc := .ro }
/-- PWR_RESET_CAUSE.FIELD_RESETS: Field die resets since the package reset, saturating -/
def PWR_RESET_CAUSE_FIELD_RESETS : Fld :=
  { addr := 0x1000c, lo := 8, width := 8, reset := 0, acc := .ro }
/-- PWR_READY_MS.MS: Time from reset release to DONE, unit 1 ms -/
def PWR_READY_MS_MS : Fld :=
  { addr := 0x10010, lo := 0, width := 16, reset := 0, acc := .ro }
/-- RECOV_DT.SECONDS: Δ of R459, unit 1 s, truncated -/
def RECOV_DT_SECONDS : Fld :=
  { addr := 0x10014, lo := 0, width := 32, reset := 0, acc := .ro }
/-- RECOV_TEB0.TEB0: Unit 2^-8 ns -/
def RECOV_TEB0_TEB0 : Fld :=
  { addr := 0x10018, lo := 0, width := 32, reset := 0xffffffff, acc := .ro }
/-- KEEP_STATUS.VBAT_LOW: R454 -/
def KEEP_STATUS_VBAT_LOW : Fld :=
  { addr := 0x10020, lo := 0, width := 1, reset := 0, acc := .ro }
/-- KEEP_STATUS.ON_CELL: The keeper draws from VBAT now -/
def KEEP_STATUS_ON_CELL : Fld :=
  { addr := 0x10020, lo := 1, width := 1, reset := 0, acc := .ro }
/-- KEEP_STATUS.CELL: VBAT, unit 10 mV -/
def KEEP_STATUS_CELL : Fld :=
  { addr := 0x10020, lo := 4, width := 12, reset := 0, acc := .ro }
/-- RTC_CFG.RTC_CLASS: R459 -/
def RTC_CFG_RTC_CLASS : Fld :=
  { addr := 0x10024, lo := 0, width := 2, reset := Config.boardRecord ((0x10024) * 32) % 2 ^ 2, acc := .ro }
/-- RTC_CFG.LOAD: Load capacitance, unit 0.5 pF from 4 pF -/
def RTC_CFG_LOAD : Fld :=
  { addr := 0x10024, lo := 8, width := 4, reset := Config.boardRecord ((0x10024) * 32 + 8) % 2 ^ 4, acc := .ro }
/-- RTC_FOFF.FOFF: Signed, unit 2^-40 -/
def RTC_FOFF_FOFF : Fld :=
  { addr := 0x10028, lo := 0, width := 32, reset := 0, acc := .ro, kept := true }
/-- FW_VERSION.VERSION: Version of the running image -/
def FW_VERSION_VERSION : Fld :=
  { addr := 0x10030, lo := 0, width := 32, reset := 0, acc := .ro }
/-- FW_SVN.SVN: R458 -/
def FW_SVN_SVN : Fld :=
  { addr := 0x10034, lo := 0, width := 16, reset := Config.fused ((0x10034) * 32) % 2 ^ 16, acc := .ro }
/-- FW_SVN.REVOKED: Bit k: key hash k revoked -/
def FW_SVN_REVOKED : Fld :=
  { addr := 0x10034, lo := 16, width := 4, reset := Config.fused ((0x10034) * 32 + 16) % 2 ^ 4, acc := .ro }
/-- BIST_STATUS.PASSED: Last run, R462 -/
def BIST_STATUS_PASSED : Fld :=
  { addr := 0x10040, lo := 0, width := 8, reset := 0, acc := .ro }
/-- BIST_STATUS.FAILED -/
def BIST_STATUS_FAILED : Fld :=
  { addr := 0x10040, lo := 8, width := 8, reset := 0, acc := .ro }
/-- BIST_STATUS.SET: Set running now -/
def BIST_STATUS_SET : Fld :=
  { addr := 0x10040, lo := 16, width := 3, reset := 0, acc := .ro }
/-- MEM_CFG.SIZE: 0b00: 4 GiB; 0b01: 8 GiB; 0b10: 12 GiB; 0b11: 16 GiB -/
def MEM_CFG_SIZE : Fld :=
  { addr := 0x3c0000, lo := 0, width := 2, reset := Config.boardRecord ((0x3c0000) * 32) % 2 ^ 2, acc := .ro }
/-- MEM_CFG.RATE: 0b00: 6,400 MT/s; 0b01: 5,500 MT/s; 0b10: 4,266 MT/s; 0b11: 3,200 MT/s -/
def MEM_CFG_RATE : Fld :=
  { addr := 0x3c0000, lo := 4, width := 2, reset := Config.boardRecord ((0x3c0000) * 32 + 4) % 2 ^ 2, acc := .ro }
/-- MEM_STATUS.TRAINED: R460 -/
def MEM_STATUS_TRAINED : Fld :=
  { addr := 0x3c0004, lo := 0, width := 1, reset := 0, acc := .ro }
/-- MEM_STATUS.FAILED: Three attempts failed -/
def MEM_STATUS_FAILED : Fld :=
  { addr := 0x3c0004, lo := 1, width := 1, reset := 0, acc := .ro }
/-- MEM_STATUS.ATTEMPTS: Attempts made -/
def MEM_STATUS_ATTEMPTS : Fld :=
  { addr := 0x3c0004, lo := 2, width := 2, reset := 0, acc := .ro }
/-- MEM_STATUS.FAIL_CH: Bit c: channel c failed in the last attempt -/
def MEM_STATUS_FAIL_CH : Fld :=
  { addr := 0x3c0004, lo := 4, width := 4, reset := 0, acc := .ro }
/-- MEM_TRAIN_MS.MS: Duration of the passing attempt, unit 1 ms -/
def MEM_TRAIN_MS_MS : Fld :=
  { addr := 0x3c0008, lo := 0, width := 16, reset := 0, acc := .ro }
/-- MEM_RETRAINS.COUNT: R460 -/
def MEM_RETRAINS_COUNT : Fld :=
  { addr := 0x3c000c, lo := 0, width := 32, reset := 0, acc := .rc, live := true }
/-- GLB_ID.PART: Part number -/
def GLB_ID_PART : Fld :=
  { addr := 0x0, lo := 0, width := 16, reset := 0x9620, acc := .ro, live := true }
/-- GLB_ID.STEPPING: Letter in [23:20] (0x1: A, 0x2: B), number in [19:16]; 0x21 is B1 -/
def GLB_ID_STEPPING : Fld :=
  { addr := 0x0, lo := 16, width := 8, reset := 0x21, acc := .ro, live := true }
/-- GLB_ID.GRADE: 0x1: industrial temperature, suffix I -/
def GLB_ID_GRADE : Fld :=
  { addr := 0x0, lo := 24, width := 4, reset := 1, acc := .ro, live := true }
/-- GLB_PCI_ID.VENDOR: PCIe vendor ID (R359) -/
def GLB_PCI_ID_VENDOR : Fld :=
  { addr := 0x4, lo := 0, width := 16, reset := Config.fused ((0x4) * 32) % 2 ^ 16, acc := .ro, live := true }
/-- GLB_PCI_ID.DEVICE: PCIe device ID -/
def GLB_PCI_ID_DEVICE : Fld :=
  { addr := 0x4, lo := 16, width := 16, reset := 0x9620, acc := .ro, live := true }
/-- ID_ORG.ORG: organizationId of TIME_BOUND (R249) -/
def ID_ORG_ORG : Fld :=
  { addr := 0x8, lo := 0, width := 24, reset := Config.fused ((0x8) * 32) % 2 ^ 24, acc := .ro, live := true }
/-- GLB_SERIAL_LO.SER_LO: Unique die serial [31:0]; read latches HI -/
def GLB_SERIAL_LO_SER_LO : Fld :=
  { addr := 0xc, lo := 0, width := 32, reset := Config.fused ((0xc) * 32) % 2 ^ 32, acc := .ro, live := true }
/-- GLB_SERIAL_HI.SER_HI: Serial [63:32] -/
def GLB_SERIAL_HI_SER_HI : Fld :=
  { addr := 0x10, lo := 0, width := 32, reset := Config.fused ((0x10) * 32) % 2 ^ 32, acc := .ro, live := true }
/-- GLB_STRAPS.TWIN_SIDE: 0: A; 1: B; as read at package reset (R39) -/
def GLB_STRAPS_TWIN_SIDE : Fld :=
  { addr := 0x14, lo := 0, width := 1, reset := Config.twinSide % 2, acc := .ro, live := true }
/-- CAP_UNITS_0.LANES: Reference lanes -/
def CAP_UNITS_0_LANES : Fld :=
  { addr := 0x20, lo := 0, width := 8, reset := 0x10, acc := .ro, live := true }
/-- CAP_UNITS_0.TDC: TDC lanes, spare excluded -/
def CAP_UNITS_0_TDC : Fld :=
  { addr := 0x20, lo := 8, width := 8, reset := 0x18, acc := .ro, live := true }
/-- CAP_UNITS_0.SYN: Synthesis groups -/
def CAP_UNITS_0_SYN : Fld :=
  { addr := 0x20, lo := 16, width := 8, reset := 4, acc := .ro, live := true }
/-- CAP_UNITS_1.CLKOUT -/
def CAP_UNITS_1_CLKOUT : Fld :=
  { addr := 0x24, lo := 0, width := 8, reset := 0x10, acc := .ro, live := true }
/-- CAP_UNITS_1.PULSE -/
def CAP_UNITS_1_PULSE : Fld :=
  { addr := 0x24, lo := 8, width := 4, reset := 8, acc := .ro, live := true }
/-- CAP_UNITS_1.TOD -/
def CAP_UNITS_1_TOD : Fld :=
  { addr := 0x24, lo := 12, width := 4, reset := 2, acc := .ro, live := true }
/-- CAP_UNITS_1.GNSS_CH: Tracking channels -/
def CAP_UNITS_1_GNSS_CH : Fld :=
  { addr := 0x24, lo := 16, width := 8, reset := 0xc0, acc := .ro, live := true }
/-- CAP_UNITS_1.ACQ: Acquisition engines -/
def CAP_UNITS_1_ACQ : Fld :=
  { addr := 0x24, lo := 24, width := 4, reset := 4, acc := .ro, live := true }
/-- CAP_UNITS_2.PORTS -/
def CAP_UNITS_2_PORTS : Fld :=
  { addr := 0x28, lo := 0, width := 4, reset := 4, acc := .ro, live := true }
/-- CAP_UNITS_2.RSP: Responders -/
def CAP_UNITS_2_RSP : Fld :=
  { addr := 0x28, lo := 8, width := 8, reset := 0x20, acc := .ro, live := true }
/-- CAP_UNITS_2.AEAD: AEAD units -/
def CAP_UNITS_2_AEAD : Fld :=
  { addr := 0x28, lo := 16, width := 8, reset := 0x18, acc := .ro, live := true }
/-- CAP_UNITS_2.PTP_INST: PTP instances -/
def CAP_UNITS_2_PTP_INST : Fld :=
  { addr := 0x28, lo := 24, width := 4, reset := 4, acc := .ro, live := true }
/-- CAP_TABLES.KEY_SLOTS: 4,096 -/
def CAP_TABLES_KEY_SLOTS : Fld :=
  { addr := 0x2c, lo := 0, width := 13, reset := 0x1000, acc := .ro, live := true }
/-- CAP_TABLES.CLT_MAX_LOG2: Largest SIZE_LOG2 of CLT_CTRL -/
def CAP_TABLES_CLT_MAX_LOG2 : Fld :=
  { addr := 0x2c, lo := 16, width := 5, reset := 0x16, acc := .ro, live := true }
/-- CAP_TABLES.HIF_RINGS: Rings less 1 -/
def CAP_TABLES_HIF_RINGS : Fld :=
  { addr := 0x2c, lo := 24, width := 6, reset := 0x3f, acc := .ro, live := true }
/-- CAP_FEAT.GNSS: GNSS baseband present -/
def CAP_FEAT_GNSS : Fld :=
  { addr := 0x30, lo := 0, width := 1, reset := 1, acc := .ro, live := true }
/-- CAP_FEAT.TWIN: Twin operation -/
def CAP_FEAT_TWIN : Fld :=
  { addr := 0x30, lo := 1, width := 1, reset := 1, acc := .ro, live := true }
/-- CAP_FEAT.NTS: NTS in hardware -/
def CAP_FEAT_NTS : Fld :=
  { addr := 0x30, lo := 2, width := 1, reset := 1, acc := .ro, live := true }
/-- CAP_FEAT.PTP_AUTH: AUTHENTICATION TLV -/
def CAP_FEAT_PTP_AUTH : Fld :=
  { addr := 0x30, lo := 3, width := 1, reset := 1, acc := .ro, live := true }
/-- CAP_FEAT.MODE_50G: 50GBASE-R -/
def CAP_FEAT_MODE_50G : Fld :=
  { addr := 0x30, lo := 4, width := 1, reset := 1, acc := .ro, live := true }
/-- CAP_FEAT.MODE_100G: 100GBASE-R -/
def CAP_FEAT_MODE_100G : Fld :=
  { addr := 0x30, lo := 5, width := 1, reset := 1, acc := .ro, live := true }
/-- GLB_SCRATCH.SCRATCH: Live; no role needed. Has no effect on the engine -/
def GLB_SCRATCH_SCRATCH : Fld :=
  { addr := 0x40, lo := 0, width := 32, reset := 0, acc := .rw, live := true }

/-- PTP_UP_MCFG byte m, VALID: R259 -/
def PTP_UP_MCFG_VALID (n m : Nat) : Fld :=
  { addr := 0x340130 + 0x100 * n, lo := 8 * m, width := 1, reset := 0, acc := .rw, role := some .installer }
/-- PTP_UP_MCFG byte m, V4: R259 -/
def PTP_UP_MCFG_V4 (n m : Nat) : Fld :=
  { addr := 0x340130 + 0x100 * n, lo := 8 * m + 1, width := 1, reset := 0, acc := .rw, role := some .installer }
/-- PTP_UP_MCFG byte m, localPriority divided by 4: R259 -/
def PTP_UP_MCFG_PRIO (n m : Nat) : Fld :=
  { addr := 0x340130 + 0x100 * n, lo := 8 * m + 2, width := 6, reset := 0, acc := .rw, role := some .installer }

/-- A word of the result memory: record n, word m (R152, R153). -/
def TIM_RESULT_DATA (n m : Nat) : Fld :=
  { addr := 0x128000 + 0x40 * n + 0x4 * m, lo := 0, width := 32, reset := 0, acc := .ro }

end Reg

/-- The register words of block TCO. -/
def regTableTco : List RegT := [
  /- TCO_STATUS -/ RegT.one 0x100000 ([Reg.TCO_STATUS_STEP_ARMED, Reg.TCO_STATUS_SLEWING, Reg.TCO_STATUS_RATE_CLAMPED, Reg.TCO_STATUS_SLEW_CLAMPED, Reg.TCO_STATUS_LEAP_PENDING, Reg.TCO_STATUS_LEAP_COMMITTED, Reg.TCO_STATUS_LEAP_SIGN, Reg.TCO_STATUS_SMEAR_ACTIVE, Reg.TCO_STATUS_TB_TRACKING]),
  /- TCO_STICKY -/ RegT.one 0x100004 ([Reg.TCO_STICKY_STEP_DONE, Reg.TCO_STICKY_RATE_CLAMP_HIT, Reg.TCO_STICKY_SLEW_CLAMP_HIT, Reg.TCO_STICKY_LEAP_CONFLICT, Reg.TCO_STICKY_CMP_LATE, Reg.TCO_STICKY_CMP_STEPPED, Reg.TCO_STICKY_SLEW_RANGE, Reg.TCO_STICKY_TB_UNSURE_SEEN]),
  /- TCO_EVT_EN -/ RegT.one 0x100008 ([Reg.TCO_EVT_EN_EN]),
  /- TCO_CTRL -/ RegT.one 0x10000c ([Reg.TCO_CTRL_LEAP_SRC, Reg.TCO_CTRL_SMEAR_ALLOW]),
  /- STEP_THRESH -/ RegT.one 0x100010 ([Reg.STEP_THRESH_THRESH]),
  /- TIME_SEC_LO -/ { RegT.one 0x100020 ([Reg.TIME_SEC_LO_SEC_LO]) with latch := [4, 8, 12, 20, 24] },
  /- TIME_SEC_HI -/ { RegT.one 0x100024 ([Reg.TIME_SEC_HI_SEC_HI]) with latched := true },
  /- TIME_NS -/ { RegT.one 0x100028 ([Reg.TIME_NS_NS]) with latched := true },
  /- TIME_FRAC -/ { RegT.one 0x10002c ([Reg.TIME_FRAC_FRAC]) with latched := true },
  /- LINEAR_LO -/ { RegT.one 0x100030 ([Reg.LINEAR_LO_LIN_LO]) with latch := [4, 8] },
  /- LINEAR_HI -/ { RegT.one 0x100034 ([Reg.LINEAR_HI_LIN_HI]) with latched := true },
  /- LINEAR_FRAC -/ { RegT.one 0x100038 ([Reg.LINEAR_FRAC_LIN_FRAC]) with latched := true },
  /- RATE_ADJ_LO -/ { RegT.one 0x100040 ([Reg.RATE_ADJ_LO_RA_LO]) with latch := [4] },
  /- RATE_ADJ_HI -/ { RegT.one 0x100044 ([Reg.RATE_ADJ_HI_RA_HI]) with latched := true },
  /- RATE_TOTAL_LO -/ { RegT.one 0x100048 ([Reg.RATE_TOTAL_LO_RT_LO]) with latch := [4] },
  /- RATE_TOTAL_HI -/ { RegT.one 0x10004c ([Reg.RATE_TOTAL_HI_RT_HI]) with latched := true },
  /- SLEW_LIMIT_LO -/ { RegT.one 0x100050 ([Reg.SLEW_LIMIT_LO_SL_LO]) with latch := [4] },
  /- SLEW_LIMIT_HI -/ { RegT.one 0x100054 ([Reg.SLEW_LIMIT_HI_SL_HI]) with latched := true, staged := true },
  /- SLEW_REMAIN_LO -/ { RegT.one 0x100058 ([Reg.SLEW_REMAIN_LO_SR_LO]) with latch := [4] },
  /- SLEW_REMAIN_HI -/ { RegT.one 0x10005c ([Reg.SLEW_REMAIN_HI_SR_HI]) with latched := true },
  /- STEP_AT_LO -/ { RegT.one 0x100060 ([Reg.STEP_AT_LO_SA_LO]) with latch := [4] },
  /- STEP_AT_HI -/ { RegT.one 0x100064 ([Reg.STEP_AT_HI_SA_HI]) with latched := true },
  /- STEP_SIZE_LO -/ { RegT.one 0x100068 ([Reg.STEP_SIZE_LO_SS_LO]) with latch := [4] },
  /- STEP_SIZE_HI -/ { RegT.one 0x10006c ([Reg.STEP_SIZE_HI_SS_HI]) with latched := true },
  /- UTC_OFFSET -/ RegT.one 0x100070 ([Reg.UTC_OFFSET_CURRENT, Reg.UTC_OFFSET_NEXT]),
  /- LEAP_AT_LO -/ { RegT.one 0x100074 ([Reg.LEAP_AT_LO_LA_LO]) with latch := [4] },
  /- LEAP_AT_HI -/ { RegT.one 0x100078 ([Reg.LEAP_AT_HI_LA_HI]) with latched := true },
  /- SMEAR_LO -/ { RegT.one 0x100080 ([Reg.SMEAR_LO_SM_LO]) with latch := [4] },
  /- SMEAR_HI -/ { RegT.one 0x100084 ([Reg.SMEAR_HI_SM_HI]) with latched := true },
  /- CMP_CTRL -/ RegT.arr 0x100100 0x40 16 (fun n => [Reg.CMP_CTRL_MODE n, Reg.CMP_CTRL_ACT_EVENT n, Reg.CMP_CTRL_ACT_PF n, Reg.CMP_CTRL_ARMED n, Reg.CMP_CTRL_LATE n, Reg.CMP_CTRL_STEPPED n, Reg.CMP_CTRL_SKIPPED n]),
  /- CMP_TGT_LO -/ { RegT.arr 0x100104 0x40 16 (fun n => [Reg.CMP_TGT_LO_TGT n]) with latch := [4, 8] },
  /- CMP_TGT_HI -/ { RegT.arr 0x100108 0x40 16 (fun n => [Reg.CMP_TGT_HI_TGT n]) with latched := true },
  /- CMP_TGT_FRAC -/ { RegT.arr 0x10010c 0x40 16 (fun n => [Reg.CMP_TGT_FRAC_TGT n]) with latched := true },
  /- CMP_PER_LO -/ { RegT.arr 0x100110 0x40 16 (fun n => [Reg.CMP_PER_LO_PER n]) with latch := [4, 8] },
  /- CMP_PER_HI -/ { RegT.arr 0x100114 0x40 16 (fun n => [Reg.CMP_PER_HI_PER n]) with latched := true },
  /- CMP_PER_FRAC -/ { RegT.arr 0x100118 0x40 16 (fun n => [Reg.CMP_PER_FRAC_PER n]) with latched := true },
  /- CMP_FIRED_LO -/ { RegT.arr 0x10011c 0x40 16 (fun n => [Reg.CMP_FIRED_LO_FIRED n]) with latch := [4, 8] },
  /- CMP_FIRED_HI -/ { RegT.arr 0x100120 0x40 16 (fun n => [Reg.CMP_FIRED_HI_FIRED n]) with latched := true },
  /- CMP_FIRED_FRAC -/ { RegT.arr 0x100124 0x40 16 (fun n => [Reg.CMP_FIRED_FRAC_FIRED n]) with latched := true },
  /- TB_STATUS -/ RegT.one 0x100800 ([Reg.TB_STATUS_STATE])
] ++ [
  /- TB_DELAY -/ RegT.one 0x100804 ([Reg.TB_DELAY_DELAY]),
  /- TB_ASYM -/ RegT.one 0x100808 ([Reg.TB_ASYM_ASYM]),
  /- TB_ERR -/ RegT.arr 0x100810 0x10 4 (fun n => [Reg.TB_ERR_ERR n]),
  /- TB_PEAK -/ RegT.arr 0x100814 0x10 4 (fun n => [Reg.TB_PEAK_PEAK n]),
  /- TB_MISS -/ RegT.arr 0x100818 0x10 4 (fun n => [Reg.TB_MISS_MISS n]),
  /- TB_SKEW -/ RegT.arr 0x10081c 0x10 4 (fun n => [Reg.TB_SKEW_SKEW n])
  ]

/-- The register words of block SEL. -/
def regTableSel : List RegT := [
  /- SEL_STATUS -/ RegT.one 0x110000 ([Reg.SEL_STATUS_CUR, Reg.SEL_STATUS_CUR_VALID, Reg.SEL_STATUS_FORCED, Reg.SEL_STATUS_PARTNER_SEL, Reg.SEL_STATUS_WTR_RUNNING, Reg.SEL_STATUS_NO_FIT, Reg.SEL_STATUS_DISAGREE_HOLD, Reg.SEL_STATUS_BUILDOUT_OPEN, Reg.SEL_STATUS_WTR_LANE, Reg.SEL_STATUS_WTR_REMAIN]),
  /- SEL_CTRL -/ RegT.one 0x110004 ([Reg.SEL_CTRL_REVERTIVE]),
  /- SEL_TIMERS -/ RegT.one 0x110008 ([Reg.SEL_TIMERS_WTR, Reg.SEL_TIMERS_AVG_WIN]),
  /- SEL_AGREE -/ RegT.one 0x11000c ([Reg.SEL_AGREE_AGREE]),
  /- SEL_XCHK -/ RegT.one 0x110010 ([Reg.SEL_XCHK_XCHK_SPAN]),
  /- SEL_EVT_EN -/ RegT.one 0x110014 ([Reg.SEL_EVT_EN_EN]),
  /- SEL_SWITCHES -/ RegT.one 0x110018 ([Reg.SEL_SWITCHES_COUNT]),
  /- SEL_LAST_AT_LO -/ { RegT.one 0x110020 ([Reg.SEL_LAST_AT_LO_AT_LO]) with latch := [4] },
  /- SEL_LAST_AT_HI -/ { RegT.one 0x110024 ([Reg.SEL_LAST_AT_HI_AT_HI]) with latched := true },
  /- SEL_LAST_LANES -/ RegT.one 0x110028 ([Reg.SEL_LAST_LANES_FROM, Reg.SEL_LAST_LANES_FROM_VALID, Reg.SEL_LAST_LANES_TO, Reg.SEL_LAST_LANES_TO_VALID]),
  /- SEL_BUILDOUT_LO -/ { RegT.one 0x110030 ([Reg.SEL_BUILDOUT_LO_BO_LO]) with latch := [4] },
  /- SEL_BUILDOUT_HI -/ { RegT.one 0x110034 ([Reg.SEL_BUILDOUT_HI_BO_HI]) with latched := true },
  /- SEL_B_OPEN -/ RegT.one 0x110038 ([Reg.SEL_B_OPEN_B_OPEN]),
  /- LANE_CFG -/ RegT.arr 0x110100 0x80 16 (fun n => [Reg.LANE_CFG_SOURCE n, Reg.LANE_CFG_TYPE n, Reg.LANE_CFG_RANK n, Reg.LANE_CFG_XCHK_EN n, Reg.LANE_CFG_QL_MIN n]),
  /- LANE_NOMINAL -/ RegT.arr 0x110104 0x80 16 (fun n => [Reg.LANE_NOMINAL_NOMINAL n]),
  /- LANE_TIMERS -/ RegT.arr 0x110108 0x80 16 (fun n => [Reg.LANE_TIMERS_QUAL_TIME n, Reg.LANE_TIMERS_DISQ_HOLD n]),
  /- LANE_U -/ RegT.arr 0x11010c 0x80 16 (fun n => [Reg.LANE_U_U n]),
  /- LANE_TRACE -/ RegT.arr 0x110110 0x80 16 (fun n => [Reg.LANE_TRACE_RECORD n]),
  /- FREQ_WARN -/ RegT.arr 0x110114 0x80 16 (fun n => [Reg.FREQ_WARN_HURDLE n]),
  /- FREQ_LIMIT -/ RegT.arr 0x110118 0x80 16 (fun n => [Reg.FREQ_LIMIT_HURDLE n]),
  /- DRIFT_WARN -/ RegT.arr 0x11011c 0x80 16 (fun n => [Reg.DRIFT_WARN_HURDLE n]),
  /- DRIFT_LIMIT -/ RegT.arr 0x110120 0x80 16 (fun n => [Reg.DRIFT_LIMIT_HURDLE n]),
  /- PHASE_WARN -/ RegT.arr 0x110124 0x80 16 (fun n => [Reg.PHASE_WARN_HURDLE n]),
  /- PHASE_LIMIT -/ RegT.arr 0x110128 0x80 16 (fun n => [Reg.PHASE_LIMIT_HURDLE n]),
  /- LANE_EVT_EN -/ RegT.arr 0x11012c 0x80 16 (fun n => [Reg.LANE_EVT_EN_EN n]),
  /- LANE_STATE -/ RegT.arr 0x110130 0x80 16 (fun n => [Reg.LANE_STATE_STATE n, Reg.LANE_STATE_FORCED n, Reg.LANE_STATE_WARN n, Reg.LANE_STATE_DISAGREE_NOW n, Reg.LANE_STATE_BUILDOUT_KEPT n, Reg.LANE_STATE_CAUSE n, Reg.LANE_STATE_TIMER n]),
  /- LANE_STICKY -/ RegT.arr 0x110134 0x80 16 (fun n => [Reg.LANE_STICKY_LOS n, Reg.LANE_STICKY_FREQ_WARN n, Reg.LANE_STICKY_FREQ_LIMIT n, Reg.LANE_STICKY_DRIFT n, Reg.LANE_STICKY_DRIFT_LIMIT n, Reg.LANE_STICKY_PHASE_WARN n, Reg.LANE_STICKY_PHASE_LIMIT n, Reg.LANE_STICKY_PHASE_JUMP n, Reg.LANE_STICKY_DISAGREE n, Reg.LANE_STICKY_QUAL_FAIL n]),
  /- LANE_FOFF -/ RegT.arr 0x110138 0x80 16 (fun n => [Reg.LANE_FOFF_FOFF n]),
  /- LANE_DRIFT -/ RegT.arr 0x11013c 0x80 16 (fun n => [Reg.LANE_DRIFT_DRIFT n]),
  /- LANE_OFFSET_LO -/ { RegT.arr 0x110140 0x80 16 (fun n => [Reg.LANE_OFFSET_LO_OFS_LO n]) with latch := [4] },
  /- LANE_OFFSET_HI -/ { RegT.arr 0x110144 0x80 16 (fun n => [Reg.LANE_OFFSET_HI_OFS_HI n]) with latched := true },
  /- LANE_RESID -/ RegT.arr 0x110148 0x80 16 (fun n => [Reg.LANE_RESID_RESID n]),
  /- LANE_SIGMA -/ RegT.arr 0x11014c 0x80 16 (fun n => [Reg.LANE_SIGMA_SIGMA n]),
  /- LANE_BUILDOUT_LO -/ { RegT.arr 0x110150 0x80 16 (fun n => [Reg.LANE_BUILDOUT_LO_BO_LO n]) with latch := [4] },
  /- LANE_BUILDOUT_HI -/ { RegT.arr 0x110154 0x80 16 (fun n => [Reg.LANE_BUILDOUT_HI_BO_HI n]) with latched := true },
  /- LANE_ALLOW -/ RegT.arr 0x110158 0x80 16 (fun n => [Reg.LANE_ALLOW_ALLOW n]),
  /- LANE_QL -/ RegT.arr 0x11015c 0x80 16 (fun n => [Reg.LANE_QL_QL n, Reg.LANE_QL_QL_VALID n]),
  /- LANE_QUAL_FAILS -/ RegT.arr 0x110160 0x80 16 (fun n => [Reg.LANE_QUAL_FAILS_COUNT n])
  ]

/-- The register words of block HOB. -/
def regTableHob : List RegT := [
  /- HOB_STATUS -/ RegT.one 0x150000 ([Reg.HOB_STATUS_STATE, Reg.HOB_STATUS_MODEL_VALID, Reg.HOB_STATUS_ATOMIC_USE, Reg.HOB_STATUS_TEB_SAT, Reg.HOB_STATUS_SETTLING, Reg.HOB_STATUS_ANCHORED, Reg.HOB_STATUS_CC_DEFAULT, Reg.HOB_STATUS_CC_TELECOM]),
  /- HOB_STICKY -/ RegT.one 0x150004 ([Reg.HOB_STICKY_HOLDOVER_ENTERED, Reg.HOB_STICKY_HOLDOVER_EXCEEDED, Reg.HOB_STICKY_FREERUN_ENTERED, Reg.HOB_STICKY_TEB_SAT, Reg.HOB_STICKY_MODEL_RESET, Reg.HOB_STICKY_HOLD_SRC_LOST, Reg.HOB_STICKY_MODEL_VALID]),
  /- HOB_EVT_EN -/ RegT.one 0x150008 ([Reg.HOB_EVT_EN_EN]),
  /- HOB_TEB -/ RegT.one 0x15000c ([Reg.HOB_TEB_TEB]),
  /- HOB_TRACE -/ RegT.one 0x150010 ([Reg.HOB_TRACE_TRACE]),
  /- HOB_LOCK_HIST -/ RegT.one 0x150014 ([Reg.HOB_LOCK_HIST_SECONDS]),
  /- HOB_LOOP_BW -/ RegT.one 0x150020 ([Reg.HOB_LOOP_BW_BW_PT, Reg.HOB_LOOP_BW_BW_F]),
  /- HOB_LOOP_DAMP -/ RegT.one 0x150024 ([Reg.HOB_LOOP_DAMP_ZETA, Reg.HOB_LOOP_DAMP_ACQ_BOOST]),
  /- HOB_LOCK -/ RegT.one 0x150028 ([Reg.HOB_LOCK_LOCK_THRESH, Reg.HOB_LOCK_LOCK_TIME]),
  /- HOB_LIMIT -/ RegT.one 0x15002c ([Reg.HOB_LIMIT_HOLDOVER_LIMIT]),
  /- HOB_MODEL_WIN -/ RegT.one 0x150030 ([Reg.HOB_MODEL_WIN_WIN]),
  /- HOB_NOM_LO -/ { RegT.one 0x150034 ([Reg.HOB_NOM_LO_NOM_LO]) with latch := [4] },
  /- HOB_NOM_HI -/ { RegT.one 0x150038 ([Reg.HOB_NOM_HI_NOM_HI]) with latched := true, staged := true },
  /- HOB_NOM_UY -/ RegT.one 0x15003c ([Reg.HOB_NOM_UY_UY]),
  /- HOB_OSC_CLASS -/ RegT.one 0x150040 ([Reg.HOB_OSC_CLASS_OCXO, Reg.HOB_OSC_CLASS_ATOMIC]),
  /- OCXO_AMAX -/ RegT.one 0x150044 ([Reg.OCXO_AMAX_AMAX]),
  /- OCXO_W -/ RegT.one 0x150048 ([Reg.OCXO_W_W]),
  /- OCXO_UYMIN -/ RegT.one 0x15004c ([Reg.OCXO_UYMIN_UYMIN]),
  /- ATOM_AMAX -/ RegT.one 0x150050 ([Reg.ATOM_AMAX_AMAX]),
  /- ATOM_W -/ RegT.one 0x150054 ([Reg.ATOM_W_W]),
  /- ATOM_UYMIN -/ RegT.one 0x150058 ([Reg.ATOM_UYMIN_UYMIN]),
  /- HOB_MODEL_RATE_LO -/ { RegT.one 0x150080 ([Reg.HOB_MODEL_RATE_LO_R_LO]) with latch := [4] },
  /- HOB_MODEL_RATE_HI -/ { RegT.one 0x150084 ([Reg.HOB_MODEL_RATE_HI_R_HI]) with latched := true },
  /- HOB_MODEL_DRIFT -/ RegT.one 0x150088 ([Reg.HOB_MODEL_DRIFT_DRIFT]),
  /- HOB_MODEL_SRC -/ RegT.one 0x15008c ([Reg.HOB_MODEL_SRC_LANE, Reg.HOB_MODEL_SRC_ATOMIC, Reg.HOB_MODEL_SRC_VALID, Reg.HOB_MODEL_SRC_DRIFT_FITTED]),
  /- HOB_MODEL_UY -/ RegT.one 0x150090 ([Reg.HOB_MODEL_UY_UY]),
  /- HOB_FIT_AT_LO -/ { RegT.one 0x150094 ([Reg.HOB_FIT_AT_LO_FA_LO]) with latch := [4] },
  /- HOB_FIT_AT_HI -/ { RegT.one 0x150098 ([Reg.HOB_FIT_AT_HI_FA_HI]) with latched := true },
  /- HOB_T0_LO -/ { RegT.one 0x1500a0 ([Reg.HOB_T0_LO_T0_LO]) with latch := [4] },
  /- HOB_T0_HI -/ { RegT.one 0x1500a4 ([Reg.HOB_T0_HI_T0_HI]) with latched := true },
  /- HOB_TEB0 -/ RegT.one 0x1500a8 ([Reg.HOB_TEB0_TEB0]),
  /- HOB_UY_USE -/ RegT.one 0x1500ac ([Reg.HOB_UY_USE_UY]),
  /- HOB_AMAX_USE -/ RegT.one 0x1500b0 ([Reg.HOB_AMAX_USE_AMAX]),
  /- HOB_W_USE -/ RegT.one 0x1500b4 ([Reg.HOB_W_USE_W]),
  /- LANE_UY -/ RegT.arr 0x150100 0x4 16 (fun n => [Reg.LANE_UY_UY n])
  ]

/-- The register words of block TIM. -/
def regTableTim : List RegT := [
  /- TIM_STATUS -/ RegT.one 0x120000 ([Reg.TIM_STATUS_WARMING, Reg.TIM_STATUS_WARM_BY_TIMEOUT, Reg.TIM_STATUS_ROTATING, Reg.TIM_STATUS_SPARE_SUBST, Reg.TIM_STATUS_SUBST_LANE, Reg.TIM_STATUS_CAL_LANE]),
  /- TIM_STICKY -/ RegT.one 0x120004 ([Reg.TIM_STICKY_STICKY]),
  /- TIM_EVT_EN -/ RegT.one 0x120008 ([Reg.TIM_EVT_EN_EN]),
  /- TIM_WARM -/ RegT.one 0x12000c ([Reg.TIM_WARM_TIMEOUT, Reg.TIM_WARM_ELAPSED]),
  /- TIM_WARM_SPAN -/ RegT.one 0x120010 ([Reg.TIM_WARM_SPAN_SPAN]),
  /- TIM_CAL_CTRL -/ RegT.one 0x120014 ([Reg.TIM_CAL_CTRL_CAL_TOL, Reg.TIM_CAL_CTRL_STALE_AGE]),
  /- TIM_RES_WR -/ RegT.one 0x120020 ([Reg.TIM_RES_WR_WR]),
  /- TIM_RES_RD -/ RegT.one 0x120024 ([Reg.TIM_RES_RD_RD]),
  /- TIM_RES_LOST -/ RegT.one 0x120028 ([Reg.TIM_RES_LOST_COUNT]),
  /- REFIN_DELAY -/ RegT.arr 0x120040 0x4 8 (fun n => [Reg.REFIN_DELAY_DELAY n]),
  /- TDC_CFG -/ RegT.arr 0x120100 0x80 25 (fun n => [Reg.TDC_CFG_USE n, Reg.TDC_CFG_START_SRC n, Reg.TDC_CFG_START_EDGE n, Reg.TDC_CFG_STOP_SRC n, Reg.TDC_CFG_STOP_EDGE n, Reg.TDC_CFG_SPLITS n, Reg.TDC_CFG_SIGNED n, Reg.TDC_CFG_SCALE n, Reg.TDC_CFG_KEEP n, Reg.TDC_CFG_STAT_SPLIT n, Reg.TDC_CFG_SERVED_BY n]),
  /- TDC_HEAT -/ RegT.arr 0x120104 0x80 25 (fun n => [Reg.TDC_HEAT_N n, Reg.TDC_HEAT_DONE n]),
  /- TDC_WINDOW -/ RegT.arr 0x120108 0x80 25 (fun n => [Reg.TDC_WINDOW_WINDOW n]),
  /- TDC_SIGNED_WIN -/ RegT.arr 0x12010c 0x80 25 (fun n => [Reg.TDC_SIGNED_WIN_WIN n]),
  /- TDC_STATE -/ RegT.arr 0x120110 0x80 25 (fun n => [Reg.TDC_STATE_HEAT_STATE n, Reg.TDC_STATE_WARM_SEEN n, Reg.TDC_STATE_STEP_SEEN n, Reg.TDC_STATE_SPARE_SEEN n, Reg.TDC_STATE_HEAT_NO n]),
  /- TDC_FALSE_START -/ RegT.arr 0x120114 0x80 25 (fun n => [Reg.TDC_FALSE_START_COUNT n]),
  /- TDC_DEAD_LOST -/ RegT.arr 0x120118 0x80 25 (fun n => [Reg.TDC_DEAD_LOST_COUNT n]),
  /- TDC_TIMEOUTS -/ RegT.arr 0x12011c 0x80 25 (fun n => [Reg.TDC_TIMEOUTS_COUNT n]),
  /- TDC_START_SKIPPED -/ RegT.arr 0x120120 0x80 25 (fun n => [Reg.TDC_START_SKIPPED_COUNT n]),
  /- STAT_COUNT -/ RegT.arr 0x120124 0x80 25 (fun n => [Reg.STAT_COUNT_INCLUDED n, Reg.STAT_COUNT_EXCLUDED n]),
  /- STAT_MEAN_LO -/ { RegT.arr 0x120128 0x80 25 (fun n => [Reg.STAT_MEAN_LO_MEAN_LO n]) with latch := [4, 8, 12, 16, 20, 24] },
  /- STAT_MEAN_HI -/ { RegT.arr 0x12012c 0x80 25 (fun n => [Reg.STAT_MEAN_HI_MEAN_HI n]) with latched := true },
  /- STAT_SD -/ { RegT.arr 0x120130 0x80 25 (fun n => [Reg.STAT_SD_SD n]) with latched := true },
  /- STAT_MIN_LO -/ { RegT.arr 0x120134 0x80 25 (fun n => [Reg.STAT_MIN_LO_MIN_LO n]) with latch := [4] },
  /- STAT_MIN_HI -/ { RegT.arr 0x120138 0x80 25 (fun n => [Reg.STAT_MIN_HI_MIN_HI n]) with latched := true },
  /- STAT_MAX_LO -/ { RegT.arr 0x12013c 0x80 25 (fun n => [Reg.STAT_MAX_LO_MAX_LO n]) with latch := [4] },
  /- STAT_MAX_HI -/ { RegT.arr 0x120140 0x80 25 (fun n => [Reg.STAT_MAX_HI_MAX_HI n]) with latched := true },
  /- TDC_CAL_AGE -/ RegT.arr 0x120e00 0x10 25 (fun n => [Reg.TDC_CAL_AGE_AGE n]),
  /- TDC_CAL_LSB -/ RegT.arr 0x120e04 0x10 25 (fun n => [Reg.TDC_CAL_LSB_LSB n]),
  /- TDC_CAL_DIFF -/ RegT.arr 0x120e08 0x10 25 (fun n => [Reg.TDC_CAL_DIFF_DIFF n]),
  /- TDC_CAL_FAILS -/ RegT.arr 0x120e0c 0x10 25 (fun n => [Reg.TDC_CAL_FAILS_COUNT n]),
  /- TIM_RESULT -/ RegT.arr2 0x128000 0x40 512 0x4 16 (fun n m => [Reg.TIM_RESULT_DATA n m])
  ]

/-- The register words of block SYN. -/
def regTableSyn : List RegT := [
  /- SYN_SUMMARY -/ RegT.one 0x130000 ([Reg.SYN_SUMMARY_STATE_A, Reg.SYN_SUMMARY_STATE_B, Reg.SYN_SUMMARY_STATE_C, Reg.SYN_SUMMARY_STATE_D, Reg.SYN_SUMMARY_LOCKED]),
  /- SYN_CFG -/ RegT.arr 0x130100 0x100 4 (fun n => [Reg.SYN_CFG_FILTER n, Reg.SYN_CFG_EXT_LF n, Reg.SYN_CFG_ICP n, Reg.SYN_CFG_N n]),
  /- SYN_NUM_LO -/ { RegT.arr 0x130104 0x100 4 (fun n => [Reg.SYN_NUM_LO_NUM_LO n]) with latch := [4] },
  /- SYN_NUM_HI -/ { RegT.arr 0x130108 0x100 4 (fun n => [Reg.SYN_NUM_HI_NUM_HI n]) with latched := true, staged := true },
  /- SYN_DEN -/ RegT.arr 0x13010c 0x100 4 (fun n => [Reg.SYN_DEN_DEN n]),
  /- SYN_LOCK -/ RegT.arr 0x130110 0x100 4 (fun n => [Reg.SYN_LOCK_WIN_LOG2 n, Reg.SYN_LOCK_K n, Reg.SYN_LOCK_LOCK_TOL n, Reg.SYN_LOCK_UNLOCK_TOL n]),
  /- SYN_HOLD -/ RegT.arr 0x130114 0x100 4 (fun n => [Reg.SYN_HOLD_RELOCK_DELAY n, Reg.SYN_HOLD_HOLD_DEV n]),
  /- SYN_STATE -/ RegT.arr 0x130118 0x100 4 (fun n => [Reg.SYN_STATE_STATE n, Reg.SYN_STATE_TH_ENGAGED n, Reg.SYN_STATE_RAMPING n, Reg.SYN_STATE_FOLLOW_LIMITED n, Reg.SYN_STATE_CAUSE n, Reg.SYN_STATE_CFG_PENDING n, Reg.SYN_STATE_RAMP_LEFT n]),
  /- SYN_STICKY -/ RegT.arr 0x13011c 0x100 4 (fun n => [Reg.SYN_STICKY_STICKY n]),
  /- SYN_EVT_EN -/ RegT.arr 0x130120 0x100 4 (fun n => [Reg.SYN_EVT_EN_EN n]),
  /- SYN_BAND -/ RegT.arr 0x130124 0x100 4 (fun n => [Reg.SYN_BAND_BAND n, Reg.SYN_BAND_LO n, Reg.SYN_BAND_HI n]),
  /- SYN_GRP_ERR_LO -/ { RegT.arr 0x130128 0x100 4 (fun n => [Reg.SYN_GRP_ERR_LO_G_LO n]) with latch := [4, 8] },
  /- SYN_GRP_ERR_HI -/ { RegT.arr 0x13012c 0x100 4 (fun n => [Reg.SYN_GRP_ERR_HI_G_HI n]) with latched := true },
  /- SYN_GRP_ERR_FRAC -/ { RegT.arr 0x130130 0x100 4 (fun n => [Reg.SYN_GRP_ERR_FRAC_G_FRAC n]) with latched := true },
  /- SYN_HELD_FOFF -/ RegT.arr 0x130134 0x100 4 (fun n => [Reg.SYN_HELD_FOFF_FOFF n]),
  /- SYN_VCO_KHZ -/ RegT.arr 0x130138 0x100 4 (fun n => [Reg.SYN_VCO_KHZ_FREQ n]),
  /- SYN_LOSSES -/ RegT.arr 0x13013c 0x100 4 (fun n => [Reg.SYN_LOSSES_COUNT n]),
  /- SYN_RELOCK_FAILS -/ RegT.arr 0x130140 0x100 4 (fun n => [Reg.SYN_RELOCK_FAILS_COUNT n]),
  /- SYN_LAST_LOSS_LO -/ { RegT.arr 0x130148 0x100 4 (fun n => [Reg.SYN_LAST_LOSS_LO_AT_LO n]) with latch := [4] },
  /- SYN_LAST_LOSS_HI -/ { RegT.arr 0x13014c 0x100 4 (fun n => [Reg.SYN_LAST_LOSS_HI_AT_HI n]) with latched := true }
  ]

/-- The register words of block OUT. -/
def regTableOut : List RegT := [
  /- OUT_STATUS -/ RegT.one 0x140000 ([Reg.OUT_STATUS_CLK_RUN, Reg.OUT_STATUS_PULSE_RUN, Reg.OUT_STATUS_TOD_ON]),
  /- OUT_STICKY -/ RegT.one 0x140004 ([Reg.OUT_STICKY_MISALIGNED]),
  /- OUT_EVT_EN -/ RegT.one 0x140008 ([Reg.OUT_EVT_EN_EN]),
  /- OUT_ALIGN_WARN -/ RegT.one 0x14000c ([Reg.OUT_ALIGN_WARN_WARN]),
  /- CLK_CFG -/ RegT.arr 0x140100 0x20 16 (fun n => [Reg.CLK_CFG_GROUP n, Reg.CLK_CFG_STD n, Reg.CLK_CFG_INVERT n, Reg.CLK_CFG_DRIVE n, Reg.CLK_CFG_DIV n]),
  /- CLK_STATE -/ RegT.arr 0x140104 0x20 16 (fun n => [Reg.CLK_STATE_STATE n, Reg.CLK_STATE_WALKING n, Reg.CLK_STATE_FENCE_LAST n]),
  /- CLK_PH -/ RegT.arr 0x140108 0x20 16 (fun n => [Reg.CLK_PH_PH n]),
  /- CLK_ERR -/ RegT.arr 0x14010c 0x20 16 (fun n => [Reg.CLK_ERR_E n]),
  /- CLK_DELAY -/ RegT.arr 0x140110 0x20 16 (fun n => [Reg.CLK_DELAY_D n]),
  /- PULSE_CFG -/ RegT.arr 0x140400 0x40 8 (fun n => [Reg.PULSE_CFG_GROUP n, Reg.PULSE_CFG_STD n, Reg.PULSE_CFG_POLARITY n, Reg.PULSE_CFG_MODE n, Reg.PULSE_CFG_QERR_EVT n]),
  /- PULSE_WIDTH -/ RegT.arr 0x140404 0x40 8 (fun n => [Reg.PULSE_WIDTH_WIDTH n]),
  /- PULSE_PNUM -/ RegT.arr 0x140408 0x40 8 (fun n => [Reg.PULSE_PNUM_PNUM n]),
  /- PULSE_PDEN -/ RegT.arr 0x14040c 0x40 8 (fun n => [Reg.PULSE_PDEN_PDEN n]),
  /- PULSE_OFFSET_LO -/ { RegT.arr 0x140410 0x40 8 (fun n => [Reg.PULSE_OFFSET_LO_OFS_LO n]) with latch := [4] },
  /- PULSE_OFFSET_HI -/ { RegT.arr 0x140414 0x40 8 (fun n => [Reg.PULSE_OFFSET_HI_OFS_HI n]) with latched := true, staged := true },
  /- PULSE_U -/ RegT.arr 0x140418 0x40 8 (fun n => [Reg.PULSE_U_U n]),
  /- PULSE_STATE -/ RegT.arr 0x14041c 0x40 8 (fun n => [Reg.PULSE_STATE_STATE n, Reg.PULSE_STATE_PENDING n, Reg.PULSE_STATE_FENCE_LAST n, Reg.PULSE_STATE_ALIGNING n, Reg.PULSE_STATE_STEPPED n]),
  /- PULSE_ERR_LO -/ { RegT.arr 0x140420 0x40 8 (fun n => [Reg.PULSE_ERR_LO_E_LO n]) with latch := [4, 8, 16] },
  /- PULSE_ERR_HI -/ { RegT.arr 0x140424 0x40 8 (fun n => [Reg.PULSE_ERR_HI_E_HI n]) with latched := true },
  /- PULSE_QERR -/ { RegT.arr 0x140428 0x40 8 (fun n => [Reg.PULSE_QERR_QERR n]) with latched := true },
  /- PULSE_EDGE_LO -/ { RegT.arr 0x14042c 0x40 8 (fun n => [Reg.PULSE_EDGE_LO_AT_LO n]) with latch := [4] },
  /- PULSE_EDGE_HI -/ { RegT.arr 0x140430 0x40 8 (fun n => [Reg.PULSE_EDGE_HI_AT_HI n]) with latched := true },
  /- PULSE_DELAY -/ RegT.arr 0x140434 0x40 8 (fun n => [Reg.PULSE_DELAY_D n]),
  /- TOD_CFG -/ RegT.arr 0x140800 0x20 2 (fun n => [Reg.TOD_CFG_PULSE n, Reg.TOD_CFG_BAUD n]),
  /- TOD_SENT -/ RegT.arr 0x140804 0x20 2 (fun n => [Reg.TOD_SENT_COUNT n]),
  /- TOD_LAST -/ RegT.arr 0x140808 0x20 2 (fun n => [Reg.TOD_LAST_SEQ n, Reg.TOD_LAST_NO_EDGE n])
  ]

/-- The register words of block GNB. -/
def regTableGnb : List RegT := [
  /- GNB_STATUS -/ RegT.one 0x180000 ([Reg.GNB_STATUS_POS_STATE, Reg.GNB_STATUS_SOLN_VALID, Reg.GNB_STATUS_RUNNING, Reg.GNB_STATUS_CH_TRACK, Reg.GNB_STATUS_SATS_USED]),
  /- GNB_STICKY -/ RegT.one 0x180004 ([Reg.GNB_STICKY_STICKY]),
  /- GNB_EVT_EN -/ RegT.one 0x180008 ([Reg.GNB_EVT_EN_EN]),
  /- GNB_CTRL -/ RegT.one 0x18000c ([Reg.GNB_CTRL_RUN, Reg.GNB_CTRL_MEAS_RATE, Reg.GNB_CTRL_MEAS_RING, Reg.GNB_CTRL_REF_CONST, Reg.GNB_CTRL_IONO_DUAL, Reg.GNB_CTRL_EPH_TRUST]),
  /- GNB_SIG_EN -/ RegT.one 0x180010 ([Reg.GNB_SIG_EN_EN]),
  /- GNB_MASK -/ RegT.one 0x180014 ([Reg.GNB_MASK_ELEV_MASK, Reg.GNB_MASK_MIN_CN0, Reg.GNB_MASK_MIN_SATS, Reg.GNB_MASK_MIN_LOCK]),
  /- GNB_LOOP -/ RegT.one 0x180018 ([Reg.GNB_LOOP_DLL_BW, Reg.GNB_LOOP_PLL_BW, Reg.GNB_LOOP_FLL_BW, Reg.GNB_LOOP_T_COH, Reg.GNB_LOOP_CORR_SPACING]),
  /- GNB_ACQ -/ RegT.one 0x18001c ([Reg.GNB_ACQ_ACQ_TCOH, Reg.GNB_ACQ_ACQ_NC, Reg.GNB_ACQ_ACQ_THRESH]),
  /- GNB_TIMERS -/ RegT.one 0x180020 ([Reg.GNB_TIMERS_REACQ_TIME, Reg.GNB_TIMERS_PULLIN_TIME, Reg.GNB_TIMERS_CN0_DROP]),
  /- GNB_ISB_U -/ RegT.one 0x180024 ([Reg.GNB_ISB_U_ISB_U]),
  /- GNB_POS_X_LO -/ { RegT.one 0x180040 ([Reg.GNB_POS_X_LO_X_LO]) with latch := [4] },
  /- GNB_POS_X_HI -/ { RegT.one 0x180044 ([Reg.GNB_POS_X_HI_X_HI]) with latched := true },
  /- GNB_POS_Y_LO -/ { RegT.one 0x180048 ([Reg.GNB_POS_Y_LO_Y_LO]) with latch := [4] },
  /- GNB_POS_Y_HI -/ { RegT.one 0x18004c ([Reg.GNB_POS_Y_HI_Y_HI]) with latched := true },
  /- GNB_POS_Z_LO -/ { RegT.one 0x180050 ([Reg.GNB_POS_Z_LO_Z_LO]) with latch := [4] },
  /- GNB_POS_Z_HI -/ { RegT.one 0x180054 ([Reg.GNB_POS_Z_HI_Z_HI]) with latched := true },
  /- GNB_POS_U -/ RegT.one 0x180058 ([Reg.GNB_POS_U_POS_U]),
  /- GNB_SURVEY -/ RegT.one 0x18005c ([Reg.GNB_SURVEY_SURVEY_TIME]),
  /- GNB_SURVEY_DONE -/ RegT.one 0x180060 ([Reg.GNB_SURVEY_DONE_ELAPSED]),
  /- GNB_ANT_DELAY_L1 -/ RegT.one 0x180080 ([Reg.GNB_ANT_DELAY_L1_DELAY]),
  /- GNB_ANT_DELAY_L5 -/ RegT.one 0x180084 ([Reg.GNB_ANT_DELAY_L5_DELAY]),
  /- GNB_SIG_DELAY -/ RegT.arr 0x180088 0x4 8 (fun n => [Reg.GNB_SIG_DELAY_DELAY n]),
  /- GNB_U_SRC -/ RegT.one 0x1800c0 ([Reg.GNB_U_SRC_U_SRC]),
  /- GNB_SIGMA_T -/ RegT.one 0x1800c4 ([Reg.GNB_SIGMA_T_SIGMA]),
  /- GNB_GNSS_UTC -/ RegT.one 0x1800c8 ([Reg.GNB_GNSS_UTC_TAI_UTC]),
  /- GNB_EPOCH_NO -/ RegT.one 0x1800cc ([Reg.GNB_EPOCH_NO_EPOCH_NO]),
  /- GNB_MEAS_DROPPED -/ RegT.one 0x1800d0 ([Reg.GNB_MEAS_DROPPED_COUNT]),
  /- GNB_TTFF -/ RegT.one 0x1800d4 ([Reg.GNB_TTFF_TTFF]),
  /- GNB_LATCH_LO -/ { RegT.one 0x1800d8 ([Reg.GNB_LATCH_LO_AT_LO]) with latch := [4] },
  /- GNB_LATCH_HI -/ { RegT.one 0x1800dc ([Reg.GNB_LATCH_HI_AT_HI]) with latched := true },
  /- GNB_SLI_CFG -/ RegT.one 0x180100 ([Reg.GNB_SLI_CFG_L1_EN, Reg.GNB_SLI_CFG_L5_EN, Reg.GNB_SLI_CFG_FORMAT, Reg.GNB_SLI_CFG_SWAP_IQ, Reg.GNB_SLI_CFG_INV_Q, Reg.GNB_SLI_CFG_CAP_PHASE]),
  /- GNB_IF_L1 -/ RegT.one 0x180104 ([Reg.GNB_IF_L1_IF]),
  /- GNB_IF_L5 -/ RegT.one 0x180108 ([Reg.GNB_IF_L5_IF]),
  /- GNB_SLI_STATUS -/ RegT.one 0x18010c ([Reg.GNB_SLI_STATUS_DENS_L1, Reg.GNB_SLI_STATUS_DENS_L5, Reg.GNB_SLI_STATUS_STUCK_L1, Reg.GNB_SLI_STATUS_STUCK_L5, Reg.GNB_SLI_STATUS_FAULT_L1, Reg.GNB_SLI_STATUS_FAULT_L5]),
  /- GNB_SLI_FAULTS -/ RegT.one 0x180110 ([Reg.GNB_SLI_FAULTS_COUNT]),
  /- CH_STATUS -/ RegT.arr 0x181000 0x20 192 (fun n => [Reg.CH_STATUS_STATE n, Reg.CH_STATUS_SIG n, Reg.CH_STATUS_SVID n, Reg.CH_STATUS_EXCLUDE n, Reg.CH_STATUS_CODE_LOCK n, Reg.CH_STATUS_CARRIER_LOCK n, Reg.CH_STATUS_USED n]),
  /- CH_CN0 -/ RegT.arr 0x181004 0x20 192 (fun n => [Reg.CH_CN0_CN0 n]),
  /- CH_DOPPLER -/ RegT.arr 0x181008 0x20 192 (fun n => [Reg.CH_DOPPLER_DOPPLER n]),
  /- CH_LOCK_TIME -/ RegT.arr 0x18100c 0x20 192 (fun n => [Reg.CH_LOCK_TIME_LOCK_TIME n]),
  /- CH_RESID -/ RegT.arr 0x181010 0x20 192 (fun n => [Reg.CH_RESID_RESIDUAL n])
] ++ [
  /- CH_SLIPS -/ RegT.arr 0x181014 0x20 192 (fun n => [Reg.CH_SLIPS_COUNT n]),
  /- ACQ_STATUS -/ RegT.arr 0x183000 0x10 4 (fun n => [Reg.ACQ_STATUS_BUSY n, Reg.ACQ_STATUS_AIDED n, Reg.ACQ_STATUS_CHANNEL n, Reg.ACQ_STATUS_SIG n, Reg.ACQ_STATUS_SVID n]),
  /- ACQ_DWELLS -/ RegT.arr 0x183004 0x10 4 (fun n => [Reg.ACQ_DWELLS_COUNT n]),
  /- ACQ_DETECTS -/ RegT.arr 0x183008 0x10 4 (fun n => [Reg.ACQ_DETECTS_COUNT n])
  ]

/-- The register words of block PTP. -/
def regTablePtp : List RegT := [
  /- PTP_STATUS -/ RegT.one 0x340000 ([Reg.PTP_STATUS_SERVING, Reg.PTP_STATUS_UP_SLAVE]),
  /- PTP_STICKY -/ RegT.one 0x340004 ([Reg.PTP_STICKY_STICKY]),
  /- PTP_EVT_EN -/ RegT.one 0x340008 ([Reg.PTP_EVT_EN_EN]),
  /- PTP_CLOCK_ID_LO -/ { RegT.one 0x340010 ([Reg.PTP_CLOCK_ID_LO_ID_LO]) with latch := [4] },
  /- PTP_CLOCK_ID_HI -/ { RegT.one 0x340014 ([Reg.PTP_CLOCK_ID_HI_ID_HI]) with latched := true, staged := true },
  /- PTP_INST_CFG -/ RegT.arr 0x340100 0x100 4 (fun n => [Reg.PTP_INST_CFG_PROFILE n, Reg.PTP_INST_CFG_ROLE n, Reg.PTP_INST_CFG_PORTS n, Reg.PTP_INST_CFG_DOMAIN n, Reg.PTP_INST_CFG_TRANSPORT n, Reg.PTP_INST_CFG_L2_FWD n, Reg.PTP_INST_CFG_AUTH n, Reg.PTP_INST_CFG_TLV_EN n, Reg.PTP_INST_CFG_BC_MODE n, Reg.PTP_INST_CFG_MIXED_OK n, Reg.PTP_INST_CFG_SERVE_FREERUN n, Reg.PTP_INST_CFG_PTP_TO_HOST n]),
  /- PTP_INST_INTV -/ RegT.arr 0x340104 0x100 4 (fun n => [Reg.PTP_INST_INTV_LOG_SYNC n, Reg.PTP_INST_INTV_LOG_ANNOUNCE n, Reg.PTP_INST_INTV_LOG_DELAY n, Reg.PTP_INST_INTV_ANNOUNCE_TIMEOUT n]),
  /- PTP_INST_PRIO -/ RegT.arr 0x340108 0x100 4 (fun n => [Reg.PTP_INST_PRIO_PRIORITY1 n, Reg.PTP_INST_PRIO_PRIORITY2 n, Reg.PTP_INST_PRIO_LOCAL_PRIORITY n]),
  /- PTP_GRANT_DUR -/ RegT.arr 0x34010c 0x100 4 (fun n => [Reg.PTP_GRANT_DUR_DUR_MIN n, Reg.PTP_GRANT_DUR_DUR_MAX n]),
  /- PTP_GRANT_BUDGET -/ RegT.arr 0x340110 0x100 4 (fun n => [Reg.PTP_GRANT_BUDGET_BUDGET n]),
  /- PTP_GRANT_LIMIT -/ RegT.arr 0x340114 0x100 4 (fun n => [Reg.PTP_GRANT_LIMIT_MIN_LOG_PERIOD n, Reg.PTP_GRANT_LIMIT_MAX_SLAVES n]),
  /- PTP_INST_STATE -/ RegT.arr 0x340118 0x100 4 (fun n => [Reg.PTP_INST_STATE_STATE n, Reg.PTP_INST_STATE_PORTS_SERVING n, Reg.PTP_INST_STATE_NO_TX_SA n]),
  /- PTP_GRANT_USE -/ RegT.arr 0x34011c 0x100 4 (fun n => [Reg.PTP_GRANT_USE_USE n]),
  /- PTP_GRANT_SLAVES -/ RegT.arr 0x340120 0x100 4 (fun n => [Reg.PTP_GRANT_SLAVES_COUNT n]),
  /- PTP_UP_ASYM -/ RegT.arr 0x340124 0x100 4 (fun n => [Reg.PTP_UP_ASYM_A n]),
  /- PTP_UP_DEFAULT_U -/ RegT.arr 0x340128 0x100 4 (fun n => [Reg.PTP_UP_DEFAULT_U_U n]),
  /- PTP_UP_CTRL -/ RegT.arr 0x34012c 0x100 4 (fun n => [Reg.PTP_UP_CTRL_DELAY_AVG n, Reg.PTP_UP_CTRL_UP_CC_MAX n, Reg.PTP_UP_CTRL_LOS_TIME n]),
  /- PTP_UP_MCFG -/ RegT.arr 0x340130 0x100 4 (fun n => [Reg.PTP_UP_MCFG_VALID n 0, Reg.PTP_UP_MCFG_V4 n 0, Reg.PTP_UP_MCFG_PRIO n 0, Reg.PTP_UP_MCFG_VALID n 1, Reg.PTP_UP_MCFG_V4 n 1, Reg.PTP_UP_MCFG_PRIO n 1, Reg.PTP_UP_MCFG_VALID n 2, Reg.PTP_UP_MCFG_V4 n 2, Reg.PTP_UP_MCFG_PRIO n 2, Reg.PTP_UP_MCFG_VALID n 3, Reg.PTP_UP_MCFG_V4 n 3, Reg.PTP_UP_MCFG_PRIO n 3]),
  /- TX_SYNC -/ RegT.arr 0x340140 0x100 4 (fun n => [Reg.TX_SYNC_COUNT n]),
  /- TX_ANNOUNCE -/ RegT.arr 0x340144 0x100 4 (fun n => [Reg.TX_ANNOUNCE_COUNT n]),
  /- TX_DELAY_RESP -/ RegT.arr 0x340148 0x100 4 (fun n => [Reg.TX_DELAY_RESP_COUNT n]),
  /- RX_DELAY_REQ -/ RegT.arr 0x34014c 0x100 4 (fun n => [Reg.RX_DELAY_REQ_COUNT n]),
  /- AUTH_FAIL -/ RegT.arr 0x340150 0x100 4 (fun n => [Reg.AUTH_FAIL_COUNT n]),
  /- AUTH_MISSING -/ RegT.arr 0x340154 0x100 4 (fun n => [Reg.AUTH_MISSING_COUNT n]),
  /- GRANT_DENIED -/ RegT.arr 0x340158 0x100 4 (fun n => [Reg.GRANT_DENIED_COUNT n]),
  /- STALE_DROP -/ RegT.arr 0x34015c 0x100 4 (fun n => [Reg.PTP_STALE_DROP_COUNT n]),
  /- TX_LATE_DROP -/ RegT.arr 0x340160 0x100 4 (fun n => [Reg.TX_LATE_DROP_COUNT n]),
  /- FOREIGN_ANNOUNCE -/ RegT.arr 0x340164 0x100 4 (fun n => [Reg.FOREIGN_ANNOUNCE_COUNT n]),
  /- LOOP_DISCARD -/ RegT.arr 0x340168 0x100 4 (fun n => [Reg.LOOP_DISCARD_COUNT n]),
  /- DISCARDED -/ RegT.arr 0x34016c 0x100 4 (fun n => [Reg.DISCARDED_COUNT n]),
  /- UP_PARENT_LO -/ { RegT.arr 0x340180 0x100 4 (fun n => [Reg.UP_PARENT_LO_ID_LO n]) with latch := [4, 8, 16, 20, 24, 28] },
  /- UP_PARENT_HI -/ { RegT.arr 0x340184 0x100 4 (fun n => [Reg.UP_PARENT_HI_ID_HI n]) with latched := true },
  /- UP_PARENT_PORT -/ { RegT.arr 0x340188 0x100 4 (fun n => [Reg.UP_PARENT_PORT_PORT n, Reg.UP_PARENT_PORT_CLASS n, Reg.UP_PARENT_PORT_ACCURACY n]) with latched := true },
  /- UP_MPD_LO -/ { RegT.arr 0x34018c 0x100 4 (fun n => [Reg.UP_MPD_LO_MPD_LO n]) with latch := [4] },
  /- UP_MPD_HI -/ { RegT.arr 0x340190 0x100 4 (fun n => [Reg.UP_MPD_HI_MPD_HI n]) with latched := true },
  /- UP_U_SRC -/ { RegT.arr 0x340194 0x100 4 (fun n => [Reg.UP_U_SRC_U n]) with latched := true },
  /- UP_STATE -/ { RegT.arr 0x340198 0x100 4 (fun n => [Reg.UP_STATE_STATE n, Reg.UP_STATE_U_FROM n]) with latched := true },
  /- PTP_PEER_DELAY -/ { RegT.arr 0x34019c 0x100 4 (fun n => [Reg.PTP_PEER_DELAY_DELAY n]) with latched := true },
  /- UP_ADDR_0 -/ RegT.arr2 0x3401c0 0x100 4 0x10 4 (fun n m => [Reg.UP_ADDR_0_ADDR n m]),
  /- UP_ADDR_1 -/ RegT.arr2 0x3401c4 0x100 4 0x10 4 (fun n m => [Reg.UP_ADDR_1_ADDR n m]),
  /- UP_ADDR_2 -/ RegT.arr2 0x3401c8 0x100 4 0x10 4 (fun n m => [Reg.UP_ADDR_2_ADDR n m])
] ++ [
  /- UP_ADDR_LAST -/ RegT.arr2 0x3401cc 0x100 4 0x10 4 (fun n m => [Reg.UP_ADDR_LAST_ADDR n m]),
  /- SA_CFG -/ RegT.arr 0x340800 0x20 32 (fun n => [Reg.SA_CFG_VALID n, Reg.SA_CFG_TX n, Reg.SA_CFG_GROUP n, Reg.SA_CFG_ALG n, Reg.SA_CFG_SPP n, Reg.SA_CFG_KEY_SLOT n]),
  /- SA_KEY_ID -/ RegT.arr 0x340804 0x20 32 (fun n => [Reg.SA_KEY_ID_KEY_ID n]),
  /- SA_FROM_LO -/ { RegT.arr 0x340808 0x20 32 (fun n => [Reg.SA_FROM_LO_FROM_LO n]) with latch := [4] },
  /- SA_FROM_HI -/ { RegT.arr 0x34080c 0x20 32 (fun n => [Reg.SA_FROM_HI_FROM_HI n]) with latched := true, staged := true },
  /- SA_UNTIL_LO -/ { RegT.arr 0x340810 0x20 32 (fun n => [Reg.SA_UNTIL_LO_UNTIL_LO n]) with latch := [4] },
  /- SA_UNTIL_HI -/ { RegT.arr 0x340814 0x20 32 (fun n => [Reg.SA_UNTIL_HI_UNTIL_HI n]) with latched := true, staged := true },
  /- SA_USES -/ RegT.arr 0x340818 0x20 32 (fun n => [Reg.SA_USES_COUNT n])
  ]

/-- The register words of block NTP. -/
def regTableNtp : List RegT := [
  /- NTP_CTRL -/ RegT.one 0x341000 ([Reg.NTP_CTRL_PORT_EN, Reg.NTP_CTRL_UNSYNC_DROP, Reg.NTP_CTRL_EXCEEDED_UNSYNC, Reg.NTP_CTRL_NTP_TO_HOST, Reg.NTP_CTRL_NTS_EN, Reg.NTP_CTRL_LAUNCH_LEAD, Reg.NTP_CTRL_NTS_MAX_COOKIES]),
  /- NTP_STATUS -/ RegT.one 0x341004 ([Reg.NTP_STATUS_SERVING, Reg.NTP_STATUS_UNSYNC, Reg.NTP_STATUS_LI, Reg.NTP_STATUS_MINT_ENTRY, Reg.NTP_STATUS_MINT_VALID]),
  /- NTP_STICKY -/ RegT.one 0x341008 ([Reg.NTP_STICKY_STICKY]),
  /- NTP_EVT_EN -/ RegT.one 0x34100c ([Reg.NTP_EVT_EN_EN]),
  /- NTP_KOD_LIMIT -/ RegT.one 0x341010 ([Reg.NTP_KOD_LIMIT_RATE]),
  /- NTP_REFID -/ RegT.arr 0x341040 0x4 16 (fun n => [Reg.NTP_REFID_REFID n]),
  /- NTP_CLASS -/ RegT.arr 0x341100 0x4 16 (fun n => [Reg.NTP_CLASS_SMEAR n, Reg.NTP_CLASS_KOD_RATE n, Reg.NTP_CLASS_NTS_ONLY n, Reg.NTP_CLASS_KOD_DENY n, Reg.NTP_CLASS_MINPOLL n]),
  /- NTP_RX -/ RegT.one 0x341200 ([Reg.NTP_RX_COUNT]),
  /- NTP_TX -/ RegT.one 0x341204 ([Reg.NTP_TX_COUNT]),
  /- NTS_TX -/ RegT.one 0x341208 ([Reg.NTS_TX_COUNT]),
  /- COOKIES_MINTED -/ RegT.one 0x34120c ([Reg.COOKIES_MINTED_COUNT]),
  /- NTP_NOT_SERVING -/ RegT.one 0x341210 ([Reg.NTP_NOT_SERVING_COUNT]),
  /- VERSION_DISCARD -/ RegT.one 0x341214 ([Reg.VERSION_DISCARD_COUNT]),
  /- MODE_DISCARD -/ RegT.one 0x341218 ([Reg.MODE_DISCARD_COUNT]),
  /- MAC_UNSUPPORTED -/ RegT.one 0x34121c ([Reg.MAC_UNSUPPORTED_COUNT]),
  /- UNSYNC_DROPPED -/ RegT.one 0x341220 ([Reg.UNSYNC_DROPPED_COUNT]),
  /- PLAIN_REFUSED -/ RegT.one 0x341224 ([Reg.PLAIN_REFUSED_COUNT]),
  /- KOD_SUPPRESSED -/ RegT.one 0x341228 ([Reg.KOD_SUPPRESSED_COUNT]),
  /- NTS_MALFORMED -/ RegT.one 0x34122c ([Reg.NTS_MALFORMED_COUNT]),
  /- COOKIE_KEY_UNKNOWN -/ RegT.one 0x341230 ([Reg.COOKIE_KEY_UNKNOWN_COUNT]),
  /- COOKIE_BAD -/ RegT.one 0x341234 ([Reg.COOKIE_BAD_COUNT]),
  /- NTS_AUTH_BAD -/ RegT.one 0x341238 ([Reg.NTS_AUTH_BAD_COUNT]),
  /- NO_MINT_KEY -/ RegT.one 0x34123c ([Reg.NO_MINT_KEY_COUNT]),
  /- NO_RANDOM -/ RegT.one 0x341240 ([Reg.NO_RANDOM_COUNT]),
  /- NTP_TX_LATE_DROP -/ RegT.one 0x341244 ([Reg.NTP_TX_LATE_DROP_COUNT]),
  /- STALE_DROP -/ RegT.one 0x341248 ([Reg.NTP_STALE_DROP_COUNT]),
  /- COOKIES_TRIMMED -/ RegT.one 0x34124c ([Reg.COOKIES_TRIMMED_COUNT]),
  /- MK_CFG -/ RegT.arr 0x341400 0x20 16 (fun n => [Reg.MK_CFG_VALID n, Reg.MK_CFG_MINT n, Reg.MK_CFG_KEY_SLOT n]),
  /- MK_KEY_ID -/ RegT.arr 0x341404 0x20 16 (fun n => [Reg.MK_KEY_ID_KEY_ID n]),
  /- MK_FROM_LO -/ { RegT.arr 0x341408 0x20 16 (fun n => [Reg.MK_FROM_LO_FROM_LO n]) with latch := [4] },
  /- MK_FROM_HI -/ { RegT.arr 0x34140c 0x20 16 (fun n => [Reg.MK_FROM_HI_FROM_HI n]) with latched := true, staged := true },
  /- MK_UNTIL_LO -/ { RegT.arr 0x341410 0x20 16 (fun n => [Reg.MK_UNTIL_LO_UNTIL_LO n]) with latch := [4] },
  /- MK_UNTIL_HI -/ { RegT.arr 0x341414 0x20 16 (fun n => [Reg.MK_UNTIL_HI_UNTIL_HI n]) with latched := true, staged := true },
  /- MK_OPENED -/ RegT.arr 0x341418 0x20 16 (fun n => [Reg.MK_OPENED_COUNT n]),
  /- MK_MINTED -/ RegT.arr 0x34141c 0x20 16 (fun n => [Reg.MK_MINTED_COUNT n])
  ]

/-- The register words of block KEY. -/
def regTableKey : List RegT := [
  /- KEY_STATUS -/ RegT.one 0x360000 ([Reg.KEY_STATUS_SLOTS_USED, Reg.KEY_STATUS_MISMATCH_SLOT]),
  /- KEY_STICKY -/ RegT.one 0x360004 ([Reg.KEY_STICKY_STICKY]),
  /- KEY_EVT_EN -/ RegT.one 0x360008 ([Reg.KEY_EVT_EN_EN]),
  /- KEY_META -/ RegT.arr 0x361000 0x8 4096 (fun n => [Reg.KEY_META_VALID n, Reg.KEY_META_USAGE n, Reg.KEY_META_WRAPPED n, Reg.KEY_META_IN_USE n, Reg.KEY_META_LEN n]),
  /- KEY_KCV -/ RegT.arr 0x361004 0x8 4096 (fun n => [Reg.KEY_KCV_KCV n]),
  /- TRNG_STATUS -/ RegT.one 0x360040 ([Reg.TRNG_STATUS_DRBG_READY, Reg.TRNG_STATUS_WITHHELD, Reg.TRNG_STATUS_SINCE_RESEED]),
  /- TRNG_STICKY -/ RegT.one 0x360044 ([Reg.TRNG_STICKY_STICKY]),
  /- TRNG_EVT_EN -/ RegT.one 0x360048 ([Reg.TRNG_EVT_EN_EN]),
  /- DRBG_RESEEDS -/ RegT.one 0x36004c ([Reg.DRBG_RESEEDS_COUNT]),
  /- TRNG_BLOCKS_FAILED -/ RegT.one 0x360050 ([Reg.TRNG_BLOCKS_FAILED_COUNT])
  ]

/-- The register words of block CLT. -/
def regTableClt : List RegT := [
  /- CLT_STATUS -/ RegT.one 0x380000 ([Reg.CLT_STATUS_ENTRIES, Reg.CLT_STATUS_READY, Reg.CLT_STATUS_OVERLOAD, Reg.CLT_STATUS_OVERCOMMIT, Reg.CLT_STATUS_AUTH_REDUCED]),
  /- CLT_STICKY -/ RegT.one 0x380004 ([Reg.CLT_STICKY_STICKY]),
  /- CLT_EVT_EN -/ RegT.one 0x380008 ([Reg.CLT_EVT_EN_EN]),
  /- CLT_CTRL -/ RegT.one 0x38000c ([Reg.CLT_CTRL_SIZE_LOG2, Reg.CLT_CTRL_LEARN_EN, Reg.CLT_CTRL_SHED_MAX, Reg.CLT_CTRL_BASE_GB]),
  /- CLT_AGE -/ RegT.one 0x380010 ([Reg.CLT_AGE_AGE_TIME]),
  /- CLT_BUDGET -/ RegT.one 0x380014 ([Reg.CLT_BUDGET_BUDGET]),
  /- CLT_AUTH_BUDGET -/ RegT.one 0x380018 ([Reg.CLT_AUTH_BUDGET_BUDGET]),
  /- CLT_FLOOR -/ RegT.one 0x38001c ([Reg.CLT_FLOOR_F_EVENT, Reg.CLT_FLOOR_F_GENERAL, Reg.CLT_FLOOR_F_NTS, Reg.CLT_FLOOR_F_PLAIN]),
  /- CLT_RESERVED -/ RegT.one 0x380020 ([Reg.CLT_RESERVED_RESERVED]),
  /- CLT_RESERVED_AUTH -/ RegT.one 0x380024 ([Reg.CLT_RESERVED_AUTH_RESERVED]),
  /- CLT_AUTH_EFF -/ RegT.one 0x380028 ([Reg.CLT_AUTH_EFF_EFF]),
  /- CLS_DEMAND -/ RegT.arr 0x380100 0x40 5 (fun n => [Reg.CLS_DEMAND_D n]),
  /- CLS_ALLOW -/ RegT.arr 0x380104 0x40 5 (fun n => [Reg.CLS_ALLOW_A n]),
  /- CLS_SHED -/ RegT.arr 0x380108 0x40 5 (fun n => [Reg.CLS_SHED_K n, Reg.CLS_SHED_START n]),
  /- CLS_ADMITTED -/ RegT.arr 0x380110 0x40 5 (fun n => [Reg.CLS_ADMITTED_COUNT n]),
  /- CLS_SHED_FAIR -/ RegT.arr 0x380114 0x40 5 (fun n => [Reg.CLS_SHED_FAIR_COUNT n]),
  /- CLS_SHED_OVERFLOW -/ RegT.arr 0x380118 0x40 5 (fun n => [Reg.CLS_SHED_OVERFLOW_COUNT n]),
  /- CLS_SHED_PORT -/ RegT.arr 0x38011c 0x40 5 (fun n => [Reg.CLS_SHED_PORT_COUNT n]),
  /- CLS_SHED_CLIENT -/ RegT.arr 0x380120 0x40 5 (fun n => [Reg.CLS_SHED_CLIENT_COUNT n]),
  /- CLS_REFUSED -/ RegT.arr 0x380124 0x40 5 (fun n => [Reg.CLS_REFUSED_COUNT n]),
  /- CLT_LEARNED -/ RegT.one 0x380300 ([Reg.CLT_LEARNED_COUNT]),
  /- CLT_EVICTED -/ RegT.one 0x380304 ([Reg.CLT_EVICTED_COUNT]),
  /- CLT_AGED -/ RegT.one 0x380308 ([Reg.CLT_AGED_COUNT]),
  /- CLT_TABLE_FULL -/ RegT.one 0x38030c ([Reg.CLT_TABLE_FULL_COUNT]),
  /- CLT_ENTRY_BAD -/ RegT.one 0x380310 ([Reg.CLT_ENTRY_BAD_COUNT]),
  /- CLT_NO_ENTRY -/ RegT.one 0x380314 ([Reg.CLT_NO_ENTRY_COUNT]),
  /- CLT_ORIG_SKIPPED -/ RegT.one 0x380318 ([Reg.CLT_ORIG_SKIPPED_COUNT]),
  /- CLT_CACHE_HITS -/ RegT.one 0x38031c ([Reg.CLT_CACHE_HITS_COUNT]),
  /- CLT_CACHE_MISSES -/ RegT.one 0x380320 ([Reg.CLT_CACHE_MISSES_COUNT]),
  /- PB_RATE -/ RegT.arr2 0x380400 0x40 4 0x8 5 (fun n m => [Reg.PB_RATE_RATE n m]),
  /- PB_DEPTH -/ RegT.arr2 0x380404 0x40 4 0x8 5 (fun n m => [Reg.PB_DEPTH_DEPTH n m]),
  /- RULE_ADDR -/ RegT.arr2 0x381000 0x20 256 0x4 4 (fun n m => [Reg.RULE_ADDR_ADDR n m]),
  /- RULE_CFG -/ RegT.arr 0x381010 0x20 256 (fun n => [Reg.RULE_CFG_PREFIX_LEN n, Reg.RULE_CFG_FAMILY n, Reg.RULE_CFG_PORTS n, Reg.RULE_CFG_VALID n, Reg.RULE_CFG_LEARN n, Reg.RULE_CFG_PTP_OK n, Reg.RULE_CFG_DENY n, Reg.RULE_CFG_NTP_CLASS n]),
  /- RULE_RATE -/ RegT.arr 0x381014 0x20 256 (fun n => [Reg.RULE_RATE_RATE n, Reg.RULE_RATE_BURST n]),
  /- RULE_HITS -/ RegT.arr 0x381018 0x20 256 (fun n => [Reg.RULE_HITS_COUNT n])
  ]

/-- The register words of block MAC. -/
def regTableMac : List RegT := [
  /- PORT_CFG -/ RegT.arr 0x300000 0x4000 4 (fun n => [Reg.PORT_CFG_MODE n, Reg.PORT_CFG_FEC n, Reg.PORT_CFG_AN_EN n, Reg.PORT_CFG_STRIP_FCS n, Reg.PORT_CFG_MAX_FRAME n]),
  /- PORT_TX_EQ -/ RegT.arr 0x300004 0x4000 4 (fun n => [Reg.PORT_TX_EQ_PRE n, Reg.PORT_TX_EQ_MAIN n, Reg.PORT_TX_EQ_POST n]),
  /- STATION_MAC_LO -/ { RegT.arr 0x300010 0x4000 4 (fun n => [Reg.STATION_MAC_LO_MAC_LO n]) with latch := [4] },
  /- STATION_MAC_HI -/ { RegT.arr 0x300014 0x4000 4 (fun n => [Reg.STATION_MAC_HI_MAC_HI n]) with latched := true, staged := true },
  /- LOCAL_MAC_LO -/ { RegT.arr 0x300018 0x4000 4 (fun n => [Reg.LOCAL_MAC_LO_MAC_LO n]) with latch := [4] },
  /- LOCAL_MAC_HI -/ { RegT.arr 0x30001c 0x4000 4 (fun n => [Reg.LOCAL_MAC_HI_MAC_HI n]) with latched := true },
  /- IPV4_ADDR -/ RegT.arr 0x300020 0x4000 4 (fun n => [Reg.IPV4_ADDR_ADDR n]),
  /- IPV6_A -/ RegT.arr2 0x300030 0x4000 4 0x4 4 (fun n m => [Reg.IPV6_A_ADDR n m]),
  /- IPV6_B -/ RegT.arr2 0x300040 0x4000 4 0x4 4 (fun n m => [Reg.IPV6_B_ADDR n m]),
  /- VLAN_CTRL -/ RegT.arr 0x300050 0x4000 4 (fun n => [Reg.VLAN_CTRL_UNTAGGED_OK n, Reg.VLAN_CTRL_TX_PCP n, Reg.VLAN_CTRL_UNTAGGED_PRI n, Reg.VLAN_CTRL_TX_VLAN n]),
  /- VLAN -/ RegT.arr2 0x300060 0x4000 4 0x4 16 (fun n m => [Reg.VLAN_VID n m, Reg.VLAN_VALID n m]),
  /- MC_FILTER_LO -/ { RegT.arr2 0x3000a0 0x4000 4 0x8 16 (fun n m => [Reg.MC_FILTER_LO_MAC_LO n m]) with latch := [4] },
  /- MC_FILTER_HI -/ { RegT.arr2 0x3000a4 0x4000 4 0x8 16 (fun n m => [Reg.MC_FILTER_HI_MAC_HI n m, Reg.MC_FILTER_HI_VALID n m, Reg.MC_FILTER_HI_MATCH_24 n m]) with latched := true, staged := true },
  /- TX_PHY_DELAY -/ RegT.arr 0x300140 0x4000 4 (fun n => [Reg.TX_PHY_DELAY_DELAY n]),
  /- RX_PHY_DELAY -/ RegT.arr 0x300144 0x4000 4 (fun n => [Reg.RX_PHY_DELAY_DELAY n]),
  /- RX_SKEW -/ RegT.arr 0x300148 0x4000 4 (fun n => [Reg.RX_SKEW_SKEW n]),
  /- TX_EXT_DELAY -/ RegT.arr 0x30014c 0x4000 4 (fun n => [Reg.TX_EXT_DELAY_DELAY n]),
  /- RX_EXT_DELAY -/ RegT.arr 0x300150 0x4000 4 (fun n => [Reg.RX_EXT_DELAY_DELAY n]),
  /- P_BASE -/ RegT.arr 0x300154 0x4000 4 (fun n => [Reg.P_BASE_P n]),
  /- EXT_U -/ RegT.arr 0x300158 0x4000 4 (fun n => [Reg.EXT_U_U n]),
  /- P_PORT -/ RegT.arr 0x30015c 0x4000 4 (fun n => [Reg.P_PORT_P n]),
  /- PAUSE_CFG -/ RegT.arr 0x300160 0x4000 4 (fun n => [Reg.PAUSE_CFG_WD n, Reg.PAUSE_CFG_WD_EN n]),
  /- SYNCE_CFG -/ RegT.arr 0x300170 0x4000 4 (fun n => [Reg.SYNCE_CFG_ESMC_TX_EN n, Reg.SYNCE_CFG_ESMC_TO_HOST n, Reg.SYNCE_CFG_QL_LOCKED n, Reg.SYNCE_CFG_QL_HOLD n, Reg.SYNCE_CFG_QL_EXCEEDED n, Reg.SYNCE_CFG_QL_FREE n]),
  /- SYNCE_STATUS -/ RegT.arr 0x300174 0x4000 4 (fun n => [Reg.SYNCE_STATUS_RX_QL n, Reg.SYNCE_STATUS_QL_VALID n, Reg.SYNCE_STATUS_CDR_LOCK n, Reg.SYNCE_STATUS_EXT_TLV_SEEN n, Reg.SYNCE_STATUS_TX_QL n]),
  /- PORT_STATUS -/ RegT.arr 0x300180 0x4000 4 (fun n => [Reg.PORT_STATUS_LINK n, Reg.PORT_STATUS_FEC_LOCK n, Reg.PORT_STATUS_LOCAL_FAULT n, Reg.PORT_STATUS_REMOTE_FAULT n, Reg.PORT_STATUS_SYN_HOLD n, Reg.PORT_STATUS_TB_UNSURE n, Reg.PORT_STATUS_PAUSED n, Reg.PORT_STATUS_WD_IGNORE n]),
  /- PORT_STICKY -/ RegT.arr 0x300184 0x4000 4 (fun n => [Reg.PORT_STICKY_STICKY n]),
  /- PORT_EVT_EN -/ RegT.arr 0x300188 0x4000 4 (fun n => [Reg.PORT_EVT_EN_EN n]),
  /- TSQ_STATUS -/ RegT.arr 0x300190 0x4000 4 (fun n => [Reg.TSQ_STATUS_DEPTH n]),
  /- TSQ_NEXT_SEQ -/ RegT.arr 0x300194 0x4000 4 (fun n => [Reg.TSQ_NEXT_SEQ_SEQ n]),
  /- RX_FRAMES -/ RegT.arr 0x300200 0x4000 4 (fun n => [Reg.RX_FRAMES_COUNT n]),
  /- TX_FRAMES -/ RegT.arr 0x300204 0x4000 4 (fun n => [Reg.TX_FRAMES_COUNT n]),
  /- RX_OCTETS_LO -/ { RegT.arr 0x300208 0x4000 4 (fun n => [Reg.RX_OCTETS_LO_LO n]) with latch := [4] },
  /- RX_OCTETS_HI -/ { RegT.arr 0x30020c 0x4000 4 (fun n => [Reg.RX_OCTETS_HI_HI n]) with latched := true },
  /- TX_OCTETS_LO -/ { RegT.arr 0x300210 0x4000 4 (fun n => [Reg.TX_OCTETS_LO_LO n]) with latch := [4] },
  /- TX_OCTETS_HI -/ { RegT.arr 0x300214 0x4000 4 (fun n => [Reg.TX_OCTETS_HI_HI n]) with latched := true },
  /- RX_FIFO_DROP -/ RegT.arr 0x300218 0x4000 4 (fun n => [Reg.RX_FIFO_DROP_COUNT n]),
  /- RX_RUNT -/ RegT.arr 0x30021c 0x4000 4 (fun n => [Reg.RX_RUNT_COUNT n]),
  /- RX_OVERSIZE -/ RegT.arr 0x300220 0x4000 4 (fun n => [Reg.RX_OVERSIZE_COUNT n]),
  /- RX_FCS_ERR -/ RegT.arr 0x300224 0x4000 4 (fun n => [Reg.RX_FCS_ERR_COUNT n]),
  /- RX_TRUNCATED -/ RegT.arr 0x300228 0x4000 4 (fun n => [Reg.RX_TRUNCATED_COUNT n])
] ++ [
  /- RX_FILTERED -/ RegT.arr 0x30022c 0x4000 4 (fun n => [Reg.RX_FILTERED_COUNT n]),
  /- RX_CSUM_ERR -/ RegT.arr 0x300230 0x4000 4 (fun n => [Reg.RX_CSUM_ERR_COUNT n]),
  /- RX_TO_HOST -/ RegT.arr 0x300234 0x4000 4 (fun n => [Reg.RX_TO_HOST_COUNT n]),
  /- RX_NOBUF_DROP -/ RegT.arr 0x300238 0x4000 4 (fun n => [Reg.RX_NOBUF_DROP_COUNT n]),
  /- TX_FROM_HOST -/ RegT.arr 0x30023c 0x4000 4 (fun n => [Reg.TX_FROM_HOST_COUNT n]),
  /- TX_HOST_DROP -/ RegT.arr 0x300240 0x4000 4 (fun n => [Reg.TX_HOST_DROP_COUNT n]),
  /- TX_STANDBY_DROP -/ RegT.arr 0x300244 0x4000 4 (fun n => [Reg.TX_STANDBY_DROP_COUNT n]),
  /- TX_TIME_DROP -/ RegT.arr 0x300248 0x4000 4 (fun n => [Reg.TX_TIME_DROP_COUNT n]),
  /- RX_PAUSE -/ RegT.arr 0x30024c 0x4000 4 (fun n => [Reg.RX_PAUSE_COUNT n]),
  /- RX_PFC -/ RegT.arr 0x300250 0x4000 4 (fun n => [Reg.RX_PFC_COUNT n]),
  /- PAUSE_WD_BREAKS -/ RegT.arr 0x300254 0x4000 4 (fun n => [Reg.PAUSE_WD_BREAKS_COUNT n]),
  /- TSQ_LOST -/ RegT.arr 0x300258 0x4000 4 (fun n => [Reg.TSQ_LOST_COUNT n]),
  /- STAMPS_FLAGGED -/ RegT.arr 0x30025c 0x4000 4 (fun n => [Reg.STAMPS_FLAGGED_COUNT n]),
  /- FEC_CORRECTED -/ RegT.arr 0x300260 0x4000 4 (fun n => [Reg.FEC_CORRECTED_COUNT n]),
  /- FEC_UNCORRECTED -/ RegT.arr 0x300264 0x4000 4 (fun n => [Reg.FEC_UNCORRECTED_COUNT n]),
  /- PCS_ERR_BLOCKS -/ RegT.arr 0x300268 0x4000 4 (fun n => [Reg.PCS_ERR_BLOCKS_COUNT n]),
  /- LINK_DOWNS -/ RegT.arr 0x30026c 0x4000 4 (fun n => [Reg.LINK_DOWNS_COUNT n]),
  /- ESMC_RX -/ RegT.arr 0x300270 0x4000 4 (fun n => [Reg.ESMC_RX_COUNT n]),
  /- ESMC_BAD -/ RegT.arr 0x300274 0x4000 4 (fun n => [Reg.ESMC_BAD_COUNT n])
  ]

/-- The register words of block TWN. -/
def regTableTwn : List RegT := [
  /- TWN_STATUS -/ RegT.one 0x200000 ([Reg.TWN_STATUS_ROLE, Reg.TWN_STATUS_SIDE, Reg.TWN_STATUS_CLAIMING, Reg.TWN_STATUS_FENCE, Reg.TWN_STATUS_LINK_UP, Reg.TWN_STATUS_SYNCED, Reg.TWN_STATUS_FOLLOWING, Reg.TWN_STATUS_PARTNER_FIT, Reg.TWN_STATUS_HANDOVER_PENDING, Reg.TWN_STATUS_SEIZE_HOLD, Reg.TWN_STATUS_FENCE_FAULT, Reg.TWN_STATUS_PARTNER_ROLE, Reg.TWN_STATUS_LEASE_LEFT]),
  /- TWN_STICKY -/ RegT.one 0x200004 ([Reg.TWN_STICKY_STICKY]),
  /- TWN_EVT_EN -/ RegT.one 0x200008 ([Reg.TWN_EVT_EN_EN]),
  /- TWN_CTRL -/ RegT.one 0x20000c ([Reg.TWN_CTRL_TWIN_EN, Reg.TWN_CTRL_PROMOTE_EN, Reg.TWN_CTRL_GRANT_HOLD, Reg.TWN_CTRL_LISTEN]),
  /- TWN_RL_U -/ RegT.one 0x200010 ([Reg.TWN_RL_U_U]),
  /- RL_EXT_ASYM_0 -/ RegT.one 0x200014 ([Reg.RL_EXT_ASYM_0_ASYM]),
  /- RL_EXT_ASYM_1 -/ RegT.one 0x200018 ([Reg.RL_EXT_ASYM_1_ASYM]),
  /- TWN_RL_STICKY -/ RegT.one 0x20001c ([Reg.TWN_RL_STICKY_STICKY, Reg.TWN_RL_STICKY_RL_EN, Reg.TWN_RL_STICKY_RL_STATE_EN]),
  /- TWN_TT_OFFSET_LO -/ { RegT.one 0x200040 ([Reg.TWN_TT_OFFSET_LO_OFS_LO]) with latch := [4] },
  /- TWN_TT_OFFSET_HI -/ { RegT.one 0x200044 ([Reg.TWN_TT_OFFSET_HI_OFS_HI]) with latched := true },
  /- TWN_TT_RTT -/ RegT.one 0x200048 ([Reg.TWN_TT_RTT_RTT]),
  /- TWN_LAST_BATON_LO -/ { RegT.one 0x200050 ([Reg.TWN_LAST_BATON_LO_AT_LO]) with latch := [4] },
  /- TWN_LAST_BATON_HI -/ { RegT.one 0x200054 ([Reg.TWN_LAST_BATON_HI_AT_HI]) with latched := true },
  /- TWN_STATE_SEQ_LO -/ { RegT.one 0x200060 ([Reg.TWN_STATE_SEQ_LO_SEQ_LO]) with latch := [4] },
  /- TWN_STATE_SEQ_HI -/ { RegT.one 0x200064 ([Reg.TWN_STATE_SEQ_HI_SEQ_HI]) with latched := true },
  /- TWN_STATE_ACK_LO -/ { RegT.one 0x200068 ([Reg.TWN_STATE_ACK_LO_ACK_LO]) with latch := [4] },
  /- TWN_STATE_ACK_HI -/ { RegT.one 0x20006c ([Reg.TWN_STATE_ACK_HI_ACK_HI]) with latched := true },
  /- TWN_GRANT_SEQ_LO -/ { RegT.one 0x200070 ([Reg.TWN_GRANT_SEQ_LO_SEQ_LO]) with latch := [4] },
  /- TWN_GRANT_SEQ_HI -/ { RegT.one 0x200074 ([Reg.TWN_GRANT_SEQ_HI_SEQ_HI]) with latched := true },
  /- TWN_GRANT_ACK_LO -/ { RegT.one 0x200078 ([Reg.TWN_GRANT_ACK_LO_ACK_LO]) with latch := [4] },
  /- TWN_GRANT_ACK_HI -/ { RegT.one 0x20007c ([Reg.TWN_GRANT_ACK_HI_ACK_HI]) with latched := true },
  /- TWN_HANDOVER -/ RegT.one 0x200080 ([Reg.TWN_HANDOVER_LAP]),
  /- TWN_RESYNC_BYTES -/ RegT.one 0x200084 ([Reg.TWN_RESYNC_BYTES_BYTES]),
  /- BATONS_RX -/ RegT.one 0x200100 ([Reg.BATONS_RX_COUNT]),
  /- BATONS_BAD -/ RegT.one 0x200104 ([Reg.BATONS_BAD_COUNT]),
  /- JOURNAL_BAD -/ RegT.one 0x200108 ([Reg.JOURNAL_BAD_COUNT]),
  /- LEASE_EXPIRIES -/ RegT.one 0x20010c ([Reg.LEASE_EXPIRIES_COUNT]),
  /- PROMOTIONS -/ RegT.one 0x200110 ([Reg.PROMOTIONS_COUNT]),
  /- DEMOTIONS -/ RegT.one 0x200114 ([Reg.DEMOTIONS_COUNT]),
  /- MARKS_UNUSABLE -/ RegT.one 0x200118 ([Reg.MARKS_UNUSABLE_COUNT]),
  /- RL_TRAIN_FAILS -/ RegT.one 0x20011c ([Reg.RL_TRAIN_FAILS_COUNT]),
  /- RL_PAIR_STATUS -/ RegT.arr 0x200200 0x10 2 (fun n => [Reg.RL_PAIR_STATUS_STATE n, Reg.RL_PAIR_STATUS_TX_FENCED n, Reg.RL_PAIR_STATUS_RX_FENCED n]),
  /- RL_TX_DELAY -/ RegT.arr 0x200204 0x10 2 (fun n => [Reg.RL_TX_DELAY_DELAY n]),
  /- RL_RX_DELAY -/ RegT.arr 0x200208 0x10 2 (fun n => [Reg.RL_RX_DELAY_DELAY n]),
  /- RL_ERR_BLOCKS -/ RegT.arr 0x20020c 0x10 2 (fun n => [Reg.RL_ERR_BLOCKS_COUNT n])
  ]

/-- The register words of block HIF. -/
def regTableHif : List RegT := [
  /- HIF_STATUS -/ RegT.one 0x20000 ([Reg.HIF_STATUS_STATE, Reg.HIF_STATUS_CONFIG_LOCK, Reg.HIF_STATUS_REG_ROLE, Reg.HIF_STATUS_LINK_SPEED, Reg.HIF_STATUS_LINK_WIDTH]),
  /- HIF_STICKY -/ RegT.one 0x20004 ([Reg.HIF_STICKY_STICKY]),
  /- HIF_EVT_EN -/ RegT.one 0x20008 ([Reg.HIF_EVT_EN_EN]),
  /- HIF_LOCK -/ RegT.one 0x2000c ([Reg.HIF_LOCK_LOCK_SET]),
  /- DB_BASE_LO -/ { RegT.one 0x20010 ([Reg.DB_BASE_LO_ADDR_LO]) with latch := [4] },
  /- DB_BASE_HI -/ { RegT.one 0x20014 ([Reg.DB_BASE_HI_ADDR_HI]) with latched := true, staged := true },
  /- ST_BASE_LO -/ { RegT.one 0x20018 ([Reg.ST_BASE_LO_ADDR_LO]) with latch := [4] },
  /- ST_BASE_HI -/ { RegT.one 0x2001c ([Reg.ST_BASE_HI_ADDR_HI]) with latched := true, staged := true },
  /- DB_POLL -/ RegT.one 0x20020 ([Reg.DB_POLL_POLL, Reg.DB_POLL_ADAPT, Reg.DB_POLL_IDLE_POLLS, Reg.DB_POLL_MAX]),
  /- HIF_KICK -/ RegT.one 0x20024 ([Reg.HIF_KICK_KICK]),
  /- ST_CTRL -/ RegT.one 0x20028 ([Reg.ST_CTRL_ST_MIN, Reg.ST_CTRL_HEARTBEAT]),
  /- HIF_DB_POLLS -/ RegT.one 0x20030 ([Reg.HIF_DB_POLLS_COUNT]),
  /- HIF_DB_FAILS -/ RegT.one 0x20034 ([Reg.HIF_DB_FAILS_COUNT]),
  /- HIF_CPL_DISCARDED -/ RegT.one 0x20038 ([Reg.HIF_CPL_DISCARDED_COUNT]),
  /- HIF_EVT_LOST -/ RegT.one 0x2003c ([Reg.HIF_EVT_LOST_COUNT]),
  /- HIF_NO_RIGHT -/ RegT.one 0x20040 ([Reg.HIF_NO_RIGHT_COUNT]),
  /- HIF_INFLIGHT -/ RegT.one 0x20044 ([Reg.HIF_INFLIGHT_COUNT]),
  /- RING_BASE_LO -/ { RegT.arr 0x20100 0x20 64 (fun n => [Reg.RING_BASE_LO_ADDR_LO n]) with latch := [4] },
  /- RING_BASE_HI -/ { RegT.arr 0x20104 0x20 64 (fun n => [Reg.RING_BASE_HI_ADDR_HI n]) with latched := true, staged := true },
  /- RING_CFG -/ RegT.arr 0x20108 0x20 64 (fun n => [Reg.RING_CFG_TYPE n, Reg.RING_CFG_SIZE_LOG2 n, Reg.RING_CFG_PORTS n, Reg.RING_CFG_PARTNER n, Reg.RING_CFG_VECTOR n, Reg.RING_CFG_IRQ_SEV n, Reg.RING_CFG_MIN_SEV n]),
  /- RING_MOD -/ RegT.arr 0x2010c 0x20 64 (fun n => [Reg.RING_MOD_MOD_COUNT n, Reg.RING_MOD_MOD_TIME n]),
  /- RING_CTRL -/ RegT.arr 0x20110 0x20 64 (fun n => [Reg.RING_CTRL_ENABLE n]),
  /- RING_STATUS -/ RegT.arr 0x20114 0x20 64 (fun n => [Reg.RING_STATUS_STATE n, Reg.RING_STATUS_CAUSE n]),
  /- RING_ENGINE_IDX -/ RegT.arr 0x20118 0x20 64 (fun n => [Reg.RING_ENGINE_IDX_IDX n]),
  /- RING_HOST_IDX -/ RegT.arr 0x2011c 0x20 64 (fun n => [Reg.RING_HOST_IDX_IDX n])
  ]

/-- The register words of block FAB. -/
def regTableFab : List RegT := [
  /- FAB_STATUS -/ RegT.one 0x40000 ([Reg.FAB_STATUS_DRAINING, Reg.FAB_STATUS_DCB_TRAINED]),
  /- FAB_STICKY -/ RegT.one 0x40004 ([Reg.FAB_STICKY_STICKY]),
  /- FAB_EVT_EN -/ RegT.one 0x40008 ([Reg.FAB_EVT_EN_EN]),
  /- FAB_CTRL -/ RegT.one 0x4000c ([Reg.FAB_CTRL_HS_TIMEOUT, Reg.FAB_CTRL_PAR_LIMIT]),
  /- FAB_SPEED -/ RegT.one 0x40010 ([Reg.FAB_SPEED_RATE]),
  /- FAB_DEF_COUNT -/ RegT.one 0x40014 ([Reg.FAB_DEF_COUNT_COUNT]),
  /- FAB_DEF_ADDR_LO -/ { RegT.one 0x40018 ([Reg.FAB_DEF_ADDR_LO_ADDR_LO]) with latch := [4, 8] },
  /- FAB_DEF_ADDR_HI -/ { RegT.one 0x4001c ([Reg.FAB_DEF_ADDR_HI_ADDR_HI]) with latched := true },
  /- FAB_DEF_INFO -/ { RegT.one 0x40020 ([Reg.FAB_DEF_INFO_HID, Reg.FAB_DEF_INFO_WRITE, Reg.FAB_DEF_INFO_REG_WINDOW]) with latched := true },
  /- FAB_PARITY_ERR -/ RegT.one 0x40024 ([Reg.FAB_PARITY_ERR_COUNT]),
  /- FAB_PARITY_LAST -/ RegT.one 0x40028 ([Reg.FAB_PARITY_LAST_HID]),
  /- FAB_TIMEOUTS -/ RegT.one 0x4002c ([Reg.FAB_TIMEOUTS_COUNT]),
  /- FAB_DRAINS -/ RegT.one 0x40030 ([Reg.FAB_DRAINS_COUNT]),
  /- FAB_DRAIN_DISCARDS -/ RegT.one 0x40034 ([Reg.FAB_DRAIN_DISCARDS_COUNT]),
  /- RQ_STATUS -/ RegT.arr 0x40100 0x20 6 (fun n => [Reg.RQ_STATUS_FILL n, Reg.RQ_STATUS_DEPTH n, Reg.RQ_STATUS_FLUSHING n]),
  /- RQ_CTRL -/ RegT.arr 0x40104 0x20 6 (fun n => [Reg.RQ_CTRL_FLUSH n]),
  /- RQ_LOST -/ RegT.arr 0x40108 0x20 6 (fun n => [Reg.RQ_LOST_COUNT n]),
  /- RQ_PARITY -/ RegT.arr 0x4010c 0x20 6 (fun n => [Reg.RQ_PARITY_COUNT n]),
  /- RQ_FLUSHED -/ RegT.arr 0x40110 0x20 6 (fun n => [Reg.RQ_FLUSHED_COUNT n]),
  /- RQ_HIGH -/ RegT.arr 0x40114 0x20 6 (fun n => [Reg.RQ_HIGH_FILL n])
  ]

/-- The register words of block PFS. -/
def regTablePfs : List RegT := [
  /- PF_STATUS -/ RegT.one 0x70000 ([Reg.PF_STATUS_BUSY, Reg.PF_STATUS_HELD, Reg.PF_STATUS_PENDING]),
  /- PF_STICKY -/ RegT.one 0x70004 ([Reg.PF_STICKY_STICKY]),
  /- PF_EVT_EN -/ RegT.one 0x70008 ([Reg.PF_EVT_EN_EN]),
  /- PF_CTRL -/ RegT.one 0x7000c ([Reg.PF_CTRL_SRC_CMP, Reg.PF_CTRL_SRC_PIN, Reg.PF_CTRL_SRC_EVT, Reg.PF_CTRL_PIN_EDGE, Reg.PF_CTRL_HOLD]),
  /- PF_RELEASE -/ RegT.one 0x70010 ([Reg.PF_RELEASE_RELEASE]),
  /- PF_SEQ -/ RegT.one 0x70014 ([Reg.PF_SEQ_SEQ]),
  /- PF_AT_LO -/ { RegT.one 0x70018 ([Reg.PF_AT_LO_AT_LO]) with latch := [4, 8] },
  /- PF_AT_HI -/ { RegT.one 0x7001c ([Reg.PF_AT_HI_AT_HI]) with latched := true },
  /- PF_AT_FRAC -/ { RegT.one 0x70020 ([Reg.PF_AT_FRAC_FRAC]) with latched := true },
  /- PF_SOURCES -/ RegT.one 0x70024 ([Reg.PF_SOURCES_SRC, Reg.PF_SOURCES_CMP, Reg.PF_SOURCES_CODE]),
  /- PF_PIN_AT_LO -/ { RegT.one 0x70028 ([Reg.PF_PIN_AT_LO_AT_LO]) with latch := [4] },
  /- PF_PIN_AT_HI -/ { RegT.one 0x7002c ([Reg.PF_PIN_AT_HI_AT_HI]) with latched := true },
  /- PF_MISSED -/ RegT.one 0x70030 ([Reg.PF_MISSED_COUNT]),
  /- PF_FLAGS -/ RegT.one 0x70034 ([Reg.PF_FLAGS_STEPPED]),
  /- PF_EVT_CODE -/ RegT.arr 0x70040 0x4 8 (fun n => [Reg.PF_EVT_CODE_CODE n]),
  /- PF_RECORD -/ RegT.arr2 0x78000 0x40 361 0x4 16 (fun n m => [Reg.PF_RECORD_DATA n m])
  ]

/-- The register words of block PMC. -/
def regTablePmc : List RegT := [
  /- DUMP_CTRL -/ RegT.one 0x50000 ([Reg.DUMP_CTRL_PERIOD, Reg.DUMP_CTRL_EN, Reg.DUMP_CTRL_PORT_STATS, Reg.DUMP_CTRL_REGIONS]),
  /- DUMP_NO -/ RegT.one 0x50004 ([Reg.DUMP_NO_NO]),
  /- PMC_STATUS -/ RegT.arr 0x50400 0x400 8 (fun n => [Reg.PMC_STATUS_SAT n]),
  /- PMC_STICKY -/ RegT.arr 0x50404 0x400 8 (fun n => [Reg.PMC_STICKY_STICKY n]),
  /- PMC_EVT_EN -/ RegT.arr 0x50408 0x400 8 (fun n => [Reg.PMC_EVT_EN_EN n]),
  /- PMC_CLEAR -/ RegT.arr 0x5040c 0x400 8 (fun n => [Reg.PMC_CLEAR_CLEAR n]),
  /- ELAPSED_LO -/ { RegT.arr 0x50410 0x400 8 (fun n => [Reg.ELAPSED_LO_LO n]) with latch := [4] },
  /- ELAPSED_HI -/ { RegT.arr 0x50414 0x400 8 (fun n => [Reg.ELAPSED_HI_HI n]) with latched := true },
  /- ELAPSED_SNAP_LO -/ { RegT.arr 0x50418 0x400 8 (fun n => [Reg.ELAPSED_SNAP_LO_LO n]) with latch := [4] },
  /- ELAPSED_SNAP_HI -/ { RegT.arr 0x5041c 0x400 8 (fun n => [Reg.ELAPSED_SNAP_HI_HI n]) with latched := true },
  /- CNT_CFG -/ RegT.arr2 0x50440 0x400 8 0x40 8 (fun n m => [Reg.CNT_CFG_EVENT n m, Reg.CNT_CFG_ROLE n m, Reg.CNT_CFG_CLASS n m]),
  /- CNT_HID -/ RegT.arr2 0x50444 0x400 8 0x40 8 (fun n m => [Reg.CNT_HID_MATCH n m, Reg.CNT_HID_MASK n m]),
  /- CNT_ADDR_LO -/ { RegT.arr2 0x50448 0x400 8 0x40 8 (fun n m => [Reg.CNT_ADDR_LO_ADDR_LO n m]) with latch := [4] },
  /- CNT_ADDR_HI -/ { RegT.arr2 0x5044c 0x400 8 0x40 8 (fun n m => [Reg.CNT_ADDR_HI_ADDR_HI n m]) with latched := true, staged := true },
  /- CNT_WIN -/ RegT.arr2 0x50450 0x400 8 0x40 8 (fun n m => [Reg.CNT_WIN_SIZE_LOG2 n m]),
  /- CNT_VAL_LO -/ { RegT.arr2 0x50454 0x400 8 0x40 8 (fun n m => [Reg.CNT_VAL_LO_LO n m]) with latch := [4] },
  /- CNT_VAL_HI -/ { RegT.arr2 0x50458 0x400 8 0x40 8 (fun n m => [Reg.CNT_VAL_HI_HI n m]) with latched := true },
  /- CNT_SNAP_LO -/ { RegT.arr2 0x5045c 0x400 8 0x40 8 (fun n m => [Reg.CNT_SNAP_LO_LO n m]) with latch := [4] },
  /- CNT_SNAP_HI -/ { RegT.arr2 0x50460 0x400 8 0x40 8 (fun n m => [Reg.CNT_SNAP_HI_HI n m]) with latched := true }
  ]

/-- The register words of block LOG. -/
def regTableLog : List RegT := [
  /- LOG_STATUS -/ RegT.one 0x60000 ([Reg.LOG_STATUS_FILL, Reg.LOG_STATUS_PREV_VALID, Reg.LOG_STATUS_PREV_COUNT]),
  /- LOG_STICKY -/ RegT.one 0x60004 ([Reg.LOG_STICKY_WRITE_REFUSED]),
  /- LOG_EVT_EN -/ RegT.one 0x60008 ([Reg.LOG_EVT_EN_EN]),
  /- LOG_NEXT_SEQ -/ RegT.one 0x60010 ([Reg.LOG_NEXT_SEQ_SEQ]),
  /- LOG_OLDEST_SEQ -/ RegT.one 0x60014 ([Reg.LOG_OLDEST_SEQ_SEQ]),
  /- LOG_WRAPS -/ RegT.one 0x60018 ([Reg.LOG_WRAPS_COUNT]),
  /- LOG_LAST -/ RegT.arr 0x60100 0x4 8 (fun n => [Reg.LOG_LAST_ENTRY n]),
  /- LOG_PREV -/ RegT.arr2 0x61000 0x20 32 0x4 8 (fun n m => [Reg.LOG_PREV_ENTRY n m])
  ]

/-- The register words of block GLB. -/
def regTableGlb : List RegT := [
  /- ROLE_STATUS -/ RegT.one 0x100 ([Reg.ROLE_STATUS_MAKER_KEY, Reg.ROLE_STATUS_INSTALLER_KEY, Reg.ROLE_STATUS_OPERATOR_KEY, Reg.ROLE_STATUS_LOCKED_OUT, Reg.ROLE_STATUS_OPEN, Reg.ROLE_STATUS_REG_SESSION]),
  /- ROLE_STICKY -/ RegT.one 0x104 ([Reg.ROLE_STICKY_STICKY]),
  /- ROLE_EVT_EN -/ RegT.one 0x108 ([Reg.ROLE_EVT_EN_EN]),
  /- SESSION_CFG -/ RegT.one 0x10c ([Reg.SESSION_CFG_IDLE_TIMEOUT, Reg.SESSION_CFG_FAIL_LIMIT, Reg.SESSION_CFG_LOCKOUT]),
  /- MAKER_KCV -/ RegT.one 0x110 ([Reg.MAKER_KCV_KCV]),
  /- INSTALLER_KCV -/ RegT.one 0x114 ([Reg.INSTALLER_KCV_KCV]),
  /- OPERATOR_KCV -/ RegT.one 0x118 ([Reg.OPERATOR_KCV_KCV]),
  /- SESSION_OPENS -/ RegT.one 0x120 ([Reg.SESSION_OPENS_COUNT]),
  /- SESSION_FAILS -/ RegT.one 0x124 ([Reg.SESSION_FAILS_COUNT]),
  /- SESS_STATE -/ RegT.arr 0x200 0x10 16 (fun n => [Reg.SESS_STATE_OPEN n, Reg.SESS_STATE_ROLE n, Reg.SESS_STATE_REG_BOUND n, Reg.SESS_STATE_RING n, Reg.SESS_STATE_IDLE n]),
  /- SESS_AT_LO -/ { RegT.arr 0x204 0x10 16 (fun n => [Reg.SESS_AT_LO_AT_LO n]) with latch := [4] },
  /- SESS_AT_HI -/ { RegT.arr 0x208 0x10 16 (fun n => [Reg.SESS_AT_HI_AT_HI n]) with latched := true },
  /- GLB_ID -/ RegT.one 0x0 ([Reg.GLB_ID_PART, Reg.GLB_ID_STEPPING, Reg.GLB_ID_GRADE]),
  /- GLB_PCI_ID -/ RegT.one 0x4 ([Reg.GLB_PCI_ID_VENDOR, Reg.GLB_PCI_ID_DEVICE]),
  /- ID_ORG -/ RegT.one 0x8 ([Reg.ID_ORG_ORG]),
  /- GLB_SERIAL_LO -/ { RegT.one 0xc ([Reg.GLB_SERIAL_LO_SER_LO]) with latch := [4] },
  /- GLB_SERIAL_HI -/ { RegT.one 0x10 ([Reg.GLB_SERIAL_HI_SER_HI]) with latched := true },
  /- GLB_STRAPS -/ RegT.one 0x14 ([Reg.GLB_STRAPS_TWIN_SIDE]),
  /- CAP_UNITS_0 -/ RegT.one 0x20 ([Reg.CAP_UNITS_0_LANES, Reg.CAP_UNITS_0_TDC, Reg.CAP_UNITS_0_SYN]),
  /- CAP_UNITS_1 -/ RegT.one 0x24 ([Reg.CAP_UNITS_1_CLKOUT, Reg.CAP_UNITS_1_PULSE, Reg.CAP_UNITS_1_TOD, Reg.CAP_UNITS_1_GNSS_CH, Reg.CAP_UNITS_1_ACQ]),
  /- CAP_UNITS_2 -/ RegT.one 0x28 ([Reg.CAP_UNITS_2_PORTS, Reg.CAP_UNITS_2_RSP, Reg.CAP_UNITS_2_AEAD, Reg.CAP_UNITS_2_PTP_INST]),
  /- CAP_TABLES -/ RegT.one 0x2c ([Reg.CAP_TABLES_KEY_SLOTS, Reg.CAP_TABLES_CLT_MAX_LOG2, Reg.CAP_TABLES_HIF_RINGS]),
  /- CAP_FEAT -/ RegT.one 0x30 ([Reg.CAP_FEAT_GNSS, Reg.CAP_FEAT_TWIN, Reg.CAP_FEAT_NTS, Reg.CAP_FEAT_PTP_AUTH, Reg.CAP_FEAT_MODE_50G, Reg.CAP_FEAT_MODE_100G]),
  /- GLB_SCRATCH -/ RegT.one 0x40 ([Reg.GLB_SCRATCH_SCRATCH])
  ]

/-- The register words of block PWR. -/
def regTablePwr : List RegT := [
  /- PWR_STATUS -/ RegT.one 0x10000 ([Reg.PWR_STATUS_PHASE, Reg.PWR_STATUS_KEEP_VALID, Reg.PWR_STATUS_FW_SLOT, Reg.PWR_STATUS_BIST_RUNNING, Reg.PWR_STATUS_OSC_MISSING, Reg.PWR_STATUS_ON]),
  /- PWR_STICKY -/ RegT.one 0x10004 ([Reg.PWR_STICKY_STICKY]),
  /- PWR_EVT_EN -/ RegT.one 0x10008 ([Reg.PWR_EVT_EN_EN]),
  /- PWR_RESET_CAUSE -/ RegT.one 0x1000c ([Reg.PWR_RESET_CAUSE_CAUSE, Reg.PWR_RESET_CAUSE_FIELD_RESETS]),
  /- PWR_READY_MS -/ RegT.one 0x10010 ([Reg.PWR_READY_MS_MS]),
  /- RECOV_DT -/ RegT.one 0x10014 ([Reg.RECOV_DT_SECONDS]),
  /- RECOV_TEB0 -/ RegT.one 0x10018 ([Reg.RECOV_TEB0_TEB0]),
  /- KEEP_STATUS -/ RegT.one 0x10020 ([Reg.KEEP_STATUS_VBAT_LOW, Reg.KEEP_STATUS_ON_CELL, Reg.KEEP_STATUS_CELL]),
  /- RTC_CFG -/ RegT.one 0x10024 ([Reg.RTC_CFG_RTC_CLASS, Reg.RTC_CFG_LOAD]),
  /- RTC_FOFF -/ RegT.one 0x10028 ([Reg.RTC_FOFF_FOFF]),
  /- FW_VERSION -/ RegT.one 0x10030 ([Reg.FW_VERSION_VERSION]),
  /- FW_SVN -/ RegT.one 0x10034 ([Reg.FW_SVN_SVN, Reg.FW_SVN_REVOKED]),
  /- BIST_STATUS -/ RegT.one 0x10040 ([Reg.BIST_STATUS_PASSED, Reg.BIST_STATUS_FAILED, Reg.BIST_STATUS_SET])
  ]

/-- The register words of block MEM. -/
def regTableMem : List RegT := [
  /- MEM_CFG -/ RegT.one 0x3c0000 ([Reg.MEM_CFG_SIZE, Reg.MEM_CFG_RATE]),
  /- MEM_STATUS -/ RegT.one 0x3c0004 ([Reg.MEM_STATUS_TRAINED, Reg.MEM_STATUS_FAILED, Reg.MEM_STATUS_ATTEMPTS, Reg.MEM_STATUS_FAIL_CH]),
  /- MEM_TRAIN_MS -/ RegT.one 0x3c0008 ([Reg.MEM_TRAIN_MS_MS]),
  /- MEM_RETRAINS -/ RegT.one 0x3c000c ([Reg.MEM_RETRAINS_COUNT])
  ]

end Sys2Proof.Machine
end

