-- ==== Sys2Proof/Machine/Ops.lean ====
section
/-! DEFINITION. The named operations every meaning is made of: reading and writing register fields, hidden
variables, deadlines and host memory; the time; raising an event, logging it and counting it; completing a
command; the checks a command passes before it starts. -/

namespace Sys2Proof.Machine

/-! ## Fields, variables, deadlines -/

/-- The value a register field holds: what was last stored, else its reset value. -/
def State.get (s : State) (f : Fld) : Nat := (aget s.regs f.key).getD f.reset

/-- The signed value of a field. -/
def State.getI (s : State) (f : Fld) : Int := ofBits f.width (s.get f)

/-- The state with a field set; the value is cut to the field's width. -/
def State.put (s : State) (f : Fld) (v : Nat) : State := { s with regs := aput s.regs f.key (v % 2 ^ f.width) }

/-- The state with a field set to a signed value in two's complement. -/
def State.putI (s : State) (f : Fld) (x : Int) : State := s.put f (toBits f.width x)

/-- The state with a one-bit field set from a Bool. -/
def State.putB (s : State) (f : Fld) (b : Bool) : State := s.put f (b2n b)

/-- A counter field one up, wrapping at its width. -/
def State.bump (s : State) (f : Fld) : State := s.put f (s.get f + 1)

/-- A counter field some up, wrapping at its width. -/
def State.bumpBy (s : State) (f : Fld) (n : Nat) : State := s.put f (s.get f + n)

/-- A field one up that stops at its greatest value. -/
def State.bumpSat (s : State) (f : Fld) : State := s.put f (min (s.get f + 1) (2 ^ f.width - 1))

/-- The value of a 64-bit or shorter quantity kept in a LO and a HI field (R470). -/
def State.get64 (s : State) (lo hi : Fld) : Nat := s.get lo + 2 ^ 32 * s.get hi

/-- The signed value of a pair whose HI field has the given width. -/
def State.getI64 (s : State) (lo hi : Fld) : Int := ofBits (32 + hi.width) (s.get64 lo hi)

/-- A pair set from a number. -/
def State.put64 (s : State) (lo hi : Fld) (v : Nat) : State := (s.put lo (v % 2 ^ 32)).put hi (v / 2 ^ 32)

/-- A pair set from a signed number. -/
def State.putI64 (s : State) (lo hi : Fld) (x : Int) : State := s.put64 lo hi (toBits (32 + hi.width) x)

/-- Bit k of a field. -/
def State.fbit (s : State) (f : Fld) (k : Nat) : Bool := bit (s.get f) k

/-- The state with bit k of a field set or cleared. -/
def State.putBit (s : State) (f : Fld) (k : Nat) (b : Bool) : State :=
  s.put f (if b then setBit (s.get f) k else clrBit (s.get f) k)

/-- The value of a hidden variable. -/
def State.var (s : State) (v : Var) : Int := (aget s.vars v).getD 0

/-- The state with a hidden variable set. -/
def State.setVar (s : State) (v : Var) (x : Int) : State := { s with vars := aput s.vars v x }

/-- A running deadline, if it runs. -/
def State.timer (s : State) (t : Tm) : Option Nat := aget s.timers t

/-- The state with a deadline set. -/
def State.setTimer (s : State) (t : Tm) (d : Nat) : State := { s with timers := aput s.timers t d }

/-- The state with a deadline stopped. -/
def State.stopTimer (s : State) (t : Tm) : State := { s with timers := adel s.timers t }

/-! ## Time -/

/-- One nanosecond in the Time Core's internal unit of 2^-52 ns (R53). -/
def nsUnit : Nat := 2 ^ 52

/-- The modulus of the Time Core: 48 bits of seconds (R53). -/
def timeMod : Nat := 2 ^ 48 * 1000000000 * nsUnit

/-- Whole nanoseconds since the PTP epoch. -/
def State.ns (s : State) : Nat := s.tc.time / nsUnit

/-- LINEAR_NS (R54). -/
def State.linear (s : State) : Nat := s.ns % 2 ^ 64

/-- The time in units of 2^-16 ns, truncated (R55). -/
def State.at16 (s : State) : Nat := s.tc.time / 2 ^ 36

/-- The 16-bit fraction of an instant as records carry it, truncated (R55). -/
def State.frac16 (s : State) : Nat := s.at16 % 2 ^ 16

/-- Time Core nanoseconds run since reset, steps not counted: the measure of durations (R22, log entry 7). -/
def State.runNs (s : State) : Nat := s.tc.run / nsUnit

/-- Whether a deadline has passed. -/
def State.due (s : State) (t : Tm) : Bool :=
  match s.timer t with
  | some d => decide (d ≤ s.runNs)
  | none => false

/-- The state with a deadline a number of nanoseconds ahead. -/
def State.arm (s : State) (t : Tm) (ns : Nat) : State := s.setTimer t (s.runNs + ns)

/-- What is left of a deadline in ns; 0 when it does not run. -/
def State.left (s : State) (t : Tm) : Nat := ((s.timer t).getD s.runNs) - s.runNs

/-- Whether the present TCLK edge is the crossing edge of a multiple of a period in ns: the time at the edge before lay before the latest
multiple that the present time has reached. After a forward step that is the latest multiple passed (R59). -/
def State.crosses (s : State) (period : Nat) : Bool := decide (s.tc.prev / (period * nsUnit) < s.tc.time / (period * nsUnit))

/-- Whether what a series does at its crossing edge is still to be done at this edge; a variable holds the edge at which it was last done,
plus 1. -/
def State.atCrossing (s : State) (period : Nat) (v : Var) : Bool := s.crosses period && decide (s.var v ≠ (s.tc.edges : Int) + 1)

/-- Whether the present TCLK edge is the crossing edge of an instant that lies an offset after a multiple of a period, both in ns (R59). -/
def State.crossesAfter (s : State) (period off : Nat) : Bool :=
  let k := fun t => (t + (period - off) * nsUnit) / (period * nsUnit)
  decide (k s.tc.prev < k s.tc.time)

/-- The present edge as a measurement is dated by it (R103). -/
def State.mark (s : State) : Mark := ⟨s.tc.run, s.tc.edges, s.tc.refSum, s.var .stepSum, s.at16⟩

/-- What a series does at this edge noted as done. -/
def State.doneAt (s : State) (v : Var) : State := s.setVar v (s.tc.edges + 1 : Nat)

/-- Nanoseconds in a second. -/
def secNs : Nat := 1000000000

/-- Nanoseconds in a lap (R87). -/
def lapNs : Nat := 15625000

/-- The signed difference of two values of LINEAR_NS (R54). -/
def linDiff (a b : Nat) : Int := ofBits 64 (toBits 64 ((a : Int) - b))

/-! ## Host memory -/

/-- The byte of host memory at an address; an address never written reads 0 (log entry 4). -/
def memGet : List Host.Cell → Nat → Byte
  | [], _ => 0
  | (a, b) :: m, k => if k = a then b else memGet m k

/-- Host memory with one byte written, in canonical form: addresses rise, no byte of 0 is listed. -/
def memPut : List Host.Cell → Nat → Byte → List Host.Cell
  | [], k, v => if v = 0 then [] else [(k, v)]
  | (a, b) :: m, k, v =>
    if k < a then (if v = 0 then (a, b) :: m else (k, v) :: (a, b) :: m)
    else if k = a then (if v = 0 then m else (a, v) :: m)
    else (a, b) :: memPut m k v

/-- Host memory with bytes written from an address up. -/
def memWrite : List Host.Cell → Nat → List Byte → List Host.Cell
  | m, _, [] => m
  | m, a, b :: bs => memWrite (memPut m a b) (a + 1) bs

/-- Bytes of host memory from an address up. -/
def memRead (m : List Host.Cell) (a : Nat) : Nat → List Byte
  | 0 => []
  | n + 1 => memGet m a :: memRead m (a + 1) n

/-- The canonical form of host memory (R365 gives it no other structure). -/
def Memory.wf (m : List Host.Cell) : Bool :=
  match m with
  | [] => true
  | [(_, b)] => b ≠ 0
  | (a, b) :: (a', b') :: m' => b ≠ 0 ∧ a < a' ∧ Memory.wf ((a', b') :: m')

/-- The state with bytes written to host memory, where the access succeeds (R361). -/
def State.dmaWrite (s : State) (a : Nat) (bs : List Byte) : State := { s with mem := memWrite s.mem a bs }

/-! ## Events -/

/-- One event of the spec's tables: code, the unit it carries, severity, its sticky bit, its enable bit, and
whether it is raised only when its sticky bit goes from 0 to 1. -/
structure Ev where
  code   : Nat
  hid    : Nat
  sev    : Sev
  sticky : Option (Fld × Nat) := none
  en     : Option (Fld × Nat) := none
  edge   : Bool := true

/-- The number of bytes items take when packed by R375. -/
def packedLen : List Item → Nat → Nat
  | [], n => n
  | i :: is, n => packedLen is ((n + i.size - 1) / i.size * i.size + i.size)

/-- Items packed by R375: each at the next offset that is a multiple of its size. -/
def packItems : List Item → Nat → List Byte
  | [], _ => []
  | i :: is, n =>
    List.replicate ((n + i.size - 1) / i.size * i.size - n) (0 : Byte) ++ leBytes i.size i.val
      ++ packItems is ((n + i.size - 1) / i.size * i.size + i.size)

/-- The log entries an event takes: one, or two when its data exceeds 8 bytes (R420). -/
def LogEntry.slots (e : LogEntry) : Nat := if 8 < packedLen e.items 0 then 2 else 1

/-- The newest entries that fit into a number of slots. -/
def keepSlots : Nat → List LogEntry → List LogEntry
  | _, [] => []
  | n, e :: es => if e.slots ≤ n then e :: keepSlots (n - e.slots) es else []

/-- Slots taken by a list of entries. -/
def slotsOf : List LogEntry → Nat
  | [] => 0
  | e :: es => e.slots + slotsOf es

/-- The region index die × 4 + region of an event code's high byte or a HID's top bits, for the counters of R414. -/
def regionOfHid (hid : Nat) : Nat := hid / 4096 % 16 / 8 * 4 + hid / 4096 % 4

/-- The trouble log with an entry added (R419, R422): it takes the next SEQ values, the oldest entries give way,
the keeper copies the last 32 once the log runs. -/
def Log.push (l : Log) (e : LogEntry) (running : Bool) : Log :=
  { l with
    entries := keepSlots 16384 (e :: l.entries)
    nextSeq := (l.nextSeq + e.slots) % 2 ^ 32
    wraps := l.wraps + (slotsOf (e :: l.entries) - slotsOf (keepSlots 16384 (e :: l.entries)))
    keeper := if running then keepSlots 32 (e :: l.keeper) else l.keeper }

/-- The event queue with a record added: the oldest gives way when 256 wait (R373, R401). -/
def EvtQueue.push (q : EvtQueue) (e : LogEntry) : EvtQueue :=
  if q.recs.length < 256 then { q with recs := q.recs ++ [e] }
  else ⟨q.recs.tail ++ [e], q.lost + 1⟩

/-- The severity's code (R378). -/
def Sev.code : Sev → Nat
  | .info => 0 | .warning => 1 | .error => 2 | .critical => 3

/-- Whether the log has begun to feed the keeper: from FIELD_UP on (R422, R457). -/
def State.logRunning (s : State) : Bool := decide (6 ≤ s.get Reg.PWR_STATUS_PHASE)

/-- The entry an event makes at this instant. -/
def State.entry (s : State) (code hid : Nat) (sev : Sev) (role : Nat) (remote : Bool) (side : Nat)
    (items : List Item) : LogEntry :=
  { seq := s.log.nextSeq, ns := s.linear, frac := s.frac16, code, hid, sev, side, remote, role,
    teb := s.get Reg.HOB_TEB_TEB, trace := s.get Reg.HOB_TRACE_TRACE, items }

/-- The side of this twin (R39). -/
def State.side (s : State) : Nat := s.get Reg.GLB_STRAPS_TWIN_SIDE

/-- The oldest record of a queue gone: one poisoned record fewer, where any is (R45). -/
def State.rqGone (s : State) (q : Nat) : State := s.setVar (.rqPoison q) (max 0 (s.var (.rqPoison q) - 1))

/-- RQ_HIGH of a record queue raised to a fill (R406). -/
def State.rqFill (s : State) (q fill : Nat) : State := s.put (Reg.RQ_HIGH_FILL q) (max (s.get (Reg.RQ_HIGH_FILL q)) fill)

/-- One event logged and queued for the EVT rings, with no counter and no snapshot trigger (R419). -/
def State.logOnly (s : State) (e : LogEntry) : State :=
  let e := { e with seq := s.log.nextSeq }
  let lostOne := decide (256 ≤ s.evtq.recs.length)
  let s := { s with log := s.log.push e s.logRunning, evtq := s.evtq.push e }
  let s := s.rqFill 0 s.evtq.recs.length
  if lostOne then ((s.bump (Reg.RQ_LOST_COUNT 0)).bump Reg.HIF_EVT_LOST_COUNT).rqGone 0 else s

/-- The attributes an event of R415 may carry for the filters of R416. -/
structure Attr where
  role : Option Nat := none
  hid  : Option Nat := none
  addr : Option Nat := none
  cls  : Option Nat := none

/-- Whether an event passes the four filters of counter k of region r (R416). -/
def State.pmcPasses (s : State) (r k : Nat) (a : Attr) : Bool :=
  (match a.role with
   | some x => s.fbit (Reg.CNT_CFG_ROLE r k) x
   | none => true)
  && (match a.hid with
   | some h => h &&& s.get (Reg.CNT_HID_MASK r k) = s.get (Reg.CNT_HID_MATCH r k) &&& s.get (Reg.CNT_HID_MASK r k)
   | none => true)
  && (match a.addr with
   | some x =>
     let w := s.get (Reg.CNT_WIN_SIZE_LOG2 r k)
     w = 0 ∨ x / 2 ^ w = (s.get (Reg.CNT_ADDR_LO_ADDR_LO r k) + 2 ^ 32 * s.get (Reg.CNT_ADDR_HI_ADDR_HI r k)) / 2 ^ w
   | none => true)
  && (match a.cls with
   | some c => s.fbit (Reg.CNT_CFG_CLASS r k) c
   | none => true)

/-- Counter k of region r with a weight added; at 2^48 - 1 it stops and CNT_SAT is raised (R414, R425). -/
def State.pmcAdd (s : State) (r k w : Nat) : State :=
  let i := r * 8 + k
  let old := (aget s.pmc.cnt i).getD 0
  if 2 ^ 48 - 1 ≤ old + w then
    let was := (aget s.pmc.sat r).getD 0
    let s := { s with pmc := { s.pmc with cnt := aput s.pmc.cnt i (2 ^ 48 - 1), sat := aput s.pmc.sat r (setBit was k) } }
    let first := decide (¬ s.fbit (Reg.PMC_STICKY_STICKY r) k)
    let s := s.putBit (Reg.PMC_STICKY_STICKY r) k true
    if first ∧ s.get (Reg.PMC_EVT_EN_EN r) = 1 then
      s.logOnly (s.entry (r * 256 + 0xF0) (r / 4 * 0x8000 + r % 4 * 0x1000 + 0xF00) .info 0 false s.side
        [⟨1, setBit was k⟩])
    else s
  else { s with pmc := { s.pmc with cnt := aput s.pmc.cnt i (old + w) } }

/-- An event of R415 offered to the counters of a region from number k up. -/
def State.pmcFrom (s : State) (r ev w : Nat) (a : Attr) : Nat → State
  | 0 => s
  | k + 1 =>
    let s := s.pmcFrom r ev w a k
    if s.get (Reg.CNT_CFG_EVENT r k) = ev ∧ s.pmcPasses r k a then s.pmcAdd r k w else s

/-- An event of R415 offered to the eight counters of a region. -/
def State.pmcEvent (s : State) (r ev : Nat) (a : Attr := {}) (w : Nat := 1) : State := s.pmcFrom r ev w a 8

/-- Lead between a decision to latch and the latch instant: 64 TCLK periods, in units of 2^-16 ns (R407). -/
def pfLead16 : Nat := 100 * 65536

/-- Whether a code stands in PF_EVT_CODE_0 to _7 (R407). -/
def State.pfWatches (s : State) (code : Nat) : Bool :=
  (List.range 8).any fun k => s.get (Reg.PF_EVT_CODE_CODE k) = code ∧ code ≠ 0

/-- A snapshot trigger noted for its instant; one decided at a step edge carries STEPPED (R63). -/
def State.pfTrigger (s : State) (t : PfTrig) : State :=
  { s with pf := { s.pf with trigs := s.pf.trigs ++ [{ t with stepped := decide (s.var .stepEdge = (s.tc.edges : Int) + 1) }] } }

/-- One event logged, recorded, counted under EVENT 0x09, and offered to the photo-finish (R407, R415, R419). -/
def State.emitOne (s : State) (e : LogEntry) : State :=
  let s := s.logOnly e
  let s := s.pmcEvent (e.code / 256 % 8) 0x09
  if s.get Reg.PF_CTRL_SRC_EVT = 1 ∧ s.pfWatches e.code
  then s.pfTrigger ⟨s.at16 + pfLead16, 3, 0, e.code, none, 0, false⟩ else s

/-- The unit taken to hold a record queue (log entry 37): the host interface, a port, the dump engine. -/
def rqHid (q : Nat) : Nat := if q = 0 then 0xB000 else if q = 5 then 0xB400 else 0x8000 + (q - 1)

/-- A record lost from a queue: the sticky bit of 0x0722, raised at most once a second (R401, R405). -/
def State.rqLostNote (s : State) (q : Nat) : State :=
  let s := s.putBit Reg.FAB_STICKY_STICKY 2 true
  let last := s.var (.fabRaised 2)
  if s.fbit Reg.FAB_EVT_EN_EN 2 ∧ (last = 0 ∨ last + secNs ≤ s.runNs + 1) then
    (s.setVar (.fabRaised 2) (s.runNs + 1)).emitOne (s.entry 0x0722 (rqHid q) .warning 0 false s.side
      [⟨2, rqHid q⟩, ⟨1, q⟩, ⟨4, s.get (Reg.RQ_LOST_COUNT q)⟩])
  else s

/-- One event raised into the log and its queue; when that costs a record, the loss is noted (R401, R419). -/
def State.emit (s : State) (e : LogEntry) : State :=
  let lostOne := decide (256 ≤ s.evtq.recs.length)
  let s := s.emitOne e
  if lostOne then s.rqLostNote 0 else s

/-- An event raised: its sticky bit sets, and when its enable allows it is logged and recorded. -/
def State.raise (s : State) (e : Ev) (items : List Item) (role : Nat := 0) : State :=
  let was : Bool := match e.sticky with
    | some (f, k) => s.fbit f k
    | none => false
  let s := match e.sticky with
    | some (f, k) => s.putBit f k true
    | none => s
  let en : Bool := match e.en with
    | some (f, k) => s.fbit f k
    | none => true
  if en ∧ ¬ (e.edge ∧ was) then s.emit (s.entry e.code e.hid e.sev role false s.side items) else s

/-- A one-, two-, four- and eight-byte data item. -/
def i1 (v : Nat) : Item := ⟨1, v % 2 ^ 8⟩
@[inherit_doc i1] def i2 (v : Nat) : Item := ⟨2, v % 2 ^ 16⟩
@[inherit_doc i1] def i4 (v : Nat) : Item := ⟨4, v % 2 ^ 32⟩
@[inherit_doc i1] def i8 (v : Nat) : Item := ⟨8, v % 2 ^ 64⟩

/-! ## Change records -/

/-- A change record, 0x0730: always logged (R440); one applied from the partner's journal shows its side of origin (R52). -/
def State.change (s : State) (role hid op off old new : Nat) : State :=
  let from_ := s.var .originSide
  s.emit (s.entry 0x0730 hid .info role (decide (from_ ≠ 0)) (if from_ = 0 then s.side else (from_ - 1).toNat)
    [i2 hid, i2 op, i4 off, i4 old, i4 new])

/-- A refused register write, 0x0731: always logged, with the first cause that applies (R441, R421). -/
def State.writeRefused (s : State) (role hid off value cause : Nat) : State :=
  let s := s.put Reg.LOG_STICKY_WRITE_REFUSED 1
  s.emit (s.entry 0x0731 hid .warning role false s.side [i4 off, i1 role, i4 value, i1 cause])

/-! ## Completions (R377, R381, R385) -/

/-- The completion statuses of R382. -/
def Status.ok : Nat := 0x00
@[inherit_doc Status.ok] def Status.range : Nat := 0x01
@[inherit_doc Status.ok] def Status.busy : Nat := 0x02
@[inherit_doc Status.ok] def Status.notPermitted : Nat := 0x03
@[inherit_doc Status.ok] def Status.fenced : Nat := 0x04
@[inherit_doc Status.ok] def Status.notFit : Nat := 0x05
@[inherit_doc Status.ok] def Status.notFound : Nat := 0x06
@[inherit_doc Status.ok] def Status.tooSoon : Nat := 0x07
@[inherit_doc Status.ok] def Status.interrupted : Nat := 0x08
@[inherit_doc Status.ok] def Status.lockFail : Nat := 0x09
@[inherit_doc Status.ok] def Status.leapCommitted : Nat := 0x0A
@[inherit_doc Status.ok] def Status.leapConflict : Nat := 0x0B
@[inherit_doc Status.ok] def Status.unwrapFail : Nat := 0x0C
@[inherit_doc Status.ok] def Status.tableFull : Nat := 0x0D
@[inherit_doc Status.ok] def Status.refusedActive : Nat := 0x0E
@[inherit_doc Status.ok] def Status.sessionRefused : Nat := 0x0F
@[inherit_doc Status.ok] def Status.noRight : Nat := 0x10
@[inherit_doc Status.ok] def Status.badOpcode : Nat := 0x11
@[inherit_doc Status.ok] def Status.badDesc : Nat := 0x12
@[inherit_doc Status.ok] def Status.dmaError : Nat := 0x13
@[inherit_doc Status.ok] def Status.aborted : Nat := 0x14
@[inherit_doc Status.ok] def Status.abortTooLate : Nat := 0x15

/-- ENGINE_IDX of a ring. -/
def State.engIdx (s : State) (n : Nat) : Nat := (aget s.hif.engIdx n).getD 0

/-- HOST_IDX of a ring as last read from the doorbell block. -/
def State.hostIdx (s : State) (n : Nat) : Nat := (aget s.hif.hostIdx n).getD 0

/-- Host address of a ring's memory. -/
def State.ringBase (s : State) (n : Nat) : Nat := s.get64 (Reg.RING_BASE_LO_ADDR_LO n) (Reg.RING_BASE_HI_ADDR_HI n)

/-- Entries a ring holds when full (R369). -/
def State.ringSize (s : State) (n : Nat) : Nat := 2 ^ s.get (Reg.RING_CFG_SIZE_LOG2 n)

/-- A ring's ENGINE_IDX one up, and the status block due (R368, R369). -/
def State.advance (s : State) (n : Nat) : State :=
  { s with hif := { s.hif with engIdx := aput s.hif.engIdx n ((s.engIdx n + 1) % 2 ^ 32), stDirty := true } }

/-- An entry written to an engine-produced ring is counted towards its signal: it signals at once when urgent, at
MOD_COUNT entries, or with MOD_TIME 0, and otherwise its MOD_TIME runs from the first entry (R385). -/
def State.ringSignal (s : State) (n : Nat) (urgent : Bool) : State :=
  let v := s.get (Reg.RING_CFG_VECTOR n)
  if v = 0 then s else
  let k := (aget s.hif.unsignal n).getD 0 + 1
  if urgent ∨ s.get (Reg.RING_MOD_MOD_COUNT n) ≤ k ∨ s.get (Reg.RING_MOD_MOD_TIME n) = 0 then
    let s := { s with hif := { s.hif with unsignal := aput s.hif.unsignal n 0, toSignal := s.hif.toSignal ++ [v] } }
    s.stopTimer (.modTime n)
  else
    let s := { s with hif := { s.hif with unsignal := aput s.hif.unsignal n k } }
    if k = 1 then s.arm (.modTime n) (1000 * s.get (Reg.RING_MOD_MOD_TIME n)) else s

/-- PHASE of an entry with a given index in a ring (R377). -/
def State.phaseOf (s : State) (n i : Nat) : Nat := 1 - i / s.ringSize n % 2

/-- Whether a domain is powered (R448). -/
def State.powered (s : State) (d : Nat) : Bool := s.fbit Reg.PWR_STATUS_ON d

/-- An entry written into an engine-produced ring at its producer index, which then rises (R369). -/
def State.ringWrite (s : State) (n : Nat) (entry : List Byte) (urgent : Bool) : State :=
  let a := s.ringBase n + entry.length * (s.engIdx n % s.ringSize n)
  ((s.dmaWrite a entry).advance n).ringSignal n urgent |>.pmcEvent 7 0x13

/-- Entries an engine-produced ring has room for; none in D3hot (R359, R369). -/
def State.ringRoom (s : State) (n : Nat) : Nat :=
  if s.hif.d3hot then 0 else s.ringSize n - (s.engIdx n + 2 ^ 32 - s.hostIdx n % 2 ^ 32) % 2 ^ 32

/-- The 16 bytes of a completion (R377). -/
def cplBytes (d : Done) (phase : Nat) : List Byte :=
  leBytes 4 d.tag ++ leBytes 1 d.status ++ leBytes 1 (phase + 2 * b2n d.byAbort) ++ leBytes 1 d.ring ++ leBytes 1 0
    ++ leBytes 8 d.data

/-- The commands in flight without the first one of a ring and tag. -/
def dropFlight : List InFlight → Nat → Nat → List InFlight
  | [], _, _ => []
  | e :: es, r, t => if e.ctx.ring = r ∧ e.ctx.tag = t then es else e :: dropFlight es r t

/-- The first command in flight of a ring and tag (R383). -/
def findFlight : List InFlight → Nat → Nat → Option InFlight
  | [], _, _ => none
  | e :: es, r, t => if e.ctx.ring = r ∧ e.ctx.tag = t then some e else findFlight es r t

/-- Completions kept for ABORT: the last 256 of each ring (R383), oldest dropped. -/
def keepDone (d : Done) (ds : List Done) : List Done :=
  d :: (ds.filter (·.ring ≠ d.ring) ++ (ds.filter (·.ring = d.ring)).take 255)

/-- Whether the host interface takes commands: READY or RUNNING (R362). -/
def State.hostOpen (s : State) : Bool := s.get Reg.HIF_STATUS_STATE = 1 ∨ s.get Reg.HIF_STATUS_STATE = 2

/-- The region of the unit a command names, for the counters of R415: that of its HID where it carries one, else that of its block's
units; a command of start-up or of the host interface alone names none. -/
def cmdRegion (op : Nat) (hid : Option Nat) : Option Nat :=
  match op / 256 with
  | 0x01 => hid.map regionOfHid
  | 0x02 | 0x03 | 0x04 | 0x05 => some 0
  | 0x06 | 0x07 => some 1
  | 0x08 => some 2
  | 0x09 | 0x0B => some 5
  | 0x0A => some (if op = 0x0A02 ∨ op = 0x0A03 then 6 else 5)
  | 0x0C => some 4
  | 0x0D => some 3
  | 0x0E => some 7
  | 0x0F => some (if op = 0x0F01 then 0 else 7)
  | 0x10 => some 6
  | _ => none

/-- A completed command counted by the region of the unit it named (R415). -/
def State.countCmd (s : State) (op : Nat) (hid : Option Nat) (role : Nat) : State :=
  match cmdRegion op hid with
  | some r => s.pmcEvent r 0x06 { role := some role }
  | none => s

/-- A completion counted where the command ran on in flight; any other is counted where it is started (R415). -/
def State.countHeld (s : State) (c : Ctx) : State :=
  match findFlight s.hif.inflight c.ring c.tag with
  | some e => if e.started then s.countCmd e.op e.arg.head? e.role else s
  | none => s

/-- One completion written: the command leaves the flight, and its CPL entry goes to the partner ring, or is
discarded and counted when the ring that carried it is no longer active (R381, R386); in D3hot it waits (R359). -/
def State.complete1 (s : State) (c : Ctx) (status data : Nat) (byAbort : Bool := false) : State :=
  let d : Done := ⟨c.ring, c.tag, status, data % 2 ^ 64, byAbort⟩
  let s := s.countHeld c
  let s := { s with hif := { s.hif with inflight := dropFlight s.hif.inflight c.ring c.tag, done := keepDone d s.hif.done } }
  let p := s.get (Reg.RING_CFG_PARTNER c.ring)
  if (s.get (Reg.RING_STATUS_STATE c.ring) = 1 ∨ s.get (Reg.RING_STATUS_STATE c.ring) = 2)
      ∧ s.get (Reg.RING_STATUS_STATE p) = 1 ∧ s.hostOpen then
    if s.hif.d3hot then { s with hif := { s.hif with waiting := s.hif.waiting ++ [⟨p, d, c.irq⟩] } }
    else s.ringWrite p (cplBytes d (s.phaseOf p (s.engIdx p))) c.irq
  else { (s.bump Reg.HIF_CPL_DISCARDED_COUNT) with hif := { s.hif with discards := s.hif.discards + 1 } }

/-- The ABORTs that wait for the end of a command: the ring and tag they name are their argument, and a 1 after them says that the command
was still to be stopped (R383). -/
def waitingAborts (fs : List InFlight) (ring tag : Nat) : List InFlight :=
  fs.filter fun e => e.op = 0x0002 ∧ e.started ∧ (e.arg = [ring, tag] ∨ e.arg = [ring, tag, 1])

/-- The ABORTs of a list completed: with OK where they stopped the command, else with ABORT_TOO_LATE. -/
def State.endAborts (s : State) (stopped : Bool) : List InFlight → State
  | [] => s
  | e :: es => (s.complete1 e.ctx (if stopped ∧ e.arg.length = 3 then Status.ok else Status.abortTooLate) 0).endAborts stopped es

/-- A completion, and after it the completions of the ABORTs that waited for it (R383). -/
def State.complete (s : State) (c : Ctx) (status data : Nat) (byAbort : Bool := false) : State :=
  let w := waitingAborts s.hif.inflight c.ring c.tag
  (s.complete1 c status data byAbort).endAborts byAbort w

/-! ## Admission of a command (R382, R437) -/

/-- The role's code (R427). -/
def Role.code : Role → Nat
  | .operator => 1 | .installer => 2 | .maker => 3

/-- Whether a role held covers a role needed: INSTALLER includes OPERATOR, MAKER only itself (R428). -/
def hasRight (held need : Nat) : Bool := need = 0 ∨ held = need ∨ (held = 2 ∧ need = 1)

/-- The role a session number gives on a ring: none when it is closed or was opened on another ring (R437). -/
def State.sessionRole (s : State) (ring session : Nat) : Nat :=
  match aget s.roles.sessions session with
  | some x => if x.ring = ring then x.role else 0
  | none => 0

/-- What a command's chapter says of it: opcode, role needed (0 none), whether it is carried to the standby as a
change record (R52) and so refused on a follower (R342), whether the boot ROM of RECOVERY accepts it (R458), whether it is carried although a
follower accepts it (R64), and the HID it names where it names one. -/
structure OpInfo where
  op      : Nat
  hid     : Option Nat := none
  role    : Nat := 0
  carried : Bool := false
  boot    : Bool := false
  sent    : Bool := false

/-- Whether a completion slot can be reserved in the CPL ring of a CMD ring, which is ACTIVE, those of the commands in flight counted (R373). -/
def State.cplFree (s : State) (n : Nat) : Bool :=
  let p := s.get (Reg.RING_CFG_PARTNER n)
  decide (s.get (Reg.RING_STATUS_STATE p) = 1
    ∧ (s.hif.inflight.filter fun e => decide (s.get (Reg.RING_CFG_PARTNER e.ctx.ring) = p)).length < s.ringRoom p)

/-- Whether a command is in flight and not started, or can be fetched now from its ACTIVE CMD ring (R381). -/
def State.startable (s : State) (c : Ctx) (o : OpInfo) : Bool :=
  match findFlight s.hif.inflight c.ring c.tag with
  | some e => decide (e.op = o.op ∧ e.started = false)
  | none => decide (s.get (Reg.RING_STATUS_STATE c.ring) = 1 ∧ s.get (Reg.RING_CFG_TYPE c.ring) = 0
      ∧ s.hif.inflight.length < 256 ∧ s.cplFree c.ring)

/-- The commands in flight fetched before a given one. -/
def earlierOf (fs : List InFlight) (c : Ctx) : List InFlight :=
  fs.takeWhile fun e => decide (¬ (e.ctx.ring = c.ring ∧ e.ctx.tag = c.tag))

/-- Whether an earlier command in flight lets one start: it is of another ring, or of another opcode high byte and
the one has no FENCE (R381). -/
def InFlight.clearOf (e : InFlight) (c : Ctx) (o : OpInfo) : Bool :=
  decide (e.ctx.ring ≠ c.ring ∨ (e.op / 256 ≠ o.op / 256 ∧ c.fence = false))

/-- Whether a ring command can start: the host interface is READY or RUNNING, and the command is in flight and
not started, or its CMD ring is ACTIVE with room among the 256 in flight; and no earlier command of its ring that
it must wait for is in flight (R362, R381). -/
def State.live (s : State) (c : Ctx) (o : OpInfo) : Bool :=
  s.hostOpen && s.startable c o && (earlierOf s.hif.inflight c).all fun e => e.clearOf c o

/-- The role a command runs with: the one it was fetched with, else its session's now (R437). -/
def State.roleOf (s : State) (c : Ctx) : Nat :=
  match findFlight s.hif.inflight c.ring c.tag with
  | some e => e.role
  | none => s.sessionRole c.ring c.session

/-- The idle count of the session a fetched command presents restarts (R438). -/
def State.touch (s : State) (c : Ctx) : State :=
  match aget s.roles.sessions c.session with
  | some x => if x.ring = c.ring then
      { s with roles := { s.roles with sessions := aput s.roles.sessions c.session { x with lastAt := s.runNs } } } else s
  | none => s

/-- Event 0x0715 NO_RIGHT (R387). -/
def evNoRight : Ev := ⟨0x0715, 0xB000, .warning, some (Reg.HIF_STICKY_STICKY, 4), some (Reg.HIF_EVT_EN_EN, 4), true⟩

/-- An MSI-X message: sent where the vector is not masked and the function is in D0 with a host; else its pending bit sets (R359, R385). -/
def State.msi (s : State) (v : Nat) : State :=
  if s.hif.masked.contains v ∨ s.hif.d3hot ∨ ¬ s.hif.hostUp then
    { s with hif := { s.hif with pbits := if s.hif.pbits.contains v then s.hif.pbits else s.hif.pbits ++ [v] } }
  else { s with out := .msi v :: s.out }

/-- Vector 0 is signalled whenever a HIF_STICKY bit sets while its enable is 1 (R385). -/
def State.raiseHif (s : State) (e : Ev) (items : List Item) : State :=
  let k := e.code - 0x0711
  let first := decide (¬ s.fbit Reg.HIF_STICKY_STICKY k)
  let s := s.raise e items
  if first ∧ s.fbit Reg.HIF_EVT_EN_EN k then s.msi 0 else s

/-- A command refused for want of its role: NO_RIGHT with the role needed, counted, 0x0715 raised (R382). -/
def State.refuseRight (s : State) (c : Ctx) (o : OpInfo) : State :=
  let s := s.bump Reg.HIF_NO_RIGHT_COUNT
  let s := s.raiseHif evNoRight [i2 o.op, i1 c.session, i1 o.role]
  s.complete c Status.noRight o.role

/-- Whether the twin is STANDBY or RESYNC (R346). -/
def State.follower (s : State) : Bool := s.get Reg.TWN_STATUS_ROLE = 3 ∨ s.get Reg.TWN_STATUS_ROLE = 4

/-- Whether the twin serves: ACTIVE or ALONE (R346). -/
def State.serves (s : State) : Bool := s.get Reg.TWN_STATUS_ROLE = 2 ∨ s.get Reg.TWN_STATUS_ROLE = 0

/-- The outcome of a command's effect: the state it leaves, and its status with DATA, or none while it runs on. -/
structure Res where
  s    : State
  st   : Option Nat
  data : Nat := 0

/-- The 4 laps for an acknowledgement begin with the first thing withheld (R341). -/
def State.armAck (s : State) : State := if (s.timer .journalAck).isSome then s else s.arm .journalAck (4 * lapNs)

/-- The sizes of a carried command's parameters (R340, R375); one not listed takes 4 bytes. -/
def carriedSizes (op : Nat) : List Nat :=
  if op ∈ [0x0304, 0x0503, 0x0601, 0x0901, 0x0904, 0x0C01] then [1, 4, 4]
  else if op ∈ [0x0301, 0x0303, 0x0602, 0x0603, 0x0902, 0x0903] then [1]
  else if op ∈ [0x0203, 0x0905] then [8]
  else if op = 0x0205 then [2, 1, 1]
  else if op = 0x0206 then [2]
  else if op = 0x0305 then [1, 2, 2, 4, 2]
  else if op = 0x0604 then [1, 8, 2]
  else if op = 0x0701 then [2, 4, 4]
  else if op = 0x0702 then [4, 1, 4]
  else if op = 0x0802 then [1, 8, 8, 8, 4, 4]
  else []

/-- Items of given sizes, packed by R375. -/
def packSizes (zs : List Nat) (xs : List Int) : List Byte :=
  packItems (List.zipWith (fun z x => ⟨z, toBits (8 * z) x⟩) (zs ++ List.replicate xs.length 4) xs) 0

/-- A client key as in bytes 0 to 23 of a client entry (R285, R340), from its port, type, address, VLAN and tag. -/
def keyBody (xs : List Int) : List Byte :=
  let i := fun k => (xs.getD k 0).toNat
  leBytes 1 (i 1 + 4 * i 0) ++ [0, 0, 0] ++ (leBytes 16 (i 2)).reverse ++ leBytes 2 (i 3 + 4096 * i 4) ++ [0, 0]

/-- The body of a journal record: a command's parameters as issued, or a client key with instance, message type and grant word (R340). How a client
key stands among a command's parameters, and the body of KIND 2, the spec does not say (DESIGN CHOICE, log entry 199). -/
def recordBody (kind op : Nat) (xs : List Int) : List Byte :=
  if kind = 4 ∨ kind = 5 then keyBody xs ++ packSizes [1, 1, 8] (xs.drop 5)
  else if op = 0x0906 ∧ 1 < xs.length then packSizes [1] (xs.take 1) ++ keyBody (xs.drop 1)
  else if op = 0x0B02 then keyBody xs ++ packSizes [1, 1, 16] (xs.drop 5)
  else if op = 0x0B03 then keyBody xs
  else packSizes (carriedSizes op) xs

/-- A journal record's 16-byte header and its body, filled to a multiple of 4 bytes (R340). -/
def JournalRec.octets (r : JournalRec) : List Byte :=
  let b := recordBody r.kind r.op r.body
  let b := b ++ List.replicate ((4 - b.length % 4) % 4) (0 : Byte)
  leBytes 8 r.seq ++ leBytes 1 r.kind ++ leBytes 1 r.role ++ leBytes 1 r.side ++ leBytes 1 r.result ++ leBytes 2 b.length
    ++ leBytes 2 r.op ++ b

/-- A journal frame: the record, and the CRC-32 over it (R334, R340). -/
def JournalRec.frame (r : JournalRec) : List Byte := r.octets ++ leBytes 4 (crc32 r.octets)

/-- A journal frame sent to the partner while the Relay Link is up; what an outage keeps from the partner it asks for later (R340, R354). -/
def State.sendRecord (s : State) (r : JournalRec) : State :=
  if s.get Reg.TWN_STATUS_LINK_UP = 1 then { s with out := .journal r r.frame :: s.out }.pmcEvent 3 0x11 else s

/-- A record of the state journal made: it takes the next number, is kept and is sent (R340, R354). -/
def State.stateRecord (s : State) (kind role result op : Nat) (body : List Int) : State :=
  let seq := s.twin.stateSeq + 1
  let r : JournalRec := ⟨seq, kind, role, s.side, result, op, body⟩
  { s with twin := { s.twin with
    stateSeq := seq, journal := (s.twin.journal ++ [r]).drop (s.twin.journal.length + 1 - 65536) } }.sendRecord r

/-- A journal record of KIND 1 made for a command that is carried, and the completion withheld while the partner
is a synced STANDBY (R340, R341). -/
def State.finishCarried (s : State) (c : Ctx) (o : OpInfo) (role st data : Nat) (body : List Int) : State :=
  if s.get Reg.TWN_STATUS_ROLE = 2 then
    let s := s.stateRecord 1 role st o.op body
    if s.twin.partnerSynced then
      { s.armAck with hif := { s.hif with inflight := dropFlight s.hif.inflight c.ring c.tag ++
          [⟨c, o.op, role, true, [], some (st, data, s.twin.stateSeq, s.runNs)⟩] } }
    else s.complete c st data
  else s.complete c st data

/-- The fetch of a command that no poll has fetched yet: its descriptor is consumed, with the doorbell index that covers it, and the
session it presents is idle no longer (R369, R381, R438). -/
def State.fetch (s : State) (c : Ctx) : State :=
  let e := s.engIdx c.ring
  let s := if s.hostIdx c.ring = e then { s with hif := { s.hif with hostIdx := aput s.hif.hostIdx c.ring ((e + 1) % 2 ^ 32) } } else s
  (s.advance c.ring).touch c

/-- The checks of a command at its fetch that the descriptor passes on to its chapter, in order: its role, what RECOVERY accepts, the
refusals of a standby (R342, R382, R458); the completion that a failure makes, if one fails. -/
def State.fetchFails (s : State) (c : Ctx) (o : OpInfo) : Option State :=
  if ¬ hasRight (s.roleOf c) o.role then some (s.refuseRight c o)
  else if s.get Reg.PWR_STATUS_PHASE = 8 ∧ ¬ o.boot then some (s.complete c Status.notPermitted 0)
  else if o.carried ∧ s.follower then some (s.complete c Status.notPermitted 0)
  else none

/-- A command's completion when its effect ends at once: carried to the standby where it is carried, and counted unless it is withheld. -/
def State.finishCmd (s : State) (c : Ctx) (o : OpInfo) (role st data : Nat) (body : List Int) : State :=
  let s := if (o.carried ∨ o.sent) ∧ st = 0 then s.finishCarried c o role st data body else s.complete c st data
  if (findFlight s.hif.inflight c.ring c.tag).isSome then s else s.countCmd o.op o.hid role

/-- What a command does once it starts: its effect, and its completion unless it runs on. -/
def State.startCmd (s : State) (c : Ctx) (o : OpInfo) (body : List Int) (eff : Nat → State → Res) : State :=
  let r := eff (s.roleOf c) s
  match r.st with
  | none => r.s
  | some st => r.s.finishCmd c o (s.roleOf c) st r.data body

/-- A ring command: it does nothing unless it can start. One already fetched has passed its checks and starts; any other is fetched
now, and starts when it passes them (R381, R382). -/
def State.runCmd (s : State) (c : Ctx) (o : OpInfo) (body : List Int) (eff : Nat → State → Res) : State :=
  if ¬ s.live c o then s
  else if (findFlight s.hif.inflight c.ring c.tag).isSome then s.startCmd c o body eff
  else
    let s := s.fetch c
    match s.fetchFails c o with
    | some t => t
    | none => s.startCmd c o body eff

/-- A running command put in flight, with what it waits on (R383). -/
def State.hold (s : State) (c : Ctx) (o : OpInfo) (role : Nat) (arg : List Nat) : State :=
  { s with hif := { s.hif with inflight := dropFlight s.hif.inflight c.ring c.tag ++ [⟨c, o.op, role, true, arg, none⟩] } }

/-- The running command of an opcode that waits on a given argument. -/
def findRunning (fs : List InFlight) (op : Nat) (arg : List Nat) : Option InFlight :=
  fs.find? fun e => e.op = op ∧ e.started ∧ e.arg = arg ∧ e.withheld = none

/-- The running command of an opcode and argument completed, if one runs. -/
def State.completeRunning (s : State) (op : Nat) (arg : List Nat) (status data : Nat) (byAbort : Bool := false) : State :=
  match findRunning s.hif.inflight op arg with
  | some e => s.complete e.ctx status data byAbort
  | none => s

/-! ## Ports -/

/-- A port's hidden state. -/
def State.port (s : State) (p : Nat) : PortRec := (aget s.ports p).getD {}

/-- A port's record set. -/
def State.setPort (s : State) (p : Nat) (r : PortRec) : State := { s with ports := aput s.ports p r }

/-! ## Units -/

/-- The record of a unit; a unit not listed is ABSENT. -/
def State.unit (s : State) (hid : Nat) : UnitRec := (aget s.units hid).getD ⟨.absent, 0, 0, none, 0⟩

/-- Whether a unit is ENABLED. -/
def State.unitOn (s : State) (hid : Nat) : Bool := (s.unit hid).st = .enabled

/-- Whether a unit is FENCED. -/
def State.unitFenced (s : State) (hid : Nat) : Bool := (s.unit hid).st = .fenced

/-- The status that refuses new work to a unit that is not ENABLED (R40): FENCED while it is fenced or being reset, else NOT_FIT
(DEDUCED, log entry 188). -/
def State.unitBars (s : State) (hid : Nat) : Option Nat :=
  match (s.unit hid).st with
  | .enabled => none
  | .fenced => some Status.fenced
  | .resetting => some Status.fenced
  | .absent => some Status.notFit
  | .disabled => some Status.notFit

/-- Whether a die is at fault: 0 Track, 1 Field (R46). -/
def State.dieBad (s : State) (d : Nat) : Bool := s.var (.dieFault d) ≠ 0

/-- Whether a package fault stands: a die at fault, until a package reset (R46). -/
def State.packageBad (s : State) : Bool := s.dieBad 0 || s.dieBad 1

/-- The start-up phase of R457. -/
def State.phase (s : State) : Nat := s.get Reg.PWR_STATUS_PHASE

/-- Whether start-up stands in a phase and goes on: with a die at fault the engine waits for a package reset (R46, R457). -/
def State.starting (s : State) (p : Nat) : Bool := decide (s.phase = p) && ! s.packageBad

/-- Whether the Time Core is loaded and laps are evaluated: TRACK_UP to DONE (R457). -/
def State.lapsRun (s : State) : Bool := 4 ≤ s.phase ∧ s.phase ≤ 7

/-! ## Free values (log entry 2) -/

/-- A value the spec leaves open, and the counter that makes the next one another. -/
def State.takeFree (s : State) : Nat × State := (Config.freeValue s.free, { s with free := s.free + 1 })

/-- A signed value the spec leaves open. -/
def State.takeFreeInt (s : State) : Int × State :=
  let v := s.takeFree.1
  (if v % 2 = 0 then ((v / 2 : Nat) : Int) else -((v / 2 : Nat) : Int) - 1, s.takeFree.2)

end Sys2Proof.Machine
end

