-- ==== Sys2Proof/Machine/Operands.lean ====
section
/-! DEFINITION. Register words as operands: finding the word an address names, its fields' values as one word,
the ranges of a written value, staged pairs, the unit that holds a register, and the one operation by which a
command sets a register word. -/

namespace Sys2Proof.Machine

/-- Every register word of the window (R467). -/
def regTable : List RegT :=
  regTableGlb ++ regTablePwr ++ regTableHif ++ regTableFab ++ regTablePmc ++ regTableLog ++ regTablePfs ++ regTableTco
    ++ regTableSel ++ regTableTim ++ regTableSyn ++ regTableOut ++ regTableHob ++ regTableGnb ++ regTableTwn
    ++ regTableMac ++ regTablePtp ++ regTableNtp ++ regTableKey ++ regTableClt ++ regTableMem

/-- The indices of the instance of a word array that stands at an address, if one does. -/
def RegT.index (r : RegT) (a : Nat) : Option (Nat × Nat) :=
  if a < r.base then none else
  let n := (a - r.base) / r.stride1
  let o := (a - r.base) % r.stride1
  if n < r.count1 ∧ o / r.stride2 < r.count2 ∧ o % r.stride2 = 0 then some (n, o / r.stride2) else none

/-- A register word found by its address: its fields, what its LO read latches, whether it is served from a latch
and whether its write is staged. -/
structure Word where
  fields  : List Fld
  latch   : List Nat
  latched : Bool
  staged  : Bool

/-- The first word of a table at an address. -/
def wordIn : List RegT → Nat → Option Word
  | [], _ => none
  | r :: rs, a =>
    match r.index a with
    | some (n, m) => some ⟨r.fields n m, r.latch, r.latched, r.staged⟩
    | none => wordIn rs a

/-- The tables of the block an address lies in (R467). -/
def blockTable (a : Nat) : List RegT :=
  if a < 0x10000 then regTableGlb
  else if a < 0x20000 then regTablePwr
  else if a < 0x30000 then regTableHif
  else if a < 0x50000 then regTableFab
  else if a < 0x60000 then regTablePmc
  else if a < 0x70000 then regTableLog
  else if a < 0x80000 then regTablePfs
  else if a < 0x110000 then regTableTco
  else if a < 0x120000 then regTableSel
  else if a < 0x130000 then regTableTim
  else if a < 0x140000 then regTableSyn
  else if a < 0x150000 then regTableOut
  else if a < 0x160000 then regTableHob
  else if a < 0x200000 then regTableGnb
  else if a < 0x300000 then regTableTwn
  else if a < 0x340000 then regTableMac
  else if a < 0x360000 then regTablePtp ++ regTableNtp
  else if a < 0x380000 then regTableKey
  else if a < 0x3C0000 then regTableClt
  else regTableMem

/-- The register word at a window offset, if one stands there. -/
def wordAt (a : Nat) : Option Word := wordIn (blockTable a) a

/-- The stored value of a word: its fields at their places. -/
def State.rawWord (s : State) : List Fld → Nat
  | [] => 0
  | f :: fs => s.get f * 2 ^ f.lo + s.rawWord fs

/-- The part of a written word that falls to a field. -/
def Fld.part (f : Fld) (v : Nat) : Nat := v / 2 ^ f.lo % 2 ^ f.width

/-- The value of a raw field content, signed where the field is. -/
def Fld.value (f : Fld) (raw : Nat) : Int := if f.sgn then ofBits f.width raw else raw

/-- Whether a raw content lies in the field's stated range. -/
def Fld.inRange (f : Fld) (raw : Nat) : Bool :=
  match f.range with
  | some (lo, hi) => lo ≤ f.value raw ∧ f.value raw ≤ hi
  | none => true

/-- A raw content, or the nearer end of the field's range when it lies outside. -/
def Fld.nearer (f : Fld) (raw : Nat) : Nat :=
  match f.range with
  | some (lo, hi) => toBits f.width (clampI lo hi (f.value raw))
  | none => raw

/-- Whether software writes a field. -/
def Fld.writable (f : Fld) : Bool := f.acc = .rw

/-- Whether a write acts on a field: RW fields and sticky bits (R13, R18). -/
def Fld.settable (f : Fld) : Bool := f.acc = .rw ∨ f.acc = .w1c

/-- A field written: a RW field takes its part held to its range, a sticky one loses the bits written 1 (R13, R18). -/
def State.putPart (s : State) (f : Fld) (v : Nat) : State :=
  if f.acc = .rw then s.put f (f.nearer (f.part v))
  else if f.acc = .w1c then s.put f (s.get f &&& ((2 ^ f.width - 1) ^^^ f.part v))
  else s

/-- The fields software writes set from a word; those an `ok` leaves out stay. -/
def State.putWord (s : State) (ok : Fld → Bool) (v : Nat) : List Fld → State
  | [] => s
  | f :: fs => (if ok f then s.putPart f v else s).putWord ok v fs

/-- The code of an initiator class (R394). -/
def Ini.code : Ini → Nat
  | .host => 0 | .coach => 1 | .dump => 2

/-- The key of a latch or a staged word: class and address. -/
def latchKey (cls a : Nat) : Nat := cls * 2 ^ 32 + a

/-- The unit that holds a register, by its window offset (R37, R421). For words that no unit of R37 plainly holds the model names one (DESIGN
CHOICE, log entry 146): the TIM's common words and its result memory 0x0500, REFIN_DELAY_n LANE_n, the SYN and OUT common words 0x1000 and
0x1100, FAB 0xB200, the PTP and NTP words 0x90FF. -/
def hidOfAddr (a : Nat) : Nat :=
  if a < 0x10000 then 0xA300
  else if a < 0x20000 then 0x7FFE
  else if a < 0x40000 then 0xB000
  else if a < 0x50000 then 0xB200
  else if a < 0x50400 then 0xB400
  else if a < 0x60000 then
    let r := (a - 0x50400) / 0x400
    r / 4 * 0x8000 + r % 4 * 0x1000 + 0xF00
  else if a < 0x70000 then 0xB300
  else if a < 0x80000 then 0x0800
  else if a < 0x110000 then (if 0x100800 ≤ a then 0x8100 else 0x0000)
  else if a < 0x110100 then 0x0200
  else if a < 0x120000 then 0x0100 + (a - 0x110100) / 0x80
  else if 0x121000 ≤ a ∧ a < 0x130000 then 0x0500
  else if a < 0x120100 then (if 0x120040 ≤ a then 0x0100 + (a - 0x120040) / 4 else 0x0500)
  else if a < 0x120E00 then
    let k := (a - 0x120100) / 0x80
    if k < 16 then 0x0300 + k else 0x0400 + (k - 16)
  else if a < 0x130000 then
    let k := (a - 0x120E00) / 0x10
    if k < 16 then 0x0300 + k else 0x0400 + (k - 16)
  else if a < 0x130100 then 0x1000
  else if a < 0x140000 then 0x1000 + (a - 0x130100) / 0x100
  else if a < 0x140100 then 0x1100
  else if a < 0x140400 then 0x1100 + (a - 0x140100) / 0x20
  else if a < 0x140800 then 0x1200 + (a - 0x140400) / 0x40
  else if a < 0x150000 then 0x1300 + (a - 0x140800) / 0x20
  else if a < 0x160000 then 0x0500
  else if a < 0x180100 then 0x2E00
  else if a < 0x181000 then 0x2D00
  else if a < 0x183000 then
    let n := (a - 0x181000) / 0x20
    0x2000 + n / 16 * 0x100 + n % 16
  else if a < 0x200000 then 0x2C00 + (a - 0x183000) / 0x10
  else if a < 0x300000 then (if 0x200200 ≤ a then 0x3000 + (a - 0x200200) / 0x10 else 0x3100)
  else if a < 0x340000 then 0x8000 + (a - 0x300000) / 0x4000
  else if a < 0x360000 then 0x90FF
  else if a < 0x380000 then (if 0x360040 ≤ a ∧ a < 0x360060 then 0xA200 else 0xA300)
  else if a < 0x3C0000 then 0x9200
  else 0xB100

/-- The period of a pulse output's mode in units of 2^-52 ns, over the denominator it gives (R189). -/
def modePeriod (mode pnum pden : Nat) : Nat × Nat :=
  let s := fun n d => (n * 1000000000 * 2 ^ 52, d)
  match mode with
  | 0 => s 1 1
  | 1 => s 2 1
  | 2 => s 1001 24000
  | 3 => s 1 24
  | 4 => s 1 25
  | 5 => s 1001 30000
  | 6 => s 1 30
  | 7 => s 1 50
  | 8 => s 1001 60000
  | _ => s pnum pden

/-- The period of pulse output n. -/
def State.pulsePer (s : State) (n : Nat) : Nat × Nat :=
  modePeriod (s.get (Reg.PULSE_CFG_MODE n)) (s.get (Reg.PULSE_PNUM_PNUM n)) (s.get (Reg.PULSE_PDEN_PDEN n))

/-- The longest WIDTH a pulse output's period leaves, in ns (R189). -/
def State.widthMax (s : State) (n : Nat) : Nat := (s.pulsePer n).1 / (max 1 (s.pulsePer n).2 * nsUnit) - 8

/-- The longest primary code period of the enabled signals, in ms (R210). -/
def State.codeMsMax (s : State) : Nat :=
  if s.fbit Reg.GNB_SIG_EN_EN 4 then 10 else if s.fbit Reg.GNB_SIG_EN_EN 2 then 4 else 1

/-- The code that QL_MIN may hold nearest to a code written, the lower of two as near (R324; log entry 52). -/
def qlMinNear (q : Nat) : Nat := if q ≤ 1 then 0 else if q ≤ 3 then 2 else if q ≤ 6 then 4 else if q ≤ 9 then 8 else 0xB

/-- Address bits of an address type. -/
def addrWidth (kind : Nat) : Nat := if kind = 0 then 32 else if kind = 1 then 128 else 48

/-- A word brought to what the field maps let it hold beyond plain ranges, after a write at an address: the
SLEW_LIMIT pair (R60), the nominal correction (R58), a pulse offset within 1 s and a pulse's WIDTH (R189, R203), N of SYN_C and SYN_D (R182),
QL_MIN (R324), REF_CONST (R230), ACQ_NC with T_c × ACQ_NC at most 1,000 ms (R212), AUTH and DUR_MAX (R259), the alignment of DB_BASE and ST_BASE (R388), CNT_WIN (R426), PREFIX_LEN and rule 255 (R303). -/
def State.normalize (s : State) (a : Nat) : State :=
  if a = 0x100050 then
    s.put64 Reg.SLEW_LIMIT_LO_SL_LO Reg.SLEW_LIMIT_HI_SL_HI
      (min 28147497671 (max 28147 (s.get64 Reg.SLEW_LIMIT_LO_SL_LO Reg.SLEW_LIMIT_HI_SL_HI)))
  else if a = 0x150034 then
    s.putI64 Reg.HOB_NOM_LO_NOM_LO Reg.HOB_NOM_HI_NOM_HI
      (clampI (-56294995342) 56294995342 (s.getI64 Reg.HOB_NOM_LO_NOM_LO Reg.HOB_NOM_HI_NOM_HI))
  else if 0x140400 ≤ a ∧ a < 0x140600 ∧ (a - 0x140400) % 0x40 = 0x10 then
    let n := (a - 0x140400) / 0x40
    s.putI64 (Reg.PULSE_OFFSET_LO_OFS_LO n) (Reg.PULSE_OFFSET_HI_OFS_HI n)
      (clampI (-65536000000000) 65536000000000 (s.getI64 (Reg.PULSE_OFFSET_LO_OFS_LO n) (Reg.PULSE_OFFSET_HI_OFS_HI n)))
  else if 0x140400 ≤ a ∧ a < 0x140600 ∧ (a - 0x140400) % 0x40 = 0x04 then
    let n := (a - 0x140400) / 0x40
    s.put (Reg.PULSE_WIDTH_WIDTH n) (max 8 (min (s.widthMax n) (s.get (Reg.PULSE_WIDTH_WIDTH n))))
  else if a = 0x130300 ∨ a = 0x130400 then s.put (Reg.SYN_CFG_N ((a - 0x130100) / 0x100)) 40
  else if a = 0x18000C then
    if s.get Reg.GNB_CTRL_REF_CONST = 3 then s.put Reg.GNB_CTRL_REF_CONST 0 else s
  else if a = 0x18001C then
    s.put Reg.GNB_ACQ_ACQ_NC (min (1000 / max (s.get Reg.GNB_ACQ_ACQ_TCOH) s.codeMsMax) (s.get Reg.GNB_ACQ_ACQ_NC))
  else if 0x110100 ≤ a ∧ a < 0x110900 ∧ (a - 0x110100) % 0x80 = 0 then
    let n := (a - 0x110100) / 0x80
    s.put (Reg.LANE_CFG_QL_MIN n) (qlMinNear (s.get (Reg.LANE_CFG_QL_MIN n)))
  else if 0x340100 ≤ a ∧ a < 0x340500 ∧ (a - 0x340100) % 0x100 = 0 then
    let k := (a - 0x340100) / 0x100
    if s.get (Reg.PTP_INST_CFG_AUTH k) = 3 then s.put (Reg.PTP_INST_CFG_AUTH k) 2 else s
  else if 0x340100 ≤ a ∧ a < 0x340500 ∧ (a - 0x340100) % 0x100 = 0x0C then
    let k := (a - 0x340100) / 0x100
    s.put (Reg.PTP_GRANT_DUR_DUR_MAX k) (max (s.get (Reg.PTP_GRANT_DUR_DUR_MIN k)) (s.get (Reg.PTP_GRANT_DUR_DUR_MAX k)))
  else if a = 0x20010 then s.put Reg.DB_BASE_LO_ADDR_LO (s.get Reg.DB_BASE_LO_ADDR_LO / 256 * 256)
  else if a = 0x20018 then s.put Reg.ST_BASE_LO_ADDR_LO (s.get Reg.ST_BASE_LO_ADDR_LO / 512 * 512)
  else if 0x50440 ≤ a ∧ a < 0x60000 ∧ (a - 0x50440) % 0x40 = 0x10 then
    let r := (a - 0x50440) / 0x400
    let k := (a - 0x50440) % 0x400 / 0x40
    let v := s.get (Reg.CNT_WIN_SIZE_LOG2 r k)
    if v = 0 then s else s.put (Reg.CNT_WIN_SIZE_LOG2 r k) (min 48 (max 6 v))
  else if 0x381000 ≤ a ∧ a < 0x383000 ∧ (a - 0x381000) % 0x20 = 0x10 then
    let r := (a - 0x381000) / 0x20
    let s := s.put (Reg.RULE_CFG_PREFIX_LEN r) (min (addrWidth (s.get (Reg.RULE_CFG_FAMILY r))) (s.get (Reg.RULE_CFG_PREFIX_LEN r)))
    if r = 255 then s.put (Reg.RULE_CFG_VALID 255) 1 else s
  else s

/-- Whether a write at an address meets a state that takes it: RING_BASE and RING_CFG only while the ring is
DISABLED (R371), DB_BASE and ST_BASE only while every ring is (R365). -/
def State.takesWrite (s : State) (a : Nat) : Bool :=
  if 0x20100 ≤ a ∧ a < 0x20900 ∧ (a - 0x20100) % 0x20 < 0x0C then
    s.get (Reg.RING_STATUS_STATE ((a - 0x20100) / 0x20)) = 0
  else if a = 0x20010 ∨ a = 0x20018 then
    (List.range 64).all fun n => s.get (Reg.RING_STATUS_STATE n) = 0
  else true

/-- A staged HI word of a class, if one waits. -/
def State.stagedHi (s : State) (cls a : Nat) : Option Nat := aget s.hif.staged (latchKey cls a)

/-- A word written by a class of initiator: a HI word of a writable pair is staged; a LO word of such a pair
applies itself and the staged HI, and every class's staged HI becomes the new HI; any other word is set (R471). -/
def State.writeWord (s : State) (cls a : Nat) (w : Word) (ok : Fld → Bool) (v : Nat) : State :=
  if ¬ s.takesWrite a then s
  else if w.staged then { s with hif := { s.hif with staged := aput s.hif.staged (latchKey cls a) v } }
  else
    match wordAt (a + 4) with
    | some hi =>
      if w.latch ≠ [] ∧ hi.staged then
        let hv := (s.stagedHi cls (a + 4)).getD (s.rawWord hi.fields)
        let s := (s.putWord ok v w.fields).putWord ok hv hi.fields
        let s := s.normalize a
        let n := s.rawWord hi.fields
        let st := aput (aput (aput s.hif.staged (latchKey 0 (a + 4)) n) (latchKey 1 (a + 4)) n) (latchKey 2 (a + 4)) n
        { s with hif := { s.hif with staged := st } }
      else (s.putWord ok v w.fields).normalize a
    | none => (s.putWord ok v w.fields).normalize a

/-- Whether every field software writes of a word takes a value without being moved to an end of its range. -/
def Word.accepts (w : Word) (v : Nat) : Bool := w.fields.all fun f => ¬ f.writable ∨ f.inRange (f.part v)

/-- A register word set by a command: RANGE where no register of the block's span stands at the offset or a value
lies outside its range, NOT_PERMITTED where no field of the word can be written; otherwise the word is written for
the host's class, a change record is logged (R440), and the command completes with OK. -/
def State.setWord (s : State) (role op lo hi a v : Nat) : Res :=
  if ¬ (lo ≤ a ∧ a < hi) then ⟨s, some Status.range, 0⟩ else
  match wordAt a with
  | none => ⟨s, some Status.range, 0⟩
  | some w =>
    if w.fields.all fun f => ¬ f.settable then ⟨s, some Status.notPermitted, 0⟩
    else if ¬ w.accepts v then ⟨s, some Status.range, 0⟩
    else
      let old := s.rawWord w.fields
      let s := s.writeWord 0 a w (fun _ => true) v
      ⟨s.change role (hidOfAddr a) op a old (s.rawWord w.fields), some Status.ok, 0⟩

/-! ## Bytes as they are sent -/

/-- A number as big-endian bytes. -/
def beBytes (k n : Nat) : List Byte := (leBytes k n).reverse

/-- One byte shifted into CRC-16 CCITT: eight bits, most significant first. -/
def crc16Bits : Nat → Nat → Nat
  | 0, c => c
  | k + 1, c => crc16Bits k (if 32768 ≤ c then (2 * c % 65536) ^^^ 0x1021 else 2 * c)

/-- CRC-16 CCITT over bytes, from a value (R199). -/
def crc16 : List Byte → Nat → Nat
  | [], c => c
  | b :: bs, c => crc16 bs (crc16Bits 8 (c ^^^ (b.toNat * 256)))

end Sys2Proof.Machine
end

