-- ==== Sys2Proof/Machine/Flags.lean ====
section
/-! DEFINITION. The events of the spec's tables and the sticky and enable bits they go with: each block's rule for
which bit an event sets and which bit lets it be raised. -/

namespace Sys2Proof.Machine

/-- Time Core events 0x0010 to 0x0018 (R78): enable bit n, sticky bits as R78 pairs them, raised at each occurrence. -/
def evTco (code : Nat) (sev : Sev) (sticky : Option Fld) : Ev :=
  { code, hid := 0x0000, sev, sticky := sticky.map fun f => (f, 0), en := some (Reg.TCO_EVT_EN_EN, code - 0x0010),
    edge := false }
def evStepDone : Ev := evTco 0x0010 .warning (some Reg.TCO_STICKY_STEP_DONE)
def evRateClamped : Ev := evTco 0x0011 .warning (some Reg.TCO_STICKY_RATE_CLAMP_HIT)
def evSlewClamped : Ev := evTco 0x0012 .info (some Reg.TCO_STICKY_SLEW_CLAMP_HIT)
def evLeapAnnounced : Ev := evTco 0x0013 .info none
def evLeapCommitted : Ev := evTco 0x0014 .info none
def evLeapApplied : Ev := evTco 0x0015 .info none
def evLeapConflict : Ev := evTco 0x0016 .warning (some Reg.TCO_STICKY_LEAP_CONFLICT)
def evCmpFired : Ev := evTco 0x0017 .info none
def evSlewRange : Ev := evTco 0x0018 .error (some Reg.TCO_STICKY_SLEW_RANGE)

/-- Time bus events 0x0410 to 0x0412 (R78): enable bits 9 to 11. -/
def evTb (n : Nat) (sev : Sev) : Ev :=
  { code := 0x0410 + n, hid := 0x8100, sev, en := some (Reg.TCO_EVT_EN_EN, 9 + n), edge := false }

/-- Host interface events (R387): 0x0711 + n sets sticky bit n; 0x0710 and 0x0716 have enables 5 and 6. -/
def evHif (n : Nat) (sev : Sev) : Ev :=
  { code := 0x0711 + n, hid := 0xB000, sev, sticky := some (Reg.HIF_STICKY_STICKY, n), en := some (Reg.HIF_EVT_EN_EN, n) }
def evRingState : Ev := { code := 0x0710, hid := 0xB000, sev := .info, en := some (Reg.HIF_EVT_EN_EN, 5) }
def evConfigLocked : Ev := { code := 0x0716, hid := 0xB000, sev := .info, en := some (Reg.HIF_EVT_EN_EN, 6) }

/-- Photo-finish events 0x0050 and 0x0051 (R425). -/
def evPf (n : Nat) (sev : Sev) : Ev :=
  { code := 0x0050 + n, hid := 0x0800, sev, sticky := some (Reg.PF_STICKY_STICKY, n), en := some (Reg.PF_EVT_EN_EN, n) }

/-- LOG_PREV_KEPT (R421). -/
def evLogPrev : Ev := { code := 0x0732, hid := 0xB300, sev := .info, en := some (Reg.LOG_EVT_EN_EN, 0) }

/-- Session events (R445): 0x0632 + n sets sticky bit n; 0x0630 and 0x0631 have enables 4 and 5. -/
def evRole (n : Nat) (sev : Sev) : Ev :=
  { code := 0x0632 + n, hid := 0xA300, sev, sticky := some (Reg.ROLE_STICKY_STICKY, n), en := some (Reg.ROLE_EVT_EN_EN, n) }
def evSessionOpened : Ev := { code := 0x0630, hid := 0xA300, sev := .info, en := some (Reg.ROLE_EVT_EN_EN, 4) }
def evSessionClosed : Ev := { code := 0x0631, hid := 0xA300, sev := .info, en := some (Reg.ROLE_EVT_EN_EN, 5) }

/-- Random-source events (R445). -/
def evTrng (n : Nat) (sev : Sev) : Ev :=
  { code := 0x0620 + n, hid := 0xA200, sev, sticky := some (Reg.TRNG_STICKY_STICKY, n), en := some (Reg.TRNG_EVT_EN_EN, n) }
def evDrbgResumed : Ev := { code := 0x0622, hid := 0xA200, sev := .info, en := some (Reg.TRNG_EVT_EN_EN, 2) }

/-- Start-up events (R465): 0x0A11 + n sets sticky bit n; 0x0A10 and 0x0A19 have enables 8 and 9. -/
def evPwr (n : Nat) (sev : Sev) : Ev :=
  { code := 0x0A11 + n, hid := 0x7FFE, sev, sticky := some (Reg.PWR_STICKY_STICKY, n), en := some (Reg.PWR_EVT_EN_EN, n) }
def evStartPhase : Ev := { code := 0x0A10, hid := 0x7FFE, sev := .info, en := some (Reg.PWR_EVT_EN_EN, 8) }
def evFieldRestored : Ev := { code := 0x0A19, hid := 0x7FFE, sev := .info, en := some (Reg.PWR_EVT_EN_EN, 9) }

/-- Twin events (R357): 0x0B11 + n sets sticky bit n; 0x0B10, 0x0B19, 0x0B1A have enables 8 to 10. -/
def evTwn (n : Nat) (sev : Sev) : Ev :=
  { code := 0x0B11 + n, hid := 0xFFFE, sev, sticky := some (Reg.TWN_STICKY_STICKY, n), en := some (Reg.TWN_EVT_EN_EN, n) }
def evRoleChange : Ev := { code := 0x0B10, hid := 0xFFFE, sev := .warning, en := some (Reg.TWN_EVT_EN_EN, 8) }
def evResyncDone : Ev := { code := 0x0B19, hid := 0xFFFE, sev := .info, en := some (Reg.TWN_EVT_EN_EN, 9) }
def evHandoverDone : Ev := { code := 0x0B1A, hid := 0xFFFE, sev := .info, en := some (Reg.TWN_EVT_EN_EN, 10) }

/-- Relay events (R357): 0x0311 + n sets RL_STICKY bit n; 0x0310 has RL_STATE_EN. -/
def evRl (n : Nat) (sev : Sev) (hid : Nat) : Ev :=
  { code := 0x0311 + n, hid, sev, sticky := some (Reg.TWN_RL_STICKY_STICKY, n), en := some (Reg.TWN_RL_STICKY_RL_EN, n) }
def evRlState (hid : Nat) : Ev :=
  { code := 0x0310, hid, sev := .info, en := some (Reg.TWN_RL_STICKY_RL_STATE_EN, 0) }

/-- Fabric events 0x0720 + n (R405): every occurrence sets FAB_STICKY bit n; it is raised while enabled, at most
once a second for each code. -/
def State.raiseFab (s : State) (n : Nat) (sev : Sev) (hid : Nat) (items : List Item) : State :=
  let s := s.putBit Reg.FAB_STICKY_STICKY n true
  let last := s.var (.fabRaised n)
  if s.fbit Reg.FAB_EVT_EN_EN n ∧ (last = 0 ∨ last + secNs ≤ s.runNs + 1) then
    (s.setVar (.fabRaised n) (s.runNs + 1)).emit (s.entry (0x0720 + n) hid sev 0 false s.side items)
  else s

/-- Sticky bit k of LANE_n (R113). -/
def laneSticky (n k : Nat) : Fld :=
  match k with
  | 0 => Reg.LANE_STICKY_LOS n
  | 1 => Reg.LANE_STICKY_FREQ_WARN n
  | 2 => Reg.LANE_STICKY_FREQ_LIMIT n
  | 3 => Reg.LANE_STICKY_DRIFT n
  | 4 => Reg.LANE_STICKY_DRIFT_LIMIT n
  | 5 => Reg.LANE_STICKY_PHASE_WARN n
  | 6 => Reg.LANE_STICKY_PHASE_LIMIT n
  | 7 => Reg.LANE_STICKY_PHASE_JUMP n
  | 8 => Reg.LANE_STICKY_DISAGREE n
  | _ => Reg.LANE_STICKY_QUAL_FAIL n

/-- Severity of the event of a lane's sticky bit (R113). -/
def laneSev (k : Nat) : Sev :=
  if k = 9 then .info else if k = 2 ∨ k = 4 ∨ k = 6 ∨ k = 7 then .error else .warning

/-- Lane events (R113): 0x0022 + k sets sticky bit k of the lane; 0x0020 has bit 10 of LANE_EVT_EN. -/
def evLane (n k : Nat) : Ev :=
  { code := 0x0022 + k, hid := 0x0100 + n, sev := laneSev k, sticky := some (laneSticky n k, 0), en := some (Reg.LANE_EVT_EN_EN n, k) }
@[inherit_doc evLane] def evLaneState (n : Nat) : Ev :=
  { code := 0x0020, hid := 0x0100 + n, sev := .info, en := some (Reg.LANE_EVT_EN_EN n, 10) }

/-- Selector events (R113): 0x0021 and 0x002C to 0x002F with bits 0 to 4 of SEL_EVT_EN. 0x002C, 0x002D and 0x002F concern a
lane and carry its HID (log entry 28). -/
def evSwitch : Ev := { code := 0x0021, hid := 0x0200, sev := .warning, en := some (Reg.SEL_EVT_EN_EN, 0) }
def evForceDropped (n : Nat) : Ev := { code := 0x002C, hid := 0x0100 + n, sev := .warning, en := some (Reg.SEL_EVT_EN_EN, 1) }
def evRetired (hid : Nat) : Ev := { code := 0x002D, hid, sev := .info, en := some (Reg.SEL_EVT_EN_EN, 2) }
def evNoSelection : Ev := { code := 0x002E, hid := 0x0200, sev := .critical, en := some (Reg.SEL_EVT_EN_EN, 3) }
def evXchk (n : Nat) : Ev := { code := 0x002F, hid := 0x0100 + n, sev := .error, en := some (Reg.SEL_EVT_EN_EN, 4) }

/-- Sticky bit k of HOB_STICKY (R138). -/
def hobSticky (k : Nat) : Fld :=
  match k with
  | 0 => Reg.HOB_STICKY_HOLDOVER_ENTERED
  | 1 => Reg.HOB_STICKY_HOLDOVER_EXCEEDED
  | 2 => Reg.HOB_STICKY_FREERUN_ENTERED
  | 3 => Reg.HOB_STICKY_TEB_SAT
  | 4 => Reg.HOB_STICKY_MODEL_RESET
  | 5 => Reg.HOB_STICKY_HOLD_SRC_LOST
  | _ => Reg.HOB_STICKY_MODEL_VALID

/-- Discipline events (R138): 0x0031 + k sets sticky bit k; 0x0030 has bit 7. -/
def evHob (k : Nat) (sev : Sev) : Ev :=
  { code := 0x0031 + k, hid := 0x0500, sev, sticky := some (hobSticky k, 0), en := some (Reg.HOB_EVT_EN_EN, k) }
def evDiscState : Ev := { code := 0x0030, hid := 0x0500, sev := .info, en := some (Reg.HOB_EVT_EN_EN, 7) }

/-- TIM events (R160): 0x0043 + k sets sticky bit k at each occurrence; 0x0040 to 0x0042 have bits 9 to 11. -/
def evTim (k : Nat) (sev : Sev) (hid : Nat) : Ev :=
  { code := 0x0043 + k, hid, sev, sticky := some (Reg.TIM_STICKY_STICKY, k), en := some (Reg.TIM_EVT_EN_EN, k), edge := false }
def evHeat (k : Nat) (sev : Sev) (hid : Nat) : Ev :=
  { code := 0x0040 + k, hid, sev, en := some (Reg.TIM_EVT_EN_EN, 9 + k) }

/-- Synthesis group events (R183): 0x0111 + n sets sticky bit n; 0x0110, 0x0116 and 0x0117 have bits 5 to 7. -/
def evSyn (g n : Nat) (sev : Sev) : Ev :=
  { code := 0x0111 + n, hid := 0x1000 + g, sev, sticky := some (Reg.SYN_STICKY_STICKY g, n), en := some (Reg.SYN_EVT_EN_EN g, n) }
def evSynState (g : Nat) : Ev := { code := 0x0110, hid := 0x1000 + g, sev := .info, en := some (Reg.SYN_EVT_EN_EN g, 5) }
def evRelocked (g : Nat) : Ev := { code := 0x0116, hid := 0x1000 + g, sev := .info, en := some (Reg.SYN_EVT_EN_EN g, 6) }
def evFreqStepDone (g : Nat) : Ev := { code := 0x0117, hid := 0x1000 + g, sev := .info, en := some (Reg.SYN_EVT_EN_EN g, 7) }

/-- Output events 0x0120 to 0x0123 (R202), enabled by bits 0 to 3 of OUT_EVT_EN. -/
def evOut (k : Nat) (sev : Sev) (hid : Nat) : Ev :=
  { code := 0x0120 + k, hid, sev, en := some (Reg.OUT_EVT_EN_EN, k), edge := false }

/-- GNSS events (R231): 0x0211 + n sets sticky bit n; 0x0210, 0x0217 to 0x0219 have bits 6 to 9. -/
def evGnb (n : Nat) (sev : Sev) (hid : Nat) : Ev :=
  { code := 0x0211 + n, hid, sev, sticky := some (Reg.GNB_STICKY_STICKY, n), en := some (Reg.GNB_EVT_EN_EN, n) }
def evGnbInfo (code bitNo hid : Nat) : Ev := { code, hid, sev := .info, en := some (Reg.GNB_EVT_EN_EN, bitNo) }

/-- Key events (R282): 0x0612 + n sets sticky bit n; 0x0610 and 0x0611 have enables 2 and 3. -/
def evKey (n : Nat) (sev : Sev) : Ev :=
  { code := 0x0612 + n, hid := 0xA300, sev, sticky := some (Reg.KEY_STICKY_STICKY, n), en := some (Reg.KEY_EVT_EN_EN, n) }
def evKeyInfo (n : Nat) : Ev := { code := 0x0610 + n, hid := 0xA300, sev := .info, en := some (Reg.KEY_EVT_EN_EN, 2 + n) }

/-- NTP events (R282): 0x0521 + n sets sticky bit n; 0x0520 has bit 7. -/
def evNtp (n : Nat) (sev : Sev) : Ev :=
  { code := 0x0521 + n, hid := 0x9FFF, sev, sticky := some (Reg.NTP_STICKY_STICKY, n), en := some (Reg.NTP_EVT_EN_EN, n) }
def evNtpServing : Ev := { code := 0x0520, hid := 0x9FFF, sev := .info, en := some (Reg.NTP_EVT_EN_EN, 7) }

/-- An event whose bit sets at each occurrence and which is raised at most once in a gap of running time: when the gap
since the last raising has not passed, the sticky bit alone sets. What its enable keeps from being raised begins no gap. -/
def State.raiseGap (s : State) (v : Var) (gap : Nat) (e : Ev) (items : List Item) : State :=
  let last := s.var v
  if last ≠ 0 ∧ (s.runNs : Int) + 1 < last + gap then
    match e.sticky with
    | some (f, k) => s.putBit f k true
    | none => s
  else
    let was : Bool := match e.sticky with
      | some (f, k) => s.fbit f k
      | none => false
    let on : Bool := match e.en with
      | some (f, k) => s.fbit f k
      | none => true
    if e.edge ∧ was then s else (if on then s.setVar v (s.runNs + 1) else s).raise e items

/-- Client-table events (R302): 0x0531 + n sets sticky bit n; 0x0530 has bit 5. -/
def evClt (n : Nat) (sev : Sev) : Ev :=
  { code := 0x0531 + n, hid := 0x9200, sev, sticky := some (Reg.CLT_STICKY_STICKY, n), en := some (Reg.CLT_EVT_EN_EN, n) }
def evShedState : Ev := { code := 0x0530, hid := 0x9200, sev := .info, en := some (Reg.CLT_EVT_EN_EN, 5) }

/-- Port events (R329): 0x0421 + n sets sticky bit n; 0x0420 has bit 8. -/
def evPort (p n : Nat) (sev : Sev) : Ev :=
  { code := 0x0421 + n, hid := 0x8000 + p, sev, sticky := some (Reg.PORT_STICKY_STICKY p, n), en := some (Reg.PORT_EVT_EN_EN p, n) }
def evLinkState (p : Nat) : Ev := { code := 0x0420, hid := 0x8000 + p, sev := .info, en := some (Reg.PORT_EVT_EN_EN p, 8) }

/-- PTP events (R258): 0x0511 + n sets sticky bit n; 0x0510 has bit 10. -/
def evPtp (n : Nat) (sev : Sev) (hid : Nat := 0x9FFF) : Ev :=
  { code := 0x0511 + n, hid, sev, sticky := some (Reg.PTP_STICKY_STICKY, n), en := some (Reg.PTP_EVT_EN_EN, n) }
def evInstState : Ev := { code := 0x0510, hid := 0x9FFF, sev := .info, en := some (Reg.PTP_EVT_EN_EN, 10) }

-- EVENTS-END

end Sys2Proof.Machine
end

