-- ==== Sys2Proof/Machine/UnitOps.lean ====
section
/-! DEFINITION. The states of units as every chapter needs them: setting one, and the events of R38; the
pairs of the Relay Link brought up (R333). -/

namespace Sys2Proof.Machine

/-- A region-level event of R38: low byte, HID named, severity. -/
def evUnit (low hid : Nat) (sev : Sev) : Ev := { code := regionOfHid hid * 256 + low, hid, sev, edge := false }

/-- A unit's record set. -/
def State.setUnit (s : State) (hid : Nat) (u : UnitRec) : State := { s with units := aput s.units hid u }

/-- A unit put into a state. -/
def State.unitTo (s : State) (hid : Nat) (st : UnitSt) : State := s.setUnit hid { s.unit hid with st := st }

/-- The CONTENT of a unit kept at its fencing (R49). -/
def State.holdContent (s : State) (hid : Nat) (ws : List Nat) : State :=
  { s with pf := { s.pf with frozen := aput s.pf.frozen hid ws } }

/-- The words of a TDC lane's CONTENT (R412). -/
def State.tdcWords (s : State) (k : Nat) : List Nat :=
  let w := fun a => match wordAt a with
    | some x => s.rawWord x.fields
    | none => 0
  let t := (s.var (.tdcStamp k)).toNat
  [w (0x120100 + 0x80 * k), w (0x120110 + 0x80 * k), w (0x120104 + 0x80 * k), t / 2 ^ 16 % 2 ^ 32, t / 2 ^ 48 % 2 ^ 32, t % 2 ^ 16]

/-- The HID of a whole region, by the index die × 4 + region (R36). -/
def regionHid (r : Nat) : Nat := r / 4 * 0x8000 + r % 4 * 0x1000 + 0xFFF

/-- Whether a region is fenced: a unit of it is FENCED by a fence of the region (R46). -/
def State.regionIsFenced (s : State) (r : Nat) : Bool := s.units.any fun u => decide (u.2.st = .fenced ∧ u.2.fencedBy = regionHid r)

/-- Whether a region counts as fenced: one that the installer has disabled does not (R47). -/
def State.regionCounts (s : State) (r : Nat) : Bool := decide (s.var (.regionOff r) = 0) && s.regionIsFenced r

/-! ## The pairs of the Relay Link (R333) -/

/-- A pair's state set, with 0x0310 raised when it changes to or from UP, and LINK_UP (R332, R333). -/
def State.setPair (s : State) (n v : Nat) : State :=
  let old := s.get (Reg.RL_PAIR_STATUS_STATE n)
  let s := s.put (Reg.RL_PAIR_STATUS_STATE n) v
  let s := s.putB Reg.TWN_STATUS_LINK_UP
    (decide (s.get (Reg.RL_PAIR_STATUS_STATE 0) = 2 ∨ s.get (Reg.RL_PAIR_STATUS_STATE 1) = 2))
  if old = v then s else s.raise (evRlState (0x3000 + n)) [i1 n, i1 old, i1 v]

/-- A pair that may train: TWIN_EN, SYN_C LOCKED, both its units ENABLED (R333). -/
def State.pairReady (s : State) (n : Nat) : Bool :=
  s.get Reg.TWN_CTRL_TWIN_EN = 1 ∧ s.get (Reg.SYN_STATE_STATE 2) = 3
    ∧ s.unitOn (0x3000 + n) ∧ s.unitOn (0x3002 + n)

/-- What this twin asks of its partner in a HELLO or a baton: 1 a full bulk image in RESYNC, 2 configuration alone (R353). -/
def State.asksFor (s : State) : Nat := if s.get Reg.TWN_STATUS_ROLE = 4 ∧ s.var .imaged = 0 then 1 else if s.var .cfgWanted = 1 then 2 else 0

/-- The HELLO this twin sends on a pair (R333, R336); LOCAL_MAC is fused. -/
def State.helloOn (s : State) (n : Nat) : Hello :=
  { side := s.side, role := s.get Reg.TWN_STATUS_ROLE, twinEn := decide (s.get Reg.TWN_CTRL_TWIN_EN = 1)
    mac := Config.fused (Reg.LOCAL_MAC_HI_MAC_HI 0).key % 2 ^ 16 * 2 ^ 32 + Config.fused (Reg.LOCAL_MAC_LO_MAC_LO 0).key % 2 ^ 32
    request := s.asksFor, txDelay := s.get (Reg.RL_TX_DELAY_DELAY n) }

/-- A pair put into TRAINING: a HELLO leaves on it, and 100 ms run (R333). -/
def State.trainPair (s : State) (n : Nat) : State :=
  let s := (s.setPair n 1).arm (.training n) 100000000
  { s with out := .hello n (s.helloOn n) (s.get (Reg.RL_RX_DELAY_DELAY n)) :: s.out }

/-- A pair leaves OFF for TRAINING where it may (R333). -/
def State.startPair (s : State) (n : Nat) : State :=
  if s.get (Reg.RL_PAIR_STATUS_STATE n) = 0 ∧ s.pairReady n then s.trainPair n else s

end Sys2Proof.Machine
end

