-- ==== Sys2Proof/Machine/Keys.lean ====
section
/-! DEFINITION. The key table and the NTS master keys (R270 to R272, R278 to R282): slots and their check values, the use
of a slot, installing and erasing, the comparison with the partner's table, the entry that mints, cookies. -/

namespace Sys2Proof.Machine

/-! ## The key table (R278, R279) -/

/-- Length of a key of a usage (R278). -/
def usageLen (u : Nat) : Nat := if u = 2 then 16 else 32

/-- The key in a slot, if one is there. -/
def State.key (s : State) (slot : Nat) : Option KeySlot := aget s.keys slot

/-- The usage of a slot: 0 EMPTY (R278). -/
def State.usage (s : State) (slot : Nat) : Nat :=
  match s.key slot with
  | some k => k.usage
  | none => 0

/-- The check value of a slot, 0 when it is EMPTY (R279). -/
def State.slotKcv (s : State) (slot : Nat) : Nat :=
  match s.key slot with
  | some k => Crypto.kcv k.key
  | none => 0

/-- Whether an instant lies in [FROM, UNTIL), compared by signed difference (R66, R246, R272). -/
def inSpan (t fr til : Nat) : Bool := 0 ≤ linDiff t fr ∧ 0 < linDiff til t

/-- FROM and UNTIL of an SA and of a master-key entry. -/
def State.saFrom (s : State) (i : Nat) : Nat := s.get64 (Reg.SA_FROM_LO_FROM_LO i) (Reg.SA_FROM_HI_FROM_HI i)
@[inherit_doc State.saFrom] def State.saUntil (s : State) (i : Nat) : Nat :=
  s.get64 (Reg.SA_UNTIL_LO_UNTIL_LO i) (Reg.SA_UNTIL_HI_UNTIL_HI i)
@[inherit_doc State.saFrom] def State.mkFrom (s : State) (m : Nat) : Nat := s.get64 (Reg.MK_FROM_LO_FROM_LO m) (Reg.MK_FROM_HI_FROM_HI m)
@[inherit_doc State.saFrom] def State.mkUntil (s : State) (m : Nat) : Nat :=
  s.get64 (Reg.MK_UNTIL_LO_UNTIL_LO m) (Reg.MK_UNTIL_HI_UNTIL_HI m)

/-- Whether an SA is usable at an instant (R246). -/
def State.saUsable (s : State) (i t : Nat) : Bool := s.get (Reg.SA_CFG_VALID i) = 1 ∧ inSpan t (s.saFrom i) (s.saUntil i)

/-- Whether a master-key entry is usable at an instant (R272). -/
def State.mkUsable (s : State) (m t : Nat) : Bool := s.get (Reg.MK_CFG_VALID m) = 1 ∧ inSpan t (s.mkFrom m) (s.mkUntil m)

/-- Whether an instant lies before a FROM. -/
def State.before (s : State) (fr : Nat) : Bool := linDiff s.linear fr < 0

/-- Whether an SA or an entry keeps its slot in use: it is usable, or its FROM lies in the future (R278). -/
def State.saHolds (s : State) (i : Nat) : Bool := s.saUsable i s.linear || s.before (s.saFrom i)
@[inherit_doc State.saHolds] def State.mkHolds (s : State) (m : Nat) : Bool := s.mkUsable m s.linear || s.before (s.mkFrom m)

/-- Whether a slot is in use (R278). -/
def State.keyInUse (s : State) (slot : Nat) : Bool :=
  ((List.range 32).any fun i => s.saHolds i && decide (s.get (Reg.SA_CFG_KEY_SLOT i) = slot))
  || ((List.range 16).any fun m => s.mkHolds m && decide (s.get (Reg.MK_CFG_KEY_SLOT m) = slot))

/-- Failure event n of the key table, at most once a second (R282). -/
def State.raiseKey (s : State) (n : Nat) (items : List Item) : State := s.raiseGap (.ntpRaised (8 + n)) secNs (evKey n .error) items

/-- KEY_MISMATCH of a slot: the slot noted, the sticky bit and 0x0613 (R280). -/
def State.keyMismatch (s : State) (slot partner : Nat) : State :=
  (s.put Reg.KEY_STATUS_MISMATCH_SLOT slot).raiseKey 1 [i2 slot, i4 (s.slotKcv slot), i4 partner]

/-- A slot compared with the partner's, which is EMPTY until its journal or image says otherwise (R280; log entry 70). -/
def State.compareKey (s : State) (slot : Nat) : State :=
  let k := (aget s.partnerKcv slot).getD 0
  if s.get Reg.TWN_CTRL_TWIN_EN = 0 ∨ k = s.slotKcv slot then s else s.keyMismatch slot k

/-- The key check values of the slots that hold a key, by slot (R280). -/
def State.kcvTable (s : State) : List (Nat × Nat) := s.keys.map fun x => (x.1, Crypto.kcv x.2.key)

/-- The partner's whole table, as its bulk image tells it: every slot that either holds is compared (R280). -/
def State.partnerTable (s : State) (t : List (Nat × Nat)) : State :=
  let s := { s with partnerKcv := t }
  ((s.keys.map (·.1)) ++ (t.map (·.1)).filter fun n => (s.key n).isNone).foldl State.compareKey s

/-- A record of the partner's table: its value is noted and compared (R280). -/
def State.partnerKey (s : State) (slot kcv : Nat) : State :=
  { s with partnerKcv := aput s.partnerKcv slot kcv }.compareKey slot

/-- A record put into the state journal of a twin that is one of a pair (R340, R354). -/
def State.sendState (s : State) (kind role result op : Nat) (body : List Int) : State :=
  if s.get Reg.TWN_CTRL_TWIN_EN = 1 then s.stateRecord kind role result op body else s

/-- A slot set or emptied: its KCV goes into the state journal and it is compared with the partner's (R280). -/
def State.setSlot (s : State) (slot : Nat) (k : Option KeySlot) : State :=
  let s := { s with keys := match k with
                      | some x => aput s.keys slot x
                      | none => adel s.keys slot }
  (s.sendState 2 0 0 0 [slot, s.slotKcv slot]).compareKey slot

def opKeyInstall : OpInfo := { op := 0x0A02, role := 2 }
def opKeyErase : OpInfo := { op := 0x0A03, role := 2 }

/-- A key-table command's effect where the key table takes new work (R40). -/
def keyWork (f : State → Res) (s : State) : Res :=
  match s.unitBars 0xA300 with
  | some st => ⟨s, some st, 0⟩
  | none => f s

/-- KEY_INSTALL's effect (R279, R281): the key read once, unwrapped under the KEK slot if one is named, and put into its slot;
`len` is the length of a wrapped key. -/
def keyInstallEff (dmaOk : Bool) (slot usage : Nat) (kek : Option Nat) (addr len role : Nat) : State → Res := keyWork fun s =>
  let n := usageLen usage
  let bad : Bool := match kek with
    | some q => decide (s.usage q ≠ 4 ∨ len ≠ n + 8)
    | none => false
  if 4096 ≤ slot ∨ usage = 0 ∨ 5 ≤ usage ∨ bad then ⟨s, some Status.range, 0⟩
  else if s.keyInUse slot then ⟨s, some Status.busy, 0⟩
  else if ¬ dmaOk then ⟨s, some Status.dmaError, 0⟩
  else
    let plain : Option (List Byte) := match kek with
      | none => some (memRead s.mem addr n)
      | some q => Crypto.keyUnwrap (match s.key q with
          | some k => k.key
          | none => []) (memRead s.mem addr (n + 8))
    match plain with
    | none => ⟨s.raiseKey 0 [i2 slot, i2 (kek.getD 0)], some Status.unwrapFail, 0⟩
    | some k =>
      let s := s.setSlot slot (some ⟨usage, kek.isSome, k⟩)
      let v := s.slotKcv slot
      let s := s.change role 0xA300 0x0A02 0xFFFFFFFF (slot + 2 ^ 16 * usage) v
      ⟨s.raise (evKeyInfo 0) [i2 slot, i1 usage, i4 v], some Status.ok, v⟩

/-- KEY_INSTALL (R279). -/
def execKeyInstall (c : Ctx) (slot usage : Nat) (kek : Option Nat) (addr len : Nat) (s : State) : Host.Outcome State Fault Refusal :=
  .next (s.runCmd c opKeyInstall [] (keyInstallEff c.dmaOk slot usage kek addr len))

/-- KEY_ERASE's effect (R279, R281). -/
def keyEraseEff (slot role : Nat) : State → Res := keyWork fun s =>
  if 4096 ≤ slot then ⟨s, some Status.range, 0⟩
  else if s.keyInUse slot then ⟨s, some Status.busy, 0⟩
  else
    let s := s.setSlot slot none
    let s := s.change role 0xA300 0x0A03 0xFFFFFFFF slot 0
    ⟨s.raise (evKeyInfo 1) [i2 slot], some Status.ok, 0⟩

/-- KEY_ERASE (R279). -/
def execKeyErase (c : Ctx) (slot : Nat) (s : State) : Host.Outcome State Fault Refusal :=
  .next (s.runCmd c opKeyErase [] (keyEraseEff slot))

/-! ## The entry that mints (R272) -/

/-- Whether an entry's slot holds a key of usage NTS_MASTER. -/
def State.mkKeyed (s : State) (m : Nat) : Bool := s.usage (s.get (Reg.MK_CFG_KEY_SLOT m)) = 3

/-- Whether an entry can mint at an instant; one whose slot holds no master key cannot (log entry 76). -/
def State.canMint (s : State) (t m : Nat) : Bool := s.get (Reg.MK_CFG_MINT m) = 1 ∧ s.mkUsable m t ∧ s.mkKeyed m

/-- The better of two minting candidates: the later FROM, and among equals the lower number, which comes first. -/
def State.betterMint (s : State) (a : Option Nat) (m : Nat) : Option Nat :=
  match a with
  | none => some m
  | some x => if 0 < linDiff (s.mkFrom m) (s.mkFrom x) then some m else some x

/-- The entry that mints at an instant (R272). -/
def State.minter (s : State) (t : Nat) : Option Nat := ((List.range 16).filter (s.canMint t)).foldl s.betterMint none

/-- NTP failure event n, at most once a second (R282). -/
def State.raiseNtp (s : State) (n : Nat) (sev : Sev) (items : List Item) : State :=
  s.raiseGap (.ntpRaised n) secNs (evNtp n sev) items

/-- The minting entry judged anew: 0x0524 when it changes, 0x0525 when none can mint (R272). -/
def State.mintUpdate (s : State) : State :=
  let was := s.get Reg.NTP_STATUS_MINT_VALID
  let old := s.get Reg.NTP_STATUS_MINT_ENTRY
  match s.minter s.linear with
  | some m =>
    let s := (s.put Reg.NTP_STATUS_MINT_ENTRY m).put Reg.NTP_STATUS_MINT_VALID 1
    if was = 0 ∨ old ≠ m then s.raise (evNtp 3 .info) [i1 old, i1 m] else s
  | none =>
    let s := s.put Reg.NTP_STATUS_MINT_VALID 0
    if was = 1 then s.raiseNtp 4 .error [] else s

/-- MK_SWITCH: a FROM or an UNTIL of a master-key entry is reached (R272). -/
def execMkSwitch (s : State) : Host.Outcome State Fault Refusal := .next s.mintUpdate

/-! ## Random output and cookies (R271, R442) -/

/-- Whether the DRBG gives output (R443). -/
def State.drbgGives (s : State) : Bool := s.get Reg.TRNG_STATUS_DRBG_READY = 1 ∧ s.get Reg.TRNG_STATUS_WITHHELD = 0

/-- Some bytes of fresh DRBG output. -/
def State.draw (s : State) (n : Nat) : List Byte × State :=
  (((Config.drbg s.roles.draws).take n ++ List.replicate n 0).take n,
    { s with roles := { s.roles with draws := s.roles.draws + 1 } }.pmcEvent 6 0x13 {} (ceilDiv n 16))

/-- A 4-byte KEY_ID in network byte order. -/
def keyIdBytes (id : Nat) : List Byte := (leBytes 4 id).reverse

/-- One cookie of C2S ‖ S2C under a master-key entry with a nonce (R271): KEY_ID, nonce, synthetic IV and ciphertext. -/
def State.cookie (s : State) (m : Nat) (nonce keys : List Byte) : List Byte :=
  let id := keyIdBytes (s.get (Reg.MK_KEY_ID_KEY_ID m))
  let k := match s.key (s.get (Reg.MK_CFG_KEY_SLOT m)) with
    | some x => x.key
    | none => []
  id ++ nonce ++ Crypto.sivSeal k [id, nonce] keys

/-- Some fresh cookies of the same two keys under an entry, counted as minted (R271, R273). -/
def State.cookies (s : State) (a : Attr) (m : Nat) (keys : List Byte) : Nat → List (List Byte) × State
  | 0 => ([], s)
  | n + 1 =>
    let (nonce, s) := s.draw 16
    let c := s.cookie m nonce keys
    let s := (s.bump Reg.COOKIES_MINTED_COUNT).bump (Reg.MK_MINTED_COUNT m)
    let s := s.pmcEvent 6 0x12 a
    let (cs, s) := s.cookies a m keys n
    (c :: cs, s)

def opCookieMake : OpInfo := { op := 0x0A04, role := 2 }

/-- NTS_COOKIE_MAKE's effect (R270, R281): cookies under the minting entry, written one after another. While the DRBG gives
no output it completes as when none can mint (log entry 31). -/
def cookieMakeEff (dmaOk : Bool) (count addrKeys addrOut : Nat) (_role : Nat) (s : State) : Res :=
  if count = 0 ∨ 8 < count then ⟨s, some Status.range, 0⟩ else
  match s.minter s.linear with
  | none => ⟨s, some Status.notFit, 0⟩
  | some m =>
    if ¬ s.drbgGives then ⟨s, some Status.notFit, 0⟩
    else if ¬ dmaOk then ⟨s, some Status.dmaError, 0⟩
    else
      let (cs, s) := s.cookies {} m (memRead s.mem addrKeys 64) count
      ⟨s.dmaWrite addrOut (cs.flatten), some Status.ok, 0⟩

/-- NTS_COOKIE_MAKE (R281). -/
def execNtsCookieMake (c : Ctx) (count addrKeys addrOut : Nat) (s : State) : Host.Outcome State Fault Refusal :=
  .next (s.runCmd c opCookieMake [] (cookieMakeEff c.dmaOk count addrKeys addrOut))

end Sys2Proof.Machine
end

