-- ==== Sys2Proof/Machine/Clients.lean ====
section
/-! DEFINITION. The client table, admission and overload (R283 to R303): entries and their bytes, placement, policy rules,
policers and buckets, the decision of R291, the allowances of a lap, the sweep, the table's commands. -/

namespace Sys2Proof

/-! ## Keys and entries (R284, R285) -/

/-- A key in the form an entry holds it: IPv4 as ::FFFF:a.b.c.d, a MAC in its 48 bits, VLAN 0 when untagged (R285). -/
def CKey.norm (k : CKey) : CKey :=
  { k with
    addr := if k.kind = 0 then k.addr % 2 ^ 32 + 0xFFFF * 2 ^ 32 else if k.kind = 2 then k.addr % 2 ^ 48 else k.addr % 2 ^ 128
    vlan := if k.tagged then k.vlan % 4096 else 0 }

/-- Address, VLAN and type of a key as bytes. -/
def CKey.bytes (k : CKey) : List Byte :=
  leBytes 1 (k.kind + 4 * k.port) ++ (leBytes 16 k.addr).reverse ++ leBytes 2 (k.vlan + 4096 * b2n k.tagged)

/-- Whether a key names a port and an address type that exist. -/
def CKey.ok (k : CKey) : Bool := k.port < 4 ∧ k.kind < 3 ∧ k.vlan < 4096

/-- Whether an entry holds a live grant: GRANTED (R285). -/
def CltEntry.granted (e : CltEntry) : Bool := e.announce.live || e.sync.live || e.delayResp.live

/-- A grant word's value (R285). -/
def Grant.word (g : Grant) : Nat :=
  g.expiry % 2 ^ 56 + 2 ^ 56 * toBits 4 g.log + 2 ^ 60 * (g.inst % 4) + 2 ^ 62 * b2n g.live

/-- Bytes 0 to 123 of an entry (R285). -/
def CltEntry.body (e : CltEntry) : List Byte :=
  leBytes 1 (e.key.kind + 4 * e.key.port)
    ++ leBytes 1 (1 + 2 * b2n e.pinned + 4 * b2n e.learned + 8 * b2n e.granted)
    ++ leBytes 1 e.ntpClass ++ leBytes 1 e.rule ++ (leBytes 16 e.key.addr).reverse
    ++ leBytes 2 (e.key.vlan + 4096 * b2n e.key.tagged) ++ leBytes 1 e.bucket ++ leBytes 1 0
    ++ leBytes 8 e.lastSeen ++ leBytes 8 e.created ++ leBytes 8 e.announce.word ++ leBytes 8 e.sync.word
    ++ leBytes 8 e.delayResp.word ++ leBytes 4 e.tokens ++ leBytes 4 e.ptpTokens ++ leBytes 6 e.requests
    ++ leBytes 6 e.answered ++ leBytes 4 e.shed ++ leBytes 4 e.refused ++ leBytes 4 e.authFail
    ++ (e.hostTag ++ List.replicate 16 0).take 16 ++ leBytes 12 0

/-- The 128 bytes of an entry, CHECK last (R285). -/
def CltEntry.bytes (e : CltEntry) : List Byte := e.body ++ leBytes 4 (crc32 e.body)

/-- The parameters of a command that names a client, as a journal body. -/
def CKey.params (k : CKey) : List Int := [k.port, k.kind, k.addr, k.vlan, b2n k.tagged]

end Sys2Proof

namespace Sys2Proof.Machine

/-! ## Placement (R286) -/

/-- The keyed hash of a key (R286). Which of its bits give the sets, the fingerprint and the drop bucket the spec does not say (DESIGN CHOICE, log
entry 189). -/
def State.keyHash (s : State) (k : CKey) : Nat := Config.clientHash s.clt.salt k.norm.bytes % 2 ^ 64

/-- The drop bucket of a key (R286). -/
def State.dropBucket (s : State) (k : CKey) : Nat := s.keyHash k % 256

/-- The fingerprint of a key, 16 bits of its hash (R286). -/
def State.fingerprint (s : State) (k : CKey) : Nat := s.keyHash k / 2 ^ 48 % 65536

/-- Where a slot's entry lies in DRAM (R286). -/
def State.slotAddr (s : State) (n : Nat) : Nat := s.get Reg.CLT_CTRL_BASE_GB * 2 ^ 30 + 128 * n

/-- Where the grant calendar begins in DRAM; it takes 32 MiB, 16 bytes to a record, whose layout the spec does not give (R290; log entry 189). -/
def State.calendarAddr (s : State) : Nat := s.slotAddr 0 + 2 ^ 29

/-- Sets of 8 slots in the table. -/
def State.sets (s : State) : Nat := 2 ^ (s.get Reg.CLT_CTRL_SIZE_LOG2 - 3)

/-- The two candidate sets of a key, which differ (R286). -/
def State.candSets (s : State) (k : CKey) : Nat × Nat :=
  let h := s.keyHash k
  let a := h / 2 ^ 8 % s.sets
  (a, (a + 1 + h / 2 ^ 32 % (s.sets - 1)) % s.sets)

/-- The 16 candidate slots of a key. -/
def State.candSlots (s : State) (k : CKey) : List Nat :=
  let (a, b) := s.candSets k
  (List.range 8).map (8 * a + ·) ++ (List.range 8).map (8 * b + ·)

/-- The entry of a key, with its slot. -/
def State.findEntry (s : State) (k : CKey) : Option (Nat × CltEntry) := s.clt.entries.find? fun e => e.2.key = k.norm

/-- The slots of the table whose fingerprint in the index is a key's, among its 16 candidates (R286). -/
def State.matching (s : State) (k : CKey) : List Nat := (s.candSlots k).filter fun n => decide (aget s.clt.index n = some (s.fingerprint k))

/-- Whether a slot's entry is in the cache. -/
def State.cached (s : State) (n : Nat) : Bool := (aget s.clt.cache n).isSome

/-- A slot's entry leaves the cache, written back where it was modified (R286). -/
def State.cacheOut (s : State) (n : Nat) : State :=
  { s with clt := { s.clt with cache := adel s.clt.cache n
                               bad := if aget s.clt.cache n = some true then s.clt.bad.erase n else s.clt.bad } }

/-- The slots in the same set of the cache of 2,048 sets of 16 ways as a slot (R286; which set a slot goes to is a DESIGN CHOICE, log entry 189). -/
def State.cacheWays (s : State) (n : Nat) : List Nat := (s.clt.cache.map (·.1)).filter fun m => decide (m % 2048 = n % 2048)

/-- A slot's entry in the cache, modified or not. Where all 16 ways are taken one of them gives way, and which one is free (log entry 189). -/
def State.cacheIn (s : State) (n : Nat) (dirty : Bool) : State :=
  let s := if s.cached n ∨ (s.cacheWays n).length < 16 then s
    else
      let (v, s) := s.takeFree
      s.cacheOut ((s.cacheWays n).getD (v % (s.cacheWays n).length) 0)
  { s with clt := { s.clt with cache := aput s.clt.cache n (dirty || decide (aget s.clt.cache n = some true)) } }

/-- An entry put into a slot, or taken out; the index, the cache and ENTRIES follow. -/
def State.putEntry (s : State) (slot : Nat) (e : CltEntry) : State :=
  let s := { s with clt := { s.clt with entries := aput s.clt.entries slot e, index := aput s.clt.index slot (s.fingerprint e.key) } }
  (s.cacheIn slot true).put Reg.CLT_STATUS_ENTRIES s.clt.entries.length
@[inherit_doc State.putEntry] def State.dropEntry (s : State) (slot : Nat) : State :=
  let s := { s with clt := { s.clt with entries := adel s.clt.entries slot, index := adel s.clt.index slot, cache := adel s.clt.cache slot
                                        bad := s.clt.bad.erase slot } }
  s.put Reg.CLT_STATUS_ENTRIES s.clt.entries.length

/-- A slot whose entry fails its CHECK, freed, counted and raised (R290). -/
def State.freeBad (s : State) (n : Nat) : State := ((s.dropEntry n).bump Reg.CLT_ENTRY_BAD_COUNT).raise (evClt 2 .error) [i4 n]

/-- The entry of a slot as it is read: from the cache, or from DRAM, where one whose CHECK fails is treated as absent (R290). -/
def State.readSlot (s : State) (n : Nat) : Option CltEntry × State :=
  match aget s.clt.entries n with
  | none => (none, s)
  | some e => if ! s.cached n && s.clt.bad.contains n then (none, s.freeBad n) else (some e, s)

/-- The first of some slots that holds a key's entry, each read and compared whole, and brought into the cache; hits and misses of the cache are
counted (R286). -/
def State.confirm (s : State) (k : CKey) : List Nat → Option (Nat × CltEntry) × State
  | [] => (none, s)
  | n :: ns =>
    let s := if s.cached n then s.bump Reg.CLT_CACHE_HITS_COUNT else (s.bump Reg.CLT_CACHE_MISSES_COUNT).pmcEvent 5 0x13
    match s.readSlot n with
    | (none, s) => s.confirm k ns
    | (some e, s) =>
      let s := s.cacheIn n false
      if e.key = k.norm then (some (n, e), s) else s.confirm k ns

/-- The entry of a key looked up by the index and confirmed (R286). -/
def State.locate (s : State) (k : CKey) : Option (Nat × CltEntry) × State := s.confirm k (s.matching k)

/-- The entry of a slot changed, where one is there. -/
def State.modEntry (s : State) (slot : Nat) (f : CltEntry → CltEntry) : State :=
  match s.readSlot slot with
  | (some e, s) => s.putEntry slot (f e)
  | (none, s) => s

/-! ## Policy (R287) -/

/-- A rule's address as a number. -/
def State.ruleAddr (s : State) (r : Nat) : Nat :=
  s.get (Reg.RULE_ADDR_ADDR r 0) * 2 ^ 96 + s.get (Reg.RULE_ADDR_ADDR r 1) * 2 ^ 64 + s.get (Reg.RULE_ADDR_ADDR r 2) * 2 ^ 32
    + s.get (Reg.RULE_ADDR_ADDR r 3)

/-- Whether a rule matches a source by its port, family and prefix (R287). -/
def State.ruleMatches (s : State) (k : CKey) (r : Nat) : Bool :=
  let w := addrWidth k.kind
  let d := w - min w (s.get (Reg.RULE_CFG_PREFIX_LEN r))
  s.get (Reg.RULE_CFG_VALID r) = 1 ∧ s.fbit (Reg.RULE_CFG_PORTS r) k.port ∧ s.get (Reg.RULE_CFG_FAMILY r) = k.kind
    ∧ k.addr % 2 ^ w / 2 ^ d = s.ruleAddr r % 2 ^ w / 2 ^ d

/-- The better of two matching rules: the longer prefix, and among equals the lower number, which comes first. -/
def State.betterRule (s : State) (a : Option Nat) (r : Nat) : Option Nat :=
  match a with
  | none => some r
  | some x => if s.get (Reg.RULE_CFG_PREFIX_LEN x) < s.get (Reg.RULE_CFG_PREFIX_LEN r) then some r else some x

/-- The best rule of a source: rule 255 where no other matches (R287). -/
def State.bestRule (s : State) (k : CKey) : Nat := (((List.range 255).filter (s.ruleMatches k)).foldl s.betterRule none).getD 255

/-! ## Looking up and learning (R287, R288, R290) -/

/-- The older of two entries by LAST_SEEN, and among equals the lower slot. -/
def olderOf (a : Option (Nat × CltEntry)) (e : Nat × CltEntry) : Option (Nat × CltEntry) :=
  match a with
  | none => some e
  | some x => if linDiff e.2.lastSeen x.2.lastSeen < 0 ∨ (e.2.lastSeen = x.2.lastSeen ∧ e.1 < x.1) then some e else some x

/-- The candidate slots of a key that hold no entry. -/
def State.freeSlots (s : State) (k : CKey) : List Nat := (s.candSlots k).filter fun n => (aget s.clt.entries n).isNone

/-- A slot for a new key: a free candidate (which one the spec does not say: free), else that of the entry evicted, else
none, counted and raised as TABLE_FULL (R288). Where every candidate is taken each is read for it, and one whose CHECK fails is free (R290). -/
def State.findSlot (s : State) (k : CKey) (rule : Nat) : Option Nat × State :=
  let cand := s.candSlots k
  let s := if s.freeSlots k = [] then cand.foldl (fun s n => (s.readSlot n).2) s else s
  let free := s.freeSlots k
  if free ≠ [] then
    let (v, s) := s.takeFree
    (free[v % free.length]?, s)
  else
    let es := cand.filterMap fun n => (aget s.clt.entries n).map fun e => (n, e)
    match (es.filter fun e => e.2.learned && ¬ e.2.pinned && ¬ e.2.granted).foldl olderOf none with
    | some (n, _) => (some n, (s.dropEntry n).bump Reg.CLT_EVICTED_COUNT)
    | none => (none, (s.bump Reg.CLT_TABLE_FULL_COUNT).raise (evClt 1 .warning) [i1 rule, i1 k.kind])

/-- The entry of a request's key as the table reads it (R286, R290). -/
def State.lookup (s : State) (p : Peer) : Option (Nat × CltEntry) × State :=
  { s with clt := { s.clt with bad := p.bad ++ s.clt.bad } }.locate p.key

/-- A source with no entry learned, where LEARN_EN and its rule's LEARN let it be and a slot is found: the entry takes NTP_CLASS and RULE from the
rule (R287, R288). -/
def State.learn (s : State) (k : CKey) (rule : Nat) : Option (Nat × CltEntry) × State :=
  if s.get Reg.CLT_CTRL_LEARN_EN = 1 ∧ s.get (Reg.RULE_CFG_LEARN rule) = 1 then
    match s.findSlot k rule with
    | (some n, s) =>
      let e : CltEntry := { key := k.norm, learned := true, ntpClass := s.get (Reg.RULE_CFG_NTP_CLASS rule), rule
                            bucket := s.dropBucket k, created := s.linear }
      (some (n, e), (s.putEntry n e).bump Reg.CLT_LEARNED_COUNT)
    | (none, s) => (none, s)
  else (none, s)

/-- The entry of a request, looked up or learned (R287, R288, R300). -/
def State.lookupOrLearn (s : State) (p : Peer) (rule : Nat) : Option (Nat × CltEntry) × State :=
  if s.get Reg.CLT_STATUS_READY = 0 then (none, s) else
  match s.lookup p with
  | (some x, s) => (some x, s)
  | (none, s) => s.learn p.key rule

/-! ## Policers and buckets (R292, R293) -/

/-- Tokens of a client's policer at an instant: refilled at RATE since LAST_SEEN, capped at BURST (R292). -/
def State.clientTokens (s : State) (e : CltEntry) : Nat :=
  let dt := (linDiff s.linear e.lastSeen).toNat
  min (256 * s.get (Reg.RULE_RATE_BURST e.rule)) (e.tokens + s.get (Reg.RULE_RATE_RATE e.rule) * 16 * dt / secNs)

/-- Tokens of a granted slave's Delay_Req policer: refilled at its grant's rate, capped at 2 requests (R292). -/
def State.slaveTokens (s : State) (e : CltEntry) : Nat :=
  let dt := (linDiff s.linear e.lastSeen).toNat
  let g := e.delayResp.log
  min 512 (e.ptpTokens + (if g < 0 then 256 * 2 ^ g.natAbs * dt / secNs else 256 * dt / (2 ^ g.natAbs * secNs)))

/-- An entry with both policers refilled to now and LAST_SEEN moved (R292). -/
def State.refilled (s : State) (e : CltEntry) : CltEntry :=
  { e with tokens := s.clientTokens e, ptpTokens := if e.delayResp.live then s.slaveTokens e else e.ptpTokens, lastSeen := s.linear }

/-- The policer's decision: the entry refilled, and whether the charge was taken (R292). -/
def State.police (s : State) (e : CltEntry) (delayReq : Bool) (charge : Nat) : CltEntry × Bool :=
  let r := s.refilled e
  if delayReq ∧ e.delayResp.live then
    if 256 * charge ≤ r.ptpTokens then ({ r with ptpTokens := r.ptpTokens - 256 * charge }, true) else (r, false)
  else if s.get (Reg.RULE_RATE_RATE e.rule) = 0 then (r, true)
  else if 256 * charge ≤ r.tokens then ({ r with tokens := r.tokens - 256 * charge }, true) else (r, false)

/-- Rate and depth of a port bucket this lap: as latched at the last lap boundary (R299). -/
def State.pbConf (s : State) (p c : Nat) : Nat × Nat :=
  (aget s.clt.rates (8 * p + c)).getD (s.get (Reg.PB_RATE_RATE p c), s.get (Reg.PB_DEPTH_DEPTH p c))

/-- A bucket's tokens now, in units of 10^-9. -/
def refillBucket (b : Option (Nat × Nat)) (now rate depth : Nat) : Nat :=
  match b with
  | some (t, at_) => min depth (t + rate * (now - at_))
  | none => depth

/-- A charge taken from the bucket of a port and class, if it has it; a rate of 0 closes the class (R293). -/
def State.takePort (s : State) (p c charge : Nat) : Bool × State :=
  let (rate, depth) := s.pbConf p c
  let t := refillBucket (aget s.clt.buckets (8 * p + c)) s.runNs rate (depth * secNs)
  if rate ≠ 0 ∧ charge * secNs ≤ t then
    (true, { s with clt := { s.clt with buckets := aput s.clt.buckets (8 * p + c) (t - charge * secNs, s.runNs) } })
  else (false, { s with clt := { s.clt with buckets := aput s.clt.buckets (8 * p + c) (t, s.runNs) } })

/-- A charge taken from the auth bucket, whose rate is AUTH_EFF and whose depth is AUTH_EFF / 256 (R294). -/
def State.takeAuth (s : State) (charge : Nat) : Bool × State :=
  let eff := s.get Reg.CLT_AUTH_EFF_EFF
  let t := refillBucket s.clt.auth s.runNs eff (eff * secNs / 256)
  if charge * secNs ≤ t then (true, { s with clt := { s.clt with auth := some (t - charge * secNs, s.runNs) } })
  else (false, { s with clt := { s.clt with auth := some (t, s.runNs) } })

/-! ## Admission (R291) -/

/-- What admission decides of a request. -/
inductive Verdict where
  | admitted | refused | shed
  deriving DecidableEq, Repr

/-- An admission: the verdict, the entry's slot, and the rule and NTP class that apply (R287, R289). -/
structure Adm where
  verdict : Verdict
  slot    : Option Nat
  rule    : Nat
  cls     : Nat

/-- C in use this lap (R294). -/
def State.capC (s : State) : Nat := s.clt.cap.getD (s.get Reg.CLT_BUDGET_BUDGET / 64)

/-- Charges admitted this lap: of a class, and of all. -/
def State.admittedOf (s : State) (c : Nat) : Nat := (aget s.clt.admitted c).getD 0
@[inherit_doc State.admittedOf] def State.admittedAll (s : State) : Nat := (s.clt.admitted.map (·.2)).sum

/-- Whether a drop bucket lies in a class's shed window (R296). -/
def State.inWindow (s : State) (c b : Nat) : Bool := (b + 256 - s.get (Reg.CLS_SHED_START c)) % 256 < s.get (Reg.CLS_SHED_K c)

/-- Whether R297 sheds a request of a class now. Under OVERCOMMIT C is 0 and PTP_EVENT goes on being admitted (R298; DEDUCED, log entry 190). -/
def State.overflows (s : State) (c : Nat) : Bool :=
  if c = 0 then s.get Reg.CLT_STATUS_OVERCOMMIT = 0 ∧ s.capC ≤ s.admittedOf 0
  else s.capC ≤ s.admittedAll ∧ s.get (Reg.CLS_ALLOW_A c) ≤ s.admittedOf c

/-- A refusal counted (R291). -/
def State.countRefused (s : State) (c : Nat) (slot : Option Nat) : State :=
  let s := s.bump (Reg.CLS_REFUSED_COUNT c)
  match slot with
  | some n => s.modEntry n fun e => { e with refused := min (e.refused + 1) (2 ^ 32 - 1) }
  | none => s

/-- A request shed under a counter of its class (R291). -/
def State.countShed (s : State) (f : Fld) (c : Nat) (slot : Option Nat) : State :=
  let s := (s.bump f).pmcEvent 5 0x11 { cls := some c }
  match slot with
  | some n => s.modEntry n fun e => { e with shed := min (e.shed + 1) (2 ^ 32 - 1) }
  | none => s

/-- The stages of R291 after the port bucket: the demand counted, the shed window, the auth bucket, the overflow. -/
def State.admitLate (s : State) (k : CKey) (c charge auth : Nat) (slot : Option Nat) : Verdict × State :=
  let s := { s with clt := { s.clt with demand := aput s.clt.demand c ((aget s.clt.demand c).getD 0 + charge) } }
  if s.inWindow c (s.dropBucket k) then (.shed, s.countShed (Reg.CLS_SHED_FAIR_COUNT c) c slot)
  else
    let (ok, s) := if auth = 0 then (true, s) else s.takeAuth auth
    if ¬ ok ∨ s.overflows c then (.shed, s.countShed (Reg.CLS_SHED_OVERFLOW_COUNT c) c slot)
    else (.admitted, { s with clt := { s.clt with admitted := aput s.clt.admitted c (s.admittedOf c + charge) } })

/-- A request admitted: counted by class and in its entry, or as one without an entry (R288, R300). -/
def State.countAdmitted (s : State) (c : Nat) (slot : Option Nat) : State :=
  let s := (s.bump (Reg.CLS_ADMITTED_COUNT c)).pmcEvent 5 0x10 { cls := some c }
  match slot with
  | some n => s.modEntry n fun e => { e with answered := (e.answered + 1) % 2 ^ 48 }
  | none => s.bump Reg.CLT_NO_ENTRY_COUNT

/-- Admission of a request of a class with its charges (R291); `delayReq` says it is a Delay_Req (R292). A STANDBY twin
looks the key up or learns it, moves LAST_SEEN, charges nothing and admits nothing (R300). -/
def State.letIn (s : State) (p : Peer) (c charge auth : Nat) (delayReq : Bool) : Adm × State :=
  let k := p.key.norm
  let r := s.bestRule k
  let s := s.bump (Reg.RULE_HITS_COUNT r)
  if s.get (Reg.RULE_CFG_DENY r) = 1 then
    let slot := (s.findEntry k).map (·.1)
    let s := match slot with
      | some n => s.modEntry n fun e => { e with requests := (e.requests + 1) % 2 ^ 48 }
      | none => s
    (⟨.refused, slot, r, 0⟩, s.countRefused c slot)
  else
    let (found, s) := s.lookupOrLearn p r
    let slot := found.map (·.1)
    let s := match slot with
      | some n => s.modEntry n fun e => { e with requests := (e.requests + 1) % 2 ^ 48 }
      | none => s
    let rule := match found with
      | some (_, e) => e.rule
      | none => r
    let cls := match found with
      | some (_, e) => e.ntpClass
      | none => 0
    if ¬ s.serves then
      let s := match slot with
        | some n => s.modEntry n s.refilled
        | none => s
      (⟨.shed, slot, rule, cls⟩, s)
    else if c < 2 ∧ s.get (Reg.RULE_CFG_PTP_OK rule) = 0 then (⟨.refused, slot, rule, cls⟩, s.countRefused c slot)
    else
      let (ok, s) := match slot with
        | some n =>
          match aget s.clt.entries n with
          | some e =>
            let (e, ok) := s.police e delayReq charge
            (ok, s.putEntry n e)
          | none => (true, s)
        | none => (true, s)
      if ¬ ok then (⟨.shed, slot, rule, cls⟩, s.countShed (Reg.CLS_SHED_CLIENT_COUNT c) c slot)
      else
        let (ok, s) := s.takePort k.port c charge
        if ¬ ok then (⟨.shed, slot, rule, cls⟩, s.countShed (Reg.CLS_SHED_PORT_COUNT c) c slot)
        else if c = 4 then (⟨.admitted, slot, rule, cls⟩, s.countAdmitted c slot)
        else
          let (v, s) := s.admitLate k c charge auth slot
          (⟨v, slot, rule, cls⟩, if v = .admitted then s.countAdmitted c slot else s)

/-- AUTH_FAIL of a request's entry one up (R285). -/
def State.entryAuthFail (s : State) (slot : Option Nat) : State :=
  match slot with
  | some n => s.modEntry n fun e => { e with authFail := min (e.authFail + 1) (2 ^ 32 - 1) }
  | none => s

/-! ## The allowances of a lap (R294 to R298) -/

/-- What R295 gives the classes in turn from what is left: demand, floor part and cap of each. -/
def shareOut (left : Nat) : List (Nat × Nat × Nat) → List Nat
  | [] => []
  | (d, a, cap) :: r =>
    let x := min (min d cap - a) left
    (a + x) :: shareOut (left - x) r

/-- The floor of a class in 1/256 of C (R295). -/
def State.floorOf (s : State) (c : Nat) : Nat :=
  if c = 0 then s.get Reg.CLT_FLOOR_F_EVENT else if c = 1 then s.get Reg.CLT_FLOOR_F_GENERAL
  else if c = 2 then s.get Reg.CLT_FLOOR_F_NTS else s.get Reg.CLT_FLOOR_F_PLAIN

/-- The four allowances from the demand of the lap ended, C and A (R295). -/
def State.allowances (s : State) (C A : Nat) : List Nat :=
  let d := fun c => (aget s.clt.demand c).getD 0
  let a := fun c =>
    let x := min (d c) (C * s.floorOf c / 256)
    if c = 2 then min x A else x
  let used := a 0 + a 1 + a 2 + a 3
  shareOut (C - used) [(d 0, a 0, C), (d 1, a 1, C), (d 2, a 2, A), (d 3, a 3, C)]

/-- k_c from demand and allowance (R296). -/
def State.shedK (s : State) (d a : Nat) : Nat :=
  if d ≤ a then 0 else min (s.get Reg.CLT_CTRL_SHED_MAX) (ceilDiv (256 * (d - a)) d)

/-- The state of a class set for the coming lap, 0x0530 when its k becomes or ceases to be 0 (R296). -/
def State.setClass (s : State) (c d a : Nat) : State :=
  let old := s.get (Reg.CLS_SHED_K c)
  let new := s.shedK d a
  let s := (s.put (Reg.CLS_DEMAND_D c) d).put (Reg.CLS_ALLOW_A c) a
  let s := (s.put (Reg.CLS_SHED_START c) ((s.get (Reg.CLS_SHED_START c) + old) % 256)).put (Reg.CLS_SHED_K c) new
  if decide (old = 0) = decide (new = 0) then s else s.raise evShedState [i1 c, i1 old, i1 new]

/-- Classes with k_c not 0 as a mask. -/
def State.shedMask (s : State) : Nat :=
  (List.range 4).foldl (fun acc c => if s.get (Reg.CLS_SHED_K c) ≠ 0 then acc + 2 ^ c else acc) 0

/-- AEAD units that are ENABLED (R294). -/
def State.aeadOn (s : State) : Nat := ((List.range 24).filter fun k => s.unitOn (0xA000 + k / 12 * 0x100 + k % 12)).length

/-- Port buckets brought to what their registers hold, from this lap boundary on: tokens are refilled at the old rate and
capped at the new depth (R299). -/
def State.latchBuckets (s : State) : List (Nat × Nat) → State
  | [] => s
  | (p, c) :: r =>
    let (rate, depth) := s.pbConf p c
    let nd := s.get (Reg.PB_DEPTH_DEPTH p c)
    let s := match aget s.clt.buckets (8 * p + c) with
      | some b =>
        let t := min (nd * secNs) (refillBucket (some b) s.runNs rate (depth * secNs))
        { s with clt := { s.clt with buckets := aput s.clt.buckets (8 * p + c) (t, s.runNs) } }
      | none => s
    let s := { s with clt := { s.clt with rates := aput s.clt.rates (8 * p + c) (s.get (Reg.PB_RATE_RATE p c), nd) } }
    s.latchBuckets r

/-- AUTH_EFF for the coming lap, with AUTH_REDUCED and 0x0535 when it drops below AUTH_BUDGET (R294). -/
def State.authUpdate (s : State) : State :=
  let n := s.aeadOn
  let eff := min (s.get Reg.CLT_AUTH_BUDGET_BUDGET) (833333 * n)
  let was := s.get Reg.CLT_STATUS_AUTH_REDUCED
  let old := s.get Reg.CLT_AUTH_EFF_EFF
  let s := match s.clt.auth with
    | some b => { s with clt := { s.clt with auth := some (min (eff * secNs / 256) (refillBucket (some b) s.runNs old (old * secNs / 256)), s.runNs) } }
    | none => s
  let low := decide (eff < s.get Reg.CLT_AUTH_BUDGET_BUDGET)
  let s := (s.put Reg.CLT_AUTH_EFF_EFF eff).putB Reg.CLT_STATUS_AUTH_REDUCED low
  if low ∧ was = 0 then s.raise (evClt 4 .warning) [i4 eff, i1 n] else s

/-- Admission at a lap boundary: RESERVED, the capacities, the allowances, the shed counts, OVERLOAD and OVERCOMMIT
(R294 to R298); the demand and the admitted charges start again. -/
def State.lapAdmission (s : State) (reserved reservedAuth : Nat) : State :=
  let s := (s.put Reg.CLT_RESERVED_RESERVED reserved).put Reg.CLT_RESERVED_AUTH_RESERVED reservedAuth
  let s := (s.latchBuckets ((List.range 4).flatMap fun p => (List.range 5).map fun c => (p, c))).authUpdate
  let C := s.get Reg.CLT_BUDGET_BUDGET / 64 - ceilDiv reserved 64
  let A := s.get Reg.CLT_AUTH_EFF_EFF / 64 - ceilDiv reservedAuth 64
  let al := s.allowances C A
  let d := fun c => (aget s.clt.demand c).getD 0
  let s := (List.range 4).foldl (fun s c => s.setClass c (d c) (al.getD c 0)) s
  let m := s.shedMask
  let was := s.get Reg.CLT_STATUS_OVERLOAD
  let s := s.putB Reg.CLT_STATUS_OVERLOAD (decide (m ≠ 0))
  let s := if m ≠ 0 ∧ was = 0 then s.raise (evClt 0 .warning) [i1 m] else s
  let past := decide (s.get Reg.CLT_BUDGET_BUDGET < reserved)
  let wasO := s.get Reg.CLT_STATUS_OVERCOMMIT
  let s := s.putB Reg.CLT_STATUS_OVERCOMMIT past
  let s := if past ∧ wasO = 0 then s.raise (evClt 3 .error) [i4 reserved, i4 (s.get Reg.CLT_BUDGET_BUDGET)] else s
  { s with clt := { s.clt with demand := [], admitted := [], cap := some C } }

/-- Promotion: every bucket full, every k_c and START_c 0 (R300). -/
def State.admissionFresh (s : State) : State :=
  let s := { s with clt := { s.clt with buckets := [], auth := none } }
  let s := (List.range 4).foldl (fun s c => (s.put (Reg.CLS_SHED_K c) 0).put (Reg.CLS_SHED_START c) 0) s
  s.put Reg.CLT_STATUS_OVERLOAD 0

/-! ## The sweep and the table's start (R288, R300) -/

/-- One slot judged by the sweep: a learned entry that is not GRANTED and is older than AGE_TIME goes. -/
def State.ageSlot (s : State) (n : Nat) : State :=
  match s.readSlot n with
  | (some e, s) =>
    if e.learned ∧ ¬ e.pinned ∧ ¬ e.granted ∧ (s.get Reg.CLT_AGE_AGE_TIME * secNs : Nat) < linDiff s.linear e.lastSeen
    then (s.dropEntry n).bump Reg.CLT_AGED_COUNT else s
  | (none, s) => s

/-- AGE_SWEEP: the sweep visits some slots running, from a first one (R288). -/
def execAgeSweep (first count : Nat) (s : State) : Host.Outcome State Fault Refusal :=
  .next ((s.clt.entries.map (·.1)).foldl (fun s n => if first ≤ n ∧ n < first + count then s.ageSlot n else s) s)

/-- The table empty and not READY: a Field die reset or loss of the MEM domain (R300). -/
def State.tableLost (s : State) : State :=
  let s := { s with clt := { s.clt with entries := [], index := [], cache := [], bad := [], calendar := [] } }
  let s := (s.put Reg.CLT_STATUS_ENTRIES 0).put Reg.CLT_STATUS_READY 0
  (List.range 4).foldl (fun s k => (s.put (Reg.PTP_GRANT_USE_USE k) 0).put (Reg.PTP_GRANT_SLAVES_COUNT k) 0) s

/-- TABLE_READY: within 2 ms after DRAM training the table is initialised with a fresh salt and READY sets (R286, R300). -/
def execTableReady (s : State) : Host.Outcome State Fault Refusal :=
  .next (
    if s.get Reg.MEM_STATUS_TRAINED = 1 ∧ s.get Reg.CLT_STATUS_READY = 0 then
      let (salt, s) := s.draw 16
      let s := { s with clt := { s.clt with entries := [], index := [], cache := [], bad := [], salt := salt } }
      (s.put Reg.CLT_STATUS_ENTRIES 0).put Reg.CLT_STATUS_READY 1
    else s)

/-! ## Commands (R301) -/

def opCltSet : OpInfo := { op := 0x0B01, role := 2, carried := true }
def opCltAdd : OpInfo := { op := 0x0B02, role := 2, carried := true }
def opCltDel : OpInfo := { op := 0x0B03, role := 2, carried := true }
def opCltRead : OpInfo := { op := 0x0B04 }
def opCltDump : OpInfo := { op := 0x0B05 }
def opCltFlush : OpInfo := { op := 0x0B06, role := 2, carried := true }

/-- GiB of DRAM fitted (MEM_CFG). -/
def State.dramGiB (s : State) : Nat := 4 * (s.get Reg.MEM_CFG_SIZE + 1)

/-- A client-table command's effect where the client-table engine takes new work (R40). -/
def cltWork (f : State → Res) (s : State) : Res :=
  match s.unitBars 0x9200 with
  | some st => ⟨s, some st, 0⟩
  | none => f s

/-- CLT_SET's effect (R301), whatever the state of the engine, whose registers it sets (log entry 188). Its offsets take in the rules 128 to 255,
which R303 places above 0x1FFC (DESIGN CHOICE, log entry 191). -/
def cltSetEff (off v role : Nat) (s : State) : Res :=
  let a := 0x380000 + off
  if ¬ ((0x0C ≤ off ∧ off ≤ 0x1C) ∨ (0x400 ≤ off ∧ off ≤ 0x4FC) ∨ (0x1000 ≤ off ∧ off ≤ 0x2FFC)) then ⟨s, some Status.range, 0⟩
  else if off = 0x1C ∧ 256 < v % 256 + v / 2 ^ 8 % 256 + v / 2 ^ 16 % 256 + v / 2 ^ 24 % 256 then ⟨s, some Status.range, 0⟩
  else if 0x1000 ≤ off ∧ off % 0x20 = 0x10 ∧ addrWidth (v / 2 ^ 8 % 4) < v % 256 then ⟨s, some Status.range, 0⟩
  else if off = 0x0C ∧ s.dramGiB < Reg.CLT_CTRL_BASE_GB.part v + 1 then ⟨s, some Status.range, 0⟩
  else if off = 0x0C ∧ s.get Reg.CLT_STATUS_READY = 1 ∧
      (Reg.CLT_CTRL_SIZE_LOG2.part v ≠ s.get Reg.CLT_CTRL_SIZE_LOG2 ∨ Reg.CLT_CTRL_BASE_GB.part v ≠ s.get Reg.CLT_CTRL_BASE_GB)
    then ⟨s, some Status.busy, 0⟩
  else s.setWord role 0x0B01 0x38000C 0x383000 a v

/-- CLT_SET (R301). -/
def execCltSet (c : Ctx) (off value : Nat) (s : State) : Host.Outcome State Fault Refusal :=
  .next (s.runCmd c opCltSet [off, value] fun role s => cltSetEff off value role s)

/-- CLT_ENTRY_ADD's effect: the entry created or updated, and pinned (R301). -/
def cltAddEff (k : CKey) (cls rule : Nat) (tag : List Byte) (role : Nat) : State → Res := cltWork fun s =>
  if ¬ k.ok ∨ 16 ≤ cls ∨ 256 ≤ rule then ⟨s, some Status.range, 0⟩
  else if s.get Reg.CLT_STATUS_READY = 0 then ⟨s, some Status.busy, 0⟩
  else
    let fresh : CltEntry := { key := k.norm, created := s.linear, bucket := s.dropBucket k }
    let (slot, old, s) := match s.locate k with
      | (some (n, e), s) => (some n, e, s)
      | (none, s) =>
        let r := s.findSlot k.norm rule
        (r.1, fresh, r.2)
    match slot with
    | none => ⟨s, some Status.tableFull, 0⟩
    | some n =>
      let s := s.putEntry n { old with pinned := true, ntpClass := cls, rule, hostTag := (tag ++ List.replicate 16 0).take 16 }
      ⟨s.change role 0x9200 0x0B02 0xFFFFFFFF (k.kind + 4 * k.port) (cls + 256 * rule), some Status.ok, n⟩

/-- CLT_ENTRY_ADD (R301). -/
def execCltEntryAdd (c : Ctx) (k : CKey) (cls rule : Nat) (tag : List Byte) (s : State) : Host.Outcome State Fault Refusal :=
  .next (s.runCmd c opCltAdd (k.params ++ [(cls : Int), rule, leNat tag]) fun role s => cltAddEff k cls rule tag role s)

/-- CLT_ENTRY_DEL's effect (R299, R301). -/
def cltDelEff (k : CKey) (role : Nat) : State → Res := cltWork fun s =>
  if ¬ k.ok then ⟨s, some Status.range, 0⟩ else
  match s.locate k with
  | (some (n, e), s) =>
    if e.granted then ⟨s, some Status.busy, 0⟩
    else ⟨(s.dropEntry n).change role 0x9200 0x0B03 0xFFFFFFFF (k.kind + 4 * k.port) 0, some Status.ok, 0⟩
  | (none, s) => ⟨s.change role 0x9200 0x0B03 0xFFFFFFFF (k.kind + 4 * k.port) 0, some Status.ok, 0⟩

/-- CLT_ENTRY_DEL (R299). -/
def execCltEntryDel (c : Ctx) (k : CKey) (s : State) : Host.Outcome State Fault Refusal :=
  .next (s.runCmd c opCltDel k.params fun role s => cltDelEff k role s)

/-- CLT_ENTRY_READ's effect (R301). -/
def cltReadEff (dmaOk : Bool) (k : CKey) (addr : Nat) (_role : Nat) : State → Res := cltWork fun s =>
  match s.locate k with
  | (none, s) => ⟨s, some Status.notFound, 0⟩
  | (some (_, e), s) => if dmaOk then ⟨s.dmaWrite addr e.bytes, some Status.ok, 0⟩ else ⟨s, some Status.dmaError, 0⟩

/-- CLT_ENTRY_READ (R301). -/
def execCltEntryRead (c : Ctx) (k : CKey) (addr : Nat) (s : State) : Host.Outcome State Fault Refusal :=
  .next (s.runCmd c opCltRead [] (cltReadEff c.dmaOk k addr))

/-- Every entry of a slot range read, so that those whose CHECK fails are gone (R290). -/
def State.readRange (s : State) (first count : Nat) : State :=
  (s.clt.entries.map (·.1)).foldl (fun s n => if first ≤ n ∧ n < first + count then (s.readSlot n).2 else s) s

/-- The entries of a slot range in slot order, as bytes. -/
def State.dumpBytes (s : State) (first count : Nat) : List Byte :=
  let es := s.clt.entries.filter fun e => decide (first ≤ e.1 ∧ e.1 < first + count)
  (es.mergeSort fun a b => a.1 ≤ b.1).flatMap fun e => e.2.bytes

/-- CLT_DUMP's effect (R301). -/
def cltDumpEff (dmaOk : Bool) (first count addr : Nat) (_role : Nat) : State → Res := cltWork fun s =>
  if count = 0 ∨ 65536 < count ∨ 2 ^ s.get Reg.CLT_CTRL_SIZE_LOG2 < first + count then ⟨s, some Status.range, 0⟩
  else if ¬ dmaOk then ⟨s, some Status.dmaError, 0⟩
  else
    let s := s.readRange first count
    ⟨s.dmaWrite addr (s.dumpBytes first count), some Status.ok, 0⟩

/-- CLT_DUMP (R301). -/
def execCltDump (c : Ctx) (first count addr : Nat) (s : State) : Host.Outcome State Fault Refusal :=
  .next (s.runCmd c opCltDump [] (cltDumpEff c.dmaOk first count addr))

/-- CLT_FLUSH's effect: every learned entry that is not GRANTED goes (R301). -/
def cltFlushEff (role : Nat) : State → Res := cltWork fun s =>
  let s := s.readRange 0 (2 ^ s.get Reg.CLT_CTRL_SIZE_LOG2)
  let gone := s.clt.entries.filter fun e => e.2.learned && ¬ e.2.granted
  let s := gone.foldl (fun s e => s.dropEntry e.1) s
  ⟨s.change role 0x9200 0x0B06 0xFFFFFFFF 0 0, some Status.ok, gone.length⟩

/-- CLT_FLUSH (R301). -/
def execCltFlush (c : Ctx) (s : State) : Host.Outcome State Fault Refusal :=
  .next (s.runCmd c opCltFlush [] fun role s => cltFlushEff role s)

end Sys2Proof.Machine
end

