-- ==== Sys2Proof/Machine/TimeCore.lean ====
section
/-! DEFINITION. The Time Core (R53 to R78): the advance of one TCLK edge, slews, compares, leap seconds and the
smear, the time bus, and the Time Core's commands and events. -/

namespace Sys2Proof.Machine

/-! ## Advancing the time -/

/-- RMAX: 200 ppm in units of 2^-48, rounded down (R58). -/
def rMax : Int := 56294995342

/-- The slew component before the clamp (R60). -/
def slewWant (remain : Int) (limit : Nat) : Int := if remain = 0 then 0 else if 0 < remain then limit else -(limit : Int)

/-- RT of an edge: RATE_ADJ and the slew, clamped (R58). -/
def rateTotal (rateAdj remain : Int) (limit : Nat) : Int := clampI (-rMax) rMax (rateAdj + slewWant remain limit)

/-- B_slew after an edge that retired some of SLEW_REMAIN and left some: a retirement of its sign reduces its magnitude, not
below 0; with nothing left, or a remainder of the other sign, it becomes 0 (R497). -/
def nextBSlew (b retired left : Int) : Int :=
  let b := if 0 < b * retired then (if retired.natAbs < b.natAbs then b - retired else 0) else b
  if left = 0 ∨ left * b < 0 then 0 else b

/-- One TCLK edge of the Time Core: the pseudocode of R60, with the increment of R57; the departure from the shadow
gains 25 × (RATE_TOTAL - r_m) (R101), and B_slew follows (R497). -/
def TimeCore.edge (tc : TimeCore) (limit : Nat) : TimeCore :=
  let rt := rateTotal tc.rateAdj tc.slew limit
  let sl := rt - tc.rateAdj
  let last := decide (tc.slew.natAbs ≤ (25 * sl).natAbs)
  let adv := if last then 25 * (2 ^ 48 + tc.rateAdj) + tc.slew else 25 * (2 ^ 48 + rt)
  let slew := if last then 0 else tc.slew - 25 * sl
  let total := if last then tc.rateAdj else rt
  let b := nextBSlew tc.bSlew (tc.slew - slew) slew
  { tc with
    time := (tc.time + adv.toNat) % timeMod
    prev := tc.time
    run := tc.run + adv.toNat
    edges := tc.edges + 1
    rt := total
    slew := slew
    reduced := decide (rt ≠ tc.rateAdj + slewWant tc.slew limit)
    refSum := tc.refSum + 25 * tc.ref
    adjSum := tc.adjSum + 25 * tc.rateAdj
    dep := tc.dep + 25 * (total - tc.ref)
    bSlew := b }

/-- SLEW_LIMIT in units of 2^-48. -/
def State.slewLimit (s : State) : Nat := s.get64 Reg.SLEW_LIMIT_LO_SL_LO Reg.SLEW_LIMIT_HI_SL_HI

/-- One TCLK edge under a Track die fault: the Time Core runs at RATE_ADJ alone, and what was left of a slew stays as it is (R48). -/
def TimeCore.edgeStill (tc : TimeCore) (limit : Nat) : TimeCore :=
  { { tc with slew := 0, bSlew := 0 }.edge limit with slew := tc.slew, bSlew := tc.bSlew }

/-- Where B_slew becomes 0 at this edge, the lane SELECTED and the time since it last became non-zero kept for 0x002D (R497). -/
def State.noteRetired (s : State) (lane : Option Nat) : State :=
  let s := (s.setVar .retLane (lane.getD 0xFF : Nat)).setVar .retMs (((s.runNs : Int) - s.var .bSlewAt) / 1000000)
  { s with tc := { s.tc with bDone := true } }

/-- The lane selected, if one is (SEL_STATUS). -/
def State.cur (s : State) : Option Nat :=
  if s.get Reg.SEL_STATUS_CUR_VALID = 1 then some (s.get Reg.SEL_STATUS_CUR) else none

/-- One TCLK edge: the Time Core advances, a slew that begins to be reduced raises 0x0012, and the end of B_slew is noted (R58, R78, R497). -/
def State.tick (s : State) : State :=
  let was := s.tc.reduced
  let open_ := decide (s.tc.bSlew ≠ 0)
  let s := { s with tc := if s.dieBad 0 then s.tc.edgeStill s.slewLimit else s.tc.edge s.slewLimit }
  let s := if open_ ∧ s.tc.bSlew = 0 then s.noteRetired s.cur else s
  if s.tc.reduced ∧ ¬ was then s.raise evSlewClamped [i8 (toBits 64 s.tc.rateAdj), i8 (toBits 64 (truncDiv s.tc.slew (2 ^ 20)))] else s

/-- RATE_ADJ written by the discipline logic: outside ±RMAX it is clamped and RATE_CLAMPED is raised (R58). -/
def State.setRate (s : State) (x : Int) : State :=
  let y := clampI (-rMax) rMax x
  let s := { s with tc := { s.tc with rateAdj := y } }
  if y = x then s else s.raise evRateClamped [i8 (toBits 64 x)]

/-- One second in the Time Core's internal units. -/
def secUnits : Nat := secNs * nsUnit

/-- Whether a correction keeps SLEW_REMAIN within 1 s (R61). -/
def State.slewFits (s : State) (x : Int) : Bool := (s.tc.slew + x).natAbs ≤ secUnits

/-- A correction added to SLEW_REMAIN (R60). -/
def State.addSlew (s : State) (x : Int) : State := { s with tc := { s.tc with slew := s.tc.slew + x } }

/-- A correction from inside the engine: added, or refused whole with 0x0018 from its source (R61, R78). -/
def State.correct (s : State) (src : Nat) (x : Int) : State :=
  if s.slewFits x then s.addSlew x
  else s.raise evSlewRange [i1 src, i8 (toBits 64 (truncDiv x (2 ^ 20)))]

/-! ## Commands of the time and the rate (R77) -/

def opTimeReset : OpInfo := { op := 0x0201, role := 2, sent := true }
def opPhaseAdj : OpInfo := { op := 0x0202, role := 2 }
def opSlewLimitSet : OpInfo := { op := 0x0203, role := 2, carried := true }
def opStepThreshSet : OpInfo := { op := 0x0204, role := 2, carried := true }
def opLeapSet : OpInfo := { op := 0x0205, role := 2, carried := true }
def opUtcOffsetSet : OpInfo := { op := 0x0206, role := 2, carried := true }
def opCmpArm : OpInfo := { op := 0x0207, role := 1 }
def opCmpDisarm : OpInfo := { op := 0x0208, role := 1 }

/-- Offset of a change record that alters no register word (R440). -/
def noOffset : Nat := 0xFFFFFFFF

/-- PHASE_ADJ's effect: the offset, unit 2^-32 ns, added to SLEW_REMAIN, or RANGE (R61, R77). -/
def phaseAdjEff (offset : Int) (role : Nat) (s : State) : Res :=
  if s.slewFits (offset * 2 ^ 20) then
    let s := s.addSlew (offset * 2 ^ 20)
    ⟨s.change role 0x0000 0x0202 noOffset (toBits 32 offset) (toBits 64 offset / 2 ^ 32), some Status.ok, 0⟩
  else ⟨s, some Status.range, 0⟩

/-- PHASE_ADJ (R61, R77). -/
def execPhaseAdj (c : Ctx) (offset : Int) (s : State) : Host.Outcome State Fault Refusal :=
  .next (s.runCmd c opPhaseAdj [offset] (phaseAdjEff offset))

/-- SLEW_LIMIT_SET's effect: the pair set, one change record per word (R77, R440). -/
def slewLimitSetEff (limit : Nat) (role : Nat) (s : State) : Res :=
  if limit < 28147 ∨ 28147497671 < limit then ⟨s, some Status.range, 0⟩ else
  let lo := s.get Reg.SLEW_LIMIT_LO_SL_LO
  let hi := s.get Reg.SLEW_LIMIT_HI_SL_HI
  let s := s.put64 Reg.SLEW_LIMIT_LO_SL_LO Reg.SLEW_LIMIT_HI_SL_HI limit
  let s := s.change role 0x0000 0x0203 0x100050 lo (limit % 2 ^ 32)
  ⟨s.change role 0x0000 0x0203 0x100054 hi (limit / 2 ^ 32), some Status.ok, 0⟩

/-- SLEW_LIMIT_SET (R77). -/
def execSlewLimitSet (c : Ctx) (limit : Nat) (s : State) : Host.Outcome State Fault Refusal :=
  .next (s.runCmd c opSlewLimitSet [limit] (slewLimitSetEff limit))

/-- STEP_THRESH_SET's effect (R77). -/
def stepThreshSetEff (ns : Nat) (role : Nat) (s : State) : Res :=
  if 1000000000 < ns then ⟨s, some Status.range, 0⟩ else
  let old := s.get Reg.STEP_THRESH_THRESH
  let s := s.put Reg.STEP_THRESH_THRESH ns
  ⟨s.change role 0x0000 0x0204 0x100010 old ns, some Status.ok, 0⟩

/-- STEP_THRESH_SET (R77). -/
def execStepThreshSet (c : Ctx) (ns : Nat) (s : State) : Host.Outcome State Fault Refusal :=
  .next (s.runCmd c opStepThreshSet [ns] (stepThreshSetEff ns))

/-! ## Compares (R65 to R68) -/

/-- A compare target or instant as one number: LINEAR_NS with its 16-bit fraction. -/
def State.now80 (s : State) : Nat := s.at16 % 2 ^ 80

/-- The target of a compare unit, unit 2^-16 ns. -/
def State.cmpTgt (s : State) (n : Nat) : Nat :=
  (s.get (Reg.CMP_TGT_LO_TGT n) + 2 ^ 32 * s.get (Reg.CMP_TGT_HI_TGT n)) * 2 ^ 16 + s.get (Reg.CMP_TGT_FRAC_TGT n)

/-- A compare unit's target set. -/
def State.setCmpTgt (s : State) (n t : Nat) : State :=
  ((s.put (Reg.CMP_TGT_LO_TGT n) (t / 2 ^ 16)).put (Reg.CMP_TGT_HI_TGT n) (t / 2 ^ 48)).put (Reg.CMP_TGT_FRAC_TGT n) t

/-- The signed 80-bit difference of two instants (R66). -/
def diff80 (a b : Nat) : Int := ofBits 80 (toBits 80 ((a : Int) - b))

/-- A photo-finish trigger of a compare for its next member, where the compare and PF_CTRL call for it (R407). -/
def State.cmpPfTrigger (s : State) (n : Nat) : State :=
  if s.get (Reg.CMP_CTRL_ACT_PF n) = 1 ∧ s.get Reg.PF_CTRL_SRC_CMP = 1 then
    let t : Int := (s.at16 : Int) + max (diff80 (s.cmpTgt n) s.now80) pfLead16
    s.pfTrigger ⟨t.toNat, 0, n, 0, none, 0, false⟩
  else s

/-- CMP_ARM's effect (R65, R67, R77). The target and period are in units of 2^-16 ns. LATE and STEPPED of an earlier firing clear and
SKIPPED stays (DESIGN CHOICE, log entry 134). -/
def cmpArmEff (n mode : Nat) (actEvent actPf : Bool) (target period : Nat) (role : Nat) (s : State) : Res :=
  if 15 < n ∨ (mode ≠ 1 ∧ mode ≠ 2)
      ∨ 2 ^ 62 * 2 ^ 16 ≤ (diff80 (target % 2 ^ 80) s.now80).natAbs
      ∨ (mode = 2 ∧ (period < 1000 * 2 ^ 16 ∨ 2 ^ 40 * 2 ^ 16 < period)) then ⟨s, some Status.range, 0⟩
  else if s.get (Reg.CMP_CTRL_ARMED n) = 1 then ⟨s, some Status.busy, 0⟩
  else
    let late := decide (diff80 (target % 2 ^ 80) s.now80 ≤ 0)
    let s := (((s.put (Reg.CMP_CTRL_MODE n) mode).putB (Reg.CMP_CTRL_ACT_EVENT n) actEvent).putB
      (Reg.CMP_CTRL_ACT_PF n) actPf).put (Reg.CMP_CTRL_ARMED n) 1
    let s := (s.put (Reg.CMP_CTRL_LATE n) 0).put (Reg.CMP_CTRL_STEPPED n) 0
    let s := s.setCmpTgt n target
    let s := if mode = 2 then
        (((s.put (Reg.CMP_PER_LO_PER n) (period / 2 ^ 16)).put (Reg.CMP_PER_HI_PER n) (period / 2 ^ 48)).put
          (Reg.CMP_PER_FRAC_PER n) period).setVar (.cmpPer n) period
      else s
    let s := (s.setVar (.cmpLate n) (b2n late)).cmpPfTrigger n
    ⟨s.change role 0x0000 0x0207 noOffset n mode, some Status.ok, 0⟩

/-- CMP_ARM (R65, R67). -/
def execCmpArm (c : Ctx) (n mode : Nat) (actEvent actPf : Bool) (target period : Nat) (s : State) :
    Host.Outcome State Fault Refusal :=
  .next (s.runCmd c opCmpArm [n, mode, b2n actEvent, b2n actPf, target, period]
    (cmpArmEff n mode actEvent actPf target period))

/-- CMP_DISARM's effect: OK whether or not the unit was armed; its pending snapshot goes (R77). MODE, the actions and the target read on as
they were armed, as after a one-shot firing (DESIGN CHOICE, log entry 134). -/
def cmpDisarmEff (n : Nat) (role : Nat) (s : State) : Res :=
  if 15 < n then ⟨s, some Status.range, 0⟩ else
  let s := s.put (Reg.CMP_CTRL_ARMED n) 0
  let s := { s with pf := { s.pf with trigs := s.pf.trigs.filter fun t => ¬ (t.src = 0 ∧ t.cmp = n) } }
  ⟨s.change role 0x0000 0x0208 noOffset n 0, some Status.ok, 0⟩

/-- CMP_DISARM (R77). -/
def execCmpDisarm (c : Ctx) (n : Nat) (s : State) : Host.Outcome State Fault Refusal :=
  .next (s.runCmd c opCmpDisarm [n] (cmpDisarmEff n))

/-- The members of a series, from its next member on, whose instants lie at or before an instant; a one-shot's series is its target. -/
def cmpMembers (at80 tgt per : Nat) : Nat := if diff80 at80 tgt < 0 then 0 else (diff80 at80 tgt).toNat / per + 1

/-- A compare that fires now: FIRED, its flags, its event, the members passed, and its next member (R66 to R68). At a step edge `before` is
the time before the step: STEPPED says that members lie after it and at or before the new time, and SKIPPED counts those. A firing that is
neither late nor stepped clears LATE and STEPPED and leaves SKIPPED (DESIGN CHOICE, log entry 134). -/
def State.fireCmp (s : State) (n : Nat) (before : Option Nat) : State :=
  let tgt := s.cmpTgt n
  let late := decide (s.var (.cmpLate n) = 1)
  let periodic := decide (s.get (Reg.CMP_CTRL_MODE n) = 2)
  let per := if periodic then (s.var (.cmpPer n)).toNat else 0
  let at80 := s.now80
  let passed := cmpMembers at80 tgt per
  let jumped := match before with
    | some b => passed - cmpMembers b tgt per
    | none => 0
  let stepped := decide (0 < jumped)
  let s := ((s.put (Reg.CMP_FIRED_LO_FIRED n) (at80 / 2 ^ 16)).put (Reg.CMP_FIRED_HI_FIRED n) (at80 / 2 ^ 48)).put
    (Reg.CMP_FIRED_FRAC_FIRED n) at80
  let s := (s.putB (Reg.CMP_CTRL_LATE n) late).putB (Reg.CMP_CTRL_STEPPED n) stepped
  let s := if late then s.put Reg.TCO_STICKY_CMP_LATE 1 else s
  let s := if stepped then s.put Reg.TCO_STICKY_CMP_STEPPED 1 else s
  let s := s.setVar (.cmpLate n) 0
  let s := if periodic then
      let s := s.setCmpTgt n (tgt + passed * per)
      if late then s.put (Reg.CMP_CTRL_SKIPPED n) (min passed 65535)
      else if stepped then s.put (Reg.CMP_CTRL_SKIPPED n) (min jumped 65535) else s
    else s.put (Reg.CMP_CTRL_ARMED n) 0
  let s := if s.get (Reg.CMP_CTRL_ACT_EVENT n) = 1 then
      s.raise evCmpFired [i1 n, i8 (at80 / 2 ^ 16), i2 at80, i1 (b2n late + 2 * b2n stepped)]
    else s
  if periodic then s.cmpPfTrigger n else s

/-- Whether an armed compare's target is reached (R66). -/
def State.cmpReached (s : State) (n : Nat) : Bool :=
  s.get (Reg.CMP_CTRL_ARMED n) = 1 ∧ 0 ≤ diff80 s.now80 (s.cmpTgt n)

/-- CMP_FIRED: the edge at which a compare's target is reached (R66). -/
def execCmpFired (n : Nat) (s : State) : Host.Outcome State Fault Refusal :=
  .next (if n < 16 ∧ s.cmpReached n then s.fireCmp n none else s)

/-! ## Leap seconds and the smear (R69 to R72) -/

/-- Days from 1970-01-01 to a day of the Gregorian calendar. -/
def daysFromCivil (y m d : Nat) : Nat :=
  let y' := if m ≤ 2 then y - 1 else y
  let mp := (m + 9) % 12
  365 * y' + y' / 4 - y' / 100 + y' / 400 + (153 * mp + 2) / 5 + (d - 1) - 719468

/-- UTC midnight at which the month after a given one begins, in seconds since 1970 (R70). -/
def monthEnd (y m : Nat) : Nat := if m = 12 then daysFromCivil (y + 1) 1 1 * 86400 else daysFromCivil y (m + 1) 1 * 86400

/-- Present TAI seconds. -/
def State.secs (s : State) : Nat := s.ns / secNs

/-- CURRENT of UTC_OFFSET. -/
def State.utcNow (s : State) : Int := ofBits 16 (s.get Reg.UTC_OFFSET_CURRENT)

/-- L of the announcement, as LINEAR_NS (R70). -/
def State.leapAt (s : State) : Nat := s.get64 Reg.LEAP_AT_LO_LA_LO Reg.LEAP_AT_HI_LA_HI

/-- Whether the present lies at or after L plus some seconds. -/
def State.pastLeap (s : State) (plus : Int) : Bool := 0 ≤ linDiff s.linear s.leapAt - plus * secNs

/-- A leap offer refused: LEAP_CONFLICT sets, and 0x0016 is raised once for each distinct offer (R70). -/
def State.refuseLeap (s : State) (src kind : Nat) (sign l utc : Int) : State :=
  let o : LeapOffer := ⟨src, kind, sign, l, utc⟩
  if s.tc.offers.contains o then s.put Reg.TCO_STICKY_LEAP_CONFLICT 1
  else
    let s := { s with tc := { s.tc with offers := o :: s.tc.offers } }
    s.raise evLeapConflict [i1 src, i1 kind, i1 (toBits 8 sign), i8 (toBits 64 (l * secNs)), i2 (toBits 16 utc)]

/-- An announcement accepted: NEXT, L, sign and source stored, 0x0013 raised (R70). -/
def State.announceLeap (s : State) (src : Nat) (sign : Int) (l : Nat) : State :=
  let s := s.putI Reg.UTC_OFFSET_NEXT (s.utcNow + sign)
  let s := s.put64 Reg.LEAP_AT_LO_LA_LO Reg.LEAP_AT_HI_LA_HI (l * secNs % 2 ^ 64)
  let s := (s.put Reg.TCO_STATUS_LEAP_PENDING 1).putB Reg.TCO_STATUS_LEAP_SIGN (decide (sign < 0))
  (s.setVar .leapSrc src).raise evLeapAnnounced [i1 src, i1 (toBits 8 sign), i8 (l * secNs)]

/-- The announcement withdrawn: NEXT is CURRENT again, 0x0013 with sign 0 and the L withdrawn (R70). -/
def State.withdrawLeap (s : State) (src : Nat) : State :=
  let l := s.leapAt
  let s := s.put Reg.UTC_OFFSET_NEXT (s.get Reg.UTC_OFFSET_CURRENT)
  (s.put Reg.TCO_STATUS_LEAP_PENDING 0).raise evLeapAnnounced [i1 src, i1 0, i8 l]

/-- The signed size of the announced leap. -/
def State.leapSign (s : State) : Int := if s.get Reg.TCO_STATUS_LEAP_SIGN = 1 then -1 else 1

/-- Whether a lane whose source is GNSS is AVAILABLE or SELECTED (R70, R79). -/
def State.gnssLaneUp (s : State) : Bool :=
  (List.range 16).any fun n => s.get (Reg.LANE_CFG_SOURCE n) = 0x08
    ∧ (s.get (Reg.LANE_STATE_STATE n) = 3 ∨ s.get (Reg.LANE_STATE_STATE n) = 4)

/-- Whether LEAP_SRC leaves announcements to the host alone (R70). -/
def State.hostOnly (s : State) : Bool := s.get Reg.TCO_CTRL_LEAP_SRC = 1

/-- LEAP_SET's effect (R70, R71, R77). A withdrawal refused is an offer with sign 0, L 0 and CURRENT (DESIGN CHOICE, log entry 135). -/
def leapSetEff (year month : Nat) (sign : Int) (role : Nat) (s : State) : Res :=
  let l : Int := (monthEnd year month : Int) + s.utcNow + sign
  let held := decide (s.get Reg.TCO_STATUS_LEAP_PENDING = 1 ∧ s.var .leapSrc = 1 ∧ ¬ s.hostOnly ∧ s.gnssLaneUp)
  if s.get Reg.TCO_STATUS_LEAP_COMMITTED = 1 then ⟨s, some Status.leapCommitted, 0⟩
  else if (sign ≠ 1 ∧ sign ≠ -1 ∧ sign ≠ 0) ∨ month < 1 ∨ 12 < month ∨ year < 1970 ∨ 65535 < year then
    ⟨s, some Status.range, 0⟩
  else if sign = 0 then
    if s.get Reg.TCO_STATUS_LEAP_PENDING = 0 then ⟨s, some Status.ok, 0⟩
    else if held then ⟨s.refuseLeap 0 1 0 0 s.utcNow, some Status.leapConflict, 0⟩
    else ⟨(s.withdrawLeap 0).change role 0x0000 0x0205 0x100070 0 0, some Status.ok, 0⟩
  else if l * secUnits - s.tc.time < 43200 * secUnits then ⟨s, some Status.range, 0⟩
  else if held then ⟨s.refuseLeap 0 1 sign l (s.utcNow + sign), some Status.leapConflict, 0⟩
  else
    let old := s.get Reg.UTC_OFFSET_NEXT
    let s := s.announceLeap 0 sign l.toNat
    ⟨s.change role 0x0000 0x0205 0x100070 old (s.get Reg.UTC_OFFSET_NEXT), some Status.ok, 0⟩

/-- LEAP_SET (R70). -/
def execLeapSet (c : Ctx) (year month : Nat) (sign : Int) (s : State) : Host.Outcome State Fault Refusal :=
  .next (s.runCmd c opLeapSet [year, month, sign] (leapSetEff year month sign))

/-- UTC_OFFSET_SET's effect: CURRENT set; NEXT follows, with the announced leap on top while one is pending, and L
moves with it (R69, R71, R77). -/
def utcOffsetSetEff (current : Int) (role : Nat) (s : State) : Res :=
  if s.get Reg.TCO_STATUS_LEAP_COMMITTED = 1 then ⟨s, some Status.leapCommitted, 0⟩
  else if current < -32768 ∨ 32767 < current then ⟨s, some Status.range, 0⟩
  else
    let old := s.get Reg.UTC_OFFSET_CURRENT
    let move := current - s.utcNow
    let s := s.putI Reg.UTC_OFFSET_CURRENT current
    let s := if s.get Reg.TCO_STATUS_LEAP_PENDING = 1 then
        (s.putI Reg.UTC_OFFSET_NEXT (current + s.leapSign)).put64 Reg.LEAP_AT_LO_LA_LO Reg.LEAP_AT_HI_LA_HI
          (toBits 64 ((s.leapAt : Int) + move * secNs))
      else s.putI Reg.UTC_OFFSET_NEXT current
    ⟨s.change role 0x0000 0x0206 0x100070 old (s.get Reg.UTC_OFFSET_CURRENT), some Status.ok, 0⟩

/-- UTC_OFFSET_SET (R71, R77). -/
def execUtcOffsetSet (c : Ctx) (current : Int) (s : State) : Host.Outcome State Fault Refusal :=
  .next (s.runCmd c opUtcOffsetSet [current] (utcOffsetSetEff current))

/-- LEAP_COMMITTED: at L - 43,200 s the announcement is committed and the smear window opens (R71, R72). -/
def execLeapCommitted (s : State) : Host.Outcome State Fault Refusal :=
  .next (
    if s.get Reg.TCO_STATUS_LEAP_PENDING = 1 ∧ s.get Reg.TCO_STATUS_LEAP_COMMITTED = 0 ∧ s.pastLeap (-43200) then
      let s := (s.put Reg.TCO_STATUS_LEAP_COMMITTED 1).put Reg.TCO_STATUS_SMEAR_ACTIVE 1
      let s := ((s.setVar .smearL (s.leapAt / secNs : Nat)).setVar .smearSign s.leapSign).setVar .smearBefore s.utcNow
      s.raise evLeapCommitted [i1 (toBits 8 s.leapSign), i8 s.leapAt]
    else s)

/-- LEAP_APPLIED: at L, CURRENT takes NEXT and the announcement ends (R71). -/
def execLeapApplied (s : State) : Host.Outcome State Fault Refusal :=
  .next (
    if s.get Reg.TCO_STATUS_LEAP_COMMITTED = 1 ∧ s.pastLeap 0 then
      let s := s.put Reg.UTC_OFFSET_CURRENT (s.get Reg.UTC_OFFSET_NEXT)
      let s := (s.put Reg.TCO_STATUS_LEAP_PENDING 0).put Reg.TCO_STATUS_LEAP_COMMITTED 0
      s.raise evLeapApplied [i2 (s.get Reg.UTC_OFFSET_CURRENT)]
    else s)

/-- SMEAR_END: at L + 43,200 s the smear window closes (R72). -/
def execSmearEnd (s : State) : Host.Outcome State Fault Refusal :=
  .next (
    if s.get Reg.TCO_STATUS_SMEAR_ACTIVE = 1 ∧ (s.var .smearL + 43200) ≤ s.secs then
      s.put Reg.TCO_STATUS_SMEAR_ACTIVE 0
    else s)

/-- The smear offset of R72 at the present, unit 2^-32 ns, truncated toward zero; 0 outside the window. -/
def State.smear32 (s : State) : Int :=
  if s.get Reg.TCO_STATUS_SMEAR_ACTIVE = 1 then
    truncDiv (s.var .smearSign * ((s.tc.time : Int) - (s.var .smearL - 43200) * secUnits)) (86400 * 2 ^ 20)
  else 0

/-- A leap that a package reset found announced: NEXT and LEAP_AT were kept, and with the time loaded the leap is pending again, as the
host's (R69; DESIGN CHOICE, log entry 136). -/
def State.resumeLeap (s : State) : State :=
  let size := ofBits 16 (s.get Reg.UTC_OFFSET_NEXT) - s.utcNow
  if size = 0 then s
  else ((s.put Reg.TCO_STATUS_LEAP_PENDING 1).putB Reg.TCO_STATUS_LEAP_SIGN (decide (size < 0))).setVar .leapSrc 0

/-! ## The time bus (R73 to R76) -/

/-- A marker's 400 bits before its CRC as one number, the first field in the most significant bits (R73). -/
def markerWord (seq time32 : Nat) (rate : Int) (teb trace state flags utc : Nat) (step smear : Int) (delay : Nat) : Nat :=
  let ns := time32 / 2 ^ 32
  [(8, seq), (48, ns / secNs), (32, ns % secNs), (32, time32), (48, toBits 48 rate), (32, teb), (32, trace), (3, state), (8, flags),
    (32, utc), (64, toBits 64 step), (40, toBits 40 smear), (16, delay), (5, 0)].foldl (fun w f => w * 2 ^ f.1 + f.2 % 2 ^ f.1) 0

/-- A marker's 416 bits as bytes, most significant bit first, with the CRC-16 of R199's parameters over the 400 bits before it (R73; DEDUCED,
log entry 137). -/
def markerBits (w : Nat) : List Byte := beBytes 50 w ++ beBytes 2 (crc16 (beBytes 50 w) 0xFFFF)

/-- MARKER_LAUNCH: at the crossing edge of a multiple of 1,600 ns a marker is launched; the first after a step
decision announces the step (R63, R73). -/
def execMarkerLaunch (s : State) : Host.Outcome State Fault Refusal :=
  .next (
    if ¬ s.atCrossing 1600 .markerEdge then s else
    let plan := match s.tc.plan with
      | some p => if p.edge < s.tc.edges then some { p with launches := p.launches + 1 } else some p
      | none => none
    let stepNext := match plan with
      | some p => decide (p.launches = 1)
      | none => false
    let size := match plan with
      | some p => if p.launches = 1 then p.whole else 0
      | none => 0
    let flags := b2n stepNext + 2 * s.get Reg.TCO_STATUS_LEAP_PENDING + 4 * s.get Reg.TCO_STATUS_LEAP_SIGN
      + 8 * s.get Reg.TCO_STATUS_LEAP_COMMITTED + 16 * s.get Reg.TCO_STATUS_SMEAR_ACTIVE + 32 * s.get Reg.HOB_STATUS_TEB_SAT
    let announced := match plan with
      | some p => if p.launches = 2 then p.whole else 0
      | none => 0
    let utc := s.get Reg.UTC_OFFSET_CURRENT + 2 ^ 16 * s.get Reg.UTC_OFFSET_NEXT
    let w := markerWord (s.var .markerSeq).toNat (s.tc.time / 2 ^ 20) s.tc.rt (s.get Reg.HOB_TEB_TEB) (s.get Reg.HOB_TRACE_TRACE)
      (s.get Reg.HOB_STATUS_STATE) flags utc size (truncDiv s.smear32 (2 ^ 24)) (s.get Reg.TB_DELAY_DELAY)
    let m : Out := .marker (s.var .markerSeq).toNat (s.tc.time / 2 ^ 20) s.tc.rt (s.get Reg.HOB_TEB_TEB)
      (s.get Reg.HOB_TRACE_TRACE) (s.get Reg.HOB_STATUS_STATE) flags utc size (truncDiv s.smear32 (2 ^ 24))
      (s.get Reg.TB_DELAY_DELAY) (markerBits w)
    let s := { s with tc := { s.tc with plan := plan }, out := m :: s.out }
    let s := ((s.setVar .markerTime (s.tc.time / 2 ^ 20 : Nat)).setVar .markerDelay (s.get Reg.TB_DELAY_DELAY : Nat)).setVar .markerStep announced
    let s := s.setVar .markerRate s.tc.rt
    (s.doneAt .markerEdge).setVar .markerSeq ((s.var .markerSeq + 1) % 256))

/-- State of a port's time bus receiver: 0 CALIBRATING, 1 TRACKING, 2 UNSURE, 3 OFF (R76). -/
def State.tbState (s : State) (p : Nat) : Nat := s.get Reg.TB_STATUS_STATE / 4 ^ p % 4

/-- The run of good markers of a port broken: the next good one is the first of a new run (R76). -/
def State.breakRun (s : State) (p : Nat) : State := (s.setVar (.tbGood p) 0).setPort p { s.port p with trips := [] }

/-- A port's time bus state set, with its TB_TRACKING bit; one that begins to calibrate, or is off, begins a new run of markers (R76). -/
def State.setTb (s : State) (p v : Nat) : State :=
  let old := s.get Reg.TB_STATUS_STATE
  let s := if v = 0 ∨ v = 3 then s.breakRun p else s
  (s.put Reg.TB_STATUS_STATE (old - s.tbState p * 4 ^ p + v * 4 ^ p)).putBit Reg.TCO_STATUS_TB_TRACKING p (decide (v = 1))

/-- A port goes UNSURE: its bit sets, 0x0411 is raised with its cause (R76, R78). -/
def State.tbUnsure (s : State) (p cause : Nat) : State :=
  let s := ((s.setTb p 2).setVar (.tbUnsureAt p) s.runNs).breakRun p
  (s.putBit Reg.TCO_STICKY_TB_UNSURE_SEEN p true).raise (evTb 1 .warning) [i1 p, i1 cause]

/-- The fused return turnaround of the time bus, unit 2^-10 ns (R75, R498). -/
def turnaround : Nat := Config.fused 0x1_0000_0000

/-- DELAY from a measured round trip, unit 2^-10 ns (R75). It is formed anew from each marker's round trip, with half a unit dropped
(DESIGN CHOICE, log entry 138). -/
def State.busDelay (s : State) (roundTrip : Nat) : Int :=
  ((roundTrip : Int) - turnaround) / 2 + s.getI Reg.TB_ASYM_ASYM

/-- Whether a port error, unit 2^-10 ns, is below 20 ps (R76). -/
def errSmall (err : Int) : Bool := err.natAbs * 1000 < 20 * 1024

/-- A port's error at the arrival of the last marker launched, unit 2^-10 ns: (TIME + DELAY + TB_SKEW_p) less the port counter then. A
marker launched at a step edge carries the time before the step, and the port has stepped: the step announced counts (R73, R74; DEDUCED,
log entry 139). -/
def State.portError (s : State) (p : Nat) (counter : Int) : Int :=
  s.var .markerTime / 2 ^ 22 + s.var .markerStep * 1024 + s.var .markerDelay + s.getI (Reg.TB_SKEW_SKEW p) - counter

/-- Whether round trips, unit 2^-10 ns, have a spread below 4 ps rms about their mean (R76). -/
def tripsSteady (xs : List Nat) : Bool :=
  let n := xs.length
  let a := xs.foldl (· + ·) 0
  let b := xs.foldl (fun t x => t + x * x) 0
  decide ((n * b - a * a) * 1000 ^ 2 < n ^ 2 * 4096 ^ 2)

/-- What a port counter reads at the present edge, unit 2^-52 ns (R74). -/
def State.portCounter (s : State) (p : Nat) : Int :=
  s.var (.portCtr p) + 25 * (2 ^ 48 + s.var (.portRate p)) * ((s.tc.edges : Int) - s.var (.portAt p))

/-- A port counter at a good marker, as it read, unit 2^-10 ns: RATE is fed forward, the servo that the error drives moves the counter and its
rate by amounts the spec leaves open, and an announced step waits for the next launch edge by the counter's own time (R74; DESIGN CHOICE,
log entry 177). -/
def State.portServo (s : State) (p : Nat) (counter : Int) : State :=
  let (x, s) := s.takeFreeInt
  let (y, s) := s.takeFreeInt
  let s := ((s.setVar (.portCtr p) (counter * 2 ^ 42 + x)).setVar (.portAt p) s.tc.edges).setVar (.portRate p) (s.var .markerRate + y)
  match s.tc.plan with
  | some plan => if plan.launches = 1
      then (s.setVar (.portStep p) plan.whole).setVar (.portStepAt p) ((s.var .markerTime / 2 ^ 32 / 1600 + 1) * 1600) else s
  | none => s

/-- A marker arriving at a port: with its CRC good or not, the port counter at its first bit and the round trip, both in units of 2^-10 ns.
The spread is that of the round trips of the last 256 good markers running, whatever the last operand (R74 to R76; log entry 177). -/
def State.markerArrival (s : State) (p : Nat) (crcOk : Bool) (counter : Int) (roundTrip : Nat) (_steady : Bool) : State :=
  if 3 < p ∨ s.tbState p = 3 then s
  else if ¬ crcOk then
    let s := (s.bump (Reg.TB_MISS_MISS p)).breakRun p
    if s.tbState p = 1 then s.tbUnsure p 2 else s
  else
    let err := s.portError p counter
    let s := (s.putI (Reg.TB_ERR_ERR p) (satI 16 err)).portServo p counter
    let s := s.put (Reg.TB_PEAK_PEAK p) (max (s.get (Reg.TB_PEAK_PEAK p)) (min err.natAbs 65535))
    let s := s.putI Reg.TB_DELAY_DELAY (s.busDelay roundTrip)
    if ¬ errSmall err then
      let s := s.breakRun p
      if s.tbState p = 1 then s.tbUnsure p 3 else s
    else
      let good := s.var (.tbGood p) + 1
      let s := (s.setVar (.tbGood p) good).setPort p { s.port p with trips := (roundTrip :: (s.port p).trips).take 256 }
      let s := s.arm (.tbQuiet p) 1000000
      if s.tbState p = 0 ∧ 256 ≤ good ∧ tripsSteady (s.port p).trips then
        (s.setTb p 1).raise (evTb 0 .info) [i1 p, i2 (s.get Reg.TB_DELAY_DELAY)]
      else if s.tbState p = 2 ∧ 4 ≤ good then
        (s.setTb p 1).raise (evTb 2 .info) [i1 p, i4 (((s.runNs : Int) - s.var (.tbUnsureAt p)) / 1000).toNat]
      else s

/-- MARKER_MISSED at a port (R76). -/
def execMarkerMissed (p : Nat) (s : State) : Host.Outcome State Fault Refusal :=
  .next (
    if 3 < p ∨ s.tbState p = 3 then s else
    let s := (s.bump (Reg.TB_MISS_MISS p)).breakRun p
    if s.tbState p = 1 then s.tbUnsure p 1 else s)

/-- Whether a port counter reaches the instant at which it makes its step at this edge (R59, R74). -/
def State.portStepDue (s : State) (p : Nat) : Bool :=
  let m := s.var (.portStepAt p) * nsUnit
  decide (s.var (.portStep p) ≠ 0 ∧ m ≤ s.portCounter p ∧ s.portCounter p - 25 * (2 ^ 48 + s.var (.portRate p)) < m)

/-- PORT_COUNTER_STEP: a port counter applies the announced step at the edge at which its own time reaches the next launch edge (R74). -/
def execPortCounterStep (p : Nat) (s : State) : Host.Outcome State Fault Refusal :=
  .next (
    if p < 4 ∧ s.tbState p ≠ 3 ∧ s.portStepDue p
    then (s.setVar (.portCtr p) (s.var (.portCtr p) + s.var (.portStep p) * nsUnit)).setVar (.portStep p) 0 else s)

end Sys2Proof.Machine
end

