-- ==== Sys2Proof/Machine/Lanes.lean ====
section
/-! DEFINITION. Reference lanes (R79 to R102): sources and types, the quantities kept of each lane, its hurdles, its
gates, its state machine, disagreements and their allowances. -/

namespace Sys2Proof.Machine

/-! ## Records and plain readings -/

/-- What the selector keeps of a lane. -/
def State.lane (s : State) (n : Nat) : LaneRec := (aget s.lanes n).getD {}

/-- The record of a lane set. -/
def State.setLane (s : State) (n : Nat) (r : LaneRec) : State := { s with lanes := aput s.lanes n r }

/-- A lane's state code (R88), type, source, rank. -/
def State.laneSt (s : State) (n : Nat) : Nat := s.get (Reg.LANE_STATE_STATE n)
@[inherit_doc State.laneSt] def State.laneType (s : State) (n : Nat) : Nat := s.get (Reg.LANE_CFG_TYPE n)
@[inherit_doc State.laneSt] def State.laneSrc (s : State) (n : Nat) : Nat := s.get (Reg.LANE_CFG_SOURCE n)
@[inherit_doc State.laneSt] def State.laneRank (s : State) (n : Nat) : Nat := s.get (Reg.LANE_CFG_RANK n)

/-- The sixteen lanes. -/
def allLanes : List Nat := List.range 16

/-- Whether a lane is AVAILABLE or SELECTED. -/
def State.laneFit (s : State) (n : Nat) : Bool := s.laneSt n = 3 ∨ s.laneSt n = 4

/-- Whether a lane carries phase: PHASE or TIME. -/
def State.lanePT (s : State) (n : Nat) : Bool := s.laneType n = 1 ∨ s.laneType n = 2

/-- The forced lane, if one is (R108). -/
def State.forced (s : State) : Option Nat :=
  if s.var .forcedLane = 0 then none else some (s.var .forcedLane - 1).toNat

/-- LANE_OFFSET, unit 2^-16 ns. -/
def State.laneOffset (s : State) (n : Nat) : Int := s.getI64 (Reg.LANE_OFFSET_LO_OFS_LO n) (Reg.LANE_OFFSET_HI_OFS_HI n)

/-- U_L of R129: the source's uncertainty, 0 for a REFIN lane, LANE_U and LANE_ALLOW, unit 2^-8 ns. -/
def State.laneU (s : State) (n : Nat) : Nat :=
  (if s.laneSrc n < 8 then 0 else (s.lane n).uSrc) + s.get (Reg.LANE_U_U n) + s.get (Reg.LANE_ALLOW_ALLOW n)

/-- Whether a source is the SyncE recovered clock of a port (R79). -/
def isSyncE (source : Nat) : Bool := 0x10 ≤ source ∧ source ≤ 0x13

/-- Whether a lane's source is the partner's time (R79). -/
def State.isPartner (s : State) (n : Nat) : Bool := s.laneSrc n = 0x14

/-- A lane's nominal frequency, unit 2^-4 Hz: LANE_NOMINAL, but for a SyncE lane the one its port's mode gives (R80, R323). -/
def State.laneNom (s : State) (n : Nat) : Nat :=
  if isSyncE (s.laneSrc n) then (if s.get (Reg.PORT_CFG_MODE (s.laneSrc n - 0x10)) = 0 then 2000000000 else 2500000000)
  else s.get (Reg.LANE_NOMINAL_NOMINAL n)

/-- Whether R79 allows a type for a source. -/
def typeAllowed (source type : Nat) : Bool :=
  if source < 8 then type = 0 ∨ type = 1 ∨ type = 3
  else if source = 0x08 ∨ (0x0C ≤ source ∧ source ≤ 0x0F) ∨ source = 0x14 then type = 2
  else if 0x10 ≤ source ∧ source ≤ 0x13 then type = 0
  else false

/-- Whether R80 allows a nominal frequency, unit 2^-4 Hz, for a type. -/
def nominalAllowed (type nom : Nat) : Bool :=
  if type = 2 then true
  else if type = 1 then nom = 16 ∨ nom = 8
  else 16000 ≤ nom ∧ nom ≤ 4000000000

/-- Whether a lane's source, type and nominal frequency agree (R79, R80); a SyncE lane's nominal frequency is its port's (R323). -/
def State.laneCfgOk (s : State) (n : Nat) : Bool :=
  typeAllowed (s.laneSrc n) (s.laneType n) && nominalAllowed (s.laneType n) (s.laneNom n)

/-- A phase in units of 2^-16 ns folded into half a period either way, the period being that of a frequency in units of
2^-4 Hz (R80, R85). -/
def foldPhase (x : Int) (nom : Nat) : Int :=
  x - roundDiv (roundDiv (x * nom) 1048576000000000 * 1048576000000000) nom

/-- The rank of an ESMC quality level: 1 the best, 5 QL-DNU and every code not named (R324). -/
def qlRank (code : Nat) : Nat :=
  if code = 0x2 then 1 else if code = 0x4 then 2 else if code = 0x8 then 3 else if code = 0xB then 4 else 5

/-- Whether the QL gate of a SyncE lane fails (R90). -/
def State.qlFails (s : State) (n : Nat) : Bool :=
  let m := s.get (Reg.LANE_CFG_QL_MIN n)
  let r := qlRank (s.get (Reg.LANE_QL_QL n))
  decide (isSyncE (s.laneSrc n) ∧ m ≠ 0
    ∧ (s.get (Reg.LANE_QL_QL_VALID n) = 0 ∨ qlRank m < r ∨ r = 5))

/-- AVG_WIN in ns. -/
def State.avgWin (s : State) : Nat := s.get Reg.SEL_TIMERS_AVG_WIN * secNs

/-! ## Lines through points -/

/-- Sums of a list of points: n, Σt, Σx, Σt², Σtx. -/
def lineSums : List (Int × Int) → Int × Int × Int × Int × Int
  | [] => (0, 0, 0, 0, 0)
  | (t, x) :: ps =>
    let (n, a, b, c, d) := lineSums ps
    (n + 1, a + t, b + x, c + t * t, d + t * x)

/-- The least-squares line through points, at an instant, rounded to nearest; the mean when all lie at one instant. -/
def lineAt (ps : List (Int × Int)) (t : Int) : Int :=
  let (n, st, sx, stt, stx) := lineSums ps
  let d := n * stt - st * st
  if d = 0 then roundDiv sx n.toNat
  else roundDiv (sx * d + (n * stx - st * sx) * (n * t - st)) (n * d).toNat

/-- The least-squares slope through points, times a scale, rounded to nearest. -/
def lineSlope (ps : List (Int × Int)) (scale : Int) : Int :=
  let (n, st, sx, stt, stx) := lineSums ps
  let d := n * stt - st * st
  if d = 0 then 0 else roundDiv ((n * stx - st * sx) * scale) d.toNat

/-- The offset of a lane at the present edge: on the fit over AVG_WIN for a lane measured at its epochs, pulses or exchanges, a PHASE
lane's folded; else its latest offset (R85, R103). -/
def State.offsetNow (s : State) (n : Nat) : Int :=
  let h := (s.lane n).hist
  if s.lanePT n ∧ 2 ≤ h.length then
    let x := lineAt (h.map fun p => ((p.run : Int) - s.tc.run, p.u)) 0 - s.var .stepSum
    if s.laneType n = 2 then x else foldPhase x (s.laneNom n)
  else s.laneOffset n

/-! ## A measurement's quantities (R85) -/

/-- The phase of a lane against the reference frequency at one of its measurements, unit 2^-52 ns: its offset, and what
the Time Core advanced beyond r_m since reset. -/
def LanePt.refPhase (p : LanePt) : Int := p.u * 2 ^ 36 + ((p.run : Int) - 25 * 2 ^ 48 * p.edges) - p.ref

/-- The phase of a lane against the oscillator itself, unit 2^-52 ns. -/
def LanePt.rawPhase (p : LanePt) : Int := p.u * 2 ^ 36 + ((p.run : Int) - 25 * 2 ^ 48 * p.edges)

/-- y_L from the first and the last measurement of AVG_WIN, unit 2^-48 (R85). -/
def meanFreq (new old : LanePt) : Int :=
  if new.run ≤ old.run then 0 else roundDiv ((new.refPhase - old.refPhase) * 2 ^ 48) (new.run - old.run)

/-- q_H between two measurements, unit 2^-48 (R123). -/
def lapFreq (new old : LanePt) : Int :=
  if new.edges ≤ old.edges then 0 else roundDiv (new.rawPhase - old.rawPhase) (25 * (new.edges - old.edges))

/-- The RMS of residuals, rounded up (R85, R129). -/
def rmsOf (xs : List Int) : Nat :=
  if xs = [] then 0 else ceilSqrt (ceilDiv (xs.foldl (fun a x => a + x.natAbs * x.natAbs) 0) xs.length)

/-- The measurements of a lane with one added, those older than AVG_WIN dropped. -/
def keepPts (win now : Nat) (h : List LanePt) : List LanePt := h.filter fun p => decide (now ≤ p.run / nsUnit + win)

/-- A measured offset of a lane, dated by the point it holds for, brought into its registers and averages: offset, y_L, D_L and, for a
HOLDOVER lane, q_H (R85, R103, R123). D_L is fitted to at most one y_L a second, the first of which is 0, no two measurements being there (DESIGN CHOICE, log
entry 140). -/
def State.measureLane (s : State) (n : Nat) (raw : Int) (m : Mark) : State :=
  let r := s.lane n
  let nom := s.laneNom n
  let off := if s.laneType n = 2 then raw else foldPhase raw nom
  let u := match r.hist with
    | p :: _ => if s.laneType n = 2 then off + m.steps
        else p.u + foldPhase (off + m.steps - p.u) nom
    | [] => off + m.steps
  let pt : LanePt := ⟨m.run, m.edges, u, m.ref⟩
  let old := keepPts s.avgWin s.runNs r.hist
  let y := match old.getLast? with
    | some p => meanFreq pt p
    | none => 0
  let ys := match r.ys with
    | (t, _) :: _ => if t + secNs ≤ s.runNs then (s.runNs, y) :: r.ys else r.ys
    | [] => [(s.runNs, y)]
  let ys := ys.filter fun p => decide (s.runNs ≤ p.1 + 10 * s.avgWin)
  let d := lineSlope (ys.map fun p => ((p.1 : Int) - s.runNs, p.2)) (4096 * secNs)
  let q := match r.hist with
    | p :: _ => some (lapFreq pt p)
    | [] => r.q
  let s := s.putI64 (Reg.LANE_OFFSET_LO_OFS_LO n) (Reg.LANE_OFFSET_HI_OFS_HI n) off
  let s := (s.putI (Reg.LANE_FOFF_FOFF n) (satI 32 y)).putI (Reg.LANE_DRIFT_DRIFT n) (satI 32 d)
  s.setLane n { r with up := true, hist := pt :: old, ys, y, d, q := if s.laneType n = 3 then q else none,
                       since := if r.hist = [] then s.runNs else r.since }

/-- A residual of a lane, unit 2^-8 ns, brought into LANE_RESID and σ_res; on a PHASE or TIME lane one that crosses PHASE_LIMIT from within
PHASE_WARN is a jump (R85, R92, R93). -/
def State.residual (s : State) (n : Nat) (x : Int) : State :=
  let r := s.lane n
  let xs := (x :: r.resids).take 64
  let jump := s.lanePT n && decide (s.get (Reg.PHASE_LIMIT_HURDLE n) < x.natAbs ∧ r.res.natAbs ≤ s.get (Reg.PHASE_WARN_HURDLE n)
    ∧ r.resids ≠ [])
  let s := (s.putI (Reg.LANE_RESID_RESID n) (satI 32 x)).put (Reg.LANE_SIGMA_SIGMA n) (min (rmsOf xs) (2 ^ 32 - 1))
  s.setLane n { r with resids := xs, res := x, jump := r.jump || jump }

/-- The deviation of a lane's latest offset from a line through those of AVG_WIN, unit 2^-8 ns (R85). -/
def State.fitResidual (s : State) (n : Nat) : Int :=
  match (s.lane n).hist with
  | p :: ps => roundDiv (p.u - lineAt ((p :: ps).map fun q => ((q.run : Int) - p.run, q.u)) 0) 256
  | [] => 0

/-! ## The state machine (R88) -/

/-- What the selector keeps of a lane with its averages begun anew (R85, R88). -/
def LaneRec.fresh (r : LaneRec) : LaneRec :=
  { r with hist := [], ys := [], resids := [], warn := 0, xfail := false, xpass := false, jump := false, y := 0, d := 0, res := 0, q := none }

/-- A lane held to no earlier shadow (R102). -/
def State.dropShadow (s : State) (n : Nat) : State :=
  if (s.lane n).shadow.isSome then s.setLane n { s.lane n with shadow := none } else s

/-- A lane's state and cause set; a change raises 0x0020, and loads or stops the timers of QUALIFYING and DISQUALIFIED; a
lane that goes LOST or DISABLED begins its averages anew (R88). -/
def State.laneTo (s : State) (n st cause : Nat) : State :=
  let old := s.laneSt n
  let s := s.put (Reg.LANE_STATE_CAUSE n) cause
  if old = st then s else
  let s := (s.put (Reg.LANE_STATE_STATE n) st).raise (evLaneState n) [i1 n, i1 old, i1 st, i1 cause]
  let s := (s.stopTimer (.qual n)).stopTimer (.disq n)
  let s := if st = 5 then s else s.dropShadow n
  if st = 2 then s.arm (.qual n) (s.get (Reg.LANE_TIMERS_QUAL_TIME n) * secNs)
  else if st = 6 ∧ s.get (Reg.LANE_TIMERS_DISQ_HOLD n) ≠ 0 then s.arm (.disq n) (s.get (Reg.LANE_TIMERS_DISQ_HOLD n) * secNs)
  else if st = 0 ∨ st = 1 then
    let r := s.lane n
    (s.put (Reg.LANE_STATE_WARN n) 0).setLane n { r.fresh with los := false, up := r.up && decide (st = 1) }
  else s

/-- Whether an engine state is HOLDOVER or HOLDOVER_EXCEEDED (R107). -/
def State.inHoldover (s : State) : Bool := s.get Reg.HOB_STATUS_STATE = 3 ∨ s.get Reg.HOB_STATUS_STATE = 4

/-- Whether the fence of its unit, or the want of a TDC lane, takes a lane's signal (R44, R156). -/
def State.laneFenced (s : State) (n : Nat) : Bool := s.unitFenced (0x0100 + n) || decide (s.var (.tdcLost n) = 1)

/-- Whether a lane's unit works: one that is not ENABLED takes no measurement, and its signal counts as lost (R40; DEDUCED, log entry 90). -/
def State.laneOn (s : State) (n : Nat) : Bool := s.unitOn (0x0100 + n)

/-- The cause that keeps or brings a lane LOST, if one holds: a configuration that does not agree (R79), else a fence, LOS and
the QL gate (R89). -/
def State.lostCause (s : State) (n : Nat) : Option Nat :=
  if ¬ s.laneCfgOk n then some 6
  else if s.laneFenced n then some 10
  else if ¬ (s.lane n).up ∨ (s.lane n).los ∨ ¬ s.laneOn n then some 1
  else if s.qlFails n then some 5
  else none

/-- The magnitude compared with hurdle pair k of a lane: 0 y_L, 1 D_L, 2 the residual; none where it does not apply (R92). -/
def State.hurdleValue (s : State) (n k : Nat) : Option Nat :=
  let r := s.lane n
  if k = 0 then some r.y.natAbs
  else if k = 1 then (if r.since + 10 * s.avgWin ≤ s.runNs ∧ r.ys ≠ [] then some r.d.natAbs else none)
  else (if s.lanePT n then some r.res.natAbs else none)

/-- Warning and limit hurdle k of a lane. -/
def State.hurdleWarn (s : State) (n k : Nat) : Nat :=
  if k = 0 then s.get (Reg.FREQ_WARN_HURDLE n) else if k = 1 then s.get (Reg.DRIFT_WARN_HURDLE n) else s.get (Reg.PHASE_WARN_HURDLE n)
@[inherit_doc State.hurdleWarn] def State.hurdleLimit (s : State) (n k : Nat) : Nat :=
  if k = 0 then s.get (Reg.FREQ_LIMIT_HURDLE n) else if k = 1 then s.get (Reg.DRIFT_LIMIT_HURDLE n)
  else s.get (Reg.PHASE_LIMIT_HURDLE n)

/-- The signed value shown in the event of hurdle k. -/
def State.hurdleItem (s : State) (n k : Nat) : Item :=
  let r := s.lane n
  i4 (toBits 32 (satI 32 (if k = 0 then r.y else if k = 1 then r.d else r.res)))

/-- Whether limit hurdle k of a lane is crossed. -/
def State.limitCrossed (s : State) (n k : Nat) : Bool :=
  match s.hurdleValue n k with
  | some v => decide (s.hurdleLimit n k < v)
  | none => false

/-- A lane's warning k taken back: it no longer stands crossed (R92). -/
def State.warnOff (s : State) (n k : Nat) : State :=
  let r := s.lane n
  let w := clrBit r.warn k
  ((s.setLane n { r with warn := w }).putB (Reg.LANE_STATE_WARN n) (decide (w ≠ 0))).stopTimer (.warn n k)

/-- Hurdle pair k of a lane judged: sticky bits and events for what is crossed; a warning ends when the quantity has
stayed within it for AVG_WIN (R92, R93). -/
def State.judgeHurdle (s : State) (n k : Nat) : State :=
  match s.hurdleValue n k with
  | none => s
  | some v =>
    let s := if s.hurdleWarn n k < v then
        let r := s.lane n
        let s := s.setLane n { r with warn := setBit r.warn k, driftAt := if k = 1 ∧ ¬ bit r.warn 1 then s.runNs else r.driftAt }
        let s := (s.put (Reg.LANE_STATE_WARN n) 1).arm (.warn n k) s.avgWin
        s.raise (evLane n (1 + 2 * k)) [i1 n, s.hurdleItem n k]
      else if bit (s.lane n).warn k ∧ s.due (.warn n k) then s.warnOff n k
      else s
    if s.hurdleLimit n k < v then s.raise (evLane n (2 + 2 * k)) [i1 n, s.hurdleItem n k] else s

/-- A PHASE_JUMP between two measurements noted (R93). -/
def State.judgeJump (s : State) (n : Nat) : State :=
  let r := s.lane n
  if r.jump then
    (s.setLane n { r with jump := false }).raise (evLane n 7)
      [i1 n, i8 (toBits 64 (s.laneOffset n)), i4 (s.get (Reg.PHASE_LIMIT_HURDLE n))]
  else s

/-- The first limit hurdle crossed, as its cause code (R88): 2 frequency, 3 drift, 4 phase. -/
def State.limitCause (s : State) (n : Nat) : Option Nat :=
  if s.limitCrossed n 0 then some 2 else if s.limitCrossed n 1 then some 3 else if s.limitCrossed n 2 then some 4 else none

/-- The configuration of a lane as one value. -/
def State.laneCfg (s : State) (n : Nat) : Nat × Nat × Nat := (s.laneSrc n, s.laneType n, s.get (Reg.LANE_NOMINAL_NOMINAL n))

/-- A LANE_CLEAR that waits, applied before the lap's own judgement (R111). -/
def State.laneClearNow (s : State) (n : Nat) : State :=
  let r := s.lane n
  if r.clear then
    let s := s.setLane n { r with clear := false, xfail := false }
    if s.laneSt n = 5 ∨ s.laneSt n = 6 then s.laneTo n 2 0 else s
  else s

/-- Whether a lane is the forced one and SUSPECT: the force is taken first, and makes it SELECTED at this boundary (R109, R111). -/
def State.forcedSuspect (s : State) (n : Nat) : Bool := s.forced = some n ∧ s.laneSt n = 5

/-- A limit crossed: QUALIFYING begins again with its state and cause as they are, AVAILABLE or SELECTED becomes DISQUALIFIED, and so does a
SUSPECT lane that a force makes SELECTED (R88, R92, R93, R95, R111). -/
def State.judgeLimit (s : State) (n st : Nat) : State :=
  match s.limitCause n with
  | none => s
  | some c =>
    if st = 2 then
      let s := (s.raise (evLane n 9) [i1 n, i1 c]).bump (Reg.LANE_QUAL_FAILS_COUNT n)
      s.arm (.qual n) (s.get (Reg.LANE_TIMERS_QUAL_TIME n) * secNs)
    else if st = 3 ∨ st = 4 ∨ s.forcedSuspect n then s.laneTo n 6 c
    else s

/-- A LOST lane that a cause keeps LOST, under that cause. A signal that has not come yet is no loss (R90), and a configuration that agrees
again is no cause any more (R79). -/
def State.stayLost (s : State) (n c : Nat) : State :=
  let seen := (s.lane n).los
  let s := s.setLane n { s.lane n with los := false }
  if c = 1 ∧ ¬ seen then (if s.get (Reg.LANE_STATE_CAUSE n) = 6 then s.laneTo n 1 0 else s)
  else s.laneTo n 1 c

/-- The three hurdle pairs of a lane judged, and a jump noted (R92, R93). -/
def State.judgeHurdles (s : State) (n : Nat) : State :=
  (((s.judgeHurdle n 0).judgeHurdle n 1).judgeHurdle n 2).judgeJump n

/-- Whether LOS or a fence holds of a lane (R44, R89, R90). Of a LOST lane whose signal has not come yet it does not, unless it lost one. -/
def State.signalGone (s : State) (n : Nat) : Bool :=
  s.laneFenced n || (s.lane n).los
    || ((! (s.lane n).up || ! s.laneOn n) && (decide (s.laneSt n ≠ 1) || decide (s.get (Reg.LANE_STATE_CAUSE n) = 1)))

/-- The sticky bits of a lane whose conditions hold, whichever row decides its next state: LOS, QUAL_FAIL for the QL gate, QUAL_FAIL for a
limit crossed while QUALIFYING, and those of its hurdles, LOST or not (R88, R89, R93). -/
def State.judgeStickies (s : State) (n : Nat) : State :=
  let s := if s.signalGone n then s.raise (evLane n 0) [i1 n] else s
  let s := if s.qlFails n then s.raise (evLane n 9) [i1 n, i1 5] else s
  let s := match s.limitCause n with
    | some c => if s.laneSt n = 2 then s.raise (evLane n 9) [i1 n, i1 c] else s
    | none => s
  s.judgeHurdles n

/-- Whether a lane's source, type or nominal frequency is another than at its last judgement, or a LANE_SET changed it since (R112). -/
def State.laneMoved (s : State) (n : Nat) : Bool :=
  decide ((s.lane n).changed = true ∨ ((s.lane n).cfg ≠ none ∧ (s.lane n).cfg ≠ some (s.laneCfg n)))

/-- The configuration of a lane noted as judged: a lane that is another than at the last judgement begins its averages anew, and a source
that is another has shown no signal yet and has no uncertainty (R85, R88, R129). -/
def State.noteCfg (s : State) (n : Nat) : State :=
  let r := s.lane n
  let other := match r.cfg with
    | some c => decide (c.1 ≠ s.laneSrc n)
    | none => false
  let moved := s.laneMoved n
  let s := if moved then s.put (Reg.LANE_STATE_WARN n) 0 else s
  s.setLane n { (if moved then r.fresh else r) with
    cfg := some (s.laneCfg n), changed := false, up := r.up && ! other, uSrc := if other then 0 else r.uSrc }

/-- The lap's first judgement of one lane that is not DISABLED, a LANE_CLEAR applied: every sticky bit whose condition holds, then rank 0, LOS
or fence, configuration and QL gate, limit hurdles (R79, R88, R89). A SELECTED lane whose rank is 0 waits until it has been switched away
from (R103). -/
def State.judgeLive (s : State) (n : Nat) (moved : Bool) : State :=
  let st := s.laneSt n
  let s := s.judgeStickies n
  if s.laneRank n = 0 then (if st = 4 then s else s.laneTo n 0 11)
  else
    match s.lostCause n with
    | some c => if st = 1 then s.stayLost n c else s.laneTo n 1 c
    | none =>
      if moved ∧ st ≠ 1 then s.laneTo n 1 0
      else if st = 1 then s.laneTo n 2 0
      else s.judgeLimit n st

/-- The lap's first judgement of one lane (R79, R88, R89). -/
def State.laneJudge (s : State) (n : Nat) : State :=
  let moved := s.laneMoved n
  let s := s.noteCfg n
  if s.laneSt n = 0 then (if s.laneRank n = 0 then s else s.laneTo n 1 (if s.laneCfgOk n then 0 else 6))
  else (s.laneClearNow n).judgeLive n moved

/-! ## Corroboration and disagreement (R99, R100, R102) -/

/-- Whether two lanes' offsets differ by no more than the sum of their U_L and 2·σ_res (R102). -/
def State.corroborates (s : State) (a b : Nat) : Bool :=
  decide ((s.laneOffset a - s.laneOffset b).natAbs
    ≤ (s.laneU a + s.laneU b + 2 * s.get (Reg.LANE_SIGMA_SIGMA a) + 2 * s.get (Reg.LANE_SIGMA_SIGMA b)) * 256)

/-- The other PHASE or TIME lanes of a different source that are AVAILABLE or SELECTED (R102). -/
def State.witnesses (s : State) (n : Nat) : List Nat :=
  allLanes.filter fun m => m ≠ n ∧ s.lanePT m ∧ s.laneFit m ∧ s.laneSrc m ≠ s.laneSrc n

/-- |y_A - y_B|. -/
def State.yDiff (s : State) (a b : Nat) : Nat := ((s.lane a).y - (s.lane b).y).natAbs

/-- Whether two lanes disagree now (R99). -/
def State.disagree (s : State) (a b : Nat) : Bool :=
  s.laneFit a && s.laneFit b && decide (s.laneRank a = s.laneRank b ∧ s.laneSrc a ≠ s.laneSrc b
    ∧ s.laneSrc a ≠ 0x14 ∧ s.laneSrc b ≠ 0x14 ∧ s.get Reg.SEL_AGREE_AGREE < s.yDiff a b)

/-- The model is valid (R121). -/
def State.modelValid (s : State) : Bool := 300 ≤ s.get Reg.HOB_LOCK_HIST_SECONDS

/-- The frequencies of the arbiters of a pair, in the order they are consulted: other lanes of other sources in rank and
lane order, no PARTNER lane, then the model (R83, R99). -/
def State.arbiters (s : State) (a b : Nat) : List Int :=
  let fit := allLanes.filter fun m => s.laneFit m ∧ s.laneSrc m ≠ s.laneSrc a ∧ s.laneSrc m ≠ s.laneSrc b ∧ s.laneSrc m ≠ 0x14
  let inOrder := ((List.range 16).map fun r => fit.filter fun m => s.laneRank m = r).flatten
  (inOrder.map fun m => (s.lane m).y) ++ (if s.modelValid then [0] else [])

/-- The lane an arbiter decides against, if the arbiters decide (R99). -/
def State.arbitrate (s : State) (a b : Nat) : List Int → Option Nat
  | [] => none
  | y :: ys =>
    let oka := decide ((y - (s.lane a).y).natAbs ≤ s.get Reg.SEL_AGREE_AGREE)
    let okb := decide ((y - (s.lane b).y).natAbs ≤ s.get Reg.SEL_AGREE_AGREE)
    if oka ∧ ¬ okb then some b else if okb ∧ ¬ oka then some a else s.arbitrate a b ys

/-- Whether an arbiter decided an episode. -/
def Episode.decided (e : Episode) : Bool := e.loser.isSome

/-- DISAGREE set on a lane for another (R99, R113). -/
def State.tellDisagree (s : State) (n other : Nat) : State := s.raise (evLane n 8) [i1 n, i1 other, i8 (s.yDiff n other)]

/-- DISAGREE set on both lanes of a pair that disagrees as the lap finds it, whatever row decides their next states (R89, R99). -/
def State.pairSticky (s : State) (a b : Nat) : State :=
  if s.disagree a b then (s.tellDisagree a b).tellDisagree b a else s

/-- A lane flagged in disagreement with another (R99, R113). -/
def State.flagDisagree (s : State) (n other : Nat) : State :=
  (s.tellDisagree n other).put (Reg.LANE_STATE_DISAGREE_NOW n) 1

/-- Whether a forced lane is the one selected: it stays SELECTED whatever arbitration finds (R88, R96). -/
def State.forcedCur (s : State) (n : Nat) : Bool := s.forced = some n ∧ s.cur = some n

/-- A lane made SUSPECT, unless it is forced and selected (R88). -/
def State.suspect (s : State) (n cause : Nat) : State := if s.forcedCur n then s else s.laneTo n 5 cause

/-- The lane an arbiter decides against in a pair's episode, or none, noted (R99). -/
def State.noteLoser (s : State) (a b : Nat) (l : Option Nat) : State :=
  { s with episodes := s.episodes.map fun e => if e.a = a ∧ e.b = b ∧ e.force = false then { e with loser := l } else e }

/-- An episode between two lanes judged at a lap boundary: begun, or its end put off; DISAGREE sets on both, and the arbiters are consulted,
at every boundary at which they disagree (R99, R100). -/
def State.judgePair (s : State) (a b : Nat) : State :=
  if ¬ s.disagree a b then s else
  let s := if s.episodes.any fun e => decide (e.a = a ∧ e.b = b ∧ e.force = false) then s
    else
      let s := { s with episodes := s.episodes ++ [Episode.mk a b s.runNs none false 0] }
      let s := (s.setLane a { s.lane a with held := 0 })
      (s.setLane b { s.lane b with held := 0 })
  let s := (s.flagDisagree a b).flagDisagree b a
  let s := s.arm (.agree a b) s.avgWin
  match s.arbitrate a b (s.arbiters a b) with
  | none => s.noteLoser a b none
  | some l => if s.forcedCur l then s.noteLoser a b none else (s.noteLoser a b (some l)).suspect l 7

/-- A_dis of a lane against another party, unit 2^-8 ns, rounded up (R100): |y_A - y_B| × τ_d + |Δφ|. -/
def State.disAllow (s : State) (n : Nat) (e : Episode) : Nat :=
  let o := if e.a = n then e.b else e.a
  let dy := if o < 16 then s.yDiff n o else (s.lane n).y.natAbs
  let dphi := if o < 16 ∧ s.lanePT n ∧ s.lanePT o then (s.laneOffset n - s.laneOffset o).natAbs else 0
  ceilDiv (dy * (s.runNs - e.since) + dphi * 2 ^ 32) (2 ^ 40)

/-- Whether a lane is party to an episode still in progress. -/
def State.inEpisode (s : State) (n : Nat) : Bool := s.episodes.any fun e => e.force = false ∧ (e.a = n ∨ e.b = n)

/-- Whether an episode in progress was decided against a lane (R99). -/
def State.lostEpisode (s : State) (n : Nat) : Bool := s.episodes.any fun e => e.force = false ∧ e.loser = some n

/-- What the end of an episode, gone from the list, leaves of a lane of its pair: DISAGREE_NOW where no other asserts it, and a SUSPECT lane
whose cause is DISAGREE goes to QUALIFYING, unless another episode was decided against it or a force makes it SELECTED first (R100, R111;
DEDUCED, log entry 164). -/
def State.leaveEpisode (s : State) (e : Episode) (n : Nat) : State :=
  if e.force ∨ 15 < n then s else
  let s := if s.inEpisode n then s else s.put (Reg.LANE_STATE_DISAGREE_NOW n) 0
  if s.laneSt n = 5 ∧ s.get (Reg.LANE_STATE_CAUSE n) = 7 ∧ s.forced ≠ some n ∧ (e.loser = some n ∨ ¬ s.lostEpisode n)
  then s.laneTo n 2 0 else s

/-- The deadline of an episode's end; that of a forced lane's allowance is one of its own (R100, R109). -/
def Episode.timer (e : Episode) : Tm := .agree (if e.force then 16 + e.a else e.a) e.b

/-- An episode ended; `lost` says a lane of the pair left it unresolved, and then the A_dis of the SELECTED lane that was
kept under it is held at its last value (R100). -/
def State.endEpisode (s : State) (e : Episode) (lost : Bool) : State :=
  let s := match s.cur with
    | some n => if lost ∧ ¬ e.decided ∧ (e.a = n ∨ e.b = n)
        then s.setLane n { s.lane n with held := e.last } else s
    | none => s
  let s := { s with episodes := s.episodes.filter fun x => decide (¬ (x.a = e.a ∧ x.b = e.b ∧ x.force = e.force)) }
  ((s.stopTimer e.timer).leaveEpisode e e.a).leaveEpisode e e.b

/-- Whether a lane has left the field: DISABLED, LOST or DISQUALIFIED. -/
def State.laneGone (s : State) (n : Nat) : Bool := n < 16 ∧ (s.laneSt n = 0 ∨ s.laneSt n = 1 ∨ s.laneSt n = 6)

/-- Whether the frequencies of an episode's parties lie within SEL_AGREE. -/
def State.agreeNow (s : State) (e : Episode) : Bool :=
  decide ((if e.b < 16 then s.yDiff e.a e.b else (s.lane e.a).y.natAbs) ≤ s.get Reg.SEL_AGREE_AGREE)

/-- The episodes in progress judged: ended where a lane is gone, or where the frequencies have agreed for AVG_WIN; their
deadline put off while they do not agree (R100). -/
def State.judgeEpisodes (s : State) : List Episode → State
  | [] => s
  | e :: es =>
    (if s.laneGone e.a ∨ s.laneGone e.b then s.endEpisode e true
     else if ¬ s.agreeNow e then s.arm e.timer s.avgWin
     else if s.due e.timer then s.endEpisode e false
     else s).judgeEpisodes es

/-- The pairs of lanes, lower number first. -/
def lanePairs : List (Nat × Nat) := (allLanes.map fun a => (allLanes.filter fun b => a < b).map fun b => (a, b)).flatten

/-- A_drift of the SELECTED lane, unit 2^-8 ns, rounded up (R94): half of |D_L| × τ_w², D_L in units of 2^-60 per s. -/
def State.driftAllow (s : State) (n : Nat) : Nat :=
  let r := s.lane n
  if bit r.warn 1 ∧ s.laneSt n = 4 then
    ceilDiv (r.d.natAbs * ((s.runNs - r.driftAt) * (s.runNs - r.driftAt)) * 256) (2 ^ 61 * secNs)
  else 0

/-- Whether a lane is SELECTED and kept under an unresolved disagreement, or under a force's allowance (R100, R109). -/
def State.keptUnder (s : State) (n : Nat) (e : Episode) : Bool :=
  s.laneSt n = 4 ∧ ¬ e.decided ∧ (e.a = n ∨ (e.b = n ∧ e.force = false))

/-- The A_dis of an episode noted as its last value: that of the SELECTED lane kept under it, else 0 (R100). -/
def State.noteAllow (s : State) (e : Episode) : Episode :=
  { e with last := if s.keptUnder e.a e then s.disAllow e.a e else if s.keptUnder e.b e then s.disAllow e.b e else 0 }

/-- LANE_ALLOW of every lane set anew: the drift allowance and the disagreement allowance of the SELECTED lane (R94, R100). Of several
disagreements that keep it at once, the greatest A_dis counts (DESIGN CHOICE, log entry 142). -/
def State.setAllows (s : State) : State :=
  let s := { s with episodes := s.episodes.map s.noteAllow }
  allLanes.foldl (fun s n =>
    let dis := if s.laneSt n = 4 then
        (s.episodes.filter (s.keptUnder n)).foldl (fun m e => max m e.last) (s.lane n).held
      else 0
    s.put (Reg.LANE_ALLOW_ALLOW n) (min (s.driftAllow n + dis) (2 ^ 32 - 1))) s

end Sys2Proof.Machine
end

