-- ==== Sys2Proof/Machine/Disc.lean ====
section
/-! DEFINITION. Discipline, the holdover model and the time error bound (R114 to R138): fits and their uncertainty,
anchors, the bound, the traceability ID, the loop, the discipline states, and the discipline's commands. -/

namespace Sys2Proof.Machine

/-! ## Fits (R122, R123) -/

/-- The models a fit is made for: parameters of an oscillator's class in use. -/
structure OscPar where
  amax  : Nat
  w     : Nat
  uymin : Nat

/-- The OCXO's and the atomic class's parameters (R126). -/
def State.ocxoPar (s : State) : OscPar := ⟨s.get Reg.OCXO_AMAX_AMAX, s.get Reg.OCXO_W_W, s.get Reg.OCXO_UYMIN_UYMIN⟩
@[inherit_doc State.ocxoPar] def State.atomPar (s : State) : OscPar :=
  ⟨s.get Reg.ATOM_AMAX_AMAX, s.get Reg.ATOM_W_W, s.get Reg.ATOM_UYMIN_UYMIN⟩

/-- Sums of records (t, r): n, Σt, Σr, Σt², Σtr, Σr². -/
def recSums (ps : List (Int × Int)) : Int × Int × Int × Int × Int × Int :=
  ps.foldl (fun (n, a, b, c, d, e) p => (n + 1, a + p.1, b + p.2, c + p.1 * p.1, d + p.1 * p.2, e + p.2 * p.2))
    (0, 0, 0, 0, 0, 0)

/-- u_fit of R122, rounded up to units of 2^-48: with r constant, then along a line, for records whose last instant is 0; the second term
under the root is left out where the line's drift is 0. -/
def uConst (ps : List (Int × Int)) : Nat :=
  let (n, _, b, _, _, e) := recSums ps
  ceilSqrt (ceilDiv (4 * (n * e - b * b)).toNat (n * n * n).toNat)
@[inherit_doc uConst] def uLine (flat : Bool) (ps : List (Int × Int)) : Nat :=
  let (n, a, b, c, d, e) := recSums ps
  let dd := n * c - a * a
  let bb := n * d - a * b
  ceilSqrt (ceilDiv (4 * ((n * e - b * b) * dd - bb * bb) * (if flat then dd else dd + a * a)).toNat (n * n * n * (dd * dd)).toNat)

/-- A fit made anew over its records: fewer than 3,600 give the mean, more a least-squares line at the last record's
instant; u_y is not below the floor (R122). -/
def Fit.refit (f : Fit) (linNow : Nat) (uymin : Nat) : Fit :=
  match f.recs with
  | [] => f
  | (t, _) :: _ =>
    let ps := f.recs.map fun p => ((p.1 : Int) - t, p.2)
    if f.recs.length < 3600 then
      { f with rate := lineAt (ps.map fun p => (0, p.2)) 0, drift := 0, at_ := t, linAt := linNow
               uy := max uymin (uConst ps), fitted := false }
    else
      let d := lineSlope ps (4096 * secNs)
      { f with rate := lineAt ps 0, drift := d, at_ := t, linAt := linNow, uy := max uymin (uLine (d = 0) ps), fitted := true }

/-- A record of one second added to a fit, those older than MODEL_WIN dropped, which counts the time that runs, gaps in the history included
(DESIGN CHOICE, log entry 172), and the fit made anew unless it is a
restored one with fewer than 3,600 records since the reset (R121, R122). -/
def Fit.add (f : Fit) (at_ : Nat) (r : Int) (linAt win uymin : Nat) : Fit :=
  let f := { f with recs := (at_, r) :: f.recs.filter (fun p => decide (at_ < p.1 + win)), count := f.count + 1 }
  if f.restored ∧ f.count < 3600 then f else { f with restored := false }.refit linAt uymin

/-- a_max × Δt in units of 2^-48, rounded up (R121, R125). -/
def ageing (amax : Nat) (dt : Int) : Nat := ceilDiv (amax * dt.toNat) (4096 * secNs)

/-- u_y of a fit at an instant: a restored fit's grows with a_max until it is refitted (R121). -/
def Fit.uyAt (f : Fit) (now : Nat) (amax : Nat) : Nat :=
  if f.restored then f.uy + ageing amax (((now : Int) - f.at_) / secNs * secNs) else f.uy

/-- The value of a fit at an instant in running ns, unit 2^-48 (R124). -/
def Fit.value (f : Fit) (t : Int) : Int := f.rate + roundDiv (f.drift * (t - f.at_)) (4096 * secNs)

/-- The atomic model of a HOLDOVER lane. -/
def State.atom (s : State) (n : Nat) : Fit := (aget s.disc.atom n).getD {}

/-- An atomic model is valid once it holds 300 s of records, or was restored valid (R121, R123). -/
def Fit.atomValid (f : Fit) : Bool := f.whole ∨ 300 ≤ f.count

/-- The atomic source that would be used: the best-ranked HOLDOVER lane that is AVAILABLE, has not been away since the
engine was LOCKED, and holds a valid model with its q_H; the OCXO when there is none (R82, R124, R125). -/
def State.pickSrc (s : State) : Option Nat :=
  let ok := allLanes.filter fun n => s.laneType n = 3 ∧ s.laneSt n = 3 ∧ (s.lane n).usable ∧ (s.atom n).atomValid
    ∧ (s.lane n).q ≠ none
  ((List.range 16).map fun r => ok.filter fun n => s.laneRank n = r).flatten.head?

/-- The model's rate for an instant in running ns with a source (R124). -/
def State.modelRate (s : State) (src : Option Nat) (t : Int) : Int :=
  match src with
  | some n => ((s.lane n).q.getD 0) + (s.atom n).value t
  | none => s.disc.ocxo.value t

/-- The running time at the centre of the coming lap (R124). -/
def State.lapCentre (s : State) : Int := (s.runNs : Int) + 7812500

/-- The nominal correction HOB_NOM (R86). -/
def State.nominalRate (s : State) : Int := s.getI64 Reg.HOB_NOM_LO_NOM_LO Reg.HOB_NOM_HI_NOM_HI

/-- The source in use. -/
def State.holdSource (s : State) : Option Nat := if s.var .holdSrc = 0 then none else some (s.var .holdSrc - 1).toNat

/-- The model registers brought up to date with a source (HOB_MODEL_RATE to HOB_FIT_AT). -/
def State.showModel (s : State) (src : Option Nat) : State :=
  let f := match src with
    | some n => s.atom n
    | none => s.disc.ocxo
  let par := match src with
    | some _ => s.atomPar
    | none => s.ocxoPar
  let s := s.putI64 Reg.HOB_MODEL_RATE_LO_R_LO Reg.HOB_MODEL_RATE_HI_R_HI f.rate
  let s := (s.putI Reg.HOB_MODEL_DRIFT_DRIFT f.drift).put Reg.HOB_MODEL_SRC_LANE (src.getD 0)
  let s := (s.putB Reg.HOB_MODEL_SRC_ATOMIC src.isSome).putB Reg.HOB_MODEL_SRC_VALID s.modelValid
  let s := (s.putB Reg.HOB_MODEL_SRC_DRIFT_FITTED f.fitted).put Reg.HOB_MODEL_UY_UY (min (f.uyAt s.runNs par.amax) (2 ^ 32 - 1))
  s.put64 Reg.HOB_FIT_AT_LO_FA_LO Reg.HOB_FIT_AT_HI_FA_HI f.linAt

/-! ## The bound (R127 to R131) -/

/-- The smallest multiple of 2^-16 not less than the root of a duration in ns taken in seconds (R128). -/
def rootTau (t : Nat) : Nat := ceilSqrt (ceilDiv (2 ^ 32 * t) secNs)

/-- The anchored bound of R128, unit 2^-8 ns, for a duration τ in ns. -/
def tebAnchored (teb0 uy amax w t : Nat) : Nat :=
  teb0 + ceilDiv (uy * t * (2 ^ 13 * secNs) + amax * (t * t) + w * rootTau t * (2 ^ 29 * secNs)) (2 ^ 53 * secNs)

/-- A bound as published: saturated at 2^32 - 1 (R131). -/
def tebSat (x : Nat) : Nat := min x (2 ^ 32 - 1)

/-- The bound in force as a sum: one that is published saturated stands for a sum no term brings back (R131). -/
def State.tebSum (s : State) : Nat := if s.get Reg.HOB_STATUS_TEB_SAT = 1 then 2 ^ 32 else s.get Reg.HOB_TEB_TEB

/-- LINEAR_NS at the end of the lap in hand. -/
def State.lapEnd (s : State) : Nat := (s.ns / lapNs + 1) * lapNs % 2 ^ 64

/-- HOB_T0. -/
def State.t0 (s : State) : Nat := s.get64 Reg.HOB_T0_LO_T0_LO Reg.HOB_T0_HI_T0_HI

/-- TEB0 of the anchor: a saturated one stands for a sum that no term brings back below saturation (R131). -/
def State.teb0 (s : State) : Nat :=
  if s.get Reg.HOB_TEB0_TEB0 = 2 ^ 32 - 1 then 2 ^ 32 else s.get Reg.HOB_TEB0_TEB0

/-- The anchored bound at an instant of LINEAR_NS. -/
def State.anchoredAt (s : State) (lin : Nat) : Nat :=
  tebAnchored s.teb0 (s.get Reg.HOB_UY_USE_UY) (s.get Reg.HOB_AMAX_USE_AMAX) (s.get Reg.HOB_W_USE_W)
    (linDiff lin s.t0).toNat

/-- B_open of R497, unit 2^-8 ns, rounded up. -/
def State.bOpen (s : State) : Nat :=
  let kept := match s.cur with
    | some n => if s.laneType n ≠ 0 ∧ s.get (Reg.LANE_STATE_BUILDOUT_KEPT n) = 1
        then (s.getI64 (Reg.LANE_BUILDOUT_LO_BO_LO n) (Reg.LANE_BUILDOUT_HI_BO_HI n)).natAbs else 0
    | none => 0
  ceilDiv (kept * 2 ^ 36 + min s.tc.bSlew.natAbs s.tc.slew.natAbs) (2 ^ 44)

/-- Kind of the selection: 0 none, 1 a FREQUENCY lane, 2 a PHASE or TIME lane. -/
def State.selKind (s : State) : Nat :=
  match s.cur with
  | some n => if s.laneType n = 0 then 1 else 2
  | none => 0

/-- Whether the bound is the anchored one: no lane selected, a Track die fault, or a PHASE or TIME lane whose step is still armed (R48, R127,
R128). -/
def State.boundAnchored (s : State) : Bool :=
  match s.cur with
  | some n => s.dieBad 0 || decide (s.laneType n ≠ 0 ∧ s.get Reg.TCO_STATUS_STEP_ARMED = 1)
  | none => true

/-- The bound with a FREQUENCY lane selected, at an instant of LINEAR_NS (R130). -/
def State.freqAt (s : State) (n lin : Nat) : Nat :=
  s.get (Reg.LANE_U_U n) + s.get (Reg.LANE_ALLOW_ALLOW n) + 2 * s.get (Reg.LANE_SIGMA_SIGMA n) + s.teb0
    + ceilDiv (s.get (Reg.LANE_UY_UY n) * (linDiff lin s.t0).toNat) (2 ^ 40)

/-- The bound for the end of the lap in hand (R127, R129, R130). A Track die fault leaves the anchored formula (R48). -/
def State.tebLap (s : State) : Nat :=
  match s.cur with
  | some n =>
    if s.boundAnchored then s.anchoredAt s.lapEnd
    else if s.laneType n = 0 then s.freqAt n s.lapEnd
    else s.laneU n + 2 * s.get (Reg.LANE_SIGMA_SIGMA n) + s.bOpen
      + (if s.get Reg.HOB_STATUS_STATE = 1 then ceilDiv (s.var .lastE).natAbs (2 ^ 44) else 0)
  | none => s.anchoredAt s.lapEnd

/-- clockClass for a state, in the default profiles and in the G.8275 profiles (R136). -/
def State.clockClass (s : State) (telecom : Bool) : Nat :=
  let st := s.get Reg.HOB_STATUS_STATE
  let past := decide (s.get Reg.HOB_LIMIT_HOLDOVER_LIMIT < s.get Reg.HOB_TEB_TEB)
  let cls := if s.get Reg.HOB_STATUS_ATOMIC_USE = 1 then s.get Reg.HOB_OSC_CLASS_ATOMIC else s.get Reg.HOB_OSC_CLASS_OCXO
  let beyond := if telecom then (if cls ≤ 1 then 160 else if cls = 2 then 150 else 140) else 52
  if st = 2 then (if s.selKind = 2 then 6 else if past then beyond else 7)
  else if st = 3 then 7 else if st = 4 then beyond else 248

/-- The lane the traceability ID names: the selected one, or in the anchored states the one that last gave the bound its phase (R132). -/
def State.traceLane (s : State) : Nat := if s.boundAnchored then (s.var .phaseLane - 1).toNat else s.cur.getD 0

/-- The traceability ID of R132; until a lane gives phase after a start-up it carries the RECORD restored from the keeper (R459). -/
def State.traceNow (s : State) : Nat :=
  let lane := s.traceLane
  let valid := decide (s.var .phaseLane ≠ 0)
  let rec_ := if s.boundAnchored ∧ s.var .traceRec ≠ 0 then (s.var .traceRec - 1).toNat else s.get (Reg.LANE_TRACE_RECORD lane)
  rec_ + 2 ^ 16 * lane + 2 ^ 20 * b2n valid + 2 ^ 21 * s.get Reg.HOB_STATUS_STATE
    + 2 ^ 24 * (if s.get Reg.HOB_STATUS_ATOMIC_USE = 1 then (s.holdSource.getD 0) else 0)
    + 2 ^ 28 * s.get Reg.HOB_STATUS_ATOMIC_USE + 2 ^ 29 * (s.var .calSeq).toNat


/-- MODEL_VALID of HOB_STATUS brought up to date; where the model becomes valid its sticky bit sets and 0x0037 is raised (R121, R138). -/
def State.showValid (s : State) : State :=
  let first := s.modelValid && decide (s.get Reg.HOB_STATUS_MODEL_VALID = 0)
  let s := s.putB Reg.HOB_STATUS_MODEL_VALID s.modelValid
  if first then s.raise (evHob 6 .info) [i4 (s.get Reg.HOB_LOCK_HIST_SECONDS)] else s

/-- The registers that follow the state and the bound: HOB_TRACE, the clock classes, MODEL_VALID. -/
def State.showDisc (s : State) : State :=
  let s := s.put Reg.HOB_TRACE_TRACE s.traceNow
  let s := (s.put Reg.HOB_STATUS_CC_DEFAULT (s.clockClass false)).put Reg.HOB_STATUS_CC_TELECOM (s.clockClass true)
  let s := s.showValid
  s.putB Reg.HOB_STATUS_SETTLING (decide (s.selKind ≠ 0 ∧ s.var .settled = 0))

/-- A bound published with what goes with it: HOB_TEB, TEB_SAT live, the registers that follow, then the sticky bit with 0x0034, whose record
carries the bound and its own traceability ID (R131, R132, R138). -/
def State.publishTeb (s : State) (x : Nat) : State :=
  let s := ((s.put Reg.HOB_TEB_TEB (tebSat x)).putB Reg.HOB_STATUS_TEB_SAT (decide (2 ^ 32 ≤ x))).showDisc
  if 2 ^ 32 ≤ x then s.raise (evHob 3 .error) [i1 (s.get Reg.HOB_STATUS_STATE)] else s

/-- An anchor made (R126, R127): T0, TEB0, and the parameters of the source in use; without a valid model u_y is HOB_NOM_UY. -/
def State.anchor (s : State) (t0 teb0 : Nat) (src : Option Nat) (uy : Option Nat) : State :=
  let par := match src with
    | some _ => s.atomPar
    | none => s.ocxoPar
  let u := match uy with
    | some u => u
    | none => match src with
      | some n => (s.atom n).uyAt s.runNs par.amax
      | none => if s.modelValid then s.disc.ocxo.uyAt s.runNs par.amax else s.get Reg.HOB_NOM_UY_UY
  let s := (s.put64 Reg.HOB_T0_LO_T0_LO Reg.HOB_T0_HI_T0_HI t0).put Reg.HOB_TEB0_TEB0 (tebSat teb0)
  let s := ((s.put Reg.HOB_UY_USE_UY (min u (2 ^ 32 - 1))).put Reg.HOB_AMAX_USE_AMAX par.amax).put Reg.HOB_W_USE_W par.w
  let s := s.setVar .holdSrc (match src with
    | some n => n + 1
    | none => 0)
  s.putB Reg.HOB_STATUS_ATOMIC_USE src.isSome

/-- The anchor that a FREQUENCY lane's bound grows from, noted (R130). -/
def State.noteFreq (s : State) : State :=
  (s.setVar .freqT0 (s.t0 : Nat)).setVar .freqTeb0 (s.get Reg.HOB_TEB0_TEB0 : Nat)

/-- The anchor registers brought back to the anchor that a FREQUENCY lane's bound grows from (R130; DEDUCED, log entry 19). -/
def State.freqAnchor (s : State) : State :=
  (s.put64 Reg.HOB_T0_LO_T0_LO Reg.HOB_T0_HI_T0_HI (s.var .freqT0).toNat).put Reg.HOB_TEB0_TEB0 (s.var .freqTeb0).toNat

/-- The source's code in event data: its lane, or 0xFF for the OCXO model (R138; DESIGN CHOICE, log entry 173). -/
def srcCode (src : Option Nat) : Nat := src.getD 0xFF

/-- A change of source in holdover: re-anchored at the present with the new source's u_y grown since its fit; 0x0036 (R125). -/
def State.changeSource (s : State) (src : Option Nat) : State :=
  let old := s.holdSource
  let f := match src with
    | some n => s.atom n
    | none => s.disc.ocxo
  let par := match src with
    | some _ => s.atomPar
    | none => s.ocxoPar
  let u := f.uy + ageing par.amax ((s.runNs : Int) - f.at_)
  let s := s.anchor s.linear (s.anchoredAt s.linear) src (some u)
  s.raise (evHob 5 .warning) [i1 (srcCode old), i1 (srcCode src), i4 (min u (2 ^ 32 - 1))]

/-! ## The loop (R119) -/

/-- π and π² in units of 10^-37. -/
def piDec : Nat := 31415926535897932384626433832795028842
@[inherit_doc piDec] def piSqDec : Nat := 98696044010893586188344909998761511353

/-- The nominal measurement interval of a lane, ns (R84, R119). -/
def State.laneInterval (s : State) (n : Nat) : Nat :=
  let src := s.laneSrc n
  if s.laneType n = 1 then (if s.get (Reg.LANE_NOMINAL_NOMINAL n) = 8 then 2 * secNs else secNs)
  else if src = 0x08 then
    secNs / (match s.get Reg.GNB_CTRL_MEAS_RATE with
      | 0 => 1 | 1 => 2 | 2 => 5 | 3 => 10 | _ => 20)
  else if 0x0C ≤ src ∧ src ≤ 0x0F ∧ s.var (.upEvery (src - 0x0C)) ≠ 0 then (s.var (.upEvery (src - 0x0C))).toNat
  else lapNs

/-- The bandwidth in mHz (R119): boosted in ACQUIRING, at most 1 Hz. -/
def State.loopBw (s : State) (n : Nat) : Nat :=
  let bw := if s.laneType n = 0 then s.get Reg.HOB_LOOP_BW_BW_F else s.get Reg.HOB_LOOP_BW_BW_PT
  if s.get Reg.HOB_STATUS_STATE = 1 then min 1000 (bw * s.get Reg.HOB_LOOP_DAMP_ACQ_BOOST) else bw

/-- The effective error e of a lane, unit 2^-52 ns (R119). -/
def State.loopError (s : State) (n : Nat) : Int :=
  let kept := if s.get (Reg.LANE_STATE_BUILDOUT_KEPT n) = 1
    then s.getI64 (Reg.LANE_BUILDOUT_LO_BO_LO n) (Reg.LANE_BUILDOUT_HI_BO_HI n) else 0
  let x := s.laneOffset n - kept
  (if s.laneType n = 2 then x else foldPhase x (s.laneNom n)) * 2 ^ 36 - s.tc.slew

/-- The loop's step of RATE_ADJ, unit 2^-48, for a bandwidth in mHz, an interval and an error in units of 2^-52 ns: ω² × T × e
rounded to nearest (R119). -/
def rateStep (bw t : Nat) (e : Int) : Int := roundDiv (4 * piSqDec * bw * bw * t * e) (10 ^ 37 * 10 ^ 24 * 2 ^ 56)

/-- The loop's addition to SLEW_REMAIN, unit 2^-52 ns: min(1, 2 × ζ × ω × T) × e rounded to nearest (R119). -/
def slewStep (bw zeta t : Nat) (e : Int) : Int :=
  let num := 4 * piDec * zeta * bw * t
  let den := 10 ^ 37 * 64 * 1000 * secNs * 2 ^ 52
  if den ≤ num then e else roundDiv (num * e) den

/-- One update of the loop from the selected lane's new measurement, of an instant in units of 2^-16 ns; frozen, it takes none (R91, R119). -/
def State.loopUpdate (s : State) (n at_ : Nat) : State :=
  if s.var .frozen = 1 ∨ s.dieBad 0 then s else
  let e := s.loopError n
  let t : Nat := if s.var .lastUpdate = 0 then s.laneInterval n * 2 ^ 52 else s.tc.run - (s.var .lastUpdate).toNat
  let bw := s.loopBw n
  let s := s.setRate (s.tc.rateAdj + rateStep bw t e)
  let s := s.correct 1 (slewStep bw (s.get Reg.HOB_LOOP_DAMP_ZETA) t e)
  let s := (s.setVar .lastE e).setVar .lastUpdate s.tc.run
  let s := s.setVar .refAt (at_ : Nat)
  let s := s.pmcEvent 0 0x11
  if s.get Reg.HOB_LOCK_LOCK_THRESH * nsUnit < e.natAbs then s.stopTimer .settle
  else match s.timer .settle with
    | some _ => s
    | none => s.arm .settle (s.get Reg.HOB_LOCK_LOCK_TIME * secNs)

/-- The loop's error as a residual, unit 2^-8 ns. -/
def State.loopResidual (s : State) : Int := roundDiv (s.var .lastE) (2 ^ 44)

/-! ## The discipline states (R114 to R118) -/

/-- LOCK_TIME passed with the error within LOCK_THRESH: the loop has settled (R115). The time runs on through a loss of the lane, during
which no update is made (DESIGN CHOICE, log entry 145). -/
def State.settleIfDue (s : State) : State :=
  if s.due .settle ∧ s.selKind ≠ 0 ∧ s.var .settled = 0 then s.setVar .settled 1 else s

/-- The state decided by R115, before the limit of R117: the first line that applies. A lane selected in a holdover that began before the
loop had settled is ACQUIRING by R115's second line, though R117's row has it LOCKED (DESIGN CHOICE, log entry 144). -/
def State.discWant (s : State) : Nat :=
  if s.dieBad 0 then 3
  else if s.var .spentNow = 1 then 1
  else if s.selKind ≠ 0 then (if s.var .settled = 0 then 1 else 2)
  else if s.modelValid then (if s.get Reg.TCO_STATUS_STEP_ARMED = 1 then 1 else 3)
  else 0

/-- The kind of selection the bound logic goes by: a Track die fault takes every lane from it (R48, R131). -/
def State.boundKind (s : State) : Nat := if s.dieBad 0 then 0 else s.selKind

/-- Anchors of a lap (R48, R117, R125, R127, R130, R131): made when the selection has gone or a Track die fault has come, when a PHASE or TIME lane gives way to a
FREQUENCY lane, and when the source in use is no longer the one R124 names. One made as a PHASE or TIME lane is left, or of FREERUN before
there was one, is what a FREQUENCY lane's bound grows from, also when one is selected later. -/
def State.discAnchor (s : State) : State :=
  let had := s.var .hadSel
  let kind := s.boundKind
  let frozen := decide (s.var .frozen = 1)
  let at_ := if frozen then (s.var .freezeAt).toNat else s.ns / lapNs * lapNs % 2 ^ 64
  let teb := if frozen then (s.var .freezeTeb).toNat else s.get Reg.HOB_TEB_TEB
  let src := if s.modelValid then s.pickSrc else none
  let s := if kind = 2 then s.setVar .hadPhase 1 else s
  if (kind = 0 ∧ had ≠ 0) ∨ (kind = 1 ∧ had = 2) then
    let s := s.anchor at_ teb src none
    if had = 2 ∨ (s.var .hadPhase = 0 ∧ ¬ s.modelValid) then s.noteFreq else s
  else if kind = 1 ∧ had = 0 then s.freqAnchor
  else if kind = 0 ∧ s.modelValid ∧ s.holdSource ≠ src then s.changeSource src
  else s

/-- The events of a change of discipline state (R117, R138). -/
def State.discEvents (s : State) (old new : Nat) : State :=
  if old = new then s else
  let s := s.raise evDiscState [i1 old, i1 new, i4 (s.get Reg.HOB_TEB_TEB), i4 (s.get Reg.HOB_TRACE_TRACE)]
  let s := if 3 ≤ new ∧ old < 3 then
      s.raise (evHob 0 .warning) [i8 s.t0, i4 (s.get Reg.HOB_TEB0_TEB0), i1 (srcCode s.holdSource)] else s
  let s := if new = 4 then
      s.raise (evHob 1 .error) [i4 (s.get Reg.HOB_TEB_TEB), i4 ((linDiff s.lapEnd s.t0).toNat / secNs)] else s
  if new = 0 then s.raise (evHob 2 .critical) [i4 (s.get Reg.HOB_TEB0_TEB0)] else s

/-- The source R124 names for the present: the one in use while the model carries the time, else the one that holdover would begin with
(R101, R124, R125). -/
def State.modelSource (s : State) : Option Nat :=
  if s.boundKind = 0 then s.holdSource else if s.modelValid then s.pickSrc else none

/-- While a lane is selected no atomic source is in use (R132). -/
def State.dropSource (s : State) : State :=
  if s.boundKind = 0 then s else (s.setVar .holdSrc 0).put Reg.HOB_STATUS_ATOMIC_USE 0

/-- Which HOLDOVER lanes may serve as source: those AVAILABLE while LOCKED, and since (R125). -/
def State.markUsable (s : State) (locked : Bool) : State :=
  allLanes.foldl (fun s n =>
    let ok := decide (s.laneType n = 3 ∧ s.laneSt n = 3)
    s.setLane n { s.lane n with usable := ok && (locked || (s.lane n).usable) }) s

/-- RATE_ADJ while no lane is selected: the model's value at the centre of the coming lap, or in FREERUN the nominal correction, which
it holds (R114, R117, R124); and r_m of the lap (R86, R101). A Track die fault leaves RATE_ADJ as it is (R48). -/
def State.discRate (s : State) (_old new : Nat) : State :=
  let model := s.modelRate s.modelSource s.lapCentre
  let s := if s.dieBad 0 then s
    else if s.selKind = 0 ∧ s.modelValid then s.setRate model
    else if new = 0 then s.setRate s.nominalRate
    else s
  { s with tc := { s.tc with ref := if s.modelValid then model else s.nominalRate } }

/-- The bound of a shadow that a lane is held to, where it waited for the end of the lap that held a step (R101, R102). -/
def State.endShadowWait (s : State) : State :=
  { s with lanes := s.lanes.map fun x => (x.1, { x.2 with shadow := x.2.shadow.map fun h =>
      if h.wait then { h with wait := false, teb := s.get Reg.HOB_TEB_TEB } else h }) }

/-- The discipline logic's part of a lap boundary, after the selector has chosen: anchors, state, rate, bound, and what
shows them (R115, R117, R118, R127, R131). -/
def State.discLap (s : State) : State :=
  let old := s.get Reg.HOB_STATUS_STATE
  let s := s.settleIfDue
  let s := if s.var .spentNow = 1 ∨ (old = 0 ∧ s.selKind ≠ 0) then (s.setVar .settled 0).stopTimer .settle else s
  let s := s.discAnchor.dropSource
  let want := s.discWant
  let s := s.markUsable (decide (want = 2))
  let s := s.put Reg.HOB_STATUS_STATE want
  let s := s.discRate old want
  let s := if s.selKind = 2 ∧ s.get Reg.TCO_STATUS_STEP_ARMED = 0 then
      (s.setVar .traceRec 0).setVar .phaseLane (match s.cur with
        | some n => n + 1
        | none => 0) else s
  let teb := s.tebLap
  let new := if want = 3 ∧ (old = 4 ∨ s.get Reg.HOB_LIMIT_HOLDOVER_LIMIT < teb) then 4 else want
  let s := (s.put Reg.HOB_STATUS_STATE new).putB Reg.HOB_STATUS_ANCHORED
    (decide (s.selKind ≠ 2 ∨ s.get Reg.TCO_STATUS_STEP_ARMED = 1 ∨ s.dieBad 0))
  let s := (s.publishTeb teb).discEvents old new
  let s := ((s.setVar .hadSel s.boundKind).setVar .frozen 0).setVar .spentNow 0
  let s := if s.var .shadowWait = 1 then (s.setVar .shadowWait 0).setVar .shadowTeb (s.get Reg.HOB_TEB_TEB) else s
  let s := s.endShadowWait
  if new = 2 ∧ old ≠ 2 then s.setVar .secOn 0 else s

/-- The loop frozen at the present edge: LINEAR_NS and the bound in force are kept for the anchor (R91, R127). -/
def State.freeze (s : State) : State :=
  if s.var .frozen = 1 then s
  else ((s.setVar .frozen 1).setVar .freezeAt s.linear).setVar .freezeTeb (s.get Reg.HOB_TEB_TEB)

/-- Whether the present edge is a lap boundary's crossing edge (R59, R87). -/
def State.atLap (s : State) : Bool := s.crosses lapNs

/-- LOOP_SETTLED: LOCK_TIME has passed with the error within LOCK_THRESH; at a lap boundary the state follows (R115). -/
def execLoopSettled (s : State) : Host.Outcome State Fault Refusal :=
  .next (
    if s.due .settle ∧ s.selKind ≠ 0 ∧ s.var .settled = 0 then
      let s := s.settleIfDue
      if s.atLap then s.discLap else s
    else s)

/-! ## The model's seconds (R121 to R123) -/

/-- LOCK_HIST one second on; at 300 s the model becomes valid (R121, R138). -/
def State.lockSecond (s : State) : State := s.bumpSat Reg.HOB_LOCK_HIST_SECONDS

/-- A second of lock recorded in the OCXO model and in the atomic model of every AVAILABLE HOLDOVER lane (R122, R123). -/
def State.recordSecond (s : State) (r : Int) (centre : Nat) : State :=
  let win := s.get Reg.HOB_MODEL_WIN_WIN * secNs
  let lin := toBits 64 ((s.linear : Int) - ((s.runNs : Int) - centre))
  let atoms := allLanes.foldl (fun m n =>
    if s.laneType n = 3 ∧ s.laneSt n = 3 ∧ 0 < (s.lane n).qCnt then
      aput m n ((s.atom n).add centre (r - roundDiv (s.lane n).qSum (s.lane n).qCnt) lin win s.atomPar.uymin) else m) s.disc.atom
  { s with disc := ⟨s.disc.ocxo.add centre r lin win s.ocxoPar.uymin, atoms⟩ }

/-- A new second of the model begun, with the sums of q_H begun anew (R122, R123). -/
def State.beginSecond (s : State) : State :=
  let s := allLanes.foldl (fun s n => s.setLane n { s.lane n with qSum := 0, qCnt := 0 }) s
  let s := (((s.setVar .secEdges s.tc.edges).setVar .secAdj s.tc.adjSum).setVar .secAt s.runNs).setVar .secOn 1
  s.arm .modelSec secNs

/-- MODEL_REFIT: once a second while LOCKED with WARMING clear, the mean RATE_ADJ is recorded and the models are refitted
(R121 to R123). -/
def execModelRefit (s : State) : Host.Outcome State Fault Refusal :=
  .next (
    if s.get Reg.HOB_STATUS_STATE ≠ 2 ∨ s.get Reg.TIM_STATUS_WARMING = 1 then s.setVar .secOn 0
    else if s.var .secOn = 0 then s.beginSecond
    else if ¬ s.due .modelSec then s
    else
      let n := (s.tc.edges - (s.var .secEdges).toNat)
      let r := roundDiv (s.tc.adjSum - s.var .secAdj) (25 * n)
      let centre := (s.var .secAt).toNat + 500000000
      let s := (s.recordSecond r centre).lockSecond
      (s.showModel s.pickSrc).beginSecond)

/-- MODEL_VALID: LOCK_HIST has reached 300 s (R121, R138). -/
def execModelValid (s : State) : Host.Outcome State Fault Refusal := .next (if s.modelValid then s.showValid else s)

/-! ## Commands (R62, R137) -/

/-- TIME_RESET's effect: STEP_ARMED set, the bound saturated at once and anchored so, also where a loop freeze kept an earlier bound for
its anchor; the loop to settle again, no lane holds the bound's phase (R62, R115, R131, R132). -/
def timeResetEff (role : Nat) (s : State) : Res :=
  let s := s.put Reg.TCO_STATUS_STEP_ARMED 1
  let s := (((s.setVar .settled 0).stopTimer .settle).setVar .phaseLane 0).setVar .traceRec 0
  let s := ((s.setVar .freezeTeb (2 ^ 32 - 1 : Nat)).anchor s.linear (2 ^ 32 - 1) s.modelSource none).noteFreq
  let s := (s.dropSource.put Reg.HOB_STATUS_ANCHORED 1).publishTeb (2 ^ 32)
  ⟨s.change role 0x0000 0x0201 noOffset 0 0, some Status.ok, 0⟩

/-- TIME_RESET (R62, R64). -/
def execTimeReset (c : Ctx) (s : State) : Host.Outcome State Fault Refusal :=
  .next (s.runCmd c opTimeReset [] timeResetEff)

def opHobSet : OpInfo := { op := 0x0401, role := 2, carried := true }
def opModelReset : OpInfo := { op := 0x0402, role := 2, carried := true }
def opTebPredict : OpInfo := { op := 0x0403 }

/-- The default parameters of a class: AMAX, W, UYMIN (R126). -/
def classDefaults (c : Nat) : Nat × Nat × Nat :=
  match c with
  | 0 => (0x00020940, 0x00050000, 0x000225C2)
  | 2 => (0x00000537, 0x00008000, 0x000015FE)
  | 3 => (0x00000017, 0x00003334, 0x00000233)
  | 4 => (0x00000001, 0x0000199A, 0x0000008D)
  | _ => (0x00000FA4, 0x00010000, 0x000036FA)

/-- What follows a write of HOB_OSC_CLASS: codes 5 to 15 become 1, and an oscillator whose code changed takes its class's
defaults (R126). -/
def State.afterClass (s : State) (oldO oldA : Nat) : State :=
  let s := if 4 < s.get Reg.HOB_OSC_CLASS_OCXO then s.put Reg.HOB_OSC_CLASS_OCXO 1 else s
  let s := if 4 < s.get Reg.HOB_OSC_CLASS_ATOMIC then s.put Reg.HOB_OSC_CLASS_ATOMIC 1 else s
  let (oa, ow, ou) := classDefaults (s.get Reg.HOB_OSC_CLASS_OCXO)
  let (aa, aw, au) := classDefaults (s.get Reg.HOB_OSC_CLASS_ATOMIC)
  let s := if s.get Reg.HOB_OSC_CLASS_OCXO = oldO then s
    else ((s.put Reg.OCXO_AMAX_AMAX oa).put Reg.OCXO_W_W ow).put Reg.OCXO_UYMIN_UYMIN ou
  if s.get Reg.HOB_OSC_CLASS_ATOMIC = oldA then s
  else ((s.put Reg.ATOM_AMAX_AMAX aa).put Reg.ATOM_W_W aw).put Reg.ATOM_UYMIN_UYMIN au

/-- CAL_SEQ one up, modulo 8 (R132). -/
def State.bumpCalSeq (s : State) : State := s.setVar .calSeq ((s.var .calSeq + 1) % 8)

/-- What follows a change of a HOB word: the class defaults, and CAL_SEQ for a class or parameter, HOB_NOM_UY or a LANE_UY
that changed (R126, R132). -/
def State.afterHob (s : State) (a old oldO oldA : Nat) : State :=
  let s := if a = 0x150040 then s.afterClass oldO oldA else s
  let now := match wordAt a with
    | some w => s.rawWord w.fields
    | none => old
  if now ≠ old ∧ ((0x15003C ≤ a ∧ a ≤ 0x150058) ∨ 0x150100 ≤ a) then s.bumpCalSeq else s

/-- HOB_SET's effect (R137). The class codes 5 to 15 are in range: they are written as 1. -/
def hobSetEff (off value : Nat) (role : Nat) (s : State) : Res :=
  let a := 0x150000 + off
  let old := match wordAt a with
    | some w => s.rawWord w.fields
    | none => 0
  let oldO := s.get Reg.HOB_OSC_CLASS_OCXO
  let oldA := s.get Reg.HOB_OSC_CLASS_ATOMIC
  if (0x0020 ≤ off ∧ off ≤ 0x0058) ∨ (0x0100 ≤ off ∧ off ≤ 0x013C) then
    let r := s.setWord role 0x0401 0x150020 0x150140 a value
    if r.st = some Status.ok then ⟨r.s.afterHob a old oldO oldA, r.st, 0⟩ else r
  else ⟨s, some Status.range, 0⟩

/-- HOB_SET (R137). -/
def execHobSet (c : Ctx) (off value : Nat) (s : State) : Host.Outcome State Fault Refusal :=
  .next (s.runCmd c opHobSet [off, value] (hobSetEff off value))

/-- MODEL_RESET's effect: refused while the model carries time (R137). -/
def modelResetEff (role : Nat) (s : State) : Res :=
  let st := s.get Reg.HOB_STATUS_STATE
  if st = 3 ∨ st = 4 ∨ (st = 1 ∧ s.selKind = 0) then ⟨s, some Status.busy, 0⟩ else
  let s := { (s.setVar .shadowOn 0) with disc := ⟨{}, []⟩ }
  let s := (s.put Reg.HOB_LOCK_HIST_SECONDS 0).showModel none
  let s := (s.raise (evHob 4 .warning) [i1 role] role).showDisc
  ⟨s.change role 0x0500 0x0402 noOffset 0 0, some Status.ok, 0⟩

/-- MODEL_RESET (R137). -/
def execModelReset (c : Ctx) (s : State) : Host.Outcome State Fault Refusal :=
  .next (s.runCmd c opModelReset [] modelResetEff)

/-- The anchor TEB_PREDICT starts from (R137): T0, TEB0, u_y, a_max, w; the current one where the engine is anchored. -/
def State.predictAnchor (s : State) : Nat × Nat × Nat × Nat × Nat :=
  if s.boundAnchored then
    (s.t0, s.teb0, s.get Reg.HOB_UY_USE_UY, s.get Reg.HOB_AMAX_USE_AMAX, s.get Reg.HOB_W_USE_W)
  else
    let src := if s.modelValid then s.pickSrc else none
    let par := match src with
      | some _ => s.atomPar
      | none => s.ocxoPar
    let u := match src with
      | some n => (s.atom n).uyAt s.runNs par.amax
      | none => if s.modelValid then s.disc.ocxo.uyAt s.runNs par.amax else s.get Reg.HOB_NOM_UY_UY
    (s.linear, s.get Reg.HOB_TEB_TEB, u, par.amax, par.w)

/-- The least number of seconds at most hi at which a bound exceeds a limit, by bisection between a number at which it
does not and one at which it does. -/
def firstOver (past : Nat → Bool) : Nat → Nat → Nat → Nat
  | 0, _, hi => hi
  | k + 1, lo, hi => if hi ≤ lo + 1 then hi
    else if past ((lo + hi) / 2) then firstOver past k lo ((lo + hi) / 2) else firstOver past k ((lo + hi) / 2) hi

/-- TEB_PREDICT's effect: the bound τ s after the command, and the seconds until it passes HOLDOVER_LIMIT, as the least whole number at which
it is passed (R137; DESIGN CHOICE, log entry 174). -/
def tebPredictEff (tau : Nat) (_role : Nat) (s : State) : Res :=
  if tau < 1 ∨ 31536000 < tau then ⟨s, some Status.range, 0⟩ else
  let (t0, teb0, uy, amax, w) := s.predictAnchor
  let base := (linDiff s.linear t0).toNat
  let f := fun x => tebAnchored teb0 uy amax w (base + x * secNs)
  let past := fun x => decide (s.get Reg.HOB_LIMIT_HOLDOVER_LIMIT < f x)
  let when' := if ¬ past tau then 0xFFFFFFFF else if past 0 then 0 else firstOver past 32 0 tau
  ⟨s, some Status.ok, tebSat (f tau) + 2 ^ 32 * when'⟩

/-- TEB_PREDICT (R137): the bound in the low word of DATA, the seconds in the high word. -/
def execTebPredict (c : Ctx) (tau : Nat) (s : State) : Host.Outcome State Fault Refusal :=
  .next (s.runCmd c opTebPredict [tau] (tebPredictEff tau))

end Sys2Proof.Machine
end

