-- ==== Sys2Proof/Machine/Select.lean ====
section
/-! DEFINITION. The selector's choice, hitless switching, the cross-check and returning lanes (R96 to R113, R497), the
measurements of lanes, and the selector's commands. -/

namespace Sys2Proof.Machine

/-! ## Choosing a lane (R96 to R99) -/

/-- Whether a lane may be chosen by rank: AVAILABLE or SELECTED, of type FREQUENCY, PHASE or TIME, not the PARTNER, its
rank not 0. -/
def State.eligible (s : State) (n : Nat) : Bool :=
  s.laneFit n && decide (s.laneType n ≠ 3 ∧ s.laneSrc n ≠ 0x14 ∧ s.laneRank n ≠ 0)

/-- Whether a lane is held out by an unresolved disagreement: neither lane of the pair is selected, and no lane of better
rank is fit (R99). -/
def State.heldOut (s : State) (n : Nat) : Bool :=
  s.episodes.any fun e => decide (e.force = false ∧ e.decided = false ∧ (e.a = n ∨ e.b = n) ∧ s.cur ≠ some e.a ∧ s.cur ≠ some e.b)
    && ! (allLanes.any fun m => s.eligible m && decide (s.laneRank m < s.laneRank n))

/-- The lanes to choose from: R96's set. A lane outside a pair held out stays in it whatever its rank, though R99's table has the engine hold
over (DESIGN CHOICE, log entry 141). -/
def State.field (s : State) : List Nat := allLanes.filter fun n => s.eligible n && ! s.heldOut n

/-- The smallest rank in a list of lanes; 16 of none. -/
def State.bestRank (s : State) (ns : List Nat) : Nat := ns.foldl (fun r n => min r (s.laneRank n)) 16

/-- The forced lane, where it is fit to be selected; a PARTNER lane is not on a twin that serves (R83, R96, R108). -/
def State.forcedFit (s : State) : Option Nat :=
  match s.forced with
  | some f => if (s.laneFit f ∨ s.laneSt f = 5) ∧ s.laneRank f ≠ 0 ∧ ¬ (s.isPartner f ∧ s.serves) then some f else none
  | none => none

/-- The PARTNER lane a STANDBY twin takes ahead of every rank: the one selected while it is fit, else the lowest-numbered, whatever their
programmed ranks (R83, R96, R98; DESIGN CHOICE, log entry 165). -/
def State.partnerFit (s : State) : Option Nat :=
  if s.get Reg.TWN_STATUS_ROLE = 3 then
    let ps := allLanes.filter fun n => s.laneSrc n = 0x14 ∧ s.laneFit n ∧ s.laneRank n ≠ 0
    match s.cur with
    | some c => if ps.contains c then some c else ps.head?
    | none => ps.head?
  else none

/-- The lane that WTR runs for: a best-ranked AVAILABLE lane that ranks better than the one selected, in revertive mode; the one it runs for
already while that is among them, since a lane of equal rank is no better (R97). -/
def State.wtrWant (s : State) : Option Nat :=
  match s.cur with
  | some c =>
    let ok := s.field.filter fun n => s.laneSt n = 3
    let r := s.bestRank ok
    let best := ok.filter fun n => s.laneRank n = r
    if s.get Reg.SEL_CTRL_REVERTIVE = 1 ∧ c ∈ s.field ∧ r < s.laneRank c
    then (if (s.var .wtrLane - 1).toNat ∈ best ∧ s.var .wtrLane ≠ 0 then some (s.var .wtrLane - 1).toNat else best.head?) else none
  | none => none

/-- WTR started, restarted or stopped: it is this timer, run for the lane it names, that says how long a lane of the best rank has been
AVAILABLE in R96 (R96, R97; DESIGN CHOICE, log entry 166). -/
def State.runWtr (s : State) : State :=
  match s.wtrWant with
  | some n => if s.var .wtrLane = n + 1 then s
      else (s.setVar .wtrLane (n + 1)).arm .wtr (s.get Reg.SEL_TIMERS_WTR * secNs)
  | none => (s.setVar .wtrLane 0).stopTimer .wtr

/-- The lane R96 wants. -/
def State.wantLane (s : State) : Option Nat :=
  match s.forcedFit with
  | some f => some f
  | none =>
    match s.partnerFit with
    | some p => some p
    | none =>
      let fs := s.field
      let r := s.bestRank fs
      let best := (fs.filter fun n => s.laneRank n = r).head?
      match s.cur with
      | some c =>
        if c ∈ fs ∧ (s.get Reg.SEL_CTRL_REVERTIVE = 0 ∨ s.laneRank c = r) then some c
        else if c ∈ fs ∧ ¬ s.due .wtr then some c
        else best
      | none => best

/-! ## Switching (R103 to R107, R109, R120, R497) -/

/-- An amount the selector puts into SLEW_REMAIN on behalf of the lane it selects, unit 2^-16 ns, counted in B_slew, which it may bring to
0; false with SLEW_RANGE from its source where R61 refuses it (R104, R497). -/
def State.slewFor (s : State) (n src : Nat) (off : Int) : State × Bool :=
  let x := off * 2 ^ 36
  if s.slewFits x then
    let s' := s.correct src x
    let s' := if s.tc.bSlew = 0 ∧ x ≠ 0 then s'.setVar .bSlewAt s.runNs else s'
    let s' := { s' with tc := { s'.tc with bSlew := s'.tc.bSlew + x } }
    (if s.tc.bSlew ≠ 0 ∧ s.tc.bSlew + x = 0 then s'.noteRetired (some n) else s', true)
  else (s.correct src x, false)

/-- A lane's build-out registers set: B in LANE_BUILDOUT, kept or not (R103, R104). -/
def State.setBuildout (s : State) (n : Nat) (b : Int) (kept : Bool) : State :=
  (s.putI64 (Reg.LANE_BUILDOUT_LO_BO_LO n) (Reg.LANE_BUILDOUT_HI_BO_HI n) b).putB (Reg.LANE_STATE_BUILDOUT_KEPT n) kept

/-- The allowance spent on an acquisition: a step planned beyond STEP_THRESH, else a slew; B is 0 (R62, R63, R120). -/
def State.acquire (s : State) (n : Nat) (off : Int) : State :=
  let s := ((s.put Reg.TCO_STATUS_STEP_ARMED 0).setVar .spentNow 1).setBuildout n 0 false
  if s.get Reg.STEP_THRESH_THRESH * 65536 < off.natAbs then
    let whole := truncDiv off 65536
    { s with tc := { s.tc with plan := some ⟨whole, (off - whole * 65536) * 2 ^ 36, s.tc.edges, 0⟩ } }
  else (s.slewFor n 4 off).1

/-- Whether a selection takes a lane's offset whole: a PHASE or TIME lane in holdover (R107), or one forced out of SUSPECT after PHASE_JUMP
(R109). In holdover R107 goes before R109's build-out (DESIGN CHOICE, log entry 143). -/
def State.bringsWhole (s : State) (n : Nat) : Bool :=
  s.lanePT n && (s.inHoldover || decide (s.laneSt n = 5 ∧ s.get (Reg.LANE_STATE_CAUSE n) = 8))

/-- Whether a lane's build-out is put into SLEW_REMAIN at a switch to it: a TIME lane's, and on a twin promoted from STANDBY that of any lane
chosen after the PARTNER lane that carries phase (R104, R106, R349). -/
def State.retiresBuild (s : State) (n : Nat) : Bool :=
  s.laneType n = 2 ∨ (s.lanePT n ∧ s.serves ∧ s.cur.any s.isPartner)

/-- The build-out of a switch to a lane whose offset at the switch edge is given: spent on an acquisition, slewed whole, or
kept or retired (R104, R106, R107, R109, R120). -/
def State.buildOut (s : State) (n : Nat) (off : Int) (whole retire : Bool) : State :=
  if s.get Reg.TCO_STATUS_STEP_ARMED = 1 ∧ s.lanePT n then s.acquire n off
  else if s.lanePT n ∧ whole then
    let (s, ok) := s.slewFor n 3 off
    s.setBuildout n off (! ok)
  else if retire then
    let (s, ok) := s.slewFor n 2 off
    s.setBuildout n off (! ok)
  else s.setBuildout n off true

/-- The lane that loses the selection: AVAILABLE again, or DISABLED when its rank is 0; its build-out, held allowance and
forced allowance go (R88, R100, R103). -/
def State.deselect (s : State) (n : Nat) : State :=
  let s := if s.laneSt n = 4 then (if s.laneRank n = 0 then s.laneTo n 0 11 else s.laneTo n 3 0) else s
  let s := s.setBuildout n 0 false
  let s := s.setLane n { s.lane n with held := 0 }
  { s with episodes := s.episodes.filter fun e => e.force = false }

/-- The code of a lane or none in event data. -/
def laneCode (l : Option Nat) : Nat := l.getD 0xFF

/-- A switch of the selection (R103 to R107, R109, R120): the old lane left, the new one brought in with its build-out, the switch
recorded, 0x0021 raised. A SUSPECT lane that is forced has R109's allowance, unless its selection is an acquisition. -/
def State.switchTo (s : State) (want : Option Nat) : State :=
  let old := s.cur
  let whole := want.any s.bringsWhole
  let retire := want.any s.retiresBuild
  let s := match old with
    | some o => s.deselect o
    | none => s
  let s := s.bump Reg.SEL_SWITCHES_COUNT
  let s := s.put64 Reg.SEL_LAST_AT_LO_AT_LO Reg.SEL_LAST_AT_HI_AT_HI s.linear
  let s := (s.put Reg.SEL_LAST_LANES_FROM (old.getD 0)).putB Reg.SEL_LAST_LANES_FROM_VALID old.isSome
  let s := (s.put Reg.SEL_LAST_LANES_TO (want.getD 0)).putB Reg.SEL_LAST_LANES_TO_VALID want.isSome
  let s := ((s.setVar .lastUpdate 0).setVar .lastE 0).setVar .warmBroken 1
  match want with
  | none =>
    let s := (s.put Reg.SEL_STATUS_CUR 0).put Reg.SEL_STATUS_CUR_VALID 0
    let s := s.putI64 Reg.SEL_BUILDOUT_LO_BO_LO Reg.SEL_BUILDOUT_HI_BO_HI 0
    s.raise evSwitch [i1 (laneCode old), i1 0xFF, i8 0]
  | some n =>
    let off := s.offsetNow n
    let suspect := decide (s.laneSt n = 5 ∧ ¬ (s.get Reg.TCO_STATUS_STEP_ARMED = 1 ∧ s.lanePT n))
    let s := s.buildOut n off whole retire
    let b := s.getI64 (Reg.LANE_BUILDOUT_LO_BO_LO n) (Reg.LANE_BUILDOUT_HI_BO_HI n)
    let s := ((s.put Reg.SEL_STATUS_CUR n).put Reg.SEL_STATUS_CUR_VALID 1).laneTo n 4 0
    let s := s.putI64 Reg.SEL_BUILDOUT_LO_BO_LO Reg.SEL_BUILDOUT_HI_BO_HI b
    let s := if suspect then
        let e : Episode := ⟨n, old.getD 16, s.runNs, none, true, 0⟩
        { s with episodes := s.episodes ++ [e] }.arm e.timer s.avgWin
      else s
    s.raise evSwitch [i1 (laneCode old), i1 n, i8 (toBits 64 b)]

/-- What SEL_STATUS shows beside the lane (R96, R99). -/
def State.showSel (s : State) : State :=
  let none' := decide (s.cur = none)
  let held := (allLanes.filter fun n => s.eligible n && s.heldOut n)
  let hold := none' && decide (held ≠ [])
  let first := hold && decide (s.get Reg.SEL_STATUS_DISAGREE_HOLD = 0)
  let s := (s.putB Reg.SEL_STATUS_NO_FIT none').putB Reg.SEL_STATUS_DISAGREE_HOLD hold
  let s := s.putB Reg.SEL_STATUS_FORCED (decide (s.forced ≠ none ∧ s.forced = s.cur))
  let s := s.putB Reg.SEL_STATUS_PARTNER_SEL (match s.cur with
    | some n => decide (s.laneSrc n = 0x14)
    | none => false)
  let s := (s.putB Reg.SEL_STATUS_WTR_RUNNING (decide (s.var .wtrLane ≠ 0))).put Reg.SEL_STATUS_WTR_LANE
    (s.var .wtrLane - 1).toNat
  if first then s.raise evNoSelection [i2 (held.foldl (fun m n => m + 2 ^ n) 0)] else s

/-- A force whose lane has gone LOST, DISABLED or DISQUALIFIED dropped, with 0x002C; a SELECTED lane whose rank is 0 goes DISABLED with that
cause (R88, R110). -/
def State.dropForce (s : State) : State :=
  match s.forced with
  | some f => if s.laneGone f ∨ s.laneRank f = 0 then
      ((s.setVar .forcedLane 0).put (Reg.LANE_STATE_FORCED f) 0).raise (evForceDropped f)
        [i1 f, i1 (if s.laneGone f then s.get (Reg.LANE_STATE_CAUSE f) else 11)] else s
  | none => s

/-- The choice of a lap boundary: WTR, the lane R96 wants, the switch, and, on the lane that stays, the acquisition a
TIME_RESET asks for (R96, R97, R120). The lane stays selected there, so T of the loop's next update is the time since its last one (R119;
DESIGN CHOICE, log entry 167). -/
def State.choose (s : State) : State :=
  let s := s.dropForce.runWtr
  let want := s.wantLane
  let s := if want ≠ s.cur then (s.switchTo want).runWtr else
    match s.cur with
    | some n => if s.get Reg.TCO_STATUS_STEP_ARMED = 1 ∧ s.lanePT n then s.acquire n (s.offsetNow n) else s
    | none => s
  s.showSel

/-! ## The cross-check (R101, R102) -/

/-- What the Time Core has departed from the present shadow, or a step's size, unit 2^-52 ns, added to what it has departed from the shadows
that lanes are held to (R101, R102). -/
def State.carryShadows (s : State) (d : Int) : State :=
  { s with lanes := s.lanes.map fun x => (x.1, { x.2 with shadow := x.2.shadow.map fun h => { h with dep := h.dep + d } }) }

/-- The shadow anchored at the present edge; its bound is the TEB now, or that of the lap's end after a step (R101). -/
def State.anchorShadow (s : State) (afterStep : Bool) : State :=
  let src := if s.modelValid then s.pickSrc else none
  let par := match src with
    | some _ => s.atomPar
    | none => s.ocxoPar
  let u := match src with
    | some n => (s.atom n).uyAt s.runNs par.amax
    | none => s.disc.ocxo.uyAt s.runNs par.amax
  let s := s.carryShadows s.tc.dep
  let s := { s with tc := { s.tc with dep := 0 } }
  let s := (((s.setVar .shadowOn 1).setVar .shadowAt s.runNs).setVar .shadowTeb (s.get Reg.HOB_TEB_TEB)).setVar .shadowWait (b2n afterStep)
  let s := ((s.setVar .shadowUy u).setVar .shadowAmax par.amax).setVar .shadowW par.w
  s.arm .shadow (s.get Reg.SEL_XCHK_XCHK_SPAN * secNs)

/-- The shadow at a step of some whole nanoseconds: anchored anew at the step edge; without a valid model there is none, and the next one
starts from its own anchor. The shadow a lane is held to stands, and the Time Core has departed from it by the step (R101, R102; DESIGN
CHOICE, log entry 168). -/
def State.stepShadow (s : State) (whole : Int) : State :=
  let s := s.carryShadows (whole * nsUnit)
  if s.modelValid then s.anchorShadow true else (s.setVar .shadowOn 0).setVar .shadowWait 0

/-- The present shadow, as a lane that fails against it is held to it (R102). -/
def State.shadowNow (s : State) : HeldShadow :=
  ⟨s.var .shadowAt, s.var .shadowTeb, decide (s.var .shadowWait = 1), s.var .shadowUy, s.var .shadowAmax, s.var .shadowW, 0⟩

/-- The shadow a lane is tested against: the present one, or the one a lane SUSPECT on the cross-check failed against (R101, R102). -/
def State.shadowOf (s : State) (n : Nat) : HeldShadow :=
  match (s.lane n).shadow with
  | some h => if s.laneSt n = 5 then h else s.shadowNow
  | none => s.shadowNow

/-- TEB_shadow of a shadow at the present, unit 2^-8 ns (R101). -/
def State.shadowTebNow (s : State) (h : HeldShadow) : Nat :=
  tebAnchored h.teb.toNat h.uy.toNat h.amax.toNat h.w.toNat ((s.runNs : Int) - h.at_).toNat

/-- Whether a lane is cross-checked: a GNSS lane, or one with XCHK_EN (R101). -/
def State.xchecked (s : State) (n : Nat) : Bool := s.laneSrc n = 0x08 ∨ s.get (Reg.LANE_CFG_XCHK_EN n) = 1

/-- Whether a lane is SUSPECT from the cross-check. -/
def State.xSuspect (s : State) (n : Nat) : Bool := s.laneSt n = 5 ∧ s.get (Reg.LANE_STATE_CAUSE n) = 9

/-- The tests of R101 on a lane: the test failed, in the order of its table from 0, with its excess, or none. -/
def State.xTest (s : State) (n : Nat) : Option (Nat × Nat) :=
  let y := (s.lane n).y.natAbs
  let agree := s.get Reg.SEL_AGREE_AGREE
  let h := s.shadowOf n
  let d := (s.laneOffset n * 2 ^ 36 + s.tc.dep + h.dep).natAbs
  let lim := (s.shadowTebNow h + s.laneU n) * 2 ^ 44
  if agree < y then some (0, y - agree)
  else if lim < d then some (1, ceilDiv (d - lim) (2 ^ 44))
  else none

/-- A failed test reported: DISAGREE on the lane and 0x002F (R102). 0x002A has no second lane and no |y_A - y_B| then: its data are 0xFF
and 0 (R113; DESIGN CHOICE, log entry 169). -/
def State.xReport (s : State) (n test excess : Nat) : State :=
  (s.raise (evLane n 8) [i1 n, i1 0xFF, i8 0]).raise (evXchk n) [i1 n, i1 test, i8 excess]

/-- The cross-check made at a lane's measurement (R101, R102). A lane that fails uncorroborated is held to the shadow it failed against, and
as SUSPECT its later measurements only decide whether it may leave. Without a valid model only the comparison with other lanes is made; its code follows those of the table. -/
def State.crossCheck (s : State) (n : Nat) : State :=
  let sus := s.xSuspect n
  if ¬ s.xchecked n ∨ ¬ (s.laneFit n ∨ sus) then s
  else if s.modelValid then
    let s := if s.var .shadowOn = 0 then s.anchorShadow false else s
    match s.xTest n with
    | none => if sus then s.setLane n { s.lane n with xpass := true } else s
    | some (t, x) =>
      if sus then s else
      let s := s.xReport n t x
      if (s.witnesses n).any (s.corroborates n) then s.anchorShadow false
      else s.setLane n { s.lane n with xfail := true, shadow := some s.shadowNow }
  else
    let ws := s.witnesses n
    let ok := decide (ws = []) || ws.any (s.corroborates n)
    if ok then (if sus then s.setLane n { s.lane n with xpass := true } else s)
    else if sus then s
    else (s.xReport n 2 0).setLane n { s.lane n with xfail := true }

/-- SHADOW_ANCHOR: every XCHK_SPAN, with a valid model (R101). -/
def execShadowAnchor (s : State) : Host.Outcome State Fault Refusal :=
  .next (if s.modelValid ∧ (s.var .shadowOn = 0 ∨ s.due .shadow) then s.anchorShadow false else s)

/-! ## Measurements and loss of signal (R84, R91) -/

/-- A measurement of a lane arrives, dated by the point it holds for: its quantities, the loop when it is selected, its residual, the
cross-check. A lane whose unit is not ENABLED takes none (R40, R84). -/
def State.laneMeasured (s : State) (n : Nat) (raw : Int) (m : Mark) : State :=
  if 15 < n ∨ s.laneSt n = 0 ∨ ¬ s.laneOn n then s else
  let s := (s.measureLane n raw m).pmcEvent 0 0x10
  let s := if s.laneSt n = 4 then
      (if s.var .frozen = 1 then s else
        let s := s.loopUpdate n m.at16
        s.residual n s.loopResidual)
    else if s.lanePT n then s.residual n (s.fitResidual n)
    else s
  s.crossCheck n

/-- The delay of a source, unit 2^-16 ns: REFIN_DELAY_n on a REFIN pin, else 0 (R142). -/
def State.srcDelay (s : State) (src : Nat) : Int := if src < 8 then s.getI (Reg.REFIN_DELAY_DELAY src) * 64 else 0

/-- A lane's offset once its source's delay is taken off the stamp: an edge stamped earlier puts the lane further ahead (R85, R142). -/
def State.laneReading (s : State) (n : Nat) (offset : Int) : Int := offset + s.srcDelay (s.laneSrc n)

/-- Whether a lane's source is a recovered clock that declares LOS: its link is DOWN or OFF, or its receive CDR is unlocked (R323). -/
def State.synceOut (s : State) (n : Nat) : Bool :=
  let p := s.laneSrc n - 0x10
  decide (0x10 ≤ s.laneSrc n ∧ s.laneSrc n < 0x14 ∧ (s.get (Reg.PORT_STATUS_LINK p) < 2 ∨ s.get (Reg.SYNCE_STATUS_CDR_LOCK p) = 0))

/-- LANE_MEASUREMENT: a lane's offset in units of 2^-16 ns, as its edge was stamped (R84, R142). -/
def execLaneMeasurement (n : Nat) (offset : Int) (s : State) : Host.Outcome State Fault Refusal :=
  .next (if s.synceOut n then s else s.laneMeasured n (s.laneReading n offset) s.mark)

/-- The signal of a lane is lost: LOS and 0x0022 at the edge, the loop frozen when the lane is SELECTED; the lane's state
follows at the lap boundary (R87, R91). -/
def State.laneLos (s : State) (n : Nat) : State :=
  if 15 < n ∨ s.laneSt n = 0 then s else
  let wasUp := (s.lane n).up
  let s := s.setLane n { s.lane n with up := false, los := true }
  let s := if wasUp then s.raise (evLane n 0) [i1 n] else s
  if s.laneSt n = 4 then s.freeze else s

/-- Whether a REFIN lane has LOS when its last edge lies some time back, unit 2^-16 ns: 4 periods and 1 µs, or for a PHASE lane its window
of 2 ms about the period (R90). -/
def State.losDue (s : State) (n since : Nat) : Bool :=
  decide (s.laneSrc n < 8)
  && (if s.laneType n = 1 then decide ((s.laneInterval n + 2000000) * 65536 ≤ since)
      else decide (1000 * 65536 ≤ since ∧ 4 * 16 * secNs * 65536 ≤ since * s.laneNom n))

/-- LOS: a REFIN lane's edges are missing, the last one since some time, unit 2^-16 ns (R90, R91). A lane of another source has LOS where its
source's command declares it. -/
def execLos (g : LaneGap) (s : State) : Host.Outcome State Fault Refusal :=
  .next (if s.losDue g.n g.since then s.laneLos g.n else s)

/-- Every lane of a source loses its signal. -/
def State.sourceLos (s : State) (src : Nat) : State :=
  allLanes.foldl (fun s n => if s.laneSrc n = src then s.laneLos n else s) s

/-- Every lane of a source gets a measurement dated by a point, with the source's uncertainty in units of 2^-8 ns. -/
def State.sourceMeasured (s : State) (src : Nat) (off : Int) (u : Nat) (m : Mark) : State :=
  allLanes.foldl (fun s n => if s.laneSrc n = src then
    (s.setLane n { s.lane n with uSrc := u }).laneMeasured n off m else s) s

/-! ## The lap (R87, R89) -/

/-- The lap's second judgement of a lane: a cross-check verdict (R102). -/
def State.laneVerdict (s : State) (n : Nat) : State :=
  let r := s.lane n
  let s := s.setLane n { r with xfail := false, xpass := false }
  if r.xfail ∧ s.laneFit n then (if s.forcedCur n then s.dropShadow n else s.laneTo n 5 9)
  else if r.xpass ∧ s.xSuspect n ∧ s.forced ≠ some n then s.laneTo n 2 0
  else s

/-- A qualification that ends: AVAILABLE, or in holdover the test of R107 for a lane that carries phase, on its offset (R85). -/
def State.qualified (s : State) (n : Nat) : State :=
  let off := s.laneOffset n
  let bound := s.get Reg.HOB_TEB_TEB + s.laneU n
  if s.inHoldover ∧ s.lanePT n ∧ bound * 256 < off.natAbs then
    (s.raise (evLane n 7) [i1 n, i8 (toBits 64 off), i4 (min bound (2 ^ 32 - 1))]).laneTo n 5 8
  else s.laneTo n 3 0

/-- The lap's third judgement of a lane: its timer, or a witness that frees it from a failed return, to AVAILABLE as R107 has it and not by
R88's row to QUALIFYING (R88, R107; DESIGN CHOICE, log entry 170); one freed with a limit
crossed goes on to DISQUALIFIED, since no such lane is held SELECTED (R95). -/
def State.laneTimers (s : State) (n : Nat) : State :=
  let st := s.laneSt n
  if st = 2 ∧ s.due (.qual n) then s.qualified n
  else if st = 6 ∧ s.due (.disq n) then s.laneTo n 2 0
  else if st = 5 ∧ s.get (Reg.LANE_STATE_CAUSE n) = 8 ∧ s.forced ≠ some n ∧ (s.witnesses n).any (s.corroborates n)
  then (s.laneTo n 3 0).judgeLimit n 3
  else s

/-- q_H of every AVAILABLE HOLDOVER lane added to the second's sum (R123). -/
def State.lapQ (s : State) : State :=
  allLanes.foldl (fun s n =>
    match (s.lane n).q with
    | some q => if s.laneType n = 3 ∧ s.laneSt n = 3 then
        s.setLane n { s.lane n with qSum := (s.lane n).qSum + q, qCnt := (s.lane n).qCnt + 1 } else s
    | none => s) s

/-- Whether the selector evaluates its lanes: start-up is DONE and the Track die has no fault (R48, R457). -/
def State.selectorOn (s : State) : Bool := s.phase = 7 ∧ ¬ s.dieBad 0

/-- The selector's and the discipline's part of a lap boundary (R87, R89, R96, R115): pairs that disagree flagged and lanes judged while
start-up is DONE (R457), disagreements, timers, allowances, the choice, the discipline. -/
def State.selectorLap (s : State) : State :=
  let s := if s.selectorOn then
      let s := lanePairs.foldl (fun s p => s.pairSticky p.1 p.2) s
      let s := allLanes.foldl State.laneJudge s
      let s := allLanes.foldl State.laneVerdict s
      let s := lanePairs.foldl (fun s p => s.judgePair p.1 p.2) s
      let s := s.judgeEpisodes s.episodes
      let s := allLanes.foldl State.laneTimers s
      let s := s.lapQ.choose
      s.setAllows
    else s
  s.discLap

/-- What a timer's end does at a lap boundary's edge, where the selector evaluates its lanes: the lap's evaluation; at another edge the next
boundary does it (R48, R87). -/
def State.atLapOnly (s : State) (f : State → State) : State := if s.atLap ∧ s.selectorOn then f s else s

/-- QUAL_TIME_EXPIRY (R88, R107): at the lap boundary, unless an earlier row of R89 applies to the lane. -/
def execQualTimeExpiry (n : Nat) (s : State) : Host.Outcome State Fault Refusal :=
  .next (s.atLapOnly fun s =>
    if n < 16 ∧ s.laneSt n = 2 ∧ s.due (.qual n) ∧ s.laneRank n ≠ 0 ∧ s.lostCause n = none ∧ s.limitCause n = none
    then s.qualified n else s)

/-- DISQ_HOLD_EXPIRY (R88). -/
def execDisqHoldExpiry (n : Nat) (s : State) : Host.Outcome State Fault Refusal :=
  .next (s.atLapOnly fun s =>
    if n < 16 ∧ s.laneSt n = 6 ∧ s.due (.disq n) ∧ s.laneRank n ≠ 0 ∧ s.lostCause n = none then s.laneTo n 2 0 else s)

/-- WTR_EXPIRY: the better lane is chosen at the lap boundary, once the lane states are updated at it (R96, R97). -/
def execWtrExpiry (s : State) : Host.Outcome State Fault Refusal :=
  .next (s.atLapOnly fun s => if s.due .wtr ∧ s.var .wtrLane ≠ 0 ∧ s.var .lapEdge = (s.tc.edges : Int) + 1
    then (s.choose.setAllows).discLap else s)

/-- Whether quantity k of a lane exceeds its warning hurdle now (R92). -/
def State.warnCrossed (s : State) (n k : Nat) : Bool :=
  match s.hurdleValue n k with
  | some v => decide (s.hurdleWarn n k < v)
  | none => false

/-- WARN_CLEAR: a quantity has stayed within its warning hurdle for AVG_WIN, and is within it; 0 frequency, 1 drift, 2 phase (R92, R94). -/
def execWarnClear (n k : Nat) (s : State) : Host.Outcome State Fault Refusal :=
  .next (if n < 16 ∧ k < 3 ∧ s.due (.warn n k) ∧ bit (s.lane n).warn k ∧ ¬ s.warnCrossed n k
    then (s.warnOff n k).setAllows else s)

/-- The episodes of a list whose parties have agreed for AVG_WIN ended (R100). -/
def State.endAgreed (s : State) : List Episode → State
  | [] => s
  | e :: es => (if s.due e.timer ∧ s.agreeNow e then s.endEpisode e false else s).endAgreed es

/-- DISAGREE_END: a disagreement of two lanes, or the allowance of a forced lane against the lane left or, as 16, the prediction, has stayed
within SEL_AGREE for AVG_WIN; the lanes follow at a lap boundary (R87, R100, R109). -/
def execDisagreeEnd (a b : Nat) (s : State) : Host.Outcome State Fault Refusal :=
  .next (s.atLapOnly fun s =>
    let es := s.episodes.filter fun e => decide ((e.a = a ∧ e.b = b) ∨ (e.force = true ∧ e.a = b ∧ e.b = a))
    if es.isEmpty then s else (s.endAgreed es).setAllows)

/-- BUILDOUT_RETIRED: B_slew has become 0; 0x002D names the lane that was selected at that edge and the time taken until then (R497). -/
def execBuildoutRetired (s : State) : Host.Outcome State Fault Refusal :=
  .next (
    if s.tc.bDone then
      let s := { s with tc := { s.tc with bDone := false } }
      let lane := (s.var .retLane).toNat
      s.raise (evRetired (if lane < 16 then 0x0100 + lane else 0x0200)) [i1 lane, i4 (s.var .retMs).toNat]
    else s)

/-! ## Commands (R108 to R112) -/

/-- LANE_FORCE of a lane that is the PARTNER's or not. Only the twin itself can force its PARTNER lane, so that command is not a carried one and
a STANDBY or RESYNC twin takes it, as R108 has it, whatever R342 says of carried commands (DESIGN CHOICE, log entry 171). -/
def opLaneForce (partner : Bool) : OpInfo := { op := 0x0301, role := 1, carried := ! partner }
def opLaneRelease : OpInfo := { op := 0x0302, role := 1, carried := true }
def opLaneClear : OpInfo := { op := 0x0303, role := 1, carried := true }
def opLaneSet : OpInfo := { op := 0x0304, role := 2, carried := true }
def opSelModeSet : OpInfo := { op := 0x0305, role := 2, carried := true }

/-- The lane forced, or none (R108). -/
def State.setForce (s : State) (f : Option Nat) : State :=
  let s := match s.forced with
    | some o => s.put (Reg.LANE_STATE_FORCED o) 0
    | none => s
  match f with
  | some n => (s.setVar .forcedLane (n + 1)).put (Reg.LANE_STATE_FORCED n) 1
  | none => s.setVar .forcedLane 0

/-- LANE_FORCE's effect (R108, R109): the selection follows at the lap boundary. -/
def laneForceEff (n : Nat) (role : Nat) (s : State) : Res :=
  let st := s.laneSt n
  if 15 < n then ⟨s, some Status.range, 0⟩
  else if ¬ (st = 3 ∨ st = 4 ∨ st = 5) ∨ s.laneType n = 3 ∨ (s.isPartner n ∧ s.serves) then ⟨s, some Status.notFit, 0⟩
  else if st = 5 ∧ s.get Reg.TCO_STATUS_STEP_ARMED = 0 ∧ (s.bringsWhole n ∨ s.retiresBuild n) ∧ ¬ s.slewFits (s.offsetNow n * 2 ^ 36)
  then ⟨s, some Status.range, 0⟩
  else ⟨(s.setForce (some n)).change role (0x0100 + n) 0x0301 noOffset n 0, some Status.ok, 0⟩

/-- LANE_FORCE (R108). -/
def execLaneForce (c : Ctx) (n : Nat) (s : State) : Host.Outcome State Fault Refusal :=
  .next (s.runCmd c (opLaneForce (s.isPartner n)) [n] (laneForceEff n))

/-- LANE_RELEASE's effect (R110). -/
def laneReleaseEff (role : Nat) (s : State) : Res :=
  ⟨(s.setForce none).change role 0x0200 0x0302 noOffset 0 0, some Status.ok, 0⟩

/-- LANE_RELEASE (R110). -/
def execLaneRelease (c : Ctx) (s : State) : Host.Outcome State Fault Refusal :=
  .next (s.runCmd c opLaneRelease [] laneReleaseEff)

/-- LANE_CLEAR's effect (R111): noted for the lap boundary. -/
def laneClearEff (n : Nat) (role : Nat) (s : State) : Res :=
  if 15 < n then ⟨s, some Status.range, 0⟩ else
  let s := s.setLane n { s.lane n with clear := decide (s.laneSt n = 5 ∨ s.laneSt n = 6) }
  ⟨s.change role (0x0100 + n) 0x0303 noOffset n 0, some Status.ok, 0⟩

/-- LANE_CLEAR (R111). -/
def execLaneClear (c : Ctx) (n : Nat) (s : State) : Host.Outcome State Fault Refusal :=
  .next (s.runCmd c opLaneClear [n] (laneClearEff n))

/-- Whether LANE_SET takes a nominal frequency: one that some type of R80 accepts (R112). -/
def nominalSettable (v : Nat) : Bool := v = 8 ∨ v = 16 ∨ (16000 ≤ v ∧ v ≤ 4000000000)

/-- Whether QL_MIN may hold a code: no gate, or a code of R324 that ranks. -/
def qlMinOk (q : Nat) : Bool := q = 0 ∨ qlRank q < 5

/-- Whether LANE_SET takes a value of LANE_CFG: a SOURCE of R79 with a TYPE it allows, and a QL_MIN in the field's range (R112, R324). -/
def laneCfgTaken (v : Nat) : Bool := typeAllowed (v % 32) (v / 32 % 4) && qlMinOk (v / 2 ^ 16 % 16)

/-- LANE_SET's effect: a word of the lane block from 0x00 to 0x2C (R112). -/
def laneSetEff (n off value : Nat) (role : Nat) (s : State) : Res :=
  let a := 0x110100 + 0x80 * n + off
  if 15 < n ∨ 0x2C < off then ⟨s, some Status.range, 0⟩
  else if (off = 0 ∧ ¬ laneCfgTaken value) ∨ (off = 4 ∧ ¬ nominalSettable value) then ⟨s, some Status.range, 0⟩
  else if off = 0 ∧ s.laneSt n = 4 ∧ (value % 32 ≠ s.laneSrc n ∨ value / 32 % 4 ≠ s.laneType n) then ⟨s, some Status.busy, 0⟩
  else
    let old := s.laneCfg n
    let r := s.setWord role 0x0304 0x110100 0x110900 a value
    if r.st = some Status.ok ∧ r.s.laneCfg n ≠ old ∧ r.s.laneRank n ≠ 0
    then ⟨r.s.setLane n { r.s.lane n with changed := true }, r.st, 0⟩ else r

/-- LANE_SET (R112). -/
def execLaneSet (c : Ctx) (n off value : Nat) (s : State) : Host.Outcome State Fault Refusal :=
  .next (s.runCmd c opLaneSet [n, off, value] (laneSetEff n off value))

/-- SEL_MODE_SET's effect: all five values, or RANGE and no change (R112); one change record per word (R440). -/
def selModeSetEff (revertive wtr avg agree span : Nat) (role : Nat) (s : State) : Res :=
  if 1 < revertive ∨ 3600 < wtr ∨ avg < 10 ∨ 10000 < avg ∨ 2 ^ 32 ≤ agree ∨ span < 600 ∨ 65535 < span
  then ⟨s, some Status.range, 0⟩ else
  let t0 := s.get Reg.SEL_TIMERS_WTR + 2 ^ 16 * s.get Reg.SEL_TIMERS_AVG_WIN
  let r0 := s.get Reg.SEL_CTRL_REVERTIVE
  let a0 := s.get Reg.SEL_AGREE_AGREE
  let x0 := s.get Reg.SEL_XCHK_XCHK_SPAN
  let s := ((s.put Reg.SEL_CTRL_REVERTIVE revertive).put Reg.SEL_TIMERS_WTR wtr).put Reg.SEL_TIMERS_AVG_WIN avg
  let s := (s.put Reg.SEL_AGREE_AGREE agree).put Reg.SEL_XCHK_XCHK_SPAN span
  let s := s.change role 0x0200 0x0305 0x110004 r0 revertive
  let s := s.change role 0x0200 0x0305 0x110008 t0 (wtr + 2 ^ 16 * avg)
  let s := s.change role 0x0200 0x0305 0x11000C a0 agree
  ⟨s.change role 0x0200 0x0305 0x110010 x0 span, some Status.ok, 0⟩

/-- SEL_MODE_SET (R112). -/
def execSelModeSet (c : Ctx) (revertive wtr avg agree span : Nat) (s : State) : Host.Outcome State Fault Refusal :=
  .next (s.runCmd c opSelModeSet [revertive, wtr, avg, agree, span] (selModeSetEff revertive wtr avg agree span))

end Sys2Proof.Machine
end

