-- ==== Sys2Proof/Machine/Gnss.lean ====
section
/-! DEFINITION. The GNSS baseband (R205 to R231): sample checks, channels and acquisition, epochs, the time solution, the
survey, navigation data, and its commands. What the constellations' own standards give (orbits, message parity, delay
models) comes in with the operands. -/

namespace Sys2Proof.Machine

/-! ## Signals (R210) -/

/-- A signal of R210: constellation, whether in the L5 band, chips and milliseconds of the primary code, whether its chip
rate is 10.23 Mcps, whether it is tracked on a pilot. -/
structure SigInfo where
  const : Nat
  l5    : Bool
  chips : Nat
  ms    : Nat
  fast  : Bool
  pilot : Bool

/-- The signals by SIG code. -/
def sigInfo (sig : Nat) : SigInfo :=
  match sig with
  | 0 => ⟨0, false, 1023, 1, false, false⟩
  | 1 => ⟨0, true, 10230, 1, true, true⟩
  | 2 => ⟨1, false, 4092, 4, false, true⟩
  | 3 => ⟨1, true, 10230, 1, true, true⟩
  | 4 => ⟨2, false, 10230, 10, false, true⟩
  | 5 => ⟨2, true, 10230, 1, true, true⟩
  | 6 => ⟨3, false, 1023, 1, false, false⟩
  | _ => ⟨3, true, 10230, 1, true, true⟩

/-- Carrier of a signal's band in Hz. -/
def SigInfo.carrier (i : SigInfo) : Nat := if i.l5 then 1176450000 else 1575420000

/-- The SVIDs of a constellation. -/
def svids (const : Nat) : List Nat :=
  match const with
  | 0 => (List.range 32).map (· + 1)
  | 1 => (List.range 36).map (· + 1)
  | 2 => (List.range 63).map (· + 1)
  | 3 => (List.range 10).map (· + 193)
  | _ => []

/-- The constellation whose time one keeps: QZSS keeps GPS time (R210). -/
def timeOf (const : Nat) : Nat := if const = 3 then 0 else const

/-- Whether the baseband runs (R214). -/
def State.gnssRuns (s : State) : Bool := s.get Reg.GNB_STATUS_RUNNING = 1

/-- HID of a channel. -/
def chHid (n : Nat) : Nat := 0x2000 + n / 16 * 0x100 + n % 16

/-- The channels. -/
def allChans : List Nat := List.range 192

/-- A channel's hidden record. -/
def State.chan (s : State) (n : Nat) : ChanRec := (aget s.gnss.chans n).getD {}

/-- A channel's hidden record set. -/
def State.setChan (s : State) (n : Nat) (r : ChanRec) : State := { s with gnss := { s.gnss with chans := aput s.gnss.chans n r } }

/-- A channel's state (R216): 7 while its unit is FENCED or ABSENT. -/
def State.chSt (s : State) (n : Nat) : Nat :=
  let u := (s.unit (chHid n)).st
  if u = .fenced ∨ u = .absent then 7 else s.get (Reg.CH_STATUS_STATE n)

/-- CH_TRACK as the channels' states give it. -/
def State.chTracks (s : State) : Nat := (allChans.filter fun n => s.get (Reg.CH_STATUS_STATE n) = 3).length

/-! ## The sample clock and the samples (R205 to R207) -/

/-- Whether GNS_SCLK runs: the GNSS domain is powered and the TCLK PLL is locked (R205). -/
def State.sclkRuns (s : State) : Bool := s.powered 7 && decide (2 ≤ s.phase)

/-- Whether this TCLK edge is a rising edge of GNS_SCLK: its count since the PLL locked is a multiple of 8 (R205). -/
def State.sclkRise (s : State) : Bool := s.sclkRuns && decide (s.tc.edges % 8 = 0)

/-- The TCLK edge of rising edge k of the sample clock (R205). -/
def sclkEdge (k : Nat) : Nat := 8 * k

/-- The sample captured last: the one launched on rising edge k is captured CAP_PHASE TCLK periods after rising edge k + 1 (R206). -/
def State.captured (s : State) : Nat := (s.tc.edges - s.get Reg.GNB_SLI_CFG_CAP_PHASE) / 8 - 1

/-- The sample clock at a TCLK edge: a rising edge's Time Core time is kept, and a sample captured at this edge is stamped with that of the edge
it was launched on (R205, R206). -/
def State.sampleClock (s : State) : State :=
  if ¬ s.sclkRuns then s else
  let s := if s.sclkRise then (s.setVar .sclkWas (s.var .sclkAt)).setVar .sclkAt s.tc.time else s
  if s.tc.edges % 8 = s.get Reg.GNB_SLI_CFG_CAP_PHASE then s.setVar .capStamp (s.var .sclkWas) else s

/-- The level a 2-bit code stands for, by FORMAT (R207). -/
def sampleLevel (format code : Nat) : Int :=
  if format = 0 then (match code with | 0 => 1 | 1 => 3 | 2 => -1 | _ => -3)
  else (match code with | 0 => -3 | 1 => -1 | 2 => 1 | _ => 3)

/-- Which way the captured samples turn for a carrier that turns forward on the lines: SWAP_IQ's exchange of I and Q and INV_Q's negation of Q
each invert the spectrum (R207). -/
def State.spin (s : State) : Int := if s.get Reg.GNB_SLI_CFG_SWAP_IQ = s.get Reg.GNB_SLI_CFG_INV_Q then 1 else -1

/-- IF of a band in Hz (R207). -/
def State.bandIf (s : State) (l5 : Bool) : Int := s.getI (if l5 then Reg.GNB_IF_L5_IF else Reg.GNB_IF_L1_IF)

/-! ## Acquisition (R212, R213) -/

/-- An acquisition engine's search, if it has one. -/
def State.acq (s : State) (k : Nat) : Option AcqRec := aget s.gnss.acq k

/-- The effective coherent time of a search, in ms (R212). -/
def State.cohMs (s : State) (sig : Nat) : Nat := max (s.get Reg.GNB_ACQ_ACQ_TCOH) (sigInfo sig).ms

/-- Whether a navigation record of a type is held for a satellite. -/
def State.hasNav (s : State) (const svid typ : Nat) : Bool :=
  s.gnss.nav.any fun r => decide (r.const = const ∧ r.svid = svid ∧ r.typ = typ)

/-- Whether stored data gives a satellite's orbit: an ephemeris or an almanac. -/
def State.hasOrbit (s : State) (const svid : Nat) : Bool := s.hasNav const svid 0 || s.hasNav const svid 1

/-- The relative uncertainty u_f of the engine's rate, in units of 2^-48, rounded up (R213). -/
def State.uF (s : State) : Nat := if s.cur.isSome then 2814750 else max 2814750 (s.get Reg.HOB_UY_USE_UY)

/-- Whether the position is held, or surveyed for at least one second (R213). -/
def State.posKnown (s : State) : Bool :=
  s.get Reg.GNB_STATUS_POS_STATE = 2 || (s.get Reg.GNB_STATUS_POS_STATE = 1 && decide (0 < s.get Reg.GNB_SURVEY_DONE_ELAPSED))

/-- Whether a signal is never searched blind and so acquired aided once orbit data exists: the L5 band and BeiDou B1C (R211; log entry 183). -/
def neverBlind (sig : Nat) : Bool := (sigInfo sig).l5 || sig = 4

/-- The code and Doppler bins of a search: for a channel in REACQ ±2 chips and ±2 bins, else the aided or the unaided window
of R213. The second part says whether it is aided: a signal assigned by its satellite's L1 signal is (R211), with the almanac's allowances where no
ephemeris is held (log entry 160). -/
def State.window (s : State) (n : Nat) : (Nat × Nat) × Bool :=
  let sig := s.get (Reg.CH_STATUS_SIG n)
  let svid := s.get (Reg.CH_STATUS_SVID n)
  let i := sigInfo sig
  let t := s.cohMs sig
  let whole := 2 * i.chips
  if s.get (Reg.CH_STATUS_STATE n) = 4 then ((9, 5), true)
  else if (s.chan n).byTrack ∨ (s.hasOrbit i.const svid ∧ (s.posKnown ∨ neverBlind sig)) then
    let eph := s.hasNav i.const svid 0
    let mm := (if eph then 10000 else 2000000) + s.get Reg.GNB_POS_U_POS_U
    let rate := if i.fast then 10230 else 1023
    let half := ceilDiv ((s.get Reg.HOB_TEB_TEB * 299792458 + mm * 256000000) * rate) (256 * 299792458 * 1000000) + 2
    let v2 := if eph then 1 else 10
    let dop := ceilDiv (i.carrier * (s.uF * 2 * 299792458 + v2 * 2 ^ 48) * (2 * t)) (2 ^ 49 * 299792458 * 1000) + 1
    ((if i.chips ≤ 2 * half then whole else 4 * half + 1, 2 * dop + 1), true)
  else
    let dop := ceilDiv ((4500 * i.carrier * 2 ^ 48 + i.carrier * s.uF * 1575420000) * (2 * t)) (1575420000 * 2 ^ 48 * 1000) + 1
    ((whole, 2 * dop + 1), false)

/-- Chips of a signal's primary code in units of 2^-24. -/
def SigInfo.span (i : SigInfo) : Nat := i.chips * 2 ^ 24

/-- A channel's code phase now, run on from the last known one with its Doppler, on the sample clock taken as exact (R216, R219). -/
def State.codeNow (s : State) (n : Nat) : Nat :=
  let i := sigInfo (s.get (Reg.CH_STATUS_SIG n))
  let r := s.chan n
  let run := ((s.tc.edges - r.codeAt : Nat) : Int) * i.span * (256 * i.carrier + r.dopp)
  ((r.code + roundDiv run (640000 * i.ms * 256 * i.carrier)) % i.span).toNat

/-- The channel that tracks a satellite's L1 signal. -/
def State.l1Chan (s : State) (const svid : Nat) : Option Nat :=
  allChans.find? fun n => decide (s.chSt n = 3 ∧ (sigInfo (s.get (Reg.CH_STATUS_SIG n))).const = const
    ∧ (sigInfo (s.get (Reg.CH_STATUS_SIG n))).l5 = false ∧ s.get (Reg.CH_STATUS_SVID n) = svid)

/-- What a search is centred on (R211, R213, R216): in REACQ the code and carrier last known; for a signal assigned by its satellite's L1 signal what
that one shows; with orbit data what it predicts; else nothing but RATE_TOTAL, which every prediction includes. Code phase in units of 2^-24 chip,
Doppler in units of 2^-8 Hz. -/
def State.predict (s : State) (n : Nat) : Nat × Int :=
  let i := sigInfo (s.get (Reg.CH_STATUS_SIG n))
  let svid := s.get (Reg.CH_STATUS_SVID n)
  let r := s.chan n
  let dopp := fun (rate : Int) => roundDiv (i.carrier * (rate + s.tc.rt)) (2 ^ 40)
  if s.get (Reg.CH_STATUS_STATE n) = 4 then (s.codeNow n, r.dopp)
  else match (if r.byTrack then s.l1Chan i.const svid else none) with
  | some m => (s.codeNow m * 10 % i.span, roundDiv ((s.chan m).dopp * i.carrier) (sigInfo (s.get (Reg.CH_STATUS_SIG m))).carrier)
  | none =>
    if s.hasOrbit i.const svid ∧ (s.posKnown ∨ neverBlind (s.get (Reg.CH_STATUS_SIG n))) then
      let tx : Int := (s.at16 : Int) - r.lag + r.rate * ((s.at16 : Int) - r.predAt) / 2 ^ 48
      ((tx * (i.span : Int) / (65536000000 * i.ms : Nat) % (i.span : Int)).toNat, dopp r.rate)
    else (0, dopp 0)

/-- A dwell begun: its length is T_c × ACQ_NC, which is held to 1,000 ms (R212). -/
def State.dwell (s : State) (k n : Nat) : State :=
  let t := s.cohMs (s.get (Reg.CH_STATUS_SIG n))
  s.arm (.dwell k) (1000000 * t * min (1000 / t) (s.get Reg.GNB_ACQ_ACQ_NC))

/-- Whether cell d lies within one bin of cell c in each axis; in a window over a whole code of some chips the last code bin lies beside the
first (R212). -/
def AcqRec.near (a : AcqRec) (chips c d : Nat) : Bool :=
  let x := ((c % a.code : Nat) : Int) - (d % a.code : Nat)
  let y := ((c / a.code : Nat) : Int) - (d / a.code : Nat)
  (decide (x.natAbs ≤ 1) || decide (a.code = 2 * chips ∧ x.natAbs + 1 = a.code)) && decide (y.natAbs ≤ 1)

/-- The code phase and the Doppler of a cell: bins of half a chip and of 1 / (2 × T_c), numbered along the code first, about the window's
centre (R212, R213). -/
def State.cellAt (s : State) (a : AcqRec) (c : Nat) : Nat × Int :=
  let sig := s.get (Reg.CH_STATUS_SIG a.ch)
  let x := ((c % a.code : Nat) : Int) - (a.code / 2 : Nat)
  let y := ((c / a.code : Nat) : Int) - (a.dopp / 2 : Nat)
  (((a.midCode + x * 2 ^ 23) % (sigInfo sig).span).toNat, a.midDopp + roundDiv (y * 128000) (s.cohMs sig))

/-- An engine takes up the search of a channel. -/
def State.beginSearch (s : State) (k n : Nat) : State :=
  let (b, aided) := s.window n
  let s := { s with gnss := { s.gnss with acq := aput s.gnss.acq k ⟨n, b.1, b.2, 0, none, (s.predict n).1, (s.predict n).2⟩ } }
  let s := ((s.put (Reg.ACQ_STATUS_BUSY k) 1).putB (Reg.ACQ_STATUS_AIDED k) aided).put (Reg.ACQ_STATUS_CHANNEL k) n
  let s := (s.put (Reg.ACQ_STATUS_SIG k) (s.get (Reg.CH_STATUS_SIG n))).put (Reg.ACQ_STATUS_SVID k) (s.get (Reg.CH_STATUS_SVID n))
  s.dwell k n

/-- The engines that are ENABLED and free take the channels that wait, in order. -/
def State.dispatchSearch (s : State) : State :=
  (List.range 4).foldl (fun s k =>
    if s.unitOn (0x2C00 + k) ∧ (s.acq k).isNone then
      match s.gnss.queue with
      | n :: q => { s with gnss := { s.gnss with queue := q } }.beginSearch k n
      | [] => s
    else s) s

/-- An engine freed. -/
def State.freeAcq (s : State) (k : Nat) : State :=
  (({ s with gnss := { s.gnss with acq := adel s.gnss.acq k } }).put (Reg.ACQ_STATUS_BUSY k) 0).stopTimer (.dwell k)

/-- A channel's search withdrawn from the queue and from its engine. -/
def State.dropSearch (s : State) (n : Nat) : State :=
  let s := { s with gnss := { s.gnss with queue := s.gnss.queue.filter (· ≠ n) } }
  (List.range 4).foldl (fun s k => match s.acq k with
    | some a => if a.ch = n then s.freeAcq k else s
    | none => s) s

/-- A channel's STATE set, with CH_TRACK. -/
def State.chPut (s : State) (n st : Nat) : State :=
  let s := s.put (Reg.CH_STATUS_STATE n) st
  s.put Reg.GNB_STATUS_CH_TRACK s.chTracks

/-- 0x0218: a channel's change of state, when enabled (R216). -/
def State.chEvent (s : State) (n old st : Nat) : State := s.raise (evGnbInfo 0x0218 8 (chHid n)) [i1 old, i1 st]

/-- A channel's state changed (R216). -/
def State.chTo (s : State) (n st : Nat) : State :=
  let old := s.get (Reg.CH_STATUS_STATE n)
  if old = st then s else (s.chPut n st).chEvent n old st

/-- A channel's carrier lock lost, if it had it: SLIP at the next epoch, the loss counted (R216, R222). -/
def State.loseCarrier (s : State) (n : Nat) : State :=
  if s.get (Reg.CH_STATUS_CARRIER_LOCK n) = 0 then s else
  let r := s.chan n
  ((s.setChan n { r with slip := true, slips := (r.slips + 1) % 256 }).put (Reg.CH_STATUS_CARRIER_LOCK n) 0).bump (Reg.CH_SLIPS_COUNT n)

/-- A channel's locks, use, loops and timers cleared: a carrier lock it had is lost (R216, R222). -/
def State.clearLocks (s : State) (n : Nat) : State :=
  let s := ((s.loseCarrier n).put (Reg.CH_STATUS_CODE_LOCK n) 0).put (Reg.CH_STATUS_USED n) 0
  ((s.stopTimer (.pullIn n)).stopTimer (.reacq n)).setChan n { s.chan n with bitSync := false, loop := none }

/-- The time a channel's loops integrate over, in ms: the primary code period until synchronisation on a data component; else T_COH rounded down to a
multiple of that period, and on a data component at most the bit of 20 ms (R215). -/
def State.cohTime (s : State) (n : Nat) : Nat :=
  let i := sigInfo (s.get (Reg.CH_STATUS_SIG n))
  if ! i.pilot && ! (s.chan n).bitSync then i.ms
  else max i.ms ((if i.pilot then s.get Reg.GNB_LOOP_T_COH else min 20 (s.get Reg.GNB_LOOP_T_COH)) / i.ms * i.ms)

/-- CORR_SPACING in units of 10^-3 chip. -/
def corrSpacing (code : Nat) : Nat := if code = 0 then 50 else if code = 1 then 75 else if code = 3 then 200 else if code = 4 then 500 else 100

/-- The loops of a channel as its lock, its synchronisation and GNB_LOOP make them: the FLL assists the PLL while CARRIER_LOCK is clear (R215,
R216). -/
def State.loops (s : State) (n : Nat) : Loops :=
  ⟨s.get Reg.GNB_LOOP_DLL_BW, s.get Reg.GNB_LOOP_PLL_BW,
    if s.get (Reg.CH_STATUS_CARRIER_LOCK n) = 0 then some (s.get Reg.GNB_LOOP_FLL_BW) else none, corrSpacing (s.get Reg.GNB_LOOP_CORR_SPACING),
    s.cohTime n⟩

/-- Whether a channel's loops run: PULL_IN or TRACK. -/
def State.looped (s : State) (n : Nat) : Bool := s.chSt n = 2 || s.chSt n = 3

/-- A channel's loops, where they run, set anew (R215, R216). -/
def State.retune (s : State) (n : Nat) : State := if s.looped n then s.setChan n { s.chan n with loop := some (s.loops n) } else s

/-- A channel goes to SEARCH or REACQ and asks for an engine (R216). -/
def State.toSearch (s : State) (n st : Nat) : State :=
  let s := (s.dropSearch n).chTo n st
  { s with gnss := { s.gnss with queue := s.gnss.queue ++ [n] } }.dispatchSearch

/-- A channel released to OFF (R211, R216). -/
def State.releaseCh (s : State) (n : Nat) : State :=
  if s.get (Reg.CH_STATUS_STATE n) = 0 then s else
  (((s.dropSearch n).clearLocks n).chTo n 0).dispatchSearch

/-- A confirmed cell passes its code phase and Doppler to the channel, which enters PULL_IN with its code locked and FLL assist on, for CARRIER_LOCK
is clear (R212, R216; log entry 161). -/
def State.pullIn (s : State) (n : Nat) (c : Nat × Int) : State :=
  let s := s.setChan n { s.chan n with code := c.1, codeAt := s.tc.edges, dopp := c.2 }
  let s := (s.putI (Reg.CH_DOPPLER_DOPPLER n) c.2).put (Reg.CH_STATUS_CODE_LOCK n) 1
  ((s.arm (.pullIn n) (100000000 * s.get Reg.GNB_TIMERS_PULLIN_TIME)).chTo n 2).retune n

/-- ACQ_DWELL: a dwell of engine k completes; `peak` is the power above the noise floor of the strongest cell tested, in
units of 0.25 dB, and `cell` its number. A confirming dwell tests the cells within one bin of the one to be confirmed (R212). -/
def execAcqDwell (k peak cell : Nat) (s : State) : Host.Outcome State Fault Refusal :=
  .next (
    match s.acq k with
    | none => s
    | some a =>
      if ¬ s.due (.dwell k) then s else
      let s := (s.bump (Reg.ACQ_DWELLS_COUNT k)).pmcEvent 2 0x10
      let above := decide (s.get Reg.GNB_ACQ_ACQ_THRESH < peak)
      let aided := decide (s.get (Reg.ACQ_STATUS_AIDED k) = 1)
      let chips := (sigInfo (s.get (Reg.CH_STATUS_SIG a.ch))).chips
      let go := fun (s : State) (a : AcqRec) => ({ s with gnss := { s.gnss with acq := aput s.gnss.acq k a } }).dwell k a.ch
      let onward := fun (s : State) (c : Nat) =>
        if c < a.code * a.dopp then go s { a with cell := c, confirm := none }
        else
          let s := s.freeAcq k
          if (s.chan a.ch).blind ∧ ¬ aided ∧ s.get (Reg.CH_STATUS_STATE a.ch) = 1 then s.releaseCh a.ch
          else { s with gnss := { s.gnss with queue := s.gnss.queue ++ [a.ch] } }.dispatchSearch
      match a.confirm with
      | some c =>
        if above ∧ a.near chips c cell then
          let s := ((s.bump (Reg.ACQ_DETECTS_COUNT k)).freeAcq k).stopTimer (.reacq a.ch)
          (s.pullIn a.ch (s.cellAt a cell)).dispatchSearch
        else onward s (c + 1)
      | none =>
        if above ∧ a.cell ≤ cell ∧ cell < min (a.cell + 32768) (a.code * a.dopp) then go s { a with confirm := some cell }
        else onward s (a.cell + 32768))

/-! ## Channels (R211, R216) -/

/-- Satellites ordered for assignment: the reference constellation first, then falling elevation (R211). -/
def skyBefore (ref : Nat) (a b : Sky) : Bool :=
  let ra := decide (timeOf a.const = ref)
  let rb := decide (timeOf b.const = ref)
  (ra && ! rb) || (ra = rb && decide (b.elev < a.elev))

/-- A satellite put into its place in the order. -/
def skyInsert (ref : Nat) (a : Sky) : List Sky → List Sky
  | [] => [a]
  | b :: bs => if skyBefore ref b a then b :: skyInsert ref a bs else a :: b :: bs

/-- Whether a signal of a satellite has a channel. -/
def State.assigned (s : State) (sig svid : Nat) : Bool :=
  allChans.any fun n => decide (s.get (Reg.CH_STATUS_STATE n) ≠ 0 ∧ s.get (Reg.CH_STATUS_SIG n) = sig ∧ s.get (Reg.CH_STATUS_SVID n) = svid)

/-- A channel's hidden record with what the orbit data shows of its satellite, whose search is no longer blind. -/
def State.seenAs (s : State) (r : ChanRec) (v : Sky) : ChanRec :=
  { r with blind := false, elev := v.elev, azim := v.azim, lag := v.lag, rate := v.rate, predAt := s.at16 }

/-- The signals to assign, in the order of R211: (SIG, SVID, the channel's record). -/
def State.wanted (s : State) (sky : List Sky) : List (Nat × Nat × ChanRec) :=
  let ref := s.get Reg.GNB_CTRL_REF_CONST
  let on := (List.range 8).filter fun g => s.fbit Reg.GNB_SIG_EN_EN g
  let up := (sky.filter fun v => v.healthy ∧ (s.get Reg.GNB_MASK_ELEV_MASK : Int) ≤ v.elev ∧ s.hasOrbit v.const v.svid).foldl
    (fun l v => skyInsert ref v l) []
  let byOrbit := up.flatMap fun v => (on.filter fun g => (sigInfo g).const = v.const).map fun g => (g, v.svid, s.seenAs {} v)
  let byTrack := (on.filter neverBlind).flatMap fun g =>
    ((svids (sigInfo g).const).filter fun v => ! s.hasOrbit (sigInfo g).const v && (s.l1Chan (sigInfo g).const v).isSome).map
      fun v => (g, v, { byTrack := true })
  let blind := ([0, 6, 2].filter fun g => s.fbit Reg.GNB_SIG_EN_EN g).flatMap fun g =>
    ((svids (sigInfo g).const).filter fun v => ! s.hasOrbit (sigInfo g).const v).map fun v => (g, v, { blind := true })
  byOrbit ++ byTrack ++ blind

/-- One signal assigned to the first channel that is OFF and ENABLED (R211, R216). -/
def State.assign (s : State) (w : Nat × Nat × ChanRec) : State :=
  let (sig, svid, r) := w
  if s.assigned sig svid then s else
  match allChans.find? fun n => s.get (Reg.CH_STATUS_STATE n) = 0 ∧ s.unitOn (chHid n) with
  | none => s
  | some n =>
    let s := (s.put (Reg.CH_STATUS_SIG n) sig).put (Reg.CH_STATUS_SVID n) svid
    (s.setChan n r).toSearch n 1

/-- A channel whose satellite has set or is unhealthy, or whose signal is disabled, released (R211). -/
def State.releaseBy (s : State) (sky : List Sky) (n : Nat) : State :=
  if s.get (Reg.CH_STATUS_STATE n) = 0 then s else
  let sig := s.get (Reg.CH_STATUS_SIG n)
  let seen := sky.find? fun v => v.const = (sigInfo sig).const ∧ v.svid = s.get (Reg.CH_STATUS_SVID n) ∧ s.hasOrbit v.const v.svid
  let gone := ! s.fbit Reg.GNB_SIG_EN_EN sig || match seen with
    | some v => ! v.healthy || decide (v.elev < (s.get Reg.GNB_MASK_ELEV_MASK : Int) - 1)
    | none => false
  if gone then s.releaseCh n else
  match seen with
  | some v => s.setChan n (s.seenAs (s.chan n) v)
  | none => s

/-- CHANNEL_ASSIGN: once per second the channels that are OFF are assigned to signals; `sky` is what the stored orbit data
shows (R211). -/
def execChannelAssign (sky : List Sky) (s : State) : Host.Outcome State Fault Refusal :=
  .next (
    if ¬ s.gnssRuns ∨ s.var .assignSec = (s.runNs / secNs + 1 : Nat) then s else
    let s := s.setVar .assignSec (s.runNs / secNs + 1 : Nat)
    let s := allChans.foldl (fun s n => s.releaseBy sky n) s
    (s.wanted sky).foldl (fun s w => s.assign w) s)

/-- PULL_IN_LOCKED: code and carrier lock have been held for 100 ms; LOCK_TIME starts at 0 (R216). -/
def execPullInLocked (n : Nat) (s : State) : Host.Outcome State Fault Refusal :=
  .next (
    if 191 < n ∨ s.chSt n ≠ 2 ∨ s.get (Reg.CH_STATUS_CODE_LOCK n) = 0 ∨ s.get (Reg.CH_STATUS_CARRIER_LOCK n) = 0
      ∨ s.runNs < (s.chan n).lockAt + 100000000 then s
    else (((s.setChan n { s.chan n with lockAt := s.runNs, lockK := s.captured }).stopTimer (.pullIn n)).chTo n 3).retune n)

/-- PULLIN_TIME_EXPIRY (R216). -/
def execPullinTimeExpiry (n : Nat) (s : State) : Host.Outcome State Fault Refusal :=
  .next (if n ≤ 191 ∧ s.chSt n = 2 ∧ s.due (.pullIn n) then (s.clearLocks n).toSearch n 1 else s)

/-- The integrations of a channel's loops that make up 100 ms (R215). -/
def State.pliSpan (s : State) (n : Nat) : Nat := 100 / max 1 (((s.chan n).loop.map (·.coh)).getD 1)

/-- The sum of cos 2φ over the last 100 ms in units of 10^-6, which is PLI times the number of integrations; nothing while they are fewer
(R215). -/
def State.pliSum (s : State) (l : LockInd) : Option Int :=
  if l.cos2.length < s.pliSpan l.n then none else some ((l.cos2.take (s.pliSpan l.n)).foldl (· + ·) 0)

/-- CARRIER_LOCK_LOST: PLI lies below 0.60; SLIP is set at the next epoch and the FLL assists (R215, R216). -/
def execCarrierLockLost (l : LockInd) (s : State) : Host.Outcome State Fault Refusal :=
  .next (
    match s.pliSum l with
    | some x => if l.n ≤ 191 ∧ s.looped l.n ∧ x < 600000 * s.pliSpan l.n then (s.loseCarrier l.n).retune l.n else s
    | none => s)

/-- CARRIER_LOCK_SET: PLI reaches 0.85; LOCK_TIME and ACC_PHASE restart and the FLL ceases (R215, R216). -/
def execCarrierLockSet (l : LockInd) (s : State) : Host.Outcome State Fault Refusal :=
  .next (
    match s.pliSum l with
    | some x =>
      if l.n ≤ 191 ∧ s.looped l.n ∧ s.get (Reg.CH_STATUS_CARRIER_LOCK l.n) = 0 ∧ (850000 * s.pliSpan l.n : Nat) ≤ x
      then ((s.setChan l.n { s.chan l.n with lockAt := s.runNs, lockK := s.captured }).put (Reg.CH_STATUS_CARRIER_LOCK l.n) 1).retune l.n else s
    | none => s)

/-- CODE_LOCK_LOST: the greatest C/N0 of the last second, in units of 0.01 dB-Hz, lies below CN0_DROP: CODE_LOCK clears, and a channel in TRACK goes to
REACQ (R215, R216). -/
def execCodeLockLost (p : PeakCn0) (s : State) : Host.Outcome State Fault Refusal :=
  .next (
    if 191 < p.n ∨ ¬ s.looped p.n ∨ 100 * s.get Reg.GNB_TIMERS_CN0_DROP ≤ p.cn0 then s
    else if s.chSt p.n = 2 then s.put (Reg.CH_STATUS_CODE_LOCK p.n) 0
    else
      let s := s.clearLocks p.n
      (s.arm (.reacq p.n) (1000000000 * s.get Reg.GNB_TIMERS_REACQ_TIME)).toSearch p.n 4)

/-- REACQ_TIME_EXPIRY (R216). -/
def execReacqTimeExpiry (n : Nat) (s : State) : Host.Outcome State Fault Refusal :=
  .next (if n ≤ 191 ∧ s.chSt n = 4 ∧ s.due (.reacq n) then (s.clearLocks n).toSearch n 1 else s)

/-- BIT_SYNC: bit or secondary-code synchronisation is reached; the loops integrate over T_COH from then (R215). -/
def execBitSync (n : Nat) (s : State) : Host.Outcome State Fault Refusal :=
  .next (if n ≤ 191 ∧ 2 ≤ s.chSt n ∧ s.chSt n ≤ 4 then (s.setChan n { s.chan n with bitSync := true }).retune n else s)

/-- LOCK_TIME of a channel: continuous carrier lock in ms since it is in TRACK, saturating (R216, R222). -/
def State.chLockMs (s : State) (n : Nat) : Nat :=
  if s.get (Reg.CH_STATUS_CARRIER_LOCK n) = 1 ∧ s.get (Reg.CH_STATUS_STATE n) = 3 then min ((s.runNs - (s.chan n).lockAt) / 1000000) (2 ^ 32 - 1) else 0

/-! ## Samples (R208) -/

/-- A band's fields: density, stuck lines, FAULT. -/
def bandDens (b : Nat) : Fld := if b = 0 then Reg.GNB_SLI_STATUS_DENS_L1 else Reg.GNB_SLI_STATUS_DENS_L5
@[inherit_doc bandDens] def bandStuck (b : Nat) : Fld := if b = 0 then Reg.GNB_SLI_STATUS_STUCK_L1 else Reg.GNB_SLI_STATUS_STUCK_L5
@[inherit_doc bandDens] def bandFault (b : Nat) : Fld := if b = 0 then Reg.GNB_SLI_STATUS_FAULT_L1 else Reg.GNB_SLI_STATUS_FAULT_L5

/-- The samples counted on a pair of lines, those of magnitude 3, and the pair's stuck lines with that of index 1 in bit 1 (R207, R208). -/
def codeTotal (c : CodeCount) : Nat := c.c0 + c.c1 + c.c2 + c.c3
@[inherit_doc codeTotal] def codeLoud (c : CodeCount) (format : Nat) : Nat :=
  [c.c0, c.c1, c.c2, c.c3].zipIdx.foldl (fun n p => if (sampleLevel format p.2).natAbs = 3 then n + p.1 else n) 0
@[inherit_doc codeTotal] def codeStuck (c : CodeCount) : Nat :=
  2 * b2n (decide (c.c2 + c.c3 = 0 ∨ c.c0 + c.c1 = 0)) + b2n (decide (c.c1 + c.c3 = 0 ∨ c.c0 + c.c2 = 0))

/-- One band's 1 ms: so many samples of magnitude 3 among so many, and its stuck lines. The density shown is in units of 0.5 %, rounded down; the
limits of 10 % and 60 % are held against the samples themselves (R208). -/
def State.checkBand (s : State) (b loud total stuck : Nat) : State :=
  let dens := loud * 200 / max 1 total
  let s := (s.put (bandDens b) dens).put (bandStuck b) stuck
  let outside := decide (10 * loud < total ∨ 6 * total < 10 * loud)
  let bad : Int := if outside then s.var (.sliBad b) + 1 else 0
  let good : Int := if outside ∨ stuck ≠ 0 then 0 else s.var (.sliGood b) + 1
  let s := (s.setVar (.sliBad b) bad).setVar (.sliGood b) good
  if s.get (bandFault b) = 0 then
    if 10 ≤ bad ∨ stuck ≠ 0 then
      ((s.put (bandFault b) 1).bump Reg.GNB_SLI_FAULTS_COUNT).raise (evGnb 1 .error 0x2D00) [i1 b, i1 dens, i1 stuck]
    else s
  else if 100 ≤ good then s.put (bandFault b) 0 else s

/-- The two pairs of a band's lines together (R208). -/
def State.checkPairs (s : State) (b : Nat) (i q : CodeCount) : State :=
  let f := s.get Reg.GNB_SLI_CFG_FORMAT
  s.checkBand b (codeLoud i f + codeLoud q f) (codeTotal i + codeTotal q) (4 * codeStuck i + codeStuck q)

/-- SAMPLE_CHECK: the two bands' samples over 1 ms, counted by their codes (R208). -/
def execSampleCheck (i1 q1 i5 q5 : CodeCount) (s : State) : Host.Outcome State Fault Refusal :=
  .next (
    if ¬ s.unitOn 0x2D00 ∨ s.var .sliMs = (s.runNs / 1000000 + 1 : Nat) then s else
    let s := s.setVar .sliMs (s.runNs / 1000000 + 1 : Nat)
    let s := if s.get Reg.GNB_SLI_CFG_L1_EN = 1 then s.checkPairs 0 i1 q1 else s
    if s.get Reg.GNB_SLI_CFG_L5_EN = 1 then s.checkPairs 1 i5 q5 else s)

/-! ## Epochs (R217 to R222) -/

/-- The epoch period in ns under a MEAS_RATE, and the one in force (R217). -/
def ratePeriod (rate : Nat) : Nat :=
  match rate with
  | 0 => 1000000000
  | 1 => 500000000
  | 2 => 200000000
  | 3 => 100000000
  | _ => 50000000
@[inherit_doc ratePeriod] def State.epochNs (s : State) : Nat := ratePeriod (s.get Reg.GNB_CTRL_MEAS_RATE)

/-- The number of the epoch instant last passed. -/
def State.epochNow (s : State) : Nat := s.linear / s.epochNs

/-- Whether at a LINEAR_NS an instant of the series has just passed whose latch is still to come: fewer than 8 TCLK periods since it (R217). -/
def State.epochPasses (s : State) (lin : Nat) : Bool :=
  decide (s.var .epochLast ≠ (lin / s.epochNs : Nat)
    ∧ ((lin % s.epochNs * nsUnit + s.tc.time % nsUnit : Nat) : Int) < 200 * (2 ^ 48 + s.tc.rt))

/-- An epoch owed at the first sample-clock edge from this TCLK edge on, with STEPPED or not (R217, R218). -/
def State.oweEpoch (s : State) (stepped : Bool) : State :=
  (s.setVar .epochOwed ((s.tc.edges + 7) / 8 * 8 + 1 : Nat)).setVar .epochStep (b2n stepped)

/-- A Time Core step of some ns while the baseband runs: a forward one that passes an instant owes an epoch with STEPPED, a backward one waits for
the next instant after the new time; an instant passed just before a forward step keeps its epoch (R217, R218). -/
def State.gnssStep (s : State) (x : Int) : State :=
  if ¬ s.gnssRuns then s else
  if x < 0 then ((s.setVar .epochLast s.epochNow).setVar .epochOwed 0).setVar .epochStep 0
  else
    let was := ((s.linear - x) % (2 ^ 64 : Int)).toNat
    if was / s.epochNs ≠ s.epochNow then s.oweEpoch true
    else if s.epochPasses was then s.oweEpoch false else s

/-- Whether an epoch is owed at this TCLK edge. -/
def State.epochOwes (s : State) : Bool := decide (s.var .epochOwed = (s.tc.edges : Int) + 1)

/-- Whether this edge latches an epoch: it is the first sample-clock edge after the edge of a step that passed instants, or the first at or after an
instant not yet latched (R217, R218). -/
def State.atEpoch (s : State) : Bool := s.sclkRise && (s.epochOwes || s.epochPasses s.linear)

/-- MEAS_RATE changed from a period in ns: the new series begins with its next instant, the latch of an instant of the old one that has just passed
is made, and the two periods of R226 count from here (R217, R218; log entry 184). -/
def State.newSeries (s : State) (old : Nat) : State :=
  let late := decide (s.var .epochLast ≠ (s.linear / old : Nat)
    ∧ ((s.linear % old * nsUnit + s.tc.time % nsUnit : Nat) : Int) < 200 * (2 ^ 48 + s.tc.rt))
  let s := if late ∧ ¬ s.epochOwes then s.oweEpoch false else s
  let s := s.setVar .epochLast s.epochNow
  if (s.timer .solution).isSome then s.arm .solution (2 * s.epochNs) else s

/-- The first ACTIVE ring of a type (R370). -/
def State.ringOf (s : State) (typ : Nat) : Option Nat := if ¬ s.hostOpen ∨ s.hif.d3hot then none else
  (List.range 64).find? fun n => s.get (Reg.RING_STATUS_STATE n) = 1 ∧ s.get (Reg.RING_CFG_TYPE n) = typ

/-- An epoch dropped and counted, where epochs are written at all (R220). -/
def State.dropEpoch (s : State) : State :=
  if s.get Reg.GNB_CTRL_MEAS_RING = 0 ∨ (s.ringOf 7).isNone then s else
  let s := { s with gnss := { s.gnss with dropped := s.gnss.dropped + 1 } }.bump Reg.GNB_MEAS_DROPPED_COUNT
  s.raise (evGnb 2 .warning 0x2E00) [i4 s.gnss.dropped]

/-- The epoch in hand, if there is one, given up: no solution follows it (log entry 66). -/
def State.abandonEpoch (s : State) : State :=
  match s.gnss.latch with
  | some _ => { s with gnss := { s.gnss with latch := none } }.dropEpoch
  | none => s

/-- A band's FAULT at a signal. -/
def State.sigFault (s : State) (sig : Nat) : Bool := s.get (bandFault (b2n (sigInfo sig).l5)) = 1

/-- A channel as it latches (R217). -/
def State.snap (s : State) (m : ChMeas) : ChSnap :=
  let n := m.ch
  let r := s.chan n
  let sig := s.get (Reg.CH_STATUS_SIG n)
  ⟨n, s.chSt n, sig, s.get (Reg.CH_STATUS_SVID n), s.get (Reg.CH_STATUS_CODE_LOCK n) = 1, s.get (Reg.CH_STATUS_CARRIER_LOCK n) = 1,
    s.chLockMs n, r.slip, r.slips, r.bitSync, s.sigFault sig, m⟩

/-- What a channel's correlators give as its entry shows it: the code phase run on from the newest captured sample to the latch edge, and the
carrier turned as the samples are and mixed by -IF (R206, R207, R217). -/
def State.referred (s : State) (m : ChMeas) : ChMeas :=
  let n := m.ch
  let i := sigInfo (s.get (Reg.CH_STATUS_SIG n))
  let r := s.chan n
  let dopp := s.spin * m.doppler - 256 * s.bandIf i.l5
  let t := s.setChan n { r with code := m.codePhase % 2 ^ 40, codeAt := sclkEdge s.captured, dopp := dopp }
  let mixed := roundDiv (s.bandIf i.l5 * ((s.captured : Int) - r.lockK) * 65536) 80000000
  { m with codePhase := t.codeNow n, accPhase := s.spin * m.accPhase - mixed, doppler := dopp }

/-- A channel's measurements at a latch: those the command brings, or what the channel last knew (log entry 162). -/
def State.measOf (s : State) (ms : List ChMeas) (n : Nat) : ChMeas :=
  match ms.find? fun m => m.ch = n with
  | some m => s.referred m
  | none => ⟨n, s.codeNow n, 0, 0, 0, s.get (Reg.CH_CN0_CN0 n), 0, s.getI (Reg.CH_DOPPLER_DOPPLER n), false⟩

/-- What a latch leaves in a channel's registers and record. -/
def State.latched (s : State) (m : ChMeas) : State :=
  let s := (s.put (Reg.CH_CN0_CN0 m.ch) m.cn0).putI (Reg.CH_DOPPLER_DOPPLER m.ch) m.doppler
  s.setChan m.ch { s.chan m.ch with slip := false, code := m.codePhase % 2 ^ 40, codeAt := s.tc.edges, dopp := m.doppler }

/-- The measurements latched at an epoch: every channel in PULL_IN, TRACK or REACQ, in channel order (R217, R220). -/
def State.latching (s : State) (ms : List ChMeas) : List ChMeas :=
  (allChans.filter fun n => 2 ≤ s.chSt n ∧ s.chSt n ≤ 4).map (s.measOf ms)

/-- EPOCH: at the latch edge of an epoch instant every channel in PULL_IN, TRACK or REACQ latches its measurements (R217, R218). -/
def execEpoch (ms : List ChMeas) (s : State) : Host.Outcome State Fault Refusal :=
  .next (
    if ¬ s.gnssRuns ∨ ¬ s.unitOn 0x2E00 ∨ ¬ s.atEpoch then s else
    let s := s.abandonEpoch
    let live := s.latching ms
    let l : Latch := ⟨s.get Reg.GNB_EPOCH_NO_EPOCH_NO + 1, s.linear, s.frac16, s.epochOwes && decide (s.var .epochStep = 1),
      decide (s.get Reg.TIM_STATUS_WARMING = 1), s.tc.rt,
      s.get Reg.GNB_SLI_STATUS_FAULT_L1 + 2 * s.get Reg.GNB_SLI_STATUS_FAULT_L5, live.map s.snap, s.runNs, s.get Reg.GNB_CTRL_MEAS_RATE,
      decide (s.get Reg.GNB_STATUS_POS_STATE = 1), s.mark⟩
    let s := ({ s with gnss := { s.gnss with latch := some l } }.setVar .epochLast s.epochNow).setVar .epochOwed 0
    let s := (s.bump Reg.GNB_EPOCH_NO_EPOCH_NO).put64 Reg.GNB_LATCH_LO_AT_LO Reg.GNB_LATCH_HI_AT_HI s.linear
    (live.foldl (fun s m => s.latched m) s).pmcEvent 2 0x11)

/-! ## The time solution (R223 to R226) -/

/-- 10^(2^j / 1000) for j from 0, unit 2^-64, rounded down. -/
def powTab : List Nat :=
  [18489268210561536986, 18531890375673023370, 18617429695109339415, 18789694651118867537, 19139021155796183517,
   19857278300080642989, 21375669327403393734, 24769641589254725920, 33259806825994437632, 59968021764830161471,
   194948421250795437689, 2060249049714006793516, 230101644490040030624887, 2870249979370664577992088188]

/-- 10^(x / 1000) for x below 2^14, unit 2^-64: C/N0 as a ratio in Hz from units of 0.01 dB-Hz, rounded down. -/
def ratioOf (x : Nat) : Nat :=
  (List.range 14).foldl (fun r j => if bit x j then r * powTab.getD j (2 ^ 64) / 2 ^ 64 else r) (2 ^ 64)

/-- NOISE of a signal squared, unit 2^-32 ns², rounded up (R23, R224). -/
def State.noise2 (s : State) (sig cn0 : Nat) : Nat :=
  let chip := if (sigInfo sig).fast then 10 ^ 10 else 10 ^ 12
  ceilDiv (chip * s.get Reg.GNB_LOOP_DLL_BW * corrSpacing (s.get Reg.GNB_LOOP_CORR_SPACING) * 2 ^ 96)
    (1023 ^ 2 * 10 ^ 5 * 2 * ratioOf (min cn0 16383))

/-- One estimate of the solution: the channels it comes from, its satellite, x_i in units of 2^-16 ns, σ_i² in units of 2^-32
ns², the direction in units of 2^-30. -/
structure Est where
  chs   : List Nat
  const : Nat
  svid  : Nat
  x     : Int
  v     : Nat
  e     : Int × Int × Int

/-- The terms of σ_i² common to one signal and a pair: URA, TROPO and ISB, each rounded up (R23, R224): 0.40 ns is 26,214.4 units. -/
def State.baseVar (s : State) (const : Nat) (m : SolIn) : Nat :=
  let sn := max 1 (min m.sinEl (2 ^ 30))
  let trop := ceilDiv (262144 * 262144 * 2 ^ 60) (100 * sn * sn)
  let isb := if timeOf const = s.get Reg.GNB_CTRL_REF_CONST then 0 else s.get Reg.GNB_ISB_U_ISB_U * 256
  m.ura * m.ura + trop + isb * isb

/-- ANT_DELAY of a signal's band and its SIG_DELAY, in units of 2^-16 ns (R223). -/
def State.delaysOf (s : State) (sig : Nat) : Int :=
  256 * (s.getI (if (sigInfo sig).l5 then Reg.GNB_ANT_DELAY_L5_DELAY else Reg.GNB_ANT_DELAY_L1_DELAY) + s.getI (Reg.GNB_SIG_DELAY_DELAY sig))

/-- An estimate from one signal: the broadcast model takes the ionosphere out; that delay and the delays behind the antenna put reference time
at the latch later than the range alone (R223, R224). -/
def State.single (s : State) (c : ChSnap) (m : SolIn) : Est :=
  let i := sigInfo c.sig
  let io := max (ceilDiv m.iono 2) 65536
  ⟨[c.ch], i.const, c.svid, m.x + m.iono + s.delaysOf c.sig, s.baseVar i.const m + io * io + s.noise2 c.sig c.meas.cn0, (m.ex, m.ey, m.ez)⟩

/-- An estimate from an iono-free pair, of which the first is the L1 signal: 154² / (154² - 115²) and its complement weigh the
two (R223), and their NOISE the factors of R224. -/
def State.pairEst (s : State) (a b : ChSnap) (ma mb : SolIn) : Est :=
  let i := sigInfo a.sig
  let n1 := s.noise2 a.sig a.meas.cn0
  let n5 := s.noise2 b.sig b.meas.cn0
  ⟨[a.ch, b.ch], i.const, a.svid, roundDiv (23716 * (ma.x + s.delaysOf a.sig) - 13225 * (mb.x + s.delaysOf b.sig)) 10491,
    s.baseVar i.const ma + ceilDiv (22606 * 22606 * n1 + 12606 * 12606 * n5) (10000 * 10000), (ma.ex, ma.ey, ma.ez)⟩

/-- The ephemeris of a satellite in use: a decoded one before a loaded one, which serves with EPH_TRUST alone (R228). -/
def State.ephInUse (s : State) (const svid : Nat) : Option NavRec :=
  let held := s.gnss.nav.filter fun r => r.const = const ∧ r.svid = svid ∧ r.typ = 0
  match held.find? fun r => ! r.loaded with
  | some r => some r
  | none => if s.get Reg.GNB_CTRL_EPH_TRUST = 1 then held.head? else none

/-- Whether a usable ephemeris of a satellite is held (R228). -/
def State.ephUsable (s : State) (const svid : Nat) : Bool := (s.ephInUse const svid).isSome

/-- EXCLUDE of a channel before the mean: the first cause that applies in the order of R222; 0 when it may be used. -/
def State.exclude (s : State) (c : ChSnap) (m : Option SolIn) : Nat :=
  let const := (sigInfo c.sig).const
  match m with
  | none => if ¬ c.code then 9 else if c.fault then 8 else 4
  | some m =>
    if ¬ c.code then 9
    else if c.fault then 8
    else if ¬ m.healthy then 5
    else if ¬ s.ephUsable const c.svid then 4
    else if m.elev < s.get Reg.GNB_MASK_ELEV_MASK then 3
    else if c.meas.cn0 < 100 * s.get Reg.GNB_MASK_MIN_CN0 then 1
    else if c.lockMs < 1000 * s.get Reg.GNB_MASK_MIN_LOCK then 2
    else if timeOf const ≠ s.get Reg.GNB_CTRL_REF_CONST ∧ ¬ m.isb then 6
    else 0

/-- A channel taken for the solution beside its inputs. -/
abbrev Cand := ChSnap × SolIn

/-- The estimates of the channels that may be used: iono-free pairs where both bands of a satellite are, with IONO_DUAL, and
single signals else (R223). -/
def State.estimates (s : State) (cs : List Cand) : List Est :=
  let dual := decide (s.get Reg.GNB_CTRL_IONO_DUAL = 1)
  let mate := fun (c : Cand) (l5 : Bool) => cs.find? fun d => decide ((sigInfo d.1.sig).const = (sigInfo c.1.sig).const
    ∧ d.1.svid = c.1.svid ∧ (sigInfo d.1.sig).l5 = l5)
  cs.filterMap fun c =>
    if dual then
      if (sigInfo c.1.sig).l5 then (if (mate c false).isSome then none else some (s.single c.1 c.2))
      else match mate c true with
        | some d => some (s.pairEst c.1 d.1 c.2 d.2)
        | none => some (s.single c.1 c.2)
    else some (s.single c.1 c.2)

/-- A solution: the time offset in units of 2^-16 ns, σ_t in units of 2^-40 ns rounded up, the residuals in order, and the
position's correction over c in units of 2^-16 ns. -/
structure Sol where
  t   : Int
  s40 : Nat
  res : List Int
  pos : Int × Int × Int

/-- An estimate less the solution (R222): the time offset, and in a survey the position's correction along the line of sight. -/
def Sol.resid (sol : Sol) (e : Est) : Int :=
  e.x - (sol.t + roundDiv (-(e.e.1 * sol.pos.1 + e.e.2.1 * sol.pos.2.1 + e.e.2.2 * sol.pos.2.2)) (2 ^ 30))

/-- The weight of an estimate: 2^96 / σ_i². -/
def Est.w (e : Est) : Nat := 2 ^ 96 / max 1 e.v

/-- The weighted mean of R223. -/
def meanSol (es : List Est) : Sol :=
  let w := es.foldl (fun n e => n + e.w) 0
  let t := roundDiv (es.foldl (fun n e => n + e.w * e.x) 0) (max 1 w)
  ⟨t, ceilSqrt (ceilDiv (2 ^ 144) (max 1 w)), es.map fun e => e.x - t, (0, 0, 0)⟩

/-- A determinant by its first row. -/
def det : Nat → List (List Int) → Int
  | 0, _ => 1
  | n + 1, m =>
    let row := m.headD []
    (List.range (n + 1)).foldl (fun acc j =>
      acc + (if j % 2 = 0 then 1 else -1) * row.getD j 0 * det n (m.tail.map fun r => r.eraseIdx j)) 0

/-- The least-squares fit of SURVEY (R224): rows of the negated unit vector over c and 1, weights w_i; none where the geometry gives no
position (R226). -/
def fitSol (es : List Est) : Option Sol :=
  let row := fun (e : Est) => [-e.e.1, -e.e.2.1, -e.e.2.2, (2 ^ 30 : Int)]
  let at_ := fun (l : List Int) (j : Nat) => l.getD j 0
  let sum := fun (f : Est → Int) => es.foldl (fun n e => n + e.w * f e) 0
  let nm := (List.range 4).map fun i => (List.range 4).map fun j => sum fun e => at_ (row e) i * at_ (row e) j
  let b := (List.range 4).map fun i => sum fun e => at_ (row e) i * e.x
  let d := det 4 nm
  let solve := fun (k : Nat) => det 4 ((List.range 4).map fun i => ((nm.getD i []).set k (at_ b i)))
  let y := fun (k : Nat) => roundDiv (solve k * 2 ^ 30 * (if d < 0 then -1 else 1)) (max 1 d.natAbs)
  let t := y 3
  let pred := fun (e : Est) => t + roundDiv (-(e.e.1 * y 0 + e.e.2.1 * y 1 + e.e.2.2 * y 2)) (2 ^ 30)
  let m3 := det 3 ((nm.take 3).map fun r => r.take 3)
  if d = 0 then none else
  some ⟨t, ceilSqrt (ceilDiv (2 ^ 204 * m3.natAbs) d.natAbs), es.map fun e => e.x - pred e, (y 0, y 1, y 2)⟩

/-- The number of satellites among estimates. -/
def satCount (es : List Est) : Nat := ((es.map fun e => (e.const, e.svid)).eraseDups).length

/-- The largest residual and its place. -/
def worst : List Int → Nat → Nat × Nat → Nat × Nat
  | [], _, best => best
  | r :: rs, i, best => worst rs (i + 1) (if best.2 < r.natAbs then (i, r.natAbs) else best)

/-- The solution with at most some exclusions of outliers: the estimates kept with their solution, or nothing, and the
outliers with their residuals (R223, R226). -/
def solveOut (fit : Bool) (minSats : Nat) : Nat → List Est → Option (List Est × Sol) × List (Est × Int)
  | fuel, es =>
    match (if fit then fitSol es else some (meanSol es)) with
    | none => (none, [])
    | some sol =>
    let w := worst sol.res 0 (0, 0)
    match fuel, es[w.1]? with
    | k + 1, some e =>
      if 25 * e.v < w.2 * w.2 then
        let rest := es.eraseIdx w.1
        let out := (e, sol.res.getD w.1 0)
        if satCount rest < minSats then (none, [out]) else
        let (r, l) := solveOut fit minSats k rest
        (r, out :: l)
      else (some (es, sol), [])
    | _, _ => (some (es, sol), [])

/-- The position correction taken into the survey: once per second the per-second position is accumulated (R223). -/
def State.surveySecond (s : State) (px py pz : Int) : State :=
  if s.get Reg.GNB_STATUS_POS_STATE ≠ 1 ∨ s.var .surveySec = (s.secs : Int) + 1 then s else
  let s := (s.setVar .surveySec (s.secs + 1)).bump Reg.GNB_SURVEY_DONE_ELAPSED
  let g := s.gnss
  { s with gnss := { g with sx := g.sx + px, sy := g.sy + py, sz := g.sz + pz, sq := g.sq + (px * px + py * py + pz * pz).toNat } }

/-- The baseband's lane loses its signal, the solution is not valid: 0x0211 when it was (R226, R231). -/
def State.solnLost (s : State) (excl : List Nat) : State :=
  let was := decide (s.get Reg.GNB_STATUS_SOLN_VALID = 1)
  let s := s.sourceLos 0x08
  let s := (s.put Reg.GNB_STATUS_SOLN_VALID 0).put Reg.GNB_STATUS_SATS_USED 0
  if was then s.raise (evGnb 0 .warning 0x2E00) (i1 0 :: (List.range 9).map fun k => i1 (excl.filter (· = k + 1)).length) else s

/-- What the solution found of one channel: EXCLUDE, whether used, the residual and σ_i in units of 2^-8 ns, its pair. -/
structure ChRes where
  ch    : Nat
  excl  : Nat
  used  : Bool
  resid : Int
  sigma : Nat
  pair  : Nat
  elev  : Int
  azim  : Nat

/-- The 64 bytes of a channel entry (R222). -/
def State.chanBytes (s : State) (l : Latch) (c : ChSnap) (r : ChRes) : List Byte :=
  let i := sigInfo c.sig
  let loaded := ((s.ephInUse i.const c.svid).map (·.loaded)).getD false
  let ambig := min 2 (c.meas.ambig % 4)
  let flags := b2n c.code + 2 * b2n c.carrier + 4 * b2n c.meas.halfOk + 8 * b2n c.slip + 16 * b2n i.pilot + 32 * b2n c.bitSync
    + 64 * b2n (s.ephUsable i.const c.svid) + 128 * b2n r.used + 256 * b2n (r.used && decide (r.pair ≠ 0xFF)) + 512 * b2n c.fault
    + 1024 * b2n loaded
  leBytes 1 2 ++ leBytes 1 l.no ++ leBytes 1 c.ch ++ leBytes 1 (c.sig + 16 * c.st) ++ leBytes 1 c.svid ++ leBytes 1 (toBits 8 r.elev)
    ++ leBytes 2 r.azim ++ leBytes 8 (c.meas.codePhase % 2 ^ 40 + 2 ^ 40 * ambig) ++ leBytes 4 (if ambig = 0 then 0 else c.meas.tow)
    ++ leBytes 2 c.meas.week ++ leBytes 2 c.meas.cn0 ++ leBytes 8 (toBits 48 c.meas.accPhase) ++ leBytes 4 (toBits 32 c.meas.doppler)
    ++ leBytes 4 c.lockMs ++ leBytes 2 flags ++ leBytes 1 c.slips ++ leBytes 1 r.excl ++ leBytes 4 (toBits 32 r.resid)
    ++ leBytes 4 r.sigma ++ leBytes 1 r.pair ++ List.replicate 11 (0 : Byte)

/-- The 64 bytes of the header entry (R221). -/
def State.epochBytes (s : State) (l : Latch) (valid : Bool) (sats consts : Nat) (off : Int) (u sigT : Nat) : List Byte :=
  leBytes 1 1 ++ leBytes 1 l.no ++ leBytes 1 l.chans.length ++ leBytes 1 l.code
    ++ leBytes 2 (b2n valid + 2 * b2n l.survey + 4 * (l.faults % 4) + 16 * b2n l.stepped + 32 * b2n l.warming)
    ++ leBytes 2 (min s.gnss.dropped 65535) ++ leBytes 8 l.linear ++ leBytes 2 l.frac ++ leBytes 1 sats ++ leBytes 1 consts
    ++ leBytes 4 l.no ++ leBytes 8 (toBits 64 off) ++ leBytes 4 u ++ leBytes 4 sigT ++ leBytes 6 (toBits 48 l.rate)
    ++ leBytes 2 (s.get Reg.GNB_GNSS_UTC_TAI_UTC) ++ List.replicate 16 (0 : Byte)

/-- An epoch written whole to the GNSS_MEAS ring, or dropped and counted where the ring lacks room (R220). -/
def State.writeEpoch (s : State) (entries : List (List Byte)) : State :=
  if s.get Reg.GNB_CTRL_MEAS_RING = 0 then s else
  match s.ringOf 7 with
  | none => s
  | some n =>
    if s.ringRoom n < entries.length then s.dropEpoch else { entries.foldl (fun s e => s.ringWrite n e false) s with gnss := { s.gnss with dropped := 0 } }

/-- U_src of R224 in units of 2^-8 ns: 3 σ_t, and in HOLD POS_U / c, rounded up. -/
def State.uSrc (s : State) (s40 : Nat) : Nat :=
  let pos := if s.get Reg.GNB_STATUS_POS_STATE = 2 then ceilDiv (s.get Reg.GNB_POS_U_POS_U * 1000000 * 2 ^ 40) 299792458 else 0
  min (ceilDiv (3 * s40 + pos) (2 ^ 32)) (2 ^ 32 - 1)

/-- K of R225 in ns: 33 s for BeiDou, 19 s for GPS and Galileo. -/
def kOf (const : Nat) : Int := (if const = 2 then 33 else 19) * 1000000000

/-- SOLUTION: the epoch's time solution completes. `ins` holds what the models give by channel, `corr` the reference
constellation's fractional correction to UTC in units of 2^-16 ns, and px, py, pz the position in mm the estimates of a survey
were formed with. No solution is valid while the sample-lane interface is not ENABLED; a channel fenced since the latch is left out (R217, R220, R223
to R226). -/
def execSolution (ins : List SolIn) (corr px py pz : Int) (s : State) : Host.Outcome State Fault Refusal :=
  .next (
    match s.gnss.latch with
    | none => s
    | some l =>
      if ¬ s.gnssRuns ∨ ¬ s.unitOn 0x2E00 then s else
      let s := { s with gnss := { s.gnss with latch := none } }.arm .solution (2 * s.epochNs)
      let inOf := fun (n : Nat) => ins.find? fun m => m.ch = n
      let chans := l.chans.filter fun c => ! s.unitFenced (chHid c.ch)
      let l := { l with chans := chans }
      let excl : List (ChSnap × Nat) := chans.map fun c => (c, s.exclude c (inOf c.ch))
      let cands : List Cand := excl.filterMap fun p => if p.2 = 0 then (inOf p.1.ch).map fun m => (p.1, m) else none
      let es := s.estimates cands
      let survey := decide (s.get Reg.GNB_STATUS_POS_STATE = 1)
      let minSats := if survey then max 4 (s.get Reg.GNB_MASK_MIN_SATS) else s.get Reg.GNB_MASK_MIN_SATS
      let enough := decide (minSats ≤ satCount es ∧ s.get Reg.GNB_STATUS_POS_STATE ≠ 0 ∧ s.unitOn 0x2D00)
      let both : Option (List Est × Sol) × List (Est × Int) := if enough then solveOut survey minSats 3 es else (none, [])
      let found := both.1
      let outs := both.2
      let s : State := outs.foldl (fun s o => o.1.chs.foldl (fun s n =>
        s.raise (evGnb 5 .info (chHid n)) [i4 (toBits 32 (satI 32 (roundDiv o.2 256))), i4 (ceilDiv (ceilSqrt o.1.v) 256)]) s) s
      let used := match found with
        | some (es, _) => es
        | none => []
      let outCh := outs.flatMap fun o => o.1.chs
      let inEst : Nat → Option Est := fun n => used.find? fun e => n ∈ e.chs
      let results : List ChRes := excl.map fun p =>
        let n := p.1.ch
        let ea : Int × Nat := match inOf n with
          | some m => (m.elev, m.azim)
          | none => ((s.chan n).elev, (s.chan n).azim)
        let out := outs.find? fun o => n ∈ o.1.chs
        let est : Option Est := (inEst n).or ((out.map (·.1)).or ((inOf n).map fun m => s.single p.1 m))
        let resid : Int := match found, est with
          | some (_, sol), some e => sol.resid e
          | _, _ => (out.map (·.2)).getD 0
        let sigma := (est.map fun e => ceilDiv (ceilSqrt e.v) 256).getD 0
        ⟨n, if (inEst n).isSome then 0 else if n ∈ outCh then 7 else p.2, (inEst n).isSome, satI 32 (roundDiv resid 256), min sigma (2 ^ 32 - 1),
          ((inEst n).bind fun e => (e.chs.filter (· ≠ n)).head?).getD 0xFF, ea.1, ea.2⟩
      let s : State := results.foldl (fun s r =>
        let s := ((s.put (Reg.CH_STATUS_EXCLUDE r.ch) r.excl).putB (Reg.CH_STATUS_USED r.ch) r.used).putI (Reg.CH_RESID_RESIDUAL r.ch) r.resid
        let s := s.setChan r.ch { s.chan r.ch with elev := r.elev, azim := r.azim }
        if r.used then s.pmcEvent 2 0x12 else s) s
      let sats := satCount used
      let consts := (List.range 4).foldl (fun m c => if used.any fun e => e.const = c then m + 2 ^ c else m) 0
      match found with
      | some (_, sol) =>
        let off := sol.t + kOf (s.get Reg.GNB_CTRL_REF_CONST) * 65536 - corr
        let u := s.uSrc sol.s40
        let sigT := min (ceilDiv sol.s40 (2 ^ 32)) (2 ^ 32 - 1)
        let was := decide (s.get Reg.GNB_STATUS_SOLN_VALID = 1)
        let s := ((s.put Reg.GNB_STATUS_SOLN_VALID 1).put Reg.GNB_STATUS_SATS_USED sats).put Reg.GNB_U_SRC_U_SRC u
        let s := s.put Reg.GNB_SIGMA_T_SIGMA sigT
        let first := decide (s.get Reg.GNB_TTFF_TTFF = 2 ^ 32 - 1)
        let ttff := (((l.run : Int) - s.var .gnssStart) / 1000000).toNat
        let s := if first then s.put Reg.GNB_TTFF_TTFF (min ttff (2 ^ 32 - 2)) else s
        let s := if was then s else
          s.raise (evGnbInfo 0x0210 6 0x2E00) ([i1 sats, i4 u] ++ if first then [i4 ttff] else [])
        let mm := fun (x : Int) => roundDiv (x * 299792458) (65536 * 1000000)
        let s := if survey then s.surveySecond (px - mm sol.pos.1) (py - mm sol.pos.2.1) (pz - mm sol.pos.2.2) else s
        let s := s.sourceMeasured 0x08 off u { l.mark with at16 := l.linear * 65536 + l.frac }
        s.writeEpoch (s.epochBytes l true sats consts off u sigT
          :: (chans.zip results).map fun p => s.chanBytes l p.1 p.2)
      | none =>
        let s := s.solnLost (results.map (·.excl))
        s.writeEpoch (s.epochBytes l false 0 0 0 (2 ^ 32 - 1) (2 ^ 32 - 1) :: (chans.zip results).map fun p => s.chanBytes l p.1 p.2))

/-- SOLUTION_TIMEOUT: two epoch periods without a completed solution (R226). -/
def execSolutionTimeout (s : State) : Host.Outcome State Fault Refusal :=
  .next (if s.gnssRuns ∧ s.due .solution then (s.stopTimer .solution).solnLost [] else s)

/-- SURVEY_DONE: SURVEY_TIME seconds of valid solutions have passed; the mean position is held, with POS_U of R223. -/
def execSurveyDone (s : State) : Host.Outcome State Fault Refusal :=
  .next (
    let n := s.get Reg.GNB_SURVEY_DONE_ELAPSED
    if s.get Reg.GNB_STATUS_POS_STATE ≠ 1 ∨ n = 0 ∨ n < s.get Reg.GNB_SURVEY_SURVEY_TIME then s else
    let g := s.gnss
    let sum2 := (g.sx * g.sx + g.sy * g.sy + g.sz * g.sz).toNat
    let u := ceilSqrt (ceilDiv (2700 * (n * g.sq - sum2)) (n * n * s.get Reg.GNB_SURVEY_SURVEY_TIME))
    let s := s.putI64 Reg.GNB_POS_X_LO_X_LO Reg.GNB_POS_X_HI_X_HI (roundDiv g.sx n)
    let s := s.putI64 Reg.GNB_POS_Y_LO_Y_LO Reg.GNB_POS_Y_HI_Y_HI (roundDiv g.sy n)
    let s := s.putI64 Reg.GNB_POS_Z_LO_Z_LO Reg.GNB_POS_Z_HI_Z_HI (roundDiv g.sz n)
    let s := (s.put Reg.GNB_POS_U_POS_U (min u (2 ^ 32 - 1))).put Reg.GNB_STATUS_POS_STATE 2
    s.raise (evGnbInfo 0x0217 7 0x2E00) [i4 (s.get Reg.GNB_POS_U_POS_U)])

/-! ## Start and stop (R214, R226) -/

/-- A survey begun. -/
def State.startSurvey (s : State) (time : Nat) : State :=
  let s := ((s.put Reg.GNB_STATUS_POS_STATE 1).put Reg.GNB_SURVEY_SURVEY_TIME time).put Reg.GNB_SURVEY_DONE_ELAPSED 0
  { s with gnss := { s.gnss with sx := 0, sy := 0, sz := 0, sq := 0 } }

/-- TTFF restarts (R214). -/
def State.restartTtff (s : State) : State := (s.put Reg.GNB_TTFF_TTFF (2 ^ 32 - 1)).setVar .gnssStart s.runNs

/-- The baseband starts when RUN is 1 and the GNSS domain is powered; with no position it enters SURVEY (R214, R223). -/
def State.gnssStart (s : State) : State :=
  if s.gnssRuns ∨ s.get Reg.GNB_CTRL_RUN = 0 ∨ (s.unit 0x2E00).st = .absent ∨ s.phase < 5 then s else
  let s := (s.restartTtff.put Reg.GNB_STATUS_RUNNING 1).setVar .epochLast s.epochNow
  let s := ((s.setVar .epochOwed 0).put Reg.GNB_EPOCH_NO_EPOCH_NO 0).arm .solution (2 * s.epochNs)
  if s.get Reg.GNB_STATUS_POS_STATE = 0 then s.startSurvey 86400 else s

/-- The baseband stops: RUN written 0, or its domain without power: every channel OFF, LOS (R226). -/
def State.gnssStop (s : State) : State :=
  let s := allChans.foldl (fun s n => s.releaseCh n) s
  let s := { s.abandonEpoch with gnss := { s.abandonEpoch.gnss with queue := [] } }
  ((s.put Reg.GNB_STATUS_RUNNING 0).stopTimer .solution).solnLost []

/-- The GNSS domain loses power: navigation data is lost with it (R228). -/
def State.gnssAbsent (s : State) : State :=
  let s := s.gnssStop
  { s with gnss := { s.gnss with nav := [], utc := [], chans := [], acq := [] } }

/-- The sample-lane interface or the measurement engine no longer ENABLED: LOS (R226); the epoch the engine had in hand is dropped (R220). -/
def State.gnssUnitGone (s : State) (hid : Nat) : State := (if hid = 0x2E00 then s.abandonEpoch else s).solnLost []

/-- A channel's or acquisition engine's unit fenced or disabled: its search or its signal is given up. A fenced channel's STATE reads 7 (R44, R216). -/
def State.gnssChannelGone (s : State) (n : Nat) (fenced : Bool) : State :=
  let old := s.get (Reg.CH_STATUS_STATE n)
  if ¬ fenced then s.releaseCh n
  else if old = 0 then s.chEvent n 0 7
  else ((((s.dropSearch n).clearLocks n).chPut n 0).chEvent n old 7).dispatchSearch
@[inherit_doc State.gnssChannelGone] def State.gnssAcqGone (s : State) (k : Nat) : State :=
  match s.acq k with
  | some a =>
    let s := s.freeAcq k
    { s with gnss := { s.gnss with queue := s.gnss.queue ++ [a.ch] } }.dispatchSearch
  | none => s

/-! ## Navigation data (R225, R228, R229) -/

/-- What a record's body says of itself by its constellation's own standard, which the manual does not give (log entry 185): whether its parity or
CRC holds, its issue of data, and its reference time as LINEAR_NS. -/
def NavRec.sound (r : NavRec) : Bool := Config.navSound r.const r.msg r.body
@[inherit_doc NavRec.sound] def NavRec.issue (r : NavRec) : Nat := Config.navIssue r.const r.msg r.body
@[inherit_doc NavRec.sound] def NavRec.refTime (r : NavRec) : Nat := Config.navRefTime r.const r.msg r.body % 2 ^ 64

/-- Whether two records are of one satellite, type and message, and whether they are of the same issue of data as well (R228). -/
def samePlace (a b : NavRec) : Bool := decide (a.const = b.const ∧ a.svid = b.svid ∧ a.typ = b.typ ∧ a.msg = b.msg)
@[inherit_doc samePlace] def sameIssue (a b : NavRec) : Bool := samePlace a b && decide (a.issue = b.issue)

/-- Whether a newly decoded record takes the place of a held one: of a loaded one of the same issue, and of an earlier decoded one (R228;
log entry 185). -/
def supersedes (r o : NavRec) : Bool := sameIssue o r || (samePlace o r && ! o.loaded)

/-- A record decoded: it replaces a loaded one of the same satellite and issue, 0x0215 when the two differ (R228). -/
def State.takeDecoded (s : State) (r : NavRec) : State :=
  let old := s.gnss.nav.find? fun o => o.loaded && sameIssue o r
  let s := { s with gnss := { s.gnss with nav := s.gnss.nav.filter (fun o => ! supersedes r o) ++ [r] } }
  match old with
  | some o => if o.body ≠ r.body then s.raise (evGnb 4 .warning 0x2E00) [i1 r.const, i1 r.svid] else s
  | none => s

/-- A GNSS announcement offered to the Time Core (R70, R71). -/
def State.offerGnssLeap (s : State) (sign : Int) (l : Nat) : State :=
  let pend := decide (s.get Reg.TCO_STATUS_LEAP_PENDING = 1)
  let byGnss := decide (s.var .leapSrc = 1)
  let done := decide (s.get Reg.TCO_STATUS_LEAP_COMMITTED = 1)
  if sign = 0 then (if pend ∧ byGnss ∧ ¬ done then s.withdrawLeap 1 else s)
  else if l ≤ s.secs then s
  else if pend ∧ s.leapSign = sign ∧ s.leapAt = l * secNs % 2 ^ 64 then s
  else if done ∨ s.hostOnly then s.refuseLeap 1 1 sign l (s.utcNow + sign)
  else s.announceLeap 1 sign l

/-- UTC data that two satellites of the reference constellation agree on, acted on once (R225). -/
def State.takeUtc (s : State) (u : UtcData) : State :=
  let s := s.putI Reg.GNB_GNSS_UTC_TAI_UTC u.taiUtc
  let s := if s.gnss.acted = some u then s else
    ({ s with gnss := { s.gnss with acted := some u } }).raise (evGnbInfo 0x0219 9 0x2E00)
      [i1 (toBits 8 u.sign), i8 (u.leapAt * secNs), i2 (toBits 16 u.taiUtc)]
  let s := s.offerGnssLeap u.sign u.leapAt
  if u.taiUtc ≠ s.utcNow ∧ s.get Reg.TCO_STATUS_LEAP_COMMITTED = 0 then s.refuseLeap 1 2 0 0 u.taiUtc else s

/-- NAV_DECODE: a navigation message of a satellite is decoded; `utc` holds what UTC data it gives (R225, R228). -/
def execNavDecode (const svid typ msg : Nat) (body : List Byte) (utc : Option UtcData) (s : State) :
    Host.Outcome State Fault Refusal :=
  .next (
    if ¬ s.gnssRuns ∨ svid ∉ svids const ∨ 2 < typ then s else
    let s := s.takeDecoded ⟨const, svid, typ, false, msg, s.linear, body⟩
    match utc with
    | none => s
    | some u =>
      if timeOf const ≠ s.get Reg.GNB_CTRL_REF_CONST then s else
      let s := { s with gnss := { s.gnss with utc := aput s.gnss.utc (const, svid) u } }
      if (s.gnss.utc.filter fun p => p.2 = u ∧ timeOf p.1.1 = s.get Reg.GNB_CTRL_REF_CONST).length < 2 then s else s.takeUtc u)

/-- The records of a buffer, or nothing where it is malformed (R229): each a 16-byte header with its body. -/
def parseNav : Nat → List Byte → Option (List NavRec)
  | 0, _ => none
  | k + 1, bs =>
    if bs.isEmpty then some [] else
    if bs.length < 16 then none else
    let len := leNat ((bs.drop 4).take 2)
    if len < 4 ∨ 1024 < len ∨ len % 4 ≠ 0 ∨ bs.length < 16 + len then none else
    let r : NavRec := ⟨leNat (bs.take 1), leNat ((bs.drop 1).take 1), leNat ((bs.drop 2).take 1), true, leNat ((bs.drop 6).take 2),
      leNat ((bs.drop 8).take 8), (bs.drop 16).take len⟩
    (parseNav k (bs.drop (16 + len))).map fun l => r :: l

/-- Whether a record is too far from its reference time: an ephemeris by more than 4 h, an almanac by more than 7 days (R229). -/
def State.navFar (s : State) (r : NavRec) : Bool :=
  let off := (linDiff s.linear r.refTime).natAbs
  (r.typ = 0 && decide (4 * 3600 * secNs < off)) || (r.typ = 1 && decide (7 * 86400 * secNs < off))

/-- The cause a record is rejected for, if it is (R229): 0 parity, 1 SVID, 2 age. -/
def State.navReject (s : State) (r : NavRec) : Option Nat :=
  if ! r.sound then some 0 else if r.svid ∉ svids r.const then some 1 else if s.navFar r then some 2 else none

/-- A loaded record put into its place: one decoded of the same issue stays, with 0x0215 where the two differ (R228). -/
def State.takeLoaded (s : State) (r : NavRec) : State :=
  match s.gnss.nav.find? fun o => ! o.loaded && sameIssue o r with
  | some o => if o.body = r.body then s else s.raise (evGnb 4 .warning 0x2E00) [i1 r.const, i1 r.svid]
  | none => { s with gnss := { s.gnss with nav := s.gnss.nav.filter (fun o => ! (o.loaded && samePlace o r)) ++ [r] } }

/-- The records of a buffer loaded one by one; the results count the accepted and the rejected. -/
def State.loadNav : State → Nat × Nat → List NavRec → State × (Nat × Nat)
  | s, n, [] => (s, n)
  | s, n, r :: rs =>
    match s.navReject r with
    | some cause =>
      State.loadNav (s.raise (evGnb 3 .warning 0x2E00) [i1 r.const, i1 r.svid, i1 r.typ, i1 cause]) (n.1, n.2 + 1) rs
    | none => State.loadNav (s.takeLoaded r) (n.1 + 1, n.2) rs

/-- The bytes of a record as GNSS_NAV_READ writes it (R229). -/
def NavRec.bytes (r : NavRec) : List Byte :=
  leBytes 1 r.const ++ leBytes 1 r.svid ++ leBytes 1 r.typ ++ leBytes 1 (b2n r.loaded) ++ leBytes 2 r.body.length ++ leBytes 2 r.msg
    ++ leBytes 8 r.rx ++ r.body

/-! ## Commands (R230) -/

def opGnbSet : OpInfo := { op := 0x0801, role := 2, carried := true }
def opGnssPosSet : OpInfo := { op := 0x0802, role := 2, carried := true }
def opGnssNavLoad : OpInfo := { op := 0x0803, role := 1 }
def opGnssNavRead : OpInfo := { op := 0x0804 }
def opGnssColdStart : OpInfo := { op := 0x0805, role := 2, carried := true }

/-- Whether a GNSS lane is SELECTED. -/
def State.gnssSelected (s : State) : Bool :=
  match s.cur with
  | some n => decide (s.laneSrc n = 0x08)
  | none => false

/-- Whether a GNB_SLI_CFG word changes a band's sample configuration: its enable, or a field both bands share (R230). -/
def sliChanged (old new : Nat) (l5 : Bool) : Bool :=
  decide (old / 4 ≠ new / 4 ∨ old / 2 ^ b2n l5 % 2 ≠ new / 2 ^ b2n l5 % 2)

/-- What follows a write to a GNB word that held `old`: RUN starts or stops the baseband, MEAS_RATE begins a new series, a disabled signal's channels
are released, GNB_LOOP sets the loops anew, a band's new sample configuration sends its channels to SEARCH (R211, R214, R215, R218, R230). -/
def State.afterGnb (s : State) (a old : Nat) : State :=
  let again := fun (s : State) (l5 : Bool) => allChans.foldl (fun s n =>
    if s.get (Reg.CH_STATUS_STATE n) ≠ 0 ∧ (sigInfo (s.get (Reg.CH_STATUS_SIG n))).l5 = l5 then (s.clearLocks n).toSearch n 1 else s) s
  if a = 0x18000C then
    (if s.get Reg.GNB_CTRL_RUN = 0 then (if s.gnssRuns then s.gnssStop else s)
     else if ¬ s.gnssRuns then s.gnssStart
     else if old / 2 % 8 = s.get Reg.GNB_CTRL_MEAS_RATE then s else s.newSeries (ratePeriod (old / 2 % 8)))
  else if a = 0x180010 then
    allChans.foldl (fun s n => if s.fbit Reg.GNB_SIG_EN_EN (s.get (Reg.CH_STATUS_SIG n)) then s else s.releaseCh n) s
  else if a = 0x180018 then allChans.foldl (fun s n => s.retune n) s
  else if a = 0x180100 then
    let new := match wordAt a with
      | some w => s.rawWord w.fields
      | none => 0
    let s := if sliChanged old new false then again s false else s
    if sliChanged old new true then again s true else s
  else if a = 0x180104 then again s false
  else if a = 0x180108 then again s true
  else s

/-- GNB_SET's effect (R212, R230). -/
def gnbSetEff (off value : Nat) (role : Nat) (s : State) : Res :=
  if ¬ ((0x0C ≤ off ∧ off ≤ 0x24) ∨ (0x80 ≤ off ∧ off ≤ 0xA4) ∨ (0x100 ≤ off ∧ off ≤ 0x108)) then ⟨s, some Status.range, 0⟩
  else if off = 0x1C ∧ 1000 < max (value % 32) s.codeMsMax * (value / 32 % 1024) then ⟨s, some Status.range, 0⟩
  else
    let old := match wordAt (0x180000 + off) with
      | some w => s.rawWord w.fields
      | none => 0
    let r := s.setWord role 0x0801 0x18000C 0x18010C (0x180000 + off) value
    if r.st = some Status.ok ∧ old ≠ value then ⟨r.s.afterGnb (0x180000 + off) old, r.st, 0⟩ else r

/-- GNB_SET (R230). -/
def execGnbSet (c : Ctx) (off value : Nat) (s : State) : Host.Outcome State Fault Refusal :=
  .next (s.runCmd c opGnbSet [off, value] (gnbSetEff off value))

/-- GNSS_POS_SET's effect: the held position, or a survey (R223, R230). -/
def gnssPosSetEff (mode : Nat) (x y z : Int) (posU time : Nat) (role : Nat) (s : State) : Res :=
  let r2 := (x * x + y * y + z * z).toNat
  if mode ≠ 1 ∧ mode ≠ 2 then ⟨s, some Status.range, 0⟩
  else if mode = 2 ∧ (r2 < 6300000000 ^ 2 ∨ 6400000000 ^ 2 < r2 ∨ 2 ^ 32 ≤ posU) then ⟨s, some Status.range, 0⟩
  else if mode = 1 ∧ (time < 600 ∨ 86400 < time) then ⟨s, some Status.range, 0⟩
  else if s.gnssSelected then ⟨s, some Status.busy, 0⟩
  else
    let old := s.get Reg.GNB_STATUS_POS_STATE
    let s := if mode = 1 then s.startSurvey time else
      let s := s.putI64 Reg.GNB_POS_X_LO_X_LO Reg.GNB_POS_X_HI_X_HI x
      let s := s.putI64 Reg.GNB_POS_Y_LO_Y_LO Reg.GNB_POS_Y_HI_Y_HI y
      let s := s.putI64 Reg.GNB_POS_Z_LO_Z_LO Reg.GNB_POS_Z_HI_Z_HI z
      (s.put Reg.GNB_POS_U_POS_U posU).put Reg.GNB_STATUS_POS_STATE 2
    ⟨s.change role 0x2E00 0x0802 0x180040 old mode, some Status.ok, 0⟩

/-- GNSS_POS_SET (R230). -/
def execGnssPosSet (c : Ctx) (mode : Nat) (x y z : Int) (posU time : Nat) (s : State) : Host.Outcome State Fault Refusal :=
  .next (s.runCmd c opGnssPosSet [mode, x, y, z, posU, time] (gnssPosSetEff mode x y z posU time))

/-- GNSS_NAV_LOAD's effect (R229, R230). -/
def gnssNavLoadEff (dmaOk : Bool) (addr len : Nat) (_role : Nat) (s : State) : Res :=
  if ¬ dmaOk then ⟨s, some Status.dmaError, 0⟩ else
  match parseNav (len + 1) (memRead s.mem addr len) with
  | none => ⟨s, some Status.range, 0⟩
  | some rs =>
    if len = 0 ∨ rs.any fun r => 2 < r.typ then ⟨s, some Status.range, 0⟩ else
    let (s, n) := State.loadNav s (0, 0) rs
    ⟨s, some Status.ok, n.1 + 2 ^ 32 * n.2⟩

/-- GNSS_NAV_LOAD: the bodies themselves tell whose parity or CRC fails and which lie too far from their reference time, so that the last two operands
are not read (R229; log entry 185). -/
def execGnssNavLoad (c : Ctx) (addr len : Nat) (_parityBad _tooOld : List Nat) (s : State) : Host.Outcome State Fault Refusal :=
  .next (s.runCmd c opGnssNavLoad [] (gnssNavLoadEff c.dmaOk addr len))

/-- GNSS_NAV_READ's effect: selection 0 is all, 1 to 3 one TYPE (R230). -/
def gnssNavReadEff (dmaOk : Bool) (addr len sel : Nat) (_role : Nat) (s : State) : Res :=
  if 3 < sel then ⟨s, some Status.range, 0⟩ else
  let bs := (s.gnss.nav.filter fun r => sel = 0 ∨ r.typ + 1 = sel).flatMap NavRec.bytes
  if len < bs.length then ⟨s, some Status.range, bs.length⟩
  else if ¬ dmaOk then ⟨s, some Status.dmaError, 0⟩
  else ⟨s.dmaWrite addr bs, some Status.ok, bs.length⟩

/-- GNSS_NAV_READ (R230). -/
def execGnssNavRead (c : Ctx) (addr len sel : Nat) (s : State) : Host.Outcome State Fault Refusal :=
  .next (s.runCmd c opGnssNavRead [] (gnssNavReadEff c.dmaOk addr len sel))

/-- GNSS_COLD_START's effect (R230). -/
def gnssColdStartEff (role : Nat) (s : State) : Res :=
  if s.gnssSelected then ⟨s, some Status.busy, 0⟩ else
  let s := allChans.foldl (fun s n => s.releaseCh n) { s with gnss := { s.gnss with nav := [], utc := [], acted := none } }
  ⟨s.restartTtff.change role 0x2E00 0x0805 noOffset 0 0, some Status.ok, 0⟩

/-- GNSS_COLD_START (R230). -/
def execGnssColdStart (c : Ctx) (s : State) : Host.Outcome State Fault Refusal :=
  .next (s.runCmd c opGnssColdStart [] gnssColdStartEff)

end Sys2Proof.Machine
end

