-- ==== Sys2Proof/Machine/SynOut.lean ====
section
/-! DEFINITION. What the synthesis groups and the outputs share (R161 to R172, R187 to R191): a group's record and step, an
output's phase error, starting an output aligned, and the states of outputs as their group's state moves them. -/

namespace Sys2Proof.Machine

/-! ## Groups -/

/-- A group's hidden record. -/
def State.grp (s : State) (g : Nat) : SynRec := (aget s.syn g).getD {}

/-- A group's hidden record set. -/
def State.setGrp (s : State) (g : Nat) (r : SynRec) : State := { s with syn := aput s.syn g r }

/-- A group's state (R175): 7 while its unit is ABSENT. -/
def State.synSt (s : State) (g : Nat) : Nat :=
  if (s.unit (0x1000 + g)).st = .absent then 7 else s.get (Reg.SYN_STATE_STATE g)

/-- Whether port stamps carry SYN_HOLD: SYN_D is not LOCKED, or has not been for 1 ms (R178). -/
def State.synHolding (s : State) : Bool := decide (s.synSt 3 ≠ 3) || (s.timer .synHold).isSome

/-- Whether a group's DDS runs: BAND_CAL to RELOCKING. -/
def State.synRuns (s : State) (g : Nat) : Bool := 1 ≤ s.synSt g ∧ s.synSt g ≤ 5

/-- An interpolator step of a group, 1/64 VCO period, is `stepN / stepD` units of 2^-52 ns (R170). -/
def SynRec.stepN (r : SynRec) : Nat := r.den * 1000000000 * 2 ^ 52
@[inherit_doc SynRec.stepN] def SynRec.stepD (r : SynRec) : Nat := r.n * r.num * 64

/-- φ as the DDS holds it (R162): the whole cycles since the PTP epoch modulo 2^64, the fraction's remainder in units of 1/(den × 10^9 × 2^52)
cycles, and the 14 most significant bits of the fraction, which the waveform converter takes. -/
def SynRec.cycles (r : SynRec) : Nat := (r.phi / (r.den * 1000000000 * 2 ^ 52 : Nat) % (2 ^ 64 : Int)).toNat
@[inherit_doc SynRec.cycles] def SynRec.fraction (r : SynRec) : Nat := (r.phi % (r.den * 1000000000 * 2 ^ 52 : Nat)).toNat
@[inherit_doc SynRec.cycles] def SynRec.waveCode (r : SynRec) : Nat := r.fraction * 2 ^ 14 / (max 1 r.den * 1000000000 * 2 ^ 52)

/-- G in units of 2^-16 ns, and of 1 ns, truncated toward zero (R163). -/
def SynRec.g16 (r : SynRec) : Int := truncDiv r.g (2 ^ 36)
@[inherit_doc SynRec.g16] def SynRec.gNs (r : SynRec) : Int := truncDiv r.g (2 ^ 52)

/-! ## Outputs: clock n by n, pulse n by 16 + n -/

/-- An output's hidden record. -/
def State.outp (s : State) (i : Nat) : OutRec := (aget s.outs i).getD {}

/-- An output's hidden record set. -/
def State.setOut (s : State) (i : Nat) (r : OutRec) : State := { s with outs := aput s.outs i r }

/-- An output's HID (R37). -/
def outHid (i : Nat) : Nat := if i < 16 then 0x1100 + i else 0x1200 + (i - 16)

/-- The register fields of an output's STATE and FENCE_LAST. -/
def outStF (i : Nat) : Fld := if i < 16 then Reg.CLK_STATE_STATE i else Reg.PULSE_STATE_STATE (i - 16)
@[inherit_doc outStF] def outFlF (i : Nat) : Fld := if i < 16 then Reg.CLK_STATE_FENCE_LAST i else Reg.PULSE_STATE_FENCE_LAST (i - 16)

/-- An output's state (R187): 0 OFF, 1 WAIT, 2 WAIT_ALIGN, 3 RUN, 4 HELD, 5 FENCED. -/
def State.outSt (s : State) (i : Nat) : Nat := s.get (outStF i)

/-- The group an output is assigned to (R184). -/
def State.outGrp (s : State) (i : Nat) : Nat := if i < 16 then s.get (Reg.CLK_CFG_GROUP i) else s.get (Reg.PULSE_CFG_GROUP (i - 16))

/-- An output's state changed: every change raises 0x0120 (R187). -/
def State.outTo (s : State) (i st : Nat) : State :=
  let old := s.outSt i
  if old = st then s else (s.put (outStF i) st).raise (evOut 0 .info (outHid i)) [i1 old, i1 st]

/-- The path delay of an output for a group and a drive standard, fused, in units of 2^-16 ns (R171, R498). -/
def fusedDelay (i grp std : Nat) : Int :=
  let f := if i < 16 then Reg.CLK_DELAY_D i else Reg.PULSE_DELAY_D (i - 16)
  ofBits 32 (Config.fused (f.key + 1 + grp + 4 * std) % 2 ^ 32)

/-- D_n for the output's present GROUP and STD. -/
def State.outDelay (s : State) (i : Nat) : Int :=
  fusedDelay i (s.outGrp i) (if i < 16 then s.get (Reg.CLK_CFG_STD i) else s.get (Reg.PULSE_CFG_STD (i - 16)))

/-- G + D_n in units of 2^-52 ns. -/
def State.pathErr (s : State) (i : Nat) : Int := (s.grp (s.outGrp i)).g + s.outDelay i * 2 ^ 36

/-- fold(x, P) of R171, over a common denominator. -/
def foldI (x : Int) (p : Nat) : Int := if p = 0 then x else x - p * ((2 * x + p) / (2 * p))

/-- A ratio of a signed number to a natural one. -/
structure Frac where
  n : Int
  d : Nat

/-- A ratio in units of 2^-52 ns truncated to 2^-16 ns. -/
def Frac.to16 (f : Frac) : Int := if f.d = 0 then 0 else truncDiv f.n (f.d * 2 ^ 36)

/-- E_n of an output in units of 2^-52 ns (R171, R190). -/
def State.outErr (s : State) (i : Nat) : Frac :=
  if i < 16 then
    let r := s.grp (s.outGrp i)
    ⟨foldI (s.pathErr i * r.stepD - s.getI (Reg.CLK_PH_PH i) * r.stepN) (s.get (Reg.CLK_CFG_DIV i) * 64 * r.stepN), r.stepD⟩
  else
    let p := s.pulsePer (i - 16)
    ⟨foldI ((s.pathErr i - (s.outp i).a) * p.2) p.1, p.2⟩

/-- Whether |E_n| exceeds half an interpolator step (R172). -/
def State.offPhase (s : State) (i : Nat) : Bool :=
  let r := s.grp (s.outGrp i)
  let e := s.outErr i
  decide (e.d * r.stepN < 2 * e.n.natAbs * r.stepD)

/-- The ideal edge k of a pulse series less the epoch, in units of 2^-52 ns over the period's denominator (R189). -/
def edgeAt (p : Nat × Nat) (ofs : Int) (k : Int) : Int := k * p.1 + ofs * 2 ^ 36 * p.2

/-- The first edge of a pulse series at or after a time in units of 2^-52 ns. -/
def edgeFrom (p : Nat × Nat) (ofs : Int) (t : Int) : Int :=
  if p.1 = 0 then 0 else -(-((t - ofs * 2 ^ 36) * p.2) / p.1)

/-- An alignment's end: STEPPED clears, MISALIGNED may be raised again, and 0x0122 carries E_n at acceptance (R191,
R196). -/
def State.alignDone (s : State) (i : Nat) (e0 : Int) (jump : Bool) : State :=
  let s := s.setOut i { s.outp i with align := none, warned := false }
  let s := if i < 16 then s else ((s.put (Reg.PULSE_STATE_STEPPED (i - 16)) 0).put (Reg.PULSE_STATE_ALIGNING (i - 16)) 0)
  s.raise (evOut 2 .info (outHid i)) [i8 (toBits 64 e0), i1 (b2n (! jump))]

/-- OFFSET of a pulse output as its registers hold it, and as the series uses it: of a running output the one in use (R193). -/
def State.ofsSet (s : State) (n : Nat) : Int := s.getI64 (Reg.PULSE_OFFSET_LO_OFS_LO n) (Reg.PULSE_OFFSET_HI_OFS_HI n)
@[inherit_doc State.ofsSet] def State.ofsUsed (s : State) (n : Nat) : Int :=
  if s.outSt (16 + n) = 3 ∨ s.outSt (16 + n) = 4 then (s.outp (16 + n)).ofs else s.ofsSet n

/-- WIDTH and OFFSET of a pulse output taken into use (R193). -/
def State.loadPulse (s : State) (n : Nat) : State :=
  (s.setOut (16 + n) { s.outp (16 + n) with width := s.get (Reg.PULSE_WIDTH_WIDTH n), ofs := s.ofsSet n }).put (Reg.PULSE_STATE_PENDING n) 0

/-! ## Drivers (R185, R187 to R189) -/

/-- The driver of an output takes a level at an instant in units of 2^-16 ns. -/
def State.drive (s : State) (i : Nat) (high : Bool) (at_ : Int) : State := { s with out := .drive i high at_ :: s.out }

/-- Whether the driver of a pulse output is high while its pulse is active, or while it is not: POLARITY (R189). -/
def State.pulseLevel (s : State) (n : Nat) (active : Bool) : Bool := decide (s.get (Reg.PULSE_CFG_POLARITY n) = b2n (! active))

/-- An output squelched: its driver low, whatever INVERT or POLARITY says, and no pulse in hand (R44, R185). -/
def State.squelch (s : State) (i : Nat) : State :=
  if s.outSt i = 3 ∨ s.outSt i = 4 ∨ (s.outp i).active.isSome then
    (s.setOut i { s.outp i with active := none }).drive i false s.at16
  else s

/-- The driver of a clock output begins to run with a first edge at an instant in units of 2^-16 ns: rising unless INVERT (R185, R188). -/
def State.clockOn (s : State) (i : Nat) (at_ : Int) : State :=
  let high := decide (s.get (Reg.CLK_CFG_INVERT i) = 0)
  { s with out := .clock i high (s.get (Reg.CLK_CFG_STD i)) (s.get (Reg.CLK_CFG_DRIVE i)) at_ :: s.out }

/-- The period of a clock output as a ratio of units of 2^-52 ns (R184). -/
def State.clockPer (s : State) (i : Nat) : Nat × Nat :=
  let r := s.grp (s.outGrp i)
  (s.get (Reg.CLK_CFG_DIV i) * 64 * r.stepN, r.stepD)

/-- A clock output's driver when it is disabled: low once the cycle in hand is over (R187). -/
def State.finishClock (s : State) (i : Nat) : State :=
  let p := s.clockPer i
  let e := (s.outErr i).n
  let k := if p.1 = 0 then 0 else -(-((s.tc.time : Int) * p.2 - e) / p.1)
  s.drive i false ((k * p.1 + e) / (max 1 p.2 * 2 ^ 36 : Nat))

/-! ## The pulse series (R189 to R194) -/

/-- The place of edge k of a pulse on its group's phase, less the nearest interpolator step: QERR, as a ratio of units of
2^-52 ns, ties placed later (R190). -/
def State.qerr (s : State) (n : Nat) (k : Int) : Frac :=
  let r := s.grp (s.outGrp (16 + n))
  let p := s.pulsePer n
  let o := s.outp (16 + n)
  let x := edgeAt p o.ofs k - o.a * p.2
  if r.stepD = 0 then ⟨0, 1⟩ else
  let steps := (2 * x * r.stepD + p.2 * r.stepN) / (2 * p.2 * r.stepN : Nat)
  ⟨steps * r.stepN * p.2 - x * r.stepD, r.stepD * p.2⟩

/-- A ratio rounded to the nearest unit of 2^-16 ns. -/
def Frac.near16 (f : Frac) : Int := roundDiv f.n (max 1 (f.d * 2 ^ 36))

/-- How late edge k leaves the pad against edge k of the series, in units of 2^-52 ns rounded down: G + D - A + QERR. -/
def State.padLate (s : State) (n : Nat) (k : Int) : Int :=
  let q := s.qerr n k
  s.pathErr (16 + n) - (s.outp (16 + n)).a + q.n / (max 1 q.d : Nat)

/-- The time at which edge k leaves the pad, in units of 2^-52 ns rounded down. -/
def State.padTime (s : State) (n : Nat) (k : Int) : Int :=
  let p := s.pulsePer n
  edgeAt p (s.outp (16 + n)).ofs k / (max 1 p.2 : Nat) + s.padLate n k

/-- The number of the ideal edge that edge k of the group's series stands for: E_n is folded into a period. -/
def State.idealOf (s : State) (n : Nat) (k : Int) : Int :=
  let p := s.pulsePer n
  let x := (s.pathErr (16 + n) - (s.outp (16 + n)).a) * p.2
  k + (x - foldI x p.1) / (max 1 p.1 : Nat)

/-- LINEAR_NS of an ideal edge. -/
def State.idealLinear (s : State) (n : Nat) (k : Int) : Nat :=
  let p := s.pulsePer n
  (edgeAt p (s.outp (16 + n)).ofs k / (max 1 p.2 * nsUnit : Nat) % (2 ^ 64 : Int)).toNat

/-- The pulse in hand ended when its WIDTH has passed: the driver takes the inactive level, or of an output that is OFF the squelched one
(R187, R189). -/
def State.endPulse (s : State) (n : Nat) : State :=
  let i := 16 + n
  match (s.outp i).active with
  | some t =>
    if (s.tc.time : Int) < t then s else
    (s.setOut i { s.outp i with active := none }).drive i (decide (s.outSt i = 3 ∨ s.outSt i = 4) && s.pulseLevel n false) (t / 2 ^ 36)
  | none => s

/-- 0x0121 of an edge emitted, where QERR_EVT is set (R194). -/
def State.edgeEvent (s : State) (n lin : Nat) (q e : Int) : State :=
  if s.get (Reg.PULSE_CFG_QERR_EVT n) = 1 then
    s.raise (evOut 1 .info (outHid (16 + n))) [i8 lin, i4 (toBits 32 q), i8 (toBits 64 e)]
  else s

/-- Edge k of a pulse emitted: the driver takes the active level, its record, its registers, its event, its counter (R189, R190, R194). -/
def State.emitEdge (s : State) (n : Nat) (k : Int) : State :=
  let i := 16 + n
  let q := (s.qerr n k).near16
  let e := (s.outErr i).to16
  let lin := s.idealLinear n (s.idealOf n k)
  let t := s.padTime n k
  let s := { s with out := .pulse n lin e q :: s.out }
  let s := s.drive i (s.pulseLevel n true) (t / 2 ^ 36)
  let ends : Int := t + ((s.outp i).width * nsUnit : Nat)
  let s := s.setOut i { s.outp i with next := k + 1, last := t, active := some ends }
  let s := (s.putI64 (Reg.PULSE_ERR_LO_E_LO n) (Reg.PULSE_ERR_HI_E_HI n) e).putI (Reg.PULSE_QERR_QERR n) q
  let s := s.put64 (Reg.PULSE_EDGE_LO_AT_LO n) (Reg.PULSE_EDGE_HI_AT_HI n) lin
  (s.pmcEvent 1 0x11).edgeEvent n lin q e

/-- WIDTH and OFFSET of an alignment taken into use, as they stood at its acceptance; PENDING stays while the registers hold others (R193,
R196; DEDUCED, log entry 180). -/
def State.loadAlign (s : State) (n : Nat) (al : Align) : State :=
  let later := decide (al.width ≠ s.get (Reg.PULSE_WIDTH_WIDTH n) ∨ al.ofs ≠ s.ofsSet n)
  (s.setOut (16 + n) { s.outp (16 + n) with width := al.width, ofs := al.ofs }).putB (Reg.PULSE_STATE_PENDING n) later

/-- A pulse output as a JUMP in hand leaves it: WIDTH and OFFSET as at its acceptance, A with E_n 0 (R193, R196). -/
def State.jumped (s : State) (n : Nat) (al : Align) : State :=
  let s := s.loadAlign n al
  s.setOut (16 + n) { s.outp (16 + n) with a := s.pathErr (16 + n) }

/-- Whether the moved edge of a JUMP comes next: its ideal instant, under its own OFFSET, is no later than that of the next edge of the
series so far (R196). -/
def State.jumpNext (s : State) (n : Nat) (al : Align) : Bool :=
  let p := s.pulsePer n
  let r := s.outp (16 + n)
  decide (edgeAt p al.ofs al.edge ≤ edgeAt p r.ofs (s.idealOf n r.next))

/-- The moved edge of a JUMP: from it on WIDTH and OFFSET are the new ones and E_n is 0; it is omitted when it would follow
the edge before by less than WIDTH + 8 ns (R193, R196). -/
def State.jumpEdge (s : State) (n : Nat) (al : Align) : State :=
  let i := 16 + n
  let s1 := s.jumped n al
  let s1 := s1.setOut i { s1.outp i with next := al.edge }
  let t := s1.padTime n al.edge
  if (s.tc.time : Int) < t then s
  else if t - (s.outp i).last < ((s1.outp i).width + 8 : Nat) * nsUnit then
    s1.setOut i { s1.outp i with next := al.edge + 1, align := some { al with edge := al.edge + 1 } }
  else (s1.emitEdge n al.edge).alignDone i al.e0 true

/-- What a pulse output does at an edge of TCLK: the pulse in hand ends, or the next edge of a running output is emitted once it is reached
(R189, R190, R194, R196). -/
def State.pulseEdge (s : State) (n : Nat) : State :=
  let i := 16 + n
  let s := s.endPulse n
  if ¬ (s.outSt i = 3 ∨ s.outSt i = 4) then s else
  let r := s.outp i
  let normal := if s.padTime n r.next ≤ s.tc.time then s.emitEdge n r.next else s
  match r.align with
  | some al => if al.jump ∧ s.synSt (s.outGrp i) = 3 ∧ s.jumpNext n al then s.jumpEdge n al else normal
  | none => normal

/-! ## The states of the outputs (R187, R188, R197) -/

/-- The aligned start of R188: a clock's PH brings |E_n| within half a step, and its first edge is the first ideal one at least 16 VCO cycles
ahead; a pulse's A makes E_n 0, and its first edge is the first ideal one at least 2 ms ahead. A pulse still in hand from before is finished
(R187), and the first edge waits until 8 ns after it, so that both are whole (DESIGN CHOICE, log entry 181). -/
def State.startOut (s : State) (i : Nat) : State :=
  if i < 16 then
    let r := s.grp (s.outGrp i)
    let x := foldI (s.pathErr i * r.stepD) (s.get (Reg.CLK_CFG_DIV i) * 64 * r.stepN)
    let p := s.clockPer i
    let k := if p.1 = 0 then 0 else -(-((s.tc.time : Int) * p.2 + 16 * 64 * r.stepN) / p.1)
    let s := (s.putI (Reg.CLK_PH_PH i) (roundDiv x (max 1 r.stepN))).setOut i { s.outp i with align := none, walkAt := s.tc.run, next := k }
    s.clockOn i (k * p.1 / (max 1 p.2 * 2 ^ 36 : Nat))
  else
    let s := s.loadPulse (i - 16)
    let r := s.outp i
    let from2ms : Int := s.tc.time + 2000000 * nsUnit
    let s := s.setOut i { r with
      a := s.pathErr i, warned := false, align := none,
      next := edgeFrom (s.pulsePer (i - 16)) r.ofs (max from2ms ((r.active.map fun t : Int => t + (8 * nsUnit : Nat)).getD from2ms)) }
    let s := (s.put (Reg.PULSE_STATE_STEPPED (i - 16)) 0).put (Reg.PULSE_STATE_ALIGNING (i - 16)) 0
    if r.active.isSome then s else s.drive i (s.pulseLevel (i - 16) false) s.at16

/-- An output stops running: what it was aligning is void (R187, R197). -/
def State.stopOut (s : State) (i st : Nat) : State :=
  let s := s.setOut i { s.outp i with align := none }
  let s := if i < 16 then s else s.put (Reg.PULSE_STATE_ALIGNING (i - 16)) 0
  s.outTo i st

/-- An alignment by JUMP whose edge passed while the group was not LOCKED: it aims at the first ideal edge at least 600 ms ahead (R196, R197;
DESIGN CHOICE, log entry 158). -/
def State.resumeJump (s : State) (i : Nat) : State :=
  match (s.outp i).align with
  | some al =>
    if i < 16 ∨ ¬ al.jump then s else
    let p := s.pulsePer (i - 16)
    if (s.tc.time : Int) * p.2 ≤ edgeAt p al.ofs al.edge then s
    else s.setOut i { s.outp i with align := some { al with edge := edgeFrom p al.ofs (s.tc.time + 600000000 * nsUnit) } }
  | none => s

/-- One output follows its group's state (R187): an alignment in hand waits for the group to be LOCKED again, and a start aligned completes
it (R197). -/
def State.followGrp (s : State) (i : Nat) : State :=
  let g := s.synSt (s.outGrp i)
  let o := s.outSt i
  if g = 3 then
    if o = 1 then
      let al := (s.outp i).align
      let s := (s.startOut i).outTo i 3
      match al with
      | some a => s.alignDone i a.e0 a.jump
      | none => s
    else if o = 4 then (s.resumeJump i).outTo i 3
    else s
  else if g = 4 ∨ g = 5 then (if o = 3 then s.outTo i 4 else s)
  else if o = 3 ∨ o = 4 then (s.squelch i).outTo i 1
  else s

/-- The clock and pulse outputs. -/
def allOuts : List Nat := List.range 24

/-- The outputs of a group follow its state. -/
def State.followAll (s : State) (g : Nat) : State :=
  allOuts.foldl (fun s i => if s.outGrp i = g then s.followGrp i else s) s

/-- UNIT_ENABLE of a clock or pulse output: WAIT, or WAIT_ALIGN after a fence (R187). -/
def State.outEnable (s : State) (i : Nat) : State :=
  if s.outSt i = 0 then (s.outTo i (if s.get (outFlF i) = 1 then 2 else 1)).followGrp i else s

/-- UNIT_DISABLE of an output: it is OFF, and its driver squelched once the cycle or pulse in hand is finished; a pulse edge reached by then
is emitted, in whatever order the two commands of one TCLK edge run (R187, R197). -/
def State.outDisable (s : State) (i : Nat) : State :=
  if s.outSt i < 1 ∨ 4 < s.outSt i then s else
  let runs := decide (s.outSt i = 3 ∨ s.outSt i = 4)
  let s := if runs ∧ 16 ≤ i then s.pulseEdge (i - 16) else s
  let s := if ¬ runs then s else if i < 16 then s.finishClock i else if (s.outp i).active.isSome then s else s.squelch i
  s.stopOut i 0

/-- An output fenced, or its domain without power: low at once, FENCE_LAST set (R44, R187). -/
def State.outFence (s : State) (i : Nat) : State :=
  if s.outSt i = 5 then s else ((s.put (outFlF i) 1).squelch i).stopOut i 5

/-- UNIT_RESET of an output complete: OFF, FENCE_LAST stays (R187). -/
def State.outReset (s : State) (i : Nat) : State := if s.outSt i = 5 then s.outTo i 0 else s

/-- MISALIGNED of a running pulse output: |E_n| above ALIGN_WARN, once between alignments (R191, R202). -/
def State.checkPulse (s : State) (n : Nat) : State :=
  let i := 16 + n
  let e := s.outErr i
  if (s.outSt i = 3 ∨ s.outSt i = 4) ∧ ¬ (s.outp i).warned ∧ e.d * s.get Reg.OUT_ALIGN_WARN_WARN * 2 ^ 44 < e.n.natAbs then
    let s := (s.setOut i { s.outp i with warned := true }).putBit Reg.OUT_STICKY_MISALIGNED n true
    s.raise (evOut 3 .warning (outHid i)) [i8 (toBits 64 e.to16), i1 (s.get (Reg.PULSE_STATE_STEPPED n))]
  else s

/-- The pulse outputs of a group looked at after a change of its G. -/
def State.checkPulses (s : State) (g : Nat) : State :=
  (List.range 8).foldl (fun s n => if s.outGrp (16 + n) = g then s.checkPulse n else s) s

/-- A Time Core step of some units of 2^-52 ns: G of every group gains it, running pulse outputs are STEPPED where their
E_n is not 0 after it, and the last edges and the pulses in hand keep their place on the new scale (R165, R187, R191, R197). -/
def State.stepGroups (s : State) (x : Int) : State :=
  let s := (List.range 4).foldl (fun s g =>
    if s.synRuns g then s.setGrp g { s.grp g with g := (s.grp g).g + x } else s) s
  (List.range 8).foldl (fun s n =>
    let i := 16 + n
    let s := s.setOut i { s.outp i with last := (s.outp i).last + x, active := (s.outp i).active.map (· + x) }
    if s.outSt i = 3 ∨ s.outSt i = 4 then
      let s := if (s.outErr i).n ≠ 0 then s.put (Reg.PULSE_STATE_STEPPED n) 1 else s
      s.checkPulse n
    else s) s

/-- The greatest rate change a DDS's PLL follows in 1 ms: FSTEP, 10 ppm, in units of 2^-48 (R165). -/
def fStep : Int := 2814749767

/-- G held within ±2^63 ns (R163). -/
def clampG (x : Int) : Int := clampI (-(2 ^ 115 : Int)) (2 ^ 115) x

/-- The numerator of f_ref after a ramp's steps, over DEN of the start × 10^5 (R167). -/
def Ramp.num (r : Ramp) : Nat := r.num0 * (if r.up then 100000 + r.made else 100000 - r.made)

/-- One TCLK edge of a group's DDS: the small-step rule of R165 and the phase's advance (R162); `dt` is the time's advance and `rt` RATE_TOTAL.
Between the release of a re-lock and the next follower tick r_D stays and G with it (R165, R177). -/
def SynRec.edge (r : SynRec) (rt dt : Int) : SynRec :=
  let lim := rt - r.rTick
  let rD := if r.back = 1 then r.rD else if lim.natAbs ≤ fStep.natAbs then rt else if 0 < lim then r.rTick + fStep else r.rTick - fStep
  let off := 25 * (rt - rD)
  { r with
    rD := rD
    back := if r.back = 2 ∧ rD = rt then 0 else r.back
    g := if r.back = 1 then r.g else clampG (r.g + off)
    phi := r.phi + r.num * (dt - off) }

/-- One TCLK edge of every group whose DDS runs; a limited edge sets FOLLOW_LIMITED and moves the pulse outputs (R165,
R191). -/
def State.synEdge (s : State) (dt : Int) : State :=
  (List.range 4).foldl (fun s g =>
    if s.synRuns g then
      let r := (s.grp g).edge s.tc.rt dt
      let s := s.setGrp g r
      if r.rD ≠ s.tc.rt ∧ r.back ≠ 1 then (s.raise (evSyn g 4 .info) [i8 (toBits 64 (s.tc.rt - r.rD))]).checkPulses g else s
    else s) s

end Sys2Proof.Machine
end

