-- ==== Sys2Proof/Machine/Synth.lean ====
section
/-! DEFINITION. The synthesis groups (R161 to R183): starting, locking, losing lock, re-locking, frequency ramps, and their
commands. -/

namespace Sys2Proof.Machine

/-! ## States -/

/-- A group's state changed from another: 0x0110, and its outputs follow (R175, R187). -/
def State.synFrom (s : State) (g old st : Nat) : State :=
  let s := s.put (Reg.SYN_STATE_STATE g) st
  if old = st then s else (s.raise (evSynState g) [i1 old, i1 st]).followAll g

/-- A group's state changed from the one it is in. -/
def State.synTo (s : State) (g st : Nat) : State :=
  let old := s.get (Reg.SYN_STATE_STATE g)
  if old = st then s else s.synFrom g old st

/-- NUM of a group's registers. -/
def State.synNum (s : State) (g : Nat) : Nat := s.get (Reg.SYN_NUM_LO_NUM_LO g) + 2 ^ 32 * s.get (Reg.SYN_NUM_HI_NUM_HI g)

/-- Whether N, NUM and DEN keep to R161: the DDS within 40 to 250 MHz, the VCO within 5.6 to 6.4 GHz. -/
def freqOk (n num den : Nat) : Bool :=
  den ≠ 0 ∧ 22 ≤ n ∧ n ≤ 160 ∧ 40000000 * den ≤ num ∧ num ≤ 250000000 * den
    ∧ 5600000000 * den ≤ n * num ∧ n * num ≤ 6400000000 * den

/-- Whether a group's registers keep to R161. -/
def State.synFreqOk (s : State) (g : Nat) : Bool := freqOk (s.get (Reg.SYN_CFG_N g)) (s.synNum g) (s.get (Reg.SYN_DEN_DEN g))

/-- Whether a group's configuration registers may be started with (R161, R166). -/
def State.synCfgOk (s : State) (g : Nat) : Bool :=
  s.synFreqOk g
    && decide ((s.get (Reg.SYN_CFG_FILTER g) = 7) = (s.get (Reg.SYN_CFG_EXT_LF g) = 1))

/-- A group's start from a state: its registers are read, the DDS phase set so that G is 0, band calibration begins (R162, R163, R175). -/
def State.synBegin (s : State) (g old : Nat) : State :=
  let s := s.setGrp g
    { num := s.synNum g, den := s.get (Reg.SYN_DEN_DEN g), n := s.get (Reg.SYN_CFG_N g), rTick := s.tc.rt, rD := s.tc.rt,
      phi := s.tc.time * s.synNum g }
  ((s.put (Reg.SYN_STATE_CFG_PENDING g) 0).put (Reg.SYN_STATE_TH_ENGAGED g) 0).synFrom g old 1

/-- A group's start from the state it is in. -/
def State.synStart (s : State) (g : Nat) : State := s.synBegin g (s.get (Reg.SYN_STATE_STATE g))

/-! ## Ramps (R167 to R169, R181) -/

/-- The running SYN_START or SYN_FREQ_STEP of a group. -/
def State.synCmd (s : State) (op g : Nat) : Option InFlight :=
  s.hif.inflight.find? fun e => e.op = op ∧ e.started ∧ e.arg.head? = some g ∧ e.withheld = none

/-- A running command of a group completed; with OK it is carried to the standby (R52). -/
def State.synEnd (s : State) (o : OpInfo) (g st data : Nat) (byAbort : Bool := false) : State :=
  match s.synCmd o.op g with
  | some e => if st = 0 then s.finishCarried e.ctx o e.role st data (e.arg.map Int.ofNat)
      else s.complete e.ctx st data byAbort
  | none => s

/-- Opcodes of R382. -/
def opSynSet : OpInfo := { op := 0x0601, role := 2, carried := true }
def opSynStart : OpInfo := { op := 0x0602, role := 2, carried := true }
def opSynStop : OpInfo := { op := 0x0603, role := 2, carried := true }
def opSynFreqStep : OpInfo := { op := 0x0604, role := 2, carried := true }

/-- G as an event carries it: the signed whole ns and the fraction of SYN_GRP_ERR (R163, R183; DEDUCED, log entry 156). -/
def SynRec.gItems (r : SynRec) : List Item := [i8 (toBits 80 r.g16 / 2 ^ 16), i2 (toBits 80 r.g16)]

/-- A ramp's end at the frequency it has reached: φ stands and G is recomputed as T - φ / f_ref (R169). -/
def State.rampEnd (s : State) (g : Nat) : State :=
  let r := s.grp g
  if r.ramp.isNone then s else
  let s := s.setGrp g { r with g := clampG ((s.tc.time : Int) - roundDiv r.phi (max 1 r.num)), ramp := none }
  ((s.put (Reg.SYN_STATE_RAMPING g) 0).put (Reg.SYN_STATE_RAMP_LEFT g) 0).checkPulses g

/-- The exact value of a ramp's goal in use: φ is the same phase over the new denominator, exact (R162, R167). -/
def SynRec.atGoal (r : SynRec) (p : Ramp) : SynRec := { r with phi := r.phi * p.den1, num := p.num1 * r.den, den := p.den1 * r.den }

/-- A ramp broken off: it ends at the last completed step and SYN_FREQ_STEP completes (R181, R384). -/
def State.rampBreak (s : State) (g st : Nat) : State :=
  match (s.grp g).ramp with
  | none => s
  | some _ =>
    let s := s.rampEnd g
    s.synEnd opSynFreqStep g st (toBits 64 (s.grp g).gNs) (decide (st = Status.aborted))

/-- The last step of a ramp: the exact value is loaded and shown in NUM and DEN, G recomputed, 0x0117 raised, the command
complete (R167, R169). -/
def State.rampDone (s : State) (g : Nat) (p : Ramp) : State :=
  let s := (s.setGrp g ((s.grp g).atGoal p)).rampEnd g
  let s := if s.get (Reg.SYN_STATE_CFG_PENDING g) = 1 then s else
    (s.put64 (Reg.SYN_NUM_LO_NUM_LO g) (Reg.SYN_NUM_HI_NUM_HI g) p.num1).put (Reg.SYN_DEN_DEN g) p.den1
  let r := s.grp g
  let s := s.raise (evFreqStepDone g) ([i8 p.num1, i2 p.den1] ++ r.gItems)
  s.synEnd opSynFreqStep g Status.ok (toBits 64 r.gNs)

/-- One ramp step at a follower tick; an ABORT that waits ends the ramp instead (R167, R384). -/
def State.rampStep (s : State) (g : Nat) (p : Ramp) : State :=
  if p.abort then s.rampBreak g Status.aborted else
  let p := { p with made := p.made + 1 }
  if p.total ≤ p.made then s.rampDone g p
  else (s.setGrp g { s.grp g with ramp := some p, num := p.num }).put (Reg.SYN_STATE_RAMP_LEFT g) (p.total - p.made)

/-- A follower tick of one group: r_tick takes r_D, a released group begins its ramp back, a frequency ramp steps (R165,
R167, R177). -/
def State.tickGrp (s : State) (g : Nat) : State :=
  if ¬ s.synRuns g then s else
  let r := s.grp g
  let s := s.setGrp g { r with rTick := r.rD, back := if r.back = 1 then 2 else r.back }
  let s := match r.ramp with
    | some p => s.rampStep g p
    | none => s
  s.checkPulses g

/-- FOLLOWER_TICK: the crossing edge of an instant at which LINEAR_NS is a multiple of 1,000,000 (R165). -/
def execFollowerTick (s : State) : Host.Outcome State Fault Refusal :=
  .next (
    if ¬ s.atCrossing 1000000 .tickEdge then s else
    let s := s.doneAt .tickEdge
    (List.range 4).foldl (fun s g => s.tickGrp g) s)

/-! ## Lock (R173 to R179) -/

/-- What the lock windows of a group go by: its registers, or what they held before a change in the window in hand (R173, R182). -/
def State.lockRegs (s : State) (g : Nat) : LockCfg :=
  ⟨s.get (Reg.SYN_LOCK_LOCK_TOL g), s.get (Reg.SYN_LOCK_UNLOCK_TOL g), s.get (Reg.SYN_LOCK_K g), s.get (Reg.SYN_HOLD_RELOCK_DELAY g),
    s.get (Reg.SYN_HOLD_HOLD_DEV g)⟩
@[inherit_doc State.lockRegs] def State.lockCfg (s : State) (g : Nat) : LockCfg := (s.grp g).win.getD (s.lockRegs g)

/-- Loss of lock of a LOCKED group, with its cause: 1 slip, 2 counter, 3 fence (R175 to R179, R181). -/
def State.loseLock (s : State) (g cause : Nat) : State :=
  let s := s.rampBreak g Status.interrupted
  let s := s.setGrp g { s.grp g with lossAt := s.runNs, attempts := 0, windows := 0, released := false, back := 0, devOver := false }
  let s := (s.put (Reg.SYN_STATE_TH_ENGAGED g) 1).put (Reg.SYN_STATE_CAUSE g) cause
  let s := (s.put64 (Reg.SYN_LAST_LOSS_LO_AT_LO g) (Reg.SYN_LAST_LOSS_HI_AT_HI g) s.linear).bump (Reg.SYN_LOSSES_COUNT g)
  let s := s.raise (evSyn g 0 .error) [i1 cause, i8 s.linear]
  let s := s.arm (.relock g) (1000000 * (s.lockCfg g).delay)
  let s := if g = 2 then s.setVar .lapBadC 1 else if g = 3 then s.stopTimer .synHold else s
  s.synTo g 4

/-- A RELOCKING group that loses lock or is fenced: HELD again, the attempt counted (R175). -/
def State.relockFail (s : State) (g : Nat) : State :=
  let r := s.grp g
  let s := s.setGrp g { r with attempts := r.attempts + 1, windows := 0, released := false, back := 0 }
  let s := (s.put (Reg.SYN_STATE_TH_ENGAGED g) 1).bump (Reg.SYN_RELOCK_FAILS_COUNT g)
  let s := s.raise (evSyn g 1 .warning) [i4 (r.attempts + 1)]
  (s.arm (.relock g) 1000000000).synTo g 4

/-- A group locks: LOCKED from ACQUIRE completes SYN_START, from RELOCKING raises 0x0116 (R175); SYN_D's hold has 1 ms to
run (R178), and with SYN_C the pairs of the Relay Link may train (R333). One that was fenced before it locked is HELD at once (R175; DESIGN CHOICE, log entry 157). -/
def State.synLock (s : State) (g : Nat) : State :=
  let r := s.grp g
  let was := s.get (Reg.SYN_STATE_STATE g)
  let s := s.stopTimer (.acquire g)
  let s := if g = 3 then s.arm .synHold 1000000 else s
  let s := s.synTo g 3
  let s := if was = 2 then s.synEnd opSynStart g Status.ok 0
  else s.raise (evRelocked g) (r.gItems ++ [i4 ((s.runNs - r.lossAt) / 1000)])
  if s.unitFenced (0x1000 + g) then s.loseLock g 3 else if g = 2 then (s.startPair 0).startPair 1 else s

/-- The held frequency found in a window: SYN_HELD_FOFF, and HOLD_DEV when it first exceeds its limit (R176). -/
def State.heldFreq (s : State) (g : Nat) (foff : Int) : State :=
  let s := s.putI (Reg.SYN_HELD_FOFF_FOFF g) (satI 32 foff)
  let wide := decide ((s.lockCfg g).dev * 2 ^ 40 < foff.natAbs * 1000000)
  let was := (s.grp g).devOver
  let s := s.setGrp g { s.grp g with devOver := wide }
  if wide ∧ ¬ was then s.raise (evSyn g 2 .warning) [i4 (toBits 32 (satI 32 foff))] else s

/-- LOCK_WINDOW: a counting window of group g ends with a difference of `diff` cycles, a measured VCO frequency in kHz, and
the VCO's offset from its target in units of 2^-40 (R173 to R177). A re-lock is judged from the end of its ramp (R177); the next window goes by
the registers (R182). -/
def execLockWindow (g diff vcoKHz : Nat) (foff : Int) (s : State) : Host.Outcome State Fault Refusal :=
  .next (
    if 3 < g then s else
    let st := s.synSt g
    if st < 2 ∨ 5 < st then s else
    let s := s.put (Reg.SYN_VCO_KHZ_FREQ g) (min vcoKHz (2 ^ 23 - 1))
    let c := s.lockCfg g
    let good := decide (diff ≤ c.tol)
    let bad := decide (c.unl < diff)
    let r := s.grp g
    let n := if good then r.windows + 1 else 0
    let s := s.setGrp g { r with windows := n }
    let locks := decide (c.k ≤ n)
    let s := if st = 2 then (if locks then s.synLock g else s)
      else if st = 3 then (if bad then s.loseLock g 2 else s)
      else if st = 4 then s.heldFreq g foff
      else if ¬ r.released then (s.setGrp g { r with windows := 0 }).heldFreq g foff
      else if r.back ≠ 0 then s.setGrp g { r with windows := 0 }
      else if bad then s.relockFail g
      else if locks then s.synLock g else s
    s.setGrp g { s.grp g with win := none })

/-- CYCLE_SLIP: the phase-frequency detector of a group finds an error of more than half a period (R174). -/
def execCycleSlip (g : Nat) (s : State) : Host.Outcome State Fault Refusal :=
  .next (
    if 3 < g then s
    else if s.synSt g = 3 then s.loseLock g 1
    else if s.synSt g = 5 ∧ (s.grp g).released then s.relockFail g
    else s)

/-- A start that fails: BAND_FAIL with the VCO frequency asked for, IDLE, SYN_START completes with LOCK_FAIL (R175). -/
def State.startFail (s : State) (g : Nat) : State :=
  let r := s.grp g
  let s := s.raise (evSyn g 3 .error) [i4 (r.n * r.num / (1000 * max 1 r.den))]
  let s := (s.stopTimer (.acquire g)).synTo g 0
  s.synEnd opSynStart g Status.lockFail 0

/-- BAND_CAL_DONE: band calibration of a group ends, with the band found and its frequencies in MHz, or with none (R175). -/
def execBandCalDone (g : Nat) (found : Bool) (band lo hi : Nat) (s : State) : Host.Outcome State Fault Refusal :=
  .next (
    if 3 < g ∨ s.synSt g ≠ 1 then s
    else if found then
      let s := ((s.put (Reg.SYN_BAND_BAND g) band).put (Reg.SYN_BAND_LO g) lo).put (Reg.SYN_BAND_HI g) hi
      let s := s.setGrp g { s.grp g with windows := 0 }
      (s.arm (.acquire g) 20000000).synTo g 2
    else s.startFail g)

/-- ACQUIRE_TIMEOUT: 20 ms in ACQUIRE without lock; the first time band calibration is repeated, the second time the start
fails (R175). -/
def execAcquireTimeout (g : Nat) (s : State) : Host.Outcome State Fault Refusal :=
  .next (
    if 3 < g ∨ s.synSt g ≠ 2 ∨ ¬ s.due (.acquire g) then s else
    let r := s.grp g
    let s := (s.bump (Reg.SYN_RELOCK_FAILS_COUNT g)).stopTimer (.acquire g)
    if r.tries = 0 then (s.setGrp g { r with tries := 1, windows := 0 }).synTo g 1 else s.startFail g)

/-- A re-lock attempt begun: a HELD group that is not fenced goes RELOCKING and measures its VCO (R175, R177). -/
def State.relock (s : State) (g : Nat) : State :=
  if s.synSt g = 4 ∧ ¬ s.unitFenced (0x1000 + g) ∧ s.due (.relock g) then
    ((s.setGrp g { s.grp g with windows := 0, released := false, back := 0 }).stopTimer (.relock g)).synTo g 5
  else s

/-- RELOCK_DELAY_EXPIRY: RELOCK_DELAY has passed since the loss (R175). -/
def execRelockDelayExpiry (g : Nat) (s : State) : Host.Outcome State Fault Refusal :=
  .next (if g ≤ 3 ∧ (s.grp g).attempts = 0 then s.relock g else s)

/-- RELOCK_RETRY: 1 s has passed since the last failed attempt (R175). -/
def execRelockRetry (g : Nat) (s : State) : Host.Outcome State Fault Refusal :=
  .next (if g ≤ 3 ∧ (s.grp g).attempts ≠ 0 then s.relock g else s)

/-- RELOCK_RELEASE: the VCO measurement of a RELOCKING group is complete: the DDS is matched to it, φ becomes that of the
feedback divider and G the measured offset (unit 2^-52 ns) and r_D the measured rate (unit 2^-48), and the track-and-hold is released (R177). -/
def execRelockRelease (g : Nat) (offset rate : Int) (s : State) : Host.Outcome State Fault Refusal :=
  .next (
    if 3 < g ∨ s.synSt g ≠ 5 ∨ (s.grp g).released then s else
    let s := s.setGrp g { s.grp g with
      g := clampG offset, phi := ((s.tc.time : Int) - clampG offset) * (s.grp g).num, rD := rate, rTick := rate, released := true, back := 1,
      windows := 0 }
    (s.put (Reg.SYN_STATE_TH_ENGAGED g) 0).checkPulses g)

/-- SYN_HOLD_END: 1 ms after SYN_D locked, the flag and the widening of the port stamps end (R178). -/
def execSynHoldEnd (s : State) : Host.Outcome State Fault Refusal :=
  .next (if s.due .synHold ∧ s.synSt 3 = 3 then s.stopTimer .synHold else s)

/-! ## Units (R175, R180) -/

/-- A group's unit fenced: HELD, with cause 3, or out of a re-lock attempt (R175, R181); a SYN_START it had accepted ends with FENCED
(R45). -/
def State.synFence (s : State) (g : Nat) : State :=
  let st := s.get (Reg.SYN_STATE_STATE g)
  let s := s.synEnd opSynStart g Status.fenced 0
  if st = 3 then s.loseLock g 3 else if st = 5 then s.relockFail g else s

/-- A group back from UNIT_RESET, or from ABSENT with its domain powered and its reset done: SYN_A and SYN_B are IDLE, SYN_C and SYN_D start
at once (R164, R175). -/
def State.synRestart (s : State) (g old : Nat) : State :=
  let s := ((s.rampBreak g Status.interrupted).stopTimer (.acquire g)).stopTimer (.relock g)
  if g < 2 then (s.put (Reg.SYN_STATE_TH_ENGAGED g) 0).synFrom g old 0 else s.synBegin g old

/-- A group's domain loses power: ABSENT (R175). -/
def State.synAbsent (s : State) (g : Nat) : State :=
  let s := ((s.rampBreak g Status.interrupted).stopTimer (.acquire g)).stopTimer (.relock g)
  let s := s.synEnd opSynStart g Status.lockFail 0
  let s := if g = 2 then s.setVar .lapBadC 1 else if g = 3 then s.stopTimer .synHold else s
  s.synTo g 7

/-- Whether R180 keeps a group from being disabled, reset or stopped: SYN_D while ports are powered, SYN_C while the Relay
Link is enabled. -/
def State.synPinned (s : State) (g : Nat) : Bool :=
  (g = 3 ∧ (s.powered 9 ∨ s.powered 10)) ∨ (g = 2 ∧ s.get Reg.TWN_CTRL_TWIN_EN = 1)

/-! ## Commands (R182) -/

/-- What follows a write to a group's words, `t` being the state before: CFG_PENDING for +0x00 to +0x0C while the group is not IDLE; the window
in hand goes on by the values of before (R182). -/
def State.afterSyn (s t : State) (a : Nat) : State :=
  let g := (a - 0x130100) / 0x100
  let off := (a - 0x130100) % 0x100
  if a < 0x130100 ∨ 0x130500 ≤ a ∨ s.synSt g = 0 then s
  else if off < 0x10 then s.put (Reg.SYN_STATE_CFG_PENDING g) 1
  else if (off = 0x10 ∨ off = 0x14) ∧ 2 ≤ s.synSt g then s.setGrp g { s.grp g with win := some (t.lockCfg g) }
  else s

/-- Whether a write at an address that would leave a state keeps to R161 and R166 where R182 has it checked at once: +0x00 to +0x0C of a group that is
not IDLE. -/
def State.synTakes (s t : State) (a : Nat) : Bool :=
  let g := (a - 0x130100) / 0x100
  decide (a < 0x130100 ∨ 0x130500 ≤ a ∨ 0x10 ≤ (a - 0x130100) % 0x100 ∨ s.synSt g = 0) || t.synCfgOk g

/-- SYN_SET's effect: every value is judged against R161, and one held for the next start at once against R166 too (R161, R182). -/
def synSetEff (g off value : Nat) (role : Nat) (s : State) : Res :=
  if 3 < g ∨ 0x14 < off then ⟨s, some Status.range, 0⟩
  else if 2 ≤ g ∧ off < 0x10 ∧ (0 < off ∨ value / 256 % 256 ≠ 40 ∨ bit value 3 ≠ bit (s.get (Reg.SYN_CFG_EXT_LF g)) 0) then
    ⟨s, some Status.notPermitted, 0⟩
  else
    let a := 0x130100 + 0x100 * g + off
    let r := s.setWord role 0x0601 (0x130100 + 0x100 * g) (0x130118 + 0x100 * g) a value
    if r.st ≠ some Status.ok then r
    else if off < 0x10 ∧ ¬ (r.s.synFreqOk g ∧ s.synTakes r.s a) then ⟨s, some Status.range, 0⟩
    else ⟨r.s.afterSyn s a, r.st, 0⟩

/-- SYN_SET (R182). -/
def execSynSet (c : Ctx) (g off value : Nat) (s : State) : Host.Outcome State Fault Refusal :=
  .next (s.runCmd c opSynSet [g, off, value] (synSetEff g off value))

/-- SYN_START's effect: it runs until the group is LOCKED or fails (R175, R182). -/
def synStartEff (c : Ctx) (g : Nat) (role : Nat) (s : State) : Res :=
  if 3 < g then ⟨s, some Status.range, 0⟩
  else if s.synSt g ≠ 0 then ⟨s, some Status.busy, 0⟩
  else if ¬ s.synCfgOk g then ⟨s, some Status.range, 0⟩
  else
    let s := (s.hold c opSynStart role [g]).change role (0x1000 + g) 0x0602 noOffset 0 0
    ⟨s.synStart g, none, 0⟩

/-- SYN_START (R182). -/
def execSynStart (c : Ctx) (g : Nat) (s : State) : Host.Outcome State Fault Refusal :=
  .next (s.runCmd c opSynStart [g] (synStartEff c g))

/-- A group stopped: IDLE, its outputs squelched, a ramp ended, a start that runs broken off (R175, R181, R384). -/
def State.synStop (s : State) (g : Nat) (startSt : Nat) : State :=
  if s.synSt g = 0 ∨ s.synSt g = 7 then s else
  let s := s.rampBreak g Status.interrupted
  let s := ((s.stopTimer (.acquire g)).stopTimer (.relock g)).put (Reg.SYN_STATE_TH_ENGAGED g) 0
  let s := if g = 2 then s.setVar .lapBadC 1 else if g = 3 then s.stopTimer .synHold else s
  let s := s.synTo g 0
  s.synEnd opSynStart g startSt 0 (decide (startSt = Status.aborted))

/-- SYN_STOP's effect (R180, R182). -/
def synStopEff (g : Nat) (role : Nat) (s : State) : Res :=
  if 3 < g then ⟨s, some Status.range, 0⟩
  else if s.synPinned g then ⟨s, some Status.busy, 0⟩
  else ⟨(s.synStop g Status.interrupted).change role (0x1000 + g) 0x0603 noOffset 0 0, some Status.ok, 0⟩

/-- SYN_STOP (R182). -/
def execSynStop (c : Ctx) (g : Nat) (s : State) : Host.Outcome State Fault Refusal :=
  .next (s.runCmd c opSynStop [g] (synStopEff g))

/-- Whether a group drives a pulse output that waits or runs (R192). -/
def State.drivesPulse (s : State) (g : Nat) : Bool :=
  (List.range 8).any fun n => s.outGrp (16 + n) = g ∧ 1 ≤ s.outSt (16 + n) ∧ s.outSt (16 + n) ≤ 4

/-- Whether a new f_ref keeps to R168: within 1,000 ppm of the old, its VCO frequency within the band. -/
def State.stepFits (s : State) (g num den : Nat) : Bool :=
  let r := s.grp g
  let d : Int := (num * r.den : Nat) - (r.num * den : Nat)
  decide (d.natAbs * 1000 ≤ r.num * den
    ∧ s.get (Reg.SYN_BAND_LO g) * 1000000 * den ≤ r.n * num ∧ r.n * num ≤ s.get (Reg.SYN_BAND_HI g) * 1000000 * den)

/-- SYN_FREQ_STEP's effect: a ramp of at most 10 ppm of the starting f_ref per follower tick (R167, R168, R192). -/
def synFreqStepEff (c : Ctx) (g num den : Nat) (role : Nat) (s : State) : Res :=
  if 3 < g ∨ num = 0 ∨ 2 ^ 48 ≤ num ∨ den = 0 ∨ 65536 ≤ den then ⟨s, some Status.range, 0⟩
  else if 2 ≤ g then ⟨s, some Status.notPermitted, 0⟩
  else if s.synSt g ≠ 3 ∨ (s.grp g).ramp.isSome then ⟨s, some Status.busy, 0⟩
  else if ¬ s.stepFits g num den then ⟨s, some Status.range, 0⟩
  else if s.drivesPulse g then ⟨s, some Status.busy, 0⟩
  else
    let r := s.grp g
    let d : Int := (num * r.den : Nat) - (r.num * den : Nat)
    let total := max 1 (ceilDiv (d.natAbs * 100000) (max 1 (r.num * den)))
    let p : Ramp := ⟨0, total, decide (0 < d), r.num, r.den, num, den, false⟩
    let s := (s.hold c opSynFreqStep role [g, num, den]).change role (0x1000 + g) 0x0604 noOffset 0 0
    let s := s.setGrp g { r with ramp := some p, num := p.num, den := r.den * 100000, phi := r.phi * 100000 }
    ⟨(s.put (Reg.SYN_STATE_RAMPING g) 1).put (Reg.SYN_STATE_RAMP_LEFT g) total, none, 0⟩

/-- SYN_FREQ_STEP (R182). -/
def execSynFreqStep (c : Ctx) (g num den : Nat) (s : State) : Host.Outcome State Fault Refusal :=
  .next (s.runCmd c opSynFreqStep [g, num, den] (synFreqStepEff c g num den))

end Sys2Proof.Machine
end

