-- ==== Sys2Proof/Machine/Outputs.lean ====
section
/-! DEFINITION. The clock, pulse and time-of-day outputs (R184 to R204): the walk, the pulse series, alignment, time-of-day
messages, and their commands. -/

namespace Sys2Proof.Machine

/-! ## The walk of clock outputs (R172, R196) -/

/-- Whether an output may move in phase: RUN, its group LOCKED and not ramping (R169, R172, R197). -/
def State.mayWalk (s : State) (i : Nat) : Bool :=
  s.outSt i = 3 ∧ s.synSt (s.outGrp i) = 3 ∧ (s.grp (s.outGrp i)).ramp.isNone

/-- The interval of a walk at a rate, in VCO cycles; rate 0 is SLEW_LIMIT (R172, R196). -/
def State.walkCycles (s : State) (rate : Nat) : Nat := ceilDiv (2 ^ 42) (max 1 (if rate = 0 then s.slewLimit else rate))

/-- The interval between an output's steps, in VCO cycles: at most one step per period of a clock output and per 16 VCO cycles (R170), which JUMP
makes; a walk makes them no more often than its rate. A pulse output walks at the cadence of a clock output (R196). -/
def State.stepCycles (s : State) (i : Nat) : Nat :=
  let floor := if i < 16 then max 16 (s.get (Reg.CLK_CFG_DIV i)) else 16
  match (s.outp i).align with
  | some a => if a.jump then floor else max floor (s.walkCycles a.rate)
  | none => max floor (s.walkCycles 0)

/-- Whether a clock output walks, on its own or in an alignment by WALK (R172, R196). -/
def State.walking (s : State) (i : Nat) : Bool :=
  s.mayWalk i && s.offPhase i && ! (((s.outp i).align.map (·.jump)).getD false)

/-- Whether an output's step interval has passed since its last step. -/
def State.walkDue (s : State) (i : Nat) : Bool :=
  let r := s.grp (s.outGrp i)
  decide (s.stepCycles i * 64 * r.stepN ≤ (s.tc.run - (s.outp i).walkAt) * r.stepD)

/-- A pulse output's alignment by WALK complete: A exact, WIDTH and OFFSET in use, the next edge counted anew (R193,
R196). -/
def State.pulseAligned (s : State) (n : Nat) (al : Align) : State :=
  let i := 16 + n
  let s := s.loadAlign n al
  let r := s.outp i
  let t := max (s.tc.time : Int) (r.last + (r.width + 8 : Nat) * nsUnit)
  s.setOut i { r with a := s.pathErr i, next := edgeFrom (s.pulsePer n) r.ofs t }

/-- An alignment by WALK, or of a clock, ended once |E_n| is at most half a step (R196). -/
def State.endWalk (s : State) (i : Nat) : State :=
  match (s.outp i).align with
  | some a => if s.offPhase i ∨ (16 ≤ i ∧ a.jump) then s else
      (if i < 16 then s else s.pulseAligned (i - 16) a).alignDone i a.e0 a.jump
  | none => s

/-- One interpolator step of an output towards a smaller |E_n| (R170, R172, R196). -/
def State.walkStep (s : State) (i : Nat) : State :=
  let late := decide (0 < (s.outErr i).n)
  let r := s.grp (s.outGrp i)
  let s := if i < 16 then s.putI (Reg.CLK_PH_PH i) (s.getI (Reg.CLK_PH_PH i) + (if late then 1 else -1))
    else
      let st := roundDiv r.stepN (max 1 r.stepD)
      s.setOut i { s.outp i with a := (s.outp i).a + (if late then st else -st) }
  let s := s.setOut i { s.outp i with walkAt := s.tc.run }
  (s.pmcEvent 1 0x10).endWalk i

/-- CLOCK_WALK_STEP: the interval of a walk passes and an output moves one step: a clock on its own or in an alignment, a
pulse in an alignment by WALK alone (R172, R196). -/
def execClockWalkStep (i : Nat) (s : State) : Host.Outcome State Fault Refusal :=
  .next (
    let walks := decide (i < 16) || match (s.outp i).align with
      | some a => ! a.jump
      | none => false
    if 23 < i ∨ ¬ walks ∨ ¬ s.mayWalk i ∨ ¬ s.walkDue i then s
    else if s.offPhase i then s.walkStep i
    else s.endWalk i)

/-! ## The pulse series (R189 to R194) -/

/-- PULSE_EDGE: the pulse in hand ends, or the next edge of a running pulse output is reached (R189, R190, R194, R196). -/
def execPulseEdge (n : Nat) (s : State) : Host.Outcome State Fault Refusal :=
  .next (if 7 < n then s else s.pulseEdge n)

/-! ## Alignment (R195, R196) -/

/-- Why OUT_ALIGN refuses an output, if it does (R195). -/
def State.alignRefusal (s : State) (i : Nat) : Option Nat :=
  let st := s.outSt i
  if st = 5 then some Status.fenced
  else if st ≤ 1 then some Status.notFit
  else if s.synSt (s.outGrp i) ≠ 3 then some Status.busy
  else none

/-- An output's alignment accepted: one in WAIT_ALIGN starts aligned (R187), one that runs begins to move (R196). -/
def State.alignOut (s : State) (jump : Bool) (rate : Nat) (i : Nat) : State :=
  let e0 := (s.outErr i).to16
  if s.outSt i = 2 then ((((s.startOut i).put (outFlF i) 0).outTo i 3).alignDone i e0 jump)
  else
    let ofs := if i < 16 then 0 else s.ofsSet (i - 16)
    let width := if i < 16 then 0 else s.get (Reg.PULSE_WIDTH_WIDTH (i - 16))
    let edge := if i < 16 then 0 else edgeFrom (s.pulsePer (i - 16)) ofs (s.tc.time + 600000000 * nsUnit)
    let s := s.setOut i { s.outp i with align := some ⟨jump, rate, e0, edge, width, ofs⟩ }
    let s := if i < 16 then s else s.put (Reg.PULSE_STATE_ALIGNING (i - 16)) 1
    s.endWalk i

def opOutSet : OpInfo := { op := 0x0701, role := 2, carried := true }
def opOutAlign : OpInfo := { op := 0x0702, role := 1, carried := true }

/-- Whether a RATE of OUT_ALIGN is in range: 0, or within SLEW_LIMIT's range (R196). -/
def alignRateOk (rate : Nat) : Bool := rate = 0 ∨ (28147 ≤ rate ∧ rate ≤ 28147497671)

/-- OUT_ALIGN's effect: all or nothing (R195, R201). An empty mask names no output: RANGE. -/
def outAlignEff (mask method rate : Nat) (role : Nat) (s : State) : Res :=
  if mask = 0 ∨ 2 ^ 24 ≤ mask ∨ 1 < method ∨ ¬ alignRateOk rate then ⟨s, some Status.range, 0⟩ else
  let named := allOuts.filter fun i => bit mask i
  match named.find? fun i => (s.alignRefusal i).isSome with
  | some i => ⟨s, s.alignRefusal i, outHid i⟩
  | none =>
    let s := named.foldl (fun s i => s.alignOut (decide (method = 0)) rate i) s
    ⟨s.change role (outHid (named.headD 0)) 0x0702 noOffset 0 mask, some Status.ok, 0⟩

/-- OUT_ALIGN (R201). -/
def execOutAlign (c : Ctx) (mask method rate : Nat) (s : State) : Host.Outcome State Fault Refusal :=
  .next (s.runCmd c opOutAlign [mask, method, rate] (outAlignEff mask method rate))

/-! ## OUT_SET (R193, R198, R201, R204) -/

/-- Whether a clock output's CLK_CFG word keeps to R184 and R185: its standard, its divider, its frequency. -/
def State.clkCfgOk (s : State) (v : Nat) : Bool :=
  let std := v / 4 % 4
  let div := v / 256
  let r := if s.synRuns (v % 4) then s.grp (v % 4) else
    { num := s.synNum (v % 4), den := s.get (Reg.SYN_DEN_DEN (v % 4)), n := s.get (Reg.SYN_CFG_N (v % 4)) }
  decide (std ≠ 3 ∧ 4 ≤ div ∧ r.n * r.num ≤ (if std = 2 then 250000000 else 1600000000) * r.den * div)

/-- Whether a pulse series and a WIDTH keep to R189. -/
def seriesOk (mode pnum pden width : Nat) : Bool :=
  let p := modePeriod mode pnum pden
  decide (mode ≤ 9 ∧ (mode = 9 → pden ≤ 1000000 * pnum ∧ pnum ≤ 1000 * pden)
    ∧ 8 ≤ width ∧ (width + 8) * nsUnit * p.2 ≤ p.1)

/-- Whether a value keeps a pulse output's OFFSET within ±1 s: its LO word with the HI word that is applied with it, or its HI word (R201, R471). -/
def State.offsetOk (s : State) (a v : Nat) : Bool :=
  let n := (a - 0x140400) / 0x40
  if (a - 0x140400) % 0x40 = 0x14 then decide (-15259 ≤ ofBits 32 v ∧ ofBits 32 v ≤ 15258)
  else decide ((ofBits 64 (((s.stagedHi 0 (a + 4)).getD (s.get (Reg.PULSE_OFFSET_HI_OFS_HI n))) * 2 ^ 32 + v)).natAbs ≤ 65536000000000)

/-- Why OUT_SET refuses a value for a word of an output unit, if it does: RANGE (R185, R189, R198, R201) or BUSY (R193, R198,
R204). A register write (`cmd` false) of a WIDTH or an OFFSET out of its range is not refused (R203). -/
def State.outRefusal (s : State) (cmd : Bool) (a v : Nat) : Option Nat :=
  if 0x140100 ≤ a ∧ a < 0x140300 ∧ (a - 0x140100) % 0x20 = 0 then
    let n := (a - 0x140100) / 0x20
    if ¬ s.clkCfgOk v then some Status.range
    else if s.outSt n ≠ 0 ∧ (v % 4 ≠ s.get (Reg.CLK_CFG_GROUP n) ∨ v / 4 % 4 ≠ s.get (Reg.CLK_CFG_STD n)) then some Status.busy
    else none
  else if 0x140400 ≤ a ∧ a < 0x140600 then
    let n := (a - 0x140400) / 0x40
    let off := (a - 0x140400) % 0x40
    let mode := s.get (Reg.PULSE_CFG_MODE n)
    let pnum := s.get (Reg.PULSE_PNUM_PNUM n)
    let pden := s.get (Reg.PULSE_PDEN_PDEN n)
    let width := s.get (Reg.PULSE_WIDTH_WIDTH n)
    let off0 := decide (s.outSt (16 + n) = 0)
    if off = 0 then
      let m := v / 16 % 16
      if ¬ seriesOk m pnum pden width then some Status.range
      else if v % 256 ≠ s.get (Reg.PULSE_CFG_GROUP n) + 4 * s.get (Reg.PULSE_CFG_STD n) + 8 * s.get (Reg.PULSE_CFG_POLARITY n) + 16 * mode
          ∧ ¬ off0 then some Status.busy
      else if m ≠ mode ∧ ((List.range 2).any fun k => s.get (Reg.TOD_CFG_PULSE k) = n ∧ s.unitOn (0x1300 + k)) then some Status.busy
      else none
    else if off = 4 then (if ¬ cmd ∨ seriesOk mode pnum pden v then none else some Status.range)
    else if off = 8 then
      if mode = 9 ∧ ¬ seriesOk mode v pden width then some Status.range else if v ≠ pnum ∧ ¬ off0 then some Status.busy else none
    else if off = 0x0C then
      if mode = 9 ∧ ¬ seriesOk mode pnum v width then some Status.range else if v ≠ pden ∧ ¬ off0 then some Status.busy else none
    else if off = 0x10 ∨ off = 0x14 then (if ¬ cmd ∨ s.offsetOk a v then none else some Status.range)
    else none
  else if a = 0x140800 ∨ a = 0x140820 then
    if 1 < s.get (Reg.PULSE_CFG_MODE (v % 8)) then some Status.range
    else if (s.unit (0x1300 + (a - 0x140800) / 0x20)).st ≠ .disabled then some Status.busy
    else none
  else none

/-- What follows a write to a pulse output's WIDTH or OFFSET: PENDING while it runs (R193). -/
def State.afterOut (s : State) (a : Nat) : State :=
  let n := (a - 0x140400) / 0x40
  let off := (a - 0x140400) % 0x40
  if 0x140400 ≤ a ∧ a < 0x140600 ∧ (off = 4 ∨ off = 0x10) ∧ (s.outSt (16 + n) = 3 ∨ s.outSt (16 + n) = 4)
  then s.put (Reg.PULSE_STATE_PENDING n) 1 else s

/-- First and past the last address of an output unit's words. -/
def outBlock (hid : Nat) : Option (Nat × Nat) :=
  if 0x1100 ≤ hid ∧ hid < 0x1110 then some (0x140100 + 0x20 * (hid - 0x1100), 0x140114 + 0x20 * (hid - 0x1100))
  else if 0x1200 ≤ hid ∧ hid < 0x1208 then some (0x140400 + 0x40 * (hid - 0x1200), 0x140438 + 0x40 * (hid - 0x1200))
  else if 0x1300 ≤ hid ∧ hid < 0x1302 then some (0x140800 + 0x20 * (hid - 0x1300), 0x14080C + 0x20 * (hid - 0x1300))
  else none

/-- OUT_SET's effect (R201). -/
def outSetEff (hid off value : Nat) (role : Nat) (s : State) : Res :=
  match outBlock hid with
  | none => ⟨s, some Status.range, 0⟩
  | some (lo, hi) =>
    match s.outRefusal true (lo + off) value with
    | some st => ⟨s, some st, 0⟩
    | none =>
      let r := s.setWord role 0x0701 lo hi (lo + off) value
      if r.st = some Status.ok then ⟨r.s.afterOut (lo + off), r.st, 0⟩ else r

/-- OUT_SET (R201). -/
def execOutSet (c : Ctx) (hid off value : Nat) (s : State) : Host.Outcome State Fault Refusal :=
  .next (s.runCmd c opOutSet [hid, off, value] (outSetEff hid off value))

/-! ## Time-of-day messages (R198 to R200) -/

/-- The bounds of R135 in tenths of a ps, from code 0x17 up. -/
def accuracyBounds : List Nat :=
  [10, 25, 100, 250, 1000, 2500, 10000, 25000, 100000, 250000, 1000000, 2500000, 10000000, 25000000, 100000000, 250000000,
   1000000000, 2500000000, 10000000000, 25000000000, 100000000000, 250000000000]

/-- The smallest code of a list of bounds that a bound in units of 2^-8 ns does not exceed. -/
def accuracyFrom : List Nat → Nat → Nat → Nat
  | [], _, _ => 0xFE
  | b :: bs, c, x => if x * 10000 ≤ b * 256 then c else accuracyFrom bs (c + 1) x

/-- clockAccuracy for a bound in units of 2^-8 ns; a sum at which it saturates is 0xFE (R131, R135). -/
def clockAccuracy (x : Nat) : Nat := if 2 ^ 32 ≤ x then 0xFE else accuracyFrom accuracyBounds 0x17 x

/-- The bound for the end of the lap that holds an instant of LINEAR_NS, as a sum: evaluated ahead where it grows with time, else the one in
force (R128, R130, R200). -/
def State.tebAhead (s : State) (lin : Nat) : Nat :=
  let lapEnd := (lin / lapNs + 1) * lapNs % 2 ^ 64
  if s.boundAnchored then s.anchoredAt lapEnd
  else match s.cur with
    | some n => if s.laneType n = 0 then s.freqAt n lapEnd else s.tebSum
    | none => s.anchoredAt lapEnd

/-- PULSE_BOUND before it saturates: TEB + |E_n + QERR| + PULSE_U, rounded up (R200). -/
def State.pulseBound (s : State) (n teb : Nat) (e q : Frac) : Nat :=
  let num := (e.n * q.d + q.n * e.d).natAbs
  teb + s.get (Reg.PULSE_U_U n) + ceilDiv num (max 1 (e.d * q.d * 2 ^ 44))

/-- The 64-byte message of TOD unit k for ideal edge `idx` of its pulse (R199). -/
def State.todMessage (s : State) (k n : Nat) (idx : Int) : List Byte :=
  let i := 16 + n
  let p := s.pulsePer n
  let running := decide (s.outSt i = 3 ∨ s.outSt i = 4)
  let ns := (edgeAt p (s.ofsUsed n) idx / (max 1 p.2 * nsUnit : Nat)).toNat
  let lin := ns % 2 ^ 64
  let pend := decide (s.get Reg.TCO_STATUS_LEAP_PENDING = 1)
  let after := decide (pend ∧ 0 ≤ linDiff lin s.leapAt)
  let inEdge := decide (pend ∧ s.leapSign = 1 ∧ linDiff lin s.leapAt = -1000000000)
  let g := s.synSt (s.outGrp i)
  let e := if running then s.outErr i else ⟨0, 1⟩
  let kk := idx - (s.idealOf n 0)
  let q := if running then s.qerr n kk else ⟨0, 1⟩
  let teb := s.tebAhead lin
  let bound := s.pulseBound n teb e q
  let body :=
    ([0xE2, 0x5C, 0x01, 0x40] : List Byte) ++ beBytes 1 (s.var (.todSeq k)).toNat ++ beBytes 1 (n + 16 * k)
    ++ beBytes 6 (ns / secNs) ++ beBytes 4 (ns % secNs)
    ++ beBytes 2 (if after then s.get Reg.UTC_OFFSET_NEXT else s.get Reg.UTC_OFFSET_CURRENT)
    ++ beBytes 1 (b2n pend + 2 * s.get Reg.TCO_STATUS_LEAP_SIGN + 4 * s.get Reg.TCO_STATUS_LEAP_COMMITTED + 8 * b2n inEdge)
    ++ beBytes 1 (s.get Reg.HOB_STATUS_STATE + 8 * s.get Reg.HOB_STATUS_TEB_SAT + 16 * s.get Reg.TIM_STATUS_WARMING
        + 32 * b2n (decide (g = 4 ∨ g = 5)) + 64 * s.get (Reg.PULSE_STATE_STEPPED n) + 128 * b2n (! running))
    ++ beBytes 4 (tebSat teb) ++ beBytes 4 (s.get Reg.HOB_TRACE_TRACE) ++ beBytes 4 (tebSat bound)
    ++ beBytes 4 (toBits 32 q.near16) ++ beBytes 8 (toBits 64 e.to16)
    ++ beBytes 1 (s.get Reg.HOB_STATUS_CC_DEFAULT) ++ beBytes 1 (clockAccuracy bound)
    ++ beBytes 1 (match s.cur with
        | some l => l
        | none => 0xFF)
    ++ beBytes 1 (match s.cur with
        | some l => s.laneType l
        | none => 0xFF)
    ++ beBytes 8 lin ++ List.replicate 6 (0 : Byte)
  body ++ beBytes 2 (crc16 body 0xFFFF)

/-- The latest ideal edge of TOD unit k's pulse whose message is due at this TCLK edge: 500 ms ahead to the nearest edge
(R199). -/
def State.todEdge (s : State) (n : Nat) : Int :=
  let p := s.pulsePer n
  let t : Int := s.tc.time + 500000000 * nsUnit + 25 * 2 ^ 47
  (t - s.ofsUsed n * 2 ^ 36) * p.2 / (max 1 p.1 : Nat)

/-- The instant of an ideal edge of a pulse, unit 2^-16 ns. -/
def State.edge16 (s : State) (n : Nat) (idx : Int) : Int :=
  let p := s.pulsePer n
  edgeAt p (s.ofsUsed n) idx / (max 1 p.2 * 2 ^ 36 : Nat)

/-- The state a TOD unit's message is made from and the number of its ideal edge: where a JUMP in hand moves the edge that is due, what the output
will be by then (R196, R199). -/
def State.todSeries (s : State) (n : Nat) : State × Int :=
  match (s.outp (16 + n)).align with
  | some al =>
    let s1 := s.jumped n al
    if s.outSt (16 + n) = 3 ∧ s.synSt (s.outGrp (16 + n)) = 3 ∧ al.jump ∧ al.edge ≤ s1.todEdge n then (s1, s1.todEdge n) else (s, s.todEdge n)
  | none => (s, s.todEdge n)

/-- A TOD unit enabled: messages begin with the next ideal edge, after a fence with the first at least 600 ms ahead (R204). -/
def State.todEnable (s : State) (k : Nat) : State :=
  let n := s.get (Reg.TOD_CFG_PULSE k)
  let p := s.pulsePer n
  let from600 := edgeFrom p (s.ofsUsed n) (s.tc.time + 600000000 * nsUnit) - 1
  let last := if s.var (.todFrom k) = 1 then max from600 (s.todEdge n) else s.todEdge n
  (s.setVar (.todLast k) (s.edge16 n last)).setVar (.todFrom k) 0

/-- A TOD unit fenced (R204). -/
def State.todFence (s : State) (k : Nat) : State := s.setVar (.todFrom k) 1

/-- The last edge told of by a TOD unit as a Time Core step of some ns leaves it: a backward step takes it back to the ideal edge nearest the
same pulse on the new scale, so that the edges that lie ahead again are told of; a forward one leaves it (R199; DEDUCED, log entry 182). -/
def State.todStep (s : State) (whole : Int) : State :=
  (List.range 2).foldl (fun s k =>
    let n := s.get (Reg.TOD_CFG_PULSE k)
    let p := s.pulsePer n
    let ofs := s.ofsUsed n
    let at_ := (s.var (.todLast k) + whole * 65536 - ofs) * 2 ^ 36 * p.2
    s.setVar (.todLast k) (min (s.var (.todLast k)) (s.edge16 n (roundDiv at_ (max 1 p.1))))) s

/-- TOD_MESSAGE: an ENABLED TOD unit sends the message of an ideal edge of its pulse (R199). -/
def execTodMessage (k : Nat) (s : State) : Host.Outcome State Fault Refusal :=
  .next (
    let n := s.get (Reg.TOD_CFG_PULSE k)
    let (s1, idx) := s.todSeries n
    let at_ := s1.edge16 n idx
    if 1 < k ∨ ¬ s.unitOn (0x1300 + k) ∨ at_ ≤ s.var (.todLast k) then s else
    let msg := s1.todMessage k n idx
    let noEdge := ! decide (s.outSt (16 + n) = 3 ∨ s.outSt (16 + n) = 4)
    let s := { s with out := .tod k msg :: s.out }
    let s := (s.put (Reg.TOD_LAST_SEQ k) (s.var (.todSeq k)).toNat).putB (Reg.TOD_LAST_NO_EDGE k) noEdge
    let s := (s.setVar (.todSeq k) ((s.var (.todSeq k) + 1) % 256)).setVar (.todLast k) at_
    (s.bump (Reg.TOD_SENT_COUNT k)).pmcEvent 1 0x12)

end Sys2Proof.Machine
end

