-- ==== Sys2Proof/Machine/Rings.lean ====
section
/-! DEFINITION. The states of rings (R369 to R373): changing one, its errors, and the entries a host-produced ring holds. -/

namespace Sys2Proof.Machine

/-- A ring's state: 0 DISABLED, 1 ACTIVE, 2 STOPPING, 3 ERROR (R372). -/
def State.ringSt (s : State) (n : Nat) : Nat := s.get (Reg.RING_STATUS_STATE n)

/-- A ring's state changed, with 0x0710; the status block is due (R368, R372, R387). -/
def State.setRing (s : State) (n v : Nat) : State :=
  let old := s.ringSt n
  let s := s.put (Reg.RING_STATUS_STATE n) v
  let s := { s with hif := { s.hif with stDirty := true } }
  if old = v then s else s.raise evRingState [i1 n, i1 old, i1 v]

/-- A ring in ERROR: cause 1 CONFIG, 2 INDEX with the index offered, raise 0x0711; 3 DMA raises 0x0712 with the address and
the PCIe completion status, which the spec does not code: a free value (R372, R387). -/
def State.ringError (s : State) (n cause offered : Nat) : State :=
  let s := (s.setRing n 3).put (Reg.RING_STATUS_CAUSE n) cause
  if cause = 3 then
    let (v, s) := s.takeFree
    s.raiseHif (evHif 1 .error) [i1 n, i4 offered, i1 v]
  else s.raiseHif (evHif 0 .error) [i1 n, i1 cause, i4 offered]

/-- The ACTIVE ring of a type that names a port, while the engine accesses host memory (R359, R362, R370, R371). -/
def State.portRing (s : State) (typ p : Nat) : Option Nat :=
  if ¬ s.hostOpen ∨ s.hif.d3hot then none else (List.range 64).find? fun n => s.ringSt n = 1 ∧ s.get (Reg.RING_CFG_TYPE n) = typ ∧ s.fbit (Reg.RING_CFG_PORTS n) p

/-- Entries a host-produced ring holds for the engine (R369). -/
def State.ringHas (s : State) (n : Nat) : Nat := (s.hostIdx n + 2 ^ 32 - s.engIdx n) % 2 ^ 32

/-- Host address of the entry some places after a ring's ENGINE_IDX. -/
def State.entryAddr (s : State) (n size i : Nat) : Nat := s.ringBase n + size * ((s.engIdx n + i) % s.ringSize n)

/-- ENGINE_IDX of a host-produced ring moved past some entries. -/
def State.consume (s : State) (n : Nat) : Nat → State
  | 0 => s
  | k + 1 => (s.advance n).consume n k

/-- A vector to be signalled with the next status block write (R385). -/
def State.signalVector (s : State) (n : Nat) : State :=
  let v := s.get (Reg.RING_CFG_VECTOR n)
  if v = 0 then s else { s with hif := { s.hif with toSignal := s.hif.toSignal ++ [v] } }

end Sys2Proof.Machine
end

