-- ==== Sys2Proof/Machine/Ports.lean ====
section
/-! DEFINITION. The network ports (R304 to R330): the link, stamps and their flags, what is let in and where it goes, the
receive ring, the transmit FIFOs, timestamp records, flow control, SyncE and ESMC. -/

namespace Sys2Proof.Machine

/-! ## Mode and link (R304, R305) -/

/-- A port's mode (R304). -/
def State.mode (s : State) (p : Nat) : Nat := s.get (Reg.PORT_CFG_MODE p)

/-- Q_port of a mode, unit 2^-8 ns (R304). -/
def qOf (mode : Nat) : Nat := if mode = 0 then 2048 else if mode = 1 then 1639 else 656

/-- P_BASE of a mode, unit 2^-8 ns (R304). -/
def pBaseOf (mode : Nat) : Nat :=
  if mode = 0 then 512 else if mode = 1 then 256 else if mode = 2 then 205 else if mode = 3 then 180 else 154

/-- Whether a mode allows a FEC: none, RS(528,514), RS(544,514) (R304). -/
def fecAllowed (mode fec : Nat) : Bool :=
  if mode = 3 then fec = 2 else if mode = 2 ∨ mode = 4 then fec ≤ 1 else fec = 0

/-- Whether a link is UP (R305). -/
def State.portUp (s : State) (p : Nat) : Bool := s.get (Reg.PORT_STATUS_LINK p) = 3

/-- Whether a port may serve: its link is UP and its time bus state TRACKING or UNSURE (R76, R236, R260). -/
def State.portServes (s : State) (p : Nat) : Bool := s.portUp p ∧ (s.tbState p = 1 ∨ s.tbState p = 2)

/-- A link state set. -/
def State.setLink (s : State) (p v : Nat) : State := s.put (Reg.PORT_STATUS_LINK p) v

/-- 0x0420 for a change of link state, at most once a second (R305, R329). -/
def State.linkEvent (s : State) (p old : Nat) : State :=
  s.raiseGap (.portRaised p 8) secNs (evLinkState p) [i1 old, i1 (s.get (Reg.PORT_STATUS_LINK p)), i1 (s.mode p)]

/-- A saturating port counter (R326). -/
def State.portCount (s : State) (f : Fld) : State := s.bumpSat f

/-- A port counter some up, saturating (R326). -/
def State.portCountBy (s : State) (f : Fld) (n : Nat) : State := s.put f (min (s.get f + n) (2 ^ 32 - 1))

/-- A port event, at most once a second (R329). -/
def State.raisePort (s : State) (p n : Nat) (sev : Sev) (items : List Item) : State :=
  s.raiseGap (.portRaised p n) secNs (evPort p n sev) items

/-- What goes with the end of a link: its recovered clock has LOS (R323), its receiver's locks clear. -/
def State.linkGone (s : State) (p : Nat) : State :=
  let s := ((s.put (Reg.PORT_STATUS_FEC_LOCK p) 0).put (Reg.SYNCE_STATUS_CDR_LOCK p) 0).stopTimer (.align p)
  s.sourceLos (0x10 + p)

/-- A link to OFF: the unit is disabled or fenced, or its domain lost power (R305). -/
def State.linkOff (s : State) (p : Nat) : State :=
  if s.get (Reg.PORT_STATUS_LINK p) = 0 then s else (s.setLink p 0).linkGone p

/-- A link out of OFF once its unit is ENABLED (R305). -/
def State.linkStart (s : State) (p : Nat) : State :=
  if s.get (Reg.PORT_STATUS_LINK p) = 0 ∧ s.unitOn (0x8000 + p) then s.setLink p 1 else s

/-- LINK_ALIGN: CDR, block, FEC and lane lock make a DOWN link ALIGNING (R305). -/
def execLinkAlign (p : Nat) (s : State) : Host.Outcome State Fault Refusal :=
  .next (
    let s := if p < 4 then s.linkStart p else s
    if p < 4 ∧ s.get (Reg.PORT_STATUS_LINK p) = 1 then
      let s := (s.setLink p 2).arm (.align p) 2000000
      (s.put (Reg.SYNCE_STATUS_CDR_LOCK p) 1).putB (Reg.PORT_STATUS_FEC_LOCK p) (decide (s.get (Reg.PORT_CFG_FEC p) ≠ 0))
    else s)

/-- A link UP: RX_SKEW measured, no fault, within 2 ms (R305). -/
def State.linkUp (s : State) (p skew : Nat) : State :=
  if p < 4 ∧ s.get (Reg.PORT_STATUS_LINK p) = 2 ∧ ¬ s.due (.align p) then
    let s := ((s.setLink p 3).stopTimer (.align p)).put (Reg.RX_SKEW_SKEW p) skew
    let s := (s.put (Reg.PORT_STATUS_LOCAL_FAULT p) 0).put (Reg.PORT_STATUS_REMOTE_FAULT p) 0
    (s.linkEvent p 2).arm (.esmcInfo p) secNs
  else s

/-- ALIGN_TIMEOUT: 2 ms in ALIGNING (R305). -/
def execAlignTimeout (p : Nat) (s : State) : Host.Outcome State Fault Refusal :=
  .next (
    if p < 4 ∧ s.get (Reg.PORT_STATUS_LINK p) = 2 ∧ s.due (.align p) then
      ((s.setLink p 1).portCount (Reg.LINK_DOWNS_COUNT p)).linkGone p
    else s)

/-- An UP link DOWN: lock lost for 1 ms or a fault (R305). -/
def State.linkDown (s : State) (p : Nat) (localFault remoteFault : Bool) : State :=
  if p < 4 ∧ s.portUp p then
    let s := (s.setLink p 1).portCount (Reg.LINK_DOWNS_COUNT p)
    let s := (s.putB (Reg.PORT_STATUS_LOCAL_FAULT p) localFault).putB (Reg.PORT_STATUS_REMOTE_FAULT p) remoteFault
    (s.linkEvent p 3).linkGone p
  else s

/-! ## Stamps (R307 to R309) -/

/-- The fused delay of a port for its present mode, unit 2^-10 ns (R307, R498). -/
def State.phyDelay (s : State) (f : Nat → Fld) (p : Nat) : Nat := Config.fused ((f p).key + 2 ^ 40 * (s.mode p + 1)) % 2 ^ 32

/-- Bits of a FEC codeword (R307). -/
def codewordBits (fec : Nat) : Nat := if fec = 1 then 5280 else 5440

/-- UI of a mode as a fraction of a nanosecond: numerator and denominator (R304, R307). -/
def uiOf (mode : Nat) : Nat × Nat := if mode = 2 then (32, 825) else if mode = 3 then (8, 425) else (8, 825)

/-- A receive stamp in units of 2^-16 ns, truncated (R307): t_MII less RX_PHY_DELAY, RX_SKEW, POS and RX_EXT_DELAY. -/
def State.rxStamp (s : State) (p : Nat) (a : MiiAt) : Nat :=
  let fec := s.get (Reg.PORT_CFG_FEC p)
  let (num, den) := uiOf (s.mode p)
  let bits : Int := if fec = 0 then 0 else (codewordBits fec : Int) - a.k
  let d : Int := (s.phyDelay Reg.RX_PHY_DELAY_DELAY p : Int) + s.get (Reg.RX_SKEW_SKEW p) + s.getI (Reg.RX_EXT_DELAY_DELAY p)
  (((a.t : Int) * den - d * 2 ^ 22 * den - bits * num * 2 ^ 32) / (den * 2 ^ 16)).toNat

/-- A transmit stamp in units of 2^-16 ns, truncated (R307). -/
def State.txStamp (s : State) (p t : Nat) : Nat :=
  let d : Int := (s.phyDelay Reg.TX_PHY_DELAY_DELAY p : Int) + s.getI (Reg.TX_EXT_DELAY_DELAY p)
  (((t : Int) + d * 2 ^ 22) / 2 ^ 16).toNat

/-- W_tb, the widening of R76 while a port is UNSURE: 50 ps and 1 ns per ms since its last good marker, rounded up to units of
2^-8 ns. -/
def State.widenTb (s : State) (p : Nat) : Nat :=
  if s.tbState p = 2 then ceilDiv (256 * (50000 + (s.runNs - ((s.timer (.tbQuiet p)).getD (s.runNs + 1000000) - 1000000)))) 1000000 else 0

/-- P_port, unit 2^-8 ns (R308). -/
def State.pPort (s : State) (p : Nat) : Nat :=
  pBaseOf (s.mode p) + s.get (Reg.EXT_U_U p) + s.widenTb p + (if s.synHolding then 26 else 0)

/-- TEB + some uncertainty, unit 2^-8 ns, as formed and as it saturates (R131, R133). -/
def State.boundSum (s : State) (u : Nat) : Nat := s.tebSum + u
@[inherit_doc State.boundSum] def State.bound (s : State) (u : Nat) : Nat := tebSat (s.boundSum u)

/-- The flags of a stamp: 1 TB_UNSURE, 2 SYN_HOLD (R309). A stamp of a CALIBRATING port is flagged as uncalibrated (R27); records have no
flag for that but TB_UNSURE, and carry it (DESIGN CHOICE, log entry 151). -/
def State.stampFlags (s : State) (p : Nat) : Nat :=
  b2n (decide (s.tbState p = 0 ∨ s.tbState p = 2)) + 2 * b2n s.synHolding

/-- A stamp taken: counted, by the service class of its frame where that has one, and its flags noted (R309, R415, R416). -/
def State.stampTaken (s : State) (p : Nat) (cls : Option Nat := none) : State :=
  let f := s.stampFlags p
  let s := s.pmcEvent 4 0x12 { cls := cls }
  if f = 0 then s.setPort p { s.port p with flagged := false }
  else
    let s := (s.portCount (Reg.STAMPS_FLAGGED_COUNT p)).pmcEvent 4 0x13
    let first := decide ((s.port p).flagged = false)
    let s := s.setPort p { s.port p with flagged := true }
    if first then s.raisePort p 4 .warning [i1 (f % 2), i1 (f / 2)] else s

/-! ## Frames as bytes (R310 to R312) -/

/-- The number some bytes spell in network order. -/
def beNat (bs : List Byte) : Nat := leNat bs.reverse

/-- Some bytes of a frame as a number in network order. -/
def netField (bs : List Byte) (at_ n : Nat) : Nat := beNat ((bs.drop at_).take n)

/-- The one's complement sum of bytes taken as 16-bit words. -/
def onesSum : List Byte → Nat → Nat
  | a :: b :: r, acc => let x := acc + 256 * a.toNat + b.toNat; onesSum r (x % 2 ^ 16 + x / 2 ^ 16)
  | [a], acc => let x := acc + 256 * a.toNat; x % 2 ^ 16 + x / 2 ^ 16
  | [], acc => acc

/-- An IPv6 address from its four registers. -/
def State.ip6 (s : State) (g : Nat → Nat → Fld) (p : Nat) : Nat := (List.range 4).foldl (fun acc i => acc * 2 ^ 32 + s.get (g p i)) 0

/-- The address a port sends its own UDP datagrams of an address type from: IPV4_ADDR, IPV6_A or IPV6_B (R330). -/
def State.ownIp (s : State) (p kind : Nat) (b : Bool) : Nat :=
  if kind = 0 then s.get (Reg.IPV4_ADDR_ADDR p) else if b then s.ip6 Reg.IPV6_B_ADDR p else s.ip6 Reg.IPV6_A_ADDR p

/-- The UDP checksum of a datagram over an address type (0 IPv4, 1 IPv6): over the pseudo-header, the UDP header and the payload. -/
def udpSum (kind src dst sport dport : Nat) (pay : List Byte) : Nat :=
  let w := if kind = 0 then 4 else 16
  let n := 8 + pay.length
  let x := 0xFFFF - onesSum (beBytes w src ++ beBytes w dst ++ beBytes 2 17 ++ beBytes 2 n ++ beBytes 2 sport ++ beBytes 2 dport ++ beBytes 2 n
    ++ beBytes 2 0 ++ pay) 0
  if x = 0 then 0xFFFF else x

/-- The two octets after a message that leave the sum of what was composed, with two zero octets there, as it was (R240). -/
def keepSum (composed sent : List Byte) : List Byte := beBytes 2 ((onesSum composed 0 + 65535 - onesSum sent 0) % 65535)

/-- What steering needs of a frame: addresses, tags, and the packet after them. -/
structure Parsed where
  dst  : Nat
  src  : Nat
  tpid : Nat
  tci  : Nat
  tagged : Bool
  etype : Nat
  pay  : List Byte

/-- A frame taken apart up to its EtherType; its FCS is left out of the payload. -/
def parseFrame (bs : List Byte) : Parsed :=
  let b := bs.take (bs.length - 4)
  let t := netField b 12 2
  if t = 0x8100 then ⟨netField b 0 6, netField b 6 6, t, netField b 14 2, true, netField b 16 2, b.drop 18⟩
  else ⟨netField b 0 6, netField b 6 6, t, 0, false, t, b.drop 14⟩

/-- Header length of an IPv4 packet. -/
def ihl (pay : List Byte) : Nat := 4 * (netField pay 0 1 % 16)

/-- The extension headers of an IPv6 packet walked, from a next-header code and the bytes it stands for: the protocol reached and its bytes. A later
fragment and an encrypted payload hide what follows them: 256. -/
def v6Walk : Nat → Nat → List Byte → Nat × List Byte
  | 0, nh, bs => (nh, bs)
  | fuel + 1, nh, bs =>
    if nh = 0 ∨ nh = 43 ∨ nh = 60 ∨ nh = 135 then v6Walk fuel (netField bs 0 1) (bs.drop (8 * (netField bs 1 1 + 1)))
    else if nh = 51 then v6Walk fuel (netField bs 0 1) (bs.drop (4 * (netField bs 1 1 + 2)))
    else if nh = 44 then (if netField bs 2 2 / 8 = 0 then v6Walk fuel (netField bs 0 1) (bs.drop 8) else (if netField bs 0 1 = 17 then 17 else 256, []))
    else if nh = 50 then (256, [])
    else (nh, bs)

/-- Protocol and upper-layer bytes of an IP packet. -/
def Parsed.upper (f : Parsed) : Nat × List Byte :=
  if f.etype = 0x0800 then (netField f.pay 9 1, (f.pay.take (netField f.pay 2 2)).drop (ihl f.pay))
  else if f.etype = 0x86DD then
    let bs := (f.pay.drop 40).take (netField f.pay 4 2)
    v6Walk bs.length (netField f.pay 6 1) bs
  else (256, [])

/-- Whether a frame holds IPv4 with options or a fragment, or IPv6 with extension headers before UDP (row 3 of R312). -/
def Parsed.odd (f : Parsed) : Bool :=
  if f.etype = 0x0800 then ihl f.pay ≠ 20 ∨ netField f.pay 6 2 % 2 ^ 14 ≠ 0
  else if f.etype = 0x86DD then f.upper.1 = 17 ∧ netField f.pay 6 1 ≠ 17
  else false

/-- Whether an IPv4 header checksum or a UDP checksum is wrong (row 4 of R312). -/
def Parsed.csumBad (f : Parsed) : Bool :=
  let (proto, up) := f.upper
  let ipBad := decide (f.etype = 0x0800 ∧ onesSum (f.pay.take (ihl f.pay)) 0 ≠ 0xFFFF)
  let addrs := if f.etype = 0x0800 then (f.pay.drop 12).take 8 else (f.pay.drop 8).take 32
  let udpBad := decide (proto = 17 ∧ ¬ (f.etype = 0x0800 ∧ netField up 6 2 = 0)
    ∧ onesSum (addrs ++ beBytes 2 17 ++ beBytes 2 up.length ++ up) 0 ≠ 0xFFFF)
  ipBad || udpBad

/-- The destination port of a TCP or UDP packet. -/
def Parsed.dport (f : Parsed) : Nat := netField f.upper.2 2 2

/-- A station address from its two registers. -/
def State.macOf (s : State) (lo hi : Nat → Fld) (p : Nat) : Nat := s.get (hi p) * 2 ^ 32 + s.get (lo p)

/-- STATION_MAC and LOCAL_MAC, the latter fused (R311, R319). -/
def State.stationMac (s : State) (p : Nat) : Nat := s.macOf Reg.STATION_MAC_LO_MAC_LO Reg.STATION_MAC_HI_MAC_HI p
@[inherit_doc State.stationMac] def localMac (p : Nat) : Nat :=
  Config.fused (Reg.LOCAL_MAC_HI_MAC_HI p).key % 2 ^ 16 * 2 ^ 32 + Config.fused (Reg.LOCAL_MAC_LO_MAC_LO p).key % 2 ^ 32

/-- Whether an entry of MC_FILTER matches an address (R311). -/
def State.mcMatches (s : State) (p d : Nat) : Bool :=
  (List.range 16).any fun j =>
    let m := s.get (Reg.MC_FILTER_HI_MAC_HI p j) * 2 ^ 32 + s.get (Reg.MC_FILTER_LO_MAC_LO p j)
    decide (s.get (Reg.MC_FILTER_HI_VALID p j) = 1
      ∧ (if s.get (Reg.MC_FILTER_HI_MATCH_24 p j) = 1 then m / 2 ^ 24 = d / 2 ^ 24 else m = d))

/-- Whether an instance runs on a port: it is not OFF and names the port (R233, R311). -/
def State.instOn (s : State) (k p : Nat) : Bool := s.get (Reg.PTP_INST_STATE_STATE k) ≠ 0 ∧ s.fbit (Reg.PTP_INST_CFG_PORTS k) p

/-- The PTP destination addresses of an instance's profile and transports (R233). -/
def State.ptpAddrs (s : State) (k : Nat) : List Nat :=
  let prof := s.get (Reg.PTP_INST_CFG_PROFILE k)
  let p2p := decide (prof = 1)
  if prof = 4 then [] else
  (if s.fbit (Reg.PTP_INST_CFG_TRANSPORT k) 0 ∧ prof ≠ 2 then
    (if s.get (Reg.PTP_INST_CFG_L2_FWD k) = 1 then [0x011B19000000] else [0x0180C200000E])
      ++ (if p2p then [0x0180C200000E] else []) else [])
  ++ (if s.fbit (Reg.PTP_INST_CFG_TRANSPORT k) 1 ∧ prof ≠ 3 then 0x01005E000181 :: (if p2p then [0x01005E00006B] else []) else [])
  ++ (if s.fbit (Reg.PTP_INST_CFG_TRANSPORT k) 2 ∧ prof ≠ 3 then 0x333300000181 :: (if p2p then [0x33330000006B] else []) else [])

/-- Whether the first condition of R311 lets a group address in: a PTP address of an instance that runs on the port, or a match of MC_FILTER. An IP group
is allowed where the address it maps to is (DEDUCED, log entry 197). -/
def State.groupOk (s : State) (p d : Nat) : Bool :=
  ((List.range 4).any fun k => s.instOn k p && (s.ptpAddrs k).contains d) || s.mcMatches p d

/-- The address filter of R311. -/
def State.passes (s : State) (p : Nat) (f : Parsed) : Bool :=
  let da := f.dst = s.stationMac p ∨ f.dst = localMac p ∨ f.dst = 0xFFFFFFFFFFFF ∨ f.dst = 0x0180C2000001 ∨ f.dst = 0x0180C2000002
    ∨ s.groupOk p f.dst
  let vid := f.tci % 4096
  let vl := if f.tpid = 0x88A8 then false
    else if ¬ f.tagged ∨ vid = 0 then s.get (Reg.VLAN_CTRL_UNTAGGED_OK p) = 1
    else f.etype ≠ 0x8100 ∧ f.etype ≠ 0x88A8
      ∧ (List.range 16).any fun i => s.get (Reg.VLAN_VALID p i) = 1 ∧ s.get (Reg.VLAN_VID p i) = vid
  let v6 := fun (g : Nat → Nat → Fld) => s.ip6 g p
  let ip := if f.etype = 0x0800 then
      let d := netField f.pay 16 4
      (d = s.get (Reg.IPV4_ADDR_ADDR p) ∧ d ≠ 0) ∨ (d / 2 ^ 28 = 0xE ∧ s.groupOk p (0x01005E000000 + d % 2 ^ 23))
    else if f.etype = 0x86DD then
      let d := netField f.pay 24 16
      (d ≠ 0 ∧ (d = v6 Reg.IPV6_A_ADDR ∨ d = v6 Reg.IPV6_B_ADDR)) ∨ (d / 2 ^ 120 = 0xFF ∧ s.groupOk p (0x333300000000 + d % 2 ^ 32))
    else true
  decide da && decide vl && decide ip

/-- The domainNumber an instance runs, with its profile's default (R233). -/
def State.domain (s : State) (k : Nat) : Nat :=
  let d := s.get (Reg.PTP_INST_CFG_DOMAIN k)
  if d ≠ 0xFF then d else
  let prof := s.get (Reg.PTP_INST_CFG_PROFILE k)
  if prof = 2 then 127 else if prof = 3 then 24 else if prof = 4 then 44 else 0

/-- Where a frame goes (R312). -/
inductive Dest where
  | drop (counter : Nat → Fld)
  | ptpDrop (inst : Nat)
  | unit (u inst : Nat)
  | host (reason : Nat)

/-- The destination of a PTP message: its instance, or for management and unknown types the host or nothing (R256, R312). -/
def State.steerPtp (s : State) (p : Nat) (m : List Byte) : Dest :=
  match (List.range 4).find? fun k => s.instOn k p && decide (s.domain k = netField m 4 1) with
  | none => .drop Reg.RX_FILTERED_COUNT
  | some k =>
    if [0, 1, 2, 3, 8, 9, 10, 11, 12].contains (netField m 0 1 % 16) then .unit 2 k
    else if s.get (Reg.PTP_INST_CFG_PTP_TO_HOST k) = 1 then .host 4 else .ptpDrop k

/-- Whether a pause frame's destination address is one that R320 has the port obey; one to another address is filtered (DEDUCED, log entry 197). -/
def State.pauseTo (s : State) (p d : Nat) : Bool := d = 0x0180C2000001 ∨ d = s.stationMac p ∨ d = localMac p

/-- The one destination of a frame that passed the filters (R312, R261). -/
def State.steer (s : State) (p : Nat) (f : Parsed) : Dest :=
  let (proto, up) := f.upper
  if f.etype = 0x8808 then
    if (netField f.pay 0 2 = 0x0001 ∨ netField f.pay 0 2 = 0x0101) ∧ s.pauseTo p f.dst then .unit 0 0 else .drop Reg.RX_FILTERED_COUNT
  else if f.etype = 0x8809 ∧ netField f.pay 0 1 = 0x0A then .unit 1 0
  else if f.odd then .host 1
  else if f.csumBad then .drop Reg.RX_CSUM_ERR_COUNT
  else if f.etype = 0x88F7 then s.steerPtp p f.pay
  else if proto = 17 ∧ (f.dport = 319 ∨ f.dport = 320) then s.steerPtp p (up.drop 8)
  else if proto = 17 ∧ f.dport = 123 then
    let b := netField up 8 1
    if (b / 8 % 8 = 3 ∨ b / 8 % 8 = 4) ∧ 6 ≤ b % 8 ∧ s.get Reg.NTP_CTRL_NTP_TO_HOST = 1 then .host 3 else .unit 3 0
  else if proto = 6 ∧ f.dport = 4460 then .host 2
  else .host 6

/-- The extension fields of bytes, each a type and a body, as far as they parse; and whether they parse to the end. -/
def extFields : Nat → List Byte → List (Nat × List Byte) × Bool
  | 0, bs => ([], bs.isEmpty)
  | fuel + 1, bs =>
    if bs.isEmpty then ([], true) else
    let len := netField bs 2 2
    if len % 4 ≠ 0 ∨ len < 16 ∨ bs.length < len then ([], false)
    else
      let (r, ok) := extFields fuel (bs.drop len)
      ((netField bs 0 2, (bs.take len).drop 4) :: r, ok)

/-- The service class of a received frame: none for one that the engine neither handles itself nor hands to the host (R283). -/
def State.rxClass (s : State) (p : Nat) (f : Parsed) : Option Nat :=
  let m := if f.etype = 0x88F7 then f.pay else f.upper.2.drop 8
  match s.steer p f with
  | .host _ => some 4
  | .unit 2 _ =>
    let typ := netField m 0 1 % 16
    if typ = 1 ∨ typ = 2 then some 0 else if typ = 12 then some 1 else none
  | .unit 3 _ =>
    let b := netField m 0 1
    let rest := m.drop 48
    if b % 8 ≠ 3 ∨ (b / 8 % 8 ≠ 3 ∧ b / 8 % 8 ≠ 4) then none
    else if b / 8 % 8 = 4 ∧ (extFields rest.length rest).1.any fun x => x.1 = 0x0104 then some 2 else some 3
  | _ => none

/-- The client key of a frame's source (R284). -/
def Parsed.key (f : Parsed) (p : Nat) : CKey :=
  let (kind, a) := if f.etype = 0x0800 then (0, netField f.pay 12 4) else if f.etype = 0x86DD then (1, netField f.pay 8 16) else (2, f.src)
  ⟨p, kind, a, f.tci % 4096, f.tagged⟩

/-! ## The receive ring (R313 to R315, R380) -/

/-- The 32 bytes of a receive record (R314). -/
def State.rxRecord (s : State) (p stamp len reason : Nat) (f : Parsed) : List Byte :=
  let ns := stamp / 2 ^ 16
  leBytes 6 (ns / secNs) ++ leBytes 4 (ns % secNs) ++ leBytes 2 (stamp % 2 ^ 16) ++ leBytes 4 (s.bound (s.pPort p))
    ++ leBytes 4 (s.get Reg.HOB_TRACE_TRACE) ++ leBytes 2 f.tci ++ leBytes 1 (b2n f.tagged + 2 * s.stampFlags p) ++ leBytes 1 reason
    ++ leBytes 2 len ++ leBytes 6 0

/-- The buffers, from a ring's head, that some bytes fill: address, bytes taken, and the descriptor's address; nothing where the
posted buffers do not suffice. -/
def State.fillBuffers (s : State) (ring len : Nat) : Nat → Nat → Option (List (Nat × Nat × Nat))
  | 0, _ => if len = 0 then some [] else none
  | fuel + 1, i =>
    if len = 0 then some [] else
    let d := s.entryAddr ring 16 i
    let size := leNat (memRead s.mem (d + 8) 2)
    let n := min size len
    if n = 0 then none else
    match s.fillBuffers ring (len - n) fuel (i + 1) with
    | some r => some ((leNat (memRead s.mem d 8), n, d) :: r)
    | none => none

/-- A frame's bytes written into its buffers, and each descriptor's BYTES and flags (R380). -/
def State.writeBuffers (s : State) (bytes : List Byte) (first : Bool) : List (Nat × Nat × Nat) → State
  | [] => s
  | (a, n, d) :: r =>
    let s := s.dmaWrite a (bytes.take n)
    let s := s.dmaWrite (d + 10) (leBytes 2 n ++ leBytes 1 (b2n first + 2 * b2n r.isEmpty))
    s.writeBuffers (bytes.drop n) false r

/-- A frame that finds no buffer (R315). -/
def State.noBuffer (s : State) (p : Nat) : State :=
  let s := s.portCount (Reg.RX_NOBUF_DROP_COUNT p)
  s.raisePort p 1 .warning [i4 (s.get (Reg.RX_NOBUF_DROP_COUNT p))]

/-- A frame put into the buffers found for it, or dropped whole (R314, R315). -/
def State.deliverInto (s : State) (n p : Nat) (rx : RxFrame) (all : List Byte) (b : Option (List (Nat × Nat × Nat))) : State :=
  match b with
  | none => s.noBuffer p
  | some bufs =>
    if ¬ rx.dmaOk then s.ringError n 3 (match bufs with
      | (a, _, _) :: _ => a % 2 ^ 32
      | [] => 0)
    else
      let s := (s.writeBuffers all true bufs).consume n bufs.length
      s.portCount (Reg.RX_TO_HOST_COUNT p)

/-- A frame's record and bytes for a PKT_RX ring's next buffers (R313). -/
def State.deliverTo (s : State) (n p stamp reason : Nat) (f : Parsed) (rx : RxFrame) : State :=
  let body := if s.get (Reg.PORT_CFG_STRIP_FCS p) = 1 then rx.bytes.take (rx.bytes.length - 4) else rx.bytes
  let all := s.rxRecord p stamp body.length reason f ++ body
  s.deliverInto n p rx all (s.fillBuffers n all.length (s.ringHas n) 0)

/-- A frame admitted for the host: its record and bytes into the PKT_RX ring's next buffers, or dropped whole (R313 to R315). -/
def State.deliver (s : State) (p stamp reason : Nat) (f : Parsed) (rx : RxFrame) : State :=
  match s.portRing 4 p with
  | none => s.noBuffer p
  | some n => s.deliverTo n p stamp reason f rx

/-- A frame bound for the host: of class CONTROL, it passes admission before any buffer is used (R283, R312). -/
def State.toHost (s : State) (p stamp reason : Nat) (f : Parsed) (rx : RxFrame) : State :=
  let (a, s) := s.letIn ⟨f.key p, f.tci / 2 ^ 13, 0, false, rx.bad⟩ 4 1 0 false
  if a.verdict = .admitted ∨ (a.verdict = .shed ∧ ¬ s.serves) then s.deliver p stamp reason f rx else s

/-- The counter of the first condition of R310 that discards a frame, if one does. -/
def State.rxFails (s : State) (p : Nat) (rx : RxFrame) : Option Fld :=
  if rx.noRoom then some (Reg.RX_FIFO_DROP_COUNT p)
  else if rx.bytes.length < 64 then some (Reg.RX_RUNT_COUNT p)
  else if s.get (Reg.PORT_CFG_MAX_FRAME p) < rx.bytes.length then some (Reg.RX_OVERSIZE_COUNT p)
  else if rx.fcsBad then some (Reg.RX_FCS_ERR_COUNT p)
  else if rx.cut then some (Reg.RX_TRUNCATED_COUNT p) else none

/-- Octets added to a 64-bit pair (R326). -/
def State.addOctets (s : State) (lo hi : Fld) (n : Nat) : State := s.put64 lo hi (min (s.get64 lo hi + n) (2 ^ 64 - 1))

/-- Codewords and blocks counted; an uncorrectable codeword raises 0x0424 (R329, R330). -/
def State.fecCount (s : State) (p : Nat) (rx : RxFrame) : State :=
  let s := s.portCountBy (Reg.FEC_CORRECTED_COUNT p) rx.fecOk
  let s := (s.portCountBy (Reg.FEC_UNCORRECTED_COUNT p) rx.fecBad).portCountBy (Reg.PCS_ERR_BLOCKS_COUNT p) rx.pcsBad
  if rx.fecBad = 0 then s else s.raisePort p 3 .warning [i4 (s.get (Reg.FEC_UNCORRECTED_COUNT p))]

/-- FRAME_RECEIVED: a frame stamped, checked, filtered and steered to one destination (R310 to R315). What the unit it is
steered to does with it is that unit's command. -/
def execFrameReceived (p : Nat) (rx : RxFrame) (s : State) : Host.Outcome State Fault Refusal :=
  .next (
    if ¬ (p < 4 ∧ s.unitOn (0x8000 + p) ∧ (s.portUp p ∨ rx.cut)) then s else
    let f := parseFrame rx.bytes
    let fails := s.rxFails p rx
    let cls := if fails.isSome ∨ ¬ s.passes p f then none else s.rxClass p f
    let s := (s.fecCount p rx).stampTaken p cls
    match fails with
    | some f => s.portCount f
    | none =>
      let s := (s.portCount (Reg.RX_FRAMES_COUNT p)).addOctets (Reg.RX_OCTETS_LO_LO p) (Reg.RX_OCTETS_HI_HI p) rx.bytes.length
      let stamp := s.rxStamp p rx.at_
      let s := s.pmcEvent 4 0x10 { cls := cls }
      if ¬ s.passes p f then s.portCount (Reg.RX_FILTERED_COUNT p)
      else match s.steer p f with
        | .drop c => s.portCount (c p)
        | .ptpDrop k => s.bump (Reg.DISCARDED_COUNT k)
        | .unit u k =>
          let s := { s with out := .steered p u k :: s.out }
          if u = 1 ∧ s.get (Reg.SYNCE_CFG_ESMC_TO_HOST p) = 1 then s.toHost p stamp 5 f rx else s
        | .host r => s.toHost p stamp r f rx)

/-! ## Transmit FIFOs (R316) -/

/-- Priority of a frame with a tag, or without one (R316). -/
def State.prioOf (s : State) (p : Nat) (tci : Option Nat) : Nat :=
  match tci with
  | some t => t / 2 ^ 13 % 8
  | none => s.get (Reg.VLAN_CTRL_UNTAGGED_PRI p)

/-- The tag of a reply: the VLAN and the PCP of its request (R316). -/
def replyTci (k : CKey) (pcp : Nat) : Option Nat := if k.tagged then some (pcp * 2 ^ 13 + k.vlan) else none

/-- The tag of an originated multicast frame (R316). -/
def State.ownTci (s : State) (p : Nat) : Option Nat :=
  let v := s.get (Reg.VLAN_CTRL_TX_VLAN p)
  if v = 0 then none else some (s.get (Reg.VLAN_CTRL_TX_PCP p) * 2 ^ 13 + v)

/-- Whether an item is the engine's own. -/
def TxItem.engine (i : TxItem) : Bool :=
  match i.body with
  | .host _ => false
  | _ => true

/-- Whether an item is a Sync of a series: of an instance, over a transport, to a destination. -/
def TxItem.isSync (i : TxItem) (n : PtpMsg) : Bool :=
  match i.body with
  | .ptp m => m.typ = 0 ∧ m.inst = n.inst ∧ m.trans = n.trans ∧ m.dst = n.dst
  | _ => false

/-- The list without the first item of a kind. -/
def dropFirst (q : TxItem → Bool) : List TxItem → List TxItem
  | [] => []
  | i :: r => if q i then r else i :: dropFirst q r

/-- An engine frame dropped from a FIFO as too late (R316). -/
def State.timeDrop (s : State) (p : Nat) (q : TxItem → Bool) : State :=
  let s := s.setPort p { s.port p with fifo := dropFirst q (s.port p).fifo }
  let s := s.portCount (Reg.TX_TIME_DROP_COUNT p)
  s.raisePort p 7 .warning [i4 (s.get (Reg.TX_TIME_DROP_COUNT p))]

/-- Whether a responder is in service, to take what the others leave (R44). -/
def State.rspOn (s : State) : Bool := (List.range 32).any fun k => s.unitOn (0x9000 + k / 16 * 0x100 + k % 16)

/-- An engine frame put into its FIFO: an older Sync of the same series goes (log entry 32), and the oldest engine frame of a full FIFO (R316). -/
def State.fifoPush (s : State) (p : Nat) (tci : Option Nat) (b : TxBody) : State :=
  let i : TxItem := ⟨s.prioOf p tci, tci, b⟩
  let old : TxItem → Bool := fun j => decide (j.prio = i.prio) && (match b with
    | .ptp m => decide (m.typ = 0) && j.isSync m
    | _ => false)
  let s := if (s.port p).fifo.any old then s.timeDrop p old else s
  let mine : TxItem → Bool := fun j => j.engine && decide (j.prio = i.prio)
  let s := if 512 ≤ ((s.port p).fifo.filter mine).length then s.timeDrop p mine else s
  s.setPort p { s.port p with fifo := (s.port p).fifo ++ [i] }

/-- A responder's frame put into its FIFO; with no responder in service there is none (R44; DESIGN CHOICE, log entry 150). -/
def State.txPush (s : State) (p : Nat) (tci : Option Nat) (b : TxBody) : State := if s.rspOn then s.fifoPush p tci b else s

/-- Whether a priority is halted (R320). -/
def State.halted (s : State) (p q : Nat) : Bool := s.fbit (Reg.PORT_STATUS_PAUSED p) q

/-- Whether a frame from the host is MAC control, which is never halted (R320). -/
def macControl (bytes : List Byte) : Bool := (parseFrame (bytes ++ List.replicate 4 0)).etype = 0x8808
@[inherit_doc macControl] def TxItem.control (i : TxItem) : Bool :=
  match i.body with
  | .host f => macControl f.bytes
  | _ => false

/-- The frame a port sends next: of the highest priority that is not halted, the engine's before the host's, oldest first; MAC control is never halted
(R316, R320). -/
def State.nextTx (s : State) (p : Nat) : Option TxItem :=
  (List.range 8).reverse.findSome? fun q =>
    let l := (s.port p).fifo.filter fun i => decide (i.prio = q) && (! s.halted p q || i.control)
    match l.find? TxItem.engine with
    | some i => some i
    | none => l.head?

/-! ## Timestamp records (R317, R318) -/

/-- A TSQ record put into the port's queue; when 64 wait, the oldest gives way (R318, R401). -/
def State.tsqPush (s : State) (p : Nat) (r : TsqRec) : State :=
  let x := s.port p
  if x.tsq.length < 64 then (s.setPort p { x with tsq := x.tsq ++ [r] }).rqFill (1 + p) (x.tsq.length + 1)
  else
    let gone := match x.tsq with
      | o :: _ => o.seq
      | [] => 0
    let s := (s.rqGone (1 + p)).setPort p { x with tsq := x.tsq.tail ++ [r], tsqLost := x.tsqLost + 1 }
    let s := ((s.bump (Reg.RQ_LOST_COUNT (1 + p))).portCount (Reg.TSQ_LOST_COUNT p)).rqLostNote (1 + p)
    s.raisePort p 2 .warning [i4 1, i4 gone]

/-- The 32 bytes of a TSQ record with the records lost before it (R317). -/
def TsqRec.bytes (r : TsqRec) (p lost : Nat) : List Byte :=
  let ns := r.stamp / 2 ^ 16
  leBytes 4 r.seq ++ leBytes 2 r.tag ++ leBytes 1 (p + 4 * r.status + 16 * r.flags) ++ leBytes 1 0 ++ leBytes 6 (ns / secNs)
    ++ leBytes 4 (ns % secNs) ++ leBytes 2 (r.stamp % 2 ^ 16) ++ leBytes 4 r.bound ++ leBytes 4 r.trace
    ++ leBytes 2 (min lost 65535) ++ leBytes 2 0

/-- The record of a request that was not sent: STATUS 1 STANDBY, 2 LINK, 3 ERROR (R317). -/
def State.tsqFail (s : State) (p : Nat) (st : Option (Nat × Nat)) (status : Nat) : State :=
  match st with
  | some (seq, tag) => s.tsqPush p ⟨seq, tag, status, 0, 0, 0, 0, 0⟩
  | none => s

/-- A TSQ_SEQ taken for a request (R317). -/
def State.takeSeq (s : State) (p : Nat) (asked : Bool) (tag : Nat) : Option (Nat × Nat) × State :=
  if asked then
    let q := s.get (Reg.TSQ_NEXT_SEQ_SEQ p)
    (some (q, tag), s.put (Reg.TSQ_NEXT_SEQ_SEQ p) (q + 1))
  else (none, s)

/-! ## Host frames (R316, R379) -/

/-- A PKT_TX descriptor (R379). -/
structure TxDesc where
  addr : Nat
  len  : Nat
  sof  : Bool
  eof  : Bool
  ts   : Bool
  tag  : Nat

/-- The descriptor some places after a ring's head. -/
def State.txDesc (s : State) (n i : Nat) : TxDesc :=
  let a := s.entryAddr n 16 i
  let f := leNat (memRead s.mem (a + 10) 1)
  ⟨leNat (memRead s.mem a 8), leNat (memRead s.mem (a + 8) 2), bit f 0, bit f 1, bit f 2, leNat (memRead s.mem (a + 12) 2)⟩

/-- The descriptors of the next frame, up to its EOF or to the SOF of another: how many, and whether the chain is good. -/
def State.chain (s : State) (n : Nat) : Nat → Nat → List TxDesc → Option (List TxDesc × Bool)
  | 0, _, _ => none
  | fuel + 1, i, acc =>
    let d := s.txDesc n i
    if i = 0 ∧ ¬ d.sof then some ([d], false)
    else if i ≠ 0 ∧ d.sof then some (acc, false)
    else if d.eof then some (acc ++ [d], decide (i < 8))
    else s.chain n fuel (i + 1) (acc ++ [d])

/-- Frames from the host a priority's FIFO holds; the spec gives no number. -/
def hostRoom : Nat := Config.freeValue (2 ^ 64)

/-- The host's next frame, by its chain of descriptors, taken from a PKT_TX ring once it is whole and its FIFO has room and is not paused (R316, R379). -/
def State.fetchFrame (s : State) (n p : Nat) (dmaOk : Bool) (c : Option (List TxDesc × Bool)) : State :=
  match c with
  | none => s
  | some (ds, good) =>
    let asked := match ds with
      | d :: _ => d.ts && d.sof
      | [] => false
    let tag := match ds with
      | d :: _ => d.tag
      | [] => 0
    let raw := ds.flatMap fun d => memRead s.mem d.addr d.len
    let body := raw ++ List.replicate (60 - raw.length) 0
    let tci := if netField body 12 2 = 0x8100 then some (netField body 14 2) else none
    let q := s.prioOf p tci
    let full := decide (hostRoom ≤ ((s.port p).fifo.filter fun i => ¬ i.engine ∧ i.prio = q).length)
    if good ∧ (full ∨ (s.halted p q ∧ ¬ macControl body)) then s
    else if ¬ dmaOk then s.ringError n 3 (s.entryAddr n 16 0 % 2 ^ 32)
    else
      let s := s.consume n ds.length
      let s := if asked then s.signalVector n else s
      let (st, s) := s.takeSeq p asked tag
      if ¬ good ∨ s.get (Reg.PORT_CFG_MAX_FRAME p) < raw.length + 4 then
        (s.portCount (Reg.TX_HOST_DROP_COUNT p)).tsqFail p st 3
      else s.setPort p { s.port p with fifo := (s.port p).fifo ++ [⟨q, none, .host ⟨body, st⟩⟩] }

/-- HOST_FRAME_FETCH: the next frame of the port's PKT_TX ring, once its FIFO has room and is not paused (R316, R379). -/
def execHostFrameFetch (p : Nat) (dmaOk : Bool) (s : State) : Host.Outcome State Fault Refusal :=
  .next (
    if 4 ≤ p then s else
    match s.portRing 3 p with
    | none => s
    | some n => s.fetchFrame n p dmaOk (s.chain n (s.ringHas n) 0 []))

/-- A frame that leaves: counted with its length from the destination address to the FCS, a reply by the service class of its request. -/
def State.sent (s : State) (p len : Nat) (cls : Option Nat := none) : State :=
  ((s.portCount (Reg.TX_FRAMES_COUNT p)).addOctets (Reg.TX_OCTETS_LO_LO p) (Reg.TX_OCTETS_HI_HI p) len).pmcEvent 4 0x11 { cls := cls }

/-- A host frame at its launch: not sent with the link not UP or from STATION_MAC on a STANDBY twin; else sent, with its record
where one was asked for (R317, R319, R327). -/
def State.launchHost (s : State) (p t : Nat) (cut : Bool) (f : HostFrame) : State :=
  if ¬ s.portUp p ∨ ¬ s.unitOn (0x8000 + p) ∨ cut then (s.portCount (Reg.TX_HOST_DROP_COUNT p)).tsqFail p f.stamp 2
  else if s.get Reg.TWN_STATUS_ROLE = 3 ∧ netField f.bytes 6 6 = s.stationMac p then
    (s.portCount (Reg.TX_STANDBY_DROP_COUNT p)).tsqFail p f.stamp 1
  else
    let s := s.stampTaken p
    let s := { s with out := .hostFrame p f.bytes :: s.out }
    let s := (s.sent p (f.bytes.length + 4)).portCount (Reg.TX_FROM_HOST_COUNT p)
    match f.stamp with
    | some (seq, tag) =>
      s.tsqPush p ⟨seq, tag, 0, s.stampFlags p, s.txStamp p t, s.bound (s.pPort p), s.get Reg.HOB_TRACE_TRACE, 0⟩
    | none => s

/-! ## Flow control (R320, R321) -/

/-- Nanoseconds of pause quanta in a mode, rounded up: 512 bit times each (R320). -/
def quantaNs (mode q : Nat) : Nat :=
  ceilDiv (q * 512 * (if mode = 0 then 100 else if mode = 1 then 10 else if mode = 2 then 4 else if mode = 3 then 2 else 1)) 100

/-- A priority halted or resumed (R320). -/
def State.setHalt (s : State) (p q : Nat) (on : Bool) : State := s.putBit (Reg.PORT_STATUS_PAUSED p) q on

/-- A pause of one priority (R320, R321). -/
def State.pausePrio (s : State) (p q quanta : Nat) : State :=
  let r := s.port p
  if s.fbit (Reg.PORT_STATUS_WD_IGNORE p) q then
    if quanta = 0 then s else s.setPort p { r with ignored := aput r.ignored q s.runNs }
  else if quanta = 0 then
    (s.setPort p { r with pauseEnd := adel r.pauseEnd q, pausedAt := adel r.pausedAt q }).setHalt p q false
  else
    let since := if s.halted p q then (aget r.pausedAt q).getD s.runNs else s.runNs
    (s.setPort p { r with pauseEnd := aput r.pauseEnd q (s.runNs + quantaNs (s.mode p) quanta), pausedAt := aput r.pausedAt q since }).setHalt
      p q true

/-- PAUSE_FRAME: a received PAUSE (all priorities, its one time) or PFC (the priorities of its vector, a time each) (R320). -/
def execPauseFrame (p : Nat) (pfc : Bool) (mask : PauseTo) (quanta : List Nat) (s : State) : Host.Outcome State Fault Refusal :=
  .next (
    if 4 ≤ p ∨ ¬ s.portUp p ∨ ¬ s.pauseTo p mask.dst then s else
    let s := s.portCount (if pfc then Reg.RX_PFC_COUNT p else Reg.RX_PAUSE_COUNT p)
    (List.range 8).foldl (fun s q =>
      if pfc then (if bit mask.mask q then s.pausePrio p q (quanta.getD q 0) else s) else s.pausePrio p q (quanta.getD 0 0)) s)

/-- PAUSE_EXPIRY: a priority's time has run out and it resumes (R320). -/
def execPauseExpiry (p q : Nat) (s : State) : Host.Outcome State Fault Refusal :=
  .next (
    if p < 4 ∧ q < 8 then
      let r := s.port p
      match aget r.pauseEnd q with
      | some e => if e ≤ s.runNs then
          (s.setPort p { r with pauseEnd := adel r.pauseEnd q, pausedAt := adel r.pausedAt q }).setHalt p q false else s
      | none => s
    else s)

/-- Priorities halted without a break for WD (R321). -/
def State.wdDue (s : State) (p : Nat) : List Nat :=
  (List.range 8).filter fun q => s.halted p q && (match aget (s.port p).pausedAt q with
    | some a => decide (a + 1000000 * s.get (Reg.PAUSE_CFG_WD p) ≤ s.runNs)
    | none => false)

/-- PAUSE_WD: the watchdog breaks the pauses that have lasted WD (R321). -/
def execPauseWd (p : Nat) (s : State) : Host.Outcome State Fault Refusal :=
  .next (
    if 4 ≤ p ∨ s.get (Reg.PAUSE_CFG_WD_EN p) = 0 then s else
    let qs := s.wdDue p
    if qs.isEmpty then s else
    let s := qs.foldl (fun s q =>
      let r := s.port p
      let s := s.setPort p { r with pauseEnd := adel r.pauseEnd q, pausedAt := adel r.pausedAt q, ignored := aput r.ignored q s.runNs }
      ((s.setHalt p q false).putBit (Reg.PORT_STATUS_WD_IGNORE p) q true).portCount (Reg.PAUSE_WD_BREAKS_COUNT p)) s
    s.raisePort p 0 .warning [i1 (qs.foldl (fun a q => a + 2 ^ q) 0)])

/-- WD_IGNORE_END: 1 s without a pause frame naming a priority ends its ignoring (R321). -/
def execWdIgnoreEnd (p q : Nat) (s : State) : Host.Outcome State Fault Refusal :=
  .next (
    if p < 4 ∧ q < 8 ∧ s.fbit (Reg.PORT_STATUS_WD_IGNORE p) q then
      match aget (s.port p).ignored q with
      | some a => if a + secNs ≤ s.runNs then s.putBit (Reg.PORT_STATUS_WD_IGNORE p) q false else s
      | none => s.putBit (Reg.PORT_STATUS_WD_IGNORE p) q false
    else s)

/-! ## SyncE and ESMC (R323 to R325) -/

/-- The received quality level of a port, as its SyncE lanes show it. -/
def State.setQl (s : State) (p ql valid : Nat) : State :=
  allLanes.foldl (fun s n => if s.laneSrc n = 0x10 + p then (s.put (Reg.LANE_QL_QL n) ql).put (Reg.LANE_QL_QL_VALID n) valid else s)
    ((s.put (Reg.SYNCE_STATUS_RX_QL p) ql).put (Reg.SYNCE_STATUS_QL_VALID p) valid)

/-- ESMC_PDU: a received slow-protocols PDU of subtype 0x0A: ITU-OUI, ITU subtype, version, the first TLV's type, length and SSM
code, and whether an extended QL TLV follows (R324). -/
def execEsmcPdu (p oui sub ver typ len ssm : Nat) (ext : Bool) (s : State) : Host.Outcome State Fault Refusal :=
  .next (
    if 4 ≤ p ∨ ¬ s.portUp p then s
    else if oui ≠ 0x0019A7 ∨ sub ≠ 1 ∨ ver ≠ 1 ∨ typ ≠ 1 ∨ len ≠ 4 then s.portCount (Reg.ESMC_BAD_COUNT p)
    else
      let old := s.get (Reg.SYNCE_STATUS_RX_QL p)
      let s := (s.portCount (Reg.ESMC_RX_COUNT p)).setQl p (ssm % 16) 1
      let s := if ext then s.put (Reg.SYNCE_STATUS_EXT_TLV_SEEN p) 1 else s
      let s := s.arm (.esmcQuiet p) (5 * secNs)
      if old = ssm % 16 then s else s.raisePort p 6 .info [i1 old, i1 (ssm % 16)])

/-- ESMC_TIMEOUT: 5 s without a valid PDU (R324). -/
def execEsmcTimeout (p : Nat) (s : State) : Host.Outcome State Fault Refusal :=
  .next (
    if p < 4 ∧ s.due (.esmcQuiet p) then
      let ql := s.get (Reg.SYNCE_STATUS_RX_QL p)
      ((s.stopTimer (.esmcQuiet p)).setQl p ql 0).raisePort p 5 .warning [i1 ql]
    else s)

/-- The code a port's ESMC sends now (R325). -/
def State.esmcCode (s : State) (p : Nat) : Nat :=
  let st := s.get Reg.HOB_STATUS_STATE
  let cur := s.get Reg.SEL_STATUS_CUR
  if s.get Reg.TWN_STATUS_ROLE = 3 then 0xF
  else if s.get Reg.SEL_STATUS_CUR_VALID = 1 ∧ s.laneSrc cur = 0x10 + p then 0xF
  else if s.synSt 3 ≠ 3 then s.get (Reg.SYNCE_CFG_QL_FREE p)
  else if st = 2 then s.get (Reg.SYNCE_CFG_QL_LOCKED p)
  else if st = 3 then s.get (Reg.SYNCE_CFG_QL_HOLD p)
  else if st = 4 then s.get (Reg.SYNCE_CFG_QL_EXCEEDED p)
  else s.get (Reg.SYNCE_CFG_QL_FREE p)

/-- Whether a port sends ESMC now. -/
def State.esmcOn (s : State) (p : Nat) : Bool := s.portUp p ∧ s.get (Reg.SYNCE_CFG_ESMC_TX_EN p) = 1

/-- A PDU put into its FIFO, where no more than 9 went in the second before (R316, R325). -/
def State.esmcSend (s : State) (p : Nat) (event : Bool) : State :=
  let r := s.port p
  let recent := r.esmcSent.filter fun a => decide (s.runNs < a + secNs)
  if 10 ≤ recent.length then s else
  let c := s.esmcCode p
  let s := s.setPort p { r with esmcSent := s.runNs :: recent }
  (s.setVar (.esmcCode p) (c + 1)).fifoPush p (s.ownTci p) (.esmc c event)

/-- A PDU at its launch: a frame of 64 bytes, and 4 with a tag, from LOCAL_MAC on either twin (R319, R325; log entry 198). -/
def State.launchEsmc (s : State) (p : Nat) (tci : Option Nat) (code : Nat) (event : Bool) : State :=
  if ¬ s.portUp p ∨ ¬ s.unitOn (0x8000 + p) then s else
  let s := s.stampTaken p
  { s with out := .esmc p code event :: s.out }.sent p (if tci.isSome then 68 else 64)

/-- ESMC_INFO_TX: once a second (R325). -/
def execEsmcInfoTx (p : Nat) (s : State) : Host.Outcome State Fault Refusal :=
  .next (if p < 4 ∧ s.esmcOn p ∧ s.due (.esmcInfo p) then (s.esmcSend p false).arm (.esmcInfo p) secNs else s)

/-- ESMC_EVENT_TX: within 100 ms of a change of the code sent (R325). -/
def execEsmcEventTx (p : Nat) (s : State) : Host.Outcome State Fault Refusal :=
  .next (
    if p < 4 ∧ s.esmcOn p ∧ s.var (.esmcCode p) ≠ 0 ∧ s.var (.esmcCode p) ≠ s.esmcCode p + 1 then s.esmcSend p true else s)

/-! ## Commands (R328) -/

def opPortSet : OpInfo := { op := 0x0C01, role := 2, carried := true }
def opLinkReset : OpInfo := { op := 0x0C02, role := 1 }

/-- PORT_SET's effect (R304, R306, R328). -/
def portSetEff (p off v role : Nat) (s : State) : Res :=
  let m := Reg.PORT_CFG_MODE p
  let f := Reg.PORT_CFG_FEC p
  if 4 ≤ p ∨ 0x174 < off then ⟨s, some Status.range, 0⟩
  else if off = 0 ∧ (4 < m.part v ∨ 2 < f.part v ∨ ¬ fecAllowed (m.part v) (f.part v)) then ⟨s, some Status.range, 0⟩
  else if off = 0 ∧ (s.unit (0x8000 + p)).st ≠ .disabled then ⟨s, some Status.busy, 0⟩
  else s.setWord role 0x0C01 (0x300000 + 0x4000 * p) (0x300178 + 0x4000 * p) (0x300000 + 0x4000 * p + off) v

/-- PORT_SET (R328). -/
def execPortSet (c : Ctx) (p off value : Nat) (s : State) : Host.Outcome State Fault Refusal :=
  .next (s.runCmd c opPortSet [p, off, value] fun role s => portSetEff p off value role s)

end Sys2Proof.Machine
end

