-- ==== Sys2Proof/Machine/Ntp.lean ====
section
/-! DEFINITION. The NTP and NTS service (R260 to R277): what is answered, timestamps in NTP format, reply headers, kiss
packets, NTS requests and their replies, the launch of held replies, NTP_SET. -/

namespace Sys2Proof.Machine

/-! ## Serving (R260, R264) -/

/-- Whether a port answers NTP now (R260). -/
def State.ntpServes (s : State) (p : Nat) : Bool := s.fbit Reg.NTP_CTRL_PORT_EN p ∧ s.portServes p ∧ s.serves

/-- Whether the engine is unsynchronised (R264). -/
def State.unsync (s : State) : Bool :=
  let st := s.get Reg.HOB_STATUS_STATE
  st = 0 ∨ st = 1 ∨ s.get Reg.HOB_STATUS_TEB_SAT = 1 ∨ (st = 4 ∧ s.get Reg.NTP_CTRL_EXCEEDED_UNSYNC = 1)

/-- The set of ports that answer judged anew, with 0x0520 when it changes (R260, R282). -/
def State.ntpUpdate (s : State) : State :=
  let old := s.get Reg.NTP_STATUS_SERVING
  let new := (List.range 4).foldl (fun a p => if s.ntpServes p then a + 2 ^ p else a) 0
  let s := (s.put Reg.NTP_STATUS_SERVING new).putB Reg.NTP_STATUS_UNSYNC s.unsync
  if old = new then s else s.raise evNtpServing [i1 old, i1 new]

/-! ## Time in NTP format (R266, R267) -/

/-- UTC_OFFSET that applies at an instant, in ns since the PTP epoch: CURRENT before L and NEXT from L on, NEXT also in the second
before an insertion's L (R266). An instant before a leap that was applied since takes the offset of before it. -/
def State.utcAt (s : State) (ns : Nat) : Int :=
  let cur := ofBits 16 (s.get Reg.UTC_OFFSET_CURRENT)
  let nxt := ofBits 16 (s.get Reg.UTC_OFFSET_NEXT)
  if s.get Reg.TCO_STATUS_LEAP_PENDING = 1 then
    if s.leapAt ≤ ns ∨ (s.leapSign = 1 ∧ s.leapAt ≤ ns + secNs) then nxt else cur
  else
    let l := (s.var .smearL).toNat * secNs
    if l ≤ ns ∨ (s.var .smearSign = 1 ∧ l ≤ ns + secNs) then cur else s.var .smearBefore

/-- Whether an instant lies in the smear window of a committed leap (R72). -/
def State.inSmear (s : State) (ns : Nat) : Bool :=
  s.var .smearL ≠ 0 ∧ (s.var .smearL - 43200) * secNs ≤ ns ∧ (ns : Int) ≤ (s.var .smearL + 43200) * secNs

/-- TAI less what is served at an instant, unit 2^-32 ns: UTC_OFFSET, or in the smear window CURRENT_before and the smear offset
truncated toward zero (R72, R266, R267). -/
def State.servedOffset (s : State) (t16 : Nat) (smear : Bool) : Int :=
  let ns := t16 / 65536
  if smear ∧ s.inSmear ns then
    s.var .smearBefore * secNs * 2 ^ 32
      + truncDiv (s.var .smearSign * ((t16 : Int) * 2 ^ 16 - (s.var .smearL - 43200) * secNs * 2 ^ 32)) 86400
  else s.utcAt ns * secNs * 2 ^ 32

/-- An instant of the Time Core, unit 2^-16 ns, as a 64-bit NTP timestamp, truncated (R266). -/
def State.ntpTime (s : State) (t16 : Nat) (smear : Bool) : Nat :=
  let x := (t16 : Int) * 2 ^ 16 - s.servedOffset t16 smear + 2208988800 * secNs * 2 ^ 32
  (x / secNs % 2 ^ 64).toNat

/-- Whether a class is served smeared time (R267). -/
def State.smeared (s : State) (cls : Nat) : Bool := s.get (Reg.NTP_CLASS_SMEAR cls) = 1 ∧ s.get Reg.TCO_CTRL_SMEAR_ALLOW = 1

/-- LI of a reply from the receive stamp (R263). -/
def State.leapInd (s : State) (t16 : Nat) (smear : Bool) : Nat :=
  let ns := t16 / 65536
  let code := fun (x : Int) => if x = 1 then 1 else 2
  if smear ∧ s.inSmear ns then 0
  else if s.get Reg.TCO_STATUS_LEAP_COMMITTED = 1 ∧ ns < s.leapAt then code s.leapSign
  else if s.get Reg.TCO_STATUS_LEAP_PENDING = 0 ∧ s.inSmear ns ∧ (ns : Int) < s.var .smearL * secNs then code (s.var .smearSign)
  else 0

/-! ## The reply header (R263 to R265) -/

/-- Root dispersion of TEB + an uncertainty in units of 2^-8 ns; a saturated sum is all ones (R134). -/
def State.rootDisp (s : State) (u : Nat) : Nat :=
  if 2 ^ 32 ≤ s.boundSum u then 0xFFFFFFFF else ceilDiv (s.boundSum u * 256) secNs

/-- Four characters as a reference ID. -/
def refChars (a b c d : Nat) : Nat := ((a * 256 + b) * 256 + c) * 256 + d

/-- The reference ID of a reply (R265). -/
def State.refId (s : State) : Nat :=
  let tr := s.get Reg.HOB_TRACE_TRACE
  let n := tr / 2 ^ 16 % 16
  let src := s.laneSrc n
  if ¬ bit tr 20 then refChars 0x49 0x4E 0x49 0x54
  else if s.get (Reg.NTP_REFID_REFID n) ≠ 0 then s.get (Reg.NTP_REFID_REFID n)
  else if src = 0x08 then refChars 0x47 0x4E 0x53 0x53
  else if 0x0C ≤ src ∧ src ≤ 0x0F then refChars 0x50 0x54 0x50 0
  else if 0x10 ≤ src ∧ src ≤ 0x13 then refChars 0x53 0x59 0x4E 0x43
  else if src = 0x14 then refChars 0x54 0x57 0x49 0x4E
  else if s.laneType n = 1 then refChars 0x50 0x50 0x53 0
  else refChars 0x46 0x52 0x45 0x51

/-- The reference timestamp's instant, unit 2^-16 ns, if there is one (R263). -/
def State.refInstant (s : State) : Option Nat :=
  if ¬ bit (s.get Reg.HOB_TRACE_TRACE) 20 then none
  else if s.boundAnchored then some (s.get64 Reg.HOB_T0_LO_T0_LO Reg.HOB_T0_HI_T0_HI * 65536)
  else some (s.var .refAt).toNat

/-- Poll of a reply: the greater of the request's and the class's MINPOLL, capped at 17 (R263, R269). -/
def replyPoll (req minPoll plus : Int) : Nat := toBits 8 (min 17 (max (req + plus) minPoll))

/-- The 48 bytes of a reply header: LI, VN, stratum and poll, root dispersion, the receive stamp, the transmit timestamp (R263). -/
def State.ntpHeader (s : State) (vn poll disp rx : Nat) (smear : Bool) (origin : List Byte) (tx : Nat) : List Byte :=
  let u := s.unsync
  let li := if u then 3 else s.leapInd rx smear
  let ref := match s.refInstant with
    | some t => s.ntpTime t smear
    | none => 0
  leBytes 1 (64 * li + 8 * vn + 4) ++ leBytes 1 (if u then 16 else 1) ++ leBytes 1 poll ++ leBytes 1 0xE2 ++ beBytes 4 0
    ++ beBytes 4 disp ++ beBytes 4 s.refId ++ beBytes 8 ref ++ origin ++ beBytes 8 (s.ntpTime rx smear) ++ beBytes 8 tx

/-- A kiss packet's header (R269). -/
def kissHeader (vn poll code : Nat) (origin : List Byte) : List Byte :=
  leBytes 1 (64 * 3 + 8 * vn + 4) ++ leBytes 1 0 ++ leBytes 1 poll ++ leBytes 1 0 ++ beBytes 4 0 ++ beBytes 4 0 ++ beBytes 4 code
    ++ beBytes 8 0 ++ origin ++ beBytes 8 0 ++ beBytes 8 0

/-- A kiss packet's place in the shared bucket, if it has one (R269). -/
def State.takeKiss (s : State) : Bool × State :=
  let rate : Int := s.get Reg.NTP_KOD_LIMIT_RATE
  let used := max 0 (s.var .kodUsed - rate * (s.runNs - s.var .kodAt))
  if used + secNs ≤ rate * secNs then (true, (s.setVar .kodUsed (used + secNs)).setVar .kodAt s.runNs)
  else (false, (s.setVar .kodUsed used).setVar .kodAt s.runNs)

/-- A plain request refused by a kiss code: counted, and the packet sent where the class's gate lets it and the bucket has room;
it counts against the responder budget (R269). -/
def State.kiss (s : State) (q : Peer) (pay : List Byte) (cls : Nat) (deny : Bool) : State :=
  let s := s.bump Reg.PLAIN_REFUSED_COUNT
  let gate := if deny then s.get (Reg.NTP_CLASS_KOD_DENY cls) else s.get (Reg.NTP_CLASS_KOD_RATE cls)
  if gate = 0 then s else
  let code := if deny then refChars 0x44 0x45 0x4E 0x59 else refChars 0x52 0x41 0x54 0x45
  match s.takeKiss with
  | (false, s) => (s.bump Reg.KOD_SUPPRESSED_COUNT).raiseNtp 2 .warning [i4 code]
  | (true, s) =>
    let poll := replyPoll (ofBits 8 (netField pay 2 1)) (s.get (Reg.NTP_CLASS_MINPOLL cls)) 1
    let hdr := kissHeader (netField pay 0 1 / 8 % 8) poll code ((pay.drop 40).take 8)
    let s := if deny then s else { s with clt := { s.clt with admitted := aput s.clt.admitted 3 (s.admittedOf 3 + 1) } }
    s.txPush q.key.port (replyTci q.key q.pcp) (.ntp ⟨q.key, q.sport, q.toB, hdr, [], false, true, none, 0⟩)

/-! ## Requests (R261, R262) -/

/-- What a request is (R261, R262). -/
inductive NtpKind where
  | plain | nts | mac | mode | version | toHost
  deriving DecidableEq, Repr

/-- A request sorted by version, mode and what follows its header (R261, R262). -/
def State.ntpKind (s : State) (pay : List Byte) : NtpKind :=
  let b := netField pay 0 1
  let vn := b / 8 % 8
  let mode := b % 8
  if vn ≠ 3 ∧ vn ≠ 4 then .version
  else if mode = 6 ∨ mode = 7 then (if s.get Reg.NTP_CTRL_NTP_TO_HOST = 1 then .toHost else .mode)
  else if mode ≠ 3 then .mode
  else
    let rest := pay.drop 48
    if rest.length = 20 ∨ rest.length = 24 then .mac
    else if vn = 4 ∧ (extFields rest.length rest).1.any fun f => f.1 = 0x0104 then .nts
    else .plain

/-- A request to a port that does not answer: counted and dropped; a STANDBY twin's table still learns its key (R260, R300). -/
def State.notServing (s : State) (q : Peer) (c : Nat) : State :=
  let s := s.bump Reg.NTP_NOT_SERVING_COUNT
  if s.get Reg.TWN_STATUS_ROLE = 3 then (s.letIn q c 1 0 false).2 else s

/-- A plain request, past its sorting (R263, R264, R269). -/
def State.plainRequest (s : State) (q : Peer) (rx : Nat) (pay : List Byte) : State :=
  let (a, s) := s.letIn q 3 1 0 false
  match a.verdict with
  | .refused => s
  | .shed => s.kiss q pay a.cls false
  | .admitted =>
    if s.get (Reg.NTP_CLASS_NTS_ONLY a.cls) = 1 then s.kiss q pay a.cls true
    else if s.unsync ∧ s.get Reg.NTP_CTRL_UNSYNC_DROP = 1 then s.bump Reg.UNSYNC_DROPPED_COUNT
    else
      let smear := s.smeared a.cls
      let poll := replyPoll (ofBits 8 (netField pay 2 1)) (s.get (Reg.NTP_CLASS_MINPOLL a.cls)) 0
      let hdr := s.ntpHeader (netField pay 0 1 / 8 % 8) poll (s.rootDisp (s.pPort q.key.port)) rx smear ((pay.drop 40).take 8) 0
      s.txPush q.key.port (replyTci q.key q.pcp) (.ntp ⟨q.key, q.sport, q.toB, hdr, [], smear, false, none, 0⟩)

/-- NTP_REQUEST: a request to port 123 that is no NTS request, with its payload (R260 to R264, R269). One of mode 3 shorter than a header is
received and not answered (log entry 194). -/
def execNtpRequest (q : Peer) (at_ : MiiAt) (pay : List Byte) (s : State) : Host.Outcome State Fault Refusal :=
  let q := { q with key := q.key.norm }
  .next (
    if 4 ≤ q.key.port ∨ pay = [] then s else
    match s.ntpKind pay with
    | .version => s.bump Reg.VERSION_DISCARD_COUNT
    | .mode => s.bump Reg.MODE_DISCARD_COUNT
    | .toHost => s
    | .nts => s
    | .mac =>
      let s := s.bump Reg.NTP_RX_COUNT
      if s.ntpServes q.key.port then s.bump Reg.MAC_UNSUPPORTED_COUNT else s.notServing q 3
    | .plain =>
      let s := s.bump Reg.NTP_RX_COUNT
      if pay.length < 48 then s
      else if s.ntpServes q.key.port then s.plainRequest q (s.rxStamp q.key.port at_) pay else s.notServing q 3)

/-! ## NTS (R271 to R276) -/

/-- An NTS request as its structure gives it (R273): Unique Identifier body, cookie, placeholders outside the authenticator, bytes
before the authenticator, its nonce and ciphertext. -/
structure NtsReq where
  uid   : List Byte
  cookie : List Byte
  holders : Nat
  ad    : List Byte
  nonce : List Byte
  ct    : List Byte

/-- The structure check of R273. -/
def ntsParse (pay : List Byte) : Option NtsReq :=
  let rest := pay.drop 48
  let (fs, ok) := extFields rest.length rest
  let uids := fs.filter fun f => decide (f.1 = 0x0104)
  let cks := fs.filter fun f => decide (f.1 = 0x0204)
  let phs := fs.filter fun f => decide (f.1 = 0x0304)
  match uids, cks, fs.getLast? with
  | [u], [c], some (t, a) =>
    let nl := netField a 0 2
    let cl := netField a 2 2
    if ok ∧ t = 0x0404 ∧ (fs.filter fun f => decide (f.1 = 0x0404)).length = 1 ∧ 32 ≤ u.2.length ∧ u.2.length ≤ 256
        ∧ c.2.length = 100 ∧ (phs.all fun f => decide (f.2.length = 100)) ∧ 16 ≤ nl ∧ nl ≤ 64 ∧ 16 ≤ cl
        ∧ 4 + ceilDiv nl 4 * 4 + cl ≤ a.length ∧ pay.length ≤ 1472
    then some ⟨u.2, c.2, phs.length, pay.take (pay.length - a.length - 4), (a.drop 4).take nl, (a.drop (4 + ceilDiv nl 4 * 4)).take cl⟩
    else none
  | _, _, _ => none

/-- The entry whose KEY_ID a cookie carries and which is usable at an instant (R272); one whose slot was erased opens nothing (R276). -/
def State.mkOf (s : State) (id t : Nat) : Option Nat :=
  (List.range 16).find? fun m => s.mkUsable m t && s.mkKeyed m && decide (s.get (Reg.MK_KEY_ID_KEY_ID m) = id)

/-- A failed check: its counter, and a failed verification in the client entry (R273, R285). -/
def State.ntsFail (s : State) (f : Fld) (slot : Option Nat) (verify : Bool) : State :=
  let s := s.bump f
  if verify then s.entryAuthFail slot else s

/-- Cookies cut until the reply is no longer than the request, or one is left (R273). -/
def trimCookies (uidLen reqLen : Nat) : Nat → Nat
  | 0 => 0
  | 1 => 1
  | c + 2 => if reqLen < 92 + uidLen + 104 * (c + 2) then trimCookies uidLen reqLen (c + 1) else c + 2

/-- An AES unit's work counted in blocks: the exact number where R277 gives one, else a free one up to its bound. -/
def State.aesBlocks (s : State) (exact upTo : Nat) : State :=
  let (v, s) := s.takeFree
  s.pmcEvent 6 0x10 { cls := some 2 } (exact + v % (upTo + 1))

/-- Exchanges charged to class NTS beyond those admitted: the placeholders inside the authenticator, known only once it is opened, count too
(R273, R277; DEDUCED, log entry 192). -/
def State.chargeMore (s : State) (n : Nat) : State :=
  if n = 0 then s else
  let eff := s.get Reg.CLT_AUTH_EFF_EFF
  let t := refillBucket s.clt.auth s.runNs eff (eff * secNs / 256)
  { s with clt := { s.clt with auth := some (t - n * secNs, s.runNs), demand := aput s.clt.demand 2 ((aget s.clt.demand 2).getD 0 + n)
                               admitted := aput s.clt.admitted 2 (s.admittedOf 2 + n) } }

/-- The reply to a verified NTS request: cookies sealed under the minting entry, the reply sealed under S2C and held for its promised
time (R273 to R275). -/
def State.ntsReply (s : State) (q : Peer) (rx : Nat) (pay : List Byte) (r : NtsReq) (keys : List Byte) (cls c : Nat) : State :=
  let p := q.key.port
  match s.minter s.linear with
  | none => (s.bump Reg.NO_MINT_KEY_COUNT).raiseNtp 4 .error []
  | some m =>
    if ¬ s.drbgGives then (s.bump Reg.NO_RANDOM_COUNT).raiseNtp 6 .error []
    else
      let n := trimCookies r.uid.length pay.length c
      let s := s.bumpBy Reg.COOKIES_TRIMMED_COUNT (c - n)
      let (cs, s) := s.cookies { cls := some 2 } m keys n
      let smear := s.smeared cls
      let tp := ceilDiv (rx + s.get Reg.NTP_CTRL_LAUNCH_LEAD * 1000 * 65536) 65536
      let disp := s.rootDisp (s.pPort p + qOf (s.mode p))
      let poll := replyPoll (ofBits 8 (netField pay 2 1)) (s.get (Reg.NTP_CLASS_MINPOLL cls)) 0
      let hdr := s.ntpHeader 4 poll disp rx smear ((pay.drop 40).take 8) (s.ntpTime (tp * 65536) smear)
      let uid := beBytes 2 0x0104 ++ beBytes 2 (4 + r.uid.length) ++ r.uid
      let (nonce, s) := s.draw 16
      let plain := cs.flatMap fun x => beBytes 2 0x0204 ++ beBytes 2 104 ++ x
      let ct := Crypto.sivSeal (keys.drop 32) [hdr ++ uid, nonce] plain
      let auth := beBytes 2 0x0404 ++ beBytes 2 (8 + 16 + ct.length) ++ beBytes 2 16 ++ beBytes 2 ct.length ++ nonce ++ ct
      let s := s.aesBlocks (25 * n) 24
      let tci := replyTci q.key q.pcp
      let i : TxItem := ⟨s.prioOf p tci, tci, .ntp ⟨q.key, q.sport, q.toB, hdr, uid ++ auth, smear, false, some tp, disp⟩⟩
      if s.rspOn then s.setPort p { s.port p with held := (s.port p).held ++ [i] } else s

/-- An NTS request past its structure check (R273). -/
def State.ntsOpen (s : State) (q : Peer) (rx : Nat) (pay : List Byte) (r : NtsReq) : State :=
  let mx := s.get Reg.NTP_CTRL_NTS_MAX_COOKIES
  let c := min (1 + r.holders) mx
  let (a, s) := s.letIn q 2 c c false
  if a.verdict ≠ .admitted then s
  else if s.unsync ∧ s.get Reg.NTP_CTRL_UNSYNC_DROP = 1 then s.bump Reg.UNSYNC_DROPPED_COUNT
  else
    let id := netField r.cookie 0 4
    match s.mkOf id (rx / 65536) with
    | none => (s.ntsFail Reg.COOKIE_KEY_UNKNOWN_COUNT a.slot false).raiseNtp 0 .warning [i4 id, i1 1]
    | some e =>
      if s.aeadOn = 0 then (s.ntsFail Reg.NTS_AUTH_BAD_COUNT a.slot false).raiseNtp 1 .warning [i1 q.key.port] else
      let key := match s.key (s.get (Reg.MK_CFG_KEY_SLOT e)) with
        | some k => k.key
        | none => []
      let s := s.pmcEvent 6 0x10 { cls := some 2 } 11
      match Crypto.sivOpen key [r.cookie.take 4, (r.cookie.drop 4).take 16] (r.cookie.drop 20) with
      | none => (s.ntsFail Reg.COOKIE_BAD_COUNT a.slot true).raiseNtp 0 .warning [i4 id, i1 2]
      | some keys =>
        let s := (s.bump (Reg.MK_OPENED_COUNT e)).pmcEvent 6 0x11 { cls := some 2 }
        match Crypto.sivOpen (keys.take 32) [r.ad, r.nonce] r.ct with
        | none => (s.ntsFail Reg.NTS_AUTH_BAD_COUNT a.slot true).raiseNtp 1 .warning [i1 q.key.port]
        | some plain =>
          let (fs, _) := extFields plain.length plain
          let more := (fs.filter fun f => decide (f.1 = 0x0304)).length
          if (fs.any fun f => decide (f.1 = 0x0204)) ∨ (fs.any fun f => decide (f.1 = 0x0304 ∧ f.2.length ≠ 100)) then
            s.bump Reg.NTS_MALFORMED_COUNT
          else
            let n := min (1 + r.holders + more) mx
            (s.chargeMore (n - c)).ntsReply q rx pay r keys a.cls n

/-- NTS_REQUEST: a VN 4 mode 3 request that carries a Unique Identifier, with its payload (R262, R273). -/
def execNtsRequest (q : Peer) (at_ : MiiAt) (pay : List Byte) (s : State) : Host.Outcome State Fault Refusal :=
  let q := { q with key := q.key.norm }
  .next (
    if 4 ≤ q.key.port ∨ pay.length < 48 ∨ s.ntpKind pay ≠ .nts then s else
    let s := s.bump Reg.NTP_RX_COUNT
    if ¬ s.ntpServes q.key.port then s.notServing q 2
    else if s.get Reg.NTP_CTRL_NTS_EN = 0 then s.bump Reg.NTS_MALFORMED_COUNT
    else match ntsParse pay with
      | none => s.bump Reg.NTS_MALFORMED_COUNT
      | some r => s.ntsOpen q (s.rxStamp q.key.port at_) pay r)

/-! ## Launch (R268, R274, R275) -/

/-- Length on the wire of a UDP payload to a client, from the destination address to the FCS. -/
def udpFrameLen (k : CKey) (tci : Option Nat) (n : Nat) : Nat := max 64 (14 + (if tci.isSome then 4 else 0) + (if k.kind = 0 then 20 else 40) + 8 + n + 4)

/-- How an NTP reply is carried: from port 123 to the client's, over its address type, the checksum made good for the bytes that leave (R268; log
entry 193). -/
def State.ntpCarriage (s : State) (p : Nat) (m : NtpMsg) (bytes : List Byte) : Carriage :=
  let src := s.ownIp p m.dst.kind m.fromB
  let dst := if m.dst.kind = 0 then m.dst.addr % 2 ^ 32 else m.dst.addr
  ⟨none, if m.dst.kind = 0 then 0x0800 else 0x86DD, some ⟨src, dst, 123, m.dport, 8 + bytes.length, udpSum m.dst.kind src dst 123 m.dport bytes, []⟩⟩

/-- A plain reply or a kiss packet leaving: the port writes the transmit timestamp and the root dispersion (R268). -/
def State.launchNtp (s : State) (p t : Nat) (tci : Option Nat) (m : NtpMsg) : State :=
  let s := s.stampTaken p (some 3)
  let st := s.txStamp p t
  let bytes := if m.kiss then m.hdr
    else m.hdr.take 8 ++ beBytes 4 (s.rootDisp (s.pPort p)) ++ (m.hdr.drop 12).take 28 ++ beBytes 8 (s.ntpTime st m.smear)
  let s := { s with out := .ntp p tci m.dst (bytes ++ m.ext) (s.ntpCarriage p m (bytes ++ m.ext)) :: s.out }
  ((s.sent p (udpFrameLen m.dst tci (bytes.length + m.ext.length)) (some 3)).bump Reg.NTP_TX_COUNT).pmcEvent 5 0x12 { cls := some 3 }

/-- The earlier of two held replies by promised time. -/
def earlierHeld (a : Option (TxItem × NtpMsg × Nat)) (i : TxItem) : Option (TxItem × NtpMsg × Nat) :=
  match i.body with
  | .ntp m =>
    match m.tp, a with
    | some t, some x => if t < x.2.2 then some (i, m, t) else a
    | some t, none => some (i, m, t)
    | none, _ => a
  | _ => a

/-- NTS_LAUNCH: the held reply with the earliest promised time at the launch point at a time of the MII boundary: it leaves within
Q_port of T_p, and is dropped when it comes later or when its sealed dispersion is too small by then (R274, R275). -/
def execNtsLaunch (p t : Nat) (s : State) : Host.Outcome State Fault Refusal :=
  .next (
    if 4 ≤ p then s else
    match ((s.port p).held.foldl earlierHeld none) with
    | none => s
    | some (i, m, tp) =>
      let st := s.txStamp p t
      if st < tp * 65536 ∨ s.halted p i.prio then s else
      let s := s.setPort p { s.port p with held := dropFirst (fun j => decide (j = i)) (s.port p).held }
      if tp * 65536 + qOf (s.mode p) * 256 < st ∨ ¬ s.portUp p ∨ ¬ s.unitOn (0x8000 + p) then s.bump Reg.NTP_TX_LATE_DROP_COUNT
      else
        let s := s.stampTaken p (some 2)
        let now := s.rootDisp (s.pPort p + qOf (s.mode p))
        if m.disp < now then (s.bump Reg.NTP_STALE_DROP_COUNT).raiseNtp 5 .warning [i1 p, i4 m.disp, i4 now]
        else
          let s := { s with out := .ntp p i.tci m.dst (m.hdr ++ m.ext) (s.ntpCarriage p m (m.hdr ++ m.ext)) :: s.out }
          ((s.sent p (udpFrameLen m.dst i.tci (m.hdr.length + m.ext.length)) (some 2)).bump Reg.NTS_TX_COUNT).pmcEvent 5 0x12 { cls := some 2 })

/-! ## NTP_SET (R272, R281) -/

def opNtpSet : OpInfo := { op := 0x0A01, role := 2, carried := true }

/-- Whether a word of a master-key entry would leave it VALID with the KEY_ID of another VALID entry, or with a slot that holds no
NTS_MASTER key (R272). -/
def State.mkClash (s : State) (m word v : Nat) : Bool :=
  let valid := if word = 0 then v % 2 = 1 else s.get (Reg.MK_CFG_VALID m) = 1
  let slot := if word = 0 then (Reg.MK_CFG_KEY_SLOT m).part v else s.get (Reg.MK_CFG_KEY_SLOT m)
  let id := if word = 4 then v else s.get (Reg.MK_KEY_ID_KEY_ID m)
  decide valid && (decide (s.usage slot ≠ 3) || (List.range 16).any fun k =>
    decide (k ≠ m ∧ s.get (Reg.MK_CFG_VALID k) = 1 ∧ s.get (Reg.MK_KEY_ID_KEY_ID k) = id))

/-- NTP_SET's effect (R272, R281). -/
def ntpSetEff (off v role : Nat) (s : State) : Res :=
  let m := (off - 0x1400) / 0x20
  let w := (off - 0x1400) % 0x20
  if ¬ (0x1000 ≤ off ∧ off ≤ 0x15FC) then ⟨s, some Status.range, 0⟩
  else if 0x1400 ≤ off ∧ s.mkHolds m ∧ (w = 4 ∨ (w = 0 ∧ (Reg.MK_CFG_KEY_SLOT m).part v ≠ s.get (Reg.MK_CFG_KEY_SLOT m)))
    then ⟨s, some Status.busy, 0⟩
  else if 0x1400 ≤ off ∧ s.mkClash m w v then ⟨s, some Status.range, 0⟩
  else
    let r := s.setWord role 0x0A01 0x341000 0x341600 (0x340000 + off) v
    if r.st = some Status.ok then ⟨r.s.mintUpdate.ntpUpdate, r.st, 0⟩ else r

/-- NTP_SET (R281). -/
def execNtpSet (c : Ctx) (off value : Nat) (s : State) : Host.Outcome State Fault Refusal :=
  .next (s.runCmd c opNtpSet [off, value] fun role s => ntpSetEff off value role s)

end Sys2Proof.Machine
end

