-- ==== Sys2Proof/Machine/Ptp.lean ====
section
/-! DEFINITION. PTP instances and the master side of the service (R232 to R250): profiles, states, security associations,
messages composed, answered and finished at the MII boundary, unicast negotiation and the grant calendar. -/

namespace Sys2Proof

/-- A grant word set in an entry by message type. -/
def CltEntry.withGrant (e : CltEntry) (typ : Nat) (g : Grant) : CltEntry :=
  if typ = 0 then { e with announce := g } else if typ = 1 then { e with sync := g } else { e with delayResp := g }

/-- A source as the table knows it. -/
def PtpIn.norm (q : PtpIn) : PtpIn := { q with peer := { q.peer with key := q.peer.key.norm } }

end Sys2Proof

namespace Sys2Proof.Machine

/-! ## Profiles (R233) -/

/-- What a profile allows: ranges and defaults of the log intervals of Sync, Announce and delay requests, and of domainNumber. -/
structure Profile where
  sync : Int × Int × Int
  ann  : Int × Int × Int
  dly  : Int × Int × Int
  dom  : Nat × Nat

/-- The table of R233; the delay-request range of PROFILE 2 depends on logSyncInterval. -/
def profileOf (n : Nat) (sync : Int) : Profile :=
  if n = 2 then ⟨(-7, -1, -3), (-3, 1, -2), (sync, sync + 5, -3), (0, 127)⟩
  else if n = 3 then ⟨(-4, -4, -4), (-3, -3, -3), (-4, -4, -4), (24, 43)⟩
  else if n = 4 then ⟨(-7, 0, -4), (-3, 0, 0), (-7, 0, -4), (44, 63)⟩
  else ⟨(-1, 1, 0), (0, 4, 1), (0, 5, 0), (0, 127)⟩

/-- A log field's value, or the profile's default for 0x7F. -/
def logOr (raw : Nat) (r : Int × Int × Int) : Int := if raw = 0x7F then r.2.2 else ofBits 8 raw

/-- Whether a log interval lies in a profile's range. -/
def logIn (x : Int) (r : Int × Int × Int) : Bool := r.1 ≤ x ∧ x ≤ r.2.1

/-- An instance's profile number, its profile, and its log intervals. -/
def State.prof (s : State) (k : Nat) : Nat := s.get (Reg.PTP_INST_CFG_PROFILE k)
@[inherit_doc State.prof] def State.logSync (s : State) (k : Nat) : Int :=
  logOr (s.get (Reg.PTP_INST_INTV_LOG_SYNC k)) (profileOf (s.prof k) 0).sync
@[inherit_doc State.prof] def State.profile (s : State) (k : Nat) : Profile := profileOf (s.prof k) (s.logSync k)
@[inherit_doc State.prof] def State.logAnn (s : State) (k : Nat) : Int :=
  logOr (s.get (Reg.PTP_INST_INTV_LOG_ANNOUNCE k)) (s.profile k).ann
@[inherit_doc State.prof] def State.logDly (s : State) (k : Nat) : Int :=
  logOr (s.get (Reg.PTP_INST_INTV_LOG_DELAY k)) (s.profile k).dly

/-- Nanoseconds of a log interval. -/
def intervalNs (l : Int) : Nat := if l < 0 then secNs / 2 ^ l.natAbs else secNs * 2 ^ l.natAbs

/-- Whether what is sent at the boundaries of a log interval is due at this TCLK edge: a multiple of the interval is crossed (R59, R236), and nothing of
its series was sent at this edge, noted plus 1. -/
def State.dueAt (s : State) (l : Int) (last : Nat) : Bool := s.crosses (intervalNs l) && decide (last ≠ s.tc.edges + 1)

/-- Messages per second of a log interval, rounded up (R243). -/
def ratePerSec (l : Int) : Nat := if l < 0 then 2 ^ l.natAbs else 1

/-- The transports an instance uses: 0 L2, 1 UDP over IPv4, 2 UDP over IPv6, as far as its profile has them (R233). -/
def State.transports (s : State) (k : Nat) : List Nat :=
  let n := s.prof k
  (List.range 3).filter fun t => s.fbit (Reg.PTP_INST_CFG_TRANSPORT k) t && decide (if n = 3 then t = 0 else if n = 2 ∨ n = 4 then t ≠ 0 else True)

/-- The transport of an address type. -/
def transOf (kind : Nat) : Nat := if kind = 2 then 0 else kind + 1

/-- PTP_CLOCK_ID. -/
def State.clockId (s : State) : Nat := s.get64 Reg.PTP_CLOCK_ID_LO_ID_LO Reg.PTP_CLOCK_ID_HI_ID_HI

/-- An instance's record, state and role: 0 SERVICE, 1 UPSTREAM. -/
def State.inst (s : State) (k : Nat) : InstRec := (aget s.insts k).getD {}
@[inherit_doc State.inst] def State.setInst (s : State) (k : Nat) (r : InstRec) : State := { s with insts := aput s.insts k r }
@[inherit_doc State.inst] def State.instSt (s : State) (k : Nat) : Nat := s.get (Reg.PTP_INST_STATE_STATE k)
@[inherit_doc State.inst] def State.instRole (s : State) (k : Nat) : Nat := s.get (Reg.PTP_INST_CFG_ROLE k)

/-- The ports of an instance that serve now (R236). -/
def State.instPorts (s : State) (k : Nat) : List Nat := (List.range 4).filter fun p => s.fbit (Reg.PTP_INST_CFG_PORTS k) p && s.portServes p

/-- The UPSTREAM instance that runs on a port (R251). -/
def State.upInst (s : State) (p : Nat) : Option Nat := (List.range 4).find? fun k => s.instOn k p && decide (s.instRole k = 1)

/-! ## Security associations (R246 to R248) -/

/-- The better of two SAs: the later FROM, and among equals the lower number, which comes first. -/
def State.laterSa (s : State) (a : Option Nat) (i : Nat) : Option Nat :=
  match a with
  | none => some i
  | some x => if 0 < linDiff (s.saFrom i) (s.saFrom x) then some i else some x

/-- The latest usable SA of an instance that has TX and meets a condition. -/
def State.txSa (s : State) (k : Nat) (q : Nat → Bool) : Option Nat :=
  (((List.range 8).map (8 * k + ·)).filter fun i => s.saUsable i s.linear && decide (s.get (Reg.SA_CFG_TX i) = 1) && q i).foldl s.laterSa none

/-- The SA that signs an instance's multicast messages (R248). -/
def State.groupSa (s : State) (k : Nat) : Option Nat := s.txSa k fun i => decide (s.get (Reg.SA_CFG_GROUP i) = 1)

/-- The SA that signs the reply to a message an SA verified (R248). -/
def State.replySa (s : State) (k i : Nat) : Option Nat :=
  if s.saUsable i s.linear ∧ s.get (Reg.SA_CFG_TX i) = 1 then some i
  else s.txSa k fun j => decide (s.get (Reg.SA_CFG_SPP j) = s.get (Reg.SA_CFG_SPP i))

/-- A message signed with an SA is counted as a use of it. -/
def State.useSa (s : State) (i : Option Nat) : State :=
  match i with
  | some i => s.bump (Reg.SA_USES_COUNT i)
  | none => s

/-- What an SA is to sign (R248): what a message of the kind is sent with, or that it is not sent. -/
inductive Sign where
  | send (sa : Option Nat)
  | hold

/-- The signature of a multicast message: the group SA; without one nothing under OPTIONAL, and no message under REQUIRED, where
NO_TX_SA and 0x051A set (R248). -/
def State.signGroup (s : State) (k : Nat) : Sign × State :=
  let auth := s.get (Reg.PTP_INST_CFG_AUTH k)
  if auth = 0 then (.send none, s) else
  match s.groupSa k with
  | some i => (.send (some i), (s.put (Reg.PTP_INST_STATE_NO_TX_SA k) 0).useSa (some i))
  | none =>
    if auth = 1 then (.send none, s)
    else (.hold, (s.put (Reg.PTP_INST_STATE_NO_TX_SA k) 1).raise (evPtp 9 .error) [i1 k])

/-- The signature of a message to a client whose grant was verified or not; a verified one is never served without a signature:
the message then counts in AUTH_FAIL (R248). -/
def State.signClient (s : State) (k : Nat) (signed : Bool) : Sign × State :=
  if s.get (Reg.PTP_INST_CFG_AUTH k) = 0 ∨ ¬ signed then (.send none, s) else
  match s.txSa k fun _ => true with
  | some i => (.send (some i), s.useSa (some i))
  | none => (.hold, s.bump (Reg.AUTH_FAIL_COUNT k))

/-- The signature of a reply: none for a message that was not verified (R247, R248). -/
def State.signReply (s : State) (k : Nat) (by_ : Option Nat) : Sign × State :=
  match by_ with
  | none => (.send none, s)
  | some i =>
    match s.replySa k i with
    | some j => (.send (some j), s.useSa (some j))
    | none => (.hold, s.bump (Reg.AUTH_FAIL_COUNT k))

/-- The key of an SA. -/
def State.saKey (s : State) (i : Nat) : List Byte :=
  match s.key (s.get (Reg.SA_CFG_KEY_SLOT i)) with
  | some k => k.key
  | none => []

/-- What a message's ICV is computed over: its octets up to the ICV, the correctionField taken as 0 (R245). -/
def icvOver (msg : List Byte) : List Byte := msg.take 8 ++ List.replicate (min 8 (msg.length - 8)) 0 ++ msg.drop 16

/-- Whether an SA verifies an AUTHENTICATION TLV at an instant (R245 to R247). -/
def State.saVerifies (s : State) (a : AuthTlv) (t i : Nat) : Bool :=
  s.saUsable i t && decide (s.get (Reg.SA_CFG_SPP i) = a.spp ∧ s.get (Reg.SA_KEY_ID_KEY_ID i) = a.keyId
    ∧ Crypto.ptpIcv (s.get (Reg.SA_CFG_ALG i)) (s.saKey i) (icvOver a.body) = a.icv)

/-- AUTH_FAIL of an instance, 0x0511 at most once a second (R247). -/
def State.authFail (s : State) (k spp keyId : Nat) : State :=
  (s.bump (Reg.AUTH_FAIL_COUNT k)).raiseGap (.ptpRaised 0 k) secNs (evPtp 0 .warning) [i1 k, i1 spp, i4 keyId]

/-- A received message put to R247 at its receive stamp (ns): handled, with the SA that verified it; or discarded. -/
def State.verify (s : State) (k : Nat) (auth : Option AuthTlv) (t : Nat) : Option (Option Nat) × State :=
  let mode := s.get (Reg.PTP_INST_CFG_AUTH k)
  if mode = 0 then (some none, s) else
  match auth with
  | none => if mode = 1 then (some none, s) else (none, s.bump (Reg.AUTH_MISSING_COUNT k))
  | some a =>
    if a.ind = 0 ∧ a.last ∧ a.icv.length = 16 then
      match ((List.range 8).map (8 * k + ·)).find? (s.saVerifies a t) with
      | some i => (some (some i), s.useSa (some i))
      | none => (none, s.authFail k a.spp a.keyId)
    else (none, s.authFail k a.spp a.keyId)

/-! ## What messages carry (R235, R249, R250) -/

/-- The lane selected now, with its source. -/
def State.curSource (s : State) : Option (Nat × Nat) :=
  if s.get Reg.SEL_STATUS_CUR_VALID = 1 then some (s.get Reg.SEL_STATUS_CUR, s.laneSrc (s.get Reg.SEL_STATUS_CUR)) else none

/-- The parent's last Announce where BC_MODE applies: a lane fed by an upstream instance with BC_MODE is selected (R251). -/
def State.bcParent (s : State) : Option AnnounceBody :=
  match s.curSource with
  | some (_, src) =>
    if 0x0C ≤ src ∧ src ≤ 0x0F then
      match s.upInst (src - 0x0C) with
      | some k =>
        if s.get (Reg.PTP_INST_CFG_BC_MODE k) = 1 then
          match (s.inst k).parent with
          | some (c, n) => ((s.inst k).foreign.find? fun f => decide (f.clock = c ∧ f.portNo = n)).map (·.body)
          | none => none
        else none
      | none => none
    else none
  | none => none

/-- timeSource of R235. -/
def State.timeSource (s : State) : Nat :=
  match s.curSource with
  | some (_, src) =>
    if src = 0x08 then 0x20 else if (0x0C ≤ src ∧ src ≤ 0x0F) ∨ src = 0x14 then 0x40 else if src < 8 then 0x90 else 0xA0
  | none => if s.get Reg.HOB_STATUS_ATOMIC_USE = 1 then 0x10 else 0xA0

/-- The Announce fields of a SERVICE instance for a port, composed now (R235, R251). -/
def State.announceBody (s : State) (k p : Nat) : AnnounceBody :=
  let telecom := decide (3 ≤ s.prof k)
  let cls := if telecom then s.get Reg.HOB_STATUS_CC_TELECOM else s.get Reg.HOB_STATUS_CC_DEFAULT
  let good := decide (cls = 6 ∨ cls = 7)
  let freq := match s.curSource with
    | some (n, _) => decide (s.laneType n = 0)
    | none => false
  let pending := decide (s.get Reg.TCO_STATUS_LEAP_COMMITTED = 1 ∧ s.ns < s.leapAt)
  let passed := decide (s.get Reg.TCO_STATUS_LEAP_PENDING = 1 ∧ s.leapAt ≤ s.ns)
  let b : AnnounceBody :=
    { cls, accuracy := clockAccuracy (s.boundSum (s.pPort p)), variance := if good then 0x4E5D else 0xFFFF
      prio1 := s.get (Reg.PTP_INST_PRIO_PRIORITY1 k), prio2 := s.get (Reg.PTP_INST_PRIO_PRIORITY2 k), gm := s.clockId, steps := 0
      utcOffset := ofBits 16 (if passed then s.get Reg.UTC_OFFSET_NEXT else s.get Reg.UTC_OFFSET_CURRENT)
      utcValid := decide (s.get Reg.UTC_OFFSET_CURRENT ≠ 0), leap61 := pending && decide (s.leapSign = 1)
      leap59 := pending && decide (s.leapSign ≠ 1), ptpScale := true, timeTrace := good, freqTrace := good || freq
      source := s.timeSource, localPrio := if telecom then some (s.get (Reg.PTP_INST_PRIO_LOCAL_PRIORITY k)) else none }
  match s.bcParent with
  | some q => { b with gm := q.gm, prio1 := q.prio1, prio2 := q.prio2, source := q.source, steps := q.steps + 1 }
  | none => b

/-- TIME_BOUND for a port now: BOUND, TRACE, FLAGS, LANE_TYPE (R249). FLAGS shows BC_MODE while R251's fields are sent. -/
def State.timeBound (s : State) (p : Nat) : Nat × Nat × Nat × Nat :=
  let tr := s.get Reg.HOB_TRACE_TRACE
  (s.bound (s.pPort p), tr,
    s.get Reg.HOB_STATUS_STATE + 8 * s.get Reg.HOB_STATUS_TEB_SAT + 16 * (s.stampFlags p % 2) + 32 * (s.stampFlags p / 2)
      + 64 * b2n s.bcParent.isSome,
    if bit tr 20 then s.laneType (tr / 2 ^ 16 % 16) else 0xFF)

/-- The TIME_BOUND of an instance's message: none while TLV_EN is 0 (R250). -/
def State.tlvFor (s : State) (k p : Nat) : Option (Nat × Nat × Nat × Nat) :=
  if s.get (Reg.PTP_INST_CFG_TLV_EN k) = 1 then some (s.timeBound p) else none

/-! ## Messages composed (R237 to R239) -/

/-- The tag a message that answers nothing is sent to a client with: the client's VLAN, TX_PCP. -/
def State.clientTci (s : State) (c : CKey) : Option Nat := replyTci c (s.get (Reg.VLAN_CTRL_TX_PCP c.port))

/-- A Sync for a port: unauthenticated, the port fills it in flight; authenticated, it promises a whole nanosecond no earlier than now. -/
def State.composeSync (s : State) (k p trans : Nat) (dst : Option CKey) (seq : Nat) (log : Int) (sa : Option Nat) : PtpMsg :=
  { typ := 0, inst := k, trans, dst, seq, log, sa, tlv := s.tlvFor k p
    time := if sa.isSome then ceilDiv s.tc.time nsUnit else 0, promised := sa.isSome }

/-- An Announce for a port. -/
def State.composeAnnounce (s : State) (k p trans : Nat) (dst : Option CKey) (seq : Nat) (log : Int) (sa : Option Nat) : PtpMsg :=
  { typ := 11, inst := k, trans, dst, seq, log, sa, tlv := s.tlvFor k p, body := some (s.announceBody k p) }

/-- One message on every serving port and transport of an instance, by multicast. -/
def State.toAll (s : State) (k : Nat) (f : State → Nat → Nat → PtpMsg) : State :=
  (s.instPorts k).foldl (fun s p => (s.transports k).foldl (fun s t => s.txPush p (s.ownTci p) (.ptp (f s p t))) s) s

/-- A sequenceId one up, at 16 bits. -/
def seqUp (n : Nat) : Nat := (n + 1) % 65536

/-- A multicast Sync of an instance, once on every port and transport. -/
def State.syncAll (s : State) (k : Nat) : State :=
  match s.signGroup k with
  | (.hold, s) => s
  | (.send sa, s) =>
    let r := s.inst k
    (s.setInst k { r with seqSync := seqUp r.seqSync }).toAll k fun s p t => s.composeSync k p t none r.seqSync (s.logSync k) sa

/-- A multicast Announce of an instance. -/
def State.announceAll (s : State) (k : Nat) : State :=
  match s.signGroup k with
  | (.hold, s) => s
  | (.send sa, s) =>
    let r := s.inst k
    (s.setInst k { r with seqAnn := seqUp r.seqAnn }).toAll k fun s p t => s.composeAnnounce k p t none r.seqAnn (s.logAnn k) sa

/-! ## Instance states (R236) -/

/-- An instance's state set: the bits that show it, and 0x0510 when it changes. -/
def State.setInstSt (s : State) (k v : Nat) : State :=
  let old := s.instSt k
  let s := (s.put (Reg.PTP_INST_STATE_STATE k) v).putBit Reg.PTP_STATUS_SERVING k (decide (v = 2))
  if old = v then s else s.raise evInstState [i1 k, i1 old, i1 v]

/-- Whether an instance may be SERVING: a port of it serves and, for a SERVICE one, SERVE_FREERUN is 1 or the discipline is neither
FREERUN nor ACQUIRING. -/
def State.mayServe (s : State) (k : Nat) : Bool :=
  (s.instPorts k ≠ []) && (decide (s.instRole k = 1) || decide (s.get (Reg.PTP_INST_CFG_SERVE_FREERUN k) = 1)
    || decide (2 ≤ s.get Reg.HOB_STATUS_STATE))

/-- An instance begins to serve: its first Announce at once, its first Sync at the next interval boundary; PROFILE 4 sends only
what is granted. -/
def State.enterServing (s : State) (k : Nat) : State :=
  let s := s.setInstSt k 2
  let s := s.setInst k { s.inst k with lastSync := s.tc.edges + 1, lastAnn := s.tc.edges + 1, lastDly := s.tc.edges + 1 }
  if s.instRole k = 0 ∧ s.prof k ≠ 4 then s.announceAll k else s

/-- The sequenceIds of an instance in the last baton: Sync, Announce, Signaling (R339). -/
def State.batonSeq (s : State) (k j : Nat) : Nat :=
  match s.twin.baton with
  | some b => b.ptpSeq.getD (3 * k + j) 0
  | none => 0

/-- A promoted instance resumes its counters 256 past the last baton's (R236). -/
def State.resumeSeq (s : State) (k : Nat) : State :=
  s.setInst k { s.inst k with
    seqSync := (s.batonSeq k 0 + 256) % 65536, seqAnn := (s.batonSeq k 1 + 256) % 65536, seqSig := (s.batonSeq k 2 + 256) % 65536 }

/-- An instance's state judged by R236. -/
def State.ptpJudge (s : State) (k : Nat) : State :=
  let st := s.instSt k
  let s := s.put (Reg.PTP_INST_STATE_PORTS_SERVING k)
    (if st = 0 then 0 else (s.instPorts k).foldl (fun a p => a + 2 ^ p) 0)
  if st = 0 then s
  else if s.follower then (if st = 3 then s else s.setInstSt k 3)
  else if st = 3 then (if s.serves then (s.resumeSeq k).enterServing k else s)
  else if st = 1 then (if s.mayServe k ∧ s.serves then s.enterServing k else s)
  else if s.mayServe k ∧ s.serves then s else s.setInstSt k 1

/-- Every instance judged. -/
def State.ptpJudgeAll (s : State) : State := (List.range 4).foldl (fun s k => s.ptpJudge k) s

/-! ## The grant calendar (R243, R244, R290) -/

/-- Whether a calendar record has not expired at this instant, and whether its grant is live: begun and not expired (R244). -/
def State.grantRuns (s : State) (g : CalRec) : Bool := 0 < linDiff g.expiry s.linear
@[inherit_doc State.grantRuns] def State.grantLive (s : State) (g : CalRec) : Bool := ! g.waits && s.grantRuns g

/-- Messages per second a calendar record counts: a renewal that waits for its GRANT's transmit instant counts from its decision on any increase in
rate (R243, R244; log entry 33). -/
def CalRec.use (g : CalRec) : Nat :=
  match g.next with
  | some (l, _) => max (ratePerSec g.log) (ratePerSec l)
  | none => ratePerSec g.log

/-- The record of a client and message type. -/
def State.grantOf (s : State) (c : CKey) (typ : Nat) : Option CalRec := s.clt.calendar.find? fun g => decide (g.key = c ∧ g.typ = typ)

/-- GRANT_USE and GRANT_SLAVES of an instance counted from the calendar. -/
def State.countGrants (s : State) (k : Nat) : State :=
  let gs := s.clt.calendar.filter fun g => decide (g.inst = k)
  (s.put (Reg.PTP_GRANT_USE_USE k) (gs.map CalRec.use).sum).put (Reg.PTP_GRANT_SLAVES_COUNT k) (gs.map (·.key)).eraseDups.length

/-- A grant released whole: its calendar record and the grant word of its client's entry. -/
def State.release (s : State) (c : CKey) (typ : Nat) : State :=
  match s.grantOf c typ with
  | none => s
  | some g =>
    let s := { s with clt := { s.clt with calendar := s.clt.calendar.filter fun x => decide (¬ (x.key = c ∧ x.typ = typ)) } }
    let s := match s.findEntry c with
      | some (n, _) => s.modEntry n fun e => e.withGrant typ {}
      | none => s
    s.countGrants g.inst

/-- A record put into the calendar, in place of one of the same client and type. -/
def State.putCal (s : State) (g : CalRec) : State :=
  let s := match s.grantOf g.key g.typ with
    | some o => if o.inst = g.inst then s else s.release g.key g.typ
    | none => s
  { s with clt := { s.clt with calendar := (s.clt.calendar.filter fun (x : CalRec) => decide (¬ (x.key = g.key ∧ x.typ = g.typ))) ++ [g] } }.countGrants g.inst

/-- A grant entered as it begins: its calendar record, and the grant word of its client's entry; a new Delay_Resp grant fills PTP_TOKENS (log
entry 33). -/
def State.enterGrant (s : State) (g : CalRec) : State :=
  let had := match s.grantOf g.key g.typ with
    | some o => ! o.waits
    | none => false
  let s := s.putCal g
  match s.findEntry g.key with
  | some (n, _) => s.modEntry n fun e =>
      let e := e.withGrant g.typ ⟨g.expiry % 2 ^ 56, g.log, g.inst, true⟩
      if g.typ = 2 ∧ ! had then { e with ptpTokens := 512 } else e
  | none => s

/-- A grant decided, which begins at the transmit instant of its GRANT: until then the budget holds it, and a renewal leaves the grant it renews to run
(R243, R244). -/
def State.awaitGrant (s : State) (g : CalRec) : State :=
  match s.grantOf g.key g.typ with
  | some o => s.putCal (if o.inst = g.inst ∧ ! o.waits then { o with next := some (g.log, g.expiry) } else { g with waits := true })
  | none => s.putCal { g with waits := true }

/-- A record put into the client-grant journal of an ACTIVE twin: KIND 4 grant, 5 cancellation, with client key, instance, message type and grant
word (R340, R354). -/
def State.sendGrant (s : State) (kind : Nat) (c : CKey) (k typ word : Nat) : State :=
  if s.get Reg.TWN_STATUS_ROLE = 2 then
    let seq := s.twin.grantSeq + 1
    let r : JournalRec := ⟨seq, kind, 0, s.side, 0, 0, c.params ++ [(k : Int), typ, word]⟩
    { s with twin := { s.twin with
      grantSeq := seq, grants := (s.twin.grants ++ [r]).drop (s.twin.grants.length + 1 - 65536) } }.sendRecord r
  else s

/-- A Signaling message to a client of an instance. -/
def State.signaling (s : State) (k : Nat) (c : CKey) (tlvs : List NegTlv) (sa : Option Nat) (fromB : Bool := false) : PtpMsg × State :=
  let r := s.inst k
  ({ typ := 12, inst := k, trans := transOf c.kind, dst := some c, seq := r.seqSig, log := 0x7F, sa, neg := tlvs, fromB },
    s.setInst k { r with seqSig := seqUp r.seqSig })

/-- A grant cancelled by the engine: CANCEL_UNICAST_TRANSMISSION once, where this twin serves; the grant ends (R236, R257). -/
def State.cancelGrant (s : State) (g : CalRec) : State :=
  let s := s.release g.key g.typ
  if ¬ s.serves ∨ ¬ s.portServes g.key.port then s else
  match s.signClient g.inst g.signed with
  | (.hold, s) => s
  | (.send sa, s) =>
    let (m, s) := s.signaling g.inst g.key [⟨2, g.typ, g.log, 0⟩] sa
    s.txPush g.key.port (s.clientTci g.key) (.ptp m)

/-- A grant at its expiry: released whole, but for a renewal that still waits for its GRANT to be sent, which is then a grant that begins with it
(R243, R244). -/
def State.grantOver (s : State) (g : CalRec) : State :=
  let s := s.release g.key g.typ
  match g.next with
  | some (l, e) => s.putCal { g with log := l, expiry := e, waits := true, next := none }
  | none => s

/-- GRANT_EXPIRY: a grant's expiry instant on the calendar (R243, R244, R290). -/
def execGrantExpiry (c : CKey) (typ : Nat) (s : State) : Host.Outcome State Fault Refusal :=
  .next (
    match s.grantOf c.norm typ with
    | some g => if s.grantRuns g then s else s.grantOver g
    | none => s)

/-! ## Negotiation (R242 to R244) -/

/-- What R242 decides: refused by rule 1, denied by a rule, granted for some seconds. -/
inductive Decision where
  | refused
  | denied (rule : Nat)
  | granted (dur : Nat)

/-- The log range of a message type in an instance's profile. -/
def State.grantRange (s : State) (k typ : Nat) : Int × Int × Int :=
  if typ = 0 then (s.profile k).ann else if typ = 1 then (s.profile k).sync else (s.profile k).dly

/-- A request decided by the rules of R242 in order; Pdelay_Resp is denied. -/
def State.decideGrant (s : State) (k : Nat) (c : CKey) (partner : Bool) (entry : Bool) (t : NegTlv) : Decision :=
  if partner ∨ ¬ entry then .refused
  else if 3 ≤ t.typ then .denied 0
  else
    let old := s.grantOf c t.typ
    let had := match old with
      | some g => if g.inst = k then g.use else 0
      | none => 0
    let new := ratePerSec t.log
    let holds := s.clt.calendar.any fun g => decide (g.key = c ∧ g.inst = k)
    if t.log < s.getI (Reg.PTP_GRANT_LIMIT_MIN_LOG_PERIOD k) ∨ ¬ logIn t.log (s.grantRange k t.typ) then .denied 2
    else if ¬ holds ∧ s.get (Reg.PTP_GRANT_LIMIT_MAX_SLAVES k) ≤ s.get (Reg.PTP_GRANT_SLAVES_COUNT k) then .denied 3
    else if had < new ∧ s.get (Reg.PTP_GRANT_BUDGET_BUDGET k) < s.get (Reg.PTP_GRANT_USE_USE k) - had + new then .denied 4
    else .granted (min (max t.dur (s.get (Reg.PTP_GRANT_DUR_DUR_MIN k))) (s.get (Reg.PTP_GRANT_DUR_DUR_MAX k)))

/-- A denial counted: 0x0512, and 0x0513 when the budget is the reason. -/
def State.countDenied (s : State) (k rule typ : Nat) : State :=
  let s := (s.bump (Reg.GRANT_DENIED_COUNT k)).raise (evPtp 1 .info) [i1 k, i1 rule, i1 typ]
  if rule = 4 then s.raise (evPtp 2 .warning) [i1 k, i4 (s.get (Reg.PTP_GRANT_USE_USE k))] else s

/-- A granted request's GRANT held until the partner has its record, or sent (R341). -/
def State.sendOrHold (s : State) (p : Nat) (tci : Option Nat) (m : PtpMsg) : State :=
  if s.twin.partnerSynced ∧ s.get Reg.TWN_CTRL_GRANT_HOLD = 1 ∧ s.get Reg.TWN_STATUS_ROLE = 2
  then { s.armAck with heldGrants := s.heldGrants ++ [⟨s.twin.grantSeq, s.runNs, p, tci, m⟩] }
  else s.txPush p tci (.ptp m)

/-- GRANTs whose records are acknowledged go (R341). -/
def State.releaseGrants (s : State) (ack : Nat) : State :=
  let go := s.heldGrants.filter fun h => decide (h.seq ≤ ack)
  go.foldl (fun s h => s.txPush h.port h.tci (.ptp h.msg)) { s with heldGrants := s.heldGrants.filter fun h => decide (ack < h.seq) }

/-- A Signaling message sent in answer to one: a denial, which is a GRANT of 0 s, or an ACKNOWLEDGE_CANCEL (R242, R244). -/
def State.replySignaling (s : State) (q : PtpIn) (by_ : Option Nat) (t : NegTlv) : State :=
  let c := q.peer.key
  match s.signReply q.inst by_ with
  | (.hold, s) => s
  | (.send sa, s) =>
    let r := s.signaling q.inst c [t] sa q.peer.toB
    r.2.txPush c.port (replyTci c q.peer.pcp) (.ptp r.1)

/-- One REQUEST_UNICAST_TRANSMISSION decided and answered; a grant is held until its journal record is acknowledged (R242, R341). One that no SA may sign
an answer to gives no grant (R248). -/
def State.answerRequest (s : State) (q : PtpIn) (slot : Option Nat) (by_ : Option Nat) (t : NegTlv) : State :=
  let k := q.inst
  let c := q.peer.key
  let s := match s.grantOf c t.typ with
    | some g => if s.grantRuns g then s else s.grantOver g
    | none => s
  match s.decideGrant k c (decide (q.clock = s.clockId)) slot.isSome t with
  | .refused => s.countRefused 1 slot
  | .denied r => (s.countDenied k r t.typ).replySignaling q by_ ⟨1, t.typ, t.log, 0⟩
  | .granted d =>
    match s.signReply k by_ with
    | (.hold, s) => s
    | (.send sa, s) =>
      let e := (s.linear + d * secNs) % 2 ^ 64
      let s := s.awaitGrant { key := c, typ := t.typ, inst := k, log := t.log, expiry := e, last := 0, signed := by_.isSome }
      let s := s.sendGrant 4 c k t.typ (Grant.word ⟨e % 2 ^ 56, t.log, k, true⟩)
      let r := s.signaling k c [⟨1, t.typ, t.log, d⟩] sa q.peer.toB
      r.2.sendOrHold c.port (replyTci c q.peer.pcp) r.1

/-- What admission and R247 let through of a Signaling message: its entry's slot and the SA that verified it. -/
def State.openSignaling (s : State) (q : PtpIn) : Option (Option Nat × Option Nat) × State :=
  let (a, s) := s.letIn q.peer 1 1 (b2n q.auth.isSome) false
  if a.verdict ≠ .admitted then (none, s) else
  match s.verify q.inst q.auth (s.rxStamp q.peer.key.port q.at_ / 65536) with
  | (none, s) => (none, if q.auth.isSome then s.entryAuthFail a.slot else s)
  | (some by_, s) => (some (a.slot, by_), s)

/-- Whether an instance takes a message on a port: it runs there, and is SERVING or in STANDBY. -/
def State.instTakes (s : State) (k p : Nat) : Bool := k < 4 ∧ p < 4 ∧ s.instOn k p ∧ s.portServes p ∧ 2 ≤ s.instSt k

/-- Whether an instance negotiates unicast as a master (R233). -/
def State.negotiates (s : State) (k : Nat) : Bool := s.instRole k = 0 ∧ (s.prof k = 0 ∨ s.prof k = 4)

/-- REQUEST_UNICAST_TRANSMISSION: the requests of a Signaling message, each on its own and in order (R242). -/
def execRequestUnicastTransmission (q : PtpIn) (tlvs : List NegTlv) (s : State) : Host.Outcome State Fault Refusal :=
  let q := q.norm
  .next (
    if ¬ s.instTakes q.inst q.peer.key.port then s else
    match s.openSignaling q with
    | (none, s) => s
    | (some (slot, by_), s) =>
      if s.negotiates q.inst ∧ s.instSt q.inst = 2 then tlvs.foldl (fun s t => s.answerRequest q slot by_ t) s else s)

/-- One CANCEL from a slave: the grant ends at once and is answered with ACKNOWLEDGE_CANCEL (R244). -/
def State.answerCancel (s : State) (q : PtpIn) (by_ : Option Nat) (t : NegTlv) : State :=
  let c := q.peer.key
  let s := match s.grantOf c t.typ with
    | some g => if g.inst = q.inst then
        (s.release c t.typ).sendGrant 5 c g.inst t.typ (Grant.word ⟨g.expiry % 2 ^ 56, g.log, g.inst, false⟩) else s
    | none => s
  s.replySignaling q by_ ⟨3, t.typ, t.log, 0⟩

/-- CANCEL_UNICAST_TRANSMISSION from a slave (R244). -/
def execCancelUnicastTransmission (q : PtpIn) (tlvs : List NegTlv) (s : State) : Host.Outcome State Fault Refusal :=
  let q := q.norm
  .next (
    if ¬ s.instTakes q.inst q.peer.key.port then s else
    match s.openSignaling q with
    | (none, s) => s
    | (some (_, by_), s) =>
      if s.negotiates q.inst ∧ s.instSt q.inst = 2 then tlvs.foldl (fun s t => s.answerCancel q by_ t) s else s)

/-- A grant record of the partner's journal applied (R340, R341): the grant entered, or ended. A client without an entry is learned as by a request
(R287; log entry 34). -/
def State.applyGrant (s : State) (kind : Nat) (c : CKey) (k typ word : Nat) : State :=
  if kind = 5 then s.release c typ else
  let s := if s.get Reg.CLT_STATUS_READY = 1 ∧ (s.findEntry c).isNone then
      (s.learn c (s.bestRule c)).2
    else s
  let d := ofBits 56 (toBits 56 ((word % 2 ^ 56 : Nat) - (s.linear : Int)))
  let log := ofBits 4 (word / 2 ^ 56)
  s.enterGrant { key := c, typ, inst := k, log, expiry := toBits 64 (s.linear + d), last := s.tc.edges + 1, signed := decide (s.get (Reg.PTP_INST_CFG_AUTH k) = 2) }

/-! ## Sync and Announce at their boundaries (R235 to R238, R298) -/

/-- The SERVICE instance whose turn to be skipped it is: the first that serves from the one whose number stands in the rotation on (R298). -/
def State.skipTurn (s : State) : Option Nat :=
  ((List.range 4).map fun j => ((s.var .skipTurn).toNat + j) % 4).find? fun k => decide (s.instSt k = 2 ∧ s.instRole k = 0)

/-- Whether an instance's message is skipped: under overcommitment, where the responders cannot compose it within its interval and the rotation has come
to the instance (R298; DEDUCED, log entry 195). -/
def State.skipped (s : State) (k : Nat) (skip : Bool) : Bool := skip ∧ s.get Reg.CLT_STATUS_OVERCOMMIT = 1 ∧ s.skipTurn = some k

/-- A message skipped: counted, and the rotation goes on to the next instance (R298). -/
def State.skip (s : State) (k : Nat) : State := (s.setVar .skipTurn ((k + 1) % 4 : Nat)).bump Reg.CLT_ORIG_SKIPPED_COUNT

/-- The calendar with the edge a record was last served at set. -/
def State.servedGrant (s : State) (g : CalRec) (i : Nat) : State :=
  { s with clt := { s.clt with calendar := s.clt.calendar.map fun x => if x.key = g.key ∧ x.typ = g.typ then { x with last := i } else x } }

/-- A granted Sync or Announce at its boundary. -/
def State.grantTx (s : State) (k typ : Nat) (c : CKey) (skip : Bool) : State :=
  match s.grantOf c typ with
  | none => s
  | some g =>
    if g.inst ≠ k ∨ ¬ s.grantLive g ∨ ! s.dueAt g.log g.last ∨ ¬ (s.instPorts k).contains c.port then s else
    let s := s.servedGrant g (s.tc.edges + 1)
    if s.skipped k skip then s.skip k else
    match s.signClient k g.signed with
    | (.hold, s) => s
    | (.send sa, s) =>
      let r := s.inst k
      let t := transOf c.kind
      if typ = 1 then
        let s := s.setInst k { r with seqSync := seqUp r.seqSync }
        s.txPush c.port (s.clientTci c) (.ptp (s.composeSync k c.port t (some c) r.seqSync g.log sa))
      else
        let s := s.setInst k { r with seqAnn := seqUp r.seqAnn }
        s.txPush c.port (s.clientTci c) (.ptp (s.composeAnnounce k c.port t (some c) r.seqAnn g.log sa))

/-- SYNC_TX: a Sync at an interval boundary, by multicast or to a granted client; `skip` says the responders could not compose it
in its interval (R236 to R238, R298). -/
def execSyncTx (k : Nat) (dst : Option CKey) (skip : Bool) (s : State) : Host.Outcome State Fault Refusal :=
  .next (
    if ¬ (k < 4 ∧ s.instSt k = 2 ∧ s.instRole k = 0) then s else
    match dst with
    | some c => s.grantTx k 1 c.norm skip
    | none =>
      if s.prof k = 4 ∨ ! s.dueAt (s.logSync k) (s.inst k).lastSync then s else
      let s := s.setInst k { s.inst k with lastSync := s.tc.edges + 1 }
      if s.skipped k skip then s.skip k else s.syncAll k)

/-- ANNOUNCE_TX: an Announce at an interval boundary (R235, R236, R298). -/
def execAnnounceTx (k : Nat) (dst : Option CKey) (skip : Bool) (s : State) : Host.Outcome State Fault Refusal :=
  .next (
    if ¬ (k < 4 ∧ s.instSt k = 2 ∧ s.instRole k = 0) then s else
    match dst with
    | some c => s.grantTx k 0 c.norm skip
    | none =>
      if s.prof k = 4 ∨ ! s.dueAt (s.logAnn k) (s.inst k).lastAnn then s else
      let s := s.setInst k { s.inst k with lastAnn := s.tc.edges + 1 }
      if s.skipped k skip then s.skip k else s.announceAll k)

/-- RESERVED and its signed part (R294): GRANT_USE and the multicast Sync and Announce rates of the SERVICE instances that run. -/
def State.reserved (s : State) : Nat × Nat :=
  (List.range 4).foldl (fun acc k =>
    let run := decide (s.instSt k ≠ 0 ∧ s.instRole k = 0 ∧ s.prof k ≠ 4)
    let n := ((List.range 4).filter fun p => s.fbit (Reg.PTP_INST_CFG_PORTS k) p).length * (s.transports k).length
    let multi := if run then n * (ratePerSec (s.logSync k) + ratePerSec (s.logAnn k)) else 0
    let auth := decide (s.get (Reg.PTP_INST_CFG_AUTH k) ≠ 0)
    let sig := ((s.clt.calendar.filter fun g => decide (g.inst = k) && g.signed && auth).map fun g => ratePerSec g.log).sum
    (acc.1 + multi + s.get (Reg.PTP_GRANT_USE_USE k), acc.2 + sig + (if auth ∧ (s.groupSa k).isSome then multi else 0))) (0, 0)

/-- Whether an SA signs transmissions of its instance now: its multicast messages, its replies under the SA's SPP, or what it sends of itself to clients
(R248). -/
def State.saSigns (s : State) (k i : Nat) : Bool :=
  decide (s.groupSa k = some i) || decide (s.txSa k (fun j => decide (s.get (Reg.SA_CFG_SPP j) = s.get (Reg.SA_CFG_SPP i))) = some i)
    || decide (s.txSa k (fun _ => true) = some i)

/-- An SA judged at an SA_SWITCH: it takes over transmissions once, and again only after it was not usable (R248). -/
def State.saTakes (s : State) (k i : Nat) : State :=
  if ! s.saUsable i s.linear then s.setVar (.saOn i) 0
  else if s.var (.saOn i) ≠ 0 ∨ ! s.saSigns k i then s
  else (s.setVar (.saOn i) 1).raise (evPtp 8 .info) [i1 k, i1 i]

/-- SA_SWITCH: at the FROM of an SA an instance's transmissions change key (R248). -/
def execSaSwitch (k : Nat) (s : State) : Host.Outcome State Fault Refusal :=
  .next (
    if ¬ (k < 4 ∧ s.get (Reg.PTP_INST_CFG_AUTH k) ≠ 0) then s else
    let s := if (s.groupSa k).isSome then s.put (Reg.PTP_INST_STATE_NO_TX_SA k) 0 else s
    ((List.range 8).map (8 * k + ·)).foldl (fun s i => s.saTakes k i) s)

/-! ## Delay requests (R234, R239, R250) -/

/-- Whether a Delay_Req is one the instance answers once it is admitted and verified (R233, R234): PROFILE 0 and 2 take unicast with MIXED_OK,
PROFILE 4 from a client with a live Delay_Resp grant (log entry 35). -/
def State.delayOk (s : State) (q : PtpIn) : Bool :=
  let n := s.prof q.inst
  let granted := match s.grantOf q.peer.key 2 with
    | some g => s.grantLive g && decide (g.inst = q.inst)
    | none => false
  decide (s.instRole q.inst = 0) && (if n = 4 then q.unicast && granted
    else if n = 1 then false
    else ! q.unicast || decide (n ≠ 3 ∧ s.get (Reg.PTP_INST_CFG_MIXED_OK q.inst) = 1))

/-- logMessageInterval of a Delay_Resp: the instance's own by multicast, the grant's to a granted client, else 0x7F. -/
def State.delayLog (s : State) (q : PtpIn) : Int :=
  if ¬ q.unicast then s.logDly q.inst else
  match s.grantOf q.peer.key 2 with
  | some g => if s.grantLive g then g.log else 0x7F
  | none => 0x7F

/-- DELAY_REQ: a Delay_Req received, admitted, verified and answered with a Delay_Resp that carries its receive stamp (R239). -/
def execDelayReq (q : PtpIn) (s : State) : Host.Outcome State Fault Refusal :=
  let q := q.norm
  let k := q.inst
  let c := q.peer.key
  .next (
    if ¬ s.instTakes k c.port then s else
    let s := s.bump (Reg.RX_DELAY_REQ_COUNT k)
    let (a, s) := s.letIn q.peer 0 1 (b2n q.auth.isSome) true
    if a.verdict ≠ .admitted ∨ s.instSt k ≠ 2 then s else
    let st := s.rxStamp c.port q.at_
    match s.verify k q.auth (st / 65536) with
    | (none, s) => if q.auth.isSome then s.entryAuthFail a.slot else s
    | (some by_, s) =>
      if ¬ s.delayOk q then s else
      match s.signReply k by_ with
      | (.hold, s) => s
      | (.send sa, s) =>
        s.txPush c.port (replyTci c q.peer.pcp) (.ptp
          { typ := 9, inst := k, trans := q.trans, dst := if q.unicast then some c else none, seq := q.seq, log := s.delayLog q
            time := st / 65536, corr := q.corr - (st % 65536 : Nat), tlv := s.tlvFor k c.port, sa, fromB := q.peer.toB
            req := some (q.clock, q.portNo, q.seq) }))

/-- PDELAY_REQ: a Pdelay_Req answered with a one-step Pdelay_Resp (R234, R239). -/
def execPdelayReq (q : PtpIn) (s : State) : Host.Outcome State Fault Refusal :=
  let q := q.norm
  let k := q.inst
  let c := q.peer.key
  .next (
    if ¬ (s.instTakes k c.port ∧ s.prof k = 1) then s else
    let s := s.bump (Reg.RX_DELAY_REQ_COUNT k)
    let (a, s) := s.letIn q.peer 0 1 (b2n q.auth.isSome) false
    if a.verdict ≠ .admitted ∨ s.instSt k ≠ 2 then s else
    let st := s.rxStamp c.port q.at_
    match s.verify k q.auth (st / 65536) with
    | (none, s) => if q.auth.isSome then s.entryAuthFail a.slot else s
    | (some by_, s) =>
      match s.signReply k by_ with
      | (.hold, s) => s
      | (.send sa, s) =>
        s.txPush c.port (replyTci c q.peer.pcp) (.ptp
          { typ := 3, inst := k, trans := q.trans, dst := if q.unicast then some c else none, seq := q.seq, log := 0x7F
            corr := q.corr, turn := st, sa, fromB := q.peer.toB, req := some (q.clock, q.portNo, q.seq) }))

/-- PDELAY_REQ_TX: the instance's own Pdelay_Req at its boundary, in PROFILE 1 (R234, R252). -/
def execPdelayReqTx (k : Nat) (s : State) : Host.Outcome State Fault Refusal :=
  .next (
    if ¬ (k < 4 ∧ s.instSt k = 2 ∧ s.prof k = 1 ∧ s.dueAt (s.logDly k) (s.inst k).lastDly) then s else
    let s := s.setInst k { s.inst k with lastDly := s.tc.edges + 1 }
    match s.signGroup k with
    | (.hold, s) => s
    | (.send sa, s) =>
      let r := s.inst k
      let s := s.setInst k { r with seqDelay := seqUp r.seqDelay, asked := (s.instPorts k).flatMap fun p => (s.transports k).map fun t => (p + 4 * t, (r.seqDelay, 0)) }
      s.toAll k fun s _ t => { typ := 2, inst := k, trans := t, dst := none, seq := r.seqDelay, log := s.logDly k, sa })

/-! ## At the MII boundary (R237 to R240, R244, R250) -/

/-- The G.8275 TLV of an Announce that carries a localPriority: its content is Config's (R235; log entry 187). -/
def PtpMsg.localTlv (m : PtpMsg) : List Byte :=
  match m.body.bind (·.localPrio) with
  | some n => Config.g8275Tlv n
  | none => []

/-- Octets of a PTP message: header and body, the G.8275 TLV, TIME_BOUND and AUTHENTICATION. -/
def PtpMsg.octets (m : PtpMsg) : Nat :=
  (if m.typ = 11 then 64 else if m.typ = 0 ∨ m.typ = 1 then 44 else if m.typ = 12 then 44 else 54)
    + (m.neg.map fun t => if t.kind = 0 then 10 else if t.kind = 1 then 12 else 6).sum + m.localTlv.length
    + (if m.tlv.isSome then 22 else 0) + (if m.sa.isSome then 26 else 0)

/-- Length of its frame from the destination address to the FCS; UDP over IPv6 event messages carry two octets more (R240). -/
def PtpMsg.frameLen (m : PtpMsg) (tci : Option Nat) : Nat :=
  max 64 (18 + (if tci.isSome then 4 else 0) + m.octets + (if m.trans = 0 then 0 else if m.trans = 1 then 28 else if m.typ < 4 then 50 else 48))

/-- A timestamp on the wire: 48 bits of seconds and 32 of nanoseconds, in network byte order (R8). -/
def wireTime (ns : Nat) : List Byte := beBytes 6 (ns / secNs) ++ beBytes 4 (ns % secNs)

/-- A portIdentity on the wire. -/
def wirePort (clock portNo : Nat) : List Byte := beBytes 8 clock ++ beBytes 2 portNo

/-- A negotiation TLV on the wire: REQUEST, GRANT, CANCEL and ACKNOWLEDGE_CANCEL_UNICAST_TRANSMISSION by its kind (R242, R244). -/
def negWire (t : NegTlv) : List Byte :=
  let typ := (match t.typ with | 0 => 0xB | 1 => 0 | 2 => 9 | _ => 0xA) * 16
  let head := fun (len : Nat) => beBytes 2 (4 + min 3 t.kind) ++ beBytes 2 len ++ beBytes 1 typ
  if t.kind = 0 then head 6 ++ beBytes 1 (toBits 8 t.log) ++ beBytes 4 t.dur
  else if t.kind = 1 then head 8 ++ beBytes 1 (toBits 8 t.log) ++ beBytes 4 t.dur ++ beBytes 2 0
  else head 2 ++ beBytes 1 0

/-- The TIME_BOUND TLV on the wire, from BOUND, TRACE, FLAGS and LANE_TYPE (R249). -/
def State.wireBound (s : State) (x : Nat × Nat × Nat × Nat) : List Byte :=
  beBytes 2 3 ++ beBytes 2 0x12 ++ beBytes 3 (s.get Reg.ID_ORG_ORG) ++ beBytes 3 1 ++ beBytes 1 1 ++ beBytes 1 x.2.2.2 ++ beBytes 2 x.2.2.1
    ++ beBytes 4 x.1 ++ beBytes 4 x.2.1

/-- The flagField of a message: unicastFlag, and an Announce's flags; twoStepFlag is 0 (R235, R237). -/
def PtpMsg.flags (m : PtpMsg) : Nat :=
  0x400 * b2n m.dst.isSome + (match m.body with
    | some b => b2n b.leap61 + 2 * b2n b.leap59 + 4 * b2n b.utcValid + 8 * b2n b.ptpScale + 16 * b2n b.timeTrace + 32 * b2n b.freqTrace
    | none => 0)

/-- What follows a message's header, up to its TLVs (R235, R237 to R239). -/
def PtpMsg.wireBody (m : PtpMsg) : List Byte :=
  let asker := match m.req with
    | some r => wirePort r.1 r.2.1
    | none => List.replicate 10 (0xFF : Byte)
  if m.typ = 9 then wireTime m.time ++ asker
  else if m.typ = 3 then wireTime 0 ++ asker
  else if m.typ = 12 then asker
  else if m.typ = 2 then wireTime 0 ++ List.replicate 10 (0 : Byte)
  else if m.typ = 11 then
    match m.body with
    | some b => wireTime 0 ++ beBytes 2 (toBits 16 b.utcOffset) ++ beBytes 1 0 ++ beBytes 1 b.prio1 ++ beBytes 1 b.cls ++ beBytes 1 b.accuracy
        ++ beBytes 2 b.variance ++ beBytes 1 b.prio2 ++ beBytes 8 b.gm ++ beBytes 2 b.steps ++ beBytes 1 b.source
    | none => List.replicate 30 (0 : Byte)
  else wireTime m.time

/-- A PTP message as port p sends it, in network byte order (R8; log entry 163): header, body, TLVs with TIME_BOUND before AUTHENTICATION, whose ICV
covers the message up to itself with the correctionField taken as 0 (R245, R250). -/
def State.ptpWire (s : State) (p : Nat) (m : PtpMsg) : List Byte :=
  let head := fun (corr : Int) =>
    beBytes 1 m.typ ++ beBytes 1 0x12 ++ beBytes 2 m.octets ++ beBytes 1 (s.domain m.inst) ++ beBytes 1 0 ++ beBytes 2 m.flags
      ++ beBytes 8 (toBits 64 corr) ++ beBytes 4 0 ++ wirePort s.clockId (p + 1) ++ beBytes 2 m.seq
      ++ beBytes 1 (match m.typ with | 0 => 0 | 1 => 1 | 9 => 3 | _ => 5) ++ beBytes 1 (toBits 8 m.log)
  let rest := m.wireBody ++ m.neg.flatMap negWire ++ m.localTlv ++ (match m.tlv with
    | some x => s.wireBound x
    | none => [])
  match m.sa with
  | some i =>
    let auth := beBytes 2 0x8009 ++ beBytes 2 22 ++ beBytes 1 (s.get (Reg.SA_CFG_SPP i)) ++ beBytes 1 0 ++ beBytes 4 (s.get (Reg.SA_KEY_ID_KEY_ID i))
    head m.corr ++ rest ++ auth ++ (Crypto.ptpIcv (s.get (Reg.SA_CFG_ALG i)) (s.saKey i) (head 0 ++ rest ++ auth)).take 16
  | none => head m.corr ++ rest

/-- The destination of a multicast message over L2, and its multicast group over UDP on IPv4 and IPv6, with the address of each on Ethernet; those of peer
delay are their own (R233). The scope of FF0X::181 is a DESIGN CHOICE (log entry 193). -/
def State.ptpGroup (s : State) (m : PtpMsg) : Nat × Nat :=
  let peer := decide (m.typ = 2 ∨ m.typ = 3)
  if m.trans = 0 then (if s.get (Reg.PTP_INST_CFG_L2_FWD m.inst) = 1 then 0x011B19000000 else 0x0180C200000E, 0)
  else if m.trans = 1 then (if peer then (0x01005E00006B, 0xE000006B) else (0x01005E000181, 0xE0000181))
  else if peer then (0x33330000006B, 0xFF02 * 2 ^ 112 + 0x6B) else (0x333300000181, 0xFF0E * 2 ^ 112 + 0x181)

/-- How a PTP message is carried (R233, R240), from its octets as they were composed and as they leave: the checksum is 0 over IPv4 where it is an event
message; over IPv6 an event message's stays as composed, which two octets after the message see to (log entry 193). -/
def State.ptpCarriage (s : State) (p : Nat) (m : PtpMsg) (composed sent : List Byte) : Carriage :=
  let g := s.ptpGroup m
  let mac := match m.dst with
    | some c => if m.trans = 0 then some (c.addr % 2 ^ 48) else none
    | none => some g.1
  if m.trans = 0 then ⟨mac, 0x88F7, none⟩
  else
    let kind := m.trans - 1
    let src := s.ownIp p kind m.fromB
    let dst := match m.dst with
      | some c => if kind = 0 then c.addr % 2 ^ 32 else c.addr
      | none => g.2
    let port := if m.typ < 4 then 319 else 320
    let tail := if kind = 1 ∧ m.typ < 4 then keepSum composed sent else []
    let sum := if kind = 0 ∧ m.typ < 4 then 0
      else if m.typ < 4 then udpSum kind src dst port port (composed ++ [0, 0]) else udpSum kind src dst port port sent
    ⟨mac, if kind = 0 then 0x0800 else 0x86DD, some ⟨src, dst, port, port, 8 + sent.length + tail.length, sum, tail⟩⟩

/-- The service class of the request that a message answers, if it answers one (R283). -/
def PtpMsg.replyClass (m : PtpMsg) : Option Nat :=
  if m.typ = 9 ∨ m.typ = 3 then some 0
  else if m.typ = 12 ∧ m.neg.any (fun t => decide (t.kind = 1 ∨ t.kind = 3)) then some 1 else none

/-- A PTP frame sent, from the message as it was composed and as it leaves: counted with its type, as a reply by class where it answers a request (R283,
R415). -/
def State.ptpOut (s : State) (p : Nat) (tci : Option Nat) (m0 m : PtpMsg) : State :=
  let s := { s with out := .ptp p tci m (s.ptpWire p m) (s.ptpCarriage p m (s.ptpWire p m0) (s.ptpWire p m)) :: s.out }.sent p (m.frameLen tci) m.replyClass
  if m.typ = 0 then s.bump (Reg.TX_SYNC_COUNT m.inst)
  else if m.typ = 11 then s.bump (Reg.TX_ANNOUNCE_COUNT m.inst)
  else
    let s := if m.typ = 9 ∨ m.typ = 3 then s.bump (Reg.TX_DELAY_RESP_COUNT m.inst) else s
    if m.replyClass.isSome then s.pmcEvent 5 0x12 { cls := m.replyClass } else s

/-- A grant starts at the transmit instant of its GRANT (R244). -/
def State.startGrants (s : State) (m : PtpMsg) (st : Nat) : State :=
  match m.dst with
  | none => s
  | some c =>
    m.neg.foldl (fun s t =>
      if t.kind = 1 ∧ t.dur ≠ 0 then
        match s.grantOf c t.typ with
        | some g => if g.inst = m.inst then s.enterGrant { g with log := t.log, expiry := (st / 65536 + t.dur * secNs) % 2 ^ 64, last := s.tc.edges + 1, waits := false, signed := m.sa.isSome, next := if g.next.map (·.1) = some t.log then none else g.next } else s
        | none => s
      else s) s

/-- A PTP frame at its launch at a time of the MII boundary: nothing leaves a port that is down or a twin that follows; the port
writes in flight what R237 to R239 and R250 leave to it. -/
def State.launchPtp (s : State) (p t : Nat) (tci : Option Nat) (m : PtpMsg) : State :=
  if ¬ s.portUp p ∨ ¬ s.unitOn (0x8000 + p) ∨ s.follower then s else
  let st := s.txStamp p t
  let s := s.stampTaken p m.replyClass
  if m.typ = 0 ∧ ¬ m.promised then
    s.ptpOut p tci m { m with time := st / 65536, corr := (st % 65536 : Nat), tlv := m.tlv.map fun _ => s.timeBound p }
  else if m.typ = 0 then
    let d : Int := (st : Int) - m.time * 65536
    let now := s.timeBound p
    let stale := match m.tlv with
      | some x => decide (x.1 < now.1 ∨ x.2.1 ≠ now.2.1)
      | none => false
    if 65536000000 ≤ d.natAbs then s.bump (Reg.TX_LATE_DROP_COUNT m.inst)
    else if stale then
      (s.bump (Reg.PTP_STALE_DROP_COUNT m.inst)).raiseGap (.ptpRaised 7 m.inst) secNs (evPtp 7 .warning)
        [i1 p, i4 (match m.tlv with
          | some x => x.1
          | none => 0), i4 now.1]
    else s.ptpOut p tci m { m with corr := d }
  else if m.typ = 3 then s.ptpOut p tci m { m with corr := m.corr + st - m.turn }
  else if m.typ = 1 ∨ m.typ = 2 then
    let r := s.inst m.inst
    (s.setInst m.inst { r with asked := aput r.asked (p + 4 * m.trans) (m.seq, st) }).ptpOut p tci m m
  else (s.startGrants m st).ptpOut p tci m m

end Sys2Proof.Machine
end

