-- ==== Sys2Proof/Machine/Upstream.lean ====
section
/-! DEFINITION. The slave side of PTP and its commands (R251 to R257): parents and the BMCA, offsets and delays, U_src, LOS, grants
asked of configured masters, foreign masters on SERVICE ports, the commands of the PTP service. -/

namespace Sys2Proof.Machine

/-! ## What an upstream shows (R251 to R254) -/

/-- The port of an instance: the lowest it names. -/
def State.instPort (s : State) (k : Nat) : Nat := ((List.range 4).find? fun p => s.fbit (Reg.PTP_INST_CFG_PORTS k) p).getD 0

/-- The parent's record among the foreign masters. -/
def State.parentOf (s : State) (k : Nat) : Option Foreign :=
  match (s.inst k).parent with
  | some (c, n) => (s.inst k).foreign.find? fun f => decide (f.clock = c ∧ f.portNo = n)
  | none => none

/-- A clockAccuracy code's bound in units of 2^-8 ns, rounded up, for the codes of R253. -/
def accuracyBound (code : Nat) : Option Nat := if 0x17 ≤ code then (accuracyBounds[code - 0x17]?).map fun b => ceilDiv (b * 256) 10000 else none

/-- U_src in units of 2^-8 ns, and the rule of R253 that gives it. -/
def State.uSource (s : State) (k : Nat) : Nat × Nat :=
  let byClass := match (s.parentOf k).bind fun f => accuracyBound f.body.accuracy with
    | some u => (u, 2)
    | none => (s.get (Reg.PTP_UP_DEFAULT_U_U k), 3)
  match (s.inst k).bound with
  | some b => if b.org = s.get Reg.ID_ORG_ORG then (b.bound, 1) else byClass
  | none => byClass

/-- Whether a negotiated grant of a configured master is live. -/
def State.gotGrant (s : State) (k m typ : Nat) : Bool := s.runNs < (aget (s.inst k).grants (4 * m + typ)).getD 0

/-- The key of configured master m of an instance. -/
def State.masterKey (s : State) (k m : Nat) : CKey :=
  let p := s.instPort k
  let v4 := s.get (Reg.PTP_UP_MCFG_V4 k m) = 1
  let last := s.get (Reg.UP_ADDR_LAST_ADDR k m)
  let v6 := s.get (Reg.UP_ADDR_0_ADDR k m) * 2 ^ 96 + s.get (Reg.UP_ADDR_1_ADDR k m) * 2 ^ 64 + s.get (Reg.UP_ADDR_2_ADDR k m) * 2 ^ 32 + last
  let vlan := s.get (Reg.VLAN_CTRL_TX_VLAN p)
  { port := p, kind := if v4 then 0 else 1, addr := if v4 then last else v6, vlan, tagged := decide (vlan ≠ 0) }

/-- The configured master an address belongs to. -/
def State.masterOf (s : State) (k : Nat) (c : CKey) : Option Nat :=
  (List.range 4).find? fun m => decide (s.get (Reg.PTP_UP_MCFG_VALID k m) = 1 ∧ (s.masterKey k m).norm.kind = c.kind
    ∧ (s.masterKey k m).norm.addr = c.addr)

/-- mpd in units of 2^-16 ns: the mean of the last delay measurements, on a STANDBY twin that of the last baton (R252, R255). -/
def State.mpd (s : State) (k : Nat) : Option Int :=
  if s.instSt k = 3 then
    match s.twin.baton with
    | some b => if b.upMpd.getD (s.instPort k) 0 = 0 then none else some (b.upMpd.getD (s.instPort k) 0)
    | none => none
  else
    let d := (s.inst k).delays
    if d.isEmpty then none else some (truncDiv d.sum d.length)

/-- UP_STATE of an instance. -/
def State.upCode (s : State) (k : Nat) : Nat :=
  let r := s.inst k
  if s.instSt k < 2 then 0
  else match s.parentOf k with
    | some f =>
      let wait := decide (s.prof k = 4) && (match s.masterOf k f.key with
        | some m => ! (s.gotGrant k m 1 && s.gotGrant k m 2)
        | none => false)
      if r.los.isSome then 4 else if wait then 2 else 3
    | none => if s.prof k = 4 ∧ (List.range 4).all (fun m => ! s.gotGrant k m 0) then 2 else 1

/-- The registers of an upstream brought to its state. -/
def State.upShow (s : State) (k : Nat) : State :=
  let p := s.instPort k
  let s := s.put (Reg.UP_STATE_STATE k) (s.upCode k)
  match s.parentOf k with
  | none => s.putBit Reg.PTP_STATUS_UP_SLAVE p false
  | some f =>
    let u := s.uSource k
    let s := (s.put (Reg.UP_U_SRC_U k) (min u.1 (2 ^ 32 - 1))).put (Reg.UP_STATE_U_FROM k) u.2
    let s := s.put64 (Reg.UP_PARENT_LO_ID_LO k) (Reg.UP_PARENT_HI_ID_HI k) f.clock
    let s := (s.put (Reg.UP_PARENT_PORT_PORT k) f.portNo).put (Reg.UP_PARENT_PORT_CLASS k) f.body.cls
    (s.put (Reg.UP_PARENT_PORT_ACCURACY k) f.body.accuracy).putBit Reg.PTP_STATUS_UP_SLAVE p true

/-- The causes of R254 in order, each whether it holds now. -/
def State.upCauses (s : State) (k : Nat) : List Bool :=
  let r := s.inst k
  let p := s.instPort k
  let cls := match s.parentOf k with
    | some f => decide (s.get (Reg.PTP_UP_CTRL_UP_CC_MAX k) < f.body.cls)
    | none => false
  let sat := match r.bound with
    | some b => decide (b.org = s.get Reg.ID_ORG_ORG) && bit b.flags 3
    | none => false
  [decide (r.offAt + s.get (Reg.PTP_UP_CTRL_LOS_TIME k) * 1000000 ≤ s.runNs),
   decide (r.annAt + s.get (Reg.PTP_INST_INTV_ANNOUNCE_TIMEOUT k) * intervalNs (s.logAnn k) ≤ s.runNs), cls, sat,
   decide (s.prof k = 4 ∧ r.grants ≠ []) && r.grants.all fun g => decide (g.2 ≤ s.runNs),
   ! s.portServes p, decide (s.instSt k < 2)]

/-- LOS of an upstream judged: declared with the first cause that holds, and over when none does (R254). -/
def State.upJudge (s : State) (k : Nat) : State :=
  let r := s.inst k
  let p := s.instPort k
  let cause := (s.upCauses k).findIdx? id
  let s := s.setInst k { r with los := cause }
  let s := match cause, r.los with
    | some c, none => (s.sourceLos (0x0C + p)).raise (evPtp 6 .warning (0x8000 + p)) [i1 p, i1 c]
    | _, _ => s
  s.upShow k

/-- Every UPSTREAM instance that is not OFF judged. -/
def State.upJudgeAll (s : State) : State :=
  (List.range 4).foldl (fun s k => if s.instSt k ≠ 0 ∧ s.instRole k = 1 then s.upJudge k else s) s

/-! ## The parent (R251, R254) -/

/-- The data set the BMCA compares, its parts in order, smaller the better: that of IEEE 1588-2019, and the alternate one of G.8275.1
with localPriority (R233). -/
def State.rank (s : State) (k : Nat) (f : Foreign) : List Nat :=
  let b := f.body
  if s.prof k = 3 then
    [b.cls, b.accuracy, b.variance, b.prio2, s.get (Reg.PTP_INST_PRIO_LOCAL_PRIORITY k), if b.cls ≤ 127 then 0 else b.gm, b.steps, f.clock, f.portNo]
  else [b.prio1, b.cls, b.accuracy, b.variance, b.prio2, b.gm, b.steps, f.clock, f.portNo]

/-- Whether one list of numbers comes before another, the first difference deciding. -/
def lexLt : List Nat → List Nat → Bool
  | a :: x, b :: y => decide (a < b) || (decide (a = b) && lexLt x y)
  | _, _ => false

/-- The better of two foreign masters. -/
def State.betterMaster (s : State) (k : Nat) (a : Option Foreign) (f : Foreign) : Option Foreign :=
  match a with
  | none => some f
  | some x => if lexLt (s.rank k f) (s.rank k x) then some f else some x

/-- The foreign masters whose last Announces are recent, each with those within 4 announce intervals. -/
def State.pruned (s : State) (k : Nat) : List Foreign :=
  (s.inst k).foreign.filterMap fun f =>
    let ts := f.times.filter fun t => decide (s.runNs < t + 4 * intervalNs (s.logAnn k))
    if ts.isEmpty ∧ (s.inst k).parent ≠ some (f.clock, f.portNo) then none else some { f with times := ts }

/-- The parent chosen anew: the best of the masters heard twice within 4 announce intervals; the present one stays a candidate, and one whose
stepsRemoved is 255 or more is none, as in the BMCA of IEEE 1588-2019 (PRESUMED, log entry 196). A
change raises 0x0516, and the lanes fed go LOST (R251, R254). -/
def State.upSelect (s : State) (k : Nat) : State :=
  let s := s.setInst k { s.inst k with foreign := s.pruned k }
  let r := s.inst k
  let p := s.instPort k
  let cand := r.foreign.filter fun f => decide (f.body.steps < 255 ∧ (2 ≤ f.times.length ∨ r.parent = some (f.clock, f.portNo)))
  let new := (cand.foldl (s.betterMaster k) none).map fun f => (f.clock, f.portNo)
  if new = r.parent then s else
  let s := s.setInst k { r with parent := new, down := none, delays := [], bound := none, asked := [], annAt := s.runNs }
  match new with
  | some (c, n) => (s.sourceLos (0x0C + p)).raise (evPtp 5 .info (0x8000 + p)) [i1 p, i8 c, i2 n]
  | none => s.sourceLos (0x0C + p)

/-- Whether a message comes from the parent. -/
def State.fromParent (s : State) (q : PtpIn) : Bool := (s.inst q.inst).parent = some (q.clock, q.portNo)

/-- Whether an UPSTREAM instance takes a message. -/
def State.upTakes (s : State) (q : PtpIn) : Bool := s.instTakes q.inst q.peer.key.port ∧ s.instRole q.inst = 1

/-- What R247 leaves of a message at its receive stamp (unit 2^-16 ns). -/
def State.verified (s : State) (q : PtpIn) : Bool × State :=
  match s.verify q.inst q.auth (s.rxStamp q.peer.key.port q.at_ / 65536) with
  | (some _, s) => (true, s)
  | (none, s) => (false, s)

/-- An Announce of the domain heard by an UPSTREAM instance (R251). -/
def State.upAnnounce (s : State) (q : PtpIn) (b : AnnounceBody) (tlv : Option BoundTlv) : State :=
  let k := q.inst
  let p := q.peer.key.port
  if b.gm = s.clockId then (s.bump (Reg.LOOP_DISCARD_COUNT k)).raise (evPtp 4 .warning (0x8000 + p)) [i1 p]
  else if s.prof k = 4 ∧ (s.masterOf k q.peer.key).isNone then s
  else
    let r := s.inst k
    let mine := fun (f : Foreign) => decide (f.clock = q.clock ∧ f.portNo = q.portNo)
    let old := match r.foreign.find? mine with
      | some f => f.times
      | none => []
    let f : Foreign := ⟨q.clock, q.portNo, q.peer.key, (s.runNs :: old).take 4, b⟩
    let s := s.setInst k { r with foreign := (r.foreign.filter fun x => ! mine x) ++ [f] }
    let s := s.upSelect k
    let s := if s.fromParent q then s.setInst k { s.inst k with annAt := s.runNs, bound := tlv } else s
    s.upJudge k

/-- ANNOUNCE_RX: an Announce received: it feeds an upstream's BMCA, or is counted as a foreign master's on a SERVICE port (R251,
R256). -/
def execAnnounceRx (q : PtpIn) (b : AnnounceBody) (tlv : Option BoundTlv) (s : State) : Host.Outcome State Fault Refusal :=
  let q := q.norm
  let k := q.inst
  .next (
    if ¬ (k < 4 ∧ q.peer.key.port < 4 ∧ s.instOn k q.peer.key.port) then s else
    if s.instRole k = 0 then
      match s.verified q with
      | (false, s) => s
      | (true, s) =>
        if q.clock = s.clockId then s else
        (s.bump (Reg.FOREIGN_ANNOUNCE_COUNT k)).raiseGap (.ptpRaised 3 q.peer.key.port) (60 * secNs) (evPtp 3 .warning)
          [i1 q.peer.key.port, i8 q.clock]
    else if ¬ s.upTakes q then s else
    match s.verified q with
    | (false, s) => s
    | (true, s) => s.upAnnounce q b tlv)

/-- A parent silent for its announce timeout: it is no longer a foreign master, and the instance selects again (R254). -/
def State.parentSilent (s : State) (k : Nat) : State :=
  match (s.inst k).parent with
  | none => s
  | some (c, n) =>
    if (s.upCauses k).getD 1 false then
      let r := s.inst k
      ((s.setInst k { r with foreign := r.foreign.filter fun f => decide (¬ (f.clock = c ∧ f.portNo = n)) }).upSelect k).upShow k
    else s

/-- ANNOUNCE_TIMEOUT: the announce receipt timeout of a parent: LOS, and another parent where one is heard (R254). -/
def execAnnounceTimeout (k : Nat) (s : State) : Host.Outcome State Fault Refusal :=
  .next (
    if ¬ (k < 4 ∧ s.instSt k ≠ 0 ∧ s.instRole k = 1) then s else
    (s.upJudge k).parentSilent k)

/-- LOS_TIME_EXPIRY: LOS_TIME without an offset (R254). -/
def execLosTimeExpiry (k : Nat) (s : State) : Host.Outcome State Fault Refusal :=
  .next (if k < 4 ∧ s.instSt k ≠ 0 ∧ s.instRole k = 1 then s.upJudge k else s)

/-! ## Offsets and delays (R252, R255) -/

/-- The offset that a Sync of the parent gives with the mean path delay, if that is known (R252, R263). -/
def State.syncOffset (s : State) (k p t2 : Nat) (d : Int) (mpd : Option Int) : State :=
  match mpd with
  | none => s.upJudge k
  | some m =>
    let s := (s.setInst k { s.inst k with offAt := s.runNs }).upJudge k
    if (s.inst k).los.isSome then s else
    let s := s.setVar (.upEvery p) (intervalNs (s.logSync k))
    s.sourceMeasured (0x0C + p) (m + s.getI (Reg.PTP_UP_ASYM_A k) * 256 - d) (s.uSource k).1 { s.mark with at16 := t2 }

/-- A Sync of the parent taken with its t1: t2 - t1, and with the mean path delay known, a measurement of the instance's offset (R252,
R263). -/
def State.syncTaken (s : State) (q : PtpIn) (k t1 : Nat) (tlv : Option BoundTlv) : State :=
  let p := q.peer.key.port
  let t2 := s.rxStamp p q.at_
  let d : Int := (t2 : Int) - t1 - q.corr
  let s := s.setInst k { s.inst k with down := some d, bound := tlv }
  s.syncOffset k p t2 d (s.mpd k)

/-- SYNC_RX: a one-step Sync, or a two-step one with its Follow_Up: t1 in units of 2^-16 ns, the correctionFields summed in the
message's (R252). -/
def execSyncRx (q : PtpIn) (t1 : Nat) (tlv : Option BoundTlv) (s : State) : Host.Outcome State Fault Refusal :=
  let q := q.norm
  let k := q.inst
  .next (
    if ¬ s.upTakes q then s else
    match s.verified q with
    | (false, s) => s
    | (true, s) => if s.fromParent q then s.syncTaken q k t1 tlv else s)

/-- A delay measurement taken into mpd (R252). -/
def State.addDelay (s : State) (k : Nat) (d : Int) : State :=
  let r := s.inst k
  let s := s.setInst k { r with delays := (d :: r.delays).take (max 1 (s.get (Reg.PTP_UP_CTRL_DELAY_AVG k))) }
  match s.mpd k with
  | some m => s.putI64 (Reg.UP_MPD_LO_MPD_LO k) (Reg.UP_MPD_HI_MPD_HI k) m
  | none => s

/-- The transmit stamp of the delay request a response answers, over the transport it came by, which is then answered. -/
def State.answered (s : State) (q : PtpIn) : Option Nat × State :=
  let r := s.inst q.inst
  match aget r.asked (q.peer.key.port + 4 * q.trans) with
  | some (seq, st) =>
    if seq = q.seq ∧ st ≠ 0 then (some st, s.setInst q.inst { r with asked := adel r.asked (q.peer.key.port + 4 * q.trans) }) else (none, s)
  | none => (none, s)

/-- DELAY_RESP_RX: the parent's answer to the instance's Delay_Req, with t4 in units of 2^-16 ns (R252). -/
def execDelayRespRx (q : PtpIn) (t4 : Nat) (s : State) : Host.Outcome State Fault Refusal :=
  let q := q.norm
  .next (
    if ¬ (s.upTakes q ∧ s.instSt q.inst = 2 ∧ s.prof q.inst ≠ 1) then s else
    match s.verified q with
    | (false, s) => s
    | (true, s) =>
      if ¬ s.fromParent q then s else
      match s.answered q with
      | (none, s) => s
      | (some t3, s) =>
        match (s.inst q.inst).down with
        | some d => s.addDelay q.inst (truncDiv (d + ((t4 : Int) - t3 - q.corr)) 2)
        | none => s)

/-- PDELAY_RESP_RX: the neighbour's answer to the instance's Pdelay_Req, with its turnaround t3 - t2 in units of 2^-16 ns beyond what
the correctionField holds: a SERVICE instance reports the delay, an UPSTREAM one averages it (R234, R252). -/
def execPdelayRespRx (q : PtpIn) (turn : Int) (s : State) : Host.Outcome State Fault Refusal :=
  let q := q.norm
  let k := q.inst
  .next (
    if ¬ (s.instTakes k q.peer.key.port ∧ s.instSt k = 2 ∧ s.prof k = 1) then s else
    match s.verified q with
    | (false, s) => s
    | (true, s) =>
      let t4 := s.rxStamp q.peer.key.port q.at_
      match s.answered q with
      | (none, s) => s
      | (some t1, s) =>
        let d := truncDiv ((t4 : Int) - t1 - turn - q.corr) 2
        if s.instRole k = 0 then s.put (Reg.PTP_PEER_DELAY_DELAY k) (satU 32 (d / 256)) else s.addDelay k d)

/-- DELAY_REQ_TX: an UPSTREAM instance's Delay_Req to its parent, at its interval (R236, R252). -/
def execDelayReqTx (k : Nat) (s : State) : Host.Outcome State Fault Refusal :=
  .next (
    if ¬ (k < 4 ∧ s.instSt k = 2 ∧ s.instRole k = 1 ∧ s.prof k ≠ 1 ∧ s.dueAt (s.logDly k) (s.inst k).lastDly) then s else
    match s.parentOf k with
    | none => s
    | some f =>
      let p := s.instPort k
      let uni := decide (s.prof k = 4)
      let may := match s.masterOf k f.key with
        | some m => s.gotGrant k m 2
        | none => false
      if uni && ! may then s else
      let s := s.setInst k { s.inst k with lastDly := s.tc.edges + 1 }
      match (if uni then s.signClient k true else s.signGroup k) with
      | (.hold, s) => s
      | (.send sa, s) =>
        let r := s.inst k
        let ts := if uni then [transOf f.key.kind] else s.transports k
        let s := s.setInst k { r with seqDelay := seqUp r.seqDelay, asked := ts.map fun t => (p + 4 * t, (r.seqDelay, 0)) }
        let m : PtpMsg := { typ := 1, inst := k, trans := 0, dst := none, seq := r.seqDelay, log := 0x7F, sa }
        if uni then s.txPush p (s.clientTci f.key) (.ptp { m with trans := transOf f.key.kind, dst := some f.key })
        else s.toAll k fun _ _ t => { m with trans := t })

/-! ## Grants asked of configured masters (R251) -/

/-- GRANT_RX: a master's GRANTs, and denials as those of 0 s (R251, R254). -/
def execGrantRx (q : PtpIn) (tlvs : List NegTlv) (s : State) : Host.Outcome State Fault Refusal :=
  let q := q.norm
  let k := q.inst
  .next (
    if ¬ s.upTakes q then s else
    match s.openSignaling q with
    | (none, s) => s
    | (some _, s) =>
      match (if s.instSt k = 2 ∧ s.prof k = 4 then s.masterOf k q.peer.key else none) with
      | none => s
      | some m =>
        (tlvs.foldl (fun s t =>
          if t.kind = 1 ∧ t.typ < 3 then
            let r := s.inst k
            s.setInst k { r with grants := aput r.grants (4 * m + t.typ) (if t.dur = 0 then 0 else s.runNs + t.dur * secNs) }
          else s) s).upJudge k)

/-- GRANT_RENEWAL: a REQUEST for 300 s at the instance's own interval, where no grant is live or 60 s are left of it (R251). -/
def execGrantRenewal (k m typ : Nat) (s : State) : Host.Outcome State Fault Refusal :=
  .next (
    if ¬ (k < 4 ∧ m < 4 ∧ typ < 3 ∧ s.instSt k = 2 ∧ s.instRole k = 1 ∧ s.prof k = 4
      ∧ s.get (Reg.PTP_UP_MCFG_VALID k m) = 1 ∧ (aget (s.inst k).grants (4 * m + typ)).getD 0 ≤ s.runNs + 60 * secNs) then s else
    let c := s.masterKey k m
    match s.signClient k true with
    | (.hold, s) => s
    | (.send sa, s) =>
      let log := if typ = 0 then s.logAnn k else if typ = 1 then s.logSync k else s.logDly k
      let (msg, s) := s.signaling k c [⟨0, typ, log, 300⟩] sa
      (s.txPush c.port (s.clientTci c) (.ptp msg)).upShow k)

/-! ## Commands (R257) -/

def opPtpInstSet : OpInfo := { op := 0x0901, role := 2, carried := true }
def opPtpInstStart : OpInfo := { op := 0x0902, role := 2, carried := true }
def opPtpInstStop : OpInfo := { op := 0x0903, role := 2, carried := true }
def opPtpSaSet : OpInfo := { op := 0x0904, role := 2, carried := true }
def opPtpClockIdSet : OpInfo := { op := 0x0905, role := 2, carried := true }
def opPtpGrantCancel : OpInfo := { op := 0x0906, role := 1, carried := true }

/-- PTP_INST_SET's effect. -/
def ptpInstSetEff (k off v role : Nat) (s : State) : Res :=
  let b := 0x340100 + 0x100 * k
  if 4 ≤ k ∨ ¬ (off ≤ 0x30 ∨ (0xC0 ≤ off ∧ off ≤ 0xFC)) then ⟨s, some Status.range, 0⟩
  else if (off = 0 ∧ 4 < v % 8) ∨ (off = 0x0C ∧ v / 2 ^ 16 % 2 ^ 10 < v % 2 ^ 10) then ⟨s, some Status.range, 0⟩
  else if off < 8 ∧ s.instSt k ≠ 0 then ⟨s, some Status.busy, 0⟩
  else s.setWord role 0x0901 b (b + 0x100) (b + off) v

/-- PTP_INST_SET (R257). -/
def execPtpInstSet (c : Ctx) (k off value : Nat) (s : State) : Host.Outcome State Fault Refusal :=
  .next (s.runCmd c opPtpInstSet [k, off, value] fun role s => ptpInstSetEff k off value role s)

/-- Whether an instance's values lie in its profile's ranges (R233). -/
def State.profileOk (s : State) (k : Nat) : Bool :=
  let f := s.profile k
  let d := s.get (Reg.PTP_INST_CFG_DOMAIN k)
  s.prof k ≤ 4 && logIn (s.logSync k) f.sync && logIn (s.logAnn k) f.ann && logIn (s.logDly k) f.dly
    && decide (d = 0xFF ∨ (f.dom.1 ≤ d ∧ d ≤ f.dom.2))

/-- Whether another running instance stands in the way: the same domain on a shared port, or a second UPSTREAM on a port (R232). -/
def State.instClash (s : State) (k : Nat) : Bool :=
  (List.range 4).any fun j => decide (j ≠ k) && (List.range 4).any fun p =>
    s.instOn j p && s.fbit (Reg.PTP_INST_CFG_PORTS k) p
      && decide (s.domain j = s.domain k ∨ (s.instRole j = 1 ∧ s.instRole k = 1))

/-- PTP_INST_START's effect (R232, R233, R236). -/
def ptpInstStartEff (k role : Nat) (s : State) : Res :=
  if 4 ≤ k then ⟨s, some Status.range, 0⟩
  else if s.instSt k ≠ 0 then ⟨s, some Status.busy, 0⟩
  else if ¬ s.profileOk k ∨ s.instClash k ∨ s.clockId = 0
      ∨ (s.instRole k = 1 ∧ ((List.range 4).filter fun p => s.fbit (Reg.PTP_INST_CFG_PORTS k) p).length ≠ 1) then ⟨s, some Status.range, 0⟩
  else
    let s := (s.setInst k { offAt := s.runNs, annAt := s.runNs }).setInstSt k 1
    let s := s.change role 0x90FF 0x0902 0xFFFFFFFF k 0
    let s := s.ptpJudge k
    ⟨if s.instRole k = 1 then s.upJudge k else s, some Status.ok, 0⟩

/-- PTP_INST_START (R257). -/
def execPtpInstStart (c : Ctx) (k : Nat) (s : State) : Host.Outcome State Fault Refusal :=
  .next (s.runCmd c opPtpInstStart [k] fun role s => ptpInstStartEff k role s)

/-- The grants of an instance, or those of one client of it, cancelled; how many there were. -/
def State.cancelGrants (s : State) (k : Nat) (c : Option CKey) : Nat × State :=
  let gs := s.clt.calendar.filter fun g => decide (g.inst = k) && s.grantRuns g && (match c with
    | some x => decide (g.key = x.norm)
    | none => true)
  (gs.length, gs.foldl State.cancelGrant s)

/-- A live grant of a configured master given back: CANCEL_UNICAST_TRANSMISSION once, where this twin serves (R236). -/
def State.giveBack (s : State) (k m typ : Nat) : State :=
  let c := s.masterKey k m
  if ¬ s.gotGrant k m typ ∨ ¬ s.serves ∨ ¬ s.portServes c.port then s else
  match s.signClient k true with
  | (.hold, s) => s
  | (.send sa, s) =>
    let (msg, s) := s.signaling k c [⟨2, typ, 0, 0⟩] sa
    s.txPush c.port (s.clientTci c) (.ptp msg)

/-- Every live grant that an UPSTREAM instance of PROFILE 4 holds given back. -/
def State.giveAllBack (s : State) (k : Nat) : State :=
  if s.instRole k = 1 ∧ s.prof k = 4 then
    (List.range 12).foldl (fun s j => s.giveBack k (j / 3) (j % 3)) s
  else s

/-- PTP_INST_STOP's effect (R236). -/
def ptpInstStopEff (k role : Nat) (s : State) : Res :=
  if 4 ≤ k then ⟨s, some Status.range, 0⟩ else
  let wasUp := decide (s.instRole k = 1 ∧ s.instSt k ≠ 0)
  let s := (s.cancelGrants k none).2.giveAllBack k
  let s := (s.setInstSt k 0).ptpJudge k
  let s := if wasUp then s.upJudge k else s
  let s := s.setInst k {}
  let s := if wasUp then s.upShow k else s
  ⟨s.change role 0x90FF 0x0903 0xFFFFFFFF k 0, some Status.ok, 0⟩

/-- PTP_INST_STOP (R257). -/
def execPtpInstStop (c : Ctx) (k : Nat) (s : State) : Host.Outcome State Fault Refusal :=
  .next (s.runCmd c opPtpInstStop [k] fun role s => ptpInstStopEff k role s)

/-- Whether the first word of an SA names a slot whose key does not have its algorithm's length; an empty slot only where the SA is
VALID (log entry 36). -/
def State.saClash (s : State) (i v : Nat) : Bool :=
  let slot := (Reg.SA_CFG_KEY_SLOT i).part v
  let alg := (Reg.SA_CFG_ALG i).part v
  let u := s.usage slot
  if u = 0 then v % 2 = 1 else usageLen u ≠ (if alg = 1 then 16 else 32)

/-- PTP_SA_SET's effect (R246, R257). -/
def ptpSaSetEff (i off v role : Nat) (s : State) : Res :=
  let a := 0x340800 + 0x20 * i
  let w0 := match wordAt a with
    | some w => s.rawWord w.fields
    | none => 0
  if 32 ≤ i ∨ 0x14 < off then ⟨s, some Status.range, 0⟩
  else if off = 0 ∧ s.saClash i v then ⟨s, some Status.range, 0⟩
  else if s.saUsable i s.linear ∧ ((off = 0 ∧ v / 2 ≠ w0 / 2) ∨ off = 4 ∨ off = 8 ∨ off = 0x0C) then ⟨s, some Status.busy, 0⟩
  else s.setWord role 0x0904 a (a + 0x18) (a + off) v

/-- PTP_SA_SET (R257). -/
def execPtpSaSet (c : Ctx) (i off value : Nat) (s : State) : Host.Outcome State Fault Refusal :=
  .next (s.runCmd c opPtpSaSet [i, off, value] fun role s => ptpSaSetEff i off value role s)

/-- PTP_CLOCK_ID_SET's effect (R257). -/
def ptpClockIdSetEff (id role : Nat) (s : State) : Res :=
  if (List.range 4).any fun k => decide (s.instSt k ≠ 0) then ⟨s, some Status.busy, 0⟩
  else if 2 ^ 64 ≤ id then ⟨s, some Status.range, 0⟩
  else
    let old := s.clockId
    let s := s.put64 Reg.PTP_CLOCK_ID_LO_ID_LO Reg.PTP_CLOCK_ID_HI_ID_HI id
    ⟨s.change role 0x90FF 0x0905 0x340010 old id, some Status.ok, 0⟩

/-- PTP_CLOCK_ID_SET (R257). -/
def execPtpClockIdSet (c : Ctx) (id : Nat) (s : State) : Host.Outcome State Fault Refusal :=
  .next (s.runCmd c opPtpClockIdSet [id] fun role s => ptpClockIdSetEff id role s)

/-- PTP_GRANT_CANCEL's effect: OK with the grants cancelled (R257). -/
def ptpGrantCancelEff (k : Nat) (who : Option CKey) (role : Nat) (s : State) : Res :=
  if 4 ≤ k then ⟨s, some Status.range, 0⟩ else
  let (n, s) := s.cancelGrants k who
  ⟨s.change role 0x90FF 0x0906 0xFFFFFFFF k n, some Status.ok, n⟩

/-- PTP_GRANT_CANCEL (R257). -/
def execPtpGrantCancel (c : Ctx) (k : Nat) (who : Option CKey) (s : State) : Host.Outcome State Fault Refusal :=
  .next (s.runCmd c opPtpGrantCancel ((k : Int) :: (match who with
    | some x => x.params
    | none => [])) fun role s => ptpGrantCancelEff k who role s)

end Sys2Proof.Machine
end

