-- ==== Sys2Proof/Machine/Serve.lean ====
section
/-! DEFINITION. Where the services meet: what they judge together when a port, the twin or the discipline changes, the links' going
up and down, and the transmit scheduler. -/

namespace Sys2Proof.Machine

/-- The services judged anew: PTP instances, upstreams, the ports that answer NTP (R236, R254, R260). -/
def State.serveUpdate (s : State) : State := s.ptpJudgeAll.upJudgeAll.ntpUpdate

/-- MARKER_ARRIVAL (R74 to R76): a port that reaches TRACKING may serve. -/
def execMarkerArrival (p : Nat) (crcOk : Bool) (counter : Int) (roundTrip : Nat) (steady : Bool) (s : State) :
    Host.Outcome State Fault Refusal :=
  .next (s.markerArrival p crcOk counter roundTrip steady).serveUpdate

/-- NO_GOOD_MARKER: 1 ms without a good marker takes an UNSURE port to CALIBRATING, and it serves no longer (R76). -/
def execNoGoodMarker (p : Nat) (s : State) : Host.Outcome State Fault Refusal :=
  .next (if p < 4 ∧ s.tbState p = 2 ∧ s.due (.tbQuiet p) then (s.setTb p 0).serveUpdate else s)

/-- LINK_UP: RX_SKEW measured, unit 2^-10 ns, and no fault within 2 ms of ALIGNING (R305). -/
def execLinkUp (p skew : Nat) (s : State) : Host.Outcome State Fault Refusal := .next (s.linkUp p skew).serveUpdate

/-- LINK_DOWN: lock lost for 1 ms, or a local or remote fault (R305). -/
def execLinkDown (p : Nat) (localFault remoteFault : Bool) (s : State) : Host.Outcome State Fault Refusal :=
  .next (s.linkDown p localFault remoteFault).serveUpdate

/-- PORT_LINK_RESET's effect: an ALIGNING or UP link goes DOWN and trains again; R305 has it count and raise nothing (R328). -/
def portLinkResetEff (p role : Nat) (s : State) : Res :=
  if 4 ≤ p then ⟨s, some Status.range, 0⟩
  else if s.unitFenced (0x8000 + p) then ⟨s, some Status.fenced, 0⟩
  else
    let l := s.get (Reg.PORT_STATUS_LINK p)
    if l = 2 ∨ l = 3 then
      let s := ((s.setLink p 1).linkGone p).serveUpdate
      ⟨s.change role (0x8000 + p) 0x0C02 0xFFFFFFFF 0 0, some Status.ok, 0⟩
    else ⟨s, some Status.notFit, 0⟩

/-- PORT_LINK_RESET (R328). -/
def execPortLinkReset (c : Ctx) (p : Nat) (s : State) : Host.Outcome State Fault Refusal :=
  .next (s.runCmd c opLinkReset [] (portLinkResetEff p))

/-- FRAME_TRANSMIT: the scheduler sends a port's next frame, whose last SFD bit crosses the MII boundary at a time in units of
2^-32 ns; `cut` says the link went DOWN before its end (R316 to R319). -/
def execFrameTransmit (p t : Nat) (cut : Bool) (s : State) : Host.Outcome State Fault Refusal :=
  .next (
    if 4 ≤ p then s else
    match s.nextTx p with
    | none => s
    | some i =>
      let s := s.setPort p { s.port p with fifo := dropFirst (fun j => decide (j = i)) (s.port p).fifo }
      match i.body with
      | .host f => s.launchHost p t cut f
      | .esmc code event => if cut then s else s.launchEsmc p i.tci code event
      | .ptp m => if cut then s else s.launchPtp p t i.tci m
      | .ntp m => if cut ∨ ¬ s.portUp p ∨ ¬ s.unitOn (0x8000 + p) ∨ s.follower then s else s.launchNtp p t i.tci m)

end Sys2Proof.Machine
end

