-- ==== Sys2Proof/Machine/Fabric.lean ====
section
/-! DEFINITION. The record queues of the fabric (R400 to R403): flushes, delivery into the rings; FAB_SET, drains and the speed
measurement (R397, R404 to R406). -/

namespace Sys2Proof.Machine

/-! ## Record queues (R400 to R403) -/

/-- Records a queue holds. -/
def State.rqHeld (s : State) (q : Nat) : Nat :=
  if q = 0 then s.evtq.recs.length else if q = 5 then s.dumpq.length else (s.port (q - 1)).tsq.length

/-- A queue emptied. -/
def State.rqEmpty (s : State) (q : Nat) : State :=
  let s := s.setVar (.rqPoison q) 0
  if q = 0 then { s with evtq := { s.evtq with recs := [] } }
  else if q = 5 then { s with dumpq := [] }
  else s.setPort (q - 1) { s.port (q - 1) with tsq := [] }

/-- A flush of a queue, at once at the record boundary: what it holds is discarded and counted (R402). -/
def State.flush (s : State) (q : Nat) : State :=
  if 6 ≤ q then s else (s.bumpBy (Reg.RQ_FLUSHED_COUNT q) (s.rqHeld q)).rqEmpty q

/-- A record lost by poison: counted with its losses (R401). -/
def State.rqPoisoned (s : State) (q : Nat) : State :=
  let s := (s.bump (Reg.RQ_LOST_COUNT q)).bump (Reg.RQ_PARITY_COUNT q)
  let s := if q = 0 then { s.bump Reg.HIF_EVT_LOST_COUNT with evtq := { s.evtq with lost := s.evtq.lost + 1 } }
    else if q = 5 then s.setVar .dumpLost (s.var .dumpLost + 1)
    else
      let r := s.port (q - 1)
      (s.setPort (q - 1) { r with tsqLost := r.tsqLost + 1 }).portCount (Reg.TSQ_LOST_COUNT (q - 1))
  s.rqLostNote q

/-- The ACTIVE EVT rings that take an event of a severity (R370). -/
def State.evtRings (s : State) (sev : Nat) : List Nat :=
  (List.range 64).filter fun n => decide (s.ringSt n = 1 ∧ s.get (Reg.RING_CFG_TYPE n) = 2 ∧ s.get (Reg.RING_CFG_MIN_SEV n) ≤ sev)

/-- The 64 bytes of an event record for a ring (R378). -/
def evtBytes (e : LogEntry) (phase lost : Nat) : List Byte :=
  (leBytes 8 e.ns ++ leBytes 2 e.frac ++ leBytes 2 e.code ++ leBytes 2 e.hid
    ++ leBytes 1 (e.sev.code + 4 * e.side + 8 * b2n e.remote + 16 * phase) ++ leBytes 1 e.role ++ leBytes 4 e.teb ++ leBytes 4 e.trace
    ++ leBytes 4 e.seq ++ leBytes 2 (min lost 65535) ++ leBytes 2 0 ++ packItems e.items 0 ++ List.replicate 32 0).take 64

/-- The oldest event record into the EVT rings that take it, once all have room; with no ACTIVE EVT ring it waits (R373, R401). -/
def State.deliverEvt (s : State) (dmaOk : Bool) : State :=
  match s.evtq.recs with
  | [] => s
  | e :: r =>
    let dst := s.evtRings e.sev.code
    if (s.evtRings 4).isEmpty ∨ dst.any fun n => decide (s.ringRoom n = 0) then s
    else if ¬ dmaOk ∧ dst ≠ [] then s.ringError (dst.headD 0) 3 (s.ringBase (dst.headD 0) % 2 ^ 32)
    else
      let lost := s.evtq.lost
      let s := { (s.rqGone 0) with evtq := ⟨r, if dst = [] then lost else 0⟩ }
      let s := dst.foldl (fun s n =>
        s.ringWrite n (evtBytes e (s.phaseOf n (s.engIdx n)) lost) (decide (s.get (Reg.RING_CFG_IRQ_SEV n) ≤ e.sev.code))) s
      if dst ≠ [] ∧ lost ≠ 0 then s.raiseHif (evHif 2 .warning) [i4 lost] else s

/-- The oldest timestamp record of a port into its TSQ ring, if that is ACTIVE (R317, R318). -/
def State.deliverTsq (s : State) (p : Nat) (dmaOk : Bool) (ring : Option Nat) : State :=
  let r := s.port p
  match r.tsq, ring with
  | x :: rest, some n =>
    if s.ringRoom n = 0 then s
    else if ¬ dmaOk then s.ringError n 3 (s.ringBase n % 2 ^ 32)
    else ((s.rqGone (1 + p)).setPort p { r with tsq := rest, tsqLost := 0 }).ringWrite n (x.bytes p r.tsqLost) false
  | _, _ => s

/-- The ACTIVE DUMP ring (R370). -/
def State.dumpRing (s : State) : Option Nat := (List.range 64).find? fun n => s.ringSt n = 1 ∧ s.get (Reg.RING_CFG_TYPE n) = 6

/-- The oldest dump entry into the DUMP ring; a header takes the entries lost before it (R418). -/
def State.deliverDump (s : State) (dmaOk : Bool) (ring : Option Nat) : State :=
  match s.dumpq, ring with
  | x :: rest, some n =>
    if s.ringRoom n = 0 then s
    else if ¬ dmaOk then s.ringError n 3 (s.ringBase n % 2 ^ 32)
    else
      let s := { (s.rqGone 5) with dumpq := rest }
      if x.headD 0 = 0x10 then
        let lost := min (s.var .dumpLost).toNat 65535
        (s.setVar .dumpLost 0).ringWrite n (x.take 18 ++ leBytes 2 lost ++ x.drop 20) false
      else s.ringWrite n x false
  | _, _ => s

/-- A queue's oldest record taken out. -/
def State.rqTail (s : State) (q : Nat) : State :=
  let s := s.rqGone q
  if q = 0 then { s with evtq := { s.evtq with recs := s.evtq.recs.tail } }
  else if q = 5 then { s with dumpq := s.dumpq.tail }
  else s.setPort (q - 1) { s.port (q - 1) with tsq := (s.port (q - 1)).tsq.tail }

/-- RECORD_QUEUE_DELIVERY: a queue's oldest record read out; a poisoned one, by parity or because the unit it came from is fenced since, is
discarded whole, any other goes into its ring (R45, R401). -/
def execRecordQueueDelivery (q : Nat) (poisoned dmaOk : Bool) (s : State) : Host.Outcome State Fault Refusal :=
  .next (
    if 6 ≤ q ∨ s.rqHeld q = 0 ∨ ¬ s.hostOpen then s
    else if poisoned ∨ 0 < s.var (.rqPoison q) then (s.rqTail q).rqPoisoned q
    else if q = 0 then s.deliverEvt dmaOk
    else if q = 5 then s.deliverDump dmaOk s.dumpRing
    else s.deliverTsq (q - 1) dmaOk (s.portRing 5 (q - 1)))

/-! ## Drains and speed (R397, R405) -/

/-- The initiator HID of a port of the matrix (R389); a MAC DMA port is named by the lower of its ports. -/
def iniHid (n : Nat) : Nat := [0xB000, 0x0600, 0x90FF, 0x91FF, 0x8000, 0x8002, 0xB400, 0x2E00, 0x3100].getD n 0

/-- An initiator port taken out of service to drain (R397). -/
def State.startDrain (s : State) (n : Nat) : State := s.putBit Reg.FAB_STATUS_DRAINING n true

/-- DRAIN: the last response is absorbed; the port takes requests again (R397). -/
def execDrain (n discards masked : Nat) (s : State) : Host.Outcome State Fault Refusal :=
  .next (
    if n < 9 ∧ s.fbit Reg.FAB_STATUS_DRAINING n then
      let s := ((s.putBit Reg.FAB_STATUS_DRAINING n false).bump Reg.FAB_DRAINS_COUNT).bumpBy Reg.FAB_DRAIN_DISCARDS_COUNT discards
      s.raiseFab 4 .info (iniHid n) [i2 (iniHid n), i4 discards, i4 masked]
    else s)

/-- SPEED_LOW: the measurement made each 1 ms, in 10^6 transfers per second; below 900 it raises 0x0725 (R405, R406). -/
def execSpeedLow (rate : Nat) (s : State) : Host.Outcome State Fault Refusal :=
  .next (
    let s := s.put Reg.FAB_SPEED_RATE (min rate 65535)
    if rate < 900 then s.raiseFab 5 .warning 0xB200 [i2 (min rate 65535)] else s)

/-! ## FAB_SET (R404) -/

/-- Whether an offset is RQ_CTRL of a queue. -/
def isRqCtrl (off : Nat) : Bool := 0x100 ≤ off ∧ off < 0x1C0 ∧ (off - 0x100) % 0x20 = 4

/-- FAB_SET by offset: its role, and whether the standby gets it. -/
def opFabSet (off : Nat) : OpInfo :=
  { op := 0x0E01, role := if isRqCtrl off then 1 else 2, carried := decide (off = 0x0C ∨ off = 0x08) }

/-- FAB_SET's effect: RQ_CTRL requests a flush; a register that software does not write is NOT_PERMITTED. -/
def fabSetEff (off v role : Nat) (s : State) : Res :=
  if isRqCtrl off then
    if 1 < v then ⟨s, some Status.range, 0⟩
    else
      let s := if v = 1 then s.flush ((off - 0x100) / 0x20) else s
      ⟨s.change role 0xB200 0x0E01 (0x40000 + off) 0 v, some Status.ok, 0⟩
  else s.setWord role 0x0E01 0x40000 0x401C0 (0x40000 + off) v

/-- FAB_SET (R404). -/
def execFabSet (c : Ctx) (off value : Nat) (s : State) : Host.Outcome State Fault Refusal :=
  .next (s.runCmd c (opFabSet off) [off, value] (fabSetEff off value))

end Sys2Proof.Machine
end

