-- ==== Sys2Proof/Machine/Tim.lean ====
section
/-! DEFINITION. Time-interval measurement (R139 to R160): stamps, measurements, heats, statistics and result records,
the calibration rotation through the spare, substitution, and the warm-up flag. -/

namespace Sys2Proof.Machine

/-! ## TDC lanes -/

/-- The HID of TDC lane k; 24 is the spare (R37). -/
def tdcHid (k : Nat) : Nat := if k < 16 then 0x0300 + k else 0x0400 + (k - 16)

/-- What a TDC lane keeps of its heat. -/
def State.heat (s : State) (k : Nat) : HeatRec := (aget s.tim.heats k).getD {}

/-- A TDC lane's heat set. -/
def State.setHeat (s : State) (k : Nat) (h : HeatRec) : State := { s with tim := { s.tim with heats := aput s.tim.heats k h } }

/-- HEAT_STATE of a TDC lane (R150). -/
def State.heatSt (s : State) (k : Nat) : Nat := s.get (Reg.TDC_STATE_HEAT_STATE k)

/-- Whether a heat runs: ARMED or OPEN. -/
def State.heatRuns (s : State) (k : Nat) : Bool := s.heatSt k = 1 ∨ s.heatSt k = 2

/-- Whether the spare stamps for a TDC lane: permanently, or in its calibration slot (R154, R156). -/
def State.bySpare (s : State) (k : Nat) : Bool := s.get (Reg.TDC_CFG_SERVED_BY k) = 24

/-- Seconds since a unit's last passed check, saturating (TDC_CAL_AGE). -/
def State.calAge (s : State) (k : Nat) : Nat :=
  match aget s.tim.calAt k with
  | some t => min ((s.runNs - t) / secNs) 0xFFFF
  | none => 0xFFFF

/-- A condition of TIM_STICKY: its bit sets at each occurrence; the event is raised when enabled, for 0x0043 to 0x0045 at
most once a second for each TDC lane, for 0x0046 once a second (R160). -/
def State.raiseTim (s : State) (k : Nat) (sev : Sev) (hid lane : Nat) (items : List Item) : State :=
  let v := Var.timRaised k (if k < 3 then lane else 0)
  let last := s.var v
  if k < 4 ∧ last ≠ 0 ∧ (s.runNs : Int) + 1 < last + secNs then s.putBit Reg.TIM_STICKY_STICKY k true
  else
    let s := if s.fbit Reg.TIM_EVT_EN_EN k then s.setVar v (s.runNs + 1) else s
    s.raise (evTim k sev hid) items

/-! ## Uses of TDC lanes (R139) -/

/-- The TDC lane that serves a reference lane: its own, or the one it was moved to. -/
def State.tdcOf (s : State) (n : Nat) : Nat := (aget s.tim.moved n).getD n

/-- Whether a reference lane needs a TDC lane: it is not DISABLED and its source is a REFIN pin or a recovered clock. -/
def State.needsTdc (s : State) (n : Nat) : Bool :=
  decide (s.laneSt n ≠ 0 ∧ (s.laneSrc n < 8 ∨ (0x10 ≤ s.laneSrc n ∧ s.laneSrc n ≤ 0x13)))

/-- Whether a TDC lane can work: ENABLED, or the spare stands in for it permanently. -/
def State.tdcWorks (s : State) (k : Nat) : Bool :=
  s.unitOn (tdcHid k) ∨ (s.get Reg.TIM_STATUS_SPARE_SUBST = 1 ∧ s.get Reg.TIM_STATUS_SUBST_LANE = k ∧ s.unitOn (tdcHid 24))

/-- The reference lane a TDC lane serves. -/
def State.laneServed (s : State) (k : Nat) : Option Nat := allLanes.find? fun n => s.needsTdc n ∧ s.tdcOf n = k

/-- Whether a reference lane is served by a TDC lane. -/
def State.servesLane (s : State) (k : Nat) : Bool :=
  allLanes.any fun n => s.needsTdc n ∧ s.tdcOf n = k

/-- The use of a TDC lane, or of the spare as unit 24 (R139, R140): CAL, HEAT, LANE or IDLE. -/
def State.useOf (s : State) (k : Nat) : Nat :=
  if s.var .calUnit = k + 1 ∧ (s.var .calPhase = 2 ∨ s.var .calPhase = 3) then 3
  else if 24 ≤ k then 0
  else if s.heatRuns k then 1
  else if s.servesLane k then 2 else 0

/-- TDC_CFG.USE brought up to date. -/
def State.useUpdate (s : State) (k : Nat) : State := s.put (Reg.TDC_CFG_USE k) (s.useOf k)

/-! ## Stamps (R142 to R145, R149) -/

/-- A stamp of an edge that lies a given part of a TCLK period after the present TCLK edge, the part in units of 2^-16 ns of the
nominal period (102,400 of them): on the Time Core's scale, then in nominal TCLK periods, unit 2^-16 ns (R143, R144). -/
def State.stampTime (s : State) (fine : Nat) : Nat := (s.tc.time + fine * (25 * (2 ^ 48 + s.tc.rt)).toNat / 102400) / 2 ^ 36
@[inherit_doc State.stampTime] def State.stampTclk (s : State) (fine : Nat) : Int := (s.tc.edges * 102400 + fine : Nat)

/-- The stamp of an edge on the scale of a TDC lane's heat, with the steps the Time Core has made (R144, R145). -/
def State.scaled (s : State) (k src fine : Nat) : Int :=
  (if s.get (Reg.TDC_CFG_SCALE k) = 1 then s.stampTclk fine else (s.stampTime fine : Int)) - s.srcDelay src

/-- Steps to be taken out of intervals on a heat's scale: none in nominal TCLK periods, which a step of the Time Core leaves as they are, so
that no record of such a heat is STEPPED (R144, R145; DESIGN CHOICE, log entry 178). -/
def State.heatSteps (s : State) (k : Nat) : Int := if s.get (Reg.TDC_CFG_SCALE k) = 1 then 0 else s.var .stepSum

/-- An interval in units of 2^-16 ns as recorded: rounded to 2^-10 ns, or 0 with COINCIDENT below one unit (R143, R147). -/
def recorded (x : Int) : Int × Bool := if x.natAbs < 64 then (0, true) else (roundDiv x 64, false)

/-- Whether an edge falls into a channel's dead time of 2.5 ns (R149). -/
def inDeadTime (last : Option Int) (now : Int) : Bool :=
  match last with
  | some t => decide (now - t < 163840)
  | none => false

/-- Whether a heat's START and STOP take the same source and edge (R146); a compare's edge selection is ignored (R141). -/
def State.sameInput (s : State) (k : Nat) : Bool :=
  let a := s.get (Reg.TDC_CFG_START_SRC k)
  decide (a = s.get (Reg.TDC_CFG_STOP_SRC k) ∧ (0x30 ≤ a ∨ s.get (Reg.TDC_CFG_START_EDGE k) = s.get (Reg.TDC_CFG_STOP_EDGE k)))

/-! ## Statistics (R151) -/

/-- The statistics registers from n intervals: mean, deviation, extremes. -/
def State.showStats (s : State) (k : Nat) (h : HeatRec) (n : Nat) : State :=
  let mean := 64 * h.x1 + (128 * h.s1 + n) / (2 * n : Nat)
  let var4 := 4 * 4096 * (n * h.s2 - h.s1 * h.s1).toNat / (n * (n - 1))
  let sd := if n ≤ 1 then 0 else (isqrt var4 + 1) / 2
  let s := s.putI64 (Reg.STAT_MEAN_LO_MEAN_LO k) (Reg.STAT_MEAN_HI_MEAN_HI k) mean
  let s := s.put (Reg.STAT_SD_SD k) (min sd (2 ^ 32 - 1))
  let s := s.putI64 (Reg.STAT_MIN_LO_MIN_LO k) (Reg.STAT_MIN_HI_MIN_HI k) h.mn
  s.putI64 (Reg.STAT_MAX_LO_MAX_LO k) (Reg.STAT_MAX_HI_MAX_HI k) h.mx

/-- A closed measurement's split STAT_SPLIT taken into the statistics, or counted as excluded (R151). -/
def State.addStats (s : State) (k : Nat) (splits : List (Int × Bool)) : State :=
  match splits[s.get (Reg.TDC_CFG_STAT_SPLIT k)]? with
  | none => s.bump (Reg.STAT_COUNT_EXCLUDED k)
  | some (x, _) =>
    let n := s.get (Reg.STAT_COUNT_INCLUDED k) + 1
    let h := s.heat k
    let x1 := if n = 1 then x else h.x1
    let h := { h with x1 := x1, s1 := h.s1 + (x - x1), s2 := h.s2 + (x - x1) * (x - x1)
                      mn := if n = 1 then x else min h.mn x, mx := if n = 1 then x else max h.mx x }
    ((s.setHeat k h).put (Reg.STAT_COUNT_INCLUDED k) n).showStats k h n

/-! ## Result records (R152, R153) -/

/-- The six bytes of a split that was taken: interval, PRESENT, COINCIDENT. -/
def splitBytes (x : Int × Bool) : List Byte := leBytes 6 (toBits 42 x.1 + 2 ^ 42 + 2 ^ 43 * b2n x.2)

/-- The 64 bytes of a result record. -/
def State.recordBytes (s : State) (k : Nat) (m : OpenMeas) (timeout last : Bool) (falses : Nat) : List Byte :=
  let flags := b2n m.warming + 2 * b2n timeout + 4 * b2n m.stepped + 8 * b2n (m.splits.any fun x => x.1 < 0)
    + 16 * b2n m.spare + 32 * b2n (decide (s.get Reg.TIM_CAL_CTRL_STALE_AGE < s.calAge k))
    + 64 * s.get (Reg.TDC_CFG_SCALE k) + 128 * b2n last + 256 * min m.dead 15 + 4096 * min falses 15
  let head := leBytes 8 (m.start / 2 ^ 16) ++ leBytes 2 m.start ++ leBytes 2 (s.get (Reg.TDC_HEAT_DONE k))
    ++ leBytes 1 (k + 32 * (s.get (Reg.TDC_STATE_HEAT_NO k) % 8)) ++ leBytes 3 flags
  let body := (m.splits.map splitBytes).flatten
  head ++ body ++ List.replicate (48 - body.length) 0

/-- A record written to the result memory; when it is full the oldest goes, with 0x0046 (R152, R160). -/
def State.writeRecord (s : State) (bytes : List Byte) : State :=
  let wr := s.get Reg.TIM_RES_WR_WR
  let s := if s.tim.full then
      let s := (s.bump Reg.TIM_RES_RD_RD).bump Reg.TIM_RES_LOST_COUNT
      s.raiseTim 3 .warning 0x03FF 0 [i4 (s.get Reg.TIM_RES_LOST_COUNT)]
    else s
  let s := s.bump Reg.TIM_RES_WR_WR
  { s with tim := { s.tim with records := aput s.tim.records wr bytes
                               full := decide (s.get Reg.TIM_RES_WR_WR = s.get Reg.TIM_RES_RD_RD) } }

/-! ## Heats (R146, R150, R156) -/

/-- A heat's end: its state, and 0x0040 (R150). -/
def State.endHeat (s : State) (k st : Nat) : State :=
  let s := ((s.put (Reg.TDC_STATE_HEAT_STATE k) st).stopTimer (.tdcWindow k)).useUpdate k
  s.raise (evHeat 0 .info (tdcHid k))
    [i2 (s.get (Reg.TDC_STATE_HEAT_NO k)), i1 st, i2 (s.get (Reg.TDC_HEAT_DONE k)), i2 (s.get (Reg.STAT_COUNT_EXCLUDED k))]

/-- A measurement closed: its record where KEEP is set, the statistics, DONE. The flags seen are gathered, and TIMEOUT is counted
(R146, R150 to R152). -/
def State.closeCore (s : State) (k : Nat) (timeout last : Bool) : State :=
  let h := s.heat k
  match h.meas with
  | none => s
  | some m =>
    let s := if s.get (Reg.TDC_CFG_KEEP k) = 1 then s.writeRecord (s.recordBytes k m timeout last h.falses) else s
    let s := if m.warming then s.put (Reg.TDC_STATE_WARM_SEEN k) 1 else s
    let s := if m.stepped then s.put (Reg.TDC_STATE_STEP_SEEN k) 1 else s
    let s := if m.spare then s.put (Reg.TDC_STATE_SPARE_SEEN k) 1 else s
    let s := (s.setHeat k { h with meas := none, falses := 0 }).stopTimer (.tdcWindow k)
    let s := s.addStats k m.splits
    let s := if timeout then (s.bump (Reg.TDC_TIMEOUTS_COUNT k)).raiseTim 2 .info (tdcHid k) k [i1 k] else s
    s.bump (Reg.TDC_HEAT_DONE k)

/-- A heat stopped with a final state: an open measurement closes as it stands and counts, its record being the heat's last (R153; log
entry 152); then 0x0040 or, when a reference lane preempts it, 0x0041 (R150). -/
def State.stopHeat (s : State) (k st claim : Nat) : State :=
  if ¬ s.heatRuns k then s else
  let s := if s.heatSt k = 2 then s.closeCore k true true else s
  if st = 5 then
    let s := ((s.put (Reg.TDC_STATE_HEAT_STATE k) 5).stopTimer (.tdcWindow k)).useUpdate k
    s.raise (evHeat 1 .warning (tdcHid k)) [i2 (s.get (Reg.TDC_STATE_HEAT_NO k)), i2 (s.get (Reg.TDC_HEAT_DONE k)), i1 claim]
  else s.endHeat k st

/-- A heat on a fenced TDC lane with no stand-in: an open measurement is discarded (R150, R156). -/
def State.fenceHeat (s : State) (k : Nat) : State :=
  if ¬ s.heatRuns k then s else (s.setHeat k { s.heat k with meas := none }).endHeat k 6

/-- The rotation's slot given up: the lane in it goes on with its last table. Where the spare itself has gone the rotation does not resume
when it is ENABLED again; ROTATING is then set by a take-back alone (R155, R156; DESIGN CHOICE, log entry 179). -/
def State.stopRotation (s : State) : State :=
  let k := (s.var .calUnit - 1).toNat
  let back := decide (s.var .calUnit ≠ 0 ∧ s.var .calPhase ≠ 4)
  let s := if back then (s.put (Reg.TDC_CFG_SERVED_BY k) k).put (Reg.TDC_CFG_SERVED_BY 24) 24 else s
  let s := ((s.put Reg.TIM_STATUS_ROTATING 0).setVar .calUnit 0).stopTimer .cal
  if back then s.useUpdate k else s

/-- A TDC lane's work when it stops working, fenced or disabled: the spare takes it for good when it is free, else its heat
ends; its reference lane moves at the next lap boundary (R156). Where the spare stands in for it already, the spare goes on. -/
def State.tdcOut (s : State) (k : Nat) (fenced : Bool) : State :=
  if k = 24 then
    let s := s.stopRotation
    if s.get Reg.TIM_STATUS_SPARE_SUBST = 1 then
      let j := s.get Reg.TIM_STATUS_SUBST_LANE
      if fenced then s.fenceHeat j else s.stopHeat j 4 0
    else s
  else if s.get Reg.TIM_STATUS_SPARE_SUBST = 1 ∧ s.get Reg.TIM_STATUS_SUBST_LANE = k then
    (if s.var .calUnit = k + 1 then s.stopRotation else s)
  else if s.unitOn (tdcHid 24) ∧ s.get Reg.TIM_STATUS_SPARE_SUBST = 0 then
    let s := ((s.stopRotation.put Reg.TIM_STATUS_SPARE_SUBST 1).put Reg.TIM_STATUS_SUBST_LANE k).put (Reg.TDC_CFG_SERVED_BY k) 24
    (s.put (Reg.TDC_CFG_SERVED_BY 24) k).raiseTim 8 .error (tdcHid k) k [i1 k]
  else if fenced then s.fenceHeat k else s.stopHeat k 4 0

/-- A unit of the TIM that leaves ENABLED: disabled, it first finishes the measurement in hand (R156). -/
def State.tdcGone (s : State) (k : Nat) (fenced : Bool) : State :=
  let j := if k = 24 ∧ s.get Reg.TIM_STATUS_SPARE_SUBST = 1 then s.get Reg.TIM_STATUS_SUBST_LANE else k
  if ¬ fenced ∧ j < 24 ∧ s.heatSt j = 2 then s.setVar (.tdcLeaving j) (k + 1)
  else (s.setVar (.tdcLeaving j) 0).tdcOut k fenced

/-- The measurement that kept a disabled unit at work is finished (R156). -/
def State.leaveTdc (s : State) (k : Nat) : State :=
  let u := s.var (.tdcLeaving k)
  if u = 0 then s else
  let s := s.setVar (.tdcLeaving k) 0
  if s.unitOn (tdcHid (u - 1).toNat) then s else s.tdcOut (u - 1).toNat false

/-- A measurement closed in its course: the heat is ARMED again, or with the last one DONE (R150). -/
def State.closeMeas (s : State) (k : Nat) (timeout : Bool) : State :=
  match (s.heat k).meas with
  | none => s
  | some _ =>
    let last := decide (s.get (Reg.TDC_HEAT_N k) ≤ s.get (Reg.TDC_HEAT_DONE k) + 1)
    let s := (s.closeCore k timeout last).put (Reg.TDC_STATE_HEAT_STATE k) 1
    let s := if last then s.endHeat k 3 else s
    s.leaveTdc k

/-! ## Edges (R146 to R149) -/

/-- False starts counted (R148). -/
def State.falseStarts (s : State) (k : Nat) (n : Nat) : State :=
  if n = 0 then s else
  let h := s.heat k
  ((s.setHeat k { h with falses := h.falses + n }).bumpBy (Reg.TDC_FALSE_START_COUNT k) n).raiseTim 0 .info (tdcHid k) k [i1 k]

/-- SIGNED_WIN in units of 2^-16 ns; 0 unless SIGNED (R146). -/
def State.signedWin (s : State) (k : Nat) : Int :=
  if s.get (Reg.TDC_CFG_SIGNED k) = 1 then s.get (Reg.TDC_SIGNED_WIN_WIN k) * 65536 else 0

/-- Whether a STOP stamp lies in the window of a start stamped then, with the steps made by then (R146). -/
def State.splitWindow (s : State) (k : Nat) (start steps : Int) (w : StopStamp) : Bool :=
  decide (-s.signedWin k ≤ (w.at_ - start) - (w.steps - steps))

/-- A split added to the measurement in hand; the last one closes it (R146). -/
def State.addSplit (s : State) (k : Nat) (x : Int) (stepped spare : Bool) : State :=
  let h := s.heat k
  match h.meas with
  | none => s
  | some m =>
    let m := { m with splits := m.splits ++ [recorded x], stepped := m.stepped || stepped, spare := m.spare || spare }
    let s := s.setHeat k { h with meas := some m }
    if s.get (Reg.TDC_CFG_SPLITS k) ≤ m.splits.length then s.closeMeas k false else s

/-- Splits that waited for the start, oldest first; those left when the splits are present wait for the next start (R146, R148). -/
def State.addWaiting (s : State) (k : Nat) (start steps : Int) : List StopStamp → State
  | [] => s
  | w :: ws =>
    (if (s.heat k).meas.isSome then s.addSplit k ((w.at_ - start) - (w.steps - steps)) (decide (w.steps ≠ steps)) w.spare
     else s.setHeat k { s.heat k with waiting := (s.heat k).waiting ++ [w] }).addWaiting k start steps ws

/-- A measurement opened at an edge (R146): its stamps, its window, and the STOP edges stamped in the window that came first; the
earlier ones are false starts. -/
def State.openMeas (s : State) (k fine : Nat) : State :=
  let src := s.get (Reg.TDC_CFG_START_SRC k)
  let t := s.scaled k src fine
  let steps := s.heatSteps k
  let h := s.heat k
  let (good, bad) := h.waiting.partition (s.splitWindow k t steps)
  let m : OpenMeas := ⟨((s.stampTime fine : Int) - s.srcDelay src).toNat, t, steps, [], 0,
    decide (s.get Reg.TIM_STATUS_WARMING = 1), false, s.bySpare k⟩
  let s := s.falseStarts k bad.length
  let s := s.setHeat k { s.heat k with meas := some m, waiting := [] }
  let s := (s.put (Reg.TDC_STATE_HEAT_STATE k) 2).arm (.tdcWindow k) (s.get (Reg.TDC_WINDOW_WINDOW k) * 1000)
  s.addWaiting k t steps good

/-- A STOP edge taken: a split, a false start when its stamp lies before the window of the measurement in hand, or, with none open, one
that waits for the next start (R146, R148). -/
def State.takeStop (s : State) (k fine : Nat) : State :=
  let w : StopStamp := ⟨s.scaled k (s.get (Reg.TDC_CFG_STOP_SRC k)) fine, s.heatSteps k, s.bySpare k⟩
  match (s.heat k).meas with
  | some m =>
    if s.splitWindow k m.scaled m.steps w then
      s.addSplit k ((w.at_ - m.scaled) - (w.steps - m.steps)) (decide (w.steps ≠ m.steps)) w.spare
    else s.falseStarts k 1
  | none => s.setHeat k { s.heat k with waiting := (s.heat k).waiting ++ [w] }

/-- The STOP stamps that wait and that no START edge from now on can reach: false starts (R148). -/
def State.sweepStops (s : State) (k : Nat) : State :=
  let h := s.heat k
  let now := s.scaled k (s.get (Reg.TDC_CFG_START_SRC k)) 0
  let (keep, old) := h.waiting.partition (s.splitWindow k now (s.heatSteps k))
  if old = [] then s else (s.setHeat k { h with waiting := keep }).falseStarts k old.length

/-- The false starts told at a TCLK edge (R148). -/
def State.sweepHeats (s : State) : State :=
  (s.tim.heats.filter fun p => decide (p.2.waiting ≠ [])).foldl (fun s p => if s.heatRuns p.1 then s.sweepStops p.1 else s) s

/-- The measurement in hand closed when its WINDOW has elapsed before an edge's stamp (R146). -/
def State.windowPast (s : State) (k src fine : Nat) : State :=
  match (s.heat k).meas with
  | some m =>
    if (s.get (Reg.TDC_WINDOW_WINDOW k) * 65536000 : Int) < (s.scaled k src fine - m.scaled) - (s.heatSteps k - m.steps) then s.closeMeas k true
    else s
  | none => s

/-- A stamp of a TDC lane, its source's delay taken off: the last one noted (R142, R412), and counted (R415). -/
def State.tdcStamped (s : State) (k src fine : Nat) : State :=
  (s.setVar (.tdcStamp k) ((s.stampTime fine : Int) - s.srcDelay src)).pmcEvent 0 0x12

/-- A START edge on its channel: lost in dead time, skipped while a measurement is open, else it opens one (R149). -/
def State.startChannel (s : State) (k fine : Nat) : State :=
  let now := s.stampTclk fine
  let src := s.get (Reg.TDC_CFG_START_SRC k)
  let h := s.heat k
  if inDeadTime h.lastStart now then s.bump (Reg.TDC_START_SKIPPED_COUNT k)
  else
    let s := ((s.setHeat k { h with lastStart := some now }).tdcStamped k src fine).windowPast k src fine
    if s.heatSt k = 1 then s.openMeas k fine
    else if s.heatSt k = 2 then s.bump (Reg.TDC_START_SKIPPED_COUNT k) else s

/-- A STOP edge on its channel: lost in dead time and counted, else taken (R149). -/
def State.stopChannel (s : State) (k fine : Nat) : State :=
  let now := s.stampTclk fine
  let src := s.get (Reg.TDC_CFG_STOP_SRC k)
  let h := s.heat k
  if inDeadTime h.lastStop now then
    let s := s.setHeat k { h with meas := h.meas.map fun m => { m with dead := m.dead + 1 } }
    (s.bump (Reg.TDC_DEAD_LOST_COUNT k)).raiseTim 1 .info (tdcHid k) k [i1 k]
  else
    let s := ((s.setHeat k { h with lastStop := some now }).tdcStamped k src fine).windowPast k src fine
    if s.heatRuns k then s.takeStop k fine else s

/-- One edge of an input that is both START and STOP: the edge that opens a measurement is not one of its splits, and the
edge that closes one opens the next (R146). -/
def State.bothChannels (s : State) (k fine : Nat) : State :=
  let now := s.stampTclk fine
  let src := s.get (Reg.TDC_CFG_START_SRC k)
  let h := s.heat k
  if inDeadTime h.lastStop now then (s.bump (Reg.TDC_START_SKIPPED_COUNT k)).stopChannel k fine
  else
    let s := ((s.setHeat k { h with lastStart := some now, lastStop := some now }).tdcStamped k src fine).windowPast k src fine
    if s.heatSt k = 1 then s.openMeas k fine
    else if s.heatSt k = 2 then
      let s := s.takeStop k fine
      if s.heatSt k = 1 then s.openMeas k fine
      else if s.heatSt k = 2 then s.bump (Reg.TDC_START_SKIPPED_COUNT k) else s
    else s

/-- How many edges of its source a TDC lane that serves a reference lane stamps one of: every pulse of a PHASE lane, else every P-th, P
being the nominal frequency over 1 MHz, upward (R140). -/
def State.stampEvery (s : State) (n : Nat) : Nat := if s.laneType n = 1 then 1 else (s.laneNom n + 15999999) / 16000000

/-- An edge of the source of a reference lane on the TDC lane that serves it: lost and counted in the dead time of its START channel, else
counted towards the stamp, or stamped (R140, R149). -/
def State.laneEdge (s : State) (k n fine : Nat) : State :=
  let now := s.stampTclk fine
  let h := s.heat k
  let c := s.var (.tdcEdges k) + 1
  if inDeadTime h.lastStart now then s.bump (Reg.TDC_START_SKIPPED_COUNT k)
  else if c < s.stampEvery n then s.setVar (.tdcEdges k) c
  else ((s.setVar (.tdcEdges k) 0).setHeat k { h with lastStart := some now }).tdcStamped k (s.laneSrc n) fine

/-- START_EDGE: an edge on TDC lane k's START input, `fine` after the present TCLK edge: of its heat's, or else of the reference lane it
serves (R140, R146). -/
def execStartEdge (k fine : Nat) (s : State) : Host.Outcome State Fault Refusal :=
  .next (if 24 ≤ k then s
    else if s.heatRuns k then
      (if s.sameInput k then s.bothChannels k (fine % 102400) else s.startChannel k (fine % 102400))
    else if s.tdcWorks k then
      match s.laneServed k with
      | some n => s.laneEdge k n (fine % 102400)
      | none => s
    else s)

/-- STOP_EDGE: an edge on TDC lane k's STOP input (R146). -/
def execStopEdge (k fine : Nat) (s : State) : Host.Outcome State Fault Refusal :=
  .next (if k < 24 ∧ s.heatRuns k then
    (if s.sameInput k then s.bothChannels k (fine % 102400) else s.stopChannel k (fine % 102400)) else s)

/-- WINDOW_EXPIRY: the window of the measurement in hand has elapsed (R146). -/
def execWindowExpiry (k : Nat) (s : State) : Host.Outcome State Fault Refusal :=
  .next (if k < 24 ∧ s.heatSt k = 2 ∧ s.due (.tdcWindow k) then s.closeMeas k true else s)

/-! ## Claims of reference lanes (R140, R156) -/

/-- A TDC lane claimed for a reference lane: a heat there ends PREEMPTED (R140). -/
def State.claimTdc (s : State) (n k : Nat) : State := (s.stopHeat k 5 n).leaveTdc k

/-- The lowest-numbered of TDC_16 to TDC_23 that works itself and serves no reference lane (R156). -/
def State.freeTdc (s : State) : Option Nat :=
  ((List.range 8).map (· + 16)).find? fun k => s.unitOn (tdcHid k) ∧ ¬ s.tim.moved.any fun p => p.2 = k

/-- One reference lane's claim at a lap boundary (R140, R156). -/
def State.laneClaim (s : State) (n : Nat) : State :=
  if ¬ s.needsTdc n then { s with tim := { s.tim with moved := adel s.tim.moved n } }.setVar (.tdcLost n) 0
  else if s.tdcWorks (s.tdcOf n) then (s.claimTdc n (s.tdcOf n)).setVar (.tdcLost n) 0
  else
    match s.freeTdc with
    | some k => ({ s with tim := { s.tim with moved := aput s.tim.moved n k } }.claimTdc n k).setVar (.tdcLost n) 0
    | none => s.setVar (.tdcLost n) 1

/-- Whether the present edge is the crossing edge of a second (R59). -/
def State.atSecond (s : State) : Bool := s.crosses secNs

/-! ## The calibration rotation (R154 to R157) -/

/-- The slot of the second in hand: k × 31.25 ms; 24 from 750 ms on (R154). -/
def State.slotNow (s : State) : Nat := min (s.ns % secNs / 31250000) 24

/-- CAL_SLOT_START: at the edge its slot begins the spare connects to a TDC lane's inputs (R154). After a step no slot begins before the
next second boundary (DESIGN CHOICE, log entry 153). -/
def execCalSlotStart (k : Nat) (s : State) : Host.Outcome State Fault Refusal :=
  .next (
    if s.get Reg.TIM_STATUS_ROTATING = 1 ∧ s.unitOn (tdcHid 24) ∧ s.var .calUnit = 0 ∧ k = s.slotNow ∧ s.crosses 31250000
        ∧ (k = 0 ∨ s.var .calSkew = 0) ∧ s.unitOn (tdcHid k) then
      let s := ((s.setVar .calUnit (k + 1)).setVar .calPhase 1).put Reg.TIM_STATUS_CAL_LANE k
      (s.put (Reg.TDC_CFG_SERVED_BY 24) k).arm .cal 1000000
    else s)

/-- CAL_HANDOVER: 1 ms on, the spare owns the lane's work and the lane calibrates (R154). -/
def execCalHandover (k : Nat) (s : State) : Host.Outcome State Fault Refusal :=
  .next (
    if s.var .calUnit = k + 1 ∧ s.var .calPhase = 1 ∧ s.due .cal then
      let s := (s.setVar .calPhase 2).put (Reg.TDC_CFG_USE k) 3
      if k = 24 then s.arm .cal 248000000 else (s.put (Reg.TDC_CFG_SERVED_BY k) 24).arm .cal 29250000
    else s)

/-- A failed check (0) or overlap comparison (1) of a unit (R155, R160). -/
def State.calFail (s : State) (k which : Nat) (err : Int) : State :=
  (s.bump (Reg.TDC_CAL_FAILS_COUNT k)).raiseTim 4 .warning (tdcHid k) k [i1 k, i1 which, i2 (toBits 16 err)]

/-- CAL_RETURN: ownership returns to the lane; where it took back its work from the spare, the rotation resumes (R154, R156). -/
def execCalReturn (k : Nat) (s : State) : Host.Outcome State Fault Refusal :=
  .next (
    if s.var .calUnit = k + 1 ∧ 3 ≤ s.var .calPhase ∧ s.due .cal then
      let back := decide (s.var .calPhase = 4)
      let s := (s.put (Reg.TDC_CFG_SERVED_BY k) k).put (Reg.TDC_CFG_SERVED_BY 24) 24
      let s := ((s.setVar .calUnit 0).setVar .calPhase 0).stopTimer .cal
      let s := if back then ((s.put Reg.TIM_STATUS_SPARE_SUBST 0).put Reg.TIM_STATUS_SUBST_LANE 0).putB Reg.TIM_STATUS_ROTATING (s.unitOn (tdcHid 24))
        else s
      let s := s.useUpdate k
      if s.var .calOk = 1 then
        { s with tim := { s.tim with calAt := aput s.tim.calAt k s.runNs, stale := s.tim.stale.filter (· ≠ k) } }
      else s
    else s)

/-- TAKE_BACK: at the next second boundary a TDC lane that is ENABLED again takes back its work: from the spare with the overlap of R154, at
whose end CAL_RETURN returns the ownership, the difference in units of 2^-10 ns being compared as there; from the TDC lane a reference lane
was moved to, at once (R156). -/
def execTakeBack (o : Overlap) (s : State) : Host.Outcome State Fault Refusal :=
  .next (
    if o.k < 24 ∧ s.atSecond ∧ s.unitOn (tdcHid o.k) then
      let s := if s.get Reg.TIM_STATUS_SPARE_SUBST = 1 ∧ s.get Reg.TIM_STATUS_SUBST_LANE = o.k ∧ s.var .calUnit = 0 then
          let s := ((s.setVar .calUnit (o.k + 1)).setVar .calPhase 4).setVar .calOk 0
          let s := s.putI (Reg.TDC_CAL_DIFF_DIFF o.k) (satI 16 o.diff)
          (if o.diff.natAbs ≤ s.get Reg.TIM_CAL_CTRL_CAL_TOL then s else s.calFail o.k 1 o.diff).arm .cal 1000000
        else s
      match aget s.tim.moved o.k with
      | some m => (({ s with tim := { s.tim with moved := adel s.tim.moved o.k } }.useUpdate m).claimTdc o.k o.k).useUpdate o.k
      | none => s
    else s)

/-- CAL_STALE: a unit's CAL_AGE exceeds STALE_AGE (R157). -/
def execCalStale (k : Nat) (s : State) : Host.Outcome State Fault Refusal :=
  .next (
    if k < 25 ∧ s.get Reg.TIM_CAL_CTRL_STALE_AGE < s.calAge k ∧ k ∉ s.tim.stale then
      let s := { s with tim := { s.tim with stale := k :: s.tim.stale } }
      s.raiseTim 5 .warning (tdcHid k) k [i1 k, i2 (s.calAge k)]
    else s)

/-- A unit's bin table rebuilt: its mean width is what was measured, a free value (log entry 2). -/
def State.rebuildTable (s : State) (k : Nat) : State :=
  let (v, s) := s.takeFree
  s.put (Reg.TDC_CAL_LSB_LSB k) (v % 2 ^ 32)

/-- A maker calibration's outcome: every table rebuilt, CAL_SEQ one up (R157). -/
def State.calibrateAll (s : State) : State :=
  let s := (List.range 25).foldl State.rebuildTable s
  { s.bumpCalSeq with tim := { s.tim with calAt := (List.range 25).foldl (fun m k => aput m k s.runNs) s.tim.calAt, stale := [] } }

/-! ## The warm-up flag (R158) -/

/-- Largest less smallest of a list. -/
def spread : List Int → Nat
  | [] => 0
  | x :: xs => (xs.foldl max x - xs.foldl min x).toNat

/-- Seconds since WARMING was set, saturating (TIM_WARM.ELAPSED). -/
def State.warmElapsed (s : State) : Nat := min (((s.runNs : Int) - s.var .warmAt) / secNs).toNat 0xFFFF

/-- The second of R158 closed and the next begun: y_k joins the run, or the run starts anew. -/
def State.warmSecond (s : State) : State :=
  let lane : Nat := match s.cur with
    | some n => n + 1
    | none => 0
  let good := decide (lane ≠ 0 ∧ s.var .warmLane = lane ∧ s.var .warmBroken = 0)
  let e := s.tc.edges - (s.var .warmEdges).toNat
  let rate := roundDiv (((s.tc.run : Int) - s.var .warmRun) - 25 * 2 ^ 48 * e) (25 * e)
  let off := s.laneOffset (lane - 1) - s.var .warmOff
  let off := if s.laneType (lane - 1) = 0 then foldPhase off (s.laneNom (lane - 1)) else off
  let y := rate + roundDiv (off * 2 ^ 32) secNs
  let run := if good then (y :: s.tim.warmRun).take 100 else []
  let s := { s with tim := { s.tim with warmRun := run } }
  let s := if run = [] then s else s.setVar .warmSpan (min (spread run) (2 ^ 32 - 1) + 1)
  let s := s.put Reg.TIM_WARM_SPAN_SPAN (if run = [] then 2 ^ 32 - 1 else min (spread run) (2 ^ 32 - 1))
  let s := ((s.setVar .warmLane lane).setVar .warmEdges s.tc.edges).setVar .warmRun s.tc.run
  (s.setVar .warmOff (s.laneOffset (lane - 1))).setVar .warmBroken 0

/-- WARM_CLEARED: at the edge that closes a second, 100 seconds running within 28,147 units clear WARMING (R158). -/
def execWarmCleared (s : State) : Host.Outcome State Fault Refusal :=
  .next (
    if s.get Reg.TIM_STATUS_WARMING = 1 ∧ s.var .warmEdges = s.tc.edges ∧ s.tim.warmRun.length = 100 ∧ spread s.tim.warmRun ≤ 28147 then
      ((s.put Reg.TIM_STATUS_WARMING 0).put Reg.TIM_STATUS_WARM_BY_TIMEOUT 0).raiseTim 6 .info 0x03FF 0 [i2 s.warmElapsed]
    else s)

/-- WARM_TIMEOUT: ELAPSED reaches TIMEOUT, which clears WARMING with 0x004A alone and no 0x0049 (R158, R160; DESIGN CHOICE, log entry 201);
the data is the last span formed, as TIM_WARM_SPAN's reset value where none was (R158, R160). -/
def execWarmTimeout (s : State) : Host.Outcome State Fault Refusal :=
  .next (
    if s.get Reg.TIM_STATUS_WARMING = 1 ∧ s.get Reg.TIM_WARM_TIMEOUT ≠ 0 ∧ s.get Reg.TIM_WARM_TIMEOUT ≤ s.warmElapsed then
      ((s.put Reg.TIM_STATUS_WARMING 0).put Reg.TIM_STATUS_WARM_BY_TIMEOUT 1).raiseTim 7 .warning 0x03FF 0
        [i4 (if s.var .warmSpan = 0 then 2 ^ 32 - 1 else (s.var .warmSpan - 1).toNat)]
    else s)

/-- TDC_CFG.USE of every TDC lane brought up to date, as at a lap boundary once its lanes are judged too (R139). -/
def State.timUses (s : State) : State := (List.range 24).foldl State.useUpdate s

/-- The TIM's part of a lap boundary: claims, the uses, and each second's y_k and the rotation's alignment (R139, R140, R154, R158). -/
def State.timLap (s : State) : State :=
  let s := allLanes.foldl State.laneClaim s
  let s := s.timUses
  if s.ns / lapNs % 64 = 0 then (s.setVar .calSkew 0).warmSecond else s

/-! ## Commands (R159) -/

def opHeatStart : OpInfo := { op := 0x0501, role := 1 }
def opHeatStop : OpInfo := { op := 0x0502, role := 1 }
def opRefinDelaySet : OpInfo := { op := 0x0503, role := 2, carried := true }
def opWarmSet : OpInfo := { op := 0x0504, role := 2, carried := true }
def opTimSet : OpInfo := { op := 0x0505, role := 2, carried := true }

/-- Whether a code names a stamping source (R141). -/
def stampSource (c : Nat) : Bool := c ≤ 0x1F ∨ (0x20 ≤ c ∧ c ≤ 0x24) ∨ (0x30 ≤ c ∧ c ≤ 0x3F)

/-- The parameters of HEAT_START in their order (R159). -/
structure HeatPar where
  start  : Nat
  startEdge : Nat
  stop   : Nat
  stopEdge : Nat
  splits : Nat
  n      : Nat
  window : Nat
  sgn    : Nat
  win    : Nat
  scale  : Nat
  keep   : Nat
  stat   : Nat

/-- Whether every parameter of a heat is in range (R159). -/
def HeatPar.ok (p : HeatPar) : Bool :=
  stampSource p.start && stampSource p.stop && decide (p.startEdge < 2 ∧ p.stopEdge < 2 ∧ 1 ≤ p.splits ∧ p.splits ≤ 8
    ∧ 1 ≤ p.n ∧ p.n ≤ 65535 ∧ 1 ≤ p.window ∧ p.window ≤ 2000000 ∧ p.sgn < 2 ∧ p.win ≤ 1000000000 ∧ p.scale < 2 ∧ p.keep < 2
    ∧ 1 ≤ p.stat ∧ p.stat ≤ p.splits)

/-- A heat armed: its configuration, its statistics and counts begun anew (R150). -/
def State.armHeat (s : State) (k : Nat) (p : HeatPar) : State :=
  let s := ((s.put (Reg.TDC_CFG_START_SRC k) p.start).put (Reg.TDC_CFG_START_EDGE k) p.startEdge).put (Reg.TDC_CFG_STOP_SRC k) p.stop
  let s := ((s.put (Reg.TDC_CFG_STOP_EDGE k) p.stopEdge).put (Reg.TDC_CFG_SPLITS k) p.splits).put (Reg.TDC_CFG_SIGNED k) p.sgn
  let s := ((s.put (Reg.TDC_CFG_SCALE k) p.scale).put (Reg.TDC_CFG_KEEP k) p.keep).put (Reg.TDC_CFG_STAT_SPLIT k) (p.stat - 1)
  let s := ((s.put (Reg.TDC_HEAT_N k) p.n).put (Reg.TDC_HEAT_DONE k) 0).put (Reg.TDC_WINDOW_WINDOW k) p.window
  let s := (s.put (Reg.TDC_SIGNED_WIN_WIN k) p.win).put (Reg.TDC_STATE_HEAT_STATE k) 1
  let s := ((s.put (Reg.TDC_STATE_WARM_SEEN k) 0).put (Reg.TDC_STATE_STEP_SEEN k) 0).put (Reg.TDC_STATE_SPARE_SEEN k) 0
  let s := (s.bump (Reg.TDC_STATE_HEAT_NO k)).setHeat k {}
  let s := ((s.put (Reg.STAT_COUNT_INCLUDED k) 0).put (Reg.STAT_COUNT_EXCLUDED k) 0).put (Reg.STAT_SD_SD k) 0
  let s := s.putI64 (Reg.STAT_MEAN_LO_MEAN_LO k) (Reg.STAT_MEAN_HI_MEAN_HI k) 0
  let s := (s.putI64 (Reg.STAT_MIN_LO_MIN_LO k) (Reg.STAT_MIN_HI_MIN_HI k) 0).putI64 (Reg.STAT_MAX_LO_MAX_LO k) (Reg.STAT_MAX_HI_MAX_HI k) 0
  s.useUpdate k

/-- HEAT_START's effect, its change record with the first eight parameter bytes (R150, R156, R159, R440). A lane that is neither ENABLED nor stood in for, and not fenced, cannot run one:
NOT_FIT (log entry 29). -/
def heatStartEff (k : Nat) (p : HeatPar) (role : Nat) (s : State) : Res :=
  if 23 < k ∨ ¬ p.ok then ⟨s, some Status.range, 0⟩
  else if s.servesLane k ∨ s.heatRuns k then ⟨s, some Status.busy, 0⟩
  else if ¬ s.tdcWorks k then ⟨s, some (if s.unitFenced (tdcHid k) then Status.fenced else Status.notFit), 0⟩
  else
    let s := s.armHeat k p
    ⟨s.change role (tdcHid k) 0x0501 noOffset (k + 2 ^ 8 * p.start + 2 ^ 16 * p.startEdge + 2 ^ 24 * p.stop)
      (p.stopEdge + 2 ^ 8 * p.splits + 2 ^ 16 * p.n), some Status.ok, s.get (Reg.TDC_STATE_HEAT_NO k)⟩

/-- HEAT_START (R159). -/
def execHeatStart (c : Ctx) (k start startEdge stop stopEdge splits n window sgn win scale keep stat : Nat) (s : State) :
    Host.Outcome State Fault Refusal :=
  .next (s.runCmd c opHeatStart [] (heatStartEff k ⟨start, startEdge, stop, stopEdge, splits, n, window, sgn, win, scale, keep, stat⟩))

/-- HEAT_STOP's effect (R150). -/
def heatStopEff (k : Nat) (role : Nat) (s : State) : Res :=
  if 23 < k then ⟨s, some Status.range, 0⟩ else
  ⟨((s.stopHeat k 4 0).leaveTdc k).change role (tdcHid k) 0x0502 noOffset k 0, some Status.ok, 0⟩

/-- HEAT_STOP (R150, R159). -/
def execHeatStop (c : Ctx) (k : Nat) (s : State) : Host.Outcome State Fault Refusal :=
  .next (s.runCmd c opHeatStop [] (heatStopEff k))

/-- REFIN_DELAY_SET's effect (R142, R159). -/
def refinDelaySetEff (pin : Nat) (delay : Int) (role : Nat) (s : State) : Res :=
  if 7 < pin ∨ delay < -1024000000 ∨ 1024000000 < delay then ⟨s, some Status.range, 0⟩
  else if (match s.cur with
    | some n => decide (s.laneSrc n = pin)
    | none => false) then ⟨s, some Status.busy, 0⟩
  else
    let old := s.get (Reg.REFIN_DELAY_DELAY pin)
    let s := s.putI (Reg.REFIN_DELAY_DELAY pin) delay
    ⟨s.change role 0x0500 0x0503 (0x120040 + 4 * pin) old (s.get (Reg.REFIN_DELAY_DELAY pin)), some Status.ok, 0⟩

/-- REFIN_DELAY_SET (R159). -/
def execRefinDelaySet (c : Ctx) (pin : Nat) (delay : Int) (s : State) : Host.Outcome State Fault Refusal :=
  .next (s.runCmd c opRefinDelaySet [pin, delay] (refinDelaySetEff pin delay))

/-- WARM_SET's effect: WARMING set and its time begun anew, 0x0042; the run of seconds goes on (R158). -/
def warmSetEff (role : Nat) (s : State) : Res :=
  let s := ((s.put Reg.TIM_STATUS_WARMING 1).put Reg.TIM_STATUS_WARM_BY_TIMEOUT 0).setVar .warmAt s.runNs
  let s := s.raise (evHeat 2 .info 0x03FF) [i1 role] role
  ⟨s.change role 0x03FF 0x0504 noOffset 0 0, some Status.ok, 0⟩

/-- WARM_SET (R158, R159). -/
def execWarmSet (c : Ctx) (s : State) : Host.Outcome State Fault Refusal :=
  .next (s.runCmd c opWarmSet [] warmSetEff)

/-- Whether a TIM_SET changes CAL_TOL, which needs MAKER (R159). -/
def State.setsTol (s : State) (off value : Nat) : Bool :=
  decide (off = 0x14 ∧ value % 65536 ≠ s.get Reg.TIM_CAL_CTRL_CAL_TOL)

/-- TIM_SET's effect: TIM_WARM, or TIM_CAL_CTRL, of which a MAKER changes CAL_TOL and an INSTALLER STALE_AGE (R159). -/
def timSetEff (off value : Nat) (role : Nat) (s : State) : Res :=
  let value := if s.setsTol off value then value % 65536 + 65536 * s.get Reg.TIM_CAL_CTRL_STALE_AGE else value
  if off = 0x0C ∨ off = 0x14 then s.setWord role 0x0505 0x12000C 0x120018 (0x120000 + off) value
  else ⟨s, some Status.range, 0⟩

/-- TIM_SET (R159). -/
def execTimSet (c : Ctx) (off value : Nat) (s : State) : Host.Outcome State Fault Refusal :=
  .next (s.runCmd c { opTimSet with role := if s.setsTol off value then 3 else 2 } [off, value] (timSetEff off value))

end Sys2Proof.Machine
end

