-- ==== Sys2Proof/Machine/Twin.lean ====
section
/-! DEFINITION. Twin operation over the Relay Link (R331 to R358): the lane pairs, the two-way transfer, batons and
leases, the journals, the fence, the roles and their changes, and the twin's commands. -/

namespace Sys2Proof.Machine

/-! ## The fence (R343, R344) -/

/-- The reading of the fence pair: 0 RELEASED, 1 CLAIMED, 2 both high, 3 both low (R343). -/
def fenceReading (a b : Bool) : Nat := if a then (if b then 2 else 0) else (if b then 1 else 3)

/-- Cause of FENCE_FAULT: FENCE_FAULT sets, 0x0B12 is raised with the pattern, and the 64 laps without a cause start
again (R343). The cause's coding is not in the spec: a free value. -/
def State.fenceFault (s : State) : State :=
  let (v, s) := s.takeFree
  let s := (s.put Reg.TWN_STATUS_FENCE_FAULT 1).arm .fenceClear (64 * lapNs)
  s.raise (evTwn 1 .error) [i1 (s.get Reg.TWN_STATUS_FENCE), i1 v]

/-- The fence claimed or released by this twin (R343). -/
def State.driveFence (s : State) (claim : Bool) : State :=
  let s := s.putB Reg.TWN_STATUS_CLAIMING claim
  { s with out := .fence claim :: s.out }

/-- The mark at the head of what a command of maker work waits on until the handover it asked for has come (R461). -/
def makerMark : Nat := 0x4D

/-- Whether a command in flight is maker work that waits for a handover. -/
def InFlight.waitsHandover (e : InFlight) : Bool := e.started && e.withheld.isNone && decide (e.arg.head? = some makerMark)

/-- Maker work that waits for a handover, ended with a status: nothing of it runs (R461). -/
def State.endWaiting (s : State) (status : Nat) : State :=
  (s.hif.inflight.filter InFlight.waitsHandover).foldl (fun s e => s.complete e.ctx status 0) s

/-- A handover that waits is cancelled: YIELD completes with the given status, maker work that waits with INTERRUPTED, and the next baton
carries no lap (R352, R384, R461). -/
def State.cancelHandover (s : State) (status : Nat) (byAbort : Bool := false) : State :=
  if s.get Reg.TWN_STATUS_HANDOVER_PENDING = 1 then
    let lap := s.get Reg.TWN_HANDOVER_LAP
    let s := (s.put Reg.TWN_STATUS_HANDOVER_PENDING 0).put Reg.TWN_HANDOVER_LAP 0
    (s.completeRunning 0x0D02 [lap] status 0 byAbort).endWaiting Status.interrupted
  else s

/-- FENCE_FAULT set, which cancels a handover that waits (R343, R352). -/
def State.faultFence (s : State) : State := s.fenceFault.cancelHandover Status.interrupted

/-- Whether the fence has read RELEASED for 1 ms without a break; a reading that has not changed since the package reset has (R343, R348). -/
def State.longReleased (s : State) : Bool :=
  decide (s.get Reg.TWN_STATUS_FENCE = 0) && (s.due .fenceReleased || (s.timer .fenceReleased).isNone)

/-! ## The pairs (R333) -/

/-- Loss of the link: a handover is cancelled on both twins, no partner is fit, and the PARTNER lane has LOS (R337, R352). -/
def State.linkLost (s : State) : State :=
  if s.get Reg.TWN_STATUS_LINK_UP = 0 then
    let s := { s with twin := { s.twin with baton := s.twin.baton.map fun (b : Baton) => { b with handover := 0 } } }
    ((s.cancelHandover Status.interrupted).put Reg.TWN_STATUS_PARTNER_FIT 0).sourceLos 0x14
  else s

/-- A pair taken OFF: a unit of it fenced or disabled, or TWIN_EN 0 (R333). -/
def State.pairOff (s : State) (n : Nat) : State :=
  if s.get (Reg.RL_PAIR_STATUS_STATE n) = 0 then s else
  let wasUp := decide (s.get (Reg.RL_PAIR_STATUS_STATE n) = 2)
  let s := (s.setPair n 0).stopTimer (.training n)
  let s := if wasUp then s.raise (evRl 0 .warning (0x3000 + n)) [i1 n, i1 3] else s
  s.linkLost

/-- The bulk image sent, with S0 and G0 noted; the records from there on follow (R353). Its size is not in the spec: a free value. -/
def State.sendBulk (s : State) (configOnly : Bool) : State :=
  let (v, s) := s.takeFree
  let s := ((s.setVar .bulkState s.twin.stateSeq).setVar .bulkGrant s.twin.grantSeq).put Reg.TWN_RESYNC_BYTES_BYTES v
  { s with out := .bulk configOnly s.kcvTable :: s.out }

/-- A bulk transfer sent where the partner asks for one and this twin is the active (R353). -/
def State.meetRequest (s : State) (request : Nat) : State :=
  if s.get Reg.TWN_STATUS_ROLE ≠ 2 ∨ request = 0 then s else s.sendBulk (decide (request = 2))

/-- PAIR_TRAINED: block lock and HELLO both ways within 100 ms; the partner's HELLO with its fused delays is kept, and its request met (R333, R336,
R353). -/
def execPairTrained (n : Nat) (txDelay : Hello) (rxDelay : Nat) (s : State) : Host.Outcome State Fault Refusal :=
  .next (
    let s := if n < 2 then s.startPair n else s
    if n < 2 ∧ s.get (Reg.RL_PAIR_STATUS_STATE n) = 1 then
      let s := { s with twin := { s.twin with hello := aput s.twin.hello n (txDelay, rxDelay) } }
      ((s.stopTimer (.training n)).setPair n 2).meetRequest txDelay.request
    else s)

/-- TRAINING_TIMEOUT: 100 ms without training; it is counted and tried again (R333). -/
def execTrainingTimeout (n : Nat) (s : State) : Host.Outcome State Fault Refusal :=
  .next (
    if n < 2 ∧ s.get (Reg.RL_PAIR_STATUS_STATE n) = 1 ∧ s.due (.training n) then
      (s.bump Reg.RL_TRAIN_FAILS_COUNT).trainPair n
    else s)

/-- PAIR_DOWN: an UP pair loses block lock for 1 ms (cause 1) or fails 16 CRCs running (cause 2) (R333, R357). -/
def execPairDown (n cause : Nat) (s : State) : Host.Outcome State Fault Refusal :=
  .next (
    if n < 2 ∧ s.get (Reg.RL_PAIR_STATUS_STATE n) = 2 then
      let s := (s.trainPair n).raise (evRl 0 .warning (0x3000 + n)) [i1 n, i1 cause]
      s.linkLost
    else s)

/-! ## Register words applied with what follows from them -/

/-- The stored value of the word at an address; 0 where none stands. -/
def State.wordVal (s : State) (a : Nat) : Nat :=
  match wordAt a with
  | some w => s.rawWord w.fields
  | none => 0

/-- A register word set by some means other than a SET command, with what its write brings about in its block: LANE (R112), HOB
(R126, R132), SYN (R182), OUT (R203), GNB (R230), PTP and NTP (R260, R272), TWIN_EN (R333), the counters (R416). -/
def State.hooked (s : State) (a : Nat) (f : State → State) : State :=
  let n := (a - 0x110100) / 0x80
  let cfg := s.laneCfg n
  let old := s.wordVal a
  let t := s
  let oO := s.get Reg.HOB_OSC_CLASS_OCXO
  let oA := s.get Reg.HOB_OSC_CLASS_ATOMIC
  let en := s.get Reg.TWN_CTRL_TWIN_EN
  let s := f s
  if s.wordVal a = old then s
  else if 0x110100 ≤ a ∧ a < 0x110900 then
    (if s.laneCfg n ≠ cfg ∧ s.laneRank n ≠ 0 then s.setLane n { s.lane n with changed := true } else s)
  else if 0x130100 ≤ a ∧ a < 0x130500 then s.afterSyn t a
  else if 0x140000 ≤ a ∧ a < 0x150000 then s.afterOut a
  else if 0x150000 ≤ a ∧ a < 0x160000 then s.afterHob a old oO oA
  else if 0x180000 ≤ a ∧ a < 0x180110 then s.afterGnb a old
  else if 0x340000 ≤ a ∧ a < 0x360000 then s.mintUpdate.serveUpdate
  else if a = 0x20000C ∧ s.get Reg.TWN_CTRL_TWIN_EN ≠ en then
    (if en = 1 then (s.pairOff 0).pairOff 1 else (s.startPair 0).startPair 1)
  else if 0x50440 ≤ a ∧ a < 0x52400 ∧ 0x40 ≤ (a - 0x50400) % 0x400 then
    { s with pmc := { s.pmc with changed := ((a - 0x50400) / 0x400) :: s.pmc.changed.erase ((a - 0x50400) / 0x400) } }
  else s

/-! ## Applying the partner's records (R340 to R342) -/

/-- What a change record's command does here, with the originating role and without a session (R342). A record's SYN_START and
SYN_FREQ_STEP are begun under a ring and tag no command has. -/
def applyEff (r : JournalRec) (s : State) : Res :=
  let i := fun k => r.body.getD k 0
  let n := fun k => (r.body.getD k 0).toNat
  let k : CKey := ⟨n 0, n 1, n 2, n 3, decide (n 4 = 1)⟩
  let k1 : CKey := ⟨n 1, n 2, n 3, n 4, decide (n 5 = 1)⟩
  let c : Ctx := ⟨64, 2 ^ 32, 0, false, false, false⟩
  if r.op = 0x0201 then timeResetEff r.role s
  else if r.op = 0x0203 then slewLimitSetEff (n 0) r.role s
  else if r.op = 0x0204 then stepThreshSetEff (n 0) r.role s
  else if r.op = 0x0205 then leapSetEff (n 0) (n 1) (i 2) r.role s
  else if r.op = 0x0206 then utcOffsetSetEff (i 0) r.role s
  else if r.op = 0x0301 then laneForceEff (n 0) r.role s
  else if r.op = 0x0302 then laneReleaseEff r.role s
  else if r.op = 0x0303 then laneClearEff (n 0) r.role s
  else if r.op = 0x0304 then laneSetEff (n 0) (n 1) (n 2) r.role s
  else if r.op = 0x0305 then selModeSetEff (n 0) (n 1) (n 2) (n 3) (n 4) r.role s
  else if r.op = 0x0401 then hobSetEff (n 0) (n 1) r.role s
  else if r.op = 0x0402 then modelResetEff r.role s
  else if r.op = 0x0503 then refinDelaySetEff (n 0) (i 1) r.role s
  else if r.op = 0x0504 then warmSetEff r.role s
  else if r.op = 0x0505 then timSetEff (n 0) (n 1) r.role s
  else if r.op = 0x0601 then synSetEff (n 0) (n 1) (n 2) r.role s
  else if r.op = 0x0602 then synStartEff c (n 0) r.role s
  else if r.op = 0x0603 then synStopEff (n 0) r.role s
  else if r.op = 0x0604 then synFreqStepEff c (n 0) (n 1) (n 2) r.role s
  else if r.op = 0x0701 then outSetEff (n 0) (n 1) (n 2) r.role s
  else if r.op = 0x0702 then outAlignEff (n 0) (n 1) (n 2) r.role s
  else if r.op = 0x0801 then gnbSetEff (n 0) (n 1) r.role s
  else if r.op = 0x0802 then gnssPosSetEff (n 0) (i 1) (i 2) (i 3) (n 4) (n 5) r.role s
  else if r.op = 0x0805 then gnssColdStartEff r.role s
  else if r.op = 0x0901 then ptpInstSetEff (n 0) (n 1) (n 2) r.role s
  else if r.op = 0x0902 then ptpInstStartEff (n 0) r.role s
  else if r.op = 0x0903 then ptpInstStopEff (n 0) r.role s
  else if r.op = 0x0904 then ptpSaSetEff (n 0) (n 1) (n 2) r.role s
  else if r.op = 0x0905 then ptpClockIdSetEff (n 0) r.role s
  else if r.op = 0x0906 then ptpGrantCancelEff (n 0) (if r.body.length ≤ 1 then none else some k1) r.role s
  else if r.op = 0x0A01 then ntpSetEff (n 0) (n 1) r.role s
  else if r.op = 0x0B01 then cltSetEff (n 0) (n 1) r.role s
  else if r.op = 0x0B02 then cltAddEff k (n 5) (n 6) (leBytes 16 (n 7)) r.role s
  else if r.op = 0x0B03 then cltDelEff k r.role s
  else if r.op = 0x0B06 then cltFlushEff r.role s
  else if r.op = 0x0C01 then portSetEff (n 0) (n 1) (n 2) r.role s
  else if r.op = 0x0E01 then fabSetEff (n 0) (n 1) r.role s
  else ⟨s, some Status.badOpcode, 0⟩

/-- A bulk transfer asked of the partner (R342, R353). -/
def State.askBulk (s : State) (configOnly : Bool) : State := { s with out := .resyncReq configOnly :: s.out }

/-- A change record applied; one whose result differs here sets DIVERGED, and configuration alone is asked for (R342). A command that
runs on is compared no further. -/
def State.applyChange (s : State) (r : JournalRec) : State :=
  let e := applyEff r (s.setVar .originSide (1 + r.side))
  let s := e.s.setVar .originSide 0
  let s := { s with hif := { s.hif with inflight := dropFlight s.hif.inflight 64 (2 ^ 32) } }
  match e.st with
  | none => s
  | some st =>
    if st = r.result then s
    else ((s.raise (evTwn 3 .warning) [i8 r.seq, i1 st, i1 r.result]).askBulk true).setVar .cfgWanted 1

/-- A record of the partner applied, by its kind (R340). A scheduled snapshot was noted when it came. -/
def State.applyRecord (s : State) (r : JournalRec) : State :=
  let n := fun k => (r.body.getD k 0).toNat
  if r.kind = 1 then s.applyChange r
  else if r.kind = 2 then s.partnerKey (n 0) (n 1)
  else if r.kind = 4 ∨ r.kind = 5 then
    s.applyGrant r.kind ⟨n 0, n 1, n 2, n 3, decide (n 4 = 1)⟩ (n 5) (n 6) (n 7)
  else s

/-- Whether a record belongs to the client-grant journal. -/
def JournalRec.isGrant (r : JournalRec) : Bool := r.kind = 4 ∨ r.kind = 5

/-- A record marked as applied in its journal. -/
def State.markDone (s : State) (r : JournalRec) : State :=
  if r.isGrant then { s with twin := { s.twin with grantDone := r.seq } } else { s with twin := { s.twin with stateDone := r.seq } }

/-- Whether a record is the next of its journal, and whether it was applied before. -/
def State.isNext (s : State) (r : JournalRec) : Bool :=
  r.seq = (if r.isGrant then s.twin.grantDone else s.twin.stateDone) + 1
@[inherit_doc State.isNext] def State.isOld (s : State) (r : JournalRec) : Bool :=
  r.seq ≤ (if r.isGrant then s.twin.grantDone else s.twin.stateDone)

/-- Records received applied in SEQ order as far as they reach without a gap (R342). -/
def State.applyNext (s : State) : Nat → State
  | 0 => s
  | fuel + 1 =>
    match s.twin.inbox.find? fun r => s.isNext r with
    | none => { s with twin := { s.twin with inbox := s.twin.inbox.filter fun r => ! s.isOld r } }
    | some r =>
      let s := (s.applyRecord r).markDone r
      { s with twin := { s.twin with inbox := s.twin.inbox.filter fun x => ! s.isOld x } }.applyNext fuel

/-- Whether a twin holds what the partner's records stand on: a STANDBY, or a RESYNC twin that has applied its image (R342, R353). -/
def State.hasImage (s : State) : Bool := s.get Reg.TWN_STATUS_ROLE = 3 ∨ (s.get Reg.TWN_STATUS_ROLE = 4 ∧ s.var .imaged ≠ 0)

/-- The records received, applied on a twin that holds what they stand on (R342, R353). -/
def State.applyInbox (s : State) : State := if s.hasImage then s.applyNext (s.twin.inbox.length + 1) else s

/-! ## Changes of role (R346) -/

/-- The role set, and 0x0B10 when it changes; the cause's coding is not in the spec: a free value (R357). A twin in RESYNC waits for an image
(R353). -/
def State.setRole (s : State) (r : Nat) : State :=
  let old := s.get Reg.TWN_STATUS_ROLE
  if old = r then s else
  let (v, s) := (s.setVar .imaged 0).takeFree
  (s.put Reg.TWN_STATUS_ROLE r).raise evRoleChange [i1 old, i1 r, i1 v]

/-- Laps since the last intact baton; the greatest 32-bit value when there was none (R348). -/
def State.lapsSinceBaton (s : State) : Nat :=
  if s.var .batonSeen = 1 then (((s.runNs : Int) - s.var .batonAt) / lapNs).toNat else 0xFFFFFFFF

/-- Promotion, at one edge in this order: records received are applied by the caller, then the fence is claimed, the
role becomes ACTIVE, PTP instances leave STANDBY and announce, NTP answers; a promotion more than 64 laps after the
last baton raises 0x0B17 (R348). -/
def State.promote (s : State) : State :=
  let laps := s.lapsSinceBaton
  let s := (s.driveFence true).setRole 2
  let s := s.admissionFresh.serveUpdate
  let s := (s.bump Reg.PROMOTIONS_COUNT).put Reg.TWN_STATUS_SYNCED 0
  if 64 < laps then s.raise (evTwn 6 .warning) [i4 laps] else s

/-- Demotion to a role: serving stops, the fence is released, completions withheld are released (R341, R346, R351). -/
def State.releaseWithheld (s : State) (upTo : Nat) : List InFlight → State
  | [] => s
  | e :: es =>
    match e.withheld with
    | some (st, d, q, _) => (if q ≤ upTo then s.complete e.ctx st d else s).releaseWithheld upTo es
    | none => s.releaseWithheld upTo es

@[inherit_doc State.releaseWithheld] def State.demote (s : State) (r : Nat) : State :=
  let s := ((s.driveFence false).setRole r).serveUpdate
  let s := s.bump Reg.DEMOTIONS_COUNT
  let s := { s with twin := { s.twin with partnerSynced := false }, heldGrants := [] }
  (s.releaseWithheld (2 ^ 64) s.hif.inflight).stopTimer .journalAck

/-- Contention resolved against this twin or its partner: the twin without SEIZE_HOLD demotes, and side B when both
hold it or neither does (R346, R351). The partner's is taken to last 8 ms from its SEIZE frame (R350; DEDUCED, log entry 205). -/
def State.contend (s : State) : State :=
  let mine := decide (s.get Reg.TWN_STATUS_SEIZE_HOLD = 1)
  let theirs := decide ((s.runNs : Int) < s.var .partnerHold)
  let lose := if mine = theirs then decide (s.side = 1) else theirs
  let s := s.raise (evTwn 2 .warning) [i1 (if lose then s.side else 1 - s.side)]
  if lose ∧ s.get Reg.TWN_STATUS_ROLE = 2 then (s.cancelHandover Status.interrupted).demote 4 else s

/-- The time since this side's last sense window began, whose start lies where LINEAR_NS is a multiple of 250,000 on side A and 125,000 ns later
on side B, and the number of that window (R344). -/
def State.senseAt (s : State) : Nat := (s.ns + 125000 * s.side) % 250000
@[inherit_doc State.senseAt] def State.senseNo (s : State) : Nat := (s.ns + 125000 * s.side) / 250000

/-- SENSE_WINDOW: within its 2 µs a claimant samples line A while it releases it; A low in two consecutive windows is contention
(R344). -/
def execSenseWindow (aLow : Bool) (s : State) : Host.Outcome State Fault Refusal :=
  .next (
    if s.get Reg.TWN_STATUS_CLAIMING = 0 ∨ 2000 ≤ s.senseAt then s
    else if ¬ aLow then s.setVar .senseLow 0
    else if s.var .senseLow = s.senseNo then (s.setVar .senseLow 0).contend
    else s.setVar .senseLow (s.senseNo + 1 : Nat))

/-- SEIZE_FRAME: a partner that seized and holds that for 8 ms; an active twin demotes as under R351 (R350). -/
def execSeizeFrame (s : State) : Host.Outcome State Fault Refusal :=
  let s := s.setVar .partnerHold (s.runNs + 8000000 : Nat)
  .next (if s.get Reg.TWN_STATUS_ROLE = 2 then s.contend else s)

/-- SEIZE_HOLD_EXPIRY: 8 ms after SEIZE (R350). -/
def execSeizeHoldExpiry (s : State) : Host.Outcome State Fault Refusal :=
  .next (if s.due .seizeHold then (s.put Reg.TWN_STATUS_SEIZE_HOLD 0).stopTimer .seizeHold else s)

/-- The table of R347 applied by a STARTING twin whose listening is over; `waited` says whether side B has waited its
further 32 laps. -/
def State.startDecide (s : State) (waited : Bool) : State :=
  let b := s.twin.baton
  let role := match b with
    | some x => x.role
    | none => 7
  if s.get Reg.TWN_STATUS_ROLE ≠ 1 then s
  else if role = 2 then s.setRole 4
  else if (match b with
    | some x => decide (x.side = s.side)
    | none => false) then s.raise (evTwn 5 .error) [i1 1]
  else if role = 0 then s.raise (evTwn 5 .error) [i1 2]
  else if s.get Reg.TWN_STATUS_FENCE_FAULT = 1 then s
  else if s.get Reg.TWN_STATUS_FENCE = 1 ∧ b = none then s.raise (evTwn 7 .warning) []
  else if s.get Reg.TWN_STATUS_FENCE = 0 then
    if s.side = 0 ∨ waited then ((s.driveFence true).setRole 2).admissionFresh.serveUpdate
    else if (s.timer .sideB).isSome then s
    else s.arm .sideB (32 * lapNs)
  else s

/-- A lease that has expired on a RESYNC twin while the fence reads RELEASED: nobody serves, and 0x0B15 is raised (R346). -/
def State.noServer (s : State) : State :=
  if s.get Reg.TWN_STATUS_ROLE = 4 ∧ s.get Reg.TWN_STATUS_LEASE_LEFT = 0 ∧ s.get Reg.TWN_STATUS_FENCE = 0 ∧ s.var .batonSeen = 1
  then s.raise (evTwn 4 .critical) [i1 4] else s

/-- R347's table applied again by a STARTING twin that has listened, at a change it reads (R347). -/
def State.startAgain (s : State) : State := if s.var .listened = 1 then s.startDecide false else s

/-- FENCE_CHANGE: the lines read anew, each as high or low (R343). A claimant that reads anything but CLAIMED, or
anyone that reads a fault pattern, sets FENCE_FAULT; a STARTING twin decides anew (R347), and a RESYNC twin whose lease has expired may find no
server (R346). -/
def execFenceChange (a b : Bool) (s : State) : Host.Outcome State Fault Refusal :=
  let s := (s.setVar .fenceA (b2n a)).setVar .fenceB (b2n b)
  let r := fenceReading a b
  let s := s.put Reg.TWN_STATUS_FENCE r
  let s := if r = 0 then s.arm .fenceReleased 1000000 else s.stopTimer .fenceReleased
  let s := if 2 ≤ r ∨ (s.get Reg.TWN_STATUS_CLAIMING = 1 ∧ r ≠ 1) then s.faultFence else s
  .next s.noServer.startAgain

/-- FENCE_FAULT_CLEAR: 64 laps running without a cause; a STARTING twin decides anew (R343, R347). -/
def execFenceFaultClear (s : State) : Host.Outcome State Fault Refusal :=
  let r := s.get Reg.TWN_STATUS_FENCE
  .next (if s.get Reg.TWN_STATUS_FENCE_FAULT = 1 ∧ s.due .fenceClear ∧ r < 2
      ∧ (s.get Reg.TWN_STATUS_CLAIMING = 0 ∨ r = 1)
    then ((s.put Reg.TWN_STATUS_FENCE_FAULT 0).stopTimer .fenceClear).startAgain else s)

/-- LISTEN_EXPIRY: LISTEN laps after a package reset with TWIN_EN 1 (R347). -/
def execListenExpiry (s : State) : Host.Outcome State Fault Refusal :=
  .next (if s.due .listen then ((s.stopTimer .listen).setVar .listened 1).startDecide false else s)

/-- SIDE_B_WAIT_EXPIRY: side B's further 32 laps (R347). -/
def execSideBWaitExpiry (s : State) : Host.Outcome State Fault Refusal :=
  .next (if s.due .sideB then (s.stopTimer .sideB).startDecide true else s)

/-! ## Two-way transfer (R335 to R337) -/

/-- RELAY_MARKER_RX: the partner's marker stamped inbound on a pair, less the boundary it names, in units of 2^-16 ns. That
boundary is this lap's, or the next where the partner's comes first; the stamp is then negative (R335). -/
def execRelayMarkerRx (n : Nat) (lap : Nat) (stamp : Int) (s : State) : Host.Outcome State Fault Refusal :=
  .next (
    let due := fun k => decide (lap % 2 ^ 24 = (s.ns / lapNs + k) % 2 ^ 24)
    if n < 2 ∧ s.get (Reg.RL_PAIR_STATUS_STATE n) = 2 ∧ (due 0 || due 1) then
      let s := { s with twin := { s.twin with markRx := aput s.twin.markRx (2 * (lap % 2 ^ 24) + n) stamp } }
      s.pmcEvent 3 0x12
    else s)

/-- The inbound stamp of a pair's marker of this lap (R335). -/
def State.markIn (s : State) (n : Nat) : Option Int := aget s.twin.markRx (2 * (s.ns / lapNs % 2 ^ 24) + n)

/-- The lowest-numbered pair that is UP (R336). -/
def State.upPair (s : State) : Option Nat :=
  if s.get (Reg.RL_PAIR_STATUS_STATE 0) = 2 then some 0
  else if s.get (Reg.RL_PAIR_STATUS_STATE 1) = 2 then some 1 else none

/-- Δ of R336 for a pair, unit 2^-16 ns: the active's and the standby's fused delays and RL_EXT_ASYM. -/
def State.pairDelta (s : State) (n : Nat) : Int :=
  let h := aget s.twin.hello n
  let tx : Int := (h.elim 0 fun x => x.1.txDelay : Nat)
  let rx : Int := (h.elim 0 Prod.snd : Nat)
  (tx + s.get (Reg.RL_RX_DELAY_DELAY n) - s.get (Reg.RL_TX_DELAY_DELAY n) - rx
    + (if n = 0 then s.getI Reg.RL_EXT_ASYM_0_ASYM else s.getI Reg.RL_EXT_ASYM_1_ASYM)) * 64

/-- The partner's offset from four stamps less the boundary, unit 2^-16 ns (R336); halves truncate toward zero. -/
def twoWayOffset (t1 t2 t3 t4 delta : Int) : Int := truncDiv (-((t2 - t1) - (t4 - t3) - delta)) 2

/-- FOLLOWING: the PARTNER lane is SELECTED and its latest offset is within ±150 ps (R348). -/
def State.showFollowing (s : State) : State :=
  let on := match s.cur with
    | some n => decide (s.laneSrc n = 0x14)
    | none => false
  s.putB Reg.TWN_STATUS_FOLLOWING
    (on && decide ((s.getI64 Reg.TWN_TT_OFFSET_LO_OFS_LO Reg.TWN_TT_OFFSET_HI_OFS_HI).natAbs * 1000 ≤ 150 * 65536))

/-- The four stamps of a pair for the lap a baton describes: t1 and t4 of the baton, t2 and t3 of this twin, all less the boundary; none
unless both markers came and the baton is of this lap (R336, R337). -/
def State.fourStamps (s : State) (b : Baton) (n : Nat) : Option (Int × Int × Int × Int) :=
  if b.lap ≠ (s.ns / lapNs) % 2 ^ 32 then none else
  match b.markTx, s.markIn n, aget s.twin.markTx n, b.markRx with
  | some t1, some t2, some t3, some t4 => some (t1, t2, t3, t4)
  | _, _, _, _ => none

/-- A pair's offset of the partner by a baton's stamps (R336). A baton carries the stamps of one pair, which serve for both (DESIGN CHOICE, log
entry 26). -/
def State.pairOffset (s : State) (b : Baton) (n : Nat) : Option Int :=
  (s.fourStamps b n).map fun (t1, t2, t3, t4) => twoWayOffset t1 t2 t3 t4 (s.pairDelta n)

/-- The two-way measurement that an intact baton of the lap completes, on a pair (R336, R337). -/
def State.twoWay (s : State) (b : Baton) : State :=
  match s.upPair with
  | none => s
  | some n =>
    match s.fourStamps b n with
    | some (t1, t2, t3, t4) =>
      let off := twoWayOffset t1 t2 t3 t4 (s.pairDelta n)
      let s := s.putI64 Reg.TWN_TT_OFFSET_LO_OFS_LO Reg.TWN_TT_OFFSET_HI_OFS_HI off
      let s := s.putI Reg.TWN_TT_RTT_RTT (((t2 - t1) + (t4 - t3)) / 64)
      let whole := decide (b.syncBad = false ∧ s.var .lapBadC = 0)
      (s.setVar .markUsable (if ¬ whole then 0 else if b.role = 2 then 1 else 2)).showFollowing
    | none => s

/-- PAIR_SKEW: with both pairs UP, offsets of the pairs that differ by more than 50 ps (R336). -/
def State.checkSkew (s : State) (b : Baton) : State :=
  match s.pairOffset b 0, s.pairOffset b 1 with
  | some o0, some o1 =>
    if 50 * 65536 < (o0 - o1).natAbs * 1000 then
      s.raise (evRl 2 .warning 0x3100) [i8 (toBits 64 o0), i8 (toBits 64 o1)]
    else s
  | _, _ => s

/-! ## Batons, leases, acknowledgements (R339 to R345) -/

end Sys2Proof.Machine

namespace Sys2Proof

/-- Whether a baton shows a partner fit to take over: STANDBY, SYNCED, FOLLOWING and no region fenced (R352). -/
def Baton.fit (b : Baton) : Bool := b.role = 3 ∧ b.synced ∧ b.following ∧ b.regions = 0

/-- A marker stamp as a baton's 8 bytes hold it; one that is not there stands as the most negative value, which the spec gives no code for
(DESIGN CHOICE, log entry 200). -/
def stampBytes (m : Option Int) : List Byte := leBytes 8 (toBits 64 (m.getD (-(2 ^ 63))))

/-- Bytes 0 to 251 of a baton (R339). `syncBad` and `request` have no place in the table and go beside it (log entry 200). -/
def Baton.body (b : Baton) : List Byte :=
  [0x01, 0x01]
    ++ leBytes 1 (b.role % 8 + 8 * b.side + 16 * b2n b.claim + 32 * b2n b.fenceFault + 64 * b2n b.synced + 128 * b2n b.following)
    ++ leBytes 1 b.regions ++ leBytes 4 b.lap ++ stampBytes b.markTx ++ stampBytes b.markRx ++ leBytes 6 (toBits 48 b.rateAdj)
    ++ leBytes 1 (b.disc % 8 + 8 * b2n b.stepArmed + 16 * b2n b.tebSat) ++ leBytes 1 b.sel ++ leBytes 8 (toBits 64 b.slew)
    ++ leBytes 4 b.teb ++ leBytes 4 b.trace ++ leBytes 4 b.utc ++ leBytes 8 b.leapAt ++ leBytes 1 b.leap ++ [0, 0, 0]
    ++ (List.range 16).flatMap (fun n => leBytes 4 (b.lanes.getD n 0))
    ++ leBytes 8 b.t0 ++ leBytes 4 b.teb0 ++ leBytes 4 b.uyUse ++ leBytes 4 b.amaxUse ++ leBytes 4 b.wUse ++ leBytes 4 b.lockHist
    ++ leBytes 4 b.modelSrc ++ (List.range 12).flatMap (fun n => leBytes 2 (b.ptpSeq.getD n 0))
    ++ (List.range 4).flatMap (fun p => leBytes 8 (toBits 64 (b.upMpd.getD p 0)))
    ++ leBytes 8 b.stateSeq ++ leBytes 8 b.grantSeq ++ leBytes 8 b.stateAck ++ leBytes 8 b.grantAck ++ leBytes 4 b.handover

/-- A baton's CRC, and its 256 bytes (R339). -/
def Baton.crc (b : Baton) : Nat := crc32 b.body
@[inherit_doc Baton.crc] def Baton.bytes (b : Baton) : List Byte := b.body ++ leBytes 4 b.crc

end Sys2Proof

namespace Sys2Proof.Machine

/-- The regions whose units a self-test set tests, as bits of REGIONS_FENCED (R462). The spec names the units; the SRAMs are in every
region. -/
def bistRegions (set : Nat) : Nat := [0xFF, 0xE0, 0x01, 0x10, 0x80, 0x04].getD set 0

/-- Bit r for each Track region and 4 + r for each Field region that holds a unit fenced by a fence of the region, and the regions of a
self-test set that runs (R47, R339, R462). -/
def State.regionsFenced (s : State) : Nat :=
  (List.range 8).foldl (fun acc r => if s.regionCounts r then acc + 2 ^ r else acc) 0
    ||| (if s.var .bistSet = 0 then 0 else bistRegions (s.var .bistSet - 1).toNat)

/-- By instance the sequenceIds of the last Sync, Announce and Signaling sent, and by port the mpd of its upstream, 0 when it has none
(R339). -/
def State.ptpSeqs (s : State) : List Nat :=
  (List.range 4).flatMap fun k =>
    [((s.inst k).seqSync + 65535) % 65536, ((s.inst k).seqAnn + 65535) % 65536, ((s.inst k).seqSig + 65535) % 65536]
@[inherit_doc State.ptpSeqs] def State.portMpd (s : State) (p : Nat) : Int :=
  match s.upInst p with
  | some k => (s.mpd k).getD 0
  | none => 0

/-- The baton this twin sends now (R339). -/
def State.makeBaton (s : State) : Baton :=
  { role := if s.phase = 8 then 5 else s.get Reg.TWN_STATUS_ROLE, side := s.side, claim := decide (s.get Reg.TWN_STATUS_CLAIMING = 1)
    fenceFault := decide (s.get Reg.TWN_STATUS_FENCE_FAULT = 1), synced := decide (s.get Reg.TWN_STATUS_SYNCED = 1)
    following := decide (s.get Reg.TWN_STATUS_FOLLOWING = 1), regions := s.regionsFenced
    lap := s.ns / lapNs % 2 ^ 32
    markTx := s.upPair.bind (aget s.twin.markTx), markRx := s.upPair.bind s.markIn
    rateAdj := s.tc.rateAdj, disc := s.get Reg.HOB_STATUS_STATE
    stepArmed := decide (s.get Reg.TCO_STATUS_STEP_ARMED = 1), tebSat := decide (s.get Reg.HOB_STATUS_TEB_SAT = 1)
    sel := s.get Reg.SEL_STATUS_CUR + 16 * s.get Reg.SEL_STATUS_CUR_VALID + 32 * s.get Reg.SEL_STATUS_FORCED
    slew := truncDiv s.tc.slew (2 ^ 20), teb := s.get Reg.HOB_TEB_TEB, trace := s.get Reg.HOB_TRACE_TRACE
    utc := s.get Reg.UTC_OFFSET_CURRENT + 2 ^ 16 * s.get Reg.UTC_OFFSET_NEXT, leapAt := s.leapAt
    leap := s.get Reg.TCO_STATUS_LEAP_PENDING + 2 * s.get Reg.TCO_STATUS_LEAP_SIGN + 4 * s.get Reg.TCO_STATUS_LEAP_COMMITTED
    lanes := (List.range 16).map fun n => s.get (Reg.LANE_STATE_STATE n) + 8 * s.get (Reg.LANE_STATE_FORCED n)
      + 16 * s.get (Reg.LANE_STATE_WARN n) + 256 * s.get (Reg.LANE_STATE_CAUSE n)
    t0 := s.get64 Reg.HOB_T0_LO_T0_LO Reg.HOB_T0_HI_T0_HI, teb0 := s.get Reg.HOB_TEB0_TEB0
    uyUse := s.get Reg.HOB_UY_USE_UY, amaxUse := s.get Reg.HOB_AMAX_USE_AMAX, wUse := s.get Reg.HOB_W_USE_W
    lockHist := s.get Reg.HOB_LOCK_HIST_SECONDS
    modelSrc := s.get Reg.HOB_MODEL_SRC_LANE + 16 * s.get Reg.HOB_MODEL_SRC_ATOMIC + 32 * s.get Reg.HOB_MODEL_SRC_VALID
      + 64 * s.get Reg.HOB_MODEL_SRC_DRIFT_FITTED
    ptpSeq := s.ptpSeqs, upMpd := (List.range 4).map s.portMpd
    stateSeq := s.twin.stateSeq, grantSeq := s.twin.grantSeq, stateAck := s.twin.stateDone, grantAck := s.twin.grantDone
    handover := s.get Reg.TWN_HANDOVER_LAP, syncBad := decide (s.var .lapBadC = 1)
    request := s.asksFor }

/-- BATON_TX: at the edge 100 µs after a lap boundary the baton that describes it leaves, once, while the Relay Link is up (R332, R339); an ALONE
twin, whose pairs R333 has OFF, sends it all the same (R331; DESIGN CHOICE, log entry 202). -/
def execBatonTx (s : State) : Host.Outcome State Fault Refusal :=
  .next (
    if ¬ s.crossesAfter lapNs 100000 ∨ s.var .batonEdge = (s.tc.edges : Int) + 1 then s else
    let s := s.doneAt .batonEdge
    if s.get Reg.TWN_STATUS_LINK_UP = 0 ∧ s.get Reg.TWN_STATUS_ROLE ≠ 0 then s
    else { s with out := .baton s.makeBaton s.makeBaton.bytes :: s.out })

/-- The instants since when completions and GRANTs are withheld (R341). -/
def State.waitsSince (s : State) : List Nat :=
  (s.hif.inflight.filterMap fun e => e.withheld.map fun x => x.2.2.2) ++ s.heldGrants.map (·.since)

/-- The 4 laps run for the oldest thing withheld, and not when nothing is (R341). -/
def State.ackTimer (s : State) : State :=
  match s.waitsSince with
  | [] => s.stopTimer .journalAck
  | t :: ts => s.setTimer .journalAck (ts.foldl min t + 4 * lapNs)

/-- A newly acknowledged state record releases what waited for it, and the deadline runs for the next (R341). -/
def State.ackState (s : State) (ack : Nat) : State :=
  if s.twin.stateAck < ack then
    let s := { s with twin := { s.twin with stateAck := ack } }
    let s := s.releaseWithheld ack s.hif.inflight
    s.ackTimer
  else s

/-- Acknowledged grant records let their GRANT replies go (R341). -/
def State.ackGrant (s : State) (ack : Nat) : State :=
  if s.twin.grantAck < ack then
    let s := { s with twin := { s.twin with grantAck := ack } }
    (s.releaseGrants ack).ackTimer
  else s

/-- What an intact baton does to the fence checks: CLAIM reported while the pair has read RELEASED for 1 ms, or CLAIM
clear while the pair reads CLAIMED and this twin does not claim (R343). -/
def State.batonFence (s : State) (b : Baton) : State :=
  if (b.claim = true ∧ s.longReleased)
      ∨ (b.claim = false ∧ s.get Reg.TWN_STATUS_FENCE = 1 ∧ s.get Reg.TWN_STATUS_CLAIMING = 0)
  then s.faultFence else s

/-- The highest record of a journal held without a gap, from the last one applied. -/
def State.heldTo (s : State) (grant : Bool) : Nat → Nat → Nat
  | 0, n => n
  | fuel + 1, n =>
    if s.twin.inbox.any fun r => r.isGrant = grant ∧ r.seq = n + 1 then s.heldTo grant fuel (n + 1) else n

/-- A baton ahead of what a twin with an image holds: the missing records are asked for, and when the active keeps them no longer the twin
enters RESYNC with 0x0B14 (R354). -/
def State.askMissing (s : State) (b : Baton) : State :=
  let st := s.heldTo false s.twin.inbox.length s.twin.stateDone
  let gr := s.heldTo true s.twin.inbox.length s.twin.grantDone
  if st + 65536 < b.stateSeq ∨ gr + 65536 < b.grantSeq then
    let s := (((s.put Reg.TWN_STATUS_SYNCED 0).setRole 4).setVar .imaged 0).askBulk false
    s.raise (evTwn 3 .warning) [i8 b.stateSeq, i1 0, i1 0]
  else
    let s := if st < b.stateSeq then { s with out := .journalAsk false (st + 1) :: s.out } else s
    if gr < b.grantSeq then { s with out := .journalAsk true (gr + 1) :: s.out } else s

/-- What an intact baton tells of the partner, noted (R339, R341, R345, R352). -/
def State.noteBaton (s : State) (b : Baton) : State :=
  let s := (s.bump Reg.BATONS_RX_COUNT).pmcEvent 3 0x10
  let s := { s with twin := { s.twin with baton := some b, partnerSynced := decide (b.role = 3) && b.synced } }
  let s := (s.setVar .batonAt s.runNs).setVar .batonSeen 1
  let s := s.put64 Reg.TWN_LAST_BATON_LO_AT_LO Reg.TWN_LAST_BATON_HI_AT_HI s.linear
  let s := (s.put Reg.TWN_STATUS_PARTNER_ROLE b.role).putB Reg.TWN_STATUS_PARTNER_FIT b.fit
  if b.role = 2 then s.put Reg.TWN_STATUS_LEASE_LEFT 4 else s.sourceLos 0x14

/-- What a follower does with an intact baton: missing records (R354), the upstreams' report (R255). -/
def State.followBaton (s : State) (b : Baton) : State :=
  if s.follower then
    let s := if s.hasImage then s.askMissing b else s
    (List.range 4).foldl (fun s k => s.upShow k) s
  else s

/-! ## Handover (R352) -/

/-- A handover set for a number of laps ahead, the command held until it comes (R352). -/
def State.planHandover (s : State) (laps : Nat) : State :=
  (s.put Reg.TWN_STATUS_HANDOVER_PENDING 1).put Reg.TWN_HANDOVER_LAP (s.ns / lapNs + laps)

/-- A handover at the second lap ahead, in place of one that waits for a later lap (R47, R352). -/
def State.planSoon (s : State) : State :=
  if s.get Reg.TWN_STATUS_HANDOVER_PENDING = 1 ∧ s.get Reg.TWN_HANDOVER_LAP ≤ s.ns / lapNs + 2 then s
  else (s.cancelHandover Status.interrupted).planHandover 2

/-- Yielding for a fault: the handover at the second lap ahead, with 0x0A02 raised before it, where the standby's last baton reports
no region fenced (R47, R352). -/
def State.yieldForFault (s : State) (region cause : Nat) : State :=
  match s.twin.baton with
  | none => s
  | some b =>
    if s.get Reg.TWN_STATUS_ROLE = 2 ∧ b.role = 3 ∧ b.regions = 0 ∧ s.get Reg.TWN_STATUS_LINK_UP = 1 then
      (s.raise { code := 0x0A02, hid := 0x7FFE, sev := .warning } [i2 region, i1 cause]).planSoon
    else s

/-- The yield of an active twin with a region fenced, at the baton that first reports none of the standby's fenced (R47). -/
def State.yieldIfFenced (s : State) : State :=
  if s.get Reg.TWN_STATUS_HANDOVER_PENDING = 1 then s else
  match (List.range 8).find? s.regionCounts with
  | some r => s.yieldForFault (regionHid r) (s.var (.regionCause r)).toNat
  | none => s

/-- What an ACTIVE twin does with an intact baton: a handover is cancelled by a partner that left STANDBY (R352), a region fenced has it yield
(R47), a request for a bulk image is met (R353). -/
def State.leadBaton (s : State) (b : Baton) : State :=
  if s.get Reg.TWN_STATUS_ROLE = 2 then
    let s := if b.role = 3 then s.yieldIfFenced else s.cancelHandover Status.interrupted
    s.meetRequest b.request
  else s

/-- BATON_RX: a partner's baton, intact where the CRC-32 over what came is the one it carries (R334, R337, R339, R341, R343, R345, R352,
R354). One of an ALONE partner, whose pairs R333 has OFF, counts too (log entry 202). -/
def execBatonRx (b : Baton) (crcOk : Nat) (s : State) : Host.Outcome State Fault Refusal :=
  .next (
    if (s.get Reg.TWN_STATUS_LINK_UP = 0 ∧ b.role ≠ 0) ∨ s.get Reg.TWN_CTRL_TWIN_EN = 0 then s
    else if crcOk ≠ b.crc then
      let s := s.bump Reg.BATONS_BAD_COUNT
      s.raise (evRl 1 .warning 0x3100) [i4 (s.get Reg.BATONS_BAD_COUNT)]
    else
      let s := (s.noteBaton b).batonFence b
      let s := ((s.ackState b.stateAck).ackGrant b.grantAck).twoWay b
      let s := if s.get (Reg.RL_PAIR_STATUS_STATE 0) = 2 ∧ s.get (Reg.RL_PAIR_STATUS_STATE 1) = 2 then s.checkSkew b else s
      ((s.followBaton b).leadBaton b).startAgain)

/-- BATON_DUE: at the edge 1 ms after a lap boundary, once; a due point that passes without an active baton takes one from LEASE_LEFT,
and at 0 the lease has expired; a RESYNC twin that then reads the fence RELEASED raises NO_SERVER (R345, R346). -/
def execBatonDue (s : State) : Host.Outcome State Fault Refusal :=
  .next (
    if ¬ s.follower ∨ ¬ s.crossesAfter lapNs 1000000 ∨ s.var .dueEdge = (s.tc.edges : Int) + 1 then s
    else
      let s := s.doneAt .dueEdge
      let came := decide (s.var .batonSeen = 1 ∧ (s.runNs : Int) - s.var .batonAt < lapNs
        ∧ s.get Reg.TWN_STATUS_PARTNER_ROLE = 2)
      let left := s.get Reg.TWN_STATUS_LEASE_LEFT
      if came ∨ left = 0 then s
      else
        let s := s.put Reg.TWN_STATUS_LEASE_LEFT (left - 1)
        if left = 1 then
          let lap := match s.twin.baton with
            | some b => b.lap
            | none => 0
          ((s.bump Reg.LEASE_EXPIRIES_COUNT).raise (evTwn 0 .warning) [i4 lap]).noServer
        else s)

/-- JOURNAL_ACK_TIMEOUT: 4 laps without acknowledgement: what was withheld goes, the view of SYNCED is cleared and
0x0314 is raised (R341). -/
def execJournalAckTimeout (s : State) : Host.Outcome State Fault Refusal :=
  .next (
    if s.due .journalAck then
      let state := s.hif.inflight.any fun e => e.withheld.isSome
      let s := s.stopTimer .journalAck
      let s := { s with twin := { s.twin with partnerSynced := false } }
      let s := s.releaseWithheld (2 ^ 64) s.hif.inflight
      let s := s.releaseGrants (2 ^ 64)
      s.raise (evRl 3 .warning 0x3100) (if state then [i1 0, i8 s.twin.stateAck] else [i1 1, i8 s.twin.grantAck])
    else s)

/-- JOURNAL_RECORD: a record arrives from the partner; an intact one, whose CRC-32 is the one it carries (R334), next in its journal waits for the lap boundary
(R340, R342). A scheduled snapshot of KIND 3 is a trigger at once (R50, R407). -/
def execJournalRecord (r : JournalMsg) (crcOk : Nat) (s : State) : Host.Outcome State Fault Refusal :=
  .next (
    let rec' : JournalRec := ⟨r.seq, r.kind, r.role, r.side, r.result, r.op, r.body⟩
    if s.get Reg.TWN_STATUS_LINK_UP = 0 then s
    else if crcOk ≠ crc32 rec'.octets then s.bump Reg.JOURNAL_BAD_COUNT
    else
      let s := if r.kind = 3 then s.pfTrigger ⟨((r.body.headD 0).toNat), 4, 0, 0, none, 0, false⟩ else s
      if s.follower then { s with twin := { s.twin with inbox := s.twin.inbox ++ [rec'] } }
      else if r.kind = 2 ∨ r.kind = 3 then (s.applyRecord rec').markDone rec'
      else s)

/-! ## Resynchronisation (R353) -/

/-- RESYNC_REQ: the active notes S0 and G0 and sends the bulk image (R353). -/
def execResyncReq (configOnly : Bool) (s : State) : Host.Outcome State Fault Refusal :=
  .next (if s.get Reg.TWN_STATUS_ROLE = 2 ∧ s.get Reg.TWN_STATUS_LINK_UP = 1 then s.sendBulk configOnly else s)

/-- Whether a register word is of those a bulk image holds: carried to the standby under R52 (R353). -/
def imageWord (a : Nat) : Bool :=
  (0x100000 ≤ a ∧ a < 0x200000) ∨ (0x300000 ≤ a ∧ a < 0x360000) ∨ (0x380000 ≤ a ∧ a < 0x3C0000) ∨ a = 0x40008 ∨ a = 0x4000C

/-- Whether a word is of an SA, a master-key entry or a client rule, which an image holds whole (R353). -/
def imageWhole (a : Nat) : Bool :=
  (0x340800 ≤ a ∧ a < 0x340C00) ∨ (0x341400 ≤ a ∧ a < 0x341600) ∨ (0x381000 ≤ a ∧ a < 0x383000)

/-- A register word of an image applied: its frozen fields, or all of an entry's (R353). -/
def State.applyWord (s : State) (a v : Nat) : State :=
  if ¬ imageWord a then s else
  match wordAt a with
  | none => s
  | some w => s.hooked a fun s => s.putWord (fun f => imageWhole a ∨ f.live = false) v w.fields

/-- An image's words, and what binds them brought in order afterwards. -/
def State.applyWords (s : State) (ws : List (Nat × Nat)) : State :=
  let s := ws.foldl (fun s x => s.applyWord x.1 x.2) s
  ws.foldl (fun s x => if imageWord x.1 then s.normalize x.1 else s) s

/-- An image's client entries put into the table (R353). -/
def State.applyEntries (s : State) (es : List CltEntry) : State :=
  es.foldl (fun s e => match s.findEntry e.key with
    | some (n, _) => s.putEntry n e
    | none => match s.findSlot e.key e.rule with
      | (some n, s) => s.putEntry n { e with key := e.key.norm }
      | (none, s) => s) s

/-- Every live grant let go before an image's grants are entered. -/
def State.dropGrants (s : State) : State := s.clt.calendar.foldl (fun s g => s.release g.key g.typ) s

/-- A bulk image applied; one of configuration alone leaves out client entries and grants (R353). -/
def State.applyImage (s : State) (m : BulkImage) (full : Bool) : State :=
  let s := s.applyWords m.words
  let s := if full then
      m.grants.foldl (fun s g => s.applyGrant 4 g.1 g.2.1 g.2.2.1 g.2.2.2) (s.dropGrants.applyEntries m.entries)
    else s
  let s := s.partnerTable m.kcvs
  let s := { s with twin := { s.twin with stateDone := m.s0, grantDone := if full then m.g0 else s.twin.grantDone } }
  s.put Reg.TWN_RESYNC_BYTES_BYTES m.kib

/-- Whether both journals are applied as far as the partner's last baton tells, which is a lap old at most (R346). -/
def State.caughtUp (s : State) : Bool :=
  match s.twin.baton with
  | some b => decide (b.stateSeq ≤ s.twin.stateDone ∧ b.grantSeq ≤ s.twin.grantDone)
  | none => true

/-- A RESYNC twin with its image whose journals have caught up becomes STANDBY with SYNCED set: 0x0B19 is raised and a TWN_RESYNC completes
(R346, R353, R356). -/
def State.resynced (s : State) : State :=
  if s.get Reg.TWN_STATUS_ROLE ≠ 4 ∨ s.var .imaged = 0 ∨ s.caughtUp = false then s else
  let bytes := s.get Reg.TWN_RESYNC_BYTES_BYTES * 1024
  let ms := (s.var .imaged - 1).toNat
  let s := ((s.put Reg.TWN_STATUS_SYNCED 1).setRole 3).raise evResyncDone [i8 bytes, i4 ms]
  s.completeRunning 0x0D03 [] Status.ok 0

/-- RESYNC_DONE: the bulk image applied, then the records buffered; a RESYNC twin whose journals have caught up becomes STANDBY, and otherwise does so
at the lap boundary at which they have (R346, R353). A STANDBY twin that asked for configuration alone stays as it is. -/
def execResyncDone (img : BulkImage) (s : State) : Host.Outcome State Fault Refusal :=
  .next (
    if s.get Reg.TWN_STATUS_LINK_UP = 0 then s
    else if s.get Reg.TWN_STATUS_ROLE = 4 then
      (((s.applyImage img true).setVar .cfgWanted 0).setVar .imaged (img.ms + 1 : Nat)).applyInbox.resynced
    else if s.get Reg.TWN_STATUS_ROLE = 3 ∧ s.var .cfgWanted = 1 then ((s.applyImage img false).setVar .cfgWanted 0).applyInbox
    else s)

/-! ## Commands (R356) -/

def opYield : OpInfo := { op := 0x0D02, role := 1 }
def opTwnResync : OpInfo := { op := 0x0D03, role := 1 }
def opTwnSet : OpInfo := { op := 0x0D04, role := 2 }

/-- YIELD's effect: accepted from an ACTIVE twin whose partner is fit; it runs until its lap (R352). A YIELD that
waits gives way to a new one and completes with INTERRUPTED (log entry 27). -/
def yieldEff (c : Ctx) (laps : Nat) (role : Nat) (s : State) : Res :=
  let fit : Bool := match s.twin.baton with
    | some b => b.fit
    | none => false
  if s.get Reg.TWN_STATUS_ROLE ≠ 2 ∨ fit = false then ⟨s, some Status.notFit, 0⟩
  else if laps < 2 ∨ 64 < laps then ⟨s, some Status.range, 0⟩
  else
    let s := (s.cancelHandover Status.interrupted).planHandover laps
    let s := s.change role 0xFFFE 0x0D02 noOffset laps 0
    ⟨s.hold c opYield role [s.get Reg.TWN_HANDOVER_LAP], none, 0⟩

/-- YIELD (R352). -/
def execYield (c : Ctx) (laps : Nat) (s : State) : Host.Outcome State Fault Refusal :=
  .next (s.runCmd c opYield [laps] (yieldEff c laps))

/-- TWN_RESYNC's effect: a STANDBY twin enters RESYNC; the command runs until it is STANDBY again (R346, R353). -/
def twnResyncEff (c : Ctx) (role : Nat) (s : State) : Res :=
  if s.get Reg.TWN_STATUS_ROLE ≠ 3 then ⟨s, some Status.notFit, 0⟩ else
  let s := ((s.put Reg.TWN_STATUS_SYNCED 0).setRole 4).change role 0xFFFE 0x0D03 noOffset 0 0
  let s := s.askBulk false
  ⟨s.hold c opTwnResync role [], none, 0⟩

/-- TWN_RESYNC (R353). -/
def execTwnResync (c : Ctx) (s : State) : Host.Outcome State Fault Refusal :=
  .next (s.runCmd c opTwnResync [] (twnResyncEff c))

/-- TWN_SET (R356): a word from offset 0x0010 to 0x001C. -/
def execTwnSet (c : Ctx) (off value : Nat) (s : State) : Host.Outcome State Fault Refusal :=
  .next (s.runCmd c opTwnSet [off, value] fun role s =>
    s.setWord role 0x0D04 0x200010 0x200020 (0x200000 + off) value)

/-- What a write of TWIN_EN does to the role: at 1 the fence drivers release and the listening of R347 begins, at 0 the engine is ALONE
with the fence claimed (R331, R347; log entry 38). -/
def State.twinEnWritten (s : State) (was : Nat) : State :=
  if s.get Reg.TWN_CTRL_TWIN_EN = was ∨ s.get Reg.TWN_STATUS_ROLE = 5 then s
  else if was = 0 then
    (((((s.driveFence false).setRole 1).setVar .listened 0).arm .listen (s.get Reg.TWN_CTRL_LISTEN * lapNs)).serveUpdate)
  else (((s.cancelHandover Status.interrupted).driveFence true).setRole 0).admissionFresh.serveUpdate

end Sys2Proof.Machine
end

