-- ==== Sys2Proof/Machine/Views.lean ====
section
/-! DEFINITION. What register words show: the fields whose values follow from the engine's state and are stored nowhere else, a
word as an access reads it, and the CONTENT of a unit in a snapshot record (R411, R412). -/

namespace Sys2Proof.Machine

/-- The half of a number a LO, HI or further word shows. -/
def wordOf (n k : Nat) : Nat := n / 2 ^ (32 * k) % 2 ^ 32

/-- The HIDs of some units that follow one another. -/
def hidRun (base n : Nat) : List Nat := (List.range n).map (base + ·)

/-- Every unit, in HID order (R37). -/
def allUnits : List Nat :=
  [0x0000] ++ hidRun 0x0100 16 ++ [0x0200] ++ hidRun 0x0300 16 ++ hidRun 0x0400 9 ++ [0x0500, 0x0600, 0x0700, 0x0800, 0x0900, 0x0F00]
    ++ hidRun 0x1000 4 ++ hidRun 0x1100 16 ++ hidRun 0x1200 8 ++ hidRun 0x1300 2 ++ [0x1F00]
    ++ (List.range 12).flatMap (fun c => hidRun (0x2000 + 0x100 * c) 16) ++ hidRun 0x2C00 4 ++ [0x2D00, 0x2E00, 0x2F00]
    ++ hidRun 0x3000 4 ++ [0x3100, 0x3200, 0x3F00]
    ++ hidRun 0x8000 4 ++ [0x8100, 0x8F00]
    ++ hidRun 0x9000 16 ++ hidRun 0x9100 16 ++ [0x9200, 0x9F00]
    ++ hidRun 0xA000 12 ++ hidRun 0xA100 12 ++ [0xA200, 0xA300, 0xAF00]
    ++ [0xB000, 0xB100, 0xB200, 0xB201, 0xB202, 0xB300, 0xB400, 0xBF00]

/-- Whether a HID is a performance-counter block's. -/
def isPmc (hid : Nat) : Bool := hid % 4096 = 0xF00

/-- A unit state's code (R411). -/
def UnitSt.code : UnitSt → Nat
  | .absent => 0 | .disabled => 1 | .enabled => 2 | .fenced => 3 | .resetting => 4

/-! ## The Time Core, the lanes, the TIM (R77, R112, R159) -/

/-- TCO (R53 to R58, R72). -/
def State.viewTco (s : State) (a lo : Nat) : Option Nat :=
  let t := s.tc.time
  let sl := toBits 64 (truncDiv s.tc.slew (2 ^ 20))
  let sm := toBits 64 s.smear32
  if a = 0x100000 then
    (if lo = 1 then some (b2n (s.tc.slew ≠ 0)) else if lo = 2 then some (b2n (s.tc.rateAdj.natAbs = rMax.natAbs))
     else if lo = 3 then some (b2n s.tc.reduced) else none)
  else if a = 0x100020 ∨ a = 0x100024 then some (wordOf (t / secUnits) ((a - 0x100020) / 4))
  else if a = 0x100028 then some (t / nsUnit % secNs)
  else if a = 0x10002C then some (t % nsUnit / 2 ^ 20)
  else if a = 0x100030 ∨ a = 0x100034 then some (wordOf s.linear ((a - 0x100030) / 4))
  else if a = 0x100038 then some s.frac16
  else if a = 0x100040 ∨ a = 0x100044 then some (wordOf (toBits 48 s.tc.rateAdj) ((a - 0x100040) / 4))
  else if a = 0x100048 ∨ a = 0x10004C then some (wordOf (toBits 48 s.tc.rt) ((a - 0x100048) / 4))
  else if a = 0x100058 ∨ a = 0x10005C then some (wordOf sl ((a - 0x100058) / 4))
  else if a = Reg.SMEAR_LO_SM_LO.addr then some (wordOf sm 0)
  else if a = Reg.SMEAR_HI_SM_HI.addr then some (wordOf sm 1)
  else none

/-- SEL and the lanes: what is open of B, WTR's and the lanes' timers, in whole seconds (R88, R97, R104). -/
def State.viewSel (s : State) (a lo : Nat) : Option Nat :=
  if a = 0x110000 ∧ lo = 10 then some (b2n (s.bOpen ≠ 0))
  else if a = 0x110000 ∧ lo = 16 then some (s.left .wtr / secNs)
  else if a = Reg.SEL_B_OPEN_B_OPEN.addr then some s.bOpen
  else if 0x110100 ≤ a ∧ (a - 0x110100) % 0x80 = 0x30 ∧ lo = 16 then
    let n := (a - 0x110100) / 0x80
    some (max (s.left (.qual n)) (s.left (.disq n)) / secNs)
  else none

/-- TIM: the time since WARMING was set, calibration ages, the result memory (R153, R155, R158). -/
def State.viewTim (s : State) (a lo : Nat) : Option Nat :=
  if a = Reg.TIM_WARM_ELAPSED.addr ∧ lo = 16 then some s.warmElapsed
  else if 0x120E00 ≤ a ∧ a < 0x120E00 + 0x190 ∧ (a - 0x120E00) % 0x10 = 0 then some (s.calAge ((a - 0x120E00) / 0x10))
  else if 0x128000 ≤ a ∧ a < 0x130000 then
    match aget s.tim.records ((a - 0x128000) / 0x40) with
    | some bs => some (leNat ((bs.drop ((a - 0x128000) % 0x40)).take 4))
    | none => some 0
  else none

/-! ## Groups, outputs, the baseband (R182, R203, R230) -/

/-- SYN: the summary, the states, FOLLOW_LIMITED, G (R163, R165, R175). -/
def State.viewSyn (s : State) (a lo : Nat) : Option Nat :=
  if a = 0x130000 then
    (if lo < 16 then some (s.synSt (lo / 4)) else some ((List.range 4).foldl (fun m g => if s.synSt g = 3 then setBit m g else m) 0))
  else if a < 0x130100 then none
  else
    let g := (a - 0x130100) / 0x100
    let gg := toBits 80 (s.grp g).g16
    match (a - 0x130100) % 0x100 with
    | 0x18 => if lo = 0 then some (s.synSt g) else if lo = 5 then some (b2n (s.synRuns g && decide ((s.grp g).rD ≠ s.tc.rt))) else none
    | 0x28 => some (wordOf (gg / 2 ^ 16) 0)
    | 0x2C => some (wordOf (gg / 2 ^ 16) 1)
    | 0x30 => some (gg % 2 ^ 16)
    | _ => none

/-- OUT: what runs, walks, E_n of a clock output, D_n (R171, R187, R190). -/
def State.viewOut (s : State) (a lo : Nat) : Option Nat :=
  let runs := fun i => decide (s.outSt i = 3 ∨ s.outSt i = 4)
  if a = 0x140000 then
    (if lo = 0 then some ((List.range 16).foldl (fun m n => if runs n then setBit m n else m) 0)
     else if lo = 16 then some ((List.range 8).foldl (fun m n => if runs (16 + n) then setBit m n else m) 0)
     else some (b2n (s.unitOn 0x1300) + 2 * b2n (s.unitOn 0x1301)))
  else if a < 0x140100 then none
  else if a < 0x140300 then
    let n := (a - 0x140100) / 0x20
    match (a - 0x140100) % 0x20 with
    | 0x04 => if lo = 3 then some (b2n (s.walking n)) else none
    | 0x0C => some (toBits 32 (satI 32 (s.outErr n).to16))
    | 0x10 => some (toBits 32 (s.outDelay n))
    | _ => none
  else if 0x140400 ≤ a ∧ a < 0x140600 ∧ (a - 0x140400) % 0x40 = 0x34 then some (toBits 32 (s.outDelay (16 + (a - 0x140400) / 0x40)))
  else none

/-- GNB: a channel's STATE and lock time (R40, R211, R216). -/
def State.viewGnb (s : State) (a lo : Nat) : Option Nat :=
  if 0x181000 ≤ a ∧ a < 0x182800 then
    let n := (a - 0x181000) / 0x20
    if (a - 0x181000) % 0x20 = 0 ∧ lo = 0 then some (s.chSt n)
    else if a = (Reg.CH_LOCK_TIME_LOCK_TIME n).addr then some (s.chLockMs n)
    else none
  else none

/-! ## Ports and the twin (R330, R358) -/

/-- MAC: the fused delays of the present mode, P_base and P_port, SyncE's code, the stamp conditions, TSQ records waiting (R304 to
R309, R317, R325). -/
def State.viewMac (s : State) (a lo : Nat) : Option Nat :=
  let p := (a - 0x300000) / 0x4000
  match (a - 0x300000) % 0x4000 with
  | 0x140 => some (s.phyDelay Reg.TX_PHY_DELAY_DELAY p)
  | 0x144 => some (s.phyDelay Reg.RX_PHY_DELAY_DELAY p)
  | 0x154 => some (pBaseOf (s.mode p))
  | 0x15C => some (s.pPort p)
  | 0x174 => if lo = 8 then some (if s.esmcOn p then s.esmcCode p else 0xF) else none
  | 0x180 => if lo = 6 then some (b2n s.synHolding) else if lo = 7 then some (b2n (s.tbState p = 2)) else none
  | 0x190 => some (s.port p).tsq.length
  | _ => none

/-- TWN: the side, the journals' numbers, fenced pairs (R39, R340). -/
def State.viewTwn (s : State) (a lo : Nat) : Option Nat :=
  if a = 0x200000 ∧ lo = 3 then some s.side
  else if a = 0x200060 ∨ a = 0x200064 then some (wordOf s.twin.stateSeq ((a - 0x200060) / 4))
  else if a = 0x200068 ∨ a = 0x20006C then some (wordOf s.twin.stateAck ((a - 0x200068) / 4))
  else if a = 0x200070 ∨ a = 0x200074 then some (wordOf s.twin.grantSeq ((a - 0x200070) / 4))
  else if a = 0x200078 ∨ a = 0x20007C then some (wordOf s.twin.grantAck ((a - 0x200078) / 4))
  else if a = 0x200200 ∨ a = 0x200210 then
    let n := (a - 0x200200) / 0x10
    (if lo = 2 then some (b2n (s.unitFenced (0x3000 + n))) else if lo = 3 then some (b2n (s.unitFenced (0x3002 + n))) else none)
  else none

/-! ## Services and keys (R281, R282) -/

/-- NTP: LI of an unsmeared reply composed now (R264). -/
def State.viewNtp (s : State) (a lo : Nat) : Option Nat :=
  if a = Reg.NTP_STATUS_LI.addr ∧ lo = 5 then some (if s.unsync then 3 else s.leapInd s.at16 false) else none

/-- KEY: slots used, a slot's facts, its check value, the age of the seed (R278, R279, R442). -/
def State.viewKey (s : State) (a lo : Nat) : Option Nat :=
  if a = 0x360000 ∧ lo = 0 then some s.keys.length
  else if a = Reg.TRNG_STATUS_SINCE_RESEED.addr ∧ lo = 8 then
    some (if s.get Reg.TRNG_STATUS_DRBG_READY = 1 then min (((s.runNs : Int) - s.var .reseedAt).toNat / secNs) 255 else 0)
  else if 0x361000 ≤ a ∧ a < 0x369000 then
    let n := (a - 0x361000) / 8
    if (a - 0x361000) % 8 = 4 then some (s.slotKcv n)
    else match s.key n, lo with
      | some _, 0 => some 1
      | some k, 1 => some k.usage
      | some k, 4 => some (b2n k.wrapped)
      | some _, 5 => some (b2n (s.keyInUse n))
      | some k, 8 => some (usageLen k.usage)
      | _, _ => some 0
  else none

/-! ## Host interface, fabric, roles (R388, R406, R445) -/

/-- HIF: the register session's role, the link, commands in flight, the rings' indices (R359, R363, R368). -/
def State.viewHif (s : State) (a lo : Nat) : Option Nat :=
  if a = 0x20000 then
    (if lo = 4 then some (((s.roles.regSession.bind (aget s.roles.sessions ·)).map (·.role)).getD 0)
     else if lo = 8 then some (if s.hif.hostUp then Config.pcieLink % 16 else 0)
     else if lo = 12 then some (if s.hif.hostUp then Config.pcieLink / 16 % 16 else 0) else none)
  else if a = Reg.HIF_INFLIGHT_COUNT.addr then some s.hif.inflight.length
  else if 0x20100 ≤ a ∧ a < 0x20900 then
    let n := (a - 0x20100) / 0x20
    match (a - 0x20100) % 0x20 with
    | 0x18 => some (s.engIdx n)
    | 0x1C => some (s.hostIdx n)
    | _ => none
  else none

/-- FAB: a queue's fill and depth; a flush is made at once, so FLUSHING reads 0 (R400, R402). -/
def State.viewFab (s : State) (a lo : Nat) : Option Nat :=
  if 0x40100 ≤ a ∧ a < 0x401C0 ∧ (a - 0x40100) % 0x20 = 0 then
    let q := (a - 0x40100) / 0x20
    (if lo = 0 then some (s.rqHeld q) else if lo = 16 then some (Config.rqDepth q) else none)
  else none

/-- The check value of a role's key, 0 while it is unset (R430). -/
def State.roleKcv (s : State) (role : Nat) : Nat :=
  match aget s.roles.keys role with
  | some k => Crypto.kcv k % 2 ^ 24
  | none => 0

/-- GLB: the roles' keys, sessions and lockouts (R430, R435, R436). -/
def State.viewGlb (s : State) (a lo : Nat) : Option Nat :=
  if a = 0x100 then
    match lo with
    | 1 => some (b2n (aget s.roles.keys 2).isSome)
    | 2 => some (b2n (aget s.roles.keys 1).isSome)
    | 3 => some (b2n (s.timer (.lockout 1)).isSome + 2 * b2n (s.timer (.lockout 2)).isSome + 4 * b2n (s.timer (.lockout 3)).isSome)
    | 8 => some s.roles.sessions.length
    | 16 => some (s.roles.regSession.getD 0)
    | _ => none
  else if a = 0x114 then some (s.roleKcv 2)
  else if a = 0x118 then some (s.roleKcv 1)
  else if 0x200 ≤ a ∧ a < 0x300 then
    let n := (a - 0x200) / 0x10 + 1
    match aget s.roles.sessions n with
    | none => some 0
    | some x =>
      match (a - 0x200) % 0x10, lo with
      | 0, 0 => some 1
      | 0, 1 => some x.role
      | 0, 3 => some (b2n (s.roles.regSession = some n))
      | 0, 4 => some x.ring
      | 0, 16 => some (min ((s.runNs - x.lastAt) / secNs) 65535)
      | 4, _ => some (wordOf x.openAt 0)
      | 8, _ => some (wordOf x.openAt 1)
      | _, _ => none
  else none

/-! ## Observability (R410 to R426) -/

/-- The 16 words of a snapshot record (R411). -/
def PfRec.words (r : PfRec) : List Nat :=
  [r.hid + 2 ^ 16 * r.flags + 2 ^ 24 * r.st.code, r.seq, wordOf (r.at16 / 2 ^ 16) 0, wordOf (r.at16 / 2 ^ 16) 1, r.at16 % 2 ^ 16]
    ++ (r.content ++ List.replicate 11 0).take 11

/-- PFS: the network's state and the snapshot memory. -/
def State.viewPfs (s : State) (a lo : Nat) : Option Nat :=
  if a = 0x70000 then
    (if lo = 0 then some (b2n s.pf.busy) else if lo = 1 then some (b2n s.pf.held) else some (b2n (s.pf.trigs ≠ [])))
  else if 0x78000 ≤ a then
    match s.pf.recs[(a - 0x78000) / 0x40]? with
    | some r => some (r.words.getD ((a - 0x78000) % 0x40 / 4) 0)
    | none => some 0
  else none

/-- ELAPSED of a region: LINEAR_NS since it was last cleared (R414). -/
def State.elapsed (s : State) (r : Nat) : Nat := (s.linear + 2 ^ 64 - (aget s.pmc.base r).getD 0 % 2 ^ 64) % 2 ^ 64

/-- PMC: saturation, ELAPSED, the counters and their copies at the last photo-finish. -/
def State.viewPmc (s : State) (a _lo : Nat) : Option Nat :=
  if a < 0x50400 then none
  else
    let r := (a - 0x50400) / 0x400
    let o := (a - 0x50400) % 0x400
    if o = 0 then some ((aget s.pmc.sat r).getD 0)
    else if o = 0x10 ∨ o = 0x14 then some (wordOf (s.elapsed r) ((o - 0x10) / 4))
    else if o = 0x18 ∨ o = 0x1C then some (wordOf ((aget s.pmc.elSnap r).getD 0) ((o - 0x18) / 4))
    else if o < 0x40 then none
    else
      let i := r * 8 + (o - 0x40) / 0x40
      match (o - 0x40) % 0x40 with
      | 0x14 => some (wordOf ((aget s.pmc.cnt i).getD 0) 0)
      | 0x18 => some (wordOf ((aget s.pmc.cnt i).getD 0) 1)
      | 0x1C => some (wordOf ((aget s.pmc.snap i).getD 0) 0)
      | 0x20 => some (wordOf ((aget s.pmc.snap i).getD 0) 1)
      | _ => none

/-- The 32-byte log entries of an event: a head, and a continuation when its data exceeds 8 bytes (R420). -/
def LogEntry.logBytes (e : LogEntry) : List (List Byte) :=
  let d := (packItems e.items 0 ++ List.replicate 32 0).take 32
  let part := fun a n => (d.drop a).take n
  (leBytes 8 e.ns ++ leBytes 4 e.teb ++ leBytes 2 e.code ++ leBytes 2 e.hid ++ leBytes 1 (e.sev.code + 4 * e.side + 8 * b2n e.remote)
      ++ leBytes 1 e.role ++ leBytes 2 e.frac ++ leBytes 4 e.seq ++ part 0 8)
    :: (if e.slots = 2 then
        [part 8 8 ++ part 16 4 ++ part 20 2 ++ part 22 2 ++ leBytes 1 16 ++ leBytes 3 0 ++ leBytes 4 ((e.seq + 1) % 2 ^ 32) ++ part 24 8]
      else [])

/-- SEQ of the oldest entry held, 0 with none. -/
def State.logOldest (s : State) : Nat :=
  match s.log.entries.getLast? with
  | some e => e.seq
  | none => 0

/-- LOG: fill, kept entries, sequence numbers, the newest and the kept entries (R419, R422). -/
def State.viewLog (s : State) (a lo : Nat) : Option Nat :=
  if a = 0x60000 then
    (if lo = 0 then some (slotsOf s.log.entries) else if lo = 16 then some (b2n s.log.prevOk) else some (slotsOf s.log.prev))
  else if a = 0x60010 then some s.log.nextSeq
  else if a = 0x60014 then some s.logOldest
  else if a = 0x60018 then some (s.log.wraps % 2 ^ 32)
  else if 0x60100 ≤ a ∧ a < 0x60120 then
    let bs := ((s.log.entries.head?.map fun e => e.logBytes.getLastD []).getD [])
    some (leNat ((bs.drop (a - 0x60100)).take 4))
  else if 0x61000 ≤ a ∧ a < 0x61400 then
    let bs := (s.log.prev.reverse.flatMap LogEntry.logBytes).getD ((a - 0x61000) / 0x20) []
    some (leNat ((bs.drop ((a - 0x61000) % 0x20)).take 4))
  else none

/-! ## A field, a word, an access -/

/-- The value a field shows: what follows from the engine's state where it is not stored, else what is stored. -/
def State.show (s : State) (f : Fld) : Nat :=
  let a := f.addr
  ((if a < 0x10000 then s.viewGlb a f.lo
    else if a < 0x20000 then none
    else if a < 0x30000 then s.viewHif a f.lo
    else if a < 0x50000 then s.viewFab a f.lo
    else if a < 0x60000 then s.viewPmc a f.lo
    else if a < 0x70000 then s.viewLog a f.lo
    else if a < 0x80000 then s.viewPfs a f.lo
    else if a < 0x110000 then s.viewTco a f.lo
    else if a < 0x120000 then s.viewSel a f.lo
    else if a < 0x130000 then s.viewTim a f.lo
    else if a < 0x140000 then s.viewSyn a f.lo
    else if a < 0x150000 then s.viewOut a f.lo
    else if a < 0x160000 then none
    else if a < 0x200000 then s.viewGnb a f.lo
    else if a < 0x300000 then s.viewTwn a f.lo
    else if a < 0x340000 then s.viewMac a f.lo
    else if a < 0x360000 then s.viewNtp a f.lo
    else if a < 0x380000 then s.viewKey a f.lo
    else none).getD (s.get f)) % 2 ^ f.width

/-- The value fields show at their places; a WO field reads 0 (R13). -/
def State.showWord (s : State) : List Fld → Nat
  | [] => 0
  | f :: fs => (if f.acc = .wo then 0 else s.show f) * 2 ^ f.lo + s.showWord fs

/-- The unit whose ABSENCE makes a register read 0, if one does (R472): GLB and PWR stand whatever is powered, and the registers the
responders share stand with RSP_0, since one domain powers all sixteen. -/
def regUnit (a : Nat) : Option Nat :=
  if a < 0x20000 then none else if hidOfAddr a = 0x90FF then some 0x9000 else some (hidOfAddr a)

/-- The word at an offset as an access finds it, without side effects: 0 for a unit that is ABSENT but for what its chapter says of its
state (R182, R230, R472). -/
def State.peek (s : State) (a : Nat) : Nat :=
  match wordAt a with
  | none => 0
  | some w =>
    match regUnit a with
    | some h =>
      if (s.unit h).st = .absent then
        (if (0x130118 ≤ a ∧ a < 0x130500 ∧ (a - 0x130118) % 0x100 = 0) ∨ (0x181000 ≤ a ∧ a < 0x182800 ∧ (a - 0x181000) % 0x20 = 0)
          then 7 else 0)
      else s.showWord w.fields
    | none => s.showWord w.fields

/-! ## CONTENT (R412) -/

/-- The words of a channel taken at the latch, from its measurement there; free where none is given. -/
def State.measWords (s : State) (ms : List ChMeas) (n : Nat) : List Nat × State :=
  match ms.find? fun m => m.ch = n with
  | some m =>
    ([wordOf m.codePhase 0, wordOf m.codePhase 1 + 2 ^ 30 * (m.ambig % 4), wordOf (toBits 64 m.accPhase) 0, wordOf (toBits 64 m.accPhase) 1], s)
  | none =>
    let (a, s) := s.takeFree
    let (b, s) := s.takeFree
    ([wordOf a 0, wordOf a 1, wordOf b 0, wordOf b 1], s)

/-- The words of registers, as a unit's CONTENT. -/
def State.peeks (s : State) (as : List Nat) : List Nat × State := (as.map s.peek, s)

/-- Words of a CONTENT, and a free one after them (log entry 2). -/
def State.freeAfter (s : State) (ws : List Nat) : List Nat × State := (ws ++ [s.takeFree.1 % 2 ^ 32], s.takeFree.2)

/-- A CONTENT of two free words (log entry 2). -/
def State.freePair (s : State) : List Nat × State :=
  ([s.takeFree.1 % 2 ^ 32, s.takeFree.2.takeFree.1 % 2 ^ 32], s.takeFree.2.takeFree.2)

/-- The CONTENT of a unit: the registers R412 names for its kind, then what no register shows. What the model does not hold (lockstep
comparisons, requests in hand and finished, DRAM requests in flight) is free (log entry 2). -/
def State.content (s : State) (ms : List ChMeas) (h : Nat) : List Nat × State :=
  if isPmc h then
    let x := regionOfHid h
    s.peeks [0x50410 + 0x400 * x, 0x50414 + 0x400 * x, 0x50400 + 0x400 * x]
  else if h = 0x0000 then s.peeks [0x100020, 0x100024, 0x100028, 0x10002C, 0x100048, 0x10004C, 0x100058, 0x10005C, 0x100000]
  else if h < 0x0200 then
    let b := 0x110100 + 0x80 * (h - 0x0100)
    s.peeks [b + 0x30, b + 0x40, b + 0x44, b + 0x38, b + 0x48, b + 0x4C, b + 0x58]
  else if h = 0x0200 then s.peeks [0x110000, Reg.SEL_B_OPEN_B_OPEN.addr, 0x110028]
  else if h < 0x0500 then (s.tdcWords (if h < 0x0400 then h - 0x0300 else 16 + (h - 0x0400)), s)
  else if h = 0x0500 then s.peeks [0x150000, 0x15000C, 0x150010, 0x100040, 0x100044, 0x150014]
  else if h = 0x0600 then s.freeAfter [wordOf (s.var .lapNo).toNat 0, s.peek 0x10030]
  else if h = 0x0700 then ([wordOf (s.var .rtcCount).toNat 0, wordOf (s.var .rtcCount).toNat 1, s.keeper.writes % 2 ^ 32], s)
  else if h = 0x0800 then s.peeks [0x70014, 0x70024]
  else if h = 0x0900 then s.peeks [0x40000]
  else if h < 0x1100 then
    let b := 0x130100 + 0x100 * (h - 0x1000)
    s.peeks [b + 0x18, b + 0x28, b + 0x2C, b + 0x30, b + 0x34, b + 0x38]
  else if h < 0x1200 then
    let b := 0x140100 + 0x20 * (h - 0x1100)
    s.peeks [b + 0x04, b + 0x08, b + 0x0C]
  else if h < 0x1300 then
    let b := 0x140400 + 0x40 * (h - 0x1200)
    s.peeks [b + 0x1C, b + 0x20, b + 0x24, b + 0x28, b + 0x2C, b + 0x30]
  else if h < 0x1F00 then ([s.peek (0x140808 + 0x20 * (h - 0x1300)), (s.var (.todSeq (h - 0x1300))).toNat % 2 ^ 32], s)
  else if h < 0x2C00 then
    let n := (h - 0x2000) / 0x100 * 16 + h % 16
    let b := 0x181000 + 0x20 * n
    let (ws, s') := s.measWords ms n
    ([s.peek b, s.peek (b + 4), s.peek (b + 8)] ++ ws, s')
  else if h < 0x2D00 then s.peeks [0x183000 + 0x10 * (h - 0x2C00)]
  else if h = 0x2D00 then s.peeks [Reg.GNB_SLI_STATUS_DENS_L1.addr]
  else if h = 0x2E00 then s.peeks [0x1800CC]
  else if h < 0x3100 then s.peeks [0x200200 + 0x10 * (h % 2)]
  else if h = 0x3100 then s.peeks [0x200000, 0x200040, 0x200044]
  else if h = 0x3200 then ([b2n (s.var .fenceA ≠ 0) + 2 * b2n (s.var .fenceB ≠ 0)], s)
  else if h < 0x8100 then
    let p := h - 0x8000
    s.peeks [0x300180 + 0x4000 * p, 0x30015C + 0x4000 * p, 0x300190 + 0x4000 * p, 0x100810 + 0x10 * p]
  else if h = 0x8100 then s.peeks [0x100800]
  else if h < 0x9200 then s.freePair
  else if h = 0x9200 then ([s.peek 0x380000, s.clt.cache.length], s)
  else if h < 0xA200 then s.freePair
  else if h = 0xA200 then s.peeks [Reg.DRBG_RESEEDS_COUNT.addr]
  else if h = 0xA300 then s.peeks [0x360000]
  else if h = 0xB000 then s.peeks [0x20000, Reg.HIF_INFLIGHT_COUNT.addr]
  else if h = 0xB100 then s.freeAfter []
  else if h = 0xB300 then s.peeks [0x60010]
  else if h = 0xB400 then s.peeks [0x50004]
  else s.peeks [0x40000]

end Sys2Proof.Machine
end

