-- ==== Sys2Proof/Machine/Units.lean ====
section
/-! DEFINITION. Units and levels (R31 to R51): the list of units, what lies below a name, enabling, disabling and resetting,
fences of units, clusters and regions, die and package faults, domains losing and gaining power, and the fabric's own faults
(R395 to R398). -/

namespace Sys2Proof.Machine

/-! ## The units (R31, R37) -/

/-- The units of R42. -/
def isCore (hid : Nat) : Bool :=
  isPmc hid || [0x0000, 0x0200, 0x0500, 0x0600, 0x0700, 0x0800, 0x0900, 0x8100, 0xB000, 0xB100, 0xB200, 0xB201, 0xB202].contains hid

/-- The power domain that holds a unit (R31, R448). -/
def domainOf (hid : Nat) : Nat :=
  if hid = 0x0700 then 0
  else if isPmc hid then (if hid < 0x8000 then 1 else 8)
  else if 0x0300 ≤ hid ∧ hid < 0x0500 then 2
  else if 0x1000 ≤ hid ∧ hid < 0x1004 then 3 + (hid - 0x1000)
  else if 0x3000 ≤ hid ∧ hid < 0x3004 then 5
  else if 0x2000 ≤ hid ∧ hid < 0x3000 then 7
  else if hid < 0x8000 then 1
  else if hid = 0x8000 ∨ hid = 0x8001 then 9
  else if hid = 0x8002 ∨ hid = 0x8003 then 10
  else if 0xA000 ≤ hid ∧ hid < 0xB000 then 11
  else if hid = 0xB100 then 12
  else if hid = 0xB000 then 13
  else 8

/-- The die of a domain: 0 Track, 1 Field. -/
def domainDie (d : Nat) : Nat := if d < 8 then 0 else 1

/-- The domains a domain depends on (R31). -/
def domainNeeds (d : Nat) : List Nat :=
  if d = 0 then [] else if d = 1 then [0] else if d < 8 then [1] else if d = 8 then [1] else if d = 9 ∨ d = 10 then [8, 6] else [8]

/-- The units a domain holds. -/
def domainUnits (d : Nat) : List Nat := allUnits.filter fun h => domainOf h = d

/-- What a HID names (R36). -/
inductive Name where
  | nothing
  | above
  | units (hs : List Nat) (single : Bool)

/-- The unit or the units below the cluster, region or die that a HID names (R36, R43). -/
def named (hid : Nat) : Name :=
  if hid = 0x7FFE ∨ hid = 0xFFFE then .above
  else if hid = 0x7FFF then .units (allUnits.filter (· < 0x8000)) false
  else if hid = 0xFFFF then .units (allUnits.filter (0x8000 ≤ ·)) false
  else if hid / 4096 % 8 = 7 then .nothing
  else if hid % 256 = 0xFF then
    let hs := if hid % 4096 = 0xFFF then allUnits.filter (fun h => h / 4096 = hid / 4096) else allUnits.filter (fun h => h / 256 = hid / 256)
    if hs.isEmpty then .nothing else .units hs false
  else if allUnits.contains hid then .units [hid] true
  else .nothing

/-! ## What follows a unit's change of state (R40, R44, R397) -/

/-- The bit in DRAINING of the initiator port a unit belongs to (R389). -/
def drainBit (hid : Nat) : Option Nat :=
  if 0x9000 ≤ hid ∧ hid < 0x9010 then some 2
  else if 0x9100 ≤ hid ∧ hid < 0x9110 then some 3
  else if hid = 0x8000 ∨ hid = 0x8001 then some 4
  else if hid = 0x8002 ∨ hid = 0x8003 then some 5
  else if hid = 0xB400 then some 6
  else if hid = 0x2E00 then some 7
  else if hid = 0x3100 then some 8
  else if hid = 0xB000 then some 0
  else none

/-- A unit's initiator port taken out of service (R397). -/
def State.drainOf (s : State) (hid : Nat) : State :=
  match drainBit hid with
  | some n => s.startDrain n
  | none => s

/-- A channel's number by its HID. -/
def chanOf (hid : Nat) : Nat := (hid - 0x2000) / 0x100 * 16 + hid % 16

/-- The records that wait in the queue of a unit marked as poisoned: those that came from it (R45): a port's timestamps, the trouble log's
events, the dump engine's entries. -/
def State.poisonOf (s : State) (hid : Nat) : State :=
  if 0x8000 ≤ hid ∧ hid < 0x8004 then s.setVar (.rqPoison (1 + (hid - 0x8000))) (s.rqHeld (1 + (hid - 0x8000)))
  else if hid = 0xB300 then s.setVar (.rqPoison 0) (s.rqHeld 0)
  else if hid = 0xB400 then s.setVar (.rqPoison 5) (s.rqHeld 5)
  else s

/-- The requests a fenced Relay engine had accepted, YIELD and TWN_RESYNC, ended with an error (R45). -/
def State.relayFence (s : State) : State := (s.cancelHandover Status.fenced).completeRunning 0x0D03 [] Status.fenced 0

/-- The number of a TDC lane by its HID; 24 is the spare (R37). -/
def tdcNo (hid : Nat) : Nat := if hid < 0x0400 then hid - 0x0300 else 16 + (hid - 0x0400)

/-- A unit that has left ENABLED, fenced or disabled: what its chapter says follows (R44, R45, R397). -/
def State.unitOut (s : State) (hid : Nat) (fenced : Bool) : State :=
  let s := s.drainOf hid
  let s := if fenced then s.poisonOf hid else s
  if 0x0300 ≤ hid ∧ hid < 0x0500 then s.tdcGone (tdcNo hid) fenced
  else if 0x1000 ≤ hid ∧ hid < 0x1004 then
    (if fenced then s.synFence (hid - 0x1000) else s.synStop (hid - 0x1000) Status.interrupted)
  else if 0x1100 ≤ hid ∧ hid < 0x1110 then (if fenced then s.outFence (hid - 0x1100) else s.outDisable (hid - 0x1100))
  else if 0x1200 ≤ hid ∧ hid < 0x1208 then (if fenced then s.outFence (16 + (hid - 0x1200)) else s.outDisable (16 + (hid - 0x1200)))
  else if 0x1300 ≤ hid ∧ hid < 0x1302 then (if fenced then s.todFence (hid - 0x1300) else s)
  else if 0x2000 ≤ hid ∧ hid < 0x2C00 then s.gnssChannelGone (chanOf hid) fenced
  else if 0x2C00 ≤ hid ∧ hid < 0x2C04 then s.gnssAcqGone (hid - 0x2C00)
  else if hid = 0x2D00 ∨ hid = 0x2E00 then s.gnssUnitGone hid
  else if 0x3000 ≤ hid ∧ hid < 0x3004 then s.pairOff (hid % 2)
  else if hid = 0x3100 then (if fenced then s.relayFence else s)
  else if 0x8000 ≤ hid ∧ hid < 0x8004 then (s.linkOff (hid - 0x8000)).serveUpdate
  else s

/-- A unit that has become ENABLED. -/
def State.unitIn (s : State) (hid : Nat) : State :=
  if 0x1002 ≤ hid ∧ hid < 0x1004 then (if s.synSt (hid - 0x1000) = 0 then s.synStart (hid - 0x1000) else s)
  else if 0x1100 ≤ hid ∧ hid < 0x1110 then s.outEnable (hid - 0x1100)
  else if 0x1200 ≤ hid ∧ hid < 0x1208 then s.outEnable (16 + (hid - 0x1200))
  else if 0x1300 ≤ hid ∧ hid < 0x1302 then s.todEnable (hid - 0x1300)
  else if 0x3000 ≤ hid ∧ hid < 0x3004 then s.startPair (hid % 2)
  else if 0x8000 ≤ hid ∧ hid < 0x8004 then (s.linkStart (hid - 0x8000)).serveUpdate
  else s

/-- Whether a stored field is of those a reset of its unit returns to reset: sticky bits and counters of any unit, and, where asked for, status
of a unit with a block of its own (R452). -/
def clearsWith (hid : Nat) (status : Bool) (key : Nat) : Bool :=
  if hidOfAddr (key / 32) ≠ hid ∨ hid = 0xA300 ∨ hid = 0xB300 then false else
  match wordAt (key / 32) with
  | none => false
  | some w => w.fields.any fun f => decide (f.key = key ∧ f.kept = false ∧
      (f.acc = .rc ∨ f.acc = .w1c
        ∨ (status ∧ f.acc = .ro ∧ ((0x0100 ≤ hid ∧ hid < 0x0500) ∨ (0x2000 ≤ hid ∧ hid < 0x2D00) ∨ (0x8000 ≤ hid ∧ hid < 0x8004)))))

/-- Whether a HID is that of a TDC lane whose work the spare carries on (R156). -/
def State.stoodIn (s : State) (hid : Nat) : Bool :=
  decide (0x0300 ≤ hid ∧ hid < 0x0500 ∧ s.get Reg.TIM_STATUS_SPARE_SUBST = 1 ∧ s.get Reg.TIM_STATUS_SUBST_LANE = tdcNo hid)

/-- A unit reset: its status and counters at their reset values; its configuration stays (R452), and so does the heat of a TDC lane that the
spare carries on (R156). -/
def State.unitCleared (s : State) (hid : Nat) : State :=
  let s := if 0x0100 ≤ hid ∧ hid < 0x0110 ∧ s.laneSt (hid - 0x0100) ≠ 0 then s.laneTo (hid - 0x0100) 0 0 else s
  let own := ! s.stoodIn hid
  let s := { s with regs := s.regs.filter fun x => ! clearsWith hid own x.1 }
  if 0x0100 ≤ hid ∧ hid < 0x0110 then s.setLane (hid - 0x0100) {}
  else if 0x0300 ≤ hid ∧ hid < 0x0500 then (if own then s.setHeat (tdcNo hid) {} else s)
  else if 0x1000 ≤ hid ∧ hid < 0x1004 then s.synRestart (hid - 0x1000) (s.get (Reg.SYN_STATE_STATE (hid - 0x1000)))
  else if 0x1100 ≤ hid ∧ hid < 0x1110 then s.outReset (hid - 0x1100)
  else if 0x1200 ≤ hid ∧ hid < 0x1208 then s.outReset (16 + (hid - 0x1200))
  else if 0x2000 ≤ hid ∧ hid < 0x2C00 then s.setChan (chanOf hid) {}
  else if 0x8000 ≤ hid ∧ hid < 0x8004 then s.setPort (hid - 0x8000) { s.port (hid - 0x8000) with tsq := (s.port (hid - 0x8000)).tsq }
  else s

/-! ## UNIT_RESET's end (R41) -/

/-- The UNIT_RESETs in flight whose units have all left RESETTING, completed: OK, or FENCED with the cause of the first that came
back FENCED. -/
def State.endResets (s : State) : List InFlight → State
  | [] => s
  | e :: es =>
    if e.op = 0x0103 ∧ e.started ∧ e.withheld = none ∧ e.arg.all fun h => decide ((s.unit h).st ≠ .resetting) then
      match e.arg.find? fun h => s.unitFenced h with
      | some h => (s.complete e.ctx Status.fenced (s.unit h).cause).endResets es
      | none => (s.complete e.ctx Status.ok 0).endResets es
    else s.endResets es

/-- The resets that ended, completed. -/
def State.resetsEnded (s : State) : State := s.endResets s.hif.inflight

/-! ## Fences (R40, R45, R46) -/

/-- A unit put out by a fence at a level: its state, cause and what follows; a unit ABSENT or FENCED already stays. -/
def State.fenceUnit (s : State) (hid cause by_ : Nat) : State :=
  let u := s.unit hid
  if u.st = .absent ∨ u.st = .fenced then s
  else
    let (ws, s) := s.content [] hid
    ((s.holdContent hid ws).setUnit hid { u with st := .fenced, cause := cause, fencedBy := by_ }).unitOut hid true

/-- Every unit of a list fenced from above: the unit at fault keeps its own cause, the rest have cause 7 (R38). -/
def State.fenceAll (s : State) (hs : List Nat) (by_ faulty cause : Nat) : State :=
  hs.foldl (fun s h => s.fenceUnit h (if h = faulty then cause else 7) by_) s

/-- A cluster fenced (R46). -/
def State.fenceCluster (s : State) (chid faulty cause : Nat) : State :=
  let hs := (allUnits.filter fun h => decide (h / 256 = chid / 256)).filter fun h => ! isCore h
  ((s.fenceAll hs chid faulty cause).raise (evUnit 0x02 chid .error) [i2 chid, i1 cause]).resetsEnded

/-- The units below a region (R36). -/
def regionUnits (r : Nat) : List Nat := allUnits.filter fun h => decide (regionOfHid h = r ∧ h / 4096 % 8 < 4)

/-- Whether the installer has disabled a region: every unit of it that can be and is present is DISABLED (R47; DEDUCED, log entry 175). -/
def State.regionDisabled (s : State) (r : Nat) : Bool :=
  let hs := (regionUnits r).filter fun h => ! isCore h && (s.unit h).st ≠ .absent
  ! hs.isEmpty && hs.all fun h => decide ((s.unit h).st = .disabled)

/-- A region fenced: its units but those of R42, with its counter block; an active twin yields, unless the installer had disabled the region,
which does not count as fenced then (R46, R47). -/
def State.fenceRegion (s : State) (r cause : Nat) : State :=
  let rh := regionHid r
  let hs := (regionUnits r).filter fun h => ! isCore h || isPmc h
  let s := s.setVar (.regionOff r) (b2n (s.regionDisabled r))
  let s := s.fenceAll hs rh 0x10000 cause
  let s := (s.raise (evUnit 0x03 rh .critical) [i2 rh, i1 cause]).resetsEnded
  let s := s.setVar (.regionCause r) cause
  if s.var (.regionOff r) = 1 then s else s.yieldForFault rh cause

/-- A die fault, and the package fault it is: the engine stops serving on every port, releases the fence, the host interface halts,
and the engine waits for a package reset; a Track die fault holds the discipline in HOLDOVER, and a step decided is not made (R46, R48, R362). -/
def State.dieFault (s : State) (d hid cause : Nat) : State :=
  if s.dieBad d then s else
  let dh := if d = 0 then 0x7FFF else 0xFFFF
  let s := s.setVar (.dieFault d) (1 + hid)
  let s := if d = 0 then { s with tc := { s.tc with plan := none } } else s
  let s := s.raise { code := 0x0801 + 0x100 * d, hid := dh, sev := .critical } [i2 hid, i1 cause]
  let s := s.raise { code := 0x0A01, hid := 0x7FFE, sev := .critical } [i2 dh, i1 cause]
  let s := (s.cancelHandover Status.interrupted).driveFence false
  let s := (s.setRole 5).serveUpdate
  if s.hostOpen then { s.put Reg.HIF_STATUS_STATE 3 with hif := { s.hif with stDirty := false } } else s

/-- A fault detected in a unit of R42: a counter block's fences its region, any other is its die's fault (R42, R46). -/
def State.coreFault (s : State) (hid cause : Nat) : State :=
  if isPmc hid then s.fenceRegion (regionOfHid hid) cause else s.dieFault (hid / 0x8000) hid cause

/-- A fault in the shared logic of a cluster: it is fenced; a cluster of units of R42 alone is fenced only as part of its die's fault (R34, R46). -/
def State.clusterFault (s : State) (chid cause : Nat) : State :=
  if (allUnits.filter fun h => decide (h / 256 = chid / 256)).all isCore then s.dieFault (chid / 0x8000) chid cause
  else s.fenceCluster chid 0x10000 cause

/-- A fault detected in a unit: it is fenced with UNIT_FENCED; a third running fence within 1 s of its UNIT_RESET_DONE fences its cluster
(R40, R46). -/
def State.unitFault (s : State) (hid cause : Nat) : State :=
  if isCore hid then (if (s.unit hid).st = .absent then s else s.coreFault hid cause)
  else if (s.unit hid).st = .absent ∨ (s.unit hid).st = .fenced then s
  else
    let u := s.unit hid
    let soon := match u.resetAt with
      | some t => decide (s.runNs ≤ t + secNs)
      | none => false
    let n := if soon then u.repeats + 1 else 0
    let s := s.fenceUnit hid cause hid
    let s := s.setUnit hid { s.unit hid with repeats := n, resetAt := none }
    let s := (s.raise (evUnit 0x01 hid .error) [i2 hid, i1 cause]).resetsEnded
    if 3 ≤ n ∧ hid / 256 % 16 < 15 then (s.setUnit hid { s.unit hid with repeats := 0 }).fenceCluster (hid / 256 * 256 + 255) hid cause else s

/-- UNIT_FENCED: a fault detected in a unit, or in the shared logic of a cluster (R40, R46). -/
def execUnitFenced (hid cause : Nat) (s : State) : Host.Outcome State Fault Refusal :=
  .next (
    if cause < 1 ∨ 7 < cause then s
    else if allUnits.contains hid then s.unitFault hid cause
    else if hid % 256 = 0xFF ∧ hid / 256 % 16 < 15 ∧ hid / 4096 % 8 < 4 ∧ (allUnits.any fun h => decide (h / 256 = hid / 256)) then
      s.clusterFault hid cause
    else s)

/-- REGION_FENCED: a region's bridge port or counter block faults (R46). -/
def execRegionFenced (hid cause : Nat) (s : State) : Host.Outcome State Fault Refusal :=
  .next (if hid % 4096 = 0xFFF ∧ hid / 4096 % 8 < 4 ∧ hid < 0x10000 then s.fenceRegion (regionOfHid hid) cause else s)

/-- DIE_FAULT: a fault of a die, whose data names the unit at fault (R46). -/
def execDieFault (die hid cause : Nat) (s : State) : Host.Outcome State Fault Refusal :=
  .next (if die < 2 then s.dieFault die hid cause else s)

/-- UNIT_RESET_DONE: a RESETTING unit's self-check passes, or fails and the unit is fenced again with its content held (R40, R49). The result
in the event's data is 1 for a pass (DESIGN CHOICE, log entry 147). -/
def execUnitResetDone (hid : Nat) (pass : Bool) (s : State) : Host.Outcome State Fault Refusal :=
  .next (
    if (s.unit hid).st ≠ .resetting then s
    else if pass then
      let s := s.setUnit hid { s.unit hid with st := if isCore hid then .enabled else .disabled, resetAt := some s.runNs }
      let s := if 0x2000 ≤ hid ∧ hid < 0x2C00 then s.chEvent (chanOf hid) 7 0 else s
      (((s.unitCleared hid).raise (evUnit 0x06 hid .info) [i2 hid, i1 1])).resetsEnded
    else
      let s := s.fenceUnit hid 2 hid
      let s := s.setUnit hid { s.unit hid with resetAt := none }
      (s.raise (evUnit 0x01 hid .error) [i2 hid, i1 2]).resetsEnded)

/-! ## The comparison of a calibration slot (R155) -/

/-- CAL_RECONNECT: the lane reconnects; the largest error of its check and the largest overlap difference, both in units
of 2^-10 ns, are compared with CAL_TOL, and the mean bin width measured, in units of 2^-32 ns, goes with a passed check. Three failed
rotations running fence the unit; for the spare its own check alone counts (R154, R155). -/
def execCalReconnect (k : Nat) (err diff : Int) (lsb : Nat) (s : State) : Host.Outcome State Fault Refusal :=
  .next (
    if s.var .calUnit = k + 1 ∧ s.var .calPhase = 2 ∧ s.due .cal then
      let tol := s.get Reg.TIM_CAL_CTRL_CAL_TOL
      let ok := decide (err.natAbs ≤ tol)
      let ok2 := decide (diff.natAbs ≤ tol)
      let s := (s.setVar .calPhase 3).putI (Reg.TDC_CAL_DIFF_DIFF k) (satI 16 diff)
      let s := if ok then s.put (Reg.TDC_CAL_LSB_LSB k) lsb else s.calFail k 0 err
      let s := if ok2 then s else s.calFail k 1 diff
      let n := if ok ∧ (ok2 ∨ k = 24) then 0 else (aget s.tim.fails k).getD 0 + 1
      let s := { s with tim := { s.tim with fails := aput s.tim.fails k n } }
      let s := (s.setVar .calOk (b2n ok)).arm .cal 1000000
      if 3 ≤ n then s.unitFault (tdcHid k) 2 else s
    else s)

/-! ## Domains (R32, R40, R448) -/

/-- The event of a domain's units, once per domain, with the die's high byte and HID (R38). -/
def evDomain (low d : Nat) : Ev :=
  { code := 0x0800 + 0x100 * domainDie d + low, hid := if domainDie d = 0 then 0x7FFF else 0xFFFF, sev := if low = 7 then .warning else .info, edge := false }

/-- What follows when a unit loses its power beyond what a fence does (R175, R214, R305). -/
def State.unitDark (s : State) (hid : Nat) : State :=
  if 0x1000 ≤ hid ∧ hid < 0x1004 then s.synAbsent (hid - 0x1000)
  else if hid = 0x2E00 then s.gnssAbsent
  else if 0x8000 ≤ hid ∧ hid < 0x8004 then s.flush (1 + (hid - 0x8000))
  else if hid = 0xB100 then s.tableLost.put Reg.MEM_STATUS_TRAINED 0
  else if hid = 0xA200 then (s.put Reg.TRNG_STATUS_DRBG_READY 0).put Reg.TRNG_STATUS_WITHHELD 0
  else s

/-- A domain's power good or gone: PWR_STATUS.ON, and with the GNSS domain's GNS_SCLK, where TCLK runs (R205, R448). -/
def State.powerBit (s : State) (d : Nat) (on : Bool) : State :=
  let was := s.sclkRuns
  let s := s.putBit Reg.PWR_STATUS_ON d on
  if s.sclkRuns = was then s else { s with out := .sclk s.sclkRuns :: s.out }

/-- A domain without power: its units fenced first, with what R41 says of a reset in hand, then ABSENT, with UNITS_ABSENT once (R32, R40, R41). -/
def State.domainOff (s : State) (d : Nat) : State :=
  if ¬ s.powered d then s else
  let hs := domainUnits d
  let s := (hs.foldl (fun s h => s.fenceUnit h 6 0x10000) s).resetsEnded
  let s := hs.foldl (fun s h => (s.setUnit h { s.unit h with st := .absent }).unitDark h) s
  let s := s.powerBit d false
  let s := if d = 9 then ((s.setTb 0 3).setTb 1 3) else if d = 10 then ((s.setTb 2 3).setTb 3 3) else s
  (s.raise (evDomain 7 d) [i1 d]).serveUpdate

/-- A powered domain's units out of reset: those of R42 ENABLED, the rest DISABLED, with UNITS_PRESENT once (R40). -/
def State.domainOn (s : State) (d : Nat) : State :=
  if s.powered d ∧ (domainUnits d).all fun h => decide ((s.unit h).st ≠ .absent) then s else
  let syn := s.synSt (d - 3)
  let s := s.powerBit d true
  let s := (domainUnits d).foldl (fun s h =>
    if (s.unit h).st = .absent then s.setUnit h ⟨if isCore h then .enabled else .disabled, 0, 0, none, 0⟩ else s) s
  let s := if 3 ≤ d ∧ d ≤ 6 then s.synRestart (d - 3) syn else s
  let s := if d = 9 then ((s.setTb 0 0).setTb 1 0) else if d = 10 then ((s.setTb 2 0).setTb 3 0) else s
  let s := if d = 7 then allChans.foldl (fun s n => s.chEvent n 7 0) s else s
  let s := if d = 7 ∧ 5 ≤ s.phase ∧ s.phase ≤ 7 ∧ s.get Reg.GNB_CTRL_RUN = 1 then s.gnssStart else s
  s.raise (evDomain 8 d) [i1 d]

/-- Whether a domain may be powered: the domains it depends on are, no command or failed training keeps it off, and start-up has come
to its die (R31, R449, R457, R458, R460). -/
def State.mayPower (s : State) (d : Nat) : Bool :=
  (domainNeeds d).all s.powered && decide (s.var (.offCmd d) = 0)
    && (if d < 2 then true
        else if s.phase = 8 then d = 8 ∨ d = 11 ∨ d = 13
        else if d < 8 then decide (4 ≤ s.phase)
        else decide (5 ≤ s.phase))

/-- The domains to switch off with one, those that depend on it first (R449). -/
def offOrder (d : Nat) : List Nat :=
  if d = 0 then [10, 9, 12, 11, 13, 8, 7, 6, 5, 4, 3, 2, 1, 0]
  else if d = 1 then [10, 9, 12, 11, 13, 8, 7, 6, 5, 4, 3, 2, 1]
  else if d = 6 then [10, 9, 6]
  else if d = 8 then [10, 9, 12, 11, 13, 8]
  else [d]

/-- Whether domains that lose power include one of a die that is powered and holds a unit of R42 (R46). -/
def State.losesCore (s : State) (ds : List Nat) (die : Nat) : Bool :=
  ds.any fun x => s.powered x && decide (domainDie x = die) && (domainUnits x).any isCore

/-- UNITS_ABSENT: a domain loses power with those that depend on it; each die of which one held a unit of R42 is at fault (R32, R40, R46). -/
def execUnitsAbsent (d : Nat) (s : State) : Host.Outcome State Fault Refusal :=
  .next (
    if 13 < d ∨ ¬ s.powered d then s else
    let track := s.losesCore (offOrder d) 0
    let field := s.losesCore (offOrder d) 1
    let s := (offOrder d).foldl (fun s x => s.domainOff x) s
    let s := if track then s.dieFault 0 0x7FFF 6 else s
    if field then s.dieFault 1 0xFFFF 6 else s)

/-- UNITS_PRESENT: the units of a powered domain finish reset (R40). -/
def execUnitsPresent (d : Nat) (s : State) : Host.Outcome State Fault Refusal :=
  .next (if 13 < d ∨ ¬ s.mayPower d then s else s.domainOn d)

/-! ## The commands (R41 to R43, R51) -/

def opUnitEnable : OpInfo := { op := 0x0101, role := 2 }
def opUnitDisable : OpInfo := { op := 0x0102, role := 2 }
def opUnitReset : OpInfo := { op := 0x0103, role := 2 }
def opUnitState : OpInfo := { op := 0x0104, boot := true }

/-- The refusal a unit gives a command of the three by its opcode, if it does (R41, R42, R180). -/
def State.unitRefusal (s : State) (op hid : Nat) : Option Nat :=
  let st := (s.unit hid).st
  if st = .absent then some Status.notFit
  else if op ≠ 0x0101 ∧ 0x1000 ≤ hid ∧ hid < 0x1004 ∧ s.synPinned (hid - 0x1000) then some Status.busy
  else if op = 0x0103 then
    (match st with
     | .enabled => some Status.notFit
     | .resetting => some Status.fenced
     | _ => none)
  else if st = .fenced ∨ st = .resetting then some Status.fenced
  else none

/-- One unit changed by the command of an opcode: enabled, disabled or put into RESETTING, each with its event (R38, R40). -/
def State.unitApply (s : State) (op role : Nat) (hid : Nat) : State :=
  let st := (s.unit hid).st
  if op = 0x0101 then
    if st = .disabled then ((s.unitTo hid .enabled).unitIn hid).raise (evUnit 0x05 hid .info) [i2 hid, i1 role] role else s
  else if op = 0x0102 then
    if st = .enabled then ((s.unitTo hid .disabled).unitOut hid false).raise (evUnit 0x04 hid .info) [i2 hid, i1 role] role else s
  else (s.unitTo hid .resetting).drainOf hid

/-- The units a command of the three applies to below a name: those of R42 and the ABSENT passed over, but for a counter block fenced
with the region that a UNIT_RESET names (R43). -/
def State.applies (s : State) (op hid h : Nat) : Bool :=
  ((s.unit h).st ≠ .absent)
    && (! isCore h || (op = 0x0103 && isPmc h && hid % 4096 = 0xFFF && hid / 4096 % 8 < 4 && s.unitFenced h && (s.unit h).fencedBy = hid))

/-- UNIT_ENABLE, UNIT_DISABLE and UNIT_RESET by opcode: what a HID names, the refusals of R41 to R43 with the first refusing HID, and
the change, all or nothing. A unit of R42 named alone is NOT_PERMITTED as R42 has it, the DRAM port that is ABSENT too, for which R41 has
NOT_FIT (DESIGN CHOICE, log entry 176). -/
def unitEff (c : Ctx) (o : OpInfo) (hid : Nat) (role : Nat) (s : State) : Res :=
  match named hid with
  | .nothing => ⟨s, some Status.notFound, 0⟩
  | .above => ⟨s, some Status.notPermitted, hid⟩
  | .units hs single =>
    let go := if single then hs else hs.filter (s.applies o.op hid)
    if single ∧ isCore hid then ⟨s, some Status.notPermitted, hid⟩
    else if go.isEmpty then
      ⟨s, some (if hs.all isCore then Status.notPermitted else Status.notFit), hs.headD 0⟩
    else
      match go.find? fun h => (s.unitRefusal o.op h).isSome with
      | some h => ⟨s, s.unitRefusal o.op h, if single then 0 else h⟩
      | none =>
        let s := go.foldl (fun s h => s.unitApply o.op role h) s
        let s := s.change role hid o.op noOffset hid 0
        if o.op = 0x0103 then ⟨s.hold c o role go, none, 0⟩ else ⟨s, some Status.ok, 0⟩

/-- UNIT_ENABLE (R40, R41). -/
def execUnitEnable (c : Ctx) (hid : Nat) (s : State) : Host.Outcome State Fault Refusal :=
  .next (s.runCmd c { opUnitEnable with hid := some hid } [] (unitEff c opUnitEnable hid))

/-- UNIT_DISABLE (R40, R41). -/
def execUnitDisable (c : Ctx) (hid : Nat) (s : State) : Host.Outcome State Fault Refusal :=
  .next (s.runCmd c { opUnitDisable with hid := some hid } [] (unitEff c opUnitDisable hid))

/-- UNIT_RESET: it runs until its units leave RESETTING (R41). -/
def execUnitReset (c : Ctx) (hid : Nat) (s : State) : Host.Outcome State Fault Refusal :=
  .next (s.runCmd c { opUnitReset with hid := some hid } [] (unitEff c opUnitReset hid))

/-- The 4 bytes of a unit in UNIT_STATE's answer (R375). -/
def State.unitBytes (s : State) (hid : Nat) : List Byte :=
  leBytes 2 hid ++ leBytes 1 (s.unit hid).st.code ++ leBytes 1 (s.unit hid).cause

/-- UNIT_STATE's effect: as many whole entries as the length holds, DATA the number of units (R51, R375). -/
def unitStateEff (dmaOk : Bool) (hid addr len : Nat) (_role : Nat) (s : State) : Res :=
  let all := fun (hs : List Nat) =>
    if dmaOk = false ∧ hs ≠ [] ∧ 4 ≤ len then (⟨s, some Status.dmaError, 0⟩ : Res)
    else ⟨s.dmaWrite addr ((hs.take (len / 4)).flatMap s.unitBytes), some Status.ok, hs.length⟩
  match named hid with
  | .nothing => ⟨s, some Status.notFound, 0⟩
  | .above => all allUnits
  | .units hs _ => all hs

/-- UNIT_STATE (R375). -/
def execUnitState (c : Ctx) (hid addr len : Nat) (s : State) : Host.Outcome State Fault Refusal :=
  .next (s.runCmd c { opUnitState with hid := some hid } [] (unitStateEff c.dmaOk hid addr len))

/-! ## The fabric's faults (R395, R396, R398) -/

/-- A fault of a unit, or of a cluster where the HID presented on the fabric is a cluster's (R389, R395, R396). -/
def State.fabricFault (s : State) (hid cause : Nat) : State :=
  if hid % 256 = 0xFF ∧ ¬ allUnits.contains hid then s.clusterFault hid cause else s.unitFault hid cause

/-- An access answered by the default target: counted, recorded, 0x0720; an internal initiator other than the Coach is at fault, its cluster where the
fabric names no more of it (R389, R395; log entry 204). -/
def State.defaultHit (s : State) (ini addr : Nat) (write regWindow : Bool) : State :=
  let s := s.bump Reg.FAB_DEF_COUNT_COUNT
  let s := (s.put Reg.FAB_DEF_ADDR_LO_ADDR_LO addr).put Reg.FAB_DEF_ADDR_HI_ADDR_HI (addr / 2 ^ 32)
  let s := ((s.put Reg.FAB_DEF_INFO_HID ini).putB Reg.FAB_DEF_INFO_WRITE write).putB Reg.FAB_DEF_INFO_REG_WINDOW regWindow
  let s := s.raiseFab 0 .warning ini [i2 ini, i4 addr, i1 (b2n write)]
  let s := s.pmcEvent (regionOfHid ini) 0x04 { hid := some ini }
  if ini = 0xB000 then (if write then s else { s with hif := { s.hif with rdata := 2 ^ 32 - 1 } })
  else if ini = 0x0600 then s
  else s.fabricFault ini 5

/-- DEFAULT_HIT: an access that decodes to no register or to no memory (R395). -/
def execDefaultHit (ini addr : Nat) (write regWindow : Bool) (s : State) : Host.Outcome State Fault Refusal :=
  .next (s.defaultHit ini addr write regWindow)

/-- HS_TIMEOUT: a target that did not acknowledge within HS_TIMEOUT is counted, raises 0x0723 and is fenced with cause 4 (R396). -/
def execHsTimeout (target ini : Nat) (s : State) : Host.Outcome State Fault Refusal :=
  .next (
    let s := s.bump Reg.FAB_TIMEOUTS_COUNT
    let s := s.raiseFab 3 .error target [i2 target, i2 ini]
    s.fabricFault target 4)

/-- PARITY: a queue word of a unit fails odd parity; q is the record queue, whose own count rises when the record is read out (R401), or 6
and above for any other queue. More than PAR_LIMIT
errors of one unit within 1 s are its fault with cause 1 (R398). -/
def execParity (hid q : Nat) (s : State) : Host.Outcome State Fault Refusal :=
  .next (
    let s := if q < 6 then s else s.bump Reg.FAB_PARITY_ERR_COUNT
    let s := s.put Reg.FAB_PARITY_LAST_HID hid
    let at_ := s.runNs :: ((aget s.parity hid).getD []).filter fun t => s.runNs < t + secNs
    let s := { s with parity := aput s.parity hid at_ }
    let s := s.raiseFab 1 .error hid [i2 hid, i1 (if q < 6 then q else 0xFF), i4 at_.length]
    let s := s.pmcEvent (regionOfHid hid) 0x05 { hid := some hid }
    if s.get Reg.FAB_CTRL_PAR_LIMIT < at_.length then { s with parity := adel s.parity hid }.unitFault hid 1 else s)

end Sys2Proof.Machine
end

