-- ==== Sys2Proof/Machine/Observ.lean ====
section
/-! DEFINITION. Photo-finish snapshots, the counters' dumps and the reading of the trouble log (R407 to R425). -/

namespace Sys2Proof.Machine

/-! ## Triggers (R407, R408, R413) -/

/-- PF_TRIG: an edge on the pin, at the TCLK edge that samples it (R407). -/
def execPfTrig (falling : Bool) (s : State) : Host.Outcome State Fault Refusal :=
  .next (
    if s.get Reg.PF_CTRL_SRC_PIN = 1 ∧ s.get Reg.PF_CTRL_PIN_EDGE = b2n falling ∧ s.lapsRun then
      let s := s.put64 Reg.PF_PIN_AT_LO_AT_LO Reg.PF_PIN_AT_HI_AT_HI s.linear
      s.pfTrigger ⟨s.at16 + pfLead16, 1, 0, 0, none, 0, false⟩
    else s)

/-- The earliest instant that waits. -/
def earliest : List PfTrig → Option Nat
  | [] => none
  | t :: ts => match earliest ts with
    | some x => some (min t.at16 x)
    | none => some t.at16

/-- A trigger that waits, as a step leaves it: one whose instant the step jumps over is latched at the step edge + PF_LEAD, one whose instant
the step edge had reached is latched at that edge with the values after the step; both carry STEPPED (R63, R408). -/
def PfTrig.stepTo (t : PfTrig) (before after : Nat) : PfTrig :=
  if t.at16 ≤ before then { t with at16 := after, stepped := true }
  else if t.at16 ≤ after then { t with at16 := after + pfLead16, stepped := true }
  else t

/-- A step from a time to the present one, for the triggers that wait (R63, R408). -/
def State.pfStep (s : State) (before : Nat) : State :=
  { s with pf := { s.pf with trigs := s.pf.trigs.map fun t => t.stepTo before s.at16 } }

/-- A trigger not taken: counted, 0x0051; the command that waited for it ends (R413, R425). -/
def State.pfMiss (s : State) (t : PfTrig) : State :=
  let s := (s.bump Reg.PF_MISSED_COUNT).raise (evPf 1 .warning) [i1 t.src, i8 (t.at16 / 65536), i2 t.at16]
  match t.cmd with
  | some c => s.complete c Status.interrupted 0
  | none => s

/-! ## Latching (R409 to R412, R418) -/

/-- Whether a unit latches at T_L itself: the Track die's, the ports, the time bus receiver and the counter blocks (R409). -/
def latchesAtOnce (h : Nat) : Bool := h < 0x8000 ∨ h < 0x8200 ∨ isPmc h

/-- A unit's record: what it holds now, with the flags of R411; a fenced unit presents the state at its fencing. -/
def State.record (s : State) (ms : List ChMeas) (h at16 : Nat) (handshake : Bool) : PfRec × State :=
  let u := s.unit h
  let stepped := 8 * s.get Reg.PF_FLAGS_STEPPED
  let seq := s.get Reg.PF_SEQ_SEQ
  if u.st = .absent then (⟨h, 2 + stepped, u.st, seq, at16, []⟩, s)
  else if u.st = .fenced then (⟨h, 1 + 4 * b2n handshake + stepped, u.st, seq, at16, (aget s.pf.frozen h).getD []⟩, s)
  else
    let (ws, s) := s.content ms h
    (⟨h, 4 * b2n handshake + stepped, u.st, seq, at16, ws⟩, s)

/-- A record with the words of its CONTENT, named with their HIDs, that arrived poisoned: each reads all ones, and POISON is set (R399, R411). -/
def PfRec.poison (r : PfRec) (bad : List (Nat × Nat)) : PfRec :=
  let ws := (bad.filter fun x => x.1 = r.hid ∧ x.2 < r.content.length).map (·.2)
  if ws = [] then r else { r with flags := setBit r.flags 4, content := ws.foldl (fun c w => c.set w (2 ^ 32 - 1)) r.content }

/-- The record a unit has in the snapshot memory. -/
def State.oldRec (s : State) (h : Nat) : PfRec := (s.pf.recs.find? fun r => r.hid = h).getD ⟨h, 0, .absent, 0, 0, []⟩

/-- The snapshot memory written anew in HID order: a unit that latches now, at an instant of its own, gets its record, the others keep what
stands. -/
def State.latchAll (s : State) (ms : List ChMeas) (at16 : Nat → Nat) (handshake : Bool) (now : Nat → Bool) : List Nat → List PfRec × State
  | [] => ([], s)
  | h :: hs =>
    let (r, s) := if now h then ((s.record ms h (at16 h) handshake).1.poison s.pf.bad, (s.record ms h (at16 h) handshake).2) else (s.oldRec h, s)
    let (rs, s) := s.latchAll ms at16 handshake now hs
    (r :: rs, s)

/-- The lists of counters as a photo-finish copies them: each counter into its CNT_SNAP, ELAPSED into ELAPSED_SNAP (R418). -/
def State.snapCounters (s : State) : State :=
  { s with pmc := { s.pmc with snap := s.pmc.cnt, elSnap := (List.range 8).map fun r => (r, s.elapsed r) } }

/-- PF_SOURCES of triggers that meet (R413). -/
def State.pfSources (s : State) (ts : List PfTrig) : State :=
  let src := ts.foldl (fun m t => setBit m t.src) 0
  let s := s.put Reg.PF_SOURCES_SRC src
  let s := s.put Reg.PF_SOURCES_CMP (((ts.find? fun t => t.src = 0).map (·.cmp)).getD 0)
  s.put Reg.PF_SOURCES_CODE (((ts.find? fun t => t.src = 3).map (·.code)).getD 0)

/-- The records of a latch in the snapshot memory; BUSY until every unit of a handshake has latched (R409). -/
def State.pfStore (s : State) (rs : List PfRec) (cur : PfTrig) : State :=
  { s with pf := { s.pf with recs := rs, unlatched := allUnits.filter fun h => ! latchesAtOnce h, busy := true, current := some cur } }

/-- A snapshot taken at T_L for the triggers that name it: PF_SEQ, PF_AT, PF_SOURCES and PF_FLAGS, the counters, and the records of the
units that latch at once: those of the Track die at this edge, the ports and the Field's counter blocks at T_L (R408, R409, R418). -/
def State.pfTake (s : State) (x : Latched) (t : Nat) (now : List PfTrig) : State :=
  let s := s.bump Reg.PF_SEQ_SEQ
  let s := (s.put64 Reg.PF_AT_LO_AT_LO Reg.PF_AT_HI_AT_HI (t / 65536 % 2 ^ 64)).put Reg.PF_AT_FRAC_FRAC (t % 65536)
  let s := (s.pfSources now).putB Reg.PF_FLAGS_STEPPED (now.any fun x => x.stepped)
  let s := { s.snapCounters with pf := { s.pf with bad := x.bad } }
  let r := s.latchAll x.ms (fun h => if h < 0x8000 then s.at16 else t) false latchesAtOnce allUnits
  r.2.pfStore r.1 ((now.find? fun x => x.cmd.isSome).getD (now.headD ⟨t, 0, 0, 0, none, 0, false⟩))

/-- PF_LATCH: at T_L the units of the Track die, the ports and the counter blocks latch; a trigger that falls while BUSY or while the
memory is held is missed (R409, R413). -/
def execPfLatch (x : Latched) (s : State) : Host.Outcome State Fault Refusal :=
  .next (
    match earliest s.pf.trigs with
    | none => s
    | some t =>
      if s.at16 < t then s else
      let now := s.pf.trigs.filter fun y => y.at16 = t
      let s := { s with pf := { s.pf with trigs := s.pf.trigs.filter fun y => y.at16 ≠ t } }
      if s.pf.busy ∨ s.pf.held then now.foldl (fun s y => s.pfMiss y) s else s.pfTake x t now)

/-- A snapshot's end: BUSY clears, the memory is held with HOLD, 0x0050 is raised, the command that asked completes once its records are
written (R409, R410, R424). -/
def State.pfDone (s : State) : State :=
  let cur := s.pf.current
  let s := { s with pf := { s.pf with busy := false, held := decide (s.get Reg.PF_CTRL_HOLD = 1), unlatched := [], current := none } }
  let src := s.get Reg.PF_SOURCES_SRC + 2 ^ 8 * s.get Reg.PF_SOURCES_CMP + 2 ^ 16 * s.get Reg.PF_SOURCES_CODE
  let s := s.raise (evPf 0 .info) [i4 (s.get Reg.PF_SEQ_SEQ), i4 src, i8 (s.get64 Reg.PF_AT_LO_AT_LO Reg.PF_AT_HI_AT_HI), i2 (s.get Reg.PF_AT_FRAC_FRAC)]
  match cur.bind fun t => t.cmd.map fun c => (t, c) with
  | none => s
  | some (t, c) =>
    if t.addr ≠ 0 ∧ ¬ c.dmaOk then s.complete c Status.dmaError 0
    else
      let s := if t.addr = 0 then s else s.dmaWrite t.addr (s.pf.recs.flatMap fun r => r.words.flatMap fun w => leBytes 4 w)
      s.complete c Status.ok (s.get Reg.PF_SEQ_SEQ + 2 ^ 32 * 361)

/-- PF_TAKEN: the units latched by a handshake have all latched (R409). -/
def execPfTaken (s : State) : Host.Outcome State Fault Refusal :=
  .next (
    if ¬ s.pf.busy then s else
    let un := s.pf.unlatched
    let (rs, s) := s.latchAll [] (fun _ => s.at16) true (fun h => un.contains h) allUnits
    { s with pf := { s.pf with recs := rs } }.pfDone)

/-- NO_LATCH: 1 µs after T_L the units named have not latched; they are recorded with NO_LATCH and the contents of their previous
snapshot, and the snapshot is complete (R409). -/
def execNoLatch (hids : List Nat) (s : State) : Host.Outcome State Fault Refusal :=
  .next (
    let late := s.pf.unlatched.filter fun h => hids.contains h
    let now := s.pf.unlatched.filter fun h => ! hids.contains h
    if ¬ s.pf.busy ∨ late = [] then s else
    let (rs, s) := s.latchAll [] (fun _ => s.at16) true (fun h => now.contains h) allUnits
    let rs := rs.map fun r =>
      if late.contains r.hid then
        { r with flags := 32 + 8 * s.get Reg.PF_FLAGS_STEPPED, st := (s.unit r.hid).st, seq := s.get Reg.PF_SEQ_SEQ } else r
    { s with pf := { s.pf with recs := rs } }.pfDone)

/-! ## Counters and dumps (R414 to R418) -/

/-- PMC_CLEAR of a region: bit k clears a counter with its SAT bit, bit 8 ELAPSED (R414). -/
def State.pmcClear (s : State) (r mask : Nat) : State :=
  let cnt := (List.range 8).foldl (fun m k => if bit mask k then adel m (r * 8 + k) else m) s.pmc.cnt
  let sat := (List.range 8).foldl (fun m k => if bit mask k then clrBit m k else m) ((aget s.pmc.sat r).getD 0)
  { s with pmc := { s.pmc with cnt := cnt, sat := aput s.pmc.sat r sat
                               base := if bit mask 8 then aput s.pmc.base r s.linear else s.pmc.base } }

/-- The dump period by its code, in ms (R426); codes above 16 are the nearer end. -/
def dumpMs (code : Nat) : Nat := [1, 2, 5, 10, 20, 50, 100, 200, 500, 1000, 2000, 5000, 10000, 15000, 20000, 30000, 60000].getD code 60000

/-- The header of a dump (R418). -/
def State.dumpHeader (s : State) (n at16 : Nat) (stepped : Bool) : List Byte :=
  leBytes 1 0x10 ++ leBytes 1 1 ++ leBytes 2 n ++ leBytes 4 (s.get Reg.DUMP_NO_NO) ++ leBytes 8 (at16 / 65536) ++ leBytes 2 at16 ++ leBytes 2 0
    ++ leBytes 4 (s.get Reg.HOB_TEB_TEB) ++ leBytes 4 (s.get Reg.HOB_TRACE_TRACE) ++ leBytes 1 (s.get Reg.DUMP_CTRL_PERIOD)
    ++ leBytes 1 (b2n stepped + 2 * s.side) ++ List.replicate 34 0

/-- The entry of a region (R418). -/
def State.dumpRegion (s : State) (r : Nat) : List Byte :=
  let fenced := s.regionIsFenced r
  leBytes 1 0x11 ++ leBytes 1 r ++ leBytes 1 ((aget s.pmc.sat r).getD 0)
    ++ leBytes 1 (2 * b2n (s.pmc.changed.contains r) + 4 * b2n fenced) ++ leBytes 4 (s.get Reg.DUMP_NO_NO) ++ leBytes 8 (s.elapsed r)
    ++ (List.range 8).flatMap fun k => leBytes 6 ((aget s.pmc.cnt (r * 8 + k)).getD 0)

/-- Part k of a port's entry: twelve counter words, read without clearing (R418). -/
def State.dumpPort (s : State) (p k : Nat) : List Byte :=
  let absent := decide ((s.unit (0x8000 + p)).st = .absent)
  leBytes 1 0x20 ++ leBytes 1 (p + 4 * k) ++ leBytes 1 0 ++ leBytes 1 (2 * b2n absent) ++ leBytes 4 (s.get Reg.DUMP_NO_NO) ++ List.replicate 8 0
    ++ (List.range 12).flatMap fun i =>
      let o := 0x200 + 0x30 * k + 4 * i
      leBytes 4 (if 0x274 < o then 0 else s.peek (0x300000 + 0x4000 * p + o))

/-- The register words a region's entry is made of, by address, each with its offset and bytes there: ELAPSED and the counters (R418, R426). -/
def regionWords (r : Nat) : List (Nat × Nat × Nat) :=
  let b := 0x50400 + 0x400 * r
  [(b + 0x10, 8, 4), (b + 0x14, 12, 4)]
    ++ (List.range 8).flatMap fun k => [(b + 0x54 + 0x40 * k, 16 + 6 * k, 4), (b + 0x58 + 0x40 * k, 20 + 6 * k, 2)]

/-- The register words of part k of a port's entry (R330, R418). -/
def portWords (p k : Nat) : List (Nat × Nat × Nat) :=
  (List.range 12).map fun i => (0x300200 + 0x4000 * p + 0x30 * k + 4 * i, 16 + 4 * i, 4)

/-- An entry of which some words came poisoned: all ones stand for each, and POISON is set (R399, R418). -/
def dumpPoison (ws : List (Nat × Nat × Nat)) (bad : List Nat) (e : List Byte) : List Byte :=
  let ws := ws.filter fun w => bad.contains w.1
  if ws = [] then e
  else
    let e := ws.foldl (fun e w => e.take w.2.1 ++ List.replicate w.2.2 0xFF ++ e.drop (w.2.1 + w.2.2)) e
    e.set 3 (e.getD 3 0 ||| 1)

/-- One entry into record queue 5; the oldest gives way when 128 wait, and is counted lost (R400, R401, R418). -/
def State.dumpPush (s : State) (e : List Byte) : State :=
  if s.dumpq.length < 128 then { s with dumpq := s.dumpq ++ [e] }.rqFill 5 (s.dumpq.length + 1)
  else ((({ s with dumpq := s.dumpq.tail ++ [e] }.rqGone 5).bump (Reg.RQ_LOST_COUNT 5)).setVar .dumpLost (s.var .dumpLost + 1)).rqLostNote 5

/-- One dump: header, regions named, port entries (R417, R418). -/
def State.dumpNow (s : State) (at16 : Nat) (stepped : Bool) : State :=
  let s := s.bump Reg.DUMP_NO_NO
  let rs := (List.range 8).filter fun r => s.fbit Reg.DUMP_CTRL_REGIONS r
  let ps := if s.get Reg.DUMP_CTRL_PORT_STATS = 1 then (List.range 4).flatMap fun p => [(p, 0), (p, 1), (p, 2)] else []
  let es := [s.dumpHeader (rs.length + ps.length) at16 stepped] ++ (rs.map fun r => dumpPoison (regionWords r) s.pmc.bad (s.dumpRegion r))
    ++ ps.map fun x => dumpPoison (portWords x.1 x.2) s.pmc.bad (s.dumpPort x.1 x.2)
  let s := { s with pmc := { s.pmc with changed := s.pmc.changed.filter (fun r => ! rs.contains r), bad := [] } }
  es.foldl (fun s e => s.dumpPush e) s

/-- Whether the dump engine makes dumps: EN, an ACTIVE DUMP ring, its unit and the time there (R417). -/
def State.dumps (s : State) : Bool := s.get Reg.DUMP_CTRL_EN = 1 ∧ s.dumpRing.isSome ∧ s.unitOn 0xB400 ∧ s.lapsRun

/-- The dump instant last reached, in units of the period. -/
def State.dumpIndex (s : State) : Nat := s.linear / (dumpMs (s.get Reg.DUMP_CTRL_PERIOD) * 1000000)

/-- DUMP: the crossing edge of a dump instant (R59), or the instant a forward step set for the one it passed; each makes one dump (R417). -/
def execDump (s : State) : Host.Outcome State Fault Refusal :=
  .next (
    if ¬ s.dumps then s
    else if s.var .dumpStep ≠ 0 then
      (if s.at16 < (s.var .dumpStep).toNat then s
       else ((s.dumpNow (s.var .dumpStep).toNat true).setVar .dumpStep 0).setVar .dumpLast (s.linear / 1000000))
    else
      let per := dumpMs (s.get Reg.DUMP_CTRL_PERIOD)
      let at_ := s.dumpIndex * per
      if s.var .dumpLast < at_ ∧ s.crosses (per * 1000000) then (s.dumpNow (at_ * 1000000 * 65536) false).setVar .dumpLast at_ else s)

/-- A step as the dump engine meets it: a forward one over a dump instant makes one dump at the step edge + PF_LEAD; a backward one
waits for the next multiple (R417). -/
def State.dumpStep (s : State) (before : Nat) : State :=
  let per := dumpMs (s.get Reg.DUMP_CTRL_PERIOD) * 1000000
  if before < s.linear then
    (if s.dumps ∧ before / per < s.linear / per then s.setVar .dumpStep (s.at16 + pfLead16) else s)
  else s.setVar .dumpLast (s.linear / 1000000)

/-! ## The commands (R424) -/

def opPfSnapshot : OpInfo := { op := 0x0F01, role := 1 }
def opPmcSet : OpInfo := { op := 0x0F02, role := 1 }
def opLogRead : OpInfo := { op := 0x0F03, boot := true }

/-- PF_SNAPSHOT's effect: the instant named in units of 2^-16 ns, 0 for now (R407, R413, R424). -/
def pfSnapshotEff (c : Ctx) (at16 : Nat) (system : Bool) (addr role : Nat) (s : State) : Res :=
  let ahead := linDiff (at16 / 65536 % 2 ^ 64) s.linear
  let t := if at16 = 0 then s.at16 + pfLead16 else ((s.at16 : Int) + ahead * 65536 + at16 % 65536 - s.at16 % 65536).toNat
  if at16 ≠ 0 ∧ 2 ^ 62 ≤ ahead.natAbs then ⟨s, some Status.range, 0⟩
  else if system ∧ s.get Reg.TWN_STATUS_ROLE ≠ 2 then ⟨s, some Status.notFit, 0⟩
  else if s.pf.held ∨ (s.pf.trigs.any fun t => t.cmd.isSome) then ⟨s, some Status.busy, 0⟩
  else if (system ∧ t < s.at16 + 2 * lapNs * 65536) ∨ t < s.at16 + pfLead16 then ⟨s, some Status.tooSoon, 0⟩
  else
    let s := (s.hold c opPfSnapshot role []).pfTrigger ⟨t, if system then 4 else 2, 0, 0, some c, addr, false⟩
    ⟨if system then s.sendState 3 role Status.ok 0x0F01 [t] else s, none, 0⟩

/-- PF_SNAPSHOT (R424). -/
def execPfSnapshot (c : Ctx) (at16 : Nat) (system : Bool) (addr : Nat) (s : State) : Host.Outcome State Fault Refusal :=
  .next (s.runCmd c opPfSnapshot [] (pfSnapshotEff c at16 system addr))

/-- PMC_SET's effect: a word of the PMC block, PMC_CLEAR among them; SIZE_LOG2 is 0 or 6 to 48 (R424, R426). -/
def pmcSetEff (off v role : Nat) (s : State) : Res :=
  let a := 0x50000 + off
  if 0x400 ≤ off ∧ off < 0x2400 ∧ (off - 0x400) % 0x400 = 0x0C then
    if 511 < v then ⟨s, some Status.range, 0⟩
    else ⟨(s.pmcClear ((off - 0x400) / 0x400) v).change role (hidOfAddr a) 0x0F02 a 0 v, some Status.ok, 0⟩
  else if 0x440 ≤ off ∧ off < 0x2400 ∧ 0x40 ≤ off % 0x400 ∧ off % 0x40 = 0x10 ∧ v % 64 ≠ 0 ∧ (v % 64 < 6 ∨ 48 < v % 64) then ⟨s, some Status.range, 0⟩
  else
    let r := s.setWord role 0x0F02 0x50000 0x60000 a v
    if r.st = some Status.ok then ⟨s.hooked a fun _ => r.s, r.st, r.data⟩ else r

/-- PMC_SET (R424). -/
def execPmcSet (c : Ctx) (off value : Nat) (s : State) : Host.Outcome State Fault Refusal :=
  .next (s.runCmd c opPmcSet [off, value] (pmcSetEff off value))

/-- LOG_READ's effect, while the log's unit takes work (R40): 32-byte entries in SEQ order from the first asked for, as many as are held up to the count (R423, R424). -/
def logReadEff (dmaOk : Bool) (source first count addr : Nat) (_role : Nat) (s : State) : Res :=
  let es := ((if source = 0 then s.log.entries else s.log.prev).reverse).flatMap fun e =>
    e.logBytes.zipIdx.map fun (b, i) => ((e.seq + i) % 2 ^ 32, b)
  if 1 < source ∨ count < 1 ∨ 16384 < count then ⟨s, some Status.range, 0⟩
  else if (s.unitBars 0xB300).isSome then ⟨s, s.unitBars 0xB300, 0⟩
  else if ¬ es.any fun x => x.1 = first then ⟨s, some Status.notFound, 0⟩
  else if ¬ dmaOk then ⟨s, some Status.dmaError, 0⟩
  else
    let out := (es.dropWhile fun x => x.1 ≠ first).take count
    ⟨s.dmaWrite addr (out.flatMap (·.2)), some Status.ok, out.length⟩

/-- LOG_READ (R424). -/
def execLogRead (c : Ctx) (source first count addr : Nat) (s : State) : Host.Outcome State Fault Refusal :=
  .next (s.runCmd c opLogRead [] (logReadEff c.dmaOk source first count addr))

end Sys2Proof.Machine
end

