-- ==== Sys2Proof/Machine/Roles.lean ====
section
/-! DEFINITION. Role keys, challenges and sessions, and the random source (R427 to R447). -/

namespace Sys2Proof.Machine

/-! ## Role keys (R430 to R432) -/

/-- A role's key: K_MAKER fused, the others as set (R430). -/
def State.roleKey (s : State) (role : Nat) : Option (List Byte) :=
  if role = 3 then (if s.get Reg.ROLE_STATUS_MAKER_KEY = 1 then some Config.makerKey else none) else aget s.roles.keys role

/-- A session closed, with 0x0631 and its cause; the register window loses its role with its session (R438). -/
def State.closeSession (s : State) (n cause : Nat) : State :=
  match aget s.roles.sessions n with
  | none => s
  | some x =>
    let s := { s with roles := { s.roles with sessions := adel s.roles.sessions n
                                              regSession := if s.roles.regSession = some n then none else s.roles.regSession } }
    s.raise evSessionClosed [i1 n, i1 x.role, i1 cause] x.role

/-- Every open session closed that passes a test, in the order of their numbers. -/
def State.closeSessions (s : State) (cause : Nat) (q : Session → Bool) : State :=
  (List.range 17).foldl (fun s n =>
    match aget s.roles.sessions n with
    | some x => if q x then s.closeSession n cause else s
    | none => s) s

/-- A role's key set or unset, in the keeper store and in the sealed copy too (R431). -/
def State.setRoleKey (s : State) (role : Nat) (k : Option (List Byte)) : State :=
  let upd := fun (m : AMap Nat (List Byte)) => match k with
    | some x => aput m role x
    | none => adel m role
  { s with roles := { s.roles with keys := upd s.roles.keys, sealed := upd s.roles.sealed }
           keeper := { s.keeper with keys := upd s.keeper.keys } }

/-- The KEK a role key comes wrapped under: HMAC of "CRETOS-KW" and the target under the setter's key (R432). -/
def wrapKey (setter : List Byte) (target : Nat) : List Byte :=
  Crypto.hmac setter (([0x43, 0x52, 0x45, 0x54, 0x4F, 0x53, 0x2D, 0x4B, 0x57].map (BitVec.ofNat 8)) ++ leBytes 1 target)

/-- ROLE_KEY_SET by its target: MAKER sets the installer's key, INSTALLER the operator's (R430, R444). -/
def opRoleKeySet (target : Nat) : OpInfo := { op := 0x1004, role := if target = 2 then 3 else if target = 1 then 2 else 0 }

/-- ROLE_KEY_SET's effect (R432, R438, R440, R444). -/
def roleKeySetEff (dmaOk : Bool) (target : Nat) (clear : Bool) (addr role : Nat) (s : State) : Res :=
  if target ≠ 1 ∧ target ≠ 2 then ⟨s, some Status.range, 0⟩
  else
    let done := fun (k : Option (List Byte)) =>
      let s := s.setRoleKey target k
      let v := s.roleKcv target
      let s := s.change role 0xA300 0x1004 noOffset target v
      let s := s.raise (evRole 2 .info) [i1 target, i4 v, i1 (b2n clear)] role
      (⟨s.closeSessions 3 fun x => decide (x.role = target), some Status.ok, v⟩ : Res)
    if clear then done none
    else if ¬ dmaOk then ⟨s, some Status.dmaError, 0⟩
    else
      match (s.roleKey role).bind fun k => Crypto.keyUnwrap (wrapKey k target) (memRead s.mem addr 40) with
      | some k => if k.length = 32 then done (some k) else ⟨s, some Status.unwrapFail, 0⟩
      | none => ⟨s, some Status.unwrapFail, 0⟩

/-- ROLE_KEY_SET (R432, R444). -/
def execRoleKeySet (c : Ctx) (target : Nat) (clear : Bool) (addr : Nat) (s : State) : Host.Outcome State Fault Refusal :=
  .next (s.runCmd c (opRoleKeySet target) [] (roleKeySetEff c.dmaOk target clear addr))

/-! ## Challenges and sessions (R433 to R438) -/

def opSessionChallenge : OpInfo := { op := 0x1001, boot := true }
def opSessionOpen : OpInfo := { op := 0x1002, boot := true }
def opSessionClose : OpInfo := { op := 0x1003, boot := true }

/-- Whether a role is locked out (R436). -/
def State.lockedOut (s : State) (role : Nat) : Bool := (s.timer (.lockout role)).isSome

/-- SESSION_CHALLENGE's effect: a nonce drawn and written, the challenge kept with its role and ring; a ninth discards the oldest
(R433, R436, R443). -/
def sessionChallengeEff (c : Ctx) (role addr : Nat) (_held : Nat) (s : State) : Res :=
  if role < 1 ∨ 3 < role then ⟨s, some Status.range, 0⟩
  else if (s.roleKey role).isNone then ⟨s, some Status.notFit, 0⟩
  else if s.lockedOut role ∨ ¬ s.drbgGives then ⟨s, some Status.busy, 0⟩
  else
    let (nonce, s) := s.draw 32
    let id := (s.roles.nextId + 1) % 2 ^ 32
    let s := { s with roles := { s.roles with nextId := id } }
    if ¬ c.dmaOk then ⟨s, some Status.dmaError, 0⟩
    else
      let ch : Challenge := ⟨id, role, c.ring, nonce, s.runNs⟩
      let keep := s.roles.challenges.drop (s.roles.challenges.length - 7)
      let s := { s with roles := { s.roles with challenges := keep ++ [ch] } }
      ⟨s.dmaWrite addr nonce, some Status.ok, id⟩

/-- SESSION_CHALLENGE (R433, R444). -/
def execSessionChallenge (c : Ctx) (role addr : Nat) (s : State) : Host.Outcome State Fault Refusal :=
  .next (s.runCmd c opSessionChallenge [] (sessionChallengeEff c role addr))

/-- The 46 bytes a response is computed over (R434). -/
def State.sessionMsg (s : State) (x : Challenge) (ring : Nat) (bind : Bool) : List Byte :=
  x.nonce ++ leBytes 4 x.id ++ leBytes 1 x.role ++ leBytes 1 ring ++ leBytes 1 (b2n bind) ++ leBytes 1 s.side
    ++ (leBytes 6 (s.macOf Reg.LOCAL_MAC_LO_MAC_LO Reg.LOCAL_MAC_HI_MAC_HI 0)).reverse

/-- A SESSION_OPEN refused by a check: counted, 0x0632 with the check (R435). -/
def State.refuseOpen (s : State) (role id check : Nat) : Res :=
  ⟨(s.bump Reg.SESSION_FAILS_COUNT).raise (evRole 0 .warning) [i1 role, i4 id, i1 check], some Status.sessionRefused, 0⟩

/-- A failure of check 4 counted; at FAIL_LIMIT the role is locked out (R436). -/
def State.countFail (s : State) (role : Nat) : State :=
  let n := (aget s.roles.fails role).getD 0 + 1
  let s := { s with roles := { s.roles with fails := aput s.roles.fails role n } }
  if s.get Reg.SESSION_CFG_FAIL_LIMIT ≤ n then
    (s.arm (.lockout role) (s.get Reg.SESSION_CFG_LOCKOUT * secNs)).raise (evRole 1 .error) [i1 role, i1 n]
  else s

/-- The lowest free session number from 1 to 16. -/
def State.freeSession (s : State) : Option Nat := ((List.range 16).map (· + 1)).find? fun n => (aget s.roles.sessions n).isNone

/-- SESSION_OPEN's effect: the challenge is consumed whatever the outcome, then the five checks in order (R435, R438). -/
def sessionOpenEff (c : Ctx) (id : Nat) (bind : Bool) (addr : Nat) (_held : Nat) (s : State) : Res :=
  let ch := s.roles.challenges.find? fun x => x.id = id
  let s := { s with roles := { s.roles with challenges := s.roles.challenges.filter fun x => x.id ≠ id } }
  if ¬ c.dmaOk then ⟨s, some Status.dmaError, 0⟩ else
  match ch with
  | none => s.refuseOpen 0 id 1
  | some x =>
    if x.madeAt + 30 * secNs < s.runNs then s.refuseOpen x.role id 1
    else if x.ring ≠ c.ring then s.refuseOpen x.role id 2
    else if s.lockedOut x.role then s.refuseOpen x.role id 3
    else if (s.roleKey x.role).map (fun k => Crypto.hmac k (s.sessionMsg x c.ring bind)) ≠ some (memRead s.mem addr 32) then
      (s.countFail x.role).refuseOpen x.role id 4
    else
      match s.freeSession with
      | none => ⟨s, some Status.busy, 0⟩
      | some n =>
        let se : Session := ⟨x.role, c.ring, s.linear, s.runNs⟩
        let s := { s with roles := { s.roles with sessions := aput s.roles.sessions n se, fails := adel s.roles.fails x.role
                                                  regSession := if bind then some n else s.roles.regSession } }
        let s := (s.bump Reg.SESSION_OPENS_COUNT).raise evSessionOpened [i1 n, i1 x.role, i1 c.ring, i1 (b2n bind)] x.role
        ⟨s, some Status.ok, n + 2 ^ 8 * x.role⟩

/-- SESSION_OPEN (R435, R444). -/
def execSessionOpen (c : Ctx) (id : Nat) (bind : Bool) (addr : Nat) (s : State) : Host.Outcome State Fault Refusal :=
  .next (s.runCmd c opSessionOpen [] (sessionOpenEff c id bind addr))

/-- SESSION_CLOSE's effect: the session itself, an INSTALLER for one of the two lower roles, or a MAKER may close it (R444). -/
def sessionCloseEff (c : Ctx) (n held : Nat) (s : State) : Res :=
  match aget s.roles.sessions n with
  | none => ⟨s, some Status.notFound, 0⟩
  | some x =>
    if (c.session = n ∧ x.ring = c.ring) ∨ (held = 2 ∧ x.role ≠ 3) ∨ held = 3 then ⟨s.closeSession n 1, some Status.ok, 0⟩
    else ⟨s.refuseRight c { opSessionClose with role := if x.role = 3 then 3 else 2 }, none, 0⟩

/-- SESSION_CLOSE (R438, R444). -/
def execSessionClose (c : Ctx) (n : Nat) (s : State) : Host.Outcome State Fault Refusal :=
  .next (s.runCmd c opSessionClose [] (sessionCloseEff c n))

/-- SESSION_IDLE_TIMEOUT: a session idle for IDLE_TIMEOUT closes with cause 2 (R438). -/
def execSessionIdleTimeout (n : Nat) (s : State) : Host.Outcome State Fault Refusal :=
  .next (
    match aget s.roles.sessions n with
    | some x => if x.lastAt + s.get Reg.SESSION_CFG_IDLE_TIMEOUT * secNs ≤ s.runNs then s.closeSession n 2 else s
    | none => s)

/-- CHALLENGE_EXPIRY: a challenge older than 30 s is no longer usable (R433). -/
def execChallengeExpiry (id : Nat) (s : State) : Host.Outcome State Fault Refusal :=
  .next ({ s with roles := { s.roles with
    challenges := s.roles.challenges.filter fun x => decide (x.id ≠ id ∨ s.runNs < x.madeAt + 30 * secNs) } })

/-- LOCKOUT_END: a role's lockout ends and its failures count from 0 (R436). -/
def execLockoutEnd (role : Nat) (s : State) : Host.Outcome State Fault Refusal :=
  .next (
    if s.due (.lockout role) then { s.stopTimer (.lockout role) with roles := { s.roles with fails := adel s.roles.fails role } } else s)

/-! ## The random source (R442, R443) -/

/-- Whether the random source works: it does while its unit comes up DISABLED too, or no session could be opened to enable a unit
(R42, R433; log entry 39). -/
def State.trngRuns (s : State) : Bool := (s.unit 0xA200).st = .enabled ∨ (s.unit 0xA200).st = .disabled

/-- DRBG_RESEED: the DRBG is instantiated, then reseeded once a second has gone since; a completed reseed ends a withholding (R442, R443). -/
def execDrbgReseed (s : State) : Host.Outcome State Fault Refusal :=
  .next (
    if ¬ s.trngRuns then s
    else if s.get Reg.TRNG_STATUS_DRBG_READY = 0 then ((s.put Reg.TRNG_STATUS_DRBG_READY 1).setVar .reseedAt s.runNs)
    else if (s.runNs : Int) < s.var .reseedAt + secNs then s
    else
      let held := decide (s.get Reg.TRNG_STATUS_WITHHELD = 1)
      let secs := (((s.runNs : Int) - s.var .withheldAt).toNat) / secNs
      let s := ((s.bump Reg.DRBG_RESEEDS_COUNT).setVar .reseedAt s.runNs).put Reg.TRNG_STATUS_WITHHELD 0
      if held then s.raise evDrbgResumed [i4 secs] else s)

/-- HEALTH_FAIL: a block fails test 1 or 2 and is discarded (R443). -/
def execHealthFail (test : Nat) (s : State) : Host.Outcome State Fault Refusal :=
  .next (
    if ¬ s.trngRuns ∨ test < 1 ∨ 2 < test then s else
    let fresh := decide (s.var .healthFails = 0 ∨ s.var .healthFrom + secNs ≤ s.runNs)
    let n := if fresh then 1 else s.var .healthFails + 1
    let s := ((s.setVar .healthFails n).setVar .healthFrom (if fresh then s.runNs else s.var .healthFrom)).bump Reg.TRNG_BLOCKS_FAILED_COUNT
    s.raise (evTrng 0 .error) [i1 test, i4 n.toNat])

/-- DRBG_WITHHELD: a reseed is 2 s overdue, 3 s after the last one (R442, R443). -/
def execDrbgWithheld (s : State) : Host.Outcome State Fault Refusal :=
  .next (
    let since := ((s.runNs : Int) - s.var .reseedAt).toNat
    if s.get Reg.TRNG_STATUS_DRBG_READY = 1 ∧ s.get Reg.TRNG_STATUS_WITHHELD = 0 ∧ 3 * secNs ≤ since then
      ((s.put Reg.TRNG_STATUS_WITHHELD 1).setVar .withheldAt s.runNs).raise (evTrng 1 .critical) [i4 (since / secNs)]
    else s)

/-- WITHHOLDING_FAULT: a withholding of 60 s is a fault of the unit, cause 2 (R443). -/
def execWithholdingFault (s : State) : Host.Outcome State Fault Refusal :=
  .next (
    if s.get Reg.TRNG_STATUS_WITHHELD = 1 ∧ s.var .withheldAt + 60 * secNs ≤ s.runNs then s.unitFault 0xA200 2 else s)

end Sys2Proof.Machine
end

