-- ==== Sys2Proof/Machine/HostIf.lean ====
section
/-! DEFINITION. The host interface (R359 to R388): rings enabled and stopped, the status block, interrupts, D3hot and host resets. -/

namespace Sys2Proof.Machine

/-! ## Rings (R370 to R373) -/

/-- Whether another ring than n that is not DISABLED has a type and passes a test. -/
def State.otherRing (s : State) (n typ : Nat) (q : Nat → Bool) : Bool :=
  (List.range 64).any fun m => decide (m ≠ n ∧ s.ringSt m ≠ 0 ∧ s.get (Reg.RING_CFG_TYPE m) = typ) && q m

/-- Whether a mask names exactly one port. -/
def onePort (m : Nat) : Bool := m = 1 ∨ m = 2 ∨ m = 4 ∨ m = 8

/-- Whether a ring's configuration passes the checks made at ENABLE (R371). -/
def State.ringOk (s : State) (n : Nat) : Bool :=
  let t := s.get (Reg.RING_CFG_TYPE n)
  let sz := s.get (Reg.RING_CFG_SIZE_LOG2 n)
  let ports := s.get (Reg.RING_CFG_PORTS n)
  decide (s.ringBase n % 4096 = 0 ∧ 6 ≤ sz ∧ sz ≤ 16)
    && decide (s.get64 Reg.DB_BASE_LO_ADDR_LO Reg.DB_BASE_HI_ADDR_HI ≠ 0 ∧ s.get64 Reg.ST_BASE_LO_ADDR_LO Reg.ST_BASE_HI_ADDR_HI ≠ 0)
    && (t ≠ 0 || decide (s.get (Reg.RING_CFG_TYPE (s.get (Reg.RING_CFG_PARTNER n))) = 1))
    && ((t ≠ 3 ∧ t ≠ 4) || (onePort ports && ! s.otherRing n t fun m => decide (s.get (Reg.RING_CFG_PORTS m) = ports)))
    && (t ≠ 5 || ! s.otherRing n 5 fun m => decide (s.get (Reg.RING_CFG_PORTS m) &&& ports ≠ 0))
    && ((t ≠ 6 ∧ t ≠ 7) || ! s.otherRing n t fun _ => true)

/-- ENABLE written 1: a DISABLED ring is checked and becomes ACTIVE with ENGINE_IDX 0, or goes to ERROR (R371, R372). -/
def State.ringEnable (s : State) (n : Nat) : State :=
  let s := s.put (Reg.RING_CTRL_ENABLE n) 1
  if s.ringSt n ≠ 0 then s
  else if s.ringOk n then
    let s := { s with hif := { s.hif with engIdx := aput s.hif.engIdx n 0, hostIdx := aput s.hif.hostIdx n 0, unsignal := aput s.hif.unsignal n 0 } }
    (s.put (Reg.RING_STATUS_CAUSE n) 0).setRing n 1
  else s.ringError n 1 0

/-- ENABLE written 0: an ACTIVE ring stops, one in ERROR becomes DISABLED (R372). -/
def State.ringDisable (s : State) (n : Nat) : State :=
  let s := s.put (Reg.RING_CTRL_ENABLE n) 0
  if s.ringSt n = 1 then s.setRing n 2
  else if s.ringSt n = 3 then (s.put (Reg.RING_STATUS_CAUSE n) 0).setRing n 0
  else s

/-- RING_STOPPED: a STOPPING ring has finished its work in hand: the commands fetched from it have completed (R372). -/
def execRingStopped (n : Nat) (s : State) : Host.Outcome State Fault Refusal :=
  .next (
    if 64 ≤ n ∨ s.ringSt n ≠ 2 ∨ (s.get (Reg.RING_CFG_TYPE n) = 0 ∧ s.hif.inflight.any fun e => e.ctx.ring = n) then s
    else (s.stopTimer (.modTime n)).setRing n 0)

/-- MOD_TIME_EXPIRY: MOD_TIME has passed since the first entry not yet signalled (R385). -/
def execModTimeExpiry (n : Nat) (s : State) : Host.Outcome State Fault Refusal :=
  .next (
    if ¬ s.due (.modTime n) then s else
    let s := s.stopTimer (.modTime n)
    let s := { s with hif := { s.hif with unsignal := aput s.hif.unsignal n 0 } }
    let v := s.get (Reg.RING_CFG_VECTOR n)
    if v = 0 then s
    else if s.hif.stDirty then { s with hif := { s.hif with toSignal := s.hif.toSignal ++ [v] } }
    else s.msi v)

/-! ## The status block (R367, R368) -/

/-- Bit n for each ring in ERROR. -/
def State.ringErrors (s : State) : Nat := (List.range 64).foldl (fun m n => if s.ringSt n = 3 then setBit m n else m) 0

/-- The 512 bytes of the status block (R367). -/
def State.statusBytes (s : State) : List Byte :=
  (List.range 64).flatMap (fun n => leBytes 4 (s.engIdx n)) ++ leBytes 8 s.linear ++ leBytes 4 s.hif.stSeq
    ++ leBytes 1 (s.get Reg.HIF_STATUS_STATE + 4 * s.get Reg.HIF_STATUS_CONFIG_LOCK) ++ leBytes 1 (s.get Reg.TWN_STATUS_ROLE)
    ++ leBytes 1 (s.get Reg.HOB_STATUS_STATE) ++ leBytes 1 0 ++ leBytes 4 (s.get Reg.HOB_TEB_TEB) ++ leBytes 4 (s.get Reg.HOB_TRACE_TRACE)
    ++ leBytes 8 s.ringErrors ++ List.replicate 224 0

/-- Whether the status block is due: ST_MIN after the last write when something changed, HEARTBEAT after it otherwise (R368). -/
def State.statusDue (s : State) : Bool :=
  let since := (s.runNs : Int) + 1 - s.var .stAt
  let gap := if s.hif.stDirty then 100 * s.get Reg.ST_CTRL_ST_MIN else 1000000 * s.get Reg.ST_CTRL_HEARTBEAT
  s.var .stAt = 0 ∨ (gap : Int) ≤ since

/-- STATUS_BLOCK_WRITE: the whole block in one write, then the messages it covers; it counts itself in ST_SEQ (R365, R367, R368, R385).
A write that fails raises 0x0712 and is made again when next due. -/
def execStatusBlockWrite (dmaOk : Bool) (s : State) : Host.Outcome State Fault Refusal :=
  .next (
    let base := s.get64 Reg.ST_BASE_LO_ADDR_LO Reg.ST_BASE_HI_ADDR_HI
    if ¬ s.hostOpen ∨ s.hif.d3hot ∨ ¬ s.hif.hostUp ∨ base = 0 ∨ ¬ s.statusDue then s
    else
      let s := s.setVar .stAt (s.runNs + 1)
      if ¬ dmaOk then
        let (v, s) := s.takeFree
        s.raiseHif (evHif 1 .error) [i1 0xFF, i4 base, i1 v]
      else
        let s := { s with hif := { s.hif with stSeq := (s.hif.stSeq + 1) % 2 ^ 32 } }
        let s := s.dmaWrite base s.statusBytes
        let vs := s.hif.toSignal
        let s := { s with hif := { s.hif with stDirty := false, toSignal := [] } }
        vs.eraseDups.foldl (fun s v => s.msi v) s)

/-! ## Interrupts and power state (R359, R385) -/

/-- VECTOR_UNMASK: a vector is unmasked; its pending message goes (R385). -/
def execVectorUnmask (v : Nat) (s : State) : Host.Outcome State Fault Refusal :=
  .next (
    if 32 ≤ v then s else
    let pend := s.hif.pbits.contains v
    let s := { s with hif := { s.hif with masked := s.hif.masked.erase v } }
    if pend ∧ ¬ s.hif.d3hot ∧ s.hif.hostUp then { s with hif := { s.hif with pbits := s.hif.pbits.erase v } }.msi v else s)

/-- The completions that waited for D0, written in the order they came (R359). -/
def State.writeHeld (s : State) : List HeldCpl → State
  | [] => s
  | h :: hs => (s.ringWrite h.cpl (cplBytes h.done (s.phaseOf h.cpl (s.engIdx h.cpl))) h.irq).writeHeld hs

/-- D3HOT: the function enters D3hot, or returns to D0 with what waited (R359). -/
def execD3hot (on : Bool) (s : State) : Host.Outcome State Fault Refusal :=
  .next (
    if s.hif.d3hot = on then s
    else if on then { s with hif := { s.hif with d3hot := true } }
    else
      let w := s.hif.waiting
      let s := { s with hif := { s.hif with d3hot := false, waiting := [] } }
      let s := s.writeHeld w
      let send := s.hif.pbits.filter fun v => ! s.hif.masked.contains v
      send.foldl (fun s v => { s with hif := { s.hif with pbits := s.hif.pbits.erase v } }.msi v) s)

/-! ## Host reset (R386) -/

/-- Whether a stored field belongs to the HIF block, but for what a host reset leaves: STATE and CONFIG_LOCK. -/
def hifField (key : Nat) : Bool :=
  0x20000 * 32 ≤ key ∧ key < 0x30000 * 32 ∧ key ≠ Reg.HIF_STATUS_STATE.key ∧ key ≠ Reg.HIF_STATUS_CONFIG_LOCK.key

/-- A host reset: rings DISABLED, the HIF registers at their reset values, sessions closed, challenges discarded; completions that waited
are discarded and counted (R386). -/
def State.hostReset (s : State) (cause : Nat) : State :=
  let s := (List.range 64).foldl (fun s n => (s.stopTimer (.modTime n)).setRing n 0) s
  let s := s.closeSessions 4 fun _ => true
  let lost := s.hif.waiting.length
  let s := { s with regs := s.regs.filter fun x => ! hifField x.1 }
  let s := s.bumpBy Reg.HIF_CPL_DISCARDED_COUNT lost
  let s := { s with roles := { s.roles with challenges := [], regSession := none } }
  (({ s with hif := { s.hif with engIdx := [], hostIdx := [], unsignal := [], toSignal := [], masked := List.range 32, pbits := []
                                 stDirty := false, stSeq := 0, pollEvery := 4, idlePolls := 0, hostUp := false, lastReset := cause
                                 discards := lost, d3hot := false, waiting := [] } }.stopTimer .poll).setVar .stAt 0).setVar .kicked 0

/-- HOST_RESET: a function level reset (1), a hot reset (2) or the loss of the link (3) (R386, R387). -/
def execHostReset (cause : Nat) (s : State) : Host.Outcome State Fault Refusal :=
  .next (if 1 ≤ cause ∧ cause ≤ 3 then s.hostReset cause else s)

/-- HOST_BACK: the host is back, and 0x0714 tells the cause and the completions discarded (R386, R387). -/
def execHostBack (s : State) : Host.Outcome State Fault Refusal :=
  .next (
    if s.hif.hostUp then s else
    { s with hif := { s.hif with hostUp := true } }.raiseHif (evHif 3 .warning) [i1 s.hif.lastReset, i4 s.hif.discards])

end Sys2Proof.Machine
end

