-- ==== Sys2Proof/Machine/Power.lean ====
section
/-! DEFINITION. Power domains, resets, the keeper, start-up and DRAM training (R448 to R460). -/

namespace Sys2Proof.Machine

/-! ## The package reset (R452, R453) -/

/-- Whether a stored field is marked kept. -/
def isKept (key : Nat) : Bool :=
  match wordAt (key / 32) with
  | some w => w.fields.any fun f => decide (f.key = key) && f.kept
  | none => false

/-- A fit as the keeper holds it: without its records, in use until it has gathered 3,600 anew (R121). A model that has made no fit
yet leaves none to restore. -/
def Fit.stored (f : Fit) : Fit :=
  { f with recs := [], count := 0, restored := f.restored || decide (f.count ≠ 0), whole := f.atomValid }

/-- The models as the keeper holds them: the fit of the OCXO model and of every atomic model (R121). An atomic model that was not valid is
restored so, and is valid with 300 records since (DESIGN CHOICE, log entry 108). -/
def Disc.stored (d : Disc) : Disc := ⟨d.ocxo.stored, d.atom.map fun x => (x.1, x.2.stored)⟩

/-- The fuses and the board record's fields as software last changed them, in the registers that show them (R458, R464). -/
def State.showBoot (s : State) : State :=
  let s := match s.boot.fwSvn with
    | some v => s.put Reg.FW_SVN_SVN v
    | none => s
  let s := match s.boot.revoked with
    | some v => s.put Reg.FW_SVN_REVOKED v
    | none => s
  [Reg.RTC_CFG_RTC_CLASS, Reg.RTC_CFG_LOAD, Reg.MEM_CFG_SIZE, Reg.MEM_CFG_RATE].foldl (fun s f =>
    match aget s.boot.trims f.key with
    | some v => s.put f v
    | none => s) s

/-- A package reset: every register at its reset value but the kept and fused ones; what the keeper, the SPI NOR and the host's memory
hold stays (R422, R431, R452, R455). -/
def State.packageReset (s : State) (cause : Nat) : State :=
  let t : State :=
    { State.reset with
      regs := s.regs.filter fun x => isKept x.1
      log := ⟨[], s.log.nextSeq, 0, s.log.keeper, [], false⟩
      roles := { State.reset.roles with sealed := s.roles.sealed }
      keeper := s.keeper
      boot := s.boot
      disc := s.disc.stored
      gnss := { sx := s.gnss.sx, sy := s.gnss.sy, sz := s.gnss.sz, sq := s.gnss.sq }
      vars := match aget s.vars .rtcCount with
        | some n => [(.rtcCount, n)]
        | none => []
      mem := s.mem
      out := .fence false :: (if s.sclkRuns then .sclk false :: s.out else s.out)
      free := s.free
      pending := s.pending }
  (t.put Reg.PWR_RESET_CAUSE_CAUSE cause).showBoot

/-- PACKAGE_RESET: power-on of TCORE (0), RESET_N (1), the core supply monitor (2) (R452). -/
def execPackageReset (cause : Nat) (s : State) : Host.Outcome State Fault Refusal :=
  .next (if cause < 3 then s.packageReset cause else s)

/-! ## Start-up (R456 to R459). With a die at fault none of it goes on: the engine waits for a package reset (R46). -/

/-- The phase of R457 changed, with 0x0A10. -/
def State.setPhase (s : State) (p : Nat) : State :=
  let old := s.phase
  (s.put Reg.PWR_STATUS_PHASE p).raise evStartPhase [i1 old, i1 p]

/-- The keeper's contents lost: kept fields read 0, SURVEY_TIME 86,400, and no model is left (R456). The kept fields' reset values are
these. -/
def State.keeperLost (s : State) : State :=
  { s with regs := s.regs.filter fun x => ! isKept x.1, disc := ⟨{}, []⟩ }

/-- The role keys taken up: the keeper's copy, or the sealed one where the keeper's is lost; a key of which neither is good is unset, with
0x0635 (R431). -/
def State.takeKeys (s : State) (lost sealedBad : Bool) : State :=
  let ks := if ¬ lost then s.keeper.keys else if sealedBad then [] else s.roles.sealed
  let s := { s with roles := { s.roles with keys := ks }, keeper := { s.keeper with keys := ks } }
  if lost ∧ sealedBad then
    [1, 2].foldl (fun s r => if (aget s.roles.sealed r).isSome then s.raise (evRole 3 .error) [i1 r] else s) s
  else s

/-- KEEPER_CHECK: what the keeper held through the outage is judged; the brown-out latch clears; KEEP and TCORE have their units (R422, R431,
R456, R457). -/
def execKeeperCheck (rtcStopped crcBad sealedBad : Bool) (s : State) : Host.Outcome State Fault Refusal :=
  .next (
    if ¬ s.starting 0 then s else
    let bo := s.keeper.brownOut
    let ok := ! (bo || rtcStopped || crcBad)
    let s := s.putB Reg.PWR_STATUS_KEEP_VALID ok
    let s := { s with keeper := { s.keeper with brownOut := false } }
    let s := if bo then { s with log := { s.log with keeper := [], nextSeq := 0 } }.setVar .keepLost 1 else s
    let s := if ok then s else s.keeperLost.raise (evPwr 2 .warning) [i1 (b2n bo), i1 (b2n rtcStopped), i1 (b2n crcBad)]
    let s := s.takeKeys (bo || crcBad) sealedBad
    ((s.domainOn 0).domainOn 1).setPhase 1)

/-- TCLK_PLL_LOCK: the Coach leaves its boot oscillator for TCLK (R457). -/
def execTclkPllLock (s : State) : Host.Outcome State Fault Refusal :=
  .next (if s.starting 1 then (s.put Reg.PWR_STATUS_OSC_MISSING 0).setPhase 2 else s)

/-- OSC_MISSING: 10 s without TCLK lock (R457, R465). -/
def execOscMissing (secs : Nat) (s : State) : Host.Outcome State Fault Refusal :=
  .next (
    if s.starting 1 ∧ 10 ≤ secs then (s.put Reg.PWR_STATUS_OSC_MISSING 1).raise (evPwr 6 .critical) [i4 secs] else s)

/-- The keeper's log entries of the run before, copied into LOG_PREV once the log runs, with 0x0732; from then on the keeper records the
new run (R422). -/
def State.keepPrev (s : State) : State :=
  let prev := s.log.keeper
  let lost := decide (s.var .keepLost = 1)
  let s := { s with log := { s.log with prev := prev, prevOk := ! lost, keeper := [] } }
  let s := if lost then s
    else s.raise evLogPrev [i1 (slotsOf prev), i4 (((prev.head?).map fun e => e.seq + e.slots - 1).getD 0)]
  { s with log := { s.log with keeper := [] } }

/-- RECOVERY: neither image verified; the boot ROM powers FAB, CRYPT and HOST and the host interface becomes READY (R362, R457, R458). -/
def State.recovery (s : State) (causeA causeB : Nat) : State :=
  let s := (s.raise (evPwr 1 .critical) [i1 causeA, i1 causeB]).setPhase 8
  let s := (((s.domainOn 8).domainOn 13).domainOn 11).put Reg.FAB_STATUS_DCB_TRAINED 1
  (s.put Reg.HIF_STATUS_STATE 1).keepPrev

/-- An image boots from a slot; with TWIN_EN at 0 the engine is ALONE and claims the fence (R331, R343, R346, R457). -/
def State.booted (s : State) (slot version : Nat) : State :=
  let s := (s.put Reg.PWR_STATUS_FW_SLOT slot).put Reg.FW_VERSION_VERSION version
  let s := s.setPhase 3
  if s.get Reg.TWN_CTRL_TWIN_EN = 0 then (s.driveFence true).setRole 0
  else s.arm .listen (s.get Reg.TWN_CTRL_LISTEN * lapNs)

/-- FW_BOOT: the preferred slot's image is tried, then the other's. A cause of 0 says that an image verifies; 1 its signature, 2 its
version, 3 its length does not (R457, R458). -/
def execFwBoot (causeA causeB verA verB : Nat) (s : State) : Host.Outcome State Fault Refusal :=
  .next (
    if ¬ s.starting 2 then s else
    let p := s.boot.preferred
    let first := if p = 0 then causeA else causeB
    let second := if p = 0 then causeB else causeA
    let ver := fun slot => if slot = 0 then verA else verB
    if first = 0 then s.booted p (ver p)
    else if second = 0 then (s.raise (evPwr 0 .warning) [i1 (1 - p), i1 first]).booted (1 - p) (ver (1 - p))
    else s.recovery causeA causeB)

/-- u_rtc of an RTC class, in ppm (R459). -/
def rtcPpm (cls : Nat) : Nat := [100, 50, 5, 2].getD cls 100

/-- Δ of R459 for a count of RTC periods and RTC_FOFF in units of 2^-40: in whole seconds, in units of 2^-16 ns, and its share of the bound
in units of 2^-8 ns, rounded up. -/
def recoverySecs (cnt : Nat) (foff : Int) : Nat := cnt * 2 ^ 40 / (32768 * (2 ^ 40 + foff).toNat)
@[inherit_doc recoverySecs] def recovery16 (cnt : Nat) (foff : Int) : Nat :=
  cnt * secNs * 2 ^ 16 * 2 ^ 40 / (32768 * (2 ^ 40 + foff).toNat)
@[inherit_doc recoverySecs] def recoveryTeb (ppm cnt : Nat) (foff : Int) : Nat :=
  ceilDiv (256 * ppm * cnt * secNs * 2 ^ 40) (1000000 * 32768 * (2 ^ 40 + foff).toNat)

/-- Two RTC periods in units of 2^-8 ns (R459). -/
def rtcReadings : Nat := 15625000

/-- The instant of a restored fit on the running scale of the new run. -/
def State.placeFit (s : State) (f : Fit) : Fit := { f with at_ := (s.runNs : Int) - linDiff s.linear f.linAt }

/-- What counts from the present instant once the time is loaded: laps, dumps, ELAPSED. -/
def State.startCounts (s : State) : State :=
  let s := (s.setVar .lapNo (s.ns / lapNs)).setVar .dumpLast (s.linear / 1000000 : Nat)
  { s with pmc := { s.pmc with base := (List.range 8).map fun r => (r, s.linear) } }

/-- The traceability ID kept: RECORD, LANE and LANE_VALID as stored (R459). -/
def State.takeTrace (s : State) (t : Nat) : State :=
  if bit t 20 then (s.setVar .phaseLane (t / 2 ^ 16 % 16 + 1 : Nat)).setVar .traceRec (t % 2 ^ 16 + 1 : Nat) else s

/-- TIME_RECOVERY: the Time Core is loaded from the keeper's pair and the RTC, or starts at the PTP epoch, and is anchored there with a
bound that covers the outage; STEP_ARMED is set (R62, R115, R459). Nothing is crossed by the load (R59). -/
def execTimeRecovery (rtcNow : Nat) (s : State) : Host.Outcome State Fault Refusal :=
  .next (
    if ¬ s.starting 3 then s else
    let ok := decide (s.get Reg.PWR_STATUS_KEEP_VALID = 1)
    let k := s.keeper
    let cnt := if ok then (rtcNow + 2 ^ 48 - k.rtc % 2 ^ 48) % 2 ^ 48 else 0
    let foff := s.getI Reg.RTC_FOFF_FOFF
    let s := s.setVar .rtcCount (rtcNow % 2 ^ 48 : Nat)
    let now := (if ok then k.time16 + recovery16 cnt foff else 0) * 2 ^ 36 % timeMod
    let s := { s with tc := { s.tc with time := now, prev := now } }.resumeLeap
    let sum := if ok then k.teb + recoveryTeb (rtcPpm (s.get Reg.RTC_CFG_RTC_CLASS)) cnt foff + rtcReadings else 2 ^ 32
    let teb0 := tebSat sum
    let s := { s with disc := ⟨s.placeFit s.disc.ocxo, s.disc.atom.map fun (x : Nat × Fit) => (x.1, s.placeFit x.2)⟩ }
    let s := if ok then s.takeTrace k.trace else s
    let s := (s.anchor s.linear teb0 none none).noteFreq.put Reg.HOB_STATUS_ANCHORED 1
    let st := if s.modelValid then 1 else 0
    let old := s.get Reg.HOB_STATUS_STATE
    let s := (((s.put Reg.HOB_STATUS_STATE st).discRate 5 st).publishTeb sum).discEvents old st
    let dt := if ok then recoverySecs cnt foff else 0
    let s := (s.put Reg.RECOV_DT_SECONDS dt).put Reg.RECOV_TEB0_TEB0 teb0
    (s.startCounts.raise (evPwr 3 .info) [i4 dt, i4 teb0]).setPhase 4)

/-- TRACK_UP: TDC, SYN_A to SYN_D and GNSS are powered, SYN_C and SYN_D LOCKED; the baseband starts (R214, R457). -/
def execTrackUp (s : State) : Host.Outcome State Fault Refusal :=
  .next (
    if s.starting 4 ∧ ([2, 3, 4, 5, 6, 7].all fun d => s.powered d) ∧ s.synSt 2 = 3 ∧ s.synSt 3 = 3 then (s.setPhase 5).gnssStart else s)

/-- FIELD_UP: the Field domains are powered and the die-crossing bridge has trained; the host interface becomes READY, the log runs (R362,
R422, R457). -/
def execFieldUp (s : State) : Host.Outcome State Fault Refusal :=
  .next (
    if s.starting 5 ∧ [8, 9, 10, 11, 12, 13].all fun d => s.powered d then
      ((s.put Reg.FAB_STATUS_DCB_TRAINED 1).put Reg.HIF_STATUS_STATE 1).keepPrev.setPhase 6
    else s)

/-! ## DRAM training (R460) -/

/-- Start-up reaches DONE some milliseconds after the reset's release; a FIELD_RESET's training leaves the phase as it is (R457, R466). -/
def State.startDone (s : State) (readyMs : Nat) : State :=
  if s.starting 6 then (s.put Reg.PWR_READY_MS_MS (min readyMs 65535)).setPhase 7 else s

/-- DRAM_TRAIN: an attempt passes, or fails in some channels at a step; the third failure switches MEM off (R457, R460). -/
def execDramTrain (pass : Bool) (failCh step ms readyMs : Nat) (s : State) : Host.Outcome State Fault Refusal :=
  .next (
    if s.phase < 6 ∨ 7 < s.phase ∨ ¬ s.powered 12 ∨ (s.unit 0xB100).st = .absent ∨ s.get Reg.MEM_STATUS_TRAINED = 1 then s
    else
      let s := s.put Reg.MEM_STATUS_ATTEMPTS (min (s.get Reg.MEM_STATUS_ATTEMPTS + 1) 3)
      if pass then (((s.put Reg.MEM_STATUS_TRAINED 1).put Reg.MEM_STATUS_FAIL_CH 0).put Reg.MEM_TRAIN_MS_MS ms).startDone readyMs
      else
        let s := s.put Reg.MEM_STATUS_FAIL_CH failCh
        if s.get Reg.MEM_STATUS_ATTEMPTS < 3 then s
        else
          let s := (s.put Reg.MEM_STATUS_FAILED 1).raise (evPwr 4 .error) [i1 failCh, i1 step]
          ((s.domainOff 12).setVar (.offCmd 12) 1).startDone readyMs)

/-- DRAM_RETRAIN: ZQ calibration and DQS tracking of a channel again (R460). -/
def execDramRetrain (s : State) : Host.Outcome State Fault Refusal :=
  .next (if s.get Reg.MEM_STATUS_TRAINED = 1 ∧ s.unitOn 0xB100 then s.bump Reg.MEM_RETRAINS_COUNT else s)

/-! ## The keeper at work (R454, R455) -/

/-- KEEPER_WRITE: at the crossing edge of a second the time with its fraction, the bound and the traceability ID are stored with the RTC count
there; every 64 s with WARMING clear RTC_FOFF is measured anew (R59, R455). -/
def execKeeperWrite (rtc : Nat) (foff : Option Int) (s : State) : Host.Outcome State Fault Refusal :=
  .next (
    if s.phase < 4 ∨ 7 < s.phase ∨ ¬ s.crosses secNs then s
    else
      let k : Keeper := { s.keeper with time16 := s.linear * 65536 + s.frac16, rtc := rtc % 2 ^ 48, teb := s.get Reg.HOB_TEB_TEB,
                                        trace := s.get Reg.HOB_TRACE_TRACE, writes := s.keeper.writes + 1 }
      let s := { s with keeper := k }.setVar .rtcCount (rtc % 2 ^ 48 : Nat)
      match foff with
      | some y => if s.get Reg.TIM_STATUS_WARMING = 0 ∧ s.secs % 64 = 0 then s.putI Reg.RTC_FOFF_FOFF (satI 32 y) else s
      | none => s)

/-- The keeper cell's voltage measured, unit 10 mV: below 2.2 V VBAT_LOW is set, with 0x0A16 (R454, R465). -/
def State.cellMeasured (s : State) (cell : Nat) : State :=
  let low := decide (cell < 220)
  let s := (s.put Reg.KEEP_STATUS_CELL (min cell 4095)).putB Reg.KEEP_STATUS_VBAT_LOW low
  if low then s.raise (evPwr 5 .warning) [i2 cell] else s

/-- VBAT_LOW: the cell has fallen below 2.2 V (R454). -/
def execVbatLow (cell : Nat) (s : State) : Host.Outcome State Fault Refusal := .next (if cell < 220 then s.cellMeasured cell else s)

/-- ON_CELL: the keeper changes over to the cell, or back to the I/O supply (R454). -/
def execOnCell (on : Bool) (cell : Nat) (s : State) : Host.Outcome State Fault Refusal :=
  .next ((s.putB Reg.KEEP_STATUS_ON_CELL on).cellMeasured cell)

/-- BROWN_OUT: the keeper's supply falls below 1.6 V; the latch sets (R454). -/
def execBrownOut (s : State) : Host.Outcome State Fault Refusal := .next { s with keeper := { s.keeper with brownOut := true } }

/-! ## Domains by command (R448, R449) -/

/-- Whether a lane with a source of a port is SELECTED. -/
def State.portLaneSelected (s : State) (p : Nat) : Bool :=
  match s.cur with
  | some n => decide (s.laneSrc n = 0x0C + p ∨ s.laneSrc n = 0x10 + p)
  | none => false

/-- Whether a lane served by a TDC lane is SELECTED. -/
def State.tdcSelected (s : State) : Bool :=
  match s.cur with
  | some n => s.needsTdc n
  | none => false

/-- Whether an output assigned to a group is not OFF. -/
def State.groupUsed (s : State) (g : Nat) : Bool := (List.range 24).any fun i => decide (s.outGrp i = g ∧ s.outSt i ≠ 0)

/-- Whether R448 refuses to switch a domain off now. -/
def State.offBusy (s : State) (d : Nat) : Bool :=
  match d with
  | 2 => s.tdcSelected || (List.range 24).any fun k => s.heatRuns k
  | 3 => decide (s.synSt 0 ≠ 0)
  | 4 => decide (s.synSt 1 ≠ 0)
  | 5 => decide (s.get Reg.TWN_CTRL_TWIN_EN = 1) || s.groupUsed 2
  | 6 => s.powered 9 || s.powered 10 || s.groupUsed 3
  | 7 => s.gnssSelected
  | 9 => s.portLaneSelected 0 || s.portLaneSelected 1
  | 10 => s.portLaneSelected 2 || s.portLaneSelected 3
  | 12 => (List.range 4).any fun k => decide (s.get (Reg.PTP_GRANT_SLAVES_COUNT k) ≠ 0)
  | _ => false

/-- The domains a command never switches off (R448). -/
def neverOff (d : Nat) : Bool := d = 0 ∨ d = 1 ∨ d = 8 ∨ d = 11 ∨ d = 13

/-- OFF of a domain by command; accepted, it is logged whether or not it changes anything (R464). -/
def domainOffEff (op d role : Nat) (s : State) : Res :=
  if neverOff d then ⟨s, some Status.notPermitted, 0⟩
  else if ¬ s.powered d then ⟨s.change role 0x7FFE op noOffset d 0, some Status.ok, 0⟩
  else if s.offBusy d then ⟨s, some Status.busy, 0⟩
  else ⟨((s.domainOff d).setVar (.offCmd d) 1).change role 0x7FFE op noOffset d 0, some Status.ok, 0⟩

/-- ON of a domain by command; its units leave ABSENT under R40, and DRAM is trained anew. -/
def domainOnEff (op d role : Nat) (s : State) : Res :=
  if s.powered d then ⟨s.change role 0x7FFE op noOffset d 1, some Status.ok, 0⟩
  else if (d = 9 ∨ d = 10) ∧ s.synSt 3 ≠ 3 then ⟨s, some Status.busy, 0⟩
  else
    let s := (s.setVar (.offCmd d) 0).powerBit d true
    let s := if d = 12 then ((s.put Reg.MEM_STATUS_FAILED 0).put Reg.MEM_STATUS_ATTEMPTS 0).put Reg.MEM_STATUS_FAIL_CH 0 else s
    ⟨s.change role 0x7FFE op noOffset d 1, some Status.ok, 0⟩

/-! ## The Field die's reset (R450 to R452) -/

/-- Whether an offset is of a Field register that a Field die reset returns to its reset value (R452, R453). MEM_CFG shows the board record as the
package reset took it up (R464, R466). -/
def isField (a : Nat) : Bool :=
  (0x40000 ≤ a ∧ a < 0x50400) ∨ (0x51400 ≤ a ∧ a < 0x60000) ∨ (0x100800 ≤ a ∧ a < 0x110000) ∨ (0x300000 ≤ a ∧ a ≠ 0x3C0000)

/-- Whether a stored field is of the configuration shadow: a Field field that software writes (R451). -/
def isShadowed (key : Nat) : Bool :=
  isField (key / 32) && (match wordAt (key / 32) with
    | some w => w.fields.any fun f => decide (f.key = key) && f.writable
    | none => false)

/-- The register words of an array that the shadow holds. -/
def RegT.shadowWords (r : RegT) : Nat :=
  (List.range r.count1).foldl (fun n i => (List.range r.count2).foldl (fun n j =>
    if isField (r.base + r.stride1 * i + r.stride2 * j) ∧ (r.fields i j).any Fld.writable then n + 1 else n) n) 0

/-- The register words the shadow holds (R451, R465). -/
def shadowWords : Nat := regTable.foldl (fun n r => n + r.shadowWords) 0

/-- The deadlines of Field units. -/
def Tm.ofField : Tm → Bool
  | .align _ | .esmcQuiet _ | .esmcInfo _ | .tbQuiet _ => true
  | _ => false

/-- FIELD_RESET's effect: the host sees a host reset, the Field domains go off, every Field register and Field unit returns to reset, and the
shadow keeps the configuration and the key slots (R386, R450 to R452). -/
def State.fieldReset (s : State) : State :=
  let s := s.hostReset 3
  let s := [10, 9, 12, 11, 13, 8].foldl (fun s d => s.domainOff d) s
  let s := { s with shadow := s.regs.filter (fun x => isShadowed x.1), shadowKeys := s.keys
                    regs := s.regs.filter fun x => ! isField (x.1 / 32) }
  let field := fun (m : AMap Nat Nat) (q : Nat → Bool) => m.filter fun x => ! q x.1
  let s := { s with
    pmc := { s.pmc with cnt := field s.pmc.cnt fun i => decide (32 ≤ i), snap := field s.pmc.snap fun i => decide (32 ≤ i),
                        sat := field s.pmc.sat fun r => decide (4 ≤ r), elSnap := field s.pmc.elSnap fun r => decide (4 ≤ r),
                        base := (field s.pmc.base fun r => decide (4 ≤ r)) ++ ([4, 5, 6, 7].map fun r => (r, s.linear)) }
    keys := [], clt := {}, ports := [], insts := [], heldGrants := [], evtq := ⟨[], 0⟩, dumpq := []
    timers := s.timers.filter fun t => ! t.1.ofField
    hif := { s.hif with latches := [], staged := [] } }
  let s := (s.put Reg.HIF_STATUS_STATE 0).bumpSat Reg.PWR_RESET_CAUSE_FIELD_RESETS
  s.setVar .fieldReset 1

/-- FIELD_RESTORED: the Field domains are powered again and the DRAM's training is over; the shadow is restored, the host interface accepts
accesses again, and the twin passes to RESYNC (R363, R451). -/
def execFieldRestored (ms : Nat) (s : State) : Host.Outcome State Fault Refusal :=
  .next (
    if s.var .fieldReset = 0 ∨ s.packageBad ∨ ¬ ([8, 9, 10, 11, 12, 13].all fun d => s.powered d || decide (s.var (.offCmd d) = 1))
        ∨ (s.get Reg.MEM_STATUS_TRAINED = 0 ∧ s.powered 12) then s
    else
      let s := { s with regs := s.shadow.foldl (fun (m : AMap Nat Nat) (x : Nat × Nat) => aput m x.1 x.2) s.regs, keys := s.shadowKeys }
      let s := (s.put Reg.FAB_STATUS_DCB_TRAINED 1).put Reg.HIF_STATUS_STATE (if s.get Reg.HIF_STATUS_CONFIG_LOCK = 1 then 2 else 1)
      let s := (s.setVar .fieldReset 0).raise evFieldRestored [i4 shadowWords, i2 s.keys.length, i2 ms]
      if s.get Reg.TWN_STATUS_ROLE = 3 then (((s.put Reg.TWN_STATUS_SYNCED 0).setRole 4).askBulk false).serveUpdate else s.serveUpdate)

end Sys2Proof.Machine
end

