-- ==== Sys2Proof/Machine/Maker.lean ====
section
/-! DEFINITION. Maker work (R461 to R464): self-test, maker calibration, fuses, trims, the Field die's reset by command, firmware; and the
changes of role that meet it: handover, promotion, SEIZE. -/

namespace Sys2Proof.Machine

def opPwrDomainSet (action : Nat) : OpInfo := { op := 0x1101, role := if action = 2 then 3 else 2 }
def opBistRun : OpInfo := { op := 0x1102, role := 3 }
def opFwUpdate : OpInfo := { op := 0x1103, role := 3, boot := true }
def opFuseWrite : OpInfo := { op := 0x1104, role := 3 }
def opTrimSet : OpInfo := { op := 0x1105, role := 3 }
def opTimCalibrate : OpInfo := { op := 0x0506, role := 3 }

/-! ## Acceptance by role (R461) -/

/-- Whether self-test, a maker calibration or a Field die reset is in hand. -/
def State.makerBusy (s : State) : Bool := decide (s.var .bistSet ≠ 0 ∨ s.var .calRun ≠ 0 ∨ s.var .fieldReset ≠ 0)

/-- Maker work accepted by the twin's role: a STANDBY runs it; an ACTIVE twin with a fit partner hands over first, two laps ahead, and the
command waits with its operands; a YIELD that waits gives way (R461). -/
def State.makerEff (s : State) (c : Ctx) (o : OpInfo) (args : List Nat) (role : Nat) (run : Nat → State → Res) : Res :=
  let r := s.get Reg.TWN_STATUS_ROLE
  let fit : Bool := match s.twin.baton with
    | some b => b.fit
    | none => false
  if r = 3 then run role s
  else if r = 2 ∧ fit then
    let s := if s.get Reg.TWN_STATUS_HANDOVER_PENDING = 1
      then s.completeRunning 0x0D02 [s.get Reg.TWN_HANDOVER_LAP] Status.interrupted 0 else s
    ⟨(s.planHandover 2).hold c o role (makerMark :: args), none, 0⟩
  else if r = 2 ∨ r = 0 then ⟨s, some Status.refusedActive, 0⟩
  else ⟨s, some Status.notFit, 0⟩

/-! ## Self-test (R462, R463) -/

/-- What a self-test in flight waits on begins with this mark, its sets and its failures follow. -/
def bistMark : Nat := 0x42
@[inherit_doc bistMark] def calMark : Nat := 0x43

/-- Typical duration of a set in ns (R462). -/
def bistNs (set : Nat) : Nat := [120000000, 350000000, 1200000000, 200000000, 4000000000, 80000000].getD set 0

/-- What a set takes from this twin while it runs (R462): the client cache, heats, port links, the GNSS lane. -/
def State.bistTakes (s : State) (set : Nat) : State :=
  if set = 0 then (s.clt.cache.map (·.1)).foldl (fun s n => s.cacheOut n) s
  else if set = 2 then (List.range 24).foldl (fun s k => s.stopHeat k 5 0xFF) s
  else if set = 3 then
    ((List.range 4).foldl (fun s p =>
      if s.get (Reg.PORT_STATUS_LINK p) = 2 then (s.setLink p 1).linkGone p else s.linkDown p false false) s).serveUpdate
  else if set = 5 then (allChans.foldl (fun s n => s.releaseCh n) s).solnLost []
  else s

/-- A set begun. -/
def State.bistBegin (s : State) (set : Nat) : State :=
  let s := (s.setVar .bistSet (set + 1 : Nat)).setVar .bistLeft (clrBit (s.var .bistLeft).toNat set : Nat)
  (((s.put Reg.BIST_STATUS_SET set).put Reg.PWR_STATUS_BIST_RUNNING 1).arm .bist (bistNs set)).bistTakes set

/-- The lowest set of a mask. -/
def lowestSet (m : Nat) : Option Nat := (List.range 6).find? fun k => bit m k

/-- BIST_RUN's start: its sets in bit order; `fails` names the units each set will find failing (R462). -/
def bistRun (c : Ctx) (sets : Nat) (fails : List Nat) (role : Nat) (s : State) : Res :=
  if s.makerBusy then ⟨s, some Status.notFit, 0⟩
  else
    let s := (s.change role 0x7FFE 0x1102 noOffset sets 0).hold c opBistRun role (bistMark :: fails)
    let s := (((s.put Reg.BIST_STATUS_PASSED 0).put Reg.BIST_STATUS_FAILED 0).setVar .bistFirst 0).setVar .bistLeft sets
    ⟨s.bistBegin ((lowestSet sets).getD 0), none, 0⟩

/-- The command of a self-test or calibration in hand. -/
def State.makerCmd (s : State) (mark : Nat) : Option InFlight :=
  s.hif.inflight.find? fun e => e.started && e.withheld.isNone && decide (e.arg.head? = some mark)

/-- The units that a set finds failing, from pairs of a set and a HID one after the other. -/
def bistFails (set : Nat) : List Nat → List Nat
  | x :: h :: r => if x = set then h :: bistFails set r else bistFails set r
  | _ => []

/-- A self-test ended, with its outcome in 0x0A18 and in DATA (R462, R465). -/
def State.bistEnd (s : State) (status : Nat) (byAbort : Bool) : State :=
  let p := s.get Reg.BIST_STATUS_PASSED
  let f := s.get Reg.BIST_STATUS_FAILED
  let first := (s.var .bistFirst).toNat
  let s := ((((s.setVar .bistSet 0).setVar .bistLeft 0).setVar .bistAbort 0).stopTimer .bist).put Reg.BIST_STATUS_SET 0
  let s := (s.put Reg.PWR_STATUS_BIST_RUNNING 0).raise (evPwr 7 .info) [i1 p, i1 f, i2 first]
  match s.makerCmd bistMark with
  | some e => s.complete e.ctx status (if status = Status.interrupted then 0 else p + 2 ^ 8 * f + 2 ^ 16 * first) byAbort
  | none => s

/-- A set's end: its failing units are fenced with cause 2, the set has passed or failed, and the next one begins or the test ends (R462). -/
def State.bistNext (s : State) : State :=
  let set := (s.var .bistSet - 1).toNat
  let bad := match s.makerCmd bistMark with
    | some e => bistFails set e.arg.tail
    | none => []
  let s := if set = 2 ∧ bad = [] then s.calibrateAll else s
  let s := bad.foldl (fun s h => s.unitFault h 2) s
  let s := if bad = [] then s.put Reg.BIST_STATUS_PASSED (setBit (s.get Reg.BIST_STATUS_PASSED) set)
    else s.put Reg.BIST_STATUS_FAILED (setBit (s.get Reg.BIST_STATUS_FAILED) set)
  let s := if s.var .bistFirst = 0 then s.setVar .bistFirst (bad.headD 0 : Nat) else s
  if s.var .bistAbort = 1 then s.bistEnd Status.aborted true
  else match lowestSet (s.var .bistLeft).toNat with
    | some k => s.bistBegin k
    | none => s.bistEnd Status.ok false

/-- A maker calibration in hand ended: completed, and where it was not stopped every table is rebuilt (R157, R384). -/
def State.calEnd (s : State) (status : Nat) (byAbort : Bool) : State :=
  let s := (s.setVar .calRun 0).stopTimer .bist
  let s := if status = Status.ok then s.calibrateAll else s
  match s.makerCmd calMark with
  | some e => s.complete e.ctx status 0 byAbort
  | none => s

/-- The work in hand whose time has come, at a lap boundary. -/
def State.makerLap (s : State) : State :=
  if ¬ s.due .bist then s else if s.var .bistSet ≠ 0 then s.bistNext else if s.var .calRun = 1 then s.calEnd Status.ok false else s

/-- Maker work ended at once with INTERRUPTED, because this twin must take over; its units are taken as restored at once (R463). -/
def State.makerInterrupt (s : State) : State :=
  if s.var .bistSet ≠ 0 then s.bistEnd Status.interrupted false
  else if s.var .calRun = 1 then s.calEnd Status.interrupted false else s

/-- BIST_RUN (R462, R464). -/
def execBistRun (c : Ctx) (sets : Nat) (fails : List (Nat × Nat)) (s : State) : Host.Outcome State Fault Refusal :=
  let fl := fails.flatMap fun x => [x.1, x.2]
  .next (s.runCmd c opBistRun [] fun role s =>
    if sets = 0 ∨ 63 < sets then ⟨s, some Status.range, 0⟩ else s.makerEff c opBistRun (sets :: fl) role (bistRun c sets fl))

/-- TIM_CALIBRATE's start: heats end PREEMPTED; it runs as long as set 2 of a self-test (R157, R462). -/
def calRun (c : Ctx) (role : Nat) (s : State) : Res :=
  if s.makerBusy then ⟨s, some Status.notFit, 0⟩
  else
    let s := (s.change role 0x03FF 0x0506 noOffset 0 0).hold c opTimCalibrate role [calMark]
    ⟨((s.setVar .calRun 1).arm .bist (bistNs 2)).bistTakes 2, none, 0⟩

/-- TIM_CALIBRATE (R157, R159, R461). -/
def execTimCalibrate (c : Ctx) (s : State) : Host.Outcome State Fault Refusal :=
  .next (s.runCmd c opTimCalibrate [] fun role s => s.makerEff c opTimCalibrate [] role (calRun c))

/-! ## Fuses, trims, firmware (R458, R464) -/

/-- A value that leaves every bit fused already set, in a field of some bits. -/
def keepsFuses (old value width : Nat) : Bool := value < 2 ^ width ∧ old &&& value = old

/-- Whether FUSE_WRITE takes a value for a field. -/
def State.fuseOk (s : State) (field value : Nat) : Bool :=
  if field = 0 then keepsFuses (s.get Reg.FW_SVN_SVN) value 16
  else field = 1 ∧ keepsFuses (s.get Reg.FW_SVN_REVOKED) value 4

/-- FUSE_WRITE's effect: the fuses raised. -/
def fuseRun (field value role : Nat) (s : State) : Res :=
  let old := if field = 0 then s.get Reg.FW_SVN_SVN else s.get Reg.FW_SVN_REVOKED
  let s := if field = 0 then { s.put Reg.FW_SVN_SVN value with boot := { s.boot with fwSvn := some value } }
    else { s.put Reg.FW_SVN_REVOKED value with boot := { s.boot with revoked := some value } }
  ⟨s.change role 0x7FFE 0x1104 0x10034 old value, some Status.ok, 0⟩

/-- FUSE_WRITE (R461, R464). -/
def execFuseWrite (c : Ctx) (field value : Nat) (s : State) : Host.Outcome State Fault Refusal :=
  .next (s.runCmd c opFuseWrite [] fun role s =>
    if ¬ s.fuseOk field value then ⟨s, some Status.range, 0⟩ else s.makerEff c opFuseWrite [field, value] role (fuseRun field value))

/-- The fields of the board record that a trim names, with their values: RTC_CLASS, LOAD, MEM_CFG (R464). -/
def trimFields (trim value : Nat) : List (Fld × Nat) :=
  if trim = 0 then [(Reg.RTC_CFG_RTC_CLASS, value)]
  else if trim = 1 then [(Reg.RTC_CFG_LOAD, value)]
  else [(Reg.MEM_CFG_SIZE, value % 4), (Reg.MEM_CFG_RATE, value / 16 % 4)]

/-- Whether TRIM_SET takes a value for a trim: it fits the fields it names. -/
def trimOk (trim value : Nat) : Bool :=
  (trim = 0 ∧ value < 4) ∨ (trim = 1 ∧ value < 16) ∨ (trim = 2 ∧ value < 64 ∧ value / 4 % 4 = 0)

/-- TRIM_SET's effect: the board record written; trim 1 applies at once (R464). -/
def trimRun (trim value role : Nat) (s : State) : Res :=
  let fs := trimFields trim value
  let s := { s with boot := { s.boot with trims := fs.foldl (fun (m : AMap Nat Nat) (x : Fld × Nat) => aput m x.1.key x.2) s.boot.trims } }
  let s := if trim = 1 then s.put Reg.RTC_CFG_LOAD value else s
  ⟨s.change role 0x7FFE 0x1105 noOffset trim value, some Status.ok, 0⟩

/-- TRIM_SET (R461, R464). -/
def execTrimSet (c : Ctx) (trim value : Nat) (s : State) : Host.Outcome State Fault Refusal :=
  .next (s.runCmd c opTrimSet [] fun role s =>
    if ¬ trimOk trim value then ⟨s, some Status.range, 0⟩ else s.makerEff c opTrimSet [trim, value] role (trimRun trim value))

/-- A board record written whole: its layout is not in the spec, so that what it says of the four fields is free (log entry 2). -/
def State.recordWritten (s : State) (len : Nat) : State :=
  let s := { s with boot := { s.boot with record := len } }
  [Reg.RTC_CFG_RTC_CLASS, Reg.RTC_CFG_LOAD, Reg.MEM_CFG_SIZE, Reg.MEM_CFG_RATE].foldl (fun s f =>
    let (v, s) := s.takeFree
    { s with boot := { s.boot with trims := aput s.boot.trims f.key (v % 2 ^ f.width) } }) s

/-- FW_UPDATE's effect in any role: the slot not running is written and, once its image verifies, preferred; `verify` is 0, or the cause for
which the image does not (R458, R461, R464). Nothing runs from a slot in RECOVERY. -/
def fwUpdateEff (dmaOk : Bool) (target len verify role : Nat) (s : State) : Res :=
  if 2 < target then ⟨s, some Status.range, 0⟩
  else if target < 2 ∧ target = s.get Reg.PWR_STATUS_FW_SLOT ∧ s.phase ≠ 8 then ⟨s, some Status.busy, 0⟩
  else if 4194304 < len then ⟨s, some Status.range, 3⟩
  else if ¬ dmaOk then ⟨s, some Status.dmaError, 0⟩
  else if target = 2 then ⟨(s.recordWritten len).change role 0x7FFE 0x1103 noOffset target len, some Status.ok, 0⟩
  else if verify ≠ 0 then ⟨s, some Status.range, verify⟩
  else
    let s := { s with boot := { s.boot with preferred := target } }
    ⟨s.change role 0x7FFE 0x1103 noOffset target len, some Status.ok, 0⟩

/-- FW_UPDATE (R464). -/
def execFwUpdate (c : Ctx) (target addr len verify : Nat) (s : State) : Host.Outcome State Fault Refusal :=
  .next (s.runCmd c opFwUpdate [addr] (fwUpdateEff c.dmaOk target len verify))

/-! ## PWR_DOMAIN_SET (R448, R450) -/

/-- FIELD_RESET's effect. -/
def fieldResetRun (role : Nat) (s : State) : Res :=
  if s.makerBusy then ⟨s, some Status.notFit, 0⟩
  else ⟨(s.change role 0x7FFE 0x1101 noOffset 8 2).fieldReset, some Status.ok, 0⟩

/-- PWR_DOMAIN_SET's effect: OFF 0, ON 1, FIELD_RESET 2. -/
def pwrDomainSetEff (c : Ctx) (d action role : Nat) (s : State) : Res :=
  if 13 < d ∨ 2 < action ∨ (action = 2 ∧ d ≠ 8) then ⟨s, some Status.range, 0⟩
  else if action = 0 then domainOffEff 0x1101 d role s
  else if action = 1 then domainOnEff 0x1101 d role s
  else s.makerEff c (opPwrDomainSet 2) [] role fieldResetRun

/-- PWR_DOMAIN_SET (R448, R464). -/
def execPwrDomainSet (c : Ctx) (d action : Nat) (s : State) : Host.Outcome State Fault Refusal :=
  .next (s.runCmd c (opPwrDomainSet action) [] (pwrDomainSetEff c d action))

/-- FIELD_RESET: PWR_DOMAIN_SET that names FAB with the action FIELD_RESET (R450). -/
def execFieldReset (c : Ctx) (s : State) : Host.Outcome State Fault Refusal :=
  .next (s.runCmd c (opPwrDomainSet 2) [] (pwrDomainSetEff c 8 2))

/-! ## Changes of role (R348, R350, R352, R461, R463) -/

/-- Maker work that waited for a handover and now runs on this twin, with its operands and the role it came with. -/
def State.runWaiting (s : State) (e : InFlight) : State :=
  let n := fun k => e.arg.getD (k + 1) 0
  let r : Res :=
    if e.op = 0x1102 then bistRun e.ctx (n 0) (e.arg.drop 2) e.role s
    else if e.op = 0x0506 then calRun e.ctx e.role s
    else if e.op = 0x1104 then fuseRun (n 0) (n 1) e.role s
    else if e.op = 0x1105 then trimRun (n 0) (n 1) e.role s
    else fieldResetRun e.role s
  match r.st with
  | none => r.s
  | some st => r.s.complete e.ctx st r.data

/-- HANDOVER: at the lap boundary that HANDOVER_LAP names, the active becomes STANDBY with SYNCED set, YIELD completes with OK, and maker
work that waited runs; the standby promotes, unless FENCE_FAULT is set (R348, R352, R461). -/
def execHandover (s : State) : Host.Outcome State Fault Refusal :=
  let lap := s.ns / lapNs % 2 ^ 32
  .next (
    if ¬ s.crosses lapNs then s
    else if s.get Reg.TWN_STATUS_ROLE = 2 ∧ s.get Reg.TWN_STATUS_HANDOVER_PENDING = 1 ∧ s.get Reg.TWN_HANDOVER_LAP = lap then
      let s := (s.put Reg.TWN_STATUS_HANDOVER_PENDING 0).put Reg.TWN_HANDOVER_LAP 0
      let s := (s.demote 3).put Reg.TWN_STATUS_SYNCED 1
      let s := (s.raise evHandoverDone [i4 lap]).completeRunning 0x0D02 [lap] Status.ok 0
      (s.hif.inflight.filter InFlight.waitsHandover).foldl (fun s e => s.runWaiting e) s
    else
      match s.twin.baton with
      | some b => if s.get Reg.TWN_STATUS_ROLE = 3 ∧ b.handover = lap ∧ lap ≠ 0 ∧ s.get Reg.TWN_STATUS_FENCE_FAULT = 0
          then s.makerInterrupt.applyInbox.promote.raise evHandoverDone [i4 lap] else s
      | none => s)

/-- PROMOTION: a STANDBY twin with PROMOTE_EN promotes when the lease has expired, the fence has read RELEASED for 1 ms and FENCE_FAULT
is clear; maker work ends first, and a Field die reset in hand is waited for (R348, R463). -/
def execPromotion (s : State) : Host.Outcome State Fault Refusal :=
  .next (
    if s.get Reg.TWN_STATUS_ROLE = 3 ∧ s.get Reg.TWN_CTRL_PROMOTE_EN = 1 ∧ s.get Reg.TWN_STATUS_LEASE_LEFT = 0
      ∧ s.longReleased ∧ s.get Reg.TWN_STATUS_FENCE_FAULT = 0 ∧ s.var .fieldReset = 0
    then s.makerInterrupt.applyInbox.promote else s)

def opSeize : OpInfo := { op := 0x0D01, role := 1 }

/-- SEIZE's effect: promotion at acceptance, SEIZE_HOLD for 8 ms, a SEIZE frame when the link is UP; a RESYNC or STARTING twin promotes
stale; maker work ends first (R346, R350, R355, R463). -/
def seizeEff (role : Nat) (s : State) : Res :=
  let r := s.get Reg.TWN_STATUS_ROLE
  if r = 2 ∨ r = 0 ∨ r = 5 then ⟨s, some Status.notFit, 0⟩ else
  let s := s.makerInterrupt.applyInbox.promote
  let s := if r ≠ 3 then s.put Reg.TWN_STICKY_STICKY (setBit (s.get Reg.TWN_STICKY_STICKY) 6) else s
  let s := (s.put Reg.TWN_STATUS_SEIZE_HOLD 1).arm .seizeHold 8000000
  let s := if s.get Reg.TWN_STATUS_LINK_UP = 1 then { s with out := .seizeFrame :: s.out } else s
  ⟨s.change role 0xFFFE 0x0D01 noOffset 0 0, some Status.ok, 0⟩

/-- SEIZE (R350). -/
def execSeize (c : Ctx) (s : State) : Host.Outcome State Fault Refusal := .next (s.runCmd c opSeize [] seizeEff)

end Sys2Proof.Machine
end

