-- ==== Sys2Proof/Machine/Regs.lean ====
section
/-! DEFINITION. Register accesses (R13 to R20, R360 to R364, R440, R441, R470 to R473): the judgement of a write, what each word's write
does, and a read with its latches and its clear on read. -/

namespace Sys2Proof.Machine

/-! ## Who writes, and with what right -/

/-- The HID of an initiator class on the fabric (R389, R394). -/
def iniOf : Ini → Nat
  | .host => 0xB000 | .coach => 0x0600 | .dump => 0xB400

/-- The role of the register window: that of the register session, 0 with none (R360, R438). -/
def State.regRole (s : State) : Nat := ((s.roles.regSession.bind (aget s.roles.sessions ·)).map (·.role)).getD 0

/-- A register write made under the register session restarts its idle count (R438). -/
def State.touchReg (s : State) : State :=
  match s.roles.regSession with
  | some n =>
    match aget s.roles.sessions n with
    | some x => { s with roles := { s.roles with sessions := aput s.roles.sessions n { x with lastAt := s.runNs } } }
    | none => s
  | none => s

/-- Whether software writes a field: RW, W1C or WO (R13). -/
def Fld.acts (f : Fld) : Bool := f.acc = .rw ∨ f.acc = .w1c ∨ f.acc = .wo

/-- Whether a role has the right to a field's write effect (R14, R428). -/
def Fld.allows (f : Fld) (role : Nat) : Bool :=
  match f.role with
  | some r => hasRight role (Role.code r)
  | none => true

/-- Whether a word's write needs a role (R440). -/
def Word.needsRole (w : Word) : Bool := w.fields.any fun f => f.acts && f.role.isSome

/-- A register write counted by its region's counters, as taking effect or refused (R415, R416). -/
def State.countWrite (s : State) (a role : Nat) (ini : Ini) (took : Bool) : State :=
  let h := hidOfAddr a
  if h = 0x7FFE then s
  else if took then s.pmcEvent (regionOfHid h) 0x07 { role := some role, hid := some (iniOf ini), addr := some a }
  else s.pmcEvent (regionOfHid h) 0x08 { role := some role }

/-- A write refused for a cause: 0x0731, counted (R441). -/
def State.refuseWrite (s : State) (a v role : Nat) (ini : Ini) (cause : Nat) : State :=
  (s.writeRefused role (hidOfAddr a) a v cause).countWrite a role ini false

/-! ## What a word's write does -/

/-- LOCK_SET: 1 written in READY sets CONFIG_LOCK, and the interface is RUNNING (R362, R363). -/
def State.lockSet (s : State) : State :=
  if s.get Reg.HIF_STATUS_STATE = 1 then
    ({ (s.put Reg.HIF_STATUS_STATE 2).put Reg.HIF_STATUS_CONFIG_LOCK 1 with hif := { s.hif with stDirty := true } }).raise evConfigLocked [i1 s.regRole] s.regRole
  else s

/-- The region whose PMC_CLEAR stands at an address (R426). -/
def pmcClearOf (a : Nat) : Option Nat :=
  if 0x5040C ≤ a ∧ a < 0x5240C ∧ (a - 0x5040C) % 0x400 = 0 then some ((a - 0x5040C) / 0x400) else none

/-- The ring whose RING_CTRL stands at an address (R388). -/
def ringCtrlOf (a : Nat) : Option Nat :=
  if 0x20110 ≤ a ∧ a < 0x20900 ∧ (a - 0x20110) % 0x20 = 0 then some ((a - 0x20110) / 0x20) else none

/-- Whether a write at an address meets a unit in a state that takes what the word would come to hold: outputs and TOD units as OUT_SET refuses (R193, R204), PORT_CFG
while the port is DISABLED (R306), NUM and DEN of SYN_C and SYN_D never (R182). A WIDTH or OFFSET out of its range is written as the nearer end (R203). -/
def State.unitTakes (s : State) (a v : Nat) : Bool :=
  if 0x140000 ≤ a ∧ a < 0x150000 then (s.outRefusal false a v).isNone
  else if 0x300000 ≤ a ∧ a < 0x310000 ∧ (a - 0x300000) % 0x4000 = 0 then decide ((s.unit (0x8000 + (a - 0x300000) / 0x4000)).st = .disabled)
  else ! (decide ((0x130304 ≤ a ∧ a < 0x130310) ∨ (0x130404 ≤ a ∧ a < 0x130410)))

/-- The effect of a write that nothing refuses, on the fields an `ok` admits. -/
def State.wordWritten (s : State) (cls a : Nat) (w : Word) (ok : Fld → Bool) (v : Nat) : State :=
  if a = 0x2000C then (if bit v 0 then s.lockSet else s)
  else if a = 0x20024 then s.setVar .kicked 1
  else if a = 0x70010 then (if bit v 0 then { s with pf := { s.pf with held := false } } else s)
  else if 0x40000 ≤ a ∧ isRqCtrl (a - 0x40000) then (if bit v 0 then s.flush ((a - 0x40100) / 0x20) else s)
  else match pmcClearOf a, ringCtrlOf a with
  | some r, _ => s.pmcClear r (v % 512)
  | none, some n => if bit v 0 then s.ringEnable n else s.ringDisable n
  | none, none =>
    if ¬ s.unitTakes a ((s.putWord ok v w.fields).rawWord w.fields) ∨ ¬ s.synTakes (s.writeWord cls a w ok v) a then s
    else
      let was := s.get Reg.TWN_CTRL_TWIN_EN
      let s := s.hooked a fun s => s.writeWord cls a w ok v
      if a = 0x20000C then s.twinEnWritten was
      else if a = 0x120024 then { s with tim := { s.tim with full := false } }
      else s

/-- A HI word that a write of the LO word at an address applies with it (R471). -/
def pairedHi (a : Nat) (w : Word) : Option Word :=
  match wordAt (a + 4) with
  | some hi => if w.latch ≠ [] ∧ hi.staged then some hi else none
  | none => none

/-- The change records of a register write that needed a role: one for each word applied (R440). -/
def State.recordWrite (t s : State) (role a : Nat) (w : Word) : State :=
  if ¬ w.needsRole ∨ w.staged then s
  else
    let s := s.change role (hidOfAddr a) 0 a (t.rawWord w.fields) (s.rawWord w.fields)
    match pairedHi a w with
    | some hi => s.change role (hidOfAddr a) 0 (a + 4) (t.rawWord hi.fields) (s.rawWord hi.fields)
    | none => s

/-- A write judged on CONFIG_LOCK, which leaves only live fields open while the interface is RUNNING (R17, R363), and made. -/
def State.lockedWrite (s : State) (a : WrAcc) (role v : Nat) (w : Word) : State :=
  let locked := decide (a.ini = .host ∧ s.get Reg.HIF_STATUS_STATE = 2)
  let shut := w.fields.filter fun f => f.acts && locked && ! f.live
  let some_ := w.fields.any fun f => f.acts && ! (locked && ! f.live)
  let t := s
  let s := if shut ≠ [] then s.refuseWrite a.addr v role a.ini 2 else s
  if ¬ some_ then s
  else
    let s := s.wordWritten (Ini.code a.ini) a.addr w (fun f => ! (locked && ! f.live)) v
    let s := if a.ini = .host then t.recordWrite s role a.addr w else s
    s.countWrite a.addr role a.ini true

/-- Whether a register is of a unit that is ABSENT (R472). -/
def State.wordAbsent (s : State) (a : Nat) : Bool :=
  match regUnit a with
  | some h => decide ((s.unit h).st = .absent)
  | none => false

/-- A register write access judged in the order of R472, R473 and R441. The Coach's writes need no role; the dump engine makes none. -/
def State.regWrite (s : State) (a : WrAcc) : State :=
  let v := a.value % 2 ^ 32
  if a.ini = .dump ∨ (a.ini = .host ∧ s.get Reg.HIF_STATUS_STATE = 0) then s
  else if ¬ a.full then s.defaultHit (iniOf a.ini) a.addr true true
  else
    match wordAt a.addr with
    | none => s.defaultHit (iniOf a.ini) a.addr true true
    | some w =>
      if s.wordAbsent a.addr then s
      else
        let role := if a.ini = .host then s.regRole else 3
        let s := if a.ini = .host then s.touchReg else s
        if a.poison then s.refuseWrite a.addr v role a.ini 3
        else if w.fields.all fun f => ! f.acts then s
        else if a.ini = .host ∧ w.fields.any fun f => f.acts && ! f.allows role then s.refuseWrite a.addr v role a.ini 1
        else s.lockedWrite a role v w

/-! ## Reads (R13, R19, R470, R472) -/

/-- The words a read of a LO word latches for its class (R470). -/
def State.latchWords (s : State) (cls a : Nat) : List Nat → State
  | [] => s
  | o :: os =>
    let v := s.peek (a + o)
    { s with hif := { s.hif with latches := aput s.hif.latches (latchKey cls (a + o)) v } }.latchWords cls a os

/-- A word's clear-on-read fields cleared (R13). -/
def State.clearFields (s : State) : List Fld → State
  | [] => s
  | f :: fs => (if f.acc = .rc then s.put f 0 else s).clearFields fs

/-- A word cleared whole, as the HI word of a pair whose LO word clears on read (R326). -/
def State.clearWhole (s : State) (fs : List Fld) : State := fs.foldl (fun s f => s.put f 0) s

/-- A read's clearing: of the word, and of the further words of its quantity that it latched, whole where the word itself clears on read; the dump engine
clears nothing (R13, R326, R418). -/
def State.clearRead (s : State) (cls a : Nat) (w : Word) : State :=
  if cls = 2 then s
  else
    let s := s.clearFields w.fields
    let s := if a = Reg.LOG_WRAPS_COUNT.addr then { s with log := { s.log with wraps := 0 } } else s
    w.latch.foldl (fun s o => match wordAt (a + o) with
      | some x => if w.fields.any fun f => f.acc = .rc then s.clearWhole x.fields else s.clearFields x.fields
      | none => s) s

/-- What a read returns. -/
def State.returns (s : State) (v : Nat) : State := { s with hif := { s.hif with rdata := v } }

/-- A word that comes to the dump engine poisoned: the next dump holds it so (R399; DEDUCED, log entry 206). -/
def State.dumpTold (s : State) (ini : Ini) (a : Nat) (poison : Bool) : State :=
  if ini = .dump ∧ poison then { s with pmc := { s.pmc with bad := a :: s.pmc.bad.erase a } } else s

/-- A register read access, with its side effects; a poisoned word reads 0xFFFFFFFF (R399, R470 to R473). -/
def State.regRead (s : State) (ini : Ini) (a : Nat) (poison : Bool) : State :=
  if ini = .host ∧ s.get Reg.HIF_STATUS_STATE = 0 ∧ ¬ (a < 0x10000 ∨ a = 0x20000) then s.returns 0
  else
    match wordAt a with
    | none => s.defaultHit (iniOf ini) a false true
    | some w =>
      if s.wordAbsent a then s.returns (s.peek a)
      else
        let v := if w.latched then (aget s.hif.latches (latchKey (Ini.code ini) a)).getD 0 else s.peek a
        let s := if w.latched then s else ((s.latchWords (Ini.code ini) a w.latch).clearRead (Ini.code ini) a w)
        (s.dumpTold ini a poison).returns (if poison then 2 ^ 32 - 1 else v)

/-! ## The rows -/

/-- REGISTER_WRITE (R13 to R17). -/
def execRegisterWrite (a : WrAcc) (s : State) : Host.Outcome State Fault Refusal := .next (s.regWrite a)

/-- W1C_WRITE: a sticky word (R13, R18). -/
def execW1cWrite (a : WrAcc) (s : State) : Host.Outcome State Fault Refusal := .next (s.regWrite a)

/-- HI_WRITE: the HI word of a writable pair, which is staged (R471). -/
def execHiWrite (a : WrAcc) (s : State) : Host.Outcome State Fault Refusal := .next (s.regWrite a)

/-- LO_WRITE: the LO word, which applies itself and the staged HI (R471). -/
def execLoWrite (a : WrAcc) (s : State) : Host.Outcome State Fault Refusal := .next (s.regWrite a)

/-- LO_READ: a read of a word, which latches for its class the words its LO reading names (R470). -/
def execLoRead (ini : Ini) (addr : Nat) (poison : Bool) (s : State) : Host.Outcome State Fault Refusal := .next (s.regRead ini addr poison)

/-- RC_READ: a read that clears (R13, R19). -/
def execRcRead (ini : Ini) (addr : Nat) (poison : Bool) (s : State) : Host.Outcome State Fault Refusal := .next (s.regRead ini addr poison)

/-- LINEAR_LO_READ: never served from a latch (R56). -/
def execLinearLoRead (ini : Ini) (poison : Bool) (s : State) : Host.Outcome State Fault Refusal :=
  .next (s.regRead ini Reg.LINEAR_LO_LIN_LO.addr poison)

/-- LOCK_SET: a write of HIF_LOCK (R362). -/
def execLockSet (a : WrAcc) (s : State) : Host.Outcome State Fault Refusal := .next (s.regWrite { a with addr := 0x2000C })

/-- HIF_KICK: a write of HIF_KICK; the poll it asks for is the next DOORBELL_POLL (R366). -/
def execHifKick (a : WrAcc) (s : State) : Host.Outcome State Fault Refusal := .next (s.regWrite { a with addr := 0x20024 })

/-- RING_ENABLE: ENABLE of a ring written 1 (R372). -/
def execRingEnable (n : Nat) (a : WrAcc) (s : State) : Host.Outcome State Fault Refusal :=
  .next (if n < 64 then s.regWrite { a with addr := 0x20110 + 0x20 * n, value := 1 } else s)

/-- RING_DISABLE: ENABLE of a ring written 0 (R372). -/
def execRingDisable (n : Nat) (a : WrAcc) (s : State) : Host.Outcome State Fault Refusal :=
  .next (if n < 64 then s.regWrite { a with addr := 0x20110 + 0x20 * n, value := 0 } else s)

/-- PF_RELEASE: a write of PF_RELEASE (R410). -/
def execPfRelease (a : WrAcc) (s : State) : Host.Outcome State Fault Refusal := .next (s.regWrite { a with addr := 0x70010 })

/-- PMC_CLEAR: a write of a region's PMC_CLEAR (R414). -/
def execPmcClear (r : Nat) (a : WrAcc) (s : State) : Host.Outcome State Fault Refusal :=
  .next (if r < 8 then s.regWrite { a with addr := 0x5040C + 0x400 * r } else s)

/-- FLUSH: a write of a queue's RQ_CTRL (R402). -/
def execFlush (q : Nat) (a : WrAcc) (s : State) : Host.Outcome State Fault Refusal :=
  .next (if q < 6 then s.regWrite { a with addr := 0x40104 + 0x20 * q } else s)

end Sys2Proof.Machine
end

