-- ==== Sys2Proof/Machine/Lap.lean ====
section
/-! DEFINITION. The lap boundary, whole (R87, R335 to R337, R342), the Time Core's step (R63), and the edge of TCLK that passes when no
command waits (log entry 1). -/

namespace Sys2Proof.Machine

/-! ## The two-way measurement of a lap (R335 to R337) -/

/-- The PARTNER lanes measured from the two-way offset of the boundary before this one (R85, R338). -/
def State.partnerMeasured (s : State) : State :=
  let teb := match s.twin.baton with
    | some b => b.teb
    | none => 0
  s.sourceMeasured 0x14 (s.getI64 Reg.TWN_TT_OFFSET_LO_OFS_LO Reg.TWN_TT_OFFSET_HI_OFS_HI) (teb + s.get Reg.TWN_RL_U_U) s.twin.mark

/-- The measurement of the boundary before this one, passed to the selector where it is usable; the eighth boundary running without one
is a loss of signal (R337, R338). On a twin that serves the lane is measured whatever role the partner reports, but that brings it no signal
where R337 has it LOST (R83, R84; DESIGN CHOICE, log entry 149). -/
def State.passPartner (s : State) : State :=
  if s.get Reg.TWN_STATUS_LINK_UP = 0 ∨ s.get Reg.TWN_CTRL_TWIN_EN = 0 then s
  else if s.var .lapBadC = 0 ∧ (s.var .markUsable = 1 ∨ (s.var .markUsable = 2 ∧ s.serves)) then
    let signal := decide (s.var .markUsable = 1)
    let was := s.lanes
    let s := (if s.serves then s else s.setVar .marksMissed 0).partnerMeasured
    if signal then s
    else allLanes.foldl (fun s n => s.setLane n { s.lane n with up := ((aget was n).getD {}).up }) s
  else if s.serves then s
  else
    let s := (s.bump Reg.MARKS_UNUSABLE_COUNT).setVar .marksMissed (s.var .marksMissed + 1)
    if 8 ≤ s.var .marksMissed then s.sourceLos 0x14 else s

/-- A marker's block: a 64b/66b ordered set of type 0x4B with O code 0xA, its payload LAP_NO modulo 2^24 (R335). Type, three payload bytes,
O code and idles stand from bit 0 on as IEEE 802.3 places them (PRESUMED, log entry 199). -/
def markerBlock (lap : Nat) : Nat := 0x4B + 2 ^ 8 * (lap % 2 ^ 24) + 2 ^ 32 * 0xA

/-- A marker launched on a pair that is UP, with its transmit stamp less the boundary in units of 2^-16 ns (R335). -/
def State.launchMarker (s : State) (n : Nat) (stamp : Int) : State :=
  if s.get (Reg.RL_PAIR_STATUS_STATE n) = 2 then
    { s with twin := { s.twin with markTx := aput s.twin.markTx n stamp },
             out := .relayMarker n (s.ns / lapNs % 2 ^ 24) (markerBlock (s.ns / lapNs)) :: s.out }.pmcEvent 3 0x12
  else s

/-- The markers of this boundary; those of the boundary before are done with, one of this boundary that came before it stays, and SYN_C is watched
anew (R335, R337). -/
def State.lapMarkers (s : State) (tx0 tx1 : Int) : State :=
  let s := { s with twin := { s.twin with
    markTx := [], markRx := s.twin.markRx.filter fun e => decide (e.1 / 2 = s.ns / lapNs % 2 ^ 24) } }
  let s := { s with twin := { s.twin with mark := { s.mark with at16 := s.ns / lapNs * lapNs * 65536 } } }
  let s := (s.setVar .markUsable 0).setVar .lapBadC (b2n (decide (s.synSt 2 ≠ 3)))
  (s.launchMarker 0 tx0).launchMarker 1 tx1

/-- Whether what an EVENT code counts in a region are transfers of the fabric or the DRAM, which no rule numbers: bursts and beats (R415). -/
def isBurst (r ev : Nat) : Bool := (1 ≤ ev ∧ ev ≤ 3) ∨ (r = 7 ∧ (ev = 0x10 ∨ ev = 0x11))

/-- The transfers of a lap added to the counters that count them, a free weight each (R390, R415; DESIGN CHOICE, log entry 203). -/
def State.lapBursts (s : State) : State :=
  (List.range 64).foldl (fun s i =>
    if isBurst (i / 8) (s.get (Reg.CNT_CFG_EVENT (i / 8) (i % 8))) then s.takeFree.2.pmcAdd (i / 8) (i % 8) s.takeFree.1 else s) s

/-- LAP_BOUNDARY, the crossing edge of a multiple of 15,625,000 ns: the records received are applied, the partner's measurement is passed
on, the TIM, the selector, the discipline, the bound, admission, the services and maker work follow, and the markers leave; `tx0` and
`tx1` are the transmit stamps less the boundary (R87, R295, R335, R342; log entry 40). -/
def execLapBoundary (tx0 tx1 : Int) (s : State) : Host.Outcome State Fault Refusal :=
  .next (
    if ¬ s.lapsRun ∨ ¬ s.atCrossing lapNs .lapEdge then s else
    let s := (s.doneAt .lapEdge).applyInbox.resynced.passPartner
    let s := (s.pmcEvent 0 0x13).lapBursts.setVar .lapNo (s.ns / lapNs : Nat)
    let s := (s.timLap.selectorLap).timUses
    let s := s.showFollowing
    let s := (s.lapAdmission s.reserved.1 s.reserved.2).serveUpdate
    (s.makerLap).lapMarkers tx0 tx1)

/-! ## The step (R63, R68) -/

/-- The compares at a step edge, evaluated on the new time; one whose members the step passes fires with STEPPED (R63, R68). -/
def State.stepCmps (s : State) (before : Nat) : State :=
  (List.range 16).foldl (fun s n =>
    if s.cmpReached n then s.fireCmp n (some before) else s) s

/-- A step of some whole nanoseconds, with the rest of the offset in units of 2^-52 ns (R63): the time moves, the slew in progress gives
way to the rest, the step is recorded, and what stands on the time scale takes it. -/
def State.stepTime (s : State) (whole rest : Int) : State :=
  let lin := s.linear
  let at16 := s.at16
  let s := if rest ≠ 0 ∧ s.tc.bSlew = 0 then s.setVar .bSlewAt s.runNs else s
  let s := if s.tc.bSlew ≠ 0 ∧ rest = 0 then s.noteRetired s.cur else s
  let s := s.put64 Reg.STEP_AT_LO_SA_LO Reg.STEP_AT_HI_SA_HI lin
  let s := s.putI64 Reg.STEP_SIZE_LO_SS_LO Reg.STEP_SIZE_HI_SS_HI whole
  let s := { s with tc := { s.tc with
    time := (((s.tc.time : Int) + whole * nsUnit) % timeMod).toNat
    slew := rest, bSlew := rest, plan := none } }
  let s := s.pfStep at16
  let s := ((s.setVar .stepSum (s.var .stepSum + whole * 65536)).setVar .warmBroken 1).setVar .calSkew 1
  let s := s.doneAt .stepEdge
  let s := s.raise evStepDone [i8 (toBits 64 whole), i8 lin]
  let s := s.stepCmps (at16 % 2 ^ 80)
  let s := ((s.stepGroups (whole * nsUnit)).todStep whole).gnssStep whole
  (s.dumpStep lin).stepShadow whole

/-- STEP_DONE: the launch edge of the second marker after the decision, once that marker is launched (R63). -/
def execStepDone (s : State) : Host.Outcome State Fault Refusal :=
  .next (
    match s.tc.plan with
    | some p => if p.launches = 2 ∧ s.var .markerEdge = (s.tc.edges : Int) + 1 then s.stepTime p.whole p.rest else s
    | none => s)

/-! ## The clock -/

/-- One TCLK edge: the Time Core advances and every group's DDS follows; the false starts told by then are counted, and the sample clock runs (R53,
R58, R60, R148, R165, R205, R206). -/
def State.tclk (s : State) : State :=
  let was := s.tc.run
  let s := s.tick
  (s.synEdge ((s.tc.run : Int) - was)).sweepHeats.sampleClock

/-- What passes when no command waits: an edge of TCLK once the PLL has locked, else nothing (R457, log entry 1). -/
def State.idle (s : State) : State := if 2 ≤ s.phase then s.tclk else s

end Sys2Proof.Machine
end

