-- ==== Sys2Proof/Machine/Commands.lean ====
section
/-! DEFINITION. Polling the doorbell block and fetching commands (R366, R369, R372, R374 to R376, R381, R382), and the host interface's
own commands NOP and ABORT (R382 to R384). -/

namespace Sys2Proof.Machine

/-! ## The opcode table (R382) -/

def opNop : OpInfo := { op := 0x0001, boot := true }
def opAbort : OpInfo := { op := 0x0002, boot := true }

/-- Every opcode of chapters 00 to 05 whose role no parameter decides, with its parameters' sizes where its chapter fixes them (R375, R382);
LANE_FORCE in the form that is carried. -/
def opsLow : List (OpInfo × Option (List Nat)) :=
  [(opNop, some [8]), (opAbort, some [1, 4]), (opUnitEnable, some [2]), (opUnitDisable, some [2]), (opUnitReset, some [2]),
   (opUnitState, some [2, 8, 4]), (opTimeReset, some []), (opPhaseAdj, some [8]), (opSlewLimitSet, some [8]), (opStepThreshSet, some [4]),
   (opLeapSet, some [2, 1, 1]), (opUtcOffsetSet, some [2]), (opCmpArm, some [1, 1, 4, 8, 2, 8, 2]), (opCmpDisarm, some [1]),
   (opLaneForce false, some [1]), (opLaneRelease, some []), (opLaneClear, some [1]), (opLaneSet, some [1, 4, 4]), (opSelModeSet, none),
   (opHobSet, some [4, 4]), (opModelReset, some []), (opTebPredict, some [4])]
@[inherit_doc opsLow] def opsTim : List (OpInfo × Option (List Nat)) :=
  [(opHeatStart, some [1, 1, 1, 1, 1, 1, 2, 4, 1, 4, 1, 1, 1]), (opHeatStop, some [1]), (opRefinDelaySet, some [1, 4]), (opWarmSet, some []),
   (opTimSet, some [4, 4]), (opTimCalibrate, some []), (opSynSet, some [1, 4, 4]), (opSynStart, some [1]), (opSynStop, some [1]),
   (opSynFreqStep, some [1, 8, 2]), (opOutSet, some [2, 4, 4]), (opOutAlign, none)]

/-- Every opcode of chapters 08 to 0C (R382). -/
def opsServe : List (OpInfo × Option (List Nat)) :=
  [(opGnbSet, some [4, 4]), (opGnssPosSet, some [1, 8, 8, 8, 4, 4]), (opGnssNavLoad, some [8, 4]), (opGnssNavRead, some [8, 4, 1]),
   (opGnssColdStart, some []), (opPtpInstSet, some [1, 4, 4]), (opPtpInstStart, some [1]), (opPtpInstStop, some [1]),
   (opPtpSaSet, some [1, 4, 4]), (opPtpClockIdSet, some [8]), (opPtpGrantCancel, none), (opNtpSet, some [4, 4]),
   (opKeyInstall, some [2, 1, 2, 8]), (opKeyErase, some [2]), (opCookieMake, some [1, 8, 8]), (opCltSet, some [4, 4]), (opCltAdd, none),
   (opCltDel, none), (opCltRead, none), (opCltDump, some [4, 4, 8]), (opCltFlush, some []), (opPortSet, some [1, 4, 4]),
   (opLinkReset, some [1])]

/-- Every opcode of chapters 0D to 11, of those whose role a parameter decides the plain form (R382). -/
def opsHigh : List (OpInfo × Option (List Nat)) :=
  [(opSeize, some []), (opYield, some [1]), (opTwnResync, some []), (opTwnSet, some [4, 4]), (opFabSet 0, some [4, 4]),
   (opPfSnapshot, some [8, 2, 1, 8]), (opPmcSet, some [4, 4]), (opLogRead, some [1, 4, 2, 8]), (opSessionChallenge, some [1, 8]),
   (opSessionOpen, some [4, 1, 8]), (opSessionClose, some [1]), (opRoleKeySet 0, some [1, 1, 8]), (opPwrDomainSet 0, some [1, 1]),
   (opBistRun, some [4]), (opFwUpdate, some [1, 8, 4]), (opFuseWrite, some [1, 4]), (opTrimSet, some [1, 4])]

/-- The row of an opcode, or none where it is unknown (R382). -/
def opRow (op : Nat) : Option (OpInfo × Option (List Nat)) := (opsLow ++ opsTim ++ opsServe ++ opsHigh).find? fun r => r.1.op = op

/-- What an opcode's chapter says of it with its parameters at hand: four commands' roles depend on them (R159, R404, R444, R466), and whether
LANE_FORCE is carried (R108). -/
def State.opInfo (s : State) (o : OpInfo) (par : List Byte) : OpInfo :=
  let off := leNat (par.take 4)
  if o.op = 0x0505 then { opTimSet with role := if s.setsTol off (leNat ((par.drop 4).take 4)) then 3 else 2 }
  else if o.op = 0x0301 then opLaneForce (s.isPartner (leNat (par.take 1)))
  else if o.op = 0x0E01 then opFabSet off
  else if o.op = 0x1004 then opRoleKeySet (leNat (par.take 1))
  else if o.op = 0x1101 then opPwrDomainSet (leNat ((par.drop 1).take 1))
  else o

/-! ## Fetching (R374, R376, R382) -/

/-- The bytes that packed parameters of given sizes take (R375). -/
def sizesLen (zs : List Nat) : Nat := packedLen (zs.map fun z => ⟨z, 0⟩) 0

/-- Whether a descriptor breaks R376: a reserved bit, with IND a misaligned address, a length out of range or bytes beyond it, without IND
non-zero bytes beyond the packed parameters. -/
def badDesc (d : List Byte) : Bool :=
  let ctl := leNat ((d.drop 2).take 1)
  if 8 ≤ ctl then true
  else if bit ctl 2 then
    let len := leNat ((d.drop 16).take 4)
    decide (leNat ((d.drop 8).take 8) % 4 ≠ 0 ∨ len < 4 ∨ 4096 < len) || (d.drop 20).any fun b => b ≠ 0
  else match opRow (leNat (d.take 2)) with
    | some (_, some zs) => (d.drop (8 + sizesLen zs)).any fun b => b ≠ 0
    | _ => false

/-- The parameters of a descriptor: its own bytes, or with IND those in host memory (R374). -/
def State.descPar (s : State) (d : List Byte) : List Byte :=
  if bit (leNat ((d.drop 2).take 1)) 2 then memRead s.mem (leNat ((d.drop 8).take 8)) (leNat ((d.drop 16).take 4)) else d.drop 8

/-- A descriptor's command, judged in the order of R382: completed where a check fails, else in flight. -/
def State.takeDesc (s : State) (n : Nat) (d : List Byte) (indOk : Bool) : State :=
  let ctl := leNat ((d.drop 2).take 1)
  let c : Ctx := ⟨n, leNat ((d.drop 4).take 4), leNat ((d.drop 3).take 1), bit ctl 0, bit ctl 1, true⟩
  let s := (s.advance n).touch c
  if badDesc d then s.complete c Status.badDesc 0
  else match opRow (leNat (d.take 2)) with
    | none => s.complete c Status.badOpcode 0
    | some (o, _) =>
      if bit ctl 2 ∧ indOk = false then s.complete c Status.dmaError 0
      else
        let o := s.opInfo o (s.descPar d)
        match s.fetchFails c o with
        | some t => t
        | none =>
          { s with hif := { s.hif with inflight := s.hif.inflight ++ [⟨c, o.op, s.sessionRole n c.session, false, [], none⟩] } }

/-- Commands fetched from a CMD ring in order, while it holds some, fewer than 256 are in flight and completion slots are left (R373, R381). -/
def State.fetchRing (s : State) (n : Nat) (indOk : Bool) : Nat → State
  | 0 => s
  | k + 1 =>
    if s.ringSt n ≠ 1 ∨ s.ringHas n = 0 ∨ 256 ≤ s.hif.inflight.length ∨ s.cplFree n = false then s
    else (s.takeDesc n (memRead s.mem (s.entryAddr n 32 0) 32) indOk).fetchRing n indOk k

/-- A CMD ring's turn at a poll; a descriptor read that fails puts the ring in ERROR (R372). -/
def State.fetchTurn (s : State) (bad : List Nat) (indOk : Bool) (n : Nat) : State :=
  if s.ringSt n ≠ 1 ∨ s.get (Reg.RING_CFG_TYPE n) ≠ 0 ∨ s.ringHas n = 0 then s
  else if bad.contains n then s.ringError n 3 (s.entryAddr n 32 0)
  else s.fetchRing n indOk 256

/-! ## The poll (R365, R366) -/

/-- Whether a ring of a type is produced by the host (R370). -/
def hostMade (t : Nat) : Bool := t = 0 ∨ t = 3 ∨ t = 4

/-- A ring's doorbell word read: an index that moves backward, overfills the ring or passes ENGINE_IDX is an error and is not applied
(R365, R372). -/
def State.takeIdx (s : State) (n v : Nat) : State :=
  if s.ringSt n ≠ 1 ∨ v = s.hostIdx n then s
  else
    let d := (v + 2 ^ 32 - s.hostIdx n) % 2 ^ 32
    let bad := if hostMade (s.get (Reg.RING_CFG_TYPE n)) then decide (s.ringSize n < s.ringHas n + d)
      else decide ((s.engIdx n + 2 ^ 32 - s.hostIdx n) % 2 ^ 32 < d)
    if bad then s.ringError n 2 v else { s with hif := { s.hif with hostIdx := aput s.hif.hostIdx n v } }

/-- The doorbell word of a ring in host memory. -/
def State.bell (s : State) (n : Nat) : Nat :=
  leNat (memRead s.mem (s.get64 Reg.DB_BASE_LO_ADDR_LO Reg.DB_BASE_HI_ADDR_HI + 4 * n) 4)

/-- The rings, by number. -/
def allRings : List Nat := List.range 64

/-- The interval to the next poll, in units of 0.5 µs, and the polls without change (R366). -/
def State.pollNext (s : State) (changed : Bool) : State :=
  if s.get Reg.DB_POLL_ADAPT = 0 then { s with hif := { s.hif with pollEvery := s.get Reg.DB_POLL_POLL, idlePolls := 0 } }
  else if changed then { s with hif := { s.hif with pollEvery := 1, idlePolls := 0 } }
  else if s.get Reg.DB_POLL_IDLE_POLLS ≤ s.hif.idlePolls + 1 then
    { s with hif := { s.hif with pollEvery := min (2 * s.hif.pollEvery) (s.get Reg.DB_POLL_MAX), idlePolls := 0 } }
  else { s with hif := { s.hif with idlePolls := s.hif.idlePolls + 1 } }

/-- A failed read of the doorbell block: counted, 0x0712 with 0xFF; the completion status PCIe gives is a free value (R366, R387). -/
def State.pollFailed (s : State) : State :=
  let (v, s) := s.takeFree
  (s.bump Reg.HIF_DB_FAILS_COUNT).raiseHif (evHif 1 .error)
    [i1 0xFF, i4 (s.get64 Reg.DB_BASE_LO_ADDR_LO Reg.DB_BASE_HI_ADDR_HI), i1 v]

/-- One poll made: the indices taken, the commands they cover fetched (R366, R381). -/
def State.poll (s : State) (dmaOk : Bool) (bad : List Nat) (indOk : Bool) : State :=
  let s := (((s.setVar .kicked 0).bump Reg.HIF_DB_POLLS_COUNT).pmcEvent 7 0x12)
  if dmaOk = false then s.pollFailed.pollNext false
  else
    let changed := allRings.any fun n => decide (s.ringSt n = 1 ∧ s.bell n ≠ s.hostIdx n)
    let s := allRings.foldl (fun s n => s.takeIdx n (s.bell n)) s
    (allRings.foldl (fun s n => s.fetchTurn bad indOk n) s).pollNext changed

/-- Whether the engine polls now: at its interval or after a kick, in READY or RUNNING, in D0 with a host, with a ring ACTIVE or STOPPING
(R359, R365, R366). -/
def State.pollDue (s : State) : Bool :=
  s.hostOpen && s.hif.hostUp && !s.hif.d3hot && (allRings.any fun n => decide (s.ringSt n = 1 ∨ s.ringSt n = 2))
    && ((s.timer .poll).isNone || s.due .poll || decide (s.var .kicked = 1))

/-- DOORBELL_POLL: the doorbell block read in one access, which succeeds or not; `bad` are the rings whose descriptors cannot be read, and
`indOk` says whether parameter blocks can be (R366). -/
def execDoorbellPoll (dmaOk : Bool) (bad : List Nat) (indOk : Bool) (s : State) : Host.Outcome State Fault Refusal :=
  .next (
    if s.pollDue then
      let s := s.poll dmaOk bad indOk
      s.arm .poll (500 * s.hif.pollEvery)
    else s)

/-! ## NOP and ABORT (R382 to R384) -/

/-- NOP: OK, with its parameter in DATA (R382). -/
def execNop (c : Ctx) (echo : Nat) (s : State) : Host.Outcome State Fault Refusal :=
  .next (s.runCmd c opNop [] fun _ s => ⟨s, some Status.ok, echo % 2 ^ 64⟩)

/-- Maker work that waits for its handover aborted: nothing of it runs, and the handover is void when nothing else waits for it (R384, R461). -/
def State.abortWaiting (s : State) (e : InFlight) : State :=
  let s := s.complete e.ctx Status.aborted 0 true
  if s.hif.inflight.any InFlight.waitsHandover then s else (s.put Reg.TWN_STATUS_HANDOVER_PENDING 0).put Reg.TWN_HANDOVER_LAP 0

/-- A running command aborted: done at once, at its next safe point, or not at all (R384). -/
def State.abortRun (s : State) (e : InFlight) (held now late : State → Res) : Res :=
  let g := e.arg.headD 0
  if e.withheld.isSome then late s
  else if e.op = 0x0602 then now (s.synStop g Status.aborted)
  else if e.op = 0x0604 then
    held (s.setGrp g { s.grp g with ramp := (s.grp g).ramp.map fun p => { p with abort := true } })
  else if e.op = 0x0D02 ∧ s.ns / lapNs < s.get Reg.TWN_HANDOVER_LAP then now (s.cancelHandover Status.aborted true)
  else if (e.op = 0x0506 ∨ e.op = 0x1102) ∧ e.waitsHandover then now (s.abortWaiting e)
  else if e.op = 0x0506 then now (s.calEnd Status.aborted true)
  else if e.op = 0x1102 then held (s.setVar .bistAbort 1)
  else late s

/-- ABORT's effect (R383, R384). -/
def abortEff (c : Ctx) (ring tag : Nat) (role : Nat) (s : State) : Res :=
  match findFlight s.hif.inflight ring tag with
  | none =>
    if c.ring = ring ∧ c.tag = tag then ⟨s, some Status.notPermitted, 0⟩
    else if s.hif.done.any fun d => d.ring = ring ∧ d.tag = tag then ⟨s, some Status.abortTooLate, 0⟩
    else ⟨s, some Status.notFound, 0⟩
  | some e =>
    if e.ctx.session ≠ c.session ∨ (c.session ≠ 0 ∧ e.ctx.ring ≠ c.ring) then
      let s := (s.bump Reg.HIF_NO_RIGHT_COUNT).raiseHif evNoRight [i2 0x0002, i1 c.session, i1 e.role]
      ⟨s, some Status.noRight, e.role⟩
    else if e.op = 0x0002 then ⟨s, some Status.notPermitted, 0⟩
    else if e.started = false then ⟨s.complete e.ctx Status.aborted 0 true, some Status.ok, 0⟩
    else s.abortRun e (fun s => ⟨s.hold c opAbort role [ring, tag, 1], none, 0⟩) (fun s => ⟨s, some Status.ok, 0⟩)
      (fun s => ⟨s.hold c opAbort role [ring, tag], none, 0⟩)

/-- ABORT (R383). -/
def execAbort (c : Ctx) (ring tag : Nat) (s : State) : Host.Outcome State Fault Refusal :=
  .next (s.runCmd c opAbort [] fun role s => if 63 < ring then ⟨s, some Status.range, 0⟩ else abortEff c ring tag role s)

end Sys2Proof.Machine
end

