-- ==== Sys2Proof/Machine/Dispatch.lean ====
section
/-! DEFINITION. The one match that sends every command to its meaning. -/

namespace Sys2Proof.Machine

/-- The effect of a command on everything but the queue. -/
def exec (i : Instr) (s : State) : Host.Outcome State Fault Refusal :=
  match i with
  | .nop c echo => Sys2Proof.Machine.execNop c echo s
  | .abort c ring tag => Sys2Proof.Machine.execAbort c ring tag s
  | .unitEnable c hid => Sys2Proof.Machine.execUnitEnable c hid s
  | .unitDisable c hid => Sys2Proof.Machine.execUnitDisable c hid s
  | .unitReset c hid => Sys2Proof.Machine.execUnitReset c hid s
  | .unitState c hid addr len => Sys2Proof.Machine.execUnitState c hid addr len s
  | .timeReset c => Sys2Proof.Machine.execTimeReset c s
  | .phaseAdj c offset => Sys2Proof.Machine.execPhaseAdj c offset s
  | .slewLimitSet c limit => Sys2Proof.Machine.execSlewLimitSet c limit s
  | .stepThreshSet c ns => Sys2Proof.Machine.execStepThreshSet c ns s
  | .leapSet c year month sign => Sys2Proof.Machine.execLeapSet c year month sign s
  | .utcOffsetSet c current => Sys2Proof.Machine.execUtcOffsetSet c current s
  | .cmpArm c n mode actEvent actPf target period => Sys2Proof.Machine.execCmpArm c n mode actEvent actPf target period s
  | .cmpDisarm c n => Sys2Proof.Machine.execCmpDisarm c n s
  | .laneForce c n => Sys2Proof.Machine.execLaneForce c n s
  | .laneRelease c => Sys2Proof.Machine.execLaneRelease c s
  | .laneClear c n => Sys2Proof.Machine.execLaneClear c n s
  | .laneSet c n off value => Sys2Proof.Machine.execLaneSet c n off value s
  | .selModeSet c revertive wtr avg agree span => Sys2Proof.Machine.execSelModeSet c revertive wtr avg agree span s
  | .hobSet c off value => Sys2Proof.Machine.execHobSet c off value s
  | .modelReset c => Sys2Proof.Machine.execModelReset c s
  | .tebPredict c tau => Sys2Proof.Machine.execTebPredict c tau s
  | .heatStart c k start startEdge stop stopEdge splits n window sgn win scale keep stat => Sys2Proof.Machine.execHeatStart c k start startEdge stop stopEdge splits n window sgn win scale keep stat s
  | .heatStop c k => Sys2Proof.Machine.execHeatStop c k s
  | .refinDelaySet c pin delay => Sys2Proof.Machine.execRefinDelaySet c pin delay s
  | .warmSet c => Sys2Proof.Machine.execWarmSet c s
  | .timSet c off value => Sys2Proof.Machine.execTimSet c off value s
  | .timCalibrate c => Sys2Proof.Machine.execTimCalibrate c s
  | .synSet c g off value => Sys2Proof.Machine.execSynSet c g off value s
  | .synStart c g => Sys2Proof.Machine.execSynStart c g s
  | .synStop c g => Sys2Proof.Machine.execSynStop c g s
  | .synFreqStep c g num den => Sys2Proof.Machine.execSynFreqStep c g num den s
  | .outSet c hid off value => Sys2Proof.Machine.execOutSet c hid off value s
  | .outAlign c mask method rate => Sys2Proof.Machine.execOutAlign c mask method rate s
  | .gnbSet c off value => Sys2Proof.Machine.execGnbSet c off value s
  | .gnssPosSet c mode x y z posU time => Sys2Proof.Machine.execGnssPosSet c mode x y z posU time s
  | .gnssNavLoad c addr len parityBad tooOld => Sys2Proof.Machine.execGnssNavLoad c addr len parityBad tooOld s
  | .gnssNavRead c addr len sel => Sys2Proof.Machine.execGnssNavRead c addr len sel s
  | .gnssColdStart c => Sys2Proof.Machine.execGnssColdStart c s
  | .ptpInstSet c k off value => Sys2Proof.Machine.execPtpInstSet c k off value s
  | .ptpInstStart c k => Sys2Proof.Machine.execPtpInstStart c k s
  | .ptpInstStop c k => Sys2Proof.Machine.execPtpInstStop c k s
  | .ptpSaSet c ix off value => Sys2Proof.Machine.execPtpSaSet c ix off value s
  | .ptpClockIdSet c id => Sys2Proof.Machine.execPtpClockIdSet c id s
  | .ptpGrantCancel c k who => Sys2Proof.Machine.execPtpGrantCancel c k who s
  | .ntpSet c off value => Sys2Proof.Machine.execNtpSet c off value s
  | .keyInstall c slot usage kek addr len => Sys2Proof.Machine.execKeyInstall c slot usage kek addr len s
  | .keyErase c slot => Sys2Proof.Machine.execKeyErase c slot s
  | .ntsCookieMake c count addrKeys addrOut => Sys2Proof.Machine.execNtsCookieMake c count addrKeys addrOut s
  | .cltSet c off value => Sys2Proof.Machine.execCltSet c off value s
  | .cltEntryAdd c k cls rule tag => Sys2Proof.Machine.execCltEntryAdd c k cls rule tag s
  | .cltEntryDel c k => Sys2Proof.Machine.execCltEntryDel c k s
  | .cltEntryRead c k addr => Sys2Proof.Machine.execCltEntryRead c k addr s
  | .cltDump c first count addr => Sys2Proof.Machine.execCltDump c first count addr s
  | .cltFlush c => Sys2Proof.Machine.execCltFlush c s
  | .portSet c p off value => Sys2Proof.Machine.execPortSet c p off value s
  | .portLinkReset c p => Sys2Proof.Machine.execPortLinkReset c p s
  | .seize c => Sys2Proof.Machine.execSeize c s
  | .yield c laps => Sys2Proof.Machine.execYield c laps s
  | .twnResync c => Sys2Proof.Machine.execTwnResync c s
  | .twnSet c off value => Sys2Proof.Machine.execTwnSet c off value s
  | .fabSet c off value => Sys2Proof.Machine.execFabSet c off value s
  | .pfSnapshot c at16 system addr => Sys2Proof.Machine.execPfSnapshot c at16 system addr s
  | .pmcSet c off value => Sys2Proof.Machine.execPmcSet c off value s
  | .logRead c source first count addr => Sys2Proof.Machine.execLogRead c source first count addr s
  | .sessionChallenge c role addr => Sys2Proof.Machine.execSessionChallenge c role addr s
  | .sessionOpen c id bind addr => Sys2Proof.Machine.execSessionOpen c id bind addr s
  | .sessionClose c n => Sys2Proof.Machine.execSessionClose c n s
  | .roleKeySet c target clear addr => Sys2Proof.Machine.execRoleKeySet c target clear addr s
  | .pwrDomainSet c d action => Sys2Proof.Machine.execPwrDomainSet c d action s
  | .fieldReset c => Sys2Proof.Machine.execFieldReset c s
  | .bistRun c sets fails => Sys2Proof.Machine.execBistRun c sets fails s
  | .fwUpdate c target addr len verify => Sys2Proof.Machine.execFwUpdate c target addr len verify s
  | .fuseWrite c field value => Sys2Proof.Machine.execFuseWrite c field value s
  | .trimSet c trim value => Sys2Proof.Machine.execTrimSet c trim value s
  | .lockSet a => Sys2Proof.Machine.execLockSet a s
  | .hifKick a => Sys2Proof.Machine.execHifKick a s
  | .ringEnable n a => Sys2Proof.Machine.execRingEnable n a s
  | .ringDisable n a => Sys2Proof.Machine.execRingDisable n a s
  | .pfRelease a => Sys2Proof.Machine.execPfRelease a s
  | .flush q a => Sys2Proof.Machine.execFlush q a s
  | .pmcClear r a => Sys2Proof.Machine.execPmcClear r a s
  | .w1cWrite a => Sys2Proof.Machine.execW1cWrite a s
  | .rcRead ini addr poison => Sys2Proof.Machine.execRcRead ini addr poison s
  | .loRead ini addr poison => Sys2Proof.Machine.execLoRead ini addr poison s
  | .linearLoRead ini poison => Sys2Proof.Machine.execLinearLoRead ini poison s
  | .hiWrite a => Sys2Proof.Machine.execHiWrite a s
  | .loWrite a => Sys2Proof.Machine.execLoWrite a s
  | .registerWrite a => Sys2Proof.Machine.execRegisterWrite a s
  | .defaultHit ini addr write regWindow => Sys2Proof.Machine.execDefaultHit ini addr write regWindow s
  | .doorbellPoll dmaOk bad indOk => Sys2Proof.Machine.execDoorbellPoll dmaOk bad indOk s
  | .statusBlockWrite dmaOk => Sys2Proof.Machine.execStatusBlockWrite dmaOk s
  | .modTimeExpiry n => Sys2Proof.Machine.execModTimeExpiry n s
  | .ringStopped n => Sys2Proof.Machine.execRingStopped n s
  | .hostReset cause => Sys2Proof.Machine.execHostReset cause s
  | .recordQueueDelivery q poisoned dmaOk => Sys2Proof.Machine.execRecordQueueDelivery q poisoned dmaOk s
  | .hsTimeout target ini => Sys2Proof.Machine.execHsTimeout target ini s
  | .parity hid q => Sys2Proof.Machine.execParity hid q s
  | .drain n discards masked => Sys2Proof.Machine.execDrain n discards masked s
  | .speedLow rate => Sys2Proof.Machine.execSpeedLow rate s
  | .unitFenced hid cause => Sys2Proof.Machine.execUnitFenced hid cause s
  | .regionFenced hid cause => Sys2Proof.Machine.execRegionFenced hid cause s
  | .dieFault die hid cause => Sys2Proof.Machine.execDieFault die hid cause s
  | .unitResetDone hid pass => Sys2Proof.Machine.execUnitResetDone hid pass s
  | .unitsAbsent d => Sys2Proof.Machine.execUnitsAbsent d s
  | .unitsPresent d => Sys2Proof.Machine.execUnitsPresent d s
  | .lapBoundary tx0 tx1 => Sys2Proof.Machine.execLapBoundary tx0 tx1 s
  | .laneMeasurement n offset => Sys2Proof.Machine.execLaneMeasurement n offset s
  | .los g => Sys2Proof.Machine.execLos g s
  | .qualTimeExpiry n => Sys2Proof.Machine.execQualTimeExpiry n s
  | .disqHoldExpiry n => Sys2Proof.Machine.execDisqHoldExpiry n s
  | .wtrExpiry => Sys2Proof.Machine.execWtrExpiry s
  | .warnClear n k => Sys2Proof.Machine.execWarnClear n k s
  | .disagreeEnd a b => Sys2Proof.Machine.execDisagreeEnd a b s
  | .shadowAnchor => Sys2Proof.Machine.execShadowAnchor s
  | .loopSettled => Sys2Proof.Machine.execLoopSettled s
  | .modelRefit => Sys2Proof.Machine.execModelRefit s
  | .modelValid => Sys2Proof.Machine.execModelValid s
  | .warmCleared => Sys2Proof.Machine.execWarmCleared s
  | .warmTimeout => Sys2Proof.Machine.execWarmTimeout s
  | .buildoutRetired => Sys2Proof.Machine.execBuildoutRetired s
  | .stepDone => Sys2Proof.Machine.execStepDone s
  | .cmpFired n => Sys2Proof.Machine.execCmpFired n s
  | .leapCommitted => Sys2Proof.Machine.execLeapCommitted s
  | .leapApplied => Sys2Proof.Machine.execLeapApplied s
  | .smearEnd => Sys2Proof.Machine.execSmearEnd s
  | .markerLaunch => Sys2Proof.Machine.execMarkerLaunch s
  | .markerArrival p crcOk counter roundTrip steady => Sys2Proof.Machine.execMarkerArrival p crcOk counter roundTrip steady s
  | .markerMissed p => Sys2Proof.Machine.execMarkerMissed p s
  | .noGoodMarker p => Sys2Proof.Machine.execNoGoodMarker p s
  | .portCounterStep p => Sys2Proof.Machine.execPortCounterStep p s
  | .startEdge k fine => Sys2Proof.Machine.execStartEdge k fine s
  | .stopEdge k fine => Sys2Proof.Machine.execStopEdge k fine s
  | .windowExpiry k => Sys2Proof.Machine.execWindowExpiry k s
  | .calSlotStart k => Sys2Proof.Machine.execCalSlotStart k s
  | .calHandover k => Sys2Proof.Machine.execCalHandover k s
  | .calReconnect k err diff lsb => Sys2Proof.Machine.execCalReconnect k err diff lsb s
  | .calReturn k => Sys2Proof.Machine.execCalReturn k s
  | .calStale k => Sys2Proof.Machine.execCalStale k s
  | .takeBack o => Sys2Proof.Machine.execTakeBack o s
  | .followerTick => Sys2Proof.Machine.execFollowerTick s
  | .lockWindow g diff vcoKHz foff => Sys2Proof.Machine.execLockWindow g diff vcoKHz foff s
  | .cycleSlip g => Sys2Proof.Machine.execCycleSlip g s
  | .bandCalDone g found band lo hi => Sys2Proof.Machine.execBandCalDone g found band lo hi s
  | .acquireTimeout g => Sys2Proof.Machine.execAcquireTimeout g s
  | .relockDelayExpiry g => Sys2Proof.Machine.execRelockDelayExpiry g s
  | .relockRelease g offset rate => Sys2Proof.Machine.execRelockRelease g offset rate s
  | .synHoldEnd => Sys2Proof.Machine.execSynHoldEnd s
  | .clockWalkStep ix => Sys2Proof.Machine.execClockWalkStep ix s
  | .pulseEdge n => Sys2Proof.Machine.execPulseEdge n s
  | .todMessage k => Sys2Proof.Machine.execTodMessage k s
  | .sampleCheck i1 q1 i5 q5 => Sys2Proof.Machine.execSampleCheck i1 q1 i5 q5 s
  | .channelAssign sky => Sys2Proof.Machine.execChannelAssign sky s
  | .acqDwell k peak cell => Sys2Proof.Machine.execAcqDwell k peak cell s
  | .pullInLocked n => Sys2Proof.Machine.execPullInLocked n s
  | .pullinTimeExpiry n => Sys2Proof.Machine.execPullinTimeExpiry n s
  | .carrierLockLost l => Sys2Proof.Machine.execCarrierLockLost l s
  | .codeLockLost p => Sys2Proof.Machine.execCodeLockLost p s
  | .reacqTimeExpiry n => Sys2Proof.Machine.execReacqTimeExpiry n s
  | .epoch ms => Sys2Proof.Machine.execEpoch ms s
  | .solution ins corr px py pz => Sys2Proof.Machine.execSolution ins corr px py pz s
  | .solutionTimeout => Sys2Proof.Machine.execSolutionTimeout s
  | .navDecode const svid typ msg body utc => Sys2Proof.Machine.execNavDecode const svid typ msg body utc s
  | .surveyDone => Sys2Proof.Machine.execSurveyDone s
  | .syncTx k dst skip => Sys2Proof.Machine.execSyncTx k dst skip s
  | .announceTx k dst skip => Sys2Proof.Machine.execAnnounceTx k dst skip s
  | .pdelayReqTx k => Sys2Proof.Machine.execPdelayReqTx k s
  | .delayReqTx k => Sys2Proof.Machine.execDelayReqTx k s
  | .delayReq q => Sys2Proof.Machine.execDelayReq q s
  | .pdelayReq q => Sys2Proof.Machine.execPdelayReq q s
  | .pdelayRespRx q turn => Sys2Proof.Machine.execPdelayRespRx q turn s
  | .requestUnicastTransmission q tlvs => Sys2Proof.Machine.execRequestUnicastTransmission q tlvs s
  | .cancelUnicastTransmission q tlvs => Sys2Proof.Machine.execCancelUnicastTransmission q tlvs s
  | .grantExpiry c typ => Sys2Proof.Machine.execGrantExpiry c typ s
  | .grantRx q tlvs => Sys2Proof.Machine.execGrantRx q tlvs s
  | .grantRenewal k m typ => Sys2Proof.Machine.execGrantRenewal k m typ s
  | .announceRx q b tlv => Sys2Proof.Machine.execAnnounceRx q b tlv s
  | .syncRx q t1 tlv => Sys2Proof.Machine.execSyncRx q t1 tlv s
  | .delayRespRx q t4 => Sys2Proof.Machine.execDelayRespRx q t4 s
  | .announceTimeout k => Sys2Proof.Machine.execAnnounceTimeout k s
  | .losTimeExpiry k => Sys2Proof.Machine.execLosTimeExpiry k s
  | .saSwitch k => Sys2Proof.Machine.execSaSwitch k s
  | .ntpRequest q at_ pay => Sys2Proof.Machine.execNtpRequest q at_ pay s
  | .ntsRequest q at_ pay => Sys2Proof.Machine.execNtsRequest q at_ pay s
  | .ntsLaunch p t => Sys2Proof.Machine.execNtsLaunch p t s
  | .mkSwitch => Sys2Proof.Machine.execMkSwitch s
  | .ageSweep first count => Sys2Proof.Machine.execAgeSweep first count s
  | .tableReady => Sys2Proof.Machine.execTableReady s
  | .linkAlign p => Sys2Proof.Machine.execLinkAlign p s
  | .linkUp p skew => Sys2Proof.Machine.execLinkUp p skew s
  | .alignTimeout p => Sys2Proof.Machine.execAlignTimeout p s
  | .linkDown p localFault remoteFault => Sys2Proof.Machine.execLinkDown p localFault remoteFault s
  | .frameReceived p rx => Sys2Proof.Machine.execFrameReceived p rx s
  | .pauseFrame p pfc mask quanta => Sys2Proof.Machine.execPauseFrame p pfc mask quanta s
  | .pauseExpiry p q => Sys2Proof.Machine.execPauseExpiry p q s
  | .pauseWd p => Sys2Proof.Machine.execPauseWd p s
  | .wdIgnoreEnd p q => Sys2Proof.Machine.execWdIgnoreEnd p q s
  | .hostFrameFetch p dmaOk => Sys2Proof.Machine.execHostFrameFetch p dmaOk s
  | .frameTransmit p t cut => Sys2Proof.Machine.execFrameTransmit p t cut s
  | .esmcPdu p oui sub ver typ len ssm ext => Sys2Proof.Machine.execEsmcPdu p oui sub ver typ len ssm ext s
  | .esmcTimeout p => Sys2Proof.Machine.execEsmcTimeout p s
  | .esmcInfoTx p => Sys2Proof.Machine.execEsmcInfoTx p s
  | .esmcEventTx p => Sys2Proof.Machine.execEsmcEventTx p s
  | .pairTrained n txDelay rxDelay => Sys2Proof.Machine.execPairTrained n txDelay rxDelay s
  | .trainingTimeout n => Sys2Proof.Machine.execTrainingTimeout n s
  | .pairDown n cause => Sys2Proof.Machine.execPairDown n cause s
  | .relayMarkerRx n lap stamp => Sys2Proof.Machine.execRelayMarkerRx n lap stamp s
  | .batonTx => Sys2Proof.Machine.execBatonTx s
  | .batonRx b crcOk => Sys2Proof.Machine.execBatonRx b crcOk s
  | .batonDue => Sys2Proof.Machine.execBatonDue s
  | .journalRecord r crcOk => Sys2Proof.Machine.execJournalRecord r crcOk s
  | .journalAckTimeout => Sys2Proof.Machine.execJournalAckTimeout s
  | .fenceChange a b => Sys2Proof.Machine.execFenceChange a b s
  | .fenceFaultClear => Sys2Proof.Machine.execFenceFaultClear s
  | .senseWindow aLow => Sys2Proof.Machine.execSenseWindow aLow s
  | .promotion => Sys2Proof.Machine.execPromotion s
  | .seizeFrame => Sys2Proof.Machine.execSeizeFrame s
  | .seizeHoldExpiry => Sys2Proof.Machine.execSeizeHoldExpiry s
  | .handover => Sys2Proof.Machine.execHandover s
  | .resyncReq configOnly => Sys2Proof.Machine.execResyncReq configOnly s
  | .resyncDone img => Sys2Proof.Machine.execResyncDone img s
  | .listenExpiry => Sys2Proof.Machine.execListenExpiry s
  | .sideBWaitExpiry => Sys2Proof.Machine.execSideBWaitExpiry s
  | .pfTrig falling => Sys2Proof.Machine.execPfTrig falling s
  | .pfLatch x => Sys2Proof.Machine.execPfLatch x s
  | .pfTaken => Sys2Proof.Machine.execPfTaken s
  | .dump => Sys2Proof.Machine.execDump s
  | .sessionIdleTimeout n => Sys2Proof.Machine.execSessionIdleTimeout n s
  | .challengeExpiry id => Sys2Proof.Machine.execChallengeExpiry id s
  | .lockoutEnd role => Sys2Proof.Machine.execLockoutEnd role s
  | .drbgReseed => Sys2Proof.Machine.execDrbgReseed s
  | .healthFail test => Sys2Proof.Machine.execHealthFail test s
  | .drbgWithheld => Sys2Proof.Machine.execDrbgWithheld s
  | .withholdingFault => Sys2Proof.Machine.execWithholdingFault s
  | .packageReset cause => Sys2Proof.Machine.execPackageReset cause s
  | .keeperCheck rtcStopped crcBad sealedBad => Sys2Proof.Machine.execKeeperCheck rtcStopped crcBad sealedBad s
  | .tclkPllLock => Sys2Proof.Machine.execTclkPllLock s
  | .oscMissing secs => Sys2Proof.Machine.execOscMissing secs s
  | .fwBoot causeA causeB verA verB => Sys2Proof.Machine.execFwBoot causeA causeB verA verB s
  | .timeRecovery rtcNow => Sys2Proof.Machine.execTimeRecovery rtcNow s
  | .trackUp => Sys2Proof.Machine.execTrackUp s
  | .fieldUp => Sys2Proof.Machine.execFieldUp s
  | .dramTrain pass failCh step ms readyMs => Sys2Proof.Machine.execDramTrain pass failCh step ms readyMs s
  | .dramRetrain => Sys2Proof.Machine.execDramRetrain s
  | .fieldRestored ms => Sys2Proof.Machine.execFieldRestored ms s
  | .keeperWrite rtc foff => Sys2Proof.Machine.execKeeperWrite rtc foff s
  | .vbatLow cell => Sys2Proof.Machine.execVbatLow cell s
  | .brownOut => Sys2Proof.Machine.execBrownOut s
  | .d3hot on => Sys2Proof.Machine.execD3hot on s
  | .vectorUnmask v => Sys2Proof.Machine.execVectorUnmask v s
  | .hostBack => Sys2Proof.Machine.execHostBack s
  | .noLatch hids => Sys2Proof.Machine.execNoLatch hids s
  | .relockRetry g => Sys2Proof.Machine.execRelockRetry g s
  | .carrierLockSet l => Sys2Proof.Machine.execCarrierLockSet l s
  | .bitSync n => Sys2Proof.Machine.execBitSync n s
  | .onCell on cell => Sys2Proof.Machine.execOnCell on cell s

end Sys2Proof.Machine
end

