-- ==== Sys2Proof/Machine/Step.lean ====
section
/-! DEFINITION. One step: the command at the front of the queue, or an edge of TCLK when none waits. -/

namespace Sys2Proof.Machine

/-- A step: the front command runs on the state with the queue's rest; on an empty queue an edge of TCLK passes once the PLL has locked,
and before that nothing (log entry 1). -/
def step (s : State) : Host.Outcome State Fault Refusal :=
  match s.pending with
  | [] => .next s.idle
  | i :: rest => exec i { s with pending := rest }

/-- The state with the command a word spells at the front of its queue; as no word spells one, the state as it is. -/
def State.withFetchWord (s : State) (nbits w : Nat) : State :=
  match decodeTableWord nbits w with
  | some i => { s with pending := i :: s.pending }
  | none => s

end Sys2Proof.Machine
end

