-- ==== Sys2Proof/Safety.lean ====
section
/-! DEFINITION. What a safe run is, in the terms claims use. -/

namespace Sys2Proof

/-- A step that goes on: neither a fault nor a refusal. -/
def Steps (s t : Machine.State) : Prop := Machine.step s = .next t

/-- States a number of steps apart, each of which goes on. -/
def Runs : Nat → Machine.State → Machine.State → Prop
  | 0, s, t => s = t
  | k + 1, s, t => ∃ u, Steps s u ∧ Runs k u t

/-- What every step keeps: host memory is in canonical form (R361), the event queue holds at most 256 records and the dump queue 128
(R400, R401), the trouble log's entries take at most 16,384 slots (R419) and the keeper's copy 32 (R422), at most 8 challenges are
outstanding (R433), and each twin keeps at most 65,536 records of each journal (R354). -/
structure Sound (s : Machine.State) : Prop where
  mem        : Machine.Memory.wf s.mem = true
  events     : s.evtq.recs.length ≤ 256
  dumps      : s.dumpq.length ≤ 128
  log        : Machine.slotsOf s.log.entries ≤ 16384
  keeper     : Machine.slotsOf s.log.keeper ≤ 32
  challenges : s.roles.challenges.length ≤ 8
  journal    : s.twin.journal.length ≤ 65536
  grants     : s.twin.grants.length ≤ 65536

/-- The registers in which the engine counts what it logs, queues and completes, whatever command runs: the fill and the losses of record
queue 0 (R401, R406), the losses of event records (R373), the fabric's sticky bits (R405), the saturation bits of the counters (R425), and
the completions discarded (R386). -/
def bookkeeping : List Nat :=
  [(Machine.Reg.RQ_HIGH_FILL 0).key, (Machine.Reg.RQ_LOST_COUNT 0).key, Machine.Reg.HIF_EVT_LOST_COUNT.key,
    Machine.Reg.FAB_STICKY_STICKY.key, Machine.Reg.HIF_CPL_DISCARDED_COUNT.key]
    ++ (List.range 8).map fun r => (Machine.Reg.PMC_STICKY_STICKY r).key

/-- A ring command that can be fetched now, passes the checks of its fetch and starts: the host interface is READY or RUNNING, the CMD ring is
ACTIVE, fewer than 256 commands are in flight and a completion slot is free, no earlier command of the ring holds it back, the command is not
in flight yet, its session's role suffices, RECOVERY accepts it, and no standby refuses it (R342, R362, R373, R381, R382, R458). -/
structure Ready (s : Machine.State) (c : Ctx) (o : Machine.OpInfo) : Prop where
  fresh  : Machine.findFlight s.hif.inflight c.ring c.tag = none
  live   : s.live c o = true
  role   : Machine.hasRight (s.sessionRole c.ring c.session) o.role = true
  phase  : s.phase ≠ 8 ∨ o.boot = true
  twin   : o.carried = false ∨ s.follower = false

end Sys2Proof

namespace Sys2Proof.Machine

/-- The hidden scalars in which the engine does so: the last raising of the event of record queue 0's losses (R405), and how many of the
oldest words of that queue are poisoned (R45). -/
def bookVars : List Var := [.fabRaised 2, .rqPoison 0]

/-- A state without what logging and counting may change. -/
abbrev State.still (s : State) : State :=
  { s with regs := [], vars := [], log := State.reset.log, evtq := State.reset.evtq, pmc := State.reset.pmc, pf := State.reset.pf }

/-- A state that differs from another only by what logging and counting change. -/
structure Quiet (s t : State) : Prop where
  regs : ∀ f : Fld, f.key ∉ bookkeeping → t.get f = s.get f
  vars : ∀ v : Var, v ∉ bookVars → t.var v = s.var v
  rest : t.still = s.still

/-- A state without what logging, counting, fetching and completing may change. -/
abbrev State.apart (s : State) : State :=
  { s with regs := [], vars := [], timers := [], log := State.reset.log, evtq := State.reset.evtq, pmc := State.reset.pmc, pf := State.reset.pf
           mem := [], out := []
           hif := { s.hif with engIdx := [], hostIdx := [], inflight := [], done := [], unsignal := [], toSignal := [], stDirty := false
                               discards := 0, waiting := [] }
           roles := { s.roles with sessions := [] }
           twin := { s.twin with stateSeq := 0, journal := [] } }

/-- A state that differs from another only by what fetching, carrying and completing a ring command change. -/
structure Apart (s t : State) : Prop where
  regs   : ∀ f : Fld, f.key ∉ bookkeeping → t.get f = s.get f
  vars   : ∀ v : Var, v ∉ bookVars → t.var v = s.var v
  timers : ∀ m : Tm, (∀ n, m ≠ .modTime n) → m ≠ .journalAck → t.timer m = s.timer m
  rest   : t.apart = s.apart

/-- A ring command that ends at once: fetched, it changes what its effect says and what logging and counting change with it, and is completed
with a status and DATA, its body (which is carried to the standby where the command is) being its operands. -/
def Ends (s : State) (c : Ctx) (o : OpInfo) (st data : Nat) (effect : State → State) (t : State) : Prop :=
  ∃ u body, Quiet (effect (s.fetch c)) u ∧ t = u.finishCmd c o (s.sessionRole c.ring c.session) st data body

/-- A ring command that runs on: fetched, it changes what its effect says and what logging and counting change with it, and is in flight. -/
def Starts (s : State) (c : Ctx) (effect : State → State) (t : State) : Prop := Quiet (effect (s.fetch c)) t

end Sys2Proof.Machine
end

