-- ==== Sys2Proof/Certificates/Slice0/Obligations.lean ====
section
/-! DEFINITION. The statements for the provers. -/

open Sys2Proof Sys2Proof.Machine

/-- A step of a state with a command at the front of its queue is that command's meaning on the state with the queue's rest. -/
def Obligations.StepRunsFront : Prop :=
  ∀ (s : State) (c : Instr) (rest : List Instr), step { s with pending := c :: rest } = exec c { s with pending := rest }

/-- Every step takes exactly the command at the front of the queue, whatever it does, and no command changes the commands that wait behind it; on an
empty queue an edge of TCLK passes once the PLL has locked, and nothing before. Where the spec leaves a point open, it follows the model's choice of
log entry 1. -/
def Obligations.QueueOrder : Prop :=
  ∀ s t : State, Steps s t → t.pending = s.pending.tail ∧
    (s.pending = [] → if s.phase < 2 then t = s else t.tc.edges = s.tc.edges + 1 ∧ t.mem = s.mem ∧ t.hif = s.hif)

/-- What a step must keep holds right after reset; and there every register reads the value its field map gives for reset, the engine is in the first
phase of its start-up, no unit has power, the host interface is OFF, no session is open, no command waits or is in flight, and host memory lists
nothing (R21, R452, R457). Where the spec leaves a point open, it follows the model's choices of log entries 3, 4, 6 and 43. -/
def Obligations.ResetState : Prop :=
  Sound State.reset ∧ (∀ f : Fld, State.reset.get f = f.reset) ∧ State.reset.phase = 0 ∧ (∀ h : Nat, (State.reset.unit h).st = .absent) ∧
    State.reset.get Reg.HIF_STATUS_STATE = 0 ∧ (∀ n : Nat, aget State.reset.roles.sessions n = none) ∧ State.reset.linear = 0 ∧
    State.reset.pending = [] ∧ State.reset.hif.inflight = [] ∧ State.reset.mem = [] ∧ (∀ m : Tm, State.reset.timer m = none)

/-- Every step, whatever its command, keeps host memory in canonical form and every queue and log within its size (R354, R361, R400, R401, R419, R422,
R433). Where the spec leaves a point open, it follows the model's choice of log entry 4. -/
def Obligations.StepsKeepSound : Prop :=
  ∀ s t : State, Sound s → Steps s t → Sound t

/-- A ring command at its fetch: without its role it completes with NO_RIGHT and the role it needs, counted; in RECOVERY one that the boot ROM does
not take is NOT_PERMITTED, and so is, on a standby, one that would be carried; each without any effect. And a completion is 16 bytes in the partner
CPL ring, at the index the engine has reached there, with its phase: the rest of memory, and what is in flight, stays as it was (R342, R369, R377,
R381, R382, R458). Where the spec leaves a point open, it follows the model's choices of log entries 42 and 109. -/
def Obligations.CommandCompletion : Prop :=
  ∀ (s : State) (c : Ctx),
    (∀ n v w : Nat, ∀ p ∈ [((Instr.timeReset c : Instr), (opTimeReset : OpInfo)), (.stepThreshSet c v, opStepThreshSet), (.laneForce c n, opLaneForce (s.isPartner n)),
        (.laneSet c n v w, opLaneSet), (.hobSet c v w, opHobSet), (.modelReset c, opModelReset), (.heatStop c n, opHeatStop), (.synSet c n v w, opSynSet),
        (.synStop c n, opSynStop), (.outSet c n v w, opOutSet), (.gnbSet c v w, opGnbSet), (.gnssColdStart c, opGnssColdStart),
        (.ptpInstSet c n v w, opPtpInstSet), (.ptpInstStop c n, opPtpInstStop), (.ntpSet c v w, opNtpSet), (.keyErase c n, opKeyErase),
        (.cltSet c v w, opCltSet), (.cltFlush c, opCltFlush), (.portSet c n v w, opPortSet), (.twnSet c v w, opTwnSet), (.seize c, opSeize),
        (.fabSet c v w, opFabSet v), (.pmcSet c v w, opPmcSet), (.pwrDomainSet c n v, opPwrDomainSet v), (.fuseWrite c n v, opFuseWrite)],
      findFlight s.hif.inflight c.ring c.tag = none → s.live c p.2 = true → ∃ t, exec p.1 s = .next t ∧
        (hasRight (s.sessionRole c.ring c.session) p.2.role = false →
          ∃ u : State, t = u.complete c Status.noRight p.2.role ∧ u.get Reg.HIF_NO_RIGHT_COUNT = (s.get Reg.HIF_NO_RIGHT_COUNT + 1) % 2 ^ 32 ∧
            u.fbit Reg.HIF_STICKY_STICKY 4 = true ∧ u.mem = s.mem ∧ u.tc = s.tc ∧ u.units = s.units ∧ u.lanes = s.lanes ∧ u.clt = s.clt ∧
            ∀ f : Fld, f.key ∉ bookkeeping → f.key ≠ Reg.HIF_NO_RIGHT_COUNT.key → f.key ≠ Reg.HIF_STICKY_STICKY.key → u.get f = s.get f) ∧
        (hasRight (s.sessionRole c.ring c.session) p.2.role = true → (s.phase = 8 ∧ p.2.boot = false) ∨ (p.2.carried = true ∧ s.follower = true) →
          t = (s.fetch c).complete c Status.notPermitted 0)) ∧
    (∀ echo : Nat, Ready s c opNop → Memory.wf s.mem = true → (∀ e ∈ s.hif.inflight, e.op ≠ opAbort.op) →
      let p := s.get (Reg.RING_CFG_PARTNER c.ring)
      p ≠ c.ring → s.ringSt p = 1 → s.hif.d3hot = false →
      ∃ t, exec (.nop c echo) s = .next t ∧
        let at_ := s.ringBase p + 16 * (s.engIdx p % s.ringSize p)
        memRead t.mem at_ 16 = leBytes 4 c.tag ++ leBytes 1 0 ++ leBytes 1 (1 - s.engIdx p / s.ringSize p % 2) ++ leBytes 1 c.ring ++ leBytes 1 0
          ++ leBytes 8 (echo % 2 ^ 64) ∧
        t.engIdx p = (s.engIdx p + 1) % 2 ^ 32 ∧ (∀ b, b < at_ ∨ at_ + 16 ≤ b → memGet t.mem b = memGet s.mem b) ∧
        t.hif.inflight = s.hif.inflight ∧ t.tc = s.tc ∧ t.units = s.units ∧ ∀ f : Fld, f.key ∉ bookkeeping → t.get f = s.get f)

/-- The commands that set the Time Core's rate limits, thresholds and UTC offset, and the one that adds a phase correction: what each writes, and with
RANGE nothing (R61, R69, R71, R77). Where the spec leaves a point open, it follows the model's choice of log entry 11. -/
def Obligations.TimeCoreSettings : Prop :=
  ∀ (s : State) (c : Ctx),
    (∀ x : Int, Ready s c opPhaseAdj →
      ∃ t, exec (.phaseAdj c x) s = .next t ∧
        if (s.tc.slew + x * 2 ^ 20).natAbs ≤ 1000000000 * 2 ^ 52
        then Ends s c opPhaseAdj Status.ok 0 (fun f => { f with tc := { f.tc with slew := f.tc.slew + x * 2 ^ 20 } }) t
        else Ends s c opPhaseAdj Status.range 0 id t) ∧
    (∀ x : Nat, Ready s c opSlewLimitSet →
      ∃ t, exec (.slewLimitSet c x) s = .next t ∧
        if 28147 ≤ x ∧ x ≤ 28147497671
        then Ends s c opSlewLimitSet Status.ok 0 (fun f => (f.put Reg.SLEW_LIMIT_LO_SL_LO (x % 2 ^ 32)).put Reg.SLEW_LIMIT_HI_SL_HI (x / 2 ^ 32)) t
        else Ends s c opSlewLimitSet Status.range 0 id t) ∧
    (∀ x : Nat, Ready s c opStepThreshSet →
      ∃ t, exec (.stepThreshSet c x) s = .next t ∧
        if x ≤ 1000000000 then Ends s c opStepThreshSet Status.ok 0 (fun f => f.put Reg.STEP_THRESH_THRESH x) t
        else Ends s c opStepThreshSet Status.range 0 id t) ∧
    (∀ x : Int, Ready s c opUtcOffsetSet → -32768 ≤ x → x ≤ 32767 →
      ∃ t, exec (.utcOffsetSet c x) s = .next t ∧
        if s.get Reg.TCO_STATUS_LEAP_COMMITTED = 1 then Ends s c opUtcOffsetSet Status.leapCommitted 0 id t
        else if s.get Reg.TCO_STATUS_LEAP_PENDING = 1 then
          Ends s c opUtcOffsetSet Status.ok 0 (fun f => ((f.putI Reg.UTC_OFFSET_CURRENT x).putI Reg.UTC_OFFSET_NEXT (x + s.leapSign)).put64
            Reg.LEAP_AT_LO_LA_LO Reg.LEAP_AT_HI_LA_HI (toBits 64 ((s.leapAt : Int) + (x - s.utcNow) * 1000000000))) t
        else Ends s c opUtcOffsetSet Status.ok 0 (fun f => (f.putI Reg.UTC_OFFSET_CURRENT x).putI Reg.UTC_OFFSET_NEXT x) t)

/-- The compare units: CMP_ARM refuses a target 2^62 ns away or more with RANGE, and arms a unit with any other, one that lies in the past among them,
which then fires at its next edge with LATE and CMP_LATE, a periodic one once for every member passed, their number in SKIPPED; CMP_DISARM takes it
out; and at the edge at which the target is reached the instant is latched and the unit disarms or takes its next member (R65, R66, R67, R68, R77).
Where the spec leaves a point open, it follows the model's choices of log entries 9 and 134. -/
def Obligations.CompareUnits : Prop :=
  ∀ (s : State) (c : Ctx) (n : Nat), n < 16 →
    (∀ (mode : Nat) (ev pf : Bool) (target period : Nat), Ready s c opCmpArm → (mode = 1 ∨ mode = 2) →
      (diff80 (target % 2 ^ 80) s.now80).natAbs < 2 ^ 62 * 2 ^ 16 → (mode = 2 → 1000 * 2 ^ 16 ≤ period ∧ period ≤ 2 ^ 40 * 2 ^ 16) →
      ∃ t, exec (.cmpArm c n mode ev pf target period) s = .next t ∧
        if s.get (Reg.CMP_CTRL_ARMED n) = 1 then Ends s c opCmpArm Status.busy 0 id t
        else Ends s c opCmpArm Status.ok 0 (fun f =>
          let armed := ((((((f.put (Reg.CMP_CTRL_MODE n) mode).put (Reg.CMP_CTRL_ACT_EVENT n) (b2n ev)).put (Reg.CMP_CTRL_ACT_PF n) (b2n pf)).put
            (Reg.CMP_CTRL_ARMED n) 1).put (Reg.CMP_CTRL_LATE n) 0).put (Reg.CMP_CTRL_STEPPED n) 0)
          let aimed := ((armed.put (Reg.CMP_TGT_LO_TGT n) (target / 2 ^ 16)).put (Reg.CMP_TGT_HI_TGT n) (target / 2 ^ 48)).put
            (Reg.CMP_TGT_FRAC_TGT n) target
          let paced := if mode = 2 then (((aimed.put (Reg.CMP_PER_LO_PER n) (period / 2 ^ 16)).put (Reg.CMP_PER_HI_PER n) (period / 2 ^ 48)).put
            (Reg.CMP_PER_FRAC_PER n) period).setVar (.cmpPer n) period else aimed
          paced.setVar (.cmpLate n) (if diff80 (target % 2 ^ 80) s.now80 ≤ 0 then 1 else 0)) t) ∧
    (∀ (mode : Nat) (ev pf : Bool) (target period : Nat), Ready s c opCmpArm → 2 ^ 62 * 2 ^ 16 ≤ (diff80 (target % 2 ^ 80) s.now80).natAbs →
      ∃ t, exec (.cmpArm c n mode ev pf target period) s = .next t ∧ Ends s c opCmpArm Status.range 0 id t) ∧
    (Ready s c opCmpDisarm → ∃ t, exec (.cmpDisarm c n) s = .next t ∧
      Ends s c opCmpDisarm Status.ok 0 (fun f => f.put (Reg.CMP_CTRL_ARMED n) 0) t) ∧
    (∃ t, exec (.cmpFired n) s = .next t ∧
      if s.get (Reg.CMP_CTRL_ARMED n) = 1 ∧ 0 ≤ diff80 s.now80 (s.cmpTgt n) then
        let latched := (((s.put (Reg.CMP_FIRED_LO_FIRED n) (s.now80 / 2 ^ 16)).put (Reg.CMP_FIRED_HI_FIRED n) (s.now80 / 2 ^ 48)).put
          (Reg.CMP_FIRED_FRAC_FIRED n) s.now80)
        let late := s.var (.cmpLate n) = 1
        let marked := (latched.put (Reg.CMP_CTRL_LATE n) (if late then 1 else 0)).put (Reg.CMP_CTRL_STEPPED n) 0
        let noted := (if late then marked.put Reg.TCO_STICKY_CMP_LATE 1 else marked).setVar (.cmpLate n) 0
        let per := (s.var (.cmpPer n)).toNat
        let passed := (diff80 s.now80 (s.cmpTgt n)).toNat / per + 1
        if s.get (Reg.CMP_CTRL_MODE n) = 2 then
          let next := noted.setCmpTgt n (s.cmpTgt n + passed * per)
          Quiet (if late then next.put (Reg.CMP_CTRL_SKIPPED n) (min passed 65535) else next) t
        else Quiet (noted.put (Reg.CMP_CTRL_ARMED n) 0) t
      else t = s)

/-- The leap second: LEAP_SET announces one of UTC midnight at the end of a month, 43,200 s ahead at least to the fraction, and any nearer one is
refused with RANGE; with sign 0 it withdraws the one announced, and both are refused with LEAP_CONFLICT while one from the GNSS stands and its lane is
up; at L - 43,200 s the announcement is committed and the smear begins; at L CURRENT takes NEXT; and at L + 43,200 s the smear ends; each event
before its instant changes nothing (R70, R71, R72, R77). Where the spec leaves a point open, it follows the model's choices of log entries 9 and
135. -/
def Obligations.LeapSecond : Prop :=
  ∀ (s : State) (c : Ctx),
    (∀ (year month : Nat) (sign : Int), Ready s c opLeapSet → s.get Reg.TCO_STATUS_LEAP_COMMITTED = 0 →
      1970 ≤ year → year ≤ 65535 → 1 ≤ month → month ≤ 12 →
      let l : Int := (monthEnd year month : Int) + s.utcNow + sign
      let ahead : Int := l * (1000000000 * 2 ^ 52) - s.tc.time
      let held : Prop := s.var .leapSrc = 1 ∧ s.hostOnly = false ∧ s.gnssLaneUp = true
      (sign = 0 → s.get Reg.TCO_STATUS_LEAP_PENDING = 0 →
        ∃ t, exec (.leapSet c year month sign) s = .next t ∧ Ends s c opLeapSet Status.ok 0 id t) ∧
      (sign = 0 → s.get Reg.TCO_STATUS_LEAP_PENDING = 1 → ¬ held →
        ∃ t, exec (.leapSet c year month sign) s = .next t ∧ Ends s c opLeapSet Status.ok 0 (fun f =>
          (f.put Reg.UTC_OFFSET_NEXT (s.get Reg.UTC_OFFSET_CURRENT)).put Reg.TCO_STATUS_LEAP_PENDING 0) t) ∧
      (sign = 1 ∨ sign = -1 → 43200 * (1000000000 * 2 ^ 52) ≤ ahead → s.get Reg.TCO_STATUS_LEAP_PENDING = 0 ∨ ¬ held →
        ∃ t, exec (.leapSet c year month sign) s = .next t ∧ Ends s c opLeapSet Status.ok 0 (fun f =>
          ((((f.putI Reg.UTC_OFFSET_NEXT (s.utcNow + sign)).put64 Reg.LEAP_AT_LO_LA_LO Reg.LEAP_AT_HI_LA_HI
            (l.toNat * 1000000000 % 2 ^ 64)).put Reg.TCO_STATUS_LEAP_PENDING 1).put Reg.TCO_STATUS_LEAP_SIGN (if sign = -1 then 1 else 0)).setVar
            .leapSrc 0) t) ∧
      (sign = 1 ∨ sign = -1 → ahead < 43200 * (1000000000 * 2 ^ 52) →
        ∃ t, exec (.leapSet c year month sign) s = .next t ∧ Ends s c opLeapSet Status.range 0 id t) ∧
      (sign = 0 ∨ ((sign = 1 ∨ sign = -1) ∧ 43200 * (1000000000 * 2 ^ 52) ≤ ahead) → s.get Reg.TCO_STATUS_LEAP_PENDING = 1 → held →
        ∃ t offers, exec (.leapSet c year month sign) s = .next t ∧ Ends s c opLeapSet Status.leapConflict 0 (fun f =>
          { f with tc := { f.tc with offers := offers } }.put Reg.TCO_STICKY_LEAP_CONFLICT 1) t)) ∧
    (if s.get Reg.TCO_STATUS_LEAP_PENDING = 1 ∧ s.get Reg.TCO_STATUS_LEAP_COMMITTED = 0 ∧ 0 ≤ linDiff s.linear s.leapAt + 43200 * 1000000000 then
      ∃ t, exec .leapCommitted s = .next t ∧
        Quiet (((((s.put Reg.TCO_STATUS_LEAP_COMMITTED 1).put Reg.TCO_STATUS_SMEAR_ACTIVE 1).setVar .smearL (s.leapAt / 1000000000 : Nat)).setVar
          .smearSign s.leapSign).setVar .smearBefore s.utcNow) t
      else exec .leapCommitted s = .next s) ∧
    (if s.get Reg.TCO_STATUS_LEAP_COMMITTED = 1 ∧ 0 ≤ linDiff s.linear s.leapAt then
      ∃ t, exec .leapApplied s = .next t ∧
        Quiet (((s.put Reg.UTC_OFFSET_CURRENT (s.get Reg.UTC_OFFSET_NEXT)).put Reg.TCO_STATUS_LEAP_PENDING 0).put Reg.TCO_STATUS_LEAP_COMMITTED 0) t
      else exec .leapApplied s = .next s) ∧
    (if s.get Reg.TCO_STATUS_SMEAR_ACTIVE = 1 ∧ s.var .smearL + 43200 ≤ s.secs then
      exec .smearEnd s = .next (s.put Reg.TCO_STATUS_SMEAR_ACTIVE 0)
      else exec .smearEnd s = .next s)

/-- The time bus: at the crossing edge of a multiple of 1,600 ns, once, a marker of the Time Core's time is sent in its 416 bits, and the first after
a step decision announces the step; an arrival shows the port's error, its peak and the delay, and feeds RATE forward; a marker missed counts and
leaves TRACKING for UNSURE; 1 ms of UNSURE ends in CALIBRATING; and a port counter takes an announced step (R63, R73, R74, R75, R76). Where the spec
leaves a point open, it follows the model's choices of log entries 9, 46, 137, 138 and 139. -/
def Obligations.TimeBus : Prop :=
  ∀ s : State,
    (∃ t, exec .markerLaunch s = .next t ∧
      if s.crosses 1600 = true ∧ s.var .markerEdge ≠ (s.tc.edges : Int) + 1 then
        ∃ (plan : Option StepPlan) (flags : Nat) (size smear announced : Int),
          let seq := (s.var .markerSeq).toNat
          let utc := s.get Reg.UTC_OFFSET_CURRENT + 2 ^ 16 * s.get Reg.UTC_OFFSET_NEXT
          let delay := s.get Reg.TB_DELAY_DELAY
          let bits := markerBits (markerWord seq (s.tc.time / 2 ^ 20) s.tc.rt (s.get Reg.HOB_TEB_TEB) (s.get Reg.HOB_TRACE_TRACE)
            (s.get Reg.HOB_STATUS_STATE) flags utc size smear delay)
          let m := Out.marker seq (s.tc.time / 2 ^ 20) s.tc.rt (s.get Reg.HOB_TEB_TEB) (s.get Reg.HOB_TRACE_TRACE) (s.get Reg.HOB_STATUS_STATE) flags
            utc size smear delay bits
          let sent := ({ s with tc := { s.tc with plan := plan }, out := m :: s.out }).setVar .markerTime (s.tc.time / 2 ^ 20 : Nat)
          t = ((((sent.setVar .markerDelay (delay : Nat)).setVar .markerStep announced).setVar .markerRate s.tc.rt).setVar .markerEdge
            (s.tc.edges + 1 : Nat)).setVar .markerSeq ((s.var .markerSeq + 1) % 256) ∧ bits.length = 52 ∧
          (s.tc.plan = none → plan = none ∧ size = 0 ∧ announced = 0 ∧ flags % 2 = 0) ∧
          (∀ p, s.tc.plan = some p → p.edge < s.tc.edges → plan = some { p with launches := p.launches + 1 } ∧
            size = (if p.launches = 0 then p.whole else 0) ∧ flags % 2 = (if p.launches = 0 then 1 else 0))
      else t = s) ∧
    (∀ p, p < 4 →
      (∃ t, exec (.markerMissed p) s = .next t ∧
        if s.tbState p = 3 then t = s
        else if s.tbState p = 1 then
          Quiet ((((((s.bump (Reg.TB_MISS_MISS p)).breakRun p).setTb p 2).setVar (.tbUnsureAt p) s.runNs).breakRun p).putBit
            Reg.TCO_STICKY_TB_UNSURE_SEEN p true) t
        else t = (s.bump (Reg.TB_MISS_MISS p)).breakRun p) ∧
      (∃ t, exec (.noGoodMarker p) s = .next t ∧
        if s.tbState p = 2 ∧ s.due (.tbQuiet p) then t = (s.setTb p 0).serveUpdate else t = s) ∧
      (∀ (counter : Int) (trip : Nat) (steady : Bool), ∃ t, exec (.markerArrival p true counter trip steady) s = .next t ∧
        (s.tbState p ≠ 3 → ∃ u, t = u.serveUpdate ∧
          let err := s.portError p counter
          let shown := (((s.putI (Reg.TB_ERR_ERR p) (satI 16 err)).portServo p counter).put (Reg.TB_PEAK_PEAK p)
            (max (s.get (Reg.TB_PEAK_PEAK p)) (min err.natAbs 65535))).putI
            Reg.TB_DELAY_DELAY (((trip : Int) - turnaround) / 2 + s.getI Reg.TB_ASYM_ASYM)
          if 20 * 1024 ≤ err.natAbs * 1000 then
            Quiet (if s.tbState p = 1 then ((((shown.breakRun p).setTb p 2).setVar (.tbUnsureAt p) s.runNs).breakRun p).putBit
              Reg.TCO_STICKY_TB_UNSURE_SEEN p true else shown.breakRun p) u
          else
            let good := s.var (.tbGood p) + 1
            let trips := (trip :: (s.port p).trips).take 256
            let quiet := ((shown.setVar (.tbGood p) good).setPort p { shown.port p with trips := trips }).arm (.tbQuiet p) 1000000
            Quiet (if (s.tbState p = 0 ∧ 256 ≤ good ∧ tripsSteady trips = true) ∨ (s.tbState p = 2 ∧ 4 ≤ good) then quiet.setTb p 1 else quiet) u ∧
              ∃ x y : Int, shown.var (.portCtr p) = counter * 2 ^ 42 + x ∧ shown.var (.portRate p) = s.var .markerRate + y ∧
                shown.var (.portAt p) = s.tc.edges)) ∧
      (∃ t, exec (.portCounterStep p) s = .next t ∧
        if s.tbState p ≠ 3 ∧ s.portStepDue p = true
        then t = (s.setVar (.portCtr p) (s.var (.portCtr p) + s.var (.portStep p) * 2 ^ 52)).setVar (.portStep p) 0
        else t = s))

/-- The discipline's commands: TIME_RESET arms a step, saturates the bound and has the loop settle again, without moving the time; MODEL_RESET forgets
the models and the seconds of lock, unless the model carries the time; TEB_PREDICT completes with the bound at τ. What time does to the discipline:
the loop settles; while LOCKED with WARMING clear the model takes one record a second, the mean RATE_ADJ of it, and else none; and at 300 s of lock it
becomes valid (R62, R115, R121, R122, R123, R131, R137, R138). Where the spec leaves a point open, it follows the model's choices of log entries 9 and
20. -/
def Obligations.Discipline : Prop :=
  (∀ (s : State) (c : Ctx),
    (Ready s c opTimeReset → ∃ t, exec (.timeReset c) s = .next t ∧ t.tc = s.tc ∧ t.get Reg.TCO_STATUS_STEP_ARMED = 1 ∧
      t.get Reg.HOB_TEB_TEB = 2 ^ 32 - 1 ∧ t.get Reg.HOB_STATUS_TEB_SAT = 1 ∧ t.get Reg.HOB_STICKY_TEB_SAT = 1 ∧
      t.get Reg.HOB_TEB0_TEB0 = 2 ^ 32 - 1 ∧ t.get64 Reg.HOB_T0_LO_T0_LO Reg.HOB_T0_HI_T0_HI = s.linear ∧
      t.get Reg.HOB_STATUS_ANCHORED = 1 ∧ t.var .settled = 0 ∧ t.timer .settle = none ∧ t.get Reg.HOB_STATUS_STATE = s.get Reg.HOB_STATUS_STATE) ∧
    (Ready s c opModelReset → ∃ t, exec (.modelReset c) s = .next t ∧
      if s.get Reg.HOB_STATUS_STATE = 3 ∨ s.get Reg.HOB_STATUS_STATE = 4 ∨ (s.get Reg.HOB_STATUS_STATE = 1 ∧ s.selKind = 0)
      then Ends s c opModelReset Status.busy 0 id t
      else t.disc.ocxo.recs = [] ∧ t.disc.atom = [] ∧ t.get Reg.HOB_LOCK_HIST_SECONDS = 0 ∧ t.get Reg.HOB_STATUS_MODEL_VALID = 0 ∧
        t.get Reg.HOB_STICKY_MODEL_RESET = 1 ∧ t.tc = s.tc ∧ t.get Reg.HOB_STATUS_STATE = s.get Reg.HOB_STATUS_STATE) ∧
    (∀ tau, Ready s c opTebPredict → s.boundAnchored = true → ∃ t, exec (.tebPredict c tau) s = .next t ∧
      if tau < 1 ∨ 31536000 < tau then Ends s c opTebPredict Status.range 0 id t
      else ∃ secs, Ends s c opTebPredict Status.ok (min (tebAnchored (s.get Reg.HOB_TEB0_TEB0) (s.get Reg.HOB_UY_USE_UY)
        (s.get Reg.HOB_AMAX_USE_AMAX) (s.get Reg.HOB_W_USE_W) ((linDiff s.linear s.t0).toNat + tau * 1000000000)) (2 ^ 32 - 1) + 2 ^ 32 * secs) id t)) ∧
  (∀ s : State,
    (∃ t, exec .loopSettled s = .next t ∧
      if s.due .settle ∧ s.selKind ≠ 0 ∧ s.var .settled = 0
      then t = if s.atLap then (s.setVar .settled 1).discLap else s.setVar .settled 1
      else t = s) ∧
    (∃ t, exec .modelRefit s = .next t ∧
      if s.get Reg.HOB_STATUS_STATE ≠ 2 ∨ s.get Reg.TIM_STATUS_WARMING = 1 then t = s.setVar .secOn 0
      else if s.var .secOn = 0 then
        t = s.beginSecond ∧ t.var .secOn = 1 ∧ t.var .secEdges = s.tc.edges ∧ t.var .secAdj = s.tc.adjSum ∧ t.var .secAt = s.runNs ∧
          t.timer .modelSec = some (s.runNs + 1000000000) ∧ t.regs = s.regs ∧ t.tc = s.tc ∧
          ∀ n, n < 16 → t.lane n = { s.lane n with qSum := 0, qCnt := 0 }
      else if s.due .modelSec then
        let mean := roundDiv (s.tc.adjSum - s.var .secAdj) (25 * (s.tc.edges - (s.var .secEdges).toNat : Nat))
        let made := s.recordSecond mean ((s.var .secAt).toNat + 500000000)
        let counted := made.bumpSat Reg.HOB_LOCK_HIST_SECONDS
        t = (counted.showModel counted.pickSrc).beginSecond
      else t = s) ∧
    (∃ t, exec .modelValid s = .next t ∧
      if s.modelValid = false then t = s
      else if s.get Reg.HOB_STATUS_MODEL_VALID = 0 then Quiet ((s.put Reg.HOB_STATUS_MODEL_VALID 1).putBit Reg.HOB_STICKY_MODEL_VALID 0 true) t
      else t = s.put Reg.HOB_STATUS_MODEL_VALID 1))

/-- The selector's commands: LANE_FORCE forces one AVAILABLE, SELECTED or SUSPECT lane that gives phase or frequency, LANE_RELEASE ends the force,
LANE_CLEAR is noted for the lap boundary, and SEL_MODE_SET sets all five of its values or none (R108, R109, R110, R111, R112). -/
def Obligations.SelectorCommands : Prop :=
  ∀ (s : State) (c : Ctx),
    (∀ n, Ready s c (opLaneForce (s.isPartner n)) → n < 16 → ∃ t, exec (.laneForce c n) s = .next t ∧
      if ¬ (s.laneSt n = 3 ∨ s.laneSt n = 4 ∨ s.laneSt n = 5) ∨ s.laneType n = 3 ∨ (s.laneSrc n = 0x14 ∧ s.serves)
      then Ends s c (opLaneForce (s.isPartner n)) Status.notFit 0 id t
      else s.laneSt n ≠ 5 → Ends s c (opLaneForce (s.isPartner n)) Status.ok 0 (fun f =>
        ((match f.forced with
          | some o => f.put (Reg.LANE_STATE_FORCED o) 0
          | none => f).setVar .forcedLane (n + 1)).put (Reg.LANE_STATE_FORCED n) 1) t) ∧
    (Ready s c opLaneRelease → ∃ t, exec (.laneRelease c) s = .next t ∧ Ends s c opLaneRelease Status.ok 0 (fun f =>
      (match f.forced with
        | some o => f.put (Reg.LANE_STATE_FORCED o) 0
        | none => f).setVar .forcedLane 0) t) ∧
    (∀ n, Ready s c opLaneClear → ∃ t, exec (.laneClear c n) s = .next t ∧
      if 16 ≤ n then Ends s c opLaneClear Status.range 0 id t
      else Ends s c opLaneClear Status.ok 0 (fun f => f.setLane n { f.lane n with clear := decide (s.laneSt n = 5 ∨ s.laneSt n = 6) }) t) ∧
    (∀ revertive wtr avg agree span : Nat, Ready s c opSelModeSet → ∃ t, exec (.selModeSet c revertive wtr avg agree span) s = .next t ∧
      if revertive ≤ 1 ∧ wtr ≤ 3600 ∧ 10 ≤ avg ∧ avg ≤ 10000 ∧ agree < 2 ^ 32 ∧ 600 ≤ span ∧ span ≤ 65535
      then Ends s c opSelModeSet Status.ok 0 (fun f => ((((f.put Reg.SEL_CTRL_REVERTIVE revertive).put Reg.SEL_TIMERS_WTR wtr).put
        Reg.SEL_TIMERS_AVG_WIN avg).put Reg.SEL_AGREE_AGREE agree).put Reg.SEL_XCHK_XCHK_SPAN span) t
      else Ends s c opSelModeSet Status.range 0 id t)

/-- What happens to a lane: a measurement, with the delay of its REFIN pin taken off, shows its offset; a loss of signal on a REFIN pin, once its
edges have been missing as long as its criterion says and not before, is noted at its edge and freezes the loop of the SELECTED lane; at a lap
boundary QUAL_TIME ends in AVAILABLE, DISQ_HOLD in QUALIFYING, and WTR in a new choice once the lap's lane states stand; a warning, and at a lap
boundary a disagreement, end when the quantity has stayed within its limit. The shadow of the cross-check is anchored anew where the model is valid,
its span is over: it starts from no departure, the bound in force and the parameters of the source in use; and a
build-out that has been retired is reported once (R84, R85, R88, R90, R91, R92, R97, R100, R101, R142, R497). Where the spec leaves a point open, it
follows the model's choices of log entries 9, 14, 17, 22, 140 and 148. -/
def Obligations.LaneEvents : Prop :=
  (∀ (s : State) (n : Nat), n < 16 →
    (∀ off : Int, s.synceOut n = true → exec (.laneMeasurement n off) s = .next s) ∧
    (∀ off : Int, s.laneSt n ≠ 0 → s.laneOn n = true → s.synceOut n = false →
      ∃ t u, exec (.laneMeasurement n off) s = .next t ∧ Quiet (s.measureLane n (s.laneReading n off) s.mark) u ∧
        s.laneReading n off = off + (if s.laneSrc n < 8 then s.getI (Reg.REFIN_DELAY_DELAY (s.laneSrc n)) * 64 else 0) ∧
        (s.measureLane n (s.laneReading n off) s.mark).get64 (Reg.LANE_OFFSET_LO_OFS_LO n) (Reg.LANE_OFFSET_HI_OFS_HI n)
          = toBits 64 (if s.laneType n = 2 then s.laneReading n off else foldPhase (s.laneReading n off) (s.laneNom n)) ∧
        t = (if u.laneSt n = 4 then
            (if u.var .frozen = 1 then u else (u.loopUpdate n s.mark.at16).residual n (u.loopUpdate n s.mark.at16).loopResidual)
          else if u.lanePT n then u.residual n (u.fitResidual n) else u).crossCheck n) ∧
    (∀ since, s.losDue n since = false → exec (.los ⟨n, since⟩) s = .next s) ∧
    (∀ since, s.laneSt n ≠ 0 → s.losDue n since = true → ∃ t, exec (.los ⟨n, since⟩) s = .next t ∧ (t.lane n).up = false ∧ (t.lane n).los = true ∧
      (s.laneSt n = 4 → s.var .frozen = 0 → t.var .frozen = 1 ∧ t.var .freezeAt = s.linear ∧ t.var .freezeTeb = s.get Reg.HOB_TEB_TEB) ∧
      (s.laneSt n ≠ 4 → t.var .frozen = s.var .frozen) ∧ t.laneSt n = s.laneSt n ∧ t.tc = s.tc) ∧
    (s.atLap = true → s.selectorOn = true → s.laneSt n = 2 → s.due (.qual n) = true → s.laneRank n ≠ 0 → s.lostCause n = none → s.limitCause n = none →
      s.inHoldover = false → ∃ t, exec (.qualTimeExpiry n) s = .next t ∧ t.laneSt n = 3 ∧ t.get (Reg.LANE_STATE_CAUSE n) = 0 ∧
        t.timer (.qual n) = none ∧ t.tc = s.tc) ∧
    (s.atLap = true → s.selectorOn = true → s.laneSt n = 6 → s.due (.disq n) = true → s.laneRank n ≠ 0 → s.lostCause n = none →
      ∃ t, exec (.disqHoldExpiry n) s = .next t ∧ t.laneSt n = 2 ∧ t.get (Reg.LANE_STATE_CAUSE n) = 0 ∧ t.timer (.disq n) = none ∧
        t.timer (.qual n) = some (s.runNs + s.get (Reg.LANE_TIMERS_QUAL_TIME n) * 1000000000) ∧ t.tc = s.tc) ∧
    (∃ t, exec .wtrExpiry s = .next t ∧
      if s.atLap ∧ s.selectorOn ∧ s.due .wtr ∧ s.var .wtrLane ≠ 0 ∧ s.var .lapEdge = (s.tc.edges : Int) + 1 then t = (s.choose.setAllows).discLap else t = s) ∧
    (∀ k, k < 3 → ∃ t, exec (.warnClear n k) s = .next t ∧
      if s.due (.warn n k) ∧ bit (s.lane n).warn k ∧ s.warnCrossed n k = false then ∃ u, t = u.setAllows ∧
        u = ((s.setLane n { s.lane n with warn := clrBit (s.lane n).warn k }).put (Reg.LANE_STATE_WARN n)
          (if clrBit (s.lane n).warn k = 0 then 0 else 1)).stopTimer (.warn n k)
      else t = s) ∧
    (∀ b, ∃ t, exec (.disagreeEnd n b) s = .next t ∧
      let es := s.episodes.filter fun e => decide ((e.a = n ∧ e.b = b) ∨ (e.force = true ∧ e.a = b ∧ e.b = n))
      if s.atLap ∧ s.selectorOn ∧ es ≠ [] then t = (s.endAgreed es).setAllows ∧
        (∀ e, es = [e] → s.endAgreed es = (if s.due e.timer ∧ s.agreeNow e then s.endEpisode e false else s)) else t = s)) ∧
  (∀ s : State,
    (s.modelValid = true → (s.var .shadowOn = 0 ∨ s.due .shadow = true) →
      ∃ t, exec .shadowAnchor s = .next t ∧ t.tc = { s.tc with dep := 0 } ∧ t.regs = s.regs ∧ t.var .shadowOn = 1 ∧ t.var .shadowAt = s.runNs ∧
        t.var .shadowTeb = s.get Reg.HOB_TEB_TEB ∧ t.timer .shadow = some (s.runNs + s.get Reg.SEL_XCHK_XCHK_SPAN * 1000000000)) ∧
    (∃ t, exec .buildoutRetired s = .next t ∧
      if s.tc.bDone then Quiet { s with tc := { s.tc with bDone := false } } t else t = s))

/-- The commands of the interval measurement: HEAT_START arms a heat with its parameters on a free TDC lane that works and completes with its number;
HEAT_STOP ends one that runs; REFIN_DELAY_SET sets a pin's delay unless the pin is SELECTED; WARM_SET sets the warm-up flag and leaves the run of
seconds (R142, R150, R158, R159). Where the spec leaves a point open, it follows the model's choices of log entries 29, 152 and 154. -/
def Obligations.IntervalCommands : Prop :=
  ∀ (s : State) (c : Ctx),
    (∀ (k : Nat) (p : HeatPar), Ready s c opHeatStart → k < 24 → p.ok = true → s.servesLane k = false → s.heatRuns k = false →
      s.tdcWorks k = true → ∃ t, exec (.heatStart c k p.start p.startEdge p.stop p.stopEdge p.splits p.n p.window p.sgn p.win p.scale p.keep
        p.stat) s = .next t ∧ Ends s c opHeatStart Status.ok ((s.get (Reg.TDC_STATE_HEAT_NO k) + 1) % 2 ^ 16) (fun f => f.armHeat k p) t ∧
        t.heatSt k = 1 ∧ t.get (Reg.TDC_HEAT_N k) = p.n ∧ t.get (Reg.TDC_HEAT_DONE k) = 0 ∧ t.get (Reg.TDC_CFG_SPLITS k) = p.splits ∧
        t.get (Reg.TDC_WINDOW_WINDOW k) = p.window ∧ t.get (Reg.STAT_COUNT_INCLUDED k) = 0 ∧ (t.heat k).meas = none) ∧
    (∀ k, Ready s c opHeatStop → k < 24 → ∃ t, exec (.heatStop c k) s = .next t ∧
      Ends s c opHeatStop Status.ok 0 (fun f => (f.stopHeat k 4 0).leaveTdc k) t ∧
      (s.heatSt k = 1 → s.var (.tdcLeaving k) = 0 → Ends s c opHeatStop Status.ok 0 (fun f =>
        ((f.put (Reg.TDC_STATE_HEAT_STATE k) 4).stopTimer (.tdcWindow k)).useUpdate k) t)) ∧
    (∀ (pin : Nat) (delay : Int), Ready s c opRefinDelaySet → pin < 8 → s.cur = none → ∃ t, exec (.refinDelaySet c pin delay) s = .next t ∧
      if -1024000000 ≤ delay ∧ delay ≤ 1024000000 then Ends s c opRefinDelaySet Status.ok 0 (fun f => f.putI (Reg.REFIN_DELAY_DELAY pin) delay) t
      else Ends s c opRefinDelaySet Status.range 0 id t) ∧
    (Ready s c opWarmSet → ∃ t, exec (.warmSet c) s = .next t ∧ Ends s c opWarmSet Status.ok 0 (fun f =>
      ((f.put Reg.TIM_STATUS_WARMING 1).put Reg.TIM_STATUS_WARM_BY_TIMEOUT 0).setVar .warmAt f.runNs) t)

/-- What happens to a heat on a TDC lane whose inputs differ: the START edge opens a measurement, with its stamp and its window; a STOP edge adds a
split to it, of the interval less the steps made since, unless its stamp lies before the measurement's window, which counts as a false start; and a
window that elapses closes it, counted as a timeout (R142, R145, R146, R148, R149, R150, R151). Where the spec leaves a point open, it follows the
model's choice of log entry 9. -/
def Obligations.IntervalEvents : Prop :=
  ∀ (s : State) (k fine : Nat), k < 24 → fine < 102400 → s.sameInput k = false →
    (s.heatSt k = 1 → (s.heat k).meas = none → (s.heat k).waiting = [] → inDeadTime (s.heat k).lastStart (s.stampTclk fine) = false →
      ∃ t m, exec (.startEdge k fine) s = .next t ∧ t.heatSt k = 2 ∧ (t.heat k).meas = some m ∧ m.splits = [] ∧
        m.scaled = s.scaled k (s.get (Reg.TDC_CFG_START_SRC k)) fine ∧ m.steps = s.heatSteps k ∧ (t.heat k).lastStart = some (s.stampTclk fine) ∧
        t.timer (.tdcWindow k) = some (s.runNs + s.get (Reg.TDC_WINDOW_WINDOW k) * 1000) ∧ t.var (.tdcStamp k) = s.stampTime fine - s.srcDelay (s.get (Reg.TDC_CFG_START_SRC k)) ∧
        t.tc = s.tc) ∧
    (∀ m, s.heatSt k = 2 → (s.heat k).meas = some m → m.splits.length + 1 < s.get (Reg.TDC_CFG_SPLITS k) →
      inDeadTime (s.heat k).lastStop (s.stampTclk fine) = false →
      let x := (s.scaled k (s.get (Reg.TDC_CFG_STOP_SRC k)) fine - m.scaled) - (s.heatSteps k - m.steps)
      x ≤ s.get (Reg.TDC_WINDOW_WINDOW k) * 65536000 →
      ∃ t, exec (.stopEdge k fine) s = .next t ∧ t.heatSt k = 2 ∧ t.tc = s.tc ∧ (t.heat k).lastStop = some (s.stampTclk fine) ∧
        if -s.signedWin k ≤ x then
          ∃ m', (t.heat k).meas = some m' ∧ m'.splits = m.splits ++ [recorded x] ∧ m'.stepped = (m.stepped || decide (s.heatSteps k ≠ m.steps))
        else (t.heat k).meas = some m ∧ t.get (Reg.TDC_FALSE_START_COUNT k) = (s.get (Reg.TDC_FALSE_START_COUNT k) + 1) % 2 ^ 32) ∧
    (∀ m, s.heatSt k = 2 → s.due (.tdcWindow k) = true → (s.heat k).meas = some m → s.get (Reg.TDC_CFG_KEEP k) = 0 → s.var (.tdcLeaving k) = 0 →
      s.get (Reg.TDC_HEAT_DONE k) + 1 < s.get (Reg.TDC_HEAT_N k) →
      ∃ t, exec (.windowExpiry k) s = .next t ∧ t.heatSt k = 1 ∧ (t.heat k).meas = none ∧ t.get (Reg.TDC_HEAT_DONE k) = (s.get (Reg.TDC_HEAT_DONE k) + 1) % 2 ^ 16 ∧
        t.get (Reg.TDC_TIMEOUTS_COUNT k) = (s.get (Reg.TDC_TIMEOUTS_COUNT k) + 1) % 2 ^ 32 ∧ t.timer (.tdcWindow k) = none ∧ t.tc = s.tc)

/-- The calibration rotation: at its slot's edge the spare connects to a TDC lane's inputs; 1 ms on it owns the lane's work, and in its own slot it
calibrates itself; the lane reconnects with its check and returns to its work, its age begun anew; an age past the limit is reported once; and the
lane the spare stood in for begins the overlap at a second and has its work back 1 ms later, when the rotation resumes. The warm-up flag clears when
100 seconds running have kept within 28,147 units, or by its time limit; which of the two is shown (R154, R155, R156, R157, R158). Where the spec
leaves a point open, it follows the model's choices of log entries 9, 23, 24, 153 and 154. -/
def Obligations.CalibrationAndWarmUp : Prop :=
  (∀ (s : State) (k : Nat), k < 25 →
    (∃ t, exec (.calSlotStart k) s = .next t ∧
      if s.get Reg.TIM_STATUS_ROTATING = 1 ∧ s.unitOn (tdcHid 24) ∧ s.var .calUnit = 0 ∧ k = s.slotNow ∧ s.crosses 31250000 ∧
        (k = 0 ∨ s.var .calSkew = 0) ∧ s.unitOn (tdcHid k)
      then t = ((((s.setVar .calUnit (k + 1)).setVar .calPhase 1).put Reg.TIM_STATUS_CAL_LANE k).put (Reg.TDC_CFG_SERVED_BY 24) k).setTimer .cal
        (s.runNs + 1000000)
      else t = s) ∧
    (∃ t, exec (.calHandover k) s = .next t ∧
      if s.var .calUnit = k + 1 ∧ s.var .calPhase = 1 ∧ s.due .cal
      then t = if k = 24 then ((s.setVar .calPhase 2).put (Reg.TDC_CFG_USE k) 3).setTimer .cal (s.runNs + 248000000)
        else (((s.setVar .calPhase 2).put (Reg.TDC_CFG_USE k) 3).put (Reg.TDC_CFG_SERVED_BY k) 24).setTimer .cal (s.runNs + 29250000)
      else t = s) ∧
    (∀ (err diff : Int) (lsb : Nat), err.natAbs ≤ s.get Reg.TIM_CAL_CTRL_CAL_TOL → diff.natAbs ≤ s.get Reg.TIM_CAL_CTRL_CAL_TOL →
      ∃ t, exec (.calReconnect k err diff lsb) s = .next t ∧
        if s.var .calUnit = k + 1 ∧ s.var .calPhase = 2 ∧ s.due .cal
        then t = ({ ((s.setVar .calPhase 3).putI (Reg.TDC_CAL_DIFF_DIFF k) (satI 16 diff)).put (Reg.TDC_CAL_LSB_LSB k) lsb with
          tim := { s.tim with fails := aput s.tim.fails k 0 } }.setVar .calOk 1).setTimer .cal (s.runNs + 1000000)
        else t = s) ∧
    (∃ t, exec (.calReturn k) s = .next t ∧
      (s.var .calUnit = k + 1 → s.var .calPhase = 3 → s.due .cal = true → s.var .calOk = 1 →
        t.get (Reg.TDC_CFG_SERVED_BY k) = k ∧ t.get (Reg.TDC_CFG_SERVED_BY 24) = 24 ∧ t.calAge k = 0 ∧ t.var .calUnit = 0 ∧ t.timer .cal = none ∧
        k ∉ t.tim.stale ∧ (k < 24 → s.heatRuns k = true → t.get (Reg.TDC_CFG_USE k) = 1))) ∧
    (s.get Reg.TIM_CAL_CTRL_STALE_AGE < s.calAge k → k ∉ s.tim.stale →
      ∃ t, exec (.calStale k) s = .next t ∧ k ∈ t.tim.stale ∧ bit (t.get Reg.TIM_STICKY_STICKY) 5 = true ∧ t.tc = s.tc) ∧
    (∀ diff : Int, k < 24 → s.atSecond = true → s.unitOn (tdcHid k) = true → s.get Reg.TIM_STATUS_SPARE_SUBST = 1 → s.get Reg.TIM_STATUS_SUBST_LANE = k →
      s.var .calUnit = 0 → aget s.tim.moved k = none → diff.natAbs ≤ s.get Reg.TIM_CAL_CTRL_CAL_TOL → exec (.takeBack ⟨k, diff⟩) s =
        .next (((((s.setVar .calUnit (k + 1)).setVar .calPhase 4).setVar .calOk 0).putI (Reg.TDC_CAL_DIFF_DIFF k) (satI 16 diff)).setTimer .cal
          (s.runNs + 1000000))) ∧
    (k < 24 → s.var .calUnit = k + 1 → s.var .calPhase = 4 → s.due .cal = true → ∃ t, exec (.calReturn k) s = .next t ∧
      t.get (Reg.TDC_CFG_SERVED_BY k) = k ∧ t.get (Reg.TDC_CFG_SERVED_BY 24) = 24 ∧ t.get Reg.TIM_STATUS_SPARE_SUBST = 0 ∧
      t.get Reg.TIM_STATUS_SUBST_LANE = 0 ∧ t.get Reg.TIM_STATUS_ROTATING = (if s.unitOn (tdcHid 24) then 1 else 0) ∧ t.var .calUnit = 0 ∧
      t.timer .cal = none)) ∧
  (∀ s : State,
    (s.get Reg.TIM_STATUS_WARMING = 1 → s.var .warmEdges = s.tc.edges → s.tim.warmRun.length = 100 → spread s.tim.warmRun ≤ 28147 →
      ∃ t, exec .warmCleared s = .next t ∧ t.get Reg.TIM_STATUS_WARMING = 0 ∧ t.get Reg.TIM_STATUS_WARM_BY_TIMEOUT = 0 ∧
        bit (t.get Reg.TIM_STICKY_STICKY) 6 = true ∧ t.tc = s.tc) ∧
    (s.get Reg.TIM_STATUS_WARMING = 1 → s.get Reg.TIM_WARM_TIMEOUT ≠ 0 → s.get Reg.TIM_WARM_TIMEOUT ≤ s.warmElapsed →
      ∃ t, exec .warmTimeout s = .next t ∧ t.get Reg.TIM_STATUS_WARMING = 0 ∧ t.get Reg.TIM_STATUS_WARM_BY_TIMEOUT = 1 ∧
        bit (t.get Reg.TIM_STICKY_STICKY) 7 = true ∧ t.tc = s.tc) ∧
    (s.get Reg.TIM_STATUS_WARMING = 0 → (∃ t, exec .warmCleared s = .next t ∧ t = s) ∧ ∃ t, exec .warmTimeout s = .next t ∧ t = s))

/-- The synthesis groups' commands: SYN_START of an IDLE group whose registers keep to their rules reads them, sets G to 0 and begins band
calibration with the phase of the present time, and runs on; SYN_STOP ends in IDLE unless SYN_D serves a powered port domain or SYN_C the link;
SYN_FREQ_STEP begins a ramp of at most 10 ppm of the starting frequency each tick, its phase kept and its left steps shown, and runs on (R162, R163,
R167, R168, R175, R180, R181, R182). Where the spec leaves a point open, it follows the model's choices of log entries 53, 54 and 155. -/
def Obligations.SynthesisCommands : Prop :=
  ∀ (s : State) (c : Ctx) (g : Nat), g < 4 →
    (Ready s c opSynStart → ∃ t, exec (.synStart c g) s = .next t ∧
      if s.synSt g ≠ 0 then Ends s c opSynStart Status.busy 0 id t
      else if s.synCfgOk g = false then Ends s c opSynStart Status.range 0 id t
      else ∃ u, Starts s c (fun f => f.hold c opSynStart (s.sessionRole c.ring c.session) [g]) u ∧ t = u.synStart g ∧ t.synSt g = 1 ∧
        t.get (Reg.SYN_STATE_CFG_PENDING g) = 0 ∧ t.get (Reg.SYN_STATE_TH_ENGAGED g) = 0 ∧ t.tc = s.tc ∧
        t.grp g = { num := s.synNum g, den := s.get (Reg.SYN_DEN_DEN g), n := s.get (Reg.SYN_CFG_N g), rTick := s.tc.rt, rD := s.tc.rt
                    phi := s.tc.time * s.synNum g }) ∧
    (Ready s c opSynStop → ∃ t, exec (.synStop c g) s = .next t ∧
      if (g = 3 ∧ (s.powered 9 ∨ s.powered 10)) ∨ (g = 2 ∧ s.get Reg.TWN_CTRL_TWIN_EN = 1) then Ends s c opSynStop Status.busy 0 id t
      else Ends s c opSynStop Status.ok 0 (fun f => f.synStop g Status.interrupted) t) ∧
    (∀ num den, 0 < num → num < 2 ^ 48 → 0 < den → den < 65536 → Ready s c opSynFreqStep →
      ∃ t, exec (.synFreqStep c g num den) s = .next t ∧
        if 2 ≤ g then Ends s c opSynFreqStep Status.notPermitted 0 id t
        else if s.synSt g ≠ 3 ∨ (s.grp g).ramp ≠ none then Ends s c opSynFreqStep Status.busy 0 id t
        else if s.stepFits g num den = false then Ends s c opSynFreqStep Status.range 0 id t
        else if s.drivesPulse g then Ends s c opSynFreqStep Status.busy 0 id t
        else ∃ p : Ramp, p.made = 0 ∧ p.num1 = num ∧ p.den1 = den ∧ p.num0 = (s.grp g).num ∧ p.den0 = (s.grp g).den ∧ 1 ≤ p.total ∧
          ((num * p.den0 : Nat) - (p.num0 * den : Nat) : Int).natAbs * 100000 ≤ p.total * max 1 (p.num0 * den) ∧
          Starts s c (fun f => (((f.hold c opSynFreqStep (s.sessionRole c.ring c.session) [g, num, den]).setGrp g
            { s.grp g with ramp := some p, num := p.num, den := (s.grp g).den * 100000, phi := (s.grp g).phi * 100000 }).put
            (Reg.SYN_STATE_RAMPING g) 1).put (Reg.SYN_STATE_RAMP_LEFT g) p.total) t)

/-- How a group loses lock: a LOCKED group with no ramp, at a slip or at a window past UNLOCK_TOL, is HELD with its cause, its loss counted and
stamped with LINEAR_NS, its track-and-hold engaged and its delay running, by what its lock registers held at the window's beginning; a RELOCKING group
that was released fails its attempt at a slip, but no window is judged before its ramp back has ended; and a HELD group whose delay or whose second
since a failure is over goes RELOCKING and is released once measured (R173, R174, R175, R176, R177, R182). Where the spec leaves a point open, it
follows the model's choices of log entries 9 and 55. -/
def Obligations.SynthesisLossOfLock : Prop :=
  ∀ (s : State) (g : Nat), g < 4 →
    (s.synSt g = 3 → (s.grp g).ramp = none → ∃ t, exec (.cycleSlip g) s = .next t ∧ t.synSt g = 4 ∧ t.get (Reg.SYN_STATE_CAUSE g) = 1 ∧
      t.get (Reg.SYN_STATE_TH_ENGAGED g) = 1 ∧ t.get (Reg.SYN_LOSSES_COUNT g) = (s.get (Reg.SYN_LOSSES_COUNT g) + 1) % 2 ^ 32 ∧
      t.get64 (Reg.SYN_LAST_LOSS_LO_AT_LO g) (Reg.SYN_LAST_LOSS_HI_AT_HI g) = s.linear ∧
      t.timer (.relock g) = some (s.runNs + 1000000 * (s.lockCfg g).delay) ∧ t.tc = s.tc) ∧
    (∀ (diff khz : Nat) (foff : Int), s.synSt g = 3 → (s.grp g).ramp = none → ∃ t, exec (.lockWindow g diff khz foff) s = .next t ∧
      t.get (Reg.SYN_VCO_KHZ_FREQ g) = min khz (2 ^ 23 - 1) ∧ t.tc = s.tc ∧
      (t.grp g).win = none ∧
      if (s.lockCfg g).unl < diff
      then t.synSt g = 4 ∧ t.get (Reg.SYN_STATE_CAUSE g) = 2 ∧ t.get (Reg.SYN_STATE_TH_ENGAGED g) = 1
      else t.synSt g = 3 ∧ t.get (Reg.SYN_STATE_CAUSE g) = s.get (Reg.SYN_STATE_CAUSE g)) ∧
    (s.synSt g = 5 → (s.grp g).released = true → ∃ t, exec (.cycleSlip g) s = .next t ∧ t.synSt g = 4 ∧
      t.get (Reg.SYN_RELOCK_FAILS_COUNT g) = (s.get (Reg.SYN_RELOCK_FAILS_COUNT g) + 1) % 2 ^ 32 ∧ (t.grp g).attempts = (s.grp g).attempts + 1 ∧
      t.timer (.relock g) = some (s.runNs + 1000000000) ∧ t.tc = s.tc) ∧
    (s.synSt g = 4 → s.unitFenced (0x1000 + g) = false → s.due (.relock g) = true →
      (∃ t, exec (.relockDelayExpiry g) s = .next t ∧
        if (s.grp g).attempts = 0 then t.synSt g = 5 ∧ (t.grp g).released = false ∧ t.timer (.relock g) = none ∧ t.tc = s.tc else t = s) ∧
      (∃ t, exec (.relockRetry g) s = .next t ∧
        if (s.grp g).attempts ≠ 0 then t.synSt g = 5 ∧ (t.grp g).released = false ∧ t.timer (.relock g) = none ∧ t.tc = s.tc else t = s)) ∧
    (∀ off rate : Int, s.synSt g = 5 → (s.grp g).released = false → ∃ t, exec (.relockRelease g off rate) s = .next t ∧
      t.get (Reg.SYN_STATE_TH_ENGAGED g) = 0 ∧ (t.grp g).g = clampG off ∧ (t.grp g).phi = ((s.tc.time : Int) - clampG off) * (s.grp g).num ∧
      (t.grp g).rD = rate ∧ (t.grp g).released = true ∧ (t.grp g).back = 1 ∧ t.synSt g = 5 ∧ t.tc = s.tc) ∧
    (∀ (diff khz : Nat) (foff : Int), s.synSt g = 5 → (s.grp g).released = true → (s.grp g).back ≠ 0 →
      ∃ t, exec (.lockWindow g diff khz foff) s = .next t ∧ t.synSt g = 5 ∧ (t.grp g).windows = 0 ∧ (t.grp g).released = true ∧ t.tc = s.tc)

/-- How a group comes into lock: a band calibration that finds a band shows it and begins ACQUIRE with 20 ms to go; the first time those are over band
calibration is repeated; K good windows in ACQUIRE end in LOCKED, and for a group fenced meanwhile in HELD; the follower takes its rate at the
crossing edge of a millisecond of LINEAR_NS, once; and the flag of SYN_D in port stamps ends 1 ms after it locked (R165, R173, R174, R175, R178).
Where the spec leaves a point open, it follows the model's choices of log entries 9 and 157. -/
def Obligations.SynthesisLock : Prop :=
  ∀ (s : State) (g : Nat), g < 4 →
    (∀ band lo hi : Nat, band < 2 ^ 6 → lo < 2 ^ 13 → hi < 2 ^ 13 → s.synSt g = 1 → ∃ t, exec (.bandCalDone g true band lo hi) s = .next t ∧
      t.synSt g = 2 ∧ t.get (Reg.SYN_BAND_BAND g) = band ∧ t.get (Reg.SYN_BAND_LO g) = lo ∧ t.get (Reg.SYN_BAND_HI g) = hi ∧
      t.timer (.acquire g) = some (s.runNs + 20000000) ∧ (t.grp g).windows = 0 ∧ t.tc = s.tc) ∧
    (s.synSt g = 2 → s.due (.acquire g) = true → (s.grp g).tries = 0 → ∃ t, exec (.acquireTimeout g) s = .next t ∧ t.synSt g = 1 ∧
      (t.grp g).tries = 1 ∧ t.get (Reg.SYN_RELOCK_FAILS_COUNT g) = (s.get (Reg.SYN_RELOCK_FAILS_COUNT g) + 1) % 2 ^ 32 ∧
      t.timer (.acquire g) = none ∧ t.tc = s.tc) ∧
    (∀ (diff khz : Nat) (foff : Int), s.synSt g = 2 → ∃ t, exec (.lockWindow g diff khz foff) s = .next t ∧
      if diff ≤ (s.lockCfg g).tol ∧ (s.lockCfg g).k ≤ (s.grp g).windows + 1
      then t.synSt g = (if s.unitFenced (0x1000 + g) then 4 else 3) ∧ t.timer (.acquire g) = none
      else (s.lockCfg g).k ≠ 0 → t.synSt g = 2 ∧ (t.grp g).windows = if diff ≤ (s.lockCfg g).tol then (s.grp g).windows + 1 else 0) ∧
    (∃ t, exec .followerTick s = .next t ∧
      if s.crosses 1000000 = true ∧ s.var .tickEdge ≠ (s.tc.edges : Int) + 1
      then t = (((((s.setVar .tickEdge (s.tc.edges + 1 : Nat)).tickGrp 0).tickGrp 1).tickGrp 2).tickGrp 3) else t = s) ∧
    (∃ t, exec .synHoldEnd s = .next t ∧
      if s.due .synHold ∧ s.synSt 3 = 3 then t = s.stopTimer .synHold ∧ t.synHolding = false else t = s)

/-- OUT_ALIGN is all or nothing: the first output of its mask that is fenced, does not run or whose group is not LOCKED ends it with that output's
identifier; else every output named is aligned in turn; one clock in WAIT_ALIGN runs from then on, its fence forgotten. What the outputs send: a
running clock off its phase moves one step of its interpolator at its interval towards a smaller error; a running pulse output that is not being
aligned ends the pulse in hand once its WIDTH has passed, its driver taking the inactive level, and emits its next edge once its place is reached,
its driver taking the active level, with its record, its registers and the place of the edge to come; a time-of-day unit sends the message of an edge
once, with its sequence number, made for a moved edge from what the output will be by then (R172, R187, R189, R190, R194, R195, R196, R199, R200,
R201). Where the spec leaves a point open, it follows the model's choices of log entries 9, 58, 59, 60 and 159. -/
def Obligations.Outputs : Prop :=
  (∀ (s : State) (c : Ctx) (mask method rate : Nat), Ready s c opOutAlign →
    (mask = 0 ∨ 2 ^ 24 ≤ mask ∨ 1 < method ∨ (rate ≠ 0 ∧ (rate < 28147 ∨ 28147497671 < rate)) →
      ∃ t, exec (.outAlign c mask method rate) s = .next t ∧ Ends s c opOutAlign Status.range 0 id t) ∧
    (0 < mask → mask < 2 ^ 24 → method ≤ 1 → alignRateOk rate = true →
      (∀ i, i < 24 → bit mask i = true → s.alignRefusal i ≠ none → (∀ j, j < i → bit mask j = true → s.alignRefusal j = none) →
        ∃ t st, exec (.outAlign c mask method rate) s = .next t ∧ s.alignRefusal i = some st ∧ Ends s c opOutAlign st (outHid i) id t) ∧
      ((∀ i, i < 24 → bit mask i = true → s.alignRefusal i = none) → ∃ t, exec (.outAlign c mask method rate) s = .next t ∧
        Ends s c opOutAlign Status.ok 0 (fun f =>
          (allOuts.filter fun i => bit mask i).foldl (fun u i => u.alignOut (decide (method = 0)) rate i) f) t) ∧
      (∀ i, i < 16 → mask = 2 ^ i → s.outSt i = 2 → s.synSt (s.outGrp i) = 3 → ∃ t, exec (.outAlign c mask method rate) s = .next t ∧
        t.outSt i = 3 ∧ t.get (Reg.CLK_STATE_FENCE_LAST i) = 0 ∧ (t.outp i).align = none ∧ t.tc = s.tc))) ∧
  (∀ s : State,
    (∀ i, i < 16 → (s.outp i).align = none → s.mayWalk i = true → s.walkDue i = true → ∃ t, exec (.clockWalkStep i) s = .next t ∧
      if s.offPhase i then t.get (Reg.CLK_PH_PH i) = toBits 32 (s.getI (Reg.CLK_PH_PH i) + (if 0 < (s.outErr i).n then 1 else -1)) ∧
        (t.outp i).walkAt = s.tc.run ∧ t.outSt i = 3 ∧ t.tc = s.tc
      else t = s) ∧
    (∀ n, n < 8 → (s.outSt (16 + n) = 3 ∨ s.outSt (16 + n) = 4) → (s.outp (16 + n)).align = none → ∃ t, exec (.pulseEdge n) s = .next t ∧
      let ended := s.endPulse n
      (∀ x, (s.outp (16 + n)).active = some x → x ≤ s.tc.time →
        ended.out = .drive (16 + n) (s.pulseLevel n false) (x / 2 ^ 36) :: s.out ∧ (ended.outp (16 + n)).active = none) ∧
      if s.padTime n (s.outp (16 + n)).next ≤ s.tc.time then
        t.out = .drive (16 + n) (s.pulseLevel n true) (s.padTime n (s.outp (16 + n)).next / 2 ^ 36) ::
          .pulse n (s.idealLinear n (s.idealOf n (s.outp (16 + n)).next)) (s.outErr (16 + n)).to16
            (s.qerr n (s.outp (16 + n)).next).near16 :: ended.out ∧
        (t.outp (16 + n)).active = some (s.padTime n (s.outp (16 + n)).next + ((s.outp (16 + n)).width * 2 ^ 52 : Nat)) ∧
        t.get64 (Reg.PULSE_EDGE_LO_AT_LO n) (Reg.PULSE_EDGE_HI_AT_HI n) = s.idealLinear n (s.idealOf n (s.outp (16 + n)).next) ∧
        (t.outp (16 + n)).next = (s.outp (16 + n)).next + 1 ∧ (t.outp (16 + n)).last = s.padTime n (s.outp (16 + n)).next ∧
        t.outSt (16 + n) = s.outSt (16 + n) ∧ t.tc = s.tc
      else t = ended) ∧
    (∀ k n, k < 2 → n = s.get (Reg.TOD_CFG_PULSE k) → s.unitOn (0x1300 + k) = true → ∃ t, exec (.todMessage k) s = .next t ∧
      let u := (s.todSeries n).1
      let edge := (s.todSeries n).2
      if s.var (.todLast k) < u.edge16 n edge then t.out = .tod k (u.todMessage k n edge) :: s.out ∧
        t.var (.todSeq k) = (s.var (.todSeq k) + 1) % 256 ∧ t.var (.todLast k) = u.edge16 n edge ∧
        t.get (Reg.TOD_SENT_COUNT k) = (s.get (Reg.TOD_SENT_COUNT k) + 1) % 2 ^ 32 ∧ t.tc = s.tc
      else t = s))

/-- The baseband's commands: GNSS_POS_SET begins a survey or sets the held position with its uncertainty, and refuses either out of range or while a
GNSS lane is SELECTED; GNSS_NAV_LOAD takes or rejects each record of a well-formed buffer and completes with both counts; GNSS_NAV_READ writes the
records held to memory and completes with their length; GNSS_COLD_START forgets navigation data and begins the time to first fix anew (R214, R223,
R228, R229, R230). Where the spec leaves a point open, it follows the model's choice of log entry 64. -/
def Obligations.GnssCommands : Prop :=
  ∀ (s : State) (c : Ctx),
    (∀ (mode : Nat) (x y z : Int) (posU time : Nat), Ready s c opGnssPosSet → ∃ t, exec (.gnssPosSet c mode x y z posU time) s = .next t ∧
      if ((mode = 1 ∧ 600 ≤ time ∧ time ≤ 86400) ∨ (mode = 2 ∧ 6300000000 ^ 2 ≤ (x * x + y * y + z * z).toNat ∧
        (x * x + y * y + z * z).toNat ≤ 6400000000 ^ 2 ∧ posU < 2 ^ 32))
      then if s.gnssSelected then Ends s c opGnssPosSet Status.busy 0 id t
        else Ends s c opGnssPosSet Status.ok 0 (fun f =>
          if mode = 1 then { ((f.put Reg.GNB_STATUS_POS_STATE 1).put Reg.GNB_SURVEY_SURVEY_TIME time).put Reg.GNB_SURVEY_DONE_ELAPSED 0 with
            gnss := { f.gnss with sx := 0, sy := 0, sz := 0, sq := 0 } }
          else ((((f.putI64 Reg.GNB_POS_X_LO_X_LO Reg.GNB_POS_X_HI_X_HI x).putI64 Reg.GNB_POS_Y_LO_Y_LO Reg.GNB_POS_Y_HI_Y_HI y).putI64
            Reg.GNB_POS_Z_LO_Z_LO Reg.GNB_POS_Z_HI_Z_HI z).put Reg.GNB_POS_U_POS_U posU).put Reg.GNB_STATUS_POS_STATE 2) t
      else Ends s c opGnssPosSet Status.range 0 id t) ∧
    (∀ (addr len : Nat) (parityBad tooOld : List Nat), Ready s c opGnssNavLoad → ∃ t, exec (.gnssNavLoad c addr len parityBad tooOld) s = .next t ∧
      if c.dmaOk = false then Ends s c opGnssNavLoad Status.dmaError 0 id t
      else (parseNav (len + 1) (memRead s.mem addr len) = none → Ends s c opGnssNavLoad Status.range 0 id t) ∧
        ∀ rs, parseNav (len + 1) (memRead s.mem addr len) = some rs → 0 < len → (∀ r ∈ rs, r.typ ≤ 2) →
          ∃ ok bad, ok + bad = rs.length ∧ bad = (rs.filter fun r => (s.navReject r).isSome).length ∧
            Ends s c opGnssNavLoad Status.ok (ok + 2 ^ 32 * bad) (fun f => (State.loadNav f (0, 0) rs).1) t) ∧
    (∀ addr len sel : Nat, Ready s c opGnssNavRead → ∃ t bs, exec (.gnssNavRead c addr len sel) s = .next t ∧
      bs = (s.gnss.nav.filter fun r => sel = 0 ∨ r.typ + 1 = sel).flatMap NavRec.bytes ∧
      if 3 < sel then Ends s c opGnssNavRead Status.range 0 id t
      else if len < bs.length then Ends s c opGnssNavRead Status.range bs.length id t
      else if c.dmaOk = false then Ends s c opGnssNavRead Status.dmaError 0 id t
      else Ends s c opGnssNavRead Status.ok bs.length (fun f => f.dmaWrite addr bs) t) ∧
    (Ready s c opGnssColdStart → ∃ t, exec (.gnssColdStart c) s = .next t ∧
      if s.gnssSelected then Ends s c opGnssColdStart Status.busy 0 id t
      else t.gnss.nav = [] ∧ t.gnss.utc = [] ∧ t.gnss.acted = none ∧ t.get Reg.GNB_TTFF_TTFF = 2 ^ 32 - 1 ∧ t.var .gnssStart = s.runNs ∧
        t.tc = s.tc ∧ ∀ n, n < 192 → t.get (Reg.CH_STATUS_STATE n) = 0)

/-- What happens to a channel: a detection confirmed within one bin of its cell sends it to PULL_IN with the cell's code phase and Doppler and its
deadline, both locks held 100 ms to TRACK, a deadline or a C/N0 below CN0_DROP back to SEARCH or to REACQ; below 0.60 the phase lock indicator loses
the carrier, with a slip counted, and from 0.85 on it sets it again with its lock time begun anew; and a millisecond of samples out of bounds ten
times over, or a stuck line, both found from the samples' codes, is a FAULT of its band (R207, R208, R212, R215, R216). Where the spec leaves a point
open, it follows the model's choices of log entries 9, 61, 62 and 161. -/
def Obligations.GnssChannels : Prop :=
  ∀ (s : State) (n : Nat), n < 192 →
    (∀ k peak cell a q, k < 4 → s.acq k = some a → a.ch = n → a.confirm = some q → s.due (.dwell k) = true → s.get Reg.GNB_ACQ_ACQ_THRESH < peak →
      a.near (sigInfo (s.get (Reg.CH_STATUS_SIG n))).chips q cell = true → ∃ t, exec (.acqDwell k peak cell) s = .next t ∧ t.get (Reg.CH_STATUS_STATE n) = 2 ∧
        t.get (Reg.CH_STATUS_CODE_LOCK n) = 1 ∧ (t.chan n).code = (s.cellAt a cell).1 ∧ (t.chan n).dopp = (s.cellAt a cell).2 ∧
        t.timer (.pullIn n) = some (s.runNs + 100000000 * s.get Reg.GNB_TIMERS_PULLIN_TIME) ∧
        t.get (Reg.ACQ_DETECTS_COUNT k) = (s.get (Reg.ACQ_DETECTS_COUNT k) + 1) % 2 ^ 32 ∧ t.tc = s.tc) ∧
    (∀ k peak cell, (s.acq k = none ∨ s.due (.dwell k) = false) → ∃ t, exec (.acqDwell k peak cell) s = .next t ∧ t = s) ∧
    (∃ t, exec (.pullInLocked n) s = .next t ∧
      if s.chSt n = 2 ∧ s.get (Reg.CH_STATUS_CODE_LOCK n) ≠ 0 ∧ s.get (Reg.CH_STATUS_CARRIER_LOCK n) ≠ 0 ∧ (s.chan n).lockAt + 100000000 ≤ s.runNs
      then t.get (Reg.CH_STATUS_STATE n) = 3 ∧ t.get (Reg.CH_STATUS_CODE_LOCK n) = s.get (Reg.CH_STATUS_CODE_LOCK n) ∧
        t.get (Reg.CH_STATUS_CARRIER_LOCK n) = s.get (Reg.CH_STATUS_CARRIER_LOCK n) ∧ (t.chan n).lockAt = s.runNs ∧
        t.timer (.pullIn n) = none ∧ t.tc = s.tc
      else t = s) ∧
    (s.chSt n = 2 → s.due (.pullIn n) = true → ∃ t, exec (.pullinTimeExpiry n) s = .next t ∧ t.get (Reg.CH_STATUS_STATE n) = 1 ∧
      t.get (Reg.CH_STATUS_CODE_LOCK n) = 0 ∧ t.get (Reg.CH_STATUS_CARRIER_LOCK n) = 0 ∧ t.timer (.pullIn n) = none ∧ t.tc = s.tc ∧
      t.get (Reg.CH_SLIPS_COUNT n) = (s.get (Reg.CH_SLIPS_COUNT n) + (if s.get (Reg.CH_STATUS_CARRIER_LOCK n) = 0 then 0 else 1)) % 2 ^ 32) ∧
    (s.chSt n = 4 → s.due (.reacq n) = true → ∃ t, exec (.reacqTimeExpiry n) s = .next t ∧ t.get (Reg.CH_STATUS_STATE n) = 1 ∧
      t.timer (.reacq n) = none ∧ t.tc = s.tc) ∧
    (∀ cn0, ∃ t, exec (.codeLockLost ⟨n, cn0⟩) s = .next t ∧
      if 100 * s.get Reg.GNB_TIMERS_CN0_DROP ≤ cn0 ∨ (s.chSt n ≠ 2 ∧ s.chSt n ≠ 3) then t = s
      else if s.chSt n = 2 then t = s.put (Reg.CH_STATUS_CODE_LOCK n) 0
      else t.get (Reg.CH_STATUS_STATE n) = 4 ∧ t.get (Reg.CH_STATUS_CODE_LOCK n) = 0 ∧ t.get (Reg.CH_STATUS_CARRIER_LOCK n) = 0 ∧
        t.get (Reg.CH_STATUS_USED n) = 0 ∧ t.timer (.reacq n) = some (s.runNs + 1000000000 * s.get Reg.GNB_TIMERS_REACQ_TIME) ∧ t.tc = s.tc ∧
        (s.get (Reg.CH_STATUS_CARRIER_LOCK n) ≠ 0 → t.get (Reg.CH_SLIPS_COUNT n) = (s.get (Reg.CH_SLIPS_COUNT n) + 1) % 2 ^ 32)) ∧
    (∀ cos2 x, s.pliSum ⟨n, cos2⟩ = some x → ∃ t, exec (.carrierLockLost ⟨n, cos2⟩) s = .next t ∧
      if (s.chSt n = 2 ∨ s.chSt n = 3) ∧ x < 600000 * s.pliSpan n ∧ s.get (Reg.CH_STATUS_CARRIER_LOCK n) ≠ 0
      then t.get (Reg.CH_STATUS_CARRIER_LOCK n) = 0 ∧ (t.chan n).slip = true ∧
        (t.chan n).slips = ((s.chan n).slips + 1) % 256 ∧ t.get (Reg.CH_SLIPS_COUNT n) = (s.get (Reg.CH_SLIPS_COUNT n) + 1) % 2 ^ 32 ∧
        t.get (Reg.CH_STATUS_STATE n) = s.get (Reg.CH_STATUS_STATE n) ∧ t.tc = s.tc ∧ (t.chan n).loop = some (t.loops n)
      else if (s.chSt n = 2 ∨ s.chSt n = 3) ∧ x < 600000 * s.pliSpan n then t = s.retune n else t = s) ∧
    (∀ cos2 x, s.pliSum ⟨n, cos2⟩ = some x → ∃ t, exec (.carrierLockSet ⟨n, cos2⟩) s = .next t ∧
      if (s.chSt n = 2 ∨ s.chSt n = 3) ∧ s.get (Reg.CH_STATUS_CARRIER_LOCK n) = 0 ∧ 850000 * (s.pliSpan n : Int) ≤ x
      then t = ((s.setChan n { s.chan n with lockAt := s.runNs, lockK := s.captured }).put (Reg.CH_STATUS_CARRIER_LOCK n) 1).retune n ∧
        (t.chan n).loop = some (t.loops n)
      else t = s) ∧
    (∀ cos2, s.pliSum ⟨n, cos2⟩ = none →
      exec (.carrierLockLost ⟨n, cos2⟩) s = .next s ∧ exec (.carrierLockSet ⟨n, cos2⟩) s = .next s) ∧
    (∃ t, exec (.bitSync n) s = .next t ∧
      if 2 ≤ s.chSt n ∧ s.chSt n ≤ 4 then t = (s.setChan n { s.chan n with bitSync := true }).retune n else t = s) ∧
    (∀ i1 q1 i5 q5 : CodeCount, s.unitOn 0x2D00 = true → s.var .sliMs ≠ (s.runNs / 1000000 + 1 : Nat) → s.get Reg.GNB_SLI_CFG_L1_EN = 1 →
      s.get Reg.GNB_SLI_CFG_L5_EN = 0 → s.get Reg.GNB_SLI_STATUS_FAULT_L1 = 0 →
      let loud := codeLoud i1 (s.get Reg.GNB_SLI_CFG_FORMAT) + codeLoud q1 (s.get Reg.GNB_SLI_CFG_FORMAT)
      let total := codeTotal i1 + codeTotal q1
      let stuck := 4 * codeStuck i1 + codeStuck q1
      ∃ t, exec (.sampleCheck i1 q1 i5 q5) s = .next t ∧
        t.get Reg.GNB_SLI_STATUS_DENS_L1 = loud * 200 / max 1 total ∧ t.get Reg.GNB_SLI_STATUS_STUCK_L1 = stuck ∧ t.tc = s.tc ∧
        if (loud * 10 < total ∨ total * 6 < loud * 10) ∧ 9 ≤ s.var (.sliBad 0) ∨ stuck ≠ 0
         then t.get Reg.GNB_SLI_STATUS_FAULT_L1 = 1 ∧ t.get Reg.GNB_SLI_FAULTS_COUNT = (s.get Reg.GNB_SLI_FAULTS_COUNT + 1) % 2 ^ 32
         else t.get Reg.GNB_SLI_STATUS_FAULT_L1 = 0) ∧
    (∀ sky, ∃ t, exec (.channelAssign sky) s = .next t ∧
      if s.gnssRuns ∧ s.var .assignSec ≠ (s.runNs / secNs + 1 : Nat)
      then ∃ u, u = allChans.foldl (fun u n => u.releaseBy sky n) (s.setVar .assignSec (s.runNs / secNs + 1 : Nat)) ∧
        t = (u.wanted sky).foldl (fun u w => u.assign w) u
      else t = s)

/-- What the baseband makes of its epochs: at its latch edge an epoch latches once, numbered and stamped with LINEAR_NS, with every channel that pulls
in, tracks or re-acquires; a solution with no channel leaves none valid and writes a header alone; one satellite in a held position gives its own
estimate, with the delays behind the antenna, put onto TAI; a solution that is overdue is none; a survey whose time is over gives its mean position;
and a navigation message is held with the time it came (R217, R218, R221, R223, R225, R226, R228). Where the spec leaves a point open, it follows the
model's choices of log entries 9, 61, 63, 66 and 162. -/
def Obligations.GnssSolution : Prop :=
  ∀ s : State,
    (∀ ms, ∃ t, exec (.epoch ms) s = .next t ∧
      if s.gnssRuns ∧ s.unitOn 0x2E00 ∧ s.atEpoch then
        (∃ l, t.gnss.latch = some l ∧ l.linear = s.linear ∧ l.frac = s.frac16 ∧ l.stepped = (s.epochOwes && decide (s.var .epochStep = 1)) ∧ l.run = s.runNs ∧
          l.rate = s.tc.rt ∧ l.mark = s.mark ∧ l.chans.map (·.ch) = allChans.filter fun n => 2 ≤ s.chSt n ∧ s.chSt n ≤ 4) ∧
        t.get Reg.GNB_EPOCH_NO_EPOCH_NO = (s.get Reg.GNB_EPOCH_NO_EPOCH_NO + 1) % 2 ^ 32 ∧
        t.get64 Reg.GNB_LATCH_LO_AT_LO Reg.GNB_LATCH_HI_AT_HI = s.linear ∧ t.var .epochLast = s.epochNow ∧ t.var .epochOwed = 0 ∧ t.tc = s.tc
      else t = s) ∧
    (∀ ins corr px py pz, s.gnss.latch = none → ∃ t, exec (.solution ins corr px py pz) s = .next t ∧ t = s) ∧
    (∀ ins corr px py pz l, s.gnss.latch = some l → s.gnssRuns = true → s.unitOn 0x2E00 = true → s.unitOn 0x2D00 = true →
      (l.chans = [] → 0 < s.get Reg.GNB_MASK_MIN_SATS → ∃ (t u : State), exec (.solution ins corr px py pz) s = .next t ∧
        u = (({ s with gnss := { s.gnss with latch := none } }).arm .solution (2 * s.epochNs)).solnLost [] ∧
        t = u.writeEpoch [u.epochBytes l false 0 0 0 (2 ^ 32 - 1) (2 ^ 32 - 1)]) ∧
      (∀ ch m, l.chans = [ch] → ins = [m] → m.ch = ch.ch → ch.ch < 192 → s.unitFenced (chHid ch.ch) = false → s.exclude ch (some m) = 0 →
        s.get Reg.GNB_CTRL_IONO_DUAL = 0 → s.get Reg.GNB_STATUS_POS_STATE = 2 → s.get Reg.GNB_MASK_MIN_SATS = 1 → (s.single ch m).v ≤ 2 ^ 96 →
        ∃ (t u : State) (entries : List (List Byte)) (unc : Nat), exec (.solution ins corr px py pz) s = .next t ∧ u.get Reg.GNB_STATUS_SOLN_VALID = 1 ∧ u.get Reg.GNB_STATUS_SATS_USED = 1 ∧
          u.get (Reg.CH_STATUS_USED ch.ch) = 1 ∧ u.get (Reg.CH_STATUS_EXCLUDE ch.ch) = 0 ∧ u.get (Reg.CH_RESID_RESIDUAL ch.ch) = 0 ∧
          u.get Reg.GNB_U_SRC_U_SRC = unc ∧ u.tc = s.tc ∧ u.gnss.latch = none ∧
          t = (u.sourceMeasured 0x08 (m.x + m.iono + s.delaysOf ch.sig + kOf (s.get Reg.GNB_CTRL_REF_CONST) * 65536 - corr) unc
            { l.mark with at16 := l.linear * 65536 + l.frac }).writeEpoch entries)) ∧
    (∃ t, exec .solutionTimeout s = .next t ∧
      if s.gnssRuns ∧ s.due .solution then t = (s.stopTimer .solution).solnLost [] else t = s) ∧
    (∀ n, n = s.get Reg.GNB_SURVEY_DONE_ELAPSED → s.get Reg.GNB_STATUS_POS_STATE = 1 → 0 < n → s.get Reg.GNB_SURVEY_SURVEY_TIME ≤ n →
      ∃ t, exec .surveyDone s = .next t ∧ t.get Reg.GNB_STATUS_POS_STATE = 2 ∧
        t.get64 Reg.GNB_POS_X_LO_X_LO Reg.GNB_POS_X_HI_X_HI = toBits 64 (roundDiv s.gnss.sx n) ∧
        t.get64 Reg.GNB_POS_Y_LO_Y_LO Reg.GNB_POS_Y_HI_Y_HI = toBits 64 (roundDiv s.gnss.sy n) ∧
        t.get64 Reg.GNB_POS_Z_LO_Z_LO Reg.GNB_POS_Z_HI_Z_HI = toBits 64 (roundDiv s.gnss.sz n) ∧ t.tc = s.tc) ∧
    (∀ const svid typ msg body utc, s.gnssRuns = true → svid ∈ svids const → typ ≤ 2 → timeOf const ≠ s.get Reg.GNB_CTRL_REF_CONST ∨ utc = none →
      ∃ t, exec (.navDecode const svid typ msg body utc) s = .next t ∧ ⟨const, svid, typ, false, msg, s.linear, body⟩ ∈ t.gnss.nav ∧ t.tc = s.tc ∧
        ∀ r ∈ s.gnss.nav, supersedes ⟨const, svid, typ, false, msg, s.linear, body⟩ r = false → r ∈ t.gnss.nav)

/-- The PTP master's own messages: a SERVING instance without authentication sends one Sync and one Announce on every port and transport at each
boundary of their intervals, none twice in one, each with the next sequence number; PROFILE 1 its delay requests; a granted client's Sync goes once in
its grant's interval; and its transmissions change key at the start of a security association (R234, R235, R236, R237, R238, R248, R252). Where the
spec leaves a point open, it follows the model's choices of log entries 9, 82 and 83. -/
def Obligations.PtpTransmission : Prop :=
  ∀ (s : State) (k : Nat), k < 4 →
    (s.instSt k = 2 → s.instRole k = 0 → s.prof k ≠ 4 → s.get (Reg.PTP_INST_CFG_AUTH k) = 0 →
      (∃ t, exec (.syncTx k none false) s = .next t ∧
        if s.dueAt (s.logSync k) (s.inst k).lastSync = false then t = s
        else t = (s.setInst k { s.inst k with lastSync := s.tc.edges + 1, seqSync := ((s.inst k).seqSync + 1) % 65536 }).toAll k
          fun u p tr => u.composeSync k p tr none (s.inst k).seqSync (u.logSync k) none) ∧
      (∃ t, exec (.announceTx k none false) s = .next t ∧
        if s.dueAt (s.logAnn k) (s.inst k).lastAnn = false then t = s
        else t = (s.setInst k { s.inst k with lastAnn := s.tc.edges + 1, seqAnn := ((s.inst k).seqAnn + 1) % 65536 }).toAll k
          fun u p tr => u.composeAnnounce k p tr none (s.inst k).seqAnn (u.logAnn k) none)) ∧
    (s.instSt k = 2 → s.prof k = 1 → s.get (Reg.PTP_INST_CFG_AUTH k) = 0 → ∃ t, exec (.pdelayReqTx k) s = .next t ∧
      if s.dueAt (s.logDly k) (s.inst k).lastDly = false then t = s
      else t = (s.setInst k { s.inst k with
          lastDly := s.tc.edges + 1, seqDelay := ((s.inst k).seqDelay + 1) % 65536
          asked := (s.instPorts k).flatMap fun p => (s.transports k).map fun tr => (p + 4 * tr, ((s.inst k).seqDelay, 0)) }).toAll k
        fun u _ tr => { typ := 2, inst := k, trans := tr, dst := none, seq := (s.inst k).seqDelay, log := u.logDly k, sa := none }) ∧
    (∀ (typ : Nat) (c : CKey) (g : CalRec), typ = 0 ∨ typ = 1 → s.instSt k = 2 → s.instRole k = 0 → s.get (Reg.PTP_INST_CFG_AUTH k) = 0 →
      s.grantOf c.norm typ = some g → g.inst = k → (s.instPorts k).contains c.norm.port = true →
      ∃ t, exec (if typ = 1 then .syncTx k (some c) false else .announceTx k (some c) false) s = .next t ∧
        if s.grantLive g = false ∨ s.dueAt g.log g.last = false then t = s
        else ∃ u m, u = s.servedGrant g (s.tc.edges + 1) ∧ m.typ = (if typ = 1 then 0 else 11) ∧ m.dst = some c.norm ∧ m.log = g.log ∧ m.inst = k ∧
          m.seq = (if typ = 1 then (s.inst k).seqSync else (s.inst k).seqAnn) ∧ m.sa = none ∧
          t = (u.setInst k (if typ = 1 then { s.inst k with seqSync := ((s.inst k).seqSync + 1) % 65536 }
            else { s.inst k with seqAnn := ((s.inst k).seqAnn + 1) % 65536 })).txPush c.norm.port (s.clientTci c.norm) (.ptp m)) ∧
    (s.get (Reg.PTP_INST_CFG_AUTH k) ≠ 0 → ∃ t, exec (.saSwitch k) s = .next t ∧ t.tc = s.tc ∧
      t.get (Reg.PTP_INST_STATE_NO_TX_SA k) = (if (s.groupSa k).isSome then 0 else s.get (Reg.PTP_INST_STATE_NO_TX_SA k)) ∧
      ∀ i, 8 * k ≤ i → i < 8 * k + 8 → t.var (.saOn i) = (if s.saUsable i s.linear = false then 0
        else if s.var (.saOn i) ≠ 0 then s.var (.saOn i) else if s.saSigns k i then 1 else 0))

/-- What the PTP master answers: a delay request the profile takes is counted, put to admission and answered with its own port identity, sequence and
correction and the receive stamp; so is a peer delay request in PROFILE 1; the requests and cancellations of a Signaling message are decided in order
by a SERVING instance that negotiates; and a grant ends at its expiry, but for a renewal of it that waits for its GRANT to be sent (R234, R239, R242, R243, R244, R290). Where the spec leaves a point open, it
follows the model's choices of log entries 77 and 84. -/
def Obligations.PtpService : Prop :=
  ∀ (s : State) (q : PtpIn),
    (s.instTakes q.inst q.norm.peer.key.port = true → s.get (Reg.PTP_INST_CFG_AUTH q.inst) = 0 →
      (∃ t a u, exec (.delayReq q) s = .next t ∧
        (s.bump (Reg.RX_DELAY_REQ_COUNT q.inst)).letIn q.norm.peer 0 1 (b2n q.auth.isSome) true = (a, u) ∧
        if a.verdict ≠ .admitted ∨ u.instSt q.inst ≠ 2 then t = u
        else u.get (Reg.PTP_INST_CFG_AUTH q.inst) = 0 → if u.delayOk q.norm = false then t = u
        else ∃ m, m.typ = 9 ∧ m.fromB = q.peer.toB ∧ m.inst = q.inst ∧ m.seq = q.seq ∧ m.sa = none ∧
          m.req = some (q.clock, q.portNo, q.seq) ∧ m.time = u.rxStamp q.norm.peer.key.port q.at_ / 65536 ∧
          m.corr = q.corr - (u.rxStamp q.norm.peer.key.port q.at_ % 65536 : Nat) ∧
          t = u.txPush q.norm.peer.key.port (replyTci q.norm.peer.key q.peer.pcp) (.ptp m)) ∧
      (s.prof q.inst = 1 → ∃ t a u, exec (.pdelayReq q) s = .next t ∧
        (s.bump (Reg.RX_DELAY_REQ_COUNT q.inst)).letIn q.norm.peer 0 1 (b2n q.auth.isSome) false = (a, u) ∧
        if a.verdict ≠ .admitted ∨ u.instSt q.inst ≠ 2 then t = u
        else u.get (Reg.PTP_INST_CFG_AUTH q.inst) = 0 → ∃ m, m.typ = 3 ∧ m.inst = q.inst ∧ m.seq = q.seq ∧ m.sa = none ∧
          m.req = some (q.clock, q.portNo, q.seq) ∧ m.turn = u.rxStamp q.norm.peer.key.port q.at_ ∧ m.corr = q.corr ∧
          t = u.txPush q.norm.peer.key.port (replyTci q.norm.peer.key q.peer.pcp) (.ptp m))) ∧
    (∀ tlvs, ∃ t, exec (.requestUnicastTransmission q tlvs) s = .next t ∧
      if s.instTakes q.inst q.norm.peer.key.port = false then t = s
      else (∀ u, s.openSignaling q.norm = (none, u) → t = u) ∧
        ∀ u slot sa, s.openSignaling q.norm = (some (slot, sa), u) →
          if u.negotiates q.inst ∧ u.instSt q.inst = 2 then t = tlvs.foldl (fun v x => v.answerRequest q.norm slot sa x) u else t = u) ∧
    (∀ tlvs, ∃ t, exec (.cancelUnicastTransmission q tlvs) s = .next t ∧
      if s.instTakes q.inst q.norm.peer.key.port = false then t = s
      else (∀ u, s.openSignaling q.norm = (none, u) → t = u) ∧
        ∀ u slot sa, s.openSignaling q.norm = (some (slot, sa), u) →
          if u.negotiates q.inst ∧ u.instSt q.inst = 2 then t = tlvs.foldl (fun v x => v.answerCancel q.norm sa x) u else t = u) ∧
    (∀ (c : CKey) (typ : Nat) (g : CalRec), s.grantOf c.norm typ = some g → ∃ t, exec (.grantExpiry c typ) s = .next t ∧
      if s.grantRuns g then t = s else t.tc = s.tc ∧
        (g.next = none → t.grantOf c.norm typ = none) ∧
        (∀ l e, g.next = some (l, e) → t.grantOf c.norm typ = some { g with log := l, expiry := e, waits := true, next := none }) ∧
        ∀ d y, (d ≠ c.norm ∨ y ≠ typ) → t.grantOf d y = s.grantOf d y)

/-- The commands of the PTP service: PTP_INST_START takes an instance that is OFF, in its profile's ranges and in no other's way, to LISTENING and
judges it; PTP_INST_STOP cancels its grants and turns it OFF, forgetting what it kept; PTP_CLOCK_ID_SET sets the identity while every instance is OFF;
PTP_GRANT_CANCEL completes with the number of grants it ended that had not expired (R232, R233, R236, R257). -/
def Obligations.PtpCommands : Prop :=
  ∀ (s : State) (c : Ctx),
    (∀ k, Ready s c opPtpInstStart → k < 4 → ∃ t, exec (.ptpInstStart c k) s = .next t ∧
      if s.instSt k ≠ 0 then Ends s c opPtpInstStart Status.busy 0 id t
      else if s.profileOk k = false ∨ s.instClash k ∨ s.clockId = 0 ∨
        (s.instRole k = 1 ∧ ((List.range 4).filter fun p => s.fbit (Reg.PTP_INST_CFG_PORTS k) p).length ≠ 1)
      then Ends s c opPtpInstStart Status.range 0 id t
      else Ends s c opPtpInstStart Status.ok 0 (fun f =>
        let v := (((f.setInst k { offAt := s.runNs, annAt := s.runNs }).setInstSt k 1).change (s.sessionRole c.ring c.session) 0x90FF 0x0902
          0xFFFFFFFF k 0).ptpJudge k
        if v.instRole k = 1 then v.upJudge k else v) t) ∧
    (∀ k, Ready s c opPtpInstStop → k < 4 → s.instRole k = 0 → s.clt.calendar = [] → ∃ t, exec (.ptpInstStop c k) s = .next t ∧
      Ends s c opPtpInstStop Status.ok 0 (fun f => ((f.setInstSt k 0).ptpJudge k).setInst k {}) t ∧ t.instSt k = 0 ∧ t.inst k = {} ∧
      t.get (Reg.PTP_INST_STATE_PORTS_SERVING k) = 0 ∧ t.tc = s.tc) ∧
    (∀ id_, Ready s c opPtpClockIdSet → ∃ t, exec (.ptpClockIdSet c id_) s = .next t ∧
      if s.instSt 0 ≠ 0 ∨ s.instSt 1 ≠ 0 ∨ s.instSt 2 ≠ 0 ∨ s.instSt 3 ≠ 0 then Ends s c opPtpClockIdSet Status.busy 0 id t
      else if 2 ^ 64 ≤ id_ then Ends s c opPtpClockIdSet Status.range 0 id t
      else Ends s c opPtpClockIdSet Status.ok 0 (fun f => f.put64 Reg.PTP_CLOCK_ID_LO_ID_LO Reg.PTP_CLOCK_ID_HI_ID_HI id_) t ∧ t.clockId = id_) ∧
    (∀ k who, Ready s c opPtpGrantCancel → k < 4 → ∃ t n, exec (.ptpGrantCancel c k who) s = .next t ∧
      n = (s.clt.calendar.filter fun g => decide (g.inst = k) && s.grantRuns g && (match who with
        | some x => decide (g.key = x.norm)
        | none => true)).length ∧
      Ends s c opPtpGrantCancel Status.ok n (fun f => (f.cancelGrants k who).2) t)

/-- What the slave side of PTP makes of what it hears, without authentication: a foreign Announce on a SERVICE port is counted, one of this clock is
not; the parent's Sync gives t2 - t1 less its correction, and its answer to the open delay request one delay measurement; the peer delay of a SERVICE
instance is shown; and an upstream is judged at its timeouts (R234, R251, R252, R254, R256). Where the spec leaves a point open, it follows the
model's choices of log entries 9, 77 and 86. -/
def Obligations.UpstreamMessages : Prop :=
  ∀ (s : State) (q : PtpIn) (k p : Nat), k = q.inst → p = q.norm.peer.key.port → s.get (Reg.PTP_INST_CFG_AUTH k) = 0 →
    (∀ b tlv, k < 4 → p < 4 → s.instOn k p = true → s.instRole k = 0 → ∃ t, exec (.announceRx q b tlv) s = .next t ∧
      if q.clock = s.clockId then t = s
      else t.get (Reg.FOREIGN_ANNOUNCE_COUNT k) = (s.get (Reg.FOREIGN_ANNOUNCE_COUNT k) + 1) % 2 ^ 32 ∧ t.tc = s.tc ∧ t.insts = s.insts) ∧
    (∀ b tlv, s.upTakes q.norm = true → ∃ t, exec (.announceRx q b tlv) s = .next t ∧
      if b.gm = s.clockId then t.get (Reg.LOOP_DISCARD_COUNT k) = (s.get (Reg.LOOP_DISCARD_COUNT k) + 1) % 2 ^ 32 ∧ t.insts = s.insts ∧ t.tc = s.tc
      else t = s.upAnnounce q.norm b tlv) ∧
    (∀ t1 tlv, s.upTakes q.norm = true → ∃ t, exec (.syncRx q t1 tlv) s = .next t ∧
      if s.fromParent q.norm then ∃ d u, d = (s.rxStamp p q.at_ : Int) - t1 - q.corr ∧ u = s.setInst k { s.inst k with down := some d, bound := tlv } ∧
        t = u.syncOffset k p (s.rxStamp p q.at_) d (u.mpd k)
      else t = s) ∧
    (∀ t4 st d, s.upTakes q.norm = true → s.instSt k = 2 → s.fromParent q.norm = true → s.prof k ≠ 1 → st ≠ 0 → aget (s.inst k).asked (p + 4 * q.trans) = some (q.seq, st) →
      (s.inst k).down = some d → ∃ t, exec (.delayRespRx q t4) s = .next t ∧
        (t.inst k).delays = (truncDiv (d + ((t4 : Int) - st - q.corr)) 2 :: (s.inst k).delays).take (max 1 (s.get (Reg.PTP_UP_CTRL_DELAY_AVG k))) ∧
        (t.inst k).asked = adel (s.inst k).asked (p + 4 * q.trans) ∧ t.tc = s.tc) ∧
    (∀ (turn : Int) st, s.instTakes k p = true → s.instSt k = 2 → s.prof k = 1 → s.instRole k = 0 → st ≠ 0 → aget (s.inst k).asked (p + 4 * q.trans) = some (q.seq, st) →
      ∃ t, exec (.pdelayRespRx q turn) s = .next t ∧
        t.get (Reg.PTP_PEER_DELAY_DELAY k) = satU 32 (truncDiv ((s.rxStamp p q.at_ : Int) - st - turn - q.corr) 2 / 256) ∧
        (t.inst k).asked = adel (s.inst k).asked (p + 4 * q.trans) ∧ t.tc = s.tc) ∧
    (∀ j, j < 4 → s.instRole j = 1 → s.instSt j ≠ 0 → (∃ t, exec (.announceTimeout j) s = .next t ∧ t = (s.upJudge j).parentSilent j) ∧
      ∃ t, exec (.losTimeExpiry j) s = .next t ∧ t = s.upJudge j) ∧
    (∀ j, j < 4 → s.instRole j ≠ 1 → (∃ t, exec (.announceTimeout j) s = .next t ∧ t = s) ∧ ∃ t, exec (.losTimeExpiry j) s = .next t ∧ t = s)

/-- What the slave side of PTP sends, without authentication: a delay request by multicast, once in its interval and only to a parent, its transmit
stamp awaited; a request for a grant of 300 s from a configured master whose grant has 60 s or less to run; and a grant it is given runs from then for
its duration, none from a master that is not configured (R236, R251, R252). Where the spec leaves a point open, it follows the model's choice of log
entry 9. -/
def Obligations.UpstreamRequests : Prop :=
  ∀ (s : State) (k : Nat), k < 4 → s.get (Reg.PTP_INST_CFG_AUTH k) = 0 →
    (∀ f, s.instSt k = 2 → s.instRole k = 1 → s.prof k ≠ 1 → s.prof k ≠ 4 → s.parentOf k = some f → ∃ t, exec (.delayReqTx k) s = .next t ∧
      if s.dueAt (s.logDly k) (s.inst k).lastDly = false then t = s
      else t = (s.setInst k { s.inst k with
          lastDly := s.tc.edges + 1, seqDelay := ((s.inst k).seqDelay + 1) % 65536
          asked := (s.transports k).map fun tr => (s.instPort k + 4 * tr, ((s.inst k).seqDelay, 0)) }).toAll k
        fun _ _ tr => { typ := 1, inst := k, trans := tr, dst := none, seq := (s.inst k).seqDelay, log := 0x7F, sa := none }) ∧
    (∀ m typ, m < 4 → typ < 3 → s.instSt k = 2 → s.instRole k = 1 → s.prof k = 4 → s.get (Reg.PTP_UP_MCFG_VALID k m) = 1 →
      ∃ t, exec (.grantRenewal k m typ) s = .next t ∧
        if s.runNs + 60 * secNs < (aget (s.inst k).grants (4 * m + typ)).getD 0 then t = s
        else ∃ x, x.typ = 12 ∧ x.inst = k ∧ x.dst = some (s.masterKey k m) ∧ x.seq = (s.inst k).seqSig ∧ x.sa = none ∧
          x.neg = [⟨0, typ, if typ = 0 then s.logAnn k else if typ = 1 then s.logSync k else s.logDly k, 300⟩] ∧
          t = ((s.setInst k { s.inst k with seqSig := ((s.inst k).seqSig + 1) % 65536 }).txPush (s.masterKey k m).port (s.clientTci (s.masterKey k m))
            (.ptp x)).upShow k) ∧
    (∀ (q : PtpIn) tlvs, q.inst = k → s.upTakes q.norm = true → ∃ t, exec (.grantRx q tlvs) s = .next t ∧
      (∀ u, s.openSignaling q.norm = (none, u) → t = u) ∧
      ∀ v y, s.openSignaling q.norm = (some y, v) →
        match (if v.instSt k = 2 ∧ v.prof k = 4 then v.masterOf k q.norm.peer.key else none) with
        | none => t = v
        | some m => t = (tlvs.foldl (fun u x => if x.kind = 1 ∧ x.typ < 3 then
            u.setInst k { u.inst k with grants := aput (u.inst k).grants (4 * m + x.typ) (if x.dur = 0 then 0 else u.runNs + x.dur * secNs) }
            else u) v).upJudge k)

/-- What an NTP request becomes: one of another version or mode is discarded and counted; one for the host or with an NTS field is not answered here;
one with a MAC is counted as unsupported; a plain one is counted, put to admission and, admitted by a class that takes it while the time is good,
answered with its own transmit timestamp as origin; and an NTS request is counted, and opened only where it is well formed and NTS is enabled. A
sealed reply waits for its promised time: none goes before it; one that comes past the port's tolerance is dropped and counted; and one whose sealed
dispersion still holds leaves as it was sealed, once (R260, R261, R262, R263, R264, R269, R273, R274, R275). Where the spec leaves a point open, it
follows the model's choices of log entries 74, 75 and 77. -/
def Obligations.NtpAndNts : Prop :=
  (∀ (s : State) (q : Peer) (at_ : MiiAt) (pay : List Byte) (r : Peer), r = { q with key := q.key.norm } → r.key.port < 4 → pay ≠ [] →
    (∃ t, exec (.ntpRequest q at_ pay) s = .next t ∧
      match s.ntpKind pay with
      | .version => t = s.bump Reg.VERSION_DISCARD_COUNT ∧ t.get Reg.VERSION_DISCARD_COUNT = (s.get Reg.VERSION_DISCARD_COUNT + 1) % 2 ^ 32
      | .mode => t = s.bump Reg.MODE_DISCARD_COUNT ∧ t.get Reg.MODE_DISCARD_COUNT = (s.get Reg.MODE_DISCARD_COUNT + 1) % 2 ^ 32
      | .toHost => t = s
      | .nts => t = s
      | .mac => if s.ntpServes r.key.port then t = (s.bump Reg.NTP_RX_COUNT).bump Reg.MAC_UNSUPPORTED_COUNT
        else t = (s.bump Reg.NTP_RX_COUNT).notServing r 3
      | .plain => if pay.length < 48 then t = s.bump Reg.NTP_RX_COUNT
        else if s.ntpServes r.key.port then ∃ a u, (s.bump Reg.NTP_RX_COUNT).letIn r 3 1 0 false = (a, u) ∧
          (a.verdict = .refused → t = u) ∧ (a.verdict = .shed → t = u.kiss r pay a.cls false) ∧
          (a.verdict = .admitted → u.get (Reg.NTP_CLASS_NTS_ONLY a.cls) = 1 → t = u.kiss r pay a.cls true) ∧
          (a.verdict = .admitted → u.get (Reg.NTP_CLASS_NTS_ONLY a.cls) ≠ 1 → u.unsync = false → ∃ m, m.dst = r.key ∧ m.dport = r.sport ∧ m.kiss = false ∧ m.ext = [] ∧
            m.tp = none ∧ m.smear = u.smeared a.cls ∧ m.hdr = u.ntpHeader (netField pay 0 1 / 8 % 8)
              (replyPoll (ofBits 8 (netField pay 2 1)) (u.get (Reg.NTP_CLASS_MINPOLL a.cls)) 0) (u.rootDisp (u.pPort r.key.port))
              ((s.bump Reg.NTP_RX_COUNT).rxStamp r.key.port at_) (u.smeared a.cls) ((pay.drop 40).take 8) 0 ∧
            t = u.txPush r.key.port (replyTci r.key r.pcp) (.ntp m))
        else t = (s.bump Reg.NTP_RX_COUNT).notServing r 3) ∧
    (∃ t, exec (.ntsRequest q at_ pay) s = .next t ∧
      if s.ntpKind pay ≠ .nts then t = s
      else if s.ntpServes r.key.port = false then t = (s.bump Reg.NTP_RX_COUNT).notServing r 2
      else if s.get Reg.NTP_CTRL_NTS_EN = 0 ∨ ntsParse pay = none then t = (s.bump Reg.NTP_RX_COUNT).bump Reg.NTS_MALFORMED_COUNT
      else ∃ x, ntsParse pay = some x ∧ t = (s.bump Reg.NTP_RX_COUNT).ntsOpen r ((s.bump Reg.NTP_RX_COUNT).rxStamp r.key.port at_) pay x)) ∧
  (∀ (s : State) (p at_ : Nat), p < 4 →
    ((s.port p).held = [] → ∃ t, exec (.ntsLaunch p at_) s = .next t ∧ t = s) ∧
    (∀ i m tp, (s.port p).held.foldl earlierHeld none = some (i, m, tp) → s.halted p i.prio = false → ∃ t, exec (.ntsLaunch p at_) s = .next t ∧
      if s.txStamp p at_ < tp * 65536 then t = s
      else if tp * 65536 + qOf (s.mode p) * 256 < s.txStamp p at_ then
        t.get Reg.NTP_TX_LATE_DROP_COUNT = (s.get Reg.NTP_TX_LATE_DROP_COUNT + 1) % 2 ^ 32 ∧ t.out = s.out ∧
          (t.port p).held = dropFirst (fun j => decide (j = i)) (s.port p).held ∧ t.tc = s.tc
      else s.portUp p = true → s.unitOn (0x8000 + p) = true → ∃ u, u = (s.setPort p { s.port p with
          held := dropFirst (fun j => decide (j = i)) (s.port p).held }).stampTaken p (some 2) ∧
        (u.rootDisp (u.pPort p + qOf (u.mode p)) ≤ m.disp → t.out = .ntp p i.tci m.dst (m.hdr ++ m.ext) (u.ntpCarriage p m (m.hdr ++ m.ext)) :: u.out ∧
          t.get Reg.NTS_TX_COUNT = (u.get Reg.NTS_TX_COUNT + 1) % 2 ^ 32)))

/-- The key slots: KEY_INSTALL reads a key of its usage's length from memory into a slot no usable entry holds, in the clear, and completes with its
check value; KEY_ERASE empties one, each where the key table takes new work; NTS_COOKIE_MAKE writes one to eight cookies under the entry that mints; and that entry is judged at its instants,
the latest FROM first (R270, R272, R278, R279, R280, R281). Where the spec leaves a point open, it follows the model's choices of log entries 31, 45,
68 and 69. -/
def Obligations.KeySlots : Prop :=
  ∀ (s : State) (c : Ctx),
    (∀ slot usage addr len, Ready s c opKeyInstall → ∃ t, exec (.keyInstall c slot usage none addr len) s = .next t ∧
      match s.unitBars 0xA300 with
      | some st => Ends s c opKeyInstall st 0 id t
      | none =>
      if 4096 ≤ slot ∨ usage = 0 ∨ 5 ≤ usage then Ends s c opKeyInstall Status.range 0 id t
      else if s.keyInUse slot then Ends s c opKeyInstall Status.busy 0 id t
      else if c.dmaOk = false then Ends s c opKeyInstall Status.dmaError 0 id t
      else Ends s c opKeyInstall Status.ok (Crypto.kcv (memRead s.mem addr (usageLen usage)))
          (fun f => f.setSlot slot (some ⟨usage, false, memRead s.mem addr (usageLen usage)⟩)) t ∧
        t.key slot = some ⟨usage, false, memRead s.mem addr (usageLen usage)⟩ ∧ ∀ o, o ≠ slot → t.key o = s.key o) ∧
    (∀ slot, Ready s c opKeyErase → ∃ t, exec (.keyErase c slot) s = .next t ∧
      match s.unitBars 0xA300 with
      | some st => Ends s c opKeyErase st 0 id t
      | none =>
      if 4096 ≤ slot then Ends s c opKeyErase Status.range 0 id t
      else if s.keyInUse slot then Ends s c opKeyErase Status.busy 0 id t
      else Ends s c opKeyErase Status.ok 0 (fun f => f.setSlot slot none) t ∧ t.key slot = none ∧ ∀ o, o ≠ slot → t.key o = s.key o) ∧
    (∀ n addrKeys addrOut, Ready s c opCookieMake → ∃ t, exec (.ntsCookieMake c n addrKeys addrOut) s = .next t ∧
      if n = 0 ∨ 8 < n then Ends s c opCookieMake Status.range 0 id t
      else match s.minter s.linear with
        | none => Ends s c opCookieMake Status.notFit 0 id t
        | some m => if s.drbgGives then
            if c.dmaOk then Ends s c opCookieMake Status.ok 0 (fun f =>
              let r := f.cookies {} m (memRead s.mem addrKeys 64) n
              r.2.dmaWrite addrOut r.1.flatten) t
            else Ends s c opCookieMake Status.dmaError 0 id t
          else Ends s c opCookieMake Status.notFit 0 id t) ∧
    (∃ t, exec .mkSwitch s = .next t ∧ t.tc = s.tc ∧
      match s.minter s.linear with
      | some m => t.get Reg.NTP_STATUS_MINT_ENTRY = m % 2 ^ 4 ∧ t.get Reg.NTP_STATUS_MINT_VALID = 1
      | none => t.get Reg.NTP_STATUS_MINT_VALID = 0)

/-- The client table's commands: CLT_ENTRY_ADD pins an entry with its class, rule and tag in its own slot or one found for it, and completes with the
slot; CLT_ENTRY_DEL takes one out unless it is granted; CLT_ENTRY_READ and CLT_DUMP write entries to memory; CLT_FLUSH takes out every learned entry
that is not granted, and completes with their number; each where the client-table engine takes new work. What time does to the client table: a sweep takes out an entry of its slots only
where it was learned, is neither pinned nor granted and was last seen more than AGE_TIME ago, and counts it, or where its CHECK fails as it is read; and after memory training the table is
empty and READY once, with a fresh salt (R286, R287, R288, R299, R300, R301). Where the spec leaves a point open, it follows the model's choices of
log entries 9, 64, 71 and 73. -/
def Obligations.ClientTable : Prop :=
  (∀ (s : State) (c : Ctx),
    (∀ (k : CKey) (cls rule : Nat) (tag : List Byte), Ready s c opCltAdd → s.unitBars 0x9200 = none → ∃ t, exec (.cltEntryAdd c k cls rule tag) s = .next t ∧
      if k.ok = false ∨ 16 ≤ cls ∨ 256 ≤ rule then Ends s c opCltAdd Status.range 0 id t
      else if s.get Reg.CLT_STATUS_READY = 0 then Ends s c opCltAdd Status.busy 0 id t
      else
        let pinned (u : State) (n : Nat) : CltEntry := { (aget u.clt.entries n).getD { key := k.norm, created := u.linear, bucket := u.dropBucket k } with
          pinned := true, ntpClass := cls, rule, hostTag := (tag ++ List.replicate 16 0).take 16 }
        match (s.fetch c).locate k with
        | (some (n, _), u) => Ends s c opCltAdd Status.ok n (fun _ => u.putEntry n (pinned u n)) t
        | (none, v) => match v.findSlot k.norm rule with
          | (none, u) => Ends s c opCltAdd Status.tableFull 0 (fun _ => u) t
          | (some n, u) => Ends s c opCltAdd Status.ok n (fun _ => u.putEntry n (pinned u n)) t) ∧
    (∀ k : CKey, Ready s c opCltDel → s.unitBars 0x9200 = none → ∃ t, exec (.cltEntryDel c k) s = .next t ∧
      if k.ok = false then Ends s c opCltDel Status.range 0 id t
      else match (s.fetch c).locate k with
      | (some (n, e), u) => if e.granted then Ends s c opCltDel Status.busy 0 (fun _ => u) t
        else Ends s c opCltDel Status.ok 0 (fun _ => u.dropEntry n) t ∧ aget t.clt.entries n = none ∧
          ∀ m, m ≠ n → aget t.clt.entries m = aget u.clt.entries m
      | (none, u) => Ends s c opCltDel Status.ok 0 (fun _ => u) t) ∧
    (∀ (k : CKey) (addr : Nat), Ready s c opCltRead → s.unitBars 0x9200 = none → ∃ t, exec (.cltEntryRead c k addr) s = .next t ∧
      match (s.fetch c).locate k with
      | (some (_, e), u) => if c.dmaOk then Ends s c opCltRead Status.ok 0 (fun _ => u.dmaWrite addr e.bytes) t
        else Ends s c opCltRead Status.dmaError 0 (fun _ => u) t
      | (none, u) => Ends s c opCltRead Status.notFound 0 (fun _ => u) t) ∧
    (∀ first n addr : Nat, Ready s c opCltDump → s.unitBars 0x9200 = none → ∃ t, exec (.cltDump c first n addr) s = .next t ∧
      if n = 0 ∨ 65536 < n ∨ 2 ^ s.get Reg.CLT_CTRL_SIZE_LOG2 < first + n then Ends s c opCltDump Status.range 0 id t
      else if c.dmaOk then Ends s c opCltDump Status.ok 0 (fun f => (f.readRange first n).dmaWrite addr ((f.readRange first n).dumpBytes first n)) t
      else Ends s c opCltDump Status.dmaError 0 id t) ∧
    (Ready s c opCltFlush → s.unitBars 0x9200 = none → ∃ t u gone, exec (.cltFlush c) s = .next t ∧
      u = (s.fetch c).readRange 0 (2 ^ s.get Reg.CLT_CTRL_SIZE_LOG2) ∧ gone = (u.clt.entries.filter fun e => e.2.learned && ¬ e.2.granted) ∧
      Ends s c opCltFlush Status.ok gone.length (fun _ => gone.foldl (fun v e => v.dropEntry e.1) u) t) ∧
    (∀ st k cls rule tag addr, s.unitBars 0x9200 = some st →
      (Ready s c opCltAdd → ∃ t, exec (.cltEntryAdd c k cls rule tag) s = .next t ∧ Ends s c opCltAdd st 0 id t) ∧
      (Ready s c opCltDel → ∃ t, exec (.cltEntryDel c k) s = .next t ∧ Ends s c opCltDel st 0 id t) ∧
      (Ready s c opCltRead → ∃ t, exec (.cltEntryRead c k addr) s = .next t ∧ Ends s c opCltRead st 0 id t) ∧
      (Ready s c opCltFlush → ∃ t, exec (.cltFlush c) s = .next t ∧ Ends s c opCltFlush st 0 id t))) ∧
  (∀ s : State,
    (∀ first n m, ∃ t, exec (.ageSweep first n) s = .next t ∧ t.tc = s.tc ∧
      (m < first ∨ first + n ≤ m → aget t.clt.entries m = aget s.clt.entries m) ∧
      (∀ e, aget s.clt.entries m = some e → s.cached m = true ∨ s.clt.bad.contains m = false → (e.learned = false ∨ e.pinned = true ∨ e.granted = true ∨
        linDiff s.linear e.lastSeen ≤ (s.get Reg.CLT_AGE_AGE_TIME * secNs : Nat)) → aget t.clt.entries m = some e) ∧
      (∀ e, s.clt.entries = [(m, e)] → first ≤ m → m < first + n → e.learned = true → e.pinned = false → e.granted = false →
        (s.get Reg.CLT_AGE_AGE_TIME * secNs : Nat) < linDiff s.linear e.lastSeen → s.cached m = true ∨ s.clt.bad.contains m = false →
        t.clt.entries = [] ∧ t.get Reg.CLT_AGED_COUNT = (s.get Reg.CLT_AGED_COUNT + 1) % 2 ^ 32) ∧
      (∀ e, s.clt.entries = [(m, e)] → first ≤ m → m < first + n → s.cached m = false → s.clt.bad.contains m = true →
        t.clt.entries = [] ∧ t.get Reg.CLT_ENTRY_BAD_COUNT = (s.get Reg.CLT_ENTRY_BAD_COUNT + 1) % 2 ^ 32)) ∧
    (∃ t, exec .tableReady s = .next t ∧
      if s.get Reg.MEM_STATUS_TRAINED = 1 ∧ s.get Reg.CLT_STATUS_READY = 0
      then t.get Reg.CLT_STATUS_READY = 1 ∧ t.get Reg.CLT_STATUS_ENTRIES = 0 ∧ t.clt.entries = [] ∧ t.clt.salt = (s.draw 16).1 ∧ t.tc = s.tc
      else t = s))

/-- A port's link: once its unit is ENABLED it leaves OFF; the receiver's locks make a DOWN link ALIGNING with 2 ms to go and show CDR_LOCK, and
FEC_LOCK where it has a FEC; it goes UP within those 2 ms with its RX_SKEW, and DOWN after them; an UP link that loses lock or shows a fault goes
DOWN, is counted and shows the fault; and PORT_LINK_RESET takes an ALIGNING or UP link DOWN and counts nothing. The services are judged anew after a change (R304, R305,
R323, R328). Where the spec leaves a point open, it follows the model's choice of log entry 9. -/
def Obligations.PortLinks : Prop :=
  ∀ (s : State) (p : Nat), p < 4 →
    (∃ t, exec (.linkAlign p) s = .next t ∧
      if s.get (Reg.PORT_STATUS_LINK p) = 1 ∨ (s.get (Reg.PORT_STATUS_LINK p) = 0 ∧ s.unitOn (0x8000 + p))
      then t.get (Reg.PORT_STATUS_LINK p) = 2 ∧ t.timer (.align p) = some (s.runNs + 2000000) ∧ t.get (Reg.SYNCE_STATUS_CDR_LOCK p) = 1 ∧
        t.get (Reg.PORT_STATUS_FEC_LOCK p) = (if s.get (Reg.PORT_CFG_FEC p) = 0 then 0 else 1) ∧ t.tc = s.tc ∧ t.mem = s.mem ∧ t.units = s.units
      else t = s) ∧
    (∀ skew, skew < 2 ^ 32 → ∃ t u, exec (.linkUp p skew) s = .next t ∧ t = u.serveUpdate ∧
      if s.get (Reg.PORT_STATUS_LINK p) = 2 ∧ s.due (.align p) = false
      then u.get (Reg.PORT_STATUS_LINK p) = 3 ∧ u.timer (.align p) = none ∧ u.get (Reg.RX_SKEW_SKEW p) = skew ∧
        u.get (Reg.PORT_STATUS_LOCAL_FAULT p) = 0 ∧ u.get (Reg.PORT_STATUS_REMOTE_FAULT p) = 0 ∧
        u.timer (.esmcInfo p) = some (s.runNs + 1000000000) ∧ u.tc = s.tc ∧ u.mem = s.mem
      else u = s) ∧
    (∃ t, exec (.alignTimeout p) s = .next t ∧
      if s.get (Reg.PORT_STATUS_LINK p) = 2 ∧ s.due (.align p)
      then t = ((s.put (Reg.PORT_STATUS_LINK p) 1).put (Reg.LINK_DOWNS_COUNT p) (min (s.get (Reg.LINK_DOWNS_COUNT p) + 1) (2 ^ 32 - 1))).linkGone p
      else t = s) ∧
    (∀ near far : Bool, ∃ t u, exec (.linkDown p near far) s = .next t ∧ t = u.serveUpdate ∧
      if s.get (Reg.PORT_STATUS_LINK p) = 3 then ∃ v x, u = v.linkGone p ∧ (x = s.var (.portRaised p 8) ∨ x = (s.runNs + 1 : Nat)) ∧
        Quiet (((((s.put (Reg.PORT_STATUS_LINK p) 1).put (Reg.LINK_DOWNS_COUNT p) (min (s.get (Reg.LINK_DOWNS_COUNT p) + 1) (2 ^ 32 - 1))).put
          (Reg.PORT_STATUS_LOCAL_FAULT p) (b2n near)).put (Reg.PORT_STATUS_REMOTE_FAULT p) (b2n far)).setVar (.portRaised p 8) x) v
      else u = s) ∧
    (∀ c : Ctx, Ready s c opLinkReset → ∃ t, exec (.portLinkReset c p) s = .next t ∧
      if s.unitFenced (0x8000 + p) then Ends s c opLinkReset Status.fenced 0 id t
      else if s.get (Reg.PORT_STATUS_LINK p) = 2 ∨ s.get (Reg.PORT_STATUS_LINK p) = 3 then
        Ends s c opLinkReset Status.ok 0 (fun f => ((f.put (Reg.PORT_STATUS_LINK p) 1).linkGone p).serveUpdate) t
      else Ends s c opLinkReset Status.notFit 0 id t)

/-- A frame a port receives is discarded under the first counter that applies: no room in the FIFO, shorter than 64 octets, longer than MAX_FRAME, a
wrong FCS, cut off; else it is counted with its octets and, where it passes the filters, goes to one destination. A frame the host gives a port is
taken whole from its PKT_TX ring. A frame the scheduler sends is that of the highest priority not halted, the engine's before the host's, and is taken
from its FIFO; the host's MAC control frames are never halted; one of the host whose link is not UP is dropped and counted, and its record says LINK (R310, R311, R312, R313, R314, R315, R316, R317,
R326). Where the spec leaves a point open, it follows the model's choices of log entries 9, 77 and 87. -/
def Obligations.PortFrames : Prop :=
  ∀ (s : State) (p : Nat), p < 4 →
    (∀ rx : RxFrame, s.unitOn (0x8000 + p) = false ∨ (s.portUp p = false ∧ rx.cut = false) → exec (.frameReceived p rx) s = .next s) ∧
    (∀ rx : RxFrame, s.unitOn (0x8000 + p) = true → s.portUp p = true ∨ rx.cut = true → rx.fecOk = 0 → rx.fecBad = 0 → rx.pcsBad = 0 →
      ∃ t, exec (.frameReceived p rx) s = .next t ∧
        let kept (f : Fld) : Prop := t.get f = min (s.get f + 1) (2 ^ 32 - 1) ∧ t.tc = s.tc ∧ t.mem = s.mem ∧ t.out = s.out ∧
          (t.port p).fifo = (s.port p).fifo
        if rx.noRoom then kept (Reg.RX_FIFO_DROP_COUNT p)
        else if rx.bytes.length < 64 then kept (Reg.RX_RUNT_COUNT p)
        else if s.get (Reg.PORT_CFG_MAX_FRAME p) < rx.bytes.length then kept (Reg.RX_OVERSIZE_COUNT p)
        else if rx.fcsBad then kept (Reg.RX_FCS_ERR_COUNT p)
        else if rx.cut then kept (Reg.RX_TRUNCATED_COUNT p)
        else ∃ v : State, v.get (Reg.RX_FRAMES_COUNT p) = min (s.get (Reg.RX_FRAMES_COUNT p) + 1) (2 ^ 32 - 1) ∧
          v.get64 (Reg.RX_OCTETS_LO_LO p) (Reg.RX_OCTETS_HI_HI p) =
            min (s.get64 (Reg.RX_OCTETS_LO_LO p) (Reg.RX_OCTETS_HI_HI p) + rx.bytes.length) (2 ^ 64 - 1) ∧ v.mem = s.mem ∧ v.out = s.out ∧ v.tc = s.tc ∧
          v.get (Reg.STAMPS_FLAGGED_COUNT p) = (if s.stampFlags p = 0 then s.get (Reg.STAMPS_FLAGGED_COUNT p)
            else min (s.get (Reg.STAMPS_FLAGGED_COUNT p) + 1) (2 ^ 32 - 1)) ∧
          if v.passes p (parseFrame rx.bytes) = false then t = v.portCount (Reg.RX_FILTERED_COUNT p)
          else match v.steer p (parseFrame rx.bytes) with
            | .drop f => t = v.portCount (f p)
            | .ptpDrop k => t = v.bump (Reg.DISCARDED_COUNT k)
            | .host r => t = v.toHost p (s.rxStamp p rx.at_) r (parseFrame rx.bytes) rx
            | .unit d k => let w := { v with out := .steered p d k :: v.out }
              if d = 1 ∧ v.get (Reg.SYNCE_CFG_ESMC_TO_HOST p) = 1 then t = w.toHost p (s.rxStamp p rx.at_) 5 (parseFrame rx.bytes) rx else t = w) ∧
    (∀ dma : Bool, ∃ t, exec (.hostFrameFetch p dma) s = .next t ∧
      match s.portRing 3 p with
      | none => t = s
      | some n => match s.chain n (s.ringHas n) 0 [] with
        | none => t = s
        | some (ds, good) =>
          let raw := ds.flatMap fun d => memRead s.mem d.addr d.len
          let body := raw ++ List.replicate (60 - raw.length) 0
          let q := s.prioOf p (if netField body 12 2 = 0x8100 then some (netField body 14 2) else none)
          let full := hostRoom ≤ ((s.port p).fifo.filter fun i => ¬ i.engine ∧ i.prio = q).length
          if good = true ∧ (full ∨ (s.halted p q = true ∧ macControl body = false)) then t = s
          else if dma = false then t = s.ringError n 3 (s.entryAddr n 16 0 % 2 ^ 32)
          else (∀ d ∈ ds, d.ts = false) → ∃ u, u = s.consume n ds.length ∧
            if good = false ∨ u.get (Reg.PORT_CFG_MAX_FRAME p) < raw.length + 4 then t = u.portCount (Reg.TX_HOST_DROP_COUNT p)
            else t = u.setPort p { u.port p with fifo := (u.port p).fifo ++ [⟨q, none, .host ⟨body, none⟩⟩] }) ∧
    (∀ (at_ : Nat) (cut : Bool), ∃ t, exec (.frameTransmit p at_ cut) s = .next t ∧
      match s.nextTx p with
      | none => (∀ i ∈ (s.port p).fifo, i.prio < 8 → s.halted p i.prio = true ∧ i.control = false) ∧ t = s
      | some i => i ∈ (s.port p).fifo ∧ (s.halted p i.prio = false ∨ i.control = true) ∧
        (∀ j ∈ (s.port p).fifo, i.prio < j.prio → j.prio < 8 → s.halted p j.prio = true ∧ j.control = false) ∧
        (s.halted p i.prio = false → ∀ j ∈ (s.port p).fifo, j.prio = i.prio → j.engine = true → i.engine = true) ∧
        let u := s.setPort p { s.port p with fifo := dropFirst (fun j => decide (j = i)) (s.port p).fifo }
        match i.body with
        | .host f => if s.portUp p = false ∨ cut = true then t = (u.portCount (Reg.TX_HOST_DROP_COUNT p)).tsqFail p f.stamp 2
            else t = u.launchHost p at_ cut f
        | .ptp m => if cut then t = u else t = u.launchPtp p at_ i.tci m
        | .esmc code event => if cut then t = u else t = u.launchEsmc p i.tci code event ∧
            (s.portUp p = true → s.unitOn (0x8000 + p) = true → t.out = .esmc p code event :: s.out)
        | .ntp m => if cut = true ∨ s.portUp p = false ∨ s.follower = true then t = u else s.unitOn (0x8000 + p) = true → t = u.launchNtp p at_ i.tci m)

/-- Flow control and SyncE, a pause frame that is not to the port taken for nothing: a PAUSE halts every priority for its time, a PFC those of its vector, and a time of 0 resumes; a priority resumes when its
time is over; the watchdog breaks the pauses that lasted WD and ignores more of them until 1 s has gone by without one. An ESMC PDU that is not of the
form R324 asks counts as bad; a good one shows its SSM code as the port's quality level for 5 s; and the port sends its own code once a second, and at
a change of it, with no more than 10 in any second (R320, R321, R324, R325). Where the spec leaves a point open, it follows the model's choices of log
entries 9 and 81. -/
def Obligations.FlowControlAndEsmc : Prop :=
  ∀ (s : State) (p : Nat), p < 4 →
    (∀ (mask : PauseTo) (pfc : Bool) (quanta : List Nat), s.pauseTo p mask.dst = false → exec (.pauseFrame p pfc mask quanta) s = .next s) ∧
    (∀ (q : Nat) (mask : PauseTo) (pfc : Bool) (quanta : List Nat), s.portUp p = true → q < 8 → s.get (Reg.PORT_STATUS_WD_IGNORE p) = 0 →
      s.pauseTo p mask.dst = true →
      ∃ t, exec (.pauseFrame p pfc mask quanta) s = .next t ∧ t.tc = s.tc ∧ t.mem = s.mem ∧ t.out = s.out ∧ (t.port p).fifo = (s.port p).fifo ∧
        t.get (if pfc then Reg.RX_PFC_COUNT p else Reg.RX_PAUSE_COUNT p) =
          min (s.get (if pfc then Reg.RX_PFC_COUNT p else Reg.RX_PAUSE_COUNT p) + 1) (2 ^ 32 - 1) ∧
        let time := if pfc then quanta.getD q 0 else quanta.getD 0 0
        if pfc = true ∧ bit mask.mask q = false then t.halted p q = s.halted p q ∧ aget (t.port p).pauseEnd q = aget (s.port p).pauseEnd q
        else if time = 0 then t.halted p q = false ∧ aget (t.port p).pauseEnd q = none
        else t.halted p q = true ∧ aget (t.port p).pauseEnd q = some (s.runNs + quantaNs (s.mode p) time)) ∧
    (∀ q, q < 8 → ∃ t, exec (.pauseExpiry p q) s = .next t ∧
      match aget (s.port p).pauseEnd q with
      | some e => if e ≤ s.runNs then t.halted p q = false ∧ aget (t.port p).pauseEnd q = none ∧ t.tc = s.tc ∧
          (∀ j, j < 8 → j ≠ q → t.halted p j = s.halted p j) else t = s
      | none => t = s) ∧
    (∃ t, exec (.pauseWd p) s = .next t ∧
      if s.get (Reg.PAUSE_CFG_WD_EN p) = 0 ∨ s.wdDue p = [] then t = s
      else t.tc = s.tc ∧ t.mem = s.mem ∧ t.out = s.out ∧
        (∀ q, q < 8 → if q ∈ s.wdDue p then t.halted p q = false ∧ t.fbit (Reg.PORT_STATUS_WD_IGNORE p) q = true
          else t.halted p q = s.halted p q ∧ t.fbit (Reg.PORT_STATUS_WD_IGNORE p) q = s.fbit (Reg.PORT_STATUS_WD_IGNORE p) q)) ∧
    (∀ q, q < 8 → ∃ t, exec (.wdIgnoreEnd p q) s = .next t ∧
      if s.fbit (Reg.PORT_STATUS_WD_IGNORE p) q = true ∧ ((aget (s.port p).ignored q).getD 0 + 1000000000 ≤ s.runNs ∨ aget (s.port p).ignored q = none)
      then t.fbit (Reg.PORT_STATUS_WD_IGNORE p) q = false ∧ t.ports = s.ports ∧ t.tc = s.tc else t = s) ∧
    (∀ (oui sub ver typ len ssm : Nat) (ext : Bool), s.portUp p = true → ∃ t, exec (.esmcPdu p oui sub ver typ len ssm ext) s = .next t ∧
      if oui = 0x0019A7 ∧ sub = 1 ∧ ver = 1 ∧ typ = 1 ∧ len = 4
      then t.get (Reg.SYNCE_STATUS_RX_QL p) = ssm % 16 ∧ t.get (Reg.SYNCE_STATUS_QL_VALID p) = 1 ∧
        t.timer (.esmcQuiet p) = some (s.runNs + 5000000000) ∧ t.get (Reg.ESMC_RX_COUNT p) = min (s.get (Reg.ESMC_RX_COUNT p) + 1) (2 ^ 32 - 1) ∧
        t.tc = s.tc ∧ (ext = true → t.get (Reg.SYNCE_STATUS_EXT_TLV_SEEN p) = 1)
      else t = s.put (Reg.ESMC_BAD_COUNT p) (min (s.get (Reg.ESMC_BAD_COUNT p) + 1) (2 ^ 32 - 1))) ∧
    (∃ t, exec (.esmcTimeout p) s = .next t ∧
      if s.due (.esmcQuiet p) then t.get (Reg.SYNCE_STATUS_QL_VALID p) = 0 ∧ t.get (Reg.SYNCE_STATUS_RX_QL p) = s.get (Reg.SYNCE_STATUS_RX_QL p) % 2 ^ 4 ∧
        t.timer (.esmcQuiet p) = none ∧ t.tc = s.tc else t = s) ∧
    (let sends (event : Bool) (u : State) : Prop :=
        if 10 ≤ ((s.port p).esmcSent.filter fun a => decide (s.runNs < a + secNs)).length then u = s
        else (∃ j ∈ (u.port p).fifo, j = ⟨s.prioOf p (s.ownTci p), s.ownTci p, .esmc (s.esmcCode p) event⟩) ∧
          u.var (.esmcCode p) = s.esmcCode p + 1 ∧ u.out = s.out ∧ u.tc = s.tc;
      (∃ t u, exec (.esmcInfoTx p) s = .next t ∧
        if s.esmcOn p = true ∧ s.due (.esmcInfo p) = true then sends false u ∧ t = u.setTimer (.esmcInfo p) (s.runNs + 1000000000) else t = s) ∧
      (∃ t, exec (.esmcEventTx p) s = .next t ∧
        if s.esmcOn p = true ∧ s.var (.esmcCode p) ≠ 0 ∧ s.var (.esmcCode p) ≠ s.esmcCode p + 1 then sends true t else t = s))

/-- The Relay Link's pairs: a pair trained within its 100 ms is UP with LINK_UP and the partner's delays; one that is not is counted and tries again;
an UP pair that loses lock trains again, and LINK_UP says whether the other is UP; each training sends a HELLO; a marker of the present lap or the next
is kept as the pair's stamp. Of the link's messages, a baton of 256 bytes leaves 100 µs after each lap boundary while the link is up, or from an ALONE twin, and tells this twin's role, lap, acknowledgements and handover; a bad baton or record is counted; a good record waits for the lap
boundary on a follower; and after 4 laps without an acknowledgement what was withheld goes (R333, R335, R339, R340, R341, R342). Where the spec leaves
a point open, it follows the model's choices of log entries 9, 46 and 202. -/
def Obligations.TwinLink : Prop :=
  ∀ s : State,
    (∀ n, n < 2 → ∀ (h : Hello) (rx : Nat), ∃ t, exec (.pairTrained n h rx) s = .next t ∧
      if s.get (Reg.RL_PAIR_STATUS_STATE n) = 1 ∨ (s.get (Reg.RL_PAIR_STATUS_STATE n) = 0 ∧ s.pairReady n = true)
      then t.get (Reg.RL_PAIR_STATUS_STATE n) = 2 ∧ t.get Reg.TWN_STATUS_LINK_UP = 1 ∧ t.timer (.training n) = none ∧
        t.twin = { s.twin with hello := aput s.twin.hello n (h, rx) } ∧ t.tc = s.tc ∧ t.mem = s.mem ∧
        (s.get Reg.TWN_STATUS_ROLE = 2 → h.request ≠ 0 → t.out.head? = some (.bulk (decide (h.request = 2)) s.kcvTable))
      else t = s) ∧
    (∀ n, n < 2 → ∃ t, exec (.trainingTimeout n) s = .next t ∧
      if s.get (Reg.RL_PAIR_STATUS_STATE n) = 1 ∧ s.due (.training n)
      then t.get Reg.RL_TRAIN_FAILS_COUNT = (s.get Reg.RL_TRAIN_FAILS_COUNT + 1) % 2 ^ 32 ∧ t.get (Reg.RL_PAIR_STATUS_STATE n) = 1 ∧
        t.timer (.training n) = some (s.runNs + 100000000) ∧ t.out = .hello n (s.helloOn n) (s.get (Reg.RL_RX_DELAY_DELAY n)) :: s.out ∧
        t.twin = s.twin ∧ t.tc = s.tc
      else t = s) ∧
    (∀ n, n < 2 → ∀ cause : Nat, ∃ t u : State, exec (.pairDown n cause) s = .next t ∧
      if s.get (Reg.RL_PAIR_STATUS_STATE n) = 2
      then t = u.linkLost ∧ u.get (Reg.RL_PAIR_STATUS_STATE n) = 1 ∧ u.timer (.training n) = some (s.runNs + 100000000) ∧
        u.get Reg.TWN_STATUS_LINK_UP = (if s.get (Reg.RL_PAIR_STATUS_STATE (1 - n)) = 2 then 1 else 0) ∧ u.twin = s.twin ∧ u.tc = s.tc ∧
        u.out = .hello n (s.helloOn n) (s.get (Reg.RL_RX_DELAY_DELAY n)) :: s.out
      else t = s) ∧
    (∀ n, n < 2 → ∀ (lap : Nat) (stamp : Int), ∃ t, exec (.relayMarkerRx n lap stamp) s = .next t ∧
      if s.get (Reg.RL_PAIR_STATUS_STATE n) = 2 ∧ (lap % 2 ^ 24 = s.ns / lapNs % 2 ^ 24 ∨ lap % 2 ^ 24 = (s.ns / lapNs + 1) % 2 ^ 24)
      then Quiet { s with twin := { s.twin with markRx := aput s.twin.markRx (2 * (lap % 2 ^ 24) + n) stamp } } t else t = s) ∧
    (∃ t b, exec .batonTx s = .next t ∧
      (if s.crossesAfter lapNs 100000 = true ∧ s.var .batonEdge ≠ (s.tc.edges : Int) + 1 then
        if s.get Reg.TWN_STATUS_LINK_UP = 0 ∧ s.get Reg.TWN_STATUS_ROLE ≠ 0 then t = s.setVar .batonEdge (s.tc.edges + 1 : Nat)
        else t = { s.setVar .batonEdge (s.tc.edges + 1 : Nat) with out := .baton b b.bytes :: s.out }
      else t = s) ∧ b.bytes.length = 256 ∧ b.bytes.drop 252 = leBytes 4 (crc32 (b.bytes.take 252)) ∧ b.role = (if s.phase = 8 then 5 else s.get Reg.TWN_STATUS_ROLE) ∧
      b.lap = s.ns / lapNs % 2 ^ 32 ∧ b.stateSeq = s.twin.stateSeq ∧ b.grantSeq = s.twin.grantSeq ∧ b.stateAck = s.twin.stateDone ∧
      b.grantAck = s.twin.grantDone ∧ b.handover = s.get Reg.TWN_HANDOVER_LAP ∧ b.teb = s.get Reg.HOB_TEB_TEB ∧
      b.claim = decide (s.get Reg.TWN_STATUS_CLAIMING = 1) ∧ b.synced = decide (s.get Reg.TWN_STATUS_SYNCED = 1) ∧ b.regions = s.regionsFenced) ∧
    (∀ (b : Baton) (crc : Nat), crc ≠ b.crc → ∃ t, exec (.batonRx b crc) s = .next t ∧
      if (s.get Reg.TWN_STATUS_LINK_UP = 0 ∧ b.role ≠ 0) ∨ s.get Reg.TWN_CTRL_TWIN_EN = 0 then t = s
      else Quiet ((s.put Reg.BATONS_BAD_COUNT (s.get Reg.BATONS_BAD_COUNT + 1)).putBit Reg.TWN_RL_STICKY_STICKY 1 true) t) ∧
    (∀ (r : JournalMsg) (crc : Nat), ∃ t, exec (.journalRecord r crc) s = .next t ∧
      let x : JournalRec := ⟨r.seq, r.kind, r.role, r.side, r.result, r.op, r.body⟩
      if s.get Reg.TWN_STATUS_LINK_UP = 0 then t = s
      else if crc ≠ crc32 x.octets then t = s.put Reg.JOURNAL_BAD_COUNT (s.get Reg.JOURNAL_BAD_COUNT + 1)
      else r.kind ≠ 3 → if s.follower then t = { s with twin := { s.twin with inbox := s.twin.inbox ++ [x] } }
        else if r.kind = 2 then t = (s.partnerKey (r.body.getD 0 0).toNat (r.body.getD 1 0).toNat).markDone x else t = s) ∧
    (∃ t, exec .journalAckTimeout s = .next t ∧
      if s.due .journalAck then ∃ u : State, u.twin.partnerSynced = false ∧ u.timer .journalAck = none ∧ u.regs = s.regs ∧ u.hif = s.hif ∧
        Quiet (((u.releaseWithheld (2 ^ 64) u.hif.inflight).releaseGrants (2 ^ 64)).putBit Reg.TWN_RL_STICKY_STICKY 3 true) t
      else t = s)

/-- What an intact baton does: it is counted and kept, its instant noted, PARTNER_ROLE and PARTNER_FIT shown, the lease of an active partner set to 4,
and then the fence checked, acknowledgements taken, the two-way measurement made, missing records asked for by a STANDBY twin, a handover cancelled by
an active one whose partner left STANDBY, and by a STARTING twin that has listened the table of R347 applied. A due point without an active baton
takes one from LEASE_LEFT, once at its edge; at 0 the lease has expired, and a RESYNC twin that reads the fence RELEASED has NO_SERVER (R336, R341, R343, R345, R346, R347, R352, R353, R354). Where the spec leaves a point open, it follows
the model's choices of log entries 9 and 202. -/
def Obligations.TwinBatons : Prop :=
  ∀ s : State,
    (∀ b : Baton, s.get Reg.TWN_STATUS_LINK_UP = 1 ∨ b.role = 0 → s.get Reg.TWN_CTRL_TWIN_EN = 1 → b.role < 8 → ∃ t n u : State, exec (.batonRx b b.crc) s = .next t ∧
      n.get Reg.BATONS_RX_COUNT = (s.get Reg.BATONS_RX_COUNT + 1) % 2 ^ 32 ∧ n.twin.baton = some b ∧
      n.twin.partnerSynced = (decide (b.role = 3) && b.synced) ∧ n.var .batonAt = s.runNs ∧ n.var .batonSeen = 1 ∧
      n.get64 Reg.TWN_LAST_BATON_LO_AT_LO Reg.TWN_LAST_BATON_HI_AT_HI = s.linear ∧ n.get Reg.TWN_STATUS_PARTNER_ROLE = b.role ∧
      n.get Reg.TWN_STATUS_PARTNER_FIT = b2n b.fit ∧ n.tc = s.tc ∧ n.mem = s.mem ∧ n.out = s.out ∧
      u = (if b.role = 2 then n.put Reg.TWN_STATUS_LEASE_LEFT 4 else n.sourceLos 0x14) ∧
      let v := (((u.batonFence b).ackState b.stateAck).ackGrant b.grantAck).twoWay b
      let w := if v.get (Reg.RL_PAIR_STATUS_STATE 0) = 2 ∧ v.get (Reg.RL_PAIR_STATUS_STATE 1) = 2 then v.checkSkew b else v
      let x := (w.followBaton b).leadBaton b
      t = if x.var .listened = 1 then x.startDecide false else x) ∧
    (∃ t, exec .batonDue s = .next t ∧
      if s.follower = false ∨ s.crossesAfter lapNs 1000000 = false ∨ s.var .dueEdge = (s.tc.edges : Int) + 1 then t = s
      else
        let u := s.setVar .dueEdge (s.tc.edges + 1 : Nat)
        if s.get Reg.TWN_STATUS_LEASE_LEFT = 0 ∨ (s.var .batonSeen = 1 ∧ (s.runNs : Int) - s.var .batonAt < lapNs ∧
          s.get Reg.TWN_STATUS_PARTNER_ROLE = 2) then t = u
        else if s.get Reg.TWN_STATUS_LEASE_LEFT = 1 then
          t.get Reg.TWN_STATUS_LEASE_LEFT = 0 ∧ t.get Reg.LEASE_EXPIRIES_COUNT = (s.get Reg.LEASE_EXPIRIES_COUNT + 1) % 2 ^ 32 ∧
          t.fbit Reg.TWN_STICKY_STICKY 0 = true ∧ t.tc = s.tc ∧ t.mem = s.mem ∧ t.out = s.out ∧
          (s.get Reg.TWN_STATUS_ROLE = 4 → s.get Reg.TWN_STATUS_FENCE = 0 → s.var .batonSeen = 1 → t.fbit Reg.TWN_STICKY_STICKY 4 = true) ∧
          (s.get Reg.TWN_STATUS_ROLE ≠ 4 → t.fbit Reg.TWN_STICKY_STICKY 4 = s.fbit Reg.TWN_STICKY_STICKY 4)
        else t = u.put Reg.TWN_STATUS_LEASE_LEFT (s.get Reg.TWN_STATUS_LEASE_LEFT - 1))

/-- The twins' roles. The fence lines read anew give FENCE its reading, and a fault pattern, or a claimant that reads anything but CLAIMED, sets
FENCE_FAULT; 64 laps without a cause clear it. Line A low in two sense windows running is contention, as is a seizing partner, whose hold lasts 8 ms, of
an ACTIVE twin: the twin without SEIZE_HOLD demotes, side B when both or neither hold it. A STARTING twin that has listened decides anew. A STARTING twin applies R347's table when its listening ends, and side B claims after
its further 32 laps. An ACTIVE twin asked for an image sends it, and a RESYNC twin that has applied one is STANDBY and SYNCED as soon as its journals have caught up (R343, R344, R346, R347,
R350, R351, R353). Where the spec leaves a point open, it follows the model's choices of log entries 9, 38, 95 and 205. -/
def Obligations.TwinRoles : Prop :=
  ∀ s : State,
    (∀ a b : Bool, ∃ t r, exec (.fenceChange a b) s = .next t ∧
      r = (if a = true ∧ b = false then 0 else if a = false ∧ b = true then 1 else if a = true ∧ b = true then 2 else 3) ∧
      let u := ((s.setVar .fenceA (b2n a)).setVar .fenceB (b2n b)).put Reg.TWN_STATUS_FENCE r
      let v := if r = 0 then u.setTimer .fenceReleased (s.runNs + 1000000) else u.stopTimer .fenceReleased
      let fault : Prop := 2 ≤ r ∨ (s.get Reg.TWN_STATUS_CLAIMING = 1 ∧ r = 0)
      (∃ w : State, t = w.noServer.startAgain ∧ (¬ fault → w = v) ∧
        (fault → w = v.fenceFault.cancelHandover Status.interrupted ∧ (s.get Reg.TWN_STATUS_HANDOVER_PENDING = 0 →
          w.get Reg.TWN_STATUS_FENCE_FAULT = 1 ∧ w.get Reg.TWN_STATUS_FENCE = r ∧ w.timer .fenceClear = some (s.runNs + 64 * lapNs) ∧
          w.fbit Reg.TWN_STICKY_STICKY 1 = true ∧ w.tc = s.tc)) ∧
        (w.get Reg.TWN_STATUS_ROLE = 4 → w.get Reg.TWN_STATUS_LEASE_LEFT = 0 → w.get Reg.TWN_STATUS_FENCE = 0 → w.var .batonSeen = 1 →
          t.fbit Reg.TWN_STICKY_STICKY 4 = true) ∧
        (w.get Reg.TWN_STATUS_ROLE ≠ 1 → w.get Reg.TWN_STATUS_ROLE ≠ 4 → t = w) ∧
        (w.get Reg.TWN_STATUS_ROLE = 1 → w.var .listened ≠ 1 → t = w))) ∧
    (∃ t, exec .fenceFaultClear s = .next t ∧
      if s.get Reg.TWN_STATUS_FENCE_FAULT = 1 ∧ s.due .fenceClear = true ∧ s.get Reg.TWN_STATUS_FENCE < 2 ∧
        (s.get Reg.TWN_STATUS_CLAIMING = 0 ∨ s.get Reg.TWN_STATUS_FENCE = 1)
      then t = ((s.put Reg.TWN_STATUS_FENCE_FAULT 0).stopTimer .fenceClear).startAgain else t = s) ∧
    (let clash (u t : State) : Prop :=
        let lose : Prop := s.get Reg.TWN_STATUS_ROLE = 2 ∧
          if (s.get Reg.TWN_STATUS_SEIZE_HOLD = 1 ↔ (s.runNs : Int) < u.var .partnerHold) then s.side = 1 else (s.runNs : Int) < u.var .partnerHold
        ∃ v, Quiet (u.putBit Reg.TWN_STICKY_STICKY 2 true) v ∧
          (lose → t = (v.cancelHandover Status.interrupted).demote 4) ∧ (¬ lose → t = v);
      (∀ low : Bool, ∃ t, exec (.senseWindow low) s = .next t ∧
        if s.get Reg.TWN_STATUS_CLAIMING = 0 ∨ 2000 ≤ s.senseAt then t = s
        else if low = false then t = s.setVar .senseLow 0
        else if s.var .senseLow = s.senseNo then clash (s.setVar .senseLow 0) t else t = s.setVar .senseLow (s.senseNo + 1 : Nat)) ∧
      (∃ t, exec .seizeFrame s = .next t ∧
        let u := s.setVar .partnerHold (s.runNs + 8000000 : Nat)
        if s.get Reg.TWN_STATUS_ROLE = 2 then clash u t else t = u)) ∧
    (∃ t, exec .seizeHoldExpiry s = .next t ∧
      if s.due .seizeHold then t = (s.put Reg.TWN_STATUS_SEIZE_HOLD 0).stopTimer .seizeHold else t = s) ∧
    (∃ t, exec .listenExpiry s = .next t ∧
      if s.due .listen = false then t = s
      else let u := (s.stopTimer .listen).setVar .listened 1
        if s.get Reg.TWN_STATUS_ROLE ≠ 1 then t = u
        else if ∃ b, s.twin.baton = some b ∧ b.role = 2 then t.get Reg.TWN_STATUS_ROLE = 4 ∧
          t.get Reg.TWN_STATUS_CLAIMING = s.get Reg.TWN_STATUS_CLAIMING ∧ t.tc = s.tc ∧ t.out = s.out
        else if ∃ b, s.twin.baton = some b ∧ (b.side = s.side ∨ b.role = 0) then Quiet (u.putBit Reg.TWN_STICKY_STICKY 5 true) t
        else if s.get Reg.TWN_STATUS_FENCE_FAULT = 1 then t = u
        else if s.get Reg.TWN_STATUS_FENCE = 1 ∧ s.twin.baton = none then Quiet (u.putBit Reg.TWN_STICKY_STICKY 7 true) t
        else if s.get Reg.TWN_STATUS_FENCE ≠ 0 then t = u
        else if s.side = 0 then t = ((u.driveFence true).setRole 2).admissionFresh.serveUpdate
        else if (s.timer .sideB).isSome = true then t = u
        else t = u.setTimer .sideB (s.runNs + 32 * lapNs)) ∧
    (∃ t, exec .sideBWaitExpiry s = .next t ∧
      if s.due .sideB = false then t = s
      else s.get Reg.TWN_STATUS_ROLE = 1 → s.twin.baton = none → s.get Reg.TWN_STATUS_FENCE_FAULT ≠ 1 → s.get Reg.TWN_STATUS_FENCE = 0 →
        t = (((s.stopTimer .sideB).driveFence true).setRole 2).admissionFresh.serveUpdate) ∧
    (∀ conf : Bool, ∃ t, exec (.resyncReq conf) s = .next t ∧
      if s.get Reg.TWN_STATUS_ROLE = 2 ∧ s.get Reg.TWN_STATUS_LINK_UP = 1
      then t.out = .bulk conf s.kcvTable :: s.out ∧ t.var .bulkState = s.twin.stateSeq ∧ t.var .bulkGrant = s.twin.grantSeq ∧ t.twin = s.twin ∧ t.tc = s.tc
      else t = s) ∧
    (∀ img : BulkImage, ∃ t, exec (.resyncDone img) s = .next t ∧
      if s.get Reg.TWN_STATUS_LINK_UP = 0 then t = s
      else if s.get Reg.TWN_STATUS_ROLE = 4 then
        let w := (((s.applyImage img true).setVar .cfgWanted 0).setVar .imaged (img.ms + 1 : Nat)).applyInbox
        let caught : Prop := ∀ b, w.twin.baton = some b → b.stateSeq ≤ w.twin.stateDone ∧ b.grantSeq ≤ w.twin.grantDone
        (w.get Reg.TWN_STATUS_ROLE ≠ 4 ∨ w.var .imaged = 0 ∨ ¬ caught → t = w) ∧
        (w.get Reg.TWN_STATUS_ROLE = 4 → w.var .imaged ≠ 0 → caught → ∃ v : State, v.get Reg.TWN_STATUS_ROLE = 3 ∧ v.get Reg.TWN_STATUS_SYNCED = 1 ∧
          v.var .imaged = 0 ∧ v.twin = w.twin ∧ v.clt = w.clt ∧ v.tc = w.tc ∧ v.mem = w.mem ∧ t = v.completeRunning 0x0D03 [] Status.ok 0)
      else if s.get Reg.TWN_STATUS_ROLE = 3 ∧ s.var .cfgWanted = 1
      then t = ((s.applyImage img false).setVar .cfgWanted 0).applyInbox else t = s)

/-- The twin's ring commands: YIELD is accepted from an ACTIVE twin whose partner's last baton shows it fit, 2 to 64 laps ahead, cancels a YIELD that
waits and waits itself until the lap it shows; TWN_RESYNC takes a STANDBY twin into RESYNC, asks for the image, and runs until it is STANDBY again
(R346, R352, R353, R356). Where the spec leaves a point open, it follows the model's choice of log entry 27. -/
def Obligations.TwinCommands : Prop :=
  ∀ (s : State) (c : Ctx),
    (∀ laps : Nat, Ready s c opYield → ∃ t, exec (.yield c laps) s = .next t ∧
      let fit : Prop := ∃ b, s.twin.baton = some b ∧ b.role = 3 ∧ b.synced = true ∧ b.following = true ∧ b.regions = 0
      (s.get Reg.TWN_STATUS_ROLE = 2 → fit → if laps < 2 ∨ 64 < laps then Ends s c opYield Status.range 0 id t
        else Starts s c (fun f => let u := (f.cancelHandover Status.interrupted).planHandover laps
          u.hold c opYield (s.sessionRole c.ring c.session) [u.get Reg.TWN_HANDOVER_LAP]) t ∧
          t.get Reg.TWN_STATUS_HANDOVER_PENDING = 1 ∧ t.get Reg.TWN_HANDOVER_LAP = (s.ns / lapNs + laps) % 2 ^ 32) ∧
      (s.get Reg.TWN_STATUS_ROLE ≠ 2 ∨ ¬ fit → Ends s c opYield Status.notFit 0 id t)) ∧
    (Ready s c opTwnResync → ∃ t, exec (.twnResync c) s = .next t ∧
      if s.get Reg.TWN_STATUS_ROLE ≠ 3 then Ends s c opTwnResync Status.notFit 0 id t
      else Starts s c (fun f => ((((f.put Reg.TWN_STATUS_SYNCED 0).setRole 4).askBulk false).hold c opTwnResync (s.sessionRole c.ring c.session) [])) t ∧
        t.get Reg.TWN_STATUS_ROLE = 4 ∧ t.get Reg.TWN_STATUS_SYNCED = 0 ∧ t.out = .resyncReq false :: s.out)

/-- The record queues and the fabric's measurements: an open host interface reads out the oldest record of a queue; a poisoned one, by its parity or
by the fence of the unit it came from, is gone and counted as lost; an event waits until an EVT ring is ACTIVE and all the rings that take it have
room, and a timestamp or dump record goes to its own ring, which a failed access leaves in error with the record kept. A drain that ends clears its
bit and counts what it discarded; the speed measured each millisecond is shown, and below 900 raises 0x0725 (R45, R318, R373, R397, R401, R405, R406,
R418). Where the spec leaves a point open, it follows the model's choices of log entries 9, 37, 88 and 92. -/
def Obligations.RecordDelivery : Prop :=
  ∀ s : State,
    (∀ (q : Nat) (poison dma : Bool), ∃ t, exec (.recordQueueDelivery q poison dma) s = .next t ∧
      if 6 ≤ q ∨ s.rqHeld q = 0 ∨ s.hostOpen = false then t = s
      else if poison = true ∨ 0 < s.var (.rqPoison q) then ∃ u : State, t = u.rqPoisoned q ∧ u.rqHeld q + 1 = s.rqHeld q ∧ u.regs = s.regs ∧ u.mem = s.mem ∧ u.tc = s.tc
      else (q = 0 → ∀ e r, s.evtq.recs = e :: r →
          if (s.evtRings 4).isEmpty = true ∨ ∃ n ∈ s.evtRings e.sev.code, s.ringRoom n = 0 then t = s
          else (s.evtRings e.sev.code = [] → t = { s.rqGone 0 with evtq := ⟨r, s.evtq.lost⟩ }) ∧
            ∀ n, s.evtRings e.sev.code = [n] →
              if dma = false then t = s.ringError n 3 (s.ringBase n % 2 ^ 32)
              else s.evtq.lost = 0 → t = { s.rqGone 0 with evtq := ⟨r, 0⟩ }.ringWrite n (evtBytes e (s.phaseOf n (s.engIdx n)) 0)
                (decide (s.get (Reg.RING_CFG_IRQ_SEV n) ≤ e.sev.code))) ∧
        (q = 5 → ∀ n x r, s.dumpRing = some n → s.dumpq = x :: r → if s.ringRoom n = 0 then t = s
          else if dma = false then t = s.ringError n 3 (s.ringBase n % 2 ^ 32)
          else x.headD 0 ≠ 0x10 → t = { s.rqGone 5 with dumpq := r }.ringWrite n x false) ∧
        (1 ≤ q → q ≤ 4 → match s.portRing 5 (q - 1) with
          | none => t = s
          | some n => if s.ringRoom n = 0 then t = s
            else if dma = false then t = s.ringError n 3 (s.ringBase n % 2 ^ 32)
            else ∀ x r, (s.port (q - 1)).tsq = x :: r → t = ((s.rqGone q).setPort (q - 1) { s.port (q - 1) with tsq := r, tsqLost := 0 }).ringWrite n
              (x.bytes (q - 1) (s.port (q - 1)).tsqLost) false)) ∧
    (∀ n discards masked : Nat, ∃ t, exec (.drain n discards masked) s = .next t ∧
      if n < 9 ∧ s.fbit Reg.FAB_STATUS_DRAINING n = true
      then t.fbit Reg.FAB_STATUS_DRAINING n = false ∧ t.get Reg.FAB_DRAINS_COUNT = (s.get Reg.FAB_DRAINS_COUNT + 1) % 2 ^ 32 ∧
        t.get Reg.FAB_DRAIN_DISCARDS_COUNT = (s.get Reg.FAB_DRAIN_DISCARDS_COUNT + discards) % 2 ^ 32 ∧ t.tc = s.tc ∧ t.mem = s.mem ∧
        (∀ k, k < 9 → k ≠ n → t.fbit Reg.FAB_STATUS_DRAINING k = s.fbit Reg.FAB_STATUS_DRAINING k)
      else t = s) ∧
    (∀ rate : Nat, ∃ t, exec (.speedLow rate) s = .next t ∧ t.get Reg.FAB_SPEED_RATE = min rate 65535 ∧ t.tc = s.tc ∧ t.mem = s.mem ∧
      (rate < 900 → t.fbit Reg.FAB_STICKY_STICKY 5 = true) ∧ (900 ≤ rate → t = s.put Reg.FAB_SPEED_RATE (min rate 65535)))

/-- The photo-finish: PF_SNAPSHOT waits for an instant at least 64 TCLK ahead and two laps ahead where the system takes it, BUSY with the memory held
or another waiting; an edge on the pin is a trigger 64 TCLK ahead; at the instant the triggers that name it make one snapshot, numbered one up and
stamped, or are missed while one is being made or held; the units latched by a handshake end it, those that have not latched within 1 µs are recorded
with what they had before; a snapshot of which a trigger was passed by a step, or made at its edge, carries STEPPED (R63, R407, R408, R409, R410,
R411, R412, R413, R424). Where the spec leaves a point open, it follows the model's choices of log entries 9, 97 and 98. -/
def Obligations.Snapshots : Prop :=
  ∀ s : State,
    (∀ (c : Ctx) (at16 : Nat) (system : Bool) (addr : Nat), Ready s c opPfSnapshot → ∃ t, exec (.pfSnapshot c at16 system addr) s = .next t ∧
      let ahead := linDiff (at16 / 65536 % 2 ^ 64) s.linear
      let due := if at16 = 0 then s.at16 + 100 * 65536 else ((s.at16 : Int) + ahead * 65536 + at16 % 65536 - s.at16 % 65536).toNat
      if at16 ≠ 0 ∧ 2 ^ 62 ≤ ahead.natAbs then Ends s c opPfSnapshot Status.range 0 id t
      else if system = true ∧ s.get Reg.TWN_STATUS_ROLE ≠ 2 then Ends s c opPfSnapshot Status.notFit 0 id t
      else if s.pf.held = true ∨ ∃ x ∈ s.pf.trigs, x.cmd.isSome = true then Ends s c opPfSnapshot Status.busy 0 id t
      else if (system = true ∧ due < s.at16 + 2 * lapNs * 65536) ∨ due < s.at16 + 100 * 65536 then Ends s c opPfSnapshot Status.tooSoon 0 id t
      else Starts s c (fun f =>
        let u := (f.hold c opPfSnapshot (s.sessionRole c.ring c.session) []).pfTrigger ⟨due, if system then 4 else 2, 0, 0, some c, addr, false⟩
        if system then u.sendState 3 (s.sessionRole c.ring c.session) Status.ok 0x0F01 [due] else u) t ∧
        t.pf.trigs = s.pf.trigs ++ [⟨due, if system then 4 else 2, 0, 0, some c, addr, decide (s.var .stepEdge = (s.tc.edges : Int) + 1)⟩]) ∧
    (∀ falling : Bool, ∃ t, exec (.pfTrig falling) s = .next t ∧
      if s.get Reg.PF_CTRL_SRC_PIN = 1 ∧ s.get Reg.PF_CTRL_PIN_EDGE = (if falling then 1 else 0) ∧ s.lapsRun = true
      then t.get64 Reg.PF_PIN_AT_LO_AT_LO Reg.PF_PIN_AT_HI_AT_HI = s.linear ∧ t.pf.trigs = s.pf.trigs ++ [⟨s.at16 + 100 * 65536, 1, 0, 0, none, 0, decide (s.var .stepEdge = (s.tc.edges : Int) + 1)⟩] ∧
        t.tc = s.tc ∧ t.mem = s.mem
      else t = s) ∧
    (∀ x : Latched, ∃ t, exec (.pfLatch x) s = .next t ∧
      (s.pf.trigs = [] → t = s) ∧
      (∀ at_, (∃ x ∈ s.pf.trigs, x.at16 = at_) → (∀ x ∈ s.pf.trigs, at_ ≤ x.at16) →
        if s.at16 < at_ then t = s
        else
          let now := s.pf.trigs.filter fun x => x.at16 = at_
          let u := { s with pf := { s.pf with trigs := s.pf.trigs.filter fun x => x.at16 ≠ at_ } }
          if s.pf.busy = true ∨ s.pf.held = true then t = now.foldl (fun f x => f.pfMiss x) u
          else t.get Reg.PF_SEQ_SEQ = (s.get Reg.PF_SEQ_SEQ + 1) % 2 ^ 32 ∧
            t.get64 Reg.PF_AT_LO_AT_LO Reg.PF_AT_HI_AT_HI = at_ / 65536 % 2 ^ 64 ∧ t.get Reg.PF_AT_FRAC_FRAC = at_ % 65536 ∧ t.pf.busy = true ∧
            t.get Reg.PF_FLAGS_STEPPED = b2n (now.any fun x => x.stepped) ∧
            t.pf.trigs = u.pf.trigs ∧ t.pf.recs.map (·.hid) = allUnits ∧ t.pmc.snap = s.pmc.cnt ∧ t.pmc.cnt = s.pmc.cnt ∧ t.tc = s.tc ∧ t.mem = s.mem)) ∧
    (∃ t, exec .pfTaken s = .next t ∧
      if s.pf.busy = false then t = s
      else ∃ u : State, t = u.pfDone ∧ u.regs = s.regs ∧ u.tc = s.tc ∧ u.mem = s.mem ∧ u.pf.recs.map (·.hid) = allUnits ∧ u.pf.current = s.pf.current ∧
        ∀ r ∈ u.pf.recs, s.pf.unlatched.contains r.hid = false → r = s.oldRec r.hid) ∧
    (∀ hids : List Nat, ∃ t, exec (.noLatch hids) s = .next t ∧
      if s.pf.busy = false ∨ ∀ h ∈ s.pf.unlatched, hids.contains h = false then t = s
      else ∃ u : State, t = u.pfDone ∧ u.regs = s.regs ∧ u.tc = s.tc ∧ u.mem = s.mem ∧ u.pf.recs.map (·.hid) = allUnits ∧
        ∀ r ∈ u.pf.recs, r.hid ∈ s.pf.unlatched → hids.contains r.hid = true →
          r.content = (s.oldRec r.hid).content ∧ r.flags = 32 + 8 * s.get Reg.PF_FLAGS_STEPPED ∧ r.seq = s.get Reg.PF_SEQ_SEQ)

/-- The counters' dumps and the trouble log: with dumps on, the instant a step passed, or the crossing edge of a multiple of the period, makes one
dump, numbered one up; LOG_READ writes the entries held from the first asked for in SEQ order, as many as there are up to the count, and completes
with their number (R417, R418, R423, R424). Where the spec leaves a point open, it follows the model's choices of log entries 9, 64 and 99. -/
def Obligations.DumpsAndLog : Prop :=
  ∀ s : State,
    (∃ t, exec .dump s = .next t ∧
      if s.dumps = false then t = s
      else if s.var .dumpStep ≠ 0 then
        if s.at16 < (s.var .dumpStep).toNat then t = s
        else t.var .dumpStep = 0 ∧ t.var .dumpLast = (s.linear / 1000000 : Nat) ∧ t.get Reg.DUMP_NO_NO = (s.get Reg.DUMP_NO_NO + 1) % 2 ^ 32 ∧
          t.tc = s.tc ∧ t.mem = s.mem
      else
        let at_ := s.dumpIndex * dumpMs (s.get Reg.DUMP_CTRL_PERIOD)
        if s.var .dumpLast < at_ ∧ s.crosses (dumpMs (s.get Reg.DUMP_CTRL_PERIOD) * 1000000) = true
        then t.var .dumpLast = at_ ∧ t.get Reg.DUMP_NO_NO = (s.get Reg.DUMP_NO_NO + 1) % 2 ^ 32 ∧ t.tc = s.tc ∧ t.mem = s.mem ∧
          (s.get Reg.DUMP_CTRL_REGIONS = 0 → s.get Reg.DUMP_CTRL_PORT_STATS = 0 → s.dumpq.length < 128 →
            t.dumpq = s.dumpq ++ [(s.put Reg.DUMP_NO_NO (s.get Reg.DUMP_NO_NO + 1)).dumpHeader 0 (at_ * 1000000 * 65536) false])
        else t = s) ∧
    (∀ (c : Ctx) (source first count addr : Nat), Ready s c opLogRead → ∃ t es, exec (.logRead c source first count addr) s = .next t ∧
      es = (((if source = 0 then s.log.entries else s.log.prev).reverse).flatMap fun e =>
        e.logBytes.zipIdx.map fun b => ((e.seq + b.2) % 2 ^ 32, b.1)) ∧
      if 1 < source ∨ count < 1 ∨ 16384 < count then Ends s c opLogRead Status.range 0 id t
      else match s.unitBars 0xB300 with
      | some st => Ends s c opLogRead st 0 id t
      | none => if ∀ x ∈ es, x.1 ≠ first then Ends s c opLogRead Status.notFound 0 id t
      else if c.dmaOk = false then Ends s c opLogRead Status.dmaError 0 id t
      else ∃ got, got = (es.dropWhile fun x => x.1 ≠ first).take count ∧
        Ends s c opLogRead Status.ok got.length (fun f => f.dmaWrite addr (got.flatMap (·.2))) t)

/-- Sessions: a challenge for a role that has a key, is not locked out and while the random source gives is a fresh nonce with the next number, of
which the last 8 stay; SESSION_OPEN consumes its challenge whatever comes of it, refuses an unknown or old one, another ring, a locked role and a
wrong response, each counted with its check, and a response that is right opens the lowest free session; at FAIL_LIMIT wrong responses the role is
locked out. SESSION_CLOSE is for the session itself, an INSTALLER over the two lower roles and a MAKER (R433, R434, R435, R436, R438, R444). Where the
spec leaves a point open, it follows the model's choices of log entries 45 and 103. -/
def Obligations.Sessions : Prop :=
  ∀ (s : State) (c : Ctx),
    (∀ role addr : Nat, Ready s c opSessionChallenge → ∃ t, exec (.sessionChallenge c role addr) s = .next t ∧
      if role < 1 ∨ 3 < role then Ends s c opSessionChallenge Status.range 0 id t
      else if s.roleKey role = none then Ends s c opSessionChallenge Status.notFit 0 id t
      else if s.lockedOut role = true ∨ s.drbgGives = false then Ends s c opSessionChallenge Status.busy 0 id t
      else
        let n := (s.roles.nextId + 1) % 2 ^ 32
        let kept := s.roles.challenges.drop (s.roles.challenges.length - 7) ++ [⟨n, role, c.ring, (s.draw 32).1, s.runNs⟩]
        t.roles.nextId = n ∧ t.roles.draws = s.roles.draws + 1 ∧
        if c.dmaOk = false then t.roles.challenges = s.roles.challenges ∧
          Ends s c opSessionChallenge Status.dmaError 0 (fun f => { f with roles := { f.roles with draws := f.roles.draws + 1, nextId := n } }) t
        else t.roles.challenges = kept ∧ Ends s c opSessionChallenge Status.ok n (fun f =>
          { f with roles := { f.roles with draws := f.roles.draws + 1, nextId := n, challenges := kept } }.dmaWrite addr (s.draw 32).1) t) ∧
    (∀ (id_ : Nat) (bind : Bool) (addr : Nat), Ready s c opSessionOpen → ∃ t, exec (.sessionOpen c id_ bind addr) s = .next t ∧
      let left := s.roles.challenges.filter fun x => x.id ≠ id_
      let used (f : State) : State := { f with roles := { f.roles with challenges := left } }
      let refused (u : State) : State := (u.put Reg.SESSION_FAILS_COUNT (u.get Reg.SESSION_FAILS_COUNT + 1)).putBit Reg.ROLE_STICKY_STICKY 0 true
      t.roles.challenges = left ∧
      if c.dmaOk = false then Ends s c opSessionOpen Status.dmaError 0 used t
      else match s.roles.challenges.find? fun x => x.id = id_ with
        | none => Ends s c opSessionOpen Status.sessionRefused 0 (fun f => refused (used f)) t
        | some x =>
          if x.madeAt + 30 * 1000000000 < s.runNs ∨ x.ring ≠ c.ring ∨ s.lockedOut x.role = true
          then Ends s c opSessionOpen Status.sessionRefused 0 (fun f => refused (used f)) t
          else if (s.roleKey x.role).map (fun k => Crypto.hmac k (s.sessionMsg x c.ring bind)) ≠ some (memRead s.mem addr 32) then
            let fails := (aget s.roles.fails x.role).getD 0 + 1
            t.roles.fails = aput s.roles.fails x.role fails ∧
            (∃ eff, Ends s c opSessionOpen Status.sessionRefused 0 eff t) ∧
            t.get Reg.SESSION_FAILS_COUNT = (s.get Reg.SESSION_FAILS_COUNT + 1) % 2 ^ 32 ∧
            (if s.get Reg.SESSION_CFG_FAIL_LIMIT ≤ fails
             then t.timer (.lockout x.role) = some (s.runNs + s.get Reg.SESSION_CFG_LOCKOUT * 1000000000)
             else t.timer (.lockout x.role) = s.timer (.lockout x.role))
          else match (s.fetch c).freeSession with
            | none => Ends s c opSessionOpen Status.busy 0 used t
            | some n => 1 ≤ n ∧ n ≤ 16 ∧ aget (s.fetch c).roles.sessions n = none ∧
              Ends s c opSessionOpen Status.ok (n + 256 * x.role) (fun f => { f with
                roles := { f.roles with challenges := left, fails := adel f.roles.fails x.role, regSession := if bind then some n else f.roles.regSession
                                        sessions := aput f.roles.sessions n ⟨x.role, c.ring, s.linear, s.runNs⟩ } }.put
                Reg.SESSION_OPENS_COUNT (s.get Reg.SESSION_OPENS_COUNT + 1)) t) ∧
    (∀ n : Nat, Ready s c opSessionClose → ∃ t, exec (.sessionClose c n) s = .next t ∧
      let held := s.sessionRole c.ring c.session
      match aget (s.fetch c).roles.sessions n with
      | none => Ends s c opSessionClose Status.notFound 0 id t
      | some x => if (c.session = n ∧ x.ring = c.ring) ∨ (held = 2 ∧ x.role ≠ 3) ∨ held = 3
        then Ends s c opSessionClose Status.ok 0 (fun f => { f with roles := { f.roles with
          sessions := adel f.roles.sessions n, regSession := if f.roles.regSession = some n then none else f.roles.regSession } }) t
        else ∃ u : State, u.get Reg.HIF_NO_RIGHT_COUNT = (s.get Reg.HIF_NO_RIGHT_COUNT + 1) % 2 ^ 32 ∧ u.tc = s.tc ∧ u.mem = s.mem ∧
          aget u.roles.sessions n = some x ∧ t = u.complete c Status.noRight (if x.role = 3 then 3 else 2))

/-- What time does to sessions: one idle for IDLE_TIMEOUT closes, a challenge older than 30 s is gone, and a lockout that is over ends with the role's
failures forgotten. The random source: the first reseed makes the DRBG ready, each further one, not before a second has gone, is counted and ends a withholding; a failed block is
counted with those of its second; a reseed 2 s overdue withholds output; and 60 s of withholding is a fault of the unit (R433, R436, R438, R442,
R443). Where the spec leaves a point open, it follows the model's choices of log entries 9 and 39. -/
def Obligations.SessionTimersAndRandomSource : Prop :=
  (∀ s : State,
    (∀ n : Nat, ∃ t, exec (.sessionIdleTimeout n) s = .next t ∧
      match aget s.roles.sessions n with
      | none => t = s
      | some x => if x.lastAt + s.get Reg.SESSION_CFG_IDLE_TIMEOUT * 1000000000 ≤ s.runNs
        then aget t.roles.sessions n = none ∧ (∀ m, m ≠ n → aget t.roles.sessions m = aget s.roles.sessions m) ∧ t.roles.regSession ≠ some n ∧
          Quiet { s with roles := t.roles } t
        else t = s) ∧
    (∀ n : Nat, ∃ t, exec (.challengeExpiry n) s = .next t ∧ t = { s with roles := t.roles } ∧
      t.roles = { s.roles with challenges := t.roles.challenges } ∧ ∀ x, x ∈ t.roles.challenges ↔
        x ∈ s.roles.challenges ∧ (x.id = n → s.runNs < x.madeAt + 30 * 1000000000)) ∧
    (∀ role : Nat, ∃ t, exec (.lockoutEnd role) s = .next t ∧
      if s.due (.lockout role) = true then t.lockedOut role = false ∧ aget t.roles.fails role = none ∧ t.regs = s.regs ∧
        (∀ r, r ≠ role → aget t.roles.fails r = aget s.roles.fails r ∧ t.lockedOut r = s.lockedOut r)
      else t = s)) ∧
  (∀ s : State,
    (∃ t, exec .drbgReseed s = .next t ∧
      if s.trngRuns = false ∨ (s.get Reg.TRNG_STATUS_DRBG_READY ≠ 0 ∧ (s.runNs : Int) < s.var .reseedAt + 1000000000) then t = s
      else t.var .reseedAt = s.runNs ∧ t.get Reg.TRNG_STATUS_DRBG_READY = (if s.get Reg.TRNG_STATUS_DRBG_READY = 0 then 1 else s.get Reg.TRNG_STATUS_DRBG_READY) ∧
        t.tc = s.tc ∧ t.mem = s.mem ∧ t.roles = s.roles ∧
        (s.get Reg.TRNG_STATUS_DRBG_READY ≠ 0 → t.get Reg.TRNG_STATUS_WITHHELD = 0 ∧
          t.get Reg.DRBG_RESEEDS_COUNT = (s.get Reg.DRBG_RESEEDS_COUNT + 1) % 2 ^ 32)) ∧
    (∀ test : Nat, ∃ t, exec (.healthFail test) s = .next t ∧
      if s.trngRuns = false ∨ test < 1 ∨ 2 < test then t = s
      else t.get Reg.TRNG_BLOCKS_FAILED_COUNT = (s.get Reg.TRNG_BLOCKS_FAILED_COUNT + 1) % 2 ^ 32 ∧ t.fbit Reg.TRNG_STICKY_STICKY 0 = true ∧
        t.tc = s.tc ∧ t.roles = s.roles ∧
        if s.var .healthFails = 0 ∨ s.var .healthFrom + 1000000000 ≤ s.runNs then t.var .healthFails = 1 ∧ t.var .healthFrom = s.runNs
        else t.var .healthFails = s.var .healthFails + 1 ∧ t.var .healthFrom = s.var .healthFrom) ∧
    (∃ t, exec .drbgWithheld s = .next t ∧
      if s.get Reg.TRNG_STATUS_DRBG_READY = 1 ∧ s.get Reg.TRNG_STATUS_WITHHELD = 0 ∧ s.var .reseedAt + 3000000000 ≤ s.runNs
      then t.get Reg.TRNG_STATUS_WITHHELD = 1 ∧ t.var .withheldAt = s.runNs ∧ t.fbit Reg.TRNG_STICKY_STICKY 1 = true ∧ t.drbgGives = false ∧
        t.tc = s.tc ∧ t.roles = s.roles
      else t = s) ∧
    (∃ t, exec .withholdingFault s = .next t ∧
      if s.get Reg.TRNG_STATUS_WITHHELD = 1 ∧ s.var .withheldAt + 60000000000 ≤ s.runNs then t = s.unitFault 0xA200 2 else t = s))

/-- ROLE_KEY_SET: MAKER sets the installer's key and INSTALLER the operator's; CLEAR unsets it; a key unwrapped under the setter's key is held here,
in the sealed copy and in the keeper store, and the sessions of that role close; anything else of the wrapped form is UNWRAP_FAIL and changes nothing
(R430, R431, R432, R438, R440, R444). Where the spec leaves a point open, it follows the model's choice of log entry 45. -/
def Obligations.RoleKeys : Prop :=
  ∀ (s : State) (c : Ctx) (target : Nat) (clear : Bool) (addr : Nat), target = 1 ∨ target = 2 → Ready s c (opRoleKeySet target) →
    ∃ t, exec (.roleKeySet c target clear addr) s = .next t ∧
      let mine := s.sessionRole c.ring c.session
      let fresh := (s.roleKey mine).bind fun k => Crypto.keyUnwrap (wrapKey k target) (memRead s.mem addr 40)
      let takes (k : Option (List Byte)) : Prop := aget t.roles.keys target = k ∧ aget t.roles.sealed target = k ∧ aget t.keeper.keys target = k ∧
        (∀ r, r ≠ target → aget t.roles.keys r = aget s.roles.keys r) ∧
        (∀ n x, n ≤ 16 → aget t.roles.sessions n = some x → x.role ≠ target) ∧ t.fbit Reg.ROLE_STICKY_STICKY 2 = true ∧ t.tc = s.tc ∧
        ∃ eff, Ends s c (opRoleKeySet target) Status.ok (t.roleKcv target) eff t
      if clear then takes none
      else if c.dmaOk = false then Ends s c (opRoleKeySet target) Status.dmaError 0 id t
      else match fresh with
        | none => Ends s c (opRoleKeySet target) Status.unwrapFail 0 id t
        | some k => if k.length = 32 then takes (some k) else Ends s c (opRoleKeySet target) Status.unwrapFail 0 id t

/-- A register write is judged in this order: nothing before READY or by the dump engine; a misaligned access or one where no register stands is the
default target's; a unit that is ABSENT takes nothing; a poisoned one is refused; a word no field of which software writes is left; the host needs the
role of every field it writes; and while the interface is RUNNING only live fields are open to it: a write that meets a frozen field beside live ones
is logged as refused, whatever value it writes, and made on the live ones. A refused write shows WRITE_REFUSED and leaves every register as it was;
one that is made changes what the word's write changes, and nothing more than what is logged and counted of it (R13, R14,
R15, R16, R17, R363, R440, R441, R472, R473). Where the spec leaves a point open, it follows the model's choice of log entry 115. -/
def Obligations.RegisterWrites : Prop :=
  ∀ (s : State) (a : WrAcc), ∀ i ∈ [Instr.registerWrite a, .w1cWrite a, .hiWrite a, .loWrite a], ∃ t, exec i s = .next t ∧
    let host := a.ini = .host
    let locked := host ∧ s.get Reg.HIF_STATUS_STATE = 2
    let refused : Prop := t.get Reg.LOG_STICKY_WRITE_REFUSED = 1 ∧ t.tc = s.tc ∧ t.mem = s.mem ∧ t.units = s.units ∧ t.hif = s.hif ∧
      ∀ f : Fld, f.key ∉ bookkeeping → f.key ≠ Reg.LOG_STICKY_WRITE_REFUSED.key → t.get f = s.get f
    if a.ini = .dump ∨ (host ∧ s.get Reg.HIF_STATUS_STATE = 0) then t = s
    else if a.full = false ∨ wordAt a.addr = none then t = s.defaultHit (iniOf a.ini) a.addr true true
    else ∀ w, wordAt a.addr = some w →
      if s.wordAbsent a.addr = true then t = s
      else if a.poison then refused
      else if ∀ f ∈ w.fields, f.acts = false then t = if host then s.touchReg else s
      else if host ∧ ∃ f ∈ w.fields, f.acts = true ∧ f.allows s.regRole = false then refused
      else if locked ∧ ∀ f ∈ w.fields, f.acts = true → f.live = false then refused
      else
        let x := if host then s.touchReg else s
        let shut := locked ∧ ∃ f ∈ w.fields, f.acts = true ∧ f.live = false
        let y := if shut then x.refuseWrite a.addr (a.value % 2 ^ 32) s.regRole a.ini 2 else x
        Quiet (y.wordWritten (Ini.code a.ini) a.addr w (fun f => decide (¬ (locked ∧ f.live = false))) (a.value % 2 ^ 32)) t

/-- What register writes leave, of registers of each kind written by the host with the right role: a field with a range takes the nearer end of it; a
sticky bit written 1 clears and one written 0 stays; a HI word waits, and the LO word's write takes it along, with the bits an alignment drops (R13,
R18, R365, R388, R438, R440, R446, R471). Where the spec leaves a point open, it follows the model's choice of log entry 115. -/
def Obligations.RegisterWriteResults : Prop :=
  ∀ (s : State) (v : Nat), v < 2 ^ 32 → s.get Reg.HIF_STATUS_STATE ≠ 0 →
    (hasRight s.regRole 2 = true → ∃ t, exec (.registerWrite ⟨.host, 0x10C, v, true, false⟩) s = .next t ∧
      t.get Reg.SESSION_CFG_IDLE_TIMEOUT = max 10 (v % 2 ^ 16) ∧ t.get Reg.SESSION_CFG_FAIL_LIMIT = max 1 (v / 2 ^ 16 % 2 ^ 4) ∧
      t.get Reg.SESSION_CFG_LOCKOUT = min 3600 (max 10 (v / 2 ^ 20 % 2 ^ 12)) ∧ t.tc = s.tc ∧ t.mem = s.mem ∧
      ∀ f : Fld, f.key ∉ bookkeeping → f.addr ≠ 0x10C → f.lo < 32 → t.get f = s.get f) ∧
    (hasRight s.regRole 1 = true → ∃ t, exec (.w1cWrite ⟨.host, 0x104, v, true, false⟩) s = .next t ∧
      (∀ k, k < 4 → t.fbit Reg.ROLE_STICKY_STICKY k = (s.fbit Reg.ROLE_STICKY_STICKY k && ! bit v k)) ∧ t.tc = s.tc ∧ t.mem = s.mem) ∧
    ((s.unit 0xB000).st ≠ .absent →
      (∃ t, exec (.hiWrite ⟨.host, 0x20014, v, true, false⟩) s = .next t ∧ t.hif.staged = aput s.hif.staged (latchKey 0 0x20014) v ∧
        t.get Reg.DB_BASE_HI_ADDR_HI = s.get Reg.DB_BASE_HI_ADDR_HI ∧ t.get Reg.DB_BASE_LO_ADDR_LO = s.get Reg.DB_BASE_LO_ADDR_LO) ∧
      ∀ hi, hi < 2 ^ 32 → aget s.hif.staged (latchKey 0 0x20014) = some hi → (∀ n, n < 64 → s.ringSt n = 0) →
        ∃ t, exec (.loWrite ⟨.host, 0x20010, v, true, false⟩) s = .next t ∧ t.get Reg.DB_BASE_LO_ADDR_LO = v / 256 * 256 ∧
          t.get Reg.DB_BASE_HI_ADDR_HI = hi ∧ t.tc = s.tc ∧ t.mem = s.mem)

/-- A register read: an offset with no register is the default target's; an ABSENT unit's registers read without effect; the LO word of a quantity
latches its further words for the initiator's class, a latched word reads what was latched; a clear-on-read field clears, but not for the dump engine;
a poisoned word reads as ones; and LINEAR_LO reads the time, never a latch (R13, R19, R56, R399, R418, R470, R471, R472, R473). Where the spec leaves
a point open, it follows the model's choice of log entry 101. -/
def Obligations.RegisterReads : Prop :=
  ∀ (s : State) (ini : Ini) (poison : Bool),
    (∀ a : Nat, ∀ i ∈ [Instr.rcRead ini a poison, .loRead ini a poison], ∃ t, exec i s = .next t ∧
      if ini = .host ∧ s.get Reg.HIF_STATUS_STATE = 0 ∧ ¬ (a < 0x10000 ∨ a = 0x20000) then t = s.returns 0
      else (wordAt a = none → t = s.defaultHit (iniOf ini) a false true) ∧
        ∀ w, wordAt a = some w →
          if s.wordAbsent a = true then t = s.returns (s.peek a)
          else if w.latched = true then
            t = s.returns (if poison then 2 ^ 32 - 1 else (aget s.hif.latches (latchKey (Ini.code ini) a)).getD 0)
          else t.hif.rdata = (if poison then 2 ^ 32 - 1 else s.peek a) ∧ t.tc = s.tc ∧ t.mem = s.mem ∧ t.units = s.units ∧ t.out = s.out ∧
            (∀ o ∈ w.latch, aget t.hif.latches (latchKey (Ini.code ini) (a + o)) = some (s.peek (a + o))) ∧
            (ini = .dump → t.regs = s.regs) ∧
            (ini ≠ .dump → ∀ f ∈ w.fields, f.acc = .rc → t.get f = 0) ∧
            (∀ f : Fld, (∀ g ∈ w.fields, g.acc = .rc → g.key ≠ f.key) →
              (∀ o ∈ w.latch, ∀ x, wordAt (a + o) = some x → ∀ g ∈ x.fields, g.key ≠ f.key) → t.get f = s.get f)) ∧
    (s.get Reg.HIF_STATUS_STATE ≠ 0 → (s.unit 0x0000).st ≠ .absent → ∃ t, exec (.linearLoRead ini poison) s = .next t ∧
      t.hif.rdata = (if poison then 2 ^ 32 - 1 else s.linear % 2 ^ 32) ∧ t.regs = s.regs ∧ t.tc = s.tc ∧ t.mem = s.mem ∧
      aget t.hif.latches (latchKey (Ini.code ini) 0x100034) = some (s.linear / 2 ^ 32))

/-- The registers whose write is an action, written by the host with the right role: LOCK_SET in READY sets CONFIG_LOCK and the interface runs;
HIF_KICK asks for a poll; ENABLE of a ring makes a DISABLED one ACTIVE where its configuration passes, else ERROR, and 0 stops an ACTIVE one and
disables one in error; PF_RELEASE lets go of the snapshot memory; PMC_CLEAR clears the counters named; a flush empties a queue and counts what it held
(R362, R363, R366, R371, R372, R402, R410, R414). Where the spec leaves a point open, it follows the model's choices of log entries 100 and 116. -/
def Obligations.RegisterActions : Prop :=
  ∀ (s : State) (a : WrAcc), a.ini = .host → a.full = true → a.poison = false → s.get Reg.HIF_STATUS_STATE ≠ 0 →
    let u := s.touchReg
    ((s.unit 0xB000).st ≠ .absent →
      (∃ t, exec (.lockSet a) s = .next t ∧
        if s.get Reg.HIF_STATUS_STATE = 1 ∧ hasRight s.regRole 2 = true ∧ bit a.value 0 = true
        then t.get Reg.HIF_STATUS_STATE = 2 ∧ t.get Reg.HIF_STATUS_CONFIG_LOCK = 1 ∧ t.tc = s.tc ∧ t.mem = s.mem
        else t.get Reg.HIF_STATUS_STATE = s.get Reg.HIF_STATUS_STATE ∧ t.get Reg.HIF_STATUS_CONFIG_LOCK = s.get Reg.HIF_STATUS_CONFIG_LOCK) ∧
      (∃ t, exec (.hifKick a) s = .next t ∧ t.var .kicked = 1 ∧ Quiet (u.setVar .kicked 1) t) ∧
      (∀ n, n < 64 →
        (∃ t, exec (.ringEnable n a) s = .next t ∧ t.get (Reg.RING_CTRL_ENABLE n) = 1 ∧ t.mem = s.mem ∧ t.tc = s.tc ∧
          if s.ringSt n ≠ 0 then t.ringSt n = s.ringSt n
          else if s.ringOk n = true then t.ringSt n = 1 ∧ t.engIdx n = 0 ∧ t.hostIdx n = 0 ∧ t.get (Reg.RING_STATUS_CAUSE n) = 0
          else t.ringSt n = 3 ∧ t.get (Reg.RING_STATUS_CAUSE n) = 1) ∧
        (∃ t, exec (.ringDisable n a) s = .next t ∧ t.get (Reg.RING_CTRL_ENABLE n) = 0 ∧ t.mem = s.mem ∧ t.tc = s.tc ∧
          t.ringSt n = if s.ringSt n = 1 then 2 else if s.ringSt n = 3 then 0 else s.ringSt n))) ∧
    (hasRight s.regRole 1 = true →
      ((s.unit 0x0800).st ≠ .absent → ∃ t, exec (.pfRelease a) s = .next t ∧ t.pf.busy = s.pf.busy ∧ t.pf.recs = s.pf.recs ∧ t.tc = s.tc ∧
        t.pf.held = if bit a.value 0 then false else s.pf.held) ∧
      (∀ r, r < 8 → (s.unit (r / 4 * 0x8000 + r % 4 * 0x1000 + 0xF00)).st ≠ .absent → ∃ t x, exec (.pmcClear r a) s = .next t ∧
        x = u.pmcClear r (a.value % 512) ∧ Quiet x t ∧
        (∀ k, k < 8 → if bit a.value k then aget x.pmc.cnt (r * 8 + k) = none ∧ bit ((aget x.pmc.sat r).getD 0) k = false
          else aget x.pmc.cnt (r * 8 + k) = aget s.pmc.cnt (r * 8 + k)) ∧
        (bit a.value 8 = true → x.elapsed r = 0)) ∧
      ((s.unit 0xB200).st ≠ .absent → ∀ q, q < 6 → ∃ t, exec (.flush q a) s = .next t ∧ t.tc = s.tc ∧ t.mem = s.mem ∧
        if bit a.value 0 then t.get (Reg.RQ_FLUSHED_COUNT q) = (s.get (Reg.RQ_FLUSHED_COUNT q) + s.rqHeld q) % 2 ^ 32 ∧ (q ≠ 0 → t.rqHeld q = 0)
        else t.get (Reg.RQ_FLUSHED_COUNT q) = s.get (Reg.RQ_FLUSHED_COUNT q) ∧ (q ≠ 0 → t.rqHeld q = s.rqHeld q)))

/-- The host interface: a STOPPING ring whose commands have completed is DISABLED; MOD_TIME's end signals the ring's vector, at once or with the next
status block; the status block is written whole when due, counts itself and lets its messages go; an unmasked vector's pending message goes; D3hot
holds what would be written until D0; a host reset disables every ring, closes every session, discards the challenges and returns the HIF registers to
their reset values; and HOST_BACK tells of it (R359, R365, R367, R368, R372, R385, R386, R387). Where the spec leaves a point open, it follows the
model's choices of log entries 6, 9, 96 and 104. -/
def Obligations.HostInterface : Prop :=
  ∀ s : State,
    (∀ n : Nat, ∃ t, exec (.ringStopped n) s = .next t ∧
      if n < 64 ∧ s.ringSt n = 2 ∧ (s.get (Reg.RING_CFG_TYPE n) = 0 → ∀ e ∈ s.hif.inflight, e.ctx.ring ≠ n)
      then t.ringSt n = 0 ∧ t.timer (.modTime n) = none ∧ t.hif.stDirty = true ∧ t.mem = s.mem ∧ t.tc = s.tc else t = s) ∧
    (∀ n : Nat, ∃ t, exec (.modTimeExpiry n) s = .next t ∧
      if s.due (.modTime n) = false then t = s
      else t.timer (.modTime n) = none ∧ aget t.hif.unsignal n = some 0 ∧ t.regs = s.regs ∧ t.mem = s.mem ∧
        let v := s.get (Reg.RING_CFG_VECTOR n)
        if v = 0 then t.out = s.out ∧ t.hif.toSignal = s.hif.toSignal
        else if s.hif.stDirty = true then t.out = s.out ∧ t.hif.toSignal = s.hif.toSignal ++ [v]
        else t.out = if s.hif.masked.contains v = true ∨ s.hif.d3hot = true ∨ s.hif.hostUp = false then s.out else .msi v :: s.out) ∧
    (∀ dma : Bool, ∃ t, exec (.statusBlockWrite dma) s = .next t ∧
      let base := s.get64 Reg.ST_BASE_LO_ADDR_LO Reg.ST_BASE_HI_ADDR_HI
      if s.hostOpen = false ∨ s.hif.d3hot = true ∨ s.hif.hostUp = false ∨ base = 0 ∨ s.statusDue = false then t = s
      else t.var .stAt = s.runNs + 1 ∧ t.tc = s.tc ∧
        if dma then
          let u := { s with hif := { s.hif with stSeq := (s.hif.stSeq + 1) % 2 ^ 32 } }
          t.mem = (u.dmaWrite base u.statusBytes).mem ∧ u.statusBytes.length = 512 ∧ t.hif.stSeq = u.hif.stSeq ∧ t.hif.stDirty = false ∧
            t.hif.toSignal = [] ∧ t.regs = s.regs
        else t.mem = s.mem ∧ t.hif.stSeq = s.hif.stSeq ∧ t.hif.toSignal = s.hif.toSignal ∧ t.fbit Reg.HIF_STICKY_STICKY 1 = true) ∧
    (∀ v : Nat, ∃ t, exec (.vectorUnmask v) s = .next t ∧
      let u := { s with hif := { s.hif with masked := s.hif.masked.erase v } }
      if 32 ≤ v then t = s
      else if s.hif.pbits.contains v = true ∧ s.hif.d3hot = false ∧ s.hif.hostUp = true
      then t = { u with hif := { u.hif with pbits := s.hif.pbits.erase v } }.msi v else t = u) ∧
    (∀ on : Bool, ∃ t, exec (.d3hot on) s = .next t ∧
      if s.hif.d3hot = on then t = s
      else if on then t = { s with hif := { s.hif with d3hot := true } }
      else ∃ u, u = { s with hif := { s.hif with d3hot := false, waiting := [] } }.writeHeld s.hif.waiting ∧ t.mem = u.mem ∧ t.hif.d3hot = false ∧
        (s.hif.waiting = [] → t.hif.waiting = [] ∧ t.regs = s.regs ∧
          ∀ v, s.hif.pbits.count v = 1 → s.hif.masked.contains v = false → s.hif.hostUp = true → v ∉ t.hif.pbits ∧ .msi v ∈ t.out)) ∧
    (∀ cause : Nat, ∃ t, exec (.hostReset cause) s = .next t ∧
      if cause < 1 ∨ 3 < cause then t = s
      else (∀ n, n < 64 → t.ringSt n = 0 ∧ t.timer (.modTime n) = none) ∧ (∀ n, n ≤ 16 → aget t.roles.sessions n = none) ∧
        t.roles.challenges = [] ∧ t.roles.regSession = none ∧ t.hif.masked = List.range 32 ∧ t.hif.pbits = [] ∧ t.hif.waiting = [] ∧
        t.hif.hostUp = false ∧ t.hif.lastReset = cause ∧ t.hif.stSeq = 0 ∧ t.hif.engIdx = [] ∧ t.hif.discards = s.hif.waiting.length ∧
        t.hif.inflight = s.hif.inflight ∧ t.get Reg.HIF_CPL_DISCARDED_COUNT = s.hif.waiting.length % 2 ^ 32 ∧
        t.get Reg.HIF_STATUS_STATE = s.get Reg.HIF_STATUS_STATE ∧ t.get Reg.HIF_STATUS_CONFIG_LOCK = s.get Reg.HIF_STATUS_CONFIG_LOCK ∧
        (∀ f : Fld, hifField f.key = true → f.key ≠ Reg.HIF_CPL_DISCARDED_COUNT.key → t.get f = f.reset) ∧ t.mem = s.mem ∧ t.tc = s.tc) ∧
    (∃ t, exec .hostBack s = .next t ∧
      if s.hif.hostUp = true then t = s
      else t.hif.hostUp = true ∧ t.fbit Reg.HIF_STICKY_STICKY 3 = true ∧ t.mem = s.mem ∧ t.tc = s.tc)

/-- The engine's own commands: NOP echoes; ABORT finds its command in flight, of its own session and ring, ends at once one that waits, and waits
itself for one that cannot be left; a poll that is due reads the doorbell block, counts itself, and takes the indices it finds unless the read fails
(R365, R366, R381, R382, R383, R384). Where the spec leaves a point open, it follows the model's choices of log entries 120 and 122. -/
def Obligations.EngineCommands : Prop :=
  ∀ (s : State) (c : Ctx),
    (∀ echo : Nat, Ready s c opNop → ∃ t, exec (.nop c echo) s = .next t ∧ Ends s c opNop Status.ok (echo % 2 ^ 64) id t) ∧
    (∀ ring tag : Nat, Ready s c opAbort → ∃ t, exec (.abort c ring tag) s = .next t ∧
      if 63 < ring then Ends s c opAbort Status.range 0 id t
      else match findFlight s.hif.inflight ring tag with
        | none =>
          if c.ring = ring ∧ c.tag = tag then Ends s c opAbort Status.notPermitted 0 id t
          else if ∃ d ∈ s.hif.done, d.ring = ring ∧ d.tag = tag then Ends s c opAbort Status.abortTooLate 0 id t
          else Ends s c opAbort Status.notFound 0 id t
        | some e =>
          if e.ctx.session ≠ c.session ∨ (c.session ≠ 0 ∧ e.ctx.ring ≠ c.ring) then
            Ends s c opAbort Status.noRight e.role (fun f => (f.bump Reg.HIF_NO_RIGHT_COUNT).raiseHif evNoRight [i2 2, i1 c.session, i1 e.role]) t
          else if e.op = 2 then Ends s c opAbort Status.notPermitted 0 id t
          else if e.started = false then Ends s c opAbort Status.ok 0 (fun f => f.complete e.ctx Status.aborted 0 true) t
          else if e.withheld.isSome = true then Starts s c (fun f => f.hold c opAbort (s.sessionRole c.ring c.session) [ring, tag]) t
          else if e.op = opSynStart.op then Ends s c opAbort Status.ok 0 (fun f => f.synStop (e.arg.headD 0) Status.aborted) t
          else e.op ∉ [opSynFreqStep.op, opYield.op, opTimCalibrate.op, opBistRun.op] →
            Starts s c (fun f => f.hold c opAbort (s.sessionRole c.ring c.session) [ring, tag]) t) ∧
    (∀ (dma : Bool) (bad : List Nat) (ind : Bool), ∃ t, exec (.doorbellPoll dma bad ind) s = .next t ∧
      if s.pollDue = false then t = s
      else t.timer .poll = some (t.runNs + 500 * t.hif.pollEvery) ∧
        (dma = false → t.get Reg.HIF_DB_FAILS_COUNT = (s.get Reg.HIF_DB_FAILS_COUNT + 1) % 2 ^ 32 ∧
          t.get Reg.HIF_DB_POLLS_COUNT = (s.get Reg.HIF_DB_POLLS_COUNT + 1) % 2 ^ 32 ∧ t.var .kicked = 0 ∧ t.hif.hostIdx = s.hif.hostIdx ∧
          t.hif.inflight = s.hif.inflight ∧ t.mem = s.mem) ∧
        (dma = true → (∀ n, n < 64 → s.ringSt n = 1 → s.bell n = s.hostIdx n ∧ s.ringHas n = 0) →
          t.get Reg.HIF_DB_POLLS_COUNT = (s.get Reg.HIF_DB_POLLS_COUNT + 1) % 2 ^ 32 ∧ t.var .kicked = 0 ∧ t.hif.hostIdx = s.hif.hostIdx ∧
          t.hif.inflight = s.hif.inflight ∧ t.mem = s.mem ∧
          t.hif.pollEvery = if s.get Reg.DB_POLL_ADAPT = 0 then s.get Reg.DB_POLL_POLL
            else if s.get Reg.DB_POLL_IDLE_POLLS ≤ s.hif.idlePolls + 1 then min (2 * s.hif.pollEvery) (s.get Reg.DB_POLL_MAX) else s.hif.pollEvery))

/-- The lap boundary and the step: an edge that crosses a lap boundary makes it once, in the order of records, the partner's measurement, the TIM, the
selector, admission, the services and maker work, and then a marker leaves on each pair that is UP and the stamps of the boundary before, but none of this one, are done
with; at the launch edge of the second marker after its decision, and at no other, the step moves the time by its whole nanoseconds, leaves the rest
to the slew, whose build-out it takes over, and is recorded (R59, R63, R87, R295, R335, R337, R342, R497). Where the spec leaves a point open, it
follows the model's choices of log entries 9, 13, 40, 124 and 203. -/
def Obligations.LapAndStep : Prop :=
  ∀ s : State,
    (∀ tx0 tx1 : Int, ∃ t, exec (.lapBoundary tx0 tx1) s = .next t ∧
      if s.lapsRun = false ∨ ¬ (s.tc.prev / (lapNs * nsUnit) < s.tc.time / (lapNs * nsUnit)) ∨ s.var .lapEdge = (s.tc.edges : Int) + 1 then t = s
      else
        let p := (s.setVar .lapEdge (s.tc.edges + 1 : Nat)).applyInbox.resynced.passPartner
        let q := (((p.pmcEvent 0 0x13).lapBursts.setVar .lapNo (p.ns / lapNs : Nat)).timLap.selectorLap.timUses).showFollowing
        let v := ((q.lapAdmission q.reserved.1 q.reserved.2).serveUpdate).makerLap
        t = v.lapMarkers tx0 tx1 ∧ t.twin.markRx = (v.twin.markRx.filter fun e => decide (e.1 / 2 = v.ns / lapNs % 2 ^ 24)) ∧ t.var .markUsable = 0 ∧ t.var .lapBadC = (if v.synSt 2 = 3 then 0 else 1) ∧
          aget t.twin.markTx 0 = (if v.get (Reg.RL_PAIR_STATUS_STATE 0) = 2 then some tx0 else none) ∧
          aget t.twin.markTx 1 = (if v.get (Reg.RL_PAIR_STATUS_STATE 1) = 2 then some tx1 else none)) ∧
    (∃ t, exec .stepDone s = .next t ∧
      match s.tc.plan with
      | none => t = s
      | some p => if p.launches ≠ 2 ∨ s.var .markerEdge ≠ (s.tc.edges : Int) + 1 then t = s
        else t.tc = { s.tc with time := (((s.tc.time : Int) + p.whole * nsUnit) % timeMod).toNat
                                slew := p.rest, bSlew := p.rest, plan := none, dep := t.tc.dep
                                bDone := s.tc.bDone || decide (s.tc.bSlew ≠ 0 ∧ p.rest = 0) } ∧
          (s.modelValid = true → t.tc.dep = 0) ∧ (s.modelValid = false → t.var .shadowOn = 0 ∧ t.tc.dep = s.tc.dep) ∧ t.var .stepEdge = s.tc.edges + 1 ∧
          (s.tc.bSlew ≠ 0 ∨ p.rest = 0 → t.var .bSlewAt = s.var .bSlewAt) ∧ (s.tc.bSlew = 0 → p.rest ≠ 0 → t.var .bSlewAt = s.runNs) ∧
          t.get64 Reg.STEP_AT_LO_SA_LO Reg.STEP_AT_HI_SA_HI = s.linear ∧
          t.getI64 Reg.STEP_SIZE_LO_SS_LO Reg.STEP_SIZE_HI_SS_HI = ofBits 64 (toBits 64 p.whole) ∧ t.get Reg.TCO_STICKY_STEP_DONE = 1 ∧ t.mem = s.mem)

/-- Start-up, phase by phase: a package reset leaves every register that is neither kept, fused nor of the board record at its reset value, shows its
cause, and keeps what the keeper, the SPI NOR and the host's memory hold; the keeper's contents are judged, and its units and the Time Core's come up;
TCLK's lock, a boot image, the time recovered from the keeper and the RTC, the Track die's domains and groups, and the Field die's domains each take
the engine one phase on while no die fault has it wait for a package reset, and two bad images take it to RECOVERY (R46, R362, R422, R431, R452, R456, R457, R458, R459, R465). Where the spec leaves a point
open, it follows the model's choices of log entries 3, 9, 43, 106, 107, 109 and 110. -/
def Obligations.StartUp : Prop :=
  ∀ s : State,
    (∀ cause : Nat, ∃ t, exec (.packageReset cause) s = .next t ∧
      if 3 ≤ cause then t = s
      else t.get Reg.PWR_RESET_CAUSE_CAUSE = cause ∧ t.keeper = s.keeper ∧ t.boot = s.boot ∧ t.roles.sealed = s.roles.sealed ∧ t.mem = s.mem ∧
        t.pending = s.pending ∧ t.units = State.reset.units ∧ t.tc = State.reset.tc ∧ t.hif = State.reset.hif ∧ t.log.entries = [] ∧
        t.out = .fence false :: (if s.sclkRuns then .sclk false :: s.out else s.out) ∧
        ∀ f : Fld, f.key ∉ [Reg.PWR_RESET_CAUSE_CAUSE.key, Reg.FW_SVN_SVN.key, Reg.FW_SVN_REVOKED.key, Reg.RTC_CFG_RTC_CLASS.key,
          Reg.RTC_CFG_LOAD.key, Reg.MEM_CFG_SIZE.key, Reg.MEM_CFG_RATE.key] → t.get f = if isKept f.key = true then s.get f else f.reset) ∧
    (∀ stopped crcBad sealedBad : Bool, ∃ t, exec (.keeperCheck stopped crcBad sealedBad) s = .next t ∧
      if s.starting 0 = false then t = s
      else
        let lost := s.keeper.brownOut || crcBad
        t.phase = 1 ∧ t.keeper.brownOut = false ∧ t.get Reg.PWR_STATUS_KEEP_VALID = (if lost = true ∨ stopped = true then 0 else 1) ∧
        t.roles.keys = (if lost = false then s.keeper.keys else if sealedBad then [] else s.roles.sealed) ∧
        (∀ h ∈ domainUnits 0 ++ domainUnits 1, (t.unit h).st ≠ .absent) ∧ t.mem = s.mem ∧ t.tc = s.tc ∧
        if lost = true ∨ stopped = true then t.disc = ⟨{}, []⟩ ∧ t.fbit Reg.PWR_STICKY_STICKY 2 = true else t.disc = s.disc) ∧
    (∃ t, exec .tclkPllLock s = .next t ∧
      if s.starting 1 = true then t.phase = 2 ∧ t.get Reg.PWR_STATUS_OSC_MISSING = 0 ∧ t.tc = s.tc else t = s) ∧
    (∀ secs : Nat, ∃ t, exec (.oscMissing secs) s = .next t ∧
      if s.starting 1 = true ∧ 10 ≤ secs then t.phase = 1 ∧ t.get Reg.PWR_STATUS_OSC_MISSING = 1 ∧ t.fbit Reg.PWR_STICKY_STICKY 6 = true ∧ t.tc = s.tc
      else t = s) ∧
    (∀ a b va vb : Nat, s.boot.preferred < 2 → va < 2 ^ 32 → vb < 2 ^ 32 → ∃ t, exec (.fwBoot a b va vb) s = .next t ∧
      let p := s.boot.preferred
      let good (slot : Nat) : Prop := (if slot = 0 then a else b) = 0
      let runs (slot : Nat) : Prop := t.phase = 3 ∧ t.get Reg.PWR_STATUS_FW_SLOT = slot ∧
        t.get Reg.FW_VERSION_VERSION = (if slot = 0 then va else vb) ∧
        if s.get Reg.TWN_CTRL_TWIN_EN = 0 then t.get Reg.TWN_STATUS_ROLE = 0 ∧ t.get Reg.TWN_STATUS_CLAIMING = 1
        else t.timer .listen = some (s.runNs + s.get Reg.TWN_CTRL_LISTEN * lapNs)
      if s.starting 2 = false then t = s
      else (good p → runs p) ∧ (¬ good p → good (1 - p) → runs (1 - p) ∧ t.fbit Reg.PWR_STICKY_STICKY 0 = true) ∧
        (¬ good p → ¬ good (1 - p) → t.phase = 8 ∧ t.get Reg.HIF_STATUS_STATE = 1 ∧ t.fbit Reg.PWR_STICKY_STICKY 1 = true)) ∧
    (∀ rtc : Nat, ∃ t, exec (.timeRecovery rtc) s = .next t ∧
      if s.starting 3 = false then t = s
      else
        let cnt := (rtc + 2 ^ 48 - s.keeper.rtc % 2 ^ 48) % 2 ^ 48
        let foff := s.getI Reg.RTC_FOFF_FOFF
        t.phase = 4 ∧ t.var .rtcCount = (rtc % 2 ^ 48 : Nat) ∧ t.mem = s.mem ∧
        if s.get Reg.PWR_STATUS_KEEP_VALID = 1
        then t.tc.time = (s.keeper.time16 + recovery16 cnt foff) * 2 ^ 36 % timeMod ∧ t.get Reg.RECOV_DT_SECONDS = recoverySecs cnt foff % 2 ^ 32 ∧
          t.get Reg.RECOV_TEB0_TEB0 = tebSat (s.keeper.teb + recoveryTeb (rtcPpm (s.get Reg.RTC_CFG_RTC_CLASS)) cnt foff + 15625000) % 2 ^ 32
        else t.tc.time = 0 ∧ t.get Reg.RECOV_DT_SECONDS = 0 ∧ t.get Reg.RECOV_TEB0_TEB0 = 2 ^ 32 - 1) ∧
    (∃ t, exec .trackUp s = .next t ∧
      if s.starting 4 = true ∧ ([2, 3, 4, 5, 6, 7].all s.powered) = true ∧ s.synSt 2 = 3 ∧ s.synSt 3 = 3
      then ∃ u, Quiet (s.put Reg.PWR_STATUS_PHASE 5) u ∧ t = u.gnssStart else t = s) ∧
    (∃ t, exec .fieldUp s = .next t ∧
      if s.starting 5 = true ∧ ([8, 9, 10, 11, 12, 13].all s.powered) = true
      then t.phase = 6 ∧ t.get Reg.HIF_STATUS_STATE = 1 ∧ t.get Reg.FAB_STATUS_DCB_TRAINED = 1 ∧ t.log.prev = s.log.keeper ∧ t.tc = s.tc
      else t = s)

/-- The keeper and the DRAM: each second with the phases TRACK_UP to DONE the keeper takes the time, the RTC count, the bound and the traceability ID,
and each 64 s RTC_FOFF; its cell is watched; its supply's fall sets the latch. A training attempt that passes makes MEM TRAINED, and the start-up
DONE; the third that fails switches it off; and a Field die reset over, the shadow is restored, the host interface opens again, and a STANDBY twin
asks for the records it missed (R363, R451, R454, R455, R457, R460). Where the spec leaves a point open, it follows the model's choices of log entries
9, 106, 110 and 114. -/
def Obligations.KeeperAndMemory : Prop :=
  ∀ s : State,
    (∀ (pass : Bool) (ch stp ms ready : Nat), ∃ t, exec (.dramTrain pass ch stp ms ready) s = .next t ∧
      let tries := min (s.get Reg.MEM_STATUS_ATTEMPTS + 1) 3
      let shown (u : State) : Prop := u.tc = s.tc ∧ if s.starting 6 = true then u.phase = 7 ∧ u.get Reg.PWR_READY_MS_MS = min ready 65535 else u.phase = s.phase
      if s.phase < 6 ∨ 7 < s.phase ∨ s.powered 12 = false ∨ (s.unit 0xB100).st = .absent ∨ s.get Reg.MEM_STATUS_TRAINED = 1 then t = s
      else if pass then t.get Reg.MEM_STATUS_TRAINED = 1 ∧ t.get Reg.MEM_TRAIN_MS_MS = ms % 2 ^ 16 ∧ t.get Reg.MEM_STATUS_FAIL_CH = 0 ∧ t.get Reg.MEM_STATUS_ATTEMPTS = tries ∧ shown t
      else if tries < 3 then t = (s.put Reg.MEM_STATUS_ATTEMPTS tries).put Reg.MEM_STATUS_FAIL_CH ch
      else ∃ u, Quiet (((((s.put Reg.MEM_STATUS_ATTEMPTS 3).put Reg.MEM_STATUS_FAIL_CH ch).put Reg.MEM_STATUS_FAILED 1)).putBit
        Reg.PWR_STICKY_STICKY 4 true) u ∧ t = ((u.domainOff 12).setVar (.offCmd 12) 1).startDone ready ∧ t.var (.offCmd 12) = 1) ∧
    (∃ t, exec .dramRetrain s = .next t ∧
      if s.get Reg.MEM_STATUS_TRAINED = 1 ∧ s.unitOn 0xB100 = true then t = s.put Reg.MEM_RETRAINS_COUNT (s.get Reg.MEM_RETRAINS_COUNT + 1) else t = s) ∧
    (∀ (rtc : Nat) (foff : Option Int), ∃ t, exec (.keeperWrite rtc foff) s = .next t ∧
      if s.phase < 4 ∨ 7 < s.phase ∨ s.crosses 1000000000 = false then t = s
      else t.keeper = { s.keeper with time16 := s.linear * 65536 + s.frac16, rtc := rtc % 2 ^ 48, teb := s.get Reg.HOB_TEB_TEB
                                      trace := s.get Reg.HOB_TRACE_TRACE, writes := s.keeper.writes + 1 } ∧
        t.var .rtcCount = (rtc % 2 ^ 48 : Nat) ∧ t.tc = s.tc ∧ t.mem = s.mem ∧
        (∀ y, foff = some y → s.get Reg.TIM_STATUS_WARMING = 0 → s.secs % 64 = 0 → t.getI Reg.RTC_FOFF_FOFF = satI 32 y) ∧
        (foff = none ∨ s.get Reg.TIM_STATUS_WARMING ≠ 0 ∨ s.secs % 64 ≠ 0 → t.regs = s.regs)) ∧
    (∀ cell : Nat, ∃ t, exec (.vbatLow cell) s = .next t ∧
      if 220 ≤ cell then t = s
      else t.get Reg.KEEP_STATUS_CELL = cell ∧ t.get Reg.KEEP_STATUS_VBAT_LOW = 1 ∧ t.fbit Reg.PWR_STICKY_STICKY 5 = true ∧ t.keeper = s.keeper) ∧
    (∀ (on : Bool) (cell : Nat), ∃ t, exec (.onCell on cell) s = .next t ∧ t.get Reg.KEEP_STATUS_ON_CELL = b2n on ∧
      t.get Reg.KEEP_STATUS_CELL = min cell 4095 ∧ t.get Reg.KEEP_STATUS_VBAT_LOW = (if cell < 220 then 1 else 0) ∧ t.keeper = s.keeper ∧ t.tc = s.tc) ∧
    (∃ t, exec .brownOut s = .next t ∧ t.keeper = { s.keeper with brownOut := true } ∧ t.regs = s.regs ∧ t.tc = s.tc ∧ t.log = s.log) ∧
    (∀ ms : Nat, ∃ t, exec (.fieldRestored ms) s = .next t ∧
      if s.var .fieldReset = 0 ∨ s.packageBad = true ∨ ([8, 9, 10, 11, 12, 13].any fun d => ! s.powered d && decide (s.var (.offCmd d) ≠ 1)) = true ∨
        (s.get Reg.MEM_STATUS_TRAINED = 0 ∧ s.powered 12 = true) then t = s
      else ∃ m u : State, m = { s with regs := s.shadow.foldl (fun r x => aput r x.1 x.2) s.regs, keys := s.shadowKeys } ∧ t = u.serveUpdate ∧
        u.keys = s.shadowKeys ∧ u.var .fieldReset = 0 ∧ u.get Reg.FAB_STATUS_DCB_TRAINED = 1 ∧ u.tc = s.tc ∧
        u.get Reg.HIF_STATUS_STATE = (if m.get Reg.HIF_STATUS_CONFIG_LOCK = 1 then 2 else 1) ∧
        (m.get Reg.TWN_STATUS_ROLE = 3 → u.get Reg.TWN_STATUS_ROLE = 4 ∧ u.get Reg.TWN_STATUS_SYNCED = 0 ∧ u.out = .resyncReq false :: s.out) ∧
        (∀ f : Fld, f.key ∉ bookkeeping → f.key ∉ [Reg.FAB_STATUS_DCB_TRAINED.key, Reg.HIF_STATUS_STATE.key, Reg.TWN_STATUS_ROLE.key,
          Reg.TWN_STATUS_SYNCED.key] → u.get f = m.get f))

/-- Maker work and its acceptance: by an ALONE twin, or an ACTIVE one without a fit partner, it is refused with REFUSED_ACTIVE; an ACTIVE twin with a
fit partner plans a handover two laps ahead and the command waits; a STANDBY runs it, but not two of the long ones at once. Of those a STANDBY runs:
BIST_RUN and TIM_CALIBRATE begin and run on; FUSE_WRITE only sets bits, TRIM_SET writes the board record, and FIELD_RESET resets the Field die.
FW_UPDATE runs in any role but for the slot in use (R157, R450, R458, R461, R462, R464). Where the spec leaves a point open, it follows the model's
choices of log entries 30, 111 and 112. -/
def Obligations.MakerWork : Prop :=
  ∀ (s : State) (c : Ctx),
    let role := s.sessionRole c.ring c.session
    let fit : Prop := ∃ b, s.twin.baton = some b ∧ b.role = 3 ∧ b.synced = true ∧ b.following = true ∧ b.regions = 0
    let held (o : OpInfo) (args : List Nat) (t : State) : Prop :=
      let r := s.get Reg.TWN_STATUS_ROLE
      (r = 2 → fit → s.get Reg.TWN_STATUS_HANDOVER_PENDING ≠ 1 → Starts s c (fun f => (f.planHandover 2).hold c o role (makerMark :: args)) t ∧
        t.get Reg.TWN_STATUS_HANDOVER_PENDING = 1 ∧ t.get Reg.TWN_HANDOVER_LAP = (s.ns / lapNs + 2) % 2 ^ 32) ∧
      (r = 0 ∨ (r = 2 ∧ ¬ fit) → Ends s c o Status.refusedActive 0 id t) ∧
      (r ≠ 0 → r ≠ 2 → r ≠ 3 → Ends s c o Status.notFit 0 id t)
    (∀ (sets : Nat) (fails : List (Nat × Nat)), Ready s c opBistRun → ∃ t, exec (.bistRun c sets fails) s = .next t ∧
      if sets = 0 ∨ 63 < sets then Ends s c opBistRun Status.range 0 id t
      else held opBistRun (sets :: fails.flatMap fun x => [x.1, x.2]) t ∧ (s.get Reg.TWN_STATUS_ROLE = 3 →
        if s.makerBusy = true then Ends s c opBistRun Status.notFit 0 id t
        else ∃ (k : Nat) (u : State), k < 6 ∧ bit sets k = true ∧ (∀ j, j < k → bit sets j = false) ∧ t = u.bistTakes k ∧ u.tc = s.tc ∧
          u.var .bistSet = (k + 1 : Nat) ∧ u.get Reg.BIST_STATUS_SET = k ∧ u.get Reg.PWR_STATUS_BIST_RUNNING = 1 ∧
          u.get Reg.BIST_STATUS_PASSED = 0 ∧ u.get Reg.BIST_STATUS_FAILED = 0 ∧ u.timer .bist = some (s.runNs + bistNs k) ∧
          ⟨c, opBistRun.op, role, true, bistMark :: fails.flatMap fun x => [x.1, x.2], none⟩ ∈ u.hif.inflight)) ∧
    (Ready s c opTimCalibrate → ∃ t, exec (.timCalibrate c) s = .next t ∧ held opTimCalibrate [] t ∧ (s.get Reg.TWN_STATUS_ROLE = 3 →
        if s.makerBusy = true then Ends s c opTimCalibrate Status.notFit 0 id t
        else ∃ u : State, t = u.bistTakes 2 ∧ u.var .calRun = 1 ∧ u.timer .bist = some (s.runNs + 1200000000) ∧ u.tc = s.tc ∧
          ⟨c, opTimCalibrate.op, role, true, [calMark], none⟩ ∈ u.hif.inflight)) ∧
    (∀ field value : Nat, Ready s c opFuseWrite → ∃ t, exec (.fuseWrite c field value) s = .next t ∧
      let ok : Prop := (field = 0 ∧ value < 2 ^ 16 ∧ s.get Reg.FW_SVN_SVN &&& value = s.get Reg.FW_SVN_SVN) ∨
        (field = 1 ∧ value < 2 ^ 4 ∧ s.get Reg.FW_SVN_REVOKED &&& value = s.get Reg.FW_SVN_REVOKED)
      (¬ ok → Ends s c opFuseWrite Status.range 0 id t) ∧ (ok → held opFuseWrite [field, value] t ∧ (s.get Reg.TWN_STATUS_ROLE = 3 →
        Ends s c opFuseWrite Status.ok 0 (fun f => if field = 0 then { f.put Reg.FW_SVN_SVN value with boot := { f.boot with fwSvn := some value } }
          else { f.put Reg.FW_SVN_REVOKED value with boot := { f.boot with revoked := some value } }) t))) ∧
    (∀ trim value : Nat, Ready s c opTrimSet → ∃ t, exec (.trimSet c trim value) s = .next t ∧
      let ok : Prop := (trim = 0 ∧ value < 4) ∨ (trim = 1 ∧ value < 16) ∨ (trim = 2 ∧ value < 64 ∧ value / 4 % 4 = 0)
      (¬ ok → Ends s c opTrimSet Status.range 0 id t) ∧ (ok → held opTrimSet [trim, value] t ∧ (s.get Reg.TWN_STATUS_ROLE = 3 →
        (∃ eff, Ends s c opTrimSet Status.ok 0 eff t) ∧ (trim = 1 → t.get Reg.RTC_CFG_LOAD = value) ∧
        (trim = 0 → aget t.boot.trims Reg.RTC_CFG_RTC_CLASS.key = some value) ∧ (trim = 1 → aget t.boot.trims Reg.RTC_CFG_LOAD.key = some value) ∧
        (trim = 2 → aget t.boot.trims Reg.MEM_CFG_SIZE.key = some (value % 4) ∧ aget t.boot.trims Reg.MEM_CFG_RATE.key = some (value / 16))))) ∧
    (∀ target addr len verify : Nat, Ready s c opFwUpdate → ∃ t, exec (.fwUpdate c target addr len verify) s = .next t ∧
      if 2 < target then Ends s c opFwUpdate Status.range 0 id t
      else if target < 2 ∧ target = s.get Reg.PWR_STATUS_FW_SLOT ∧ s.phase ≠ 8 then Ends s c opFwUpdate Status.busy 0 id t
      else if 4194304 < len then Ends s c opFwUpdate Status.range 3 id t
      else if c.dmaOk = false then Ends s c opFwUpdate Status.dmaError 0 id t
      else if target = 2 then Ends s c opFwUpdate Status.ok 0 (fun f => f.recordWritten len) t
      else if verify ≠ 0 then Ends s c opFwUpdate Status.range verify id t
      else Ends s c opFwUpdate Status.ok 0 (fun f => { f with boot := { f.boot with preferred := target } }) t) ∧
    (Ready s c (opPwrDomainSet 2) → ∃ t, exec (.fieldReset c) s = .next t ∧ held (opPwrDomainSet 2) [] t ∧ (s.get Reg.TWN_STATUS_ROLE = 3 →
      if s.makerBusy = true then Ends s c (opPwrDomainSet 2) Status.notFit 0 id t
      else Ends s c (opPwrDomainSet 2) Status.ok 0 (fun f => (f.change role 0x7FFE 0x1101 noOffset 8 2).fieldReset) t ∧
        t.var .fieldReset = 1 ∧ t.get Reg.HIF_STATUS_STATE = 0 ∧ t.keys = [] ∧ t.insts = [] ∧ t.ports = [])) ∧
    (∀ d action : Nat, Ready s c (opPwrDomainSet action) → ∃ t, exec (.pwrDomainSet c d action) s = .next t ∧
      let o := opPwrDomainSet action
      if 13 < d ∨ 2 < action ∨ (action = 2 ∧ d ≠ 8) then Ends s c o Status.range 0 id t
      else if action = 0 then
        if d = 0 ∨ d = 1 ∨ d = 8 ∨ d = 11 ∨ d = 13 then Ends s c o Status.notPermitted 0 id t
        else if s.powered d = false then Ends s c o Status.ok 0 id t
        else if s.offBusy d = true then Ends s c o Status.busy 0 id t
        else Ends s c o Status.ok 0 (fun f => (f.domainOff d).setVar (.offCmd d) 1) t
      else if action = 1 then
        if s.powered d = true then Ends s c o Status.ok 0 id t
        else if (d = 9 ∨ d = 10) ∧ s.synSt 3 ≠ 3 then Ends s c o Status.busy 0 id t
        else t.powered d = true ∧ t.var (.offCmd d) = 0 ∧ Ends s c o Status.ok 0 (fun f =>
          let u := (f.setVar (.offCmd d) 0).powerBit d true
          if d = 12 then ((u.put Reg.MEM_STATUS_FAILED 0).put Reg.MEM_STATUS_ATTEMPTS 0).put Reg.MEM_STATUS_FAIL_CH 0 else u) t
      else held o [] t)

/-- The changes of role that meet maker work: at the boundary of the lap a handover names, the ACTIVE twin demotes to STANDBY, SYNCED, its YIELD completes and maker
work that waited runs; the STANDBY ends its own and promotes, unless FENCE_FAULT is set. A STANDBY whose lease has expired promotes once the fence has read RELEASED for 1 ms,
with no fault of it and no Field die reset in hand; and SEIZE promotes at once with SEIZE_HOLD for 8 ms (R346, R348, R350, R352, R355, R461, R463).
Where the spec leaves a point open, it follows the model's choices of log entries 9 and 113. -/
def Obligations.TwinTakeover : Prop :=
  ∀ s : State,
    (∃ t, exec .handover s = .next t ∧
      let lap := s.ns / lapNs % 2 ^ 32
      if s.crosses lapNs = false then t = s
      else if s.get Reg.TWN_STATUS_ROLE = 2 ∧ s.get Reg.TWN_STATUS_HANDOVER_PENDING = 1 ∧ s.get Reg.TWN_HANDOVER_LAP = lap then
        ∃ u, Quiet (((((s.put Reg.TWN_STATUS_HANDOVER_PENDING 0).put Reg.TWN_HANDOVER_LAP 0).demote 3).put Reg.TWN_STATUS_SYNCED 1)) u ∧
          let v := u.completeRunning opYield.op [lap] Status.ok 0
          t = (v.hif.inflight.filter InFlight.waitsHandover).foldl (fun f e => f.runWaiting e) v
      else if s.get Reg.TWN_STATUS_ROLE = 3 ∧ s.get Reg.TWN_STATUS_FENCE_FAULT = 0 ∧ lap ≠ 0 ∧ ∃ b, s.twin.baton = some b ∧ b.handover = lap
      then Quiet s.makerInterrupt.applyInbox.promote t ∧ t.get Reg.TWN_STATUS_SYNCED = 0
      else t = s) ∧
    (∃ t, exec .promotion s = .next t ∧
      if s.get Reg.TWN_STATUS_ROLE = 3 ∧ s.get Reg.TWN_CTRL_PROMOTE_EN = 1 ∧ s.get Reg.TWN_STATUS_LEASE_LEFT = 0 ∧ s.get Reg.TWN_STATUS_FENCE = 0 ∧
        (s.due .fenceReleased = true ∨ s.timer .fenceReleased = none) ∧ s.get Reg.TWN_STATUS_FENCE_FAULT = 0 ∧ s.var .fieldReset = 0
      then t = s.makerInterrupt.applyInbox.promote ∧ t.get Reg.TWN_STATUS_SYNCED = 0 else t = s) ∧
    (∀ c : Ctx, Ready s c opSeize → ∃ t, exec (.seize c) s = .next t ∧
      let r := s.get Reg.TWN_STATUS_ROLE
      if r = 2 ∨ r = 0 ∨ r = 5 then Ends s c opSeize Status.notFit 0 id t
      else t.get Reg.TWN_STATUS_SEIZE_HOLD = 1 ∧ t.get Reg.TWN_STATUS_SYNCED = 0 ∧ (r ≠ 3 → t.fbit Reg.TWN_STICKY_STICKY 6 = true) ∧
        Ends s c opSeize Status.ok 0 (fun f =>
          let p := f.makerInterrupt.applyInbox.promote
          let q := if r = 3 then p else p.putBit Reg.TWN_STICKY_STICKY 6 true
          let u := (q.put Reg.TWN_STATUS_SEIZE_HOLD 1).setTimer .seizeHold (q.runNs + 8000000)
          if u.get Reg.TWN_STATUS_LINK_UP = 1 then { u with out := .seizeFrame :: u.out } else u) t)

/-- UNIT_ENABLE, UNIT_DISABLE and UNIT_RESET of one unit, and UNIT_STATE: a name of nothing is NOT_FOUND, one above the dies or a unit of R42 is
NOT_PERMITTED; an ABSENT unit is NOT_FIT, a group that R180 keeps is BUSY, a fenced or resetting one FENCED; a DISABLED unit becomes ENABLED and an
ENABLED one DISABLED, with what its chapter says follows; one that is DISABLED or FENCED goes RESETTING and the command runs; and UNIT_STATE writes as
many entries as its length holds and completes with their number (R36, R40, R41, R42, R43, R51, R180, R375). Where the spec leaves a point open, it
follows the model's choice of log entry 90. -/
def Obligations.UnitCommands : Prop :=
  ∀ (s : State) (c : Ctx) (hid : Nat),
    (∀ (cmd : Instr) (o : OpInfo), (cmd, o) ∈ [(Instr.unitEnable c hid, opUnitEnable), (.unitDisable c hid, opUnitDisable), (.unitReset c hid, opUnitReset)] →
      let oh : OpInfo := { o with hid := some hid }
      Ready s c oh → ∃ t, exec cmd s = .next t ∧
        match named hid with
        | .nothing => Ends s c oh Status.notFound 0 id t
        | .above => Ends s c oh Status.notPermitted hid id t
        | .units hs false =>
          let go := hs.filter (s.applies o.op hid)
          if go = [] then Ends s c oh (if hs.all isCore = true then Status.notPermitted else Status.notFit) (hs.headD 0) id t
          else match go.find? fun h => (s.unitRefusal o.op h).isSome with
            | some h => ∃ st, s.unitRefusal o.op h = some st ∧ Ends s c oh st h id t
            | none => o.op ≠ opUnitReset.op → Ends s c oh Status.ok 0 (fun f =>
                go.foldl (fun u h => u.unitApply o.op (s.sessionRole c.ring c.session) h) f) t
        | .units hs true => hs = [hid] →
          let st := (s.unit hid).st
          let pinned := 0x1000 ≤ hid ∧ hid < 0x1004 ∧ s.synPinned (hid - 0x1000) = true
          if isCore hid = true then Ends s c oh Status.notPermitted hid id t
          else if st = .absent then Ends s c oh Status.notFit 0 id t
          else if o.op ≠ opUnitEnable.op ∧ pinned then Ends s c oh Status.busy 0 id t
          else if st = .resetting ∨ (st = .fenced ∧ o.op ≠ opUnitReset.op) then Ends s c oh Status.fenced 0 id t
          else if o.op = opUnitEnable.op then Ends s c oh Status.ok 0 (fun f => if st = .disabled then (f.unitTo hid .enabled).unitIn hid else f) t
          else if o.op = opUnitDisable.op then Ends s c oh Status.ok 0 (fun f => if st = .enabled then (f.unitTo hid .disabled).unitOut hid false else f) t
          else if st = .enabled then Ends s c oh Status.notFit 0 id t
          else Starts s c (fun f => ((f.unitTo hid .resetting).drainOf hid).hold c opUnitReset (s.sessionRole c.ring c.session) [hid]) t) ∧
    (∀ addr len : Nat, let oh : OpInfo := { opUnitState with hid := some hid }
      Ready s c oh → ∃ t, exec (.unitState c hid addr len) s = .next t ∧
        let all (hs : List Nat) : Prop := if c.dmaOk = false ∧ hs ≠ [] ∧ 4 ≤ len then Ends s c oh Status.dmaError 0 id t
          else Ends s c oh Status.ok hs.length (fun f => f.dmaWrite addr ((hs.take (len / 4)).flatMap s.unitBytes)) t
        match named hid with
        | .nothing => Ends s c oh Status.notFound 0 id t
        | .above => all allUnits
        | .units hs _ => all hs)

/-- Faults of units and what holds them: a fault fences its unit with its cause, and no other; a reset's self-check ends DISABLED, or ENABLED for a
unit of R42, or FENCED with cause 2 and its content held; a region's fence, a cluster's and a die's follow their own rules, and a cluster of units of
R42 alone is fenced only with its die; a die fault takes the engine out of service, with the fence released and the host interface HALTED, once, and
the Track die's ends a step decided; a domain's loss takes those that depend on it along, and is the fault of each die of which they held a unit of
R42, and its return finds its units present; an access no one answers is recorded; a timeout and too many parity errors are the unit's fault (R32,
R34, R38, R40, R42, R46, R48, R49, R362, R395, R396, R398, R448, R449). Where the spec leaves a point open, it follows the model's choices of log
entries 9, 89, 91, 92, 96 and 204. -/
def Obligations.UnitFaults : Prop :=
  ∀ s : State,
    (∀ hid cause : Nat, ∃ t, exec (.unitFenced hid cause) s = .next t ∧
      if cause < 1 ∨ 7 < cause then t = s
      else (allUnits.contains hid = true → t = s.unitFault hid cause) ∧
        (isCore hid = false → allUnits.contains hid = true → (s.unit hid).st = .absent ∨ (s.unit hid).st = .fenced → t = s) ∧
        (0xA000 ≤ hid → hid < 0xA00C → (s.unit hid).st = .enabled → (s.unit hid).resetAt = none →
          t.unit hid = ⟨.fenced, cause, 0, none, hid⟩ ∧ (∀ h, h ≠ hid → t.unit h = s.unit h) ∧ t.tc = s.tc) ∧
        (allUnits.contains hid = false → hid % 256 ≠ 255 → t = s) ∧
        (allUnits.contains hid = false → hid % 256 = 255 → hid / 256 % 16 < 15 → hid / 4096 % 8 < 4 → (∃ h ∈ allUnits, h / 256 = hid / 256) →
          ((∀ h ∈ allUnits, h / 256 = hid / 256 → isCore h = true) → t = s.dieFault (hid / 32768) hid cause) ∧
          ((∃ h ∈ allUnits, h / 256 = hid / 256 ∧ isCore h = false) → t = s.fenceCluster hid 0x10000 cause))) ∧
    (∀ hid cause : Nat, ∃ t, exec (.regionFenced hid cause) s = .next t ∧
      if hid % 4096 = 0xFFF ∧ hid / 4096 % 8 < 4 ∧ hid < 0x10000 then t = s.fenceRegion (regionOfHid hid) cause else t = s) ∧
    (∀ die hid cause : Nat, ∃ t, exec (.dieFault die hid cause) s = .next t ∧
      if 2 ≤ die ∨ s.dieBad die = true then t = s
      else ∃ u : State, u.var (.dieFault die) = 1 + (hid : Nat) ∧ u.get Reg.TWN_STATUS_ROLE = 5 ∧ u.get Reg.TWN_STATUS_CLAIMING = 0 ∧
        u.get Reg.TWN_STATUS_HANDOVER_PENDING ≠ 1 ∧ u.tc = (if die = 0 then { s.tc with plan := none } else s.tc) ∧
        if u.serveUpdate.hostOpen = true then t.get Reg.HIF_STATUS_STATE = 3 ∧ t.hif.stDirty = false ∧
          t = { u.serveUpdate.put Reg.HIF_STATUS_STATE 3 with hif := t.hif }
        else t = u.serveUpdate) ∧
    (∀ (hid : Nat) (pass : Bool), ∃ t, exec (.unitResetDone hid pass) s = .next t ∧
      if (s.unit hid).st ≠ .resetting then t = s
      else if pass then ∃ v, Quiet ((s.setUnit hid { s.unit hid with
          st := if isCore hid = true then .enabled else .disabled, resetAt := some s.runNs }).unitCleared hid) v ∧ t = v.resetsEnded
      else t.unit hid = { s.unit hid with st := .fenced, cause := 2, fencedBy := hid, resetAt := none } ∧
        (∀ h, h ≠ hid → t.unit h = s.unit h) ∧ t.tc = s.tc ∧ aget t.pf.frozen hid = some (s.content [] hid).1 ∧
        ∃ v, Quiet ((s.fenceUnit hid 2 hid).setUnit hid { (s.fenceUnit hid 2 hid).unit hid with resetAt := none }) v ∧ t = v.resetsEnded) ∧
    (∀ d : Nat, ∃ t, exec (.unitsAbsent d) s = .next t ∧
      if 13 < d ∨ s.powered d = false then t = s
      else
        let u := (offOrder d).foldl (fun f x => f.domainOff x) s
        let loses (die : Nat) : Bool := (offOrder d).any fun x => s.powered x && decide (domainDie x = die) && (domainUnits x).any isCore
        let v := if loses 0 then u.dieFault 0 0x7FFF 6 else u
        t = if loses 1 then v.dieFault 1 0xFFFF 6 else v) ∧
    (∀ d : Nat, ∃ t, exec (.unitsPresent d) s = .next t ∧
      if 13 < d ∨ s.mayPower d = false then t = s
      else (∀ h ∈ domainUnits d, d ≠ 7 → (t.unit h).st ≠ .absent ∧ ((s.unit h).st ≠ .absent → t.unit h = s.unit h)) ∧ (d ≠ 7 → t.powered d = true)) ∧
    (∀ (ini addr : Nat) (write window : Bool), ini < 2 ^ 16 → ∃ t u : State, exec (.defaultHit ini addr write window) s = .next t ∧
      u.get Reg.FAB_DEF_COUNT_COUNT = (s.get Reg.FAB_DEF_COUNT_COUNT + 1) % 2 ^ 32 ∧ u.get Reg.FAB_DEF_ADDR_LO_ADDR_LO = addr % 2 ^ 32 ∧
      u.get Reg.FAB_DEF_ADDR_HI_ADDR_HI = addr / 2 ^ 32 % 2 ^ 32 ∧ u.get Reg.FAB_DEF_INFO_HID = ini ∧ u.get Reg.FAB_DEF_INFO_WRITE = b2n write ∧
      u.get Reg.FAB_DEF_INFO_REG_WINDOW = b2n window ∧ u.fbit Reg.FAB_STICKY_STICKY 0 = true ∧ u.mem = s.mem ∧ u.tc = s.tc ∧
      if ini = 0xB000 then t = if write then u else { u with hif := { u.hif with rdata := 2 ^ 32 - 1 } }
      else if ini = 0x0600 then t = u
      else t = if ini % 256 = 255 ∧ allUnits.contains ini = false then u.clusterFault ini 5 else u.unitFault ini 5) ∧
    (∀ target ini : Nat, ∃ t u : State, exec (.hsTimeout target ini) s = .next t ∧
      u.get Reg.FAB_TIMEOUTS_COUNT = (s.get Reg.FAB_TIMEOUTS_COUNT + 1) % 2 ^ 32 ∧ u.fbit Reg.FAB_STICKY_STICKY 3 = true ∧ u.units = s.units ∧
      u.mem = s.mem ∧ t = if target % 256 = 255 ∧ allUnits.contains target = false then u.clusterFault target 4 else u.unitFault target 4) ∧
    (∀ hid q : Nat, hid < 2 ^ 16 → ∃ t u : State, exec (.parity hid q) s = .next t ∧ u.get Reg.FAB_PARITY_LAST_HID = hid ∧
      u.get Reg.FAB_PARITY_ERR_COUNT = (if q < 6 then s.get Reg.FAB_PARITY_ERR_COUNT else (s.get Reg.FAB_PARITY_ERR_COUNT + 1) % 2 ^ 32) ∧
      u.fbit Reg.FAB_STICKY_STICKY 1 = true ∧ u.units = s.units ∧ u.mem = s.mem ∧
      let at_ := s.runNs :: ((aget s.parity hid).getD []).filter fun t => decide (s.runNs < t + 1000000000)
      u.parity = aput s.parity hid at_ ∧
      t = if s.get Reg.FAB_CTRL_PAR_LIMIT < at_.length then { u with parity := adel u.parity hid }.unitFault hid 1 else u)

/-- The commands that set one register word of a block, as the SET commands of every chapter do: each refuses what its own chapter has it refuse, then
an offset where no register stands or outside its span with RANGE, a word that software does not write with NOT_PERMITTED and a value outside its
range with RANGE; it then writes the word for the host's class, logs the change with the word's old and new value, and does what follows from it (R8,
R112, R137, R159, R161, R182, R201, R230, R257, R281, R301, R328, R356, R404, R440). Where the spec leaves a point open, it follows the model's
choices of log entries 57 and 102. -/
def Obligations.BlockSets : Prop :=
  ∀ (s : State) (c : Ctx),
    let role := s.sessionRole c.ring c.session
    let word := fun (o : OpInfo) (lo hi a v : Nat) (after : Word → State → State → State) (t : State) =>
      ((a < lo ∨ hi ≤ a ∨ wordAt a = none) → Ends s c o Status.range 0 id t) ∧
      ∀ w, wordAt a = some w → lo ≤ a → a < hi →
        if (∀ f ∈ w.fields, f.settable = false) then Ends s c o Status.notPermitted 0 id t
        else if w.accepts v = false then Ends s c o Status.range 0 id t
        else Ends s c o Status.ok 0 (fun f =>
          let g := f.writeWord 0 a w (fun _ => true) v
          after w f (g.change role (hidOfAddr a) o.op a (f.rawWord w.fields) (g.rawWord w.fields))) t
    let plain : Word → State → State → State := fun _ _ g => g
    (∀ n off v : Nat, Ready s c opLaneSet → ∃ t, exec (.laneSet c n off v) s = .next t ∧
      if 15 < n ∨ 0x2C < off ∨ (off = 0 ∧ laneCfgTaken v = false) ∨ (off = 4 ∧ nominalSettable v = false) then Ends s c opLaneSet Status.range 0 id t
      else if off = 0 ∧ s.laneSt n = 4 ∧ (v % 32 ≠ s.laneSrc n ∨ v / 32 % 4 ≠ s.laneType n) then Ends s c opLaneSet Status.busy 0 id t
      else word opLaneSet 0x110100 0x110900 (0x110100 + 0x80 * n + off) v (fun _ f g =>
        if g.laneCfg n ≠ f.laneCfg n ∧ g.laneRank n ≠ 0 then g.setLane n { g.lane n with changed := true } else g) t) ∧
    (∀ off v : Nat, Ready s c opHobSet → ∃ t, exec (.hobSet c off v) s = .next t ∧
      if off < 0x20 ∨ (0x58 < off ∧ off < 0x100) ∨ 0x13C < off then Ends s c opHobSet Status.range 0 id t
      else word opHobSet 0x150020 0x150140 (0x150000 + off) v (fun w f g =>
        g.afterHob (0x150000 + off) (f.rawWord w.fields) (f.get Reg.HOB_OSC_CLASS_OCXO) (f.get Reg.HOB_OSC_CLASS_ATOMIC)) t) ∧
    (∀ off v : Nat,
      let tol := off = 0x14 ∧ v % 65536 ≠ s.get Reg.TIM_CAL_CTRL_CAL_TOL
      let o := { opTimSet with role := if tol then 3 else 2 }
      Ready s c o → ∃ t, exec (.timSet c off v) s = .next t ∧
        if off ≠ 0x0C ∧ off ≠ 0x14 then Ends s c o Status.range 0 id t
        else word o 0x12000C 0x120018 (0x120000 + off) (if tol then v % 65536 + 65536 * s.get Reg.TIM_CAL_CTRL_STALE_AGE else v) plain t) ∧
    (∀ g off v : Nat, Ready s c opSynSet → ∃ t, exec (.synSet c g off v) s = .next t ∧
      if 3 < g ∨ 0x14 < off then Ends s c opSynSet Status.range 0 id t
      else if 2 ≤ g ∧ off < 0x10 ∧ (0 < off ∨ v / 256 % 256 ≠ 40 ∨ bit v 3 ≠ bit (s.get (Reg.SYN_CFG_EXT_LF g)) 0)
      then Ends s c opSynSet Status.notPermitted 0 id t
      else
        let a := 0x130100 + 0x100 * g + off
        let held := off < 0x10 ∧ ∃ w, wordAt a = some w ∧ (∃ f ∈ w.fields, f.settable = true) ∧ w.accepts v = true ∧
          let u := (s.fetch c).writeWord 0 a w (fun _ => true) v
          ¬ (u.synFreqOk g = true ∧ (s.synSt g = 0 ∨ u.synCfgOk g = true))
        if held then Ends s c opSynSet Status.range 0 id t
        else word opSynSet (0x130100 + 0x100 * g) (0x130118 + 0x100 * g) a v (fun _ f u => u.afterSyn f a) t) ∧
    (∀ hid off v : Nat, Ready s c opOutSet → ∃ t, exec (.outSet c hid off v) s = .next t ∧
      (outBlock hid = none → Ends s c opOutSet Status.range 0 id t) ∧
      ∀ lo hi, outBlock hid = some (lo, hi) →
        (∀ st, s.outRefusal true (lo + off) v = some st → Ends s c opOutSet st 0 id t) ∧
        (s.outRefusal true (lo + off) v = none → word opOutSet lo hi (lo + off) v (fun _ _ g => g.afterOut (lo + off)) t)) ∧
    (∀ off v : Nat, Ready s c opGnbSet → ∃ t, exec (.gnbSet c off v) s = .next t ∧
      if off < 0x0C ∨ (0x24 < off ∧ off < 0x80) ∨ (0xA4 < off ∧ off < 0x100) ∨ 0x108 < off ∨ (off = 0x1C ∧ 1000 < max (v % 32) s.codeMsMax * (v / 32 % 1024))
      then Ends s c opGnbSet Status.range 0 id t
      else word opGnbSet 0x18000C 0x18010C (0x180000 + off) v (fun w f g =>
        if f.rawWord w.fields ≠ v then g.afterGnb (0x180000 + off) (f.rawWord w.fields) else g) t) ∧
    (∀ k off v : Nat, Ready s c opPtpInstSet → ∃ t, exec (.ptpInstSet c k off v) s = .next t ∧
      if 4 ≤ k ∨ (0x30 < off ∧ off < 0xC0) ∨ 0xFC < off ∨ (off = 0 ∧ 4 < v % 8) ∨ (off = 0x0C ∧ v / 2 ^ 16 % 2 ^ 10 < v % 2 ^ 10)
      then Ends s c opPtpInstSet Status.range 0 id t
      else if off < 8 ∧ s.instSt k ≠ 0 then Ends s c opPtpInstSet Status.busy 0 id t
      else word opPtpInstSet (0x340100 + 0x100 * k) (0x340200 + 0x100 * k) (0x340100 + 0x100 * k + off) v plain t) ∧
    (∀ i off v : Nat, Ready s c opPtpSaSet → ∃ t, exec (.ptpSaSet c i off v) s = .next t ∧
      if 32 ≤ i ∨ 0x14 < off ∨ (off = 0 ∧ s.saClash i v = true) then Ends s c opPtpSaSet Status.range 0 id t
      else if s.saUsable i s.linear = true ∧ ((off = 0 ∧ ∀ w, wordAt (0x340800 + 0x20 * i) = some w → v / 2 ≠ s.rawWord w.fields / 2) ∨
        off = 4 ∨ off = 8 ∨ off = 0x0C) then Ends s c opPtpSaSet Status.busy 0 id t
      else word opPtpSaSet (0x340800 + 0x20 * i) (0x340818 + 0x20 * i) (0x340800 + 0x20 * i + off) v plain t) ∧
    (∀ off v : Nat, Ready s c opNtpSet → ∃ t, exec (.ntpSet c off v) s = .next t ∧
      let m := (off - 0x1400) / 0x20
      let w := (off - 0x1400) % 0x20
      if off < 0x1000 ∨ 0x15FC < off then Ends s c opNtpSet Status.range 0 id t
      else if 0x1400 ≤ off ∧ s.mkHolds m = true ∧ (w = 4 ∨ (w = 0 ∧ (Reg.MK_CFG_KEY_SLOT m).part v ≠ s.get (Reg.MK_CFG_KEY_SLOT m)))
      then Ends s c opNtpSet Status.busy 0 id t
      else if 0x1400 ≤ off ∧ s.mkClash m w v = true then Ends s c opNtpSet Status.range 0 id t
      else word opNtpSet 0x341000 0x341600 (0x340000 + off) v (fun _ _ g => g.mintUpdate.ntpUpdate) t) ∧
    (∀ off v : Nat, Ready s c opCltSet → ∃ t, exec (.cltSet c off v) s = .next t ∧
      if off < 0x0C ∨ (0x1C < off ∧ off < 0x400) ∨ (0x4FC < off ∧ off < 0x1000) ∨ 0x2FFC < off ∨
        (off = 0x1C ∧ 256 < v % 256 + v / 2 ^ 8 % 256 + v / 2 ^ 16 % 256 + v / 2 ^ 24 % 256) ∨
        (0x1000 ≤ off ∧ off % 0x20 = 0x10 ∧ addrWidth (v / 2 ^ 8 % 4) < v % 256) ∨
        (off = 0x0C ∧ s.dramGiB < Reg.CLT_CTRL_BASE_GB.part v + 1) then Ends s c opCltSet Status.range 0 id t
      else if off = 0x0C ∧ s.get Reg.CLT_STATUS_READY = 1 ∧
        (Reg.CLT_CTRL_SIZE_LOG2.part v ≠ s.get Reg.CLT_CTRL_SIZE_LOG2 ∨ Reg.CLT_CTRL_BASE_GB.part v ≠ s.get Reg.CLT_CTRL_BASE_GB)
      then Ends s c opCltSet Status.busy 0 id t
      else word opCltSet 0x38000C 0x383000 (0x380000 + off) v plain t) ∧
    (∀ p off v : Nat, Ready s c opPortSet → ∃ t, exec (.portSet c p off v) s = .next t ∧
      let mode := (Reg.PORT_CFG_MODE p).part v
      let fec := (Reg.PORT_CFG_FEC p).part v
      if 4 ≤ p ∨ 0x174 < off ∨ (off = 0 ∧ (4 < mode ∨ 2 < fec ∨ fecAllowed mode fec = false)) then Ends s c opPortSet Status.range 0 id t
      else if off = 0 ∧ (s.unit (0x8000 + p)).st ≠ .disabled then Ends s c opPortSet Status.busy 0 id t
      else word opPortSet (0x300000 + 0x4000 * p) (0x300178 + 0x4000 * p) (0x300000 + 0x4000 * p + off) v plain t) ∧
    (∀ off v : Nat, Ready s c opTwnSet → ∃ t, exec (.twnSet c off v) s = .next t ∧
      word opTwnSet 0x200010 0x200020 (0x200000 + off) v plain t) ∧
    (∀ off v : Nat, Ready s c (opFabSet off) → ∃ t, exec (.fabSet c off v) s = .next t ∧
      if isRqCtrl off = true then
        if 1 < v then Ends s c (opFabSet off) Status.range 0 id t
        else Ends s c (opFabSet off) Status.ok 0 (fun f =>
          (if v = 1 then f.flush ((off - 0x100) / 0x20) else f).change role 0xB200 0x0E01 (0x40000 + off) 0 v) t
      else word (opFabSet off) 0x40000 0x401C0 (0x40000 + off) v plain t) ∧
    (∀ off v : Nat, Ready s c opPmcSet → ∃ t, exec (.pmcSet c off v) s = .next t ∧
      if 0x400 ≤ off ∧ off < 0x2400 ∧ (off - 0x400) % 0x400 = 0x0C then
        if 511 < v then Ends s c opPmcSet Status.range 0 id t
        else Ends s c opPmcSet Status.ok 0 (fun f =>
          (f.pmcClear ((off - 0x400) / 0x400) v).change role (hidOfAddr (0x50000 + off)) 0x0F02 (0x50000 + off) 0 v) t
      else if 0x440 ≤ off ∧ off < 0x2400 ∧ 0x40 ≤ off % 0x400 ∧ off % 0x40 = 0x10 ∧ v % 64 ≠ 0 ∧ (v % 64 < 6 ∨ 48 < v % 64)
      then Ends s c opPmcSet Status.range 0 id t
      else word opPmcSet 0x50000 0x60000 (0x50000 + off) v (fun _ f g => f.hooked (0x50000 + off) fun _ => g) t)

/-- An edge of TCLK: the slew of SLEW_LIMIT and its sign is added to RATE_ADJ and held within RMAX, the time advances by 25 × (2^48 + RATE_TOTAL)
units of 2^-52 ns and SLEW_REMAIN loses 25 × S, and the last edge retires the residue exactly, so that SLEW_REMAIN never overshoots; a change of
SLEW_LIMIT counts from the next edge; under a Track die fault the Time Core runs at RATE_ADJ alone (R48, R57, R58, R60). Where the spec leaves a point open, it follows the model's choices of log entries 1 and 12. -/
def Obligations.TimePerEdge : Prop :=
  ∀ s : State, -rMax ≤ s.tc.rateAdj → s.tc.rateAdj ≤ rMax →
    let t := s.tclk
    let want : Int := if s.tc.slew = 0 then 0 else if 0 < s.tc.slew then s.slewLimit else -(s.slewLimit : Int)
    let rt := max (-rMax) (min rMax (s.tc.rateAdj + want))
    let cut := rt - s.tc.rateAdj
    t.tc.rateAdj = s.tc.rateAdj ∧ t.mem = s.mem ∧
    (s.dieBad 0 = true → (t.tc.time : Int) = (s.tc.time + 25 * (2 ^ 48 + s.tc.rateAdj)) % timeMod ∧ t.tc.slew = s.tc.slew ∧ t.tc.bSlew = s.tc.bSlew) ∧
    (s.dieBad 0 = false → (t.tc.time : Int) = (s.tc.time + (if s.tc.slew.natAbs ≤ (25 * cut).natAbs then 25 * (2 ^ 48 + s.tc.rateAdj) + s.tc.slew else 25 * (2 ^ 48 + rt))) % timeMod ∧
      t.tc.slew = (if s.tc.slew.natAbs ≤ (25 * cut).natAbs then 0 else s.tc.slew - 25 * cut) ∧
      t.tc.slew.natAbs ≤ s.tc.slew.natAbs ∧ 0 ≤ t.tc.slew * s.tc.slew ∧ (s.slewLimit = 0 ∨ s.tc.slew = 0 → t.tc.slew = s.tc.slew))

/-- The selector's choice at a lap boundary: a forced lane fit to be selected, which a PARTNER lane is not on a twin that serves; then on a STANDBY
twin a fit PARTNER lane, the selected one if it is one; else, of the fit lanes of a rank that no disagreement holds out, one of the smallest rank, and among those of equal rank the
lane with the lower number; a selected lane is not left for another of equal rank, nor in non-revertive mode, nor before WTR, while it is among them.
Any rank may be given to several lanes (R83, R96, R98). Where the spec leaves a point open, it follows the model's choices of log entries 18 and 141.
-/
def Obligations.SelectorChoice : Prop :=
  ∀ s : State,
    let u := s.dropForce.runWtr
    let fit (n : Nat) : Prop := n < 16 ∧ (u.laneSt n = 3 ∨ u.laneSt n = 4) ∧ u.laneType n ≠ 3 ∧ u.laneSrc n ≠ 0x14 ∧ u.laneRank n ≠ 0 ∧ u.heldOut n = false
    ((∀ f, u.forced = some f → f < 16) → s.choose.cur = u.wantLane) ∧
    (∀ f, u.forced = some f → (u.laneSt f = 3 ∨ u.laneSt f = 4 ∨ u.laneSt f = 5) → u.laneRank f ≠ 0 →
      (¬ (u.laneSrc f = 0x14 ∧ u.serves = true) → u.wantLane = some f) ∧ (u.laneSrc f = 0x14 → u.serves = true → u.forcedFit = none)) ∧
    (u.forcedFit = none → ∀ n, u.partnerFit = some n → u.wantLane = some n ∧ u.get Reg.TWN_STATUS_ROLE = 3 ∧
      let fitP (m : Nat) : Prop := m < 16 ∧ u.laneSrc m = 0x14 ∧ (u.laneSt m = 3 ∨ u.laneSt m = 4) ∧ u.laneRank m ≠ 0
      fitP n ∧ (∀ m, u.cur = some m → fitP m → n = m) ∧ ((∀ m, u.cur = some m → ¬ fitP m) → ∀ m, fitP m → n ≤ m)) ∧
    (u.forcedFit = none → u.partnerFit = none →
      (u.wantLane = none ↔ ∀ n, ¬ fit n) ∧
      ∀ n, u.wantLane = some n → fit n ∧ ∀ m, fit m →
        (u.cur ≠ some n → u.laneRank n < u.laneRank m ∨ (u.laneRank n = u.laneRank m ∧ n ≤ m)) ∧
        (u.cur = some m → u.laneRank n = u.laneRank m → n = m) ∧
        (u.cur = some m → u.get Reg.SEL_CTRL_REVERTIVE = 0 ∨ u.due .wtr = false → n = m)) ∧
    (∀ (c : Ctx) (n r : Nat), n < 16 → r < 16 → Ready s c opLaneSet → s.laneSt n ≠ 4 → typeAllowed (s.laneSrc n) (s.laneType n) = true →
      ∃ t, exec (.laneSet c n 0 (s.laneSrc n + 32 * s.laneType n + 2 ^ (Reg.LANE_CFG_RANK n).lo * r)) s = .next t ∧ t.laneRank n = r)

/-- What the commands refuse, with nothing changed: an operand outside its chapter's range is RANGE; LEAP_SET and UTC_OFFSET_SET while a leap is
committed, a heat where the TDC lane is taken or does not work, and the delay of the SELECTED pin have the statuses their chapters give (R65, R71,
R77, R109, R112, R159, R182, R230, R257, R328, R382, R444). Where the spec leaves a point open, it follows the model's choices of log entries 10 and
29. -/
def Obligations.Refusals : Prop :=
  ∀ (s : State) (c : Ctx) (i : Instr) (o : OpInfo) (st : Nat), Ready s c o →
    (∃ n : Nat, 15 < n ∧ st = Status.range ∧ (i, o) ∈ [(Instr.cmpDisarm c n, opCmpDisarm), (.laneForce c n, opLaneForce (s.isPartner n))]) ∨
    (∃ (n mode : Nat) (ev pf : Bool) (target period : Nat), (i, o, st) = (.cmpArm c n mode ev pf target period, opCmpArm, Status.range) ∧
      (15 < n ∨ (mode ≠ 1 ∧ mode ≠ 2) ∨ (mode = 2 ∧ (period < 1000 * 2 ^ 16 ∨ 2 ^ 40 * 2 ^ 16 < period)))) ∨
    (∃ (year month : Nat) (sign : Int), i = .leapSet c year month sign ∧ o = opLeapSet ∧
      if s.get Reg.TCO_STATUS_LEAP_COMMITTED = 1 then st = Status.leapCommitted
      else st = Status.range ∧ ((sign ≠ 1 ∧ sign ≠ -1 ∧ sign ≠ 0) ∨ month < 1 ∨ 12 < month ∨ year < 1970 ∨ 65535 < year)) ∨
    (∃ x : Int, i = .utcOffsetSet c x ∧ o = opUtcOffsetSet ∧
      if s.get Reg.TCO_STATUS_LEAP_COMMITTED = 1 then st = Status.leapCommitted else st = Status.range ∧ (x < -32768 ∨ 32767 < x)) ∨
    (∃ n : Nat, n < 16 ∧ (i, o, st) = (.laneForce c n, opLaneForce (s.isPartner n), Status.range) ∧ s.laneSt n = 5 ∧ s.laneType n ≠ 3 ∧
      ¬ (s.laneSrc n = 0x14 ∧ s.serves = true) ∧ s.get Reg.TCO_STATUS_STEP_ARMED = 0 ∧ s.slewFits (s.offsetNow n * 2 ^ 36) = false ∧
      ((s.lanePT n = true ∧ (s.inHoldover = true ∨ s.get (Reg.LANE_STATE_CAUSE n) = 8)) ∨ s.laneType n = 2 ∨
        (s.lanePT n = true ∧ s.serves = true ∧ ∃ m, s.cur = some m ∧ s.laneSrc m = 0x14))) ∨
    (∃ (k : Nat) (p : HeatPar), o = opHeatStart ∧
      i = .heatStart c k p.start p.startEdge p.stop p.stopEdge p.splits p.n p.window p.sgn p.win p.scale p.keep p.stat ∧
      if 23 < k ∨ p.ok = false then st = Status.range
      else if s.servesLane k = true ∨ s.heatRuns k = true then st = Status.busy
      else s.tdcWorks k = false ∧ st = if s.unitFenced (tdcHid k) = true then Status.fenced else Status.notFit) ∨
    (∃ k : Nat, 23 < k ∧ (i, o, st) = (.heatStop c k, opHeatStop, Status.range)) ∨
    (∃ (pin : Nat) (delay : Int), i = .refinDelaySet c pin delay ∧ o = opRefinDelaySet ∧
      if 7 < pin ∨ delay < -1024000000 ∨ 1024000000 < delay then st = Status.range else st = Status.busy ∧ ∃ n, s.cur = some n ∧ s.laneSrc n = pin) ∨
    (∃ g : Nat, 3 < g ∧ st = Status.range ∧ (i, o) ∈ [(Instr.synStart c g, opSynStart), (.synStop c g, opSynStop)]) ∨
    (∃ g num den : Nat, (i, o, st) = (.synFreqStep c g num den, opSynFreqStep, Status.range) ∧
      (3 < g ∨ num = 0 ∨ 2 ^ 48 ≤ num ∨ den = 0 ∨ 65536 ≤ den)) ∨
    (∃ (addr len : Nat) (parityBad tooOld : List Nat) (rs : List NavRec), (i, o, st) = (.gnssNavLoad c addr len parityBad tooOld, opGnssNavLoad, Status.range) ∧
      c.dmaOk = true ∧ parseNav (len + 1) (memRead s.mem addr len) = some rs ∧ (len = 0 ∨ ∃ r ∈ rs, 2 < r.typ)) ∨
    (∃ (k : Nat) (who : Option CKey), 3 < k ∧ st = Status.range ∧ (i, o) ∈ [(Instr.ptpInstStart c k, opPtpInstStart), (.ptpInstStop c k, opPtpInstStop),
      (.ptpGrantCancel c k who, opPtpGrantCancel), (.portLinkReset c k, opLinkReset)]) ∨
    (∃ (target addr : Nat) (clear : Bool), target ≠ 1 ∧ target ≠ 2 ∧ (i, o, st) = (.roleKeySet c target clear addr, opRoleKeySet target, Status.range)) →
    ∃ t, exec i s = .next t ∧ Ends s c o st 0 id t
end

