-- ==== Sys2Proof/Laws/State.lean ====
section
/-! SUPPORT. State and its updates: one lemma for each field of State and each operation that sets one field. -/

namespace Sys2Proof.Machine

variable (s : State)

/-! ### put -/

@[simp] theorem State.put_regs (f : Fld) (v : Nat) : (s.put f v).regs = aput s.regs f.key (v % 2 ^ f.width) := rfl
@[simp] theorem State.put_vars (f : Fld) (v : Nat) : (s.put f v).vars = s.vars := rfl
@[simp] theorem State.put_timers (f : Fld) (v : Nat) : (s.put f v).timers = s.timers := rfl
@[simp] theorem State.put_tc (f : Fld) (v : Nat) : (s.put f v).tc = s.tc := rfl
@[simp] theorem State.put_units (f : Fld) (v : Nat) : (s.put f v).units = s.units := rfl
@[simp] theorem State.put_log (f : Fld) (v : Nat) : (s.put f v).log = s.log := rfl
@[simp] theorem State.put_evtq (f : Fld) (v : Nat) : (s.put f v).evtq = s.evtq := rfl
@[simp] theorem State.put_pmc (f : Fld) (v : Nat) : (s.put f v).pmc = s.pmc := rfl
@[simp] theorem State.put_pf (f : Fld) (v : Nat) : (s.put f v).pf = s.pf := rfl
@[simp] theorem State.put_hif (f : Fld) (v : Nat) : (s.put f v).hif = s.hif := rfl
@[simp] theorem State.put_roles (f : Fld) (v : Nat) : (s.put f v).roles = s.roles := rfl
@[simp] theorem State.put_keys (f : Fld) (v : Nat) : (s.put f v).keys = s.keys := rfl
@[simp] theorem State.put_keeper (f : Fld) (v : Nat) : (s.put f v).keeper = s.keeper := rfl
@[simp] theorem State.put_boot (f : Fld) (v : Nat) : (s.put f v).boot = s.boot := rfl
@[simp] theorem State.put_shadow (f : Fld) (v : Nat) : (s.put f v).shadow = s.shadow := rfl
@[simp] theorem State.put_shadowKeys (f : Fld) (v : Nat) : (s.put f v).shadowKeys = s.shadowKeys := rfl
@[simp] theorem State.put_mem (f : Fld) (v : Nat) : (s.put f v).mem = s.mem := rfl
@[simp] theorem State.put_out (f : Fld) (v : Nat) : (s.put f v).out = s.out := rfl
@[simp] theorem State.put_free (f : Fld) (v : Nat) : (s.put f v).free = s.free := rfl
@[simp] theorem State.put_twin (f : Fld) (v : Nat) : (s.put f v).twin = s.twin := rfl
@[simp] theorem State.put_lanes (f : Fld) (v : Nat) : (s.put f v).lanes = s.lanes := rfl
@[simp] theorem State.put_episodes (f : Fld) (v : Nat) : (s.put f v).episodes = s.episodes := rfl
@[simp] theorem State.put_disc (f : Fld) (v : Nat) : (s.put f v).disc = s.disc := rfl
@[simp] theorem State.put_tim (f : Fld) (v : Nat) : (s.put f v).tim = s.tim := rfl
@[simp] theorem State.put_syn (f : Fld) (v : Nat) : (s.put f v).syn = s.syn := rfl
@[simp] theorem State.put_outs (f : Fld) (v : Nat) : (s.put f v).outs = s.outs := rfl
@[simp] theorem State.put_gnss (f : Fld) (v : Nat) : (s.put f v).gnss = s.gnss := rfl
@[simp] theorem State.put_partnerKcv (f : Fld) (v : Nat) : (s.put f v).partnerKcv = s.partnerKcv := rfl
@[simp] theorem State.put_clt (f : Fld) (v : Nat) : (s.put f v).clt = s.clt := rfl
@[simp] theorem State.put_ports (f : Fld) (v : Nat) : (s.put f v).ports = s.ports := rfl
@[simp] theorem State.put_insts (f : Fld) (v : Nat) : (s.put f v).insts = s.insts := rfl
@[simp] theorem State.put_heldGrants (f : Fld) (v : Nat) : (s.put f v).heldGrants = s.heldGrants := rfl
@[simp] theorem State.put_dumpq (f : Fld) (v : Nat) : (s.put f v).dumpq = s.dumpq := rfl
@[simp] theorem State.put_parity (f : Fld) (v : Nat) : (s.put f v).parity = s.parity := rfl
@[simp] theorem State.put_pending (f : Fld) (v : Nat) : (s.put f v).pending = s.pending := rfl

/-! ### setVar -/

@[simp] theorem State.setVar_regs (v : Var) (x : Int) : (s.setVar v x).regs = s.regs := rfl
@[simp] theorem State.setVar_vars (v : Var) (x : Int) : (s.setVar v x).vars = aput s.vars v x := rfl
@[simp] theorem State.setVar_timers (v : Var) (x : Int) : (s.setVar v x).timers = s.timers := rfl
@[simp] theorem State.setVar_tc (v : Var) (x : Int) : (s.setVar v x).tc = s.tc := rfl
@[simp] theorem State.setVar_units (v : Var) (x : Int) : (s.setVar v x).units = s.units := rfl
@[simp] theorem State.setVar_log (v : Var) (x : Int) : (s.setVar v x).log = s.log := rfl
@[simp] theorem State.setVar_evtq (v : Var) (x : Int) : (s.setVar v x).evtq = s.evtq := rfl
@[simp] theorem State.setVar_pmc (v : Var) (x : Int) : (s.setVar v x).pmc = s.pmc := rfl
@[simp] theorem State.setVar_pf (v : Var) (x : Int) : (s.setVar v x).pf = s.pf := rfl
@[simp] theorem State.setVar_hif (v : Var) (x : Int) : (s.setVar v x).hif = s.hif := rfl
@[simp] theorem State.setVar_roles (v : Var) (x : Int) : (s.setVar v x).roles = s.roles := rfl
@[simp] theorem State.setVar_keys (v : Var) (x : Int) : (s.setVar v x).keys = s.keys := rfl
@[simp] theorem State.setVar_keeper (v : Var) (x : Int) : (s.setVar v x).keeper = s.keeper := rfl
@[simp] theorem State.setVar_boot (v : Var) (x : Int) : (s.setVar v x).boot = s.boot := rfl
@[simp] theorem State.setVar_shadow (v : Var) (x : Int) : (s.setVar v x).shadow = s.shadow := rfl
@[simp] theorem State.setVar_shadowKeys (v : Var) (x : Int) : (s.setVar v x).shadowKeys = s.shadowKeys := rfl
@[simp] theorem State.setVar_mem (v : Var) (x : Int) : (s.setVar v x).mem = s.mem := rfl
@[simp] theorem State.setVar_out (v : Var) (x : Int) : (s.setVar v x).out = s.out := rfl
@[simp] theorem State.setVar_free (v : Var) (x : Int) : (s.setVar v x).free = s.free := rfl
@[simp] theorem State.setVar_twin (v : Var) (x : Int) : (s.setVar v x).twin = s.twin := rfl
@[simp] theorem State.setVar_lanes (v : Var) (x : Int) : (s.setVar v x).lanes = s.lanes := rfl
@[simp] theorem State.setVar_episodes (v : Var) (x : Int) : (s.setVar v x).episodes = s.episodes := rfl
@[simp] theorem State.setVar_disc (v : Var) (x : Int) : (s.setVar v x).disc = s.disc := rfl
@[simp] theorem State.setVar_tim (v : Var) (x : Int) : (s.setVar v x).tim = s.tim := rfl
@[simp] theorem State.setVar_syn (v : Var) (x : Int) : (s.setVar v x).syn = s.syn := rfl
@[simp] theorem State.setVar_outs (v : Var) (x : Int) : (s.setVar v x).outs = s.outs := rfl
@[simp] theorem State.setVar_gnss (v : Var) (x : Int) : (s.setVar v x).gnss = s.gnss := rfl
@[simp] theorem State.setVar_partnerKcv (v : Var) (x : Int) : (s.setVar v x).partnerKcv = s.partnerKcv := rfl
@[simp] theorem State.setVar_clt (v : Var) (x : Int) : (s.setVar v x).clt = s.clt := rfl
@[simp] theorem State.setVar_ports (v : Var) (x : Int) : (s.setVar v x).ports = s.ports := rfl
@[simp] theorem State.setVar_insts (v : Var) (x : Int) : (s.setVar v x).insts = s.insts := rfl
@[simp] theorem State.setVar_heldGrants (v : Var) (x : Int) : (s.setVar v x).heldGrants = s.heldGrants := rfl
@[simp] theorem State.setVar_dumpq (v : Var) (x : Int) : (s.setVar v x).dumpq = s.dumpq := rfl
@[simp] theorem State.setVar_parity (v : Var) (x : Int) : (s.setVar v x).parity = s.parity := rfl
@[simp] theorem State.setVar_pending (v : Var) (x : Int) : (s.setVar v x).pending = s.pending := rfl

/-! ### setTimer -/

@[simp] theorem State.setTimer_regs (m : Tm) (d : Nat) : (s.setTimer m d).regs = s.regs := rfl
@[simp] theorem State.setTimer_vars (m : Tm) (d : Nat) : (s.setTimer m d).vars = s.vars := rfl
@[simp] theorem State.setTimer_timers (m : Tm) (d : Nat) : (s.setTimer m d).timers = aput s.timers m d := rfl
@[simp] theorem State.setTimer_tc (m : Tm) (d : Nat) : (s.setTimer m d).tc = s.tc := rfl
@[simp] theorem State.setTimer_units (m : Tm) (d : Nat) : (s.setTimer m d).units = s.units := rfl
@[simp] theorem State.setTimer_log (m : Tm) (d : Nat) : (s.setTimer m d).log = s.log := rfl
@[simp] theorem State.setTimer_evtq (m : Tm) (d : Nat) : (s.setTimer m d).evtq = s.evtq := rfl
@[simp] theorem State.setTimer_pmc (m : Tm) (d : Nat) : (s.setTimer m d).pmc = s.pmc := rfl
@[simp] theorem State.setTimer_pf (m : Tm) (d : Nat) : (s.setTimer m d).pf = s.pf := rfl
@[simp] theorem State.setTimer_hif (m : Tm) (d : Nat) : (s.setTimer m d).hif = s.hif := rfl
@[simp] theorem State.setTimer_roles (m : Tm) (d : Nat) : (s.setTimer m d).roles = s.roles := rfl
@[simp] theorem State.setTimer_keys (m : Tm) (d : Nat) : (s.setTimer m d).keys = s.keys := rfl
@[simp] theorem State.setTimer_keeper (m : Tm) (d : Nat) : (s.setTimer m d).keeper = s.keeper := rfl
@[simp] theorem State.setTimer_boot (m : Tm) (d : Nat) : (s.setTimer m d).boot = s.boot := rfl
@[simp] theorem State.setTimer_shadow (m : Tm) (d : Nat) : (s.setTimer m d).shadow = s.shadow := rfl
@[simp] theorem State.setTimer_shadowKeys (m : Tm) (d : Nat) : (s.setTimer m d).shadowKeys = s.shadowKeys := rfl
@[simp] theorem State.setTimer_mem (m : Tm) (d : Nat) : (s.setTimer m d).mem = s.mem := rfl
@[simp] theorem State.setTimer_out (m : Tm) (d : Nat) : (s.setTimer m d).out = s.out := rfl
@[simp] theorem State.setTimer_free (m : Tm) (d : Nat) : (s.setTimer m d).free = s.free := rfl
@[simp] theorem State.setTimer_twin (m : Tm) (d : Nat) : (s.setTimer m d).twin = s.twin := rfl
@[simp] theorem State.setTimer_lanes (m : Tm) (d : Nat) : (s.setTimer m d).lanes = s.lanes := rfl
@[simp] theorem State.setTimer_episodes (m : Tm) (d : Nat) : (s.setTimer m d).episodes = s.episodes := rfl
@[simp] theorem State.setTimer_disc (m : Tm) (d : Nat) : (s.setTimer m d).disc = s.disc := rfl
@[simp] theorem State.setTimer_tim (m : Tm) (d : Nat) : (s.setTimer m d).tim = s.tim := rfl
@[simp] theorem State.setTimer_syn (m : Tm) (d : Nat) : (s.setTimer m d).syn = s.syn := rfl
@[simp] theorem State.setTimer_outs (m : Tm) (d : Nat) : (s.setTimer m d).outs = s.outs := rfl
@[simp] theorem State.setTimer_gnss (m : Tm) (d : Nat) : (s.setTimer m d).gnss = s.gnss := rfl
@[simp] theorem State.setTimer_partnerKcv (m : Tm) (d : Nat) : (s.setTimer m d).partnerKcv = s.partnerKcv := rfl
@[simp] theorem State.setTimer_clt (m : Tm) (d : Nat) : (s.setTimer m d).clt = s.clt := rfl
@[simp] theorem State.setTimer_ports (m : Tm) (d : Nat) : (s.setTimer m d).ports = s.ports := rfl
@[simp] theorem State.setTimer_insts (m : Tm) (d : Nat) : (s.setTimer m d).insts = s.insts := rfl
@[simp] theorem State.setTimer_heldGrants (m : Tm) (d : Nat) : (s.setTimer m d).heldGrants = s.heldGrants := rfl
@[simp] theorem State.setTimer_dumpq (m : Tm) (d : Nat) : (s.setTimer m d).dumpq = s.dumpq := rfl
@[simp] theorem State.setTimer_parity (m : Tm) (d : Nat) : (s.setTimer m d).parity = s.parity := rfl
@[simp] theorem State.setTimer_pending (m : Tm) (d : Nat) : (s.setTimer m d).pending = s.pending := rfl

/-! ### stopTimer -/

@[simp] theorem State.stopTimer_regs (m : Tm) : (s.stopTimer m).regs = s.regs := rfl
@[simp] theorem State.stopTimer_vars (m : Tm) : (s.stopTimer m).vars = s.vars := rfl
@[simp] theorem State.stopTimer_timers (m : Tm) : (s.stopTimer m).timers = adel s.timers m := rfl
@[simp] theorem State.stopTimer_tc (m : Tm) : (s.stopTimer m).tc = s.tc := rfl
@[simp] theorem State.stopTimer_units (m : Tm) : (s.stopTimer m).units = s.units := rfl
@[simp] theorem State.stopTimer_log (m : Tm) : (s.stopTimer m).log = s.log := rfl
@[simp] theorem State.stopTimer_evtq (m : Tm) : (s.stopTimer m).evtq = s.evtq := rfl
@[simp] theorem State.stopTimer_pmc (m : Tm) : (s.stopTimer m).pmc = s.pmc := rfl
@[simp] theorem State.stopTimer_pf (m : Tm) : (s.stopTimer m).pf = s.pf := rfl
@[simp] theorem State.stopTimer_hif (m : Tm) : (s.stopTimer m).hif = s.hif := rfl
@[simp] theorem State.stopTimer_roles (m : Tm) : (s.stopTimer m).roles = s.roles := rfl
@[simp] theorem State.stopTimer_keys (m : Tm) : (s.stopTimer m).keys = s.keys := rfl
@[simp] theorem State.stopTimer_keeper (m : Tm) : (s.stopTimer m).keeper = s.keeper := rfl
@[simp] theorem State.stopTimer_boot (m : Tm) : (s.stopTimer m).boot = s.boot := rfl
@[simp] theorem State.stopTimer_shadow (m : Tm) : (s.stopTimer m).shadow = s.shadow := rfl
@[simp] theorem State.stopTimer_shadowKeys (m : Tm) : (s.stopTimer m).shadowKeys = s.shadowKeys := rfl
@[simp] theorem State.stopTimer_mem (m : Tm) : (s.stopTimer m).mem = s.mem := rfl
@[simp] theorem State.stopTimer_out (m : Tm) : (s.stopTimer m).out = s.out := rfl
@[simp] theorem State.stopTimer_free (m : Tm) : (s.stopTimer m).free = s.free := rfl
@[simp] theorem State.stopTimer_twin (m : Tm) : (s.stopTimer m).twin = s.twin := rfl
@[simp] theorem State.stopTimer_lanes (m : Tm) : (s.stopTimer m).lanes = s.lanes := rfl
@[simp] theorem State.stopTimer_episodes (m : Tm) : (s.stopTimer m).episodes = s.episodes := rfl
@[simp] theorem State.stopTimer_disc (m : Tm) : (s.stopTimer m).disc = s.disc := rfl
@[simp] theorem State.stopTimer_tim (m : Tm) : (s.stopTimer m).tim = s.tim := rfl
@[simp] theorem State.stopTimer_syn (m : Tm) : (s.stopTimer m).syn = s.syn := rfl
@[simp] theorem State.stopTimer_outs (m : Tm) : (s.stopTimer m).outs = s.outs := rfl
@[simp] theorem State.stopTimer_gnss (m : Tm) : (s.stopTimer m).gnss = s.gnss := rfl
@[simp] theorem State.stopTimer_partnerKcv (m : Tm) : (s.stopTimer m).partnerKcv = s.partnerKcv := rfl
@[simp] theorem State.stopTimer_clt (m : Tm) : (s.stopTimer m).clt = s.clt := rfl
@[simp] theorem State.stopTimer_ports (m : Tm) : (s.stopTimer m).ports = s.ports := rfl
@[simp] theorem State.stopTimer_insts (m : Tm) : (s.stopTimer m).insts = s.insts := rfl
@[simp] theorem State.stopTimer_heldGrants (m : Tm) : (s.stopTimer m).heldGrants = s.heldGrants := rfl
@[simp] theorem State.stopTimer_dumpq (m : Tm) : (s.stopTimer m).dumpq = s.dumpq := rfl
@[simp] theorem State.stopTimer_parity (m : Tm) : (s.stopTimer m).parity = s.parity := rfl
@[simp] theorem State.stopTimer_pending (m : Tm) : (s.stopTimer m).pending = s.pending := rfl

/-! ### dmaWrite -/

@[simp] theorem State.dmaWrite_regs (b : Nat) (bs : List Byte) : (s.dmaWrite b bs).regs = s.regs := rfl
@[simp] theorem State.dmaWrite_vars (b : Nat) (bs : List Byte) : (s.dmaWrite b bs).vars = s.vars := rfl
@[simp] theorem State.dmaWrite_timers (b : Nat) (bs : List Byte) : (s.dmaWrite b bs).timers = s.timers := rfl
@[simp] theorem State.dmaWrite_tc (b : Nat) (bs : List Byte) : (s.dmaWrite b bs).tc = s.tc := rfl
@[simp] theorem State.dmaWrite_units (b : Nat) (bs : List Byte) : (s.dmaWrite b bs).units = s.units := rfl
@[simp] theorem State.dmaWrite_log (b : Nat) (bs : List Byte) : (s.dmaWrite b bs).log = s.log := rfl
@[simp] theorem State.dmaWrite_evtq (b : Nat) (bs : List Byte) : (s.dmaWrite b bs).evtq = s.evtq := rfl
@[simp] theorem State.dmaWrite_pmc (b : Nat) (bs : List Byte) : (s.dmaWrite b bs).pmc = s.pmc := rfl
@[simp] theorem State.dmaWrite_pf (b : Nat) (bs : List Byte) : (s.dmaWrite b bs).pf = s.pf := rfl
@[simp] theorem State.dmaWrite_hif (b : Nat) (bs : List Byte) : (s.dmaWrite b bs).hif = s.hif := rfl
@[simp] theorem State.dmaWrite_roles (b : Nat) (bs : List Byte) : (s.dmaWrite b bs).roles = s.roles := rfl
@[simp] theorem State.dmaWrite_keys (b : Nat) (bs : List Byte) : (s.dmaWrite b bs).keys = s.keys := rfl
@[simp] theorem State.dmaWrite_keeper (b : Nat) (bs : List Byte) : (s.dmaWrite b bs).keeper = s.keeper := rfl
@[simp] theorem State.dmaWrite_boot (b : Nat) (bs : List Byte) : (s.dmaWrite b bs).boot = s.boot := rfl
@[simp] theorem State.dmaWrite_shadow (b : Nat) (bs : List Byte) : (s.dmaWrite b bs).shadow = s.shadow := rfl
@[simp] theorem State.dmaWrite_shadowKeys (b : Nat) (bs : List Byte) : (s.dmaWrite b bs).shadowKeys = s.shadowKeys := rfl
@[simp] theorem State.dmaWrite_mem (b : Nat) (bs : List Byte) : (s.dmaWrite b bs).mem = memWrite s.mem b bs := rfl
@[simp] theorem State.dmaWrite_out (b : Nat) (bs : List Byte) : (s.dmaWrite b bs).out = s.out := rfl
@[simp] theorem State.dmaWrite_free (b : Nat) (bs : List Byte) : (s.dmaWrite b bs).free = s.free := rfl
@[simp] theorem State.dmaWrite_twin (b : Nat) (bs : List Byte) : (s.dmaWrite b bs).twin = s.twin := rfl
@[simp] theorem State.dmaWrite_lanes (b : Nat) (bs : List Byte) : (s.dmaWrite b bs).lanes = s.lanes := rfl
@[simp] theorem State.dmaWrite_episodes (b : Nat) (bs : List Byte) : (s.dmaWrite b bs).episodes = s.episodes := rfl
@[simp] theorem State.dmaWrite_disc (b : Nat) (bs : List Byte) : (s.dmaWrite b bs).disc = s.disc := rfl
@[simp] theorem State.dmaWrite_tim (b : Nat) (bs : List Byte) : (s.dmaWrite b bs).tim = s.tim := rfl
@[simp] theorem State.dmaWrite_syn (b : Nat) (bs : List Byte) : (s.dmaWrite b bs).syn = s.syn := rfl
@[simp] theorem State.dmaWrite_outs (b : Nat) (bs : List Byte) : (s.dmaWrite b bs).outs = s.outs := rfl
@[simp] theorem State.dmaWrite_gnss (b : Nat) (bs : List Byte) : (s.dmaWrite b bs).gnss = s.gnss := rfl
@[simp] theorem State.dmaWrite_partnerKcv (b : Nat) (bs : List Byte) : (s.dmaWrite b bs).partnerKcv = s.partnerKcv := rfl
@[simp] theorem State.dmaWrite_clt (b : Nat) (bs : List Byte) : (s.dmaWrite b bs).clt = s.clt := rfl
@[simp] theorem State.dmaWrite_ports (b : Nat) (bs : List Byte) : (s.dmaWrite b bs).ports = s.ports := rfl
@[simp] theorem State.dmaWrite_insts (b : Nat) (bs : List Byte) : (s.dmaWrite b bs).insts = s.insts := rfl
@[simp] theorem State.dmaWrite_heldGrants (b : Nat) (bs : List Byte) : (s.dmaWrite b bs).heldGrants = s.heldGrants := rfl
@[simp] theorem State.dmaWrite_dumpq (b : Nat) (bs : List Byte) : (s.dmaWrite b bs).dumpq = s.dumpq := rfl
@[simp] theorem State.dmaWrite_parity (b : Nat) (bs : List Byte) : (s.dmaWrite b bs).parity = s.parity := rfl
@[simp] theorem State.dmaWrite_pending (b : Nat) (bs : List Byte) : (s.dmaWrite b bs).pending = s.pending := rfl

/-! ### setUnit -/

@[simp] theorem State.setUnit_regs (h : Nat) (u : UnitRec) : (s.setUnit h u).regs = s.regs := rfl
@[simp] theorem State.setUnit_vars (h : Nat) (u : UnitRec) : (s.setUnit h u).vars = s.vars := rfl
@[simp] theorem State.setUnit_timers (h : Nat) (u : UnitRec) : (s.setUnit h u).timers = s.timers := rfl
@[simp] theorem State.setUnit_tc (h : Nat) (u : UnitRec) : (s.setUnit h u).tc = s.tc := rfl
@[simp] theorem State.setUnit_units (h : Nat) (u : UnitRec) : (s.setUnit h u).units = aput s.units h u := rfl
@[simp] theorem State.setUnit_log (h : Nat) (u : UnitRec) : (s.setUnit h u).log = s.log := rfl
@[simp] theorem State.setUnit_evtq (h : Nat) (u : UnitRec) : (s.setUnit h u).evtq = s.evtq := rfl
@[simp] theorem State.setUnit_pmc (h : Nat) (u : UnitRec) : (s.setUnit h u).pmc = s.pmc := rfl
@[simp] theorem State.setUnit_pf (h : Nat) (u : UnitRec) : (s.setUnit h u).pf = s.pf := rfl
@[simp] theorem State.setUnit_hif (h : Nat) (u : UnitRec) : (s.setUnit h u).hif = s.hif := rfl
@[simp] theorem State.setUnit_roles (h : Nat) (u : UnitRec) : (s.setUnit h u).roles = s.roles := rfl
@[simp] theorem State.setUnit_keys (h : Nat) (u : UnitRec) : (s.setUnit h u).keys = s.keys := rfl
@[simp] theorem State.setUnit_keeper (h : Nat) (u : UnitRec) : (s.setUnit h u).keeper = s.keeper := rfl
@[simp] theorem State.setUnit_boot (h : Nat) (u : UnitRec) : (s.setUnit h u).boot = s.boot := rfl
@[simp] theorem State.setUnit_shadow (h : Nat) (u : UnitRec) : (s.setUnit h u).shadow = s.shadow := rfl
@[simp] theorem State.setUnit_shadowKeys (h : Nat) (u : UnitRec) : (s.setUnit h u).shadowKeys = s.shadowKeys := rfl
@[simp] theorem State.setUnit_mem (h : Nat) (u : UnitRec) : (s.setUnit h u).mem = s.mem := rfl
@[simp] theorem State.setUnit_out (h : Nat) (u : UnitRec) : (s.setUnit h u).out = s.out := rfl
@[simp] theorem State.setUnit_free (h : Nat) (u : UnitRec) : (s.setUnit h u).free = s.free := rfl
@[simp] theorem State.setUnit_twin (h : Nat) (u : UnitRec) : (s.setUnit h u).twin = s.twin := rfl
@[simp] theorem State.setUnit_lanes (h : Nat) (u : UnitRec) : (s.setUnit h u).lanes = s.lanes := rfl
@[simp] theorem State.setUnit_episodes (h : Nat) (u : UnitRec) : (s.setUnit h u).episodes = s.episodes := rfl
@[simp] theorem State.setUnit_disc (h : Nat) (u : UnitRec) : (s.setUnit h u).disc = s.disc := rfl
@[simp] theorem State.setUnit_tim (h : Nat) (u : UnitRec) : (s.setUnit h u).tim = s.tim := rfl
@[simp] theorem State.setUnit_syn (h : Nat) (u : UnitRec) : (s.setUnit h u).syn = s.syn := rfl
@[simp] theorem State.setUnit_outs (h : Nat) (u : UnitRec) : (s.setUnit h u).outs = s.outs := rfl
@[simp] theorem State.setUnit_gnss (h : Nat) (u : UnitRec) : (s.setUnit h u).gnss = s.gnss := rfl
@[simp] theorem State.setUnit_partnerKcv (h : Nat) (u : UnitRec) : (s.setUnit h u).partnerKcv = s.partnerKcv := rfl
@[simp] theorem State.setUnit_clt (h : Nat) (u : UnitRec) : (s.setUnit h u).clt = s.clt := rfl
@[simp] theorem State.setUnit_ports (h : Nat) (u : UnitRec) : (s.setUnit h u).ports = s.ports := rfl
@[simp] theorem State.setUnit_insts (h : Nat) (u : UnitRec) : (s.setUnit h u).insts = s.insts := rfl
@[simp] theorem State.setUnit_heldGrants (h : Nat) (u : UnitRec) : (s.setUnit h u).heldGrants = s.heldGrants := rfl
@[simp] theorem State.setUnit_dumpq (h : Nat) (u : UnitRec) : (s.setUnit h u).dumpq = s.dumpq := rfl
@[simp] theorem State.setUnit_parity (h : Nat) (u : UnitRec) : (s.setUnit h u).parity = s.parity := rfl
@[simp] theorem State.setUnit_pending (h : Nat) (u : UnitRec) : (s.setUnit h u).pending = s.pending := rfl

/-! ### setLane -/

@[simp] theorem State.setLane_regs (n : Nat) (r : LaneRec) : (s.setLane n r).regs = s.regs := rfl
@[simp] theorem State.setLane_vars (n : Nat) (r : LaneRec) : (s.setLane n r).vars = s.vars := rfl
@[simp] theorem State.setLane_timers (n : Nat) (r : LaneRec) : (s.setLane n r).timers = s.timers := rfl
@[simp] theorem State.setLane_tc (n : Nat) (r : LaneRec) : (s.setLane n r).tc = s.tc := rfl
@[simp] theorem State.setLane_units (n : Nat) (r : LaneRec) : (s.setLane n r).units = s.units := rfl
@[simp] theorem State.setLane_log (n : Nat) (r : LaneRec) : (s.setLane n r).log = s.log := rfl
@[simp] theorem State.setLane_evtq (n : Nat) (r : LaneRec) : (s.setLane n r).evtq = s.evtq := rfl
@[simp] theorem State.setLane_pmc (n : Nat) (r : LaneRec) : (s.setLane n r).pmc = s.pmc := rfl
@[simp] theorem State.setLane_pf (n : Nat) (r : LaneRec) : (s.setLane n r).pf = s.pf := rfl
@[simp] theorem State.setLane_hif (n : Nat) (r : LaneRec) : (s.setLane n r).hif = s.hif := rfl
@[simp] theorem State.setLane_roles (n : Nat) (r : LaneRec) : (s.setLane n r).roles = s.roles := rfl
@[simp] theorem State.setLane_keys (n : Nat) (r : LaneRec) : (s.setLane n r).keys = s.keys := rfl
@[simp] theorem State.setLane_keeper (n : Nat) (r : LaneRec) : (s.setLane n r).keeper = s.keeper := rfl
@[simp] theorem State.setLane_boot (n : Nat) (r : LaneRec) : (s.setLane n r).boot = s.boot := rfl
@[simp] theorem State.setLane_shadow (n : Nat) (r : LaneRec) : (s.setLane n r).shadow = s.shadow := rfl
@[simp] theorem State.setLane_shadowKeys (n : Nat) (r : LaneRec) : (s.setLane n r).shadowKeys = s.shadowKeys := rfl
@[simp] theorem State.setLane_mem (n : Nat) (r : LaneRec) : (s.setLane n r).mem = s.mem := rfl
@[simp] theorem State.setLane_out (n : Nat) (r : LaneRec) : (s.setLane n r).out = s.out := rfl
@[simp] theorem State.setLane_free (n : Nat) (r : LaneRec) : (s.setLane n r).free = s.free := rfl
@[simp] theorem State.setLane_twin (n : Nat) (r : LaneRec) : (s.setLane n r).twin = s.twin := rfl
@[simp] theorem State.setLane_lanes (n : Nat) (r : LaneRec) : (s.setLane n r).lanes = aput s.lanes n r := rfl
@[simp] theorem State.setLane_episodes (n : Nat) (r : LaneRec) : (s.setLane n r).episodes = s.episodes := rfl
@[simp] theorem State.setLane_disc (n : Nat) (r : LaneRec) : (s.setLane n r).disc = s.disc := rfl
@[simp] theorem State.setLane_tim (n : Nat) (r : LaneRec) : (s.setLane n r).tim = s.tim := rfl
@[simp] theorem State.setLane_syn (n : Nat) (r : LaneRec) : (s.setLane n r).syn = s.syn := rfl
@[simp] theorem State.setLane_outs (n : Nat) (r : LaneRec) : (s.setLane n r).outs = s.outs := rfl
@[simp] theorem State.setLane_gnss (n : Nat) (r : LaneRec) : (s.setLane n r).gnss = s.gnss := rfl
@[simp] theorem State.setLane_partnerKcv (n : Nat) (r : LaneRec) : (s.setLane n r).partnerKcv = s.partnerKcv := rfl
@[simp] theorem State.setLane_clt (n : Nat) (r : LaneRec) : (s.setLane n r).clt = s.clt := rfl
@[simp] theorem State.setLane_ports (n : Nat) (r : LaneRec) : (s.setLane n r).ports = s.ports := rfl
@[simp] theorem State.setLane_insts (n : Nat) (r : LaneRec) : (s.setLane n r).insts = s.insts := rfl
@[simp] theorem State.setLane_heldGrants (n : Nat) (r : LaneRec) : (s.setLane n r).heldGrants = s.heldGrants := rfl
@[simp] theorem State.setLane_dumpq (n : Nat) (r : LaneRec) : (s.setLane n r).dumpq = s.dumpq := rfl
@[simp] theorem State.setLane_parity (n : Nat) (r : LaneRec) : (s.setLane n r).parity = s.parity := rfl
@[simp] theorem State.setLane_pending (n : Nat) (r : LaneRec) : (s.setLane n r).pending = s.pending := rfl

/-! ### setGrp -/

@[simp] theorem State.setGrp_regs (g : Nat) (r : SynRec) : (s.setGrp g r).regs = s.regs := rfl
@[simp] theorem State.setGrp_vars (g : Nat) (r : SynRec) : (s.setGrp g r).vars = s.vars := rfl
@[simp] theorem State.setGrp_timers (g : Nat) (r : SynRec) : (s.setGrp g r).timers = s.timers := rfl
@[simp] theorem State.setGrp_tc (g : Nat) (r : SynRec) : (s.setGrp g r).tc = s.tc := rfl
@[simp] theorem State.setGrp_units (g : Nat) (r : SynRec) : (s.setGrp g r).units = s.units := rfl
@[simp] theorem State.setGrp_log (g : Nat) (r : SynRec) : (s.setGrp g r).log = s.log := rfl
@[simp] theorem State.setGrp_evtq (g : Nat) (r : SynRec) : (s.setGrp g r).evtq = s.evtq := rfl
@[simp] theorem State.setGrp_pmc (g : Nat) (r : SynRec) : (s.setGrp g r).pmc = s.pmc := rfl
@[simp] theorem State.setGrp_pf (g : Nat) (r : SynRec) : (s.setGrp g r).pf = s.pf := rfl
@[simp] theorem State.setGrp_hif (g : Nat) (r : SynRec) : (s.setGrp g r).hif = s.hif := rfl
@[simp] theorem State.setGrp_roles (g : Nat) (r : SynRec) : (s.setGrp g r).roles = s.roles := rfl
@[simp] theorem State.setGrp_keys (g : Nat) (r : SynRec) : (s.setGrp g r).keys = s.keys := rfl
@[simp] theorem State.setGrp_keeper (g : Nat) (r : SynRec) : (s.setGrp g r).keeper = s.keeper := rfl
@[simp] theorem State.setGrp_boot (g : Nat) (r : SynRec) : (s.setGrp g r).boot = s.boot := rfl
@[simp] theorem State.setGrp_shadow (g : Nat) (r : SynRec) : (s.setGrp g r).shadow = s.shadow := rfl
@[simp] theorem State.setGrp_shadowKeys (g : Nat) (r : SynRec) : (s.setGrp g r).shadowKeys = s.shadowKeys := rfl
@[simp] theorem State.setGrp_mem (g : Nat) (r : SynRec) : (s.setGrp g r).mem = s.mem := rfl
@[simp] theorem State.setGrp_out (g : Nat) (r : SynRec) : (s.setGrp g r).out = s.out := rfl
@[simp] theorem State.setGrp_free (g : Nat) (r : SynRec) : (s.setGrp g r).free = s.free := rfl
@[simp] theorem State.setGrp_twin (g : Nat) (r : SynRec) : (s.setGrp g r).twin = s.twin := rfl
@[simp] theorem State.setGrp_lanes (g : Nat) (r : SynRec) : (s.setGrp g r).lanes = s.lanes := rfl
@[simp] theorem State.setGrp_episodes (g : Nat) (r : SynRec) : (s.setGrp g r).episodes = s.episodes := rfl
@[simp] theorem State.setGrp_disc (g : Nat) (r : SynRec) : (s.setGrp g r).disc = s.disc := rfl
@[simp] theorem State.setGrp_tim (g : Nat) (r : SynRec) : (s.setGrp g r).tim = s.tim := rfl
@[simp] theorem State.setGrp_syn (g : Nat) (r : SynRec) : (s.setGrp g r).syn = aput s.syn g r := rfl
@[simp] theorem State.setGrp_outs (g : Nat) (r : SynRec) : (s.setGrp g r).outs = s.outs := rfl
@[simp] theorem State.setGrp_gnss (g : Nat) (r : SynRec) : (s.setGrp g r).gnss = s.gnss := rfl
@[simp] theorem State.setGrp_partnerKcv (g : Nat) (r : SynRec) : (s.setGrp g r).partnerKcv = s.partnerKcv := rfl
@[simp] theorem State.setGrp_clt (g : Nat) (r : SynRec) : (s.setGrp g r).clt = s.clt := rfl
@[simp] theorem State.setGrp_ports (g : Nat) (r : SynRec) : (s.setGrp g r).ports = s.ports := rfl
@[simp] theorem State.setGrp_insts (g : Nat) (r : SynRec) : (s.setGrp g r).insts = s.insts := rfl
@[simp] theorem State.setGrp_heldGrants (g : Nat) (r : SynRec) : (s.setGrp g r).heldGrants = s.heldGrants := rfl
@[simp] theorem State.setGrp_dumpq (g : Nat) (r : SynRec) : (s.setGrp g r).dumpq = s.dumpq := rfl
@[simp] theorem State.setGrp_parity (g : Nat) (r : SynRec) : (s.setGrp g r).parity = s.parity := rfl
@[simp] theorem State.setGrp_pending (g : Nat) (r : SynRec) : (s.setGrp g r).pending = s.pending := rfl

/-! ### setOut -/

@[simp] theorem State.setOut_regs (i : Nat) (r : OutRec) : (s.setOut i r).regs = s.regs := rfl
@[simp] theorem State.setOut_vars (i : Nat) (r : OutRec) : (s.setOut i r).vars = s.vars := rfl
@[simp] theorem State.setOut_timers (i : Nat) (r : OutRec) : (s.setOut i r).timers = s.timers := rfl
@[simp] theorem State.setOut_tc (i : Nat) (r : OutRec) : (s.setOut i r).tc = s.tc := rfl
@[simp] theorem State.setOut_units (i : Nat) (r : OutRec) : (s.setOut i r).units = s.units := rfl
@[simp] theorem State.setOut_log (i : Nat) (r : OutRec) : (s.setOut i r).log = s.log := rfl
@[simp] theorem State.setOut_evtq (i : Nat) (r : OutRec) : (s.setOut i r).evtq = s.evtq := rfl
@[simp] theorem State.setOut_pmc (i : Nat) (r : OutRec) : (s.setOut i r).pmc = s.pmc := rfl
@[simp] theorem State.setOut_pf (i : Nat) (r : OutRec) : (s.setOut i r).pf = s.pf := rfl
@[simp] theorem State.setOut_hif (i : Nat) (r : OutRec) : (s.setOut i r).hif = s.hif := rfl
@[simp] theorem State.setOut_roles (i : Nat) (r : OutRec) : (s.setOut i r).roles = s.roles := rfl
@[simp] theorem State.setOut_keys (i : Nat) (r : OutRec) : (s.setOut i r).keys = s.keys := rfl
@[simp] theorem State.setOut_keeper (i : Nat) (r : OutRec) : (s.setOut i r).keeper = s.keeper := rfl
@[simp] theorem State.setOut_boot (i : Nat) (r : OutRec) : (s.setOut i r).boot = s.boot := rfl
@[simp] theorem State.setOut_shadow (i : Nat) (r : OutRec) : (s.setOut i r).shadow = s.shadow := rfl
@[simp] theorem State.setOut_shadowKeys (i : Nat) (r : OutRec) : (s.setOut i r).shadowKeys = s.shadowKeys := rfl
@[simp] theorem State.setOut_mem (i : Nat) (r : OutRec) : (s.setOut i r).mem = s.mem := rfl
@[simp] theorem State.setOut_out (i : Nat) (r : OutRec) : (s.setOut i r).out = s.out := rfl
@[simp] theorem State.setOut_free (i : Nat) (r : OutRec) : (s.setOut i r).free = s.free := rfl
@[simp] theorem State.setOut_twin (i : Nat) (r : OutRec) : (s.setOut i r).twin = s.twin := rfl
@[simp] theorem State.setOut_lanes (i : Nat) (r : OutRec) : (s.setOut i r).lanes = s.lanes := rfl
@[simp] theorem State.setOut_episodes (i : Nat) (r : OutRec) : (s.setOut i r).episodes = s.episodes := rfl
@[simp] theorem State.setOut_disc (i : Nat) (r : OutRec) : (s.setOut i r).disc = s.disc := rfl
@[simp] theorem State.setOut_tim (i : Nat) (r : OutRec) : (s.setOut i r).tim = s.tim := rfl
@[simp] theorem State.setOut_syn (i : Nat) (r : OutRec) : (s.setOut i r).syn = s.syn := rfl
@[simp] theorem State.setOut_outs (i : Nat) (r : OutRec) : (s.setOut i r).outs = aput s.outs i r := rfl
@[simp] theorem State.setOut_gnss (i : Nat) (r : OutRec) : (s.setOut i r).gnss = s.gnss := rfl
@[simp] theorem State.setOut_partnerKcv (i : Nat) (r : OutRec) : (s.setOut i r).partnerKcv = s.partnerKcv := rfl
@[simp] theorem State.setOut_clt (i : Nat) (r : OutRec) : (s.setOut i r).clt = s.clt := rfl
@[simp] theorem State.setOut_ports (i : Nat) (r : OutRec) : (s.setOut i r).ports = s.ports := rfl
@[simp] theorem State.setOut_insts (i : Nat) (r : OutRec) : (s.setOut i r).insts = s.insts := rfl
@[simp] theorem State.setOut_heldGrants (i : Nat) (r : OutRec) : (s.setOut i r).heldGrants = s.heldGrants := rfl
@[simp] theorem State.setOut_dumpq (i : Nat) (r : OutRec) : (s.setOut i r).dumpq = s.dumpq := rfl
@[simp] theorem State.setOut_parity (i : Nat) (r : OutRec) : (s.setOut i r).parity = s.parity := rfl
@[simp] theorem State.setOut_pending (i : Nat) (r : OutRec) : (s.setOut i r).pending = s.pending := rfl

/-! ### setHeat -/

@[simp] theorem State.setHeat_regs (k : Nat) (h : HeatRec) : (s.setHeat k h).regs = s.regs := rfl
@[simp] theorem State.setHeat_vars (k : Nat) (h : HeatRec) : (s.setHeat k h).vars = s.vars := rfl
@[simp] theorem State.setHeat_timers (k : Nat) (h : HeatRec) : (s.setHeat k h).timers = s.timers := rfl
@[simp] theorem State.setHeat_tc (k : Nat) (h : HeatRec) : (s.setHeat k h).tc = s.tc := rfl
@[simp] theorem State.setHeat_units (k : Nat) (h : HeatRec) : (s.setHeat k h).units = s.units := rfl
@[simp] theorem State.setHeat_log (k : Nat) (h : HeatRec) : (s.setHeat k h).log = s.log := rfl
@[simp] theorem State.setHeat_evtq (k : Nat) (h : HeatRec) : (s.setHeat k h).evtq = s.evtq := rfl
@[simp] theorem State.setHeat_pmc (k : Nat) (h : HeatRec) : (s.setHeat k h).pmc = s.pmc := rfl
@[simp] theorem State.setHeat_pf (k : Nat) (h : HeatRec) : (s.setHeat k h).pf = s.pf := rfl
@[simp] theorem State.setHeat_hif (k : Nat) (h : HeatRec) : (s.setHeat k h).hif = s.hif := rfl
@[simp] theorem State.setHeat_roles (k : Nat) (h : HeatRec) : (s.setHeat k h).roles = s.roles := rfl
@[simp] theorem State.setHeat_keys (k : Nat) (h : HeatRec) : (s.setHeat k h).keys = s.keys := rfl
@[simp] theorem State.setHeat_keeper (k : Nat) (h : HeatRec) : (s.setHeat k h).keeper = s.keeper := rfl
@[simp] theorem State.setHeat_boot (k : Nat) (h : HeatRec) : (s.setHeat k h).boot = s.boot := rfl
@[simp] theorem State.setHeat_shadow (k : Nat) (h : HeatRec) : (s.setHeat k h).shadow = s.shadow := rfl
@[simp] theorem State.setHeat_shadowKeys (k : Nat) (h : HeatRec) : (s.setHeat k h).shadowKeys = s.shadowKeys := rfl
@[simp] theorem State.setHeat_mem (k : Nat) (h : HeatRec) : (s.setHeat k h).mem = s.mem := rfl
@[simp] theorem State.setHeat_out (k : Nat) (h : HeatRec) : (s.setHeat k h).out = s.out := rfl
@[simp] theorem State.setHeat_free (k : Nat) (h : HeatRec) : (s.setHeat k h).free = s.free := rfl
@[simp] theorem State.setHeat_twin (k : Nat) (h : HeatRec) : (s.setHeat k h).twin = s.twin := rfl
@[simp] theorem State.setHeat_lanes (k : Nat) (h : HeatRec) : (s.setHeat k h).lanes = s.lanes := rfl
@[simp] theorem State.setHeat_episodes (k : Nat) (h : HeatRec) : (s.setHeat k h).episodes = s.episodes := rfl
@[simp] theorem State.setHeat_disc (k : Nat) (h : HeatRec) : (s.setHeat k h).disc = s.disc := rfl
@[simp] theorem State.setHeat_tim (k : Nat) (h : HeatRec) : (s.setHeat k h).tim = { s.tim with heats := aput s.tim.heats k h } := rfl
@[simp] theorem State.setHeat_syn (k : Nat) (h : HeatRec) : (s.setHeat k h).syn = s.syn := rfl
@[simp] theorem State.setHeat_outs (k : Nat) (h : HeatRec) : (s.setHeat k h).outs = s.outs := rfl
@[simp] theorem State.setHeat_gnss (k : Nat) (h : HeatRec) : (s.setHeat k h).gnss = s.gnss := rfl
@[simp] theorem State.setHeat_partnerKcv (k : Nat) (h : HeatRec) : (s.setHeat k h).partnerKcv = s.partnerKcv := rfl
@[simp] theorem State.setHeat_clt (k : Nat) (h : HeatRec) : (s.setHeat k h).clt = s.clt := rfl
@[simp] theorem State.setHeat_ports (k : Nat) (h : HeatRec) : (s.setHeat k h).ports = s.ports := rfl
@[simp] theorem State.setHeat_insts (k : Nat) (h : HeatRec) : (s.setHeat k h).insts = s.insts := rfl
@[simp] theorem State.setHeat_heldGrants (k : Nat) (h : HeatRec) : (s.setHeat k h).heldGrants = s.heldGrants := rfl
@[simp] theorem State.setHeat_dumpq (k : Nat) (h : HeatRec) : (s.setHeat k h).dumpq = s.dumpq := rfl
@[simp] theorem State.setHeat_parity (k : Nat) (h : HeatRec) : (s.setHeat k h).parity = s.parity := rfl
@[simp] theorem State.setHeat_pending (k : Nat) (h : HeatRec) : (s.setHeat k h).pending = s.pending := rfl

/-! ### setChan -/

@[simp] theorem State.setChan_regs (n : Nat) (r : ChanRec) : (s.setChan n r).regs = s.regs := rfl
@[simp] theorem State.setChan_vars (n : Nat) (r : ChanRec) : (s.setChan n r).vars = s.vars := rfl
@[simp] theorem State.setChan_timers (n : Nat) (r : ChanRec) : (s.setChan n r).timers = s.timers := rfl
@[simp] theorem State.setChan_tc (n : Nat) (r : ChanRec) : (s.setChan n r).tc = s.tc := rfl
@[simp] theorem State.setChan_units (n : Nat) (r : ChanRec) : (s.setChan n r).units = s.units := rfl
@[simp] theorem State.setChan_log (n : Nat) (r : ChanRec) : (s.setChan n r).log = s.log := rfl
@[simp] theorem State.setChan_evtq (n : Nat) (r : ChanRec) : (s.setChan n r).evtq = s.evtq := rfl
@[simp] theorem State.setChan_pmc (n : Nat) (r : ChanRec) : (s.setChan n r).pmc = s.pmc := rfl
@[simp] theorem State.setChan_pf (n : Nat) (r : ChanRec) : (s.setChan n r).pf = s.pf := rfl
@[simp] theorem State.setChan_hif (n : Nat) (r : ChanRec) : (s.setChan n r).hif = s.hif := rfl
@[simp] theorem State.setChan_roles (n : Nat) (r : ChanRec) : (s.setChan n r).roles = s.roles := rfl
@[simp] theorem State.setChan_keys (n : Nat) (r : ChanRec) : (s.setChan n r).keys = s.keys := rfl
@[simp] theorem State.setChan_keeper (n : Nat) (r : ChanRec) : (s.setChan n r).keeper = s.keeper := rfl
@[simp] theorem State.setChan_boot (n : Nat) (r : ChanRec) : (s.setChan n r).boot = s.boot := rfl
@[simp] theorem State.setChan_shadow (n : Nat) (r : ChanRec) : (s.setChan n r).shadow = s.shadow := rfl
@[simp] theorem State.setChan_shadowKeys (n : Nat) (r : ChanRec) : (s.setChan n r).shadowKeys = s.shadowKeys := rfl
@[simp] theorem State.setChan_mem (n : Nat) (r : ChanRec) : (s.setChan n r).mem = s.mem := rfl
@[simp] theorem State.setChan_out (n : Nat) (r : ChanRec) : (s.setChan n r).out = s.out := rfl
@[simp] theorem State.setChan_free (n : Nat) (r : ChanRec) : (s.setChan n r).free = s.free := rfl
@[simp] theorem State.setChan_twin (n : Nat) (r : ChanRec) : (s.setChan n r).twin = s.twin := rfl
@[simp] theorem State.setChan_lanes (n : Nat) (r : ChanRec) : (s.setChan n r).lanes = s.lanes := rfl
@[simp] theorem State.setChan_episodes (n : Nat) (r : ChanRec) : (s.setChan n r).episodes = s.episodes := rfl
@[simp] theorem State.setChan_disc (n : Nat) (r : ChanRec) : (s.setChan n r).disc = s.disc := rfl
@[simp] theorem State.setChan_tim (n : Nat) (r : ChanRec) : (s.setChan n r).tim = s.tim := rfl
@[simp] theorem State.setChan_syn (n : Nat) (r : ChanRec) : (s.setChan n r).syn = s.syn := rfl
@[simp] theorem State.setChan_outs (n : Nat) (r : ChanRec) : (s.setChan n r).outs = s.outs := rfl
@[simp] theorem State.setChan_gnss (n : Nat) (r : ChanRec) : (s.setChan n r).gnss = { s.gnss with chans := aput s.gnss.chans n r } := rfl
@[simp] theorem State.setChan_partnerKcv (n : Nat) (r : ChanRec) : (s.setChan n r).partnerKcv = s.partnerKcv := rfl
@[simp] theorem State.setChan_clt (n : Nat) (r : ChanRec) : (s.setChan n r).clt = s.clt := rfl
@[simp] theorem State.setChan_ports (n : Nat) (r : ChanRec) : (s.setChan n r).ports = s.ports := rfl
@[simp] theorem State.setChan_insts (n : Nat) (r : ChanRec) : (s.setChan n r).insts = s.insts := rfl
@[simp] theorem State.setChan_heldGrants (n : Nat) (r : ChanRec) : (s.setChan n r).heldGrants = s.heldGrants := rfl
@[simp] theorem State.setChan_dumpq (n : Nat) (r : ChanRec) : (s.setChan n r).dumpq = s.dumpq := rfl
@[simp] theorem State.setChan_parity (n : Nat) (r : ChanRec) : (s.setChan n r).parity = s.parity := rfl
@[simp] theorem State.setChan_pending (n : Nat) (r : ChanRec) : (s.setChan n r).pending = s.pending := rfl

/-! ### setPort -/

@[simp] theorem State.setPort_regs (p : Nat) (r : PortRec) : (s.setPort p r).regs = s.regs := rfl
@[simp] theorem State.setPort_vars (p : Nat) (r : PortRec) : (s.setPort p r).vars = s.vars := rfl
@[simp] theorem State.setPort_timers (p : Nat) (r : PortRec) : (s.setPort p r).timers = s.timers := rfl
@[simp] theorem State.setPort_tc (p : Nat) (r : PortRec) : (s.setPort p r).tc = s.tc := rfl
@[simp] theorem State.setPort_units (p : Nat) (r : PortRec) : (s.setPort p r).units = s.units := rfl
@[simp] theorem State.setPort_log (p : Nat) (r : PortRec) : (s.setPort p r).log = s.log := rfl
@[simp] theorem State.setPort_evtq (p : Nat) (r : PortRec) : (s.setPort p r).evtq = s.evtq := rfl
@[simp] theorem State.setPort_pmc (p : Nat) (r : PortRec) : (s.setPort p r).pmc = s.pmc := rfl
@[simp] theorem State.setPort_pf (p : Nat) (r : PortRec) : (s.setPort p r).pf = s.pf := rfl
@[simp] theorem State.setPort_hif (p : Nat) (r : PortRec) : (s.setPort p r).hif = s.hif := rfl
@[simp] theorem State.setPort_roles (p : Nat) (r : PortRec) : (s.setPort p r).roles = s.roles := rfl
@[simp] theorem State.setPort_keys (p : Nat) (r : PortRec) : (s.setPort p r).keys = s.keys := rfl
@[simp] theorem State.setPort_keeper (p : Nat) (r : PortRec) : (s.setPort p r).keeper = s.keeper := rfl
@[simp] theorem State.setPort_boot (p : Nat) (r : PortRec) : (s.setPort p r).boot = s.boot := rfl
@[simp] theorem State.setPort_shadow (p : Nat) (r : PortRec) : (s.setPort p r).shadow = s.shadow := rfl
@[simp] theorem State.setPort_shadowKeys (p : Nat) (r : PortRec) : (s.setPort p r).shadowKeys = s.shadowKeys := rfl
@[simp] theorem State.setPort_mem (p : Nat) (r : PortRec) : (s.setPort p r).mem = s.mem := rfl
@[simp] theorem State.setPort_out (p : Nat) (r : PortRec) : (s.setPort p r).out = s.out := rfl
@[simp] theorem State.setPort_free (p : Nat) (r : PortRec) : (s.setPort p r).free = s.free := rfl
@[simp] theorem State.setPort_twin (p : Nat) (r : PortRec) : (s.setPort p r).twin = s.twin := rfl
@[simp] theorem State.setPort_lanes (p : Nat) (r : PortRec) : (s.setPort p r).lanes = s.lanes := rfl
@[simp] theorem State.setPort_episodes (p : Nat) (r : PortRec) : (s.setPort p r).episodes = s.episodes := rfl
@[simp] theorem State.setPort_disc (p : Nat) (r : PortRec) : (s.setPort p r).disc = s.disc := rfl
@[simp] theorem State.setPort_tim (p : Nat) (r : PortRec) : (s.setPort p r).tim = s.tim := rfl
@[simp] theorem State.setPort_syn (p : Nat) (r : PortRec) : (s.setPort p r).syn = s.syn := rfl
@[simp] theorem State.setPort_outs (p : Nat) (r : PortRec) : (s.setPort p r).outs = s.outs := rfl
@[simp] theorem State.setPort_gnss (p : Nat) (r : PortRec) : (s.setPort p r).gnss = s.gnss := rfl
@[simp] theorem State.setPort_partnerKcv (p : Nat) (r : PortRec) : (s.setPort p r).partnerKcv = s.partnerKcv := rfl
@[simp] theorem State.setPort_clt (p : Nat) (r : PortRec) : (s.setPort p r).clt = s.clt := rfl
@[simp] theorem State.setPort_ports (p : Nat) (r : PortRec) : (s.setPort p r).ports = aput s.ports p r := rfl
@[simp] theorem State.setPort_insts (p : Nat) (r : PortRec) : (s.setPort p r).insts = s.insts := rfl
@[simp] theorem State.setPort_heldGrants (p : Nat) (r : PortRec) : (s.setPort p r).heldGrants = s.heldGrants := rfl
@[simp] theorem State.setPort_dumpq (p : Nat) (r : PortRec) : (s.setPort p r).dumpq = s.dumpq := rfl
@[simp] theorem State.setPort_parity (p : Nat) (r : PortRec) : (s.setPort p r).parity = s.parity := rfl
@[simp] theorem State.setPort_pending (p : Nat) (r : PortRec) : (s.setPort p r).pending = s.pending := rfl

/-! ### setInst -/

@[simp] theorem State.setInst_regs (k : Nat) (r : InstRec) : (s.setInst k r).regs = s.regs := rfl
@[simp] theorem State.setInst_vars (k : Nat) (r : InstRec) : (s.setInst k r).vars = s.vars := rfl
@[simp] theorem State.setInst_timers (k : Nat) (r : InstRec) : (s.setInst k r).timers = s.timers := rfl
@[simp] theorem State.setInst_tc (k : Nat) (r : InstRec) : (s.setInst k r).tc = s.tc := rfl
@[simp] theorem State.setInst_units (k : Nat) (r : InstRec) : (s.setInst k r).units = s.units := rfl
@[simp] theorem State.setInst_log (k : Nat) (r : InstRec) : (s.setInst k r).log = s.log := rfl
@[simp] theorem State.setInst_evtq (k : Nat) (r : InstRec) : (s.setInst k r).evtq = s.evtq := rfl
@[simp] theorem State.setInst_pmc (k : Nat) (r : InstRec) : (s.setInst k r).pmc = s.pmc := rfl
@[simp] theorem State.setInst_pf (k : Nat) (r : InstRec) : (s.setInst k r).pf = s.pf := rfl
@[simp] theorem State.setInst_hif (k : Nat) (r : InstRec) : (s.setInst k r).hif = s.hif := rfl
@[simp] theorem State.setInst_roles (k : Nat) (r : InstRec) : (s.setInst k r).roles = s.roles := rfl
@[simp] theorem State.setInst_keys (k : Nat) (r : InstRec) : (s.setInst k r).keys = s.keys := rfl
@[simp] theorem State.setInst_keeper (k : Nat) (r : InstRec) : (s.setInst k r).keeper = s.keeper := rfl
@[simp] theorem State.setInst_boot (k : Nat) (r : InstRec) : (s.setInst k r).boot = s.boot := rfl
@[simp] theorem State.setInst_shadow (k : Nat) (r : InstRec) : (s.setInst k r).shadow = s.shadow := rfl
@[simp] theorem State.setInst_shadowKeys (k : Nat) (r : InstRec) : (s.setInst k r).shadowKeys = s.shadowKeys := rfl
@[simp] theorem State.setInst_mem (k : Nat) (r : InstRec) : (s.setInst k r).mem = s.mem := rfl
@[simp] theorem State.setInst_out (k : Nat) (r : InstRec) : (s.setInst k r).out = s.out := rfl
@[simp] theorem State.setInst_free (k : Nat) (r : InstRec) : (s.setInst k r).free = s.free := rfl
@[simp] theorem State.setInst_twin (k : Nat) (r : InstRec) : (s.setInst k r).twin = s.twin := rfl
@[simp] theorem State.setInst_lanes (k : Nat) (r : InstRec) : (s.setInst k r).lanes = s.lanes := rfl
@[simp] theorem State.setInst_episodes (k : Nat) (r : InstRec) : (s.setInst k r).episodes = s.episodes := rfl
@[simp] theorem State.setInst_disc (k : Nat) (r : InstRec) : (s.setInst k r).disc = s.disc := rfl
@[simp] theorem State.setInst_tim (k : Nat) (r : InstRec) : (s.setInst k r).tim = s.tim := rfl
@[simp] theorem State.setInst_syn (k : Nat) (r : InstRec) : (s.setInst k r).syn = s.syn := rfl
@[simp] theorem State.setInst_outs (k : Nat) (r : InstRec) : (s.setInst k r).outs = s.outs := rfl
@[simp] theorem State.setInst_gnss (k : Nat) (r : InstRec) : (s.setInst k r).gnss = s.gnss := rfl
@[simp] theorem State.setInst_partnerKcv (k : Nat) (r : InstRec) : (s.setInst k r).partnerKcv = s.partnerKcv := rfl
@[simp] theorem State.setInst_clt (k : Nat) (r : InstRec) : (s.setInst k r).clt = s.clt := rfl
@[simp] theorem State.setInst_ports (k : Nat) (r : InstRec) : (s.setInst k r).ports = s.ports := rfl
@[simp] theorem State.setInst_insts (k : Nat) (r : InstRec) : (s.setInst k r).insts = aput s.insts k r := rfl
@[simp] theorem State.setInst_heldGrants (k : Nat) (r : InstRec) : (s.setInst k r).heldGrants = s.heldGrants := rfl
@[simp] theorem State.setInst_dumpq (k : Nat) (r : InstRec) : (s.setInst k r).dumpq = s.dumpq := rfl
@[simp] theorem State.setInst_parity (k : Nat) (r : InstRec) : (s.setInst k r).parity = s.parity := rfl
@[simp] theorem State.setInst_pending (k : Nat) (r : InstRec) : (s.setInst k r).pending = s.pending := rfl

/-! ### pfTrigger -/

@[simp] theorem State.pfTrigger_regs (x : PfTrig) : (s.pfTrigger x).regs = s.regs := rfl
@[simp] theorem State.pfTrigger_vars (x : PfTrig) : (s.pfTrigger x).vars = s.vars := rfl
@[simp] theorem State.pfTrigger_timers (x : PfTrig) : (s.pfTrigger x).timers = s.timers := rfl
@[simp] theorem State.pfTrigger_tc (x : PfTrig) : (s.pfTrigger x).tc = s.tc := rfl
@[simp] theorem State.pfTrigger_units (x : PfTrig) : (s.pfTrigger x).units = s.units := rfl
@[simp] theorem State.pfTrigger_log (x : PfTrig) : (s.pfTrigger x).log = s.log := rfl
@[simp] theorem State.pfTrigger_evtq (x : PfTrig) : (s.pfTrigger x).evtq = s.evtq := rfl
@[simp] theorem State.pfTrigger_pmc (x : PfTrig) : (s.pfTrigger x).pmc = s.pmc := rfl
@[simp] theorem State.pfTrigger_pf (x : PfTrig) : (s.pfTrigger x).pf = { s.pf with trigs := s.pf.trigs ++ [{ x with stepped := decide (s.var .stepEdge = (s.tc.edges : Int) + 1) }] } := rfl
@[simp] theorem State.pfTrigger_hif (x : PfTrig) : (s.pfTrigger x).hif = s.hif := rfl
@[simp] theorem State.pfTrigger_roles (x : PfTrig) : (s.pfTrigger x).roles = s.roles := rfl
@[simp] theorem State.pfTrigger_keys (x : PfTrig) : (s.pfTrigger x).keys = s.keys := rfl
@[simp] theorem State.pfTrigger_keeper (x : PfTrig) : (s.pfTrigger x).keeper = s.keeper := rfl
@[simp] theorem State.pfTrigger_boot (x : PfTrig) : (s.pfTrigger x).boot = s.boot := rfl
@[simp] theorem State.pfTrigger_shadow (x : PfTrig) : (s.pfTrigger x).shadow = s.shadow := rfl
@[simp] theorem State.pfTrigger_shadowKeys (x : PfTrig) : (s.pfTrigger x).shadowKeys = s.shadowKeys := rfl
@[simp] theorem State.pfTrigger_mem (x : PfTrig) : (s.pfTrigger x).mem = s.mem := rfl
@[simp] theorem State.pfTrigger_out (x : PfTrig) : (s.pfTrigger x).out = s.out := rfl
@[simp] theorem State.pfTrigger_free (x : PfTrig) : (s.pfTrigger x).free = s.free := rfl
@[simp] theorem State.pfTrigger_twin (x : PfTrig) : (s.pfTrigger x).twin = s.twin := rfl
@[simp] theorem State.pfTrigger_lanes (x : PfTrig) : (s.pfTrigger x).lanes = s.lanes := rfl
@[simp] theorem State.pfTrigger_episodes (x : PfTrig) : (s.pfTrigger x).episodes = s.episodes := rfl
@[simp] theorem State.pfTrigger_disc (x : PfTrig) : (s.pfTrigger x).disc = s.disc := rfl
@[simp] theorem State.pfTrigger_tim (x : PfTrig) : (s.pfTrigger x).tim = s.tim := rfl
@[simp] theorem State.pfTrigger_syn (x : PfTrig) : (s.pfTrigger x).syn = s.syn := rfl
@[simp] theorem State.pfTrigger_outs (x : PfTrig) : (s.pfTrigger x).outs = s.outs := rfl
@[simp] theorem State.pfTrigger_gnss (x : PfTrig) : (s.pfTrigger x).gnss = s.gnss := rfl
@[simp] theorem State.pfTrigger_partnerKcv (x : PfTrig) : (s.pfTrigger x).partnerKcv = s.partnerKcv := rfl
@[simp] theorem State.pfTrigger_clt (x : PfTrig) : (s.pfTrigger x).clt = s.clt := rfl
@[simp] theorem State.pfTrigger_ports (x : PfTrig) : (s.pfTrigger x).ports = s.ports := rfl
@[simp] theorem State.pfTrigger_insts (x : PfTrig) : (s.pfTrigger x).insts = s.insts := rfl
@[simp] theorem State.pfTrigger_heldGrants (x : PfTrig) : (s.pfTrigger x).heldGrants = s.heldGrants := rfl
@[simp] theorem State.pfTrigger_dumpq (x : PfTrig) : (s.pfTrigger x).dumpq = s.dumpq := rfl
@[simp] theorem State.pfTrigger_parity (x : PfTrig) : (s.pfTrigger x).parity = s.parity := rfl
@[simp] theorem State.pfTrigger_pending (x : PfTrig) : (s.pfTrigger x).pending = s.pending := rfl

/-! ### returns -/

@[simp] theorem State.returns_regs (v : Nat) : (s.returns v).regs = s.regs := rfl
@[simp] theorem State.returns_vars (v : Nat) : (s.returns v).vars = s.vars := rfl
@[simp] theorem State.returns_timers (v : Nat) : (s.returns v).timers = s.timers := rfl
@[simp] theorem State.returns_tc (v : Nat) : (s.returns v).tc = s.tc := rfl
@[simp] theorem State.returns_units (v : Nat) : (s.returns v).units = s.units := rfl
@[simp] theorem State.returns_log (v : Nat) : (s.returns v).log = s.log := rfl
@[simp] theorem State.returns_evtq (v : Nat) : (s.returns v).evtq = s.evtq := rfl
@[simp] theorem State.returns_pmc (v : Nat) : (s.returns v).pmc = s.pmc := rfl
@[simp] theorem State.returns_pf (v : Nat) : (s.returns v).pf = s.pf := rfl
@[simp] theorem State.returns_hif (v : Nat) : (s.returns v).hif = { s.hif with rdata := v } := rfl
@[simp] theorem State.returns_roles (v : Nat) : (s.returns v).roles = s.roles := rfl
@[simp] theorem State.returns_keys (v : Nat) : (s.returns v).keys = s.keys := rfl
@[simp] theorem State.returns_keeper (v : Nat) : (s.returns v).keeper = s.keeper := rfl
@[simp] theorem State.returns_boot (v : Nat) : (s.returns v).boot = s.boot := rfl
@[simp] theorem State.returns_shadow (v : Nat) : (s.returns v).shadow = s.shadow := rfl
@[simp] theorem State.returns_shadowKeys (v : Nat) : (s.returns v).shadowKeys = s.shadowKeys := rfl
@[simp] theorem State.returns_mem (v : Nat) : (s.returns v).mem = s.mem := rfl
@[simp] theorem State.returns_out (v : Nat) : (s.returns v).out = s.out := rfl
@[simp] theorem State.returns_free (v : Nat) : (s.returns v).free = s.free := rfl
@[simp] theorem State.returns_twin (v : Nat) : (s.returns v).twin = s.twin := rfl
@[simp] theorem State.returns_lanes (v : Nat) : (s.returns v).lanes = s.lanes := rfl
@[simp] theorem State.returns_episodes (v : Nat) : (s.returns v).episodes = s.episodes := rfl
@[simp] theorem State.returns_disc (v : Nat) : (s.returns v).disc = s.disc := rfl
@[simp] theorem State.returns_tim (v : Nat) : (s.returns v).tim = s.tim := rfl
@[simp] theorem State.returns_syn (v : Nat) : (s.returns v).syn = s.syn := rfl
@[simp] theorem State.returns_outs (v : Nat) : (s.returns v).outs = s.outs := rfl
@[simp] theorem State.returns_gnss (v : Nat) : (s.returns v).gnss = s.gnss := rfl
@[simp] theorem State.returns_partnerKcv (v : Nat) : (s.returns v).partnerKcv = s.partnerKcv := rfl
@[simp] theorem State.returns_clt (v : Nat) : (s.returns v).clt = s.clt := rfl
@[simp] theorem State.returns_ports (v : Nat) : (s.returns v).ports = s.ports := rfl
@[simp] theorem State.returns_insts (v : Nat) : (s.returns v).insts = s.insts := rfl
@[simp] theorem State.returns_heldGrants (v : Nat) : (s.returns v).heldGrants = s.heldGrants := rfl
@[simp] theorem State.returns_dumpq (v : Nat) : (s.returns v).dumpq = s.dumpq := rfl
@[simp] theorem State.returns_parity (v : Nat) : (s.returns v).parity = s.parity := rfl
@[simp] theorem State.returns_pending (v : Nat) : (s.returns v).pending = s.pending := rfl

end Sys2Proof.Machine
end

