-- ==== Sys2Proof/Laws/Fields.lean ====
section
/-! SUPPORT. Reading after an update: a map at the key set and at another, a register field, a variable, a deadline and a unit's record after
each operation that sets one field of State. -/

namespace Sys2Proof

theorem aget_aput_same {κ α : Type} [DecidableEq κ] (m : AMap κ α) (k : κ) (v : α) : aget (aput m k v) k = some v := by
  induction m with
  | nil => simp [aput, aget]
  | cons c m ih =>
    unfold aput
    split
    · simp [aget, *]
    · simp [aget, *]

theorem aget_aput_ne {κ α : Type} [DecidableEq κ] (m : AMap κ α) {k j : κ} (v : α) (h : j ≠ k) : aget (aput m k v) j = aget m j := by
  induction m with
  | nil => simp [aput, aget, h.symm]
  | cons c m ih =>
    unfold aput
    split
    · next e => subst e; simp [aget, h.symm]
    · simp [aget, ih]

theorem aget_adel_same {κ α : Type} [DecidableEq κ] (m : AMap κ α) (k : κ) : aget (adel m k) k = none := by
  induction m with
  | nil => rfl
  | cons c m ih =>
    unfold adel
    split
    · exact ih
    · simp [aget, *]

theorem aget_adel_ne {κ α : Type} [DecidableEq κ] (m : AMap κ α) {k j : κ} (h : j ≠ k) : aget (adel m k) j = aget m j := by
  induction m with
  | nil => rfl
  | cons c m ih =>
    unfold adel
    split
    · next e => subst e; simp [aget, h.symm, ih]
    · simp [aget, ih]

end Sys2Proof

namespace Sys2Proof.Machine

variable (s : State)

/-- A field set holds the value, cut to its width. -/
theorem State.get_put_same (f : Fld) (v : Nat) : (s.put f v).get f = v % 2 ^ f.width := by
  simp [State.get, State.put, aget_aput_same]

/-- A field set leaves every field of another key alone. -/
theorem State.get_put_ne {f g : Fld} (v : Nat) (h : g.key ≠ f.key) : (s.put f v).get g = s.get g := by
  simp [State.get, State.put, aget_aput_ne _ _ h]

theorem State.var_setVar_same (v : Var) (x : Int) : (s.setVar v x).var v = x := by simp [State.var, State.setVar, aget_aput_same]

theorem State.var_setVar_ne {v w : Var} (x : Int) (h : w ≠ v) : (s.setVar v x).var w = s.var w := by
  simp [State.var, State.setVar, aget_aput_ne _ _ h]

theorem State.timer_setTimer_same (m : Tm) (d : Nat) : (s.setTimer m d).timer m = some d := by
  simp [State.timer, State.setTimer, aget_aput_same]

theorem State.timer_setTimer_ne {m n : Tm} (d : Nat) (h : n ≠ m) : (s.setTimer m d).timer n = s.timer n := by
  simp [State.timer, State.setTimer, aget_aput_ne _ _ h]

theorem State.timer_stopTimer_same (m : Tm) : (s.stopTimer m).timer m = none := by simp [State.timer, State.stopTimer, aget_adel_same]

theorem State.timer_stopTimer_ne {m n : Tm} (h : n ≠ m) : (s.stopTimer m).timer n = s.timer n := by
  simp [State.timer, State.stopTimer, aget_adel_ne _ h]

theorem State.timer_arm_same (m : Tm) (ns : Nat) : (s.arm m ns).timer m = some (s.runNs + ns) := State.timer_setTimer_same _ _ _

theorem State.unit_setUnit_same (n : Nat) (r : UnitRec) : (s.setUnit n r).unit n = r := by simp [State.unit, State.setUnit, aget_aput_same]

theorem State.unit_setUnit_ne {n m : Nat} (r : UnitRec) (h : m ≠ n) : (s.setUnit n r).unit m = s.unit m := by
  simp [State.unit, State.setUnit, aget_aput_ne _ _ h]

theorem State.lane_setLane_same (n : Nat) (r : LaneRec) : (s.setLane n r).lane n = r := by simp [State.lane, State.setLane, aget_aput_same]

theorem State.lane_setLane_ne {n m : Nat} (r : LaneRec) (h : m ≠ n) : (s.setLane n r).lane m = s.lane m := by
  simp [State.lane, State.setLane, aget_aput_ne _ _ h]

theorem State.grp_setGrp_same (n : Nat) (r : SynRec) : (s.setGrp n r).grp n = r := by simp [State.grp, State.setGrp, aget_aput_same]

theorem State.grp_setGrp_ne {n m : Nat} (r : SynRec) (h : m ≠ n) : (s.setGrp n r).grp m = s.grp m := by
  simp [State.grp, State.setGrp, aget_aput_ne _ _ h]

theorem State.outp_setOut_same (n : Nat) (r : OutRec) : (s.setOut n r).outp n = r := by simp [State.outp, State.setOut, aget_aput_same]

theorem State.outp_setOut_ne {n m : Nat} (r : OutRec) (h : m ≠ n) : (s.setOut n r).outp m = s.outp m := by
  simp [State.outp, State.setOut, aget_aput_ne _ _ h]

theorem State.port_setPort_same (n : Nat) (r : PortRec) : (s.setPort n r).port n = r := by simp [State.port, State.setPort, aget_aput_same]

theorem State.port_setPort_ne {n m : Nat} (r : PortRec) (h : m ≠ n) : (s.setPort n r).port m = s.port m := by
  simp [State.port, State.setPort, aget_aput_ne _ _ h]

theorem State.inst_setInst_same (n : Nat) (r : InstRec) : (s.setInst n r).inst n = r := by simp [State.inst, State.setInst, aget_aput_same]

theorem State.inst_setInst_ne {n m : Nat} (r : InstRec) (h : m ≠ n) : (s.setInst n r).inst m = s.inst m := by
  simp [State.inst, State.setInst, aget_aput_ne _ _ h]

theorem State.heat_setHeat_same (n : Nat) (r : HeatRec) : (s.setHeat n r).heat n = r := by simp [State.heat, State.setHeat, aget_aput_same]

theorem State.heat_setHeat_ne {n m : Nat} (r : HeatRec) (h : m ≠ n) : (s.setHeat n r).heat m = s.heat m := by
  simp [State.heat, State.setHeat, aget_aput_ne _ _ h]

theorem State.chan_setChan_same (n : Nat) (r : ChanRec) : (s.setChan n r).chan n = r := by simp [State.chan, State.setChan, aget_aput_same]

theorem State.chan_setChan_ne {n m : Nat} (r : ChanRec) (h : m ≠ n) : (s.setChan n r).chan m = s.chan m := by
  simp [State.chan, State.setChan, aget_aput_ne _ _ h]

@[simp] theorem State.get_setVar (v : Var) (x : Int) (z : Fld) : (s.setVar v x).get z = s.get z := rfl
@[simp] theorem State.get_setTimer (m : Tm) (d : Nat) (z : Fld) : (s.setTimer m d).get z = s.get z := rfl
@[simp] theorem State.get_stopTimer (m : Tm) (z : Fld) : (s.stopTimer m).get z = s.get z := rfl
@[simp] theorem State.get_dmaWrite (b : Nat) (bs : List Byte) (z : Fld) : (s.dmaWrite b bs).get z = s.get z := rfl
@[simp] theorem State.get_setUnit (h : Nat) (u : UnitRec) (z : Fld) : (s.setUnit h u).get z = s.get z := rfl
@[simp] theorem State.get_setLane (n : Nat) (r : LaneRec) (z : Fld) : (s.setLane n r).get z = s.get z := rfl
@[simp] theorem State.get_setGrp (g : Nat) (r : SynRec) (z : Fld) : (s.setGrp g r).get z = s.get z := rfl
@[simp] theorem State.get_setOut (i : Nat) (r : OutRec) (z : Fld) : (s.setOut i r).get z = s.get z := rfl
@[simp] theorem State.get_setHeat (k : Nat) (h : HeatRec) (z : Fld) : (s.setHeat k h).get z = s.get z := rfl
@[simp] theorem State.get_setChan (n : Nat) (r : ChanRec) (z : Fld) : (s.setChan n r).get z = s.get z := rfl
@[simp] theorem State.get_setPort (p : Nat) (r : PortRec) (z : Fld) : (s.setPort p r).get z = s.get z := rfl
@[simp] theorem State.get_setInst (k : Nat) (r : InstRec) (z : Fld) : (s.setInst k r).get z = s.get z := rfl
@[simp] theorem State.get_pfTrigger (x : PfTrig) (z : Fld) : (s.pfTrigger x).get z = s.get z := rfl
@[simp] theorem State.get_returns (v : Nat) (z : Fld) : (s.returns v).get z = s.get z := rfl
@[simp] theorem State.var_put (f : Fld) (v : Nat) (z : Var) : (s.put f v).var z = s.var z := rfl
@[simp] theorem State.var_setTimer (m : Tm) (d : Nat) (z : Var) : (s.setTimer m d).var z = s.var z := rfl
@[simp] theorem State.var_stopTimer (m : Tm) (z : Var) : (s.stopTimer m).var z = s.var z := rfl
@[simp] theorem State.var_dmaWrite (b : Nat) (bs : List Byte) (z : Var) : (s.dmaWrite b bs).var z = s.var z := rfl
@[simp] theorem State.var_setUnit (h : Nat) (u : UnitRec) (z : Var) : (s.setUnit h u).var z = s.var z := rfl
@[simp] theorem State.var_setLane (n : Nat) (r : LaneRec) (z : Var) : (s.setLane n r).var z = s.var z := rfl
@[simp] theorem State.var_setGrp (g : Nat) (r : SynRec) (z : Var) : (s.setGrp g r).var z = s.var z := rfl
@[simp] theorem State.var_setOut (i : Nat) (r : OutRec) (z : Var) : (s.setOut i r).var z = s.var z := rfl
@[simp] theorem State.var_setHeat (k : Nat) (h : HeatRec) (z : Var) : (s.setHeat k h).var z = s.var z := rfl
@[simp] theorem State.var_setChan (n : Nat) (r : ChanRec) (z : Var) : (s.setChan n r).var z = s.var z := rfl
@[simp] theorem State.var_setPort (p : Nat) (r : PortRec) (z : Var) : (s.setPort p r).var z = s.var z := rfl
@[simp] theorem State.var_setInst (k : Nat) (r : InstRec) (z : Var) : (s.setInst k r).var z = s.var z := rfl
@[simp] theorem State.var_pfTrigger (x : PfTrig) (z : Var) : (s.pfTrigger x).var z = s.var z := rfl
@[simp] theorem State.var_returns (v : Nat) (z : Var) : (s.returns v).var z = s.var z := rfl
@[simp] theorem State.timer_put (f : Fld) (v : Nat) (z : Tm) : (s.put f v).timer z = s.timer z := rfl
@[simp] theorem State.timer_setVar (v : Var) (x : Int) (z : Tm) : (s.setVar v x).timer z = s.timer z := rfl
@[simp] theorem State.timer_dmaWrite (b : Nat) (bs : List Byte) (z : Tm) : (s.dmaWrite b bs).timer z = s.timer z := rfl
@[simp] theorem State.timer_setUnit (h : Nat) (u : UnitRec) (z : Tm) : (s.setUnit h u).timer z = s.timer z := rfl
@[simp] theorem State.timer_setLane (n : Nat) (r : LaneRec) (z : Tm) : (s.setLane n r).timer z = s.timer z := rfl
@[simp] theorem State.timer_setGrp (g : Nat) (r : SynRec) (z : Tm) : (s.setGrp g r).timer z = s.timer z := rfl
@[simp] theorem State.timer_setOut (i : Nat) (r : OutRec) (z : Tm) : (s.setOut i r).timer z = s.timer z := rfl
@[simp] theorem State.timer_setHeat (k : Nat) (h : HeatRec) (z : Tm) : (s.setHeat k h).timer z = s.timer z := rfl
@[simp] theorem State.timer_setChan (n : Nat) (r : ChanRec) (z : Tm) : (s.setChan n r).timer z = s.timer z := rfl
@[simp] theorem State.timer_setPort (p : Nat) (r : PortRec) (z : Tm) : (s.setPort p r).timer z = s.timer z := rfl
@[simp] theorem State.timer_setInst (k : Nat) (r : InstRec) (z : Tm) : (s.setInst k r).timer z = s.timer z := rfl
@[simp] theorem State.timer_pfTrigger (x : PfTrig) (z : Tm) : (s.pfTrigger x).timer z = s.timer z := rfl
@[simp] theorem State.timer_returns (v : Nat) (z : Tm) : (s.returns v).timer z = s.timer z := rfl
@[simp] theorem State.unit_put (f : Fld) (v : Nat) (z : Nat) : (s.put f v).unit z = s.unit z := rfl
@[simp] theorem State.unit_setVar (v : Var) (x : Int) (z : Nat) : (s.setVar v x).unit z = s.unit z := rfl
@[simp] theorem State.unit_setTimer (m : Tm) (d : Nat) (z : Nat) : (s.setTimer m d).unit z = s.unit z := rfl
@[simp] theorem State.unit_stopTimer (m : Tm) (z : Nat) : (s.stopTimer m).unit z = s.unit z := rfl
@[simp] theorem State.unit_dmaWrite (b : Nat) (bs : List Byte) (z : Nat) : (s.dmaWrite b bs).unit z = s.unit z := rfl
@[simp] theorem State.unit_setLane (n : Nat) (r : LaneRec) (z : Nat) : (s.setLane n r).unit z = s.unit z := rfl
@[simp] theorem State.unit_setGrp (g : Nat) (r : SynRec) (z : Nat) : (s.setGrp g r).unit z = s.unit z := rfl
@[simp] theorem State.unit_setOut (i : Nat) (r : OutRec) (z : Nat) : (s.setOut i r).unit z = s.unit z := rfl
@[simp] theorem State.unit_setHeat (k : Nat) (h : HeatRec) (z : Nat) : (s.setHeat k h).unit z = s.unit z := rfl
@[simp] theorem State.unit_setChan (n : Nat) (r : ChanRec) (z : Nat) : (s.setChan n r).unit z = s.unit z := rfl
@[simp] theorem State.unit_setPort (p : Nat) (r : PortRec) (z : Nat) : (s.setPort p r).unit z = s.unit z := rfl
@[simp] theorem State.unit_setInst (k : Nat) (r : InstRec) (z : Nat) : (s.setInst k r).unit z = s.unit z := rfl
@[simp] theorem State.unit_pfTrigger (x : PfTrig) (z : Nat) : (s.pfTrigger x).unit z = s.unit z := rfl
@[simp] theorem State.unit_returns (v : Nat) (z : Nat) : (s.returns v).unit z = s.unit z := rfl
@[simp] theorem State.lane_put (f : Fld) (v : Nat) (z : Nat) : (s.put f v).lane z = s.lane z := rfl
@[simp] theorem State.lane_setVar (v : Var) (x : Int) (z : Nat) : (s.setVar v x).lane z = s.lane z := rfl
@[simp] theorem State.lane_setTimer (m : Tm) (d : Nat) (z : Nat) : (s.setTimer m d).lane z = s.lane z := rfl
@[simp] theorem State.lane_stopTimer (m : Tm) (z : Nat) : (s.stopTimer m).lane z = s.lane z := rfl
@[simp] theorem State.lane_dmaWrite (b : Nat) (bs : List Byte) (z : Nat) : (s.dmaWrite b bs).lane z = s.lane z := rfl
@[simp] theorem State.lane_setUnit (h : Nat) (u : UnitRec) (z : Nat) : (s.setUnit h u).lane z = s.lane z := rfl
@[simp] theorem State.lane_setGrp (g : Nat) (r : SynRec) (z : Nat) : (s.setGrp g r).lane z = s.lane z := rfl
@[simp] theorem State.lane_setOut (i : Nat) (r : OutRec) (z : Nat) : (s.setOut i r).lane z = s.lane z := rfl
@[simp] theorem State.lane_setHeat (k : Nat) (h : HeatRec) (z : Nat) : (s.setHeat k h).lane z = s.lane z := rfl
@[simp] theorem State.lane_setChan (n : Nat) (r : ChanRec) (z : Nat) : (s.setChan n r).lane z = s.lane z := rfl
@[simp] theorem State.lane_setPort (p : Nat) (r : PortRec) (z : Nat) : (s.setPort p r).lane z = s.lane z := rfl
@[simp] theorem State.lane_setInst (k : Nat) (r : InstRec) (z : Nat) : (s.setInst k r).lane z = s.lane z := rfl
@[simp] theorem State.lane_pfTrigger (x : PfTrig) (z : Nat) : (s.pfTrigger x).lane z = s.lane z := rfl
@[simp] theorem State.lane_returns (v : Nat) (z : Nat) : (s.returns v).lane z = s.lane z := rfl
@[simp] theorem State.grp_put (f : Fld) (v : Nat) (z : Nat) : (s.put f v).grp z = s.grp z := rfl
@[simp] theorem State.grp_setVar (v : Var) (x : Int) (z : Nat) : (s.setVar v x).grp z = s.grp z := rfl
@[simp] theorem State.grp_setTimer (m : Tm) (d : Nat) (z : Nat) : (s.setTimer m d).grp z = s.grp z := rfl
@[simp] theorem State.grp_stopTimer (m : Tm) (z : Nat) : (s.stopTimer m).grp z = s.grp z := rfl
@[simp] theorem State.grp_dmaWrite (b : Nat) (bs : List Byte) (z : Nat) : (s.dmaWrite b bs).grp z = s.grp z := rfl
@[simp] theorem State.grp_setUnit (h : Nat) (u : UnitRec) (z : Nat) : (s.setUnit h u).grp z = s.grp z := rfl
@[simp] theorem State.grp_setLane (n : Nat) (r : LaneRec) (z : Nat) : (s.setLane n r).grp z = s.grp z := rfl
@[simp] theorem State.grp_setOut (i : Nat) (r : OutRec) (z : Nat) : (s.setOut i r).grp z = s.grp z := rfl
@[simp] theorem State.grp_setHeat (k : Nat) (h : HeatRec) (z : Nat) : (s.setHeat k h).grp z = s.grp z := rfl
@[simp] theorem State.grp_setChan (n : Nat) (r : ChanRec) (z : Nat) : (s.setChan n r).grp z = s.grp z := rfl
@[simp] theorem State.grp_setPort (p : Nat) (r : PortRec) (z : Nat) : (s.setPort p r).grp z = s.grp z := rfl
@[simp] theorem State.grp_setInst (k : Nat) (r : InstRec) (z : Nat) : (s.setInst k r).grp z = s.grp z := rfl
@[simp] theorem State.grp_pfTrigger (x : PfTrig) (z : Nat) : (s.pfTrigger x).grp z = s.grp z := rfl
@[simp] theorem State.grp_returns (v : Nat) (z : Nat) : (s.returns v).grp z = s.grp z := rfl
@[simp] theorem State.outp_put (f : Fld) (v : Nat) (z : Nat) : (s.put f v).outp z = s.outp z := rfl
@[simp] theorem State.outp_setVar (v : Var) (x : Int) (z : Nat) : (s.setVar v x).outp z = s.outp z := rfl
@[simp] theorem State.outp_setTimer (m : Tm) (d : Nat) (z : Nat) : (s.setTimer m d).outp z = s.outp z := rfl
@[simp] theorem State.outp_stopTimer (m : Tm) (z : Nat) : (s.stopTimer m).outp z = s.outp z := rfl
@[simp] theorem State.outp_dmaWrite (b : Nat) (bs : List Byte) (z : Nat) : (s.dmaWrite b bs).outp z = s.outp z := rfl
@[simp] theorem State.outp_setUnit (h : Nat) (u : UnitRec) (z : Nat) : (s.setUnit h u).outp z = s.outp z := rfl
@[simp] theorem State.outp_setLane (n : Nat) (r : LaneRec) (z : Nat) : (s.setLane n r).outp z = s.outp z := rfl
@[simp] theorem State.outp_setGrp (g : Nat) (r : SynRec) (z : Nat) : (s.setGrp g r).outp z = s.outp z := rfl
@[simp] theorem State.outp_setHeat (k : Nat) (h : HeatRec) (z : Nat) : (s.setHeat k h).outp z = s.outp z := rfl
@[simp] theorem State.outp_setChan (n : Nat) (r : ChanRec) (z : Nat) : (s.setChan n r).outp z = s.outp z := rfl
@[simp] theorem State.outp_setPort (p : Nat) (r : PortRec) (z : Nat) : (s.setPort p r).outp z = s.outp z := rfl
@[simp] theorem State.outp_setInst (k : Nat) (r : InstRec) (z : Nat) : (s.setInst k r).outp z = s.outp z := rfl
@[simp] theorem State.outp_pfTrigger (x : PfTrig) (z : Nat) : (s.pfTrigger x).outp z = s.outp z := rfl
@[simp] theorem State.outp_returns (v : Nat) (z : Nat) : (s.returns v).outp z = s.outp z := rfl
@[simp] theorem State.heat_put (f : Fld) (v : Nat) (z : Nat) : (s.put f v).heat z = s.heat z := rfl
@[simp] theorem State.heat_setVar (v : Var) (x : Int) (z : Nat) : (s.setVar v x).heat z = s.heat z := rfl
@[simp] theorem State.heat_setTimer (m : Tm) (d : Nat) (z : Nat) : (s.setTimer m d).heat z = s.heat z := rfl
@[simp] theorem State.heat_stopTimer (m : Tm) (z : Nat) : (s.stopTimer m).heat z = s.heat z := rfl
@[simp] theorem State.heat_dmaWrite (b : Nat) (bs : List Byte) (z : Nat) : (s.dmaWrite b bs).heat z = s.heat z := rfl
@[simp] theorem State.heat_setUnit (h : Nat) (u : UnitRec) (z : Nat) : (s.setUnit h u).heat z = s.heat z := rfl
@[simp] theorem State.heat_setLane (n : Nat) (r : LaneRec) (z : Nat) : (s.setLane n r).heat z = s.heat z := rfl
@[simp] theorem State.heat_setGrp (g : Nat) (r : SynRec) (z : Nat) : (s.setGrp g r).heat z = s.heat z := rfl
@[simp] theorem State.heat_setOut (i : Nat) (r : OutRec) (z : Nat) : (s.setOut i r).heat z = s.heat z := rfl
@[simp] theorem State.heat_setChan (n : Nat) (r : ChanRec) (z : Nat) : (s.setChan n r).heat z = s.heat z := rfl
@[simp] theorem State.heat_setPort (p : Nat) (r : PortRec) (z : Nat) : (s.setPort p r).heat z = s.heat z := rfl
@[simp] theorem State.heat_setInst (k : Nat) (r : InstRec) (z : Nat) : (s.setInst k r).heat z = s.heat z := rfl
@[simp] theorem State.heat_pfTrigger (x : PfTrig) (z : Nat) : (s.pfTrigger x).heat z = s.heat z := rfl
@[simp] theorem State.heat_returns (v : Nat) (z : Nat) : (s.returns v).heat z = s.heat z := rfl
@[simp] theorem State.chan_put (f : Fld) (v : Nat) (z : Nat) : (s.put f v).chan z = s.chan z := rfl
@[simp] theorem State.chan_setVar (v : Var) (x : Int) (z : Nat) : (s.setVar v x).chan z = s.chan z := rfl
@[simp] theorem State.chan_setTimer (m : Tm) (d : Nat) (z : Nat) : (s.setTimer m d).chan z = s.chan z := rfl
@[simp] theorem State.chan_stopTimer (m : Tm) (z : Nat) : (s.stopTimer m).chan z = s.chan z := rfl
@[simp] theorem State.chan_dmaWrite (b : Nat) (bs : List Byte) (z : Nat) : (s.dmaWrite b bs).chan z = s.chan z := rfl
@[simp] theorem State.chan_setUnit (h : Nat) (u : UnitRec) (z : Nat) : (s.setUnit h u).chan z = s.chan z := rfl
@[simp] theorem State.chan_setLane (n : Nat) (r : LaneRec) (z : Nat) : (s.setLane n r).chan z = s.chan z := rfl
@[simp] theorem State.chan_setGrp (g : Nat) (r : SynRec) (z : Nat) : (s.setGrp g r).chan z = s.chan z := rfl
@[simp] theorem State.chan_setOut (i : Nat) (r : OutRec) (z : Nat) : (s.setOut i r).chan z = s.chan z := rfl
@[simp] theorem State.chan_setHeat (k : Nat) (h : HeatRec) (z : Nat) : (s.setHeat k h).chan z = s.chan z := rfl
@[simp] theorem State.chan_setPort (p : Nat) (r : PortRec) (z : Nat) : (s.setPort p r).chan z = s.chan z := rfl
@[simp] theorem State.chan_setInst (k : Nat) (r : InstRec) (z : Nat) : (s.setInst k r).chan z = s.chan z := rfl
@[simp] theorem State.chan_pfTrigger (x : PfTrig) (z : Nat) : (s.pfTrigger x).chan z = s.chan z := rfl
@[simp] theorem State.chan_returns (v : Nat) (z : Nat) : (s.returns v).chan z = s.chan z := rfl
@[simp] theorem State.port_put (f : Fld) (v : Nat) (z : Nat) : (s.put f v).port z = s.port z := rfl
@[simp] theorem State.port_setVar (v : Var) (x : Int) (z : Nat) : (s.setVar v x).port z = s.port z := rfl
@[simp] theorem State.port_setTimer (m : Tm) (d : Nat) (z : Nat) : (s.setTimer m d).port z = s.port z := rfl
@[simp] theorem State.port_stopTimer (m : Tm) (z : Nat) : (s.stopTimer m).port z = s.port z := rfl
@[simp] theorem State.port_dmaWrite (b : Nat) (bs : List Byte) (z : Nat) : (s.dmaWrite b bs).port z = s.port z := rfl
@[simp] theorem State.port_setUnit (h : Nat) (u : UnitRec) (z : Nat) : (s.setUnit h u).port z = s.port z := rfl
@[simp] theorem State.port_setLane (n : Nat) (r : LaneRec) (z : Nat) : (s.setLane n r).port z = s.port z := rfl
@[simp] theorem State.port_setGrp (g : Nat) (r : SynRec) (z : Nat) : (s.setGrp g r).port z = s.port z := rfl
@[simp] theorem State.port_setOut (i : Nat) (r : OutRec) (z : Nat) : (s.setOut i r).port z = s.port z := rfl
@[simp] theorem State.port_setHeat (k : Nat) (h : HeatRec) (z : Nat) : (s.setHeat k h).port z = s.port z := rfl
@[simp] theorem State.port_setChan (n : Nat) (r : ChanRec) (z : Nat) : (s.setChan n r).port z = s.port z := rfl
@[simp] theorem State.port_setInst (k : Nat) (r : InstRec) (z : Nat) : (s.setInst k r).port z = s.port z := rfl
@[simp] theorem State.port_pfTrigger (x : PfTrig) (z : Nat) : (s.pfTrigger x).port z = s.port z := rfl
@[simp] theorem State.port_returns (v : Nat) (z : Nat) : (s.returns v).port z = s.port z := rfl
@[simp] theorem State.inst_put (f : Fld) (v : Nat) (z : Nat) : (s.put f v).inst z = s.inst z := rfl
@[simp] theorem State.inst_setVar (v : Var) (x : Int) (z : Nat) : (s.setVar v x).inst z = s.inst z := rfl
@[simp] theorem State.inst_setTimer (m : Tm) (d : Nat) (z : Nat) : (s.setTimer m d).inst z = s.inst z := rfl
@[simp] theorem State.inst_stopTimer (m : Tm) (z : Nat) : (s.stopTimer m).inst z = s.inst z := rfl
@[simp] theorem State.inst_dmaWrite (b : Nat) (bs : List Byte) (z : Nat) : (s.dmaWrite b bs).inst z = s.inst z := rfl
@[simp] theorem State.inst_setUnit (h : Nat) (u : UnitRec) (z : Nat) : (s.setUnit h u).inst z = s.inst z := rfl
@[simp] theorem State.inst_setLane (n : Nat) (r : LaneRec) (z : Nat) : (s.setLane n r).inst z = s.inst z := rfl
@[simp] theorem State.inst_setGrp (g : Nat) (r : SynRec) (z : Nat) : (s.setGrp g r).inst z = s.inst z := rfl
@[simp] theorem State.inst_setOut (i : Nat) (r : OutRec) (z : Nat) : (s.setOut i r).inst z = s.inst z := rfl
@[simp] theorem State.inst_setHeat (k : Nat) (h : HeatRec) (z : Nat) : (s.setHeat k h).inst z = s.inst z := rfl
@[simp] theorem State.inst_setChan (n : Nat) (r : ChanRec) (z : Nat) : (s.setChan n r).inst z = s.inst z := rfl
@[simp] theorem State.inst_setPort (p : Nat) (r : PortRec) (z : Nat) : (s.setPort p r).inst z = s.inst z := rfl
@[simp] theorem State.inst_pfTrigger (x : PfTrig) (z : Nat) : (s.pfTrigger x).inst z = s.inst z := rfl
@[simp] theorem State.inst_returns (v : Nat) (z : Nat) : (s.returns v).inst z = s.inst z := rfl
@[simp] theorem State.engIdx_put (f : Fld) (v : Nat) (z : Nat) : (s.put f v).engIdx z = s.engIdx z := rfl
@[simp] theorem State.engIdx_setVar (v : Var) (x : Int) (z : Nat) : (s.setVar v x).engIdx z = s.engIdx z := rfl
@[simp] theorem State.engIdx_setTimer (m : Tm) (d : Nat) (z : Nat) : (s.setTimer m d).engIdx z = s.engIdx z := rfl
@[simp] theorem State.engIdx_stopTimer (m : Tm) (z : Nat) : (s.stopTimer m).engIdx z = s.engIdx z := rfl
@[simp] theorem State.engIdx_dmaWrite (b : Nat) (bs : List Byte) (z : Nat) : (s.dmaWrite b bs).engIdx z = s.engIdx z := rfl
@[simp] theorem State.engIdx_setUnit (h : Nat) (u : UnitRec) (z : Nat) : (s.setUnit h u).engIdx z = s.engIdx z := rfl
@[simp] theorem State.engIdx_setLane (n : Nat) (r : LaneRec) (z : Nat) : (s.setLane n r).engIdx z = s.engIdx z := rfl
@[simp] theorem State.engIdx_setGrp (g : Nat) (r : SynRec) (z : Nat) : (s.setGrp g r).engIdx z = s.engIdx z := rfl
@[simp] theorem State.engIdx_setOut (i : Nat) (r : OutRec) (z : Nat) : (s.setOut i r).engIdx z = s.engIdx z := rfl
@[simp] theorem State.engIdx_setHeat (k : Nat) (h : HeatRec) (z : Nat) : (s.setHeat k h).engIdx z = s.engIdx z := rfl
@[simp] theorem State.engIdx_setChan (n : Nat) (r : ChanRec) (z : Nat) : (s.setChan n r).engIdx z = s.engIdx z := rfl
@[simp] theorem State.engIdx_setPort (p : Nat) (r : PortRec) (z : Nat) : (s.setPort p r).engIdx z = s.engIdx z := rfl
@[simp] theorem State.engIdx_setInst (k : Nat) (r : InstRec) (z : Nat) : (s.setInst k r).engIdx z = s.engIdx z := rfl
@[simp] theorem State.engIdx_pfTrigger (x : PfTrig) (z : Nat) : (s.pfTrigger x).engIdx z = s.engIdx z := rfl
@[simp] theorem State.hostIdx_put (f : Fld) (v : Nat) (z : Nat) : (s.put f v).hostIdx z = s.hostIdx z := rfl
@[simp] theorem State.hostIdx_setVar (v : Var) (x : Int) (z : Nat) : (s.setVar v x).hostIdx z = s.hostIdx z := rfl
@[simp] theorem State.hostIdx_setTimer (m : Tm) (d : Nat) (z : Nat) : (s.setTimer m d).hostIdx z = s.hostIdx z := rfl
@[simp] theorem State.hostIdx_stopTimer (m : Tm) (z : Nat) : (s.stopTimer m).hostIdx z = s.hostIdx z := rfl
@[simp] theorem State.hostIdx_dmaWrite (b : Nat) (bs : List Byte) (z : Nat) : (s.dmaWrite b bs).hostIdx z = s.hostIdx z := rfl
@[simp] theorem State.hostIdx_setUnit (h : Nat) (u : UnitRec) (z : Nat) : (s.setUnit h u).hostIdx z = s.hostIdx z := rfl
@[simp] theorem State.hostIdx_setLane (n : Nat) (r : LaneRec) (z : Nat) : (s.setLane n r).hostIdx z = s.hostIdx z := rfl
@[simp] theorem State.hostIdx_setGrp (g : Nat) (r : SynRec) (z : Nat) : (s.setGrp g r).hostIdx z = s.hostIdx z := rfl
@[simp] theorem State.hostIdx_setOut (i : Nat) (r : OutRec) (z : Nat) : (s.setOut i r).hostIdx z = s.hostIdx z := rfl
@[simp] theorem State.hostIdx_setHeat (k : Nat) (h : HeatRec) (z : Nat) : (s.setHeat k h).hostIdx z = s.hostIdx z := rfl
@[simp] theorem State.hostIdx_setChan (n : Nat) (r : ChanRec) (z : Nat) : (s.setChan n r).hostIdx z = s.hostIdx z := rfl
@[simp] theorem State.hostIdx_setPort (p : Nat) (r : PortRec) (z : Nat) : (s.setPort p r).hostIdx z = s.hostIdx z := rfl
@[simp] theorem State.hostIdx_setInst (k : Nat) (r : InstRec) (z : Nat) : (s.setInst k r).hostIdx z = s.hostIdx z := rfl
@[simp] theorem State.hostIdx_pfTrigger (x : PfTrig) (z : Nat) : (s.pfTrigger x).hostIdx z = s.hostIdx z := rfl
@[simp] theorem State.runNs_put (f : Fld) (v : Nat) : (s.put f v).runNs = s.runNs := rfl
@[simp] theorem State.runNs_setVar (v : Var) (x : Int) : (s.setVar v x).runNs = s.runNs := rfl
@[simp] theorem State.runNs_setTimer (m : Tm) (d : Nat) : (s.setTimer m d).runNs = s.runNs := rfl
@[simp] theorem State.runNs_stopTimer (m : Tm) : (s.stopTimer m).runNs = s.runNs := rfl
@[simp] theorem State.runNs_dmaWrite (b : Nat) (bs : List Byte) : (s.dmaWrite b bs).runNs = s.runNs := rfl
@[simp] theorem State.runNs_setUnit (h : Nat) (u : UnitRec) : (s.setUnit h u).runNs = s.runNs := rfl
@[simp] theorem State.runNs_setLane (n : Nat) (r : LaneRec) : (s.setLane n r).runNs = s.runNs := rfl
@[simp] theorem State.runNs_setGrp (g : Nat) (r : SynRec) : (s.setGrp g r).runNs = s.runNs := rfl
@[simp] theorem State.runNs_setOut (i : Nat) (r : OutRec) : (s.setOut i r).runNs = s.runNs := rfl
@[simp] theorem State.runNs_setHeat (k : Nat) (h : HeatRec) : (s.setHeat k h).runNs = s.runNs := rfl
@[simp] theorem State.runNs_setChan (n : Nat) (r : ChanRec) : (s.setChan n r).runNs = s.runNs := rfl
@[simp] theorem State.runNs_setPort (p : Nat) (r : PortRec) : (s.setPort p r).runNs = s.runNs := rfl
@[simp] theorem State.runNs_setInst (k : Nat) (r : InstRec) : (s.setInst k r).runNs = s.runNs := rfl
@[simp] theorem State.runNs_pfTrigger (x : PfTrig) : (s.pfTrigger x).runNs = s.runNs := rfl
@[simp] theorem State.runNs_returns (v : Nat) : (s.returns v).runNs = s.runNs := rfl
@[simp] theorem State.linear_put (f : Fld) (v : Nat) : (s.put f v).linear = s.linear := rfl
@[simp] theorem State.linear_setVar (v : Var) (x : Int) : (s.setVar v x).linear = s.linear := rfl
@[simp] theorem State.linear_setTimer (m : Tm) (d : Nat) : (s.setTimer m d).linear = s.linear := rfl
@[simp] theorem State.linear_stopTimer (m : Tm) : (s.stopTimer m).linear = s.linear := rfl
@[simp] theorem State.linear_dmaWrite (b : Nat) (bs : List Byte) : (s.dmaWrite b bs).linear = s.linear := rfl
@[simp] theorem State.linear_setUnit (h : Nat) (u : UnitRec) : (s.setUnit h u).linear = s.linear := rfl
@[simp] theorem State.linear_setLane (n : Nat) (r : LaneRec) : (s.setLane n r).linear = s.linear := rfl
@[simp] theorem State.linear_setGrp (g : Nat) (r : SynRec) : (s.setGrp g r).linear = s.linear := rfl
@[simp] theorem State.linear_setOut (i : Nat) (r : OutRec) : (s.setOut i r).linear = s.linear := rfl
@[simp] theorem State.linear_setHeat (k : Nat) (h : HeatRec) : (s.setHeat k h).linear = s.linear := rfl
@[simp] theorem State.linear_setChan (n : Nat) (r : ChanRec) : (s.setChan n r).linear = s.linear := rfl
@[simp] theorem State.linear_setPort (p : Nat) (r : PortRec) : (s.setPort p r).linear = s.linear := rfl
@[simp] theorem State.linear_setInst (k : Nat) (r : InstRec) : (s.setInst k r).linear = s.linear := rfl
@[simp] theorem State.linear_pfTrigger (x : PfTrig) : (s.pfTrigger x).linear = s.linear := rfl
@[simp] theorem State.linear_returns (v : Nat) : (s.returns v).linear = s.linear := rfl
@[simp] theorem State.at16_put (f : Fld) (v : Nat) : (s.put f v).at16 = s.at16 := rfl
@[simp] theorem State.at16_setVar (v : Var) (x : Int) : (s.setVar v x).at16 = s.at16 := rfl
@[simp] theorem State.at16_setTimer (m : Tm) (d : Nat) : (s.setTimer m d).at16 = s.at16 := rfl
@[simp] theorem State.at16_stopTimer (m : Tm) : (s.stopTimer m).at16 = s.at16 := rfl
@[simp] theorem State.at16_dmaWrite (b : Nat) (bs : List Byte) : (s.dmaWrite b bs).at16 = s.at16 := rfl
@[simp] theorem State.at16_setUnit (h : Nat) (u : UnitRec) : (s.setUnit h u).at16 = s.at16 := rfl
@[simp] theorem State.at16_setLane (n : Nat) (r : LaneRec) : (s.setLane n r).at16 = s.at16 := rfl
@[simp] theorem State.at16_setGrp (g : Nat) (r : SynRec) : (s.setGrp g r).at16 = s.at16 := rfl
@[simp] theorem State.at16_setOut (i : Nat) (r : OutRec) : (s.setOut i r).at16 = s.at16 := rfl
@[simp] theorem State.at16_setHeat (k : Nat) (h : HeatRec) : (s.setHeat k h).at16 = s.at16 := rfl
@[simp] theorem State.at16_setChan (n : Nat) (r : ChanRec) : (s.setChan n r).at16 = s.at16 := rfl
@[simp] theorem State.at16_setPort (p : Nat) (r : PortRec) : (s.setPort p r).at16 = s.at16 := rfl
@[simp] theorem State.at16_setInst (k : Nat) (r : InstRec) : (s.setInst k r).at16 = s.at16 := rfl
@[simp] theorem State.at16_pfTrigger (x : PfTrig) : (s.pfTrigger x).at16 = s.at16 := rfl
@[simp] theorem State.at16_returns (v : Nat) : (s.returns v).at16 = s.at16 := rfl

end Sys2Proof.Machine
end

