-- ==== Sys2Proof/Laws/Frame.lean ====
section
/-! SUPPORT. What logging, counting and completing leave alone: everything but the registers of `bookkeeping` and the parts of the state
that the log, the counters, the photo-finish and the rings keep for themselves; and what a ring command that is Ready does. -/

namespace Sys2Proof.Machine

variable {s t u : State}

theorem Quiet.refl (s : State) : Quiet s s := ⟨fun _ _ => rfl, fun _ _ => rfl, rfl⟩

theorem Quiet.trans (h : Quiet s t) (k : Quiet t u) : Quiet s u :=
  ⟨fun f hf => (k.regs f hf).trans (h.regs f hf), fun v hv => (k.vars v hv).trans (h.vars v hv), k.rest.trans h.rest⟩

theorem Quiet.ite {c : Prop} [Decidable c] (h : Quiet s t) (k : Quiet s u) : Quiet s (if c then t else u) := by split <;> assumption

/-- A change of the log, the queue, the counters or the photo-finish alone. -/
theorem Quiet.of (hr : t.regs = s.regs := by with_reducible rfl) (hv : t.vars = s.vars := by with_reducible rfl)
    (h : t.still = s.still := by with_reducible rfl) : Quiet s t :=
  ⟨fun f _ => by simp [State.get, hr], fun v _ => by simp [State.var, hv], h⟩

theorem put_quiet (s : State) {f : Fld} (v : Nat) (h : f.key ∈ bookkeeping) : Quiet s (s.put f v) :=
  ⟨fun _ hg => State.get_put_ne s v fun e => hg (e ▸ h), fun _ _ => rfl, rfl⟩

theorem setVar_quiet (s : State) {v : Var} (x : Int) (h : v ∈ bookVars) : Quiet s (s.setVar v x) :=
  ⟨fun _ _ => rfl, fun _ hw => State.var_setVar_ne s x fun e => hw (e ▸ h), rfl⟩

theorem logOnly_quiet (s : State) (e : LogEntry) : Quiet s (s.logOnly e) := by
  unfold State.logOnly
  extract_lets e' lost s1 s2
  have h1 : Quiet s s1 := .of
  have h2 : Quiet s s2 := h1.trans (put_quiet _ _ (by decide))
  exact .ite (((h2.trans (put_quiet _ _ (by decide))).trans (put_quiet _ _ (by decide))).trans (setVar_quiet _ _ (by decide))) h2

theorem pmcAdd_quiet (s : State) {r : Nat} (k w : Nat) (hr : r < 8) : Quiet s (s.pmcAdd r k w) := by
  have hk : (Reg.PMC_STICKY_STICKY r).key ∈ bookkeeping := by
    refine List.mem_append_right _ (List.mem_map.2 ⟨r, List.mem_range.2 hr, rfl⟩)
  unfold State.pmcAdd
  extract_lets i old was p s1 first s2
  split
  · have h2 : Quiet s s2 := (Quiet.of (t := s1)).trans (put_quiet _ _ hk)
    exact .ite (h2.trans (logOnly_quiet _ _)) h2
  · exact .of

theorem pmcFrom_quiet (s : State) {r : Nat} (ev w : Nat) (a : Attr) (n : Nat) (hr : r < 8) : Quiet s (s.pmcFrom r ev w a n) := by
  induction n with
  | zero => exact .refl s
  | succ k ih => exact .ite (ih.trans (pmcAdd_quiet _ _ _ hr)) ih

theorem pmcEvent_quiet (s : State) {r : Nat} (ev : Nat) (a : Attr) (w : Nat) (hr : r < 8) : Quiet s (s.pmcEvent r ev a w) :=
  pmcFrom_quiet s ev w a 8 hr

theorem pfTrigger_quiet (s : State) (x : PfTrig) : Quiet s (s.pfTrigger x) := .of rfl rfl rfl

theorem emitOne_quiet (s : State) (e : LogEntry) : Quiet s (s.emitOne e) := by
  unfold State.emitOne
  extract_lets s1 s2
  have h2 : Quiet s s2 := (logOnly_quiet s e).trans (pmcEvent_quiet _ _ _ _ (by omega))
  exact .ite (h2.trans (pfTrigger_quiet _ _)) h2

theorem rqLostNote_quiet (s : State) (q : Nat) : Quiet s (s.rqLostNote q) := by
  unfold State.rqLostNote
  extract_lets s1 last
  have h1 : Quiet s s1 := put_quiet _ _ (by decide)
  exact .ite ((h1.trans (setVar_quiet _ _ (by decide))).trans (emitOne_quiet _ _)) h1

theorem emit_quiet (s : State) (e : LogEntry) : Quiet s (s.emit e) := by
  unfold State.emit
  extract_lets lost s1
  exact .ite ((emitOne_quiet s e).trans (rqLostNote_quiet _ _)) (emitOne_quiet s e)

theorem change_quiet (s : State) (role hid op off old new : Nat) : Quiet s (s.change role hid op off old new) := emit_quiet _ _

/-- The state in which an event has set its sticky bit. -/
def State.stuck (s : State) (e : Ev) : State :=
  match e.sticky with
  | some (f, k) => s.putBit f k true
  | none => s

/-- Raising an event sets its sticky bit, and does nothing else but log and count. -/
theorem raise_quiet (s : State) (e : Ev) (items : List Item) (role : Nat) : Quiet (s.stuck e) (s.raise e items role) := by
  unfold State.raise
  extract_lets was s1 en
  exact .ite (emit_quiet _ _) (.refl _)

theorem countCmd_quiet (s : State) (op : Nat) (hid : Option Nat) (role : Nat) : Quiet s (s.countCmd op hid role) := by
  have h8 : ∀ r, cmdRegion op hid = some r → r < 8 := by
    intro r hr
    unfold cmdRegion at hr
    split at hr <;>
      first
      | contradiction
      | (obtain ⟨h, -, rfl⟩ := Option.map_eq_some_iff.1 hr; unfold regionOfHid; omega)
      | (have := Option.some.inj hr; split at this <;> omega)
      | (have := Option.some.inj hr; omega)
  unfold State.countCmd
  split
  · next r hr => exact pmcEvent_quiet _ _ _ _ (h8 r hr)
  · exact .refl s

theorem countHeld_quiet (s : State) (c : Ctx) : Quiet s (s.countHeld c) := by
  unfold State.countHeld
  split
  · exact .ite (countCmd_quiet _ _ _ _) (.refl s)
  · exact .refl s

/-! ## Completing -/

theorem Apart.refl (s : State) : Apart s s := ⟨fun _ _ => rfl, fun _ _ => rfl, fun _ _ _ => rfl, rfl⟩

theorem Apart.trans (h : Apart s t) (k : Apart t u) : Apart s u :=
  ⟨fun f hf => (k.regs f hf).trans (h.regs f hf), fun v hv => (k.vars v hv).trans (h.vars v hv),
    fun m hm ha => (k.timers m hm ha).trans (h.timers m hm ha), k.rest.trans h.rest⟩

theorem Apart.ite {c : Prop} [Decidable c] (h : Apart s t) (k : Apart s u) : Apart s (if c then t else u) := by split <;> assumption

theorem Apart.of (hr : t.regs = s.regs := by with_reducible rfl) (hv : t.vars = s.vars := by with_reducible rfl)
    (ht : t.timers = s.timers := by with_reducible rfl) (h : t.apart = s.apart := by with_reducible rfl) : Apart s t :=
  ⟨fun f _ => by simp [State.get, hr], fun v _ => by simp [State.var, hv], fun m _ _ => by simp [State.timer, ht], h⟩

theorem Quiet.apart (h : Quiet s t) : Apart s t := by
  refine ⟨h.regs, h.vars, fun m _ _ => ?_, ?_⟩
  · have : t.timers = s.timers := by
      show t.still.timers = s.still.timers
      rw [h.rest]
    simp only [State.timer, this]
  · show t.still.apart = s.still.apart
    rw [h.rest]

theorem put_apart (s : State) {f : Fld} (v : Nat) (h : f.key ∈ bookkeeping) : Apart s (s.put f v) := (put_quiet s v h).apart

theorem stopTimer_apart (s : State) (n : Nat) : Apart s (s.stopTimer (.modTime n)) :=
  ⟨fun _ _ => rfl, fun _ _ => rfl, fun _ hm _ => State.timer_stopTimer_ne s (hm n), rfl⟩

theorem arm_apart (s : State) (n d : Nat) : Apart s (s.arm (.modTime n) d) :=
  ⟨fun _ _ => rfl, fun _ _ => rfl, fun _ hm _ => State.timer_setTimer_ne s _ (hm n), rfl⟩

theorem armAck_hif (s : State) : s.armAck.hif = s.hif := by unfold State.armAck; split <;> rfl

theorem armAck_apart (s : State) : Apart s s.armAck := by
  unfold State.armAck
  exact .ite (.refl s) ⟨fun _ _ => rfl, fun _ _ => rfl, fun _ _ ha => State.timer_setTimer_ne s _ ha, rfl⟩

theorem ringSignal_apart (s : State) (n : Nat) (urgent : Bool) : Apart s (s.ringSignal n urgent) := by
  unfold State.ringSignal
  extract_lets v k hf s1 s2
  have h1 : Apart s s1 := .of
  have h2 : Apart s s2 := .of
  exact .ite (.refl s) (.ite (h1.trans (stopTimer_apart _ _)) (.ite (h2.trans (arm_apart _ _ _)) h2))

theorem dmaWrite_apart (s : State) (a : Nat) (bs : List Byte) : Apart s (s.dmaWrite a bs) := .of rfl rfl rfl rfl

theorem advance_apart (s : State) (n : Nat) : Apart s (s.advance n) := by
  unfold State.advance
  exact .of

theorem ringWrite_apart (s : State) (n : Nat) (entry : List Byte) (urgent : Bool) : Apart s (s.ringWrite n entry urgent) := by
  unfold State.ringWrite
  extract_lets a
  have h1 : Apart s ((s.dmaWrite a entry).advance n) := (dmaWrite_apart _ _ _).trans (advance_apart _ _)
  exact (h1.trans (ringSignal_apart _ _ _)).trans (pmcEvent_quiet _ _ _ _ (by decide)).apart

theorem complete1_apart (s : State) (c : Ctx) (st d : Nat) (b : Bool) : Apart s (s.complete1 c st d b) := by
  unfold State.complete1
  extract_lets d' s1 hf s2 p hf2 s3
  have h1 : Apart s s1 := (countHeld_quiet s c).apart
  have h2 : Apart s s2 := h1.trans .of
  refine .ite (.ite (h2.trans .of) (h2.trans (ringWrite_apart _ _ _ _))) ?_
  have h3 : Apart s2 s3 := put_apart _ _ (by decide)
  have e : s3.hif = s2.hif := rfl
  exact (h2.trans h3).trans (.of (h := by simp only [State.apart, e, hf2]))

theorem endAborts_apart (s : State) (b : Bool) (fs : List InFlight) : Apart s (s.endAborts b fs) := by
  induction fs generalizing s with
  | nil => exact .refl s
  | cons e es ih => exact (complete1_apart _ _ _ _ _).trans (ih _)

/-- A completion changes the rings, the counters and the log, and no other register. -/
theorem complete_apart (s : State) (c : Ctx) (st d : Nat) (b : Bool) : Apart s (s.complete c st d b) :=
  (complete1_apart s c st d b).trans (endAborts_apart _ _ _)

/-- A journal record sent or kept changes no register but a counter of the performance monitor's. -/
theorem stateRecord_apart (s : State) (kind role result op : Nat) (body : List Int) :
    Apart s (s.stateRecord kind role result op body) := by
  unfold State.stateRecord State.sendRecord
  extract_lets seq r
  have h1 : Apart s { s with twin := { s.twin with
    stateSeq := seq, journal := (s.twin.journal ++ [r]).drop (s.twin.journal.length + 1 - 65536) } } := .of
  exact .ite ((h1.trans .of).trans (pmcEvent_quiet _ _ _ _ (by decide)).apart) h1

theorem finishCarried_apart (s : State) (c : Ctx) (o : OpInfo) (role st d : Nat) (body : List Int) :
    Apart s (s.finishCarried c o role st d body) := by
  unfold State.finishCarried
  refine .ite ?_ (complete_apart _ _ _ _ _)
  extract_lets s2 s3 hf
  have h2 : Apart s s2 := stateRecord_apart _ _ _ _ _ _
  refine .ite ?_ (h2.trans (complete_apart _ _ _ _ _))
  have h3 : Apart s s3 := h2.trans (armAck_apart _)
  have e : s2.hif = s3.hif := (armAck_hif s2).symm
  refine h3.trans (.of (h := ?_))
  simp only [State.apart, hf]
  rw [e]

theorem finishCmd_apart (s : State) (c : Ctx) (o : OpInfo) (role st d : Nat) (body : List Int) :
    Apart s (s.finishCmd c o role st d body) := by
  unfold State.finishCmd
  extract_lets s1
  have h1 : Apart s s1 := .ite (finishCarried_apart _ _ _ _ _ _ _) (complete_apart _ _ _ _ _)
  exact .ite h1 (h1.trans (countCmd_quiet _ _ _ _).apart)

theorem touch_apart (s : State) (c : Ctx) : Apart s (s.touch c) := by
  unfold State.touch
  split
  · exact .ite .of (.refl s)
  · exact .refl s

theorem fetch_apart (s : State) (c : Ctx) : Apart s (s.fetch c) := by
  unfold State.fetch
  extract_lets e hf s1
  have h1 : Apart s s1 := .ite .of (.refl s)
  exact (h1.trans (advance_apart _ _)).trans (touch_apart _ _)

/-! ## A ring command that is Ready -/

theorem sessionRole_fetch (s : State) (c : Ctx) (ring session : Nat) : (s.fetch c).sessionRole ring session = s.sessionRole ring session := by
  have h1 : ∀ t : State, (t.touch c).sessionRole ring session = t.sessionRole ring session := by
    intro t
    unfold State.touch
    split
    · next x hx =>
      split
      · unfold State.sessionRole
        by_cases e : session = c.session
        · subst e; simp [aget_aput_same, hx]
        · simp [aget_aput_ne _ _ e]
      · rfl
    · rfl
  unfold State.fetch
  extract_lets e hf s1
  rw [h1]
  have : s1.roles = s.roles := by unfold s1; split <;> rfl
  unfold State.sessionRole State.advance
  simp only [this]

theorem inflight_fetch (s : State) (c : Ctx) : (s.fetch c).hif.inflight = s.hif.inflight := by
  unfold State.fetch State.touch State.advance
  extract_lets e hf s1
  have h1 : s1.hif.inflight = s.hif.inflight := by unfold s1; split <;> rfl
  split
  · split <;> exact h1
  · exact h1

/-- A ring command that is Ready is fetched and starts with its session's role. -/
theorem runCmd_ready {s : State} {c : Ctx} {o : OpInfo} (h : Ready s c o) (body : List Int) (eff : Nat → State → Res) :
    s.runCmd c o body eff = (s.fetch c).startCmd c o body eff ∧ (s.fetch c).roleOf c = s.sessionRole c.ring c.session := by
  have hr : (s.fetch c).roleOf c = s.sessionRole c.ring c.session := by
    simp only [State.roleOf, inflight_fetch, h.fresh, sessionRole_fetch]
  have ha := fetch_apart s c
  have hp : (s.fetch c).get Reg.PWR_STATUS_PHASE = s.phase := ha.regs _ (by decide)
  have ht : (s.fetch c).get Reg.TWN_STATUS_ROLE = s.get Reg.TWN_STATUS_ROLE := ha.regs _ (by decide)
  have hf : (s.fetch c).fetchFails c o = none := by
    unfold State.fetchFails
    rw [hr, if_neg (by simp [h.role]), hp, if_neg, if_neg]
    · have : (s.fetch c).follower = s.follower := by simp [State.follower, ht]
      rw [this]; rcases h.twin with e | e <;> simp [e]
    · rcases h.phase with e | e <;> simp [e]
  refine ⟨?_, hr⟩
  unfold State.runCmd
  simp [h.live, h.fresh, hf]

/-- A Ready command whose effect ends with a status is completed with it, on the state its effect leaves. -/
theorem runCmd_ends {s : State} {c : Ctx} {o : OpInfo} (h : Ready s c o) (body : List Int) (eff : Nat → State → Res) {r : Res} {st : Nat}
    (he : eff (s.sessionRole c.ring c.session) (s.fetch c) = r) (hst : r.st = some st) :
    s.runCmd c o body eff = r.s.finishCmd c o (s.sessionRole c.ring c.session) st r.data body := by
  obtain ⟨h1, h2⟩ := runCmd_ready h body eff
  rw [h1]
  unfold State.startCmd
  rw [h2, he]
  simp [hst]

/-- A Ready command whose effect runs on leaves the state of its effect. -/
theorem runCmd_runs {s : State} {c : Ctx} {o : OpInfo} (h : Ready s c o) (body : List Int) (eff : Nat → State → Res) {r : Res}
    (he : eff (s.sessionRole c.ring c.session) (s.fetch c) = r) (hst : r.st = none) : s.runCmd c o body eff = r.s := by
  obtain ⟨h1, h2⟩ := runCmd_ready h body eff
  rw [h1]
  unfold State.startCmd
  rw [h2, he]
  simp [hst]

/-- A Ready command whose effect ends changes, beside its effect, only what fetching and completing change. -/
theorem runCmd_apart {s : State} {c : Ctx} {o : OpInfo} (h : Ready s c o) (body : List Int) (eff : Nat → State → Res) {r : Res} {st : Nat}
    (he : eff (s.sessionRole c.ring c.session) (s.fetch c) = r) (hst : r.st = some st) : Apart r.s (s.runCmd c o body eff) := by
  rw [runCmd_ends h body eff he hst]
  exact finishCmd_apart _ _ _ _ _ _ _

/-- A Ready command whose effect answers a status ends with it. -/
theorem runCmd_Ends {s : State} {c : Ctx} {o : OpInfo} (h : Ready s c o) (body : List Int) (eff : Nat → State → Res) {st d : Nat}
    {v : State → State} (hs : (eff (s.sessionRole c.ring c.session) (s.fetch c)).st = some st)
    (hd : (eff (s.sessionRole c.ring c.session) (s.fetch c)).data = d)
    (hq : Quiet (v (s.fetch c)) (eff (s.sessionRole c.ring c.session) (s.fetch c)).s) : Ends s c o st d v (s.runCmd c o body eff) :=
  ⟨_, body, hq, by rw [← hd]; exact runCmd_ends h body eff rfl hs⟩

/-- A Ready command whose effect answers none runs on. -/
theorem runCmd_Starts {s : State} {c : Ctx} {o : OpInfo} (h : Ready s c o) (body : List Int) (eff : Nat → State → Res)
    {v : State → State} (hs : (eff (s.sessionRole c.ring c.session) (s.fetch c)).st = none)
    (hq : Quiet (v (s.fetch c)) (eff (s.sessionRole c.ring c.session) (s.fetch c)).s) : Starts s c v (s.runCmd c o body eff) := by
  rw [runCmd_runs h body eff rfl hs]; exact hq

end Sys2Proof.Machine
end

