-- ==== Sys2Proof/Laws/Memory.lean ====
section
/-! SUPPORT. Host memory: every operation keeps the canonical form, a byte read after a write, and what a write leaves alone. -/

namespace Sys2Proof.Machine

theorem memory_wf_tail {c : Host.Cell} {m : List Host.Cell} (h : Memory.wf (c :: m) = true) : Memory.wf m = true := by
  cases m with
  | nil => rfl
  | cons d m => simp [Memory.wf] at h; exact h.2.2

/-- The first address of a canonical list is below every other. -/
theorem memory_wf_lt {c : Host.Cell} {m : List Host.Cell} (h : Memory.wf (c :: m) = true) : ∀ d ∈ m, c.1 < d.1 := by
  induction m generalizing c with
  | nil => simp
  | cons d m ih =>
    intro e he
    have hcd : c.1 < d.1 := by simp [Memory.wf] at h; exact h.2.1
    rcases List.mem_cons.1 he with rfl | he
    · exact hcd
    · exact hcd.trans (ih (memory_wf_tail h) e he)

theorem memory_wf_cons {c : Host.Cell} {m : List Host.Cell} (hm : Memory.wf m = true) (hb : c.2 ≠ 0) (hlt : ∀ d ∈ m, c.1 < d.1) :
    Memory.wf (c :: m) = true := by
  cases m with
  | nil => simpa [Memory.wf] using hb
  | cons d m => simpa [Memory.wf, hm, hlt d (by simp)] using hb

theorem memory_wf_byte {c : Host.Cell} {m : List Host.Cell} (h : Memory.wf (c :: m) = true) : c.2 ≠ 0 := by
  cases m with
  | nil => simpa [Memory.wf] using h
  | cons d m => simp [Memory.wf] at h; exact h.1

/-- What a write lists is what was listed and the byte written. -/
theorem mem_memPut {m : List Host.Cell} {k : Nat} {v : Byte} {d : Host.Cell} (h : d ∈ memPut m k v) : d ∈ m ∨ d.1 = k := by
  induction m with
  | nil => unfold memPut at h; split at h <;> simp_all
  | cons c m ih =>
    unfold memPut at h
    split_ifs at h <;> simp at h ⊢ <;> aesop

theorem memPut_wf {m : List Host.Cell} (h : Memory.wf m = true) (k : Nat) (v : Byte) : Memory.wf (memPut m k v) = true := by
  induction m with
  | nil =>
    unfold memPut
    split_ifs with hv
    · rfl
    · simpa [Memory.wf] using hv
  | cons c m ih =>
    obtain ⟨a, b⟩ := c
    unfold memPut
    split_ifs with h1 h2 h3 h4
    · exact h
    · refine memory_wf_cons h h2 fun d hd => ?_
      rcases List.mem_cons.1 hd with rfl | hd
      · exact h1
      · exact h1.trans (memory_wf_lt h d hd)
    · exact memory_wf_tail h
    · exact memory_wf_cons (memory_wf_tail h) h4 fun d hd => memory_wf_lt h d hd
    · refine memory_wf_cons (ih (memory_wf_tail h)) (memory_wf_byte h) fun d hd => ?_
      rcases mem_memPut hd with hd | hd
      · exact memory_wf_lt h d hd
      · simp only at hd ⊢; omega

theorem memWrite_wf {m : List Host.Cell} (h : Memory.wf m = true) (a : Nat) (bs : List Byte) : Memory.wf (memWrite m a bs) = true := by
  induction bs generalizing m a with
  | nil => exact h
  | cons b bs ih => exact ih (memPut_wf h a b) (a + 1)

theorem memGet_of_lt {m : List Host.Cell} {k : Nat} (h : ∀ d ∈ m, k < d.1) : memGet m k = 0 := by
  induction m with
  | nil => rfl
  | cons c m ih =>
    obtain ⟨a, b⟩ := c
    have := h (a, b) (by simp)
    simp only at this
    simp only [memGet, if_neg (show k ≠ a by omega)]
    exact ih fun d hd => h d (by simp [hd])

/-- A byte written reads back. -/
theorem memGet_memPut_same {m : List Host.Cell} (h : Memory.wf m = true) (k : Nat) (v : Byte) : memGet (memPut m k v) k = v := by
  induction m with
  | nil => unfold memPut; split_ifs with hv <;> simp [memGet, hv]
  | cons c m ih =>
    obtain ⟨a, b⟩ := c
    unfold memPut
    split_ifs with h1 h2 h3 h4
    · subst h2
      refine memGet_of_lt fun d hd => ?_
      rcases List.mem_cons.1 hd with rfl | hd
      · exact h1
      · exact h1.trans (memory_wf_lt h d hd)
    · simp [memGet]
    · subst h3; subst h4; exact memGet_of_lt fun d hd => memory_wf_lt h d hd
    · simp [memGet, h3]
    · simp only [memGet, if_neg h3]; exact ih (memory_wf_tail h)

/-- A write leaves every other byte alone. -/
theorem memGet_memPut_ne {m : List Host.Cell} {k j : Nat} (v : Byte) (hj : j ≠ k) : memGet (memPut m k v) j = memGet m j := by
  induction m with
  | nil => unfold memPut; split_ifs with hv <;> simp [memGet, hj]
  | cons c m ih =>
    obtain ⟨a, b⟩ := c
    unfold memPut
    split_ifs with h1 h2 h3 h4
    · rfl
    · simp [memGet, hj]
    · subst h3; simp [memGet, hj]
    · subst h3; simp [memGet, hj]
    · simp [memGet, ih]

/-- Bytes written leave every byte outside them alone. -/
theorem memGet_memWrite_out {m : List Host.Cell} {a j : Nat} {bs : List Byte} (h : j < a ∨ a + bs.length ≤ j) :
    memGet (memWrite m a bs) j = memGet m j := by
  induction bs generalizing m a with
  | nil => rfl
  | cons b bs ih =>
    simp only [List.length_cons] at h
    rw [memWrite, ih (by omega), memGet_memPut_ne b (by omega)]

/-- Bytes written read back. -/
theorem memRead_memWrite {m : List Host.Cell} (h : Memory.wf m = true) (a : Nat) (bs : List Byte) :
    memRead (memWrite m a bs) a bs.length = bs := by
  induction bs generalizing m a with
  | nil => rfl
  | cons b bs ih =>
    simp only [List.length_cons, memRead, memWrite]
    rw [ih (memPut_wf h a b) (a + 1), memGet_memWrite_out (by omega), memGet_memPut_same h]

end Sys2Proof.Machine
end

