-- ==== Sys2Proof/Laws/Keeps.lean ====
section
/-! SUPPORT. What every operation keeps: the queue of the commands that wait, and the bounds of `Sound`. One lemma for each operation, in the
files KeepsA to KeepsH; `exec` keeps both for every command. -/

set_option Elab.async false

namespace Sys2Proof.Machine

/-- The parts of a state that `Sound` and the queue rule are about. -/
abbrev State.bounded (s : State) :=
  (s.pending, s.mem, s.evtq.recs, s.dumpq, s.log.entries, s.log.keeper, s.roles.challenges, s.twin.journal, s.twin.grants)

/-- A state that has the queue of another and is sound when that one is. -/
structure Keeps (a t : State) : Prop where
  pend  : t.pending = a.pending
  sound : Sys2Proof.Sound a → Sys2Proof.Sound t

def Keeps2 {α : Type} (a : State) (e : α × State) : Prop := Keeps a e.2
def Keeps1 {α : Type} (a : State) (e : State × α) : Prop := Keeps a e.1
def KeepsR (a : State) (e : Res) : Prop := Keeps a e.s
def KeepsO (a : State) (o : Host.Outcome State Fault Refusal) : Prop := ∀ t, o = .next t → Keeps a t
def KeepsM (a : State) (o : Option State) : Prop := ∀ t, o = some t → Keeps a t

theorem keeps_refl (a : State) : Keeps a a := ⟨rfl, id⟩

/-- A state whose bounded parts are those of one that keeps, keeps. -/
theorem keeps_of {a s t : State} (h : Keeps a s) (e : t.bounded = s.bounded := by with_reducible rfl) : Keeps a t := by
  simp only [State.bounded, Prod.mk.injEq] at e
  obtain ⟨e1, e2, e3, e4, e5, e6, e7, e8, e9⟩ := e
  refine ⟨e1.trans h.pend, fun ha => ?_⟩
  have g := h.sound ha
  exact ⟨e2 ▸ g.mem, e3 ▸ g.events, e4 ▸ g.dumps, e5 ▸ g.log, e6 ▸ g.keeper, e7 ▸ g.challenges, e8 ▸ g.journal, e9 ▸ g.grants⟩

/-- A step from one that keeps to one that is sound when it is. -/
theorem keeps_to {a s t : State} (h : Keeps a s) (g : Sys2Proof.Sound s → Sys2Proof.Sound t)
    (e : t.pending = s.pending := by with_reducible rfl) : Keeps a t :=
  ⟨e.trans h.pend, fun ha => g (h.sound ha)⟩

theorem keepsO_next {a s : State} (h : Keeps a s) : KeepsO a (.next s) := fun t e => by cases e; exact h
theorem keepsM_some {a s : State} (h : Keeps a s) : KeepsM a (some s) := fun t e => by cases e; exact h
theorem keepsM_none {a : State} : KeepsM a none := fun t e => by cases e
theorem keeps2_mk {α : Type} {a s : State} {x : α} (h : Keeps a s) : Keeps2 a (x, s) := h
theorem keeps1_mk {α : Type} {a s : State} {x : α} (h : Keeps a s) : Keeps1 a (s, x) := h
theorem keeps2_snd {α : Type} {a : State} {e : α × State} (h : Keeps2 a e) : Keeps a e.2 := h
theorem keeps1_fst {α : Type} {a : State} {e : State × α} (h : Keeps1 a e) : Keeps a e.1 := h
theorem keepsR_mk {a s : State} {st : Option Nat} {d : Nat} (h : Keeps a s) : KeepsR a ⟨s, st, d⟩ := h
theorem keepsR_s {a : State} {r : Res} (h : KeepsR a r) : Keeps a r.s := h
theorem keeps_snd {α : Type} {a : State} {e : α × State} {x : α} {t : State} (h : e = (x, t)) (k : Keeps2 a e) : Keeps a t := by
  subst h; exact k
theorem keeps_fst {α : Type} {a : State} {e : State × α} {x : α} {t : State} (h : e = (t, x)) (k : Keeps1 a e) : Keeps a t := by
  subst h; exact k

theorem keeps_ite {a : State} {x y : State} {c : Prop} [Decidable c] (hx : Keeps a x) (hy : Keeps a y) :
    Keeps a (if c then x else y) := by split <;> assumption
theorem keeps_dite {a : State} {c : Prop} [Decidable c] {x : c → State} {y : ¬ c → State} (hx : ∀ h, Keeps a (x h))
    (hy : ∀ h, Keeps a (y h)) : Keeps a (if h : c then x h else y h) := by split <;> apply_assumption
theorem keepsR_ite {a : State} {x y : Res} {c : Prop} [Decidable c] (hx : KeepsR a x) (hy : KeepsR a y) :
    KeepsR a (if c then x else y) := by split <;> assumption
theorem keepsR_dite {a : State} {c : Prop} [Decidable c] {x : c → Res} {y : ¬ c → Res} (hx : ∀ h, KeepsR a (x h))
    (hy : ∀ h, KeepsR a (y h)) : KeepsR a (if h : c then x h else y h) := by split <;> apply_assumption
theorem keepsO_ite {a : State} {x y : Host.Outcome State Fault Refusal} {c : Prop} [Decidable c] (hx : KeepsO a x) (hy : KeepsO a y) :
    KeepsO a (if c then x else y) := by split <;> assumption
theorem keepsO_dite {a : State} {c : Prop} [Decidable c] {x : c → Host.Outcome State Fault Refusal} {y : ¬ c → Host.Outcome State Fault Refusal} (hx : ∀ h, KeepsO a (x h))
    (hy : ∀ h, KeepsO a (y h)) : KeepsO a (if h : c then x h else y h) := by split <;> apply_assumption
theorem keepsM_ite {a : State} {x y : Option State} {c : Prop} [Decidable c] (hx : KeepsM a x) (hy : KeepsM a y) :
    KeepsM a (if c then x else y) := by split <;> assumption
theorem keepsM_dite {a : State} {c : Prop} [Decidable c] {x : c → Option State} {y : ¬ c → Option State} (hx : ∀ h, KeepsM a (x h))
    (hy : ∀ h, KeepsM a (y h)) : KeepsM a (if h : c then x h else y h) := by split <;> apply_assumption
theorem keeps2_ite {α : Type} {a : State} {x y : α × State} {c : Prop} [Decidable c] (hx : Keeps2 a x) (hy : Keeps2 a y) :
    Keeps2 a (if c then x else y) := by split <;> assumption
theorem keeps1_ite {α : Type} {a : State} {x y : State × α} {c : Prop} [Decidable c] (hx : Keeps1 a x) (hy : Keeps1 a y) :
    Keeps1 a (if c then x else y) := by split <;> assumption

theorem keeps_foldl {a : State} {β : Type} {f : State → β → State} {l : List β} {s : State} (h : Keeps a s)
    (hf : ∀ s x, Keeps a s → Keeps a (f s x)) : Keeps a (l.foldl f s) := by
  induction l generalizing s with
  | nil => exact h
  | cons x l ih => exact ih (hf _ _ h)

/-- One journal record more, of which the last 65,536 are kept (R354). -/
theorem kept_length {α : Type} (l : List α) (r : α) : ((l ++ [r]).drop (l.length + 1 - 65536)).length ≤ 65536 := by
  rw [List.length_drop, List.length_append, List.length_singleton]; omega

theorem keepSlots_slots (n : Nat) (l : List LogEntry) : slotsOf (keepSlots n l) ≤ n := by
  induction l generalizing n with
  | nil => simp [keepSlots, slotsOf]
  | cons e l ih =>
    unfold keepSlots
    split
    · have := ih (n - e.slots); simp only [slotsOf]; omega
    · simp [slotsOf]

end Sys2Proof.Machine
end

