-- ==== Sys2Proof/Laws/KeepsA.lean ====
section
/-! SUPPORT. What operations keep: those of Ops, Operands, Flags, UnitOps, Keys, Clients, Rings. -/

set_option Elab.async false

namespace Sys2Proof.Machine

variable {a : State}

theorem State.put_keeps {x0 x1 x2} (h0 : Keeps a x0) : Keeps a (State.put x0 x1 x2) := by
  unfold State.put
  exact keeps_of h0

theorem State.putI_keeps {x0 x1 x2} (h0 : Keeps a x0) : Keeps a (State.putI x0 x1 x2) :=
  State.put_keeps h0

theorem State.putB_keeps {x0 x1 x2} (h0 : Keeps a x0) : Keeps a (State.putB x0 x1 x2) :=
  State.put_keeps h0

theorem State.bump_keeps {x0 x1} (h0 : Keeps a x0) : Keeps a (State.bump x0 x1) :=
  State.put_keeps h0

theorem State.bumpBy_keeps {x0 x1 x2} (h0 : Keeps a x0) : Keeps a (State.bumpBy x0 x1 x2) :=
  State.put_keeps h0

theorem State.bumpSat_keeps {x0 x1} (h0 : Keeps a x0) : Keeps a (State.bumpSat x0 x1) :=
  State.put_keeps h0

theorem State.put64_keeps {x0 x1 x2 x3} (h0 : Keeps a x0) : Keeps a (State.put64 x0 x1 x2 x3) :=
  State.put_keeps (State.put_keeps h0)

theorem State.putI64_keeps {x0 x1 x2 x3} (h0 : Keeps a x0) : Keeps a (State.putI64 x0 x1 x2 x3) :=
  State.put64_keeps h0

theorem State.putBit_keeps {x0 x1 x2 x3} (h0 : Keeps a x0) : Keeps a (State.putBit x0 x1 x2 x3) :=
  State.put_keeps h0

theorem State.setVar_keeps {x0 x1 x2} (h0 : Keeps a x0) : Keeps a (State.setVar x0 x1 x2) := by
  unfold State.setVar
  exact keeps_of h0

theorem State.setTimer_keeps {x0 x1 x2} (h0 : Keeps a x0) : Keeps a (State.setTimer x0 x1 x2) := by
  unfold State.setTimer
  exact keeps_of h0

theorem State.stopTimer_keeps {x0 x1} (h0 : Keeps a x0) : Keeps a (State.stopTimer x0 x1) := by
  unfold State.stopTimer
  exact keeps_of h0

theorem State.arm_keeps {x0 x1 x2} (h0 : Keeps a x0) : Keeps a (State.arm x0 x1 x2) :=
  State.setTimer_keeps h0

theorem State.doneAt_keeps {x0 x1} (h0 : Keeps a x0) : Keeps a (State.doneAt x0 x1) := by
  unfold State.doneAt
  exact State.setVar_keeps h0

theorem State.dmaWrite_keeps {x0 x1 x2} (h0 : Keeps a x0) : Keeps a (State.dmaWrite x0 x1 x2) :=
  keeps_to h0 (fun g => ⟨memWrite_wf g.mem _ _, g.events, g.dumps, g.log, g.keeper, g.challenges, g.journal, g.grants⟩) rfl

theorem State.rqGone_keeps {x0 x1} (h0 : Keeps a x0) : Keeps a (State.rqGone x0 x1) := by
  unfold State.rqGone
  exact State.setVar_keeps h0

theorem State.rqFill_keeps {x0 x1 x2} (h0 : Keeps a x0) : Keeps a (State.rqFill x0 x1 x2) :=
  State.put_keeps h0

theorem EvtQueue.push_length {q : EvtQueue} {e : LogEntry} (h : q.recs.length ≤ 256) : (q.push e).recs.length ≤ 256 := by
  unfold EvtQueue.push
  split
  · simp only [List.length_append, List.length_singleton]; omega
  · simp only [List.length_append, List.length_singleton, List.length_tail]; omega

theorem Log.push_keeper {l : Log} {e : LogEntry} {r : Bool} (h : slotsOf l.keeper ≤ 32) : slotsOf (l.push e r).keeper ≤ 32 := by
  unfold Log.push
  dsimp only
  split
  · exact keepSlots_slots _ _
  · exact h

theorem State.logOnly_keeps {x0 x1} (h0 : Keeps a x0) : Keeps a (State.logOnly x0 x1) := by
  unfold State.logOnly
  extract_lets -useContext v10 v11 v12 v13
  have hv12 : Keeps a v12 := keeps_to h0 fun g =>
    ⟨g.mem, EvtQueue.push_length g.events, g.dumps, keepSlots_slots _ _, Log.push_keeper g.keeper, g.challenges, g.journal, g.grants⟩
  have hv13 : Keeps a v13 := State.rqFill_keeps hv12
  exact keeps_ite (State.rqGone_keeps (State.bump_keeps (State.bump_keeps hv13))) hv13

theorem State.pmcAdd_keeps {x0 x1 x2 x3} (h0 : Keeps a x0) : Keeps a (State.pmcAdd x0 x1 x2 x3) := by
  unfold State.pmcAdd
  extract_lets -useContext v10 v11 v12 v13 v14 v15 v16
  have hv14 : Keeps a v14 := keeps_of h0
  have hv16 : Keeps a v16 := State.putBit_keeps hv14
  exact keeps_ite (keeps_ite (State.logOnly_keeps hv16) hv16) (keeps_of h0)

theorem State.pmcFrom_keeps {x0 x1 x2 x3 x4 x5} (h0 : Keeps a x0) : Keeps a (State.pmcFrom x0 x1 x2 x3 x4 x5) := by
  induction x5 with
  | zero => exact h0
  | succ k ih => exact keeps_ite (State.pmcAdd_keeps ih) ih

theorem State.pmcEvent_keeps {x0 x1 x2 x3 x4} (h0 : Keeps a x0) : Keeps a (State.pmcEvent x0 x1 x2 x3 x4) :=
  State.pmcFrom_keeps h0

theorem State.pfTrigger_keeps {x0 x1} (h0 : Keeps a x0) : Keeps a (State.pfTrigger x0 x1) := by
  unfold State.pfTrigger
  exact keeps_of h0

theorem State.emitOne_keeps {x0 x1} (h0 : Keeps a x0) : Keeps a (State.emitOne x0 x1) := by
  unfold State.emitOne
  extract_lets -useContext v10 v11
  have hv10 : Keeps a v10 := State.logOnly_keeps h0
  have hv11 : Keeps a v11 := State.pmcEvent_keeps hv10
  exact keeps_ite (State.pfTrigger_keeps hv11) hv11

theorem State.rqLostNote_keeps {x0 x1} (h0 : Keeps a x0) : Keeps a (State.rqLostNote x0 x1) := by
  unfold State.rqLostNote
  extract_lets -useContext v10 v11
  have hv10 : Keeps a v10 := State.putBit_keeps h0
  exact keeps_ite (State.emitOne_keeps (State.setVar_keeps hv10)) hv10

theorem State.emit_keeps {x0 x1} (h0 : Keeps a x0) : Keeps a (State.emit x0 x1) := by
  unfold State.emit
  extract_lets -useContext v10 v11
  have hv11 : Keeps a v11 := State.emitOne_keeps h0
  exact keeps_ite (State.rqLostNote_keeps hv11) hv11

theorem State.raise_keeps {x0 x1 x2 x3} (h0 : Keeps a x0) : Keeps a (State.raise x0 x1 x2 x3) := by
  unfold State.raise
  extract_lets -useContext v10 v11 v12
  have hv11 : Keeps a v11 := by
    dsimp -zeta only [v11]
    split
    · exact State.putBit_keeps h0
    · exact h0
  exact keeps_ite (State.emit_keeps hv11) hv11

theorem State.change_keeps {x0 x1 x2 x3 x4 x5 x6} (h0 : Keeps a x0) : Keeps a (State.change x0 x1 x2 x3 x4 x5 x6) := by
  unfold State.change
  extract_lets -useContext v10
  exact State.emit_keeps h0

theorem State.writeRefused_keeps {x0 x1 x2 x3 x4 x5} (h0 : Keeps a x0) : Keeps a (State.writeRefused x0 x1 x2 x3 x4 x5) := by
  unfold State.writeRefused
  extract_lets -useContext v10
  have hv10 : Keeps a v10 := State.put_keeps h0
  exact State.emit_keeps hv10

theorem State.advance_keeps {x0 x1} (h0 : Keeps a x0) : Keeps a (State.advance x0 x1) := by
  unfold State.advance
  exact keeps_of h0

theorem State.ringSignal_keeps {x0 x1 x2} (h0 : Keeps a x0) : Keeps a (State.ringSignal x0 x1 x2) := by
  unfold State.ringSignal
  extract_lets -useContext v10 v11 v12 v13 v14
  have hv13 : Keeps a v13 := keeps_of h0
  have hv14 : Keeps a v14 := keeps_of h0
  exact keeps_ite h0 (keeps_ite (State.stopTimer_keeps hv13) (keeps_ite (State.arm_keeps hv14) hv14))

theorem State.ringWrite_keeps {x0 x1 x2 x3} (h0 : Keeps a x0) : Keeps a (State.ringWrite x0 x1 x2 x3) := by
  unfold State.ringWrite
  extract_lets -useContext v10
  exact State.pmcEvent_keeps (State.ringSignal_keeps (State.advance_keeps (State.dmaWrite_keeps h0)))

theorem State.countCmd_keeps {x0 x1 x2 x3} (h0 : Keeps a x0) : Keeps a (State.countCmd x0 x1 x2 x3) := by
  unfold State.countCmd
  split
  · exact State.pmcEvent_keeps h0
  · exact h0

theorem State.countHeld_keeps {x0 x1} (h0 : Keeps a x0) : Keeps a (State.countHeld x0 x1) := by
  unfold State.countHeld
  split
  · exact keeps_ite (State.countCmd_keeps h0) h0
  · exact h0

theorem State.complete1_keeps {x0 x1 x2 x3 x4} (h0 : Keeps a x0) : Keeps a (State.complete1 x0 x1 x2 x3 x4) := by
  unfold State.complete1
  extract_lets -useContext v10 v11 v12 v13 v14 v15 v16
  have hv11 : Keeps a v11 := State.countHeld_keeps h0
  have hv13 : Keeps a v13 := keeps_of hv11
  have hv16 : Keeps a v16 := State.bump_keeps hv13
  exact keeps_ite (keeps_ite (keeps_of hv13) (State.ringWrite_keeps hv13)) (keeps_of hv16)

theorem State.endAborts_keeps {x0 x1 x2} (h0 : Keeps a x0) : Keeps a (State.endAborts x0 x1 x2) := by
  induction x2 generalizing x0 with
  | nil => exact h0
  | cons e es ih => exact ih (State.complete1_keeps h0)

theorem State.complete_keeps {x0 x1 x2 x3 x4} (h0 : Keeps a x0) : Keeps a (State.complete x0 x1 x2 x3 x4) := by
  unfold State.complete
  extract_lets -useContext v10
  exact State.endAborts_keeps (State.complete1_keeps h0)

theorem State.touch_keeps {x0 x1} (h0 : Keeps a x0) : Keeps a (State.touch x0 x1) := by
  unfold State.touch
  split
  · exact keeps_ite (keeps_of h0) h0
  · exact h0

theorem State.msi_keeps {x0 x1} (h0 : Keeps a x0) : Keeps a (State.msi x0 x1) := by
  unfold State.msi
  exact keeps_ite (keeps_of h0) (keeps_of h0)

theorem State.raiseHif_keeps {x0 x1 x2} (h0 : Keeps a x0) : Keeps a (State.raiseHif x0 x1 x2) := by
  unfold State.raiseHif
  extract_lets -useContext v10 v11 v12
  have hv12 : Keeps a v12 := State.raise_keeps h0
  exact keeps_ite (State.msi_keeps hv12) hv12

theorem State.refuseRight_keeps {x0 x1 x2} (h0 : Keeps a x0) : Keeps a (State.refuseRight x0 x1 x2) := by
  unfold State.refuseRight
  extract_lets -useContext v10 v11
  have hv10 : Keeps a v10 := State.bump_keeps h0
  have hv11 : Keeps a v11 := State.raiseHif_keeps hv10
  exact State.complete_keeps hv11

theorem State.armAck_keeps {x0} (h0 : Keeps a x0) : Keeps a (State.armAck x0) :=
  keeps_ite h0 (State.arm_keeps h0)

theorem State.sendRecord_keeps {x0 x1} (h0 : Keeps a x0) : Keeps a (State.sendRecord x0 x1) := by
  unfold State.sendRecord
  exact keeps_ite (State.pmcEvent_keeps (keeps_of h0)) h0

theorem State.stateRecord_keeps {x0 x1 x2 x3 x4 x5} (h0 : Keeps a x0) : Keeps a (State.stateRecord x0 x1 x2 x3 x4 x5) := by
  unfold State.stateRecord
  refine State.sendRecord_keeps (keeps_to h0 fun g =>
    ⟨g.mem, g.events, g.dumps, g.log, g.keeper, g.challenges, ?_, g.grants⟩)
  dsimp only
  exact kept_length _ _

theorem State.finishCarried_keeps {x0 x1 x2 x3 x4 x5 x6} (h0 : Keeps a x0) : Keeps a (State.finishCarried x0 x1 x2 x3 x4 x5 x6) := by
  unfold State.finishCarried
  extract_lets -useContext v10 v11 v12
  have hv10 : Keeps a v10 := State.stateRecord_keeps h0
  have hv11 : Keeps a v11 := State.armAck_keeps hv10
  exact keeps_ite (keeps_ite (keeps_of hv11) (State.complete_keeps hv10)) (State.complete_keeps h0)

theorem State.fetch_keeps {x0 x1} (h0 : Keeps a x0) : Keeps a (State.fetch x0 x1) := by
  unfold State.fetch
  extract_lets -useContext v10 v11 v12
  have hv12 : Keeps a v12 := keeps_ite (keeps_of h0) h0
  exact State.touch_keeps (State.advance_keeps hv12)

theorem State.fetchFails_keepsM {x0 x1 x2} (h0 : Keeps a x0) : KeepsM a (State.fetchFails x0 x1 x2) :=
  keepsM_ite (keepsM_some (State.refuseRight_keeps h0)) (keepsM_ite (keepsM_some (State.complete_keeps h0)) (keepsM_ite (keepsM_some (State.complete_keeps h0)) keepsM_none))

theorem State.finishCmd_keeps {x0 x1 x2 x3 x4 x5 x6} (h0 : Keeps a x0) : Keeps a (State.finishCmd x0 x1 x2 x3 x4 x5 x6) := by
  unfold State.finishCmd
  extract_lets -useContext v10
  have hv10 : Keeps a v10 := keeps_ite (State.finishCarried_keeps h0) (State.complete_keeps h0)
  exact keeps_ite hv10 (State.countCmd_keeps hv10)

theorem State.startCmd_keeps {x0 x1 x2 x3 x4} (h0 : Keeps a x0) (h_eff : ∀ y0 y1, Keeps a y1 → KeepsR a (x4 y0 y1)) : Keeps a (State.startCmd x0 x1 x2 x3 x4) := by
  unfold State.startCmd
  extract_lets -useContext v10
  have hv10 : KeepsR a v10 := h_eff _ _ h0
  split
  · exact keepsR_s hv10
  · exact State.finishCmd_keeps (keepsR_s hv10)

theorem State.runCmd_keeps {x0 x1 x2 x3 x4} (h0 : Keeps a x0) (h_eff : ∀ y0 y1, Keeps a y1 → KeepsR a (x4 y0 y1)) : Keeps a (State.runCmd x0 x1 x2 x3 x4) := by
  unfold State.runCmd
  refine keeps_ite ?_ ?_
  · exact h0
  · refine keeps_ite ?_ ?_
    · exact State.startCmd_keeps h0 (fun _ _ h12 => (h_eff _ _ h12))
    · extract_lets -useContext v13
      have hv13 : Keeps a v13 := State.fetch_keeps h0
      split
      · rename_i t_ heq_
        have h14 : Keeps a t_ := (State.fetchFails_keepsM hv13) _ heq_
        exact h14
      · exact State.startCmd_keeps hv13 (fun _ _ h15 => (h_eff _ _ h15))

theorem State.hold_keeps {x0 x1 x2 x3 x4} (h0 : Keeps a x0) : Keeps a (State.hold x0 x1 x2 x3 x4) := by
  unfold State.hold
  exact keeps_of h0

theorem State.completeRunning_keeps {x0 x1 x2 x3 x4 x5} (h0 : Keeps a x0) : Keeps a (State.completeRunning x0 x1 x2 x3 x4 x5) := by
  unfold State.completeRunning
  split
  · exact State.complete_keeps h0
  · exact h0

theorem State.setPort_keeps {x0 x1 x2} (h0 : Keeps a x0) : Keeps a (State.setPort x0 x1 x2) := by
  unfold State.setPort
  exact keeps_of h0

theorem State.takeFree_keeps2 {x0} (h0 : Keeps a x0) : Keeps2 a (State.takeFree x0) := by
  unfold State.takeFree
  exact keeps2_mk (keeps_of h0)

theorem State.takeFreeInt_keeps2 {x0} (h0 : Keeps a x0) : Keeps2 a (State.takeFreeInt x0) := by
  unfold State.takeFreeInt
  extract_lets -useContext v10
  exact keeps2_mk (keeps2_snd (State.takeFree_keeps2 h0))

theorem State.putPart_keeps {x0 x1 x2} (h0 : Keeps a x0) : Keeps a (State.putPart x0 x1 x2) :=
  keeps_ite (State.put_keeps h0) (keeps_ite (State.put_keeps h0) h0)

theorem State.putWord_keeps {x0 x1 x2 x3} (h0 : Keeps a x0) : Keeps a (State.putWord x0 x1 x2 x3) := by
  induction x3 generalizing x0 with
  | nil => exact h0
  | cons f fs ih => exact ih (keeps_ite (State.putPart_keeps h0) h0)

theorem State.normalize_keeps {x0 x1} (h0 : Keeps a x0) : Keeps a (State.normalize x0 x1) := by
  unfold State.normalize
  extract_lets -useContext v10 v11 v12 v13 v14 v15 v16 v17
  have hv17 : Keeps a v17 := State.put_keeps h0
  exact keeps_ite (State.put64_keeps h0) (keeps_ite (State.putI64_keeps h0) (keeps_ite (State.putI64_keeps h0) (keeps_ite (State.put_keeps h0) (keeps_ite (State.put_keeps h0) (keeps_ite (keeps_ite (State.put_keeps h0) h0) (keeps_ite (State.put_keeps h0) (keeps_ite (State.put_keeps h0) (keeps_ite (keeps_ite (State.put_keeps h0) h0) (keeps_ite (State.put_keeps h0) (keeps_ite (State.put_keeps h0) (keeps_ite (State.put_keeps h0) (keeps_ite (keeps_ite h0 (State.put_keeps h0)) (keeps_ite (keeps_ite (State.put_keeps hv17) hv17) h0)))))))))))))

theorem State.writeWord_keeps {x0 x1 x2 x3 x4 x5} (h0 : Keeps a x0) : Keeps a (State.writeWord x0 x1 x2 x3 x4 x5) := by
  unfold State.writeWord
  refine keeps_ite ?_ ?_
  · exact h0
  · refine keeps_ite ?_ ?_
    · exact keeps_of h0
    · split
      · refine keeps_ite ?_ ?_
        · extract_lets -useContext v10 v11 v12 v13 v14 v15
          have hv11 : Keeps a v11 := State.putWord_keeps (State.putWord_keeps h0)
          have hv12 : Keeps a v12 := State.normalize_keeps hv11
          exact keeps_of hv12
        · exact State.normalize_keeps (State.putWord_keeps h0)
      · exact State.normalize_keeps (State.putWord_keeps h0)

theorem State.setWord_keepsR {x0 x1 x2 x3 x4 x5 x6} (h0 : Keeps a x0) : KeepsR a (State.setWord x0 x1 x2 x3 x4 x5 x6) := by
  unfold State.setWord
  refine keepsR_ite ?_ ?_
  · exact keepsR_mk h0
  · split
    · exact keepsR_mk h0
    · refine keepsR_ite ?_ ?_
      · exact keepsR_mk h0
      · refine keepsR_ite ?_ ?_
        · exact keepsR_mk h0
        · extract_lets -useContext v10 v11
          have hv11 : Keeps a v11 := State.writeWord_keeps h0
          exact keepsR_mk (State.change_keeps hv11)

theorem State.raiseFab_keeps {x0 x1 x2 x3 x4} (h0 : Keeps a x0) : Keeps a (State.raiseFab x0 x1 x2 x3 x4) := by
  unfold State.raiseFab
  extract_lets -useContext v10 v11
  have hv10 : Keeps a v10 := State.putBit_keeps h0
  exact keeps_ite (State.emit_keeps (State.setVar_keeps hv10)) hv10

theorem State.raiseGap_keeps {x0 x1 x2 x3 x4} (h0 : Keeps a x0) : Keeps a (State.raiseGap x0 x1 x2 x3 x4) := by
  unfold State.raiseGap
  extract_lets -useContext v10 v11 v12
  refine keeps_ite ?_ ?_
  · split
    · exact State.putBit_keeps h0
    · exact h0
  · exact keeps_ite h0 (State.raise_keeps (keeps_ite (State.setVar_keeps h0) h0))

theorem State.setUnit_keeps {x0 x1 x2} (h0 : Keeps a x0) : Keeps a (State.setUnit x0 x1 x2) := by
  unfold State.setUnit
  exact keeps_of h0

theorem State.unitTo_keeps {x0 x1 x2} (h0 : Keeps a x0) : Keeps a (State.unitTo x0 x1 x2) :=
  State.setUnit_keeps h0

theorem State.holdContent_keeps {x0 x1 x2} (h0 : Keeps a x0) : Keeps a (State.holdContent x0 x1 x2) := by
  unfold State.holdContent
  exact keeps_of h0

theorem State.setPair_keeps {x0 x1 x2} (h0 : Keeps a x0) : Keeps a (State.setPair x0 x1 x2) := by
  unfold State.setPair
  extract_lets -useContext v10 v11 v12
  have hv11 : Keeps a v11 := State.put_keeps h0
  have hv12 : Keeps a v12 := State.putB_keeps hv11
  exact keeps_ite hv12 (State.raise_keeps hv12)

theorem State.trainPair_keeps {x0 x1} (h0 : Keeps a x0) : Keeps a (State.trainPair x0 x1) := by
  unfold State.trainPair
  extract_lets -useContext v10
  have hv10 : Keeps a v10 := State.arm_keeps (State.setPair_keeps h0)
  exact keeps_of hv10

theorem State.startPair_keeps {x0 x1} (h0 : Keeps a x0) : Keeps a (State.startPair x0 x1) := by
  unfold State.startPair
  exact keeps_ite (State.trainPair_keeps h0) h0

theorem State.raiseKey_keeps {x0 x1 x2} (h0 : Keeps a x0) : Keeps a (State.raiseKey x0 x1 x2) := by
  unfold State.raiseKey
  exact State.raiseGap_keeps h0

theorem State.keyMismatch_keeps {x0 x1 x2} (h0 : Keeps a x0) : Keeps a (State.keyMismatch x0 x1 x2) := by
  unfold State.keyMismatch
  exact State.raiseKey_keeps (State.put_keeps h0)

theorem State.compareKey_keeps {x0 x1} (h0 : Keeps a x0) : Keeps a (State.compareKey x0 x1) := by
  unfold State.compareKey
  extract_lets -useContext v10
  exact keeps_ite h0 (State.keyMismatch_keeps h0)

theorem State.partnerTable_keeps {x0 x1} (h0 : Keeps a x0) : Keeps a (State.partnerTable x0 x1) := by
  unfold State.partnerTable
  extract_lets -useContext v10
  have hv10 : Keeps a v10 := keeps_of h0
  exact keeps_foldl hv10 fun _ _ h11 => (State.compareKey_keeps h11)

theorem State.partnerKey_keeps {x0 x1 x2} (h0 : Keeps a x0) : Keeps a (State.partnerKey x0 x1 x2) := by
  unfold State.partnerKey
  exact State.compareKey_keeps (keeps_of h0)

theorem State.sendState_keeps {x0 x1 x2 x3 x4 x5} (h0 : Keeps a x0) : Keeps a (State.sendState x0 x1 x2 x3 x4 x5) := by
  unfold State.sendState
  exact keeps_ite (State.stateRecord_keeps h0) h0

theorem State.setSlot_keeps {x0 x1 x2} (h0 : Keeps a x0) : Keeps a (State.setSlot x0 x1 x2) := by
  unfold State.setSlot
  extract_lets -useContext v10
  have hv10 : Keeps a v10 := keeps_of h0
  exact State.compareKey_keeps (State.sendState_keeps hv10)

theorem keyWork_keepsR {x0 x1} (h_0 : ∀ y0, Keeps a y0 → KeepsR a (x0 y0)) (h1 : Keeps a x1) : KeepsR a (keyWork x0 x1) := by
  unfold keyWork
  split
  · exact keepsR_mk h1
  · exact h_0 _ h1

theorem keyInstallEff_keepsR {x0 x1 x2 x3 x4 x5 x6 x7} (h7 : Keeps a x7) : KeepsR a (keyInstallEff x0 x1 x2 x3 x4 x5 x6 x7) := by
  unfold keyInstallEff
  extract_lets -useContext v11
  refine keyWork_keepsR ?_ ?_
  · intro y13 h14
    extract_lets -useContext v15 v16
    refine keepsR_ite ?_ ?_
    · exact keepsR_mk h14
    · refine keepsR_ite ?_ ?_
      · exact keepsR_mk h14
      · refine keepsR_ite ?_ ?_
        · exact keepsR_mk h14
        · clear_value v16
          split
          · exact keepsR_mk (State.raiseKey_keeps h14)
          · extract_lets -useContext v17 v18 v19
            have hv17 : Keeps a v17 := State.setSlot_keeps h14
            have hv19 : Keeps a v19 := State.change_keeps hv17
            exact keepsR_mk (State.raise_keeps hv19)
  · exact h7

theorem execKeyInstall_keepsO {x0 x1 x2 x3 x4 x5 x6} (h6 : Keeps a x6) : KeepsO a (execKeyInstall x0 x1 x2 x3 x4 x5 x6) :=
  keepsO_next (State.runCmd_keeps h6 (fun _ _ h10 => (keyInstallEff_keepsR h10)))

theorem keyEraseEff_keepsR {x0 x1 x2} (h2 : Keeps a x2) : KeepsR a (keyEraseEff x0 x1 x2) := by
  unfold keyEraseEff
  refine keyWork_keepsR ?_ ?_
  · intro y11 h12
    extract_lets -useContext v13 v14
    have hv13 : Keeps a v13 := State.setSlot_keeps h12
    have hv14 : Keeps a v14 := State.change_keeps hv13
    exact keepsR_ite (keepsR_mk h12) (keepsR_ite (keepsR_mk h12) (keepsR_mk (State.raise_keeps hv14)))
  · exact h2

theorem execKeyErase_keepsO {x0 x1 x2} (h2 : Keeps a x2) : KeepsO a (execKeyErase x0 x1 x2) :=
  keepsO_next (State.runCmd_keeps h2 (fun _ _ h10 => (keyEraseEff_keepsR h10)))

theorem State.raiseNtp_keeps {x0 x1 x2 x3} (h0 : Keeps a x0) : Keeps a (State.raiseNtp x0 x1 x2 x3) :=
  State.raiseGap_keeps h0

theorem State.mintUpdate_keeps {x0} (h0 : Keeps a x0) : Keeps a (State.mintUpdate x0) := by
  unfold State.mintUpdate
  extract_lets -useContext v10 v11 v12
  have hv12 : Keeps a v12 := State.put_keeps h0
  split
  · extract_lets -useContext v13
    have hv13 : Keeps a v13 := State.put_keeps (State.put_keeps h0)
    exact keeps_ite (State.raise_keeps hv13) hv13
  · exact keeps_ite (State.raiseNtp_keeps hv12) hv12

theorem execMkSwitch_keepsO {x0} (h0 : Keeps a x0) : KeepsO a (execMkSwitch x0) :=
  keepsO_next (State.mintUpdate_keeps h0)

theorem State.draw_keeps2 {x0 x1} (h0 : Keeps a x0) : Keeps2 a (State.draw x0 x1) := by
  unfold State.draw
  exact keeps2_mk (State.pmcEvent_keeps (keeps_of h0))

theorem State.cookies_keeps2 {x0 x1 x2 x3 x4} (h0 : Keeps a x0) : Keeps2 a (State.cookies x0 x1 x2 x3 x4) := by
  induction x4 generalizing x0 with
  | zero => exact h0
  | succ n ih =>
    unfold State.cookies
    dsimp only
    refine keeps2_mk (keeps2_snd (ih ?_))
    exact State.pmcEvent_keeps (State.bump_keeps (State.bump_keeps (keeps2_snd (State.draw_keeps2 h0))))

theorem cookieMakeEff_keepsR {x0 x1 x2 x3 x4 x5} (h5 : Keeps a x5) : KeepsR a (cookieMakeEff x0 x1 x2 x3 x4 x5) := by
  unfold cookieMakeEff
  refine keepsR_ite ?_ ?_
  · exact keepsR_mk h5
  · split
    · exact keepsR_mk h5
    · refine keepsR_ite ?_ ?_
      · exact keepsR_mk h5
      · refine keepsR_ite ?_ ?_
        · exact keepsR_mk h5
        · split
          · rename_i x_ t_ heq_
            have h10 : Keeps a t_ := keeps_snd heq_ (State.cookies_keeps2 h5)
            exact keepsR_mk (State.dmaWrite_keeps h10)

theorem execNtsCookieMake_keepsO {x0 x1 x2 x3 x4} (h4 : Keeps a x4) : KeepsO a (execNtsCookieMake x0 x1 x2 x3 x4) :=
  keepsO_next (State.runCmd_keeps h4 (fun _ _ h10 => (cookieMakeEff_keepsR h10)))

theorem State.cacheOut_keeps {x0 x1} (h0 : Keeps a x0) : Keeps a (State.cacheOut x0 x1) := by
  unfold State.cacheOut
  exact keeps_of h0

theorem State.cacheIn_keeps {x0 x1 x2} (h0 : Keeps a x0) : Keeps a (State.cacheIn x0 x1 x2) := by
  unfold State.cacheIn
  extract_lets -useContext v10 v11
  have hv10 : Keeps a v10 := by
    dsimp -zeta only [v10]
    exact keeps_ite h0 (State.cacheOut_keeps (keeps2_snd (State.takeFree_keeps2 h0)))
  exact keeps_of hv10

theorem State.putEntry_keeps {x0 x1 x2} (h0 : Keeps a x0) : Keeps a (State.putEntry x0 x1 x2) := by
  unfold State.putEntry
  extract_lets -useContext v10 v11
  have hv11 : Keeps a v11 := keeps_of h0
  exact State.put_keeps (State.cacheIn_keeps hv11)

theorem State.dropEntry_keeps {x0 x1} (h0 : Keeps a x0) : Keeps a (State.dropEntry x0 x1) := by
  unfold State.dropEntry
  extract_lets -useContext v10 v11
  have hv11 : Keeps a v11 := keeps_of h0
  exact State.put_keeps hv11

theorem State.freeBad_keeps {x0 x1} (h0 : Keeps a x0) : Keeps a (State.freeBad x0 x1) := by
  unfold State.freeBad
  exact State.raise_keeps (State.bump_keeps (State.dropEntry_keeps h0))

theorem State.readSlot_keeps2 {x0 x1} (h0 : Keeps a x0) : Keeps2 a (State.readSlot x0 x1) := by
  unfold State.readSlot
  split
  · exact keeps2_mk h0
  · exact keeps2_ite (keeps2_mk (State.freeBad_keeps h0)) (keeps2_mk h0)

theorem State.confirm_keeps2 {x0 x1 x2} (h0 : Keeps a x0) : Keeps2 a (State.confirm x0 x1 x2) := by
  induction x2 generalizing x0 with
  | nil => exact keeps2_mk h0
  | cons n ns ih =>
    unfold State.confirm
    extract_lets -useContext v10
    have hv10 : Keeps a v10 := keeps_ite (State.bump_keeps h0) (State.pmcEvent_keeps (State.bump_keeps h0))
    split
    · rename_i y11 e12
      exact ih (keeps_snd e12 (State.readSlot_keeps2 hv10))
    · rename_i y11 y12 e13
      have h14 : Keeps a y12 := keeps_snd e13 (State.readSlot_keeps2 hv10)
      exact keeps2_ite (keeps2_mk (State.cacheIn_keeps h14)) (ih (State.cacheIn_keeps h14))

theorem State.locate_keeps2 {x0 x1} (h0 : Keeps a x0) : Keeps2 a (State.locate x0 x1) := by
  unfold State.locate
  exact State.confirm_keeps2 h0

theorem State.modEntry_keeps {x0 x1 x2} (h0 : Keeps a x0) : Keeps a (State.modEntry x0 x1 x2) := by
  unfold State.modEntry
  split
  · rename_i y10 y11 y12 e13
    have h14 : Keeps a y12 := keeps_snd e13 (State.readSlot_keeps2 h0)
    exact State.putEntry_keeps h14
  · rename_i y15 y16 e17
    have h18 : Keeps a y16 := keeps_snd e17 (State.readSlot_keeps2 h0)
    exact h18

theorem State.findSlot_keeps2 {x0 x1 x2} (h0 : Keeps a x0) : Keeps2 a (State.findSlot x0 x1 x2) := by
  unfold State.findSlot
  extract_lets -useContext v10 v11 v12 v13
  have hv11 : Keeps a v11 := keeps_ite (keeps_foldl h0 fun _ _ h14 => (keeps2_snd (State.readSlot_keeps2 h14))) h0
  refine keeps2_ite ?_ ?_
  · split
    · rename_i y15 y16 y17 e18
      have h19 : Keeps a y17 := keeps_snd e18 (State.takeFree_keeps2 hv11)
      exact keeps2_mk h19
  · split
    · exact keeps2_mk (State.bump_keeps (State.dropEntry_keeps hv11))
    · exact keeps2_mk (State.raise_keeps (State.bump_keeps hv11))

theorem State.lookup_keeps2 {x0 x1} (h0 : Keeps a x0) : Keeps2 a (State.lookup x0 x1) := by
  unfold State.lookup
  exact State.locate_keeps2 (keeps_of h0)

theorem State.learn_keeps2 {x0 x1 x2} (h0 : Keeps a x0) : Keeps2 a (State.learn x0 x1 x2) := by
  unfold State.learn
  refine keeps2_ite ?_ ?_
  · split
    · rename_i y10 y11 y12 e13
      have h14 : Keeps a y12 := keeps_snd e13 (State.findSlot_keeps2 h0)
      extract_lets -useContext v15
      exact keeps2_mk (State.bump_keeps (State.putEntry_keeps h14))
    · rename_i y16 y17 e18
      have h19 : Keeps a y17 := keeps_snd e18 (State.findSlot_keeps2 h0)
      exact keeps2_mk h19
  · exact keeps2_mk h0

theorem State.lookupOrLearn_keeps2 {x0 x1 x2} (h0 : Keeps a x0) : Keeps2 a (State.lookupOrLearn x0 x1 x2) := by
  unfold State.lookupOrLearn
  refine keeps2_ite ?_ ?_
  · exact keeps2_mk h0
  · split
    · rename_i x_ t_ heq_
      have h10 : Keeps a t_ := keeps_snd heq_ (State.lookup_keeps2 h0)
      exact keeps2_mk h10
    · rename_i x_ t_ heq_
      have h11 : Keeps a t_ := keeps_snd heq_ (State.lookup_keeps2 h0)
      refine keeps2_ite ?_ ?_
      · split
        · rename_i x_ t_ heq_
          have h12 : Keeps a t_ := keeps_snd heq_ (State.findSlot_keeps2 h11)
          extract_lets -useContext v13
          exact keeps2_mk (State.bump_keeps (State.putEntry_keeps h12))
        · rename_i x_ t_ heq_
          have h14 : Keeps a t_ := keeps_snd heq_ (State.findSlot_keeps2 h11)
          exact keeps2_mk h14
      · exact keeps2_mk h11

theorem State.takePort_keeps2 {x0 x1 x2 x3} (h0 : Keeps a x0) : Keeps2 a (State.takePort x0 x1 x2 x3) := by
  unfold State.takePort
  split
  · extract_lets -useContext v10 v11
    exact keeps2_ite (keeps2_mk (keeps_of h0)) (keeps2_mk (keeps_of h0))

theorem State.takeAuth_keeps2 {x0 x1} (h0 : Keeps a x0) : Keeps2 a (State.takeAuth x0 x1) := by
  unfold State.takeAuth
  extract_lets -useContext v10 v11 v12
  exact keeps2_ite (keeps2_mk (keeps_of h0)) (keeps2_mk (keeps_of h0))

theorem State.countRefused_keeps {x0 x1 x2} (h0 : Keeps a x0) : Keeps a (State.countRefused x0 x1 x2) := by
  unfold State.countRefused
  extract_lets -useContext v10
  have hv10 : Keeps a v10 := State.bump_keeps h0
  split
  · exact State.modEntry_keeps hv10
  · exact hv10

theorem State.countShed_keeps {x0 x1 x2 x3} (h0 : Keeps a x0) : Keeps a (State.countShed x0 x1 x2 x3) := by
  unfold State.countShed
  extract_lets -useContext v10
  have hv10 : Keeps a v10 := State.pmcEvent_keeps (State.bump_keeps h0)
  split
  · exact State.modEntry_keeps hv10
  · exact hv10

theorem State.admitLate_keeps2 {x0 x1 x2 x3 x4 x5} (h0 : Keeps a x0) : Keeps2 a (State.admitLate x0 x1 x2 x3 x4 x5) := by
  unfold State.admitLate
  extract_lets -useContext v10 v11
  have hv11 : Keeps a v11 := keeps_of h0
  refine keeps2_ite ?_ ?_
  · exact keeps2_mk (State.countShed_keeps hv11)
  · split
    · rename_i x_ t_ heq_
      have h12 : Keeps a t_ := keeps_snd heq_ (keeps2_ite (keeps2_mk hv11) (State.takeAuth_keeps2 hv11))
      exact keeps2_ite (keeps2_mk (State.countShed_keeps h12)) (keeps2_mk (keeps_of h12))

theorem State.countAdmitted_keeps {x0 x1 x2} (h0 : Keeps a x0) : Keeps a (State.countAdmitted x0 x1 x2) := by
  unfold State.countAdmitted
  extract_lets -useContext v10
  have hv10 : Keeps a v10 := State.pmcEvent_keeps (State.bump_keeps h0)
  split
  · exact State.modEntry_keeps hv10
  · exact State.bump_keeps hv10

theorem State.letIn_keeps2 {x0 x1 x2 x3 x4 x5} (h0 : Keeps a x0) : Keeps2 a (State.letIn x0 x1 x2 x3 x4 x5) := by
  unfold State.letIn
  extract_lets -useContext v10 v11 v12 v13 v14
  have hv12 : Keeps a v12 := State.bump_keeps h0
  have hv14 : Keeps a v14 := by
    dsimp -zeta only [v14]
    clear_value v13
    split
    · exact State.modEntry_keeps hv12
    · exact hv12
  refine keeps2_ite ?_ ?_
  · exact keeps2_mk (State.countRefused_keeps hv14)
  · split
    · rename_i x_ t_ heq_
      have h15 : Keeps a t_ := keeps_snd heq_ (State.lookupOrLearn_keeps2 hv12)
      extract_lets -useContext v16 v17 v18 v19 v20
      have hv17 : Keeps a v17 := by
        dsimp -zeta only [v17]
        clear_value v16
        split
        · exact State.modEntry_keeps h15
        · exact h15
      have hv20 : Keeps a v20 := by
        dsimp -zeta only [v20]
        clear_value v16
        split
        · exact State.modEntry_keeps hv17
        · exact hv17
      refine keeps2_ite ?_ ?_
      · exact keeps2_mk hv20
      · refine keeps2_ite ?_ ?_
        · exact keeps2_mk (State.countRefused_keeps hv17)
        · split
          · rename_i x_ t_ heq_
            have h21 : Keeps a t_ := by
              refine keeps_snd heq_ ?_
              clear_value v16
              split
              · split
                · split
                  · exact keeps2_mk (State.putEntry_keeps hv17)
                · exact keeps2_mk hv17
              · exact keeps2_mk hv17
            refine keeps2_ite ?_ ?_
            · exact keeps2_mk (State.countShed_keeps h21)
            · split
              · rename_i x_ t_ heq_
                have h22 : Keeps a t_ := keeps_snd heq_ (State.takePort_keeps2 h21)
                refine keeps2_ite ?_ ?_
                · exact keeps2_mk (State.countShed_keeps h22)
                · refine keeps2_ite ?_ ?_
                  · exact keeps2_mk (State.countAdmitted_keeps h22)
                  · split
                    · rename_i x_ t_ heq_
                      have h23 : Keeps a t_ := keeps_snd heq_ (State.admitLate_keeps2 h22)
                      exact keeps2_mk (keeps_ite (State.countAdmitted_keeps h23) h23)

theorem State.entryAuthFail_keeps {x0 x1} (h0 : Keeps a x0) : Keeps a (State.entryAuthFail x0 x1) := by
  unfold State.entryAuthFail
  split
  · exact State.modEntry_keeps h0
  · exact h0

theorem State.setClass_keeps {x0 x1 x2 x3} (h0 : Keeps a x0) : Keeps a (State.setClass x0 x1 x2 x3) := by
  unfold State.setClass
  extract_lets -useContext v10 v11 v12 v13
  have hv12 : Keeps a v12 := State.put_keeps (State.put_keeps h0)
  have hv13 : Keeps a v13 := State.put_keeps (State.put_keeps hv12)
  exact keeps_ite hv13 (State.raise_keeps hv13)

theorem State.latchBuckets_keeps {x0 x1} (h0 : Keeps a x0) : Keeps a (State.latchBuckets x0 x1) := by
  induction x1 generalizing x0 with
  | nil => exact h0
  | cons p r ih =>
    unfold State.latchBuckets
    refine ih (keeps_of (s := match aget x0.clt.buckets (8 * p.1 + p.2) with
      | some b => _
      | none => x0) ?_ rfl)
    split
    · exact keeps_of h0
    · exact h0

theorem State.authUpdate_keeps {x0} (h0 : Keeps a x0) : Keeps a (State.authUpdate x0) := by
  unfold State.authUpdate
  extract_lets -useContext v10 v11 v12 v13 v14 v15 v16 v17
  have hv15 : Keeps a v15 := by
    dsimp -zeta only [v15]
    split
    · exact keeps_of h0
    · exact h0
  have hv17 : Keeps a v17 := State.putB_keeps (State.put_keeps hv15)
  exact keeps_ite (State.raise_keeps hv17) hv17

theorem State.lapAdmission_keeps {x0 x1 x2} (h0 : Keeps a x0) : Keeps a (State.lapAdmission x0 x1 x2) := by
  unfold State.lapAdmission
  extract_lets -useContext v10 v11 v12 v13 v14 v15 v16 v17 v18 v19 v20 v21 v22 v23 v24 v25
  have hv10 : Keeps a v10 := State.put_keeps (State.put_keeps h0)
  have hv11 : Keeps a v11 := State.authUpdate_keeps (State.latchBuckets_keeps hv10)
  have hv16 : Keeps a v16 := keeps_foldl hv11 fun _ _ h26 => (State.setClass_keeps h26)
  have hv19 : Keeps a v19 := State.putB_keeps hv16
  have hv20 : Keeps a v20 := keeps_ite (State.raise_keeps hv19) hv19
  have hv23 : Keeps a v23 := State.putB_keeps hv20
  have hv24 : Keeps a v24 := keeps_ite (State.raise_keeps hv23) hv23
  exact keeps_of hv24

theorem State.admissionFresh_keeps {x0} (h0 : Keeps a x0) : Keeps a (State.admissionFresh x0) := by
  unfold State.admissionFresh
  extract_lets -useContext v10 v11 v12
  have hv11 : Keeps a v11 := keeps_of h0
  have hv12 : Keeps a v12 := keeps_foldl hv11 fun _ _ h13 => (State.put_keeps (State.put_keeps h13))
  exact State.put_keeps hv12

theorem State.ageSlot_keeps {x0 x1} (h0 : Keeps a x0) : Keeps a (State.ageSlot x0 x1) := by
  unfold State.ageSlot
  split
  · rename_i y10 y11 y12 e13
    have h14 : Keeps a y12 := keeps_snd e13 (State.readSlot_keeps2 h0)
    exact keeps_ite (State.bump_keeps (State.dropEntry_keeps h14)) h14
  · rename_i y15 y16 e17
    have h18 : Keeps a y16 := keeps_snd e17 (State.readSlot_keeps2 h0)
    exact h18

theorem execAgeSweep_keepsO {x0 x1 x2} (h2 : Keeps a x2) : KeepsO a (execAgeSweep x0 x1 x2) :=
  keepsO_next (keeps_foldl h2 fun _ _ h10 => (keeps_ite (State.ageSlot_keeps h10) h10))

theorem State.tableLost_keeps {x0} (h0 : Keeps a x0) : Keeps a (State.tableLost x0) := by
  unfold State.tableLost
  extract_lets -useContext v10 v11 v12
  have hv11 : Keeps a v11 := keeps_of h0
  have hv12 : Keeps a v12 := State.put_keeps (State.put_keeps hv11)
  exact keeps_foldl hv12 fun _ _ h13 => (State.put_keeps (State.put_keeps h13))

theorem execTableReady_keepsO {x0} (h0 : Keeps a x0) : KeepsO a (execTableReady x0) := by
  unfold execTableReady
  refine keepsO_next ?_
  refine keeps_ite ?_ ?_
  · split
    · rename_i x_ t_ heq_
      have h10 : Keeps a t_ := keeps_snd heq_ (State.draw_keeps2 h0)
      extract_lets -useContext v11 v12
      have hv12 : Keeps a v12 := keeps_of h10
      exact State.put_keeps (State.put_keeps hv12)
  · exact h0

theorem cltWork_keepsR {x0 x1} (h_0 : ∀ y0, Keeps a y0 → KeepsR a (x0 y0)) (h1 : Keeps a x1) : KeepsR a (cltWork x0 x1) := by
  unfold cltWork
  split
  · exact keepsR_mk h1
  · exact h_0 _ h1

theorem cltSetEff_keepsR {x0 x1 x2 x3} (h3 : Keeps a x3) : KeepsR a (cltSetEff x0 x1 x2 x3) := by
  unfold cltSetEff
  extract_lets -useContext v10
  exact keepsR_ite (keepsR_mk h3) (keepsR_ite (keepsR_mk h3) (keepsR_ite (keepsR_mk h3) (keepsR_ite (keepsR_mk h3) (keepsR_ite (keepsR_mk h3) (State.setWord_keepsR h3)))))

theorem execCltSet_keepsO {x0 x1 x2 x3} (h3 : Keeps a x3) : KeepsO a (execCltSet x0 x1 x2 x3) :=
  keepsO_next (State.runCmd_keeps h3 (fun _ _ h10 => (cltSetEff_keepsR h10)))

theorem cltAddEff_keepsR {x0 x1 x2 x3 x4 x5} (h5 : Keeps a x5) : KeepsR a (cltAddEff x0 x1 x2 x3 x4 x5) := by
  unfold cltAddEff
  refine cltWork_keepsR (fun s hs => ?_) h5
  refine keepsR_ite (keepsR_mk hs) (keepsR_ite (keepsR_mk hs) ?_)
  cases e : s.locate x0 with
  | mk o t =>
    have ht : Keeps a t := keeps_snd e (State.locate_keeps2 hs)
    rcases o with _ | ⟨n, en⟩
    · dsimp only
      split
      · exact keepsR_mk (keeps2_snd (State.findSlot_keeps2 ht))
      · exact keepsR_mk (State.change_keeps (State.putEntry_keeps (keeps2_snd (State.findSlot_keeps2 ht))))
    · exact keepsR_mk (State.change_keeps (State.putEntry_keeps ht))

theorem execCltEntryAdd_keepsO {x0 x1 x2 x3 x4 x5} (h5 : Keeps a x5) : KeepsO a (execCltEntryAdd x0 x1 x2 x3 x4 x5) :=
  keepsO_next (State.runCmd_keeps h5 (fun _ _ h10 => (cltAddEff_keepsR h10)))

theorem cltDelEff_keepsR {x0 x1 x2} (h2 : Keeps a x2) : KeepsR a (cltDelEff x0 x1 x2) := by
  unfold cltDelEff
  refine cltWork_keepsR ?_ ?_
  · intro y11 h12
    refine keepsR_ite ?_ ?_
    · exact keepsR_mk h12
    · split
      · rename_i y13 y14 y15 y16 e17
        have h18 : Keeps a y16 := keeps_snd e17 (State.locate_keeps2 h12)
        exact keepsR_ite (keepsR_mk h18) (keepsR_mk (State.change_keeps (State.dropEntry_keeps h18)))
      · rename_i y19 y20 e21
        have h22 : Keeps a y20 := keeps_snd e21 (State.locate_keeps2 h12)
        exact keepsR_mk (State.change_keeps h22)
  · exact h2

theorem execCltEntryDel_keepsO {x0 x1 x2} (h2 : Keeps a x2) : KeepsO a (execCltEntryDel x0 x1 x2) :=
  keepsO_next (State.runCmd_keeps h2 (fun _ _ h10 => (cltDelEff_keepsR h10)))

theorem cltReadEff_keepsR {x0 x1 x2 x3 x4} (h4 : Keeps a x4) : KeepsR a (cltReadEff x0 x1 x2 x3 x4) := by
  unfold cltReadEff
  refine cltWork_keepsR ?_ ?_
  · intro y11 h12
    split
    · rename_i y13 y14 e15
      have h16 : Keeps a y14 := keeps_snd e15 (State.locate_keeps2 h12)
      exact keepsR_mk h16
    · rename_i y17 y18 y19 y20 e21
      have h22 : Keeps a y20 := keeps_snd e21 (State.locate_keeps2 h12)
      exact keepsR_ite (keepsR_mk (State.dmaWrite_keeps h22)) (keepsR_mk h22)
  · exact h4

theorem execCltEntryRead_keepsO {x0 x1 x2 x3} (h3 : Keeps a x3) : KeepsO a (execCltEntryRead x0 x1 x2 x3) :=
  keepsO_next (State.runCmd_keeps h3 (fun _ _ h10 => (cltReadEff_keepsR h10)))

theorem State.readRange_keeps {x0 x1 x2} (h0 : Keeps a x0) : Keeps a (State.readRange x0 x1 x2) := by
  unfold State.readRange
  exact keeps_foldl h0 fun _ _ h10 => (keeps_ite (keeps2_snd (State.readSlot_keeps2 h10)) h10)

theorem cltDumpEff_keepsR {x0 x1 x2 x3 x4 x5} (h5 : Keeps a x5) : KeepsR a (cltDumpEff x0 x1 x2 x3 x4 x5) := by
  unfold cltDumpEff
  refine cltWork_keepsR ?_ ?_
  · intro y11 h12
    extract_lets -useContext v13
    have hv13 : Keeps a v13 := State.readRange_keeps h12
    exact keepsR_ite (keepsR_mk h12) (keepsR_ite (keepsR_mk h12) (keepsR_mk (State.dmaWrite_keeps hv13)))
  · exact h5

theorem execCltDump_keepsO {x0 x1 x2 x3 x4} (h4 : Keeps a x4) : KeepsO a (execCltDump x0 x1 x2 x3 x4) :=
  keepsO_next (State.runCmd_keeps h4 (fun _ _ h10 => (cltDumpEff_keepsR h10)))

theorem cltFlushEff_keepsR {x0 x1} (h1 : Keeps a x1) : KeepsR a (cltFlushEff x0 x1) := by
  unfold cltFlushEff
  refine cltWork_keepsR ?_ ?_
  · intro y11 h12
    extract_lets -useContext v13 v14 v15
    have hv13 : Keeps a v13 := State.readRange_keeps h12
    have hv15 : Keeps a v15 := keeps_foldl hv13 fun _ _ h16 => (State.dropEntry_keeps h16)
    exact keepsR_mk (State.change_keeps hv15)
  · exact h1

theorem execCltFlush_keepsO {x0 x1} (h1 : Keeps a x1) : KeepsO a (execCltFlush x0 x1) :=
  keepsO_next (State.runCmd_keeps h1 (fun _ _ h10 => (cltFlushEff_keepsR h10)))

theorem State.setRing_keeps {x0 x1 x2} (h0 : Keeps a x0) : Keeps a (State.setRing x0 x1 x2) := by
  unfold State.setRing
  extract_lets -useContext v10 v11 v12 v13
  have hv11 : Keeps a v11 := State.put_keeps h0
  have hv13 : Keeps a v13 := keeps_of hv11
  exact keeps_ite hv13 (State.raise_keeps hv13)

theorem State.ringError_keeps {x0 x1 x2 x3} (h0 : Keeps a x0) : Keeps a (State.ringError x0 x1 x2 x3) := by
  unfold State.ringError
  extract_lets -useContext v10
  have hv10 : Keeps a v10 := State.put_keeps (State.setRing_keeps h0)
  refine keeps_ite ?_ ?_
  · split
    · rename_i x_ t_ heq_
      have h11 : Keeps a t_ := keeps_snd heq_ (State.takeFree_keeps2 hv10)
      exact State.raiseHif_keeps h11
  · exact State.raiseHif_keeps hv10

theorem State.consume_keeps {x0 x1 x2} (h0 : Keeps a x0) : Keeps a (State.consume x0 x1 x2) := by
  induction x2 generalizing x0 with
  | zero => exact h0
  | succ k ih => exact ih (State.advance_keeps h0)

theorem State.signalVector_keeps {x0 x1} (h0 : Keeps a x0) : Keeps a (State.signalVector x0 x1) := by
  unfold State.signalVector
  extract_lets -useContext v10 v11
  exact keeps_ite h0 (keeps_of h0)

end Sys2Proof.Machine
end

