-- ==== Sys2Proof/Laws/KeepsB.lean ====
section
/-! SUPPORT. What operations keep: those of TimeCore, SynOut, Synth, Lanes, Disc. -/

set_option Elab.async false

namespace Sys2Proof.Machine

variable {a : State}

theorem State.noteRetired_keeps {x0 x1} (h0 : Keeps a x0) : Keeps a (State.noteRetired x0 x1) := by
  unfold State.noteRetired
  extract_lets -useContext v10 v11
  have hv10 : Keeps a v10 := State.setVar_keeps (State.setVar_keeps h0)
  exact keeps_of hv10

theorem State.tick_keeps {x0} (h0 : Keeps a x0) : Keeps a (State.tick x0) := by
  unfold State.tick
  extract_lets -useContext v10 v11 v12 v13
  have hv12 : Keeps a v12 := keeps_of h0
  have hv13 : Keeps a v13 := keeps_ite (State.noteRetired_keeps hv12) hv12
  exact keeps_ite (State.raise_keeps hv13) hv13

theorem State.setRate_keeps {x0 x1} (h0 : Keeps a x0) : Keeps a (State.setRate x0 x1) := by
  unfold State.setRate
  extract_lets -useContext v10 v11 v12
  have hv12 : Keeps a v12 := keeps_of h0
  exact keeps_ite hv12 (State.raise_keeps hv12)

theorem State.addSlew_keeps {x0 x1} (h0 : Keeps a x0) : Keeps a (State.addSlew x0 x1) := by
  unfold State.addSlew
  exact keeps_of h0

theorem State.correct_keeps {x0 x1 x2} (h0 : Keeps a x0) : Keeps a (State.correct x0 x1 x2) :=
  keeps_ite (State.addSlew_keeps h0) (State.raise_keeps h0)

theorem phaseAdjEff_keepsR {x0 x1 x2} (h2 : Keeps a x2) : KeepsR a (phaseAdjEff x0 x1 x2) := by
  unfold phaseAdjEff
  refine keepsR_ite ?_ ?_
  · extract_lets -useContext v10
    have hv10 : Keeps a v10 := State.addSlew_keeps h2
    exact keepsR_mk (State.change_keeps hv10)
  · exact keepsR_mk h2

theorem execPhaseAdj_keepsO {x0 x1 x2} (h2 : Keeps a x2) : KeepsO a (execPhaseAdj x0 x1 x2) :=
  keepsO_next (State.runCmd_keeps h2 (fun _ _ h10 => (phaseAdjEff_keepsR h10)))

theorem slewLimitSetEff_keepsR {x0 x1 x2} (h2 : Keeps a x2) : KeepsR a (slewLimitSetEff x0 x1 x2) := by
  unfold slewLimitSetEff
  refine keepsR_ite ?_ ?_
  · exact keepsR_mk h2
  · extract_lets -useContext v10 v11 v12 v13
    have hv12 : Keeps a v12 := State.put64_keeps h2
    have hv13 : Keeps a v13 := State.change_keeps hv12
    exact keepsR_mk (State.change_keeps hv13)

theorem execSlewLimitSet_keepsO {x0 x1 x2} (h2 : Keeps a x2) : KeepsO a (execSlewLimitSet x0 x1 x2) :=
  keepsO_next (State.runCmd_keeps h2 (fun _ _ h10 => (slewLimitSetEff_keepsR h10)))

theorem stepThreshSetEff_keepsR {x0 x1 x2} (h2 : Keeps a x2) : KeepsR a (stepThreshSetEff x0 x1 x2) := by
  unfold stepThreshSetEff
  refine keepsR_ite ?_ ?_
  · exact keepsR_mk h2
  · extract_lets -useContext v10 v11
    have hv11 : Keeps a v11 := State.put_keeps h2
    exact keepsR_mk (State.change_keeps hv11)

theorem execStepThreshSet_keepsO {x0 x1 x2} (h2 : Keeps a x2) : KeepsO a (execStepThreshSet x0 x1 x2) :=
  keepsO_next (State.runCmd_keeps h2 (fun _ _ h10 => (stepThreshSetEff_keepsR h10)))

theorem State.setCmpTgt_keeps {x0 x1 x2} (h0 : Keeps a x0) : Keeps a (State.setCmpTgt x0 x1 x2) :=
  State.put_keeps (State.put_keeps (State.put_keeps h0))

theorem State.cmpPfTrigger_keeps {x0 x1} (h0 : Keeps a x0) : Keeps a (State.cmpPfTrigger x0 x1) := by
  unfold State.cmpPfTrigger
  refine keeps_ite ?_ ?_
  · extract_lets -useContext v10
    exact State.pfTrigger_keeps h0
  · exact h0

theorem cmpArmEff_keepsR {x0 x1 x2 x3 x4 x5 x6 x7} (h7 : Keeps a x7) : KeepsR a (cmpArmEff x0 x1 x2 x3 x4 x5 x6 x7) := by
  unfold cmpArmEff
  refine keepsR_ite ?_ ?_
  · exact keepsR_mk h7
  · refine keepsR_ite ?_ ?_
    · exact keepsR_mk h7
    · extract_lets -useContext v10 v11 v12 v13 v14 v15
      have hv11 : Keeps a v11 := State.put_keeps (State.putB_keeps (State.putB_keeps (State.put_keeps h7)))
      have hv12 : Keeps a v12 := State.put_keeps (State.put_keeps hv11)
      have hv13 : Keeps a v13 := State.setCmpTgt_keeps hv12
      have hv14 : Keeps a v14 := keeps_ite (State.setVar_keeps (State.put_keeps (State.put_keeps (State.put_keeps hv13)))) hv13
      have hv15 : Keeps a v15 := State.cmpPfTrigger_keeps (State.setVar_keeps hv14)
      exact keepsR_mk (State.change_keeps hv15)

theorem execCmpArm_keepsO {x0 x1 x2 x3 x4 x5 x6 x7} (h7 : Keeps a x7) : KeepsO a (execCmpArm x0 x1 x2 x3 x4 x5 x6 x7) :=
  keepsO_next (State.runCmd_keeps h7 (fun _ _ h10 => (cmpArmEff_keepsR h10)))

theorem cmpDisarmEff_keepsR {x0 x1 x2} (h2 : Keeps a x2) : KeepsR a (cmpDisarmEff x0 x1 x2) := by
  unfold cmpDisarmEff
  refine keepsR_ite ?_ ?_
  · exact keepsR_mk h2
  · extract_lets -useContext v10 v11 v12
    have hv10 : Keeps a v10 := State.put_keeps h2
    have hv12 : Keeps a v12 := keeps_of hv10
    exact keepsR_mk (State.change_keeps hv12)

theorem execCmpDisarm_keepsO {x0 x1 x2} (h2 : Keeps a x2) : KeepsO a (execCmpDisarm x0 x1 x2) :=
  keepsO_next (State.runCmd_keeps h2 (fun _ _ h10 => (cmpDisarmEff_keepsR h10)))

theorem State.fireCmp_keeps {x0 x1 x2} (h0 : Keeps a x0) : Keeps a (State.fireCmp x0 x1 x2) := by
  unfold State.fireCmp
  extract_lets -useContext v10 v11 v12 v13 v14 v15 v16 v17 v18 v19 v20 v21 v22 v23 v24 v25
  have hv18 : Keeps a v18 := State.put_keeps (State.put_keeps (State.put_keeps h0))
  have hv19 : Keeps a v19 := State.putB_keeps (State.putB_keeps hv18)
  have hv20 : Keeps a v20 := keeps_ite (State.put_keeps hv19) hv19
  have hv21 : Keeps a v21 := keeps_ite (State.put_keeps hv20) hv20
  have hv22 : Keeps a v22 := State.setVar_keeps hv21
  have hv23 : Keeps a v23 := State.setCmpTgt_keeps hv22
  have hv24 : Keeps a v24 := keeps_ite (keeps_ite (State.put_keeps hv23) (keeps_ite (State.put_keeps hv23) hv23)) (State.put_keeps hv22)
  have hv25 : Keeps a v25 := keeps_ite (State.raise_keeps hv24) hv24
  exact keeps_ite (State.cmpPfTrigger_keeps hv25) hv25

theorem execCmpFired_keepsO {x0 x1} (h1 : Keeps a x1) : KeepsO a (execCmpFired x0 x1) :=
  keepsO_next (keeps_ite (State.fireCmp_keeps h1) h1)

theorem State.refuseLeap_keeps {x0 x1 x2 x3 x4 x5} (h0 : Keeps a x0) : Keeps a (State.refuseLeap x0 x1 x2 x3 x4 x5) := by
  unfold State.refuseLeap
  extract_lets -useContext v10 v11 v12
  have hv12 : Keeps a v12 := keeps_of h0
  exact keeps_ite (State.put_keeps h0) (State.raise_keeps hv12)

theorem State.announceLeap_keeps {x0 x1 x2 x3} (h0 : Keeps a x0) : Keeps a (State.announceLeap x0 x1 x2 x3) := by
  unfold State.announceLeap
  extract_lets -useContext v10 v11 v12
  have hv10 : Keeps a v10 := State.putI_keeps h0
  have hv11 : Keeps a v11 := State.put64_keeps hv10
  have hv12 : Keeps a v12 := State.putB_keeps (State.put_keeps hv11)
  exact State.raise_keeps (State.setVar_keeps hv12)

theorem State.withdrawLeap_keeps {x0 x1} (h0 : Keeps a x0) : Keeps a (State.withdrawLeap x0 x1) := by
  unfold State.withdrawLeap
  extract_lets -useContext v10 v11
  have hv11 : Keeps a v11 := State.put_keeps h0
  exact State.raise_keeps (State.put_keeps hv11)

theorem leapSetEff_keepsR {x0 x1 x2 x3 x4} (h4 : Keeps a x4) : KeepsR a (leapSetEff x0 x1 x2 x3 x4) := by
  unfold leapSetEff
  extract_lets -useContext v10 v11 v12 v13
  have hv13 : Keeps a v13 := State.announceLeap_keeps h4
  exact keepsR_ite (keepsR_mk h4) (keepsR_ite (keepsR_mk h4) (keepsR_ite (keepsR_ite (keepsR_mk h4) (keepsR_ite (keepsR_mk (State.refuseLeap_keeps h4)) (keepsR_mk (State.change_keeps (State.withdrawLeap_keeps h4))))) (keepsR_ite (keepsR_mk h4) (keepsR_ite (keepsR_mk (State.refuseLeap_keeps h4)) (keepsR_mk (State.change_keeps hv13))))))

theorem execLeapSet_keepsO {x0 x1 x2 x3 x4} (h4 : Keeps a x4) : KeepsO a (execLeapSet x0 x1 x2 x3 x4) :=
  keepsO_next (State.runCmd_keeps h4 (fun _ _ h10 => (leapSetEff_keepsR h10)))

theorem utcOffsetSetEff_keepsR {x0 x1 x2} (h2 : Keeps a x2) : KeepsR a (utcOffsetSetEff x0 x1 x2) := by
  unfold utcOffsetSetEff
  refine keepsR_ite ?_ ?_
  · exact keepsR_mk h2
  · refine keepsR_ite ?_ ?_
    · exact keepsR_mk h2
    · extract_lets -useContext v10 v11 v12 v13
      have hv12 : Keeps a v12 := State.putI_keeps h2
      have hv13 : Keeps a v13 := keeps_ite (State.put64_keeps (State.putI_keeps hv12)) (State.putI_keeps hv12)
      exact keepsR_mk (State.change_keeps hv13)

theorem execUtcOffsetSet_keepsO {x0 x1 x2} (h2 : Keeps a x2) : KeepsO a (execUtcOffsetSet x0 x1 x2) :=
  keepsO_next (State.runCmd_keeps h2 (fun _ _ h10 => (utcOffsetSetEff_keepsR h10)))

theorem execLeapCommitted_keepsO {x0} (h0 : Keeps a x0) : KeepsO a (execLeapCommitted x0) := by
  unfold execLeapCommitted
  refine keepsO_next ?_
  refine keeps_ite ?_ ?_
  · extract_lets -useContext v10 v11
    have hv10 : Keeps a v10 := State.put_keeps (State.put_keeps h0)
    have hv11 : Keeps a v11 := State.setVar_keeps (State.setVar_keeps (State.setVar_keeps hv10))
    exact State.raise_keeps hv11
  · exact h0

theorem execLeapApplied_keepsO {x0} (h0 : Keeps a x0) : KeepsO a (execLeapApplied x0) := by
  unfold execLeapApplied
  refine keepsO_next ?_
  refine keeps_ite ?_ ?_
  · extract_lets -useContext v10 v11
    have hv10 : Keeps a v10 := State.put_keeps h0
    have hv11 : Keeps a v11 := State.put_keeps (State.put_keeps hv10)
    exact State.raise_keeps hv11
  · exact h0

theorem execSmearEnd_keepsO {x0} (h0 : Keeps a x0) : KeepsO a (execSmearEnd x0) :=
  keepsO_next (keeps_ite (State.put_keeps h0) h0)

theorem State.resumeLeap_keeps {x0} (h0 : Keeps a x0) : Keeps a (State.resumeLeap x0) := by
  unfold State.resumeLeap
  extract_lets -useContext v10
  exact keeps_ite h0 (State.setVar_keeps (State.putB_keeps (State.put_keeps h0)))

theorem execMarkerLaunch_keepsO {x0} (h0 : Keeps a x0) : KeepsO a (execMarkerLaunch x0) := by
  unfold execMarkerLaunch
  extract_lets -useContext v10 v11 v12 v13 v14 v15 v16 v17 v18 v19 v20 v21
  have hv19 : Keeps a v19 := keeps_of h0
  have hv20 : Keeps a v20 := State.setVar_keeps (State.setVar_keeps (State.setVar_keeps hv19))
  have hv21 : Keeps a v21 := State.setVar_keeps hv20
  exact keepsO_next (keeps_ite h0 (State.setVar_keeps (State.doneAt_keeps hv21)))

theorem State.breakRun_keeps {x0 x1} (h0 : Keeps a x0) : Keeps a (State.breakRun x0 x1) := by
  unfold State.breakRun
  exact State.setPort_keeps (State.setVar_keeps h0)

theorem State.setTb_keeps {x0 x1 x2} (h0 : Keeps a x0) : Keeps a (State.setTb x0 x1 x2) := by
  unfold State.setTb
  extract_lets -useContext v10 v11
  have hv11 : Keeps a v11 := keeps_ite (State.breakRun_keeps h0) h0
  exact State.putBit_keeps (State.put_keeps hv11)

theorem State.tbUnsure_keeps {x0 x1 x2} (h0 : Keeps a x0) : Keeps a (State.tbUnsure x0 x1 x2) := by
  unfold State.tbUnsure
  extract_lets -useContext v10
  have hv10 : Keeps a v10 := State.breakRun_keeps (State.setVar_keeps (State.setTb_keeps h0))
  exact State.raise_keeps (State.putBit_keeps hv10)

theorem State.portServo_keeps {x0 x1 x2} (h0 : Keeps a x0) : Keeps a (State.portServo x0 x1 x2) := by
  unfold State.portServo
  split
  · rename_i y10 y11 y12 e13
    have h14 : Keeps a y12 := keeps_snd e13 (State.takeFreeInt_keeps2 h0)
    split
    · rename_i y15 y16 y17 e18
      have h19 : Keeps a y17 := keeps_snd e18 (State.takeFreeInt_keeps2 h14)
      extract_lets -useContext v20
      have hv20 : Keeps a v20 := State.setVar_keeps (State.setVar_keeps (State.setVar_keeps h19))
      split
      · exact keeps_ite (State.setVar_keeps (State.setVar_keeps hv20)) hv20
      · exact hv20

theorem State.markerArrival_keeps {x0 x1 x2 x3 x4 x5} (h0 : Keeps a x0) : Keeps a (State.markerArrival x0 x1 x2 x3 x4 x5) := by
  unfold State.markerArrival
  extract_lets -useContext v10 v11 v12 v13 v14 v15 v16 v17 v18 v19
  have hv10 : Keeps a v10 := State.breakRun_keeps (State.bump_keeps h0)
  have hv12 : Keeps a v12 := State.portServo_keeps (State.putI_keeps h0)
  have hv13 : Keeps a v13 := State.put_keeps hv12
  have hv14 : Keeps a v14 := State.putI_keeps hv13
  have hv15 : Keeps a v15 := State.breakRun_keeps hv14
  have hv18 : Keeps a v18 := State.setPort_keeps (State.setVar_keeps hv14)
  have hv19 : Keeps a v19 := State.arm_keeps hv18
  exact keeps_ite h0 (keeps_ite (keeps_ite (State.tbUnsure_keeps hv10) hv10) (keeps_ite (keeps_ite (State.tbUnsure_keeps hv15) hv15) (keeps_ite (State.raise_keeps (State.setTb_keeps hv19)) (keeps_ite (State.raise_keeps (State.setTb_keeps hv19)) hv19))))

theorem execMarkerMissed_keepsO {x0 x1} (h1 : Keeps a x1) : KeepsO a (execMarkerMissed x0 x1) := by
  unfold execMarkerMissed
  extract_lets -useContext v10
  have hv10 : Keeps a v10 := State.breakRun_keeps (State.bump_keeps h1)
  exact keepsO_next (keeps_ite h1 (keeps_ite (State.tbUnsure_keeps hv10) hv10))

theorem execPortCounterStep_keepsO {x0 x1} (h1 : Keeps a x1) : KeepsO a (execPortCounterStep x0 x1) := by
  unfold execPortCounterStep
  exact keepsO_next (keeps_ite (State.setVar_keeps (State.setVar_keeps h1)) h1)

theorem State.setGrp_keeps {x0 x1 x2} (h0 : Keeps a x0) : Keeps a (State.setGrp x0 x1 x2) := by
  unfold State.setGrp
  exact keeps_of h0

theorem State.setOut_keeps {x0 x1 x2} (h0 : Keeps a x0) : Keeps a (State.setOut x0 x1 x2) := by
  unfold State.setOut
  exact keeps_of h0

theorem State.outTo_keeps {x0 x1 x2} (h0 : Keeps a x0) : Keeps a (State.outTo x0 x1 x2) := by
  unfold State.outTo
  extract_lets -useContext v10
  exact keeps_ite h0 (State.raise_keeps (State.put_keeps h0))

theorem State.alignDone_keeps {x0 x1 x2 x3} (h0 : Keeps a x0) : Keeps a (State.alignDone x0 x1 x2 x3) := by
  unfold State.alignDone
  extract_lets -useContext v10 v11 v12
  have hv11 : Keeps a v11 := State.setOut_keeps h0
  have hv12 : Keeps a v12 := keeps_ite hv11 (State.put_keeps (State.put_keeps hv11))
  exact State.raise_keeps hv12

theorem State.loadPulse_keeps {x0 x1} (h0 : Keeps a x0) : Keeps a (State.loadPulse x0 x1) :=
  State.put_keeps (State.setOut_keeps h0)

theorem State.drive_keeps {x0 x1 x2 x3} (h0 : Keeps a x0) : Keeps a (State.drive x0 x1 x2 x3) := by
  unfold State.drive
  exact keeps_of h0

theorem State.squelch_keeps {x0 x1} (h0 : Keeps a x0) : Keeps a (State.squelch x0 x1) := by
  unfold State.squelch
  exact keeps_ite (State.drive_keeps (State.setOut_keeps h0)) h0

theorem State.clockOn_keeps {x0 x1 x2} (h0 : Keeps a x0) : Keeps a (State.clockOn x0 x1 x2) := by
  unfold State.clockOn
  extract_lets -useContext v10
  exact keeps_of h0

theorem State.finishClock_keeps {x0 x1} (h0 : Keeps a x0) : Keeps a (State.finishClock x0 x1) := by
  unfold State.finishClock
  extract_lets -useContext v10 v11 v12
  exact State.drive_keeps h0

theorem State.endPulse_keeps {x0 x1} (h0 : Keeps a x0) : Keeps a (State.endPulse x0 x1) := by
  unfold State.endPulse
  extract_lets -useContext v10 v11
  split
  · exact keeps_ite h0 (State.drive_keeps (State.setOut_keeps h0))
  · exact h0

theorem State.edgeEvent_keeps {x0 x1 x2 x3 x4} (h0 : Keeps a x0) : Keeps a (State.edgeEvent x0 x1 x2 x3 x4) := by
  unfold State.edgeEvent
  exact keeps_ite (State.raise_keeps h0) h0

theorem State.emitEdge_keeps {x0 x1 x2} (h0 : Keeps a x0) : Keeps a (State.emitEdge x0 x1 x2) := by
  unfold State.emitEdge
  extract_lets -useContext v10 v11 v12 v13 v14 v15 v16 v17 v18 v19 v20 v21
  have hv15 : Keeps a v15 := keeps_of h0
  have hv16 : Keeps a v16 := State.drive_keeps hv15
  have hv19 : Keeps a v19 := State.setOut_keeps hv16
  have hv20 : Keeps a v20 := State.putI_keeps (State.putI64_keeps hv19)
  have hv21 : Keeps a v21 := State.put64_keeps hv20
  exact State.edgeEvent_keeps (State.pmcEvent_keeps hv21)

theorem State.loadAlign_keeps {x0 x1 x2} (h0 : Keeps a x0) : Keeps a (State.loadAlign x0 x1 x2) := by
  unfold State.loadAlign
  extract_lets -useContext v10 v11
  exact State.putB_keeps (State.setOut_keeps h0)

theorem State.jumped_keeps {x0 x1 x2} (h0 : Keeps a x0) : Keeps a (State.jumped x0 x1 x2) := by
  unfold State.jumped
  extract_lets -useContext v10 v11
  have hv10 : Keeps a v10 := State.loadAlign_keeps h0
  exact State.setOut_keeps hv10

theorem State.jumpEdge_keeps {x0 x1 x2} (h0 : Keeps a x0) : Keeps a (State.jumpEdge x0 x1 x2) := by
  unfold State.jumpEdge
  extract_lets -useContext v10 v11 v12 v13 v14 v15
  have hv11 : Keeps a v11 := State.jumped_keeps h0
  have hv13 : Keeps a v13 := State.setOut_keeps hv11
  exact keeps_ite h0 (keeps_ite (State.setOut_keeps hv13) (State.alignDone_keeps (State.emitEdge_keeps hv13)))

theorem State.pulseEdge_keeps {x0 x1} (h0 : Keeps a x0) : Keeps a (State.pulseEdge x0 x1) := by
  unfold State.pulseEdge
  extract_lets -useContext v10 v11 v12 v13
  have hv11 : Keeps a v11 := State.endPulse_keeps h0
  have hv13 : Keeps a v13 := keeps_ite (State.emitEdge_keeps hv11) hv11
  refine keeps_ite ?_ ?_
  · exact hv11
  · split
    · exact keeps_ite (State.jumpEdge_keeps hv11) hv13
    · exact hv13

theorem State.startOut_keeps {x0 x1} (h0 : Keeps a x0) : Keeps a (State.startOut x0 x1) := by
  unfold State.startOut
  extract_lets -useContext v10 v11 v12 v13 v14 v15 v16 v17 v18 v19 v20
  have hv15 : Keeps a v15 := State.setOut_keeps (State.putI_keeps h0)
  have hv16 : Keeps a v16 := State.loadPulse_keeps h0
  have hv19 : Keeps a v19 := State.setOut_keeps hv16
  have hv20 : Keeps a v20 := State.put_keeps (State.put_keeps hv19)
  exact keeps_ite (State.clockOn_keeps hv15) (keeps_ite hv20 (State.drive_keeps hv20))

theorem State.stopOut_keeps {x0 x1 x2} (h0 : Keeps a x0) : Keeps a (State.stopOut x0 x1 x2) := by
  unfold State.stopOut
  extract_lets -useContext v10 v11 v12
  have hv11 : Keeps a v11 := State.setOut_keeps h0
  have hv12 : Keeps a v12 := keeps_ite hv11 (State.put_keeps hv11)
  exact State.outTo_keeps hv12

theorem State.resumeJump_keeps {x0 x1} (h0 : Keeps a x0) : Keeps a (State.resumeJump x0 x1) := by
  unfold State.resumeJump
  extract_lets -useContext
  split
  · exact keeps_ite h0 (keeps_ite h0 (State.setOut_keeps h0))
  · exact h0

theorem State.followGrp_keeps {x0 x1} (h0 : Keeps a x0) : Keeps a (State.followGrp x0 x1) := by
  unfold State.followGrp
  extract_lets -useContext v10 v11 v12 v13
  have hv13 : Keeps a v13 := State.outTo_keeps (State.startOut_keeps h0)
  refine keeps_ite ?_ ?_
  · refine keeps_ite ?_ ?_
    · clear_value v12
      split
      · exact State.alignDone_keeps hv13
      · exact hv13
    · exact keeps_ite (State.outTo_keeps (State.resumeJump_keeps h0)) h0
  · exact keeps_ite (keeps_ite (State.outTo_keeps h0) h0) (keeps_ite (State.outTo_keeps (State.squelch_keeps h0)) h0)

theorem State.followAll_keeps {x0 x1} (h0 : Keeps a x0) : Keeps a (State.followAll x0 x1) :=
  keeps_foldl h0 fun _ _ h10 => (keeps_ite (State.followGrp_keeps h10) h10)

theorem State.outEnable_keeps {x0 x1} (h0 : Keeps a x0) : Keeps a (State.outEnable x0 x1) :=
  keeps_ite (State.followGrp_keeps (State.outTo_keeps h0)) h0

theorem State.outDisable_keeps {x0 x1} (h0 : Keeps a x0) : Keeps a (State.outDisable x0 x1) := by
  unfold State.outDisable
  extract_lets -useContext v10 v11 v12
  have hv11 : Keeps a v11 := keeps_ite (State.pulseEdge_keeps h0) h0
  have hv12 : Keeps a v12 := keeps_ite hv11 (keeps_ite (State.finishClock_keeps hv11) (keeps_ite hv11 (State.squelch_keeps hv11)))
  exact keeps_ite h0 (State.stopOut_keeps hv12)

theorem State.outFence_keeps {x0 x1} (h0 : Keeps a x0) : Keeps a (State.outFence x0 x1) := by
  unfold State.outFence
  exact keeps_ite h0 (State.stopOut_keeps (State.squelch_keeps (State.put_keeps h0)))

theorem State.outReset_keeps {x0 x1} (h0 : Keeps a x0) : Keeps a (State.outReset x0 x1) :=
  keeps_ite (State.outTo_keeps h0) h0

theorem State.checkPulse_keeps {x0 x1} (h0 : Keeps a x0) : Keeps a (State.checkPulse x0 x1) := by
  unfold State.checkPulse
  extract_lets -useContext v10 v11 v12 v13
  have hv13 : Keeps a v13 := State.putBit_keeps (State.setOut_keeps h0)
  exact keeps_ite (State.raise_keeps hv13) h0

theorem State.checkPulses_keeps {x0 x1} (h0 : Keeps a x0) : Keeps a (State.checkPulses x0 x1) :=
  keeps_foldl h0 fun _ _ h10 => (keeps_ite (State.checkPulse_keeps h10) h10)

theorem State.stepGroups_keeps {x0 x1} (h0 : Keeps a x0) : Keeps a (State.stepGroups x0 x1) := by
  unfold State.stepGroups
  extract_lets -useContext v10
  have hv10 : Keeps a v10 := keeps_foldl h0 fun _ _ h11 => (keeps_ite (State.setGrp_keeps h11) h11)
  refine keeps_foldl ?_ ?_
  · exact hv10
  · intro y13 y14 h15
    extract_lets -useContext v16 v17 v18 v19
    have hv18 : Keeps a v18 := State.setOut_keeps h15
    have hv19 : Keeps a v19 := keeps_ite (State.put_keeps hv18) hv18
    exact keeps_ite (State.checkPulse_keeps hv19) hv18

theorem State.synEdge_keeps {x0 x1} (h0 : Keeps a x0) : Keeps a (State.synEdge x0 x1) := by
  unfold State.synEdge
  refine keeps_foldl ?_ ?_
  · exact h0
  · intro y11 y12 h13
    extract_lets -useContext v14 v15
    have hv15 : Keeps a v15 := State.setGrp_keeps h13
    exact keeps_ite (keeps_ite (State.checkPulses_keeps (State.raise_keeps hv15)) hv15) h13

theorem State.synFrom_keeps {x0 x1 x2 x3} (h0 : Keeps a x0) : Keeps a (State.synFrom x0 x1 x2 x3) := by
  unfold State.synFrom
  extract_lets -useContext v10
  have hv10 : Keeps a v10 := State.put_keeps h0
  exact keeps_ite hv10 (State.followAll_keeps (State.raise_keeps hv10))

theorem State.synTo_keeps {x0 x1 x2} (h0 : Keeps a x0) : Keeps a (State.synTo x0 x1 x2) := by
  unfold State.synTo
  extract_lets -useContext v10
  exact keeps_ite h0 (State.synFrom_keeps h0)

theorem State.synBegin_keeps {x0 x1 x2} (h0 : Keeps a x0) : Keeps a (State.synBegin x0 x1 x2) := by
  unfold State.synBegin
  extract_lets -useContext v10
  have hv10 : Keeps a v10 := State.setGrp_keeps h0
  exact State.synFrom_keeps (State.put_keeps (State.put_keeps hv10))

theorem State.synStart_keeps {x0 x1} (h0 : Keeps a x0) : Keeps a (State.synStart x0 x1) := by
  unfold State.synStart
  exact State.synBegin_keeps h0

theorem State.synEnd_keeps {x0 x1 x2 x3 x4 x5} (h0 : Keeps a x0) : Keeps a (State.synEnd x0 x1 x2 x3 x4 x5) := by
  unfold State.synEnd
  split
  · exact keeps_ite (State.finishCarried_keeps h0) (State.complete_keeps h0)
  · exact h0

theorem State.rampEnd_keeps {x0 x1} (h0 : Keeps a x0) : Keeps a (State.rampEnd x0 x1) := by
  unfold State.rampEnd
  extract_lets -useContext v10 v11
  have hv11 : Keeps a v11 := State.setGrp_keeps h0
  exact keeps_ite h0 (State.checkPulses_keeps (State.put_keeps (State.put_keeps hv11)))

theorem State.rampBreak_keeps {x0 x1 x2} (h0 : Keeps a x0) : Keeps a (State.rampBreak x0 x1 x2) := by
  unfold State.rampBreak
  split
  · exact h0
  · extract_lets -useContext v10
    have hv10 : Keeps a v10 := State.rampEnd_keeps h0
    exact State.synEnd_keeps hv10

theorem State.rampDone_keeps {x0 x1 x2} (h0 : Keeps a x0) : Keeps a (State.rampDone x0 x1 x2) := by
  unfold State.rampDone
  extract_lets -useContext v10 v11 v12 v13
  have hv10 : Keeps a v10 := State.rampEnd_keeps (State.setGrp_keeps h0)
  have hv11 : Keeps a v11 := keeps_ite hv10 (State.put_keeps (State.put64_keeps hv10))
  have hv13 : Keeps a v13 := State.raise_keeps hv11
  exact State.synEnd_keeps hv13

theorem State.rampStep_keeps {x0 x1 x2} (h0 : Keeps a x0) : Keeps a (State.rampStep x0 x1 x2) := by
  unfold State.rampStep
  extract_lets -useContext v10 v11
  exact keeps_ite (State.rampBreak_keeps h0) (keeps_ite (State.rampDone_keeps h0) (State.put_keeps (State.setGrp_keeps h0)))

theorem State.tickGrp_keeps {x0 x1} (h0 : Keeps a x0) : Keeps a (State.tickGrp x0 x1) := by
  unfold State.tickGrp
  refine keeps_ite ?_ ?_
  · exact h0
  · extract_lets -useContext v10 v11 v12
    have hv11 : Keeps a v11 := State.setGrp_keeps h0
    have hv12 : Keeps a v12 := by
      dsimp -zeta only [v12]
      split
      · exact State.rampStep_keeps hv11
      · exact hv11
    exact State.checkPulses_keeps hv12

theorem execFollowerTick_keepsO {x0} (h0 : Keeps a x0) : KeepsO a (execFollowerTick x0) := by
  unfold execFollowerTick
  refine keepsO_next ?_
  refine keeps_ite ?_ ?_
  · exact h0
  · extract_lets -useContext v10
    have hv10 : Keeps a v10 := State.setVar_keeps h0
    exact keeps_foldl hv10 fun _ _ h11 => (State.tickGrp_keeps h11)

theorem State.loseLock_keeps {x0 x1 x2} (h0 : Keeps a x0) : Keeps a (State.loseLock x0 x1 x2) := by
  unfold State.loseLock
  extract_lets -useContext v10 v11 v12 v13 v14 v15 v16 v17
  have hv10 : Keeps a v10 := State.rampBreak_keeps h0
  have hv12 : Keeps a v12 := State.setGrp_keeps hv10
  have hv13 : Keeps a v13 := State.put_keeps (State.put_keeps hv12)
  have hv14 : Keeps a v14 := State.bump_keeps (State.put64_keeps hv13)
  have hv15 : Keeps a v15 := State.raise_keeps hv14
  have hv16 : Keeps a v16 := State.arm_keeps hv15
  have hv17 : Keeps a v17 := keeps_ite (State.setVar_keeps hv16) (keeps_ite (State.stopTimer_keeps hv16) hv16)
  exact State.synTo_keeps hv17

theorem State.relockFail_keeps {x0 x1} (h0 : Keeps a x0) : Keeps a (State.relockFail x0 x1) := by
  unfold State.relockFail
  extract_lets -useContext v10 v11 v12 v13
  have hv11 : Keeps a v11 := State.setGrp_keeps h0
  have hv12 : Keeps a v12 := State.bump_keeps (State.put_keeps hv11)
  have hv13 : Keeps a v13 := State.raise_keeps hv12
  exact State.synTo_keeps (State.arm_keeps hv13)

theorem State.synLock_keeps {x0 x1} (h0 : Keeps a x0) : Keeps a (State.synLock x0 x1) := by
  unfold State.synLock
  extract_lets -useContext v10 v11 v12 v13 v14 v15
  have hv12 : Keeps a v12 := State.stopTimer_keeps h0
  have hv13 : Keeps a v13 := keeps_ite (State.arm_keeps hv12) hv12
  have hv14 : Keeps a v14 := State.synTo_keeps hv13
  have hv15 : Keeps a v15 := keeps_ite (State.synEnd_keeps hv14) (State.raise_keeps hv14)
  exact keeps_ite (State.loseLock_keeps hv15) (keeps_ite (State.startPair_keeps (State.startPair_keeps hv15)) hv15)

theorem State.heldFreq_keeps {x0 x1 x2} (h0 : Keeps a x0) : Keeps a (State.heldFreq x0 x1 x2) := by
  unfold State.heldFreq
  extract_lets -useContext v10 v11 v12 v13 v14
  have hv10 : Keeps a v10 := State.putI_keeps h0
  have hv14 : Keeps a v14 := State.setGrp_keeps hv10
  exact keeps_ite (State.raise_keeps hv14) hv14

theorem execLockWindow_keepsO {x0 x1 x2 x3 x4} (h4 : Keeps a x4) : KeepsO a (execLockWindow x0 x1 x2 x3 x4) := by
  unfold execLockWindow
  extract_lets -useContext v10 v11 v12 v13 v14 v15 v16 v17 v18 v19 v20
  have hv11 : Keeps a v11 := State.put_keeps h4
  have hv17 : Keeps a v17 := State.setGrp_keeps hv11
  have hv19 : Keeps a v19 := keeps_ite (keeps_ite (State.synLock_keeps hv17) hv17) (keeps_ite (keeps_ite (State.loseLock_keeps hv17) hv17) (keeps_ite (State.heldFreq_keeps hv17) (keeps_ite (State.heldFreq_keeps (State.setGrp_keeps hv17)) (keeps_ite (State.setGrp_keeps hv17) (keeps_ite (State.relockFail_keeps hv17) (keeps_ite (State.synLock_keeps hv17) hv17))))))
  exact keepsO_next (keeps_ite h4 (keeps_ite h4 (State.setGrp_keeps hv19)))

theorem execCycleSlip_keepsO {x0 x1} (h1 : Keeps a x1) : KeepsO a (execCycleSlip x0 x1) :=
  keepsO_next (keeps_ite h1 (keeps_ite (State.loseLock_keeps h1) (keeps_ite (State.relockFail_keeps h1) h1)))

theorem State.startFail_keeps {x0 x1} (h0 : Keeps a x0) : Keeps a (State.startFail x0 x1) := by
  unfold State.startFail
  extract_lets -useContext v10 v11 v12
  have hv11 : Keeps a v11 := State.raise_keeps h0
  have hv12 : Keeps a v12 := State.synTo_keeps (State.stopTimer_keeps hv11)
  exact State.synEnd_keeps hv12

theorem execBandCalDone_keepsO {x0 x1 x2 x3 x4 x5} (h5 : Keeps a x5) : KeepsO a (execBandCalDone x0 x1 x2 x3 x4 x5) := by
  unfold execBandCalDone
  refine keepsO_next ?_
  refine keeps_ite ?_ ?_
  · exact h5
  · refine keeps_ite ?_ ?_
    · extract_lets -useContext v10 v11 v12
      have hv10 : Keeps a v10 := State.put_keeps (State.put_keeps (State.put_keeps h5))
      have hv12 : Keeps a v12 := State.setGrp_keeps hv10
      exact State.synTo_keeps (State.arm_keeps hv12)
    · exact State.startFail_keeps h5

theorem execAcquireTimeout_keepsO {x0 x1} (h1 : Keeps a x1) : KeepsO a (execAcquireTimeout x0 x1) := by
  unfold execAcquireTimeout
  refine keepsO_next ?_
  refine keeps_ite ?_ ?_
  · exact h1
  · extract_lets -useContext v10 v11
    have hv11 : Keeps a v11 := State.stopTimer_keeps (State.bump_keeps h1)
    exact keeps_ite (State.synTo_keeps (State.setGrp_keeps hv11)) (State.startFail_keeps hv11)

theorem State.relock_keeps {x0 x1} (h0 : Keeps a x0) : Keeps a (State.relock x0 x1) :=
  keeps_ite (State.synTo_keeps (State.stopTimer_keeps (State.setGrp_keeps h0))) h0

theorem execRelockDelayExpiry_keepsO {x0 x1} (h1 : Keeps a x1) : KeepsO a (execRelockDelayExpiry x0 x1) :=
  keepsO_next (keeps_ite (State.relock_keeps h1) h1)

theorem execRelockRetry_keepsO {x0 x1} (h1 : Keeps a x1) : KeepsO a (execRelockRetry x0 x1) :=
  keepsO_next (keeps_ite (State.relock_keeps h1) h1)

theorem execRelockRelease_keepsO {x0 x1 x2 x3} (h3 : Keeps a x3) : KeepsO a (execRelockRelease x0 x1 x2 x3) := by
  unfold execRelockRelease
  refine keepsO_next ?_
  refine keeps_ite ?_ ?_
  · exact h3
  · extract_lets -useContext v10 v11
    have hv11 : Keeps a v11 := State.setGrp_keeps h3
    exact State.checkPulses_keeps (State.put_keeps hv11)

theorem execSynHoldEnd_keepsO {x0} (h0 : Keeps a x0) : KeepsO a (execSynHoldEnd x0) := by
  unfold execSynHoldEnd
  exact keepsO_next (keeps_ite (State.stopTimer_keeps h0) h0)

theorem State.synFence_keeps {x0 x1} (h0 : Keeps a x0) : Keeps a (State.synFence x0 x1) := by
  unfold State.synFence
  extract_lets -useContext v10 v11
  have hv11 : Keeps a v11 := State.synEnd_keeps h0
  exact keeps_ite (State.loseLock_keeps hv11) (keeps_ite (State.relockFail_keeps hv11) hv11)

theorem State.synRestart_keeps {x0 x1 x2} (h0 : Keeps a x0) : Keeps a (State.synRestart x0 x1 x2) := by
  unfold State.synRestart
  extract_lets -useContext v10
  have hv10 : Keeps a v10 := State.stopTimer_keeps (State.stopTimer_keeps (State.rampBreak_keeps h0))
  exact keeps_ite (State.synFrom_keeps (State.put_keeps hv10)) (State.synBegin_keeps hv10)

theorem State.synAbsent_keeps {x0 x1} (h0 : Keeps a x0) : Keeps a (State.synAbsent x0 x1) := by
  unfold State.synAbsent
  extract_lets -useContext v10 v11 v12
  have hv10 : Keeps a v10 := State.stopTimer_keeps (State.stopTimer_keeps (State.rampBreak_keeps h0))
  have hv11 : Keeps a v11 := State.synEnd_keeps hv10
  have hv12 : Keeps a v12 := keeps_ite (State.setVar_keeps hv11) (keeps_ite (State.stopTimer_keeps hv11) hv11)
  exact State.synTo_keeps hv12

theorem State.afterSyn_keeps {x0 x1 x2} (h0 : Keeps a x0) : Keeps a (State.afterSyn x0 x1 x2) := by
  unfold State.afterSyn
  extract_lets -useContext v10 v11 v12
  exact keeps_ite h0 (keeps_ite (State.put_keeps h0) (keeps_ite (State.setGrp_keeps h0) h0))

theorem synSetEff_keepsR {x0 x1 x2 x3 x4} (h4 : Keeps a x4) : KeepsR a (synSetEff x0 x1 x2 x3 x4) := by
  unfold synSetEff
  extract_lets -useContext v10 v11
  have hv11 : KeepsR a v11 := State.setWord_keepsR h4
  exact keepsR_ite (keepsR_mk h4) (keepsR_ite (keepsR_mk h4) (keepsR_ite hv11 (keepsR_ite (keepsR_mk h4) (keepsR_mk (State.afterSyn_keeps (keepsR_s hv11))))))

theorem execSynSet_keepsO {x0 x1 x2 x3 x4} (h4 : Keeps a x4) : KeepsO a (execSynSet x0 x1 x2 x3 x4) :=
  keepsO_next (State.runCmd_keeps h4 (fun _ _ h10 => (synSetEff_keepsR h10)))

theorem synStartEff_keepsR {x0 x1 x2 x3} (h3 : Keeps a x3) : KeepsR a (synStartEff x0 x1 x2 x3) := by
  unfold synStartEff
  refine keepsR_ite ?_ ?_
  · exact keepsR_mk h3
  · refine keepsR_ite ?_ ?_
    · exact keepsR_mk h3
    · refine keepsR_ite ?_ ?_
      · exact keepsR_mk h3
      · extract_lets -useContext v10
        have hv10 : Keeps a v10 := State.change_keeps (State.hold_keeps h3)
        exact keepsR_mk (State.synStart_keeps hv10)

theorem execSynStart_keepsO {x0 x1 x2} (h2 : Keeps a x2) : KeepsO a (execSynStart x0 x1 x2) :=
  keepsO_next (State.runCmd_keeps h2 (fun _ _ h10 => (synStartEff_keepsR h10)))

theorem State.synStop_keeps {x0 x1 x2} (h0 : Keeps a x0) : Keeps a (State.synStop x0 x1 x2) := by
  unfold State.synStop
  extract_lets -useContext v10 v11 v12 v13
  have hv10 : Keeps a v10 := State.rampBreak_keeps h0
  have hv11 : Keeps a v11 := State.put_keeps (State.stopTimer_keeps (State.stopTimer_keeps hv10))
  have hv12 : Keeps a v12 := keeps_ite (State.setVar_keeps hv11) (keeps_ite (State.stopTimer_keeps hv11) hv11)
  have hv13 : Keeps a v13 := State.synTo_keeps hv12
  exact keeps_ite h0 (State.synEnd_keeps hv13)

theorem synStopEff_keepsR {x0 x1 x2} (h2 : Keeps a x2) : KeepsR a (synStopEff x0 x1 x2) :=
  keepsR_ite (keepsR_mk h2) (keepsR_ite (keepsR_mk h2) (keepsR_mk (State.change_keeps (State.synStop_keeps h2))))

theorem execSynStop_keepsO {x0 x1 x2} (h2 : Keeps a x2) : KeepsO a (execSynStop x0 x1 x2) :=
  keepsO_next (State.runCmd_keeps h2 (fun _ _ h10 => (synStopEff_keepsR h10)))

theorem synFreqStepEff_keepsR {x0 x1 x2 x3 x4 x5} (h5 : Keeps a x5) : KeepsR a (synFreqStepEff x0 x1 x2 x3 x4 x5) := by
  unfold synFreqStepEff
  refine keepsR_ite ?_ ?_
  · exact keepsR_mk h5
  · refine keepsR_ite ?_ ?_
    · exact keepsR_mk h5
    · refine keepsR_ite ?_ ?_
      · exact keepsR_mk h5
      · refine keepsR_ite ?_ ?_
        · exact keepsR_mk h5
        · refine keepsR_ite ?_ ?_
          · exact keepsR_mk h5
          · extract_lets -useContext v10 v11 v12 v13 v14 v15
            have hv14 : Keeps a v14 := State.change_keeps (State.hold_keeps h5)
            have hv15 : Keeps a v15 := State.setGrp_keeps hv14
            exact keepsR_mk (State.put_keeps (State.put_keeps hv15))

theorem execSynFreqStep_keepsO {x0 x1 x2 x3 x4} (h4 : Keeps a x4) : KeepsO a (execSynFreqStep x0 x1 x2 x3 x4) :=
  keepsO_next (State.runCmd_keeps h4 (fun _ _ h10 => (synFreqStepEff_keepsR h10)))

theorem State.setLane_keeps {x0 x1 x2} (h0 : Keeps a x0) : Keeps a (State.setLane x0 x1 x2) := by
  unfold State.setLane
  exact keeps_of h0

theorem State.measureLane_keeps {x0 x1 x2 x3} (h0 : Keeps a x0) : Keeps a (State.measureLane x0 x1 x2 x3) := by
  unfold State.measureLane
  extract_lets -useContext v10 v11 v12 v13 v14 v15 v16 v17 v18 v19 v20 v21 v22
  have hv21 : Keeps a v21 := State.putI64_keeps h0
  have hv22 : Keeps a v22 := State.putI_keeps (State.putI_keeps hv21)
  exact State.setLane_keeps hv22

theorem State.residual_keeps {x0 x1 x2} (h0 : Keeps a x0) : Keeps a (State.residual x0 x1 x2) := by
  unfold State.residual
  extract_lets -useContext v10 v11 v12 v13
  have hv13 : Keeps a v13 := State.put_keeps (State.putI_keeps h0)
  exact State.setLane_keeps hv13

theorem State.dropShadow_keeps {x0 x1} (h0 : Keeps a x0) : Keeps a (State.dropShadow x0 x1) := by
  unfold State.dropShadow
  exact keeps_ite (State.setLane_keeps h0) h0

theorem State.laneTo_keeps {x0 x1 x2 x3} (h0 : Keeps a x0) : Keeps a (State.laneTo x0 x1 x2 x3) := by
  unfold State.laneTo
  extract_lets -useContext v10 v11 v12 v13 v14 v15 v16
  have hv11 : Keeps a v11 := State.put_keeps h0
  have hv12 : Keeps a v12 := State.raise_keeps (State.put_keeps hv11)
  have hv13 : Keeps a v13 := State.stopTimer_keeps (State.stopTimer_keeps hv12)
  have hv14 : Keeps a v14 := keeps_ite hv13 (State.dropShadow_keeps hv13)
  exact keeps_ite hv11 (keeps_ite (State.arm_keeps hv14) (keeps_ite (State.arm_keeps hv14) (keeps_ite (State.setLane_keeps (State.put_keeps hv14)) hv14)))

theorem State.warnOff_keeps {x0 x1 x2} (h0 : Keeps a x0) : Keeps a (State.warnOff x0 x1 x2) := by
  unfold State.warnOff
  extract_lets -useContext v10 v11
  exact State.stopTimer_keeps (State.putB_keeps (State.setLane_keeps h0))

theorem State.judgeHurdle_keeps {x0 x1 x2} (h0 : Keeps a x0) : Keeps a (State.judgeHurdle x0 x1 x2) := by
  unfold State.judgeHurdle
  split
  · exact h0
  · extract_lets -useContext v10 v11 v12 v13
    have hv11 : Keeps a v11 := State.setLane_keeps h0
    have hv12 : Keeps a v12 := State.arm_keeps (State.put_keeps hv11)
    have hv13 : Keeps a v13 := keeps_ite (State.raise_keeps hv12) (keeps_ite (State.warnOff_keeps h0) h0)
    exact keeps_ite (State.raise_keeps hv13) hv13

theorem State.judgeJump_keeps {x0 x1} (h0 : Keeps a x0) : Keeps a (State.judgeJump x0 x1) := by
  unfold State.judgeJump
  extract_lets -useContext v10
  exact keeps_ite (State.raise_keeps (State.setLane_keeps h0)) h0

theorem State.laneClearNow_keeps {x0 x1} (h0 : Keeps a x0) : Keeps a (State.laneClearNow x0 x1) := by
  unfold State.laneClearNow
  extract_lets -useContext v10 v11
  have hv11 : Keeps a v11 := State.setLane_keeps h0
  exact keeps_ite (keeps_ite (State.laneTo_keeps hv11) hv11) h0

theorem State.judgeLimit_keeps {x0 x1 x2} (h0 : Keeps a x0) : Keeps a (State.judgeLimit x0 x1 x2) := by
  unfold State.judgeLimit
  split
  · exact h0
  · refine keeps_ite ?_ ?_
    · extract_lets -useContext v10
      have hv10 : Keeps a v10 := State.bump_keeps (State.raise_keeps h0)
      exact State.arm_keeps hv10
    · exact keeps_ite (State.laneTo_keeps h0) h0

theorem State.stayLost_keeps {x0 x1 x2} (h0 : Keeps a x0) : Keeps a (State.stayLost x0 x1 x2) := by
  unfold State.stayLost
  extract_lets -useContext v10 v11 v12
  have hv12 : Keeps a v12 := State.setLane_keeps h0
  exact keeps_ite (keeps_ite (State.laneTo_keeps hv12) hv12) (State.laneTo_keeps hv12)

theorem State.judgeHurdles_keeps {x0 x1} (h0 : Keeps a x0) : Keeps a (State.judgeHurdles x0 x1) := by
  unfold State.judgeHurdles
  exact State.judgeJump_keeps (State.judgeHurdle_keeps (State.judgeHurdle_keeps (State.judgeHurdle_keeps h0)))

theorem State.judgeStickies_keeps {x0 x1} (h0 : Keeps a x0) : Keeps a (State.judgeStickies x0 x1) := by
  unfold State.judgeStickies
  extract_lets -useContext v10 v11 v12
  have hv10 : Keeps a v10 := keeps_ite (State.raise_keeps h0) h0
  have hv11 : Keeps a v11 := keeps_ite (State.raise_keeps hv10) hv10
  have hv12 : Keeps a v12 := by
    dsimp -zeta only [v12]
    split
    · exact keeps_ite (State.raise_keeps hv11) hv11
    · exact hv11
  exact State.judgeHurdles_keeps hv12

theorem State.noteCfg_keeps {x0 x1} (h0 : Keeps a x0) : Keeps a (State.noteCfg x0 x1) := by
  unfold State.noteCfg
  extract_lets -useContext v10 v11 v12 v13 v14
  have hv13 : Keeps a v13 := keeps_ite (State.put_keeps h0) h0
  exact State.setLane_keeps hv13

theorem State.judgeLive_keeps {x0 x1 x2} (h0 : Keeps a x0) : Keeps a (State.judgeLive x0 x1 x2) := by
  unfold State.judgeLive
  extract_lets -useContext v10 v11
  have hv11 : Keeps a v11 := State.judgeStickies_keeps h0
  refine keeps_ite ?_ ?_
  · exact keeps_ite hv11 (State.laneTo_keeps hv11)
  · split
    · exact keeps_ite (State.stayLost_keeps hv11) (State.laneTo_keeps hv11)
    · exact keeps_ite (State.laneTo_keeps hv11) (keeps_ite (State.laneTo_keeps hv11) (State.judgeLimit_keeps hv11))

theorem State.laneJudge_keeps {x0 x1} (h0 : Keeps a x0) : Keeps a (State.laneJudge x0 x1) := by
  unfold State.laneJudge
  extract_lets -useContext v10 v11
  have hv11 : Keeps a v11 := State.noteCfg_keeps h0
  exact keeps_ite (keeps_ite hv11 (State.laneTo_keeps hv11)) (State.judgeLive_keeps (State.laneClearNow_keeps hv11))

theorem State.tellDisagree_keeps {x0 x1 x2} (h0 : Keeps a x0) : Keeps a (State.tellDisagree x0 x1 x2) := by
  unfold State.tellDisagree
  exact State.raise_keeps h0

theorem State.pairSticky_keeps {x0 x1 x2} (h0 : Keeps a x0) : Keeps a (State.pairSticky x0 x1 x2) := by
  unfold State.pairSticky
  exact keeps_ite (State.tellDisagree_keeps (State.tellDisagree_keeps h0)) h0

theorem State.flagDisagree_keeps {x0 x1 x2} (h0 : Keeps a x0) : Keeps a (State.flagDisagree x0 x1 x2) := by
  unfold State.flagDisagree
  exact State.put_keeps (State.tellDisagree_keeps h0)

theorem State.suspect_keeps {x0 x1 x2} (h0 : Keeps a x0) : Keeps a (State.suspect x0 x1 x2) :=
  keeps_ite h0 (State.laneTo_keeps h0)

theorem State.noteLoser_keeps {x0 x1 x2 x3} (h0 : Keeps a x0) : Keeps a (State.noteLoser x0 x1 x2 x3) := by
  unfold State.noteLoser
  exact keeps_of h0

theorem State.judgePair_keeps {x0 x1 x2} (h0 : Keeps a x0) : Keeps a (State.judgePair x0 x1 x2) := by
  unfold State.judgePair
  extract_lets -useContext v10 v11 v12 v13 v14 v15 v16
  have hv10 : Keeps a v10 := keeps_of h0
  have hv12 : Keeps a v12 := State.setLane_keeps hv10
  have hv14 : Keeps a v14 := keeps_ite h0 (State.setLane_keeps hv12)
  have hv15 : Keeps a v15 := State.flagDisagree_keeps (State.flagDisagree_keeps hv14)
  have hv16 : Keeps a v16 := State.arm_keeps hv15
  refine keeps_ite ?_ ?_
  · exact h0
  · split
    · exact State.noteLoser_keeps hv16
    · exact keeps_ite (State.noteLoser_keeps hv16) (State.suspect_keeps (State.noteLoser_keeps hv16))

theorem State.leaveEpisode_keeps {x0 x1 x2} (h0 : Keeps a x0) : Keeps a (State.leaveEpisode x0 x1 x2) := by
  unfold State.leaveEpisode
  extract_lets -useContext v10
  have hv10 : Keeps a v10 := keeps_ite h0 (State.put_keeps h0)
  exact keeps_ite h0 (keeps_ite (State.laneTo_keeps hv10) hv10)

theorem State.endEpisode_keeps {x0 x1 x2} (h0 : Keeps a x0) : Keeps a (State.endEpisode x0 x1 x2) := by
  unfold State.endEpisode
  extract_lets -useContext v10 v11
  have hv10 : Keeps a v10 := by
    dsimp -zeta only [v10]
    split
    · exact keeps_ite (State.setLane_keeps h0) h0
    · exact h0
  have hv11 : Keeps a v11 := keeps_of hv10
  exact State.leaveEpisode_keeps (State.leaveEpisode_keeps (State.stopTimer_keeps hv11))

theorem State.judgeEpisodes_keeps {x0 x1} (h0 : Keeps a x0) : Keeps a (State.judgeEpisodes x0 x1) := by
  induction x1 generalizing x0 with
  | nil => exact h0
  | cons e es ih =>
    exact ih (keeps_ite (State.endEpisode_keeps h0) (keeps_ite (State.arm_keeps h0) (keeps_ite (State.endEpisode_keeps h0) h0)))

theorem State.setAllows_keeps {x0} (h0 : Keeps a x0) : Keeps a (State.setAllows x0) := by
  unfold State.setAllows
  extract_lets -useContext v10
  have hv10 : Keeps a v10 := keeps_of h0
  refine keeps_foldl ?_ ?_
  · exact hv10
  · intro y12 y13 h14
    extract_lets -useContext v15
    exact State.put_keeps h14

theorem State.showModel_keeps {x0 x1} (h0 : Keeps a x0) : Keeps a (State.showModel x0 x1) := by
  unfold State.showModel
  extract_lets -useContext v10 v11 v12 v13 v14 v15
  have hv12 : Keeps a v12 := State.putI64_keeps h0
  have hv13 : Keeps a v13 := State.put_keeps (State.putI_keeps hv12)
  have hv14 : Keeps a v14 := State.putB_keeps (State.putB_keeps hv13)
  have hv15 : Keeps a v15 := State.put_keeps (State.putB_keeps hv14)
  exact State.put64_keeps hv15

theorem State.showValid_keeps {x0} (h0 : Keeps a x0) : Keeps a (State.showValid x0) := by
  unfold State.showValid
  extract_lets -useContext v10 v11
  have hv11 : Keeps a v11 := State.putB_keeps h0
  exact keeps_ite (State.raise_keeps hv11) hv11

theorem State.showDisc_keeps {x0} (h0 : Keeps a x0) : Keeps a (State.showDisc x0) := by
  unfold State.showDisc
  extract_lets -useContext v10 v11 v12
  have hv10 : Keeps a v10 := State.put_keeps h0
  have hv11 : Keeps a v11 := State.put_keeps (State.put_keeps hv10)
  have hv12 : Keeps a v12 := State.showValid_keeps hv11
  exact State.putB_keeps hv12

theorem State.publishTeb_keeps {x0 x1} (h0 : Keeps a x0) : Keeps a (State.publishTeb x0 x1) := by
  unfold State.publishTeb
  extract_lets -useContext v10
  have hv10 : Keeps a v10 := State.showDisc_keeps (State.putB_keeps (State.put_keeps h0))
  exact keeps_ite (State.raise_keeps hv10) hv10

theorem State.anchor_keeps {x0 x1 x2 x3 x4} (h0 : Keeps a x0) : Keeps a (State.anchor x0 x1 x2 x3 x4) := by
  unfold State.anchor
  extract_lets -useContext v10 v11 v12 v13 v14
  have hv12 : Keeps a v12 := State.put_keeps (State.put64_keeps h0)
  have hv13 : Keeps a v13 := State.put_keeps (State.put_keeps (State.put_keeps hv12))
  have hv14 : Keeps a v14 := State.setVar_keeps hv13
  exact State.putB_keeps hv14

theorem State.noteFreq_keeps {x0} (h0 : Keeps a x0) : Keeps a (State.noteFreq x0) := by
  unfold State.noteFreq
  exact State.setVar_keeps (State.setVar_keeps h0)

theorem State.freqAnchor_keeps {x0} (h0 : Keeps a x0) : Keeps a (State.freqAnchor x0) := by
  unfold State.freqAnchor
  exact State.put_keeps (State.put64_keeps h0)

theorem State.changeSource_keeps {x0 x1} (h0 : Keeps a x0) : Keeps a (State.changeSource x0 x1) := by
  unfold State.changeSource
  extract_lets -useContext v10 v11 v12 v13 v14
  have hv14 : Keeps a v14 := State.anchor_keeps h0
  exact State.raise_keeps hv14

theorem State.loopUpdate_keeps {x0 x1 x2} (h0 : Keeps a x0) : Keeps a (State.loopUpdate x0 x1 x2) := by
  unfold State.loopUpdate
  extract_lets -useContext v10 v11 v12 v13 v14 v15 v16 v17
  have hv13 : Keeps a v13 := State.setRate_keeps h0
  have hv14 : Keeps a v14 := State.correct_keeps hv13
  have hv15 : Keeps a v15 := State.setVar_keeps (State.setVar_keeps hv14)
  have hv16 : Keeps a v16 := State.setVar_keeps hv15
  have hv17 : Keeps a v17 := State.pmcEvent_keeps hv16
  refine keeps_ite ?_ ?_
  · exact h0
  · refine keeps_ite ?_ ?_
    · exact State.stopTimer_keeps hv17
    · split
      · exact hv17
      · exact State.arm_keeps hv17

theorem State.settleIfDue_keeps {x0} (h0 : Keeps a x0) : Keeps a (State.settleIfDue x0) :=
  keeps_ite (State.setVar_keeps h0) h0

theorem State.discAnchor_keeps {x0} (h0 : Keeps a x0) : Keeps a (State.discAnchor x0) := by
  unfold State.discAnchor
  extract_lets -useContext v10 v11 v12 v13 v14 v15 v16 v17
  have hv16 : Keeps a v16 := keeps_ite (State.setVar_keeps h0) h0
  have hv17 : Keeps a v17 := State.anchor_keeps hv16
  exact keeps_ite (keeps_ite (State.noteFreq_keeps hv17) hv17) (keeps_ite (State.freqAnchor_keeps hv16) (keeps_ite (State.changeSource_keeps hv16) hv16))

theorem State.discEvents_keeps {x0 x1 x2} (h0 : Keeps a x0) : Keeps a (State.discEvents x0 x1 x2) := by
  unfold State.discEvents
  refine keeps_ite ?_ ?_
  · exact h0
  · extract_lets -useContext v10 v11 v12
    have hv10 : Keeps a v10 := State.raise_keeps h0
    have hv11 : Keeps a v11 := keeps_ite (State.raise_keeps hv10) hv10
    have hv12 : Keeps a v12 := keeps_ite (State.raise_keeps hv11) hv11
    exact keeps_ite (State.raise_keeps hv12) hv12

theorem State.dropSource_keeps {x0} (h0 : Keeps a x0) : Keeps a (State.dropSource x0) := by
  unfold State.dropSource
  exact keeps_ite h0 (State.put_keeps (State.setVar_keeps h0))

theorem State.markUsable_keeps {x0 x1} (h0 : Keeps a x0) : Keeps a (State.markUsable x0 x1) := by
  unfold State.markUsable
  refine keeps_foldl ?_ ?_
  · exact h0
  · intro s x h11
    extract_lets -useContext v12 v13
    exact State.setLane_keeps h11

theorem State.discRate_keeps {x0 x1 x2} (h0 : Keeps a x0) : Keeps a (State.discRate x0 x1 x2) := by
  unfold State.discRate
  extract_lets -useContext v10 v11 v12
  have hv11 : Keeps a v11 := keeps_ite h0 (keeps_ite (State.setRate_keeps h0) (keeps_ite (State.setRate_keeps h0) h0))
  exact keeps_of hv11

theorem State.endShadowWait_keeps {x0} (h0 : Keeps a x0) : Keeps a (State.endShadowWait x0) := by
  unfold State.endShadowWait
  exact keeps_of h0

theorem State.discLap_keeps {x0} (h0 : Keeps a x0) : Keeps a (State.discLap x0) := by
  unfold State.discLap
  extract_lets -useContext v10 v11 v12 v13 v14 v15 v16 v17 v18 v19 v20 v21 v22 v23 v24 v25
  have hv11 : Keeps a v11 := State.settleIfDue_keeps h0
  have hv12 : Keeps a v12 := keeps_ite (State.stopTimer_keeps (State.setVar_keeps hv11)) hv11
  have hv13 : Keeps a v13 := State.dropSource_keeps (State.discAnchor_keeps hv12)
  have hv15 : Keeps a v15 := State.markUsable_keeps hv13
  have hv16 : Keeps a v16 := State.put_keeps hv15
  have hv17 : Keeps a v17 := State.discRate_keeps hv16
  have hv18 : Keeps a v18 := keeps_ite (State.setVar_keeps (State.setVar_keeps hv17)) hv17
  have hv21 : Keeps a v21 := State.putB_keeps (State.put_keeps hv18)
  have hv22 : Keeps a v22 := State.discEvents_keeps (State.publishTeb_keeps hv21)
  have hv23 : Keeps a v23 := State.setVar_keeps (State.setVar_keeps (State.setVar_keeps hv22))
  have hv24 : Keeps a v24 := keeps_ite (State.setVar_keeps (State.setVar_keeps hv23)) hv23
  have hv25 : Keeps a v25 := State.endShadowWait_keeps hv24
  exact keeps_ite (State.setVar_keeps hv25) hv25

theorem State.freeze_keeps {x0} (h0 : Keeps a x0) : Keeps a (State.freeze x0) :=
  keeps_ite h0 (State.setVar_keeps (State.setVar_keeps (State.setVar_keeps h0)))

theorem execLoopSettled_keepsO {x0} (h0 : Keeps a x0) : KeepsO a (execLoopSettled x0) := by
  unfold execLoopSettled
  refine keepsO_next ?_
  refine keeps_ite ?_ ?_
  · extract_lets -useContext v10
    have hv10 : Keeps a v10 := State.settleIfDue_keeps h0
    exact keeps_ite (State.discLap_keeps hv10) hv10
  · exact h0

theorem State.lockSecond_keeps {x0} (h0 : Keeps a x0) : Keeps a (State.lockSecond x0) :=
  State.bumpSat_keeps h0

theorem State.recordSecond_keeps {x0 x1 x2} (h0 : Keeps a x0) : Keeps a (State.recordSecond x0 x1 x2) := by
  unfold State.recordSecond
  extract_lets -useContext v10 v11 v12
  exact keeps_of h0

theorem State.beginSecond_keeps {x0} (h0 : Keeps a x0) : Keeps a (State.beginSecond x0) := by
  unfold State.beginSecond
  extract_lets -useContext v10 v11
  have hv10 : Keeps a v10 := keeps_foldl h0 fun _ _ h12 => (State.setLane_keeps h12)
  have hv11 : Keeps a v11 := State.setVar_keeps (State.setVar_keeps (State.setVar_keeps (State.setVar_keeps hv10)))
  exact State.arm_keeps hv11

theorem execModelRefit_keepsO {x0} (h0 : Keeps a x0) : KeepsO a (execModelRefit x0) := by
  unfold execModelRefit
  refine keepsO_next ?_
  refine keeps_ite ?_ ?_
  · exact State.setVar_keeps h0
  · refine keeps_ite ?_ ?_
    · exact State.beginSecond_keeps h0
    · refine keeps_ite ?_ ?_
      · exact h0
      · extract_lets -useContext v10 v11 v12 v13
        have hv13 : Keeps a v13 := State.lockSecond_keeps (State.recordSecond_keeps h0)
        exact State.beginSecond_keeps (State.showModel_keeps hv13)

theorem execModelValid_keepsO {x0} (h0 : Keeps a x0) : KeepsO a (execModelValid x0) := by
  unfold execModelValid
  exact keepsO_next (keeps_ite (State.showValid_keeps h0) h0)

theorem timeResetEff_keepsR {x0 x1} (h1 : Keeps a x1) : KeepsR a (timeResetEff x0 x1) := by
  unfold timeResetEff
  extract_lets -useContext v10 v11 v12 v13
  have hv10 : Keeps a v10 := State.put_keeps h1
  have hv11 : Keeps a v11 := State.setVar_keeps (State.setVar_keeps (State.stopTimer_keeps (State.setVar_keeps hv10)))
  have hv12 : Keeps a v12 := State.noteFreq_keeps (State.anchor_keeps (State.setVar_keeps hv11))
  have hv13 : Keeps a v13 := State.publishTeb_keeps (State.put_keeps (State.dropSource_keeps hv12))
  exact keepsR_mk (State.change_keeps hv13)

theorem execTimeReset_keepsO {x0 x1} (h1 : Keeps a x1) : KeepsO a (execTimeReset x0 x1) :=
  keepsO_next (State.runCmd_keeps h1 (fun _ _ h10 => (timeResetEff_keepsR h10)))

theorem State.afterClass_keeps {x0 x1 x2} (h0 : Keeps a x0) : Keeps a (State.afterClass x0 x1 x2) := by
  unfold State.afterClass
  extract_lets -useContext v10 v11
  have hv10 : Keeps a v10 := keeps_ite (State.put_keeps h0) h0
  have hv11 : Keeps a v11 := keeps_ite (State.put_keeps hv10) hv10
  split
  · split
    · extract_lets -useContext v12
      have hv12 : Keeps a v12 := keeps_ite hv11 (State.put_keeps (State.put_keeps (State.put_keeps hv11)))
      exact keeps_ite hv12 (State.put_keeps (State.put_keeps (State.put_keeps hv12)))

theorem State.bumpCalSeq_keeps {x0} (h0 : Keeps a x0) : Keeps a (State.bumpCalSeq x0) :=
  State.setVar_keeps h0

theorem State.afterHob_keeps {x0 x1 x2 x3 x4} (h0 : Keeps a x0) : Keeps a (State.afterHob x0 x1 x2 x3 x4) := by
  unfold State.afterHob
  extract_lets -useContext v10 v11
  have hv10 : Keeps a v10 := keeps_ite (State.afterClass_keeps h0) h0
  exact keeps_ite (State.bumpCalSeq_keeps hv10) hv10

theorem hobSetEff_keepsR {x0 x1 x2 x3} (h3 : Keeps a x3) : KeepsR a (hobSetEff x0 x1 x2 x3) := by
  unfold hobSetEff
  extract_lets -useContext v10 v11 v12 v13 v14
  have hv14 : KeepsR a v14 := State.setWord_keepsR h3
  exact keepsR_ite (keepsR_ite (keepsR_mk (State.afterHob_keeps (keepsR_s hv14))) hv14) (keepsR_mk h3)

theorem execHobSet_keepsO {x0 x1 x2 x3} (h3 : Keeps a x3) : KeepsO a (execHobSet x0 x1 x2 x3) :=
  keepsO_next (State.runCmd_keeps h3 (fun _ _ h10 => (hobSetEff_keepsR h10)))

theorem modelResetEff_keepsR {x0 x1} (h1 : Keeps a x1) : KeepsR a (modelResetEff x0 x1) := by
  unfold modelResetEff
  extract_lets -useContext v10 v11 v12 v13 v14
  have hv11 : Keeps a v11 := State.setVar_keeps h1
  have hv12 : Keeps a v12 := keeps_of hv11
  have hv13 : Keeps a v13 := State.showModel_keeps (State.put_keeps hv12)
  have hv14 : Keeps a v14 := State.showDisc_keeps (State.raise_keeps hv13)
  exact keepsR_ite (keepsR_mk h1) (keepsR_mk (State.change_keeps hv14))

theorem execModelReset_keepsO {x0 x1} (h1 : Keeps a x1) : KeepsO a (execModelReset x0 x1) :=
  keepsO_next (State.runCmd_keeps h1 (fun _ _ h10 => (modelResetEff_keepsR h10)))

theorem tebPredictEff_keepsR {x0 x1 x2} (h2 : Keeps a x2) : KeepsR a (tebPredictEff x0 x1 x2) := by
  unfold tebPredictEff
  refine keepsR_ite ?_ ?_
  · exact keepsR_mk h2
  · split
    · extract_lets -useContext v10 v11 v12 v13
      exact keepsR_mk h2

theorem execTebPredict_keepsO {x0 x1 x2} (h2 : Keeps a x2) : KeepsO a (execTebPredict x0 x1 x2) :=
  keepsO_next (State.runCmd_keeps h2 (fun _ _ h10 => (tebPredictEff_keepsR h10)))

end Sys2Proof.Machine
end

