-- ==== Sys2Proof/Laws/KeepsC.lean ====
section
/-! SUPPORT. What operations keep: those of Outputs, Select, Tim. -/

set_option Elab.async false

namespace Sys2Proof.Machine

variable {a : State}

theorem State.pulseAligned_keeps {x0 x1 x2} (h0 : Keeps a x0) : Keeps a (State.pulseAligned x0 x1 x2) := by
  unfold State.pulseAligned
  extract_lets -useContext v10 v11 v12 v13
  have hv11 : Keeps a v11 := State.loadAlign_keeps h0
  exact State.setOut_keeps hv11

theorem State.endWalk_keeps {x0 x1} (h0 : Keeps a x0) : Keeps a (State.endWalk x0 x1) := by
  unfold State.endWalk
  split
  · exact keeps_ite h0 (State.alignDone_keeps (keeps_ite h0 (State.pulseAligned_keeps h0)))
  · exact h0

theorem State.walkStep_keeps {x0 x1} (h0 : Keeps a x0) : Keeps a (State.walkStep x0 x1) := by
  unfold State.walkStep
  extract_lets -useContext v10 v11 v12 v13 v14 v15 v16
  have hv14 : Keeps a v14 := keeps_ite (State.putI_keeps h0) (State.setOut_keeps h0)
  have hv16 : Keeps a v16 := State.setOut_keeps hv14
  exact State.endWalk_keeps (State.pmcEvent_keeps hv16)

theorem execClockWalkStep_keepsO {x0 x1} (h1 : Keeps a x1) : KeepsO a (execClockWalkStep x0 x1) := by
  unfold execClockWalkStep
  refine keepsO_next ?_
  extract_lets -useContext v10
  exact keeps_ite h1 (keeps_ite (State.walkStep_keeps h1) (State.endWalk_keeps h1))

theorem execPulseEdge_keepsO {x0 x1} (h1 : Keeps a x1) : KeepsO a (execPulseEdge x0 x1) := by
  unfold execPulseEdge
  exact keepsO_next (keeps_ite h1 (State.pulseEdge_keeps h1))

theorem State.alignOut_keeps {x0 x1 x2 x3} (h0 : Keeps a x0) : Keeps a (State.alignOut x0 x1 x2 x3) := by
  unfold State.alignOut
  refine keeps_ite ?_ ?_
  · exact State.alignDone_keeps (State.outTo_keeps (State.put_keeps (State.startOut_keeps h0)))
  · extract_lets -useContext v10 v11 v12 v13 v14 v15
    have hv14 : Keeps a v14 := State.setOut_keeps h0
    have hv15 : Keeps a v15 := keeps_ite hv14 (State.put_keeps hv14)
    exact State.endWalk_keeps hv15

theorem outAlignEff_keepsR {x0 x1 x2 x3 x4} (h4 : Keeps a x4) : KeepsR a (outAlignEff x0 x1 x2 x3 x4) := by
  unfold outAlignEff
  refine keepsR_ite ?_ ?_
  · exact keepsR_mk h4
  · extract_lets -useContext v10 v11
    have hv11 : Keeps a v11 := keeps_foldl h4 fun _ _ h12 => (State.alignOut_keeps h12)
    split
    · exact keepsR_mk h4
    · exact keepsR_mk (State.change_keeps hv11)

theorem execOutAlign_keepsO {x0 x1 x2 x3 x4} (h4 : Keeps a x4) : KeepsO a (execOutAlign x0 x1 x2 x3 x4) :=
  keepsO_next (State.runCmd_keeps h4 (fun _ _ h10 => (outAlignEff_keepsR h10)))

theorem State.afterOut_keeps {x0 x1} (h0 : Keeps a x0) : Keeps a (State.afterOut x0 x1) := by
  unfold State.afterOut
  extract_lets -useContext v10 v11
  exact keeps_ite (State.put_keeps h0) h0

theorem outSetEff_keepsR {x0 x1 x2 x3 x4} (h4 : Keeps a x4) : KeepsR a (outSetEff x0 x1 x2 x3 x4) := by
  unfold outSetEff
  split
  · exact keepsR_mk h4
  · split
    · exact keepsR_mk h4
    · extract_lets -useContext v10
      have hv10 : KeepsR a v10 := State.setWord_keepsR h4
      exact keepsR_ite (keepsR_mk (State.afterOut_keeps (keepsR_s hv10))) hv10

theorem execOutSet_keepsO {x0 x1 x2 x3 x4} (h4 : Keeps a x4) : KeepsO a (execOutSet x0 x1 x2 x3 x4) :=
  keepsO_next (State.runCmd_keeps h4 (fun _ _ h10 => (outSetEff_keepsR h10)))

theorem State.todSeries_keeps1 {x0 x1} (h0 : Keeps a x0) : Keeps1 a (State.todSeries x0 x1) := by
  unfold State.todSeries
  split
  · extract_lets -useContext v10
    have hv10 : Keeps a v10 := State.jumped_keeps h0
    exact keeps1_ite (keeps1_mk hv10) (keeps1_mk h0)
  · exact keeps1_mk h0

theorem State.todEnable_keeps {x0 x1} (h0 : Keeps a x0) : Keeps a (State.todEnable x0 x1) := by
  unfold State.todEnable
  extract_lets -useContext v10 v11 v12 v13
  exact State.setVar_keeps (State.setVar_keeps h0)

theorem State.todFence_keeps {x0 x1} (h0 : Keeps a x0) : Keeps a (State.todFence x0 x1) :=
  State.setVar_keeps h0

theorem State.todStep_keeps {x0 x1} (h0 : Keeps a x0) : Keeps a (State.todStep x0 x1) := by
  unfold State.todStep
  refine keeps_foldl ?_ ?_
  · exact h0
  · intro y11 y12 h13
    extract_lets -useContext v14 v15 v16 v17
    exact State.setVar_keeps h13

theorem execTodMessage_keepsO {x0 x1} (h1 : Keeps a x1) : KeepsO a (execTodMessage x0 x1) := by
  unfold execTodMessage
  extract_lets -useContext v10 v11
  refine keepsO_next ?_
  split
  · rename_i y12 y13 y14 e15
    extract_lets -useContext v17 v18 v19 v20 v21
    have hv19 : Keeps a v19 := keeps_of h1
    have hv20 : Keeps a v20 := State.putB_keeps (State.put_keeps hv19)
    have hv21 : Keeps a v21 := State.setVar_keeps (State.setVar_keeps hv20)
    exact keeps_ite h1 (State.pmcEvent_keeps (State.bump_keeps hv21))

theorem State.runWtr_keeps {x0} (h0 : Keeps a x0) : Keeps a (State.runWtr x0) := by
  unfold State.runWtr
  split
  · exact keeps_ite h0 (State.arm_keeps (State.setVar_keeps h0))
  · exact State.stopTimer_keeps (State.setVar_keeps h0)

theorem State.slewFor_keeps1 {x0 x1 x2 x3} (h0 : Keeps a x0) : Keeps1 a (State.slewFor x0 x1 x2 x3) := by
  unfold State.slewFor
  extract_lets -useContext v10 v11 v12 v13 v14
  have hv11 : Keeps a v11 := State.correct_keeps h0
  have hv12 : Keeps a v12 := keeps_ite (State.setVar_keeps hv11) hv11
  have hv14 : Keeps a v14 := keeps_of hv12
  exact keeps1_ite (keeps1_mk (keeps_ite (State.noteRetired_keeps hv14) hv14)) (keeps1_mk (State.correct_keeps h0))

theorem State.setBuildout_keeps {x0 x1 x2 x3} (h0 : Keeps a x0) : Keeps a (State.setBuildout x0 x1 x2 x3) :=
  State.putB_keeps (State.putI64_keeps h0)

theorem State.acquire_keeps {x0 x1 x2} (h0 : Keeps a x0) : Keeps a (State.acquire x0 x1 x2) := by
  unfold State.acquire
  extract_lets -useContext v10 v11 v12
  have hv10 : Keeps a v10 := State.setBuildout_keeps (State.setVar_keeps (State.put_keeps h0))
  exact keeps_ite (keeps_of hv10) (keeps1_fst (State.slewFor_keeps1 hv10))

theorem State.buildOut_keeps {x0 x1 x2 x3 x4} (h0 : Keeps a x0) : Keeps a (State.buildOut x0 x1 x2 x3 x4) := by
  unfold State.buildOut
  refine keeps_ite ?_ ?_
  · exact State.acquire_keeps h0
  · refine keeps_ite ?_ ?_
    · split
      · rename_i y10 y11 y12 e13
        have h14 : Keeps a y11 := keeps_fst e13 (State.slewFor_keeps1 h0)
        exact State.setBuildout_keeps h14
    · refine keeps_ite ?_ ?_
      · split
        · rename_i y15 y16 y17 e18
          have h19 : Keeps a y16 := keeps_fst e18 (State.slewFor_keeps1 h0)
          exact State.setBuildout_keeps h19
      · exact State.setBuildout_keeps h0

theorem State.deselect_keeps {x0 x1} (h0 : Keeps a x0) : Keeps a (State.deselect x0 x1) := by
  unfold State.deselect
  extract_lets -useContext v10 v11 v12 v13
  have hv10 : Keeps a v10 := keeps_ite (keeps_ite (State.laneTo_keeps h0) (State.laneTo_keeps h0)) h0
  have hv11 : Keeps a v11 := State.setBuildout_keeps hv10
  have hv13 : Keeps a v13 := State.setLane_keeps hv11
  exact keeps_of hv13

theorem State.switchTo_keeps {x0 x1} (h0 : Keeps a x0) : Keeps a (State.switchTo x0 x1) := by
  unfold State.switchTo
  extract_lets -useContext v10 v11 v12 v13 v14 v15 v16 v17 v18 v19 v20
  have hv13 : Keeps a v13 := by
    dsimp -zeta only [v13]
    clear_value v10
    split
    · rename_i y21 y22
      exact State.deselect_keeps h0
    · rename_i y23
      exact h0
  have hv14 : Keeps a v14 := State.bump_keeps hv13
  have hv15 : Keeps a v15 := State.put64_keeps hv14
  have hv16 : Keeps a v16 := State.putB_keeps (State.put_keeps hv15)
  have hv17 : Keeps a v17 := State.putB_keeps (State.put_keeps hv16)
  have hv18 : Keeps a v18 := State.setVar_keeps (State.setVar_keeps (State.setVar_keeps hv17))
  have hv19 : Keeps a v19 := State.put_keeps (State.put_keeps hv18)
  have hv20 : Keeps a v20 := State.putI64_keeps hv19
  split
  · rename_i y24
    exact State.raise_keeps hv20
  · rename_i y25 y26
    extract_lets -useContext v27 v28 v29 v30 v31 v32 v33 v34
    have hv29 : Keeps a v29 := State.buildOut_keeps hv18
    have hv31 : Keeps a v31 := State.laneTo_keeps (State.put_keeps (State.put_keeps hv29))
    have hv32 : Keeps a v32 := State.putI64_keeps hv31
    have hv34 : Keeps a v34 := keeps_ite (State.arm_keeps (keeps_of hv32)) hv32
    exact State.raise_keeps hv34

theorem State.showSel_keeps {x0} (h0 : Keeps a x0) : Keeps a (State.showSel x0) := by
  unfold State.showSel
  extract_lets -useContext v10 v11 v12 v13 v14 v15 v16 v17
  have hv14 : Keeps a v14 := State.putB_keeps (State.putB_keeps h0)
  have hv15 : Keeps a v15 := State.putB_keeps hv14
  have hv16 : Keeps a v16 := State.putB_keeps hv15
  have hv17 : Keeps a v17 := State.put_keeps (State.putB_keeps hv16)
  exact keeps_ite (State.raise_keeps hv17) hv17

theorem State.dropForce_keeps {x0} (h0 : Keeps a x0) : Keeps a (State.dropForce x0) := by
  unfold State.dropForce
  split
  · exact keeps_ite (State.raise_keeps (State.put_keeps (State.setVar_keeps h0))) h0
  · exact h0

theorem State.choose_keeps {x0} (h0 : Keeps a x0) : Keeps a (State.choose x0) := by
  unfold State.choose
  extract_lets -useContext v10 v11 v12
  have hv10 : Keeps a v10 := State.runWtr_keeps (State.dropForce_keeps h0)
  have hv12 : Keeps a v12 := by
    refine keeps_ite ?_ ?_
    · exact State.runWtr_keeps (State.switchTo_keeps hv10)
    · split
      · exact keeps_ite (State.acquire_keeps hv10) hv10
      · exact hv10
  exact State.showSel_keeps hv12

theorem State.carryShadows_keeps {x0 x1} (h0 : Keeps a x0) : Keeps a (State.carryShadows x0 x1) := by
  unfold State.carryShadows
  exact keeps_of h0

theorem State.anchorShadow_keeps {x0 x1} (h0 : Keeps a x0) : Keeps a (State.anchorShadow x0 x1) := by
  unfold State.anchorShadow
  extract_lets -useContext v10 v11 v12 v13 v14 v15 v16 v17
  have hv13 : Keeps a v13 := State.carryShadows_keeps h0
  have hv15 : Keeps a v15 := keeps_of hv13
  have hv16 : Keeps a v16 := State.setVar_keeps (State.setVar_keeps (State.setVar_keeps (State.setVar_keeps hv15)))
  have hv17 : Keeps a v17 := State.setVar_keeps (State.setVar_keeps (State.setVar_keeps hv16))
  exact State.arm_keeps hv17

theorem State.stepShadow_keeps {x0 x1} (h0 : Keeps a x0) : Keeps a (State.stepShadow x0 x1) := by
  unfold State.stepShadow
  extract_lets -useContext v10
  have hv10 : Keeps a v10 := State.carryShadows_keeps h0
  exact keeps_ite (State.anchorShadow_keeps hv10) (State.setVar_keeps (State.setVar_keeps hv10))

theorem State.xReport_keeps {x0 x1 x2 x3} (h0 : Keeps a x0) : Keeps a (State.xReport x0 x1 x2 x3) :=
  State.raise_keeps (State.raise_keeps h0)

theorem State.crossCheck_keeps {x0 x1} (h0 : Keeps a x0) : Keeps a (State.crossCheck x0 x1) := by
  unfold State.crossCheck
  extract_lets -useContext v10 v11 v12 v13 v14 v15
  have hv11 : Keeps a v11 := keeps_ite (State.anchorShadow_keeps h0) h0
  refine keeps_ite ?_ ?_
  · exact h0
  · refine keeps_ite ?_ ?_
    · split
      · exact keeps_ite (State.setLane_keeps hv11) hv11
      · refine keeps_ite ?_ ?_
        · exact hv11
        · extract_lets -useContext v16 v17
          have hv16 : Keeps a v16 := State.xReport_keeps hv11
          exact keeps_ite (State.anchorShadow_keeps hv16) (State.setLane_keeps hv16)
    · exact keeps_ite (keeps_ite (State.setLane_keeps h0) h0) (keeps_ite h0 (State.setLane_keeps (State.xReport_keeps h0)))

theorem execShadowAnchor_keepsO {x0} (h0 : Keeps a x0) : KeepsO a (execShadowAnchor x0) :=
  keepsO_next (keeps_ite (State.anchorShadow_keeps h0) h0)

theorem State.laneMeasured_keeps {x0 x1 x2 x3} (h0 : Keeps a x0) : Keeps a (State.laneMeasured x0 x1 x2 x3) := by
  unfold State.laneMeasured
  extract_lets -useContext v10 v11 v12
  have hv10 : Keeps a v10 := State.pmcEvent_keeps (State.measureLane_keeps h0)
  have hv11 : Keeps a v11 := State.loopUpdate_keeps hv10
  have hv12 : Keeps a v12 := keeps_ite (keeps_ite hv10 (State.residual_keeps hv11)) (keeps_ite (State.residual_keeps hv10) hv10)
  exact keeps_ite h0 (State.crossCheck_keeps hv12)

theorem execLaneMeasurement_keepsO {x0 x1 x2} (h2 : Keeps a x2) : KeepsO a (execLaneMeasurement x0 x1 x2) := by
  unfold execLaneMeasurement
  exact keepsO_next (keeps_ite h2 (State.laneMeasured_keeps h2))

theorem State.laneLos_keeps {x0 x1} (h0 : Keeps a x0) : Keeps a (State.laneLos x0 x1) := by
  unfold State.laneLos
  refine keeps_ite ?_ ?_
  · exact h0
  · extract_lets -useContext v10 v11 v12 v13
    have hv12 : Keeps a v12 := State.setLane_keeps h0
    have hv13 : Keeps a v13 := keeps_ite (State.raise_keeps hv12) hv12
    exact keeps_ite (State.freeze_keeps hv13) hv13

theorem execLos_keepsO {x0 x1} (h1 : Keeps a x1) : KeepsO a (execLos x0 x1) := by
  unfold execLos
  exact keepsO_next (keeps_ite (State.laneLos_keeps h1) h1)

theorem State.sourceLos_keeps {x0 x1} (h0 : Keeps a x0) : Keeps a (State.sourceLos x0 x1) :=
  keeps_foldl h0 fun _ _ h10 => (keeps_ite (State.laneLos_keeps h10) h10)

theorem State.sourceMeasured_keeps {x0 x1 x2 x3 x4} (h0 : Keeps a x0) : Keeps a (State.sourceMeasured x0 x1 x2 x3 x4) := by
  unfold State.sourceMeasured
  exact keeps_foldl h0 fun _ _ h10 => (keeps_ite (State.laneMeasured_keeps (State.setLane_keeps h10)) h10)

theorem State.laneVerdict_keeps {x0 x1} (h0 : Keeps a x0) : Keeps a (State.laneVerdict x0 x1) := by
  unfold State.laneVerdict
  extract_lets -useContext v10 v11
  have hv11 : Keeps a v11 := State.setLane_keeps h0
  exact keeps_ite (keeps_ite (State.dropShadow_keeps hv11) (State.laneTo_keeps hv11)) (keeps_ite (State.laneTo_keeps hv11) hv11)

theorem State.qualified_keeps {x0 x1} (h0 : Keeps a x0) : Keeps a (State.qualified x0 x1) := by
  unfold State.qualified
  extract_lets -useContext v10 v11
  exact keeps_ite (State.laneTo_keeps (State.raise_keeps h0)) (State.laneTo_keeps h0)

theorem State.laneTimers_keeps {x0 x1} (h0 : Keeps a x0) : Keeps a (State.laneTimers x0 x1) := by
  unfold State.laneTimers
  extract_lets -useContext v10
  exact keeps_ite (State.qualified_keeps h0) (keeps_ite (State.laneTo_keeps h0) (keeps_ite (State.judgeLimit_keeps (State.laneTo_keeps h0)) h0))

theorem State.lapQ_keeps {x0} (h0 : Keeps a x0) : Keeps a (State.lapQ x0) := by
  unfold State.lapQ
  refine keeps_foldl ?_ ?_
  · exact h0
  · intro s x h11
    split
    · exact keeps_ite (State.setLane_keeps h11) h11
    · exact h11

theorem State.selectorLap_keeps {x0} (h0 : Keeps a x0) : Keeps a (State.selectorLap x0) := by
  unfold State.selectorLap
  extract_lets -useContext v10 v11 v12 v13 v14 v15 v16 v17
  have hv10 : Keeps a v10 := keeps_foldl h0 fun _ _ h18 => (State.pairSticky_keeps h18)
  have hv11 : Keeps a v11 := keeps_foldl hv10 fun _ _ h19 => (State.laneJudge_keeps h19)
  have hv12 : Keeps a v12 := keeps_foldl hv11 fun _ _ h20 => (State.laneVerdict_keeps h20)
  have hv13 : Keeps a v13 := keeps_foldl hv12 fun _ _ h21 => (State.judgePair_keeps h21)
  have hv14 : Keeps a v14 := State.judgeEpisodes_keeps hv13
  have hv15 : Keeps a v15 := keeps_foldl hv14 fun _ _ h22 => (State.laneTimers_keeps h22)
  have hv16 : Keeps a v16 := State.choose_keeps (State.lapQ_keeps hv15)
  have hv17 : Keeps a v17 := keeps_ite (State.setAllows_keeps hv16) h0
  exact State.discLap_keeps hv17

theorem State.atLapOnly_keeps {x0 x1} (h0 : Keeps a x0) (h_f : ∀ y0, Keeps a y0 → Keeps a (x1 y0)) : Keeps a (State.atLapOnly x0 x1) :=
  keeps_ite (h_f _ h0) h0

theorem execQualTimeExpiry_keepsO {x0 x1} (h1 : Keeps a x1) : KeepsO a (execQualTimeExpiry x0 x1) :=
  keepsO_next (State.atLapOnly_keeps h1 (fun _ h10 => (keeps_ite (State.qualified_keeps h10) h10)))

theorem execDisqHoldExpiry_keepsO {x0 x1} (h1 : Keeps a x1) : KeepsO a (execDisqHoldExpiry x0 x1) :=
  keepsO_next (State.atLapOnly_keeps h1 (fun _ h10 => (keeps_ite (State.laneTo_keeps h10) h10)))

theorem execWtrExpiry_keepsO {x0} (h0 : Keeps a x0) : KeepsO a (execWtrExpiry x0) :=
  keepsO_next (State.atLapOnly_keeps h0 (fun _ h10 => (keeps_ite (State.discLap_keeps (State.setAllows_keeps (State.choose_keeps h10))) h10)))

theorem execWarnClear_keepsO {x0 x1 x2} (h2 : Keeps a x2) : KeepsO a (execWarnClear x0 x1 x2) :=
  keepsO_next (keeps_ite (State.setAllows_keeps (State.warnOff_keeps h2)) h2)

theorem State.endAgreed_keeps {x0 x1} (h0 : Keeps a x0) : Keeps a (State.endAgreed x0 x1) := by
  induction x1 generalizing x0 with
  | nil => exact h0
  | cons e es ih => exact ih (keeps_ite (State.endEpisode_keeps h0) h0)

theorem execDisagreeEnd_keepsO {x0 x1 x2} (h2 : Keeps a x2) : KeepsO a (execDisagreeEnd x0 x1 x2) := by
  unfold execDisagreeEnd
  refine keepsO_next ?_
  refine State.atLapOnly_keeps ?_ ?_
  · exact h2
  · intro y12 h13
    extract_lets -useContext v14
    exact keeps_ite h13 (State.setAllows_keeps (State.endAgreed_keeps h13))

theorem execBuildoutRetired_keepsO {x0} (h0 : Keeps a x0) : KeepsO a (execBuildoutRetired x0) := by
  unfold execBuildoutRetired
  extract_lets -useContext v10 v11 v12
  have hv11 : Keeps a v11 := keeps_of h0
  exact keepsO_next (keeps_ite (State.raise_keeps hv11) h0)

theorem State.setForce_keeps {x0 x1} (h0 : Keeps a x0) : Keeps a (State.setForce x0 x1) := by
  unfold State.setForce
  extract_lets -useContext v10
  have hv10 : Keeps a v10 := by
    dsimp -zeta only [v10]
    split
    · exact State.put_keeps h0
    · exact h0
  split
  · exact State.put_keeps (State.setVar_keeps hv10)
  · exact State.setVar_keeps hv10

theorem laneForceEff_keepsR {x0 x1 x2} (h2 : Keeps a x2) : KeepsR a (laneForceEff x0 x1 x2) := by
  unfold laneForceEff
  extract_lets -useContext v10
  exact keepsR_ite (keepsR_mk h2) (keepsR_ite (keepsR_mk h2) (keepsR_ite (keepsR_mk h2) (keepsR_mk (State.change_keeps (State.setForce_keeps h2)))))

theorem execLaneForce_keepsO {x0 x1 x2} (h2 : Keeps a x2) : KeepsO a (execLaneForce x0 x1 x2) :=
  keepsO_next (State.runCmd_keeps h2 (fun _ _ h10 => (laneForceEff_keepsR h10)))

theorem laneReleaseEff_keepsR {x0 x1} (h1 : Keeps a x1) : KeepsR a (laneReleaseEff x0 x1) :=
  keepsR_mk (State.change_keeps (State.setForce_keeps h1))

theorem execLaneRelease_keepsO {x0 x1} (h1 : Keeps a x1) : KeepsO a (execLaneRelease x0 x1) :=
  keepsO_next (State.runCmd_keeps h1 (fun _ _ h10 => (laneReleaseEff_keepsR h10)))

theorem laneClearEff_keepsR {x0 x1 x2} (h2 : Keeps a x2) : KeepsR a (laneClearEff x0 x1 x2) := by
  unfold laneClearEff
  refine keepsR_ite ?_ ?_
  · exact keepsR_mk h2
  · extract_lets -useContext v10 v11
    have hv11 : Keeps a v11 := State.setLane_keeps h2
    exact keepsR_mk (State.change_keeps hv11)

theorem execLaneClear_keepsO {x0 x1 x2} (h2 : Keeps a x2) : KeepsO a (execLaneClear x0 x1 x2) :=
  keepsO_next (State.runCmd_keeps h2 (fun _ _ h10 => (laneClearEff_keepsR h10)))

theorem laneSetEff_keepsR {x0 x1 x2 x3 x4} (h4 : Keeps a x4) : KeepsR a (laneSetEff x0 x1 x2 x3 x4) := by
  unfold laneSetEff
  extract_lets -useContext v10 v11 v12 v13
  have hv12 : KeepsR a v12 := State.setWord_keepsR h4
  exact keepsR_ite (keepsR_mk h4) (keepsR_ite (keepsR_mk h4) (keepsR_ite (keepsR_mk h4) (keepsR_ite (keepsR_mk (State.setLane_keeps (keepsR_s hv12))) hv12)))

theorem execLaneSet_keepsO {x0 x1 x2 x3 x4} (h4 : Keeps a x4) : KeepsO a (execLaneSet x0 x1 x2 x3 x4) :=
  keepsO_next (State.runCmd_keeps h4 (fun _ _ h10 => (laneSetEff_keepsR h10)))

theorem selModeSetEff_keepsR {x0 x1 x2 x3 x4 x5 x6} (h6 : Keeps a x6) : KeepsR a (selModeSetEff x0 x1 x2 x3 x4 x5 x6) := by
  unfold selModeSetEff
  refine keepsR_ite ?_ ?_
  · exact keepsR_mk h6
  · extract_lets -useContext v10 v11 v12 v13 v14 v15 v16 v17 v18
    have hv14 : Keeps a v14 := State.put_keeps (State.put_keeps (State.put_keeps h6))
    have hv15 : Keeps a v15 := State.put_keeps (State.put_keeps hv14)
    have hv16 : Keeps a v16 := State.change_keeps hv15
    have hv17 : Keeps a v17 := State.change_keeps hv16
    have hv18 : Keeps a v18 := State.change_keeps hv17
    exact keepsR_mk (State.change_keeps hv18)

theorem execSelModeSet_keepsO {x0 x1 x2 x3 x4 x5 x6} (h6 : Keeps a x6) : KeepsO a (execSelModeSet x0 x1 x2 x3 x4 x5 x6) :=
  keepsO_next (State.runCmd_keeps h6 (fun _ _ h10 => (selModeSetEff_keepsR h10)))

theorem State.setHeat_keeps {x0 x1 x2} (h0 : Keeps a x0) : Keeps a (State.setHeat x0 x1 x2) := by
  unfold State.setHeat
  exact keeps_of h0

theorem State.raiseTim_keeps {x0 x1 x2 x3 x4 x5} (h0 : Keeps a x0) : Keeps a (State.raiseTim x0 x1 x2 x3 x4 x5) := by
  unfold State.raiseTim
  extract_lets -useContext v10 v11 v12
  have hv12 : Keeps a v12 := keeps_ite (State.setVar_keeps h0) h0
  exact keeps_ite (State.putBit_keeps h0) (State.raise_keeps hv12)

theorem State.useUpdate_keeps {x0 x1} (h0 : Keeps a x0) : Keeps a (State.useUpdate x0 x1) := by
  unfold State.useUpdate
  exact State.put_keeps h0

theorem State.showStats_keeps {x0 x1 x2 x3} (h0 : Keeps a x0) : Keeps a (State.showStats x0 x1 x2 x3) := by
  unfold State.showStats
  extract_lets -useContext v10 v11 v12 v13 v14 v15
  have hv13 : Keeps a v13 := State.putI64_keeps h0
  have hv14 : Keeps a v14 := State.put_keeps hv13
  have hv15 : Keeps a v15 := State.putI64_keeps hv14
  exact State.putI64_keeps hv15

theorem State.addStats_keeps {x0 x1 x2} (h0 : Keeps a x0) : Keeps a (State.addStats x0 x1 x2) := by
  unfold State.addStats
  split
  · exact State.bump_keeps h0
  · extract_lets -useContext v10 v11 v12 v13
    exact State.showStats_keeps (State.put_keeps (State.setHeat_keeps h0))

theorem State.writeRecord_keeps {x0 x1} (h0 : Keeps a x0) : Keeps a (State.writeRecord x0 x1) := by
  unfold State.writeRecord
  extract_lets -useContext v10 v11 v12 v13 v14
  have hv11 : Keeps a v11 := State.bump_keeps (State.bump_keeps h0)
  have hv12 : Keeps a v12 := keeps_ite (State.raiseTim_keeps hv11) h0
  have hv13 : Keeps a v13 := State.bump_keeps hv12
  exact keeps_of hv13

theorem State.endHeat_keeps {x0 x1 x2} (h0 : Keeps a x0) : Keeps a (State.endHeat x0 x1 x2) := by
  unfold State.endHeat
  extract_lets -useContext v10
  have hv10 : Keeps a v10 := State.useUpdate_keeps (State.stopTimer_keeps (State.put_keeps h0))
  exact State.raise_keeps hv10

theorem State.closeCore_keeps {x0 x1 x2 x3} (h0 : Keeps a x0) : Keeps a (State.closeCore x0 x1 x2 x3) := by
  unfold State.closeCore
  extract_lets -useContext v10
  split
  · exact h0
  · extract_lets -useContext v11 v12 v13 v14 v15 v16 v17
    have hv11 : Keeps a v11 := keeps_ite (State.writeRecord_keeps h0) h0
    have hv12 : Keeps a v12 := keeps_ite (State.put_keeps hv11) hv11
    have hv13 : Keeps a v13 := keeps_ite (State.put_keeps hv12) hv12
    have hv14 : Keeps a v14 := keeps_ite (State.put_keeps hv13) hv13
    have hv15 : Keeps a v15 := State.stopTimer_keeps (State.setHeat_keeps hv14)
    have hv16 : Keeps a v16 := State.addStats_keeps hv15
    have hv17 : Keeps a v17 := keeps_ite (State.raiseTim_keeps (State.bump_keeps hv16)) hv16
    exact State.bump_keeps hv17

theorem State.stopHeat_keeps {x0 x1 x2 x3} (h0 : Keeps a x0) : Keeps a (State.stopHeat x0 x1 x2 x3) := by
  unfold State.stopHeat
  extract_lets -useContext v10 v11
  have hv10 : Keeps a v10 := keeps_ite (State.closeCore_keeps h0) h0
  have hv11 : Keeps a v11 := State.useUpdate_keeps (State.stopTimer_keeps (State.put_keeps hv10))
  exact keeps_ite h0 (keeps_ite (State.raise_keeps hv11) (State.endHeat_keeps hv10))

theorem State.fenceHeat_keeps {x0 x1} (h0 : Keeps a x0) : Keeps a (State.fenceHeat x0 x1) :=
  keeps_ite h0 (State.endHeat_keeps (State.setHeat_keeps h0))

theorem State.stopRotation_keeps {x0} (h0 : Keeps a x0) : Keeps a (State.stopRotation x0) := by
  unfold State.stopRotation
  extract_lets -useContext v10 v11 v12 v13
  have hv12 : Keeps a v12 := keeps_ite (State.put_keeps (State.put_keeps h0)) h0
  have hv13 : Keeps a v13 := State.stopTimer_keeps (State.setVar_keeps (State.put_keeps hv12))
  exact keeps_ite (State.useUpdate_keeps hv13) hv13

theorem State.tdcOut_keeps {x0 x1 x2} (h0 : Keeps a x0) : Keeps a (State.tdcOut x0 x1 x2) := by
  unfold State.tdcOut
  extract_lets -useContext v10 v11 v12
  have hv10 : Keeps a v10 := State.stopRotation_keeps h0
  have hv12 : Keeps a v12 := State.put_keeps (State.put_keeps (State.put_keeps (State.stopRotation_keeps h0)))
  exact keeps_ite (keeps_ite (keeps_ite (State.fenceHeat_keeps hv10) (State.stopHeat_keeps hv10)) hv10) (keeps_ite (keeps_ite (State.stopRotation_keeps h0) h0) (keeps_ite (State.raiseTim_keeps (State.put_keeps hv12)) (keeps_ite (State.fenceHeat_keeps h0) (State.stopHeat_keeps h0))))

theorem State.tdcGone_keeps {x0 x1 x2} (h0 : Keeps a x0) : Keeps a (State.tdcGone x0 x1 x2) := by
  unfold State.tdcGone
  extract_lets -useContext v10
  exact keeps_ite (State.setVar_keeps h0) (State.tdcOut_keeps (State.setVar_keeps h0))

theorem State.leaveTdc_keeps {x0 x1} (h0 : Keeps a x0) : Keeps a (State.leaveTdc x0 x1) := by
  unfold State.leaveTdc
  extract_lets -useContext v10 v11
  have hv11 : Keeps a v11 := State.setVar_keeps h0
  exact keeps_ite h0 (keeps_ite hv11 (State.tdcOut_keeps hv11))

theorem State.closeMeas_keeps {x0 x1 x2} (h0 : Keeps a x0) : Keeps a (State.closeMeas x0 x1 x2) := by
  unfold State.closeMeas
  extract_lets -useContext v10 v11 v12
  have hv11 : Keeps a v11 := State.put_keeps (State.closeCore_keeps h0)
  have hv12 : Keeps a v12 := keeps_ite (State.endHeat_keeps hv11) hv11
  split
  · exact h0
  · exact State.leaveTdc_keeps hv12

theorem State.falseStarts_keeps {x0 x1 x2} (h0 : Keeps a x0) : Keeps a (State.falseStarts x0 x1 x2) := by
  unfold State.falseStarts
  refine keeps_ite ?_ ?_
  · exact h0
  · extract_lets -useContext v10
    exact State.raiseTim_keeps (State.bumpBy_keeps (State.setHeat_keeps h0))

theorem State.addSplit_keeps {x0 x1 x2 x3 x4} (h0 : Keeps a x0) : Keeps a (State.addSplit x0 x1 x2 x3 x4) := by
  unfold State.addSplit
  extract_lets -useContext v10
  split
  · exact h0
  · extract_lets -useContext v11 v12
    have hv12 : Keeps a v12 := State.setHeat_keeps h0
    exact keeps_ite (State.closeMeas_keeps hv12) hv12

theorem State.addWaiting_keeps {x0 x1 x2 x3 x4} (h0 : Keeps a x0) : Keeps a (State.addWaiting x0 x1 x2 x3 x4) := by
  induction x4 generalizing x0 with
  | nil => exact h0
  | cons w ws ih => exact ih (keeps_ite (State.addSplit_keeps h0) (State.setHeat_keeps h0))

theorem State.openMeas_keeps {x0 x1 x2} (h0 : Keeps a x0) : Keeps a (State.openMeas x0 x1 x2) := by
  unfold State.openMeas
  extract_lets -useContext v10 v11 v12 v13 v14
  split
  · extract_lets -useContext v15 v16 v17 v18
    have hv15 : Keeps a v15 := State.falseStarts_keeps h0
    have hv17 : Keeps a v17 := State.setHeat_keeps hv15
    have hv18 : Keeps a v18 := State.arm_keeps (State.put_keeps hv17)
    exact State.addWaiting_keeps hv18

theorem State.takeStop_keeps {x0 x1 x2} (h0 : Keeps a x0) : Keeps a (State.takeStop x0 x1 x2) := by
  unfold State.takeStop
  extract_lets -useContext v10 v11
  split
  · exact keeps_ite (State.addSplit_keeps h0) (State.falseStarts_keeps h0)
  · exact State.setHeat_keeps h0

theorem State.sweepStops_keeps {x0 x1} (h0 : Keeps a x0) : Keeps a (State.sweepStops x0 x1) := by
  unfold State.sweepStops
  extract_lets -useContext v10 v11
  split
  · exact keeps_ite h0 (State.falseStarts_keeps (State.setHeat_keeps h0))

theorem State.sweepHeats_keeps {x0} (h0 : Keeps a x0) : Keeps a (State.sweepHeats x0) := by
  unfold State.sweepHeats
  exact keeps_foldl h0 fun _ _ h10 => (keeps_ite (State.sweepStops_keeps h10) h10)

theorem State.windowPast_keeps {x0 x1 x2 x3} (h0 : Keeps a x0) : Keeps a (State.windowPast x0 x1 x2 x3) := by
  unfold State.windowPast
  split
  · exact keeps_ite (State.closeMeas_keeps h0) h0
  · exact h0

theorem State.tdcStamped_keeps {x0 x1 x2 x3} (h0 : Keeps a x0) : Keeps a (State.tdcStamped x0 x1 x2 x3) := by
  unfold State.tdcStamped
  exact State.pmcEvent_keeps (State.setVar_keeps h0)

theorem State.startChannel_keeps {x0 x1 x2} (h0 : Keeps a x0) : Keeps a (State.startChannel x0 x1 x2) := by
  unfold State.startChannel
  extract_lets -useContext v10 v11 v12 v13
  have hv13 : Keeps a v13 := State.windowPast_keeps (State.tdcStamped_keeps (State.setHeat_keeps h0))
  exact keeps_ite (State.bump_keeps h0) (keeps_ite (State.openMeas_keeps hv13) (keeps_ite (State.bump_keeps hv13) hv13))

theorem State.stopChannel_keeps {x0 x1 x2} (h0 : Keeps a x0) : Keeps a (State.stopChannel x0 x1 x2) := by
  unfold State.stopChannel
  extract_lets -useContext v10 v11 v12 v13 v14
  have hv13 : Keeps a v13 := State.setHeat_keeps h0
  have hv14 : Keeps a v14 := State.windowPast_keeps (State.tdcStamped_keeps (State.setHeat_keeps h0))
  exact keeps_ite (State.raiseTim_keeps (State.bump_keeps hv13)) (keeps_ite (State.takeStop_keeps hv14) hv14)

theorem State.bothChannels_keeps {x0 x1 x2} (h0 : Keeps a x0) : Keeps a (State.bothChannels x0 x1 x2) := by
  unfold State.bothChannels
  extract_lets -useContext v10 v11 v12 v13 v14
  have hv13 : Keeps a v13 := State.windowPast_keeps (State.tdcStamped_keeps (State.setHeat_keeps h0))
  have hv14 : Keeps a v14 := State.takeStop_keeps hv13
  exact keeps_ite (State.stopChannel_keeps (State.bump_keeps h0)) (keeps_ite (State.openMeas_keeps hv13) (keeps_ite (keeps_ite (State.openMeas_keeps hv14) (keeps_ite (State.bump_keeps hv14) hv14)) hv13))

theorem State.laneEdge_keeps {x0 x1 x2 x3} (h0 : Keeps a x0) : Keeps a (State.laneEdge x0 x1 x2 x3) := by
  unfold State.laneEdge
  extract_lets -useContext v10 v11 v12
  exact keeps_ite (State.bump_keeps h0) (keeps_ite (State.setVar_keeps h0) (State.tdcStamped_keeps (State.setHeat_keeps (State.setVar_keeps h0))))

theorem execStartEdge_keepsO {x0 x1 x2} (h2 : Keeps a x2) : KeepsO a (execStartEdge x0 x1 x2) := by
  unfold execStartEdge
  refine keepsO_next ?_
  refine keeps_ite ?_ ?_
  · exact h2
  · refine keeps_ite ?_ ?_
    · exact keeps_ite (State.bothChannels_keeps h2) (State.startChannel_keeps h2)
    · refine keeps_ite ?_ ?_
      · split
        · exact State.laneEdge_keeps h2
        · exact h2
      · exact h2

theorem execStopEdge_keepsO {x0 x1 x2} (h2 : Keeps a x2) : KeepsO a (execStopEdge x0 x1 x2) :=
  keepsO_next (keeps_ite (keeps_ite (State.bothChannels_keeps h2) (State.stopChannel_keeps h2)) h2)

theorem execWindowExpiry_keepsO {x0 x1} (h1 : Keeps a x1) : KeepsO a (execWindowExpiry x0 x1) :=
  keepsO_next (keeps_ite (State.closeMeas_keeps h1) h1)

theorem State.claimTdc_keeps {x0 x1 x2} (h0 : Keeps a x0) : Keeps a (State.claimTdc x0 x1 x2) := by
  unfold State.claimTdc
  exact State.leaveTdc_keeps (State.stopHeat_keeps h0)

theorem State.laneClaim_keeps {x0 x1} (h0 : Keeps a x0) : Keeps a (State.laneClaim x0 x1) := by
  unfold State.laneClaim
  extract_lets -useContext v10
  refine keeps_ite ?_ ?_
  · exact State.setVar_keeps (keeps_of h0)
  · refine keeps_ite ?_ ?_
    · exact State.setVar_keeps (State.claimTdc_keeps h0)
    · split
      · exact State.setVar_keeps (State.claimTdc_keeps (keeps_of h0))
      · exact State.setVar_keeps h0

theorem execCalSlotStart_keepsO {x0 x1} (h1 : Keeps a x1) : KeepsO a (execCalSlotStart x0 x1) := by
  unfold execCalSlotStart
  refine keepsO_next ?_
  refine keeps_ite ?_ ?_
  · extract_lets -useContext v10
    have hv10 : Keeps a v10 := State.put_keeps (State.setVar_keeps (State.setVar_keeps h1))
    exact State.arm_keeps (State.put_keeps hv10)
  · exact h1

theorem execCalHandover_keepsO {x0 x1} (h1 : Keeps a x1) : KeepsO a (execCalHandover x0 x1) := by
  unfold execCalHandover
  refine keepsO_next ?_
  refine keeps_ite ?_ ?_
  · extract_lets -useContext v10
    have hv10 : Keeps a v10 := State.put_keeps (State.setVar_keeps h1)
    exact keeps_ite (State.arm_keeps hv10) (State.arm_keeps (State.put_keeps hv10))
  · exact h1

theorem State.calFail_keeps {x0 x1 x2 x3} (h0 : Keeps a x0) : Keeps a (State.calFail x0 x1 x2 x3) :=
  State.raiseTim_keeps (State.bump_keeps h0)

theorem execCalReturn_keepsO {x0 x1} (h1 : Keeps a x1) : KeepsO a (execCalReturn x0 x1) := by
  unfold execCalReturn
  extract_lets -useContext v10 v11 v12 v13 v14 v15
  have hv11 : Keeps a v11 := State.put_keeps (State.put_keeps h1)
  have hv12 : Keeps a v12 := State.stopTimer_keeps (State.setVar_keeps (State.setVar_keeps hv11))
  have hv13 : Keeps a v13 := keeps_ite (State.putB_keeps (State.put_keeps (State.put_keeps hv12))) hv12
  have hv14 : Keeps a v14 := State.useUpdate_keeps hv13
  exact keepsO_next (keeps_ite (keeps_ite (keeps_of hv14) hv14) h1)

theorem execTakeBack_keepsO {x0 x1} (h1 : Keeps a x1) : KeepsO a (execTakeBack x0 x1) := by
  unfold execTakeBack
  extract_lets -useContext v10 v11 v12 v13
  have hv10 : Keeps a v10 := State.setVar_keeps (State.setVar_keeps (State.setVar_keeps h1))
  have hv11 : Keeps a v11 := State.putI_keeps hv10
  have hv12 : Keeps a v12 := keeps_ite (State.arm_keeps (keeps_ite hv11 (State.calFail_keeps hv11))) h1
  refine keepsO_next ?_
  refine keeps_ite ?_ ?_
  · split
    · exact State.useUpdate_keeps (State.claimTdc_keeps (State.useUpdate_keeps (keeps_of hv12)))
    · exact hv12
  · exact h1

theorem execCalStale_keepsO {x0 x1} (h1 : Keeps a x1) : KeepsO a (execCalStale x0 x1) := by
  unfold execCalStale
  refine keepsO_next ?_
  refine keeps_ite ?_ ?_
  · extract_lets -useContext v10 v11
    have hv11 : Keeps a v11 := keeps_of h1
    exact State.raiseTim_keeps hv11
  · exact h1

theorem State.rebuildTable_keeps {x0 x1} (h0 : Keeps a x0) : Keeps a (State.rebuildTable x0 x1) := by
  unfold State.rebuildTable
  split
  · rename_i y10 y11 y12 e13
    have h14 : Keeps a y12 := keeps_snd e13 (State.takeFree_keeps2 h0)
    exact State.put_keeps h14

theorem State.calibrateAll_keeps {x0} (h0 : Keeps a x0) : Keeps a (State.calibrateAll x0) := by
  unfold State.calibrateAll
  extract_lets -useContext v10 v11 v12
  have hv10 : Keeps a v10 := keeps_foldl h0 fun _ _ h13 => (State.rebuildTable_keeps h13)
  have hv11 : Keeps a v11 := State.bumpCalSeq_keeps hv10
  exact keeps_of hv11

theorem State.warmSecond_keeps {x0} (h0 : Keeps a x0) : Keeps a (State.warmSecond x0) := by
  unfold State.warmSecond
  extract_lets -useContext v10 v11 v12 v13 v14 v15 v16 v17 v18 v19 v20 v21 v22
  have hv19 : Keeps a v19 := keeps_of h0
  have hv20 : Keeps a v20 := keeps_ite hv19 (State.setVar_keeps hv19)
  have hv21 : Keeps a v21 := State.put_keeps hv20
  have hv22 : Keeps a v22 := State.setVar_keeps (State.setVar_keeps (State.setVar_keeps hv21))
  exact State.setVar_keeps (State.setVar_keeps hv22)

theorem execWarmCleared_keepsO {x0} (h0 : Keeps a x0) : KeepsO a (execWarmCleared x0) :=
  keepsO_next (keeps_ite (State.raiseTim_keeps (State.put_keeps (State.put_keeps h0))) h0)

theorem execWarmTimeout_keepsO {x0} (h0 : Keeps a x0) : KeepsO a (execWarmTimeout x0) :=
  keepsO_next (keeps_ite (State.raiseTim_keeps (State.put_keeps (State.put_keeps h0))) h0)

theorem State.timUses_keeps {x0} (h0 : Keeps a x0) : Keeps a (State.timUses x0) := by
  unfold State.timUses
  exact keeps_foldl h0 fun _ _ h10 => (State.useUpdate_keeps h10)

theorem State.timLap_keeps {x0} (h0 : Keeps a x0) : Keeps a (State.timLap x0) := by
  unfold State.timLap
  extract_lets -useContext v10 v11
  have hv10 : Keeps a v10 := keeps_foldl h0 fun _ _ h12 => (State.laneClaim_keeps h12)
  have hv11 : Keeps a v11 := keeps_foldl hv10 fun _ _ h13 => (State.useUpdate_keeps h13)
  exact keeps_ite (State.warmSecond_keeps (State.setVar_keeps hv11)) hv11

theorem State.armHeat_keeps {x0 x1 x2} (h0 : Keeps a x0) : Keeps a (State.armHeat x0 x1 x2) := by
  unfold State.armHeat
  extract_lets -useContext v10 v11 v12 v13 v14 v15 v16 v17 v18 v19
  have hv10 : Keeps a v10 := State.put_keeps (State.put_keeps (State.put_keeps h0))
  have hv11 : Keeps a v11 := State.put_keeps (State.put_keeps (State.put_keeps hv10))
  have hv12 : Keeps a v12 := State.put_keeps (State.put_keeps (State.put_keeps hv11))
  have hv13 : Keeps a v13 := State.put_keeps (State.put_keeps (State.put_keeps hv12))
  have hv14 : Keeps a v14 := State.put_keeps (State.put_keeps hv13)
  have hv15 : Keeps a v15 := State.put_keeps (State.put_keeps (State.put_keeps hv14))
  have hv16 : Keeps a v16 := State.setHeat_keeps (State.bump_keeps hv15)
  have hv17 : Keeps a v17 := State.put_keeps (State.put_keeps (State.put_keeps hv16))
  have hv18 : Keeps a v18 := State.putI64_keeps hv17
  have hv19 : Keeps a v19 := State.putI64_keeps (State.putI64_keeps hv18)
  exact State.useUpdate_keeps hv19

theorem heatStartEff_keepsR {x0 x1 x2 x3} (h3 : Keeps a x3) : KeepsR a (heatStartEff x0 x1 x2 x3) := by
  unfold heatStartEff
  refine keepsR_ite ?_ ?_
  · exact keepsR_mk h3
  · refine keepsR_ite ?_ ?_
    · exact keepsR_mk h3
    · refine keepsR_ite ?_ ?_
      · exact keepsR_mk h3
      · extract_lets -useContext v10
        have hv10 : Keeps a v10 := State.armHeat_keeps h3
        exact keepsR_mk (State.change_keeps hv10)

theorem execHeatStart_keepsO {x0 x1 x2 x3 x4 x5 x6 x7 x8 x9 x10 x11 x12 x13 x14} (h14 : Keeps a x14) : KeepsO a (execHeatStart x0 x1 x2 x3 x4 x5 x6 x7 x8 x9 x10 x11 x12 x13 x14) :=
  keepsO_next (State.runCmd_keeps h14 (fun _ _ h10 => (heatStartEff_keepsR h10)))

theorem heatStopEff_keepsR {x0 x1 x2} (h2 : Keeps a x2) : KeepsR a (heatStopEff x0 x1 x2) := by
  unfold heatStopEff
  exact keepsR_ite (keepsR_mk h2) (keepsR_mk (State.change_keeps (State.leaveTdc_keeps (State.stopHeat_keeps h2))))

theorem execHeatStop_keepsO {x0 x1 x2} (h2 : Keeps a x2) : KeepsO a (execHeatStop x0 x1 x2) :=
  keepsO_next (State.runCmd_keeps h2 (fun _ _ h10 => (heatStopEff_keepsR h10)))

theorem refinDelaySetEff_keepsR {x0 x1 x2 x3} (h3 : Keeps a x3) : KeepsR a (refinDelaySetEff x0 x1 x2 x3) := by
  unfold refinDelaySetEff
  refine keepsR_ite ?_ ?_
  · exact keepsR_mk h3
  · refine keepsR_ite ?_ ?_
    · exact keepsR_mk h3
    · extract_lets -useContext v10 v11
      have hv11 : Keeps a v11 := State.putI_keeps h3
      exact keepsR_mk (State.change_keeps hv11)

theorem execRefinDelaySet_keepsO {x0 x1 x2 x3} (h3 : Keeps a x3) : KeepsO a (execRefinDelaySet x0 x1 x2 x3) :=
  keepsO_next (State.runCmd_keeps h3 (fun _ _ h10 => (refinDelaySetEff_keepsR h10)))

theorem warmSetEff_keepsR {x0 x1} (h1 : Keeps a x1) : KeepsR a (warmSetEff x0 x1) := by
  unfold warmSetEff
  extract_lets -useContext v10 v11
  have hv10 : Keeps a v10 := State.setVar_keeps (State.put_keeps (State.put_keeps h1))
  have hv11 : Keeps a v11 := State.raise_keeps hv10
  exact keepsR_mk (State.change_keeps hv11)

theorem execWarmSet_keepsO {x0 x1} (h1 : Keeps a x1) : KeepsO a (execWarmSet x0 x1) :=
  keepsO_next (State.runCmd_keeps h1 (fun _ _ h10 => (warmSetEff_keepsR h10)))

theorem timSetEff_keepsR {x0 x1 x2 x3} (h3 : Keeps a x3) : KeepsR a (timSetEff x0 x1 x2 x3) := by
  unfold timSetEff
  extract_lets -useContext v10
  exact keepsR_ite (State.setWord_keepsR h3) (keepsR_mk h3)

theorem execTimSet_keepsO {x0 x1 x2 x3} (h3 : Keeps a x3) : KeepsO a (execTimSet x0 x1 x2 x3) :=
  keepsO_next (State.runCmd_keeps h3 (fun _ _ h10 => (timSetEff_keepsR h10)))

end Sys2Proof.Machine
end

