-- ==== Sys2Proof/Laws/KeepsD.lean ====
section
/-! SUPPORT. What operations keep: those of Gnss, Ports. -/

set_option Elab.async false

namespace Sys2Proof.Machine

variable {a : State}

theorem State.setChan_keeps {x0 x1 x2} (h0 : Keeps a x0) : Keeps a (State.setChan x0 x1 x2) := by
  unfold State.setChan
  exact keeps_of h0

theorem State.sampleClock_keeps {x0} (h0 : Keeps a x0) : Keeps a (State.sampleClock x0) := by
  unfold State.sampleClock
  extract_lets -useContext v10
  have hv10 : Keeps a v10 := keeps_ite (State.setVar_keeps (State.setVar_keeps h0)) h0
  exact keeps_ite h0 (keeps_ite (State.setVar_keeps hv10) hv10)

theorem State.dwell_keeps {x0 x1 x2} (h0 : Keeps a x0) : Keeps a (State.dwell x0 x1 x2) :=
  State.arm_keeps h0

theorem State.beginSearch_keeps {x0 x1 x2} (h0 : Keeps a x0) : Keeps a (State.beginSearch x0 x1 x2) := by
  unfold State.beginSearch
  split
  · extract_lets -useContext v10 v11 v12 v13
    have hv11 : Keeps a v11 := keeps_of h0
    have hv12 : Keeps a v12 := State.put_keeps (State.putB_keeps (State.put_keeps hv11))
    have hv13 : Keeps a v13 := State.put_keeps (State.put_keeps hv12)
    exact State.dwell_keeps hv13

theorem State.dispatchSearch_keeps {x0} (h0 : Keeps a x0) : Keeps a (State.dispatchSearch x0) := by
  unfold State.dispatchSearch
  refine keeps_foldl ?_ ?_
  · exact h0
  · intro s x h11
    refine keeps_ite ?_ ?_
    · split
      · exact State.beginSearch_keeps (keeps_of h11)
      · exact h11
    · exact h11

theorem State.freeAcq_keeps {x0 x1} (h0 : Keeps a x0) : Keeps a (State.freeAcq x0 x1) := by
  unfold State.freeAcq
  exact State.stopTimer_keeps (State.put_keeps (keeps_of h0))

theorem State.dropSearch_keeps {x0 x1} (h0 : Keeps a x0) : Keeps a (State.dropSearch x0 x1) := by
  unfold State.dropSearch
  extract_lets -useContext v10 v11
  have hv11 : Keeps a v11 := keeps_of h0
  refine keeps_foldl ?_ ?_
  · exact hv11
  · intro s x h13
    split
    · exact keeps_ite (State.freeAcq_keeps h13) h13
    · exact h13

theorem State.chPut_keeps {x0 x1 x2} (h0 : Keeps a x0) : Keeps a (State.chPut x0 x1 x2) := by
  unfold State.chPut
  extract_lets -useContext v10
  have hv10 : Keeps a v10 := State.put_keeps h0
  exact State.put_keeps hv10

theorem State.chEvent_keeps {x0 x1 x2 x3} (h0 : Keeps a x0) : Keeps a (State.chEvent x0 x1 x2 x3) := by
  unfold State.chEvent
  exact State.raise_keeps h0

theorem State.chTo_keeps {x0 x1 x2} (h0 : Keeps a x0) : Keeps a (State.chTo x0 x1 x2) := by
  unfold State.chTo
  extract_lets -useContext v10
  exact keeps_ite h0 (State.chEvent_keeps (State.chPut_keeps h0))

theorem State.loseCarrier_keeps {x0 x1} (h0 : Keeps a x0) : Keeps a (State.loseCarrier x0 x1) := by
  unfold State.loseCarrier
  extract_lets -useContext v10
  exact keeps_ite h0 (State.bump_keeps (State.put_keeps (State.setChan_keeps h0)))

theorem State.clearLocks_keeps {x0 x1} (h0 : Keeps a x0) : Keeps a (State.clearLocks x0 x1) := by
  unfold State.clearLocks
  extract_lets -useContext v10 v11
  have hv10 : Keeps a v10 := State.put_keeps (State.put_keeps (State.loseCarrier_keeps h0))
  exact State.setChan_keeps (State.stopTimer_keeps (State.stopTimer_keeps hv10))

theorem State.retune_keeps {x0 x1} (h0 : Keeps a x0) : Keeps a (State.retune x0 x1) := by
  unfold State.retune
  exact keeps_ite (State.setChan_keeps h0) h0

theorem State.toSearch_keeps {x0 x1 x2} (h0 : Keeps a x0) : Keeps a (State.toSearch x0 x1 x2) := by
  unfold State.toSearch
  extract_lets -useContext v10 v11
  have hv10 : Keeps a v10 := State.chTo_keeps (State.dropSearch_keeps h0)
  exact State.dispatchSearch_keeps (keeps_of hv10)

theorem State.releaseCh_keeps {x0 x1} (h0 : Keeps a x0) : Keeps a (State.releaseCh x0 x1) :=
  keeps_ite h0 (State.dispatchSearch_keeps (State.chTo_keeps (State.clearLocks_keeps (State.dropSearch_keeps h0))))

theorem State.pullIn_keeps {x0 x1 x2} (h0 : Keeps a x0) : Keeps a (State.pullIn x0 x1 x2) := by
  unfold State.pullIn
  extract_lets -useContext v10 v11 v12
  have hv11 : Keeps a v11 := State.setChan_keeps h0
  have hv12 : Keeps a v12 := State.put_keeps (State.putI_keeps hv11)
  exact State.retune_keeps (State.chTo_keeps (State.arm_keeps hv12))

theorem execAcqDwell_keepsO {x0 x1 x2 x3} (h3 : Keeps a x3) : KeepsO a (execAcqDwell x0 x1 x2 x3) := by
  unfold execAcqDwell
  extract_lets -useContext v10 v11 v12 v13
  have hv10 : Keeps a v10 := State.pmcEvent_keeps (State.bump_keeps h3)
  have hv13 : ∀ y0 y1, Keeps a y0 → Keeps a (v13 y0 y1) := fun _ _ h14 => (State.dwell_keeps (keeps_of h14))
  refine keepsO_next ?_
  split
  · exact h3
  · extract_lets -useContext v15 v16 v17
    have hv16 : ∀ y0 y1, Keeps a y0 → Keeps a (v16 y0 y1) := by
      intro y19 y20 h21
      dsimp -zeta only [v16]
      extract_lets -useContext v22 v23
      have hv22 : Keeps a v22 := State.freeAcq_keeps h21
      exact keeps_ite (hv13 _ _ h21) (keeps_ite (State.releaseCh_keeps hv22) (State.dispatchSearch_keeps (keeps_of hv22)))
    have hv17 : Keeps a v17 := State.stopTimer_keeps (State.freeAcq_keeps (State.bump_keeps hv10))
    refine keeps_ite ?_ ?_
    · exact h3
    · split
      · exact keeps_ite (State.dispatchSearch_keeps (State.pullIn_keeps hv17)) (hv16 _ _ hv10)
      · exact keeps_ite (hv13 _ _ hv10) (hv16 _ _ hv10)

theorem State.assign_keeps {x0 x1} (h0 : Keeps a x0) : Keeps a (State.assign x0 x1) := by
  unfold State.assign
  split
  · refine keeps_ite ?_ ?_
    · exact h0
    · split
      · exact h0
      · extract_lets -useContext v10
        have hv10 : Keeps a v10 := State.put_keeps (State.put_keeps h0)
        exact State.toSearch_keeps (State.setChan_keeps hv10)

theorem State.releaseBy_keeps {x0 x1 x2} (h0 : Keeps a x0) : Keeps a (State.releaseBy x0 x1 x2) := by
  unfold State.releaseBy
  refine keeps_ite ?_ ?_
  · exact h0
  · extract_lets -useContext v10 v11 v12
    refine keeps_ite ?_ ?_
    · exact State.releaseCh_keeps h0
    · clear_value v11
      split
      · exact State.setChan_keeps h0
      · exact h0

theorem execChannelAssign_keepsO {x0 x1} (h1 : Keeps a x1) : KeepsO a (execChannelAssign x0 x1) := by
  unfold execChannelAssign
  refine keepsO_next ?_
  refine keeps_ite ?_ ?_
  · exact h1
  · extract_lets -useContext v10 v11
    have hv10 : Keeps a v10 := State.setVar_keeps h1
    have hv11 : Keeps a v11 := keeps_foldl hv10 fun _ _ h12 => (State.releaseBy_keeps h12)
    exact keeps_foldl hv11 fun _ _ h13 => (State.assign_keeps h13)

theorem execPullInLocked_keepsO {x0 x1} (h1 : Keeps a x1) : KeepsO a (execPullInLocked x0 x1) := by
  unfold execPullInLocked
  exact keepsO_next (keeps_ite h1 (State.retune_keeps (State.chTo_keeps (State.stopTimer_keeps (State.setChan_keeps h1)))))

theorem execPullinTimeExpiry_keepsO {x0 x1} (h1 : Keeps a x1) : KeepsO a (execPullinTimeExpiry x0 x1) :=
  keepsO_next (keeps_ite (State.toSearch_keeps (State.clearLocks_keeps h1)) h1)

theorem execCarrierLockLost_keepsO {x0 x1} (h1 : Keeps a x1) : KeepsO a (execCarrierLockLost x0 x1) := by
  unfold execCarrierLockLost
  refine keepsO_next ?_
  split
  · exact keeps_ite (State.retune_keeps (State.loseCarrier_keeps h1)) h1
  · exact h1

theorem execCarrierLockSet_keepsO {x0 x1} (h1 : Keeps a x1) : KeepsO a (execCarrierLockSet x0 x1) := by
  unfold execCarrierLockSet
  extract_lets -useContext v10
  refine keepsO_next ?_
  split
  · exact keeps_ite (State.retune_keeps (State.put_keeps (State.setChan_keeps h1))) h1
  · exact h1

theorem execCodeLockLost_keepsO {x0 x1} (h1 : Keeps a x1) : KeepsO a (execCodeLockLost x0 x1) := by
  unfold execCodeLockLost
  extract_lets -useContext v10
  have hv10 : Keeps a v10 := State.clearLocks_keeps h1
  exact keepsO_next (keeps_ite h1 (keeps_ite (State.put_keeps h1) (State.toSearch_keeps (State.arm_keeps hv10))))

theorem execReacqTimeExpiry_keepsO {x0 x1} (h1 : Keeps a x1) : KeepsO a (execReacqTimeExpiry x0 x1) :=
  keepsO_next (keeps_ite (State.toSearch_keeps (State.clearLocks_keeps h1)) h1)

theorem execBitSync_keepsO {x0 x1} (h1 : Keeps a x1) : KeepsO a (execBitSync x0 x1) := by
  unfold execBitSync
  exact keepsO_next (keeps_ite (State.retune_keeps (State.setChan_keeps h1)) h1)

theorem State.checkBand_keeps {x0 x1 x2 x3 x4} (h0 : Keeps a x0) : Keeps a (State.checkBand x0 x1 x2 x3 x4) := by
  unfold State.checkBand
  extract_lets -useContext v10 v11 v12 v13 v14 v15
  have hv11 : Keeps a v11 := State.put_keeps (State.put_keeps h0)
  have hv15 : Keeps a v15 := State.setVar_keeps (State.setVar_keeps hv11)
  exact keeps_ite (keeps_ite (State.raise_keeps (State.bump_keeps (State.put_keeps hv15))) hv15) (keeps_ite (State.put_keeps hv15) hv15)

theorem State.checkPairs_keeps {x0 x1 x2 x3} (h0 : Keeps a x0) : Keeps a (State.checkPairs x0 x1 x2 x3) := by
  unfold State.checkPairs
  extract_lets -useContext v10
  exact State.checkBand_keeps h0

theorem execSampleCheck_keepsO {x0 x1 x2 x3 x4} (h4 : Keeps a x4) : KeepsO a (execSampleCheck x0 x1 x2 x3 x4) := by
  unfold execSampleCheck
  refine keepsO_next ?_
  refine keeps_ite ?_ ?_
  · exact h4
  · extract_lets -useContext v10 v11
    have hv10 : Keeps a v10 := State.setVar_keeps h4
    have hv11 : Keeps a v11 := keeps_ite (State.checkBand_keeps hv10) hv10
    exact keeps_ite (State.checkBand_keeps hv11) hv11

theorem State.oweEpoch_keeps {x0 x1} (h0 : Keeps a x0) : Keeps a (State.oweEpoch x0 x1) := by
  unfold State.oweEpoch
  exact State.setVar_keeps (State.setVar_keeps h0)

theorem State.gnssStep_keeps {x0 x1} (h0 : Keeps a x0) : Keeps a (State.gnssStep x0 x1) := by
  unfold State.gnssStep
  extract_lets -useContext v10
  exact keeps_ite h0 (keeps_ite (State.setVar_keeps (State.setVar_keeps (State.setVar_keeps h0))) (keeps_ite (State.oweEpoch_keeps h0) (keeps_ite (State.oweEpoch_keeps h0) h0)))

theorem State.newSeries_keeps {x0 x1} (h0 : Keeps a x0) : Keeps a (State.newSeries x0 x1) := by
  unfold State.newSeries
  extract_lets -useContext v10 v11 v12
  have hv11 : Keeps a v11 := keeps_ite (State.oweEpoch_keeps h0) h0
  have hv12 : Keeps a v12 := State.setVar_keeps hv11
  exact keeps_ite (State.arm_keeps hv12) hv12

theorem State.dropEpoch_keeps {x0} (h0 : Keeps a x0) : Keeps a (State.dropEpoch x0) := by
  unfold State.dropEpoch
  extract_lets -useContext v10 v11
  have hv11 : Keeps a v11 := State.bump_keeps (keeps_of h0)
  exact keeps_ite h0 (State.raise_keeps hv11)

theorem State.abandonEpoch_keeps {x0} (h0 : Keeps a x0) : Keeps a (State.abandonEpoch x0) := by
  unfold State.abandonEpoch
  extract_lets -useContext v10
  split
  · exact State.dropEpoch_keeps (keeps_of h0)
  · exact h0

theorem State.latched_keeps {x0 x1} (h0 : Keeps a x0) : Keeps a (State.latched x0 x1) := by
  unfold State.latched
  extract_lets -useContext v10 v11
  have hv10 : Keeps a v10 := State.putI_keeps (State.put_keeps h0)
  exact State.setChan_keeps hv10

theorem execEpoch_keepsO {x0 x1} (h1 : Keeps a x1) : KeepsO a (execEpoch x0 x1) := by
  unfold execEpoch
  extract_lets -useContext v10 v11 v12 v13 v14 v15
  have hv10 : Keeps a v10 := State.abandonEpoch_keeps h1
  have hv14 : Keeps a v14 := State.setVar_keeps (State.setVar_keeps (keeps_of hv10))
  have hv15 : Keeps a v15 := State.put64_keeps (State.bump_keeps hv14)
  exact keepsO_next (keeps_ite h1 (State.pmcEvent_keeps (keeps_foldl hv15 fun _ _ h16 => (State.latched_keeps h16))))

theorem State.surveySecond_keeps {x0 x1 x2 x3} (h0 : Keeps a x0) : Keeps a (State.surveySecond x0 x1 x2 x3) := by
  unfold State.surveySecond
  refine keeps_ite ?_ ?_
  · exact h0
  · extract_lets -useContext v10 v11
    have hv10 : Keeps a v10 := State.bump_keeps (State.setVar_keeps h0)
    exact keeps_of hv10

theorem State.solnLost_keeps {x0 x1} (h0 : Keeps a x0) : Keeps a (State.solnLost x0 x1) := by
  unfold State.solnLost
  extract_lets -useContext v10 v11 v12
  have hv11 : Keeps a v11 := State.sourceLos_keeps h0
  have hv12 : Keeps a v12 := State.put_keeps (State.put_keeps hv11)
  exact keeps_ite (State.raise_keeps hv12) hv12

theorem State.writeEpoch_keeps {x0 x1} (h0 : Keeps a x0) : Keeps a (State.writeEpoch x0 x1) := by
  unfold State.writeEpoch
  extract_lets -useContext v10
  refine keeps_ite ?_ ?_
  · exact h0
  · split
    · exact h0
    · extract_lets -useContext v11
      have hv11 : Keeps a v11 := keeps_foldl h0 fun _ _ h12 => (State.ringWrite_keeps h12)
      exact keeps_ite (State.dropEpoch_keeps h0) (keeps_of hv11)

theorem execSolution_keepsO {x0 x1 x2 x3 x4 x5} (h5 : Keeps a x5) : KeepsO a (execSolution x0 x1 x2 x3 x4 x5) := by
  unfold execSolution
  extract_lets -useContext v10 v11 v12 v13 v14 v15
  have hv11 : Keeps a v11 := State.arm_keeps (keeps_of h5)
  refine keepsO_next ?_
  split
  · exact h5
  · extract_lets -useContext v16 v17 v18 v19 v20 v21 v22 v23 v24 v25 v26 v27 v28 v29 v30 v31 v32 v33 v34 v35
    have hv25 : Keeps a v25 := keeps_foldl hv11 fun _ _ h36 => (keeps_foldl h36 fun _ _ h37 => (State.raise_keeps h37))
    have hv30 : Keeps a v30 := by
      dsimp -zeta only [v30]
      refine keeps_foldl ?_ ?_
      · exact hv25
      · intro y40 y41 h42
        extract_lets -useContext v43 v44 v45
        have hv43 : Keeps a v43 := State.putI_keeps (State.putB_keeps (State.put_keeps h42))
        have hv45 : Keeps a v45 := State.setChan_keeps hv43
        exact keeps_ite (State.pmcEvent_keeps hv45) hv45
    have hv35 : Keeps a v35 := State.solnLost_keeps hv30
    refine keeps_ite ?_ ?_
    · exact h5
    · clear_value v23
      split
      · rename_i y46 y47 y48
        extract_lets -useContext v49 v50 v51 v52 v53 v54 v55 v56 v57 v58 v59
        have hv52 : Keeps a v52 := State.put_keeps (State.put_keeps (State.put_keeps hv30))
        have hv53 : Keeps a v53 := State.put_keeps hv52
        have hv56 : Keeps a v56 := keeps_ite (State.put_keeps hv53) hv53
        have hv57 : Keeps a v57 := keeps_ite hv56 (State.raise_keeps hv56)
        have hv58 : Keeps a v58 := keeps_ite (State.surveySecond_keeps hv57) hv57
        have hv59 : Keeps a v59 := State.sourceMeasured_keeps hv58
        exact State.writeEpoch_keeps hv59
      · rename_i y60
        exact State.writeEpoch_keeps hv35

theorem execSolutionTimeout_keepsO {x0} (h0 : Keeps a x0) : KeepsO a (execSolutionTimeout x0) :=
  keepsO_next (keeps_ite (State.solnLost_keeps (State.stopTimer_keeps h0)) h0)

theorem execSurveyDone_keepsO {x0} (h0 : Keeps a x0) : KeepsO a (execSurveyDone x0) := by
  unfold execSurveyDone
  refine keepsO_next ?_
  extract_lets -useContext v10 v11 v12 v13 v14 v15 v16 v17
  have hv14 : Keeps a v14 := State.putI64_keeps h0
  have hv15 : Keeps a v15 := State.putI64_keeps hv14
  have hv16 : Keeps a v16 := State.putI64_keeps hv15
  have hv17 : Keeps a v17 := State.put_keeps (State.put_keeps hv16)
  exact keeps_ite h0 (State.raise_keeps hv17)

theorem State.startSurvey_keeps {x0 x1} (h0 : Keeps a x0) : Keeps a (State.startSurvey x0 x1) := by
  unfold State.startSurvey
  extract_lets -useContext v10 v11
  have hv10 : Keeps a v10 := State.put_keeps (State.put_keeps (State.put_keeps h0))
  exact keeps_of hv10

theorem State.restartTtff_keeps {x0} (h0 : Keeps a x0) : Keeps a (State.restartTtff x0) :=
  State.setVar_keeps (State.put_keeps h0)

theorem State.gnssStart_keeps {x0} (h0 : Keeps a x0) : Keeps a (State.gnssStart x0) := by
  unfold State.gnssStart
  extract_lets -useContext v10 v11
  have hv10 : Keeps a v10 := State.setVar_keeps (State.put_keeps (State.restartTtff_keeps h0))
  have hv11 : Keeps a v11 := State.arm_keeps (State.put_keeps (State.setVar_keeps hv10))
  exact keeps_ite h0 (keeps_ite (State.startSurvey_keeps hv11) hv11)

theorem State.gnssStop_keeps {x0} (h0 : Keeps a x0) : Keeps a (State.gnssStop x0) := by
  unfold State.gnssStop
  extract_lets -useContext v10 v11 v12 v13
  have hv10 : Keeps a v10 := keeps_foldl h0 fun _ _ h14 => (State.releaseCh_keeps h14)
  have hv11 : Keeps a v11 := State.abandonEpoch_keeps hv10
  have hv13 : Keeps a v13 := keeps_of hv11
  exact State.solnLost_keeps (State.stopTimer_keeps (State.put_keeps hv13))

theorem State.gnssAbsent_keeps {x0} (h0 : Keeps a x0) : Keeps a (State.gnssAbsent x0) := by
  unfold State.gnssAbsent
  extract_lets -useContext v10 v11
  have hv10 : Keeps a v10 := State.gnssStop_keeps h0
  exact keeps_of hv10

theorem State.gnssUnitGone_keeps {x0 x1} (h0 : Keeps a x0) : Keeps a (State.gnssUnitGone x0 x1) := by
  unfold State.gnssUnitGone
  exact State.solnLost_keeps (keeps_ite (State.abandonEpoch_keeps h0) h0)

theorem State.gnssChannelGone_keeps {x0 x1 x2} (h0 : Keeps a x0) : Keeps a (State.gnssChannelGone x0 x1 x2) := by
  unfold State.gnssChannelGone
  extract_lets -useContext v10
  exact keeps_ite (State.releaseCh_keeps h0) (keeps_ite (State.chEvent_keeps h0) (State.dispatchSearch_keeps (State.chEvent_keeps (State.chPut_keeps (State.clearLocks_keeps (State.dropSearch_keeps h0))))))

theorem State.gnssAcqGone_keeps {x0 x1} (h0 : Keeps a x0) : Keeps a (State.gnssAcqGone x0 x1) := by
  unfold State.gnssAcqGone
  split
  · extract_lets -useContext v10 v11
    have hv10 : Keeps a v10 := State.freeAcq_keeps h0
    exact State.dispatchSearch_keeps (keeps_of hv10)
  · exact h0

theorem State.takeDecoded_keeps {x0 x1} (h0 : Keeps a x0) : Keeps a (State.takeDecoded x0 x1) := by
  unfold State.takeDecoded
  extract_lets -useContext v10 v11 v12
  have hv12 : Keeps a v12 := keeps_of h0; clear_value v10
  split
  · exact keeps_ite (State.raise_keeps hv12) hv12
  · exact hv12

theorem State.offerGnssLeap_keeps {x0 x1 x2} (h0 : Keeps a x0) : Keeps a (State.offerGnssLeap x0 x1 x2) := by
  unfold State.offerGnssLeap
  extract_lets -useContext v10 v11 v12
  exact keeps_ite (keeps_ite (State.withdrawLeap_keeps h0) h0) (keeps_ite h0 (keeps_ite h0 (keeps_ite (State.refuseLeap_keeps h0) (State.announceLeap_keeps h0))))

theorem State.takeUtc_keeps {x0 x1} (h0 : Keeps a x0) : Keeps a (State.takeUtc x0 x1) := by
  unfold State.takeUtc
  extract_lets -useContext v10 v11 v12 v13
  have hv10 : Keeps a v10 := State.putI_keeps h0
  have hv12 : Keeps a v12 := keeps_ite hv10 (State.raise_keeps (keeps_of hv10))
  have hv13 : Keeps a v13 := State.offerGnssLeap_keeps hv12
  exact keeps_ite (State.refuseLeap_keeps hv13) hv13

theorem execNavDecode_keepsO {x0 x1 x2 x3 x4 x5 x6} (h6 : Keeps a x6) : KeepsO a (execNavDecode x0 x1 x2 x3 x4 x5 x6) := by
  unfold execNavDecode
  refine keepsO_next ?_
  refine keeps_ite ?_ ?_
  · exact h6
  · extract_lets -useContext v10 v11
    have hv10 : Keeps a v10 := State.takeDecoded_keeps h6
    split
    · exact hv10
    · refine keeps_ite ?_ ?_
      · exact hv10
      · extract_lets -useContext v12
        have hv12 : Keeps a v12 := keeps_of hv10
        exact keeps_ite hv12 (State.takeUtc_keeps hv12)

theorem State.takeLoaded_keeps {x0 x1} (h0 : Keeps a x0) : Keeps a (State.takeLoaded x0 x1) := by
  unfold State.takeLoaded
  extract_lets -useContext v10
  split
  · exact keeps_ite h0 (State.raise_keeps h0)
  · exact keeps_of h0

theorem State.loadNav_keeps1 {x0 x1 x2} (h0 : Keeps a x0) : Keeps1 a (State.loadNav x0 x1 x2) := by
  induction x2 generalizing x0 x1 with
  | nil => exact h0
  | cons r rs ih =>
    unfold State.loadNav
    split
    · exact ih (State.raise_keeps h0)
    · exact ih (State.takeLoaded_keeps h0)

theorem State.afterGnb_keeps {x0 x1 x2} (h0 : Keeps a x0) : Keeps a (State.afterGnb x0 x1 x2) := by
  unfold State.afterGnb
  extract_lets -useContext v10 v11 v12
  have hv10 : ∀ y0 y1, Keeps a y0 → Keeps a (v10 y0 y1) := fun _ _ h13 => (keeps_foldl h13 fun _ _ h14 => (keeps_ite (State.toSearch_keeps (State.clearLocks_keeps h14)) h14))
  have hv12 : Keeps a v12 := keeps_ite (hv10 _ _ h0) h0
  exact keeps_ite (keeps_ite (keeps_ite (State.gnssStop_keeps h0) h0) (keeps_ite (State.gnssStart_keeps h0) (keeps_ite h0 (State.newSeries_keeps h0)))) (keeps_ite (keeps_foldl h0 fun _ _ h15 => (keeps_ite h15 (State.releaseCh_keeps h15))) (keeps_ite (keeps_foldl h0 fun _ _ h16 => (State.retune_keeps h16)) (keeps_ite (keeps_ite (hv10 _ _ hv12) hv12) (keeps_ite (hv10 _ _ h0) (keeps_ite (hv10 _ _ h0) h0)))))

theorem gnbSetEff_keepsR {x0 x1 x2 x3} (h3 : Keeps a x3) : KeepsR a (gnbSetEff x0 x1 x2 x3) := by
  unfold gnbSetEff
  refine keepsR_ite ?_ ?_
  · exact keepsR_mk h3
  · refine keepsR_ite ?_ ?_
    · exact keepsR_mk h3
    · extract_lets -useContext v10 v11
      have hv11 : KeepsR a v11 := State.setWord_keepsR h3
      exact keepsR_ite (keepsR_mk (State.afterGnb_keeps (keepsR_s hv11))) hv11

theorem execGnbSet_keepsO {x0 x1 x2 x3} (h3 : Keeps a x3) : KeepsO a (execGnbSet x0 x1 x2 x3) :=
  keepsO_next (State.runCmd_keeps h3 (fun _ _ h10 => (gnbSetEff_keepsR h10)))

theorem gnssPosSetEff_keepsR {x0 x1 x2 x3 x4 x5 x6 x7} (h7 : Keeps a x7) : KeepsR a (gnssPosSetEff x0 x1 x2 x3 x4 x5 x6 x7) := by
  unfold gnssPosSetEff
  extract_lets -useContext v10 v11 v12 v13 v14 v15
  have hv12 : Keeps a v12 := State.putI64_keeps h7
  have hv13 : Keeps a v13 := State.putI64_keeps hv12
  have hv14 : Keeps a v14 := State.putI64_keeps hv13
  have hv15 : Keeps a v15 := keeps_ite (State.startSurvey_keeps h7) (State.put_keeps (State.put_keeps hv14))
  exact keepsR_ite (keepsR_mk h7) (keepsR_ite (keepsR_mk h7) (keepsR_ite (keepsR_mk h7) (keepsR_ite (keepsR_mk h7) (keepsR_mk (State.change_keeps hv15)))))

theorem execGnssPosSet_keepsO {x0 x1 x2 x3 x4 x5 x6 x7} (h7 : Keeps a x7) : KeepsO a (execGnssPosSet x0 x1 x2 x3 x4 x5 x6 x7) :=
  keepsO_next (State.runCmd_keeps h7 (fun _ _ h10 => (gnssPosSetEff_keepsR h10)))

theorem gnssNavLoadEff_keepsR {x0 x1 x2 x3 x4} (h4 : Keeps a x4) : KeepsR a (gnssNavLoadEff x0 x1 x2 x3 x4) := by
  unfold gnssNavLoadEff
  refine keepsR_ite ?_ ?_
  · exact keepsR_mk h4
  · split
    · exact keepsR_mk h4
    · refine keepsR_ite ?_ ?_
      · exact keepsR_mk h4
      · split
        · rename_i y10 y11 y12 e13
          have h14 : Keeps a y11 := keeps_fst e13 (State.loadNav_keeps1 h4)
          exact keepsR_mk h14

theorem execGnssNavLoad_keepsO {x0 x1 x2 x3 x4 x5} (h5 : Keeps a x5) : KeepsO a (execGnssNavLoad x0 x1 x2 x3 x4 x5) :=
  keepsO_next (State.runCmd_keeps h5 (fun _ _ h10 => (gnssNavLoadEff_keepsR h10)))

theorem gnssNavReadEff_keepsR {x0 x1 x2 x3 x4 x5} (h5 : Keeps a x5) : KeepsR a (gnssNavReadEff x0 x1 x2 x3 x4 x5) := by
  unfold gnssNavReadEff
  refine keepsR_ite ?_ ?_
  · exact keepsR_mk h5
  · extract_lets -useContext v10
    exact keepsR_ite (keepsR_mk h5) (keepsR_ite (keepsR_mk h5) (keepsR_mk (State.dmaWrite_keeps h5)))

theorem execGnssNavRead_keepsO {x0 x1 x2 x3 x4} (h4 : Keeps a x4) : KeepsO a (execGnssNavRead x0 x1 x2 x3 x4) :=
  keepsO_next (State.runCmd_keeps h4 (fun _ _ h10 => (gnssNavReadEff_keepsR h10)))

theorem gnssColdStartEff_keepsR {x0 x1} (h1 : Keeps a x1) : KeepsR a (gnssColdStartEff x0 x1) := by
  unfold gnssColdStartEff
  refine keepsR_ite ?_ ?_
  · exact keepsR_mk h1
  · extract_lets -useContext v10 v11
    have hv11 : Keeps a v11 := keeps_foldl (keeps_of h1) fun _ _ h12 => (State.releaseCh_keeps h12)
    exact keepsR_mk (State.change_keeps (State.restartTtff_keeps hv11))

theorem execGnssColdStart_keepsO {x0 x1} (h1 : Keeps a x1) : KeepsO a (execGnssColdStart x0 x1) :=
  keepsO_next (State.runCmd_keeps h1 (fun _ _ h10 => (gnssColdStartEff_keepsR h10)))

theorem State.setLink_keeps {x0 x1 x2} (h0 : Keeps a x0) : Keeps a (State.setLink x0 x1 x2) :=
  State.put_keeps h0

theorem State.linkEvent_keeps {x0 x1 x2} (h0 : Keeps a x0) : Keeps a (State.linkEvent x0 x1 x2) := by
  unfold State.linkEvent
  exact State.raiseGap_keeps h0

theorem State.portCount_keeps {x0 x1} (h0 : Keeps a x0) : Keeps a (State.portCount x0 x1) :=
  State.bumpSat_keeps h0

theorem State.portCountBy_keeps {x0 x1 x2} (h0 : Keeps a x0) : Keeps a (State.portCountBy x0 x1 x2) :=
  State.put_keeps h0

theorem State.raisePort_keeps {x0 x1 x2 x3 x4} (h0 : Keeps a x0) : Keeps a (State.raisePort x0 x1 x2 x3 x4) :=
  State.raiseGap_keeps h0

theorem State.linkGone_keeps {x0 x1} (h0 : Keeps a x0) : Keeps a (State.linkGone x0 x1) := by
  unfold State.linkGone
  extract_lets -useContext v10
  have hv10 : Keeps a v10 := State.stopTimer_keeps (State.put_keeps (State.put_keeps h0))
  exact State.sourceLos_keeps hv10

theorem State.linkOff_keeps {x0 x1} (h0 : Keeps a x0) : Keeps a (State.linkOff x0 x1) :=
  keeps_ite h0 (State.linkGone_keeps (State.setLink_keeps h0))

theorem State.linkStart_keeps {x0 x1} (h0 : Keeps a x0) : Keeps a (State.linkStart x0 x1) :=
  keeps_ite (State.setLink_keeps h0) h0

theorem execLinkAlign_keepsO {x0 x1} (h1 : Keeps a x1) : KeepsO a (execLinkAlign x0 x1) := by
  unfold execLinkAlign
  refine keepsO_next ?_
  extract_lets -useContext v10 v11
  have hv10 : Keeps a v10 := keeps_ite (State.linkStart_keeps h1) h1
  have hv11 : Keeps a v11 := State.arm_keeps (State.setLink_keeps hv10)
  exact keeps_ite (State.putB_keeps (State.put_keeps hv11)) hv10

theorem State.linkUp_keeps {x0 x1 x2} (h0 : Keeps a x0) : Keeps a (State.linkUp x0 x1 x2) := by
  unfold State.linkUp
  refine keeps_ite ?_ ?_
  · extract_lets -useContext v10 v11
    have hv10 : Keeps a v10 := State.put_keeps (State.stopTimer_keeps (State.setLink_keeps h0))
    have hv11 : Keeps a v11 := State.put_keeps (State.put_keeps hv10)
    exact State.arm_keeps (State.linkEvent_keeps hv11)
  · exact h0

theorem execAlignTimeout_keepsO {x0 x1} (h1 : Keeps a x1) : KeepsO a (execAlignTimeout x0 x1) :=
  keepsO_next (keeps_ite (State.linkGone_keeps (State.portCount_keeps (State.setLink_keeps h1))) h1)

theorem State.linkDown_keeps {x0 x1 x2 x3} (h0 : Keeps a x0) : Keeps a (State.linkDown x0 x1 x2 x3) := by
  unfold State.linkDown
  refine keeps_ite ?_ ?_
  · extract_lets -useContext v10 v11
    have hv10 : Keeps a v10 := State.portCount_keeps (State.setLink_keeps h0)
    have hv11 : Keeps a v11 := State.putB_keeps (State.putB_keeps hv10)
    exact State.linkGone_keeps (State.linkEvent_keeps hv11)
  · exact h0

theorem State.stampTaken_keeps {x0 x1 x2} (h0 : Keeps a x0) : Keeps a (State.stampTaken x0 x1 x2) := by
  unfold State.stampTaken
  extract_lets -useContext v10 v11 v12 v13 v14 v15 v16
  have hv11 : Keeps a v11 := State.pmcEvent_keeps h0
  have hv13 : Keeps a v13 := State.pmcEvent_keeps (State.portCount_keeps hv11)
  have hv16 : Keeps a v16 := State.setPort_keeps hv13
  exact keeps_ite (State.setPort_keeps hv11) (keeps_ite (State.raisePort_keeps hv16) hv16)

theorem State.writeBuffers_keeps {x0 x1 x2 x3} (h0 : Keeps a x0) : Keeps a (State.writeBuffers x0 x1 x2 x3) := by
  induction x3 generalizing x0 x1 x2 with
  | nil => exact h0
  | cons b r ih => exact ih (State.dmaWrite_keeps (State.dmaWrite_keeps h0))

theorem State.noBuffer_keeps {x0 x1} (h0 : Keeps a x0) : Keeps a (State.noBuffer x0 x1) := by
  unfold State.noBuffer
  extract_lets -useContext v10
  have hv10 : Keeps a v10 := State.portCount_keeps h0
  exact State.raisePort_keeps hv10

theorem State.deliverInto_keeps {x0 x1 x2 x3 x4 x5} (h0 : Keeps a x0) : Keeps a (State.deliverInto x0 x1 x2 x3 x4 x5) := by
  unfold State.deliverInto
  split
  · exact State.noBuffer_keeps h0
  · refine keeps_ite ?_ ?_
    · exact State.ringError_keeps h0
    · extract_lets -useContext v10
      have hv10 : Keeps a v10 := State.consume_keeps (State.writeBuffers_keeps h0)
      exact State.portCount_keeps hv10

theorem State.deliverTo_keeps {x0 x1 x2 x3 x4 x5 x6} (h0 : Keeps a x0) : Keeps a (State.deliverTo x0 x1 x2 x3 x4 x5 x6) := by
  unfold State.deliverTo
  extract_lets -useContext v10 v11
  exact State.deliverInto_keeps h0

theorem State.deliver_keeps {x0 x1 x2 x3 x4 x5} (h0 : Keeps a x0) : Keeps a (State.deliver x0 x1 x2 x3 x4 x5) := by
  unfold State.deliver
  split
  · exact State.noBuffer_keeps h0
  · exact State.deliverTo_keeps h0

theorem State.toHost_keeps {x0 x1 x2 x3 x4 x5} (h0 : Keeps a x0) : Keeps a (State.toHost x0 x1 x2 x3 x4 x5) := by
  unfold State.toHost
  split
  · rename_i x_ t_ heq_
    have h10 : Keeps a t_ := keeps_snd heq_ (State.letIn_keeps2 h0)
    exact keeps_ite (State.deliver_keeps h10) h10

theorem State.addOctets_keeps {x0 x1 x2 x3} (h0 : Keeps a x0) : Keeps a (State.addOctets x0 x1 x2 x3) :=
  State.put64_keeps h0

theorem State.fecCount_keeps {x0 x1 x2} (h0 : Keeps a x0) : Keeps a (State.fecCount x0 x1 x2) := by
  unfold State.fecCount
  extract_lets -useContext v10 v11
  have hv10 : Keeps a v10 := State.portCountBy_keeps h0
  have hv11 : Keeps a v11 := State.portCountBy_keeps (State.portCountBy_keeps hv10)
  exact keeps_ite hv11 (State.raisePort_keeps hv11)

theorem execFrameReceived_keepsO {x0 x1 x2} (h2 : Keeps a x2) : KeepsO a (execFrameReceived x0 x1 x2) := by
  unfold execFrameReceived
  extract_lets -useContext v10 v11 v12 v13 v14 v15 v16
  have hv13 : Keeps a v13 := State.stampTaken_keeps (State.fecCount_keeps h2)
  have hv14 : Keeps a v14 := State.addOctets_keeps (State.portCount_keeps hv13)
  have hv16 : Keeps a v16 := State.pmcEvent_keeps hv14
  refine keepsO_next ?_
  refine keeps_ite ?_ ?_
  · exact h2
  · clear_value v11
    split
    · rename_i y17 y18
      exact State.portCount_keeps hv13
    · rename_i y19
      refine keeps_ite ?_ ?_
      · exact State.portCount_keeps hv16
      · split
        · exact State.portCount_keeps hv16
        · exact State.bump_keeps hv16
        · extract_lets -useContext v20
          have hv20 : Keeps a v20 := keeps_of hv16
          exact keeps_ite (State.toHost_keeps hv20) hv20
        · exact State.toHost_keeps hv16

theorem State.timeDrop_keeps {x0 x1 x2} (h0 : Keeps a x0) : Keeps a (State.timeDrop x0 x1 x2) := by
  unfold State.timeDrop
  extract_lets -useContext v10 v11 v12
  have hv11 : Keeps a v11 := State.setPort_keeps h0
  have hv12 : Keeps a v12 := State.portCount_keeps hv11
  exact State.raisePort_keeps hv12

theorem State.fifoPush_keeps {x0 x1 x2 x3} (h0 : Keeps a x0) : Keeps a (State.fifoPush x0 x1 x2 x3) := by
  unfold State.fifoPush
  extract_lets -useContext v10 v11 v12 v13 v14 v15
  have hv12 : Keeps a v12 := keeps_ite (State.timeDrop_keeps h0) h0
  have hv14 : Keeps a v14 := keeps_ite (State.timeDrop_keeps hv12) hv12
  exact State.setPort_keeps hv14

theorem State.txPush_keeps {x0 x1 x2 x3} (h0 : Keeps a x0) : Keeps a (State.txPush x0 x1 x2 x3) := by
  unfold State.txPush
  exact keeps_ite (State.fifoPush_keeps h0) h0

theorem State.tsqPush_keeps {x0 x1 x2} (h0 : Keeps a x0) : Keeps a (State.tsqPush x0 x1 x2) := by
  unfold State.tsqPush
  extract_lets -useContext v10 v11 v12 v13
  have hv12 : Keeps a v12 := State.setPort_keeps (State.rqGone_keeps h0)
  have hv13 : Keeps a v13 := State.rqLostNote_keeps (State.portCount_keeps (State.bump_keeps hv12))
  exact keeps_ite (State.rqFill_keeps (State.setPort_keeps h0)) (State.raisePort_keeps hv13)

theorem State.tsqFail_keeps {x0 x1 x2 x3} (h0 : Keeps a x0) : Keeps a (State.tsqFail x0 x1 x2 x3) := by
  unfold State.tsqFail
  split
  · exact State.tsqPush_keeps h0
  · exact h0

theorem State.takeSeq_keeps2 {x0 x1 x2 x3} (h0 : Keeps a x0) : Keeps2 a (State.takeSeq x0 x1 x2 x3) := by
  unfold State.takeSeq
  refine keeps2_ite ?_ ?_
  · extract_lets -useContext v10
    exact keeps2_mk (State.put_keeps h0)
  · exact keeps2_mk h0

theorem State.fetchFrame_keeps {x0 x1 x2 x3 x4} (h0 : Keeps a x0) : Keeps a (State.fetchFrame x0 x1 x2 x3 x4) := by
  unfold State.fetchFrame
  split
  · exact h0
  · extract_lets -useContext v10 v11 v12 v13 v14 v15 v16 v17 v18
    have hv17 : Keeps a v17 := State.consume_keeps h0
    have hv18 : Keeps a v18 := keeps_ite (State.signalVector_keeps hv17) hv17
    refine keeps_ite ?_ ?_
    · exact h0
    · refine keeps_ite ?_ ?_
      · exact State.ringError_keeps h0
      · split
        · rename_i x_ t_ heq_
          have h19 : Keeps a t_ := keeps_snd heq_ (State.takeSeq_keeps2 hv18)
          exact keeps_ite (State.tsqFail_keeps (State.portCount_keeps h19)) (State.setPort_keeps h19)

theorem execHostFrameFetch_keepsO {x0 x1 x2} (h2 : Keeps a x2) : KeepsO a (execHostFrameFetch x0 x1 x2) := by
  unfold execHostFrameFetch
  refine keepsO_next ?_
  refine keeps_ite ?_ ?_
  · exact h2
  · split
    · exact h2
    · exact State.fetchFrame_keeps h2

theorem State.sent_keeps {x0 x1 x2 x3} (h0 : Keeps a x0) : Keeps a (State.sent x0 x1 x2 x3) :=
  State.pmcEvent_keeps (State.addOctets_keeps (State.portCount_keeps h0))

theorem State.launchHost_keeps {x0 x1 x2 x3 x4} (h0 : Keeps a x0) : Keeps a (State.launchHost x0 x1 x2 x3 x4) := by
  unfold State.launchHost
  refine keeps_ite ?_ ?_
  · exact State.tsqFail_keeps (State.portCount_keeps h0)
  · refine keeps_ite ?_ ?_
    · exact State.tsqFail_keeps (State.portCount_keeps h0)
    · extract_lets -useContext v10 v11 v12
      have hv10 : Keeps a v10 := State.stampTaken_keeps h0
      have hv11 : Keeps a v11 := keeps_of hv10
      have hv12 : Keeps a v12 := State.portCount_keeps (State.sent_keeps hv11)
      split
      · exact State.tsqPush_keeps hv12
      · exact hv12

theorem State.setHalt_keeps {x0 x1 x2 x3} (h0 : Keeps a x0) : Keeps a (State.setHalt x0 x1 x2 x3) :=
  State.putBit_keeps h0

theorem State.pausePrio_keeps {x0 x1 x2 x3} (h0 : Keeps a x0) : Keeps a (State.pausePrio x0 x1 x2 x3) := by
  unfold State.pausePrio
  extract_lets -useContext v10 v11
  exact keeps_ite (keeps_ite h0 (State.setPort_keeps h0)) (keeps_ite (State.setHalt_keeps (State.setPort_keeps h0)) (State.setHalt_keeps (State.setPort_keeps h0)))

theorem execPauseFrame_keepsO {x0 x1 x2 x3 x4} (h4 : Keeps a x4) : KeepsO a (execPauseFrame x0 x1 x2 x3 x4) := by
  unfold execPauseFrame
  refine keepsO_next ?_
  refine keeps_ite ?_ ?_
  · exact h4
  · extract_lets -useContext v10
    have hv10 : Keeps a v10 := State.portCount_keeps h4
    exact keeps_foldl hv10 fun _ _ h11 => (keeps_ite (keeps_ite (State.pausePrio_keeps h11) h11) (State.pausePrio_keeps h11))

theorem execPauseExpiry_keepsO {x0 x1 x2} (h2 : Keeps a x2) : KeepsO a (execPauseExpiry x0 x1 x2) := by
  unfold execPauseExpiry
  refine keepsO_next ?_
  refine keeps_ite ?_ ?_
  · extract_lets -useContext v10
    split
    · exact keeps_ite (State.setHalt_keeps (State.setPort_keeps h2)) h2
    · exact h2
  · exact h2

theorem execPauseWd_keepsO {x0 x1} (h1 : Keeps a x1) : KeepsO a (execPauseWd x0 x1) := by
  unfold execPauseWd
  refine keepsO_next ?_
  refine keeps_ite ?_ ?_
  · exact h1
  · extract_lets -useContext v10 v11
    have hv11 : Keeps a v11 := by
      refine keeps_foldl ?_ ?_
      · exact h1
      · intro s x h14
        extract_lets -useContext v15 v16
        have hv16 : Keeps a v16 := State.setPort_keeps h14
        exact State.portCount_keeps (State.putBit_keeps (State.setHalt_keeps hv16))
    exact keeps_ite h1 (State.raisePort_keeps hv11)

theorem execWdIgnoreEnd_keepsO {x0 x1 x2} (h2 : Keeps a x2) : KeepsO a (execWdIgnoreEnd x0 x1 x2) := by
  unfold execWdIgnoreEnd
  refine keepsO_next ?_
  refine keeps_ite ?_ ?_
  · split
    · exact keeps_ite (State.putBit_keeps h2) h2
    · exact State.putBit_keeps h2
  · exact h2

theorem State.setQl_keeps {x0 x1 x2 x3} (h0 : Keeps a x0) : Keeps a (State.setQl x0 x1 x2 x3) :=
  keeps_foldl (State.put_keeps (State.put_keeps h0)) fun _ _ h10 => (keeps_ite (State.put_keeps (State.put_keeps h10)) h10)

theorem execEsmcPdu_keepsO {x0 x1 x2 x3 x4 x5 x6 x7 x8} (h8 : Keeps a x8) : KeepsO a (execEsmcPdu x0 x1 x2 x3 x4 x5 x6 x7 x8) := by
  unfold execEsmcPdu
  refine keepsO_next ?_
  refine keeps_ite ?_ ?_
  · exact h8
  · refine keeps_ite ?_ ?_
    · exact State.portCount_keeps h8
    · extract_lets -useContext v10 v11 v12 v13
      have hv11 : Keeps a v11 := State.setQl_keeps (State.portCount_keeps h8)
      have hv12 : Keeps a v12 := keeps_ite (State.put_keeps hv11) hv11
      have hv13 : Keeps a v13 := State.arm_keeps hv12
      exact keeps_ite hv13 (State.raisePort_keeps hv13)

theorem execEsmcTimeout_keepsO {x0 x1} (h1 : Keeps a x1) : KeepsO a (execEsmcTimeout x0 x1) := by
  unfold execEsmcTimeout
  refine keepsO_next ?_
  refine keeps_ite ?_ ?_
  · extract_lets -useContext v10
    exact State.raisePort_keeps (State.setQl_keeps (State.stopTimer_keeps h1))
  · exact h1

theorem State.esmcSend_keeps {x0 x1 x2} (h0 : Keeps a x0) : Keeps a (State.esmcSend x0 x1 x2) := by
  unfold State.esmcSend
  extract_lets -useContext v10 v11 v12 v13
  have hv13 : Keeps a v13 := State.setPort_keeps h0
  exact keeps_ite h0 (State.fifoPush_keeps (State.setVar_keeps hv13))

theorem State.launchEsmc_keeps {x0 x1 x2 x3 x4} (h0 : Keeps a x0) : Keeps a (State.launchEsmc x0 x1 x2 x3 x4) := by
  unfold State.launchEsmc
  extract_lets -useContext v10
  have hv10 : Keeps a v10 := State.stampTaken_keeps h0
  exact keeps_ite h0 (State.sent_keeps (keeps_of hv10))

theorem execEsmcInfoTx_keepsO {x0 x1} (h1 : Keeps a x1) : KeepsO a (execEsmcInfoTx x0 x1) :=
  keepsO_next (keeps_ite (State.arm_keeps (State.esmcSend_keeps h1)) h1)

theorem execEsmcEventTx_keepsO {x0 x1} (h1 : Keeps a x1) : KeepsO a (execEsmcEventTx x0 x1) :=
  keepsO_next (keeps_ite (State.esmcSend_keeps h1) h1)

theorem portSetEff_keepsR {x0 x1 x2 x3 x4} (h4 : Keeps a x4) : KeepsR a (portSetEff x0 x1 x2 x3 x4) := by
  unfold portSetEff
  extract_lets -useContext v10 v11
  exact keepsR_ite (keepsR_mk h4) (keepsR_ite (keepsR_mk h4) (keepsR_ite (keepsR_mk h4) (State.setWord_keepsR h4)))

theorem execPortSet_keepsO {x0 x1 x2 x3 x4} (h4 : Keeps a x4) : KeepsO a (execPortSet x0 x1 x2 x3 x4) :=
  keepsO_next (State.runCmd_keeps h4 (fun _ _ h10 => (portSetEff_keepsR h10)))

end Sys2Proof.Machine
end

