-- ==== Sys2Proof/Laws/KeepsE.lean ====
section
/-! SUPPORT. What operations keep: those of Ntp, Ptp, Upstream, Serve. -/

set_option Elab.async false

namespace Sys2Proof.Machine

variable {a : State}

theorem State.ntpUpdate_keeps {x0} (h0 : Keeps a x0) : Keeps a (State.ntpUpdate x0) := by
  unfold State.ntpUpdate
  extract_lets -useContext v10 v11 v12
  have hv12 : Keeps a v12 := State.putB_keeps (State.put_keeps h0)
  exact keeps_ite hv12 (State.raise_keeps hv12)

theorem State.takeKiss_keeps2 {x0} (h0 : Keeps a x0) : Keeps2 a (State.takeKiss x0) := by
  unfold State.takeKiss
  extract_lets -useContext v10 v11
  exact keeps2_ite (keeps2_mk (State.setVar_keeps (State.setVar_keeps h0))) (keeps2_mk (State.setVar_keeps (State.setVar_keeps h0)))

theorem State.kiss_keeps {x0 x1 x2 x3 x4} (h0 : Keeps a x0) : Keeps a (State.kiss x0 x1 x2 x3 x4) := by
  unfold State.kiss
  extract_lets -useContext v10 v11 v12
  have hv10 : Keeps a v10 := State.bump_keeps h0
  refine keeps_ite ?_ ?_
  · exact hv10
  · split
    · rename_i x_ t_ heq_
      have h13 : Keeps a t_ := keeps_snd heq_ (State.takeKiss_keeps2 hv10)
      exact State.raiseNtp_keeps (State.bump_keeps h13)
    · rename_i x_ t_ heq_
      have h14 : Keeps a t_ := keeps_snd heq_ (State.takeKiss_keeps2 hv10)
      extract_lets -useContext v15 v16 v17 v18
      have hv18 : Keeps a v18 := keeps_ite h14 (keeps_of h14)
      exact State.txPush_keeps hv18

theorem State.notServing_keeps {x0 x1 x2} (h0 : Keeps a x0) : Keeps a (State.notServing x0 x1 x2) := by
  unfold State.notServing
  extract_lets -useContext v10
  have hv10 : Keeps a v10 := State.bump_keeps h0
  exact keeps_ite (keeps2_snd (State.letIn_keeps2 hv10)) hv10

theorem State.plainRequest_keeps {x0 x1 x2 x3} (h0 : Keeps a x0) : Keeps a (State.plainRequest x0 x1 x2 x3) := by
  unfold State.plainRequest
  split
  · rename_i x_ t_ heq_
    have h10 : Keeps a t_ := keeps_snd heq_ (State.letIn_keeps2 h0)
    split
    · exact h10
    · exact State.kiss_keeps h10
    · refine keeps_ite ?_ ?_
      · exact State.kiss_keeps h10
      · refine keeps_ite ?_ ?_
        · exact State.bump_keeps h10
        · extract_lets -useContext v11 v12 v13
          exact State.txPush_keeps h10

theorem execNtpRequest_keepsO {x0 x1 x2 x3} (h3 : Keeps a x3) : KeepsO a (execNtpRequest x0 x1 x2 x3) := by
  unfold execNtpRequest
  extract_lets -useContext v10 v11
  have hv11 : Keeps a v11 := State.bump_keeps h3
  refine keepsO_next ?_
  refine keeps_ite ?_ ?_
  · exact h3
  · split
    · exact State.bump_keeps h3
    · exact State.bump_keeps h3
    · exact h3
    · exact h3
    · exact keeps_ite (State.bump_keeps hv11) (State.notServing_keeps hv11)
    · exact keeps_ite hv11 (keeps_ite (State.plainRequest_keeps hv11) (State.notServing_keeps hv11))

theorem State.ntsFail_keeps {x0 x1 x2 x3} (h0 : Keeps a x0) : Keeps a (State.ntsFail x0 x1 x2 x3) := by
  unfold State.ntsFail
  extract_lets -useContext v10
  have hv10 : Keeps a v10 := State.bump_keeps h0
  exact keeps_ite (State.entryAuthFail_keeps hv10) hv10

theorem State.aesBlocks_keeps {x0 x1 x2} (h0 : Keeps a x0) : Keeps a (State.aesBlocks x0 x1 x2) := by
  unfold State.aesBlocks
  split
  · rename_i x_ t_ heq_
    have h10 : Keeps a t_ := keeps_snd heq_ (State.takeFree_keeps2 h0)
    exact State.pmcEvent_keeps h10

theorem State.chargeMore_keeps {x0 x1} (h0 : Keeps a x0) : Keeps a (State.chargeMore x0 x1) := by
  unfold State.chargeMore
  extract_lets -useContext v10 v11 v12
  exact keeps_ite h0 (keeps_of h0)

theorem State.ntsReply_keeps {x0 x1 x2 x3 x4 x5 x6 x7} (h0 : Keeps a x0) : Keeps a (State.ntsReply x0 x1 x2 x3 x4 x5 x6 x7) := by
  unfold State.ntsReply
  extract_lets -useContext v10 v11 v12 v13 v14
  have hv12 : Keeps a v12 := State.bumpBy_keeps h0
  split
  · exact State.raiseNtp_keeps (State.bump_keeps h0)
  · refine keeps_ite ?_ ?_
    · exact State.raiseNtp_keeps (State.bump_keeps h0)
    · split
      · rename_i y15 y16 y17 e18
        have h19 : Keeps a y17 := keeps_snd e18 (State.cookies_keeps2 hv12)
        extract_lets -useContext v20 v21 v22 v23 v24 v25
        split
        · rename_i y26 y27 y28 e29
          have h30 : Keeps a y28 := keeps_snd e29 (State.draw_keeps2 h19)
          extract_lets -useContext v31 v32 v33 v34 v35
          have hv33 : Keeps a v33 := State.aesBlocks_keeps h30
          exact keeps_ite (State.setPort_keeps hv33) hv33

theorem State.ntsOpen_keeps {x0 x1 x2 x3 x4} (h0 : Keeps a x0) : Keeps a (State.ntsOpen x0 x1 x2 x3 x4) := by
  unfold State.ntsOpen
  extract_lets -useContext v10 v11 v12
  split
  · rename_i y13 y14 y15 e16
    have h17 : Keeps a y15 := keeps_snd e16 (State.letIn_keeps2 h0)
    extract_lets -useContext v18
    have hv18 : Keeps a v18 := State.pmcEvent_keeps h17
    refine keeps_ite ?_ ?_
    · exact h17
    · refine keeps_ite ?_ ?_
      · exact State.bump_keeps h17
      · split
        · exact State.raiseNtp_keeps (State.ntsFail_keeps h17)
        · extract_lets -useContext v19 v20
          have hv20 : Keeps a v20 := State.pmcEvent_keeps (State.bump_keeps hv18)
          refine keeps_ite ?_ ?_
          · exact State.raiseNtp_keeps (State.ntsFail_keeps h17)
          · split
            · exact State.raiseNtp_keeps (State.ntsFail_keeps hv18)
            · split
              · exact State.raiseNtp_keeps (State.ntsFail_keeps hv20)
              · split
                · extract_lets -useContext v21 v22
                  exact keeps_ite (State.bump_keeps hv20) (State.ntsReply_keeps (State.chargeMore_keeps hv20))

theorem execNtsRequest_keepsO {x0 x1 x2 x3} (h3 : Keeps a x3) : KeepsO a (execNtsRequest x0 x1 x2 x3) := by
  unfold execNtsRequest
  extract_lets -useContext v10 v11
  have hv11 : Keeps a v11 := State.bump_keeps h3
  refine keepsO_next ?_
  refine keeps_ite ?_ ?_
  · exact h3
  · refine keeps_ite ?_ ?_
    · exact State.notServing_keeps hv11
    · refine keeps_ite ?_ ?_
      · exact State.bump_keeps hv11
      · split
        · exact State.bump_keeps hv11
        · exact State.ntsOpen_keeps hv11

theorem State.launchNtp_keeps {x0 x1 x2 x3 x4} (h0 : Keeps a x0) : Keeps a (State.launchNtp x0 x1 x2 x3 x4) := by
  unfold State.launchNtp
  extract_lets -useContext v10 v11 v12 v13
  have hv10 : Keeps a v10 := State.stampTaken_keeps h0
  have hv13 : Keeps a v13 := keeps_of hv10
  exact State.pmcEvent_keeps (State.bump_keeps (State.sent_keeps hv13))

theorem execNtsLaunch_keepsO {x0 x1 x2} (h2 : Keeps a x2) : KeepsO a (execNtsLaunch x0 x1 x2) := by
  unfold execNtsLaunch
  refine keepsO_next ?_
  refine keeps_ite ?_ ?_
  · exact h2
  · split
    · exact h2
    · extract_lets -useContext v10 v11 v12 v13 v14 v15
      have hv12 : Keeps a v12 := State.setPort_keeps h2
      have hv13 : Keeps a v13 := State.stampTaken_keeps hv12
      have hv15 : Keeps a v15 := keeps_of hv13
      exact keeps_ite h2 (keeps_ite (State.bump_keeps hv12) (keeps_ite (State.raiseNtp_keeps (State.bump_keeps hv13)) (State.pmcEvent_keeps (State.bump_keeps (State.sent_keeps hv15)))))

theorem ntpSetEff_keepsR {x0 x1 x2 x3} (h3 : Keeps a x3) : KeepsR a (ntpSetEff x0 x1 x2 x3) := by
  unfold ntpSetEff
  extract_lets -useContext v10 v11 v12
  have hv12 : KeepsR a v12 := State.setWord_keepsR h3
  exact keepsR_ite (keepsR_mk h3) (keepsR_ite (keepsR_mk h3) (keepsR_ite (keepsR_mk h3) (keepsR_ite (keepsR_mk (State.ntpUpdate_keeps (State.mintUpdate_keeps (keepsR_s hv12)))) hv12)))

theorem execNtpSet_keepsO {x0 x1 x2 x3} (h3 : Keeps a x3) : KeepsO a (execNtpSet x0 x1 x2 x3) :=
  keepsO_next (State.runCmd_keeps h3 (fun _ _ h10 => (ntpSetEff_keepsR h10)))

theorem State.setInst_keeps {x0 x1 x2} (h0 : Keeps a x0) : Keeps a (State.setInst x0 x1 x2) := by
  unfold State.setInst
  exact keeps_of h0

theorem State.useSa_keeps {x0 x1} (h0 : Keeps a x0) : Keeps a (State.useSa x0 x1) := by
  unfold State.useSa
  split
  · exact State.bump_keeps h0
  · exact h0

theorem State.signGroup_keeps2 {x0 x1} (h0 : Keeps a x0) : Keeps2 a (State.signGroup x0 x1) := by
  unfold State.signGroup
  extract_lets -useContext v10
  refine keeps2_ite ?_ ?_
  · exact keeps2_mk h0
  · split
    · exact keeps2_mk (State.useSa_keeps (State.put_keeps h0))
    · exact keeps2_ite (keeps2_mk h0) (keeps2_mk (State.raise_keeps (State.put_keeps h0)))

theorem State.signClient_keeps2 {x0 x1 x2} (h0 : Keeps a x0) : Keeps2 a (State.signClient x0 x1 x2) := by
  unfold State.signClient
  refine keeps2_ite ?_ ?_
  · exact keeps2_mk h0
  · split
    · exact keeps2_mk (State.useSa_keeps h0)
    · exact keeps2_mk (State.bump_keeps h0)

theorem State.signReply_keeps2 {x0 x1 x2} (h0 : Keeps a x0) : Keeps2 a (State.signReply x0 x1 x2) := by
  unfold State.signReply
  split
  · exact keeps2_mk h0
  · split
    · exact keeps2_mk (State.useSa_keeps h0)
    · exact keeps2_mk (State.bump_keeps h0)

theorem State.authFail_keeps {x0 x1 x2 x3} (h0 : Keeps a x0) : Keeps a (State.authFail x0 x1 x2 x3) :=
  State.raiseGap_keeps (State.bump_keeps h0)

theorem State.verify_keeps2 {x0 x1 x2 x3} (h0 : Keeps a x0) : Keeps2 a (State.verify x0 x1 x2 x3) := by
  unfold State.verify
  extract_lets -useContext v10
  refine keeps2_ite ?_ ?_
  · exact keeps2_mk h0
  · split
    · exact keeps2_ite (keeps2_mk h0) (keeps2_mk (State.bump_keeps h0))
    · refine keeps2_ite ?_ ?_
      · split
        · exact keeps2_mk (State.useSa_keeps h0)
        · exact keeps2_mk (State.authFail_keeps h0)
      · exact keeps2_mk (State.authFail_keeps h0)

theorem State.toAll_keeps {x0 x1 x2} (h0 : Keeps a x0) : Keeps a (State.toAll x0 x1 x2) :=
  keeps_foldl h0 fun _ _ h10 => (keeps_foldl h10 fun _ _ h11 => (State.txPush_keeps h11))

theorem State.syncAll_keeps {x0 x1} (h0 : Keeps a x0) : Keeps a (State.syncAll x0 x1) := by
  unfold State.syncAll
  split
  · rename_i x_ t_ heq_
    have h10 : Keeps a t_ := keeps_snd heq_ (State.signGroup_keeps2 h0)
    exact h10
  · rename_i x_ t_ heq_
    have h11 : Keeps a t_ := keeps_snd heq_ (State.signGroup_keeps2 h0)
    extract_lets -useContext v12
    exact State.toAll_keeps (State.setInst_keeps h11)

theorem State.announceAll_keeps {x0 x1} (h0 : Keeps a x0) : Keeps a (State.announceAll x0 x1) := by
  unfold State.announceAll
  split
  · rename_i x_ t_ heq_
    have h10 : Keeps a t_ := keeps_snd heq_ (State.signGroup_keeps2 h0)
    exact h10
  · rename_i x_ t_ heq_
    have h11 : Keeps a t_ := keeps_snd heq_ (State.signGroup_keeps2 h0)
    extract_lets -useContext v12
    exact State.toAll_keeps (State.setInst_keeps h11)

theorem State.setInstSt_keeps {x0 x1 x2} (h0 : Keeps a x0) : Keeps a (State.setInstSt x0 x1 x2) := by
  unfold State.setInstSt
  extract_lets -useContext v10 v11
  have hv11 : Keeps a v11 := State.putBit_keeps (State.put_keeps h0)
  exact keeps_ite hv11 (State.raise_keeps hv11)

theorem State.enterServing_keeps {x0 x1} (h0 : Keeps a x0) : Keeps a (State.enterServing x0 x1) := by
  unfold State.enterServing
  extract_lets -useContext v10 v11 v12
  have hv10 : Keeps a v10 := State.setInstSt_keeps h0
  have hv12 : Keeps a v12 := State.setInst_keeps hv10
  exact keeps_ite (State.announceAll_keeps hv12) hv12

theorem State.resumeSeq_keeps {x0 x1} (h0 : Keeps a x0) : Keeps a (State.resumeSeq x0 x1) :=
  State.setInst_keeps h0

theorem State.ptpJudge_keeps {x0 x1} (h0 : Keeps a x0) : Keeps a (State.ptpJudge x0 x1) := by
  unfold State.ptpJudge
  extract_lets -useContext v10 v11
  have hv11 : Keeps a v11 := State.put_keeps h0
  exact keeps_ite hv11 (keeps_ite (keeps_ite hv11 (State.setInstSt_keeps hv11)) (keeps_ite (keeps_ite (State.enterServing_keeps (State.resumeSeq_keeps hv11)) hv11) (keeps_ite (keeps_ite (State.enterServing_keeps hv11) hv11) (keeps_ite hv11 (State.setInstSt_keeps hv11)))))

theorem State.ptpJudgeAll_keeps {x0} (h0 : Keeps a x0) : Keeps a (State.ptpJudgeAll x0) :=
  keeps_foldl h0 fun _ _ h10 => (State.ptpJudge_keeps h10)

theorem State.countGrants_keeps {x0 x1} (h0 : Keeps a x0) : Keeps a (State.countGrants x0 x1) := by
  unfold State.countGrants
  extract_lets -useContext v10
  exact State.put_keeps (State.put_keeps h0)

theorem State.release_keeps {x0 x1 x2} (h0 : Keeps a x0) : Keeps a (State.release x0 x1 x2) := by
  unfold State.release
  split
  · exact h0
  · extract_lets -useContext v10 v11 v12
    have hv11 : Keeps a v11 := keeps_of h0
    have hv12 : Keeps a v12 := by
      dsimp -zeta only [v12]
      split
      · exact State.modEntry_keeps hv11
      · exact hv11
    exact State.countGrants_keeps hv12

theorem State.putCal_keeps {x0 x1} (h0 : Keeps a x0) : Keeps a (State.putCal x0 x1) := by
  unfold State.putCal
  extract_lets -useContext v10 v11
  have hv10 : Keeps a v10 := by
    dsimp -zeta only [v10]
    split
    · exact keeps_ite h0 (State.release_keeps h0)
    · exact h0
  exact State.countGrants_keeps (keeps_of hv10)

theorem State.enterGrant_keeps {x0 x1} (h0 : Keeps a x0) : Keeps a (State.enterGrant x0 x1) := by
  unfold State.enterGrant
  extract_lets -useContext v10 v11
  have hv11 : Keeps a v11 := State.putCal_keeps h0
  split
  · exact State.modEntry_keeps hv11
  · exact hv11

theorem State.awaitGrant_keeps {x0 x1} (h0 : Keeps a x0) : Keeps a (State.awaitGrant x0 x1) := by
  unfold State.awaitGrant
  split
  · exact State.putCal_keeps h0
  · exact State.putCal_keeps h0

theorem State.sendGrant_keeps {x0 x1 x2 x3 x4 x5} (h0 : Keeps a x0) : Keeps a (State.sendGrant x0 x1 x2 x3 x4 x5) := by
  unfold State.sendGrant
  refine keeps_ite (State.sendRecord_keeps (keeps_to h0 fun g =>
    ⟨g.mem, g.events, g.dumps, g.log, g.keeper, g.challenges, g.journal, ?_⟩)) h0
  dsimp only
  exact kept_length _ _

theorem State.signaling_keeps2 {x0 x1 x2 x3 x4 x5} (h0 : Keeps a x0) : Keeps2 a (State.signaling x0 x1 x2 x3 x4 x5) := by
  unfold State.signaling
  extract_lets -useContext v10
  exact keeps2_mk (State.setInst_keeps h0)

theorem State.cancelGrant_keeps {x0 x1} (h0 : Keeps a x0) : Keeps a (State.cancelGrant x0 x1) := by
  unfold State.cancelGrant
  extract_lets -useContext v10
  have hv10 : Keeps a v10 := State.release_keeps h0
  refine keeps_ite ?_ ?_
  · exact hv10
  · split
    · rename_i x_ t_ heq_
      have h11 : Keeps a t_ := keeps_snd heq_ (State.signClient_keeps2 hv10)
      exact h11
    · rename_i x_ t_ heq_
      have h12 : Keeps a t_ := keeps_snd heq_ (State.signClient_keeps2 hv10)
      split
      · rename_i x_ t_ heq_
        have h13 : Keeps a t_ := keeps_snd heq_ (State.signaling_keeps2 h12)
        exact State.txPush_keeps h13

theorem State.grantOver_keeps {x0 x1} (h0 : Keeps a x0) : Keeps a (State.grantOver x0 x1) := by
  unfold State.grantOver
  extract_lets -useContext v10
  have hv10 : Keeps a v10 := State.release_keeps h0
  split
  · exact State.putCal_keeps hv10
  · exact hv10

theorem execGrantExpiry_keepsO {x0 x1 x2} (h2 : Keeps a x2) : KeepsO a (execGrantExpiry x0 x1 x2) := by
  unfold execGrantExpiry
  refine keepsO_next ?_
  split
  · exact keeps_ite h2 (State.grantOver_keeps h2)
  · exact h2

theorem State.countDenied_keeps {x0 x1 x2 x3} (h0 : Keeps a x0) : Keeps a (State.countDenied x0 x1 x2 x3) := by
  unfold State.countDenied
  extract_lets -useContext v10
  have hv10 : Keeps a v10 := State.raise_keeps (State.bump_keeps h0)
  exact keeps_ite (State.raise_keeps hv10) hv10

theorem State.sendOrHold_keeps {x0 x1 x2 x3} (h0 : Keeps a x0) : Keeps a (State.sendOrHold x0 x1 x2 x3) := by
  unfold State.sendOrHold
  refine keeps_ite ?_ ?_
  · extract_lets -useContext v10
    have hv10 : Keeps a v10 := State.armAck_keeps h0
    exact keeps_of hv10
  · exact State.txPush_keeps h0

theorem State.releaseGrants_keeps {x0 x1} (h0 : Keeps a x0) : Keeps a (State.releaseGrants x0 x1) := by
  unfold State.releaseGrants
  extract_lets -useContext v10
  exact keeps_foldl (keeps_of h0) fun _ _ h11 => (State.txPush_keeps h11)

theorem State.replySignaling_keeps {x0 x1 x2 x3} (h0 : Keeps a x0) : Keeps a (State.replySignaling x0 x1 x2 x3) := by
  unfold State.replySignaling
  split
  · rename_i y10 e11
    exact keeps_snd e11 (State.signReply_keeps2 h0)
  · rename_i y10 y11 e12
    extract_lets -useContext v13 v14
    have hv14 : Keeps2 a v14 := State.signaling_keeps2 (keeps_snd e12 (State.signReply_keeps2 h0))
    exact State.txPush_keeps (keeps2_snd hv14)

theorem State.answerRequest_keeps {x0 x1 x2 x3 x4} (h0 : Keeps a x0) : Keeps a (State.answerRequest x0 x1 x2 x3 x4) := by
  unfold State.answerRequest
  extract_lets -useContext v10 v11 v12
  have hv12 : Keeps a v12 := by
    dsimp -zeta only [v12]
    split
    · exact keeps_ite h0 (State.grantOver_keeps h0)
    · exact h0
  split
  · exact State.countRefused_keeps hv12
  · exact State.replySignaling_keeps (State.countDenied_keeps hv12)
  · split
    · rename_i y13 e14
      exact keeps_snd e14 (State.signReply_keeps2 hv12)
    · rename_i y13 y14 e15
      have h16 : Keeps a y14 := keeps_snd e15 (State.signReply_keeps2 hv12)
      extract_lets -useContext v17 v18 v19 v20
      have hv20 : Keeps2 a v20 := State.signaling_keeps2 (State.sendGrant_keeps (State.awaitGrant_keeps h16))
      exact State.sendOrHold_keeps (keeps2_snd hv20)

theorem State.openSignaling_keeps2 {x0 x1} (h0 : Keeps a x0) : Keeps2 a (State.openSignaling x0 x1) := by
  unfold State.openSignaling
  split
  · rename_i y10 y11 y12 e13
    have h14 : Keeps a y12 := keeps_snd e13 (State.letIn_keeps2 h0)
    refine keeps2_ite ?_ ?_
    · exact keeps2_mk h14
    · split
      · rename_i y15 y16 e17
        have h18 : Keeps a y16 := keeps_snd e17 (State.verify_keeps2 h14)
        exact keeps2_mk (keeps_ite (State.entryAuthFail_keeps h18) h18)
      · rename_i y19 y20 y21 e22
        have h23 : Keeps a y21 := keeps_snd e22 (State.verify_keeps2 h14)
        exact keeps2_mk h23

theorem execRequestUnicastTransmission_keepsO {x0 x1 x2} (h2 : Keeps a x2) : KeepsO a (execRequestUnicastTransmission x0 x1 x2) := by
  unfold execRequestUnicastTransmission
  extract_lets -useContext v10
  refine keepsO_next ?_
  refine keeps_ite ?_ ?_
  · exact h2
  · split
    · rename_i x_ t_ heq_
      have h11 : Keeps a t_ := keeps_snd heq_ (State.openSignaling_keeps2 h2)
      exact h11
    · rename_i x_ t_ heq_
      have h12 : Keeps a t_ := keeps_snd heq_ (State.openSignaling_keeps2 h2)
      exact keeps_ite (keeps_foldl h12 fun _ _ h13 => (State.answerRequest_keeps h13)) h12

theorem State.answerCancel_keeps {x0 x1 x2 x3} (h0 : Keeps a x0) : Keeps a (State.answerCancel x0 x1 x2 x3) := by
  unfold State.answerCancel
  extract_lets -useContext v10 v11
  have hv11 : Keeps a v11 := by
    dsimp -zeta only [v11]
    split
    · exact keeps_ite (State.sendGrant_keeps (State.release_keeps h0)) h0
    · exact h0
  exact State.replySignaling_keeps hv11

theorem execCancelUnicastTransmission_keepsO {x0 x1 x2} (h2 : Keeps a x2) : KeepsO a (execCancelUnicastTransmission x0 x1 x2) := by
  unfold execCancelUnicastTransmission
  extract_lets -useContext v10
  refine keepsO_next ?_
  refine keeps_ite ?_ ?_
  · exact h2
  · split
    · rename_i x_ t_ heq_
      have h11 : Keeps a t_ := keeps_snd heq_ (State.openSignaling_keeps2 h2)
      exact h11
    · rename_i x_ t_ heq_
      have h12 : Keeps a t_ := keeps_snd heq_ (State.openSignaling_keeps2 h2)
      exact keeps_ite (keeps_foldl h12 fun _ _ h13 => (State.answerCancel_keeps h13)) h12

theorem State.applyGrant_keeps {x0 x1 x2 x3 x4 x5} (h0 : Keeps a x0) : Keeps a (State.applyGrant x0 x1 x2 x3 x4 x5) := by
  unfold State.applyGrant
  extract_lets -useContext v10 v11 v12
  have hv10 : Keeps a v10 := keeps_ite (keeps2_snd (State.learn_keeps2 h0)) h0
  exact keeps_ite (State.release_keeps h0) (State.enterGrant_keeps hv10)

theorem State.skip_keeps {x0 x1} (h0 : Keeps a x0) : Keeps a (State.skip x0 x1) := by
  unfold State.skip
  exact State.bump_keeps (State.setVar_keeps h0)

theorem State.servedGrant_keeps {x0 x1 x2} (h0 : Keeps a x0) : Keeps a (State.servedGrant x0 x1 x2) := by
  unfold State.servedGrant
  exact keeps_of h0

theorem State.grantTx_keeps {x0 x1 x2 x3 x4} (h0 : Keeps a x0) : Keeps a (State.grantTx x0 x1 x2 x3 x4) := by
  unfold State.grantTx
  extract_lets -useContext v10
  split
  · exact h0
  · extract_lets -useContext v11
    have hv11 : Keeps a v11 := State.servedGrant_keeps h0
    refine keeps_ite ?_ ?_
    · exact h0
    · refine keeps_ite ?_ ?_
      · exact State.skip_keeps hv11
      · split
        · rename_i y12 y13 e14
          have h15 : Keeps a y13 := keeps_snd e14 (State.signClient_keeps2 hv11)
          exact h15
        · rename_i y16 y17 y18 e19
          have h20 : Keeps a y18 := keeps_snd e19 (State.signClient_keeps2 hv11)
          extract_lets -useContext v21 v22 v23
          have hv22 : Keeps a v22 := State.setInst_keeps h20
          have hv23 : Keeps a v23 := State.setInst_keeps h20
          exact keeps_ite (State.txPush_keeps hv22) (State.txPush_keeps hv23)

theorem execSyncTx_keepsO {x0 x1 x2 x3} (h3 : Keeps a x3) : KeepsO a (execSyncTx x0 x1 x2 x3) := by
  unfold execSyncTx
  extract_lets -useContext v10 v11
  have hv11 : Keeps a v11 := State.setInst_keeps h3
  refine keepsO_next ?_
  refine keeps_ite ?_ ?_
  · exact h3
  · split
    · exact State.grantTx_keeps h3
    · exact keeps_ite h3 (keeps_ite (State.skip_keeps hv11) (State.syncAll_keeps hv11))

theorem execAnnounceTx_keepsO {x0 x1 x2 x3} (h3 : Keeps a x3) : KeepsO a (execAnnounceTx x0 x1 x2 x3) := by
  unfold execAnnounceTx
  extract_lets -useContext v10 v11
  have hv11 : Keeps a v11 := State.setInst_keeps h3
  refine keepsO_next ?_
  refine keeps_ite ?_ ?_
  · exact h3
  · split
    · exact State.grantTx_keeps h3
    · exact keeps_ite h3 (keeps_ite (State.skip_keeps hv11) (State.announceAll_keeps hv11))

theorem State.saTakes_keeps {x0 x1 x2} (h0 : Keeps a x0) : Keeps a (State.saTakes x0 x1 x2) := by
  unfold State.saTakes
  exact keeps_ite (State.setVar_keeps h0) (keeps_ite h0 (State.raise_keeps (State.setVar_keeps h0)))

theorem execSaSwitch_keepsO {x0 x1} (h1 : Keeps a x1) : KeepsO a (execSaSwitch x0 x1) := by
  unfold execSaSwitch
  extract_lets -useContext v10
  have hv10 : Keeps a v10 := keeps_ite (State.put_keeps h1) h1
  exact keepsO_next (keeps_ite h1 (keeps_foldl hv10 fun _ _ h11 => (State.saTakes_keeps h11)))

theorem execDelayReq_keepsO {x0 x1} (h1 : Keeps a x1) : KeepsO a (execDelayReq x0 x1) := by
  unfold execDelayReq
  extract_lets -useContext v10 v11 v12 v13
  have hv13 : Keeps a v13 := State.bump_keeps h1
  refine keepsO_next ?_
  refine keeps_ite ?_ ?_
  · exact h1
  · split
    · rename_i y14 y15 y16 e17
      have h18 : Keeps a y16 := keeps_snd e17 (State.letIn_keeps2 hv13)
      extract_lets -useContext v19
      refine keeps_ite ?_ ?_
      · exact h18
      · split
        · rename_i y20 y21 e22
          have h23 : Keeps a y21 := keeps_snd e22 (State.verify_keeps2 h18)
          exact keeps_ite (State.entryAuthFail_keeps h23) h23
        · rename_i y24 y25 y26 e27
          have h28 : Keeps a y26 := keeps_snd e27 (State.verify_keeps2 h18)
          refine keeps_ite ?_ ?_
          · exact h28
          · split
            · rename_i y29 y30 e31
              have h32 : Keeps a y30 := keeps_snd e31 (State.signReply_keeps2 h28)
              exact h32
            · rename_i y33 y34 y35 e36
              have h37 : Keeps a y35 := keeps_snd e36 (State.signReply_keeps2 h28)
              exact State.txPush_keeps h37

theorem execPdelayReq_keepsO {x0 x1} (h1 : Keeps a x1) : KeepsO a (execPdelayReq x0 x1) := by
  unfold execPdelayReq
  extract_lets -useContext v10 v11 v12 v13
  have hv13 : Keeps a v13 := State.bump_keeps h1
  refine keepsO_next ?_
  refine keeps_ite ?_ ?_
  · exact h1
  · split
    · rename_i y14 y15 y16 e17
      have h18 : Keeps a y16 := keeps_snd e17 (State.letIn_keeps2 hv13)
      extract_lets -useContext v19
      refine keeps_ite ?_ ?_
      · exact h18
      · split
        · rename_i y20 y21 e22
          have h23 : Keeps a y21 := keeps_snd e22 (State.verify_keeps2 h18)
          exact keeps_ite (State.entryAuthFail_keeps h23) h23
        · rename_i y24 y25 y26 e27
          have h28 : Keeps a y26 := keeps_snd e27 (State.verify_keeps2 h18)
          split
          · rename_i y29 y30 e31
            have h32 : Keeps a y30 := keeps_snd e31 (State.signReply_keeps2 h28)
            exact h32
          · rename_i y33 y34 y35 e36
            have h37 : Keeps a y35 := keeps_snd e36 (State.signReply_keeps2 h28)
            exact State.txPush_keeps h37

theorem execPdelayReqTx_keepsO {x0 x1} (h1 : Keeps a x1) : KeepsO a (execPdelayReqTx x0 x1) := by
  unfold execPdelayReqTx
  extract_lets -useContext v10 v11
  have hv11 : Keeps a v11 := State.setInst_keeps h1
  refine keepsO_next ?_
  refine keeps_ite ?_ ?_
  · exact h1
  · split
    · rename_i y12 y13 e14
      have h15 : Keeps a y13 := keeps_snd e14 (State.signGroup_keeps2 hv11)
      exact h15
    · rename_i y16 y17 y18 e19
      have h20 : Keeps a y18 := keeps_snd e19 (State.signGroup_keeps2 hv11)
      extract_lets -useContext v21 v22
      have hv22 : Keeps a v22 := State.setInst_keeps h20
      exact State.toAll_keeps hv22

theorem State.ptpOut_keeps {x0 x1 x2 x3 x4} (h0 : Keeps a x0) : Keeps a (State.ptpOut x0 x1 x2 x3 x4) := by
  unfold State.ptpOut
  extract_lets -useContext v10 v11
  have hv10 : Keeps a v10 := State.sent_keeps (keeps_of h0)
  have hv11 : Keeps a v11 := keeps_ite (State.bump_keeps hv10) hv10
  exact keeps_ite (State.bump_keeps hv10) (keeps_ite (State.bump_keeps hv10) (keeps_ite (State.pmcEvent_keeps hv11) hv11))

theorem State.startGrants_keeps {x0 x1 x2} (h0 : Keeps a x0) : Keeps a (State.startGrants x0 x1 x2) := by
  unfold State.startGrants
  split
  · exact h0
  · refine keeps_foldl ?_ ?_
    · exact h0
    · intro s x h11
      refine keeps_ite ?_ ?_
      · split
        · exact keeps_ite (State.enterGrant_keeps h11) h11
        · exact h11
      · exact h11

theorem State.launchPtp_keeps {x0 x1 x2 x3 x4} (h0 : Keeps a x0) : Keeps a (State.launchPtp x0 x1 x2 x3 x4) := by
  unfold State.launchPtp
  extract_lets -useContext v10 v11 v12 v13 v14 v15
  have hv11 : Keeps a v11 := State.stampTaken_keeps h0
  exact keeps_ite h0 (keeps_ite (State.ptpOut_keeps hv11) (keeps_ite (keeps_ite (State.bump_keeps hv11) (keeps_ite (State.raiseGap_keeps (State.bump_keeps hv11)) (State.ptpOut_keeps hv11))) (keeps_ite (State.ptpOut_keeps hv11) (keeps_ite (State.ptpOut_keeps (State.setInst_keeps hv11)) (State.ptpOut_keeps (State.startGrants_keeps hv11))))))

theorem State.upShow_keeps {x0 x1} (h0 : Keeps a x0) : Keeps a (State.upShow x0 x1) := by
  unfold State.upShow
  extract_lets -useContext v10 v11 v12 v13
  have hv11 : Keeps a v11 := State.put_keeps h0
  have hv13 : Keeps a v13 := State.put_keeps (State.put_keeps hv11)
  split
  · exact State.putBit_keeps hv11
  · extract_lets -useContext v14 v15
    have hv14 : Keeps a v14 := State.put64_keeps hv13
    have hv15 : Keeps a v15 := State.put_keeps (State.put_keeps hv14)
    exact State.putBit_keeps (State.put_keeps hv15)

theorem State.upJudge_keeps {x0 x1} (h0 : Keeps a x0) : Keeps a (State.upJudge x0 x1) := by
  unfold State.upJudge
  extract_lets -useContext v10 v11 v12 v13 v14
  have hv13 : Keeps a v13 := State.setInst_keeps h0
  have hv14 : Keeps a v14 := by
    dsimp -zeta only [v14]
    clear_value v12
    split
    · exact State.raise_keeps (State.sourceLos_keeps hv13)
    · exact hv13
  exact State.upShow_keeps hv14

theorem State.upJudgeAll_keeps {x0} (h0 : Keeps a x0) : Keeps a (State.upJudgeAll x0) :=
  keeps_foldl h0 fun _ _ h10 => (keeps_ite (State.upJudge_keeps h10) h10)

theorem State.upSelect_keeps {x0 x1} (h0 : Keeps a x0) : Keeps a (State.upSelect x0 x1) := by
  unfold State.upSelect
  extract_lets -useContext v10 v11 v12 v13 v14 v15 v16
  have hv11 : Keeps a v11 := State.setInst_keeps h0
  have hv16 : Keeps a v16 := State.setInst_keeps hv11
  refine keeps_ite ?_ ?_
  · exact hv11
  · clear_value v15
    split
    · exact State.raise_keeps (State.sourceLos_keeps hv16)
    · exact State.sourceLos_keeps hv16

theorem State.verified_keeps2 {x0 x1} (h0 : Keeps a x0) : Keeps2 a (State.verified x0 x1) := by
  unfold State.verified
  split
  · rename_i x_ t_ heq_
    have h10 : Keeps a t_ := keeps_snd heq_ (State.verify_keeps2 h0)
    exact keeps2_mk h10
  · rename_i x_ t_ heq_
    have h11 : Keeps a t_ := keeps_snd heq_ (State.verify_keeps2 h0)
    exact keeps2_mk h11

theorem State.upAnnounce_keeps {x0 x1 x2 x3} (h0 : Keeps a x0) : Keeps a (State.upAnnounce x0 x1 x2 x3) := by
  unfold State.upAnnounce
  extract_lets -useContext v10 v11 v12 v13 v14 v15 v16 v17 v18 v19
  have hv16 : Keeps a v16 := State.setInst_keeps h0
  have hv17 : Keeps a v17 := State.upSelect_keeps hv16
  have hv19 : Keeps a v19 := keeps_ite (State.setInst_keeps hv17) hv17
  exact keeps_ite (State.raise_keeps (State.bump_keeps h0)) (keeps_ite h0 (State.upJudge_keeps hv19))

theorem execAnnounceRx_keepsO {x0 x1 x2 x3} (h3 : Keeps a x3) : KeepsO a (execAnnounceRx x0 x1 x2 x3) := by
  unfold execAnnounceRx
  extract_lets -useContext v10 v11
  refine keepsO_next ?_
  refine keeps_ite ?_ ?_
  · exact h3
  · refine keeps_ite ?_ ?_
    · split
      · rename_i x_ t_ heq_
        have h12 : Keeps a t_ := keeps_snd heq_ (State.verified_keeps2 h3)
        exact h12
      · rename_i x_ t_ heq_
        have h13 : Keeps a t_ := keeps_snd heq_ (State.verified_keeps2 h3)
        exact keeps_ite h13 (State.raiseGap_keeps (State.bump_keeps h13))
    · refine keeps_ite ?_ ?_
      · exact h3
      · split
        · rename_i x_ t_ heq_
          have h14 : Keeps a t_ := keeps_snd heq_ (State.verified_keeps2 h3)
          exact h14
        · rename_i x_ t_ heq_
          have h15 : Keeps a t_ := keeps_snd heq_ (State.verified_keeps2 h3)
          exact State.upAnnounce_keeps h15

theorem State.parentSilent_keeps {x0 x1} (h0 : Keeps a x0) : Keeps a (State.parentSilent x0 x1) := by
  unfold State.parentSilent
  split
  · exact h0
  · refine keeps_ite ?_ ?_
    · extract_lets -useContext v10
      exact State.upShow_keeps (State.upSelect_keeps (State.setInst_keeps h0))
    · exact h0

theorem execAnnounceTimeout_keepsO {x0 x1} (h1 : Keeps a x1) : KeepsO a (execAnnounceTimeout x0 x1) :=
  keepsO_next (keeps_ite h1 (State.parentSilent_keeps (State.upJudge_keeps h1)))

theorem execLosTimeExpiry_keepsO {x0 x1} (h1 : Keeps a x1) : KeepsO a (execLosTimeExpiry x0 x1) :=
  keepsO_next (keeps_ite (State.upJudge_keeps h1) h1)

theorem State.syncOffset_keeps {x0 x1 x2 x3 x4 x5} (h0 : Keeps a x0) : Keeps a (State.syncOffset x0 x1 x2 x3 x4 x5) := by
  unfold State.syncOffset
  extract_lets -useContext v10 v11 v12 v13
  have hv11 : Keeps a v11 := State.upJudge_keeps (State.setInst_keeps h0)
  have hv12 : Keeps a v12 := State.setVar_keeps hv11
  split
  · exact State.upJudge_keeps h0
  · exact keeps_ite hv11 (State.sourceMeasured_keeps hv12)

theorem State.syncTaken_keeps {x0 x1 x2 x3 x4} (h0 : Keeps a x0) : Keeps a (State.syncTaken x0 x1 x2 x3 x4) := by
  unfold State.syncTaken
  extract_lets -useContext v10 v11 v12 v13 v14
  have hv14 : Keeps a v14 := State.setInst_keeps h0
  exact State.syncOffset_keeps hv14

theorem execSyncRx_keepsO {x0 x1 x2 x3} (h3 : Keeps a x3) : KeepsO a (execSyncRx x0 x1 x2 x3) := by
  unfold execSyncRx
  extract_lets -useContext v10 v11
  refine keepsO_next ?_
  refine keeps_ite ?_ ?_
  · exact h3
  · split
    · rename_i y12 y13 e14
      have h15 : Keeps a y13 := keeps_snd e14 (State.verified_keeps2 h3)
      exact h15
    · rename_i y16 y17 e18
      have h19 : Keeps a y17 := keeps_snd e18 (State.verified_keeps2 h3)
      exact keeps_ite (State.syncTaken_keeps h19) h19

theorem State.addDelay_keeps {x0 x1 x2} (h0 : Keeps a x0) : Keeps a (State.addDelay x0 x1 x2) := by
  unfold State.addDelay
  extract_lets -useContext v10 v11
  have hv11 : Keeps a v11 := State.setInst_keeps h0
  split
  · exact State.putI64_keeps hv11
  · exact hv11

theorem State.answered_keeps2 {x0 x1} (h0 : Keeps a x0) : Keeps2 a (State.answered x0 x1) := by
  unfold State.answered
  extract_lets -useContext v10
  split
  · exact keeps2_ite (keeps2_mk (State.setInst_keeps h0)) (keeps2_mk h0)
  · exact keeps2_mk h0

theorem execDelayRespRx_keepsO {x0 x1 x2} (h2 : Keeps a x2) : KeepsO a (execDelayRespRx x0 x1 x2) := by
  unfold execDelayRespRx
  extract_lets -useContext v10
  refine keepsO_next ?_
  refine keeps_ite ?_ ?_
  · exact h2
  · split
    · rename_i y11 y12 e13
      have h14 : Keeps a y12 := keeps_snd e13 (State.verified_keeps2 h2)
      exact h14
    · rename_i y15 y16 e17
      have h18 : Keeps a y16 := keeps_snd e17 (State.verified_keeps2 h2)
      refine keeps_ite ?_ ?_
      · exact h18
      · split
        · rename_i y19 y20 e21
          have h22 : Keeps a y20 := keeps_snd e21 (State.answered_keeps2 h18)
          exact h22
        · rename_i y23 y24 y25 e26
          have h27 : Keeps a y25 := keeps_snd e26 (State.answered_keeps2 h18)
          split
          · exact State.addDelay_keeps h27
          · exact h27

theorem execPdelayRespRx_keepsO {x0 x1 x2} (h2 : Keeps a x2) : KeepsO a (execPdelayRespRx x0 x1 x2) := by
  unfold execPdelayRespRx
  extract_lets -useContext v10 v11
  refine keepsO_next ?_
  refine keeps_ite ?_ ?_
  · exact h2
  · split
    · rename_i x_ t_ heq_
      have h12 : Keeps a t_ := keeps_snd heq_ (State.verified_keeps2 h2)
      exact h12
    · rename_i x_ t_ heq_
      have h13 : Keeps a t_ := keeps_snd heq_ (State.verified_keeps2 h2)
      extract_lets -useContext v14
      split
      · rename_i x_ t_ heq_
        have h15 : Keeps a t_ := keeps_snd heq_ (State.answered_keeps2 h13)
        exact h15
      · rename_i x_ t_ heq_
        have h16 : Keeps a t_ := keeps_snd heq_ (State.answered_keeps2 h13)
        extract_lets -useContext v17
        exact keeps_ite (State.put_keeps h16) (State.addDelay_keeps h16)

theorem execDelayReqTx_keepsO {x0 x1} (h1 : Keeps a x1) : KeepsO a (execDelayReqTx x0 x1) := by
  unfold execDelayReqTx
  extract_lets -useContext v10 v11 v12 v13
  have hv13 : Keeps a v13 := State.setInst_keeps h1
  refine keepsO_next ?_
  refine keeps_ite ?_ ?_
  · exact h1
  · split
    · exact h1
    · extract_lets -useContext v14
      refine keeps_ite ?_ ?_
      · exact h1
      · split
        · rename_i y15 y16 e17
          have h18 : Keeps a y16 := keeps_snd e17 (keeps2_ite (State.signClient_keeps2 hv13) (State.signGroup_keeps2 hv13))
          exact h18
        · rename_i y19 y20 y21 e22
          have h23 : Keeps a y21 := keeps_snd e22 (keeps2_ite (State.signClient_keeps2 hv13) (State.signGroup_keeps2 hv13))
          extract_lets -useContext v24 v25 v26 v27
          have hv26 : Keeps a v26 := State.setInst_keeps h23
          exact keeps_ite (State.txPush_keeps hv26) (State.toAll_keeps hv26)

theorem execGrantRx_keepsO {x0 x1 x2} (h2 : Keeps a x2) : KeepsO a (execGrantRx x0 x1 x2) := by
  unfold execGrantRx
  extract_lets -useContext v10 v11
  refine keepsO_next ?_
  refine keeps_ite ?_ ?_
  · exact h2
  · split
    · rename_i y12 y13 e14
      have h15 : Keeps a y13 := keeps_snd e14 (State.openSignaling_keeps2 h2)
      exact h15
    · rename_i y16 y17 y18 e19
      have h20 : Keeps a y18 := keeps_snd e19 (State.openSignaling_keeps2 h2)
      split
      · exact h20
      · refine State.upJudge_keeps ?_
        refine keeps_foldl ?_ ?_
        · exact h20
        · intro y23 y24 h25
          extract_lets -useContext v26
          exact keeps_ite (State.setInst_keeps h25) h25

theorem execGrantRenewal_keepsO {x0 x1 x2 x3} (h3 : Keeps a x3) : KeepsO a (execGrantRenewal x0 x1 x2 x3) := by
  unfold execGrantRenewal
  refine keepsO_next ?_
  refine keeps_ite ?_ ?_
  · exact h3
  · extract_lets -useContext v10
    split
    · rename_i x_ t_ heq_
      have h11 : Keeps a t_ := keeps_snd heq_ (State.signClient_keeps2 h3)
      exact h11
    · rename_i x_ t_ heq_
      have h12 : Keeps a t_ := keeps_snd heq_ (State.signClient_keeps2 h3)
      extract_lets -useContext v13
      split
      · rename_i x_ t_ heq_
        have h14 : Keeps a t_ := keeps_snd heq_ (State.signaling_keeps2 h12)
        exact State.upShow_keeps (State.txPush_keeps h14)

theorem ptpInstSetEff_keepsR {x0 x1 x2 x3 x4} (h4 : Keeps a x4) : KeepsR a (ptpInstSetEff x0 x1 x2 x3 x4) := by
  unfold ptpInstSetEff
  extract_lets -useContext v10
  exact keepsR_ite (keepsR_mk h4) (keepsR_ite (keepsR_mk h4) (keepsR_ite (keepsR_mk h4) (State.setWord_keepsR h4)))

theorem execPtpInstSet_keepsO {x0 x1 x2 x3 x4} (h4 : Keeps a x4) : KeepsO a (execPtpInstSet x0 x1 x2 x3 x4) :=
  keepsO_next (State.runCmd_keeps h4 (fun _ _ h10 => (ptpInstSetEff_keepsR h10)))

theorem ptpInstStartEff_keepsR {x0 x1 x2} (h2 : Keeps a x2) : KeepsR a (ptpInstStartEff x0 x1 x2) := by
  unfold ptpInstStartEff
  refine keepsR_ite ?_ ?_
  · exact keepsR_mk h2
  · refine keepsR_ite ?_ ?_
    · exact keepsR_mk h2
    · refine keepsR_ite ?_ ?_
      · exact keepsR_mk h2
      · extract_lets -useContext v10 v11 v12
        have hv10 : Keeps a v10 := State.setInstSt_keeps (State.setInst_keeps h2)
        have hv11 : Keeps a v11 := State.change_keeps hv10
        have hv12 : Keeps a v12 := State.ptpJudge_keeps hv11
        exact keepsR_mk (keeps_ite (State.upJudge_keeps hv12) hv12)

theorem execPtpInstStart_keepsO {x0 x1 x2} (h2 : Keeps a x2) : KeepsO a (execPtpInstStart x0 x1 x2) :=
  keepsO_next (State.runCmd_keeps h2 (fun _ _ h10 => (ptpInstStartEff_keepsR h10)))

theorem State.cancelGrants_keeps2 {x0 x1 x2} (h0 : Keeps a x0) : Keeps2 a (State.cancelGrants x0 x1 x2) := by
  unfold State.cancelGrants
  extract_lets -useContext v10
  exact keeps2_mk (keeps_foldl h0 fun _ _ h11 => (State.cancelGrant_keeps h11))

theorem State.giveBack_keeps {x0 x1 x2 x3} (h0 : Keeps a x0) : Keeps a (State.giveBack x0 x1 x2 x3) := by
  unfold State.giveBack
  extract_lets -useContext v10
  refine keeps_ite ?_ ?_
  · exact h0
  · split
    · rename_i y11 y12 e13
      have h14 : Keeps a y12 := keeps_snd e13 (State.signClient_keeps2 h0)
      exact h14
    · rename_i y15 y16 y17 e18
      have h19 : Keeps a y17 := keeps_snd e18 (State.signClient_keeps2 h0)
      split
      · rename_i y20 y21 y22 e23
        have h24 : Keeps a y22 := keeps_snd e23 (State.signaling_keeps2 h19)
        exact State.txPush_keeps h24

theorem State.giveAllBack_keeps {x0 x1} (h0 : Keeps a x0) : Keeps a (State.giveAllBack x0 x1) := by
  unfold State.giveAllBack
  exact keeps_ite (keeps_foldl h0 fun _ _ h10 => (State.giveBack_keeps h10)) h0

theorem ptpInstStopEff_keepsR {x0 x1 x2} (h2 : Keeps a x2) : KeepsR a (ptpInstStopEff x0 x1 x2) := by
  unfold ptpInstStopEff
  extract_lets -useContext v10 v11 v12 v13 v14 v15
  have hv11 : Keeps a v11 := State.giveAllBack_keeps (keeps2_snd (State.cancelGrants_keeps2 h2))
  have hv12 : Keeps a v12 := State.ptpJudge_keeps (State.setInstSt_keeps hv11)
  have hv13 : Keeps a v13 := keeps_ite (State.upJudge_keeps hv12) hv12
  have hv14 : Keeps a v14 := State.setInst_keeps hv13
  have hv15 : Keeps a v15 := keeps_ite (State.upShow_keeps hv14) hv14
  exact keepsR_ite (keepsR_mk h2) (keepsR_mk (State.change_keeps hv15))

theorem execPtpInstStop_keepsO {x0 x1 x2} (h2 : Keeps a x2) : KeepsO a (execPtpInstStop x0 x1 x2) :=
  keepsO_next (State.runCmd_keeps h2 (fun _ _ h10 => (ptpInstStopEff_keepsR h10)))

theorem ptpSaSetEff_keepsR {x0 x1 x2 x3 x4} (h4 : Keeps a x4) : KeepsR a (ptpSaSetEff x0 x1 x2 x3 x4) := by
  unfold ptpSaSetEff
  extract_lets -useContext v10 v11
  exact keepsR_ite (keepsR_mk h4) (keepsR_ite (keepsR_mk h4) (keepsR_ite (keepsR_mk h4) (State.setWord_keepsR h4)))

theorem execPtpSaSet_keepsO {x0 x1 x2 x3 x4} (h4 : Keeps a x4) : KeepsO a (execPtpSaSet x0 x1 x2 x3 x4) :=
  keepsO_next (State.runCmd_keeps h4 (fun _ _ h10 => (ptpSaSetEff_keepsR h10)))

theorem ptpClockIdSetEff_keepsR {x0 x1 x2} (h2 : Keeps a x2) : KeepsR a (ptpClockIdSetEff x0 x1 x2) := by
  unfold ptpClockIdSetEff
  refine keepsR_ite ?_ ?_
  · exact keepsR_mk h2
  · refine keepsR_ite ?_ ?_
    · exact keepsR_mk h2
    · extract_lets -useContext v10 v11
      have hv11 : Keeps a v11 := State.put64_keeps h2
      exact keepsR_mk (State.change_keeps hv11)

theorem execPtpClockIdSet_keepsO {x0 x1 x2} (h2 : Keeps a x2) : KeepsO a (execPtpClockIdSet x0 x1 x2) :=
  keepsO_next (State.runCmd_keeps h2 (fun _ _ h10 => (ptpClockIdSetEff_keepsR h10)))

theorem ptpGrantCancelEff_keepsR {x0 x1 x2 x3} (h3 : Keeps a x3) : KeepsR a (ptpGrantCancelEff x0 x1 x2 x3) := by
  unfold ptpGrantCancelEff
  refine keepsR_ite ?_ ?_
  · exact keepsR_mk h3
  · split
    · rename_i x_ t_ heq_
      have h10 : Keeps a t_ := keeps_snd heq_ (State.cancelGrants_keeps2 h3)
      exact keepsR_mk (State.change_keeps h10)

theorem execPtpGrantCancel_keepsO {x0 x1 x2 x3} (h3 : Keeps a x3) : KeepsO a (execPtpGrantCancel x0 x1 x2 x3) :=
  keepsO_next (State.runCmd_keeps h3 (fun _ _ h10 => (ptpGrantCancelEff_keepsR h10)))

theorem State.serveUpdate_keeps {x0} (h0 : Keeps a x0) : Keeps a (State.serveUpdate x0) :=
  State.ntpUpdate_keeps (State.upJudgeAll_keeps (State.ptpJudgeAll_keeps h0))

theorem execMarkerArrival_keepsO {x0 x1 x2 x3 x4 x5} (h5 : Keeps a x5) : KeepsO a (execMarkerArrival x0 x1 x2 x3 x4 x5) :=
  keepsO_next (State.serveUpdate_keeps (State.markerArrival_keeps h5))

theorem execNoGoodMarker_keepsO {x0 x1} (h1 : Keeps a x1) : KeepsO a (execNoGoodMarker x0 x1) := by
  unfold execNoGoodMarker
  exact keepsO_next (keeps_ite (State.serveUpdate_keeps (State.setTb_keeps h1)) h1)

theorem execLinkUp_keepsO {x0 x1 x2} (h2 : Keeps a x2) : KeepsO a (execLinkUp x0 x1 x2) :=
  keepsO_next (State.serveUpdate_keeps (State.linkUp_keeps h2))

theorem execLinkDown_keepsO {x0 x1 x2 x3} (h3 : Keeps a x3) : KeepsO a (execLinkDown x0 x1 x2 x3) :=
  keepsO_next (State.serveUpdate_keeps (State.linkDown_keeps h3))

theorem portLinkResetEff_keepsR {x0 x1 x2} (h2 : Keeps a x2) : KeepsR a (portLinkResetEff x0 x1 x2) := by
  unfold portLinkResetEff
  extract_lets -useContext v10 v11
  have hv11 : Keeps a v11 := State.serveUpdate_keeps (State.linkGone_keeps (State.setLink_keeps h2))
  exact keepsR_ite (keepsR_mk h2) (keepsR_ite (keepsR_mk h2) (keepsR_ite (keepsR_mk (State.change_keeps hv11)) (keepsR_mk h2)))

theorem execPortLinkReset_keepsO {x0 x1 x2} (h2 : Keeps a x2) : KeepsO a (execPortLinkReset x0 x1 x2) :=
  keepsO_next (State.runCmd_keeps h2 (fun _ _ h10 => (portLinkResetEff_keepsR h10)))

theorem execFrameTransmit_keepsO {x0 x1 x2 x3} (h3 : Keeps a x3) : KeepsO a (execFrameTransmit x0 x1 x2 x3) := by
  unfold execFrameTransmit
  extract_lets -useContext v10
  refine keepsO_next ?_
  refine keeps_ite ?_ ?_
  · exact h3
  · split
    · exact h3
    · extract_lets -useContext v11
      have hv11 : Keeps a v11 := State.setPort_keeps h3
      split
      · exact State.launchHost_keeps hv11
      · exact keeps_ite hv11 (State.launchEsmc_keeps hv11)
      · exact keeps_ite hv11 (State.launchPtp_keeps hv11)
      · exact keeps_ite hv11 (State.launchNtp_keeps hv11)

end Sys2Proof.Machine
end

