-- ==== Sys2Proof/Laws/KeepsF.lean ====
section
/-! SUPPORT. What operations keep: those of Fabric, Twin, Views, Units, Observ. -/

set_option Elab.async false

namespace Sys2Proof.Machine

variable {a : State}

theorem State.rqEmpty_keeps {x0 x1} (h0 : Keeps a x0) : Keeps a (State.rqEmpty x0 x1) := by
  unfold State.rqEmpty
  extract_lets -useContext v10
  have hv10 : Keeps a v10 := State.setVar_keeps h0
  refine keeps_ite ?_ (keeps_ite ?_ (State.setPort_keeps hv10))
  · exact keeps_to hv10 fun g => ⟨g.mem, Nat.zero_le _, g.dumps, g.log, g.keeper, g.challenges, g.journal, g.grants⟩
  · exact keeps_to hv10 fun g => ⟨g.mem, g.events, Nat.zero_le _, g.log, g.keeper, g.challenges, g.journal, g.grants⟩

theorem State.flush_keeps {x0 x1} (h0 : Keeps a x0) : Keeps a (State.flush x0 x1) :=
  keeps_ite h0 (State.rqEmpty_keeps (State.bumpBy_keeps h0))

theorem State.rqPoisoned_keeps {x0 x1} (h0 : Keeps a x0) : Keeps a (State.rqPoisoned x0 x1) := by
  unfold State.rqPoisoned
  extract_lets -useContext v10 v11 v12 v13 v14
  have hv10 : Keeps a v10 := State.bump_keeps (State.bump_keeps h0)
  have hv11 : Keeps a v11 := State.bump_keeps hv10
  have hv14 : Keeps a v14 := by
    refine keeps_ite ?_ (keeps_ite (State.setVar_keeps hv10) (State.portCount_keeps (State.setPort_keeps hv10)))
    exact keeps_of hv11 rfl
  exact State.rqLostNote_keeps hv14

theorem State.deliverEvt_keeps {x0 x1} (h0 : Keeps a x0) : Keeps a (State.deliverEvt x0 x1) := by
  unfold State.deliverEvt
  split
  · exact h0
  · rename_i e r he
    extract_lets -useContext v10 v11 v12 v13 v14
    have hv13 : Keeps a v13 := keeps_to (State.rqGone_keeps (x1 := 0) h0) fun g =>
      ⟨g.mem, by have : x0.evtq.recs.length ≤ 256 := g.events; rw [he] at this; exact Nat.le_of_succ_le this, g.dumps, g.log, g.keeper, g.challenges, g.journal, g.grants⟩
    have hv14 : Keeps a v14 := keeps_foldl hv13 fun _ _ h15 => State.ringWrite_keeps h15
    exact keeps_ite h0 (keeps_ite (State.ringError_keeps h0) (keeps_ite (State.raiseHif_keeps hv14) hv14))

theorem State.deliverTsq_keeps {x0 x1 x2 x3} (h0 : Keeps a x0) : Keeps a (State.deliverTsq x0 x1 x2 x3) := by
  unfold State.deliverTsq
  extract_lets -useContext v10
  split
  · exact keeps_ite h0 (keeps_ite (State.ringError_keeps h0) (State.ringWrite_keeps (State.setPort_keeps (State.rqGone_keeps h0))))
  · exact h0

theorem State.deliverDump_keeps {x0 x1 x2} (h0 : Keeps a x0) : Keeps a (State.deliverDump x0 x1 x2) := by
  unfold State.deliverDump
  split
  · rename_i x rest n he
    refine keeps_ite h0 (keeps_ite (State.ringError_keeps h0) ?_)
    extract_lets -useContext v10 v11 v12
    have hv11 : Keeps a v11 := keeps_to (State.rqGone_keeps (x1 := 5) h0) fun g =>
      ⟨g.mem, g.events, by have : x0.dumpq.length ≤ 128 := g.dumps; rw [he] at this; exact Nat.le_of_succ_le this, g.log, g.keeper, g.challenges, g.journal, g.grants⟩
    exact keeps_ite (State.ringWrite_keeps (State.setVar_keeps hv11)) (State.ringWrite_keeps hv11)
  · exact h0

theorem State.rqTail_keeps {x0 x1} (h0 : Keeps a x0) : Keeps a (State.rqTail x0 x1) := by
  unfold State.rqTail
  extract_lets -useContext v10
  have hv10 : Keeps a v10 := State.rqGone_keeps h0
  refine keeps_ite ?_ (keeps_ite ?_ (State.setPort_keeps hv10))
  · exact keeps_to hv10 fun g =>
      ⟨g.mem, by dsimp only; rw [List.length_tail]; exact (Nat.sub_le _ _).trans g.events, g.dumps, g.log, g.keeper, g.challenges, g.journal, g.grants⟩
  · exact keeps_to hv10 fun g =>
      ⟨g.mem, g.events, by dsimp only; rw [List.length_tail]; exact (Nat.sub_le _ _).trans g.dumps, g.log, g.keeper, g.challenges, g.journal, g.grants⟩

theorem execRecordQueueDelivery_keepsO {x0 x1 x2 x3} (h3 : Keeps a x3) : KeepsO a (execRecordQueueDelivery x0 x1 x2 x3) := by
  unfold execRecordQueueDelivery
  exact keepsO_next (keeps_ite h3 (keeps_ite (State.rqPoisoned_keeps (State.rqTail_keeps h3)) (keeps_ite (State.deliverEvt_keeps h3) (keeps_ite (State.deliverDump_keeps h3) (State.deliverTsq_keeps h3)))))

theorem State.startDrain_keeps {x0 x1} (h0 : Keeps a x0) : Keeps a (State.startDrain x0 x1) :=
  State.putBit_keeps h0

theorem execDrain_keepsO {x0 x1 x2 x3} (h3 : Keeps a x3) : KeepsO a (execDrain x0 x1 x2 x3) := by
  unfold execDrain
  refine keepsO_next ?_
  refine keeps_ite ?_ ?_
  · extract_lets -useContext v10
    have hv10 : Keeps a v10 := State.bumpBy_keeps (State.bump_keeps (State.putBit_keeps h3))
    exact State.raiseFab_keeps hv10
  · exact h3

theorem execSpeedLow_keepsO {x0 x1} (h1 : Keeps a x1) : KeepsO a (execSpeedLow x0 x1) := by
  unfold execSpeedLow
  refine keepsO_next ?_
  extract_lets -useContext v10
  have hv10 : Keeps a v10 := State.put_keeps h1
  exact keeps_ite (State.raiseFab_keeps hv10) hv10

theorem fabSetEff_keepsR {x0 x1 x2 x3} (h3 : Keeps a x3) : KeepsR a (fabSetEff x0 x1 x2 x3) := by
  unfold fabSetEff
  refine keepsR_ite ?_ ?_
  · refine keepsR_ite ?_ ?_
    · exact keepsR_mk h3
    · extract_lets -useContext v10
      have hv10 : Keeps a v10 := keeps_ite (State.flush_keeps h3) h3
      exact keepsR_mk (State.change_keeps hv10)
  · exact State.setWord_keepsR h3

theorem execFabSet_keepsO {x0 x1 x2 x3} (h3 : Keeps a x3) : KeepsO a (execFabSet x0 x1 x2 x3) :=
  keepsO_next (State.runCmd_keeps h3 (fun _ _ h10 => (fabSetEff_keepsR h10)))

theorem State.fenceFault_keeps {x0} (h0 : Keeps a x0) : Keeps a (State.fenceFault x0) := by
  unfold State.fenceFault
  split
  · rename_i x_ t_ heq_
    have h10 : Keeps a t_ := keeps_snd heq_ (State.takeFree_keeps2 h0)
    extract_lets -useContext v11
    have hv11 : Keeps a v11 := State.arm_keeps (State.put_keeps h10)
    exact State.raise_keeps hv11

theorem State.driveFence_keeps {x0 x1} (h0 : Keeps a x0) : Keeps a (State.driveFence x0 x1) := by
  unfold State.driveFence
  extract_lets -useContext v10
  have hv10 : Keeps a v10 := State.putB_keeps h0
  exact keeps_of hv10

theorem State.endWaiting_keeps {x0 x1} (h0 : Keeps a x0) : Keeps a (State.endWaiting x0 x1) :=
  keeps_foldl h0 fun _ _ h10 => (State.complete_keeps h10)

theorem State.cancelHandover_keeps {x0 x1 x2} (h0 : Keeps a x0) : Keeps a (State.cancelHandover x0 x1 x2) := by
  unfold State.cancelHandover
  refine keeps_ite ?_ ?_
  · extract_lets -useContext v10 v11
    have hv11 : Keeps a v11 := State.put_keeps (State.put_keeps h0)
    exact State.endWaiting_keeps (State.completeRunning_keeps hv11)
  · exact h0

theorem State.faultFence_keeps {x0} (h0 : Keeps a x0) : Keeps a (State.faultFence x0) := by
  unfold State.faultFence
  exact State.cancelHandover_keeps (State.fenceFault_keeps h0)

theorem State.linkLost_keeps {x0} (h0 : Keeps a x0) : Keeps a (State.linkLost x0) := by
  unfold State.linkLost
  extract_lets -useContext v10 v11
  have hv11 : Keeps a v11 := keeps_of h0
  exact keeps_ite (State.sourceLos_keeps (State.put_keeps (State.cancelHandover_keeps hv11))) h0

theorem State.pairOff_keeps {x0 x1} (h0 : Keeps a x0) : Keeps a (State.pairOff x0 x1) := by
  unfold State.pairOff
  refine keeps_ite ?_ ?_
  · exact h0
  · extract_lets -useContext v10 v11 v12
    have hv11 : Keeps a v11 := State.stopTimer_keeps (State.setPair_keeps h0)
    have hv12 : Keeps a v12 := keeps_ite (State.raise_keeps hv11) hv11
    exact State.linkLost_keeps hv12

theorem State.sendBulk_keeps {x0 x1} (h0 : Keeps a x0) : Keeps a (State.sendBulk x0 x1) := by
  unfold State.sendBulk
  split
  · rename_i x_ t_ heq_
    have h10 : Keeps a t_ := keeps_snd heq_ (State.takeFree_keeps2 h0)
    extract_lets -useContext v11
    have hv11 : Keeps a v11 := State.put_keeps (State.setVar_keeps (State.setVar_keeps h10))
    exact keeps_of hv11

theorem State.meetRequest_keeps {x0 x1} (h0 : Keeps a x0) : Keeps a (State.meetRequest x0 x1) := by
  unfold State.meetRequest
  exact keeps_ite h0 (State.sendBulk_keeps h0)

theorem execPairTrained_keepsO {x0 x1 x2 x3} (h3 : Keeps a x3) : KeepsO a (execPairTrained x0 x1 x2 x3) := by
  unfold execPairTrained
  extract_lets -useContext v10 v11 v12
  have hv10 : Keeps a v10 := keeps_ite (State.startPair_keeps h3) h3
  have hv12 : Keeps a v12 := keeps_of hv10
  exact keepsO_next (keeps_ite (State.meetRequest_keeps (State.setPair_keeps (State.stopTimer_keeps hv12))) hv10)

theorem execTrainingTimeout_keepsO {x0 x1} (h1 : Keeps a x1) : KeepsO a (execTrainingTimeout x0 x1) := by
  unfold execTrainingTimeout
  exact keepsO_next (keeps_ite (State.trainPair_keeps (State.bump_keeps h1)) h1)

theorem execPairDown_keepsO {x0 x1 x2} (h2 : Keeps a x2) : KeepsO a (execPairDown x0 x1 x2) := by
  unfold execPairDown
  extract_lets -useContext v10
  have hv10 : Keeps a v10 := State.raise_keeps (State.trainPair_keeps h2)
  exact keepsO_next (keeps_ite (State.linkLost_keeps hv10) h2)

theorem State.hooked_keeps {x0 x1 x2} (h0 : Keeps a x0) (h_2 : ∀ y0, Keeps a y0 → Keeps a (x2 y0)) : Keeps a (State.hooked x0 x1 x2) := by
  unfold State.hooked
  extract_lets -useContext v10 v11 v12 v13 v14 v15 v16 v17 v18 v19
  have hv13 : Keeps a v13 := h0
  have hv17 : Keeps a v17 := h_2 _ h0
  exact keeps_ite hv17 (keeps_ite (keeps_ite (State.setLane_keeps hv17) hv17) (keeps_ite (State.afterSyn_keeps hv17) (keeps_ite (State.afterOut_keeps hv17) (keeps_ite (State.afterHob_keeps hv17) (keeps_ite (State.afterGnb_keeps hv17) (keeps_ite (State.serveUpdate_keeps (State.mintUpdate_keeps hv17)) (keeps_ite (keeps_ite (State.pairOff_keeps (State.pairOff_keeps hv17)) (State.startPair_keeps (State.startPair_keeps hv17))) (keeps_ite (keeps_of hv17) hv17))))))))

theorem applyEff_keepsR {x0 x1} (h1 : Keeps a x1) : KeepsR a (applyEff x0 x1) := by
  unfold applyEff
  extract_lets -useContext v10 v11 v12 v13 v14
  exact keepsR_ite (timeResetEff_keepsR h1) (keepsR_ite (slewLimitSetEff_keepsR h1) (keepsR_ite (stepThreshSetEff_keepsR h1) (keepsR_ite (leapSetEff_keepsR h1) (keepsR_ite (utcOffsetSetEff_keepsR h1) (keepsR_ite (laneForceEff_keepsR h1) (keepsR_ite (laneReleaseEff_keepsR h1) (keepsR_ite (laneClearEff_keepsR h1) (keepsR_ite (laneSetEff_keepsR h1) (keepsR_ite (selModeSetEff_keepsR h1) (keepsR_ite (hobSetEff_keepsR h1) (keepsR_ite (modelResetEff_keepsR h1) (keepsR_ite (refinDelaySetEff_keepsR h1) (keepsR_ite (warmSetEff_keepsR h1) (keepsR_ite (timSetEff_keepsR h1) (keepsR_ite (synSetEff_keepsR h1) (keepsR_ite (synStartEff_keepsR h1) (keepsR_ite (synStopEff_keepsR h1) (keepsR_ite (synFreqStepEff_keepsR h1) (keepsR_ite (outSetEff_keepsR h1) (keepsR_ite (outAlignEff_keepsR h1) (keepsR_ite (gnbSetEff_keepsR h1) (keepsR_ite (gnssPosSetEff_keepsR h1) (keepsR_ite (gnssColdStartEff_keepsR h1) (keepsR_ite (ptpInstSetEff_keepsR h1) (keepsR_ite (ptpInstStartEff_keepsR h1) (keepsR_ite (ptpInstStopEff_keepsR h1) (keepsR_ite (ptpSaSetEff_keepsR h1) (keepsR_ite (ptpClockIdSetEff_keepsR h1) (keepsR_ite (ptpGrantCancelEff_keepsR h1) (keepsR_ite (ntpSetEff_keepsR h1) (keepsR_ite (cltSetEff_keepsR h1) (keepsR_ite (cltAddEff_keepsR h1) (keepsR_ite (cltDelEff_keepsR h1) (keepsR_ite (cltFlushEff_keepsR h1) (keepsR_ite (portSetEff_keepsR h1) (keepsR_ite (fabSetEff_keepsR h1) (keepsR_mk h1)))))))))))))))))))))))))))))))))))))

theorem State.askBulk_keeps {x0 x1} (h0 : Keeps a x0) : Keeps a (State.askBulk x0 x1) := by
  unfold State.askBulk
  exact keeps_of h0

theorem State.applyChange_keeps {x0 x1} (h0 : Keeps a x0) : Keeps a (State.applyChange x0 x1) := by
  unfold State.applyChange
  extract_lets -useContext v10 v11 v12 v13
  have hv10 : KeepsR a v10 := applyEff_keepsR (State.setVar_keeps h0)
  have hv11 : Keeps a v11 := State.setVar_keeps (keepsR_s hv10)
  have hv13 : Keeps a v13 := keeps_of hv11
  split
  · exact hv13
  · exact keeps_ite hv13 (State.setVar_keeps (State.askBulk_keeps (State.raise_keeps hv13)))

theorem State.applyRecord_keeps {x0 x1} (h0 : Keeps a x0) : Keeps a (State.applyRecord x0 x1) := by
  unfold State.applyRecord
  extract_lets -useContext v10
  exact keeps_ite (State.applyChange_keeps h0) (keeps_ite (State.partnerKey_keeps h0) (keeps_ite (State.applyGrant_keeps h0) h0))

theorem State.markDone_keeps {x0 x1} (h0 : Keeps a x0) : Keeps a (State.markDone x0 x1) := by
  unfold State.markDone
  exact keeps_ite (keeps_of h0) (keeps_of h0)

theorem State.applyNext_keeps {x0 x1} (h0 : Keeps a x0) : Keeps a (State.applyNext x0 x1) := by
  induction x1 generalizing x0 with
  | zero => exact h0
  | succ n ih =>
    unfold State.applyNext
    split
    · exact keeps_of h0
    · exact ih (keeps_of (State.markDone_keeps (State.applyRecord_keeps h0)))

theorem State.applyInbox_keeps {x0} (h0 : Keeps a x0) : Keeps a (State.applyInbox x0) :=
  keeps_ite (State.applyNext_keeps h0) h0

theorem State.setRole_keeps {x0 x1} (h0 : Keeps a x0) : Keeps a (State.setRole x0 x1) := by
  unfold State.setRole
  extract_lets -useContext v10
  refine keeps_ite ?_ ?_
  · exact h0
  · split
    · rename_i y11 y12 y13 e14
      have h15 : Keeps a y13 := keeps_snd e14 (State.takeFree_keeps2 (State.setVar_keeps h0))
      exact State.raise_keeps (State.put_keeps h15)

theorem State.promote_keeps {x0} (h0 : Keeps a x0) : Keeps a (State.promote x0) := by
  unfold State.promote
  extract_lets -useContext v10 v11 v12 v13
  have hv11 : Keeps a v11 := State.setRole_keeps (State.driveFence_keeps h0)
  have hv12 : Keeps a v12 := State.serveUpdate_keeps (State.admissionFresh_keeps hv11)
  have hv13 : Keeps a v13 := State.put_keeps (State.bump_keeps hv12)
  exact keeps_ite (State.raise_keeps hv13) hv13

theorem State.releaseWithheld_keeps {x0 x1 x2} (h0 : Keeps a x0) : Keeps a (State.releaseWithheld x0 x1 x2) := by
  induction x2 generalizing x0 with
  | nil => exact h0
  | cons e es ih =>
    unfold State.releaseWithheld
    split
    · exact ih (keeps_ite (State.complete_keeps h0) h0)
    · exact ih h0

theorem State.demote_keeps {x0 x1} (h0 : Keeps a x0) : Keeps a (State.demote x0 x1) := by
  unfold State.demote
  extract_lets -useContext v10 v11 v12 v13
  have hv10 : Keeps a v10 := State.serveUpdate_keeps (State.setRole_keeps (State.driveFence_keeps h0))
  have hv11 : Keeps a v11 := State.bump_keeps hv10
  have hv13 : Keeps a v13 := keeps_of hv11
  exact State.stopTimer_keeps (State.releaseWithheld_keeps hv13)

theorem State.contend_keeps {x0} (h0 : Keeps a x0) : Keeps a (State.contend x0) := by
  unfold State.contend
  extract_lets -useContext v10 v11 v12 v13
  have hv13 : Keeps a v13 := State.raise_keeps h0
  exact keeps_ite (State.demote_keeps (State.cancelHandover_keeps hv13)) hv13

theorem execSenseWindow_keepsO {x0 x1} (h1 : Keeps a x1) : KeepsO a (execSenseWindow x0 x1) :=
  keepsO_next (keeps_ite h1 (keeps_ite (State.setVar_keeps h1) (keeps_ite (State.contend_keeps (State.setVar_keeps h1)) (State.setVar_keeps h1))))

theorem execSeizeFrame_keepsO {x0} (h0 : Keeps a x0) : KeepsO a (execSeizeFrame x0) := by
  unfold execSeizeFrame
  extract_lets -useContext v10
  have hv10 : Keeps a v10 := State.setVar_keeps h0
  exact keepsO_next (keeps_ite (State.contend_keeps hv10) hv10)

theorem execSeizeHoldExpiry_keepsO {x0} (h0 : Keeps a x0) : KeepsO a (execSeizeHoldExpiry x0) :=
  keepsO_next (keeps_ite (State.stopTimer_keeps (State.put_keeps h0)) h0)

theorem State.startDecide_keeps {x0 x1} (h0 : Keeps a x0) : Keeps a (State.startDecide x0 x1) := by
  unfold State.startDecide
  extract_lets -useContext v10 v11
  exact keeps_ite h0 (keeps_ite (State.setRole_keeps h0) (keeps_ite (State.raise_keeps h0) (keeps_ite (State.raise_keeps h0) (keeps_ite h0 (keeps_ite (State.raise_keeps h0) (keeps_ite (keeps_ite (State.serveUpdate_keeps (State.admissionFresh_keeps (State.setRole_keeps (State.driveFence_keeps h0)))) (keeps_ite h0 (State.arm_keeps h0))) h0))))))

theorem State.noServer_keeps {x0} (h0 : Keeps a x0) : Keeps a (State.noServer x0) := by
  unfold State.noServer
  exact keeps_ite (State.raise_keeps h0) h0

theorem State.startAgain_keeps {x0} (h0 : Keeps a x0) : Keeps a (State.startAgain x0) := by
  unfold State.startAgain
  exact keeps_ite (State.startDecide_keeps h0) h0

theorem execFenceChange_keepsO {x0 x1 x2} (h2 : Keeps a x2) : KeepsO a (execFenceChange x0 x1 x2) := by
  unfold execFenceChange
  extract_lets -useContext v10 v11 v12 v13 v14
  have hv10 : Keeps a v10 := State.setVar_keeps (State.setVar_keeps h2)
  have hv12 : Keeps a v12 := State.put_keeps hv10
  have hv13 : Keeps a v13 := keeps_ite (State.arm_keeps hv12) (State.stopTimer_keeps hv12)
  have hv14 : Keeps a v14 := keeps_ite (State.faultFence_keeps hv13) hv13
  exact keepsO_next (State.startAgain_keeps (State.noServer_keeps hv14))

theorem execFenceFaultClear_keepsO {x0} (h0 : Keeps a x0) : KeepsO a (execFenceFaultClear x0) := by
  unfold execFenceFaultClear
  extract_lets -useContext v10
  exact keepsO_next (keeps_ite (State.startAgain_keeps (State.stopTimer_keeps (State.put_keeps h0))) h0)

theorem execListenExpiry_keepsO {x0} (h0 : Keeps a x0) : KeepsO a (execListenExpiry x0) :=
  keepsO_next (keeps_ite (State.startDecide_keeps (State.setVar_keeps (State.stopTimer_keeps h0))) h0)

theorem execSideBWaitExpiry_keepsO {x0} (h0 : Keeps a x0) : KeepsO a (execSideBWaitExpiry x0) :=
  keepsO_next (keeps_ite (State.startDecide_keeps (State.stopTimer_keeps h0)) h0)

theorem execRelayMarkerRx_keepsO {x0 x1 x2 x3} (h3 : Keeps a x3) : KeepsO a (execRelayMarkerRx x0 x1 x2 x3) := by
  unfold execRelayMarkerRx
  refine keepsO_next ?_
  refine keeps_ite ?_ ?_
  · extract_lets -useContext v10 v11
    have hv11 : Keeps a v11 := keeps_of h3
    exact State.pmcEvent_keeps hv11
  · exact h3

theorem State.showFollowing_keeps {x0} (h0 : Keeps a x0) : Keeps a (State.showFollowing x0) := by
  unfold State.showFollowing
  extract_lets -useContext v10
  exact State.putB_keeps h0

theorem State.twoWay_keeps {x0 x1} (h0 : Keeps a x0) : Keeps a (State.twoWay x0 x1) := by
  unfold State.twoWay
  split
  · exact h0
  · split
    · extract_lets -useContext v10 v11 v12 v13
      have hv11 : Keeps a v11 := State.putI64_keeps h0
      have hv12 : Keeps a v12 := State.putI_keeps hv11
      exact State.showFollowing_keeps (State.setVar_keeps hv12)
    · exact h0

theorem State.checkSkew_keeps {x0 x1} (h0 : Keeps a x0) : Keeps a (State.checkSkew x0 x1) := by
  unfold State.checkSkew
  split
  · exact keeps_ite (State.raise_keeps h0) h0
  · exact h0

theorem execBatonTx_keepsO {x0} (h0 : Keeps a x0) : KeepsO a (execBatonTx x0) := by
  unfold execBatonTx
  extract_lets -useContext v10
  have hv10 : Keeps a v10 := State.doneAt_keeps h0
  exact keepsO_next (keeps_ite h0 (keeps_ite hv10 (keeps_of hv10)))

theorem State.ackTimer_keeps {x0} (h0 : Keeps a x0) : Keeps a (State.ackTimer x0) := by
  unfold State.ackTimer
  split
  · exact State.stopTimer_keeps h0
  · exact State.setTimer_keeps h0

theorem State.ackState_keeps {x0 x1} (h0 : Keeps a x0) : Keeps a (State.ackState x0 x1) := by
  unfold State.ackState
  refine keeps_ite ?_ ?_
  · extract_lets -useContext v10 v11 v12
    have hv11 : Keeps a v11 := keeps_of h0
    have hv12 : Keeps a v12 := State.releaseWithheld_keeps hv11
    exact State.ackTimer_keeps hv12
  · exact h0

theorem State.ackGrant_keeps {x0 x1} (h0 : Keeps a x0) : Keeps a (State.ackGrant x0 x1) := by
  unfold State.ackGrant
  refine keeps_ite ?_ ?_
  · extract_lets -useContext v10 v11
    have hv11 : Keeps a v11 := keeps_of h0
    exact State.ackTimer_keeps (State.releaseGrants_keeps hv11)
  · exact h0

theorem State.batonFence_keeps {x0 x1} (h0 : Keeps a x0) : Keeps a (State.batonFence x0 x1) := by
  unfold State.batonFence
  exact keeps_ite (State.faultFence_keeps h0) h0

theorem State.askMissing_keeps {x0 x1} (h0 : Keeps a x0) : Keeps a (State.askMissing x0 x1) := by
  unfold State.askMissing
  extract_lets -useContext v10 v11 v12 v13
  have hv12 : Keeps a v12 := State.askBulk_keeps (State.setVar_keeps (State.setRole_keeps (State.put_keeps h0)))
  have hv13 : Keeps a v13 := keeps_ite (keeps_of h0) h0
  exact keeps_ite (State.raise_keeps hv12) (keeps_ite (keeps_of hv13) hv13)

theorem State.noteBaton_keeps {x0 x1} (h0 : Keeps a x0) : Keeps a (State.noteBaton x0 x1) := by
  unfold State.noteBaton
  extract_lets -useContext v10 v11 v12 v13 v14 v15
  have hv10 : Keeps a v10 := State.pmcEvent_keeps (State.bump_keeps h0)
  have hv12 : Keeps a v12 := keeps_of hv10
  have hv13 : Keeps a v13 := State.setVar_keeps (State.setVar_keeps hv12)
  have hv14 : Keeps a v14 := State.put64_keeps hv13
  have hv15 : Keeps a v15 := State.putB_keeps (State.put_keeps hv14)
  exact keeps_ite (State.put_keeps hv15) (State.sourceLos_keeps hv15)

theorem State.followBaton_keeps {x0 x1} (h0 : Keeps a x0) : Keeps a (State.followBaton x0 x1) := by
  unfold State.followBaton
  refine keeps_ite ?_ ?_
  · extract_lets -useContext v10
    have hv10 : Keeps a v10 := keeps_ite (State.askMissing_keeps h0) h0
    exact keeps_foldl hv10 fun _ _ h11 => (State.upShow_keeps h11)
  · exact h0

theorem State.planHandover_keeps {x0 x1} (h0 : Keeps a x0) : Keeps a (State.planHandover x0 x1) :=
  State.put_keeps (State.put_keeps h0)

theorem State.planSoon_keeps {x0} (h0 : Keeps a x0) : Keeps a (State.planSoon x0) := by
  unfold State.planSoon
  exact keeps_ite h0 (State.planHandover_keeps (State.cancelHandover_keeps h0))

theorem State.yieldForFault_keeps {x0 x1 x2} (h0 : Keeps a x0) : Keeps a (State.yieldForFault x0 x1 x2) := by
  unfold State.yieldForFault
  split
  · exact h0
  · exact keeps_ite (State.planSoon_keeps (State.raise_keeps h0)) h0

theorem State.yieldIfFenced_keeps {x0} (h0 : Keeps a x0) : Keeps a (State.yieldIfFenced x0) := by
  unfold State.yieldIfFenced
  refine keeps_ite ?_ ?_
  · exact h0
  · split
    · exact State.yieldForFault_keeps h0
    · exact h0

theorem State.leadBaton_keeps {x0 x1} (h0 : Keeps a x0) : Keeps a (State.leadBaton x0 x1) := by
  unfold State.leadBaton
  extract_lets -useContext v10
  have hv10 : Keeps a v10 := keeps_ite (State.yieldIfFenced_keeps h0) (State.cancelHandover_keeps h0)
  exact keeps_ite (keeps_ite hv10 (State.sendBulk_keeps hv10)) h0

theorem execBatonRx_keepsO {x0 x1 x2} (h2 : Keeps a x2) : KeepsO a (execBatonRx x0 x1 x2) := by
  unfold execBatonRx
  extract_lets -useContext v10 v11 v12 v13
  have hv10 : Keeps a v10 := State.bump_keeps h2
  have hv11 : Keeps a v11 := State.batonFence_keeps (State.noteBaton_keeps h2)
  have hv12 : Keeps a v12 := State.twoWay_keeps (State.ackGrant_keeps (State.ackState_keeps hv11))
  have hv13 : Keeps a v13 := keeps_ite (State.checkSkew_keeps hv12) hv12
  exact keepsO_next (keeps_ite h2 (keeps_ite (State.raise_keeps hv10) (State.startAgain_keeps (State.leadBaton_keeps (State.followBaton_keeps hv13)))))

theorem execBatonDue_keepsO {x0} (h0 : Keeps a x0) : KeepsO a (execBatonDue x0) := by
  unfold execBatonDue
  extract_lets -useContext v10 v11 v12 v13 v14
  have hv10 : Keeps a v10 := State.doneAt_keeps h0
  have hv13 : Keeps a v13 := State.put_keeps hv10
  exact keepsO_next (keeps_ite h0 (keeps_ite hv10 (keeps_ite (State.noServer_keeps (State.raise_keeps (State.bump_keeps hv13))) hv13)))

theorem execJournalAckTimeout_keepsO {x0} (h0 : Keeps a x0) : KeepsO a (execJournalAckTimeout x0) := by
  unfold execJournalAckTimeout
  refine keepsO_next ?_
  refine keeps_ite ?_ ?_
  · extract_lets -useContext v10 v11 v12 v13 v14 v15
    have hv11 : Keeps a v11 := State.stopTimer_keeps h0
    have hv13 : Keeps a v13 := keeps_of hv11
    have hv14 : Keeps a v14 := State.releaseWithheld_keeps hv13
    have hv15 : Keeps a v15 := State.releaseGrants_keeps hv14
    exact State.raise_keeps hv15
  · exact h0

theorem execJournalRecord_keepsO {x0 x1 x2} (h2 : Keeps a x2) : KeepsO a (execJournalRecord x0 x1 x2) := by
  unfold execJournalRecord
  extract_lets -useContext v10 v11 v12
  have hv11 : Keeps a v11 := keeps_ite (State.pfTrigger_keeps h2) h2
  exact keepsO_next (keeps_ite h2 (keeps_ite (State.bump_keeps h2) (keeps_ite (keeps_of hv11) (keeps_ite (State.markDone_keeps (State.applyRecord_keeps hv11)) hv11))))

theorem execResyncReq_keepsO {x0 x1} (h1 : Keeps a x1) : KeepsO a (execResyncReq x0 x1) :=
  keepsO_next (keeps_ite (State.sendBulk_keeps h1) h1)

theorem State.applyWord_keeps {x0 x1 x2} (h0 : Keeps a x0) : Keeps a (State.applyWord x0 x1 x2) := by
  unfold State.applyWord
  refine keeps_ite ?_ ?_
  · exact h0
  · split
    · exact h0
    · exact State.hooked_keeps h0 (fun _ h10 => (State.putWord_keeps h10))

theorem State.applyWords_keeps {x0 x1} (h0 : Keeps a x0) : Keeps a (State.applyWords x0 x1) := by
  unfold State.applyWords
  extract_lets -useContext v10
  have hv10 : Keeps a v10 := keeps_foldl h0 fun _ _ h11 => (State.applyWord_keeps h11)
  exact keeps_foldl hv10 fun _ _ h12 => (keeps_ite (State.normalize_keeps h12) h12)

theorem State.applyEntries_keeps {x0 x1} (h0 : Keeps a x0) : Keeps a (State.applyEntries x0 x1) := by
  unfold State.applyEntries
  refine keeps_foldl ?_ ?_
  · exact h0
  · intro s x h11
    split
    · exact State.putEntry_keeps h11
    · split
      · rename_i x_ t_ heq_
        have h12 : Keeps a t_ := keeps_snd heq_ (State.findSlot_keeps2 h11)
        exact State.putEntry_keeps h12
      · rename_i x_ t_ heq_
        have h13 : Keeps a t_ := keeps_snd heq_ (State.findSlot_keeps2 h11)
        exact h13

theorem State.dropGrants_keeps {x0} (h0 : Keeps a x0) : Keeps a (State.dropGrants x0) :=
  keeps_foldl h0 fun _ _ h10 => (State.release_keeps h10)

theorem State.applyImage_keeps {x0 x1 x2} (h0 : Keeps a x0) : Keeps a (State.applyImage x0 x1 x2) := by
  unfold State.applyImage
  extract_lets -useContext v10 v11 v12 v13 v14
  have hv10 : Keeps a v10 := State.applyWords_keeps h0
  have hv11 : Keeps a v11 := keeps_ite (keeps_foldl (State.applyEntries_keeps (State.dropGrants_keeps hv10)) fun _ _ h15 => (State.applyGrant_keeps h15)) hv10
  have hv12 : Keeps a v12 := State.partnerTable_keeps hv11
  have hv14 : Keeps a v14 := keeps_of hv12
  exact State.put_keeps hv14

theorem State.resynced_keeps {x0} (h0 : Keeps a x0) : Keeps a (State.resynced x0) := by
  unfold State.resynced
  extract_lets -useContext v10 v11 v12
  have hv12 : Keeps a v12 := State.raise_keeps (State.setRole_keeps (State.put_keeps h0))
  exact keeps_ite h0 (State.completeRunning_keeps hv12)

theorem execResyncDone_keepsO {x0 x1} (h1 : Keeps a x1) : KeepsO a (execResyncDone x0 x1) := by
  unfold execResyncDone
  exact keepsO_next (keeps_ite h1 (keeps_ite (State.resynced_keeps (State.applyInbox_keeps (State.setVar_keeps (State.setVar_keeps (State.applyImage_keeps h1))))) (keeps_ite (State.applyInbox_keeps (State.setVar_keeps (State.applyImage_keeps h1))) h1)))

theorem yieldEff_keepsR {x0 x1 x2 x3} (h3 : Keeps a x3) : KeepsR a (yieldEff x0 x1 x2 x3) := by
  unfold yieldEff
  extract_lets -useContext v10 v11 v12
  have hv11 : Keeps a v11 := State.planHandover_keeps (State.cancelHandover_keeps h3)
  have hv12 : Keeps a v12 := State.change_keeps hv11
  exact keepsR_ite (keepsR_mk h3) (keepsR_ite (keepsR_mk h3) (keepsR_mk (State.hold_keeps hv12)))

theorem execYield_keepsO {x0 x1 x2} (h2 : Keeps a x2) : KeepsO a (execYield x0 x1 x2) :=
  keepsO_next (State.runCmd_keeps h2 (fun _ _ h10 => (yieldEff_keepsR h10)))

theorem twnResyncEff_keepsR {x0 x1 x2} (h2 : Keeps a x2) : KeepsR a (twnResyncEff x0 x1 x2) := by
  unfold twnResyncEff
  refine keepsR_ite ?_ ?_
  · exact keepsR_mk h2
  · extract_lets -useContext v10 v11
    have hv10 : Keeps a v10 := State.change_keeps (State.setRole_keeps (State.put_keeps h2))
    have hv11 : Keeps a v11 := State.askBulk_keeps hv10
    exact keepsR_mk (State.hold_keeps hv11)

theorem execTwnResync_keepsO {x0 x1} (h1 : Keeps a x1) : KeepsO a (execTwnResync x0 x1) :=
  keepsO_next (State.runCmd_keeps h1 (fun _ _ h10 => (twnResyncEff_keepsR h10)))

theorem execTwnSet_keepsO {x0 x1 x2 x3} (h3 : Keeps a x3) : KeepsO a (execTwnSet x0 x1 x2 x3) :=
  keepsO_next (State.runCmd_keeps h3 (fun _ _ h10 => (State.setWord_keepsR h10)))

theorem State.twinEnWritten_keeps {x0 x1} (h0 : Keeps a x0) : Keeps a (State.twinEnWritten x0 x1) :=
  keeps_ite h0 (keeps_ite (State.serveUpdate_keeps (State.arm_keeps (State.setVar_keeps (State.setRole_keeps (State.driveFence_keeps h0))))) (State.serveUpdate_keeps (State.admissionFresh_keeps (State.setRole_keeps (State.driveFence_keeps (State.cancelHandover_keeps h0))))))

theorem State.measWords_keeps2 {x0 x1 x2} (h0 : Keeps a x0) : Keeps2 a (State.measWords x0 x1 x2) := by
  unfold State.measWords
  split
  · exact keeps2_mk h0
  · split
    · rename_i x_ t_ heq_
      have h10 : Keeps a t_ := keeps_snd heq_ (State.takeFree_keeps2 h0)
      split
      · rename_i x_ t_ heq_
        have h11 : Keeps a t_ := keeps_snd heq_ (State.takeFree_keeps2 h10)
        exact keeps2_mk h11

theorem State.peeks_keeps2 {x0 x1} (h0 : Keeps a x0) : Keeps2 a (State.peeks x0 x1) :=
  keeps2_mk h0

theorem State.freeAfter_keeps2 {x0 x1} (h0 : Keeps a x0) : Keeps2 a (State.freeAfter x0 x1) :=
  keeps2_mk (keeps2_snd (State.takeFree_keeps2 h0))

theorem State.freePair_keeps2 {x0} (h0 : Keeps a x0) : Keeps2 a (State.freePair x0) :=
  keeps2_mk (keeps2_snd (State.takeFree_keeps2 (keeps2_snd (State.takeFree_keeps2 h0))))

theorem State.content_keeps2 {x0 x1 x2} (h0 : Keeps a x0) : Keeps2 a (State.content x0 x1 x2) := by
  unfold State.content
  extract_lets -useContext v10 v11 v12 v13 v14 v15 v16 v17
  refine keeps2_ite ?_ ?_
  · exact State.peeks_keeps2 h0
  · refine keeps2_ite ?_ ?_
    · exact State.peeks_keeps2 h0
    · refine keeps2_ite ?_ ?_
      · exact State.peeks_keeps2 h0
      · refine keeps2_ite ?_ ?_
        · exact State.peeks_keeps2 h0
        · refine keeps2_ite ?_ ?_
          · exact keeps2_mk h0
          · refine keeps2_ite ?_ ?_
            · exact State.peeks_keeps2 h0
            · refine keeps2_ite ?_ ?_
              · exact State.freeAfter_keeps2 h0
              · refine keeps2_ite ?_ ?_
                · exact keeps2_mk h0
                · refine keeps2_ite ?_ ?_
                  · exact State.peeks_keeps2 h0
                  · refine keeps2_ite ?_ ?_
                    · exact State.peeks_keeps2 h0
                    · refine keeps2_ite ?_ ?_
                      · exact State.peeks_keeps2 h0
                      · refine keeps2_ite ?_ ?_
                        · exact State.peeks_keeps2 h0
                        · refine keeps2_ite ?_ ?_
                          · exact State.peeks_keeps2 h0
                          · refine keeps2_ite ?_ ?_
                            · exact keeps2_mk h0
                            · refine keeps2_ite ?_ ?_
                              · split
                                · rename_i y18 y19 y20 e21
                                  have h22 : Keeps a y20 := keeps_snd e21 (State.measWords_keeps2 h0)
                                  exact keeps2_mk h22
                              · exact keeps2_ite (State.peeks_keeps2 h0) (keeps2_ite (State.peeks_keeps2 h0) (keeps2_ite (State.peeks_keeps2 h0) (keeps2_ite (State.peeks_keeps2 h0) (keeps2_ite (State.peeks_keeps2 h0) (keeps2_ite (keeps2_mk h0) (keeps2_ite (State.peeks_keeps2 h0) (keeps2_ite (State.peeks_keeps2 h0) (keeps2_ite (State.freePair_keeps2 h0) (keeps2_ite (keeps2_mk h0) (keeps2_ite (State.freePair_keeps2 h0) (keeps2_ite (State.peeks_keeps2 h0) (keeps2_ite (State.peeks_keeps2 h0) (keeps2_ite (State.peeks_keeps2 h0) (keeps2_ite (State.freeAfter_keeps2 h0) (keeps2_ite (State.peeks_keeps2 h0) (keeps2_ite (State.peeks_keeps2 h0) (State.peeks_keeps2 h0)))))))))))))))))

theorem State.drainOf_keeps {x0 x1} (h0 : Keeps a x0) : Keeps a (State.drainOf x0 x1) := by
  unfold State.drainOf
  split
  · exact State.startDrain_keeps h0
  · exact h0

theorem State.poisonOf_keeps {x0 x1} (h0 : Keeps a x0) : Keeps a (State.poisonOf x0 x1) := by
  unfold State.poisonOf
  exact keeps_ite (State.setVar_keeps h0) (keeps_ite (State.setVar_keeps h0) (keeps_ite (State.setVar_keeps h0) h0))

theorem State.relayFence_keeps {x0} (h0 : Keeps a x0) : Keeps a (State.relayFence x0) := by
  unfold State.relayFence
  exact State.completeRunning_keeps (State.cancelHandover_keeps h0)

theorem State.unitOut_keeps {x0 x1 x2} (h0 : Keeps a x0) : Keeps a (State.unitOut x0 x1 x2) := by
  unfold State.unitOut
  extract_lets -useContext v10 v11
  have hv10 : Keeps a v10 := State.drainOf_keeps h0
  have hv11 : Keeps a v11 := keeps_ite (State.poisonOf_keeps hv10) hv10
  exact keeps_ite (State.tdcGone_keeps hv11) (keeps_ite (keeps_ite (State.synFence_keeps hv11) (State.synStop_keeps hv11)) (keeps_ite (keeps_ite (State.outFence_keeps hv11) (State.outDisable_keeps hv11)) (keeps_ite (keeps_ite (State.outFence_keeps hv11) (State.outDisable_keeps hv11)) (keeps_ite (keeps_ite (State.todFence_keeps hv11) hv11) (keeps_ite (State.gnssChannelGone_keeps hv11) (keeps_ite (State.gnssAcqGone_keeps hv11) (keeps_ite (State.gnssUnitGone_keeps hv11) (keeps_ite (State.pairOff_keeps hv11) (keeps_ite (keeps_ite (State.relayFence_keeps hv11) hv11) (keeps_ite (State.serveUpdate_keeps (State.linkOff_keeps hv11)) hv11))))))))))

theorem State.unitIn_keeps {x0 x1} (h0 : Keeps a x0) : Keeps a (State.unitIn x0 x1) :=
  keeps_ite (keeps_ite (State.synStart_keeps h0) h0) (keeps_ite (State.outEnable_keeps h0) (keeps_ite (State.outEnable_keeps h0) (keeps_ite (State.todEnable_keeps h0) (keeps_ite (State.startPair_keeps h0) (keeps_ite (State.serveUpdate_keeps (State.linkStart_keeps h0)) h0)))))

theorem State.unitCleared_keeps {x0 x1} (h0 : Keeps a x0) : Keeps a (State.unitCleared x0 x1) := by
  unfold State.unitCleared
  extract_lets -useContext v10 v11 v12 v13
  have hv10 : Keeps a v10 := keeps_ite (State.laneTo_keeps h0) h0
  have hv12 : Keeps a v12 := keeps_of hv10
  exact keeps_ite (State.setLane_keeps hv12) (keeps_ite (keeps_ite (State.setHeat_keeps hv12) hv12) (keeps_ite (State.synRestart_keeps hv12) (keeps_ite (State.outReset_keeps hv12) (keeps_ite (State.outReset_keeps hv12) (keeps_ite (State.setChan_keeps hv12) (keeps_ite (State.setPort_keeps hv12) hv12))))))

theorem State.endResets_keeps {x0 x1} (h0 : Keeps a x0) : Keeps a (State.endResets x0 x1) := by
  induction x1 generalizing x0 with
  | nil => exact h0
  | cons e es ih =>
    unfold State.endResets
    refine keeps_ite ?_ (ih h0)
    split
    · exact ih (State.complete_keeps h0)
    · exact ih (State.complete_keeps h0)

theorem State.resetsEnded_keeps {x0} (h0 : Keeps a x0) : Keeps a (State.resetsEnded x0) :=
  State.endResets_keeps h0

theorem State.fenceUnit_keeps {x0 x1 x2 x3} (h0 : Keeps a x0) : Keeps a (State.fenceUnit x0 x1 x2 x3) := by
  unfold State.fenceUnit
  extract_lets -useContext v10
  refine keeps_ite ?_ ?_
  · exact h0
  · split
    · rename_i x_ t_ heq_
      have h11 : Keeps a t_ := keeps_snd heq_ (State.content_keeps2 h0)
      exact State.unitOut_keeps (State.setUnit_keeps (State.holdContent_keeps h11))

theorem State.fenceAll_keeps {x0 x1 x2 x3 x4} (h0 : Keeps a x0) : Keeps a (State.fenceAll x0 x1 x2 x3 x4) :=
  keeps_foldl h0 fun _ _ h10 => (State.fenceUnit_keeps h10)

theorem State.fenceCluster_keeps {x0 x1 x2 x3} (h0 : Keeps a x0) : Keeps a (State.fenceCluster x0 x1 x2 x3) := by
  unfold State.fenceCluster
  extract_lets -useContext v10
  exact State.resetsEnded_keeps (State.raise_keeps (State.fenceAll_keeps h0))

theorem State.fenceRegion_keeps {x0 x1 x2} (h0 : Keeps a x0) : Keeps a (State.fenceRegion x0 x1 x2) := by
  unfold State.fenceRegion
  extract_lets -useContext v10 v11 v12 v13 v14 v15
  have hv12 : Keeps a v12 := State.setVar_keeps h0
  have hv13 : Keeps a v13 := State.fenceAll_keeps hv12
  have hv14 : Keeps a v14 := State.resetsEnded_keeps (State.raise_keeps hv13)
  have hv15 : Keeps a v15 := State.setVar_keeps hv14
  exact keeps_ite hv15 (State.yieldForFault_keeps hv15)

theorem State.dieFault_keeps {x0 x1 x2 x3} (h0 : Keeps a x0) : Keeps a (State.dieFault x0 x1 x2 x3) := by
  unfold State.dieFault
  extract_lets -useContext v10 v11 v12 v13 v14 v15 v16 v17 v18 v19
  have hv11 : Keeps a v11 := State.setVar_keeps h0
  have hv13 : Keeps a v13 := keeps_ite (keeps_of hv11) hv11
  have hv14 : Keeps a v14 := State.raise_keeps hv13
  have hv15 : Keeps a v15 := State.raise_keeps hv14
  have hv16 : Keeps a v16 := State.driveFence_keeps (State.cancelHandover_keeps hv15)
  have hv17 : Keeps a v17 := State.serveUpdate_keeps (State.setRole_keeps hv16)
  have hv18 : Keeps a v18 := State.put_keeps hv17
  exact keeps_ite h0 (keeps_ite (keeps_of hv18) hv17)

theorem State.coreFault_keeps {x0 x1 x2} (h0 : Keeps a x0) : Keeps a (State.coreFault x0 x1 x2) :=
  keeps_ite (State.fenceRegion_keeps h0) (State.dieFault_keeps h0)

theorem State.clusterFault_keeps {x0 x1 x2} (h0 : Keeps a x0) : Keeps a (State.clusterFault x0 x1 x2) := by
  unfold State.clusterFault
  exact keeps_ite (State.dieFault_keeps h0) (State.fenceCluster_keeps h0)

theorem State.unitFault_keeps {x0 x1 x2} (h0 : Keeps a x0) : Keeps a (State.unitFault x0 x1 x2) := by
  unfold State.unitFault
  refine keeps_ite ?_ ?_
  · exact keeps_ite h0 (State.coreFault_keeps h0)
  · refine keeps_ite ?_ ?_
    · exact h0
    · extract_lets -useContext v10 v11 v12 v13 v14 v15 v16 v17
      have hv13 : Keeps a v13 := State.fenceUnit_keeps h0
      have hv15 : Keeps a v15 := State.setUnit_keeps hv13
      have hv16 : Keeps a v16 := State.resetsEnded_keeps (State.raise_keeps hv15)
      exact keeps_ite (State.fenceCluster_keeps (State.setUnit_keeps hv16)) hv16

theorem execUnitFenced_keepsO {x0 x1 x2} (h2 : Keeps a x2) : KeepsO a (execUnitFenced x0 x1 x2) := by
  unfold execUnitFenced
  exact keepsO_next (keeps_ite h2 (keeps_ite (State.unitFault_keeps h2) (keeps_ite (State.clusterFault_keeps h2) h2)))

theorem execRegionFenced_keepsO {x0 x1 x2} (h2 : Keeps a x2) : KeepsO a (execRegionFenced x0 x1 x2) :=
  keepsO_next (keeps_ite (State.fenceRegion_keeps h2) h2)

theorem execDieFault_keepsO {x0 x1 x2 x3} (h3 : Keeps a x3) : KeepsO a (execDieFault x0 x1 x2 x3) :=
  keepsO_next (keeps_ite (State.dieFault_keeps h3) h3)

theorem execUnitResetDone_keepsO {x0 x1 x2} (h2 : Keeps a x2) : KeepsO a (execUnitResetDone x0 x1 x2) := by
  unfold execUnitResetDone
  extract_lets -useContext v10 v11 v12 v13 v14 v15
  have hv11 : Keeps a v11 := State.setUnit_keeps h2
  have hv12 : Keeps a v12 := keeps_ite (State.chEvent_keeps hv11) hv11
  have hv13 : Keeps a v13 := State.fenceUnit_keeps h2
  have hv15 : Keeps a v15 := State.setUnit_keeps hv13
  exact keepsO_next (keeps_ite h2 (keeps_ite (State.resetsEnded_keeps (State.raise_keeps (State.unitCleared_keeps hv12))) (State.resetsEnded_keeps (State.raise_keeps hv15))))

theorem execCalReconnect_keepsO {x0 x1 x2 x3 x4} (h4 : Keeps a x4) : KeepsO a (execCalReconnect x0 x1 x2 x3 x4) := by
  unfold execCalReconnect
  extract_lets -useContext v10 v11 v12 v13 v14 v15 v16 v17 v18 v19
  have hv13 : Keeps a v13 := State.putI_keeps (State.setVar_keeps h4)
  have hv14 : Keeps a v14 := keeps_ite (State.put_keeps hv13) (State.calFail_keeps hv13)
  have hv15 : Keeps a v15 := keeps_ite hv14 (State.calFail_keeps hv14)
  have hv18 : Keeps a v18 := keeps_of hv15
  have hv19 : Keeps a v19 := State.arm_keeps (State.setVar_keeps hv18)
  exact keepsO_next (keeps_ite (keeps_ite (State.unitFault_keeps hv19) hv19) h4)

theorem State.unitDark_keeps {x0 x1} (h0 : Keeps a x0) : Keeps a (State.unitDark x0 x1) :=
  keeps_ite (State.synAbsent_keeps h0) (keeps_ite (State.gnssAbsent_keeps h0) (keeps_ite (State.flush_keeps h0) (keeps_ite (State.put_keeps (State.tableLost_keeps h0)) (keeps_ite (State.put_keeps (State.put_keeps h0)) h0))))

theorem State.powerBit_keeps {x0 x1 x2} (h0 : Keeps a x0) : Keeps a (State.powerBit x0 x1 x2) := by
  unfold State.powerBit
  extract_lets -useContext v10 v11
  have hv11 : Keeps a v11 := State.putBit_keeps h0
  exact keeps_ite hv11 (keeps_of hv11)

theorem State.domainOff_keeps {x0 x1} (h0 : Keeps a x0) : Keeps a (State.domainOff x0 x1) := by
  unfold State.domainOff
  extract_lets -useContext v10 v11 v12 v13 v14
  have hv11 : Keeps a v11 := State.resetsEnded_keeps (keeps_foldl h0 fun _ _ h15 => (State.fenceUnit_keeps h15))
  have hv12 : Keeps a v12 := keeps_foldl hv11 fun _ _ h16 => (State.unitDark_keeps (State.setUnit_keeps h16))
  have hv13 : Keeps a v13 := State.powerBit_keeps hv12
  have hv14 : Keeps a v14 := keeps_ite (State.setTb_keeps (State.setTb_keeps hv13)) (keeps_ite (State.setTb_keeps (State.setTb_keeps hv13)) hv13)
  exact keeps_ite h0 (State.serveUpdate_keeps (State.raise_keeps hv14))

theorem State.domainOn_keeps {x0 x1} (h0 : Keeps a x0) : Keeps a (State.domainOn x0 x1) := by
  unfold State.domainOn
  extract_lets -useContext v10 v11 v12 v13 v14 v15 v16
  have hv11 : Keeps a v11 := State.powerBit_keeps h0
  have hv12 : Keeps a v12 := keeps_foldl hv11 fun _ _ h17 => (keeps_ite (State.setUnit_keeps h17) h17)
  have hv13 : Keeps a v13 := keeps_ite (State.synRestart_keeps hv12) hv12
  have hv14 : Keeps a v14 := keeps_ite (State.setTb_keeps (State.setTb_keeps hv13)) (keeps_ite (State.setTb_keeps (State.setTb_keeps hv13)) hv13)
  have hv15 : Keeps a v15 := keeps_ite (keeps_foldl hv14 fun _ _ h18 => (State.chEvent_keeps h18)) hv14
  have hv16 : Keeps a v16 := keeps_ite (State.gnssStart_keeps hv15) hv15
  exact keeps_ite h0 (State.raise_keeps hv16)

theorem execUnitsAbsent_keepsO {x0 x1} (h1 : Keeps a x1) : KeepsO a (execUnitsAbsent x0 x1) := by
  unfold execUnitsAbsent
  extract_lets -useContext v10 v11 v12 v13
  have hv12 : Keeps a v12 := keeps_foldl h1 fun _ _ h14 => (State.domainOff_keeps h14)
  have hv13 : Keeps a v13 := keeps_ite (State.dieFault_keeps hv12) hv12
  exact keepsO_next (keeps_ite h1 (keeps_ite (State.dieFault_keeps hv13) hv13))

theorem execUnitsPresent_keepsO {x0 x1} (h1 : Keeps a x1) : KeepsO a (execUnitsPresent x0 x1) :=
  keepsO_next (keeps_ite h1 (State.domainOn_keeps h1))

theorem State.unitApply_keeps {x0 x1 x2 x3} (h0 : Keeps a x0) : Keeps a (State.unitApply x0 x1 x2 x3) := by
  unfold State.unitApply
  extract_lets -useContext v10
  exact keeps_ite (keeps_ite (State.raise_keeps (State.unitIn_keeps (State.unitTo_keeps h0))) h0) (keeps_ite (keeps_ite (State.raise_keeps (State.unitOut_keeps (State.unitTo_keeps h0))) h0) (State.drainOf_keeps (State.unitTo_keeps h0)))

theorem unitEff_keepsR {x0 x1 x2 x3 x4} (h4 : Keeps a x4) : KeepsR a (unitEff x0 x1 x2 x3 x4) := by
  unfold unitEff
  split
  · exact keepsR_mk h4
  · exact keepsR_mk h4
  · extract_lets -useContext v10 v11 v12
    have hv11 : Keeps a v11 := keeps_foldl h4 fun _ _ h13 => (State.unitApply_keeps h13)
    have hv12 : Keeps a v12 := State.change_keeps hv11
    refine keepsR_ite ?_ ?_
    · exact keepsR_mk h4
    · refine keepsR_ite ?_ ?_
      · exact keepsR_mk h4
      · split
        · exact keepsR_mk h4
        · exact keepsR_ite (keepsR_mk (State.hold_keeps hv12)) (keepsR_mk hv12)

theorem execUnitEnable_keepsO {x0 x1 x2} (h2 : Keeps a x2) : KeepsO a (execUnitEnable x0 x1 x2) :=
  keepsO_next (State.runCmd_keeps h2 (fun _ _ h10 => (unitEff_keepsR h10)))

theorem execUnitDisable_keepsO {x0 x1 x2} (h2 : Keeps a x2) : KeepsO a (execUnitDisable x0 x1 x2) :=
  keepsO_next (State.runCmd_keeps h2 (fun _ _ h10 => (unitEff_keepsR h10)))

theorem execUnitReset_keepsO {x0 x1 x2} (h2 : Keeps a x2) : KeepsO a (execUnitReset x0 x1 x2) :=
  keepsO_next (State.runCmd_keeps h2 (fun _ _ h10 => (unitEff_keepsR h10)))

theorem unitStateEff_keepsR {x0 x1 x2 x3 x4 x5} (h5 : Keeps a x5) : KeepsR a (unitStateEff x0 x1 x2 x3 x4 x5) := by
  unfold unitStateEff
  extract_lets -useContext v10
  have hv10 : ∀ y11, KeepsR a (v10 y11) := by
    intro y11
    dsimp -zeta only [v10]
    exact keepsR_ite (keepsR_mk h5) (keepsR_mk (State.dmaWrite_keeps h5))
  split
  · exact keepsR_mk h5
  · exact hv10 _
  · exact hv10 _

theorem execUnitState_keepsO {x0 x1 x2 x3 x4} (h4 : Keeps a x4) : KeepsO a (execUnitState x0 x1 x2 x3 x4) :=
  keepsO_next (State.runCmd_keeps h4 (fun _ _ h10 => (unitStateEff_keepsR h10)))

theorem State.fabricFault_keeps {x0 x1 x2} (h0 : Keeps a x0) : Keeps a (State.fabricFault x0 x1 x2) := by
  unfold State.fabricFault
  exact keeps_ite (State.clusterFault_keeps h0) (State.unitFault_keeps h0)

theorem State.defaultHit_keeps {x0 x1 x2 x3 x4} (h0 : Keeps a x0) : Keeps a (State.defaultHit x0 x1 x2 x3 x4) := by
  unfold State.defaultHit
  extract_lets -useContext v10 v11 v12 v13 v14 v15
  have hv10 : Keeps a v10 := State.bump_keeps h0
  have hv11 : Keeps a v11 := State.put_keeps (State.put_keeps hv10)
  have hv12 : Keeps a v12 := State.putB_keeps (State.putB_keeps (State.put_keeps hv11))
  have hv13 : Keeps a v13 := State.raiseFab_keeps hv12
  have hv14 : Keeps a v14 := State.pmcEvent_keeps hv13
  exact keeps_ite (keeps_ite hv14 (keeps_of hv14)) (keeps_ite hv14 (State.fabricFault_keeps hv14))

theorem execDefaultHit_keepsO {x0 x1 x2 x3 x4} (h4 : Keeps a x4) : KeepsO a (execDefaultHit x0 x1 x2 x3 x4) :=
  keepsO_next (State.defaultHit_keeps h4)

theorem execHsTimeout_keepsO {x0 x1 x2} (h2 : Keeps a x2) : KeepsO a (execHsTimeout x0 x1 x2) := by
  unfold execHsTimeout
  extract_lets -useContext v10 v11
  have hv10 : Keeps a v10 := State.bump_keeps h2
  have hv11 : Keeps a v11 := State.raiseFab_keeps hv10
  exact keepsO_next (keeps_ite (State.clusterFault_keeps hv11) (State.unitFault_keeps hv11))

theorem execParity_keepsO {x0 x1 x2} (h2 : Keeps a x2) : KeepsO a (execParity x0 x1 x2) := by
  unfold execParity
  extract_lets -useContext v10 v11 v12 v13 v14 v15
  have hv10 : Keeps a v10 := keeps_ite h2 (State.bump_keeps h2)
  have hv11 : Keeps a v11 := State.put_keeps hv10
  have hv13 : Keeps a v13 := keeps_of hv11
  have hv14 : Keeps a v14 := State.raiseFab_keeps hv13
  have hv15 : Keeps a v15 := State.pmcEvent_keeps hv14
  exact keepsO_next (keeps_ite (State.unitFault_keeps (keeps_of hv15)) hv15)

theorem execPfTrig_keepsO {x0 x1} (h1 : Keeps a x1) : KeepsO a (execPfTrig x0 x1) := by
  unfold execPfTrig
  refine keepsO_next ?_
  refine keeps_ite ?_ ?_
  · extract_lets -useContext v10
    have hv10 : Keeps a v10 := State.put64_keeps h1
    exact State.pfTrigger_keeps hv10
  · exact h1

theorem State.pfStep_keeps {x0 x1} (h0 : Keeps a x0) : Keeps a (State.pfStep x0 x1) := by
  unfold State.pfStep
  exact keeps_of h0

theorem State.pfMiss_keeps {x0 x1} (h0 : Keeps a x0) : Keeps a (State.pfMiss x0 x1) := by
  unfold State.pfMiss
  extract_lets -useContext v10
  have hv10 : Keeps a v10 := State.raise_keeps (State.bump_keeps h0)
  split
  · exact State.complete_keeps hv10
  · exact hv10

theorem State.record_keeps2 {x0 x1 x2 x3 x4} (h0 : Keeps a x0) : Keeps2 a (State.record x0 x1 x2 x3 x4) := by
  unfold State.record
  extract_lets -useContext v10 v11 v12
  refine keeps2_ite ?_ ?_
  · exact keeps2_mk h0
  · refine keeps2_ite ?_ ?_
    · exact keeps2_mk h0
    · split
      · rename_i x_ t_ heq_
        have h13 : Keeps a t_ := keeps_snd heq_ (State.content_keeps2 h0)
        exact keeps2_mk h13

theorem State.latchAll_keeps2 {x0 x1 x2 x3 x4 x5} (h0 : Keeps a x0) : Keeps2 a (State.latchAll x0 x1 x2 x3 x4 x5) := by
  induction x5 generalizing x0 with
  | nil => exact h0
  | cons h hs ih =>
    unfold State.latchAll
    exact keeps2_mk (ih (keeps2_snd (keeps2_ite (keeps2_snd (State.record_keeps2 h0)) h0)))

theorem State.snapCounters_keeps {x0} (h0 : Keeps a x0) : Keeps a (State.snapCounters x0) := by
  unfold State.snapCounters
  exact keeps_of h0

theorem State.pfSources_keeps {x0 x1} (h0 : Keeps a x0) : Keeps a (State.pfSources x0 x1) := by
  unfold State.pfSources
  extract_lets -useContext v10 v11 v12
  have hv11 : Keeps a v11 := State.put_keeps h0
  have hv12 : Keeps a v12 := State.put_keeps hv11
  exact State.put_keeps hv12

theorem State.pfStore_keeps {x0 x1 x2} (h0 : Keeps a x0) : Keeps a (State.pfStore x0 x1 x2) := by
  unfold State.pfStore
  exact keeps_of h0

theorem State.pfTake_keeps {x0 x1 x2 x3} (h0 : Keeps a x0) : Keeps a (State.pfTake x0 x1 x2 x3) := by
  unfold State.pfTake
  extract_lets -useContext v10 v11 v12 v13 v14 v15 v16
  have hv10 : Keeps a v10 := State.bump_keeps h0
  have hv11 : Keeps a v11 := State.put_keeps (State.put64_keeps hv10)
  have hv12 : Keeps a v12 := State.putB_keeps (State.pfSources_keeps hv11)
  have hv13 : Keeps a v13 := State.snapCounters_keeps hv12
  have hv15 : Keeps a v15 := keeps_of hv13
  have hv16 : Keeps2 a v16 := State.latchAll_keeps2 hv15
  exact State.pfStore_keeps (keeps2_snd hv16)

theorem execPfLatch_keepsO {x0 x1} (h1 : Keeps a x1) : KeepsO a (execPfLatch x0 x1) := by
  unfold execPfLatch
  refine keepsO_next ?_
  split
  · exact h1
  · refine keeps_ite ?_ ?_
    · exact h1
    · extract_lets -useContext v10 v11 v12
      have hv12 : Keeps a v12 := keeps_of h1
      exact keeps_ite (keeps_foldl hv12 fun _ _ h13 => (State.pfMiss_keeps h13)) (State.pfTake_keeps hv12)

theorem State.pfDone_keeps {x0} (h0 : Keeps a x0) : Keeps a (State.pfDone x0) := by
  unfold State.pfDone
  extract_lets -useContext v10 v11 v12 v13 v14
  have hv12 : Keeps a v12 := keeps_of h0
  have hv14 : Keeps a v14 := State.raise_keeps hv12
  split
  · exact hv14
  · refine keeps_ite ?_ ?_
    · exact State.complete_keeps hv14
    · extract_lets -useContext v15
      have hv15 : Keeps a v15 := keeps_ite hv14 (State.dmaWrite_keeps hv14)
      exact State.complete_keeps hv15

theorem execPfTaken_keepsO {x0} (h0 : Keeps a x0) : KeepsO a (execPfTaken x0) := by
  unfold execPfTaken
  refine keepsO_next ?_
  refine keeps_ite ?_ ?_
  · exact h0
  · extract_lets -useContext v10
    split
    · rename_i x_ t_ heq_
      have h11 : Keeps a t_ := keeps_snd heq_ (State.latchAll_keeps2 h0)
      exact State.pfDone_keeps (keeps_of h11)

theorem execNoLatch_keepsO {x0 x1} (h1 : Keeps a x1) : KeepsO a (execNoLatch x0 x1) := by
  unfold execNoLatch
  refine keepsO_next ?_
  extract_lets -useContext v10 v11
  refine keeps_ite ?_ ?_
  · exact h1
  · split
    · rename_i x_ t_ heq_
      have h12 : Keeps a t_ := keeps_snd heq_ (State.latchAll_keeps2 h1)
      extract_lets -useContext v13 v14
      exact State.pfDone_keeps (keeps_of h12)

theorem State.pmcClear_keeps {x0 x1 x2} (h0 : Keeps a x0) : Keeps a (State.pmcClear x0 x1 x2) := by
  unfold State.pmcClear
  extract_lets -useContext v10 v11 v12
  exact keeps_of h0

theorem State.dumpPush_keeps {x0 x1} (h0 : Keeps a x0) : Keeps a (State.dumpPush x0 x1) := by
  unfold State.dumpPush
  split
  · refine State.rqFill_keeps (keeps_to h0 fun g => ⟨g.mem, g.events, ?_, g.log, g.keeper, g.challenges, g.journal, g.grants⟩)
    dsimp only
    rw [List.length_append, List.length_singleton]; omega
  · refine State.rqLostNote_keeps (State.setVar_keeps (State.bump_keeps (State.rqGone_keeps (keeps_to h0 fun g =>
      ⟨g.mem, g.events, ?_, g.log, g.keeper, g.challenges, g.journal, g.grants⟩))))
    have := g.dumps
    dsimp only
    rw [List.length_append, List.length_singleton, List.length_tail]; omega

theorem State.dumpNow_keeps {x0 x1 x2} (h0 : Keeps a x0) : Keeps a (State.dumpNow x0 x1 x2) := by
  unfold State.dumpNow
  extract_lets -useContext v10 v11 v12 v13 v14 v15
  have hv10 : Keeps a v10 := State.bump_keeps h0
  have hv15 : Keeps a v15 := keeps_of hv10
  exact keeps_foldl hv15 fun _ _ h16 => (State.dumpPush_keeps h16)

theorem execDump_keepsO {x0} (h0 : Keeps a x0) : KeepsO a (execDump x0) := by
  unfold execDump
  refine keepsO_next ?_
  refine keeps_ite ?_ ?_
  · exact h0
  · refine keeps_ite ?_ ?_
    · exact keeps_ite h0 (State.setVar_keeps (State.setVar_keeps (State.dumpNow_keeps h0)))
    · extract_lets -useContext v10 v11
      exact keeps_ite (State.setVar_keeps (State.dumpNow_keeps h0)) h0

theorem State.dumpStep_keeps {x0 x1} (h0 : Keeps a x0) : Keeps a (State.dumpStep x0 x1) := by
  unfold State.dumpStep
  extract_lets -useContext v10
  exact keeps_ite (keeps_ite (State.setVar_keeps h0) h0) (State.setVar_keeps h0)

theorem pfSnapshotEff_keepsR {x0 x1 x2 x3 x4 x5} (h5 : Keeps a x5) : KeepsR a (pfSnapshotEff x0 x1 x2 x3 x4 x5) := by
  unfold pfSnapshotEff
  extract_lets -useContext v10 v11 v12
  have hv12 : Keeps a v12 := State.pfTrigger_keeps (State.hold_keeps h5)
  exact keepsR_ite (keepsR_mk h5) (keepsR_ite (keepsR_mk h5) (keepsR_ite (keepsR_mk h5) (keepsR_ite (keepsR_mk h5) (keepsR_mk (keeps_ite (State.sendState_keeps hv12) hv12)))))

theorem execPfSnapshot_keepsO {x0 x1 x2 x3 x4} (h4 : Keeps a x4) : KeepsO a (execPfSnapshot x0 x1 x2 x3 x4) :=
  keepsO_next (State.runCmd_keeps h4 (fun _ _ h10 => (pfSnapshotEff_keepsR h10)))

theorem pmcSetEff_keepsR {x0 x1 x2 x3} (h3 : Keeps a x3) : KeepsR a (pmcSetEff x0 x1 x2 x3) := by
  unfold pmcSetEff
  extract_lets -useContext v10 v11
  have hv11 : KeepsR a v11 := State.setWord_keepsR h3
  exact keepsR_ite (keepsR_ite (keepsR_mk h3) (keepsR_mk (State.change_keeps (State.pmcClear_keeps h3)))) (keepsR_ite (keepsR_mk h3) (keepsR_ite (keepsR_mk (State.hooked_keeps h3 (fun _ h12 => (keepsR_s hv11)))) hv11))

theorem execPmcSet_keepsO {x0 x1 x2 x3} (h3 : Keeps a x3) : KeepsO a (execPmcSet x0 x1 x2 x3) :=
  keepsO_next (State.runCmd_keeps h3 (fun _ _ h10 => (pmcSetEff_keepsR h10)))

theorem logReadEff_keepsR {x0 x1 x2 x3 x4 x5 x6} (h6 : Keeps a x6) : KeepsR a (logReadEff x0 x1 x2 x3 x4 x5 x6) := by
  unfold logReadEff
  extract_lets -useContext v10 v11
  exact keepsR_ite (keepsR_mk h6) (keepsR_ite (keepsR_mk h6) (keepsR_ite (keepsR_mk h6) (keepsR_ite (keepsR_mk h6) (keepsR_mk (State.dmaWrite_keeps h6)))))

theorem execLogRead_keepsO {x0 x1 x2 x3 x4 x5} (h5 : Keeps a x5) : KeepsO a (execLogRead x0 x1 x2 x3 x4 x5) :=
  keepsO_next (State.runCmd_keeps h5 (fun _ _ h10 => (logReadEff_keepsR h10)))

end Sys2Proof.Machine
end

