-- ==== Sys2Proof/Laws/KeepsG.lean ====
section
/-! SUPPORT. What operations keep: those of Roles, HostIf, Power, Maker, Regs, Lap, Commands. -/

set_option Elab.async false

namespace Sys2Proof.Machine

variable {a : State}

theorem State.closeSession_keeps {x0 x1 x2} (h0 : Keeps a x0) : Keeps a (State.closeSession x0 x1 x2) := by
  unfold State.closeSession
  split
  · exact h0
  · extract_lets -useContext v10 v11
    have hv11 : Keeps a v11 := keeps_of h0
    exact State.raise_keeps hv11

theorem State.closeSessions_keeps {x0 x1 x2} (h0 : Keeps a x0) : Keeps a (State.closeSessions x0 x1 x2) := by
  unfold State.closeSessions
  refine keeps_foldl ?_ ?_
  · exact h0
  · intro s x h11
    split
    · exact keeps_ite (State.closeSession_keeps h11) h11
    · exact h11

theorem State.setRoleKey_keeps {x0 x1 x2} (h0 : Keeps a x0) : Keeps a (State.setRoleKey x0 x1 x2) := by
  unfold State.setRoleKey
  extract_lets -useContext v10 v11 v12
  exact keeps_of h0

theorem roleKeySetEff_keepsR {x0 x1 x2 x3 x4 x5} (h5 : Keeps a x5) : KeepsR a (roleKeySetEff x0 x1 x2 x3 x4 x5) := by
  unfold roleKeySetEff
  refine keepsR_ite ?_ ?_
  · exact keepsR_mk h5
  · extract_lets -useContext v10
    have hv10 : ∀ y11, KeepsR a (v10 y11) := by
      intro y11
      dsimp -zeta only [v10]
      extract_lets -useContext v12 v13 v14 v15
      have hv12 : Keeps a v12 := State.setRoleKey_keeps h5
      have hv14 : Keeps a v14 := State.change_keeps hv12
      have hv15 : Keeps a v15 := State.raise_keeps hv14
      exact keepsR_mk (State.closeSessions_keeps hv15)
    refine keepsR_ite ?_ ?_
    · exact hv10 _
    · refine keepsR_ite ?_ ?_
      · exact keepsR_mk h5
      · split
        · exact keepsR_ite (hv10 _) (keepsR_mk h5)
        · exact keepsR_mk h5

theorem execRoleKeySet_keepsO {x0 x1 x2 x3 x4} (h4 : Keeps a x4) : KeepsO a (execRoleKeySet x0 x1 x2 x3 x4) :=
  keepsO_next (State.runCmd_keeps h4 (fun _ _ h10 => (roleKeySetEff_keepsR h10)))

theorem sessionChallengeEff_keepsR {x0 x1 x2 x3 x4} (h4 : Keeps a x4) : KeepsR a (sessionChallengeEff x0 x1 x2 x3 x4) := by
  unfold sessionChallengeEff
  refine keepsR_ite ?_ ?_
  · exact keepsR_mk h4
  · refine keepsR_ite ?_ ?_
    · exact keepsR_mk h4
    · refine keepsR_ite ?_ ?_
      · exact keepsR_mk h4
      · split
        · rename_i x_ t_ heq_
          have h10 : Keeps a t_ := keeps_snd heq_ (State.draw_keeps2 h4)
          extract_lets -useContext v11 v12 v13 v14 v15 v16 v17
          have hv13 : Keeps a v13 := keeps_of h10
          have hv17 : Keeps a v17 := keeps_to hv13 fun g => ⟨g.mem, g.events, g.dumps, g.log, g.keeper, by
            dsimp only [v17, v16]; rw [List.length_append, List.length_drop, List.length_singleton]; have := g.challenges; omega, g.journal, g.grants⟩
          exact keepsR_ite (keepsR_mk hv13) (keepsR_mk (State.dmaWrite_keeps hv17))

theorem execSessionChallenge_keepsO {x0 x1 x2 x3} (h3 : Keeps a x3) : KeepsO a (execSessionChallenge x0 x1 x2 x3) :=
  keepsO_next (State.runCmd_keeps h3 (fun _ _ h10 => (sessionChallengeEff_keepsR h10)))

theorem State.refuseOpen_keepsR {x0 x1 x2 x3} (h0 : Keeps a x0) : KeepsR a (State.refuseOpen x0 x1 x2 x3) :=
  keepsR_mk (State.raise_keeps (State.bump_keeps h0))

theorem State.countFail_keeps {x0 x1} (h0 : Keeps a x0) : Keeps a (State.countFail x0 x1) := by
  unfold State.countFail
  extract_lets -useContext v10 v11 v12
  have hv12 : Keeps a v12 := keeps_of h0
  exact keeps_ite (State.raise_keeps (State.arm_keeps hv12)) hv12

theorem sessionOpenEff_keepsR {x0 x1 x2 x3 x4 x5} (h5 : Keeps a x5) : KeepsR a (sessionOpenEff x0 x1 x2 x3 x4 x5) := by
  unfold sessionOpenEff
  extract_lets -useContext v10 v11 v12 v13
  have hv12 : Keeps a v12 := keeps_to h5 fun g => ⟨g.mem, g.events, g.dumps, g.log, g.keeper, (List.length_filter_le _ _).trans g.challenges, g.journal, g.grants⟩
  refine keepsR_ite ?_ ?_
  · exact keepsR_mk hv12
  · clear_value v10
    split
    · exact State.refuseOpen_keepsR hv12
    · refine keepsR_ite ?_ ?_
      · exact State.refuseOpen_keepsR hv12
      · refine keepsR_ite ?_ ?_
        · exact State.refuseOpen_keepsR hv12
        · refine keepsR_ite ?_ ?_
          · exact State.refuseOpen_keepsR hv12
          · refine keepsR_ite ?_ ?_
            · exact State.refuseOpen_keepsR (State.countFail_keeps hv12)
            · split
              · exact keepsR_mk hv12
              · extract_lets -useContext v14 v15 v16
                have hv15 : Keeps a v15 := keeps_of hv12
                have hv16 : Keeps a v16 := State.raise_keeps (State.bump_keeps hv15)
                exact keepsR_mk hv16

theorem execSessionOpen_keepsO {x0 x1 x2 x3 x4} (h4 : Keeps a x4) : KeepsO a (execSessionOpen x0 x1 x2 x3 x4) :=
  keepsO_next (State.runCmd_keeps h4 (fun _ _ h10 => (sessionOpenEff_keepsR h10)))

theorem sessionCloseEff_keepsR {x0 x1 x2 x3} (h3 : Keeps a x3) : KeepsR a (sessionCloseEff x0 x1 x2 x3) := by
  unfold sessionCloseEff
  split
  · exact keepsR_mk h3
  · exact keepsR_ite (keepsR_mk (State.closeSession_keeps h3)) (keepsR_mk (State.refuseRight_keeps h3))

theorem execSessionClose_keepsO {x0 x1 x2} (h2 : Keeps a x2) : KeepsO a (execSessionClose x0 x1 x2) :=
  keepsO_next (State.runCmd_keeps h2 (fun _ _ h10 => (sessionCloseEff_keepsR h10)))

theorem execSessionIdleTimeout_keepsO {x0 x1} (h1 : Keeps a x1) : KeepsO a (execSessionIdleTimeout x0 x1) := by
  unfold execSessionIdleTimeout
  refine keepsO_next ?_
  split
  · exact keeps_ite (State.closeSession_keeps h1) h1
  · exact h1

theorem execChallengeExpiry_keepsO {x0 x1} (h1 : Keeps a x1) : KeepsO a (execChallengeExpiry x0 x1) := by
  unfold execChallengeExpiry
  exact keepsO_next (keeps_to h1 fun g => ⟨g.mem, g.events, g.dumps, g.log, g.keeper, (List.length_filter_le _ _).trans g.challenges, g.journal, g.grants⟩)

theorem execLockoutEnd_keepsO {x0 x1} (h1 : Keeps a x1) : KeepsO a (execLockoutEnd x0 x1) := by
  unfold execLockoutEnd
  refine keepsO_next ?_
  refine keeps_ite ?_ ?_
  · extract_lets -useContext v10 v11
    have hv10 : Keeps a v10 := State.stopTimer_keeps h1
    exact keeps_of hv10 rfl
  · exact h1

theorem execDrbgReseed_keepsO {x0} (h0 : Keeps a x0) : KeepsO a (execDrbgReseed x0) := by
  unfold execDrbgReseed
  extract_lets -useContext v10 v11 v12
  have hv12 : Keeps a v12 := State.put_keeps (State.setVar_keeps (State.bump_keeps h0))
  exact keepsO_next (keeps_ite h0 (keeps_ite (State.setVar_keeps (State.put_keeps h0)) (keeps_ite h0 (keeps_ite (State.raise_keeps hv12) hv12))))

theorem execHealthFail_keepsO {x0 x1} (h1 : Keeps a x1) : KeepsO a (execHealthFail x0 x1) := by
  unfold execHealthFail
  refine keepsO_next ?_
  refine keeps_ite ?_ ?_
  · exact h1
  · extract_lets -useContext v10 v11 v12
    have hv12 : Keeps a v12 := State.bump_keeps (State.setVar_keeps (State.setVar_keeps h1))
    exact State.raise_keeps hv12

theorem execDrbgWithheld_keepsO {x0} (h0 : Keeps a x0) : KeepsO a (execDrbgWithheld x0) := by
  unfold execDrbgWithheld
  refine keepsO_next ?_
  extract_lets -useContext v10
  exact keeps_ite (State.raise_keeps (State.setVar_keeps (State.put_keeps h0))) h0

theorem execWithholdingFault_keepsO {x0} (h0 : Keeps a x0) : KeepsO a (execWithholdingFault x0) :=
  keepsO_next (keeps_ite (State.unitFault_keeps h0) h0)

theorem State.ringEnable_keeps {x0 x1} (h0 : Keeps a x0) : Keeps a (State.ringEnable x0 x1) := by
  unfold State.ringEnable
  extract_lets -useContext v10 v11 v12
  have hv10 : Keeps a v10 := State.put_keeps h0
  have hv12 : Keeps a v12 := keeps_of hv10
  exact keeps_ite hv10 (keeps_ite (State.setRing_keeps (State.put_keeps hv12)) (State.ringError_keeps hv10))

theorem State.ringDisable_keeps {x0 x1} (h0 : Keeps a x0) : Keeps a (State.ringDisable x0 x1) := by
  unfold State.ringDisable
  extract_lets -useContext v10
  have hv10 : Keeps a v10 := State.put_keeps h0
  exact keeps_ite (State.setRing_keeps hv10) (keeps_ite (State.setRing_keeps (State.put_keeps hv10)) hv10)

theorem execRingStopped_keepsO {x0 x1} (h1 : Keeps a x1) : KeepsO a (execRingStopped x0 x1) :=
  keepsO_next (keeps_ite h1 (State.setRing_keeps (State.stopTimer_keeps h1)))

theorem execModTimeExpiry_keepsO {x0 x1} (h1 : Keeps a x1) : KeepsO a (execModTimeExpiry x0 x1) := by
  unfold execModTimeExpiry
  refine keepsO_next ?_
  refine keeps_ite ?_ ?_
  · exact h1
  · extract_lets -useContext v10 v11 v12 v13 v14
    have hv10 : Keeps a v10 := State.stopTimer_keeps h1
    have hv12 : Keeps a v12 := keeps_of hv10
    exact keeps_ite hv12 (keeps_ite (keeps_of hv12) (State.msi_keeps hv12))

theorem execStatusBlockWrite_keepsO {x0 x1} (h1 : Keeps a x1) : KeepsO a (execStatusBlockWrite x0 x1) := by
  unfold execStatusBlockWrite
  refine keepsO_next ?_
  extract_lets -useContext v10 v11 v12 v13 v14 v15 v16 v17
  have hv11 : Keeps a v11 := State.setVar_keeps h1
  have hv13 : Keeps a v13 := keeps_of hv11
  have hv14 : Keeps a v14 := State.dmaWrite_keeps hv13
  have hv17 : Keeps a v17 := keeps_of hv14
  refine keeps_ite ?_ ?_
  · exact h1
  · refine keeps_ite ?_ ?_
    · split
      · rename_i x_ t_ heq_
        have h18 : Keeps a t_ := keeps_snd heq_ (State.takeFree_keeps2 hv11)
        exact State.raiseHif_keeps h18
    · exact keeps_foldl hv17 fun _ _ h19 => (State.msi_keeps h19)

theorem execVectorUnmask_keepsO {x0 x1} (h1 : Keeps a x1) : KeepsO a (execVectorUnmask x0 x1) := by
  unfold execVectorUnmask
  refine keepsO_next ?_
  refine keeps_ite ?_ ?_
  · exact h1
  · extract_lets -useContext v10 v11 v12 v13
    have hv12 : Keeps a v12 := keeps_of h1
    refine keeps_ite ?_ hv12
    refine State.msi_keeps ?_
    exact keeps_of hv12

theorem State.writeHeld_keeps {x0 x1} (h0 : Keeps a x0) : Keeps a (State.writeHeld x0 x1) := by
  induction x1 generalizing x0 with
  | nil => exact h0
  | cons h hs ih =>
    unfold State.writeHeld
    exact ih (State.ringWrite_keeps h0)

theorem execD3hot_keepsO {x0 x1} (h1 : Keeps a x1) : KeepsO a (execD3hot x0 x1) := by
  unfold execD3hot
  refine keepsO_next ?_
  refine keeps_ite ?_ ?_
  · exact h1
  · refine keeps_ite ?_ ?_
    · exact keeps_of h1
    · extract_lets -useContext v10 v11 v12 v13 v14
      have hv12 : Keeps a v12 := keeps_of h1
      have hv13 : Keeps a v13 := State.writeHeld_keeps hv12
      exact keeps_foldl hv13 fun _ _ h15 => (State.msi_keeps (keeps_of h15))

theorem State.hostReset_keeps {x0 x1} (h0 : Keeps a x0) : Keeps a (State.hostReset x0 x1) := by
  unfold State.hostReset
  extract_lets -useContext v10 v11 v12 v13 v14 v15 v16 v17
  have hv10 : Keeps a v10 := keeps_foldl h0 fun _ _ h18 => (State.setRing_keeps (State.stopTimer_keeps h18))
  have hv11 : Keeps a v11 := State.closeSessions_keeps hv10
  have hv13 : Keeps a v13 := keeps_of hv11
  have hv14 : Keeps a v14 := State.bumpBy_keeps hv13
  have hv16 : Keeps a v16 := by
    refine keeps_to hv14 fun g => ?_
    constructor <;> dsimp only [v16]
    exacts [g.mem, g.events, g.dumps, g.log, g.keeper, Nat.zero_le _, g.journal, g.grants]
  refine State.setVar_keeps (State.setVar_keeps (State.stopTimer_keeps ?_))
  exact keeps_of hv16

theorem execHostReset_keepsO {x0 x1} (h1 : Keeps a x1) : KeepsO a (execHostReset x0 x1) :=
  keepsO_next (keeps_ite (State.hostReset_keeps h1) h1)

theorem execHostBack_keepsO {x0} (h0 : Keeps a x0) : KeepsO a (execHostBack x0) := by
  unfold execHostBack
  exact keepsO_next (keeps_ite h0 (State.raiseHif_keeps (keeps_of h0)))

theorem State.showBoot_keeps {x0} (h0 : Keeps a x0) : Keeps a (State.showBoot x0) := by
  unfold State.showBoot
  extract_lets -useContext v10 v11
  have hv10 : Keeps a v10 := by
    dsimp -zeta only [v10]
    split
    · exact State.put_keeps h0
    · exact h0
  have hv11 : Keeps a v11 := by
    dsimp -zeta only [v11]
    split
    · exact State.put_keeps hv10
    · exact hv10
  refine keeps_foldl ?_ ?_
  · exact hv11
  · intro s x h13
    split
    · exact State.put_keeps h13
    · exact h13

theorem State.packageReset_keeps {x0 x1} (h0 : Keeps a x0) : Keeps a (State.packageReset x0 x1) := by
  unfold State.packageReset
  refine State.showBoot_keeps (State.put_keeps (keeps_to h0 fun g => ?_))
  exact ⟨g.mem, Nat.zero_le _, Nat.zero_le _, Nat.zero_le _, g.keeper, Nat.zero_le _, Nat.zero_le _, Nat.zero_le _⟩

theorem execPackageReset_keepsO {x0 x1} (h1 : Keeps a x1) : KeepsO a (execPackageReset x0 x1) :=
  keepsO_next (keeps_ite (State.packageReset_keeps h1) h1)

theorem State.setPhase_keeps {x0 x1} (h0 : Keeps a x0) : Keeps a (State.setPhase x0 x1) := by
  unfold State.setPhase
  extract_lets -useContext v10
  exact State.raise_keeps (State.put_keeps h0)

theorem State.keeperLost_keeps {x0} (h0 : Keeps a x0) : Keeps a (State.keeperLost x0) := by
  unfold State.keeperLost
  exact keeps_of h0

theorem State.takeKeys_keeps {x0 x1 x2} (h0 : Keeps a x0) : Keeps a (State.takeKeys x0 x1 x2) := by
  unfold State.takeKeys
  extract_lets -useContext v10 v11 v12 v13
  have hv13 : Keeps a v13 := keeps_of h0
  exact keeps_ite (keeps_foldl hv13 fun _ _ h14 => (keeps_ite (State.raise_keeps h14) h14)) hv13

theorem execKeeperCheck_keepsO {x0 x1 x2 x3} (h3 : Keeps a x3) : KeepsO a (execKeeperCheck x0 x1 x2 x3) := by
  unfold execKeeperCheck
  refine keepsO_next ?_
  refine keeps_ite ?_ ?_
  · exact h3
  · extract_lets -useContext v10 v11 v12 v13 v14 v15 v16 v17 v18
    have hv12 : Keeps a v12 := State.putB_keeps h3
    have hv14 : Keeps a v14 := keeps_of hv12
    have hv16 : Keeps a v16 := by
      refine keeps_ite (State.setVar_keeps ?_) hv14
      exact keeps_to hv14 fun g => ⟨g.mem, g.events, g.dumps, g.log, Nat.zero_le _, g.challenges, g.journal, g.grants⟩
    have hv17 : Keeps a v17 := keeps_ite hv16 (State.raise_keeps (State.keeperLost_keeps hv16))
    have hv18 : Keeps a v18 := State.takeKeys_keeps hv17
    exact State.setPhase_keeps (State.domainOn_keeps (State.domainOn_keeps hv18))

theorem execTclkPllLock_keepsO {x0} (h0 : Keeps a x0) : KeepsO a (execTclkPllLock x0) :=
  keepsO_next (keeps_ite (State.setPhase_keeps (State.put_keeps h0)) h0)

theorem execOscMissing_keepsO {x0 x1} (h1 : Keeps a x1) : KeepsO a (execOscMissing x0 x1) :=
  keepsO_next (keeps_ite (State.raise_keeps (State.put_keeps h1)) h1)

theorem State.keepPrev_keeps {x0} (h0 : Keeps a x0) : Keeps a (State.keepPrev x0) := by
  unfold State.keepPrev
  extract_lets -useContext v10 v11 v12 v13 v14 v15
  have hv13 : Keeps a v13 := keeps_to h0 fun g => ⟨g.mem, g.events, g.dumps, g.log, Nat.zero_le _, g.challenges, g.journal, g.grants⟩
  have hv14 : Keeps a v14 := keeps_ite hv13 (State.raise_keeps hv13)
  exact keeps_to hv14 fun g => ⟨g.mem, g.events, g.dumps, g.log, Nat.zero_le _, g.challenges, g.journal, g.grants⟩

theorem State.recovery_keeps {x0 x1 x2} (h0 : Keeps a x0) : Keeps a (State.recovery x0 x1 x2) := by
  unfold State.recovery
  extract_lets -useContext v10 v11
  have hv10 : Keeps a v10 := State.setPhase_keeps (State.raise_keeps h0)
  have hv11 : Keeps a v11 := State.put_keeps (State.domainOn_keeps (State.domainOn_keeps (State.domainOn_keeps hv10)))
  exact State.keepPrev_keeps (State.put_keeps hv11)

theorem State.booted_keeps {x0 x1 x2} (h0 : Keeps a x0) : Keeps a (State.booted x0 x1 x2) := by
  unfold State.booted
  extract_lets -useContext v10 v11
  have hv10 : Keeps a v10 := State.put_keeps (State.put_keeps h0)
  have hv11 : Keeps a v11 := State.setPhase_keeps hv10
  exact keeps_ite (State.setRole_keeps (State.driveFence_keeps hv11)) (State.arm_keeps hv11)

theorem execFwBoot_keepsO {x0 x1 x2 x3 x4} (h4 : Keeps a x4) : KeepsO a (execFwBoot x0 x1 x2 x3 x4) := by
  unfold execFwBoot
  refine keepsO_next ?_
  refine keeps_ite ?_ ?_
  · exact h4
  · extract_lets -useContext v10 v11 v12 v13
    exact keeps_ite (State.booted_keeps h4) (keeps_ite (State.booted_keeps (State.raise_keeps h4)) (State.recovery_keeps h4))

theorem State.startCounts_keeps {x0} (h0 : Keeps a x0) : Keeps a (State.startCounts x0) := by
  unfold State.startCounts
  extract_lets -useContext v10 v11
  have hv10 : Keeps a v10 := State.setVar_keeps (State.setVar_keeps h0)
  exact keeps_of hv10

theorem State.takeTrace_keeps {x0 x1} (h0 : Keeps a x0) : Keeps a (State.takeTrace x0 x1) :=
  keeps_ite (State.setVar_keeps (State.setVar_keeps h0)) h0

theorem execTimeRecovery_keepsO {x0 x1} (h1 : Keeps a x1) : KeepsO a (execTimeRecovery x0 x1) := by
  unfold execTimeRecovery
  extract_lets -useContext v10 v11 v12 v13 v14 v15 v16 v17 v18 v19 v20 v21 v22 v23 v24 v25 v26 v27
  have hv14 : Keeps a v14 := State.setVar_keeps h1
  have hv17 : Keeps a v17 := State.resumeLeap_keeps (keeps_of hv14)
  have hv20 : Keeps a v20 := keeps_of hv17
  have hv21 : Keeps a v21 := keeps_ite (State.takeTrace_keeps hv20) hv20
  have hv22 : Keeps a v22 := State.put_keeps (State.noteFreq_keeps (State.anchor_keeps hv21))
  have hv25 : Keeps a v25 := State.discEvents_keeps (State.publishTeb_keeps (State.discRate_keeps (State.put_keeps hv22)))
  have hv27 : Keeps a v27 := State.put_keeps (State.put_keeps hv25)
  exact keepsO_next (keeps_ite h1 (State.setPhase_keeps (State.raise_keeps (State.startCounts_keeps hv27))))

theorem execTrackUp_keepsO {x0} (h0 : Keeps a x0) : KeepsO a (execTrackUp x0) :=
  keepsO_next (keeps_ite (State.gnssStart_keeps (State.setPhase_keeps h0)) h0)

theorem execFieldUp_keepsO {x0} (h0 : Keeps a x0) : KeepsO a (execFieldUp x0) :=
  keepsO_next (keeps_ite (State.setPhase_keeps (State.keepPrev_keeps (State.put_keeps (State.put_keeps h0)))) h0)

theorem State.startDone_keeps {x0 x1} (h0 : Keeps a x0) : Keeps a (State.startDone x0 x1) :=
  keeps_ite (State.setPhase_keeps (State.put_keeps h0)) h0

theorem execDramTrain_keepsO {x0 x1 x2 x3 x4 x5} (h5 : Keeps a x5) : KeepsO a (execDramTrain x0 x1 x2 x3 x4 x5) := by
  unfold execDramTrain
  extract_lets -useContext v10 v11 v12
  have hv10 : Keeps a v10 := State.put_keeps h5
  have hv11 : Keeps a v11 := State.put_keeps hv10
  have hv12 : Keeps a v12 := State.raise_keeps (State.put_keeps hv11)
  exact keepsO_next (keeps_ite h5 (keeps_ite (State.startDone_keeps (State.put_keeps (State.put_keeps (State.put_keeps hv10)))) (keeps_ite hv11 (State.startDone_keeps (State.setVar_keeps (State.domainOff_keeps hv12))))))

theorem execDramRetrain_keepsO {x0} (h0 : Keeps a x0) : KeepsO a (execDramRetrain x0) :=
  keepsO_next (keeps_ite (State.bump_keeps h0) h0)

theorem execKeeperWrite_keepsO {x0 x1 x2} (h2 : Keeps a x2) : KeepsO a (execKeeperWrite x0 x1 x2) := by
  unfold execKeeperWrite
  refine keepsO_next ?_
  refine keeps_ite ?_ ?_
  · exact h2
  · extract_lets -useContext v10 v11 v12
    have hv12 : Keeps a v12 := State.setVar_keeps (keeps_of h2)
    split
    · exact keeps_ite (State.putI_keeps hv12) hv12
    · exact hv12

theorem State.cellMeasured_keeps {x0 x1} (h0 : Keeps a x0) : Keeps a (State.cellMeasured x0 x1) := by
  unfold State.cellMeasured
  extract_lets -useContext v10 v11
  have hv11 : Keeps a v11 := State.putB_keeps (State.put_keeps h0)
  exact keeps_ite (State.raise_keeps hv11) hv11

theorem execVbatLow_keepsO {x0 x1} (h1 : Keeps a x1) : KeepsO a (execVbatLow x0 x1) :=
  keepsO_next (keeps_ite (State.cellMeasured_keeps h1) h1)

theorem execOnCell_keepsO {x0 x1 x2} (h2 : Keeps a x2) : KeepsO a (execOnCell x0 x1 x2) :=
  keepsO_next (State.cellMeasured_keeps (State.putB_keeps h2))

theorem execBrownOut_keepsO {x0} (h0 : Keeps a x0) : KeepsO a (execBrownOut x0) := by
  unfold execBrownOut
  exact keepsO_next (keeps_of h0)

theorem domainOffEff_keepsR {x0 x1 x2 x3} (h3 : Keeps a x3) : KeepsR a (domainOffEff x0 x1 x2 x3) := by
  unfold domainOffEff
  exact keepsR_ite (keepsR_mk h3) (keepsR_ite (keepsR_mk (State.change_keeps h3)) (keepsR_ite (keepsR_mk h3) (keepsR_mk (State.change_keeps (State.setVar_keeps (State.domainOff_keeps h3))))))

theorem domainOnEff_keepsR {x0 x1 x2 x3} (h3 : Keeps a x3) : KeepsR a (domainOnEff x0 x1 x2 x3) := by
  unfold domainOnEff
  extract_lets -useContext v10 v11
  have hv10 : Keeps a v10 := State.powerBit_keeps (State.setVar_keeps h3)
  have hv11 : Keeps a v11 := keeps_ite (State.put_keeps (State.put_keeps (State.put_keeps hv10))) hv10
  exact keepsR_ite (keepsR_mk (State.change_keeps h3)) (keepsR_ite (keepsR_mk h3) (keepsR_mk (State.change_keeps hv11)))

theorem State.fieldReset_keeps {x0} (h0 : Keeps a x0) : Keeps a (State.fieldReset x0) := by
  unfold State.fieldReset
  extract_lets -useContext v10 v11 v12 v13 v14 v15 v16 v17
  have hv10 : Keeps a v10 := State.hostReset_keeps h0
  have hv11 : Keeps a v11 := keeps_foldl hv10 fun _ _ h18 => (State.domainOff_keeps h18)
  have hv12 : Keeps a v12 := keeps_of hv11
  have hv16 : Keeps a v16 := keeps_to hv12 fun g => ⟨g.mem, Nat.zero_le _, Nat.zero_le _, g.log, g.keeper, g.challenges, g.journal, g.grants⟩
  have hv17 : Keeps a v17 := State.bumpSat_keeps (State.put_keeps hv16)
  exact State.setVar_keeps hv17

theorem execFieldRestored_keepsO {x0 x1} (h1 : Keeps a x1) : KeepsO a (execFieldRestored x0 x1) := by
  unfold execFieldRestored
  refine keepsO_next ?_
  refine keeps_ite ?_ ?_
  · exact h1
  · extract_lets -useContext v10 v11 v12
    have hv10 : Keeps a v10 := keeps_of h1
    have hv11 : Keeps a v11 := State.put_keeps (State.put_keeps hv10)
    have hv12 : Keeps a v12 := State.raise_keeps (State.setVar_keeps hv11)
    exact keeps_ite (State.serveUpdate_keeps (State.askBulk_keeps (State.setRole_keeps (State.put_keeps hv12)))) (State.serveUpdate_keeps hv12)

theorem State.makerEff_keepsR {x0 x1 x2 x3 x4 x5} (h0 : Keeps a x0) (h_run : ∀ y0 y1, Keeps a y1 → KeepsR a (x5 y0 y1)) : KeepsR a (State.makerEff x0 x1 x2 x3 x4 x5) := by
  unfold State.makerEff
  extract_lets -useContext v10 v11 v12
  have hv12 : Keeps a v12 := keeps_ite (State.completeRunning_keeps h0) h0
  exact keepsR_ite (h_run _ _ h0) (keepsR_ite (keepsR_mk (State.hold_keeps (State.planHandover_keeps hv12))) (keepsR_ite (keepsR_mk h0) (keepsR_mk h0)))

theorem State.bistTakes_keeps {x0 x1} (h0 : Keeps a x0) : Keeps a (State.bistTakes x0 x1) := by
  unfold State.bistTakes
  exact keeps_ite (keeps_foldl h0 fun _ _ h10 => (State.cacheOut_keeps h10)) (keeps_ite (keeps_foldl h0 fun _ _ h11 => (State.stopHeat_keeps h11)) (keeps_ite (State.serveUpdate_keeps (keeps_foldl h0 fun _ _ h12 => (keeps_ite (State.linkGone_keeps (State.setLink_keeps h12)) (State.linkDown_keeps h12)))) (keeps_ite (State.solnLost_keeps (keeps_foldl h0 fun _ _ h13 => (State.releaseCh_keeps h13))) h0)))

theorem State.bistBegin_keeps {x0 x1} (h0 : Keeps a x0) : Keeps a (State.bistBegin x0 x1) := by
  unfold State.bistBegin
  extract_lets -useContext v10
  have hv10 : Keeps a v10 := State.setVar_keeps (State.setVar_keeps h0)
  exact State.bistTakes_keeps (State.arm_keeps (State.put_keeps (State.put_keeps hv10)))

theorem bistRun_keepsR {x0 x1 x2 x3 x4} (h4 : Keeps a x4) : KeepsR a (bistRun x0 x1 x2 x3 x4) := by
  unfold bistRun
  refine keepsR_ite ?_ ?_
  · exact keepsR_mk h4
  · extract_lets -useContext v10 v11
    have hv10 : Keeps a v10 := State.hold_keeps (State.change_keeps h4)
    have hv11 : Keeps a v11 := State.setVar_keeps (State.setVar_keeps (State.put_keeps (State.put_keeps hv10)))
    exact keepsR_mk (State.bistBegin_keeps hv11)

theorem State.bistEnd_keeps {x0 x1 x2} (h0 : Keeps a x0) : Keeps a (State.bistEnd x0 x1 x2) := by
  unfold State.bistEnd
  extract_lets -useContext v10 v11 v12 v13 v14
  have hv13 : Keeps a v13 := State.put_keeps (State.stopTimer_keeps (State.setVar_keeps (State.setVar_keeps (State.setVar_keeps h0))))
  have hv14 : Keeps a v14 := State.raise_keeps (State.put_keeps hv13)
  split
  · exact State.complete_keeps hv14
  · exact hv14

theorem State.bistNext_keeps {x0} (h0 : Keeps a x0) : Keeps a (State.bistNext x0) := by
  unfold State.bistNext
  extract_lets -useContext v10 v11 v12 v13 v14 v15
  have hv12 : Keeps a v12 := keeps_ite (State.calibrateAll_keeps h0) h0
  have hv13 : Keeps a v13 := keeps_foldl hv12 fun _ _ h16 => (State.unitFault_keeps h16)
  have hv14 : Keeps a v14 := keeps_ite (State.put_keeps hv13) (State.put_keeps hv13)
  have hv15 : Keeps a v15 := keeps_ite (State.setVar_keeps hv14) hv14
  refine keeps_ite ?_ ?_
  · exact State.bistEnd_keeps hv15
  · split
    · exact State.bistBegin_keeps hv15
    · exact State.bistEnd_keeps hv15

theorem State.calEnd_keeps {x0 x1 x2} (h0 : Keeps a x0) : Keeps a (State.calEnd x0 x1 x2) := by
  unfold State.calEnd
  extract_lets -useContext v10 v11
  have hv10 : Keeps a v10 := State.stopTimer_keeps (State.setVar_keeps h0)
  have hv11 : Keeps a v11 := keeps_ite (State.calibrateAll_keeps hv10) hv10
  split
  · exact State.complete_keeps hv11
  · exact hv11

theorem State.makerLap_keeps {x0} (h0 : Keeps a x0) : Keeps a (State.makerLap x0) :=
  keeps_ite h0 (keeps_ite (State.bistNext_keeps h0) (keeps_ite (State.calEnd_keeps h0) h0))

theorem State.makerInterrupt_keeps {x0} (h0 : Keeps a x0) : Keeps a (State.makerInterrupt x0) :=
  keeps_ite (State.bistEnd_keeps h0) (keeps_ite (State.calEnd_keeps h0) h0)

theorem execBistRun_keepsO {x0 x1 x2 x3} (h3 : Keeps a x3) : KeepsO a (execBistRun x0 x1 x2 x3) := by
  unfold execBistRun
  extract_lets -useContext v10
  exact keepsO_next (State.runCmd_keeps h3 (fun _ _ h11 => (keepsR_ite (keepsR_mk h11) (State.makerEff_keepsR h11 (fun _ _ h12 => (bistRun_keepsR h12))))))

theorem calRun_keepsR {x0 x1 x2} (h2 : Keeps a x2) : KeepsR a (calRun x0 x1 x2) := by
  unfold calRun
  refine keepsR_ite ?_ ?_
  · exact keepsR_mk h2
  · extract_lets -useContext v10
    have hv10 : Keeps a v10 := State.hold_keeps (State.change_keeps h2)
    exact keepsR_mk (State.bistTakes_keeps (State.arm_keeps (State.setVar_keeps hv10)))

theorem execTimCalibrate_keepsO {x0 x1} (h1 : Keeps a x1) : KeepsO a (execTimCalibrate x0 x1) :=
  keepsO_next (State.runCmd_keeps h1 (fun _ _ h10 => (State.makerEff_keepsR h10 (fun _ _ h11 => (calRun_keepsR h11)))))

theorem fuseRun_keepsR {x0 x1 x2 x3} (h3 : Keeps a x3) : KeepsR a (fuseRun x0 x1 x2 x3) := by
  unfold fuseRun
  extract_lets -useContext v10 v11 v12 v13 v14
  have hv11 : Keeps a v11 := State.put_keeps h3
  have hv13 : Keeps a v13 := State.put_keeps h3
  have hv14 : Keeps a v14 := keeps_ite (keeps_of hv11) (keeps_of hv13)
  exact keepsR_mk (State.change_keeps hv14)

theorem execFuseWrite_keepsO {x0 x1 x2 x3} (h3 : Keeps a x3) : KeepsO a (execFuseWrite x0 x1 x2 x3) :=
  keepsO_next (State.runCmd_keeps h3 (fun _ _ h10 => (keepsR_ite (keepsR_mk h10) (State.makerEff_keepsR h10 (fun _ _ h11 => (fuseRun_keepsR h11))))))

theorem trimRun_keepsR {x0 x1 x2 x3} (h3 : Keeps a x3) : KeepsR a (trimRun x0 x1 x2 x3) := by
  unfold trimRun
  extract_lets -useContext v10 v11 v12 v13
  have hv12 : Keeps a v12 := keeps_of h3
  have hv13 : Keeps a v13 := keeps_ite (State.put_keeps hv12) hv12
  exact keepsR_mk (State.change_keeps hv13)

theorem execTrimSet_keepsO {x0 x1 x2 x3} (h3 : Keeps a x3) : KeepsO a (execTrimSet x0 x1 x2 x3) :=
  keepsO_next (State.runCmd_keeps h3 (fun _ _ h10 => (keepsR_ite (keepsR_mk h10) (State.makerEff_keepsR h10 (fun _ _ h11 => (trimRun_keepsR h11))))))

theorem State.recordWritten_keeps {x0 x1} (h0 : Keeps a x0) : Keeps a (State.recordWritten x0 x1) := by
  unfold State.recordWritten
  extract_lets -useContext v10 v11
  have hv11 : Keeps a v11 := keeps_of h0
  refine keeps_foldl ?_ ?_
  · exact hv11
  · intro s x h13
    split
    · rename_i x_ t_ heq_
      have h14 : Keeps a t_ := keeps_snd heq_ (State.takeFree_keeps2 h13)
      exact keeps_of h14

theorem fwUpdateEff_keepsR {x0 x1 x2 x3 x4 x5} (h5 : Keeps a x5) : KeepsR a (fwUpdateEff x0 x1 x2 x3 x4 x5) := by
  unfold fwUpdateEff
  refine keepsR_ite ?_ ?_
  · exact keepsR_mk h5
  · refine keepsR_ite ?_ ?_
    · exact keepsR_mk h5
    · refine keepsR_ite ?_ ?_
      · exact keepsR_mk h5
      · refine keepsR_ite ?_ ?_
        · exact keepsR_mk h5
        · refine keepsR_ite ?_ ?_
          · exact keepsR_mk (State.change_keeps (State.recordWritten_keeps h5))
          · refine keepsR_ite ?_ ?_
            · exact keepsR_mk h5
            · extract_lets -useContext v10 v11
              have hv11 : Keeps a v11 := keeps_of h5
              exact keepsR_mk (State.change_keeps hv11)

theorem execFwUpdate_keepsO {x0 x1 x2 x3 x4 x5} (h5 : Keeps a x5) : KeepsO a (execFwUpdate x0 x1 x2 x3 x4 x5) :=
  keepsO_next (State.runCmd_keeps h5 (fun _ _ h10 => (fwUpdateEff_keepsR h10)))

theorem fieldResetRun_keepsR {x0 x1} (h1 : Keeps a x1) : KeepsR a (fieldResetRun x0 x1) :=
  keepsR_ite (keepsR_mk h1) (keepsR_mk (State.fieldReset_keeps (State.change_keeps h1)))

theorem pwrDomainSetEff_keepsR {x0 x1 x2 x3 x4} (h4 : Keeps a x4) : KeepsR a (pwrDomainSetEff x0 x1 x2 x3 x4) :=
  keepsR_ite (keepsR_mk h4) (keepsR_ite (domainOffEff_keepsR h4) (keepsR_ite (domainOnEff_keepsR h4) (State.makerEff_keepsR h4 (fun _ _ h10 => (fieldResetRun_keepsR h10)))))

theorem execPwrDomainSet_keepsO {x0 x1 x2 x3} (h3 : Keeps a x3) : KeepsO a (execPwrDomainSet x0 x1 x2 x3) :=
  keepsO_next (State.runCmd_keeps h3 (fun _ _ h10 => (pwrDomainSetEff_keepsR h10)))

theorem execFieldReset_keepsO {x0 x1} (h1 : Keeps a x1) : KeepsO a (execFieldReset x0 x1) :=
  keepsO_next (State.runCmd_keeps h1 (fun _ _ h10 => (pwrDomainSetEff_keepsR h10)))

theorem State.runWaiting_keeps {x0 x1} (h0 : Keeps a x0) : Keeps a (State.runWaiting x0 x1) := by
  unfold State.runWaiting
  extract_lets -useContext v10 v11
  have hv11 : KeepsR a v11 := keepsR_ite (bistRun_keepsR h0) (keepsR_ite (calRun_keepsR h0) (keepsR_ite (fuseRun_keepsR h0) (keepsR_ite (trimRun_keepsR h0) (fieldResetRun_keepsR h0))))
  split
  · exact keepsR_s hv11
  · exact State.complete_keeps (keepsR_s hv11)

theorem execHandover_keepsO {x0} (h0 : Keeps a x0) : KeepsO a (execHandover x0) := by
  unfold execHandover
  extract_lets -useContext v10 v11 v12 v13
  have hv11 : Keeps a v11 := State.put_keeps (State.put_keeps h0)
  have hv12 : Keeps a v12 := State.put_keeps (State.demote_keeps hv11)
  have hv13 : Keeps a v13 := State.completeRunning_keeps (State.raise_keeps hv12)
  refine keepsO_next ?_
  refine keeps_ite ?_ ?_
  · exact h0
  · refine keeps_ite ?_ ?_
    · exact keeps_foldl hv13 fun _ _ h17 => (State.runWaiting_keeps h17)
    · split
      · exact keeps_ite (State.raise_keeps (State.promote_keeps (State.applyInbox_keeps (State.makerInterrupt_keeps h0)))) h0
      · exact h0

theorem execPromotion_keepsO {x0} (h0 : Keeps a x0) : KeepsO a (execPromotion x0) :=
  keepsO_next (keeps_ite (State.promote_keeps (State.applyInbox_keeps (State.makerInterrupt_keeps h0))) h0)

theorem seizeEff_keepsR {x0 x1} (h1 : Keeps a x1) : KeepsR a (seizeEff x0 x1) := by
  unfold seizeEff
  extract_lets -useContext v10 v11 v12 v13 v14
  have hv11 : Keeps a v11 := State.promote_keeps (State.applyInbox_keeps (State.makerInterrupt_keeps h1))
  have hv12 : Keeps a v12 := keeps_ite (State.put_keeps hv11) hv11
  have hv13 : Keeps a v13 := State.arm_keeps (State.put_keeps hv12)
  have hv14 : Keeps a v14 := keeps_ite (keeps_of hv13) hv13
  exact keepsR_ite (keepsR_mk h1) (keepsR_mk (State.change_keeps hv14))

theorem execSeize_keepsO {x0 x1} (h1 : Keeps a x1) : KeepsO a (execSeize x0 x1) :=
  keepsO_next (State.runCmd_keeps h1 (fun _ _ h10 => (seizeEff_keepsR h10)))

theorem State.touchReg_keeps {x0} (h0 : Keeps a x0) : Keeps a (State.touchReg x0) := by
  unfold State.touchReg
  split
  · split
    · exact keeps_of h0
    · exact h0
  · exact h0

theorem State.countWrite_keeps {x0 x1 x2 x3 x4} (h0 : Keeps a x0) : Keeps a (State.countWrite x0 x1 x2 x3 x4) := by
  unfold State.countWrite
  extract_lets -useContext v10
  exact keeps_ite h0 (keeps_ite (State.pmcEvent_keeps h0) (State.pmcEvent_keeps h0))

theorem State.refuseWrite_keeps {x0 x1 x2 x3 x4 x5} (h0 : Keeps a x0) : Keeps a (State.refuseWrite x0 x1 x2 x3 x4 x5) :=
  State.countWrite_keeps (State.writeRefused_keeps h0)

theorem State.lockSet_keeps {x0} (h0 : Keeps a x0) : Keeps a (State.lockSet x0) := by
  unfold State.lockSet
  refine keeps_ite ?_ ?_
  · refine State.raise_keeps ?_
    extract_lets -useContext v10 v11
    have hv10 : Keeps a v10 := State.put_keeps (State.put_keeps h0)
    exact keeps_of hv10
  · exact h0

theorem State.wordWritten_keeps {x0 x1 x2 x3 x4 x5} (h0 : Keeps a x0) : Keeps a (State.wordWritten x0 x1 x2 x3 x4 x5) := by
  unfold State.wordWritten
  refine keeps_ite ?_ ?_
  · exact keeps_ite (State.lockSet_keeps h0) h0
  · refine keeps_ite ?_ ?_
    · exact State.setVar_keeps h0
    · refine keeps_ite ?_ ?_
      · exact keeps_ite (keeps_of h0) h0
      · refine keeps_ite ?_ ?_
        · exact keeps_ite (State.flush_keeps h0) h0
        · split
          · exact State.pmcClear_keeps h0
          · exact keeps_ite (State.ringEnable_keeps h0) (State.ringDisable_keeps h0)
          · refine keeps_ite ?_ ?_
            · exact h0
            · extract_lets -useContext v10 v11 v12
              have hv11 : Keeps a v11 := State.hooked_keeps h0 (fun _ h13 => (State.writeWord_keeps h13))
              exact keeps_ite (State.twinEnWritten_keeps hv11) (keeps_ite (keeps_of hv11) hv11)

theorem State.recordWrite_keeps {x0 x1 x2 x3 x4} (h1 : Keeps a x1) : Keeps a (State.recordWrite x0 x1 x2 x3 x4) := by
  unfold State.recordWrite
  refine keeps_ite ?_ ?_
  · exact h1
  · extract_lets -useContext v10
    have hv10 : Keeps a v10 := State.change_keeps h1
    split
    · exact State.change_keeps hv10
    · exact hv10

theorem State.lockedWrite_keeps {x0 x1 x2 x3 x4} (h0 : Keeps a x0) : Keeps a (State.lockedWrite x0 x1 x2 x3 x4) := by
  unfold State.lockedWrite
  extract_lets -useContext v10 v11 v12 v13 v14 v15 v16
  have hv13 : Keeps a v13 := h0
  have hv14 : Keeps a v14 := keeps_ite (State.refuseWrite_keeps h0) h0
  have hv15 : Keeps a v15 := State.wordWritten_keeps hv14
  have hv16 : Keeps a v16 := keeps_ite (State.recordWrite_keeps hv15) hv15
  exact keeps_ite hv14 (State.countWrite_keeps hv16)

theorem State.regWrite_keeps {x0 x1} (h0 : Keeps a x0) : Keeps a (State.regWrite x0 x1) := by
  unfold State.regWrite
  extract_lets -useContext v10 v11 v12
  have hv12 : Keeps a v12 := keeps_ite (State.touchReg_keeps h0) h0
  refine keeps_ite ?_ ?_
  · exact h0
  · refine keeps_ite ?_ ?_
    · exact State.defaultHit_keeps h0
    · split
      · exact State.defaultHit_keeps h0
      · exact keeps_ite h0 (keeps_ite (State.refuseWrite_keeps hv12) (keeps_ite hv12 (keeps_ite (State.refuseWrite_keeps hv12) (State.lockedWrite_keeps hv12))))

theorem State.latchWords_keeps {x0 x1 x2 x3} (h0 : Keeps a x0) : Keeps a (State.latchWords x0 x1 x2 x3) := by
  induction x3 generalizing x0 with
  | nil => exact h0
  | cons o os ih => exact ih (keeps_of h0)

theorem State.clearFields_keeps {x0 x1} (h0 : Keeps a x0) : Keeps a (State.clearFields x0 x1) := by
  induction x1 generalizing x0 with
  | nil => exact h0
  | cons f fs ih => exact ih (keeps_ite (State.put_keeps h0) h0)

theorem State.clearWhole_keeps {x0 x1} (h0 : Keeps a x0) : Keeps a (State.clearWhole x0 x1) := by
  unfold State.clearWhole
  exact keeps_foldl h0 fun _ _ h10 => (State.put_keeps h10)

theorem State.clearRead_keeps {x0 x1 x2 x3} (h0 : Keeps a x0) : Keeps a (State.clearRead x0 x1 x2 x3) := by
  unfold State.clearRead
  extract_lets -useContext v10 v11 v12
  have hv10 : Keeps a v10 := State.clearFields_keeps h0
  have hv12 : Keeps a v12 := keeps_ite (keeps_of hv10) hv10
  refine keeps_ite ?_ ?_
  · exact h0
  · refine keeps_foldl ?_ ?_
    · exact hv12
    · intro y15 y16 h17
      split
      · exact keeps_ite (State.clearWhole_keeps h17) (State.clearFields_keeps h17)
      · exact h17

theorem State.returns_keeps {x0 x1} (h0 : Keeps a x0) : Keeps a (State.returns x0 x1) := by
  unfold State.returns
  exact keeps_of h0

theorem State.dumpTold_keeps {x0 x1 x2 x3} (h0 : Keeps a x0) : Keeps a (State.dumpTold x0 x1 x2 x3) := by
  unfold State.dumpTold
  exact keeps_ite (keeps_of h0) h0

theorem State.regRead_keeps {x0 x1 x2 x3} (h0 : Keeps a x0) : Keeps a (State.regRead x0 x1 x2 x3) := by
  unfold State.regRead
  refine keeps_ite ?_ ?_
  · exact State.returns_keeps h0
  · split
    · exact State.defaultHit_keeps h0
    · extract_lets -useContext v10 v11
      have hv11 : Keeps a v11 := keeps_ite h0 (State.clearRead_keeps (State.latchWords_keeps h0))
      exact keeps_ite (State.returns_keeps h0) (State.returns_keeps (State.dumpTold_keeps hv11))

theorem execRegisterWrite_keepsO {x0 x1} (h1 : Keeps a x1) : KeepsO a (execRegisterWrite x0 x1) :=
  keepsO_next (State.regWrite_keeps h1)

theorem execW1cWrite_keepsO {x0 x1} (h1 : Keeps a x1) : KeepsO a (execW1cWrite x0 x1) :=
  keepsO_next (State.regWrite_keeps h1)

theorem execHiWrite_keepsO {x0 x1} (h1 : Keeps a x1) : KeepsO a (execHiWrite x0 x1) :=
  keepsO_next (State.regWrite_keeps h1)

theorem execLoWrite_keepsO {x0 x1} (h1 : Keeps a x1) : KeepsO a (execLoWrite x0 x1) :=
  keepsO_next (State.regWrite_keeps h1)

theorem execLoRead_keepsO {x0 x1 x2 x3} (h3 : Keeps a x3) : KeepsO a (execLoRead x0 x1 x2 x3) :=
  keepsO_next (State.regRead_keeps h3)

theorem execRcRead_keepsO {x0 x1 x2 x3} (h3 : Keeps a x3) : KeepsO a (execRcRead x0 x1 x2 x3) :=
  keepsO_next (State.regRead_keeps h3)

theorem execLinearLoRead_keepsO {x0 x1 x2} (h2 : Keeps a x2) : KeepsO a (execLinearLoRead x0 x1 x2) :=
  keepsO_next (State.regRead_keeps h2)

theorem execLockSet_keepsO {x0 x1} (h1 : Keeps a x1) : KeepsO a (execLockSet x0 x1) :=
  keepsO_next (State.regWrite_keeps h1)

theorem execHifKick_keepsO {x0 x1} (h1 : Keeps a x1) : KeepsO a (execHifKick x0 x1) :=
  keepsO_next (State.regWrite_keeps h1)

theorem execRingEnable_keepsO {x0 x1 x2} (h2 : Keeps a x2) : KeepsO a (execRingEnable x0 x1 x2) :=
  keepsO_next (keeps_ite (State.regWrite_keeps h2) h2)

theorem execRingDisable_keepsO {x0 x1 x2} (h2 : Keeps a x2) : KeepsO a (execRingDisable x0 x1 x2) :=
  keepsO_next (keeps_ite (State.regWrite_keeps h2) h2)

theorem execPfRelease_keepsO {x0 x1} (h1 : Keeps a x1) : KeepsO a (execPfRelease x0 x1) :=
  keepsO_next (State.regWrite_keeps h1)

theorem execPmcClear_keepsO {x0 x1 x2} (h2 : Keeps a x2) : KeepsO a (execPmcClear x0 x1 x2) :=
  keepsO_next (keeps_ite (State.regWrite_keeps h2) h2)

theorem execFlush_keepsO {x0 x1 x2} (h2 : Keeps a x2) : KeepsO a (execFlush x0 x1 x2) :=
  keepsO_next (keeps_ite (State.regWrite_keeps h2) h2)

theorem State.partnerMeasured_keeps {x0} (h0 : Keeps a x0) : Keeps a (State.partnerMeasured x0) := by
  unfold State.partnerMeasured
  extract_lets -useContext v10
  exact State.sourceMeasured_keeps h0

theorem State.passPartner_keeps {x0} (h0 : Keeps a x0) : Keeps a (State.passPartner x0) := by
  unfold State.passPartner
  extract_lets -useContext v10 v11 v12 v13
  have hv12 : Keeps a v12 := State.partnerMeasured_keeps (keeps_ite h0 (State.setVar_keeps h0))
  have hv13 : Keeps a v13 := State.setVar_keeps (State.bump_keeps h0)
  exact keeps_ite h0 (keeps_ite (keeps_ite hv12 (keeps_foldl hv12 fun _ _ h14 => (State.setLane_keeps h14))) (keeps_ite h0 (keeps_ite (State.sourceLos_keeps hv13) hv13)))

theorem State.launchMarker_keeps {x0 x1 x2} (h0 : Keeps a x0) : Keeps a (State.launchMarker x0 x1 x2) := by
  unfold State.launchMarker
  exact keeps_ite (State.pmcEvent_keeps (keeps_of h0)) h0

theorem State.lapMarkers_keeps {x0 x1 x2} (h0 : Keeps a x0) : Keeps a (State.lapMarkers x0 x1 x2) := by
  unfold State.lapMarkers
  extract_lets -useContext v10 v11 v12 v13 v14 v15
  have hv11 : Keeps a v11 := keeps_of h0
  have hv14 : Keeps a v14 := keeps_of hv11
  have hv15 : Keeps a v15 := State.setVar_keeps (State.setVar_keeps hv14)
  exact State.launchMarker_keeps (State.launchMarker_keeps hv15)

theorem State.lapBursts_keeps {x0} (h0 : Keeps a x0) : Keeps a (State.lapBursts x0) := by
  unfold State.lapBursts
  exact keeps_foldl h0 fun _ _ h10 => (keeps_ite (State.pmcAdd_keeps (keeps2_snd (State.takeFree_keeps2 h10))) h10)

theorem execLapBoundary_keepsO {x0 x1 x2} (h2 : Keeps a x2) : KeepsO a (execLapBoundary x0 x1 x2) := by
  unfold execLapBoundary
  extract_lets -useContext v10 v11 v12 v13 v14
  have hv10 : Keeps a v10 := State.passPartner_keeps (State.resynced_keeps (State.applyInbox_keeps (State.doneAt_keeps h2)))
  have hv11 : Keeps a v11 := State.setVar_keeps (State.lapBursts_keeps (State.pmcEvent_keeps hv10))
  have hv12 : Keeps a v12 := State.timUses_keeps (State.selectorLap_keeps (State.timLap_keeps hv11))
  have hv13 : Keeps a v13 := State.showFollowing_keeps hv12
  have hv14 : Keeps a v14 := State.serveUpdate_keeps (State.lapAdmission_keeps hv13)
  exact keepsO_next (keeps_ite h2 (State.lapMarkers_keeps (State.makerLap_keeps hv14)))

theorem State.stepCmps_keeps {x0 x1} (h0 : Keeps a x0) : Keeps a (State.stepCmps x0 x1) :=
  keeps_foldl h0 fun _ _ h10 => (keeps_ite (State.fireCmp_keeps h10) h10)

theorem State.stepTime_keeps {x0 x1 x2} (h0 : Keeps a x0) : Keeps a (State.stepTime x0 x1 x2) := by
  unfold State.stepTime
  extract_lets -useContext v10 v11 v12 v13 v14 v15 v16 v17 v18 v19 v20 v21 v22 v23
  have hv12 : Keeps a v12 := keeps_ite (State.setVar_keeps h0) h0
  have hv13 : Keeps a v13 := keeps_ite (State.noteRetired_keeps hv12) hv12
  have hv14 : Keeps a v14 := State.put64_keeps hv13
  have hv15 : Keeps a v15 := State.putI64_keeps hv14
  have hv17 : Keeps a v17 := keeps_of hv15
  have hv18 : Keeps a v18 := State.pfStep_keeps hv17
  have hv19 : Keeps a v19 := State.setVar_keeps (State.setVar_keeps (State.setVar_keeps hv18))
  have hv20 : Keeps a v20 := State.doneAt_keeps hv19
  have hv21 : Keeps a v21 := State.raise_keeps hv20
  have hv22 : Keeps a v22 := State.stepCmps_keeps hv21
  have hv23 : Keeps a v23 := State.gnssStep_keeps (State.todStep_keeps (State.stepGroups_keeps hv22))
  exact State.stepShadow_keeps (State.dumpStep_keeps hv23)

theorem execStepDone_keepsO {x0} (h0 : Keeps a x0) : KeepsO a (execStepDone x0) := by
  unfold execStepDone
  refine keepsO_next ?_
  split
  · exact keeps_ite (State.stepTime_keeps h0) h0
  · exact h0

theorem State.tclk_keeps {x0} (h0 : Keeps a x0) : Keeps a (State.tclk x0) := by
  unfold State.tclk
  extract_lets -useContext v10 v11
  have hv11 : Keeps a v11 := State.tick_keeps h0
  exact State.sampleClock_keeps (State.sweepHeats_keeps (State.synEdge_keeps hv11))

theorem State.idle_keeps {x0} (h0 : Keeps a x0) : Keeps a (State.idle x0) :=
  keeps_ite (State.tclk_keeps h0) h0

theorem State.takeDesc_keeps {x0 x1 x2 x3} (h0 : Keeps a x0) : Keeps a (State.takeDesc x0 x1 x2 x3) := by
  unfold State.takeDesc
  extract_lets -useContext v10 v11 v12 v13
  have hv12 : Keeps a v12 := State.touch_keeps (State.advance_keeps h0)
  refine keeps_ite ?_ ?_
  · exact State.complete_keeps hv12
  · split
    · exact State.complete_keeps hv12
    · refine keeps_ite ?_ ?_
      · exact State.complete_keeps hv12
      · extract_lets -useContext v14
        split
        · rename_i t_ heq_
          have h15 : Keeps a t_ := (State.fetchFails_keepsM hv12) _ heq_
          exact h15
        · exact keeps_of hv12

theorem State.fetchRing_keeps {x0 x1 x2 x3} (h0 : Keeps a x0) : Keeps a (State.fetchRing x0 x1 x2 x3) := by
  induction x3 generalizing x0 with
  | zero => exact h0
  | succ k ih => exact keeps_ite h0 (ih (State.takeDesc_keeps h0))

theorem State.fetchTurn_keeps {x0 x1 x2 x3} (h0 : Keeps a x0) : Keeps a (State.fetchTurn x0 x1 x2 x3) :=
  keeps_ite h0 (keeps_ite (State.ringError_keeps h0) (State.fetchRing_keeps h0))

theorem State.takeIdx_keeps {x0 x1 x2} (h0 : Keeps a x0) : Keeps a (State.takeIdx x0 x1 x2) := by
  unfold State.takeIdx
  refine keeps_ite ?_ ?_
  · exact h0
  · extract_lets -useContext v10 v11 v12
    exact keeps_ite (State.ringError_keeps h0) (keeps_of h0)

theorem State.pollNext_keeps {x0 x1} (h0 : Keeps a x0) : Keeps a (State.pollNext x0 x1) := by
  unfold State.pollNext
  exact keeps_ite (keeps_of h0) (keeps_ite (keeps_of h0) (keeps_ite (keeps_of h0) (keeps_of h0)))

theorem State.pollFailed_keeps {x0} (h0 : Keeps a x0) : Keeps a (State.pollFailed x0) := by
  unfold State.pollFailed
  split
  · rename_i x_ t_ heq_
    have h10 : Keeps a t_ := keeps_snd heq_ (State.takeFree_keeps2 h0)
    exact State.raiseHif_keeps (State.bump_keeps h10)

theorem State.poll_keeps {x0 x1 x2 x3} (h0 : Keeps a x0) : Keeps a (State.poll x0 x1 x2 x3) := by
  unfold State.poll
  extract_lets -useContext v10 v11 v12
  have hv10 : Keeps a v10 := State.pmcEvent_keeps (State.bump_keeps (State.setVar_keeps h0))
  have hv12 : Keeps a v12 := keeps_foldl hv10 fun _ _ h13 => (State.takeIdx_keeps h13)
  exact keeps_ite (State.pollNext_keeps (State.pollFailed_keeps hv10)) (State.pollNext_keeps (keeps_foldl hv12 fun _ _ h14 => (State.fetchTurn_keeps h14)))

theorem execDoorbellPoll_keepsO {x0 x1 x2 x3} (h3 : Keeps a x3) : KeepsO a (execDoorbellPoll x0 x1 x2 x3) := by
  unfold execDoorbellPoll
  refine keepsO_next ?_
  refine keeps_ite ?_ ?_
  · extract_lets -useContext v10
    have hv10 : Keeps a v10 := State.poll_keeps h3
    exact State.arm_keeps hv10
  · exact h3

theorem execNop_keepsO {x0 x1 x2} (h2 : Keeps a x2) : KeepsO a (execNop x0 x1 x2) :=
  keepsO_next (State.runCmd_keeps h2 (fun _ _ h10 => (keepsR_mk h10)))

theorem State.abortWaiting_keeps {x0 x1} (h0 : Keeps a x0) : Keeps a (State.abortWaiting x0 x1) := by
  unfold State.abortWaiting
  extract_lets -useContext v10
  have hv10 : Keeps a v10 := State.complete_keeps h0
  exact keeps_ite hv10 (State.put_keeps (State.put_keeps hv10))

theorem State.abortRun_keepsR {x0 x1 x2 x3 x4} (h0 : Keeps a x0) (h_held : ∀ y0, Keeps a y0 → KeepsR a (x2 y0)) (h_now : ∀ y0, Keeps a y0 → KeepsR a (x3 y0)) (h_late : ∀ y0, Keeps a y0 → KeepsR a (x4 y0)) : KeepsR a (State.abortRun x0 x1 x2 x3 x4) := by
  unfold State.abortRun
  extract_lets -useContext v10 v11
  exact keepsR_ite (h_late _ h0) (keepsR_ite (h_now _ (State.synStop_keeps h0)) (keepsR_ite (h_held _ (State.setGrp_keeps h0)) (keepsR_ite (h_now _ (State.cancelHandover_keeps h0)) (keepsR_ite (h_now _ (State.abortWaiting_keeps h0)) (keepsR_ite (h_now _ (State.calEnd_keeps h0)) (keepsR_ite (h_held _ (State.setVar_keeps h0)) (h_late _ h0)))))))

theorem abortEff_keepsR {x0 x1 x2 x3 x4} (h4 : Keeps a x4) : KeepsR a (abortEff x0 x1 x2 x3 x4) := by
  unfold abortEff
  split
  · exact keepsR_ite (keepsR_mk h4) (keepsR_ite (keepsR_mk h4) (keepsR_mk h4))
  · refine keepsR_ite ?_ ?_
    · extract_lets -useContext v10
      have hv10 : Keeps a v10 := State.raiseHif_keeps (State.bump_keeps h4)
      exact keepsR_mk hv10
    · exact keepsR_ite (keepsR_mk h4) (keepsR_ite (keepsR_mk (State.complete_keeps h4)) (State.abortRun_keepsR h4 (fun _ h11 => (keepsR_mk (State.hold_keeps h11))) (fun _ h12 => (keepsR_mk h12)) (fun _ h13 => (keepsR_mk (State.hold_keeps h13)))))

theorem execAbort_keepsO {x0 x1 x2 x3} (h3 : Keeps a x3) : KeepsO a (execAbort x0 x1 x2 x3) :=
  keepsO_next (State.runCmd_keeps h3 (fun _ _ h10 => (keepsR_ite (keepsR_mk h10) (abortEff_keepsR h10))))

end Sys2Proof.Machine
end

