-- ==== Sys2Proof/Laws/KeepsH.lean ====
section
/-! SUPPORT. What operations keep: those of Dispatch. -/

set_option Elab.async false

namespace Sys2Proof.Machine

variable {a : State}

theorem exec_keepsO {x0 x1} (h1 : Keeps a x1) : KeepsO a (exec x0 x1) := by
  unfold exec
  split
  · exact execNop_keepsO h1
  · exact execAbort_keepsO h1
  · exact execUnitEnable_keepsO h1
  · exact execUnitDisable_keepsO h1
  · exact execUnitReset_keepsO h1
  · exact execUnitState_keepsO h1
  · exact execTimeReset_keepsO h1
  · exact execPhaseAdj_keepsO h1
  · exact execSlewLimitSet_keepsO h1
  · exact execStepThreshSet_keepsO h1
  · exact execLeapSet_keepsO h1
  · exact execUtcOffsetSet_keepsO h1
  · exact execCmpArm_keepsO h1
  · exact execCmpDisarm_keepsO h1
  · exact execLaneForce_keepsO h1
  · exact execLaneRelease_keepsO h1
  · exact execLaneClear_keepsO h1
  · exact execLaneSet_keepsO h1
  · exact execSelModeSet_keepsO h1
  · exact execHobSet_keepsO h1
  · exact execModelReset_keepsO h1
  · exact execTebPredict_keepsO h1
  · exact execHeatStart_keepsO h1
  · exact execHeatStop_keepsO h1
  · exact execRefinDelaySet_keepsO h1
  · exact execWarmSet_keepsO h1
  · exact execTimSet_keepsO h1
  · exact execTimCalibrate_keepsO h1
  · exact execSynSet_keepsO h1
  · exact execSynStart_keepsO h1
  · exact execSynStop_keepsO h1
  · exact execSynFreqStep_keepsO h1
  · exact execOutSet_keepsO h1
  · exact execOutAlign_keepsO h1
  · exact execGnbSet_keepsO h1
  · exact execGnssPosSet_keepsO h1
  · exact execGnssNavLoad_keepsO h1
  · exact execGnssNavRead_keepsO h1
  · exact execGnssColdStart_keepsO h1
  · exact execPtpInstSet_keepsO h1
  · exact execPtpInstStart_keepsO h1
  · exact execPtpInstStop_keepsO h1
  · exact execPtpSaSet_keepsO h1
  · exact execPtpClockIdSet_keepsO h1
  · exact execPtpGrantCancel_keepsO h1
  · exact execNtpSet_keepsO h1
  · exact execKeyInstall_keepsO h1
  · exact execKeyErase_keepsO h1
  · exact execNtsCookieMake_keepsO h1
  · exact execCltSet_keepsO h1
  · exact execCltEntryAdd_keepsO h1
  · exact execCltEntryDel_keepsO h1
  · exact execCltEntryRead_keepsO h1
  · exact execCltDump_keepsO h1
  · exact execCltFlush_keepsO h1
  · exact execPortSet_keepsO h1
  · exact execPortLinkReset_keepsO h1
  · exact execSeize_keepsO h1
  · exact execYield_keepsO h1
  · exact execTwnResync_keepsO h1
  · exact execTwnSet_keepsO h1
  · exact execFabSet_keepsO h1
  · exact execPfSnapshot_keepsO h1
  · exact execPmcSet_keepsO h1
  · exact execLogRead_keepsO h1
  · exact execSessionChallenge_keepsO h1
  · exact execSessionOpen_keepsO h1
  · exact execSessionClose_keepsO h1
  · exact execRoleKeySet_keepsO h1
  · exact execPwrDomainSet_keepsO h1
  · exact execFieldReset_keepsO h1
  · exact execBistRun_keepsO h1
  · exact execFwUpdate_keepsO h1
  · exact execFuseWrite_keepsO h1
  · exact execTrimSet_keepsO h1
  · exact execLockSet_keepsO h1
  · exact execHifKick_keepsO h1
  · exact execRingEnable_keepsO h1
  · exact execRingDisable_keepsO h1
  · exact execPfRelease_keepsO h1
  · exact execFlush_keepsO h1
  · exact execPmcClear_keepsO h1
  · exact execW1cWrite_keepsO h1
  · exact execRcRead_keepsO h1
  · exact execLoRead_keepsO h1
  · exact execLinearLoRead_keepsO h1
  · exact execHiWrite_keepsO h1
  · exact execLoWrite_keepsO h1
  · exact execRegisterWrite_keepsO h1
  · exact execDefaultHit_keepsO h1
  · exact execDoorbellPoll_keepsO h1
  · exact execStatusBlockWrite_keepsO h1
  · exact execModTimeExpiry_keepsO h1
  · exact execRingStopped_keepsO h1
  · exact execHostReset_keepsO h1
  · exact execRecordQueueDelivery_keepsO h1
  · exact execHsTimeout_keepsO h1
  · exact execParity_keepsO h1
  · exact execDrain_keepsO h1
  · exact execSpeedLow_keepsO h1
  · exact execUnitFenced_keepsO h1
  · exact execRegionFenced_keepsO h1
  · exact execDieFault_keepsO h1
  · exact execUnitResetDone_keepsO h1
  · exact execUnitsAbsent_keepsO h1
  · exact execUnitsPresent_keepsO h1
  · exact execLapBoundary_keepsO h1
  · exact execLaneMeasurement_keepsO h1
  · exact execLos_keepsO h1
  · exact execQualTimeExpiry_keepsO h1
  · exact execDisqHoldExpiry_keepsO h1
  · exact execWtrExpiry_keepsO h1
  · exact execWarnClear_keepsO h1
  · exact execDisagreeEnd_keepsO h1
  · exact execShadowAnchor_keepsO h1
  · exact execLoopSettled_keepsO h1
  · exact execModelRefit_keepsO h1
  · exact execModelValid_keepsO h1
  · exact execWarmCleared_keepsO h1
  · exact execWarmTimeout_keepsO h1
  · exact execBuildoutRetired_keepsO h1
  · exact execStepDone_keepsO h1
  · exact execCmpFired_keepsO h1
  · exact execLeapCommitted_keepsO h1
  · exact execLeapApplied_keepsO h1
  · exact execSmearEnd_keepsO h1
  · exact execMarkerLaunch_keepsO h1
  · exact execMarkerArrival_keepsO h1
  · exact execMarkerMissed_keepsO h1
  · exact execNoGoodMarker_keepsO h1
  · exact execPortCounterStep_keepsO h1
  · exact execStartEdge_keepsO h1
  · exact execStopEdge_keepsO h1
  · exact execWindowExpiry_keepsO h1
  · exact execCalSlotStart_keepsO h1
  · exact execCalHandover_keepsO h1
  · exact execCalReconnect_keepsO h1
  · exact execCalReturn_keepsO h1
  · exact execCalStale_keepsO h1
  · exact execTakeBack_keepsO h1
  · exact execFollowerTick_keepsO h1
  · exact execLockWindow_keepsO h1
  · exact execCycleSlip_keepsO h1
  · exact execBandCalDone_keepsO h1
  · exact execAcquireTimeout_keepsO h1
  · exact execRelockDelayExpiry_keepsO h1
  · exact execRelockRelease_keepsO h1
  · exact execSynHoldEnd_keepsO h1
  · exact execClockWalkStep_keepsO h1
  · exact execPulseEdge_keepsO h1
  · exact execTodMessage_keepsO h1
  · exact execSampleCheck_keepsO h1
  · exact execChannelAssign_keepsO h1
  · exact execAcqDwell_keepsO h1
  · exact execPullInLocked_keepsO h1
  · exact execPullinTimeExpiry_keepsO h1
  · exact execCarrierLockLost_keepsO h1
  · exact execCodeLockLost_keepsO h1
  · exact execReacqTimeExpiry_keepsO h1
  · exact execEpoch_keepsO h1
  · exact execSolution_keepsO h1
  · exact execSolutionTimeout_keepsO h1
  · exact execNavDecode_keepsO h1
  · exact execSurveyDone_keepsO h1
  · exact execSyncTx_keepsO h1
  · exact execAnnounceTx_keepsO h1
  · exact execPdelayReqTx_keepsO h1
  · exact execDelayReqTx_keepsO h1
  · exact execDelayReq_keepsO h1
  · exact execPdelayReq_keepsO h1
  · exact execPdelayRespRx_keepsO h1
  · exact execRequestUnicastTransmission_keepsO h1
  · exact execCancelUnicastTransmission_keepsO h1
  · exact execGrantExpiry_keepsO h1
  · exact execGrantRx_keepsO h1
  · exact execGrantRenewal_keepsO h1
  · exact execAnnounceRx_keepsO h1
  · exact execSyncRx_keepsO h1
  · exact execDelayRespRx_keepsO h1
  · exact execAnnounceTimeout_keepsO h1
  · exact execLosTimeExpiry_keepsO h1
  · exact execSaSwitch_keepsO h1
  · exact execNtpRequest_keepsO h1
  · exact execNtsRequest_keepsO h1
  · exact execNtsLaunch_keepsO h1
  · exact execMkSwitch_keepsO h1
  · exact execAgeSweep_keepsO h1
  · exact execTableReady_keepsO h1
  · exact execLinkAlign_keepsO h1
  · exact execLinkUp_keepsO h1
  · exact execAlignTimeout_keepsO h1
  · exact execLinkDown_keepsO h1
  · exact execFrameReceived_keepsO h1
  · exact execPauseFrame_keepsO h1
  · exact execPauseExpiry_keepsO h1
  · exact execPauseWd_keepsO h1
  · exact execWdIgnoreEnd_keepsO h1
  · exact execHostFrameFetch_keepsO h1
  · exact execFrameTransmit_keepsO h1
  · exact execEsmcPdu_keepsO h1
  · exact execEsmcTimeout_keepsO h1
  · exact execEsmcInfoTx_keepsO h1
  · exact execEsmcEventTx_keepsO h1
  · exact execPairTrained_keepsO h1
  · exact execTrainingTimeout_keepsO h1
  · exact execPairDown_keepsO h1
  · exact execRelayMarkerRx_keepsO h1
  · exact execBatonTx_keepsO h1
  · exact execBatonRx_keepsO h1
  · exact execBatonDue_keepsO h1
  · exact execJournalRecord_keepsO h1
  · exact execJournalAckTimeout_keepsO h1
  · exact execFenceChange_keepsO h1
  · exact execFenceFaultClear_keepsO h1
  · exact execSenseWindow_keepsO h1
  · exact execPromotion_keepsO h1
  · exact execSeizeFrame_keepsO h1
  · exact execSeizeHoldExpiry_keepsO h1
  · exact execHandover_keepsO h1
  · exact execResyncReq_keepsO h1
  · exact execResyncDone_keepsO h1
  · exact execListenExpiry_keepsO h1
  · exact execSideBWaitExpiry_keepsO h1
  · exact execPfTrig_keepsO h1
  · exact execPfLatch_keepsO h1
  · exact execPfTaken_keepsO h1
  · exact execDump_keepsO h1
  · exact execSessionIdleTimeout_keepsO h1
  · exact execChallengeExpiry_keepsO h1
  · exact execLockoutEnd_keepsO h1
  · exact execDrbgReseed_keepsO h1
  · exact execHealthFail_keepsO h1
  · exact execDrbgWithheld_keepsO h1
  · exact execWithholdingFault_keepsO h1
  · exact execPackageReset_keepsO h1
  · exact execKeeperCheck_keepsO h1
  · exact execTclkPllLock_keepsO h1
  · exact execOscMissing_keepsO h1
  · exact execFwBoot_keepsO h1
  · exact execTimeRecovery_keepsO h1
  · exact execTrackUp_keepsO h1
  · exact execFieldUp_keepsO h1
  · exact execDramTrain_keepsO h1
  · exact execDramRetrain_keepsO h1
  · exact execFieldRestored_keepsO h1
  · exact execKeeperWrite_keepsO h1
  · exact execVbatLow_keepsO h1
  · exact execBrownOut_keepsO h1
  · exact execD3hot_keepsO h1
  · exact execVectorUnmask_keepsO h1
  · exact execHostBack_keepsO h1
  · exact execNoLatch_keepsO h1
  · exact execRelockRetry_keepsO h1
  · exact execCarrierLockSet_keepsO h1
  · exact execBitSync_keepsO h1
  · exact execOnCell_keepsO h1

end Sys2Proof.Machine
end

