-- ==== Sys2Proof/Laws/Reads.lean ====
section
/-! SUPPORT. Reading through logging, fetching and completing: each field of the state and each reader of one, after an operation that leaves
it alone; simp rewrites with them. -/

namespace Sys2Proof.Machine

variable {s t : State}

theorem Quiet.timers (h : Quiet s t) : t.timers = s.timers := by
  show t.still.timers = s.still.timers
  rw [h.rest]

theorem Quiet.tc (h : Quiet s t) : t.tc = s.tc := by
  show t.still.tc = s.still.tc
  rw [h.rest]

theorem Quiet.units (h : Quiet s t) : t.units = s.units := by
  show t.still.units = s.still.units
  rw [h.rest]

theorem Quiet.hif (h : Quiet s t) : t.hif = s.hif := by
  show t.still.hif = s.still.hif
  rw [h.rest]

theorem Quiet.roles (h : Quiet s t) : t.roles = s.roles := by
  show t.still.roles = s.still.roles
  rw [h.rest]

theorem Quiet.keys (h : Quiet s t) : t.keys = s.keys := by
  show t.still.keys = s.still.keys
  rw [h.rest]

theorem Quiet.keeper (h : Quiet s t) : t.keeper = s.keeper := by
  show t.still.keeper = s.still.keeper
  rw [h.rest]

theorem Quiet.boot (h : Quiet s t) : t.boot = s.boot := by
  show t.still.boot = s.still.boot
  rw [h.rest]

theorem Quiet.shadow (h : Quiet s t) : t.shadow = s.shadow := by
  show t.still.shadow = s.still.shadow
  rw [h.rest]

theorem Quiet.shadowKeys (h : Quiet s t) : t.shadowKeys = s.shadowKeys := by
  show t.still.shadowKeys = s.still.shadowKeys
  rw [h.rest]

theorem Quiet.mem (h : Quiet s t) : t.mem = s.mem := by
  show t.still.mem = s.still.mem
  rw [h.rest]

theorem Quiet.out (h : Quiet s t) : t.out = s.out := by
  show t.still.out = s.still.out
  rw [h.rest]

theorem Quiet.free (h : Quiet s t) : t.free = s.free := by
  show t.still.free = s.still.free
  rw [h.rest]

theorem Quiet.twin (h : Quiet s t) : t.twin = s.twin := by
  show t.still.twin = s.still.twin
  rw [h.rest]

theorem Quiet.lanes (h : Quiet s t) : t.lanes = s.lanes := by
  show t.still.lanes = s.still.lanes
  rw [h.rest]

theorem Quiet.episodes (h : Quiet s t) : t.episodes = s.episodes := by
  show t.still.episodes = s.still.episodes
  rw [h.rest]

theorem Quiet.disc (h : Quiet s t) : t.disc = s.disc := by
  show t.still.disc = s.still.disc
  rw [h.rest]

theorem Quiet.tim (h : Quiet s t) : t.tim = s.tim := by
  show t.still.tim = s.still.tim
  rw [h.rest]

theorem Quiet.syn (h : Quiet s t) : t.syn = s.syn := by
  show t.still.syn = s.still.syn
  rw [h.rest]

theorem Quiet.outs (h : Quiet s t) : t.outs = s.outs := by
  show t.still.outs = s.still.outs
  rw [h.rest]

theorem Quiet.gnss (h : Quiet s t) : t.gnss = s.gnss := by
  show t.still.gnss = s.still.gnss
  rw [h.rest]

theorem Quiet.partnerKcv (h : Quiet s t) : t.partnerKcv = s.partnerKcv := by
  show t.still.partnerKcv = s.still.partnerKcv
  rw [h.rest]

theorem Quiet.clt (h : Quiet s t) : t.clt = s.clt := by
  show t.still.clt = s.still.clt
  rw [h.rest]

theorem Quiet.ports (h : Quiet s t) : t.ports = s.ports := by
  show t.still.ports = s.still.ports
  rw [h.rest]

theorem Quiet.insts (h : Quiet s t) : t.insts = s.insts := by
  show t.still.insts = s.still.insts
  rw [h.rest]

theorem Quiet.heldGrants (h : Quiet s t) : t.heldGrants = s.heldGrants := by
  show t.still.heldGrants = s.still.heldGrants
  rw [h.rest]

theorem Quiet.dumpq (h : Quiet s t) : t.dumpq = s.dumpq := by
  show t.still.dumpq = s.still.dumpq
  rw [h.rest]
theorem Quiet.parity (h : Quiet s t) : t.parity = s.parity := by
  show t.still.parity = s.still.parity
  rw [h.rest]

theorem Quiet.pending (h : Quiet s t) : t.pending = s.pending := by
  show t.still.pending = s.still.pending
  rw [h.rest]

theorem Apart.tc (h : Apart s t) : t.tc = s.tc := by
  show t.apart.tc = s.apart.tc
  rw [h.rest]

theorem Apart.units (h : Apart s t) : t.units = s.units := by
  show t.apart.units = s.apart.units
  rw [h.rest]

theorem Apart.keys (h : Apart s t) : t.keys = s.keys := by
  show t.apart.keys = s.apart.keys
  rw [h.rest]

theorem Apart.keeper (h : Apart s t) : t.keeper = s.keeper := by
  show t.apart.keeper = s.apart.keeper
  rw [h.rest]

theorem Apart.boot (h : Apart s t) : t.boot = s.boot := by
  show t.apart.boot = s.apart.boot
  rw [h.rest]

theorem Apart.shadow (h : Apart s t) : t.shadow = s.shadow := by
  show t.apart.shadow = s.apart.shadow
  rw [h.rest]

theorem Apart.shadowKeys (h : Apart s t) : t.shadowKeys = s.shadowKeys := by
  show t.apart.shadowKeys = s.apart.shadowKeys
  rw [h.rest]

theorem Apart.free (h : Apart s t) : t.free = s.free := by
  show t.apart.free = s.apart.free
  rw [h.rest]

theorem Apart.lanes (h : Apart s t) : t.lanes = s.lanes := by
  show t.apart.lanes = s.apart.lanes
  rw [h.rest]

theorem Apart.episodes (h : Apart s t) : t.episodes = s.episodes := by
  show t.apart.episodes = s.apart.episodes
  rw [h.rest]

theorem Apart.disc (h : Apart s t) : t.disc = s.disc := by
  show t.apart.disc = s.apart.disc
  rw [h.rest]

theorem Apart.tim (h : Apart s t) : t.tim = s.tim := by
  show t.apart.tim = s.apart.tim
  rw [h.rest]

theorem Apart.syn (h : Apart s t) : t.syn = s.syn := by
  show t.apart.syn = s.apart.syn
  rw [h.rest]

theorem Apart.outs (h : Apart s t) : t.outs = s.outs := by
  show t.apart.outs = s.apart.outs
  rw [h.rest]

theorem Apart.gnss (h : Apart s t) : t.gnss = s.gnss := by
  show t.apart.gnss = s.apart.gnss
  rw [h.rest]

theorem Apart.partnerKcv (h : Apart s t) : t.partnerKcv = s.partnerKcv := by
  show t.apart.partnerKcv = s.apart.partnerKcv
  rw [h.rest]

theorem Apart.clt (h : Apart s t) : t.clt = s.clt := by
  show t.apart.clt = s.apart.clt
  rw [h.rest]

theorem Apart.ports (h : Apart s t) : t.ports = s.ports := by
  show t.apart.ports = s.apart.ports
  rw [h.rest]

theorem Apart.insts (h : Apart s t) : t.insts = s.insts := by
  show t.apart.insts = s.apart.insts
  rw [h.rest]

theorem Apart.heldGrants (h : Apart s t) : t.heldGrants = s.heldGrants := by
  show t.apart.heldGrants = s.apart.heldGrants
  rw [h.rest]

theorem Apart.dumpq (h : Apart s t) : t.dumpq = s.dumpq := by
  show t.apart.dumpq = s.apart.dumpq
  rw [h.rest]
theorem Apart.parity (h : Apart s t) : t.parity = s.parity := by
  show t.apart.parity = s.apart.parity
  rw [h.rest]

theorem Apart.pending (h : Apart s t) : t.pending = s.pending := by
  show t.apart.pending = s.apart.pending
  rw [h.rest]

variable (s)

/-! ### logOnly -/

theorem get_logOnly (e : LogEntry) {f : Fld} (h : f.key ∉ bookkeeping) : (s.logOnly e).get f = s.get f := (logOnly_quiet s e).regs f h
theorem var_logOnly (e : LogEntry) {v : Var} (h : v ∉ bookVars) : (s.logOnly e).var v = s.var v := (logOnly_quiet s e).vars v h
@[simp] theorem logOnly_timers (e : LogEntry) : (s.logOnly e).timers = s.timers := (logOnly_quiet s e).timers
@[simp] theorem logOnly_tc (e : LogEntry) : (s.logOnly e).tc = s.tc := (logOnly_quiet s e).tc
@[simp] theorem logOnly_units (e : LogEntry) : (s.logOnly e).units = s.units := (logOnly_quiet s e).units
@[simp] theorem logOnly_hif (e : LogEntry) : (s.logOnly e).hif = s.hif := (logOnly_quiet s e).hif
@[simp] theorem logOnly_roles (e : LogEntry) : (s.logOnly e).roles = s.roles := (logOnly_quiet s e).roles
@[simp] theorem logOnly_keys (e : LogEntry) : (s.logOnly e).keys = s.keys := (logOnly_quiet s e).keys
@[simp] theorem logOnly_keeper (e : LogEntry) : (s.logOnly e).keeper = s.keeper := (logOnly_quiet s e).keeper
@[simp] theorem logOnly_boot (e : LogEntry) : (s.logOnly e).boot = s.boot := (logOnly_quiet s e).boot
@[simp] theorem logOnly_shadow (e : LogEntry) : (s.logOnly e).shadow = s.shadow := (logOnly_quiet s e).shadow
@[simp] theorem logOnly_shadowKeys (e : LogEntry) : (s.logOnly e).shadowKeys = s.shadowKeys := (logOnly_quiet s e).shadowKeys
@[simp] theorem logOnly_mem (e : LogEntry) : (s.logOnly e).mem = s.mem := (logOnly_quiet s e).mem
@[simp] theorem logOnly_out (e : LogEntry) : (s.logOnly e).out = s.out := (logOnly_quiet s e).out
@[simp] theorem logOnly_free (e : LogEntry) : (s.logOnly e).free = s.free := (logOnly_quiet s e).free
@[simp] theorem logOnly_twin (e : LogEntry) : (s.logOnly e).twin = s.twin := (logOnly_quiet s e).twin
@[simp] theorem logOnly_lanes (e : LogEntry) : (s.logOnly e).lanes = s.lanes := (logOnly_quiet s e).lanes
@[simp] theorem logOnly_episodes (e : LogEntry) : (s.logOnly e).episodes = s.episodes := (logOnly_quiet s e).episodes
@[simp] theorem logOnly_disc (e : LogEntry) : (s.logOnly e).disc = s.disc := (logOnly_quiet s e).disc
@[simp] theorem logOnly_tim (e : LogEntry) : (s.logOnly e).tim = s.tim := (logOnly_quiet s e).tim
@[simp] theorem logOnly_syn (e : LogEntry) : (s.logOnly e).syn = s.syn := (logOnly_quiet s e).syn
@[simp] theorem logOnly_outs (e : LogEntry) : (s.logOnly e).outs = s.outs := (logOnly_quiet s e).outs
@[simp] theorem logOnly_gnss (e : LogEntry) : (s.logOnly e).gnss = s.gnss := (logOnly_quiet s e).gnss
@[simp] theorem logOnly_partnerKcv (e : LogEntry) : (s.logOnly e).partnerKcv = s.partnerKcv := (logOnly_quiet s e).partnerKcv
@[simp] theorem logOnly_clt (e : LogEntry) : (s.logOnly e).clt = s.clt := (logOnly_quiet s e).clt
@[simp] theorem logOnly_ports (e : LogEntry) : (s.logOnly e).ports = s.ports := (logOnly_quiet s e).ports
@[simp] theorem logOnly_insts (e : LogEntry) : (s.logOnly e).insts = s.insts := (logOnly_quiet s e).insts
@[simp] theorem logOnly_heldGrants (e : LogEntry) : (s.logOnly e).heldGrants = s.heldGrants := (logOnly_quiet s e).heldGrants
@[simp] theorem logOnly_dumpq (e : LogEntry) : (s.logOnly e).dumpq = s.dumpq := (logOnly_quiet s e).dumpq
@[simp] theorem logOnly_parity (e : LogEntry) : (s.logOnly e).parity = s.parity := (logOnly_quiet s e).parity
@[simp] theorem logOnly_pending (e : LogEntry) : (s.logOnly e).pending = s.pending := (logOnly_quiet s e).pending
@[simp] theorem logOnly_runNs (e : LogEntry) : (s.logOnly e).runNs = s.runNs := by simp only [State.runNs, logOnly_tc]
@[simp] theorem logOnly_linear (e : LogEntry) : (s.logOnly e).linear = s.linear := by simp only [State.linear, State.ns, logOnly_tc]
@[simp] theorem logOnly_at16 (e : LogEntry) : (s.logOnly e).at16 = s.at16 := by simp only [State.at16, logOnly_tc]
@[simp] theorem logOnly_unit (e : LogEntry) (z : Nat) : (s.logOnly e).unit z = s.unit z := by simp only [State.unit, logOnly_units]
@[simp] theorem logOnly_lane (e : LogEntry) (z : Nat) : (s.logOnly e).lane z = s.lane z := by simp only [State.lane, logOnly_lanes]
@[simp] theorem logOnly_heat (e : LogEntry) (z : Nat) : (s.logOnly e).heat z = s.heat z := by simp only [State.heat, logOnly_tim]
@[simp] theorem logOnly_grp (e : LogEntry) (z : Nat) : (s.logOnly e).grp z = s.grp z := by simp only [State.grp, logOnly_syn]
@[simp] theorem logOnly_outp (e : LogEntry) (z : Nat) : (s.logOnly e).outp z = s.outp z := by simp only [State.outp, logOnly_outs]
@[simp] theorem logOnly_chan (e : LogEntry) (z : Nat) : (s.logOnly e).chan z = s.chan z := by simp only [State.chan, logOnly_gnss]
@[simp] theorem logOnly_port (e : LogEntry) (z : Nat) : (s.logOnly e).port z = s.port z := by simp only [State.port, logOnly_ports]
@[simp] theorem logOnly_inst (e : LogEntry) (z : Nat) : (s.logOnly e).inst z = s.inst z := by simp only [State.inst, logOnly_insts]

/-! ### emit -/

theorem get_emit (e : LogEntry) {f : Fld} (h : f.key ∉ bookkeeping) : (s.emit e).get f = s.get f := (emit_quiet s e).regs f h
theorem var_emit (e : LogEntry) {v : Var} (h : v ∉ bookVars) : (s.emit e).var v = s.var v := (emit_quiet s e).vars v h
@[simp] theorem emit_timers (e : LogEntry) : (s.emit e).timers = s.timers := (emit_quiet s e).timers
@[simp] theorem emit_tc (e : LogEntry) : (s.emit e).tc = s.tc := (emit_quiet s e).tc
@[simp] theorem emit_units (e : LogEntry) : (s.emit e).units = s.units := (emit_quiet s e).units
@[simp] theorem emit_hif (e : LogEntry) : (s.emit e).hif = s.hif := (emit_quiet s e).hif
@[simp] theorem emit_roles (e : LogEntry) : (s.emit e).roles = s.roles := (emit_quiet s e).roles
@[simp] theorem emit_keys (e : LogEntry) : (s.emit e).keys = s.keys := (emit_quiet s e).keys
@[simp] theorem emit_keeper (e : LogEntry) : (s.emit e).keeper = s.keeper := (emit_quiet s e).keeper
@[simp] theorem emit_boot (e : LogEntry) : (s.emit e).boot = s.boot := (emit_quiet s e).boot
@[simp] theorem emit_shadow (e : LogEntry) : (s.emit e).shadow = s.shadow := (emit_quiet s e).shadow
@[simp] theorem emit_shadowKeys (e : LogEntry) : (s.emit e).shadowKeys = s.shadowKeys := (emit_quiet s e).shadowKeys
@[simp] theorem emit_mem (e : LogEntry) : (s.emit e).mem = s.mem := (emit_quiet s e).mem
@[simp] theorem emit_out (e : LogEntry) : (s.emit e).out = s.out := (emit_quiet s e).out
@[simp] theorem emit_free (e : LogEntry) : (s.emit e).free = s.free := (emit_quiet s e).free
@[simp] theorem emit_twin (e : LogEntry) : (s.emit e).twin = s.twin := (emit_quiet s e).twin
@[simp] theorem emit_lanes (e : LogEntry) : (s.emit e).lanes = s.lanes := (emit_quiet s e).lanes
@[simp] theorem emit_episodes (e : LogEntry) : (s.emit e).episodes = s.episodes := (emit_quiet s e).episodes
@[simp] theorem emit_disc (e : LogEntry) : (s.emit e).disc = s.disc := (emit_quiet s e).disc
@[simp] theorem emit_tim (e : LogEntry) : (s.emit e).tim = s.tim := (emit_quiet s e).tim
@[simp] theorem emit_syn (e : LogEntry) : (s.emit e).syn = s.syn := (emit_quiet s e).syn
@[simp] theorem emit_outs (e : LogEntry) : (s.emit e).outs = s.outs := (emit_quiet s e).outs
@[simp] theorem emit_gnss (e : LogEntry) : (s.emit e).gnss = s.gnss := (emit_quiet s e).gnss
@[simp] theorem emit_partnerKcv (e : LogEntry) : (s.emit e).partnerKcv = s.partnerKcv := (emit_quiet s e).partnerKcv
@[simp] theorem emit_clt (e : LogEntry) : (s.emit e).clt = s.clt := (emit_quiet s e).clt
@[simp] theorem emit_ports (e : LogEntry) : (s.emit e).ports = s.ports := (emit_quiet s e).ports
@[simp] theorem emit_insts (e : LogEntry) : (s.emit e).insts = s.insts := (emit_quiet s e).insts
@[simp] theorem emit_heldGrants (e : LogEntry) : (s.emit e).heldGrants = s.heldGrants := (emit_quiet s e).heldGrants
@[simp] theorem emit_dumpq (e : LogEntry) : (s.emit e).dumpq = s.dumpq := (emit_quiet s e).dumpq
@[simp] theorem emit_parity (e : LogEntry) : (s.emit e).parity = s.parity := (emit_quiet s e).parity
@[simp] theorem emit_pending (e : LogEntry) : (s.emit e).pending = s.pending := (emit_quiet s e).pending
@[simp] theorem emit_runNs (e : LogEntry) : (s.emit e).runNs = s.runNs := by simp only [State.runNs, emit_tc]
@[simp] theorem emit_linear (e : LogEntry) : (s.emit e).linear = s.linear := by simp only [State.linear, State.ns, emit_tc]
@[simp] theorem emit_at16 (e : LogEntry) : (s.emit e).at16 = s.at16 := by simp only [State.at16, emit_tc]
@[simp] theorem emit_unit (e : LogEntry) (z : Nat) : (s.emit e).unit z = s.unit z := by simp only [State.unit, emit_units]
@[simp] theorem emit_lane (e : LogEntry) (z : Nat) : (s.emit e).lane z = s.lane z := by simp only [State.lane, emit_lanes]
@[simp] theorem emit_heat (e : LogEntry) (z : Nat) : (s.emit e).heat z = s.heat z := by simp only [State.heat, emit_tim]
@[simp] theorem emit_grp (e : LogEntry) (z : Nat) : (s.emit e).grp z = s.grp z := by simp only [State.grp, emit_syn]
@[simp] theorem emit_outp (e : LogEntry) (z : Nat) : (s.emit e).outp z = s.outp z := by simp only [State.outp, emit_outs]
@[simp] theorem emit_chan (e : LogEntry) (z : Nat) : (s.emit e).chan z = s.chan z := by simp only [State.chan, emit_gnss]
@[simp] theorem emit_port (e : LogEntry) (z : Nat) : (s.emit e).port z = s.port z := by simp only [State.port, emit_ports]
@[simp] theorem emit_inst (e : LogEntry) (z : Nat) : (s.emit e).inst z = s.inst z := by simp only [State.inst, emit_insts]

/-! ### change -/

theorem get_change (role hid op off old new : Nat) {f : Fld} (h : f.key ∉ bookkeeping) : (s.change role hid op off old new).get f = s.get f := (change_quiet s role hid op off old new).regs f h
theorem var_change (role hid op off old new : Nat) {v : Var} (h : v ∉ bookVars) : (s.change role hid op off old new).var v = s.var v := (change_quiet s role hid op off old new).vars v h
@[simp] theorem change_timers (role hid op off old new : Nat) : (s.change role hid op off old new).timers = s.timers := (change_quiet s role hid op off old new).timers
@[simp] theorem change_tc (role hid op off old new : Nat) : (s.change role hid op off old new).tc = s.tc := (change_quiet s role hid op off old new).tc
@[simp] theorem change_units (role hid op off old new : Nat) : (s.change role hid op off old new).units = s.units := (change_quiet s role hid op off old new).units
@[simp] theorem change_hif (role hid op off old new : Nat) : (s.change role hid op off old new).hif = s.hif := (change_quiet s role hid op off old new).hif
@[simp] theorem change_roles (role hid op off old new : Nat) : (s.change role hid op off old new).roles = s.roles := (change_quiet s role hid op off old new).roles
@[simp] theorem change_keys (role hid op off old new : Nat) : (s.change role hid op off old new).keys = s.keys := (change_quiet s role hid op off old new).keys
@[simp] theorem change_keeper (role hid op off old new : Nat) : (s.change role hid op off old new).keeper = s.keeper := (change_quiet s role hid op off old new).keeper
@[simp] theorem change_boot (role hid op off old new : Nat) : (s.change role hid op off old new).boot = s.boot := (change_quiet s role hid op off old new).boot
@[simp] theorem change_shadow (role hid op off old new : Nat) : (s.change role hid op off old new).shadow = s.shadow := (change_quiet s role hid op off old new).shadow
@[simp] theorem change_shadowKeys (role hid op off old new : Nat) : (s.change role hid op off old new).shadowKeys = s.shadowKeys := (change_quiet s role hid op off old new).shadowKeys
@[simp] theorem change_mem (role hid op off old new : Nat) : (s.change role hid op off old new).mem = s.mem := (change_quiet s role hid op off old new).mem
@[simp] theorem change_out (role hid op off old new : Nat) : (s.change role hid op off old new).out = s.out := (change_quiet s role hid op off old new).out
@[simp] theorem change_free (role hid op off old new : Nat) : (s.change role hid op off old new).free = s.free := (change_quiet s role hid op off old new).free
@[simp] theorem change_twin (role hid op off old new : Nat) : (s.change role hid op off old new).twin = s.twin := (change_quiet s role hid op off old new).twin
@[simp] theorem change_lanes (role hid op off old new : Nat) : (s.change role hid op off old new).lanes = s.lanes := (change_quiet s role hid op off old new).lanes
@[simp] theorem change_episodes (role hid op off old new : Nat) : (s.change role hid op off old new).episodes = s.episodes := (change_quiet s role hid op off old new).episodes
@[simp] theorem change_disc (role hid op off old new : Nat) : (s.change role hid op off old new).disc = s.disc := (change_quiet s role hid op off old new).disc
@[simp] theorem change_tim (role hid op off old new : Nat) : (s.change role hid op off old new).tim = s.tim := (change_quiet s role hid op off old new).tim
@[simp] theorem change_syn (role hid op off old new : Nat) : (s.change role hid op off old new).syn = s.syn := (change_quiet s role hid op off old new).syn
@[simp] theorem change_outs (role hid op off old new : Nat) : (s.change role hid op off old new).outs = s.outs := (change_quiet s role hid op off old new).outs
@[simp] theorem change_gnss (role hid op off old new : Nat) : (s.change role hid op off old new).gnss = s.gnss := (change_quiet s role hid op off old new).gnss
@[simp] theorem change_partnerKcv (role hid op off old new : Nat) : (s.change role hid op off old new).partnerKcv = s.partnerKcv := (change_quiet s role hid op off old new).partnerKcv
@[simp] theorem change_clt (role hid op off old new : Nat) : (s.change role hid op off old new).clt = s.clt := (change_quiet s role hid op off old new).clt
@[simp] theorem change_ports (role hid op off old new : Nat) : (s.change role hid op off old new).ports = s.ports := (change_quiet s role hid op off old new).ports
@[simp] theorem change_insts (role hid op off old new : Nat) : (s.change role hid op off old new).insts = s.insts := (change_quiet s role hid op off old new).insts
@[simp] theorem change_heldGrants (role hid op off old new : Nat) : (s.change role hid op off old new).heldGrants = s.heldGrants := (change_quiet s role hid op off old new).heldGrants
@[simp] theorem change_dumpq (role hid op off old new : Nat) : (s.change role hid op off old new).dumpq = s.dumpq := (change_quiet s role hid op off old new).dumpq
@[simp] theorem change_parity (role hid op off old new : Nat) : (s.change role hid op off old new).parity = s.parity := (change_quiet s role hid op off old new).parity
@[simp] theorem change_pending (role hid op off old new : Nat) : (s.change role hid op off old new).pending = s.pending := (change_quiet s role hid op off old new).pending
@[simp] theorem change_runNs (role hid op off old new : Nat) : (s.change role hid op off old new).runNs = s.runNs := by simp only [State.runNs, change_tc]
@[simp] theorem change_linear (role hid op off old new : Nat) : (s.change role hid op off old new).linear = s.linear := by simp only [State.linear, State.ns, change_tc]
@[simp] theorem change_at16 (role hid op off old new : Nat) : (s.change role hid op off old new).at16 = s.at16 := by simp only [State.at16, change_tc]
@[simp] theorem change_unit (role hid op off old new : Nat) (z : Nat) : (s.change role hid op off old new).unit z = s.unit z := by simp only [State.unit, change_units]
@[simp] theorem change_lane (role hid op off old new : Nat) (z : Nat) : (s.change role hid op off old new).lane z = s.lane z := by simp only [State.lane, change_lanes]
@[simp] theorem change_heat (role hid op off old new : Nat) (z : Nat) : (s.change role hid op off old new).heat z = s.heat z := by simp only [State.heat, change_tim]
@[simp] theorem change_grp (role hid op off old new : Nat) (z : Nat) : (s.change role hid op off old new).grp z = s.grp z := by simp only [State.grp, change_syn]
@[simp] theorem change_outp (role hid op off old new : Nat) (z : Nat) : (s.change role hid op off old new).outp z = s.outp z := by simp only [State.outp, change_outs]
@[simp] theorem change_chan (role hid op off old new : Nat) (z : Nat) : (s.change role hid op off old new).chan z = s.chan z := by simp only [State.chan, change_gnss]
@[simp] theorem change_port (role hid op off old new : Nat) (z : Nat) : (s.change role hid op off old new).port z = s.port z := by simp only [State.port, change_ports]
@[simp] theorem change_inst (role hid op off old new : Nat) (z : Nat) : (s.change role hid op off old new).inst z = s.inst z := by simp only [State.inst, change_insts]

/-! ### countCmd -/

theorem get_countCmd (op : Nat) (hid : Option Nat) (role : Nat) {f : Fld} (h : f.key ∉ bookkeeping) : (s.countCmd op hid role).get f = s.get f := (countCmd_quiet s op hid role).regs f h
theorem var_countCmd (op : Nat) (hid : Option Nat) (role : Nat) {v : Var} (h : v ∉ bookVars) : (s.countCmd op hid role).var v = s.var v := (countCmd_quiet s op hid role).vars v h
@[simp] theorem countCmd_timers (op : Nat) (hid : Option Nat) (role : Nat) : (s.countCmd op hid role).timers = s.timers := (countCmd_quiet s op hid role).timers
@[simp] theorem countCmd_tc (op : Nat) (hid : Option Nat) (role : Nat) : (s.countCmd op hid role).tc = s.tc := (countCmd_quiet s op hid role).tc
@[simp] theorem countCmd_units (op : Nat) (hid : Option Nat) (role : Nat) : (s.countCmd op hid role).units = s.units := (countCmd_quiet s op hid role).units
@[simp] theorem countCmd_hif (op : Nat) (hid : Option Nat) (role : Nat) : (s.countCmd op hid role).hif = s.hif := (countCmd_quiet s op hid role).hif
@[simp] theorem countCmd_roles (op : Nat) (hid : Option Nat) (role : Nat) : (s.countCmd op hid role).roles = s.roles := (countCmd_quiet s op hid role).roles
@[simp] theorem countCmd_keys (op : Nat) (hid : Option Nat) (role : Nat) : (s.countCmd op hid role).keys = s.keys := (countCmd_quiet s op hid role).keys
@[simp] theorem countCmd_keeper (op : Nat) (hid : Option Nat) (role : Nat) : (s.countCmd op hid role).keeper = s.keeper := (countCmd_quiet s op hid role).keeper
@[simp] theorem countCmd_boot (op : Nat) (hid : Option Nat) (role : Nat) : (s.countCmd op hid role).boot = s.boot := (countCmd_quiet s op hid role).boot
@[simp] theorem countCmd_shadow (op : Nat) (hid : Option Nat) (role : Nat) : (s.countCmd op hid role).shadow = s.shadow := (countCmd_quiet s op hid role).shadow
@[simp] theorem countCmd_shadowKeys (op : Nat) (hid : Option Nat) (role : Nat) : (s.countCmd op hid role).shadowKeys = s.shadowKeys := (countCmd_quiet s op hid role).shadowKeys
@[simp] theorem countCmd_mem (op : Nat) (hid : Option Nat) (role : Nat) : (s.countCmd op hid role).mem = s.mem := (countCmd_quiet s op hid role).mem
@[simp] theorem countCmd_out (op : Nat) (hid : Option Nat) (role : Nat) : (s.countCmd op hid role).out = s.out := (countCmd_quiet s op hid role).out
@[simp] theorem countCmd_free (op : Nat) (hid : Option Nat) (role : Nat) : (s.countCmd op hid role).free = s.free := (countCmd_quiet s op hid role).free
@[simp] theorem countCmd_twin (op : Nat) (hid : Option Nat) (role : Nat) : (s.countCmd op hid role).twin = s.twin := (countCmd_quiet s op hid role).twin
@[simp] theorem countCmd_lanes (op : Nat) (hid : Option Nat) (role : Nat) : (s.countCmd op hid role).lanes = s.lanes := (countCmd_quiet s op hid role).lanes
@[simp] theorem countCmd_episodes (op : Nat) (hid : Option Nat) (role : Nat) : (s.countCmd op hid role).episodes = s.episodes := (countCmd_quiet s op hid role).episodes
@[simp] theorem countCmd_disc (op : Nat) (hid : Option Nat) (role : Nat) : (s.countCmd op hid role).disc = s.disc := (countCmd_quiet s op hid role).disc
@[simp] theorem countCmd_tim (op : Nat) (hid : Option Nat) (role : Nat) : (s.countCmd op hid role).tim = s.tim := (countCmd_quiet s op hid role).tim
@[simp] theorem countCmd_syn (op : Nat) (hid : Option Nat) (role : Nat) : (s.countCmd op hid role).syn = s.syn := (countCmd_quiet s op hid role).syn
@[simp] theorem countCmd_outs (op : Nat) (hid : Option Nat) (role : Nat) : (s.countCmd op hid role).outs = s.outs := (countCmd_quiet s op hid role).outs
@[simp] theorem countCmd_gnss (op : Nat) (hid : Option Nat) (role : Nat) : (s.countCmd op hid role).gnss = s.gnss := (countCmd_quiet s op hid role).gnss
@[simp] theorem countCmd_partnerKcv (op : Nat) (hid : Option Nat) (role : Nat) : (s.countCmd op hid role).partnerKcv = s.partnerKcv := (countCmd_quiet s op hid role).partnerKcv
@[simp] theorem countCmd_clt (op : Nat) (hid : Option Nat) (role : Nat) : (s.countCmd op hid role).clt = s.clt := (countCmd_quiet s op hid role).clt
@[simp] theorem countCmd_ports (op : Nat) (hid : Option Nat) (role : Nat) : (s.countCmd op hid role).ports = s.ports := (countCmd_quiet s op hid role).ports
@[simp] theorem countCmd_insts (op : Nat) (hid : Option Nat) (role : Nat) : (s.countCmd op hid role).insts = s.insts := (countCmd_quiet s op hid role).insts
@[simp] theorem countCmd_heldGrants (op : Nat) (hid : Option Nat) (role : Nat) : (s.countCmd op hid role).heldGrants = s.heldGrants := (countCmd_quiet s op hid role).heldGrants
@[simp] theorem countCmd_dumpq (op : Nat) (hid : Option Nat) (role : Nat) : (s.countCmd op hid role).dumpq = s.dumpq := (countCmd_quiet s op hid role).dumpq
@[simp] theorem countCmd_parity (op : Nat) (hid : Option Nat) (role : Nat) : (s.countCmd op hid role).parity = s.parity := (countCmd_quiet s op hid role).parity
@[simp] theorem countCmd_pending (op : Nat) (hid : Option Nat) (role : Nat) : (s.countCmd op hid role).pending = s.pending := (countCmd_quiet s op hid role).pending
@[simp] theorem countCmd_runNs (op : Nat) (hid : Option Nat) (role : Nat) : (s.countCmd op hid role).runNs = s.runNs := by simp only [State.runNs, countCmd_tc]
@[simp] theorem countCmd_linear (op : Nat) (hid : Option Nat) (role : Nat) : (s.countCmd op hid role).linear = s.linear := by simp only [State.linear, State.ns, countCmd_tc]
@[simp] theorem countCmd_at16 (op : Nat) (hid : Option Nat) (role : Nat) : (s.countCmd op hid role).at16 = s.at16 := by simp only [State.at16, countCmd_tc]
@[simp] theorem countCmd_unit (op : Nat) (hid : Option Nat) (role : Nat) (z : Nat) : (s.countCmd op hid role).unit z = s.unit z := by simp only [State.unit, countCmd_units]
@[simp] theorem countCmd_lane (op : Nat) (hid : Option Nat) (role : Nat) (z : Nat) : (s.countCmd op hid role).lane z = s.lane z := by simp only [State.lane, countCmd_lanes]
@[simp] theorem countCmd_heat (op : Nat) (hid : Option Nat) (role : Nat) (z : Nat) : (s.countCmd op hid role).heat z = s.heat z := by simp only [State.heat, countCmd_tim]
@[simp] theorem countCmd_grp (op : Nat) (hid : Option Nat) (role : Nat) (z : Nat) : (s.countCmd op hid role).grp z = s.grp z := by simp only [State.grp, countCmd_syn]
@[simp] theorem countCmd_outp (op : Nat) (hid : Option Nat) (role : Nat) (z : Nat) : (s.countCmd op hid role).outp z = s.outp z := by simp only [State.outp, countCmd_outs]
@[simp] theorem countCmd_chan (op : Nat) (hid : Option Nat) (role : Nat) (z : Nat) : (s.countCmd op hid role).chan z = s.chan z := by simp only [State.chan, countCmd_gnss]
@[simp] theorem countCmd_port (op : Nat) (hid : Option Nat) (role : Nat) (z : Nat) : (s.countCmd op hid role).port z = s.port z := by simp only [State.port, countCmd_ports]
@[simp] theorem countCmd_inst (op : Nat) (hid : Option Nat) (role : Nat) (z : Nat) : (s.countCmd op hid role).inst z = s.inst z := by simp only [State.inst, countCmd_insts]

/-! ### complete -/

theorem get_complete (c : Ctx) (st d : Nat) (b : Bool) {f : Fld} (h : f.key ∉ bookkeeping) : (s.complete c st d b).get f = s.get f := (complete_apart s c st d b).regs f h
theorem var_complete (c : Ctx) (st d : Nat) (b : Bool) {v : Var} (h : v ∉ bookVars) : (s.complete c st d b).var v = s.var v := (complete_apart s c st d b).vars v h
@[simp] theorem complete_tc (c : Ctx) (st d : Nat) (b : Bool) : (s.complete c st d b).tc = s.tc := (complete_apart s c st d b).tc
@[simp] theorem complete_units (c : Ctx) (st d : Nat) (b : Bool) : (s.complete c st d b).units = s.units := (complete_apart s c st d b).units
@[simp] theorem complete_keys (c : Ctx) (st d : Nat) (b : Bool) : (s.complete c st d b).keys = s.keys := (complete_apart s c st d b).keys
@[simp] theorem complete_keeper (c : Ctx) (st d : Nat) (b : Bool) : (s.complete c st d b).keeper = s.keeper := (complete_apart s c st d b).keeper
@[simp] theorem complete_boot (c : Ctx) (st d : Nat) (b : Bool) : (s.complete c st d b).boot = s.boot := (complete_apart s c st d b).boot
@[simp] theorem complete_shadow (c : Ctx) (st d : Nat) (b : Bool) : (s.complete c st d b).shadow = s.shadow := (complete_apart s c st d b).shadow
@[simp] theorem complete_shadowKeys (c : Ctx) (st d : Nat) (b : Bool) : (s.complete c st d b).shadowKeys = s.shadowKeys := (complete_apart s c st d b).shadowKeys
@[simp] theorem complete_free (c : Ctx) (st d : Nat) (b : Bool) : (s.complete c st d b).free = s.free := (complete_apart s c st d b).free
@[simp] theorem complete_lanes (c : Ctx) (st d : Nat) (b : Bool) : (s.complete c st d b).lanes = s.lanes := (complete_apart s c st d b).lanes
@[simp] theorem complete_episodes (c : Ctx) (st d : Nat) (b : Bool) : (s.complete c st d b).episodes = s.episodes := (complete_apart s c st d b).episodes
@[simp] theorem complete_disc (c : Ctx) (st d : Nat) (b : Bool) : (s.complete c st d b).disc = s.disc := (complete_apart s c st d b).disc
@[simp] theorem complete_tim (c : Ctx) (st d : Nat) (b : Bool) : (s.complete c st d b).tim = s.tim := (complete_apart s c st d b).tim
@[simp] theorem complete_syn (c : Ctx) (st d : Nat) (b : Bool) : (s.complete c st d b).syn = s.syn := (complete_apart s c st d b).syn
@[simp] theorem complete_outs (c : Ctx) (st d : Nat) (b : Bool) : (s.complete c st d b).outs = s.outs := (complete_apart s c st d b).outs
@[simp] theorem complete_gnss (c : Ctx) (st d : Nat) (b : Bool) : (s.complete c st d b).gnss = s.gnss := (complete_apart s c st d b).gnss
@[simp] theorem complete_partnerKcv (c : Ctx) (st d : Nat) (b : Bool) : (s.complete c st d b).partnerKcv = s.partnerKcv := (complete_apart s c st d b).partnerKcv
@[simp] theorem complete_clt (c : Ctx) (st d : Nat) (b : Bool) : (s.complete c st d b).clt = s.clt := (complete_apart s c st d b).clt
@[simp] theorem complete_ports (c : Ctx) (st d : Nat) (b : Bool) : (s.complete c st d b).ports = s.ports := (complete_apart s c st d b).ports
@[simp] theorem complete_insts (c : Ctx) (st d : Nat) (b : Bool) : (s.complete c st d b).insts = s.insts := (complete_apart s c st d b).insts
@[simp] theorem complete_heldGrants (c : Ctx) (st d : Nat) (b : Bool) : (s.complete c st d b).heldGrants = s.heldGrants := (complete_apart s c st d b).heldGrants
@[simp] theorem complete_dumpq (c : Ctx) (st d : Nat) (b : Bool) : (s.complete c st d b).dumpq = s.dumpq := (complete_apart s c st d b).dumpq
@[simp] theorem complete_parity (c : Ctx) (st d : Nat) (b : Bool) : (s.complete c st d b).parity = s.parity := (complete_apart s c st d b).parity
@[simp] theorem complete_pending (c : Ctx) (st d : Nat) (b : Bool) : (s.complete c st d b).pending = s.pending := (complete_apart s c st d b).pending
@[simp] theorem complete_runNs (c : Ctx) (st d : Nat) (b : Bool) : (s.complete c st d b).runNs = s.runNs := by simp only [State.runNs, complete_tc]
@[simp] theorem complete_linear (c : Ctx) (st d : Nat) (b : Bool) : (s.complete c st d b).linear = s.linear := by simp only [State.linear, State.ns, complete_tc]
@[simp] theorem complete_at16 (c : Ctx) (st d : Nat) (b : Bool) : (s.complete c st d b).at16 = s.at16 := by simp only [State.at16, complete_tc]
@[simp] theorem complete_unit (c : Ctx) (st d : Nat) (b : Bool) (z : Nat) : (s.complete c st d b).unit z = s.unit z := by simp only [State.unit, complete_units]
@[simp] theorem complete_lane (c : Ctx) (st d : Nat) (b : Bool) (z : Nat) : (s.complete c st d b).lane z = s.lane z := by simp only [State.lane, complete_lanes]
@[simp] theorem complete_heat (c : Ctx) (st d : Nat) (b : Bool) (z : Nat) : (s.complete c st d b).heat z = s.heat z := by simp only [State.heat, complete_tim]
@[simp] theorem complete_grp (c : Ctx) (st d : Nat) (b : Bool) (z : Nat) : (s.complete c st d b).grp z = s.grp z := by simp only [State.grp, complete_syn]
@[simp] theorem complete_outp (c : Ctx) (st d : Nat) (b : Bool) (z : Nat) : (s.complete c st d b).outp z = s.outp z := by simp only [State.outp, complete_outs]
@[simp] theorem complete_chan (c : Ctx) (st d : Nat) (b : Bool) (z : Nat) : (s.complete c st d b).chan z = s.chan z := by simp only [State.chan, complete_gnss]
@[simp] theorem complete_port (c : Ctx) (st d : Nat) (b : Bool) (z : Nat) : (s.complete c st d b).port z = s.port z := by simp only [State.port, complete_ports]
@[simp] theorem complete_inst (c : Ctx) (st d : Nat) (b : Bool) (z : Nat) : (s.complete c st d b).inst z = s.inst z := by simp only [State.inst, complete_insts]

/-! ### finishCmd -/

theorem get_finishCmd (c : Ctx) (o : OpInfo) (role st d : Nat) (body : List Int) {f : Fld} (h : f.key ∉ bookkeeping) : (s.finishCmd c o role st d body).get f = s.get f := (finishCmd_apart s c o role st d body).regs f h
theorem var_finishCmd (c : Ctx) (o : OpInfo) (role st d : Nat) (body : List Int) {v : Var} (h : v ∉ bookVars) : (s.finishCmd c o role st d body).var v = s.var v := (finishCmd_apart s c o role st d body).vars v h
@[simp] theorem finishCmd_tc (c : Ctx) (o : OpInfo) (role st d : Nat) (body : List Int) : (s.finishCmd c o role st d body).tc = s.tc := (finishCmd_apart s c o role st d body).tc
@[simp] theorem finishCmd_units (c : Ctx) (o : OpInfo) (role st d : Nat) (body : List Int) : (s.finishCmd c o role st d body).units = s.units := (finishCmd_apart s c o role st d body).units
@[simp] theorem finishCmd_keys (c : Ctx) (o : OpInfo) (role st d : Nat) (body : List Int) : (s.finishCmd c o role st d body).keys = s.keys := (finishCmd_apart s c o role st d body).keys
@[simp] theorem finishCmd_keeper (c : Ctx) (o : OpInfo) (role st d : Nat) (body : List Int) : (s.finishCmd c o role st d body).keeper = s.keeper := (finishCmd_apart s c o role st d body).keeper
@[simp] theorem finishCmd_boot (c : Ctx) (o : OpInfo) (role st d : Nat) (body : List Int) : (s.finishCmd c o role st d body).boot = s.boot := (finishCmd_apart s c o role st d body).boot
@[simp] theorem finishCmd_shadow (c : Ctx) (o : OpInfo) (role st d : Nat) (body : List Int) : (s.finishCmd c o role st d body).shadow = s.shadow := (finishCmd_apart s c o role st d body).shadow
@[simp] theorem finishCmd_shadowKeys (c : Ctx) (o : OpInfo) (role st d : Nat) (body : List Int) : (s.finishCmd c o role st d body).shadowKeys = s.shadowKeys := (finishCmd_apart s c o role st d body).shadowKeys
@[simp] theorem finishCmd_free (c : Ctx) (o : OpInfo) (role st d : Nat) (body : List Int) : (s.finishCmd c o role st d body).free = s.free := (finishCmd_apart s c o role st d body).free
@[simp] theorem finishCmd_lanes (c : Ctx) (o : OpInfo) (role st d : Nat) (body : List Int) : (s.finishCmd c o role st d body).lanes = s.lanes := (finishCmd_apart s c o role st d body).lanes
@[simp] theorem finishCmd_episodes (c : Ctx) (o : OpInfo) (role st d : Nat) (body : List Int) : (s.finishCmd c o role st d body).episodes = s.episodes := (finishCmd_apart s c o role st d body).episodes
@[simp] theorem finishCmd_disc (c : Ctx) (o : OpInfo) (role st d : Nat) (body : List Int) : (s.finishCmd c o role st d body).disc = s.disc := (finishCmd_apart s c o role st d body).disc
@[simp] theorem finishCmd_tim (c : Ctx) (o : OpInfo) (role st d : Nat) (body : List Int) : (s.finishCmd c o role st d body).tim = s.tim := (finishCmd_apart s c o role st d body).tim
@[simp] theorem finishCmd_syn (c : Ctx) (o : OpInfo) (role st d : Nat) (body : List Int) : (s.finishCmd c o role st d body).syn = s.syn := (finishCmd_apart s c o role st d body).syn
@[simp] theorem finishCmd_outs (c : Ctx) (o : OpInfo) (role st d : Nat) (body : List Int) : (s.finishCmd c o role st d body).outs = s.outs := (finishCmd_apart s c o role st d body).outs
@[simp] theorem finishCmd_gnss (c : Ctx) (o : OpInfo) (role st d : Nat) (body : List Int) : (s.finishCmd c o role st d body).gnss = s.gnss := (finishCmd_apart s c o role st d body).gnss
@[simp] theorem finishCmd_partnerKcv (c : Ctx) (o : OpInfo) (role st d : Nat) (body : List Int) : (s.finishCmd c o role st d body).partnerKcv = s.partnerKcv := (finishCmd_apart s c o role st d body).partnerKcv
@[simp] theorem finishCmd_clt (c : Ctx) (o : OpInfo) (role st d : Nat) (body : List Int) : (s.finishCmd c o role st d body).clt = s.clt := (finishCmd_apart s c o role st d body).clt
@[simp] theorem finishCmd_ports (c : Ctx) (o : OpInfo) (role st d : Nat) (body : List Int) : (s.finishCmd c o role st d body).ports = s.ports := (finishCmd_apart s c o role st d body).ports
@[simp] theorem finishCmd_insts (c : Ctx) (o : OpInfo) (role st d : Nat) (body : List Int) : (s.finishCmd c o role st d body).insts = s.insts := (finishCmd_apart s c o role st d body).insts
@[simp] theorem finishCmd_heldGrants (c : Ctx) (o : OpInfo) (role st d : Nat) (body : List Int) : (s.finishCmd c o role st d body).heldGrants = s.heldGrants := (finishCmd_apart s c o role st d body).heldGrants
@[simp] theorem finishCmd_dumpq (c : Ctx) (o : OpInfo) (role st d : Nat) (body : List Int) : (s.finishCmd c o role st d body).dumpq = s.dumpq := (finishCmd_apart s c o role st d body).dumpq
@[simp] theorem finishCmd_parity (c : Ctx) (o : OpInfo) (role st d : Nat) (body : List Int) : (s.finishCmd c o role st d body).parity = s.parity := (finishCmd_apart s c o role st d body).parity
@[simp] theorem finishCmd_pending (c : Ctx) (o : OpInfo) (role st d : Nat) (body : List Int) : (s.finishCmd c o role st d body).pending = s.pending := (finishCmd_apart s c o role st d body).pending
@[simp] theorem finishCmd_runNs (c : Ctx) (o : OpInfo) (role st d : Nat) (body : List Int) : (s.finishCmd c o role st d body).runNs = s.runNs := by simp only [State.runNs, finishCmd_tc]
@[simp] theorem finishCmd_linear (c : Ctx) (o : OpInfo) (role st d : Nat) (body : List Int) : (s.finishCmd c o role st d body).linear = s.linear := by simp only [State.linear, State.ns, finishCmd_tc]
@[simp] theorem finishCmd_at16 (c : Ctx) (o : OpInfo) (role st d : Nat) (body : List Int) : (s.finishCmd c o role st d body).at16 = s.at16 := by simp only [State.at16, finishCmd_tc]
@[simp] theorem finishCmd_unit (c : Ctx) (o : OpInfo) (role st d : Nat) (body : List Int) (z : Nat) : (s.finishCmd c o role st d body).unit z = s.unit z := by simp only [State.unit, finishCmd_units]
@[simp] theorem finishCmd_lane (c : Ctx) (o : OpInfo) (role st d : Nat) (body : List Int) (z : Nat) : (s.finishCmd c o role st d body).lane z = s.lane z := by simp only [State.lane, finishCmd_lanes]
@[simp] theorem finishCmd_heat (c : Ctx) (o : OpInfo) (role st d : Nat) (body : List Int) (z : Nat) : (s.finishCmd c o role st d body).heat z = s.heat z := by simp only [State.heat, finishCmd_tim]
@[simp] theorem finishCmd_grp (c : Ctx) (o : OpInfo) (role st d : Nat) (body : List Int) (z : Nat) : (s.finishCmd c o role st d body).grp z = s.grp z := by simp only [State.grp, finishCmd_syn]
@[simp] theorem finishCmd_outp (c : Ctx) (o : OpInfo) (role st d : Nat) (body : List Int) (z : Nat) : (s.finishCmd c o role st d body).outp z = s.outp z := by simp only [State.outp, finishCmd_outs]
@[simp] theorem finishCmd_chan (c : Ctx) (o : OpInfo) (role st d : Nat) (body : List Int) (z : Nat) : (s.finishCmd c o role st d body).chan z = s.chan z := by simp only [State.chan, finishCmd_gnss]
@[simp] theorem finishCmd_port (c : Ctx) (o : OpInfo) (role st d : Nat) (body : List Int) (z : Nat) : (s.finishCmd c o role st d body).port z = s.port z := by simp only [State.port, finishCmd_ports]
@[simp] theorem finishCmd_inst (c : Ctx) (o : OpInfo) (role st d : Nat) (body : List Int) (z : Nat) : (s.finishCmd c o role st d body).inst z = s.inst z := by simp only [State.inst, finishCmd_insts]

/-! ### fetch -/

theorem get_fetch (c : Ctx) {f : Fld} (h : f.key ∉ bookkeeping) : (s.fetch c).get f = s.get f := (fetch_apart s c).regs f h
theorem var_fetch (c : Ctx) {v : Var} (h : v ∉ bookVars) : (s.fetch c).var v = s.var v := (fetch_apart s c).vars v h
@[simp] theorem fetch_tc (c : Ctx) : (s.fetch c).tc = s.tc := (fetch_apart s c).tc
@[simp] theorem fetch_units (c : Ctx) : (s.fetch c).units = s.units := (fetch_apart s c).units
@[simp] theorem fetch_keys (c : Ctx) : (s.fetch c).keys = s.keys := (fetch_apart s c).keys
@[simp] theorem fetch_keeper (c : Ctx) : (s.fetch c).keeper = s.keeper := (fetch_apart s c).keeper
@[simp] theorem fetch_boot (c : Ctx) : (s.fetch c).boot = s.boot := (fetch_apart s c).boot
@[simp] theorem fetch_shadow (c : Ctx) : (s.fetch c).shadow = s.shadow := (fetch_apart s c).shadow
@[simp] theorem fetch_shadowKeys (c : Ctx) : (s.fetch c).shadowKeys = s.shadowKeys := (fetch_apart s c).shadowKeys
@[simp] theorem fetch_free (c : Ctx) : (s.fetch c).free = s.free := (fetch_apart s c).free
@[simp] theorem fetch_lanes (c : Ctx) : (s.fetch c).lanes = s.lanes := (fetch_apart s c).lanes
@[simp] theorem fetch_episodes (c : Ctx) : (s.fetch c).episodes = s.episodes := (fetch_apart s c).episodes
@[simp] theorem fetch_disc (c : Ctx) : (s.fetch c).disc = s.disc := (fetch_apart s c).disc
@[simp] theorem fetch_tim (c : Ctx) : (s.fetch c).tim = s.tim := (fetch_apart s c).tim
@[simp] theorem fetch_syn (c : Ctx) : (s.fetch c).syn = s.syn := (fetch_apart s c).syn
@[simp] theorem fetch_outs (c : Ctx) : (s.fetch c).outs = s.outs := (fetch_apart s c).outs
@[simp] theorem fetch_gnss (c : Ctx) : (s.fetch c).gnss = s.gnss := (fetch_apart s c).gnss
@[simp] theorem fetch_partnerKcv (c : Ctx) : (s.fetch c).partnerKcv = s.partnerKcv := (fetch_apart s c).partnerKcv
@[simp] theorem fetch_clt (c : Ctx) : (s.fetch c).clt = s.clt := (fetch_apart s c).clt
@[simp] theorem fetch_ports (c : Ctx) : (s.fetch c).ports = s.ports := (fetch_apart s c).ports
@[simp] theorem fetch_insts (c : Ctx) : (s.fetch c).insts = s.insts := (fetch_apart s c).insts
@[simp] theorem fetch_heldGrants (c : Ctx) : (s.fetch c).heldGrants = s.heldGrants := (fetch_apart s c).heldGrants
@[simp] theorem fetch_dumpq (c : Ctx) : (s.fetch c).dumpq = s.dumpq := (fetch_apart s c).dumpq
@[simp] theorem fetch_parity (c : Ctx) : (s.fetch c).parity = s.parity := (fetch_apart s c).parity
@[simp] theorem fetch_pending (c : Ctx) : (s.fetch c).pending = s.pending := (fetch_apart s c).pending
@[simp] theorem fetch_runNs (c : Ctx) : (s.fetch c).runNs = s.runNs := by simp only [State.runNs, fetch_tc]
@[simp] theorem fetch_linear (c : Ctx) : (s.fetch c).linear = s.linear := by simp only [State.linear, State.ns, fetch_tc]
@[simp] theorem fetch_at16 (c : Ctx) : (s.fetch c).at16 = s.at16 := by simp only [State.at16, fetch_tc]
@[simp] theorem fetch_unit (c : Ctx) (z : Nat) : (s.fetch c).unit z = s.unit z := by simp only [State.unit, fetch_units]
@[simp] theorem fetch_lane (c : Ctx) (z : Nat) : (s.fetch c).lane z = s.lane z := by simp only [State.lane, fetch_lanes]
@[simp] theorem fetch_heat (c : Ctx) (z : Nat) : (s.fetch c).heat z = s.heat z := by simp only [State.heat, fetch_tim]
@[simp] theorem fetch_grp (c : Ctx) (z : Nat) : (s.fetch c).grp z = s.grp z := by simp only [State.grp, fetch_syn]
@[simp] theorem fetch_outp (c : Ctx) (z : Nat) : (s.fetch c).outp z = s.outp z := by simp only [State.outp, fetch_outs]
@[simp] theorem fetch_chan (c : Ctx) (z : Nat) : (s.fetch c).chan z = s.chan z := by simp only [State.chan, fetch_gnss]
@[simp] theorem fetch_port (c : Ctx) (z : Nat) : (s.fetch c).port z = s.port z := by simp only [State.port, fetch_ports]
@[simp] theorem fetch_inst (c : Ctx) (z : Nat) : (s.fetch c).inst z = s.inst z := by simp only [State.inst, fetch_insts]

/-! ### fetch, and what raising an event leaves alone -/

@[simp] theorem fetch_regs (c : Ctx) : (s.fetch c).regs = s.regs := by
  unfold State.fetch State.touch State.advance
  extract_lets e hf s1
  have h1 : s1.regs = s.regs := by unfold s1; split <;> with_reducible rfl
  split
  · split <;> exact h1
  · exact h1
@[simp] theorem fetch_vars (c : Ctx) : (s.fetch c).vars = s.vars := by
  unfold State.fetch State.touch State.advance
  extract_lets e hf s1
  have h1 : s1.vars = s.vars := by unfold s1; split <;> with_reducible rfl
  split
  · split <;> exact h1
  · exact h1
@[simp] theorem fetch_timers (c : Ctx) : (s.fetch c).timers = s.timers := by
  unfold State.fetch State.touch State.advance
  extract_lets e hf s1
  have h1 : s1.timers = s.timers := by unfold s1; split <;> with_reducible rfl
  split
  · split <;> exact h1
  · exact h1
@[simp] theorem fetch_log (c : Ctx) : (s.fetch c).log = s.log := by
  unfold State.fetch State.touch State.advance
  extract_lets e hf s1
  have h1 : s1.log = s.log := by unfold s1; split <;> with_reducible rfl
  split
  · split <;> exact h1
  · exact h1
@[simp] theorem fetch_evtq (c : Ctx) : (s.fetch c).evtq = s.evtq := by
  unfold State.fetch State.touch State.advance
  extract_lets e hf s1
  have h1 : s1.evtq = s.evtq := by unfold s1; split <;> with_reducible rfl
  split
  · split <;> exact h1
  · exact h1
@[simp] theorem fetch_pmc (c : Ctx) : (s.fetch c).pmc = s.pmc := by
  unfold State.fetch State.touch State.advance
  extract_lets e hf s1
  have h1 : s1.pmc = s.pmc := by unfold s1; split <;> with_reducible rfl
  split
  · split <;> exact h1
  · exact h1
@[simp] theorem fetch_pf (c : Ctx) : (s.fetch c).pf = s.pf := by
  unfold State.fetch State.touch State.advance
  extract_lets e hf s1
  have h1 : s1.pf = s.pf := by unfold s1; split <;> with_reducible rfl
  split
  · split <;> exact h1
  · exact h1
@[simp] theorem fetch_mem (c : Ctx) : (s.fetch c).mem = s.mem := by
  unfold State.fetch State.touch State.advance
  extract_lets e hf s1
  have h1 : s1.mem = s.mem := by unfold s1; split <;> with_reducible rfl
  split
  · split <;> exact h1
  · exact h1
@[simp] theorem fetch_out (c : Ctx) : (s.fetch c).out = s.out := by
  unfold State.fetch State.touch State.advance
  extract_lets e hf s1
  have h1 : s1.out = s.out := by unfold s1; split <;> with_reducible rfl
  split
  · split <;> exact h1
  · exact h1
@[simp] theorem fetch_twin (c : Ctx) : (s.fetch c).twin = s.twin := by
  unfold State.fetch State.touch State.advance
  extract_lets e hf s1
  have h1 : s1.twin = s.twin := by unfold s1; split <;> with_reducible rfl
  split
  · split <;> exact h1
  · exact h1
@[simp] theorem fetch_get (c : Ctx) (f : Fld) : (s.fetch c).get f = s.get f := by simp only [State.get, fetch_regs]
@[simp] theorem fetch_var (c : Ctx) (v : Var) : (s.fetch c).var v = s.var v := by simp only [State.var, fetch_vars]
@[simp] theorem fetch_timer (c : Ctx) (m : Tm) : (s.fetch c).timer m = s.timer m := by simp only [State.timer, fetch_timers]

theorem stuck_get {e : Ev} {f : Fld} (h : ∀ p, e.sticky = some p → f.key ≠ p.1.key) : (s.stuck e).get f = s.get f := by
  unfold State.stuck
  split
  · next p k hp =>
    unfold State.putBit
    exact State.get_put_ne s _ (h (p, k) hp)
  · rfl

theorem stuck_vars (e : Ev) : (s.stuck e).vars = s.vars := by unfold State.stuck; split <;> rfl

/-- Raising an event leaves every register alone but its sticky bit and the bookkeeping. -/
theorem get_raise {e : Ev} {items : List Item} {role : Nat} {f : Fld} (h : f.key ∉ bookkeeping)
    (hs : ∀ p, e.sticky = some p → f.key ≠ p.1.key) : (s.raise e items role).get f = s.get f := by
  rw [(raise_quiet s e items role).regs f h, stuck_get s hs]

theorem var_raise {e : Ev} {items : List Item} {role : Nat} {v : Var} (h : v ∉ bookVars) :
    (s.raise e items role).var v = s.var v := by
  rw [(raise_quiet s e items role).vars v h]; simp only [State.var, stuck_vars]

/-- An event's sticky bit is set once it is raised. -/
theorem sticky_raise {e : Ev} {items : List Item} {role : Nat} {f : Fld} {k : Nat} (hs : e.sticky = some (f, k))
    (h : f.key ∉ bookkeeping) : (s.raise e items role).get f = setBit (s.get f) k % 2 ^ f.width := by
  rw [(raise_quiet s e items role).regs f h]
  simp only [State.stuck, hs, State.putBit, if_true, State.get_put_same]

@[simp] theorem raise_timers (e : Ev) (items : List Item) (role : Nat) : (s.raise e items role).timers = s.timers := by
  rw [(raise_quiet s e items role).timers]; unfold State.stuck; split <;> rfl
@[simp] theorem raise_tc (e : Ev) (items : List Item) (role : Nat) : (s.raise e items role).tc = s.tc := by
  rw [(raise_quiet s e items role).tc]; unfold State.stuck; split <;> rfl
@[simp] theorem raise_units (e : Ev) (items : List Item) (role : Nat) : (s.raise e items role).units = s.units := by
  rw [(raise_quiet s e items role).units]; unfold State.stuck; split <;> rfl
@[simp] theorem raise_hif (e : Ev) (items : List Item) (role : Nat) : (s.raise e items role).hif = s.hif := by
  rw [(raise_quiet s e items role).hif]; unfold State.stuck; split <;> rfl
@[simp] theorem raise_roles (e : Ev) (items : List Item) (role : Nat) : (s.raise e items role).roles = s.roles := by
  rw [(raise_quiet s e items role).roles]; unfold State.stuck; split <;> rfl
@[simp] theorem raise_keys (e : Ev) (items : List Item) (role : Nat) : (s.raise e items role).keys = s.keys := by
  rw [(raise_quiet s e items role).keys]; unfold State.stuck; split <;> rfl
@[simp] theorem raise_keeper (e : Ev) (items : List Item) (role : Nat) : (s.raise e items role).keeper = s.keeper := by
  rw [(raise_quiet s e items role).keeper]; unfold State.stuck; split <;> rfl
@[simp] theorem raise_boot (e : Ev) (items : List Item) (role : Nat) : (s.raise e items role).boot = s.boot := by
  rw [(raise_quiet s e items role).boot]; unfold State.stuck; split <;> rfl
@[simp] theorem raise_shadow (e : Ev) (items : List Item) (role : Nat) : (s.raise e items role).shadow = s.shadow := by
  rw [(raise_quiet s e items role).shadow]; unfold State.stuck; split <;> rfl
@[simp] theorem raise_shadowKeys (e : Ev) (items : List Item) (role : Nat) : (s.raise e items role).shadowKeys = s.shadowKeys := by
  rw [(raise_quiet s e items role).shadowKeys]; unfold State.stuck; split <;> rfl
@[simp] theorem raise_mem (e : Ev) (items : List Item) (role : Nat) : (s.raise e items role).mem = s.mem := by
  rw [(raise_quiet s e items role).mem]; unfold State.stuck; split <;> rfl
@[simp] theorem raise_out (e : Ev) (items : List Item) (role : Nat) : (s.raise e items role).out = s.out := by
  rw [(raise_quiet s e items role).out]; unfold State.stuck; split <;> rfl
@[simp] theorem raise_free (e : Ev) (items : List Item) (role : Nat) : (s.raise e items role).free = s.free := by
  rw [(raise_quiet s e items role).free]; unfold State.stuck; split <;> rfl
@[simp] theorem raise_twin (e : Ev) (items : List Item) (role : Nat) : (s.raise e items role).twin = s.twin := by
  rw [(raise_quiet s e items role).twin]; unfold State.stuck; split <;> rfl
@[simp] theorem raise_lanes (e : Ev) (items : List Item) (role : Nat) : (s.raise e items role).lanes = s.lanes := by
  rw [(raise_quiet s e items role).lanes]; unfold State.stuck; split <;> rfl
@[simp] theorem raise_episodes (e : Ev) (items : List Item) (role : Nat) : (s.raise e items role).episodes = s.episodes := by
  rw [(raise_quiet s e items role).episodes]; unfold State.stuck; split <;> rfl
@[simp] theorem raise_disc (e : Ev) (items : List Item) (role : Nat) : (s.raise e items role).disc = s.disc := by
  rw [(raise_quiet s e items role).disc]; unfold State.stuck; split <;> rfl
@[simp] theorem raise_tim (e : Ev) (items : List Item) (role : Nat) : (s.raise e items role).tim = s.tim := by
  rw [(raise_quiet s e items role).tim]; unfold State.stuck; split <;> rfl
@[simp] theorem raise_syn (e : Ev) (items : List Item) (role : Nat) : (s.raise e items role).syn = s.syn := by
  rw [(raise_quiet s e items role).syn]; unfold State.stuck; split <;> rfl
@[simp] theorem raise_outs (e : Ev) (items : List Item) (role : Nat) : (s.raise e items role).outs = s.outs := by
  rw [(raise_quiet s e items role).outs]; unfold State.stuck; split <;> rfl
@[simp] theorem raise_gnss (e : Ev) (items : List Item) (role : Nat) : (s.raise e items role).gnss = s.gnss := by
  rw [(raise_quiet s e items role).gnss]; unfold State.stuck; split <;> rfl
@[simp] theorem raise_partnerKcv (e : Ev) (items : List Item) (role : Nat) : (s.raise e items role).partnerKcv = s.partnerKcv := by
  rw [(raise_quiet s e items role).partnerKcv]; unfold State.stuck; split <;> rfl
@[simp] theorem raise_clt (e : Ev) (items : List Item) (role : Nat) : (s.raise e items role).clt = s.clt := by
  rw [(raise_quiet s e items role).clt]; unfold State.stuck; split <;> rfl
@[simp] theorem raise_ports (e : Ev) (items : List Item) (role : Nat) : (s.raise e items role).ports = s.ports := by
  rw [(raise_quiet s e items role).ports]; unfold State.stuck; split <;> rfl
@[simp] theorem raise_insts (e : Ev) (items : List Item) (role : Nat) : (s.raise e items role).insts = s.insts := by
  rw [(raise_quiet s e items role).insts]; unfold State.stuck; split <;> rfl
@[simp] theorem raise_heldGrants (e : Ev) (items : List Item) (role : Nat) : (s.raise e items role).heldGrants = s.heldGrants := by
  rw [(raise_quiet s e items role).heldGrants]; unfold State.stuck; split <;> rfl
@[simp] theorem raise_dumpq (e : Ev) (items : List Item) (role : Nat) : (s.raise e items role).dumpq = s.dumpq := by
  rw [(raise_quiet s e items role).dumpq]; unfold State.stuck; split <;> rfl
@[simp] theorem raise_parity (e : Ev) (items : List Item) (role : Nat) : (s.raise e items role).parity = s.parity := by
  rw [(raise_quiet s e items role).parity]; unfold State.stuck; split <;> rfl
@[simp] theorem raise_pending (e : Ev) (items : List Item) (role : Nat) : (s.raise e items role).pending = s.pending := by
  rw [(raise_quiet s e items role).pending]; unfold State.stuck; split <;> rfl
@[simp] theorem raise_runNs (e : Ev) (items : List Item) (role : Nat) : (s.raise e items role).runNs = s.runNs := by
  simp only [State.runNs, raise_tc]
@[simp] theorem raise_linear (e : Ev) (items : List Item) (role : Nat) : (s.raise e items role).linear = s.linear := by
  simp only [State.linear, State.ns, raise_tc]
@[simp] theorem raise_at16 (e : Ev) (items : List Item) (role : Nat) : (s.raise e items role).at16 = s.at16 := by
  simp only [State.at16, raise_tc]
@[simp] theorem raise_unit (e : Ev) (items : List Item) (role : Nat) (z : Nat) : (s.raise e items role).unit z = s.unit z := by
  simp only [State.unit, raise_units]
@[simp] theorem raise_lane (e : Ev) (items : List Item) (role : Nat) (z : Nat) : (s.raise e items role).lane z = s.lane z := by
  simp only [State.lane, raise_lanes]
@[simp] theorem raise_heat (e : Ev) (items : List Item) (role : Nat) (z : Nat) : (s.raise e items role).heat z = s.heat z := by
  simp only [State.heat, raise_tim]
@[simp] theorem raise_grp (e : Ev) (items : List Item) (role : Nat) (z : Nat) : (s.raise e items role).grp z = s.grp z := by
  simp only [State.grp, raise_syn]
@[simp] theorem raise_outp (e : Ev) (items : List Item) (role : Nat) (z : Nat) : (s.raise e items role).outp z = s.outp z := by
  simp only [State.outp, raise_outs]
@[simp] theorem raise_chan (e : Ev) (items : List Item) (role : Nat) (z : Nat) : (s.raise e items role).chan z = s.chan z := by
  simp only [State.chan, raise_gnss]
@[simp] theorem raise_port (e : Ev) (items : List Item) (role : Nat) (z : Nat) : (s.raise e items role).port z = s.port z := by
  simp only [State.port, raise_ports]
@[simp] theorem raise_inst (e : Ev) (items : List Item) (role : Nat) (z : Nat) : (s.raise e items role).inst z = s.inst z := by
  simp only [State.inst, raise_insts]

/-- A timer read through a completion: none of the rings' moderation times and not the acknowledgement's. -/
theorem timer_finishCmd (c : Ctx) (o : OpInfo) (role st d : Nat) (body : List Int) {m : Tm} (h : ∀ n, m ≠ .modTime n) (k : m ≠ .journalAck) :
    (s.finishCmd c o role st d body).timer m = s.timer m := (finishCmd_apart s c o role st d body).timers m h k

end Sys2Proof.Machine
end

