-- ==== Sys2Proof/WellFormed.lean ====
section
/-! DEFINITION. Which commands are well formed: what an operand can hold where the spec gives it a field of a descriptor, a place in the
register window, or a number among units of a kind. A meaning takes any operands; this says which ones hardware can be given. -/

namespace Sys2Proof

/-- Whether a number fits a field of some bytes. -/
def fits (bytes n : Nat) : Bool := decide (n < 256 ^ bytes)

/-- Whether a signed number fits a field of some bytes in two's complement. -/
def fitsI (bytes : Nat) (x : Int) : Bool := decide (-(256 ^ bytes : Int) ≤ 2 * x ∧ 2 * x < (256 ^ bytes : Int))

/-- Whether a descriptor can say this of a command: one of 64 rings, a TAG of 4 bytes, a SESSION of 1 (R370, R374). -/
def Ctx.wf (c : Ctx) : Bool := decide (c.ring < 64) && fits 4 c.tag && fits 1 c.session

/-- Whether an address lies in the register window of 16 MiB, aligned to a word (R359, R473). -/
def inWindow (a : Nat) : Bool := decide (a < 2 ^ 24 ∧ a % 4 = 0)

/-- Whether a write access carries a word to an address of the window. -/
def WrAcc.wf (a : WrAcc) : Bool := inWindow a.addr && fits 4 a.value

/-- Whether the octets that a message's AUTHENTICATION TLV protects are those of a message with the source portIdentity and sequenceId it came with, in
network byte order (R245). -/
def PtpIn.wf (q : PtpIn) : Bool :=
  match q.auth with
  | none => true
  | some a =>
    let field := fun at_ n => leNat ((a.body.drop at_).take n).reverse
    decide (34 ≤ a.body.length ∧ field 20 8 = q.clock ∧ field 28 2 = q.portNo ∧ field 30 2 = q.seq)

/-- Whether a command is well formed. -/
def wellFormed : Instr → Bool
  | .nop c echo => c.wf && fits 8 echo
  | .abort c ring tag => c.wf && decide (ring < 64) && fits 4 tag
  | .unitEnable c hid => c.wf && fits 2 hid
  | .unitDisable c hid => c.wf && fits 2 hid
  | .unitReset c hid => c.wf && fits 2 hid
  | .unitState c hid addr len => c.wf && fits 2 hid && fits 8 addr && fits 4 len
  | .timeReset c => c.wf
  | .phaseAdj c offset => c.wf && fitsI 8 offset
  | .slewLimitSet c limit => c.wf && fits 8 limit
  | .stepThreshSet c ns => c.wf && fits 4 ns
  | .leapSet c year month sign => c.wf && fits 2 year && fits 1 month && fitsI 1 sign
  | .utcOffsetSet c current => c.wf && fitsI 2 current
  | .cmpArm c n mode _ _ target period => c.wf && fits 1 n && fits 1 mode && fits 10 target && fits 10 period
  | .cmpDisarm c n => c.wf && fits 1 n
  | .laneForce c n => c.wf && fits 1 n
  | .laneRelease c => c.wf
  | .laneClear c n => c.wf && fits 1 n
  | .laneSet c n off value => c.wf && fits 1 n && fits 4 off && fits 4 value
  | .selModeSet c revertive wtr avg agree span => c.wf && fits 1 revertive && fits 2 wtr && fits 4 avg && fits 4 agree && fits 4 span
  | .hobSet c off value => c.wf && fits 4 off && fits 4 value
  | .modelReset c => c.wf
  | .tebPredict c tau => c.wf && fits 4 tau
  | .heatStart c k start startEdge stop stopEdge splits n window sgn win scale keep stat => c.wf && fits 1 k && fits 1 start && fits 1 startEdge && fits 1 stop && fits 1 stopEdge && fits 1 splits && fits 2 n && fits 4 window && fits 1 sgn && fits 4 win && fits 1 scale && fits 1 keep && fits 1 stat
  | .heatStop c k => c.wf && fits 1 k
  | .refinDelaySet c pin delay => c.wf && fits 1 pin && fitsI 4 delay
  | .warmSet c => c.wf
  | .timSet c off value => c.wf && fits 4 off && fits 4 value
  | .timCalibrate c => c.wf
  | .synSet c g off value => c.wf && fits 1 g && fits 4 off && fits 4 value
  | .synStart c g => c.wf && fits 1 g
  | .synStop c g => c.wf && fits 1 g
  | .synFreqStep c g num den => c.wf && fits 1 g && fits 8 num && fits 2 den
  | .outSet c hid off value => c.wf && fits 2 hid && fits 4 off && fits 4 value
  | .outAlign c mask method rate => c.wf && fits 4 mask && fits 1 method && fits 4 rate
  | .gnbSet c off value => c.wf && fits 4 off && fits 4 value
  | .gnssPosSet c mode x y z posU time => c.wf && fits 1 mode && fitsI 8 x && fitsI 8 y && fitsI 8 z && fits 4 posU && fits 4 time
  | .gnssNavLoad c addr len _ _ => c.wf && fits 8 addr && fits 4 len
  | .gnssNavRead c addr len sel => c.wf && fits 8 addr && fits 4 len && fits 1 sel
  | .gnssColdStart c => c.wf
  | .ptpInstSet c k off value => c.wf && fits 1 k && fits 4 off && fits 4 value
  | .ptpInstStart c k => c.wf && fits 1 k
  | .ptpInstStop c k => c.wf && fits 1 k
  | .ptpSaSet c i off value => c.wf && fits 1 i && fits 4 off && fits 4 value
  | .ptpClockIdSet c id => c.wf && fits 8 id
  | .ptpGrantCancel c k _ => c.wf && fits 1 k
  | .ntpSet c off value => c.wf && fits 4 off && fits 4 value
  | .keyInstall c slot usage _ addr len => c.wf && fits 2 slot && fits 1 usage && fits 8 addr && fits 4 len
  | .keyErase c slot => c.wf && fits 2 slot
  | .ntsCookieMake c count addrKeys addrOut => c.wf && fits 1 count && fits 8 addrKeys && fits 8 addrOut
  | .cltSet c off value => c.wf && fits 4 off && fits 4 value
  | .cltEntryAdd c _ cls rule _ => c.wf && fits 1 cls && fits 1 rule
  | .cltEntryDel c _ => c.wf
  | .cltEntryRead c _ addr => c.wf && fits 8 addr
  | .cltDump c first count addr => c.wf && fits 4 first && fits 4 count && fits 8 addr
  | .cltFlush c => c.wf
  | .portSet c p off value => c.wf && fits 1 p && fits 4 off && fits 4 value
  | .portLinkReset c p => c.wf && fits 1 p
  | .seize c => c.wf
  | .yield c laps => c.wf && fits 1 laps
  | .twnResync c => c.wf
  | .twnSet c off value => c.wf && fits 4 off && fits 4 value
  | .fabSet c off value => c.wf && fits 4 off && fits 4 value
  | .pfSnapshot c at16 _ addr => c.wf && fits 10 at16 && fits 8 addr
  | .pmcSet c off value => c.wf && fits 4 off && fits 4 value
  | .logRead c source first count addr => c.wf && fits 1 source && fits 4 first && fits 2 count && fits 8 addr
  | .sessionChallenge c role addr => c.wf && fits 1 role && fits 8 addr
  | .sessionOpen c id _ addr => c.wf && fits 4 id && fits 8 addr
  | .sessionClose c n => c.wf && fits 1 n
  | .roleKeySet c target _ addr => c.wf && fits 1 target && fits 8 addr
  | .pwrDomainSet c d action => c.wf && fits 1 d && fits 1 action
  | .fieldReset c => c.wf
  | .bistRun c sets _ => c.wf && fits 4 sets
  | .fwUpdate c target addr len _ => c.wf && fits 1 target && fits 8 addr && fits 4 len
  | .fuseWrite c field value => c.wf && fits 1 field && fits 4 value
  | .trimSet c trim value => c.wf && fits 1 trim && fits 4 value
  | .lockSet a => a.wf
  | .hifKick a => a.wf
  | .ringEnable n a => decide (n < 64) && a.wf
  | .ringDisable n a => decide (n < 64) && a.wf
  | .pfRelease a => a.wf
  | .flush q a => decide (q < 6) && a.wf
  | .pmcClear r a => decide (r < 8) && a.wf
  | .w1cWrite a => a.wf
  | .rcRead _ addr _ => inWindow addr
  | .loRead _ addr _ => inWindow addr
  | .linearLoRead _ _ => true
  | .hiWrite a => a.wf
  | .loWrite a => a.wf
  | .registerWrite a => a.wf
  | .defaultHit _ _ _ _ => true
  | .doorbellPoll _ _ _ => true
  | .statusBlockWrite _ => true
  | .modTimeExpiry n => decide (n < 64)
  | .ringStopped n => decide (n < 64)
  | .hostReset _ => true
  | .recordQueueDelivery q _ _ => decide (q < 6)
  | .hsTimeout _ _ => true
  | .parity hid _ => decide (hid < 65536)
  | .drain _ _ _ => true
  | .speedLow _ => true
  | .unitFenced hid _ => decide (hid < 65536)
  | .regionFenced hid _ => decide (hid < 65536)
  | .dieFault die hid _ => decide (die < 2) && decide (hid < 65536)
  | .unitResetDone hid _ => decide (hid < 65536)
  | .unitsAbsent d => decide (d < 14)
  | .unitsPresent d => decide (d < 14)
  | .lapBoundary _ _ => true
  | .laneMeasurement n _ => decide (n < 16)
  | .los g => decide (g.n < 16)
  | .qualTimeExpiry n => decide (n < 16)
  | .disqHoldExpiry n => decide (n < 16)
  | .wtrExpiry => true
  | .warnClear n k => decide (n < 16) && decide (k < 3)
  | .disagreeEnd a b => decide (a < 16) && decide (b < 17)
  | .shadowAnchor => true
  | .loopSettled => true
  | .modelRefit => true
  | .modelValid => true
  | .warmCleared => true
  | .warmTimeout => true
  | .buildoutRetired => true
  | .stepDone => true
  | .cmpFired n => decide (n < 16)
  | .leapCommitted => true
  | .leapApplied => true
  | .smearEnd => true
  | .markerLaunch => true
  | .markerArrival p _ _ _ _ => decide (p < 4)
  | .markerMissed p => decide (p < 4)
  | .noGoodMarker p => decide (p < 4)
  | .portCounterStep p => decide (p < 4)
  | .startEdge k fine => decide (k < 24) && decide (fine < 102400)
  | .stopEdge k fine => decide (k < 24) && decide (fine < 102400)
  | .windowExpiry k => decide (k < 24)
  | .calSlotStart k => decide (k < 25)
  | .calHandover k => decide (k < 25)
  | .calReconnect k _ _ _ => decide (k < 25)
  | .calReturn k => decide (k < 25)
  | .calStale k => decide (k < 25)
  | .takeBack o => decide (o.k < 24)
  | .followerTick => true
  | .lockWindow g _ _ _ => decide (g < 4)
  | .cycleSlip g => decide (g < 4)
  | .bandCalDone g _ _ _ _ => decide (g < 4)
  | .acquireTimeout g => decide (g < 4)
  | .relockDelayExpiry g => decide (g < 4)
  | .relockRelease g _ _ => decide (g < 4)
  | .synHoldEnd => true
  | .clockWalkStep i => decide (i < 24)
  | .pulseEdge n => decide (n < 8)
  | .todMessage _ => true
  | .sampleCheck _ _ _ _ => true
  | .channelAssign _ => true
  | .acqDwell _ _ _ => true
  | .pullInLocked _ => true
  | .pullinTimeExpiry _ => true
  | .carrierLockLost _ => true
  | .codeLockLost _ => true
  | .reacqTimeExpiry _ => true
  | .epoch _ => true
  | .solution _ _ _ _ _ => true
  | .solutionTimeout => true
  | .navDecode _ _ _ _ _ _ => true
  | .surveyDone => true
  | .syncTx k _ _ => decide (k < 4)
  | .announceTx k _ _ => decide (k < 4)
  | .pdelayReqTx k => decide (k < 4)
  | .delayReqTx k => decide (k < 4)
  | .delayReq q => q.wf
  | .pdelayReq q => q.wf
  | .pdelayRespRx q _ => q.wf
  | .requestUnicastTransmission q _ => q.wf
  | .cancelUnicastTransmission q _ => q.wf
  | .grantExpiry _ typ => decide (typ < 4)
  | .grantRx q _ => q.wf
  | .grantRenewal k _ _ => decide (k < 4)
  | .announceRx q _ _ => q.wf
  | .syncRx q _ _ => q.wf
  | .delayRespRx q _ => q.wf
  | .announceTimeout k => decide (k < 4)
  | .losTimeExpiry k => decide (k < 4)
  | .saSwitch k => decide (k < 4)
  | .ntpRequest _ _ _ => true
  | .ntsRequest _ _ _ => true
  | .ntsLaunch p _ => decide (p < 4)
  | .mkSwitch => true
  | .ageSweep _ _ => true
  | .tableReady => true
  | .linkAlign p => decide (p < 4)
  | .linkUp p _ => decide (p < 4)
  | .alignTimeout p => decide (p < 4)
  | .linkDown p _ _ => decide (p < 4)
  | .frameReceived p _ => decide (p < 4)
  | .pauseFrame p _ _ _ => decide (p < 4)
  | .pauseExpiry p _ => decide (p < 4)
  | .pauseWd p => decide (p < 4)
  | .wdIgnoreEnd p _ => decide (p < 4)
  | .hostFrameFetch p _ => decide (p < 4)
  | .frameTransmit p _ _ => decide (p < 4)
  | .esmcPdu p _ _ _ _ _ _ _ => decide (p < 4)
  | .esmcTimeout p => decide (p < 4)
  | .esmcInfoTx p => decide (p < 4)
  | .esmcEventTx p => decide (p < 4)
  | .pairTrained n _ _ => decide (n < 2)
  | .trainingTimeout n => decide (n < 2)
  | .pairDown n _ => decide (n < 2)
  | .relayMarkerRx n _ _ => decide (n < 2)
  | .batonTx => true
  | .batonRx _ _ => true
  | .batonDue => true
  | .journalRecord _ _ => true
  | .journalAckTimeout => true
  | .fenceChange _ _ => true
  | .fenceFaultClear => true
  | .senseWindow _ => true
  | .promotion => true
  | .seizeFrame => true
  | .seizeHoldExpiry => true
  | .handover => true
  | .resyncReq _ => true
  | .resyncDone _ => true
  | .listenExpiry => true
  | .sideBWaitExpiry => true
  | .pfTrig _ => true
  | .pfLatch _ => true
  | .pfTaken => true
  | .dump => true
  | .sessionIdleTimeout _ => true
  | .challengeExpiry _ => true
  | .lockoutEnd _ => true
  | .drbgReseed => true
  | .healthFail _ => true
  | .drbgWithheld => true
  | .withholdingFault => true
  | .packageReset _ => true
  | .keeperCheck _ _ _ => true
  | .tclkPllLock => true
  | .oscMissing _ => true
  | .fwBoot _ _ _ _ => true
  | .timeRecovery _ => true
  | .trackUp => true
  | .fieldUp => true
  | .dramTrain _ _ _ _ _ => true
  | .dramRetrain => true
  | .fieldRestored _ => true
  | .keeperWrite _ _ => true
  | .vbatLow _ => true
  | .brownOut => true
  | .d3hot _ => true
  | .vectorUnmask v => decide (v < 32)
  | .hostBack => true
  | .noLatch _ => true
  | .relockRetry g => decide (g < 4)
  | .carrierLockSet _ => true
  | .bitSync _ => true
  | .onCell _ _ => true

end Sys2Proof
end

