-- ==== Sys2Proof/Tests/Slice0.lean ====
section
/-! SUPPORT. The model's own tests: what WellFormed takes and refuses, small steps whose results the spec's words give, and for every statement
with hypotheses a state and operands that meet them. Each runs one step, or none, on a small state. -/

namespace Sys2Proof.Tests

open Sys2Proof Sys2Proof.Machine

/-! ## Helpers -/

/-- Sessions for a ring command: none, the INSTALLER's and the MAKER's. -/
def c0 : Ctx := ⟨0, 5, 0, false, false, true⟩
@[inherit_doc c0] def c2 : Ctx := ⟨0, 5, 2, false, false, true⟩
@[inherit_doc c0] def c3 : Ctx := ⟨0, 5, 3, false, false, true⟩

/-- Descriptors that name a ring, a TAG or a SESSION which none can. -/
def cRing : Ctx := ⟨64, 5, 0, false, false, true⟩
@[inherit_doc cRing] def cTag : Ctx := ⟨0, 2 ^ 32, 0, false, false, true⟩
@[inherit_doc cRing] def cSession : Ctx := ⟨0, 5, 256, false, false, true⟩

/-- A write access; and one that is not aligned, one outside the window and one of more than a word. -/
def a0 : WrAcc := ⟨.host, 0, 0, true, false⟩
@[inherit_doc a0] def aOdd : WrAcc := ⟨.host, 2, 0, true, false⟩
@[inherit_doc a0] def aFar : WrAcc := ⟨.host, 2 ^ 24, 0, true, false⟩
@[inherit_doc a0] def aWide : WrAcc := ⟨.host, 0, 2 ^ 32, true, false⟩

def key0 : CKey := ⟨3, 2, 5, 0, false⟩
def peer0 : Peer := ⟨key0, 0, 123, false, []⟩
def ptp0 : PtpIn := ⟨3, peer0, ⟨0, 0⟩, 0, false, 7, 0x1234, 1, 0, none⟩
def ann0 : AnnounceBody := ⟨6, 0x21, 0, 128, 128, 0x99, 0, 37, true, false, false, true, true, true, 0x20, none⟩
/-- A message whose AUTHENTICATION TLV protects no octets of it. -/
def ptpBad : PtpIn := { ptp0 with auth := some ⟨0, 0, 0, true, [], []⟩ }
def rx0 : RxFrame := ⟨[], ⟨0, 0⟩, false, false, false, 0, 0, 0, [], true⟩
def hello0 : Hello := ⟨0, 2, true, 0, 1, 0⟩
def baton0 : Baton := ⟨2, 1, true, false, true, true, 0, 0, none, none, 0, 2, false, false, 0, 0, 0, 0, 0, 0, 0, [], 0, 0, 0, 0, 0, 0, 0, [], [], 0, 0, 0, 0, 0,
  false, 0⟩
def fit0 : Baton := { baton0 with role := 3 }
def cc0 : CodeCount := ⟨0, 0, 0, 0⟩

/-- A state with register fields set. -/
def sets (s : State) (l : List (Fld × Nat)) : State := l.foldl (fun u x => u.put x.1 x.2) s

/-- A state in which ring commands run: the host interface READY, CMD ring 0 ACTIVE with CPL ring 1 of 64 entries, session 2 the
INSTALLER's and session 3 the MAKER's; after reset else. -/
def s1 : State := sets { State.reset with roles := { State.reset.roles with sessions := [(2, ⟨2, 0, 0, 0⟩), (3, ⟨3, 0, 0, 0⟩)] } }
  [(Reg.HIF_STATUS_STATE, 1), (Reg.RING_STATUS_STATE 0, 1), (Reg.RING_CFG_PARTNER 0, 1), (Reg.RING_STATUS_STATE 1, 1), (Reg.RING_CFG_TYPE 1, 1),
    (Reg.RING_CFG_SIZE_LOG2 1, 6)]

/-- What Ready says, as a test. -/
def ready (s : State) (c : Ctx) (o : OpInfo) : Bool :=
  (findFlight s.hif.inflight c.ring c.tag).isNone && s.live c o && hasRight (s.sessionRole c.ring c.session) o.role
    && (decide (s.phase ≠ 8) || o.boot) && (! o.carried || ! s.follower)

theorem ready_iff (s : State) (c : Ctx) (o : OpInfo) : ready s c o = true ↔ Ready s c o := by
  simp only [ready, Bool.and_eq_true, Bool.or_eq_true, decide_eq_true_eq, Option.isNone_iff_eq_none, Bool.not_eq_true']
  exact ⟨fun ⟨⟨⟨⟨a, b⟩, d⟩, e⟩, f⟩ => ⟨a, b, d, e, f⟩, fun ⟨a, b, d, e, f⟩ => ⟨⟨⟨⟨a, b⟩, d⟩, e⟩, f⟩⟩

/-- A state at an edge that has brought the time to some ns, from the epoch. -/
def atNs (s : State) (ns : Nat) : State := { s with tc := { s.tc with time := ns * 2 ^ 52 } }

/-- A unit's record in a state. -/
def unitAt (s : State) (h : Nat) (st : UnitSt) : State := { s with units := aput s.units h ⟨st, 0, 0, none, h⟩ }
/-- A term of each constructor that is well formed. -/
theorem test_wellFormed_1 : ([
    .nop c0 0, .abort c0 0 0, .unitEnable c0 0, .unitDisable c0 0, .unitReset c0 0, .unitState c0 0 0 0, .timeReset c0, .phaseAdj c0 0,
    .slewLimitSet c0 0, .stepThreshSet c0 0, .leapSet c0 0 0 0, .utcOffsetSet c0 0, .cmpArm c0 0 0 false false 0 0, .cmpDisarm c0 0,
    .laneForce c0 0, .laneRelease c0, .laneClear c0 0, .laneSet c0 0 0 0, .selModeSet c0 0 0 0 0 0, .hobSet c0 0 0, .modelReset c0,
    .tebPredict c0 0, .heatStart c0 0 0 0 0 0 0 0 0 0 0 0 0 0, .heatStop c0 0, .refinDelaySet c0 0 0, .warmSet c0, .timSet c0 0 0,
    .timCalibrate c0, .synSet c0 0 0 0, .synStart c0 0, .synStop c0 0, .synFreqStep c0 0 0 0, .outSet c0 0 0 0, .outAlign c0 0 0 0,
    .gnbSet c0 0 0, .gnssPosSet c0 0 0 0 0 0 0, .gnssNavLoad c0 0 0 [] [], .gnssNavRead c0 0 0 0, .gnssColdStart c0, .ptpInstSet c0 0 0 0,
    .ptpInstStart c0 0, .ptpInstStop c0 0, .ptpSaSet c0 0 0 0, .ptpClockIdSet c0 0] : List Instr).all wellFormed = true := by decide

/-- A term of each constructor that is well formed. -/
theorem test_wellFormed_2 : ([
    .ptpGrantCancel c0 0 none, .ntpSet c0 0 0, .keyInstall c0 0 0 none 0 0, .keyErase c0 0, .ntsCookieMake c0 0 0 0, .cltSet c0 0 0,
    .cltEntryAdd c0 key0 0 0 [], .cltEntryDel c0 key0, .cltEntryRead c0 key0 0, .cltDump c0 0 0 0, .cltFlush c0, .portSet c0 0 0 0,
    .portLinkReset c0 0, .seize c0, .yield c0 0, .twnResync c0, .twnSet c0 0 0, .fabSet c0 0 0, .pfSnapshot c0 0 false 0, .pmcSet c0 0 0,
    .logRead c0 0 0 0 0, .sessionChallenge c0 0 0, .sessionOpen c0 0 false 0, .sessionClose c0 0, .roleKeySet c0 0 false 0,
    .pwrDomainSet c0 0 0, .fieldReset c0, .bistRun c0 0 [], .fwUpdate c0 0 0 0 0, .fuseWrite c0 0 0, .trimSet c0 0 0, .lockSet a0,
    .hifKick a0, .ringEnable 0 a0, .ringDisable 0 a0, .pfRelease a0, .flush 0 a0, .pmcClear 0 a0, .w1cWrite a0, .rcRead .host 0 false,
    .loRead .host 0 false, .linearLoRead .host false, .hiWrite a0, .loWrite a0] : List Instr).all wellFormed = true := by decide

/-- A term of each constructor that is well formed. -/
theorem test_wellFormed_3 : ([
    .registerWrite a0, .defaultHit 0 0 false false, .doorbellPoll false [] false, .statusBlockWrite false, .modTimeExpiry 0,
    .ringStopped 0, .hostReset 0, .recordQueueDelivery 0 false false, .hsTimeout 0 0, .parity 0 0, .drain 0 0 0, .speedLow 0,
    .unitFenced 0 0, .regionFenced 0 0, .dieFault 0 0 0, .unitResetDone 0 false, .unitsAbsent 0, .unitsPresent 0, .lapBoundary 0 0,
    .laneMeasurement 0 0, .los ⟨0, 0⟩, .qualTimeExpiry 0, .disqHoldExpiry 0, .wtrExpiry, .warnClear 0 0, .disagreeEnd 0 0, .shadowAnchor,
    .loopSettled, .modelRefit, .modelValid, .warmCleared, .warmTimeout, .buildoutRetired, .stepDone, .cmpFired 0, .leapCommitted,
    .leapApplied, .smearEnd, .markerLaunch, .markerArrival 0 false 0 0 false, .markerMissed 0, .noGoodMarker 0, .portCounterStep 0,
    .startEdge 0 0] : List Instr).all wellFormed = true := by decide

/-- A term of each constructor that is well formed. -/
theorem test_wellFormed_4 : ([
    .stopEdge 0 0, .windowExpiry 0, .calSlotStart 0, .calHandover 0, .calReconnect 0 0 0 0, .calReturn 0, .calStale 0, .takeBack ⟨0, 0⟩,
    .followerTick, .lockWindow 0 0 0 0, .cycleSlip 0, .bandCalDone 0 false 0 0 0, .acquireTimeout 0, .relockDelayExpiry 0,
    .relockRelease 0 0 0, .synHoldEnd, .clockWalkStep 0, .pulseEdge 0, .todMessage 0, .sampleCheck cc0 cc0 cc0 cc0, .channelAssign [],
    .acqDwell 0 0 0, .pullInLocked 0, .pullinTimeExpiry 0, .carrierLockLost ⟨0, []⟩, .codeLockLost ⟨0, 0⟩, .reacqTimeExpiry 0, .epoch [],
    .solution [] 0 0 0 0, .solutionTimeout, .navDecode 0 0 0 0 [] none, .surveyDone, .syncTx 0 none false, .announceTx 0 none false,
    .pdelayReqTx 0, .delayReqTx 0, .delayReq ptp0, .pdelayReq ptp0, .pdelayRespRx ptp0 0, .requestUnicastTransmission ptp0 [],
    .cancelUnicastTransmission ptp0 [], .grantExpiry key0 0, .grantRx ptp0 [], .grantRenewal 0 0 0] : List Instr).all wellFormed = true := by decide

/-- A term of each constructor that is well formed. -/
theorem test_wellFormed_5 : ([
    .announceRx ptp0 ann0 none, .syncRx ptp0 0 none, .delayRespRx ptp0 0, .announceTimeout 0, .losTimeExpiry 0, .saSwitch 0,
    .ntpRequest peer0 ⟨0, 0⟩ [], .ntsRequest peer0 ⟨0, 0⟩ [], .ntsLaunch 0 0, .mkSwitch, .ageSweep 0 0, .tableReady, .linkAlign 0,
    .linkUp 0 0, .alignTimeout 0, .linkDown 0 false false, .frameReceived 0 rx0, .pauseFrame 0 false ⟨0, 0⟩ [], .pauseExpiry 0 0, .pauseWd 0,
    .wdIgnoreEnd 0 0, .hostFrameFetch 0 false, .frameTransmit 0 0 false, .esmcPdu 0 0 0 0 0 0 0 false, .esmcTimeout 0, .esmcInfoTx 0,
    .esmcEventTx 0, .pairTrained 0 hello0 0, .trainingTimeout 0, .pairDown 0 0, .relayMarkerRx 0 0 0, .batonTx, .batonRx baton0 0,
    .batonDue, .journalRecord ⟨0, 0, 0, 0, 0, 0, []⟩ 0, .journalAckTimeout, .fenceChange false false, .fenceFaultClear,
    .senseWindow false, .promotion, .seizeFrame, .seizeHoldExpiry, .handover, .resyncReq false] : List Instr).all wellFormed = true := by decide

/-- A term of each constructor that is well formed. -/
theorem test_wellFormed_6 : ([
    .resyncDone ⟨0, 0, [], [], [], [], 0, 0⟩, .listenExpiry, .sideBWaitExpiry, .pfTrig false, .pfLatch ⟨[], []⟩, .pfTaken, .dump,
    .sessionIdleTimeout 0, .challengeExpiry 0, .lockoutEnd 0, .drbgReseed, .healthFail 0, .drbgWithheld, .withholdingFault,
    .packageReset 0, .keeperCheck false false false, .tclkPllLock, .oscMissing 0, .fwBoot 0 0 0 0, .timeRecovery 0, .trackUp, .fieldUp,
    .dramTrain false 0 0 0 0, .dramRetrain, .fieldRestored 0, .keeperWrite 0 none, .vbatLow 0, .brownOut, .d3hot false, .vectorUnmask 0,
    .hostBack, .noLatch [], .relockRetry 0, .carrierLockSet ⟨0, []⟩, .bitSync 0, .onCell false 0] : List Instr).all wellFormed = true := by decide

/-- A term for each check that the check refuses. -/
theorem test_illFormed_1 : ([
    .nop cRing 0, .nop c0 (256 ^ 8), .abort cRing 0 0, .abort c0 64 0, .abort c0 0 (256 ^ 4), .unitEnable cRing 0,
    .unitEnable c0 (256 ^ 2), .unitDisable cRing 0, .unitDisable c0 (256 ^ 2), .unitReset cRing 0, .unitReset c0 (256 ^ 2),
    .unitState cRing 0 0 0, .unitState c0 (256 ^ 2) 0 0, .unitState c0 0 (256 ^ 8) 0, .unitState c0 0 0 (256 ^ 4), .timeReset cRing,
    .phaseAdj cRing 0, .phaseAdj c0 (256 ^ 8 / 2), .phaseAdj c0 (-(256 ^ 8 / 2) - 1), .slewLimitSet cRing 0, .slewLimitSet c0 (256 ^ 8),
    .stepThreshSet cRing 0, .stepThreshSet c0 (256 ^ 4), .leapSet cRing 0 0 0, .leapSet c0 (256 ^ 2) 0 0, .leapSet c0 0 (256 ^ 1) 0,
    .leapSet c0 0 0 (256 ^ 1 / 2), .leapSet c0 0 0 (-(256 ^ 1 / 2) - 1), .utcOffsetSet cRing 0, .utcOffsetSet c0 (256 ^ 2 / 2),
    .utcOffsetSet c0 (-(256 ^ 2 / 2) - 1), .cmpArm cRing 0 0 false false 0 0, .cmpArm c0 (256 ^ 1) 0 false false 0 0,
    .cmpArm c0 0 (256 ^ 1) false false 0 0, .cmpArm c0 0 0 false false (256 ^ 10) 0, .cmpArm c0 0 0 false false 0 (256 ^ 10),
    .cmpDisarm cRing 0, .cmpDisarm c0 (256 ^ 1), .laneForce cRing 0, .laneForce c0 (256 ^ 1), .laneRelease cRing, .laneClear cRing 0,
    .laneClear c0 (256 ^ 1), .laneSet cRing 0 0 0] : List Instr).any wellFormed = false := by decide

/-- A term for each check that the check refuses. -/
theorem test_illFormed_2 : ([
    .laneSet c0 (256 ^ 1) 0 0, .laneSet c0 0 (256 ^ 4) 0, .laneSet c0 0 0 (256 ^ 4), .selModeSet cRing 0 0 0 0 0,
    .selModeSet c0 (256 ^ 1) 0 0 0 0, .selModeSet c0 0 (256 ^ 2) 0 0 0, .selModeSet c0 0 0 (256 ^ 4) 0 0, .selModeSet c0 0 0 0 (256 ^ 4) 0,
    .selModeSet c0 0 0 0 0 (256 ^ 4), .hobSet cRing 0 0, .hobSet c0 (256 ^ 4) 0, .hobSet c0 0 (256 ^ 4), .modelReset cRing,
    .tebPredict cRing 0, .tebPredict c0 (256 ^ 4), .heatStart cRing 0 0 0 0 0 0 0 0 0 0 0 0 0,
    .heatStart c0 (256 ^ 1) 0 0 0 0 0 0 0 0 0 0 0 0, .heatStart c0 0 (256 ^ 1) 0 0 0 0 0 0 0 0 0 0 0,
    .heatStart c0 0 0 (256 ^ 1) 0 0 0 0 0 0 0 0 0 0, .heatStart c0 0 0 0 (256 ^ 1) 0 0 0 0 0 0 0 0 0,
    .heatStart c0 0 0 0 0 (256 ^ 1) 0 0 0 0 0 0 0 0, .heatStart c0 0 0 0 0 0 (256 ^ 1) 0 0 0 0 0 0 0,
    .heatStart c0 0 0 0 0 0 0 (256 ^ 2) 0 0 0 0 0 0, .heatStart c0 0 0 0 0 0 0 0 (256 ^ 4) 0 0 0 0 0,
    .heatStart c0 0 0 0 0 0 0 0 0 (256 ^ 1) 0 0 0 0, .heatStart c0 0 0 0 0 0 0 0 0 0 (256 ^ 4) 0 0 0,
    .heatStart c0 0 0 0 0 0 0 0 0 0 0 (256 ^ 1) 0 0, .heatStart c0 0 0 0 0 0 0 0 0 0 0 0 (256 ^ 1) 0,
    .heatStart c0 0 0 0 0 0 0 0 0 0 0 0 0 (256 ^ 1), .heatStop cRing 0, .heatStop c0 (256 ^ 1), .refinDelaySet cRing 0 0,
    .refinDelaySet c0 (256 ^ 1) 0, .refinDelaySet c0 0 (256 ^ 4 / 2), .refinDelaySet c0 0 (-(256 ^ 4 / 2) - 1), .warmSet cRing,
    .timSet cRing 0 0, .timSet c0 (256 ^ 4) 0, .timSet c0 0 (256 ^ 4), .timCalibrate cRing, .synSet cRing 0 0 0, .synSet c0 (256 ^ 1) 0 0,
    .synSet c0 0 (256 ^ 4) 0, .synSet c0 0 0 (256 ^ 4)] : List Instr).any wellFormed = false := by decide

/-- A term for each check that the check refuses. -/
theorem test_illFormed_3 : ([
    .synStart cRing 0, .synStart c0 (256 ^ 1), .synStop cRing 0, .synStop c0 (256 ^ 1), .synFreqStep cRing 0 0 0,
    .synFreqStep c0 (256 ^ 1) 0 0, .synFreqStep c0 0 (256 ^ 8) 0, .synFreqStep c0 0 0 (256 ^ 2), .outSet cRing 0 0 0,
    .outSet c0 (256 ^ 2) 0 0, .outSet c0 0 (256 ^ 4) 0, .outSet c0 0 0 (256 ^ 4), .outAlign cRing 0 0 0, .outAlign c0 (256 ^ 4) 0 0,
    .outAlign c0 0 (256 ^ 1) 0, .outAlign c0 0 0 (256 ^ 4), .gnbSet cRing 0 0, .gnbSet c0 (256 ^ 4) 0, .gnbSet c0 0 (256 ^ 4),
    .gnssPosSet cRing 0 0 0 0 0 0, .gnssPosSet c0 (256 ^ 1) 0 0 0 0 0, .gnssPosSet c0 0 (256 ^ 8 / 2) 0 0 0 0,
    .gnssPosSet c0 0 (-(256 ^ 8 / 2) - 1) 0 0 0 0, .gnssPosSet c0 0 0 (256 ^ 8 / 2) 0 0 0, .gnssPosSet c0 0 0 (-(256 ^ 8 / 2) - 1) 0 0 0,
    .gnssPosSet c0 0 0 0 (256 ^ 8 / 2) 0 0, .gnssPosSet c0 0 0 0 (-(256 ^ 8 / 2) - 1) 0 0, .gnssPosSet c0 0 0 0 0 (256 ^ 4) 0,
    .gnssPosSet c0 0 0 0 0 0 (256 ^ 4), .gnssNavLoad cRing 0 0 [] [], .gnssNavLoad c0 (256 ^ 8) 0 [] [], .gnssNavLoad c0 0 (256 ^ 4) [] [],
    .gnssNavRead cRing 0 0 0, .gnssNavRead c0 (256 ^ 8) 0 0, .gnssNavRead c0 0 (256 ^ 4) 0, .gnssNavRead c0 0 0 (256 ^ 1),
    .gnssColdStart cRing, .ptpInstSet cRing 0 0 0, .ptpInstSet c0 (256 ^ 1) 0 0, .ptpInstSet c0 0 (256 ^ 4) 0,
    .ptpInstSet c0 0 0 (256 ^ 4), .ptpInstStart cRing 0, .ptpInstStart c0 (256 ^ 1), .ptpInstStop cRing 0] : List Instr).any wellFormed = false := by decide

/-- A term for each check that the check refuses. -/
theorem test_illFormed_4 : ([
    .ptpInstStop c0 (256 ^ 1), .ptpSaSet cRing 0 0 0, .ptpSaSet c0 (256 ^ 1) 0 0, .ptpSaSet c0 0 (256 ^ 4) 0, .ptpSaSet c0 0 0 (256 ^ 4),
    .ptpClockIdSet cRing 0, .ptpClockIdSet c0 (256 ^ 8), .ptpGrantCancel cRing 0 none, .ptpGrantCancel c0 (256 ^ 1) none,
    .ntpSet cRing 0 0, .ntpSet c0 (256 ^ 4) 0, .ntpSet c0 0 (256 ^ 4), .keyInstall cRing 0 0 none 0 0, .keyInstall c0 (256 ^ 2) 0 none 0 0,
    .keyInstall c0 0 (256 ^ 1) none 0 0, .keyInstall c0 0 0 none (256 ^ 8) 0, .keyInstall c0 0 0 none 0 (256 ^ 4), .keyErase cRing 0,
    .keyErase c0 (256 ^ 2), .ntsCookieMake cRing 0 0 0, .ntsCookieMake c0 (256 ^ 1) 0 0, .ntsCookieMake c0 0 (256 ^ 8) 0,
    .ntsCookieMake c0 0 0 (256 ^ 8), .cltSet cRing 0 0, .cltSet c0 (256 ^ 4) 0, .cltSet c0 0 (256 ^ 4), .cltEntryAdd cRing key0 0 0 [],
    .cltEntryAdd c0 key0 (256 ^ 1) 0 [], .cltEntryAdd c0 key0 0 (256 ^ 1) [], .cltEntryDel cRing key0, .cltEntryRead cRing key0 0,
    .cltEntryRead c0 key0 (256 ^ 8), .cltDump cRing 0 0 0, .cltDump c0 (256 ^ 4) 0 0, .cltDump c0 0 (256 ^ 4) 0, .cltDump c0 0 0 (256 ^ 8),
    .cltFlush cRing, .portSet cRing 0 0 0, .portSet c0 (256 ^ 1) 0 0, .portSet c0 0 (256 ^ 4) 0, .portSet c0 0 0 (256 ^ 4),
    .portLinkReset cRing 0, .portLinkReset c0 (256 ^ 1), .seize cRing] : List Instr).any wellFormed = false := by decide

/-- A term for each check that the check refuses. -/
theorem test_illFormed_5 : ([
    .yield cRing 0, .yield c0 (256 ^ 1), .twnResync cRing, .twnSet cRing 0 0, .twnSet c0 (256 ^ 4) 0, .twnSet c0 0 (256 ^ 4),
    .fabSet cRing 0 0, .fabSet c0 (256 ^ 4) 0, .fabSet c0 0 (256 ^ 4), .pfSnapshot cRing 0 false 0, .pfSnapshot c0 (256 ^ 10) false 0,
    .pfSnapshot c0 0 false (256 ^ 8), .pmcSet cRing 0 0, .pmcSet c0 (256 ^ 4) 0, .pmcSet c0 0 (256 ^ 4), .logRead cRing 0 0 0 0,
    .logRead c0 (256 ^ 1) 0 0 0, .logRead c0 0 (256 ^ 4) 0 0, .logRead c0 0 0 (256 ^ 2) 0, .logRead c0 0 0 0 (256 ^ 8),
    .sessionChallenge cRing 0 0, .sessionChallenge c0 (256 ^ 1) 0, .sessionChallenge c0 0 (256 ^ 8), .sessionOpen cRing 0 false 0,
    .sessionOpen c0 (256 ^ 4) false 0, .sessionOpen c0 0 false (256 ^ 8), .sessionClose cRing 0, .sessionClose c0 (256 ^ 1),
    .roleKeySet cRing 0 false 0, .roleKeySet c0 (256 ^ 1) false 0, .roleKeySet c0 0 false (256 ^ 8), .pwrDomainSet cRing 0 0,
    .pwrDomainSet c0 (256 ^ 1) 0, .pwrDomainSet c0 0 (256 ^ 1), .fieldReset cRing, .bistRun cRing 0 [], .bistRun c0 (256 ^ 4) [],
    .fwUpdate cRing 0 0 0 0, .fwUpdate c0 (256 ^ 1) 0 0 0, .fwUpdate c0 0 (256 ^ 8) 0 0, .fwUpdate c0 0 0 (256 ^ 4) 0,
    .fuseWrite cRing 0 0, .fuseWrite c0 (256 ^ 1) 0, .fuseWrite c0 0 (256 ^ 4)] : List Instr).any wellFormed = false := by decide

/-- A term for each check that the check refuses. -/
theorem test_illFormed_6 : ([
    .trimSet cRing 0 0, .trimSet c0 (256 ^ 1) 0, .trimSet c0 0 (256 ^ 4), .lockSet aOdd, .hifKick aOdd, .ringEnable 64 a0,
    .ringEnable 0 aOdd, .ringDisable 64 a0, .ringDisable 0 aOdd, .pfRelease aOdd, .flush 6 a0, .flush 0 aOdd, .pmcClear 8 a0,
    .pmcClear 0 aOdd, .w1cWrite aOdd, .rcRead .host 2 false, .rcRead .host (2 ^ 24) false, .loRead .host 2 false,
    .loRead .host (2 ^ 24) false, .hiWrite aOdd, .loWrite aOdd, .registerWrite aOdd, .modTimeExpiry 64, .ringStopped 64,
    .recordQueueDelivery 6 false false, .parity 65536 0, .unitFenced 65536 0, .regionFenced 65536 0, .dieFault 2 0 0, .dieFault 0 65536 0,
    .unitResetDone 65536 false, .unitsAbsent 14, .unitsPresent 14, .laneMeasurement 16 0, .los ⟨16, 0⟩, .qualTimeExpiry 16, .disqHoldExpiry 16,
    .warnClear 16 0, .warnClear 0 3, .disagreeEnd 16 0, .disagreeEnd 0 17, .cmpFired 16, .markerArrival 4 false 0 0 false, .markerMissed 4] : List Instr).any wellFormed = false := by decide

/-- A term for each check that the check refuses. -/
theorem test_illFormed_7 : ([
    .noGoodMarker 4, .portCounterStep 4, .startEdge 24 0, .startEdge 0 102400, .stopEdge 24 0, .stopEdge 0 102400, .windowExpiry 24,
    .calSlotStart 25, .calHandover 25, .calReconnect 25 0 0 0, .calReturn 25, .calStale 25, .takeBack ⟨24, 0⟩, .lockWindow 4 0 0 0,
    .cycleSlip 4, .bandCalDone 4 false 0 0 0, .acquireTimeout 4, .relockDelayExpiry 4, .relockRelease 4 0 0, .clockWalkStep 24,
    .pulseEdge 8, .syncTx 4 none false, .announceTx 4 none false, .pdelayReqTx 4, .delayReqTx 4, .grantExpiry key0 4, .grantRenewal 4 0 0,
    .announceTimeout 4, .losTimeExpiry 4, .saSwitch 4, .ntsLaunch 4 0, .linkAlign 4, .linkUp 4 0, .alignTimeout 4, .linkDown 4 false false,
    .frameReceived 4 rx0, .pauseFrame 4 false ⟨0, 0⟩ [], .pauseExpiry 4 0, .pauseWd 4, .wdIgnoreEnd 4 0, .hostFrameFetch 4 false,
    .frameTransmit 4 0 false, .esmcPdu 4 0 0 0 0 0 0 false, .esmcTimeout 4] : List Instr).any wellFormed = false := by decide

/-- A term for each check that the check refuses. -/
theorem test_illFormed_8 : ([
    .esmcInfoTx 4, .esmcEventTx 4, .pairTrained 2 hello0 0, .trainingTimeout 2, .pairDown 2 0, .relayMarkerRx 2 0 0, .vectorUnmask 32,
    .relockRetry 4, .nop cTag 0, .nop cSession 0, .registerWrite aFar, .registerWrite aWide,
    .delayReq ptpBad, .pdelayReq ptpBad, .pdelayRespRx ptpBad 0, .requestUnicastTransmission ptpBad [], .cancelUnicastTransmission ptpBad [],
    .grantRx ptpBad [], .announceRx ptpBad ann0 none, .syncRx ptpBad 0 none, .delayRespRx ptpBad 0] : List Instr).any wellFormed = false := by decide
/-! ## A state for the hypotheses of each statement -/

/-- Every ring command of session 2's or a lower role can run in s1, and every one of session 3's (the hypothesis Ready of the statements). -/
theorem test_ready : ([opNop, opAbort, opUnitEnable, opUnitDisable, opUnitReset, opUnitState, opTimeReset, opPhaseAdj, opSlewLimitSet, opStepThreshSet,
    opLeapSet, opUtcOffsetSet, opCmpArm, opCmpDisarm, opLaneForce false, opLaneRelease, opLaneClear, opLaneSet, opSelModeSet, opHobSet, opModelReset,
    opTebPredict, opHeatStart, opHeatStop, opRefinDelaySet, opWarmSet, opTimSet, opSynSet, opSynStart, opSynStop, opSynFreqStep, opOutSet, opOutAlign,
    opGnbSet, opGnssPosSet, opGnssNavLoad, opGnssNavRead, opGnssColdStart, opPtpInstSet, opPtpInstStart, opPtpInstStop, opPtpSaSet, opPtpClockIdSet,
    opPtpGrantCancel, opNtpSet, opKeyInstall, opKeyErase, opCookieMake, opCltSet, opCltAdd, opCltDel, opCltRead, opCltDump, opCltFlush, opPortSet,
    opLinkReset, opSeize, opYield, opTwnResync, opTwnSet, opFabSet 0, opFabSet 0x100, opPfSnapshot, opPmcSet, opLogRead, opSessionChallenge,
    opSessionOpen, opSessionClose, opRoleKeySet 1, opRoleKeySet 3, opPwrDomainSet 0, opPwrDomainSet 1].all fun o => ready s1 c2 o) = true := by decide

theorem test_ready_maker : ([{ opTimSet with role := 3 }, opRoleKeySet 2, opPwrDomainSet 2, opBistRun, opFwUpdate, opFuseWrite, opTrimSet,
    opTimCalibrate].all fun o => ready s1 c3 o) = true := by decide

/-- And on a STANDBY twin those that are not carried, and in RECOVERY those the boot ROM takes. -/
theorem test_ready_standby : ([opTwnResync, opSeize, opFabSet 0x100, opCmpArm, opLaneForce true].all fun o => ready (s1.put Reg.TWN_STATUS_ROLE 3) c2 o) = true ∧
    ready (s1.put Reg.PWR_STATUS_PHASE 8) c2 opNop = true ∧ ready (s1.put Reg.PWR_STATUS_PHASE 8) c3 opFwUpdate = true := by decide

theorem test_witness_QueueOrder : Steps State.reset State.reset ∧ Steps { State.reset with pending := [.wtrExpiry, .seizeFrame] }
    { State.reset with pending := [.seizeFrame] } ∧ Steps (State.reset.put Reg.PWR_STATUS_PHASE 2) (State.reset.put Reg.PWR_STATUS_PHASE 2).tclk :=
  ⟨rfl, rfl, rfl⟩

theorem test_witness_StepsKeepSound : Sound State.reset ∧ Steps State.reset State.reset :=
  ⟨⟨by decide, by decide, by decide, by decide, by decide, by decide, by decide, by decide⟩, rfl⟩

theorem test_witness_CommandCompletion :
    findFlight s1.hif.inflight 0 5 = none ∧ s1.live c0 opHobSet = true ∧ hasRight (s1.sessionRole 0 0) opHobSet.role = false ∧
    (hasRight (s1.sessionRole 0 2) opHobSet.role = true ∧ (s1.put Reg.PWR_STATUS_PHASE 8).phase = 8 ∧ opHobSet.boot = false) ∧
    (opHobSet.carried = true ∧ (s1.put Reg.TWN_STATUS_ROLE 3).follower = true) ∧
    (Memory.wf s1.mem = true ∧ s1.hif.inflight = [] ∧ s1.get (Reg.RING_CFG_PARTNER 0) = 1 ∧ s1.ringSt 1 = 1 ∧ s1.hif.d3hot = false) := by decide

theorem test_witness_CompareUnits :
    (diff80 ((2 ^ 78 - 1) % 2 ^ 80) s1.now80).natAbs < 2 ^ 62 * 2 ^ 16 ∧ 2 ^ 62 * 2 ^ 16 ≤ (diff80 (2 ^ 78 % 2 ^ 80) s1.now80).natAbs ∧
    (s1.put (Reg.CMP_CTRL_ARMED 15) 1).get (Reg.CMP_CTRL_ARMED 15) = 1 ∧ 0 ≤ diff80 s1.now80 (s1.cmpTgt 15) := by decide

/-- A leap announced from a GNSS lane, which is up. -/
def leapHeld : State := (sets s1 [(Reg.TCO_STATUS_LEAP_PENDING, 1), (Reg.LANE_CFG_SOURCE 0, 8), (Reg.LANE_STATE_STATE 0, 3)]).setVar .leapSrc 1

theorem test_witness_LeapSecond : s1.get Reg.TCO_STATUS_LEAP_COMMITTED = 0 ∧ s1.get Reg.TCO_STATUS_LEAP_PENDING = 0 ∧ s1.var .leapSrc ≠ 1 ∧
    43200 * (1000000000 * 2 ^ 52) ≤ ((monthEnd 1970 1 : Int) + s1.utcNow + 1) * (1000000000 * 2 ^ 52) - s1.tc.time ∧
    (let s := { s1 with tc := { s1.tc with time := ((monthEnd 1970 1 : Int) + s1.utcNow + 1 - 43200).toNat * (1000000000 * 2 ^ 52) + 1 } }
     ((monthEnd 1970 1 : Int) + s.utcNow + 1) * (1000000000 * 2 ^ 52) - s.tc.time < 43200 * (1000000000 * 2 ^ 52)) ∧
    (leapHeld.get Reg.TCO_STATUS_LEAP_COMMITTED = 0 ∧ leapHeld.get Reg.TCO_STATUS_LEAP_PENDING = 1 ∧ leapHeld.var .leapSrc = 1 ∧
      leapHeld.hostOnly = false ∧ leapHeld.gnssLaneUp = true) ∧
    (let s := sets s1 [(Reg.TCO_STATUS_SMEAR_ACTIVE, 1)] |>.setVar .smearL (-43200); s.get Reg.TCO_STATUS_SMEAR_ACTIVE = 1 ∧ s.var .smearL + 43200 ≤ s.secs) ∧
    (let s := sets s1 [(Reg.TCO_STATUS_LEAP_PENDING, 1)]; s.get Reg.TCO_STATUS_LEAP_PENDING = 1 ∧ s.get Reg.TCO_STATUS_LEAP_COMMITTED = 0 ∧
      0 ≤ linDiff s.linear s.leapAt + 43200 * 1000000000) ∧
    (let s := sets s1 [(Reg.TCO_STATUS_LEAP_COMMITTED, 1)]; s.get Reg.TCO_STATUS_LEAP_COMMITTED = 1 ∧ 0 ≤ linDiff s.linear s.leapAt) := by decide

theorem test_witness_TimeBus : (let s := { s1 with tc := { s1.tc with time := 1600 * 2 ^ 52, plan := some ⟨1, 0, 0, 1⟩, edges := 1 } };
      s.crosses 1600 = true ∧ s.var .markerEdge ≠ (s.tc.edges : Int) + 1) ∧ s1.tbState 3 ≠ 3 ∧ (s1.put Reg.TB_STATUS_STATE 64).tbState 3 = 1 ∧ ((s1.put Reg.TB_STATUS_STATE 128).setTimer
    (.tbQuiet 3) 0).due (.tbQuiet 3) = true := by decide

theorem test_witness_Discipline : s1.boundAnchored = true ∧ s1.selKind = 0 ∧ (s1.put Reg.HOB_LOCK_HIST_SECONDS 300).modelValid = true ∧ s1.modelValid = false := by decide

theorem test_witness_SelectorCommands : (s1.put (Reg.LANE_STATE_STATE 15) 3).laneSt 15 = 3 ∧
    (s1.put (Reg.LANE_STATE_STATE 15) 3).laneType 15 ≠ 3 := by decide

/-- A lane of pin 0, 1 PPS, with a rank, up. -/
def laneUp (st : Nat) : State :=
  unitAt ((sets s1 [(Reg.LANE_STATE_STATE 15, st), (Reg.LANE_CFG_RANK 15, 1)]).setLane 15 { up := true }) (0x0100 + 15) .enabled

theorem test_witness_LaneEvents :
    ((laneUp 3).laneSt 15 ≠ 0 ∧ (laneUp 3).laneOn 15 = true ∧ (laneUp 3).synceOut 15 = false ∧ ((laneUp 3).put (Reg.LANE_CFG_SOURCE 15) 0x13).synceOut 15 = true) ∧ ((laneUp 4).laneSt 15 = 4 ∧ (laneUp 4).var .frozen = 0) ∧
    ((laneUp 3).losDue 15 0 = false ∧ (laneUp 4).losDue 15 (2 ^ 64) = true) ∧
    (let s := atNs (((laneUp 2).setTimer (.qual 15) 0).put Reg.PWR_STATUS_PHASE 7) lapNs; s.atLap = true ∧ s.selectorOn = true ∧ s.laneSt 15 = 2 ∧ s.due (.qual 15) = true ∧ s.laneRank 15 ≠ 0 ∧ s.lostCause 15 = none ∧
      s.limitCause 15 = none ∧ s.inHoldover = false) ∧
    (let s := atNs (((laneUp 6).setTimer (.disq 15) 0).put Reg.PWR_STATUS_PHASE 7) lapNs; s.atLap = true ∧ s.selectorOn = true ∧ s.laneSt 15 = 6 ∧ s.due (.disq 15) = true ∧ s.laneRank 15 ≠ 0 ∧
      s.lostCause 15 = none) ∧
    (let s := s1.put Reg.HOB_LOCK_HIST_SECONDS 300; s.modelValid = true ∧ s.var .shadowOn = 0) := by decide

def par0 : HeatPar := ⟨0, 0, 0x3F, 1, 8, 65535, 2000000, 1, 1000000000, 1, 1, 8⟩

theorem test_witness_IntervalCommands : (let s := unitAt s1 (tdcHid 23) .enabled; par0.ok = true ∧ s.servesLane 23 = false ∧ s.heatRuns 23 = false ∧
    s.tdcWorks 23 = true) ∧ (s1.put (Reg.TDC_STATE_HEAT_STATE 23) 1).heatSt 23 = 1 ∧ s1.var (.tdcLeaving 23) = 0 ∧ s1.cur = none := by decide

/-- A heat that is open, of 2 of 2 splits with one in. -/
def heatOpen : State := (sets s1 [(Reg.TDC_STATE_HEAT_STATE 23, 2), (Reg.TDC_CFG_SPLITS 23, 2), (Reg.TDC_HEAT_N 23, 2), (Reg.TDC_CFG_STOP_SRC 23, 1),
  (Reg.TDC_WINDOW_WINDOW 23, 1)]).setHeat 23
  { meas := some ⟨0, 0, 0, [], 0, false, false, false⟩ }

theorem test_witness_IntervalEvents :
    (let s := sets s1 [(Reg.TDC_STATE_HEAT_STATE 23, 1), (Reg.TDC_CFG_STOP_SRC 23, 1)]; s.sameInput 23 = false ∧ s.heatSt 23 = 1 ∧
      (s.heat 23).meas = none ∧ (s.heat 23).waiting = [] ∧ inDeadTime (s.heat 23).lastStart (s.stampTclk 102399) = false) ∧
    (let s := heatOpen; s.sameInput 23 = false ∧ s.heatSt 23 = 2 ∧ (s.heat 23).meas = some ⟨0, 0, 0, [], 0, false, false, false⟩ ∧
      ([] : List (Int × Bool)).length + 1 < s.get (Reg.TDC_CFG_SPLITS 23) ∧ inDeadTime (s.heat 23).lastStop (s.stampTclk 102399) = false ∧
      let x := (s.scaled 23 (s.get (Reg.TDC_CFG_STOP_SRC 23)) 102399 - 0) - (s.heatSteps 23 - 0)
      x ≤ s.get (Reg.TDC_WINDOW_WINDOW 23) * 65536000 ∧ -s.signedWin 23 ≤ x ∧ ¬ -s.signedWin 23 ≤ x - 2 ^ 17) ∧
    (let s := heatOpen.setTimer (.tdcWindow 23) 0; s.sameInput 23 = false ∧ s.heatSt 23 = 2 ∧ s.due (.tdcWindow 23) = true ∧ s.get (Reg.TDC_CFG_KEEP 23) = 0 ∧
      s.var (.tdcLeaving 23) = 0 ∧
      s.get (Reg.TDC_HEAT_DONE 23) + 1 < s.get (Reg.TDC_HEAT_N 23)) := by decide

set_option maxRecDepth 4000 in
theorem test_witness_CalibrationAndWarmUp :
    (0 : Int).natAbs ≤ s1.get Reg.TIM_CAL_CTRL_CAL_TOL ∧
    (let s := ((s1.setVar .calUnit 24).setVar .calPhase 3).setVar .calOk 1 |>.setTimer .cal 0; s.var .calUnit = 23 + 1 ∧ s.var .calPhase = 3 ∧
      s.due .cal = true ∧ s.var .calOk = 1) ∧
    (let s := ((s1.setVar .calUnit 24).setVar .calPhase 4).setTimer .cal 0; s.var .calUnit = 23 + 1 ∧ s.var .calPhase = 4 ∧ s.due .cal = true) ∧
    (s1.get Reg.TIM_CAL_CTRL_STALE_AGE < s1.calAge 24 ∧ 24 ∉ s1.tim.stale) ∧
    (let s := atNs (unitAt (sets s1 [(Reg.TIM_STATUS_SPARE_SUBST, 1), (Reg.TIM_STATUS_SUBST_LANE, 23)]) (tdcHid 23) .enabled) secNs; s.atSecond = true ∧
      s.unitOn (tdcHid 23) = true ∧ s.get Reg.TIM_STATUS_SPARE_SUBST = 1 ∧ s.get Reg.TIM_STATUS_SUBST_LANE = 23 ∧ s.var .calUnit = 0 ∧ aget s.tim.moved 23 = none) ∧
    (let s := sets { s1 with tim := { s1.tim with warmRun := List.replicate 100 0 } } [(Reg.TIM_STATUS_WARMING, 1)]; s.get Reg.TIM_STATUS_WARMING = 1 ∧
      s.var .warmEdges = s.tc.edges ∧ s.tim.warmRun.length = 100 ∧ spread s.tim.warmRun ≤ 28147) ∧
    (let s := (sets s1 [(Reg.TIM_STATUS_WARMING, 1), (Reg.TIM_WARM_TIMEOUT, 1)]).setVar .warmAt (-1000000000); s.get Reg.TIM_STATUS_WARMING = 1 ∧
      s.get Reg.TIM_WARM_TIMEOUT ≠ 0 ∧ s.get Reg.TIM_WARM_TIMEOUT ≤ s.warmElapsed) ∧
    (s1.put Reg.TIM_STATUS_WARMING 0).get Reg.TIM_STATUS_WARMING = 0 := by decide

/-- Group 3 in a state. -/
def grpIn (st : Nat) : State := unitAt (s1.put (Reg.SYN_STATE_STATE 3) st) 0x1003 .enabled

theorem test_witness_SynthesisLossOfLock : ((grpIn 3).synSt 3 = 3 ∧ ((grpIn 3).grp 3).ramp = none) ∧
    (((grpIn 5).setGrp 3 { released := true }).synSt 3 = 5 ∧ (((grpIn 5).setGrp 3 { released := true }).grp 3).released = true) ∧
    (let s := (grpIn 4).setTimer (.relock 3) 0; s.synSt 3 = 4 ∧ s.unitFenced (0x1000 + 3) = false ∧ s.due (.relock 3) = true) ∧
    ((grpIn 5).synSt 3 = 5 ∧ ((grpIn 5).grp 3).released = false) ∧ (((grpIn 5).setGrp 3 { released := true, back := 1 }).grp 3).back ≠ 0 ∧
    ((grpIn 4).setGrp 3 { attempts := 1 } |>.grp 3).attempts ≠ 0 := by decide

theorem test_witness_SynthesisLock : (grpIn 1).synSt 3 = 1 ∧
    (let s := (grpIn 2).setTimer (.acquire 3) 0; s.synSt 3 = 2 ∧ s.due (.acquire 3) = true ∧ (s.grp 3).tries = 0) ∧
    ((grpIn 2).lockCfg 3).k ≠ 0 ∧ (let s := atNs s1 1000000; s.crosses 1000000 = true ∧
      s.var .tickEdge ≠ (s.tc.edges : Int) + 1) ∧ (let s := (grpIn 3).setTimer .synHold 0; s.due .synHold = true ∧ s.synSt 3 = 3) := by decide

/-- Clock output 15 and pulse output 7 in a state, from group 0, which is LOCKED. -/
def outIn (st : Nat) : State :=
  unitAt (sets s1 [(Reg.SYN_STATE_STATE 0, 3), (Reg.CLK_STATE_STATE 15, st), (Reg.PULSE_STATE_STATE 7, st), (Reg.CLK_CFG_GROUP 15, 0),
    (Reg.PULSE_CFG_GROUP 7, 0)]) 0x1000 .enabled

theorem test_witness_Outputs : alignRateOk 28147 = true ∧ alignRateOk 28147497671 = true ∧
    ((outIn 1).alignRefusal 23 = some Status.notFit ∧ ∀ j, j < 23 → bit (2 ^ 23) j = true → (outIn 1).alignRefusal j = none) ∧
    ((outIn 3).alignRefusal 23 = none ∧ (∀ i, i < 24 → bit (2 ^ 23) i = true → (outIn 3).alignRefusal i = none)) ∧
    ((outIn 2).outSt 15 = 2 ∧ (outIn 2).synSt ((outIn 2).outGrp 15) = 3) ∧
    (let s := (outIn 3).setGrp 0 { num := 25000000 }; let t := { s with tc := { s.tc with run := 2 ^ 120 } }; (t.outp 15).align = none ∧ t.mayWalk 15 = true ∧
      t.walkDue 15 = true) ∧
    ((outIn 3).outSt 23 = 3 ∧ ((outIn 3).outp 23).align = none) ∧ ((outIn 3).setOut 23 { active := some 0 } |>.outp 23).active = some 0 ∧ ((outIn 4).outSt (16 + 7) = 4) ∧
    (let s := unitAt s1 0x1301 .enabled; s.unitOn (0x1300 + 1) = true) := by decide

/-- Host memory with a navigation record of 20 bytes at 0: constellation 0, SVID 1, a body of 4 bytes, and its type. -/
def navMem (typ : Byte) : State := { s1 with mem := [(1, 1)] ++ (if typ = 0 then [] else [(2, typ)]) ++ [(4, 4)] }

theorem test_witness_GnssCommands : c2.dmaOk = true ∧ ready (navMem 2) c2 opGnssNavLoad = true ∧
    parseNav 21 (memRead (navMem 2).mem 0 20) = some [⟨0, 1, 2, true, 0, 0, [0, 0, 0, 0]⟩] ∧ parseNav 3 (memRead s1.mem 0 2) = none := by decide

/-- Channel 191 in a state. -/
def chanIn (st : Nat) : State := unitAt (s1.put (Reg.CH_STATUS_STATE 191) st) (chHid 191) .enabled

set_option maxRecDepth 4000 in
theorem test_witness_GnssChannels :
    (let a : AcqRec := ⟨191, 1, 9, 0, some 5, 0, 0⟩; let s := ({ chanIn 1 with gnss := { acq := [(3, a)] } }).setTimer (.dwell 3) 0; s.acq 3 = some a ∧ a.near (sigInfo (s.get (Reg.CH_STATUS_SIG 191))).chips 5 5 = true ∧
      s.due (.dwell 3) = true ∧ s.get Reg.GNB_ACQ_ACQ_THRESH < 2 ^ 16) ∧ s1.acq 3 = none ∧
    (let s := (chanIn 2).setTimer (.pullIn 191) 0; s.chSt 191 = 2 ∧ s.due (.pullIn 191) = true) ∧
    (let s := { sets (chanIn 2) [(Reg.CH_STATUS_CODE_LOCK 191, 1), (Reg.CH_STATUS_CARRIER_LOCK 191, 1)] with tc := { s1.tc with run := 2 ^ 80 } }
     s.chSt 191 = 2 ∧ s.get (Reg.CH_STATUS_CODE_LOCK 191) ≠ 0 ∧ s.get (Reg.CH_STATUS_CARRIER_LOCK 191) ≠ 0 ∧ (s.chan 191).lockAt + 100000000 ≤ s.runNs) ∧
    ((chanIn 3).pliSum ⟨191, List.replicate 100 900000⟩ = some 90000000 ∧ (chanIn 3).pliSum ⟨191, []⟩ = none) ∧
    (let s := (chanIn 4).setTimer (.reacq 191) 0; s.chSt 191 = 4 ∧ s.due (.reacq 191) = true) ∧ (chanIn 3).chSt 191 = 3 ∧
    (let s := unitAt (sets s1 [(Reg.GNB_SLI_CFG_L1_EN, 1), (Reg.GNB_SLI_CFG_L5_EN, 0)]) 0x2D00 .enabled; s.unitOn 0x2D00 = true ∧
      s.var .sliMs ≠ (s.runNs / 1000000 + 1 : Nat) ∧ s.get Reg.GNB_SLI_CFG_L1_EN = 1 ∧ s.get Reg.GNB_SLI_CFG_L5_EN = 0 ∧
      s.get Reg.GNB_SLI_STATUS_FAULT_L1 = 0) := by decide

/-- A running baseband with an epoch latched of some channels. -/
def latchIn (chans : List ChSnap) : State :=
  unitAt (unitAt (sets { s1 with gnss := { latch := some ⟨0, 0, 0, false, false, 0, 0, chans, 0, 0, false, s1.mark⟩, nav := [⟨0, 1, 0, false, 0, 0, []⟩] } }
    [(Reg.GNB_STATUS_RUNNING, 1), (Reg.GNB_STATUS_POS_STATE, 2), (Reg.GNB_MASK_MIN_SATS, 1), (Reg.GNB_CTRL_REF_CONST, 0), (Reg.GNB_CTRL_IONO_DUAL, 0)]) 0x2E00 .enabled) 0x2D00 .enabled

def snap0 : ChSnap := ⟨191, 3, 0, 1, true, true, 65535, false, 0, true, false, ⟨191, 0, 0, 0, 0, 5000, 0, 0, true⟩⟩
def sol0 : SolIn := ⟨191, 90, 0, true, true, 0, 0, 0, 0, 0, 2 ^ 30, 2 ^ 30⟩

theorem test_witness_GnssSolution :
    (let s := latchIn []; s.gnssRuns = true ∧ s.unitOn 0x2E00 = true ∧ s.unitOn 0x2D00 = true ∧ 0 < s.get Reg.GNB_MASK_MIN_SATS ∧
      (s.gnss.latch.map (·.chans)) = some []) ∧ s1.gnss.latch = none ∧
    (let s := latchIn [snap0]; s.gnssRuns = true ∧ s.unitOn 0x2E00 = true ∧ s.unitOn 0x2D00 = true ∧ s.unitFenced (chHid 191) = false ∧
      s.exclude snap0 (some sol0) = 0 ∧ s.get Reg.GNB_CTRL_IONO_DUAL = 0 ∧ s.get Reg.GNB_STATUS_POS_STATE = 2 ∧ s.get Reg.GNB_MASK_MIN_SATS = 1 ∧
      (s.single snap0 sol0).v ≤ 2 ^ 96) ∧
    (let s := sets s1 [(Reg.GNB_STATUS_POS_STATE, 1), (Reg.GNB_SURVEY_DONE_ELAPSED, 600), (Reg.GNB_SURVEY_SURVEY_TIME, 600)];
      s.get Reg.GNB_STATUS_POS_STATE = 1 ∧ 0 < s.get Reg.GNB_SURVEY_DONE_ELAPSED ∧ s.get Reg.GNB_SURVEY_SURVEY_TIME ≤ s.get Reg.GNB_SURVEY_DONE_ELAPSED) ∧
    (32 ∈ svids 0 ∧ 193 ∈ svids 3 ∧ timeOf 1 ≠ (latchIn []).get Reg.GNB_CTRL_REF_CONST) ∧
    ((⟨0, 1, 0, false, 0, 0, []⟩ : NavRec) ∈ (latchIn []).gnss.nav ∧ supersedes ⟨0, 32, 0, false, 0, 0, []⟩ ⟨0, 1, 0, false, 0, 0, []⟩ = false) := by decide

/-- Instance 3 on port 3, which is UP with its time bus TRACKING: its state, role and profile. -/
def instIn (st role prof : Nat) : State :=
  sets s1 [(Reg.PTP_INST_STATE_STATE 3, st), (Reg.PTP_INST_CFG_ROLE 3, role), (Reg.PTP_INST_CFG_PROFILE 3, prof), (Reg.PTP_INST_CFG_PORTS 3, 8),
    (Reg.PORT_STATUS_LINK 3, 3), (Reg.TB_STATUS_STATE, 64)]

/-- A grant of a client on port 3 in its calendar. -/
def grantIn (typ : Nat) : State := { instIn 2 0 0 with clt := { calendar := [⟨key0, typ, 3, 0, 300, 0, false, false, none⟩] } }

theorem test_witness_PtpTransmission :
    ((instIn 2 0 0).instSt 3 = 2 ∧ (instIn 2 0 0).instRole 3 = 0 ∧ (instIn 2 0 0).prof 3 ≠ 4 ∧ (instIn 2 0 0).get (Reg.PTP_INST_CFG_AUTH 3) = 0) ∧
    ((instIn 2 0 1).prof 3 = 1 ∧ (instIn 2 0 1).instSt 3 = 2) ∧ key0.norm = key0 ∧
    (∀ typ, typ < 2 → (grantIn typ).grantOf key0.norm typ = some ⟨key0, typ, 3, 0, 300, 0, false, false, none⟩ ∧
      ((grantIn typ).instPorts 3).contains key0.norm.port = true ∧ (grantIn typ).instSt 3 = 2 ∧ (grantIn typ).get (Reg.PTP_INST_CFG_AUTH 3) = 0) ∧
    ((instIn 2 0 0).put (Reg.PTP_INST_CFG_AUTH 3) 1).get (Reg.PTP_INST_CFG_AUTH 3) ≠ 0 := by decide

theorem test_witness_PtpService : (instIn 2 0 0).instTakes 3 3 = true ∧ (instIn 2 0 0).get (Reg.PTP_INST_CFG_AUTH 3) = 0 ∧
    (instIn 2 0 0).delayOk ptp0.norm = true ∧ ((instIn 2 0 1).instTakes 3 3 = true ∧ (instIn 2 0 1).prof 3 = 1) ∧
    (grantIn 3).grantOf key0.norm 3 = some ⟨key0, 3, 3, 0, 300, 0, false, false, none⟩ := by decide

theorem test_witness_PtpCommands : s1.instRole 3 = 0 ∧ s1.clt.calendar = [] := by decide

theorem test_witness_UpstreamMessages :
    ((instIn 2 0 0).instOn 3 3 = true ∧ (instIn 2 0 0).instRole 3 = 0) ∧ ((instIn 2 1 0).upTakes ptp0.norm = true ∧
      (instIn 2 1 0).get (Reg.PTP_INST_CFG_AUTH 3) = 0) ∧
    (let s := (instIn 2 1 0).setInst 3 { parent := some (0x1234, 1), asked := [(3, (7, 1))], down := some 0 }; s.upTakes ptp0.norm = true ∧
      s.instSt 3 = 2 ∧ s.fromParent ptp0.norm = true ∧ s.prof 3 ≠ 1 ∧ aget (s.inst 3).asked 3 = some (7, 1) ∧ (s.inst 3).down = some 0) ∧
    (let s := (instIn 2 0 1).setInst 3 { asked := [(3, (7, 1))] }; s.instTakes 3 3 = true ∧ s.instSt 3 = 2 ∧ s.prof 3 = 1 ∧ s.instRole 3 = 0 ∧
      aget (s.inst 3).asked 3 = some (7, 1)) ∧ ((instIn 1 1 0).instRole 3 = 1 ∧ (instIn 1 1 0).instSt 3 ≠ 0) := by decide

theorem test_witness_UpstreamRequests :
    (let s := (instIn 2 1 0).setInst 3 { parent := some (0x1234, 1), foreign := [⟨0x1234, 1, key0, [], ann0⟩] }; s.instSt 3 = 2 ∧ s.instRole 3 = 1 ∧
      s.prof 3 ≠ 1 ∧ s.prof 3 ≠ 4 ∧ s.parentOf 3 = some ⟨0x1234, 1, key0, [], ann0⟩ ∧ s.get (Reg.PTP_INST_CFG_AUTH 3) = 0) ∧
    (let s := (instIn 2 1 4).put (Reg.PTP_UP_MCFG_VALID 3 3) 1; s.instSt 3 = 2 ∧ s.instRole 3 = 1 ∧ s.prof 3 = 4 ∧
      s.get (Reg.PTP_UP_MCFG_VALID 3 3) = 1 ∧ s.upTakes ptp0.norm = true) := by decide

theorem test_witness_NtpAndNts : { peer0 with key := peer0.key.norm } = peer0 ∧ List.replicate 48 (0 : Byte) ≠ [] ∧ (s1.port 3).held = [] ∧
    (let i : TxItem := ⟨2, none, .ntp ⟨key0, 123, false, [], [], false, false, some 9, 0⟩⟩
     let s := unitAt ((instIn 2 0 0).setPort 3 { held := [i] }) 0x8003 .enabled
     (s.port 3).held.foldl earlierHeld none = some (i, ⟨key0, 123, false, [], [], false, false, some 9, 0⟩, 9) ∧ s.halted 3 i.prio = false ∧ s.portUp 3 = true ∧
       s.unitOn (0x8000 + 3) = true) := by decide

theorem test_witness_KeySlots : s1.keyInUse 4095 = false ∧ s1.minter s1.linear = none ∧ s1.drbgGives = false := by decide

theorem test_witness_ClientTable :
    (let e : CltEntry := { key := key0, learned := true }
     let u := sets s1 [(Reg.CLT_AGE_AGE_TIME, 60), (Reg.CLT_STATUS_READY, 1)]
     let s := { u with clt := { entries := [(7, e)] }, tc := { s1.tc with time := 61 * 1000000000 * 2 ^ 52 } }
     s.findEntry key0 = some (7, e) ∧ e.pinned = false ∧ e.granted = false ∧ (s.get Reg.CLT_AGE_AGE_TIME * secNs : Nat) < linDiff s.linear e.lastSeen) ∧
    (let s := sets s1 [(Reg.MEM_STATUS_TRAINED, 1)]; s.get Reg.MEM_STATUS_TRAINED = 1 ∧ s.get Reg.CLT_STATUS_READY = 0) ∧
    ((unitAt s1 0x9200 .enabled).unitBars 0x9200 = none ∧ ready (unitAt s1 0x9200 .enabled) c2 opCltAdd = true ∧
      (unitAt s1 0x9200 .fenced).unitBars 0x9200 = some Status.fenced ∧ ready (unitAt s1 0x9200 .fenced) c2 opCltAdd = true) ∧
    (s1.cached 7 = false ∧ s1.clt.bad.contains 7 = false ∧ ({ s1 with clt := { bad := [7] } }).clt.bad.contains 7 = true) := by decide

theorem test_witness_PortLinks : (s1.put (Reg.PORT_STATUS_LINK 3) 1).get (Reg.PORT_STATUS_LINK 3) = 1 ∧
    (let s := (s1.put (Reg.PORT_STATUS_LINK 3) 2).setTimer (.align 3) 1; s.get (Reg.PORT_STATUS_LINK 3) = 2 ∧ s.due (.align 3) = false) := by decide

theorem test_witness_PortFrames : s1.unitOn (0x8000 + 3) = false ∧
    (let s := unitAt (instIn 0 0 0) 0x8003 .enabled; s.unitOn (0x8000 + 3) = true ∧ s.portUp 3 = true ∧ rx0.fecOk = 0 ∧ rx0.fecBad = 0 ∧
      rx0.pcsBad = 0) := by decide

theorem test_witness_FlowControlAndEsmc : ((instIn 0 0 0).portUp 3 = true ∧ (instIn 0 0 0).get (Reg.PORT_STATUS_WD_IGNORE 3) = 0 ∧ (instIn 0 0 0).pauseTo 3 0x0180C2000001 = true) ∧
    (let s := ((instIn 0 0 0).put (Reg.SYNCE_CFG_ESMC_TX_EN 3) 1).setTimer (.esmcInfo 3) 0; s.esmcOn 3 = true ∧ s.due (.esmcInfo 3) = true) := by decide

/-- A pause frame to another address: one above all that are the port's. -/
theorem test_witness_FlowControlAndEsmc_other : s1.pauseTo 3 (0x0180C2000002 + s1.stationMac 3 + localMac 3) = false := by
  simp only [State.pauseTo, decide_eq_false_iff_not]
  omega

theorem test_witness_TwinLink : (s1.put (Reg.RL_PAIR_STATUS_STATE 1) 2).get (Reg.RL_PAIR_STATUS_STATE 1) = 2 ∧ hello0.request ≠ 0 ∧
    (s1.put Reg.TWN_STATUS_ROLE 2).get Reg.TWN_STATUS_ROLE = 2 := by decide

theorem test_witness_TwinLink_crc (b : Baton) : b.crc + 1 ≠ b.crc := Nat.succ_ne_self _

theorem test_witness_TwinBatons : (let s := sets s1 [(Reg.TWN_STATUS_LINK_UP, 1), (Reg.TWN_CTRL_TWIN_EN, 1)]; s.get Reg.TWN_STATUS_LINK_UP = 1 ∧
    s.get Reg.TWN_CTRL_TWIN_EN = 1) ∧ baton0.role < 8 ∧
    (let s := (sets s1 [(Reg.TWN_STATUS_ROLE, 4), (Reg.TWN_STATUS_FENCE, 0)]).setVar .batonSeen 1
     s.get Reg.TWN_STATUS_ROLE = 4 ∧ s.get Reg.TWN_STATUS_FENCE = 0 ∧ s.var .batonSeen = 1) ∧ s1.get Reg.TWN_STATUS_ROLE ≠ 4 := by decide

/-- A twin of a role. -/
def twinOf (role : Nat) : State := s1.put Reg.TWN_STATUS_ROLE role

/-- An image of nothing. -/
def img0 : BulkImage := ⟨0, 0, [], [], [], [], 0, 0⟩

theorem test_witness_TwinRoles : s1.get Reg.TWN_STATUS_HANDOVER_PENDING = 0 ∧
    (let s := (s1.put Reg.TWN_STATUS_ROLE 1).setTimer .sideB 0; s.due .sideB = true ∧ s.get Reg.TWN_STATUS_ROLE = 1 ∧ s.twin.baton = none ∧
      s.get Reg.TWN_STATUS_FENCE_FAULT ≠ 1 ∧ (s.put Reg.TWN_STATUS_FENCE 0).get Reg.TWN_STATUS_FENCE = 0) ∧
    (let s := (sets s1 [(Reg.TWN_STATUS_ROLE, 4), (Reg.TWN_STATUS_FENCE, 0), (Reg.TWN_STATUS_LEASE_LEFT, 0)]).setVar .batonSeen 1
     s.get Reg.TWN_STATUS_ROLE = 4 ∧ s.get Reg.TWN_STATUS_LEASE_LEFT = 0 ∧ s.get Reg.TWN_STATUS_FENCE = 0 ∧ s.var .batonSeen = 1) ∧
    (s1.get Reg.TWN_STATUS_ROLE = 1 ∨ (s1.put Reg.TWN_STATUS_ROLE 1).get Reg.TWN_STATUS_ROLE = 1) ∧ s1.var .listened ≠ 1 ∧
    (twinOf 3).get Reg.TWN_STATUS_ROLE ≠ 1 ∧ (twinOf 3).get Reg.TWN_STATUS_ROLE ≠ 4 := by decide

/-- A RESYNC twin without records whose image has come is still in RESYNC, and has caught up. -/
theorem test_witness_TwinRoles_resync : (let w := (((twinOf 4).applyImage img0 true).setVar .cfgWanted 0 |>.setVar .imaged 1).applyInbox
    w.get Reg.TWN_STATUS_ROLE = 4 ∧ w.var .imaged ≠ 0 ∧ w.twin.baton = none) := by decide

/-- A twin of a role whose partner's last baton shows it fit. -/
def twinIn (role : Nat) : State := { twinOf role with twin := { s1.twin with baton := some fit0 } }

theorem test_witness_TwinCommands : ready (twinIn 2) c2 opYield = true ∧ (twinIn 2).get Reg.TWN_STATUS_ROLE = 2 ∧
    (twinIn 2).twin.baton = some fit0 ∧ fit0.role = 3 ∧ fit0.synced = true ∧ fit0.following = true ∧ fit0.regions = 0 ∧
    ready (twinIn 3) c2 opTwnResync = true := by decide

/-- An event, and an EVT ring that takes it. -/
def ev0 : LogEntry := ⟨0, 0, 0, 0x0710, 0xB000, .warning, 0, false, 0, 0, 0, []⟩

theorem test_witness_RecordDelivery :
    (let s := { sets s1 [(Reg.RING_STATUS_STATE 2, 1), (Reg.RING_CFG_TYPE 2, 2), (Reg.RING_CFG_SIZE_LOG2 2, 6)] with evtq := ⟨[ev0], 0⟩ }
     s.rqHeld 0 = 1 ∧ s.hostOpen = true ∧ s.evtq.recs = [ev0] ∧ s.evtRings ev0.sev.code = [2] ∧ s.ringRoom 2 ≠ 0 ∧ ¬ 0 < s.var (.rqPoison 0) ∧ 0 < (s.setVar (.rqPoison 0) 1).var (.rqPoison 0)) ∧
    (let s := { sets s1 [(Reg.RING_STATUS_STATE 2, 1), (Reg.RING_CFG_TYPE 2, 6), (Reg.RING_CFG_SIZE_LOG2 2, 6)] with dumpq := [[1]] }
     s.dumpRing = some 2 ∧ s.dumpq = [[1]] ∧ ([1] : List Byte).headD 0 ≠ 0x10) ∧
    (let s := (sets s1 [(Reg.RING_STATUS_STATE 2, 1), (Reg.RING_CFG_TYPE 2, 5), (Reg.RING_CFG_SIZE_LOG2 2, 6), (Reg.RING_CFG_PORTS 2, 8)]).setPort 3
        { tsq := [⟨0, 0, 0, 0, 0, 0, 0, 0⟩] }
     s.portRing 5 (4 - 1) = some 2 ∧ (s.port (4 - 1)).tsq = [⟨0, 0, 0, 0, 0, 0, 0, 0⟩] ∧ s.rqHeld 4 = 1) := by decide

theorem test_witness_Snapshots :
    (let s := { s1 with pf := { s1.pf with trigs := [⟨0, 1, 0, 0, none, 0, true⟩, ⟨5, 1, 0, 0, none, 0, false⟩] } }
     (∃ x ∈ s.pf.trigs, x.at16 = 0) ∧ (∀ x ∈ s.pf.trigs, 0 ≤ x.at16) ∧ ¬ s.at16 < 0 ∧ s.pf.busy = false ∧ s.pf.held = false) := by decide

theorem test_witness_DumpsAndLog : s1.get Reg.DUMP_CTRL_PORT_STATS = 0 ∧ (s1.put Reg.DUMP_CTRL_REGIONS 0).get Reg.DUMP_CTRL_REGIONS = 0 ∧
    s1.dumpq.length < 128 := by decide

theorem test_witness_Sessions : (let s := { s1 with roles := { s1.roles with keys := [(1, [])], challenges := [⟨8, 1, 0, [], 0⟩] } }
    s.roles.challenges.find? (fun x => x.id = 8) = some ⟨8, 1, 0, [], 0⟩ ∧ s.roleKey 1 ≠ none ∧ s.lockedOut 1 = false) := by decide

theorem test_witness_SessionTimersAndRandomSource :
    (s1.put Reg.TRNG_STATUS_DRBG_READY 1).get Reg.TRNG_STATUS_DRBG_READY ≠ 0 ∧
    ¬ ((s1.setVar .reseedAt (-1000000000)).runNs : Int) < (s1.setVar .reseedAt (-1000000000)).var .reseedAt + 1000000000 ∧ (unitAt s1 0xA200 .disabled).trngRuns = true := by decide

theorem test_witness_RegisterWrites : wordAt 0x10C ≠ none ∧ s1.wordAbsent 0x10C = false ∧ s1.regRole = 0 ∧
    (∃ f ∈ (wordAt 0x10C).toList.flatMap (·.fields), f.acts = true ∧ f.allows s1.regRole = false) ∧
    (let s := { s1.put Reg.HIF_STATUS_STATE 2 with roles := { s1.roles with regSession := some 2 } }; s.get Reg.HIF_STATUS_STATE = 2 ∧
      (wordAt 0x150020).isSome = true ∧ hasRight s.regRole 2 = true) := by decide

theorem test_witness_RegisterWriteResults :
    (let s := { s1 with roles := { s1.roles with regSession := some 2 } }; s.get Reg.HIF_STATUS_STATE ≠ 0 ∧ hasRight s.regRole 2 = true ∧
      hasRight s.regRole 1 = true) ∧
    (let s := unitAt { State.reset.put Reg.HIF_STATUS_STATE 1 with hif := { s1.hif with staged := [(latchKey 0 0x20014, 2 ^ 32 - 1)] } } 0xB000 .enabled
     (s.unit 0xB000).st ≠ .absent ∧ aget s.hif.staged (latchKey 0 0x20014) = some (2 ^ 32 - 1) ∧ ∀ n, n < 64 → s.ringSt n = 0) := by decide

theorem test_witness_RegisterReads : wordAt 0x10C ≠ none ∧ (unitAt s1 0x0000 .enabled).get Reg.HIF_STATUS_STATE ≠ 0 ∧
    ((unitAt s1 0x0000 .enabled).unit 0x0000).st ≠ .absent := by decide

theorem test_witness_RegisterActions :
    (let s := unitAt (unitAt (unitAt { s1 with roles := { s1.roles with regSession := some 2 } } 0xB000 .enabled) 0x0800 .enabled) 0xB200 .enabled
     a0.ini = .host ∧ a0.full = true ∧ a0.poison = false ∧ s.get Reg.HIF_STATUS_STATE ≠ 0 ∧ (s.unit 0xB000).st ≠ .absent ∧ hasRight s.regRole 1 = true ∧
       (s.unit 0x0800).st ≠ .absent ∧ (s.unit 0xB200).st ≠ .absent ∧
       ((unitAt s (7 / 4 * 0x8000 + 7 % 4 * 0x1000 + 0xF00) .enabled).unit (7 / 4 * 0x8000 + 7 % 4 * 0x1000 + 0xF00)).st ≠ .absent) := by decide

theorem test_witness_HostInterface :
    (let s := { s1 with hif := { s1.hif with d3hot := true, masked := [], pbits := [31] } }; s.hif.waiting = [] ∧ s.hif.pbits.count 31 = 1 ∧
      s.hif.masked.contains 31 = false ∧ s.hif.hostUp = true) := by decide

theorem test_witness_LapAndStep : (let s := (atNs s1 lapNs).put Reg.PWR_STATUS_PHASE 7;
      s.lapsRun = true ∧ s.tc.prev / (lapNs * nsUnit) < s.tc.time / (lapNs * nsUnit) ∧ s.var .lapEdge ≠ (s.tc.edges : Int) + 1) ∧
    (let s := { s1 with tc := { s1.tc with plan := some ⟨1, 0, 0, 2⟩ } }.setVar .markerEdge 1; s.tc.plan = some ⟨1, 0, 0, 2⟩ ∧
      s.var .markerEdge = (s.tc.edges : Int) + 1) ∧ (s1.put Reg.HOB_LOCK_HIST_SECONDS 300).modelValid = true ∧ s1.modelValid = false := by decide

theorem test_witness_EngineCommands : (let s := s1; ∀ n, n < 64 → s.ringSt n = 1 → s.bell n = s.hostIdx n ∧ s.ringHas n = 0) := by decide

theorem test_witness_StartUp : State.reset.boot.preferred < 2 ∧ State.reset.starting 0 = true ∧ (State.reset.setVar (.dieFault 0) 1).starting 0 = false := by decide

theorem test_witness_KeeperAndMemory : (let s := s1.put Reg.TIM_STATUS_WARMING 0; s.get Reg.TIM_STATUS_WARMING = 0 ∧
    s.secs % 64 = 0 ∧ (let u := (atNs s (64 * secNs)).put Reg.PWR_STATUS_PHASE 7; u.crosses 1000000000 = true ∧ u.secs % 64 = 0 ∧ u.phase = 7)) ∧ satI 32 (-2 ^ 40) = -2 ^ 31 := by decide

theorem test_witness_MakerWork : ready (twinIn 2) c3 opBistRun = true ∧ (twinIn 2).get Reg.TWN_STATUS_HANDOVER_PENDING ≠ 1 ∧
    ready (twinIn 3) c3 opBistRun = true ∧ ready (twinIn 3) c3 opFuseWrite = true ∧ ready (twinIn 3) c3 (opPwrDomainSet 2) = true ∧
    ready (twinIn 0) c3 opTrimSet = true := by decide

theorem test_witness_TwinTakeover : ready (twinIn 3) c2 opSeize = true ∧ (twinIn 3).get Reg.TWN_STATUS_ROLE = 3 ∧
    (atNs s1 lapNs).crosses lapNs = true ∧ (atNs s1 lapNs).ns / lapNs % 2 ^ 32 = 1 := by decide

theorem test_witness_UnitCommands : ready s1 c2 { opUnitEnable with hid := some 0x7FFF } = true ∧
    ready s1 c2 { opUnitState with hid := some 0xFFFE } = true ∧ named 0x0300 = .units [0x0300] true ∧ named 0x7FFE = .above :=
  ⟨by decide, by decide, rfl, rfl⟩

theorem test_witness_UnitFaults : (let s := unitAt s1 0xA00B .enabled; (s.unit 0xA00B).st = .enabled ∧ (s.unit 0xA00B).resetAt = none) ∧
    allUnits.contains 0xA00B = true ∧ isCore 0xA00B = false ∧ (unitAt s1 0xA00B .resetting |>.unit 0xA00B).st = .resetting := by decide

/-- R34: the cluster 0xB200 holds only a unit of R42, the cluster 0xA000 others. -/
theorem test_witness_UnitFaults_clusters : (allUnits.contains 0xB2FF = false ∧ (allUnits.filter fun h => h / 256 = 0xB2) ≠ [] ∧
      ((allUnits.filter fun h => h / 256 = 0xB2).all isCore) = true) ∧ ((allUnits.filter fun h => h / 256 = 0xA0).any fun h => ! isCore h) = true := by
  decide

theorem test_witness_BlockSets :
    ready s1 c3 { opTimSet with role := 3 } = true ∧ ready s1 c2 (opFabSet 0x1FC) = true ∧ outBlock 0x1100 ≠ none ∧ wordAt 0x110100 ≠ none := by decide

theorem test_witness_TimePerEdge : -rMax ≤ s1.tc.rateAdj ∧ s1.tc.rateAdj ≤ rMax ∧ s1.dieBad 0 = false ∧ (s1.setVar (.dieFault 0) 1).dieBad 0 = true := by decide

theorem test_witness_SelectorChoice :
    s1.dropForce.runWtr.forcedFit = none ∧ s1.dropForce.runWtr.partnerFit = none ∧ s1.laneSt 15 ≠ 4 ∧ typeAllowed (s1.laneSrc 15) (s1.laneType 15) = true ∧
    (let u := ((laneUp 3).setVar .forcedLane 16).dropForce.runWtr; u.forced = some 15 ∧ u.laneSt 15 = 3 ∧ u.laneRank 15 ≠ 0 ∧
      u.laneSrc 15 ≠ 0x14) ∧
    (let u := ((((laneUp 3).put (Reg.LANE_CFG_SOURCE 15) 0x14).put Reg.TWN_STATUS_ROLE 2).setVar .forcedLane 16).dropForce.runWtr;
      u.forced = some 15 ∧ u.laneSrc 15 = 0x14 ∧ u.serves = true) ∧
    (let u := (((laneUp 4).put (Reg.LANE_CFG_SOURCE 15) 0x14).put Reg.TWN_STATUS_ROLE 3).dropForce.runWtr; u.forcedFit = none ∧ u.partnerFit = some 15) := by decide

theorem test_witness_Refusals :
    ready (s1.put Reg.TCO_STATUS_LEAP_COMMITTED 1) c2 opLeapSet = true ∧
    (let s := sets { laneUp 5 with tc := { s1.tc with slew := 1000000000 * 2 ^ 52 + 1 } } [(Reg.LANE_STATE_CAUSE 15, 8), (Reg.LANE_CFG_TYPE 15, 1)]; s.laneSt 15 = 5 ∧ s.lanePT 15 = true ∧
      s.laneType 15 ≠ 3 ∧ s.laneSrc 15 ≠ 0x14 ∧ (s.put Reg.TCO_STATUS_STEP_ARMED 0).get Reg.TCO_STATUS_STEP_ARMED = 0 ∧
      s.slewFits (s.offsetNow 15 * 2 ^ 36) = false ∧ s.get (Reg.LANE_STATE_CAUSE 15) = 8) ∧
    ({ par0 with splits := 9 }.ok = false ∧ (s1.put (Reg.TDC_STATE_HEAT_STATE 23) 1).heatRuns 23 = true ∧ s1.tdcWorks 23 = false) ∧
    (let s := sets s1 [(Reg.SEL_STATUS_CUR_VALID, 1), (Reg.SEL_STATUS_CUR, 15), (Reg.LANE_CFG_SOURCE 15, 7)]; s.cur = some 15 ∧ s.laneSrc 15 = 7) ∧
    (parseNav 21 (memRead (navMem 3).mem 0 20) = some [⟨0, 1, 3, true, 0, 0, [0, 0, 0, 0]⟩]) := by decide


/-! ## Small steps, their results worked out from the spec's words -/

/-- The state a command leaves. -/
def after (i : Instr) (s : State) : State :=
  match exec i s with
  | .next t => t
  | _ => State.reset

/-- R57: with RATE_TOTAL 0 an edge advances the time by 25/16 ns, 25 × 2^48 units of 2^-52 ns. -/
theorem test_edge : State.reset.tclk.tc.time = 25 * 2 ^ 48 ∧ State.reset.tclk.tc.edges = 1 := by decide

/-- R58, R60: 100 ppm is 28147497671 units; a residue of less than one edge's slew is retired exactly. -/
theorem test_edge_slew : (let s := { State.reset with tc := { State.reset.tc with slew := 9 } }.put Reg.SLEW_LIMIT_LO_SL_LO 28147
    s.tclk.tc.time = 25 * 2 ^ 48 + 9 ∧ s.tclk.tc.slew = 0) := by decide

/-- R77: STEP_THRESH_SET sets the threshold up to 1 s, and with RANGE nothing. -/
theorem test_stepThreshSet : (after (.stepThreshSet c2 1000000000) s1).get Reg.STEP_THRESH_THRESH = 1000000000 ∧
    (after (.stepThreshSet c2 1000000001) s1).get Reg.STEP_THRESH_THRESH = s1.get Reg.STEP_THRESH_THRESH := by decide

/-- R61: PHASE_ADJ's offset is in units of 2^-32 ns. -/
theorem test_phaseAdj : (after (.phaseAdj c2 (-1)) s1).tc.slew = -2 ^ 20 := by decide

set_option maxRecDepth 4000 in
/-- R382: without the role NO_RIGHT, counted; the completion in the CPL ring at 0 has the TAG, the status and phase 1. -/
theorem test_noRight : (let t := after (.stepThreshSet c0 7) s1
    t.get Reg.HIF_NO_RIGHT_COUNT = 1 ∧ t.get Reg.STEP_THRESH_THRESH = s1.get Reg.STEP_THRESH_THRESH ∧ t.engIdx 1 = 1 ∧ memRead t.mem 0 6 = [5, 0, 0, 0, 0x10, 1]) := by decide

/-- R446: SESSION_CFG takes the nearest bound of each field's range. -/
theorem test_sessionCfg : (let t := after (.registerWrite ⟨.host, 0x10C, 0, true, false⟩) { s1 with roles := { s1.roles with regSession := some 2 } }
    t.get Reg.SESSION_CFG_IDLE_TIMEOUT = 10 ∧ t.get Reg.SESSION_CFG_FAIL_LIMIT = 1 ∧ t.get Reg.SESSION_CFG_LOCKOUT = 10) := by decide

/-- R13: a sticky bit written 1 clears, and one written 0 stays. -/
theorem test_w1c : (let s := { s1.put Reg.ROLE_STICKY_STICKY 15 with roles := { s1.roles with regSession := some 2 } }
    (after (.w1cWrite ⟨.host, 0x104, 5, true, false⟩) s).get Reg.ROLE_STICKY_STICKY = 10) := by decide

/-- R305: ALIGNING has 2 ms. -/
theorem test_linkAlign : (let t := after (.linkAlign 0) (s1.put (Reg.PORT_STATUS_LINK 0) 1)
    t.get (Reg.PORT_STATUS_LINK 0) = 2 ∧ t.timer (.align 0) = some 2000000) := by decide

/-- R324: an ESMC PDU shows its SSM code; one of another length counts as bad. -/
theorem test_esmc : (let s := s1.put (Reg.PORT_STATUS_LINK 0) 3
    (after (.esmcPdu 0 0x0019A7 1 1 1 4 0x14 false) s).get (Reg.SYNCE_STATUS_RX_QL 0) = 4 ∧
    (after (.esmcPdu 0 0x0019A7 1 1 1 5 4 false) s).get (Reg.ESMC_BAD_COUNT 0) = 1) := by decide

/-- R345: a lease of 1 that no baton renews by 1 ms after the boundary expires. -/
theorem test_lease : (let t := after .batonDue (sets (atNs s1 1000000) [(Reg.TWN_STATUS_ROLE, 3), (Reg.TWN_STATUS_LEASE_LEFT, 1)])
    t.get Reg.TWN_STATUS_LEASE_LEFT = 0 ∧ t.get Reg.LEASE_EXPIRIES_COUNT = 1) := by decide

set_option maxRecDepth 8000 in
/-- R174: a cycle slip in LOCKED ends in HELD with cause 1. -/
theorem test_cycleSlip : (after (.cycleSlip 3) (grpIn 3)).synSt 3 = 4 ∧ (after (.cycleSlip 3) (grpIn 3)).get (Reg.SYN_STATE_CAUSE 3) = 1 := by decide

/-- R38: a fault fences its unit with the cause. -/
theorem test_unitFenced : (after (.unitFenced 0xA001 3) (unitAt s1 0xA001 .enabled)).unit 0xA001 = ⟨.fenced, 3, 0, none, 0xA001⟩ := by decide

/-- R207: the four codes of a line pair under both formats, as the table gives them. -/
theorem test_sampleLevels : [0, 1, 2, 3].map (sampleLevel 0) = [1, 3, -1, -3] ∧ [0, 1, 2, 3].map (sampleLevel 1) = [-3, -1, 1, 3] := by decide

/-- R205: GNS_SCLK rises where the TCLK count is a multiple of 8, once the PLL has locked and the domain has power. -/
theorem test_sclk : (let s := (State.reset.put Reg.PWR_STATUS_ON 128).put Reg.PWR_STATUS_PHASE 2
    s.sclkRise = true ∧ ({ s with tc := { s.tc with edges := 9 } }).sclkRise = false) := by decide

/-- R73: a marker's 416 bits are 52 bytes, the sequence number first. -/
theorem test_marker : (markerBits (markerWord 5 0 0 0 0 0 0 0 0 0 0)).length = 52 ∧
    (markerBits (markerWord 5 0 0 0 0 0 0 0 0 0 0)).head? = some 5 := by decide

end Sys2Proof.Tests
end

section
/-! PROOFS. Register writes: what each step of their judgement leaves alone, each branch of it (R472, R473, R441, R17), and what the write of
a word leaves of its fields (R13, R18, R471). -/

namespace Sys2Proof.Machine

section

variable {s : State} {a : WrAcc} {w : Word}

/-! ## A register write: what its steps leave alone -/

/-- Restarting the register session's idle count touches the sessions alone. -/
theorem touchReg_eq (s : State) : ∃ x, s.touchReg = { s with roles := { s.roles with sessions := x } } := by
  unfold State.touchReg
  split
  · split
    · exact ⟨_, rfl⟩
    · exact ⟨_, rfl⟩
  · exact ⟨_, rfl⟩

@[simp] theorem touchReg_regs (s : State) : s.touchReg.regs = s.regs := by obtain ⟨_, h⟩ := touchReg_eq s; rw [h]
@[simp] theorem touchReg_tc (s : State) : s.touchReg.tc = s.tc := by obtain ⟨_, h⟩ := touchReg_eq s; rw [h]
@[simp] theorem touchReg_mem (s : State) : s.touchReg.mem = s.mem := by obtain ⟨_, h⟩ := touchReg_eq s; rw [h]
@[simp] theorem touchReg_units (s : State) : s.touchReg.units = s.units := by obtain ⟨_, h⟩ := touchReg_eq s; rw [h]
@[simp] theorem touchReg_hif (s : State) : s.touchReg.hif = s.hif := by obtain ⟨_, h⟩ := touchReg_eq s; rw [h]
@[simp] theorem get_touchReg (s : State) (f : Fld) : s.touchReg.get f = s.get f := by simp only [State.get, touchReg_regs]

theorem regionOfHid_lt (h : Nat) : regionOfHid h < 8 := by unfold regionOfHid; omega

theorem countWrite_quiet (s : State) (a role : Nat) (ini : Ini) (took : Bool) : Quiet s (s.countWrite a role ini took) := by
  unfold State.countWrite
  exact .ite (.refl s) (.ite (pmcEvent_quiet _ _ _ _ (regionOfHid_lt _)) (pmcEvent_quiet _ _ _ _ (regionOfHid_lt _)))

/-- A refusal sets WRITE_REFUSED, and does nothing else but log and count. -/
theorem refuseWrite_quiet (s : State) (a v role : Nat) (ini : Ini) (cause : Nat) :
    Quiet (s.put Reg.LOG_STICKY_WRITE_REFUSED 1) (s.refuseWrite a v role ini cause) :=
  (emit_quiet _ _).trans (countWrite_quiet _ _ _ _ _)

theorem recordWrite_quiet (t s : State) (role a : Nat) (w : Word) : Quiet s (t.recordWrite s role a w) := by
  unfold State.recordWrite
  refine .ite (.refl s) ?_
  split
  · exact (change_quiet _ _ _ _ _ _ _).trans (change_quiet _ _ _ _ _ _ _)
  · exact change_quiet _ _ _ _ _ _ _

/-! ## A register write: its judgement, branch by branch (R472, R473, R441) -/

/-- The role a write is judged and logged with: the register session's for the host, the Coach's own else. -/
def State.writeRole (s : State) (ini : Ini) : Nat := if ini = .host then s.regRole else 3

/-- The state a write that reaches its word is judged in: the host's restarts its session's idle count (R438). -/
def State.noticed (s : State) (ini : Ini) : State := if ini = .host then s.touchReg else s

/-- Whether a write access reaches the word of a unit that is there. -/
structure Reaches (s : State) (a : WrAcc) (w : Word) : Prop where
  opened  : ¬ (a.ini = .dump ∨ (a.ini = .host ∧ s.get Reg.HIF_STATUS_STATE = 0))
  aligned : a.full = true
  word    : wordAt a.addr = some w
  here    : s.wordAbsent a.addr = false

theorem regWrite_of_reaches (h : Reaches s a w) : s.regWrite a =
    if a.poison then (s.noticed a.ini).refuseWrite a.addr (a.value % 2 ^ 32) (s.writeRole a.ini) a.ini 3
    else if w.fields.all fun f => ! f.acts then s.noticed a.ini
    else if a.ini = .host ∧ w.fields.any fun f => f.acts && ! f.allows (s.writeRole a.ini) then
      (s.noticed a.ini).refuseWrite a.addr (a.value % 2 ^ 32) (s.writeRole a.ini) a.ini 1
    else (s.noticed a.ini).lockedWrite a (s.writeRole a.ini) (a.value % 2 ^ 32) w := by
  obtain ⟨hopen, hfull, hword, hhere⟩ := h
  unfold State.regWrite
  simp only [if_neg hopen, hfull, hword, hhere, not_true_eq_false, Bool.false_eq_true, if_false]
  rfl

theorem regWrite_poisoned (h : Reaches s a w) (hp : a.poison = true) :
    s.regWrite a = (s.noticed a.ini).refuseWrite a.addr (a.value % 2 ^ 32) (s.writeRole a.ini) a.ini 3 := by
  rw [regWrite_of_reaches h, if_pos hp]

theorem regWrite_inert (h : Reaches s a w) (hp : ¬ a.poison = true) (hi : ∀ f ∈ w.fields, f.acts = false) :
    s.regWrite a = s.noticed a.ini := by
  have hall : (w.fields.all fun f => ! f.acts) = true := by simpa using hi
  rw [regWrite_of_reaches h, if_neg hp, if_pos hall]

theorem regWrite_unentitled (h : Reaches s a w) (hp : ¬ a.poison = true) (hhost : a.ini = .host)
    (hr : ∃ f ∈ w.fields, f.acts = true ∧ f.allows s.regRole = false) :
    s.regWrite a = (s.noticed a.ini).refuseWrite a.addr (a.value % 2 ^ 32) (s.writeRole a.ini) a.ini 1 := by
  have hrole : s.writeRole a.ini = s.regRole := if_pos hhost
  obtain ⟨f, hf, hacts, hallow⟩ := hr
  have hsome : ¬ (w.fields.all fun f => ! f.acts) = true := by simpa using ⟨f, hf, hacts⟩
  have hany : (w.fields.any fun f => f.acts && ! f.allows (s.writeRole a.ini)) = true := by
    simpa [hrole] using ⟨f, hf, hacts, hallow⟩
  rw [regWrite_of_reaches h, if_neg hp, if_neg hsome, if_pos ⟨hhost, hany⟩]

theorem regWrite_entitled (h : Reaches s a w) (hp : ¬ a.poison = true) (hsome : ∃ f ∈ w.fields, f.acts = true)
    (hr : ¬ (a.ini = .host ∧ ∃ f ∈ w.fields, f.acts = true ∧ f.allows s.regRole = false)) :
    s.regWrite a = (s.noticed a.ini).lockedWrite a (s.writeRole a.ini) (a.value % 2 ^ 32) w := by
  have hinert : ¬ (w.fields.all fun f => ! f.acts) = true := by simpa using hsome
  have hright : ¬ (a.ini = .host ∧ (w.fields.any fun f => f.acts && ! f.allows (s.writeRole a.ini)) = true) := by
    rintro ⟨hhost, hany⟩
    have hrole : s.writeRole a.ini = s.regRole := if_pos hhost
    exact hr ⟨hhost, by simpa [hrole] using hany⟩
  rw [regWrite_of_reaches h, if_neg hp, if_neg hinert, if_neg hright]

@[simp] theorem get_noticed (s : State) (ini : Ini) (f : Fld) : (s.noticed ini).get f = s.get f := by
  unfold State.noticed
  split
  · exact get_touchReg s f
  · rfl

/-- What a refused write leaves: WRITE_REFUSED, and every register else as it was (R441). -/
def Refused (s t : State) : Prop :=
  t.get Reg.LOG_STICKY_WRITE_REFUSED = 1 ∧ t.tc = s.tc ∧ t.mem = s.mem ∧ t.units = s.units ∧ t.hif = s.hif ∧
    ∀ f : Fld, f.key ∉ bookkeeping → f.key ≠ Reg.LOG_STICKY_WRITE_REFUSED.key → t.get f = s.get f

theorem refused_refuseWrite (s : State) (a v role : Nat) (ini : Ini) (cause : Nat) : Refused s (s.refuseWrite a v role ini cause) := by
  have q := refuseWrite_quiet s a v role ini cause
  refine ⟨?_, q.tc, q.mem, q.units, q.hif, fun f hf hne => (q.regs f hf).trans (State.get_put_ne _ _ hne)⟩
  exact (q.regs _ (by decide)).trans (State.get_put_same _ _ _)

theorem refused_noticed {t : State} {ini : Ini} : Refused (s.noticed ini) t ↔ Refused s t := by
  unfold State.noticed
  split
  · simp only [Refused, touchReg_tc, touchReg_mem, touchReg_units, touchReg_hif, get_touchReg]
  · rfl

/-! ## CONFIG_LOCK (R17, R363) -/

/-- Whether CONFIG_LOCK leaves only live fields open to an initiator: to the host, while the interface is RUNNING. -/
abbrev State.Locked (s : State) (ini : Ini) : Prop := ini = .host ∧ s.get Reg.HIF_STATUS_STATE = 2

/-- The fields of a word that software writes and CONFIG_LOCK shuts. -/
def Word.shut (w : Word) (locked : Bool) : List Fld := w.fields.filter fun f => f.acts && locked && ! f.live

theorem shut_ne_nil {l : Prop} [Decidable l] :
    w.shut (decide l) ≠ [] ↔ l ∧ ∃ f ∈ w.fields, f.acts = true ∧ f.live = false := by
  rw [Word.shut, ne_eq, List.filter_eq_nil_iff]
  by_cases h : l
  · simp [h]
  · simp [h]

/-- Whether a word has a field that software writes and CONFIG_LOCK leaves open. -/
def Word.opens (w : Word) (locked : Bool) : Bool := w.fields.any fun f => f.acts && ! (locked && ! f.live)

theorem opens_iff {l : Prop} [Decidable l] :
    w.opens (decide l) = true ↔ ∃ f ∈ w.fields, f.acts = true ∧ ¬ (l ∧ f.live = false) := by
  by_cases h : l
  · simp [Word.opens, h]
  · simp [Word.opens, h]

/-- CONFIG_LOCK's judgement in its own words: a shut field is logged as refused, and the open ones are written. -/
theorem lockedWrite_eq (s : State) (a : WrAcc) (role v : Nat) (w : Word) : s.lockedWrite a role v w =
    let s1 := if w.shut (decide (s.Locked a.ini)) ≠ [] then s.refuseWrite a.addr v role a.ini 2 else s
    let s2 := s1.wordWritten (Ini.code a.ini) a.addr w (fun f => ! (decide (s.Locked a.ini) && ! f.live)) v
    if ¬ w.opens (decide (s.Locked a.ini)) then s1
    else (if a.ini = .host then s.recordWrite s2 role a.addr w else s2).countWrite a.addr role a.ini true := rfl

/-- A write that meets only frozen fields is refused. -/
theorem lockedWrite_frozen {role v : Nat} (hl : s.Locked a.ini) (hacts : ∃ f ∈ w.fields, f.acts = true)
    (hfrozen : ∀ f ∈ w.fields, f.acts = true → f.live = false) :
    s.lockedWrite a role v w = s.refuseWrite a.addr v role a.ini 2 := by
  obtain ⟨f, hf, ha⟩ := hacts
  have hshut : w.shut (decide (s.Locked a.ini)) ≠ [] := shut_ne_nil.2 ⟨hl, f, hf, ha, hfrozen f hf ha⟩
  have hnone : ¬ w.opens (decide (s.Locked a.ini)) = true := by
    rw [opens_iff]
    rintro ⟨g, hg, hga, hlive⟩
    exact hlive ⟨hl, hfrozen g hg hga⟩
  rw [lockedWrite_eq]
  simp only [if_pos hnone, if_pos hshut]

/-- A write that meets a field open to it is made on the open fields, once a frozen one beside them has been logged. -/
theorem lockedWrite_open {role v : Nat} {l : Prop} [Decidable l] (hl : s.Locked a.ini ↔ l)
    (hopen : ∃ f ∈ w.fields, f.acts = true ∧ ¬ (l ∧ f.live = false)) :
    Quiet ((if l ∧ ∃ f ∈ w.fields, f.acts = true ∧ f.live = false then s.refuseWrite a.addr v role a.ini 2
      else s).wordWritten (Ini.code a.ini) a.addr w (fun f => decide (¬ (l ∧ f.live = false))) v)
      (s.lockedWrite a role v w) := by
  have hok : (fun f : Fld => decide (¬ (l ∧ f.live = false))) = fun f => ! (decide l && ! f.live) := by
    funext f
    by_cases h : l
    · simp [h]
    · simp [h]
  rw [hok, lockedWrite_eq, decide_eq_decide.2 hl]
  simp only [shut_ne_nil, opens_iff, not_not_intro hopen, if_false]
  exact (Quiet.ite (recordWrite_quiet _ _ _ _ _) (.refl _)).trans (countWrite_quiet _ _ _ _ _)

/-- A write that nothing refuses whole changes what its word's write changes, and what is logged and counted of it. -/
theorem regWrite_made (h : Reaches s a w) (hp : ¬ a.poison = true)
    (hr : ¬ (a.ini = .host ∧ ∃ f ∈ w.fields, f.acts = true ∧ f.allows s.regRole = false))
    (hopen : ∃ f ∈ w.fields, f.acts = true ∧ ¬ (s.Locked a.ini ∧ f.live = false)) :
    Quiet ((if s.Locked a.ini ∧ ∃ f ∈ w.fields, f.acts = true ∧ f.live = false then
        (s.noticed a.ini).refuseWrite a.addr (a.value % 2 ^ 32) s.regRole a.ini 2
      else s.noticed a.ini).wordWritten (Ini.code a.ini) a.addr w (fun f => decide (¬ (s.Locked a.ini ∧ f.live = false)))
        (a.value % 2 ^ 32)) (s.regWrite a) := by
  have hacts : ∃ f ∈ w.fields, f.acts = true := hopen.imp fun f hf => ⟨hf.1, hf.2.1⟩
  have hlocked : (s.noticed a.ini).Locked a.ini ↔ s.Locked a.ini := by simp only [State.Locked, get_noticed]
  have q := lockedWrite_open (role := s.writeRole a.ini) (v := a.value % 2 ^ 32) hlocked hopen
  rw [← regWrite_entitled h hp hacts hr] at q
  by_cases hshut : s.Locked a.ini ∧ ∃ f ∈ w.fields, f.acts = true ∧ f.live = false
  · have hrole : s.writeRole a.ini = s.regRole := if_pos hshut.1.1
    rwa [hrole] at q
  · rwa [if_neg hshut] at q ⊢

/-! ## The judgement of a register write -/

theorem exec_regWrite {i : Instr} (h : i ∈ [Instr.registerWrite a, .w1cWrite a, .hiWrite a, .loWrite a]) (s : State) :
    exec i s = .next (s.regWrite a) := by
  simp only [List.mem_cons, List.not_mem_nil, or_false] at h
  rcases h with rfl | rfl | rfl | rfl
  · rfl
  · rfl
  · rfl
  · rfl

theorem regWrite_unopened (h : a.ini = .dump ∨ (a.ini = .host ∧ s.get Reg.HIF_STATUS_STATE = 0)) : s.regWrite a = s := if_pos h

theorem regWrite_nowhere (ho : ¬ (a.ini = .dump ∨ (a.ini = .host ∧ s.get Reg.HIF_STATUS_STATE = 0)))
    (h : a.full = false ∨ wordAt a.addr = none) : s.regWrite a = s.defaultHit (iniOf a.ini) a.addr true true := by
  unfold State.regWrite
  rw [if_neg ho]
  rcases h with h | h
  · simp [h]
  · simp [h]

theorem regWrite_absent (ho : ¬ (a.ini = .dump ∨ (a.ini = .host ∧ s.get Reg.HIF_STATUS_STATE = 0))) (hf : a.full = true)
    (hw : wordAt a.addr = some w) (h : s.wordAbsent a.addr = true) : s.regWrite a = s := by
  unfold State.regWrite
  rw [if_neg ho]
  simp [hf, hw, h]

/-! ## What the write of a word leaves of its fields (R13, R18) -/

/-- What a write of a word leaves of one of its fields that held a value. -/
def Fld.written (f : Fld) (old v : Nat) : Nat :=
  if f.acc = .rw then f.nearer (f.part v) % 2 ^ f.width
  else if f.acc = .w1c then (old &&& ((2 ^ f.width - 1) ^^^ f.part v)) % 2 ^ f.width
  else old

theorem get_putPart_same (s : State) (f : Fld) (v : Nat) : (s.putPart f v).get f = f.written (s.get f) v := by
  unfold State.putPart Fld.written
  split
  · exact State.get_put_same _ _ _
  · split
    · exact State.get_put_same _ _ _
    · rfl

theorem get_putPart_ne (s : State) {f g : Fld} (v : Nat) (h : g.key ≠ f.key) : (s.putPart f v).get g = s.get g := by
  unfold State.putPart
  split
  · exact State.get_put_ne _ _ h
  · split
    · exact State.get_put_ne _ _ h
    · rfl

/-- A word's write leaves every register alone but its fields. -/
theorem get_putWord_ne (s : State) (ok : Fld → Bool) (v : Nat) {g : Fld} {fs : List Fld} (h : ∀ f ∈ fs, g.key ≠ f.key) :
    (s.putWord ok v fs).get g = s.get g := by
  induction fs generalizing s with
  | nil => rfl
  | cons f fs ih =>
    rw [State.putWord, ih _ fun x hx => h x (.tail _ hx)]
    split
    · exact get_putPart_ne s v (h f (.head _))
    · rfl

/-- A word's write leaves of each field it is open to what that field's write leaves. -/
theorem get_putWord_mem (s : State) (ok : Fld → Bool) (v : Nat) {f : Fld} {fs : List Fld} (hok : ok f = true) (hf : f ∈ fs)
    (hd : fs.Pairwise fun x y => y.key ≠ x.key) : (s.putWord ok v fs).get f = f.written (s.get f) v := by
  induction fs generalizing s with
  | nil => cases hf
  | cons g gs ih =>
    obtain ⟨hg, hgs⟩ := List.pairwise_cons.1 hd
    rw [State.putWord]
    cases hf with
    | head =>
      rw [if_pos hok, get_putWord_ne _ _ _ fun x hx => (hg x hx).symm, get_putPart_same]
    | tail _ hf =>
      rw [ih _ hf hgs]
      congr 1
      split
      · exact get_putPart_ne s v (hg f hf)
      · rfl

/-- A word's write changes registers alone. -/
theorem putWord_eq (s : State) (ok : Fld → Bool) (v : Nat) (fs : List Fld) : ∃ r, s.putWord ok v fs = { s with regs := r } := by
  induction fs generalizing s with
  | nil => exact ⟨_, rfl⟩
  | cons f fs ih =>
    obtain ⟨r, hr⟩ : ∃ r, (if ok f then s.putPart f v else s) = { s with regs := r } := by
      unfold State.putPart
      split
      · split
        · exact ⟨_, rfl⟩
        · split
          · exact ⟨_, rfl⟩
          · exact ⟨_, rfl⟩
      · exact ⟨_, rfl⟩
    obtain ⟨r', h'⟩ := ih { s with regs := r }
    exact ⟨r', by rw [State.putWord, hr, h']⟩

@[simp] theorem putWord_tc (s : State) (ok : Fld → Bool) (v : Nat) (fs : List Fld) : (s.putWord ok v fs).tc = s.tc := by
  obtain ⟨_, h⟩ := putWord_eq s ok v fs; rw [h]
@[simp] theorem putWord_mem (s : State) (ok : Fld → Bool) (v : Nat) (fs : List Fld) : (s.putWord ok v fs).mem = s.mem := by
  obtain ⟨_, h⟩ := putWord_eq s ok v fs; rw [h]

/-! ## A word's write where nothing follows from it -/

theorem hooked_below {a : Nat} (s : State) (f : State → State) (h : a < 0x30000) : s.hooked a f = f s := by
  unfold State.hooked
  extract_lets n cfg old t oO oA en s1
  split
  · rfl
  · repeat rw [if_neg (by omega)]

theorem unitTakes_below {a : Nat} (s : State) (v : Nat) (h : a < 0x30000) : s.unitTakes a v = true := by
  unfold State.unitTakes
  rw [if_neg (by omega), if_neg (by omega), decide_eq_false (by omega)]
  rfl

theorem synTakes_below {a : Nat} (s t : State) (h : a < 0x30000) : s.synTakes t a = true := by
  unfold State.synTakes
  extract_lets g
  rw [decide_eq_true (by omega), Bool.true_or]

/-- A write below the blocks of the units, at none of the words whose write is an action, is its word's write alone. -/
theorem wordWritten_plain {a : Nat} (s : State) (cls : Nat) (w : Word) (ok : Fld → Bool) (v : Nat) (h : a < 0x30000)
    (hlock : a ≠ 0x2000C) (hkick : a ≠ 0x20024) (hring : ringCtrlOf a = none) :
    s.wordWritten cls a w ok v = s.writeWord cls a w ok v := by
  have hpmc : pmcClearOf a = none := if_neg (by omega)
  unfold State.wordWritten
  rw [if_neg hlock, if_neg hkick, if_neg (by omega), if_neg (by omega)]
  simp only [hpmc, hring, unitTakes_below _ _ h, synTakes_below _ _ h, hooked_below _ _ h]
  rw [if_neg (by simp), if_neg (by omega), if_neg (by omega)]

theorem writeWord_single {a : Nat} (s : State) (cls : Nat) (ok : Fld → Bool) (v : Nat) (ht : s.takesWrite a = true)
    (hs : w.staged = false) (hl : w.latch = []) : s.writeWord cls a w ok v = (s.putWord ok v w.fields).normalize a := by
  unfold State.writeWord
  rw [if_neg (not_not_intro ht), if_neg (by simp [hs])]
  split
  · rw [if_neg (by simp [hl])]
  · rfl

theorem writeWord_staged {a : Nat} (s : State) (cls : Nat) (ok : Fld → Bool) (v : Nat) (ht : s.takesWrite a = true)
    (hs : w.staged = true) : s.writeWord cls a w ok v =
      { s with hif := { s.hif with staged := aput s.hif.staged (latchKey cls a) v } } := by
  unfold State.writeWord
  rw [if_neg (not_not_intro ht), if_pos hs]

/-- A LO word's write takes the staged HI word along; the HI word it leaves is then staged for every class (R471). -/
theorem writeWord_pair {a hv : Nat} {hi : Word} (s : State) (cls : Nat) (ok : Fld → Bool) (v : Nat) (ht : s.takesWrite a = true)
    (hs : w.staged = false) (hl : w.latch ≠ []) (hw : wordAt (a + 4) = some hi) (hh : hi.staged = true)
    (hst : s.stagedHi cls (a + 4) = some hv) :
    ∃ x, s.writeWord cls a w ok v = { (((s.putWord ok v w.fields).putWord ok hv hi.fields).normalize a) with hif := x } := by
  unfold State.writeWord
  rw [if_neg (not_not_intro ht), if_neg (by simp [hs])]
  simp only [hw, hst]
  rw [if_pos ⟨hl, hh⟩]
  exact ⟨_, rfl⟩

theorem normalize_below {a : Nat} (s : State) (h : a < 0x20000) : s.normalize a = s := by
  unfold State.normalize
  repeat rw [if_neg (by omega)]

theorem normalize_dbBase (s : State) :
    s.normalize 0x20010 = s.put Reg.DB_BASE_LO_ADDR_LO (s.get Reg.DB_BASE_LO_ADDR_LO / 256 * 256) := rfl

theorem takesWrite_below {a : Nat} (s : State) (h : a < 0x20000) : s.takesWrite a = true := by
  unfold State.takesWrite
  rw [if_neg (by omega), if_neg (by omega)]

theorem takesWrite_dbBase (s : State) (h : ∀ n, n < 64 → s.ringSt n = 0) : s.takesWrite 0x20010 = true := by
  show ((List.range 64).all fun n => decide (s.get (Reg.RING_STATUS_STATE n) = 0)) = true
  rw [List.all_eq_true]
  exact fun n hn => decide_eq_true (h n (List.mem_range.1 hn))

/-- The host's write of a word whose fields are all live and within its right, where nothing follows from the word, is its
word's write. -/
theorem regWrite_live {a v : Nat} (hv : v < 2 ^ 32) (ho : s.get Reg.HIF_STATUS_STATE ≠ 0) (hw : wordAt a = some w)
    (hhere : s.wordAbsent a = false) (hlive : ∀ f ∈ w.fields, f.live = true) (hacts : ∃ f ∈ w.fields, f.acts = true)
    (hr : ∀ f ∈ w.fields, f.allows s.regRole = true) (h : a < 0x30000) (hlock : a ≠ 0x2000C) (hkick : a ≠ 0x20024)
    (hring : ringCtrlOf a = none) :
    ∃ ok : Fld → Bool, (∀ f, f.live = true → ok f = true) ∧
      Quiet (s.touchReg.writeWord 0 a w ok v) (s.regWrite ⟨.host, a, v, true, false⟩) := by
  have hreach : Reaches s ⟨.host, a, v, true, false⟩ w := ⟨by simp [ho], rfl, hw, hhere⟩
  have hright : ¬ (Ini.host = .host ∧ ∃ f ∈ w.fields, f.acts = true ∧ f.allows s.regRole = false) := by
    rintro ⟨-, f, hf, -, hn⟩
    simp [hr f hf] at hn
  have hopen : ∃ f ∈ w.fields, f.acts = true ∧ ¬ (s.Locked .host ∧ f.live = false) :=
    hacts.imp fun f hf => ⟨hf.1, hf.2, by simp [hlive f hf.1]⟩
  have hshut : ¬ (s.Locked .host ∧ ∃ f ∈ w.fields, f.acts = true ∧ f.live = false) := by
    rintro ⟨-, f, hf, -, hn⟩
    simp [hlive f hf] at hn
  have q := regWrite_made hreach (by simp) hright hopen
  rw [if_neg hshut, wordWritten_plain _ _ _ _ _ h hlock hkick hring, Nat.mod_eq_of_lt hv] at q
  exact ⟨_, fun f hf => by simp [hf], q⟩

theorem wordAbsent_below {a : Nat} (s : State) (h : a < 0x20000) : s.wordAbsent a = false := by
  have hnone : regUnit a = none := if_pos h
  simp only [State.wordAbsent, hnone]

/-- The host's write of a word of GLB or PWR that stands alone, where its fields are all live and within its right. -/
theorem regWrite_single {a v : Nat} (hv : v < 2 ^ 32) (ho : s.get Reg.HIF_STATUS_STATE ≠ 0) (ha : a < 0x20000)
    (hw : wordAt a = some w) (hs : w.staged = false) (hl : w.latch = []) (hlive : ∀ f ∈ w.fields, f.live = true)
    (hacts : ∃ f ∈ w.fields, f.acts = true) (hr : ∀ f ∈ w.fields, f.allows s.regRole = true)
    (hd : w.fields.Pairwise fun x y => y.key ≠ x.key) :
    let t := s.regWrite ⟨.host, a, v, true, false⟩
    (∀ f ∈ w.fields, f.key ∉ bookkeeping → t.get f = f.written (s.get f) v) ∧ t.tc = s.tc ∧ t.mem = s.mem ∧
      ∀ f : Fld, f.key ∉ bookkeeping → (∀ g ∈ w.fields, f.key ≠ g.key) → t.get f = s.get f := by
  intro t
  obtain ⟨ok, hok, q⟩ := regWrite_live hv ho hw (wordAbsent_below s ha) hlive hacts hr (by omega) (by omega) (by omega)
    (if_neg (by omega))
  rw [writeWord_single _ _ _ _ (takesWrite_below _ ha) hs hl, normalize_below _ ha] at q
  refine ⟨fun f hf hb => ?_, q.tc.trans (by simp), q.mem.trans (by simp), fun f hb hne => ?_⟩
  · rw [q.regs f hb, get_putWord_mem _ _ _ (hok f (hlive f hf)) hf hd, get_touchReg]
  · rw [q.regs f hb, get_putWord_ne _ _ _ hne, get_touchReg]

/-! ## SESSION_CFG, ROLE_STICKY and DB_BASE written -/

/-- SESSION_CFG as a word. -/
def sessionCfgWord : Word :=
  ⟨[Reg.SESSION_CFG_IDLE_TIMEOUT, Reg.SESSION_CFG_FAIL_LIMIT, Reg.SESSION_CFG_LOCKOUT], [], false, false⟩

theorem wordAt_sessionCfg : wordAt 0x10C = some sessionCfgWord := rfl

/-- ROLE_STICKY as a word. -/
def roleStickyWord : Word := ⟨[Reg.ROLE_STICKY_STICKY], [], false, false⟩

theorem wordAt_roleSticky : wordAt 0x104 = some roleStickyWord := rfl

/-- DB_BASE_LO as a word, whose write takes the word after it along. -/
def dbBaseLoWord : Word := ⟨[Reg.DB_BASE_LO_ADDR_LO], [4], false, false⟩

theorem wordAt_dbBaseLo : wordAt 0x20010 = some dbBaseLoWord := rfl

/-- DB_BASE_HI as a word, which waits for the word before it. -/
def dbBaseHiWord : Word := ⟨[Reg.DB_BASE_HI_ADDR_HI], [], true, true⟩

theorem wordAt_dbBaseHi : wordAt 0x20014 = some dbBaseHiWord := rfl

theorem clampI_nat {l h : Nat} (n : Nat) (hlh : l ≤ h) : clampI l h n = (min h (max l n) : Nat) := by
  unfold clampI
  split
  · omega
  · split
    · omega
    · omega

theorem toBits_nat (w n : Nat) : toBits w n = n % 2 ^ w := by
  unfold toBits
  exact_mod_cast Int.toNat_natCast _

/-- An unsigned field with a range takes the nearer end of it. -/
theorem written_ranged {f : Fld} {l h : Nat} (old v : Nat) (hacc : f.acc = .rw) (hs : f.sgn = false)
    (hr : f.range = some ((l : Int), (h : Int))) (hlh : l ≤ h) (hw : h < 2 ^ f.width) :
    f.written old v = min h (max l (f.part v)) := by
  have hn : f.nearer (f.part v) = min h (max l (f.part v)) := by
    have hlt : min h (max l (f.part v)) < 2 ^ f.width := (Nat.min_le_left _ _).trans_lt hw
    simp only [Fld.nearer, hr, Fld.value, hs, Bool.false_eq_true, if_false]
    rw [clampI_nat _ hlh, toBits_nat, Nat.mod_eq_of_lt hlt]
  rw [Fld.written, if_pos hacc, hn]
  exact Nat.mod_eq_of_lt ((Nat.min_le_left _ _).trans_lt hw)

/-- A field without a range takes its part of the word. -/
theorem written_unranged {f : Fld} (old v : Nat) (hacc : f.acc = .rw) (hr : f.range = none) : f.written old v = f.part v := by
  have hn : f.nearer (f.part v) = f.part v := by simp only [Fld.nearer, hr]
  rw [Fld.written, if_pos hacc, hn]
  exact Nat.mod_mod _ _

theorem written_idleTimeout (old v : Nat) : Reg.SESSION_CFG_IDLE_TIMEOUT.written old v = max 10 (v % 2 ^ 16) := by
  rw [written_ranged old v (l := 10) (h := 65535) rfl rfl rfl (by decide) (by decide)]
  simp only [Fld.part, Reg.SESSION_CFG_IDLE_TIMEOUT]
  omega

theorem written_failLimit (old v : Nat) : Reg.SESSION_CFG_FAIL_LIMIT.written old v = max 1 (v / 2 ^ 16 % 2 ^ 4) := by
  rw [written_ranged old v (l := 1) (h := 15) rfl rfl rfl (by decide) (by decide)]
  simp only [Fld.part, Reg.SESSION_CFG_FAIL_LIMIT]
  omega

theorem written_lockout (old v : Nat) :
    Reg.SESSION_CFG_LOCKOUT.written old v = min 3600 (max 10 (v / 2 ^ 20 % 2 ^ 12)) :=
  written_ranged old v (l := 10) (h := 3600) rfl rfl rfl (by decide) (by decide)

theorem written_dbBaseLo (old v : Nat) : Reg.DB_BASE_LO_ADDR_LO.written old v = v % 2 ^ 32 := by
  rw [written_unranged old v rfl rfl]
  simp only [Fld.part, Reg.DB_BASE_LO_ADDR_LO, Nat.pow_zero, Nat.div_one]

theorem written_dbBaseHi (old v : Nat) : Reg.DB_BASE_HI_ADDR_HI.written old v = v % 2 ^ 32 := by
  rw [written_unranged old v rfl rfl]
  simp only [Fld.part, Reg.DB_BASE_HI_ADDR_HI, Nat.pow_zero, Nat.div_one]

theorem bit_eq_testBit (n k : Nat) : bit n k = n.testBit k := by
  rw [bit, Nat.testBit_eq_decide_div_mod_eq]

/-- A sticky bit written 1 clears, and one written 0 stays. -/
theorem bit_written_roleSticky (old v : Nat) {k : Nat} (hk : k < 4) :
    bit (Reg.ROLE_STICKY_STICKY.written old v) k = (bit old k && ! bit v k) := by
  have e : Reg.ROLE_STICKY_STICKY.written old v = (old &&& ((2 ^ 4 - 1) ^^^ v / 2 ^ 0 % 2 ^ 4)) % 2 ^ 4 := rfl
  simp only [e, bit_eq_testBit, Nat.testBit_mod_two_pow, Nat.testBit_and, Nat.testBit_xor, Nat.testBit_two_pow_sub_one, hk]
  simp

theorem sessionCfg_written {v : Nat} (hv : v < 2 ^ 32) (ho : s.get Reg.HIF_STATUS_STATE ≠ 0) (hr : hasRight s.regRole 2 = true) :
    let t := s.regWrite ⟨.host, 0x10C, v, true, false⟩
    t.get Reg.SESSION_CFG_IDLE_TIMEOUT = max 10 (v % 2 ^ 16) ∧ t.get Reg.SESSION_CFG_FAIL_LIMIT = max 1 (v / 2 ^ 16 % 2 ^ 4) ∧
      t.get Reg.SESSION_CFG_LOCKOUT = min 3600 (max 10 (v / 2 ^ 20 % 2 ^ 12)) ∧ t.tc = s.tc ∧ t.mem = s.mem ∧
      ∀ f : Fld, f.key ∉ bookkeeping → f.addr ≠ 0x10C → f.lo < 32 → t.get f = s.get f := by
  intro t
  have hall : ∀ f ∈ sessionCfgWord.fields, f.allows s.regRole = true :=
    List.forall_mem_cons.2 ⟨hr, List.forall_mem_cons.2 ⟨hr, List.forall_mem_singleton.2 hr⟩⟩
  obtain ⟨hget, htc, hmem, hne⟩ := regWrite_single hv ho (by decide) wordAt_sessionCfg rfl rfl (by decide) (by decide) hall (by decide)
  refine ⟨(hget _ (.head _) (by decide)).trans (written_idleTimeout _ _),
    (hget _ (.tail _ (.head _)) (by decide)).trans (written_failLimit _ _),
    (hget _ (.tail _ (.tail _ (.head _))) (by decide)).trans (written_lockout _ _), htc, hmem, fun f hb ha hlo => hne f hb ?_⟩
  have haddr : ∀ g ∈ sessionCfgWord.fields, g.addr = 0x10C ∧ g.lo < 32 := by decide
  intro g hg hk
  obtain ⟨hga, hgl⟩ := haddr g hg
  unfold Fld.key at hk
  omega

theorem roleSticky_written {v : Nat} (hv : v < 2 ^ 32) (ho : s.get Reg.HIF_STATUS_STATE ≠ 0) (hr : hasRight s.regRole 1 = true) :
    let t := s.regWrite ⟨.host, 0x104, v, true, false⟩
    (∀ k, k < 4 → t.fbit Reg.ROLE_STICKY_STICKY k = (s.fbit Reg.ROLE_STICKY_STICKY k && ! bit v k)) ∧ t.tc = s.tc ∧ t.mem = s.mem := by
  intro t
  have hall : ∀ f ∈ roleStickyWord.fields, f.allows s.regRole = true := List.forall_mem_singleton.2 hr
  obtain ⟨hget, htc, hmem, -⟩ := regWrite_single hv ho (by decide) wordAt_roleSticky rfl rfl (by decide) (by decide) hall (by decide)
  refine ⟨fun k hk => ?_, htc, hmem⟩
  have e : t.get Reg.ROLE_STICKY_STICKY = _ := hget _ (.head _) (by decide)
  rw [State.fbit, e, bit_written_roleSticky _ _ hk]
  rfl

theorem wordAbsent_hif {a : Nat} (h : regUnit a = some 0xB000) (hp : (s.unit 0xB000).st ≠ .absent) : s.wordAbsent a = false := by
  simp only [State.wordAbsent, h, hp, decide_false]

theorem dbBaseHi_staged {v : Nat} (hv : v < 2 ^ 32) (ho : s.get Reg.HIF_STATUS_STATE ≠ 0) (hp : (s.unit 0xB000).st ≠ .absent) :
    let t := s.regWrite ⟨.host, 0x20014, v, true, false⟩
    t.hif.staged = aput s.hif.staged (latchKey 0 0x20014) v ∧ t.get Reg.DB_BASE_HI_ADDR_HI = s.get Reg.DB_BASE_HI_ADDR_HI ∧
      t.get Reg.DB_BASE_LO_ADDR_LO = s.get Reg.DB_BASE_LO_ADDR_LO := by
  intro t
  have hall : ∀ f ∈ dbBaseHiWord.fields, f.allows s.regRole = true := List.forall_mem_singleton.2 rfl
  obtain ⟨ok, -, q⟩ := regWrite_live hv ho wordAt_dbBaseHi (wordAbsent_hif (by decide) hp) (by decide) (by decide) hall (by decide)
    (by decide) (by decide) (by decide)
  rw [writeWord_staged _ _ _ _ rfl rfl] at q
  refine ⟨?_, (q.regs _ (by decide)).trans (get_touchReg _ _), (q.regs _ (by decide)).trans (get_touchReg _ _)⟩
  rw [q.hif, touchReg_hif]

/-- DB_BASE_LO's write sets both words, the LO word aligned to 256 bytes (R388, R471). -/
theorem writeWord_dbBase {v hi : Nat} {ok : Fld → Bool} (hv : v < 2 ^ 32) (hhi : hi < 2 ^ 32)
    (hok : ∀ f : Fld, f.live = true → ok f = true) (hring : ∀ n, n < 64 → s.ringSt n = 0)
    (hst : aget s.hif.staged (latchKey 0 0x20014) = some hi) :
    let u := s.writeWord 0 0x20010 dbBaseLoWord ok v
    u.get Reg.DB_BASE_LO_ADDR_LO = v / 256 * 256 ∧ u.get Reg.DB_BASE_HI_ADDR_HI = hi ∧ u.tc = s.tc ∧ u.mem = s.mem := by
  intro u
  obtain ⟨x, e⟩ : ∃ x, u = _ := writeWord_pair s 0 ok v (takesWrite_dbBase s hring) rfl (by decide) wordAt_dbBaseHi rfl hst
  rw [normalize_dbBase] at e
  have hmemLo : Reg.DB_BASE_LO_ADDR_LO ∈ dbBaseLoWord.fields := .head _
  have hmemHi : Reg.DB_BASE_HI_ADDR_HI ∈ dbBaseHiWord.fields := .head _
  have hlo : ((s.putWord ok v dbBaseLoWord.fields).putWord ok hi dbBaseHiWord.fields).get Reg.DB_BASE_LO_ADDR_LO = v := by
    rw [get_putWord_ne _ _ _ (by decide), get_putWord_mem _ _ _ (hok _ rfl) hmemLo (by decide), written_dbBaseLo,
      Nat.mod_eq_of_lt hv]
  have hhi' : ((s.putWord ok v dbBaseLoWord.fields).putWord ok hi dbBaseHiWord.fields).get Reg.DB_BASE_HI_ADDR_HI = hi := by
    rw [get_putWord_mem _ _ _ (hok _ rfl) hmemHi (by decide), written_dbBaseHi, Nat.mod_eq_of_lt hhi]
  rw [hlo] at e
  have hcut : v / 256 * 256 % 2 ^ Reg.DB_BASE_LO_ADDR_LO.width = v / 256 * 256 :=
    Nat.mod_eq_of_lt ((Nat.div_mul_le_self v 256).trans_lt hv)
  rw [e]
  exact ⟨(State.get_put_same _ _ _).trans hcut, (State.get_put_ne _ _ (by decide)).trans hhi', by simp, by simp⟩

theorem dbBaseLo_written {v hi : Nat} (hv : v < 2 ^ 32) (hhi : hi < 2 ^ 32) (ho : s.get Reg.HIF_STATUS_STATE ≠ 0)
    (hp : (s.unit 0xB000).st ≠ .absent) (hst : aget s.hif.staged (latchKey 0 0x20014) = some hi)
    (hring : ∀ n, n < 64 → s.ringSt n = 0) :
    let t := s.regWrite ⟨.host, 0x20010, v, true, false⟩
    t.get Reg.DB_BASE_LO_ADDR_LO = v / 256 * 256 ∧ t.get Reg.DB_BASE_HI_ADDR_HI = hi ∧ t.tc = s.tc ∧ t.mem = s.mem := by
  intro t
  have hall : ∀ f ∈ dbBaseLoWord.fields, f.allows s.regRole = true := List.forall_mem_singleton.2 rfl
  obtain ⟨ok, hok, q⟩ := regWrite_live hv ho wordAt_dbBaseLo (wordAbsent_hif (by decide) hp) (by decide) (by decide) hall (by decide)
    (by decide) (by decide) (by decide)
  obtain ⟨hlo, hhi', htc, hmem⟩ := writeWord_dbBase (s := s.touchReg) hv hhi hok
    (fun n hn => (get_touchReg _ _).trans (hring n hn)) ((congrArg (fun h : Hif => aget h.staged _) (touchReg_hif s)).trans hst)
  exact ⟨(q.regs _ (by decide)).trans hlo, (q.regs _ (by decide)).trans hhi', q.tc.trans (htc.trans (touchReg_tc s)),
    q.mem.trans (hmem.trans (touchReg_mem s))⟩

end

end Sys2Proof.Machine
end

section
/-! PROOFS. The state after reset, register writes and register reads: O3, O44, O45 and O46. -/

namespace Sys2Proof.Machine

theorem sound_reset : Sound State.reset where
  mem        := rfl
  events     := Nat.zero_le _
  dumps      := Nat.zero_le _
  log        := Nat.zero_le _
  keeper     := Nat.zero_le _
  challenges := Nat.zero_le _
  journal    := Nat.zero_le _
  grants     := Nat.zero_le _

theorem get_reset (f : Fld) : State.reset.get f = f.reset := rfl

theorem unit_reset (h : Nat) : (State.reset.unit h).st = .absent := rfl

/-- Settles O3: the reset state lists no register, unit, session, timer, command or byte of memory, so each reader gives its default. -/
theorem resetState : Obligations.ResetState := by
  unfold Obligations.ResetState
  exact ⟨sound_reset, get_reset, rfl, unit_reset, rfl, fun _ => rfl, rfl, rfl, rfl, rfl, fun _ => rfl⟩

/-- Settles O44: each branch of the judgement is one lemma about a write that gets so far. -/
theorem registerWrites : Obligations.RegisterWrites := by
  unfold Obligations.RegisterWrites
  intro s a i hi
  refine ⟨s.regWrite a, exec_regWrite hi s, ?_⟩
  intro host locked refused
  by_cases hunopened : a.ini = .dump ∨ (host ∧ s.get Reg.HIF_STATUS_STATE = 0)
  · rw [if_pos hunopened]
    exact regWrite_unopened hunopened
  rw [if_neg hunopened]
  by_cases hnowhere : a.full = false ∨ wordAt a.addr = none
  · rw [if_pos hnowhere]
    exact regWrite_nowhere hunopened hnowhere
  rw [if_neg hnowhere]
  intro w hw
  have hfull : a.full = true := by simpa using (not_or.1 hnowhere).1
  by_cases habsent : s.wordAbsent a.addr = true
  · rw [if_pos habsent]
    exact regWrite_absent hunopened hfull hw habsent
  rw [if_neg habsent]
  have hr : Reaches s a w := ⟨hunopened, hfull, hw, by simpa using habsent⟩
  have refused_of {cause : Nat} (e : s.regWrite a =
      (s.noticed a.ini).refuseWrite a.addr (a.value % 2 ^ 32) (s.writeRole a.ini) a.ini cause) : refused := by
    show Refused s (s.regWrite a)
    rw [e]
    exact refused_noticed.1 (refused_refuseWrite _ _ _ _ _ _)
  by_cases hpoison : a.poison = true
  · rw [if_pos hpoison]
    exact refused_of (regWrite_poisoned hr hpoison)
  rw [if_neg hpoison]
  by_cases hinert : ∀ f ∈ w.fields, f.acts = false
  · rw [if_pos hinert]
    exact regWrite_inert hr hpoison hinert
  rw [if_neg hinert]
  by_cases hright : host ∧ ∃ f ∈ w.fields, f.acts = true ∧ f.allows s.regRole = false
  · rw [if_pos hright]
    exact refused_of (regWrite_unentitled hr hpoison hright.1 hright.2)
  rw [if_neg hright]
  have hacts : ∃ f ∈ w.fields, f.acts = true := by simpa using hinert
  by_cases hfrozen : locked ∧ ∀ f ∈ w.fields, f.acts = true → f.live = false
  · rw [if_pos hfrozen]
    exact refused_of ((regWrite_entitled hr hpoison hacts hright).trans
      (lockedWrite_frozen ⟨hfrozen.1.1, (get_noticed _ _ _).trans hfrozen.1.2⟩ hacts hfrozen.2))
  rw [if_neg hfrozen]
  have hopen : ∃ f ∈ w.fields, f.acts = true ∧ ¬ (locked ∧ f.live = false) := by
    by_cases hl : locked
    · simpa [hl] using hfrozen
    · simpa [hl] using hacts
  exact regWrite_made hr hpoison hright hopen

/-- Settles O45: one lemma for each of the registers it names. -/
theorem registerWriteResults : Obligations.RegisterWriteResults := by
  unfold Obligations.RegisterWriteResults
  intro s v hv ho
  exact ⟨fun hr => ⟨_, rfl, sessionCfg_written hv ho hr⟩, fun hr => ⟨_, rfl, roleSticky_written hv ho hr⟩,
    fun hp => ⟨⟨_, rfl, dbBaseHi_staged hv ho hp⟩, fun hi hhi hst hring => ⟨_, rfl, dbBaseLo_written hv hhi ho hp hst hring⟩⟩⟩

/-- A poisoned read by the dump engine is noted for the next dump, of a latched word too (R399; log entry 206). -/
theorem bad_regRead_latched {s : State} {a : Nat} {w : Word} (hw : wordAt a = some w) (hhere : s.wordAbsent a = false)
    (hl : w.latched = true) : (s.regRead .dump a true).pmc.bad = a :: s.pmc.bad.erase a := by
  simp [State.regRead, hw, hhere, hl, State.dumpTold, State.returns]

/-- GLB_SERIAL_HI as a word, which is served from a latch. -/
def glbSerialHiWord : Word := ⟨[Reg.GLB_SERIAL_HI_SER_HI], [], true, false⟩

theorem wordAt_glbSerialHi : wordAt 0x10 = some glbSerialHiWord := rfl

/-- Refutes O46: right after reset the dump engine reads the latched word GLB_SERIAL_HI poisoned, and the read does more than return
ones: it notes the word for the next dump (R399). -/
theorem not_registerReads : ¬ Obligations.RegisterReads := by
  unfold Obligations.RegisterReads
  intro h
  obtain ⟨hreads, -⟩ := h State.reset .dump true
  obtain ⟨t, ht, hread⟩ := hreads 0x10 (.rcRead .dump 0x10 true) (.head _)
  have hopen : ¬ (Ini.dump = .host ∧ State.reset.get Reg.HIF_STATUS_STATE = 0 ∧ ¬ (0x10 < 0x10000 ∨ 0x10 = 0x20000)) := by simp
  rw [if_neg hopen] at hread
  have hlatched := hread.2 glbSerialHiWord wordAt_glbSerialHi
  rw [if_neg (by decide), if_pos rfl] at hlatched
  have ht' : State.reset.regRead .dump 0x10 true = t := Host.Outcome.next.inj ht
  have hbad : t.pmc.bad = [0x10] := by
    rw [← ht']
    exact bad_regRead_latched wordAt_glbSerialHi (by decide) rfl
  rw [hlatched] at hbad
  exact absurd hbad (by decide)

end Sys2Proof.Machine
end

section
/-! PROOFS. A part of the state that each branch and each turn of an operation leaves alone, the operation leaves alone. -/

namespace Sys2Proof.Machine

theorem view_ite {α : Type} (p : State → α) {s t u : State} {c : Prop} [Decidable c] (ht : p t = p s) (hu : p u = p s) :
    p (if c then t else u) = p s := by
  split
  · exact ht
  · exact hu

theorem view_foldl {α β : Type} (p : State → α) {f : State → β → State} (h : ∀ s x, p (f s x) = p s) (s : State) (l : List β) :
    p (l.foldl f s) = p s := by
  induction l generalizing s with
  | nil => rfl
  | cons x l ih => exact (ih _).trans (h s x)

end Sys2Proof.Machine
end

section
/-! PROOFS. An edge of TCLK (R48, R57, R58, R60): the arithmetic of the slew and its clamp, and what passes at the edge beside the Time Core's
own advance. -/

namespace Sys2Proof.Machine

section

/-! ## The slew of one edge -/

theorem clampI_eq {lo hi : Int} (h : lo ≤ hi) (x : Int) : clampI lo hi x = max lo (min hi x) := by
  unfold clampI
  split
  · omega
  · split
    · omega
    · omega

theorem rateTotal_eq (adj remain : Int) (limit : Nat) :
    rateTotal adj remain limit = max (-rMax) (min rMax (adj + slewWant remain limit)) := clampI_eq (by decide) _

/-- What an edge takes from SLEW_REMAIN: SLEW_LIMIT with the sign of SLEW_REMAIN, as far as RMAX leaves room (R58, R60). -/
def TimeCore.cut (tc : TimeCore) (limit : Nat) : Int := rateTotal tc.rateAdj tc.slew limit - tc.rateAdj

variable {tc : TimeCore} {limit : Nat}

theorem cut_eq_zero (h : limit = 0 ∨ tc.slew = 0) (hl : -rMax ≤ tc.rateAdj) (hu : tc.rateAdj ≤ rMax) : tc.cut limit = 0 := by
  have hwant : slewWant tc.slew limit = 0 := by unfold slewWant; split_ifs <;> omega
  unfold TimeCore.cut
  rw [rateTotal_eq, hwant]
  omega

/-- The clamp keeps the slew's sign, and the rate within RMAX. -/
theorem cut_sign (hl : -rMax ≤ tc.rateAdj) (hu : tc.rateAdj ≤ rMax) :
    (0 ≤ tc.slew → 0 ≤ tc.cut limit) ∧ (tc.slew ≤ 0 → tc.cut limit ≤ 0) ∧ -rMax ≤ tc.rateAdj + tc.cut limit := by
  unfold TimeCore.cut
  rw [rateTotal_eq]
  unfold slewWant
  split_ifs <;> omega

/-- What an edge adds to the time: 25 × (2^48 + RATE_TOTAL), or at the last edge of a slew 25 × (2^48 + RATE_ADJ) and the rest of it (R57, R60). -/
def TimeCore.advance (tc : TimeCore) (limit : Nat) : Int :=
  if tc.slew.natAbs ≤ (25 * tc.cut limit).natAbs then 25 * (2 ^ 48 + tc.rateAdj) + tc.slew
  else 25 * (2 ^ 48 + rateTotal tc.rateAdj tc.slew limit)

/-- The time never runs backwards at an edge. -/
theorem advance_nonneg (hl : -rMax ≤ tc.rateAdj) (hu : tc.rateAdj ≤ rMax) : 0 ≤ tc.advance limit := by
  obtain ⟨hpos, hneg, hmin⟩ := cut_sign (limit := limit) hl hu
  have hrt : rateTotal tc.rateAdj tc.slew limit = tc.rateAdj + tc.cut limit := by unfold TimeCore.cut; omega
  unfold TimeCore.advance
  rw [hrt]
  unfold rMax at *
  split
  · omega
  · omega

theorem edge_time (hl : -rMax ≤ tc.rateAdj) (hu : tc.rateAdj ≤ rMax) :
    ((tc.edge limit).time : Int) = (tc.time + tc.advance limit) % timeMod := by
  have hadv := advance_nonneg (limit := limit) hl hu
  have h : (tc.edge limit).time = (tc.time + (tc.advance limit).toNat) % timeMod := by
    unfold TimeCore.edge TimeCore.advance TimeCore.cut
    split <;> simp [*]
  rw [h, Int.natCast_mod, Int.natCast_add, Int.toNat_of_nonneg hadv]

theorem edge_slew : (tc.edge limit).slew = if tc.slew.natAbs ≤ (25 * tc.cut limit).natAbs then 0 else tc.slew - 25 * tc.cut limit := by
  unfold TimeCore.edge TimeCore.cut
  split <;> simp [*]

/-- A slew never overshoots: what is left has not grown and not changed its sign, and with nothing to retire nothing is retired. -/
theorem edge_slew_within (hl : -rMax ≤ tc.rateAdj) (hu : tc.rateAdj ≤ rMax) :
    (tc.edge limit).slew.natAbs ≤ tc.slew.natAbs ∧ 0 ≤ (tc.edge limit).slew * tc.slew ∧
      (limit = 0 ∨ tc.slew = 0 → (tc.edge limit).slew = tc.slew) := by
  obtain ⟨hpos, hneg, -⟩ := cut_sign (limit := limit) hl hu
  rw [edge_slew]
  split
  · next h => exact ⟨by simp, by simp, fun h0 => by rw [cut_eq_zero h0 hl hu] at h; omega⟩
  · refine ⟨by omega, ?_, fun h0 => by rw [cut_eq_zero h0 hl hu]; omega⟩
    rcases le_total 0 tc.slew with h0 | h0
    · exact Int.mul_nonneg (by omega) h0
    · exact Int.mul_nonneg_of_nonpos_of_nonpos (by omega) h0

/-- Under a Track die fault the time advances by 25 × (2^48 + RATE_ADJ) (R48). -/
theorem edgeStill_time (hl : -rMax ≤ tc.rateAdj) (hu : tc.rateAdj ≤ rMax) :
    ((tc.edgeStill limit).time : Int) = (tc.time + 25 * (2 ^ 48 + tc.rateAdj)) % timeMod := by
  have h := edge_time (tc := { tc with slew := 0, bSlew := 0 }) (limit := limit) hl hu
  have hadv : TimeCore.advance { tc with slew := 0, bSlew := 0 } limit = 25 * (2 ^ 48 + tc.rateAdj) + 0 := if_pos (Nat.zero_le _)
  rw [hadv, add_zero] at h
  exact h

end

/-! ## What passes at the edge -/

section

variable (s : State)

/-- The Time Core and host memory: what the followers of an edge leave alone. -/
abbrev State.timeMem (s : State) : TimeCore × List Host.Cell := (s.tc, s.mem)

theorem timeMem_raise (e : Ev) (items : List Item) (role : Nat) : (s.raise e items role).timeMem = s.timeMem := by
  simp only [State.timeMem, raise_tc, raise_mem]

theorem timeMem_raiseTim (k : Nat) (sev : Sev) (hid lane : Nat) (items : List Item) :
    (s.raiseTim k sev hid lane items).timeMem = s.timeMem := by
  unfold State.raiseTim
  extract_lets v last s1
  split
  · rfl
  · refine (timeMem_raise _ _ _ _).trans ?_
    unfold s1
    split <;> rfl

theorem timeMem_checkPulses (g : Nat) : (s.checkPulses g).timeMem = s.timeMem := by
  have hone : ∀ (s : State) (n : Nat), (s.checkPulse n).timeMem = s.timeMem := by
    intro s n
    unfold State.checkPulse
    extract_lets i e s1
    split
    · exact timeMem_raise _ _ _ _
    · rfl
  refine view_foldl State.timeMem (fun s n => ?_) s _
  split
  · exact hone s n
  · rfl

/-- The groups' followers at an edge (R165). -/
theorem timeMem_synEdge (dt : Int) : (s.synEdge dt).timeMem = s.timeMem := by
  refine view_foldl State.timeMem (fun s g => ?_) s _
  split
  · extract_lets r s1
    split
    · exact (timeMem_checkPulses _ _).trans (timeMem_raise _ _ _ _)
    · rfl
  · rfl

theorem timeMem_falseStarts (k n : Nat) : (s.falseStarts k n).timeMem = s.timeMem := by
  unfold State.falseStarts
  split
  · rfl
  · exact timeMem_raiseTim _ _ _ _ _ _

/-- The heats' sweep at an edge (R148). -/
theorem timeMem_sweepHeats : s.sweepHeats.timeMem = s.timeMem := by
  have hone : ∀ (s : State) (k : Nat), (s.sweepStops k).timeMem = s.timeMem := by
    intro s k
    unfold State.sweepStops
    extract_lets h now
    split
    split
    · rfl
    · exact timeMem_falseStarts _ _ _
  refine view_foldl State.timeMem (fun s p => ?_) s _
  split
  · exact hone s p.1
  · rfl

/-- The sample clock at an edge (R205, R206). -/
theorem timeMem_sampleClock : s.sampleClock.timeMem = s.timeMem := by
  unfold State.sampleClock
  extract_lets s1
  have h1 : s1.timeMem = s.timeMem := by
    unfold s1
    split <;> rfl
  split
  · rfl
  · split
    · exact h1
    · exact h1

/-- The Time Core's own edge, as the state makes it (R48, R60). -/
def State.nextTc (s : State) : TimeCore := if s.dieBad 0 then s.tc.edgeStill s.slewLimit else s.tc.edge s.slewLimit

/-- An edge advances the Time Core, notes at most that B_slew is retired, and leaves host memory alone. -/
theorem tclk_timeMem : ∃ b, s.tclk.timeMem = ({ s.nextTc with bDone := b }, s.mem) := by
  have htick : ∃ b, s.tick.timeMem = ({ s.nextTc with bDone := b }, s.mem) := by
    unfold State.tick
    extract_lets was isOpen s1 s2
    have h2 : ∃ b, s2.timeMem = ({ s.nextTc with bDone := b }, s.mem) := by
      unfold s2
      split
      · exact ⟨true, rfl⟩
      · exact ⟨s.nextTc.bDone, rfl⟩
    split
    · rw [timeMem_raise]; exact h2
    · exact h2
  unfold State.tclk
  rw [timeMem_sampleClock, timeMem_sweepHeats, timeMem_synEdge]
  exact htick

end

/-- Settles O58: the edge of a sound Time Core or of one under a Track die fault, after which nothing at the edge touches the time again. -/
theorem timePerEdge : Obligations.TimePerEdge := by
  unfold Obligations.TimePerEdge
  intro s hl hu t want rt cut
  obtain ⟨b, hb⟩ := tclk_timeMem s
  obtain ⟨htc, hmem⟩ := Prod.mk.inj hb
  have hrt : rt = rateTotal s.tc.rateAdj s.tc.slew s.slewLimit := (rateTotal_eq _ _ _).symm
  have hcut : cut = s.tc.cut s.slewLimit := congrArg (· - s.tc.rateAdj) hrt
  have hadj : s.nextTc.rateAdj = s.tc.rateAdj := by unfold State.nextTc; split <;> rfl
  have ht : t.tc = { s.nextTc with bDone := b } := htc
  refine ⟨by rw [ht]; exact hadj, hmem, fun hbad => ?_, fun hgood => ?_⟩
  · have hnext : s.nextTc = s.tc.edgeStill s.slewLimit := if_pos hbad
    rw [ht, hnext]
    exact ⟨edgeStill_time hl hu, rfl, rfl⟩
  · have hnext : s.nextTc = s.tc.edge s.slewLimit := if_neg (by simp [hgood])
    rw [ht, hnext, hrt, hcut]
    exact ⟨edge_time hl hu, edge_slew, edge_slew_within hl hu⟩

end Sys2Proof.Machine
end

section
/-! PROOFS. Bits of register fields: what setting or clearing one does to each (R13), and the fabric's sticky bits, which stay set whatever is
logged (R405). -/

namespace Sys2Proof.Machine

section

/-! ## Bits of numbers -/

/-- A number with bit k as asked: what lies above the bit, the bit, and what lies below. -/
def withBit (n k : Nat) (b : Bool) : Nat := 2 ^ k * (2 * (n / 2 ^ (k + 1)) + b2n b) + n % 2 ^ k

theorem withBit_self (n k : Nat) : withBit n k (bit n k) = n := by
  have hm : 2 * (n / 2 ^ (k + 1)) + b2n (bit n k) = n / 2 ^ k := by
    rw [Nat.pow_succ, ← Nat.div_div_eq_div_mul]
    unfold bit b2n
    rcases Nat.mod_two_eq_zero_or_one (n / 2 ^ k) with h | h
    · simp [h]; omega
    · simp [h]; omega
  rw [withBit, hm, Nat.div_add_mod]

theorem withBit_true (n k : Nat) : withBit n k true = withBit n k false + 2 ^ k := by
  simp only [withBit, b2n, Bool.false_eq_true, if_false, if_true, Nat.mul_add]
  omega

theorem setBit_eq (n k : Nat) : setBit n k = withBit n k true := by
  have h := withBit_self n k
  unfold setBit
  split
  · next hb => rw [hb] at h; exact h.symm
  · next hb => rw [eq_false_of_ne_true hb] at h; rw [withBit_true, h]

theorem clrBit_eq (n k : Nat) : clrBit n k = withBit n k false := by
  have h := withBit_self n k
  unfold clrBit
  split
  · next hb => rw [hb, withBit_true] at h; omega
  · next hb => rw [eq_false_of_ne_true hb] at h; exact h.symm

theorem bit_withBit (n k : Nat) (b : Bool) (j : Nat) : bit (withBit n k b) j = if j = k then b else bit n j := by
  have hr : n % 2 ^ k < 2 ^ k := Nat.mod_lt _ (Nat.two_pow_pos k)
  simp only [bit_eq_testBit, withBit, Nat.testBit_two_pow_mul_add _ hr]
  rcases Nat.lt_trichotomy j k with h | rfl | h
  · simp [h, Nat.ne_of_lt h]
  · cases b <;> simp [b2n]
  · obtain ⟨i, rfl⟩ := Nat.exists_eq_add_of_lt h
    have hi : k + i + 1 - k = i + 1 := by omega
    have hq : (2 * (n / 2 ^ (k + 1)) + b2n b) / 2 = n / 2 ^ (k + 1) := by
      cases b
      · simp [b2n]
      · simp [b2n]; omega
    have hk : k + i + 1 = i + (k + 1) := by omega
    rw [if_neg (by omega), if_neg (by omega), hi, Nat.testBit_succ, hq, hk, Nat.testBit_div_two_pow]

theorem bit_mod {j w : Nat} (n : Nat) (h : j < w) : bit (n % 2 ^ w) j = bit n j := by
  simp [bit_eq_testBit, Nat.testBit_mod_two_pow, h]

/-! ## Bits of fields -/

variable (s : State)

theorem fbit_putBit {f : Fld} (k : Nat) (b : Bool) {j : Nat} (h : j < f.width) :
    (s.putBit f k b).fbit f j = if j = k then b else s.fbit f j := by
  have hset : (if b then setBit (s.get f) k else clrBit (s.get f) k) = withBit (s.get f) k b := by
    cases b
    · exact clrBit_eq _ _
    · exact setBit_eq _ _
  rw [State.putBit, hset, State.fbit, State.get_put_same, bit_mod _ h, bit_withBit]
  rfl

/-- An event's sticky bit is set once it is raised. -/
theorem fbit_raise {e : Ev} {items : List Item} {role : Nat} {f : Fld} {k : Nat} (hs : e.sticky = some (f, k)) (h : f.key ∉ bookkeeping)
    (hk : k < f.width) : (s.raise e items role).fbit f k = true := by
  rw [State.fbit, sticky_raise s hs h, bit_mod _ hk, setBit_eq, bit_withBit, if_pos rfl]

theorem key_ne_of_addr_lt {f g : Fld} (h : f.addr < g.addr) (hlo : f.lo < 32) : f.key ≠ g.key := by
  unfold Fld.key
  omega

/-! ## The fabric's sticky bits -/

theorem fabSticky_logOnly (e : LogEntry) : (s.logOnly e).get Reg.FAB_STICKY_STICKY = s.get Reg.FAB_STICKY_STICKY := by
  unfold State.logOnly
  extract_lets e' lost s1 s2
  have h2 : s2.get Reg.FAB_STICKY_STICKY = s.get Reg.FAB_STICKY_STICKY := State.get_put_ne _ _ (by decide)
  split
  · exact (State.get_put_ne _ _ (by decide)).trans ((State.get_put_ne _ _ (by decide)).trans h2)
  · exact h2

theorem fabSticky_pmcEvent (r ev : Nat) (a : Attr) (w : Nat) :
    (s.pmcEvent r ev a w).get Reg.FAB_STICKY_STICKY = s.get Reg.FAB_STICKY_STICKY := by
  have hadd : ∀ (s : State) (k : Nat), (s.pmcAdd r k w).get Reg.FAB_STICKY_STICKY = s.get Reg.FAB_STICKY_STICKY := by
    intro s k
    unfold State.pmcAdd
    extract_lets i old was p s1 first s2
    split
    · have h2 : s2.get Reg.FAB_STICKY_STICKY = s.get Reg.FAB_STICKY_STICKY := by
        have haddr : Reg.FAB_STICKY_STICKY.addr < (Reg.PMC_STICKY_STICKY r).addr := Nat.lt_of_lt_of_le (by decide) (Nat.le_add_right 0x50404 _)
        exact State.get_put_ne s1 _ (key_ne_of_addr_lt haddr (by decide))
      split
      · exact (fabSticky_logOnly _ _).trans h2
      · exact h2
    · rfl
  have hfrom : ∀ n, (s.pmcFrom r ev w a n).get Reg.FAB_STICKY_STICKY = s.get Reg.FAB_STICKY_STICKY := by
    intro n
    induction n with
    | zero => rfl
    | succ k ih =>
      unfold State.pmcFrom
      extract_lets s1
      split
      · exact (hadd _ _).trans ih
      · exact ih
  exact hfrom 8

theorem fabSticky_emitOne (e : LogEntry) : (s.emitOne e).get Reg.FAB_STICKY_STICKY = s.get Reg.FAB_STICKY_STICKY := by
  unfold State.emitOne
  extract_lets s1 s2
  have h2 : s2.get Reg.FAB_STICKY_STICKY = s.get Reg.FAB_STICKY_STICKY :=
    (fabSticky_pmcEvent _ _ _ _ _).trans (fabSticky_logOnly s e)
  clear_value s2
  split
  · exact h2
  · exact h2

variable {s}

/-- Logging an event sets no sticky bit of the fabric but that of lost records, and clears none. -/
theorem fabSticky_emit (e : LogEntry) {k : Nat} (hk : k < 6) (h : s.fbit Reg.FAB_STICKY_STICKY k = true) :
    (s.emit e).fbit Reg.FAB_STICKY_STICKY k = true := by
  have h1 : (s.emitOne e).fbit Reg.FAB_STICKY_STICKY k = true := by rw [State.fbit, fabSticky_emitOne]; exact h
  have hlost : ∀ (s : State) (q : Nat), s.fbit Reg.FAB_STICKY_STICKY k = true → (s.rqLostNote q).fbit Reg.FAB_STICKY_STICKY k = true := by
    intro s q h
    unfold State.rqLostNote
    extract_lets s1 last
    have hs1 : s1.fbit Reg.FAB_STICKY_STICKY k = true := by
      rw [fbit_putBit s 2 true hk, h, ite_self]
    split
    · rw [State.fbit, fabSticky_emitOne]; exact hs1
    · exact hs1
  unfold State.emit
  extract_lets lost s1
  split
  · exact hlost _ _ h1
  · exact h1

/-- An event of the fabric sets its sticky bit (R405). -/
theorem fabSticky_raiseFab {n : Nat} (hn : n < 6) (sev : Sev) (hid : Nat) (items : List Item) :
    (s.raiseFab n sev hid items).fbit Reg.FAB_STICKY_STICKY n = true := by
  unfold State.raiseFab
  extract_lets s1 last
  have h1 : s1.fbit Reg.FAB_STICKY_STICKY n = true := by rw [fbit_putBit s n true hn, if_pos rfl]
  split
  · exact fabSticky_emit _ hn h1
  · exact h1

/-- An event of the fabric notes when it was raised, and does nothing else but log and count. -/
theorem raiseFab_quiet (s : State) (n : Nat) (sev : Sev) (hid : Nat) (items : List Item) :
    ∃ x, Quiet (s.setVar (.fabRaised n) x) (s.raiseFab n sev hid items) := by
  unfold State.raiseFab
  extract_lets s1 last
  split
  · refine ⟨s1.runNs + 1, ?_⟩
    have : Quiet (s.setVar (.fabRaised n) (s1.runNs + 1)) (s1.setVar (.fabRaised n) (s1.runNs + 1)) :=
      put_quiet (s.setVar (.fabRaised n) (s1.runNs + 1)) _ (by decide)
    exact this.trans (emit_quiet _ _)
  · refine ⟨s.var (.fabRaised n), ?_⟩
    have h1 : Quiet s s1 := put_quiet s _ (by decide)
    refine ⟨h1.regs, fun v hv => ?_, h1.rest⟩
    rw [h1.vars v hv]
    by_cases e : v = .fabRaised n
    · subst e; exact (State.var_setVar_same _ _ _).symm
    · exact (State.var_setVar_ne _ _ e).symm

end
end Sys2Proof.Machine
end

section
/-! PROOFS. Record queues, drains and the speed measurement (R45, R317, R397, R401, R405, R418): what the read-out of a queue's oldest record
leaves, by queue. -/

namespace Sys2Proof.Machine

section

variable {s : State}

/-! ## A queue's oldest record -/

/-- A queue that holds a record has one fewer once its oldest is out. -/
theorem rqHeld_rqTail {q : Nat} (h : s.rqHeld q ≠ 0) : (s.rqTail q).rqHeld q + 1 = s.rqHeld q := by
  unfold State.rqTail State.rqHeld at *
  extract_lets s1
  by_cases h0 : q = 0
  · simp only [if_pos h0] at h ⊢
    show s.evtq.recs.tail.length + 1 = _
    rw [List.length_tail]
    omega
  by_cases h5 : q = 5
  · simp only [if_neg h0, if_pos h5] at h ⊢
    show s.dumpq.tail.length + 1 = _
    rw [List.length_tail]
    omega
  simp only [if_neg h0, if_neg h5, State.port_setPort_same] at h ⊢
  show (s.port (q - 1)).tsq.tail.length + 1 = _
  rw [List.length_tail]
  omega

/-- Taking a queue's oldest record out touches no register, no memory and no time. -/
theorem rqTail_apart (s : State) (q : Nat) : (s.rqTail q).regs = s.regs ∧ (s.rqTail q).mem = s.mem ∧ (s.rqTail q).tc = s.tc := by
  unfold State.rqTail
  extract_lets s1
  split
  · exact ⟨rfl, rfl, rfl⟩
  · split
    · exact ⟨rfl, rfl, rfl⟩
    · exact ⟨rfl, rfl, rfl⟩

/-! ## Into the rings -/

section

variable {e : LogEntry} {r : List LogEntry} (he : s.evtq.recs = e :: r)

include he

theorem deliverEvt_waits (dma : Bool) (h : (s.evtRings 4).isEmpty = true ∨ ∃ n ∈ s.evtRings e.sev.code, s.ringRoom n = 0) :
    s.deliverEvt dma = s := by
  unfold State.deliverEvt
  simp only [he]
  refine if_pos (h.imp_right fun ⟨n, hn, hroom⟩ => ?_)
  exact List.any_eq_true.2 ⟨n, hn, decide_eq_true hroom⟩

/-- An event whose rings all have room leaves the queue, unless an access fails. -/
theorem deliverEvt_goes (dma : Bool) (h : ¬ ((s.evtRings 4).isEmpty = true ∨ ∃ n ∈ s.evtRings e.sev.code, s.ringRoom n = 0)) :
    (s.evtRings e.sev.code = [] → s.deliverEvt dma = { s.rqGone 0 with evtq := ⟨r, s.evtq.lost⟩ }) ∧
      ∀ n, s.evtRings e.sev.code = [n] →
        if dma = false then s.deliverEvt dma = s.ringError n 3 (s.ringBase n % 2 ^ 32)
        else s.evtq.lost = 0 → s.deliverEvt dma = { s.rqGone 0 with evtq := ⟨r, 0⟩ }.ringWrite n (evtBytes e (s.phaseOf n (s.engIdx n)) 0)
          (decide (s.get (Reg.RING_CFG_IRQ_SEV n) ≤ e.sev.code)) := by
  have hroom : ¬ ((s.evtRings 4).isEmpty = true ∨ ((s.evtRings e.sev.code).any fun n => decide (s.ringRoom n = 0)) = true) := by
    simpa using h
  unfold State.deliverEvt
  rw [he]
  dsimp only
  rw [if_neg hroom]
  refine ⟨fun hd => ?_, fun n hd => ?_⟩
  · rw [hd, if_neg (fun h => h.2 rfl), if_pos rfl]
    exact if_neg fun h => h.1 rfl
  · rw [hd]
    cases dma
    · exact if_pos ⟨Bool.false_ne_true, List.cons_ne_nil _ _⟩
    · intro hlost
      rw [if_neg (fun h => h.1 rfl), if_neg (List.cons_ne_nil _ _), if_neg fun h => h.2 hlost, hlost, List.foldl_cons, List.foldl_nil]
      rfl

end

theorem deliverDump_ring {n : Nat} {x : List Byte} {r : List (List Byte)} (dma : Bool) (hx : s.dumpq = x :: r) :
    if s.ringRoom n = 0 then s.deliverDump dma (some n) = s
    else if dma = false then s.deliverDump dma (some n) = s.ringError n 3 (s.ringBase n % 2 ^ 32)
    else x.headD 0 ≠ 0x10 → s.deliverDump dma (some n) = { s.rqGone 5 with dumpq := r }.ringWrite n x false := by
  unfold State.deliverDump
  rw [hx]
  dsimp only
  split
  · rfl
  · cases dma
    · rfl
    · intro h10
      exact (if_neg (not_not_intro rfl)).trans (if_neg h10)

theorem deliverTsq_none (p : Nat) (dma : Bool) : s.deliverTsq p dma none = s := by
  unfold State.deliverTsq
  extract_lets r
  split
  · contradiction
  · rfl

theorem deliverTsq_ring {p n : Nat} {x : TsqRec} {r : List TsqRec} (dma : Bool) (hx : (s.port p).tsq = x :: r) :
    if s.ringRoom n = 0 then s.deliverTsq p dma (some n) = s
    else if dma = false then s.deliverTsq p dma (some n) = s.ringError n 3 (s.ringBase n % 2 ^ 32)
    else s.deliverTsq p dma (some n) = ((s.rqGone (1 + p)).setPort p { s.port p with tsq := r, tsqLost := 0 }).ringWrite n
      (x.bytes p (s.port p).tsqLost) false := by
  unfold State.deliverTsq
  dsimp only
  rw [hx]
  dsimp only
  split
  · rfl
  · cases dma
    · rfl
    · exact if_neg (not_not_intro rfl)

/-! ## The fabric's measurements -/

/-- What an event of the fabric leaves alone. -/
theorem raiseFab_frame (s : State) (n : Nat) (sev : Sev) (hid : Nat) (items : List Item) :
    (∀ f : Fld, f.key ∉ bookkeeping → (s.raiseFab n sev hid items).get f = s.get f) ∧ (s.raiseFab n sev hid items).tc = s.tc ∧
      (s.raiseFab n sev hid items).mem = s.mem ∧ (s.raiseFab n sev hid items).units = s.units ∧
      (s.raiseFab n sev hid items).parity = s.parity := by
  obtain ⟨x, q⟩ := raiseFab_quiet s n sev hid items
  exact ⟨q.regs, q.tc, q.mem, q.units, q.parity⟩

theorem drain_ends (n discards masked : Nat) (h : n < 9) :
    let t := (((s.putBit Reg.FAB_STATUS_DRAINING n false).bump Reg.FAB_DRAINS_COUNT).bumpBy Reg.FAB_DRAIN_DISCARDS_COUNT discards).raiseFab 4
      .info (iniHid n) [i2 (iniHid n), i4 discards, i4 masked]
    t.fbit Reg.FAB_STATUS_DRAINING n = false ∧ t.get Reg.FAB_DRAINS_COUNT = (s.get Reg.FAB_DRAINS_COUNT + 1) % 2 ^ 32 ∧
      t.get Reg.FAB_DRAIN_DISCARDS_COUNT = (s.get Reg.FAB_DRAIN_DISCARDS_COUNT + discards) % 2 ^ 32 ∧ t.tc = s.tc ∧ t.mem = s.mem ∧
      ∀ k, k < 9 → k ≠ n → t.fbit Reg.FAB_STATUS_DRAINING k = s.fbit Reg.FAB_STATUS_DRAINING k := by
  intro t
  obtain ⟨hget, htc, hmem, -, -⟩ := raiseFab_frame
    (((s.putBit Reg.FAB_STATUS_DRAINING n false).bump Reg.FAB_DRAINS_COUNT).bumpBy Reg.FAB_DRAIN_DISCARDS_COUNT discards) 4
    .info (iniHid n) [i2 (iniHid n), i4 discards, i4 masked]
  have hbits : ∀ k, k < 9 → t.fbit Reg.FAB_STATUS_DRAINING k = if k = n then false else s.fbit Reg.FAB_STATUS_DRAINING k := by
    intro k hk
    rw [State.fbit, hget _ (by decide), State.bumpBy, State.get_put_ne _ _ (by decide), State.bump, State.get_put_ne _ _ (by decide)]
    exact fbit_putBit s n false hk
  refine ⟨(hbits n h).trans (if_pos rfl), ?_, ?_, htc, hmem, fun k hk hne => (hbits k hk).trans (if_neg hne)⟩
  · rw [hget _ (by decide), State.bumpBy, State.get_put_ne _ _ (by decide), State.bump, State.get_put_same, State.putBit,
      State.get_put_ne _ _ (by decide)]
    rfl
  · rw [hget _ (by decide), State.bumpBy, State.get_put_same, State.bump, State.get_put_ne _ _ (by decide), State.putBit,
      State.get_put_ne _ _ (by decide)]
    rfl

theorem speed_shown (rate : Nat) :
    let t := if rate < 900 then (s.put Reg.FAB_SPEED_RATE (min rate 65535)).raiseFab 5 .warning 0xB200 [i2 (min rate 65535)]
      else s.put Reg.FAB_SPEED_RATE (min rate 65535)
    t.get Reg.FAB_SPEED_RATE = min rate 65535 ∧ t.tc = s.tc ∧ t.mem = s.mem ∧
      (rate < 900 → t.fbit Reg.FAB_STICKY_STICKY 5 = true) ∧ (900 ≤ rate → t = s.put Reg.FAB_SPEED_RATE (min rate 65535)) := by
  intro t
  have hput : (s.put Reg.FAB_SPEED_RATE (min rate 65535)).get Reg.FAB_SPEED_RATE = min rate 65535 := by
    rw [State.get_put_same]
    exact Nat.mod_eq_of_lt (show min rate 65535 < 2 ^ 16 by omega)
  by_cases hlow : rate < 900
  · have ht : t = _ := if_pos hlow
    obtain ⟨hget, htc, hmem, -, -⟩ := raiseFab_frame (s.put Reg.FAB_SPEED_RATE (min rate 65535)) 5 .warning 0xB200 [i2 (min rate 65535)]
    rw [ht]
    exact ⟨(hget _ (by decide)).trans hput, htc, hmem, fun _ => fabSticky_raiseFab (by decide) _ _ _, fun h => absurd hlow (by omega)⟩
  · have ht : t = _ := if_neg hlow
    rw [ht]
    exact ⟨hput, rfl, rfl, fun h => absurd h hlow, fun _ => rfl⟩

end

/-- Settles O38: the read-out of a queue by cases of the queue, and the fabric's two events. -/
theorem recordDelivery : Obligations.RecordDelivery := by
  unfold Obligations.RecordDelivery
  intro s
  refine ⟨fun q poison dma => ⟨_, rfl, ?_⟩, fun n discards masked => ⟨_, rfl, ?_⟩, fun rate => ⟨_, rfl, speed_shown rate⟩⟩
  · by_cases hshut : 6 ≤ q ∨ s.rqHeld q = 0 ∨ s.hostOpen = false
    · have hshut' : 6 ≤ q ∨ s.rqHeld q = 0 ∨ ¬ s.hostOpen = true := by simpa using hshut
      rw [if_pos hshut, if_pos hshut']
    have hshut' : ¬ (6 ≤ q ∨ s.rqHeld q = 0 ∨ ¬ s.hostOpen = true) := by simpa using hshut
    obtain ⟨hq, hheld, hopen⟩ : q < 6 ∧ s.rqHeld q ≠ 0 ∧ s.hostOpen = true := by simpa using hshut
    rw [if_neg hshut, if_neg hshut']
    by_cases hpoison : poison = true ∨ 0 < s.var (.rqPoison q)
    · rw [if_pos hpoison, if_pos hpoison]
      obtain ⟨hregs, hmem, htc⟩ := rqTail_apart s q
      exact ⟨_, rfl, rqHeld_rqTail hheld, hregs, hmem, htc⟩
    rw [if_neg hpoison, if_neg hpoison]
    refine ⟨fun h0 e r he => ?_, fun h5 n x r hn hx => ?_, fun h1 h4 => ?_⟩
    · rw [if_pos h0]
      split
      · next h => exact deliverEvt_waits he dma h
      · next h => exact deliverEvt_goes he dma h
    · rw [if_neg (by omega : ¬ q = 0), if_pos h5, hn]
      exact deliverDump_ring dma hx
    · rw [if_neg (by omega : ¬ q = 0), if_neg (by omega : ¬ q = 5)]
      have hport : s.rqHeld q = (s.port (q - 1)).tsq.length := by
        unfold State.rqHeld
        rw [if_neg (by omega), if_neg (by omega)]
      obtain ⟨x, r, hx⟩ := List.exists_cons_of_length_pos (Nat.pos_of_ne_zero (hport ▸ hheld))
      have hq1 : 1 + (q - 1) = q := by omega
      split
      · next hn => rw [hn]; exact deliverTsq_none _ _
      · next n hn =>
        have h := deliverTsq_ring (n := n) dma hx
        rw [hq1] at h
        rw [hn]
        split
        · next hroom => rwa [if_pos hroom] at h
        · next hroom =>
          rw [if_neg hroom] at h
          split
          · next hdma => rwa [if_pos hdma] at h
          · next hdma =>
            rw [if_neg hdma] at h
            intro x' r' hx'
            obtain ⟨rfl, rfl⟩ := List.cons.inj (hx.symm.trans hx')
            exact h
  · by_cases h : n < 9 ∧ s.fbit Reg.FAB_STATUS_DRAINING n = true
    · rw [if_pos h, if_pos h]
      exact drain_ends n discards masked h.1
    · rw [if_neg h, if_neg h]

end Sys2Proof.Machine
end

section
/-! PROOFS. The commands about units (R36, R40 to R43, R51, R180, R375): what a HID's name decides, the refusals of one unit, and the change. -/

namespace Sys2Proof.Machine

section

variable {s : State} {c : Ctx} {hid : Nat}

/-! ## What a fetch leaves of the units -/

theorem synPinned_fetch (g : Nat) : (s.fetch c).synPinned g = s.synPinned g := by
  unfold State.synPinned State.powered State.fbit
  rw [fetch_get, fetch_get]

theorem applies_fetch (op hid h : Nat) : (s.fetch c).applies op hid h = s.applies op hid h := by
  simp only [State.applies, State.unitFenced, fetch_unit]

theorem unitBytes_fetch (h : Nat) : (s.fetch c).unitBytes h = s.unitBytes h := by
  simp only [State.unitBytes, fetch_unit]

/-! ## One unit -/

/-- The refusals of a unit in the order of R41, R42 and R180. -/
theorem unitRefusal_eq (s : State) (op hid : Nat) : s.unitRefusal op hid =
    if (s.unit hid).st = .absent then some Status.notFit
    else if op ≠ opUnitEnable.op ∧ 0x1000 ≤ hid ∧ hid < 0x1004 ∧ s.synPinned (hid - 0x1000) = true then some Status.busy
    else if (s.unit hid).st = .resetting ∨ ((s.unit hid).st = .fenced ∧ op ≠ opUnitReset.op) then some Status.fenced
    else if op = opUnitReset.op ∧ (s.unit hid).st = .enabled then some Status.notFit
    else none := by
  unfold State.unitRefusal
  extract_lets st
  by_cases hop : op = 0x0103
  · cases hst : st <;> simp [show (s.unit hid).st = _ from hst, hop, opUnitReset, opUnitEnable]
  · cases hst : st <;> simp [show (s.unit hid).st = _ from hst, hop, opUnitReset, opUnitEnable]

theorem unitRefusal_fetch (op h : Nat) : (s.fetch c).unitRefusal op h = s.unitRefusal op h := by
  simp only [unitRefusal_eq, fetch_unit, synPinned_fetch]

/-- An event without a sticky bit does nothing but log and count. -/
theorem raise_quiet_of_sticky_none {e : Ev} (h : e.sticky = none) (s : State) (items : List Item) (role : Nat) :
    Quiet s (s.raise e items role) := by
  have q := raise_quiet s e items role
  rwa [State.stuck, h] at q

theorem hold_quiet {s t : State} (h : Quiet s t) (o : OpInfo) (role : Nat) (arg : List Nat) :
    Quiet (s.hold c o role arg) (t.hold c o role arg) := by
  have hrest := congrArg (fun x : State => x.hold c o role arg) h.rest
  exact ⟨h.regs, h.vars, hrest⟩

theorem evUnit_sticky (low hid : Nat) (sev : Sev) : (evUnit low hid sev).sticky = none := rfl

/-- UNIT_ENABLE of one unit: a DISABLED one becomes ENABLED, with what its chapter says, and its event. -/
theorem unitApply_enable (s : State) (role hid : Nat) :
    Quiet (if (s.unit hid).st = .disabled then (s.unitTo hid .enabled).unitIn hid else s) (s.unitApply opUnitEnable.op role hid) := by
  unfold State.unitApply
  extract_lets st
  rw [if_pos (show opUnitEnable.op = 0x0101 from rfl)]
  split
  · exact raise_quiet_of_sticky_none (evUnit_sticky _ _ _) _ _ _
  · exact .refl s

/-- UNIT_DISABLE of one unit: an ENABLED one becomes DISABLED, with what its chapter says, and its event. -/
theorem unitApply_disable (s : State) (role hid : Nat) :
    Quiet (if (s.unit hid).st = .enabled then (s.unitTo hid .disabled).unitOut hid false else s) (s.unitApply opUnitDisable.op role hid) := by
  unfold State.unitApply
  extract_lets st
  rw [if_neg (show opUnitDisable.op ≠ 0x0101 by decide), if_pos (show opUnitDisable.op = 0x0102 from rfl)]
  split
  · exact raise_quiet_of_sticky_none (evUnit_sticky _ _ _) _ _ _
  · exact .refl s

theorem unitApply_reset (s : State) (role hid : Nat) : s.unitApply opUnitReset.op role hid = (s.unitTo hid .resetting).drainOf hid := by
  unfold State.unitApply
  extract_lets st
  rw [if_neg (show opUnitReset.op ≠ 0x0101 by decide), if_neg (show opUnitReset.op ≠ 0x0102 by decide)]

/-! ## The three commands by what the HID names -/

/-- What the three commands do to the units they apply to, none of which refuses: the change, recorded. -/
def State.unitsChanged (s : State) (c : Ctx) (o : OpInfo) (hid role : Nat) (go : List Nat) : Res :=
  let s := (go.foldl (fun s h => s.unitApply o.op role h) s).change role hid o.op noOffset hid 0
  if o.op = opUnitReset.op then ⟨s.hold c o role go, none, 0⟩ else ⟨s, some Status.ok, 0⟩

variable {o : OpInfo} {role : Nat}

theorem unitEff_nothing (h : named hid = .nothing) : unitEff c o hid role s = ⟨s, some Status.notFound, 0⟩ := by
  rw [unitEff, h]

theorem unitEff_above (h : named hid = .above) : unitEff c o hid role s = ⟨s, some Status.notPermitted, hid⟩ := by
  rw [unitEff, h]

theorem unitEff_group {hs : List Nat} (h : named hid = .units hs false) :
    unitEff c o hid role s =
      let go := hs.filter (s.applies o.op hid)
      if go = [] then ⟨s, some (if hs.all isCore then Status.notPermitted else Status.notFit), hs.headD 0⟩
      else match go.find? fun h => (s.unitRefusal o.op h).isSome with
        | some h => ⟨s, s.unitRefusal o.op h, h⟩
        | none => s.unitsChanged c o hid role go := by
  rw [unitEff, h]
  simp only [Bool.false_eq_true, false_and, if_false, List.isEmpty_iff]
  rfl

theorem unitEff_single (h : named hid = .units [hid] true) :
    unitEff c o hid role s =
      if isCore hid = true then ⟨s, some Status.notPermitted, hid⟩
      else match s.unitRefusal o.op hid with
        | some st => ⟨s, some st, 0⟩
        | none => s.unitsChanged c o hid role [hid] := by
  rw [unitEff, h]
  simp only [true_and, if_true, List.isEmpty_cons, Bool.false_eq_true, if_false]
  split
  · rfl
  · cases hr : s.unitRefusal o.op hid with
    | none => simp [hr]; rfl
    | some st => simp [hr]

/-! ## How they end -/

/-- A change made: recorded and completed for UNIT_ENABLE and UNIT_DISABLE, and in flight for UNIT_RESET. -/
theorem runCmd_unitsChanged {oh : OpInfo} {body : List Int} {eff : Nat → State → Res} {go : List Nat} (hr : Ready s c oh)
    (he : eff (s.sessionRole c.ring c.session) (s.fetch c) = (s.fetch c).unitsChanged c o hid (s.sessionRole c.ring c.session) go) :
    (o.op ≠ opUnitReset.op → Ends s c oh Status.ok 0
        (fun f => go.foldl (fun u h => u.unitApply o.op (s.sessionRole c.ring c.session) h) f) (s.runCmd c oh body eff)) ∧
      (o.op = opUnitReset.op → Starts s c
        (fun f => (go.foldl (fun u h => u.unitApply o.op (s.sessionRole c.ring c.session) h) f).hold c o (s.sessionRole c.ring c.session) go)
        (s.runCmd c oh body eff)) := by
  refine ⟨fun hop => ?_, fun hop => ?_⟩
  · rw [State.unitsChanged, if_neg hop] at he
    exact runCmd_Ends hr body eff (by rw [he]) (by rw [he]) (by rw [he]; exact change_quiet _ _ _ _ _ _ _)
  · rw [State.unitsChanged, if_pos hop] at he
    exact runCmd_Starts hr body eff (by rw [he]) (by rw [he]; exact hold_quiet (change_quiet _ _ _ _ _ _ _) _ _ _)

/-- A refusal: it completes with its status and DATA, with nothing changed. -/
theorem runCmd_refused {oh : OpInfo} {body : List Int} {eff : Nat → State → Res} {st d : Nat} (hr : Ready s c oh)
    (he : eff (s.sessionRole c.ring c.session) (s.fetch c) = ⟨s.fetch c, some st, d⟩) : Ends s c oh st d id (s.runCmd c oh body eff) :=
  runCmd_Ends hr body eff (by rw [he]) (by rw [he]) (by rw [he]; exact .refl _)

theorem Ends.of_quiet {oh : OpInfo} {st d : Nat} {v w : State → State} {t : State} (h : Ends s c oh st d v t)
    (q : Quiet (w (s.fetch c)) (v (s.fetch c))) : Ends s c oh st d w t := by
  obtain ⟨u, body, hu, ht⟩ := h
  exact ⟨u, body, q.trans hu, ht⟩

/-- A unit named alone: the refusals in their order, and the change. -/
theorem unit_single (hn : named hid = .units [hid] true) (hr : Ready s c { o with hid := some hid })
    (ho : o ∈ [opUnitEnable, opUnitDisable, opUnitReset]) :
    let oh : OpInfo := { o with hid := some hid }
    let t := s.runCmd c oh [] (unitEff c o hid)
    let st := (s.unit hid).st
    let pinned := 0x1000 ≤ hid ∧ hid < 0x1004 ∧ s.synPinned (hid - 0x1000) = true
    if isCore hid = true then Ends s c oh Status.notPermitted hid id t
    else if st = .absent then Ends s c oh Status.notFit 0 id t
    else if o.op ≠ opUnitEnable.op ∧ pinned then Ends s c oh Status.busy 0 id t
    else if st = .resetting ∨ (st = .fenced ∧ o.op ≠ opUnitReset.op) then Ends s c oh Status.fenced 0 id t
    else if o.op = opUnitEnable.op then Ends s c oh Status.ok 0 (fun f => if st = .disabled then (f.unitTo hid .enabled).unitIn hid else f) t
    else if o.op = opUnitDisable.op then Ends s c oh Status.ok 0 (fun f => if st = .enabled then (f.unitTo hid .disabled).unitOut hid false else f) t
    else if st = .enabled then Ends s c oh Status.notFit 0 id t
    else Starts s c (fun f => ((f.unitTo hid .resetting).drainOf hid).hold c opUnitReset (s.sessionRole c.ring c.session) [hid]) t := by
  intro oh t st pinned
  have heff := unitEff_single (s := s.fetch c) (c := c) (o := o) (role := s.sessionRole c.ring c.session) hn
  by_cases hcore : isCore hid = true
  · rw [if_pos hcore] at heff ⊢
    exact runCmd_refused hr heff
  rw [if_neg hcore, unitRefusal_fetch, unitRefusal_eq] at heff
  rw [if_neg hcore]
  by_cases habsent : st = .absent
  · rw [if_pos habsent] at heff ⊢
    exact runCmd_refused hr heff
  rw [if_neg habsent] at heff ⊢
  by_cases hpinned : o.op ≠ opUnitEnable.op ∧ pinned
  · rw [if_pos hpinned] at heff ⊢
    exact runCmd_refused hr heff
  rw [if_neg hpinned] at heff ⊢
  by_cases hfenced : st = .resetting ∨ (st = .fenced ∧ o.op ≠ opUnitReset.op)
  · rw [if_pos hfenced] at heff ⊢
    exact runCmd_refused hr heff
  rw [if_neg hfenced] at heff ⊢
  have hst : ((s.fetch c).unit hid).st = st := by rw [fetch_unit]
  by_cases henable : o.op = opUnitEnable.op
  · rw [if_neg (by rw [henable]; exact fun h => absurd h.1 (by decide))] at heff
    rw [if_pos henable]
    refine ((runCmd_unitsChanged hr heff).1 (by rw [henable]; decide)).of_quiet ?_
    rw [henable, ← hst]
    exact unitApply_enable _ _ _
  rw [if_neg henable]
  by_cases hdisable : o.op = opUnitDisable.op
  · rw [if_neg (by rw [hdisable]; exact fun h => absurd h.1 (by decide))] at heff
    rw [if_pos hdisable]
    refine ((runCmd_unitsChanged hr heff).1 (by rw [hdisable]; decide)).of_quiet ?_
    rw [hdisable, ← hst]
    exact unitApply_disable _ _ _
  rw [if_neg hdisable]
  obtain rfl : o = opUnitReset := by
    simp only [List.mem_cons, List.not_mem_nil, or_false] at ho
    exact (ho.resolve_left fun h => henable (h ▸ rfl)).resolve_left fun h => hdisable (h ▸ rfl)
  by_cases henabled : st = .enabled
  · rw [if_pos henabled]
    rw [if_pos ⟨rfl, henabled⟩] at heff
    exact runCmd_refused hr heff
  · rw [if_neg henabled]
    rw [if_neg fun h => henabled h.2] at heff
    have h := (runCmd_unitsChanged (body := []) hr heff).2 rfl
    simp only [List.foldl_cons, List.foldl_nil, unitApply_reset] at h
    exact h

/-- A level named: the units below it that the command applies to, the first that refuses, and the change, all or nothing (R43). -/
theorem unit_group {hs : List Nat} (hn : named hid = .units hs false) (hr : Ready s c { o with hid := some hid }) :
    let oh : OpInfo := { o with hid := some hid }
    let t := s.runCmd c oh [] (unitEff c o hid)
    let go := hs.filter (s.applies o.op hid)
    if go = [] then Ends s c oh (if hs.all isCore = true then Status.notPermitted else Status.notFit) (hs.headD 0) id t
    else match go.find? fun h => (s.unitRefusal o.op h).isSome with
      | some h => ∃ st, s.unitRefusal o.op h = some st ∧ Ends s c oh st h id t
      | none => o.op ≠ opUnitReset.op → Ends s c oh Status.ok 0 (fun f =>
          go.foldl (fun u h => u.unitApply o.op (s.sessionRole c.ring c.session) h) f) t := by
  intro oh t go
  have heff := unitEff_group (s := s.fetch c) (c := c) (o := o) (role := s.sessionRole c.ring c.session) hn
  simp only [unitRefusal_fetch, funext (applies_fetch (s := s) (c := c) o.op hid)] at heff
  by_cases hgo : go = []
  · rw [if_pos hgo] at heff ⊢
    exact runCmd_refused hr heff
  rw [if_neg hgo] at heff ⊢
  cases hfind : go.find? fun h => (s.unitRefusal o.op h).isSome with
  | some h =>
    rw [hfind] at heff
    obtain ⟨st, hst⟩ := Option.isSome_iff_exists.1 (List.find?_some (p := fun h => (s.unitRefusal o.op h).isSome) hfind)
    dsimp only at heff
    rw [hst] at heff
    exact ⟨st, hst, runCmd_refused hr heff⟩
  | none =>
    rw [hfind] at heff
    exact (runCmd_unitsChanged hr heff).1

/-- UNIT_STATE: as many whole entries as the length holds (R51, R375). -/
theorem unitState_entries (addr len : Nat) (hr : Ready s c { opUnitState with hid := some hid }) {hs : List Nat}
    (hn : (named hid = .above ∧ hs = allUnits) ∨ ∃ b, named hid = .units hs b) :
    let oh : OpInfo := { opUnitState with hid := some hid }
    let t := s.runCmd c oh [] (unitStateEff c.dmaOk hid addr len)
    if c.dmaOk = false ∧ hs ≠ [] ∧ 4 ≤ len then Ends s c oh Status.dmaError 0 id t
    else Ends s c oh Status.ok hs.length (fun f => f.dmaWrite addr ((hs.take (len / 4)).flatMap s.unitBytes)) t := by
  intro oh t
  have heff : unitStateEff c.dmaOk hid addr len (s.sessionRole c.ring c.session) (s.fetch c) =
      if c.dmaOk = false ∧ hs ≠ [] ∧ 4 ≤ len then ⟨s.fetch c, some Status.dmaError, 0⟩
      else ⟨(s.fetch c).dmaWrite addr ((hs.take (len / 4)).flatMap s.unitBytes), some Status.ok, hs.length⟩ := by
    rw [← funext (unitBytes_fetch (s := s) (c := c)), unitStateEff]
    rcases hn with ⟨hn, rfl⟩ | ⟨b, hn⟩
    · rw [hn]
    · rw [hn]
  split
  · next h =>
    rw [if_pos h] at heff
    exact runCmd_refused hr heff
  · next h =>
    rw [if_neg h] at heff
    exact runCmd_Ends hr _ _ (by rw [heff]) (by rw [heff]) (by rw [heff]; exact .refl _)

end

/-- Settles O55: by what the HID names. -/
theorem unitCommands : Obligations.UnitCommands := by
  unfold Obligations.UnitCommands
  intro s c hid
  constructor
  · intro cmd o hmem oh hr
    have hexec : exec cmd s = .next (s.runCmd c oh [] (unitEff c o hid)) ∧ o ∈ [opUnitEnable, opUnitDisable, opUnitReset] := by
      simp only [List.mem_cons, Prod.mk.injEq, List.not_mem_nil, or_false] at hmem
      rcases hmem with ⟨rfl, rfl⟩ | ⟨rfl, rfl⟩ | ⟨rfl, rfl⟩
      · exact ⟨rfl, .head _⟩
      · exact ⟨rfl, .tail _ (.head _)⟩
      · exact ⟨rfl, .tail _ (.tail _ (.head _))⟩
    obtain ⟨hexec, ho⟩ := hexec
    refine ⟨_, hexec, ?_⟩
    split
    · next hn => exact runCmd_refused hr (unitEff_nothing hn)
    · next hn => exact runCmd_refused hr (unitEff_above hn)
    · next hs hn => exact unit_group hn hr
    · next hs hn =>
      rintro rfl
      exact unit_single hn hr ho
  · intro addr len oh hr
    refine ⟨_, rfl, ?_⟩
    intro all
    split
    · next hn => exact runCmd_refused hr (by rw [unitStateEff, hn])
    · next hn => exact unitState_entries addr len hr (.inl ⟨hn, rfl⟩)
    · next hs b hn => exact unitState_entries addr len hr (.inr ⟨b, hn⟩)

end Sys2Proof.Machine
end

section
/-! PROOFS. What no event, no completion and nothing that follows from a unit's going out changes: the units, the Time Core, the contents that
fenced units hold (R49) and the log of the run before (R422). One lemma for each operation. -/

namespace Sys2Proof.Machine

variable (s : State)

/-- The units, the Time Core, the contents held at fences, and the log of the run before. -/
def State.held (s : State) : AMap Nat UnitRec × TimeCore × AMap Nat (List Nat) × List LogEntry :=
  (s.units, s.tc, s.pf.frozen, s.log.prev)

variable {s} in
theorem held_ite {t u : State} {c : Prop} [Decidable c] (ht : t.held = s.held) (hu : u.held = s.held) :
    (if c then t else u).held = s.held := view_ite State.held ht hu

theorem held_foldl {β : Type} {f : State → β → State} (h : ∀ s x, (f s x).held = s.held) (l : List β) : (l.foldl f s).held = s.held :=
  view_foldl State.held h s l

theorem held_put (f : Fld) (v : Nat) : (s.put f v).held = s.held := rfl
theorem held_pfTrigger (t : PfTrig) : (s.pfTrigger t).held = s.held := rfl

/-! ## Logging and counting -/

theorem held_logOnly (e : LogEntry) : (s.logOnly e).held = s.held := held_ite rfl rfl

theorem held_pmcEvent (r ev : Nat) (a : Attr) (w : Nat) : (s.pmcEvent r ev a w).held = s.held := by
  have hadd : ∀ (s : State) (k : Nat), (s.pmcAdd r k w).held = s.held := fun s k => held_ite (held_ite (held_logOnly _ _) rfl) rfl
  have hfrom : ∀ n, (s.pmcFrom r ev w a n).held = s.held := by
    intro n
    induction n with
    | zero => rfl
    | succ k ih => exact held_ite ((hadd _ _).trans ih) ih
  exact hfrom 8

theorem held_emitOne (e : LogEntry) : (s.emitOne e).held = s.held := by
  unfold State.emitOne
  extract_lets s1 s2
  have h2 : s2.held = s.held := (held_pmcEvent _ _ _ _ _).trans (held_logOnly _ _)
  exact held_ite ((held_pfTrigger _ _).trans h2) h2

theorem held_rqLostNote (q : Nat) : (s.rqLostNote q).held = s.held := by
  unfold State.rqLostNote
  exact held_ite (held_emitOne _ _) rfl

theorem held_emit (e : LogEntry) : (s.emit e).held = s.held := by
  unfold State.emit
  exact held_ite ((held_rqLostNote _ _).trans (held_emitOne _ _)) (held_emitOne _ _)

theorem held_stuck (e : Ev) : (s.stuck e).held = s.held := by
  unfold State.stuck
  split
  · rfl
  · rfl

theorem held_raise (e : Ev) (items : List Item) (role : Nat) : (s.raise e items role).held = s.held := by
  unfold State.raise
  exact held_ite ((held_emit _ _).trans (held_stuck s e)) (held_stuck s e)

theorem held_raiseGap (v : Var) (gap : Nat) (e : Ev) (items : List Item) : (s.raiseGap v gap e items).held = s.held := by
  unfold State.raiseGap
  extract_lets last was on
  refine held_ite (held_stuck s e) (held_ite rfl ((held_raise _ _ _ _).trans ?_))
  exact held_ite rfl rfl

theorem held_raisePort (p n : Nat) (sev : Sev) (items : List Item) : (s.raisePort p n sev items).held = s.held := held_raiseGap _ _ _ _ _

/-! ## Completions and records -/

theorem held_countCmd (op : Nat) (hid : Option Nat) (role : Nat) : (s.countCmd op hid role).held = s.held := by
  unfold State.countCmd
  split
  · exact held_pmcEvent _ _ _ _ _
  · rfl

theorem held_countHeld (c : Ctx) : (s.countHeld c).held = s.held := by
  unfold State.countHeld
  split
  · exact held_ite (held_countCmd _ _ _ _) rfl
  · rfl

theorem held_ringWrite (n : Nat) (entry : List Byte) (urgent : Bool) : (s.ringWrite n entry urgent).held = s.held := by
  have hsignal : ∀ s : State, (s.ringSignal n urgent).held = s.held := by
    intro s
    unfold State.ringSignal
    exact held_ite rfl (held_ite rfl (held_ite rfl rfl))
  exact (held_pmcEvent _ _ _ _ _).trans (hsignal _)

theorem held_complete1 (c : Ctx) (st d : Nat) (b : Bool) : (s.complete1 c st d b).held = s.held := by
  unfold State.complete1
  extract_lets d' s1 hf s2 p hf2 s3
  have h2 : s2.held = s.held := held_countHeld s c
  exact held_ite (held_ite h2 ((held_ringWrite _ _ _ _).trans h2)) h2

theorem held_complete (c : Ctx) (st d : Nat) (b : Bool) : (s.complete c st d b).held = s.held := by
  have hends : ∀ (fs : List InFlight) (s : State), (s.endAborts b fs).held = s.held := by
    intro fs
    induction fs with
    | nil => exact fun _ => rfl
    | cons e es ih => exact fun _ => (ih _).trans (held_complete1 _ _ _ _ _)
  exact (hends _ _).trans (held_complete1 _ _ _ _ _)

theorem held_completeRunning (op : Nat) (arg : List Nat) (st d : Nat) (b : Bool) : (s.completeRunning op arg st d b).held = s.held := by
  unfold State.completeRunning
  split
  · exact held_complete _ _ _ _ _
  · rfl

theorem held_stateRecord (kind role result op : Nat) (body : List Int) : (s.stateRecord kind role result op body).held = s.held := by
  unfold State.stateRecord State.sendRecord
  exact held_ite (held_pmcEvent _ _ _ _ _) rfl

theorem held_finishCarried (c : Ctx) (o : OpInfo) (role st d : Nat) (body : List Int) :
    (s.finishCarried c o role st d body).held = s.held := by
  have hack : ∀ s : State, s.armAck.held = s.held := by
    intro s
    unfold State.armAck
    exact held_ite rfl rfl
  unfold State.finishCarried
  have h := held_stateRecord s 1 role st o.op body
  exact held_ite (held_ite ((hack _).trans h) ((held_complete _ _ _ _ _).trans h)) (held_complete _ _ _ _ _)

theorem held_cancelHandover (st : Nat) (b : Bool) : (s.cancelHandover st b).held = s.held := by
  unfold State.cancelHandover
  exact held_ite ((held_foldl _ (fun _ _ => held_complete _ _ _ _ _) _).trans (held_completeRunning _ _ _ _ _ _)) rfl

theorem held_relayFence : s.relayFence.held = s.held := (held_completeRunning _ _ _ _ _ _).trans (held_cancelHandover _ _ _)

/-- The resets that ended complete their commands (R41). -/
theorem held_resetsEnded : s.resetsEnded.held = s.held := by
  have hends : ∀ (fs : List InFlight) (s : State), (s.endResets fs).held = s.held := by
    intro fs
    induction fs with
    | nil => exact fun _ => rfl
    | cons e es ih =>
      intro s
      unfold State.endResets
      split
      · split
        · exact (ih _).trans (held_complete _ _ _ _ _)
        · exact (ih _).trans (held_complete _ _ _ _ _)
      · exact ih _
  exact hends _ _

/-! ## TDC lanes -/

theorem held_raiseTim (k : Nat) (sev : Sev) (hid lane : Nat) (items : List Item) : (s.raiseTim k sev hid lane items).held = s.held := by
  unfold State.raiseTim
  exact held_ite rfl ((held_raise _ _ _ _).trans (held_ite rfl rfl))

theorem held_writeRecord (bytes : List Byte) : (s.writeRecord bytes).held = s.held := by
  unfold State.writeRecord
  extract_lets wr s1 s2 s3 s4
  have h3 : s3.held = s.held := held_ite (held_raiseTim _ _ _ _ _ _) rfl
  exact h3

theorem held_addStats (k : Nat) (splits : List (Int × Bool)) : (s.addStats k splits).held = s.held := by
  unfold State.addStats
  split
  · rfl
  · rfl

theorem held_closeCore (k : Nat) (timeout last : Bool) : (s.closeCore k timeout last).held = s.held := by
  unfold State.closeCore
  extract_lets h
  split
  · rfl
  · extract_lets s1 s2 s3 s4 s5 s6 s7
    have h1 : s1.held = s.held := held_ite (held_writeRecord _ _) rfl
    have h2 : s2.held = s.held := held_ite h1 h1
    have h3 : s3.held = s.held := held_ite h2 h2
    have h4 : s4.held = s.held := held_ite h3 h3
    have h6 : s6.held = s.held := (held_addStats _ _ _).trans h4
    exact held_ite (t := (s6.bump _).raiseTim _ _ _ _ _) ((held_raiseTim _ _ _ _ _ _).trans h6) h6

theorem held_endHeat (k st : Nat) : (s.endHeat k st).held = s.held := held_raise _ _ _ _

theorem held_stopHeat (k st claim : Nat) : (s.stopHeat k st claim).held = s.held := by
  unfold State.stopHeat
  extract_lets s1 s2
  have h1 : s1.held = s.held := held_ite (held_closeCore _ _ _ _) rfl
  exact held_ite rfl (held_ite ((held_raise _ _ _ _).trans h1) ((held_endHeat _ _ _).trans h1))

theorem held_fenceHeat (k : Nat) : (s.fenceHeat k).held = s.held := by
  unfold State.fenceHeat
  exact held_ite rfl (held_endHeat _ _ _)

theorem held_stopRotation : s.stopRotation.held = s.held := by
  unfold State.stopRotation
  extract_lets k back s1 s2
  have h1 : s1.held = s.held := held_ite rfl rfl
  exact held_ite h1 h1

theorem held_tdcOut (k : Nat) (fenced : Bool) : (s.tdcOut k fenced).held = s.held := by
  have hstop := held_stopRotation s
  unfold State.tdcOut
  refine held_ite (held_ite (held_ite ((held_fenceHeat _ _).trans hstop) ((held_stopHeat _ _ _ _).trans hstop)) hstop)
    (held_ite (held_ite hstop rfl) (held_ite ((held_raiseTim _ _ _ _ _ _).trans hstop) ?_))
  exact held_ite (held_fenceHeat _ _) (held_stopHeat _ _ _ _)

theorem held_tdcGone (k : Nat) (fenced : Bool) : (s.tdcGone k fenced).held = s.held := by
  unfold State.tdcGone
  exact held_ite rfl (held_tdcOut _ _ _)

/-! ## Synthesis groups and the outputs that follow them -/

theorem held_checkPulses (g : Nat) : (s.checkPulses g).held = s.held := by
  have hone : ∀ (s : State) (n : Nat), (s.checkPulse n).held = s.held := by
    intro s n
    unfold State.checkPulse
    exact held_ite (held_raise _ _ _ _) rfl
  exact held_foldl s (fun s n => held_ite (hone s n) rfl) _

theorem held_synEnd (o : OpInfo) (g st d : Nat) (b : Bool) : (s.synEnd o g st d b).held = s.held := by
  unfold State.synEnd
  split
  · exact held_ite (held_finishCarried _ _ _ _ _ _ _) (held_complete _ _ _ _ _)
  · rfl

theorem held_rampBreak (g st : Nat) : (s.rampBreak g st).held = s.held := by
  have hend : (s.rampEnd g).held = s.held := by
    unfold State.rampEnd
    exact held_ite rfl (held_checkPulses _ _)
  unfold State.rampBreak
  split
  · rfl
  · exact (held_synEnd _ _ _ _ _ _).trans hend

theorem held_squelch (i : Nat) : (s.squelch i).held = s.held := held_ite rfl rfl

theorem held_outTo (i st : Nat) : (s.outTo i st).held = s.held := by
  unfold State.outTo
  exact held_ite rfl (held_raise _ _ _ _)

theorem held_alignDone (i : Nat) (e0 : Int) (jump : Bool) : (s.alignDone i e0 jump).held = s.held := by
  unfold State.alignDone
  exact (held_raise _ _ _ _).trans (held_ite rfl rfl)

theorem held_startOut (i : Nat) : (s.startOut i).held = s.held := by
  unfold State.startOut
  exact held_ite rfl (held_ite rfl rfl)

theorem held_resumeJump (i : Nat) : (s.resumeJump i).held = s.held := by
  unfold State.resumeJump
  split
  · exact held_ite rfl (held_ite rfl rfl)
  · rfl

theorem held_followGrp (i : Nat) : (s.followGrp i).held = s.held := by
  unfold State.followGrp
  extract_lets g o al s1
  have h1 : s1.held = s.held := (held_outTo _ _ _).trans (held_startOut _ _)
  clear_value s1 al
  refine held_ite (held_ite ?_ (held_ite ((held_outTo _ _ _).trans (held_resumeJump _ _)) rfl))
    (held_ite (held_ite (held_outTo _ _ _) rfl) (held_ite ((held_outTo _ _ _).trans (held_squelch _ _)) rfl))
  split
  · exact (held_alignDone _ _ _ _).trans h1
  · exact h1

theorem held_synFrom (g old st : Nat) : (s.synFrom g old st).held = s.held := by
  have hall : ∀ s : State, (s.followAll g).held = s.held := fun s => held_foldl s (fun s i => held_ite (held_followGrp s i) rfl) _
  unfold State.synFrom
  exact held_ite rfl ((hall _).trans (held_raise _ _ _ _))

theorem held_synTo (g st : Nat) : (s.synTo g st).held = s.held := by
  unfold State.synTo
  exact held_ite rfl (held_synFrom _ _ _ _)

theorem held_synStop (g st : Nat) : (s.synStop g st).held = s.held := by
  unfold State.synStop
  extract_lets s1 s2 s3 s4
  have h2 : s2.held = s.held := held_rampBreak s g _
  have h3 : s3.held = s.held := held_ite h2 (held_ite h2 h2)
  exact held_ite rfl ((held_synEnd _ _ _ _ _ _).trans ((held_synTo _ _ _).trans h3))

theorem held_loseLock (g cause : Nat) : (s.loseLock g cause).held = s.held := by
  unfold State.loseLock
  extract_lets s1 r s2 s3 s4 s5 s6 s7
  have h4 : s4.held = s.held := held_rampBreak s g _
  have h6 : s6.held = s.held := (held_raise _ _ _ _).trans h4
  have h7 : s7.held = s.held := held_ite h6 (held_ite h6 h6)
  exact (held_synTo _ _ _).trans h7

theorem held_relockFail (g : Nat) : (s.relockFail g).held = s.held := (held_synTo _ _ _).trans (held_raise _ _ _ _)

theorem held_synFence (g : Nat) : (s.synFence g).held = s.held := by
  unfold State.synFence
  have h := held_synEnd s opSynStart g Status.fenced 0 false
  exact held_ite ((held_loseLock _ _ _).trans h) (held_ite ((held_relockFail _ _).trans h) h)

/-- A group that comes back starts anew (R164, R175). -/
theorem held_synRestart (g old : Nat) : (s.synRestart g old).held = s.held := by
  unfold State.synRestart
  have h := held_rampBreak s g Status.interrupted
  exact held_ite ((held_synFrom _ _ _ _).trans h) ((held_synFrom _ _ _ _).trans h)

/-! ## Outputs -/

theorem held_stopOut (i st : Nat) : (s.stopOut i st).held = s.held := by
  unfold State.stopOut
  exact (held_outTo _ _ _).trans (held_ite rfl rfl)

theorem held_outFence (i : Nat) : (s.outFence i).held = s.held := by
  unfold State.outFence
  exact held_ite rfl ((held_stopOut _ _ _).trans (held_squelch _ _))

theorem held_endPulse (n : Nat) : (s.endPulse n).held = s.held := by
  unfold State.endPulse
  extract_lets i
  split
  · exact held_ite rfl rfl
  · rfl

theorem held_emitEdge (n : Nat) (k : Int) : (s.emitEdge n k).held = s.held := by
  have hevent : ∀ (s : State) (lin : Nat) (q e : Int), (s.edgeEvent n lin q e).held = s.held := by
    intro s lin q e
    unfold State.edgeEvent
    exact held_ite (held_raise _ _ _ _) rfl
  exact (hevent _ _ _ _).trans (held_pmcEvent _ _ _ _ _)

theorem held_jumpEdge (n : Nat) (al : Align) : (s.jumpEdge n al).held = s.held := by
  unfold State.jumpEdge
  exact held_ite rfl (held_ite rfl ((held_alignDone _ _ _ _).trans (held_emitEdge _ _ _)))

theorem held_pulseEdge (n : Nat) : (s.pulseEdge n).held = s.held := by
  unfold State.pulseEdge
  extract_lets i s1 r normal
  have h1 : s1.held = s.held := held_endPulse s n
  have hn : normal.held = s.held := held_ite ((held_emitEdge _ _ _).trans h1) h1
  clear_value normal s1
  refine held_ite h1 ?_
  split
  · exact held_ite ((held_jumpEdge _ _ _).trans h1) hn
  · exact hn

theorem held_outDisable (i : Nat) : (s.outDisable i).held = s.held := by
  unfold State.outDisable
  extract_lets runs s1 s2
  have h1 : s1.held = s.held := held_ite (held_pulseEdge _ _) rfl
  have h2 : s2.held = s.held := held_ite h1 (held_ite h1 (held_ite h1 ((held_squelch _ _).trans h1)))
  exact held_ite rfl ((held_stopOut _ _ _).trans h2)

/-! ## The baseband, and the lanes that lose a source -/

theorem held_chTo (n st : Nat) : (s.chTo n st).held = s.held := by
  unfold State.chTo
  exact held_ite rfl (held_raise _ _ _ _)

theorem held_clearLocks (n : Nat) : (s.clearLocks n).held = s.held := by
  have hlose : (s.loseCarrier n).held = s.held := by
    unfold State.loseCarrier
    exact held_ite rfl rfl
  exact hlose

theorem held_dropSearch (n : Nat) : (s.dropSearch n).held = s.held := by
  refine held_foldl _ (fun s k => ?_) _
  split
  · exact held_ite rfl rfl
  · rfl

theorem held_dispatchSearch : s.dispatchSearch.held = s.held := by
  refine held_foldl s (fun s k => held_ite ?_ rfl) _
  split
  · rfl
  · rfl

theorem held_releaseCh (n : Nat) : (s.releaseCh n).held = s.held := by
  unfold State.releaseCh
  have h : ((s.dropSearch n).clearLocks n).held = s.held := (held_clearLocks _ _).trans (held_dropSearch _ _)
  exact held_ite rfl ((held_dispatchSearch _).trans ((held_chTo _ _ _).trans h))

theorem held_gnssChannelGone (n : Nat) (fenced : Bool) : (s.gnssChannelGone n fenced).held = s.held := by
  unfold State.gnssChannelGone
  have h : ((s.dropSearch n).clearLocks n).held = s.held := (held_clearLocks _ _).trans (held_dropSearch _ _)
  have hput : (((s.dropSearch n).clearLocks n).chPut n 0).held = s.held := (held_put _ _ _).trans ((held_put _ _ _).trans h)
  exact held_ite (held_releaseCh _ _) (held_ite (held_raise _ _ _ _) ((held_dispatchSearch _).trans ((held_raise _ _ _ _).trans hput)))

theorem held_gnssAcqGone (k : Nat) : (s.gnssAcqGone k).held = s.held := by
  unfold State.gnssAcqGone
  split
  · exact held_dispatchSearch _
  · rfl

theorem held_sourceLos (src : Nat) : (s.sourceLos src).held = s.held := by
  have hfreeze : ∀ s : State, s.freeze.held = s.held := by
    intro s
    unfold State.freeze
    exact held_ite rfl rfl
  have hlos : ∀ (s : State) (n : Nat), (s.laneLos n).held = s.held := by
    intro s n
    unfold State.laneLos
    extract_lets wasUp r s1 s2
    have h2 : s2.held = s.held := held_ite (held_raise _ _ _ _) rfl
    exact held_ite rfl (held_ite ((hfreeze _).trans h2) h2)
  exact held_foldl s (fun s n => held_ite (hlos s n) rfl) _

theorem held_gnssUnitGone (hid : Nat) : (s.gnssUnitGone hid).held = s.held := by
  have hdrop : ∀ s : State, s.dropEpoch.held = s.held := by
    intro s
    unfold State.dropEpoch
    exact held_ite rfl (held_raise _ _ _ _)
  have habandon : s.abandonEpoch.held = s.held := by
    unfold State.abandonEpoch
    split
    · exact hdrop _
    · rfl
  have hlost : ∀ s : State, (s.solnLost []).held = s.held := by
    intro s
    unfold State.solnLost
    extract_lets was s1 s2
    have h2 : s2.held = s.held := (held_put _ _ _).trans ((held_put _ _ _).trans (held_sourceLos s 0x08))
    exact held_ite ((held_raise _ _ _ _).trans h2) h2
  exact (hlost _).trans (held_ite habandon rfl)

/-! ## The Relay Link's pairs -/

theorem held_pairOff (n : Nat) : (s.pairOff n).held = s.held := by
  have hpair : (s.setPair n 0).held = s.held := by
    unfold State.setPair
    exact held_ite rfl (held_raise _ _ _ _)
  have hlost : ∀ s : State, s.linkLost.held = s.held := by
    intro s
    unfold State.linkLost
    exact held_ite ((held_sourceLos _ _).trans (held_cancelHandover _ _ _)) rfl
  unfold State.pairOff
  exact held_ite rfl ((hlost _).trans (held_ite ((held_raise _ _ _ _).trans hpair) hpair))

/-! ## What is served (R232, R236, R251, R260) -/

theorem held_txPush (p : Nat) (tci : Option Nat) (b : TxBody) : (s.txPush p tci b).held = s.held := by
  have hdrop : ∀ (s : State) (q : TxItem → Bool), (s.timeDrop p q).held = s.held := fun s q => held_raisePort _ _ _ _ _
  have hpush : (s.fifoPush p tci b).held = s.held := by
    unfold State.fifoPush
    extract_lets i old s1 mine s2
    have h1 : s1.held = s.held := held_ite (hdrop _ _) rfl
    have h2 : s2.held = s.held := held_ite ((hdrop _ _).trans h1) h1
    exact h2
  unfold State.txPush
  exact held_ite hpush rfl

theorem held_signGroup (k : Nat) : (s.signGroup k).2.held = s.held := by
  unfold State.signGroup
  extract_lets auth
  split
  · rfl
  · split
    · rfl
    · split
      · rfl
      · exact held_raise _ _ _ _

theorem held_announceAll (k : Nat) : (s.announceAll k).held = s.held := by
  have hall : ∀ (s : State) (f : State → Nat → Nat → PtpMsg), (s.toAll k f).held = s.held := fun s f =>
    held_foldl s (fun s p => held_foldl s (fun s t => held_txPush s _ _ _) _) _
  have hsign := held_signGroup s k
  unfold State.announceAll
  split
  · next h => rwa [h] at hsign
  · next h =>
    rw [h] at hsign
    exact (hall _ _).trans hsign

theorem held_setInstSt (k v : Nat) : (s.setInstSt k v).held = s.held := by
  unfold State.setInstSt
  exact held_ite rfl (held_raise _ _ _ _)

theorem held_enterServing (k : Nat) : (s.enterServing k).held = s.held := by
  unfold State.enterServing
  have h := held_setInstSt s k 2
  exact held_ite ((held_announceAll _ _).trans h) h

theorem held_ptpJudge (k : Nat) : (s.ptpJudge k).held = s.held := by
  unfold State.ptpJudge
  exact held_ite rfl (held_ite (held_ite rfl (held_setInstSt _ _ _)) (held_ite (held_ite (held_enterServing _ _) rfl)
    (held_ite (held_ite (held_enterServing _ _) rfl) (held_ite rfl (held_setInstSt _ _ _)))))

theorem held_upShow (k : Nat) : (s.upShow k).held = s.held := by
  unfold State.upShow
  extract_lets p s1
  split
  · rfl
  · rfl

theorem held_upJudge (k : Nat) : (s.upJudge k).held = s.held := by
  unfold State.upJudge
  extract_lets r p cause s1 s2
  refine (held_upShow _ _).trans ?_
  unfold s2
  split
  · exact (held_raise _ _ _ _).trans (held_sourceLos _ _)
  · rfl

theorem held_ntpUpdate : s.ntpUpdate.held = s.held := by
  unfold State.ntpUpdate
  exact held_ite rfl (held_raise _ _ _ _)

theorem held_serveUpdate : s.serveUpdate.held = s.held :=
  (held_ntpUpdate _).trans ((held_foldl _ (fun s k => held_ite (held_upJudge s k) rfl) _).trans (held_foldl _ held_ptpJudge _))

theorem held_linkOff (p : Nat) : (s.linkOff p).held = s.held := by
  unfold State.linkOff
  exact held_ite rfl (held_sourceLos _ _)

/-! ## A unit that goes out -/

theorem held_drainOf (hid : Nat) : (s.drainOf hid).held = s.held := by
  unfold State.drainOf
  split
  · rfl
  · rfl

theorem held_poisonOf (hid : Nat) : (s.poisonOf hid).held = s.held := held_ite rfl (held_ite rfl (held_ite rfl rfl))

/-- What follows when a unit has left ENABLED (R44, R45, R397). -/
theorem held_unitOut (hid : Nat) (fenced : Bool) : (s.unitOut hid fenced).held = s.held := by
  unfold State.unitOut
  extract_lets s1 s2
  have h1 : s1.held = s.held := held_drainOf s hid
  have h2 : s2.held = s.held := held_ite ((held_poisonOf _ _).trans h1) h1
  clear_value s1 s2
  rw [← h2]
  refine held_ite (held_tdcGone _ _ _) (held_ite (held_ite (held_synFence _ _) (held_synStop _ _ _)) ?_)
  refine held_ite (held_ite (held_outFence _ _) (held_outDisable _ _)) (held_ite (held_ite (held_outFence _ _) (held_outDisable _ _)) ?_)
  refine held_ite (held_ite rfl rfl) (held_ite (held_gnssChannelGone _ _ _) (held_ite (held_gnssAcqGone _ _) ?_))
  refine held_ite (held_gnssUnitGone _ _) (held_ite (held_pairOff _ _) (held_ite (held_ite (held_relayFence _) rfl) ?_))
  exact held_ite ((held_serveUpdate _).trans (held_linkOff _ _)) rfl

/-! ## A unit fenced, and what it holds -/

variable {s} in
theorem held_snd_ite {α : Type} {x y : α × State} {c : Prop} [Decidable c] (hx : x.2.held = s.held) (hy : y.2.held = s.held) :
    (if c then x else y).2.held = s.held := by
  split
  · exact hx
  · exact hy

theorem held_measWords (ms : List ChMeas) (n : Nat) : (s.measWords ms n).2.held = s.held := by
  unfold State.measWords
  split
  · rfl
  · rfl

/-- Reading a unit's CONTENT may take free values, and changes nothing else (R412). -/
theorem held_content (ms : List ChMeas) (h : Nat) : (s.content ms h).2.held = s.held := by
  unfold State.content
  repeat' refine held_snd_ite ?_ ?_
  any_goals rfl
  exact held_measWords s ms ((h - 0x2000) / 0x100 * 16 + h % 16)

end Sys2Proof.Machine
end

section
/-! PROOFS. A domain's power up (R31, R40, R448): the registers and units it leaves alone, its power bit, and its units present. -/

namespace Sys2Proof.Machine

/-! ## The power bits, through a group's return (R164, R175) -/

section

variable (s : State)

/-- The power bits of the domains. -/
def State.onBits (s : State) : Nat := s.get Reg.PWR_STATUS_ON

/-- Every register beyond the power controller's own block stands apart from its power bits. -/
theorem onBits_put {f : Fld} (v : Nat) {a k : Nat} (hf : f.addr = a + k) (ha : 0x10000 < a) : (s.put f v).onBits = s.onBits :=
  State.get_put_ne s v (key_ne_of_addr_lt (f := Reg.PWR_STATUS_ON) (by rw [hf]; exact Nat.lt_of_lt_of_le ha (Nat.le_add_right _ _)) (by decide))

theorem onBits_quiet {s t : State} (h : Quiet s t) : t.onBits = s.onBits := h.regs _ (by decide)

theorem onBits_raise {e : Ev} (h : e.sticky = none) (items : List Item) (role : Nat) : (s.raise e items role).onBits = s.onBits :=
  onBits_quiet (raise_quiet_of_sticky_none h s items role)

theorem onBits_checkPulses (g : Nat) : (s.checkPulses g).onBits = s.onBits := by
  have hone : ∀ (s : State) (n : Nat), (s.checkPulse n).onBits = s.onBits := by
    intro s n
    unfold State.checkPulse
    refine view_ite State.onBits ((onBits_raise _ rfl _ _).trans ?_) rfl
    exact State.get_put_ne _ _ (by decide)
  exact view_foldl State.onBits (fun s n => view_ite State.onBits (hone s n) rfl) s _

theorem onBits_rampBreak (g st : Nat) : (s.rampBreak g st).onBits = s.onBits := by
  have hend : (s.rampEnd g).onBits = s.onBits := by
    unfold State.rampEnd
    refine view_ite State.onBits rfl ((onBits_checkPulses _ _).trans ?_)
    exact (onBits_put _ _ rfl (by decide)).trans (onBits_put _ _ rfl (by decide))
  have hsyn : ∀ (s : State) (o : OpInfo) (d : Nat) (b : Bool), (s.synEnd o g st d b).onBits = s.onBits := by
    intro s o d b
    unfold State.synEnd
    split
    · exact view_ite State.onBits ((finishCarried_apart _ _ _ _ _ _ _).regs _ (by decide)) ((complete_apart _ _ _ _ _).regs _ (by decide))
    · rfl
  unfold State.rampBreak
  split
  · rfl
  · exact (hsyn _ _ _ _).trans hend

theorem onBits_outTo (i st : Nat) : (s.outTo i st).onBits = s.onBits := by
  unfold State.outTo outStF
  refine view_ite State.onBits rfl ((onBits_raise _ rfl _ _).trans ?_)
  split
  · exact onBits_put _ _ rfl (by decide)
  · exact onBits_put _ _ rfl (by decide)

theorem onBits_followGrp (i : Nat) : (s.followGrp i).onBits = s.onBits := by
  have hsquelch : ∀ s : State, (s.squelch i).onBits = s.onBits := fun s => view_ite State.onBits rfl rfl
  have hresume : (s.resumeJump i).onBits = s.onBits := by
    unfold State.resumeJump
    split
    · exact view_ite State.onBits rfl (view_ite State.onBits rfl rfl)
    · rfl
  have hstart : (s.startOut i).onBits = s.onBits := by
    unfold State.startOut
    refine view_ite State.onBits (onBits_put s _ rfl (by decide)) ?_
    extract_lets s1 r from2ms s2 s3
    have h1 : s1.onBits = s.onBits := onBits_put _ _ rfl (by decide)
    have h3 : s3.onBits = s.onBits := (onBits_put _ _ rfl (by decide)).trans ((onBits_put _ _ rfl (by decide)).trans h1)
    exact view_ite State.onBits h3 h3
  have hdone : ∀ (s : State) (e0 : Int) (jump : Bool), (s.alignDone i e0 jump).onBits = s.onBits := by
    intro s e0 jump
    unfold State.alignDone
    refine (onBits_raise _ rfl _ _).trans (view_ite State.onBits rfl ?_)
    exact (onBits_put _ _ rfl (by decide)).trans (onBits_put _ _ rfl (by decide))
  unfold State.followGrp
  extract_lets g o al s1
  have h1 : s1.onBits = s.onBits := (onBits_outTo _ _ _).trans hstart
  clear_value s1 al
  refine view_ite State.onBits (view_ite State.onBits ?_ (view_ite State.onBits ((onBits_outTo _ _ _).trans hresume) rfl))
    (view_ite State.onBits (view_ite State.onBits (onBits_outTo _ _ _) rfl)
      (view_ite State.onBits ((onBits_outTo _ _ _).trans (hsquelch _)) rfl))
  split
  · exact (hdone _ _ _).trans h1
  · exact h1

theorem onBits_synRestart (g old : Nat) : (s.synRestart g old).onBits = s.onBits := by
  have hfrom : ∀ (s : State) (st : Nat), (s.synFrom g old st).onBits = s.onBits := by
    intro s st
    unfold State.synFrom
    have h := onBits_put s (f := Reg.SYN_STATE_STATE g) st rfl (by decide)
    refine view_ite State.onBits h ((view_foldl State.onBits (fun s i => view_ite State.onBits (onBits_followGrp s i) rfl) _ _).trans ?_)
    exact (onBits_raise _ rfl _ _).trans h
  have h := onBits_rampBreak s g Status.interrupted
  unfold State.synRestart
  refine view_ite State.onBits ((hfrom _ _).trans ((onBits_put _ _ rfl (by decide)).trans h)) ((hfrom _ _).trans ?_)
  exact (onBits_put _ _ rfl (by decide)).trans ((onBits_put _ _ rfl (by decide)).trans h)

end

/-! ## The units of a domain -/

section

variable {s : State} {d : Nat}

/-- The units of a domain that are ABSENT made present: those of R42 ENABLED, the rest DISABLED (R40). -/
def State.unitsUp (s : State) (d : Nat) : State :=
  (domainUnits d).foldl (fun s h =>
    if (s.unit h).st = .absent then s.setUnit h ⟨if isCore h then .enabled else .disabled, 0, 0, none, 0⟩ else s) s

/-- Making units present changes units alone; one that is present stays as it is, and those of the domain are present after it. -/
theorem unitsUp_spec (s : State) (d : Nat) : (∃ us, s.unitsUp d = { s with units := us }) ∧
    (∀ h, (s.unit h).st ≠ .absent → (s.unitsUp d).unit h = s.unit h) ∧ ∀ h ∈ domainUnits d, ((s.unitsUp d).unit h).st ≠ .absent := by
  unfold State.unitsUp
  generalize domainUnits d = hs
  induction hs generalizing s with
  | nil => exact ⟨⟨s.units, rfl⟩, fun _ _ => rfl, fun _ h => nomatch h⟩
  | cons x xs ih =>
    rw [List.foldl_cons]
    by_cases hx : (s.unit x).st = .absent
    · rw [if_pos hx]
      obtain ⟨⟨us, hus⟩, hstay, hup⟩ := ih (s.setUnit x ⟨if isCore x then .enabled else .disabled, 0, 0, none, 0⟩)
      have hnew : ((s.setUnit x ⟨if isCore x then .enabled else .disabled, 0, 0, none, 0⟩).unit x).st ≠ .absent := by
        rw [State.unit_setUnit_same]
        cases isCore x
        · exact UnitSt.noConfusion
        · exact UnitSt.noConfusion
      refine ⟨⟨us, hus⟩, fun h hh => ?_, fun h hh => ?_⟩
      · have hne : h ≠ x := fun e => hh (e ▸ hx)
        rw [hstay h (by rwa [State.unit_setUnit_ne _ _ hne]), State.unit_setUnit_ne _ _ hne]
      · rcases List.mem_cons.1 hh with rfl | hh
        · rwa [hstay h hnew]
        · exact hup h hh
    · rw [if_neg hx]
      obtain ⟨hus, hstay, hup⟩ := ih s
      refine ⟨hus, hstay, fun h hh => ?_⟩
      rcases List.mem_cons.1 hh with rfl | hh
      · rwa [hstay h hx]
      · exact hup h hh

/-! ## A domain's power up -/

/-- A domain's power bit set, with GNS_SCLK where it begins. -/
theorem powerBit_eq (s : State) (d : Nat) (on : Bool) : ∃ o, s.powerBit d on = { s.putBit Reg.PWR_STATUS_ON d on with out := o } := by
  unfold State.powerBit
  extract_lets was s1
  split
  · exact ⟨s.out, rfl⟩
  · exact ⟨_, rfl⟩

/-- A domain that lacks power or units gets them. -/
def State.domainUp (s : State) (d : Nat) : State := (s.powerBit d true).unitsUp d

theorem domainUp_eq (s : State) (d : Nat) : ∃ us o, s.domainUp d = { s.putBit Reg.PWR_STATUS_ON d true with units := us, out := o } := by
  obtain ⟨o, ho⟩ := powerBit_eq s d true
  obtain ⟨⟨us, hus⟩, -, -⟩ := unitsUp_spec (s.powerBit d true) d
  exact ⟨us, o, by rw [State.domainUp, hus, ho]⟩

theorem domainUp_units (s : State) (d : Nat) : (∀ h ∈ domainUnits d, ((s.domainUp d).unit h).st ≠ .absent) ∧
    ∀ h, (s.unit h).st ≠ .absent → (s.domainUp d).unit h = s.unit h := by
  have hunit : ∀ h, (s.powerBit d true).unit h = s.unit h := by
    obtain ⟨o, ho⟩ := powerBit_eq s d true
    intro h
    rw [ho]
    rfl
  obtain ⟨-, hstay, hup⟩ := unitsUp_spec (s.powerBit d true) d
  exact ⟨hup, fun h hh => (hstay h (by rwa [hunit])).trans (hunit h)⟩

theorem domainUp_powered (s : State) (hd : d < 14) : (s.domainUp d).powered d = true := by
  obtain ⟨us, o, h⟩ := domainUp_eq s d
  rw [h]
  exact (fbit_putBit s d true hd).trans (if_pos rfl)

/-- Whether a domain has its power and its units. -/
abbrev State.isUp (s : State) (d : Nat) : Prop := s.powered d = true ∧ ((domainUnits d).all fun h => decide ((s.unit h).st ≠ .absent)) = true

/-- Power up of a domain, but for the baseband's: its units, a group's return, the time bus's ports, and its event. -/
theorem domainOn_eq (hup : ¬ s.isUp d) (hd : d ≠ 7) :
    s.domainOn d =
      let s1 := if 3 ≤ d ∧ d ≤ 6 then (s.domainUp d).synRestart (d - 3) (s.synSt (d - 3)) else s.domainUp d
      (if d = 9 then (s1.setTb 0 0).setTb 1 0 else if d = 10 then (s1.setTb 2 0).setTb 3 0 else s1).raise (evDomain 8 d) [i1 d] := by
  unfold State.domainOn
  rw [if_neg hup]
  simp only [hd, false_and, if_false]
  rfl

theorem setTb_held (s : State) (p v : Nat) : (s.setTb p v).held = s.held ∧ (s.setTb p v).onBits = s.onBits := by
  unfold State.setTb
  extract_lets old s1
  have h1 : s1.held = s.held ∧ s1.onBits = s.onBits := by
    unfold s1
    split
    · exact ⟨rfl, rfl⟩
    · exact ⟨rfl, rfl⟩
  exact ⟨h1.1, ((State.get_put_ne _ _ (by decide)).trans (State.get_put_ne _ _ (by decide))).trans h1.2⟩

/-- What follows a domain's power up touches neither its units nor any power bit. -/
theorem domainOn_view (hup : ¬ s.isUp d) (hd : d ≠ 7) :
    (s.domainOn d).held = (s.domainUp d).held ∧ (s.domainOn d).onBits = (s.domainUp d).onBits := by
  rw [domainOn_eq hup hd]
  extract_lets s1
  have h1 : s1.held = (s.domainUp d).held ∧ s1.onBits = (s.domainUp d).onBits :=
    ⟨held_ite (held_synRestart _ _ _) rfl, view_ite State.onBits (onBits_synRestart _ _ _) rfl⟩
  clear_value s1
  have htb : ∀ p q, ((s1.setTb p 0).setTb q 0).held = (s.domainUp d).held ∧ ((s1.setTb p 0).setTb q 0).onBits = (s.domainUp d).onBits :=
    fun p q => ⟨(setTb_held _ _ _).1.trans ((setTb_held _ _ _).1.trans h1.1), (setTb_held _ _ _).2.trans ((setTb_held _ _ _).2.trans h1.2)⟩
  exact ⟨(held_raise _ _ _ _).trans (held_ite (htb 0 1).1 (held_ite (htb 2 3).1 h1.1)), (onBits_raise _ rfl _ _).trans
    (view_ite State.onBits (htb 0 1).2 (view_ite State.onBits (htb 2 3).2 h1.2))⟩

/-- A domain's units are present once it is on, and one that was present is as it was (R40). -/
theorem domainOn_units (s : State) (hd : d ≠ 7) : (∀ h ∈ domainUnits d, ((s.domainOn d).unit h).st ≠ .absent) ∧
    ∀ h, (s.unit h).st ≠ .absent → (s.domainOn d).unit h = s.unit h := by
  by_cases hup : s.isUp d
  · have hon : s.domainOn d = s := by
      unfold State.domainOn
      exact if_pos hup
    rw [hon]
    exact ⟨fun h hh => of_decide_eq_true (List.all_eq_true.1 hup.2 h hh), fun _ _ => rfl⟩
  · have hunits : (s.domainOn d).units = (s.domainUp d).units := congrArg Prod.fst (domainOn_view hup hd).1
    have hunit : ∀ h, (s.domainOn d).unit h = (s.domainUp d).unit h := fun h => by rw [State.unit, hunits]; rfl
    simp only [hunit]
    exact domainUp_units s d

theorem domainOn_powered (s : State) (hd : d ≠ 7) (hlt : d < 14) : (s.domainOn d).powered d = true := by
  by_cases hup : s.isUp d
  · have hon : s.domainOn d = s := by
      unfold State.domainOn
      exact if_pos hup
    rw [hon]
    exact hup.1
  · have hbits : (s.domainOn d).get Reg.PWR_STATUS_ON = (s.domainUp d).get Reg.PWR_STATUS_ON := (domainOn_view hup hd).2
    rw [State.powered, State.fbit, hbits]
    exact domainUp_powered s hlt

/-! ## A domain of no group, no port and no baseband -/

/-- What a domain's power up without a group, a port or the baseband in it leaves alone: all registers but the power bits, and what is kept
beside them. -/
structure Raised (s t : State) : Prop where
  regs   : ∀ f : Fld, f.key ∉ bookkeeping → f.key ≠ Reg.PWR_STATUS_ON.key → t.get f = s.get f
  tc     : t.tc = s.tc
  mem    : t.mem = s.mem
  roles  : t.roles = s.roles
  keeper : t.keeper = s.keeper
  disc   : t.disc = s.disc

theorem Raised.trans {s t u : State} (h : Raised s t) (k : Raised t u) : Raised s u :=
  ⟨fun f hf hne => (k.regs f hf hne).trans (h.regs f hf hne), k.tc.trans h.tc, k.mem.trans h.mem, k.roles.trans h.roles,
    k.keeper.trans h.keeper, k.disc.trans h.disc⟩

theorem domainOn_raised (s : State) (hd : d ∈ [0, 1, 8, 11, 13]) : Raised s (s.domainOn d) := by
  by_cases hup : s.isUp d
  · have hon : s.domainOn d = s := by
      unfold State.domainOn
      exact if_pos hup
    rw [hon]
    exact ⟨fun _ _ _ => rfl, rfl, rfl, rfl, rfl, rfl⟩
  · have hplain : d ≠ 7 ∧ ¬ (3 ≤ d ∧ d ≤ 6) ∧ d ≠ 9 ∧ d ≠ 10 := by
      simp only [List.mem_cons, List.not_mem_nil, or_false] at hd
      omega
    obtain ⟨h7, hsyn, h9, h10⟩ := hplain
    obtain ⟨us, o, heq⟩ := domainUp_eq s d
    rw [domainOn_eq hup h7, if_neg hsyn]
    dsimp only
    rw [if_neg h9, if_neg h10, heq]
    have q := raise_quiet { s.putBit Reg.PWR_STATUS_ON d true with units := us, out := o } (evDomain 8 d) [i1 d] 0
    exact ⟨fun f hf hne => (q.regs f hf).trans (State.get_put_ne s _ hne), q.tc, q.mem, q.roles, q.keeper, q.disc⟩

end
end Sys2Proof.Machine
end

section
/-! PROOFS. A package reset and the keeper's check (R422, R431, R452, R455, R456): what each register and each kept part is after them. -/

namespace Sys2Proof.Machine

/-! ## A package reset -/

section

theorem aget_filter {κ α : Type} [DecidableEq κ] (p : κ → Bool) (m : AMap κ α) (k : κ) :
    aget (m.filter fun x => p x.1) k = if p k then aget m k else none := by
  induction m with
  | nil => exact (ite_self none).symm
  | cons x m ih =>
    obtain ⟨a, v⟩ := x
    rw [List.filter_cons]
    by_cases hk : a = k
    · subst hk
      split
      · exact (if_pos rfl).trans (if_pos rfl).symm
      · next hp => rw [ih, if_neg hp]
    · have hskip : aget ((a, v) :: m) k = aget m k := if_neg hk
      rw [hskip, ← ih]
      split
      · exact if_neg hk
      · rfl

/-- A register after those of some keys are dropped. -/
theorem get_filter_regs (p : Nat → Bool) (s : State) (f : Fld) :
    State.get { s with regs := s.regs.filter fun x => p x.1 } f = if p f.key then s.get f else f.reset := by
  rw [State.get, aget_filter]
  split
  · rfl
  · rfl

/-- A state that differs from another in registers of some keys alone. -/
structure Shows (keys : List Nat) (s t : State) : Prop where
  rest : t = { s with regs := t.regs }
  regs : ∀ f : Fld, f.key ∉ keys → t.get f = s.get f

variable {keys : List Nat} {s t u : State}

theorem Shows.trans (h : Shows keys s t) (k : Shows keys t u) : Shows keys s u :=
  ⟨k.rest.trans (by rw [h.rest]), fun f hf => (k.regs f hf).trans (h.regs f hf)⟩

theorem Shows.refl (s : State) : Shows keys s s := ⟨rfl, fun _ _ => rfl⟩

/-- A value shown where the board has one. -/
theorem shows_match (s : State) (o : Option Nat) {f : Fld} (hf : f.key ∈ keys) :
    Shows keys s (match o with
      | some v => s.put f v
      | none => s) := by
  cases o with
  | none => exact .refl s
  | some v => exact ⟨rfl, fun g hg => State.get_put_ne s v fun e => hg (e ▸ hf)⟩

/-- The registers that show the fuses and the board record. -/
def bootKeys : List Nat :=
  [Reg.FW_SVN_SVN.key, Reg.FW_SVN_REVOKED.key, Reg.RTC_CFG_RTC_CLASS.key, Reg.RTC_CFG_LOAD.key, Reg.MEM_CFG_SIZE.key, Reg.MEM_CFG_RATE.key]

theorem showBoot_shows (s : State) : Shows bootKeys s s.showBoot := by
  have hlist : ∀ fs : List Fld, (∀ f ∈ fs, f.key ∈ bootKeys) → ∀ s : State, Shows bootKeys s (fs.foldl (fun s f =>
      match aget s.boot.trims f.key with
      | some v => s.put f v
      | none => s) s) := by
    intro fs
    induction fs with
    | nil => exact fun _ s => .refl s
    | cons f fs ih =>
      intro h s
      have hf := shows_match s (aget s.boot.trims f.key) (h f List.mem_cons_self)
      exact hf.trans (ih (fun g hg => h g (List.mem_cons_of_mem f hg)) _)
  unfold State.showBoot
  extract_lets s1 s2
  have h1 : Shows bootKeys s s1 := shows_match s s.boot.fwSvn (by decide)
  have h2 : Shows bootKeys s1 s2 := shows_match s1 s1.boot.revoked (by decide)
  exact (h1.trans h2).trans (hlist _ (by decide) s2)

end

/-- A package reset: registers at reset but those kept and shown, the cause, and what stays. -/
theorem packageReset_spec (s : State) {cause : Nat} (h : cause < 3) :
    let t := s.packageReset cause
    t.get Reg.PWR_RESET_CAUSE_CAUSE = cause ∧ t.keeper = s.keeper ∧ t.boot = s.boot ∧ t.roles.sealed = s.roles.sealed ∧ t.mem = s.mem ∧
      t.pending = s.pending ∧ t.units = State.reset.units ∧ t.tc = State.reset.tc ∧ t.hif = State.reset.hif ∧ t.log.entries = [] ∧
      t.out = .fence false :: (if s.sclkRuns then .sclk false :: s.out else s.out) ∧
      ∀ f : Fld, f.key ∉ Reg.PWR_RESET_CAUSE_CAUSE.key :: bootKeys → t.get f = if isKept f.key = true then s.get f else f.reset := by
  unfold State.packageReset
  extract_lets zero noRoles t0 t
  obtain ⟨hrest, hregs⟩ : Shows bootKeys (t0.put Reg.PWR_RESET_CAUSE_CAUSE cause) t := showBoot_shows _
  have hcause : t.get Reg.PWR_RESET_CAUSE_CAUSE = cause := by
    rw [hregs _ (by decide), State.get_put_same]
    exact Nat.mod_eq_of_lt (Nat.lt_trans h (by decide))
  have hget : ∀ f : Fld, f.key ∉ Reg.PWR_RESET_CAUSE_CAUSE.key :: bootKeys → t.get f = if isKept f.key = true then s.get f else f.reset := by
    intro f hf
    obtain ⟨hne, hf⟩ := not_or.1 (mt List.mem_cons.2 hf)
    calc t.get f = (t0.put Reg.PWR_RESET_CAUSE_CAUSE cause).get f := hregs f hf
      _ = t0.get f := State.get_put_ne t0 cause hne
      _ = _ := get_filter_regs isKept s f
  refine ⟨hcause, ?_, ?_, ?_, ?_, ?_, ?_, ?_, ?_, ?_, ?_, hget⟩
  all_goals
    rw [hrest]
    rfl

/-! ## The keeper's check -/

section

theorem b2n_lt (b : Bool) : b2n b < 2 := by
  cases b
  · decide
  · decide

/-- A step of start-up changes the phase, and does nothing else but log and count. -/
theorem setPhase_quiet (s : State) (p : Nat) : Quiet (s.put Reg.PWR_STATUS_PHASE p) (s.setPhase p) :=
  raise_quiet (s.put Reg.PWR_STATUS_PHASE p) evStartPhase [i1 s.phase, i1 p] 0

theorem setPhase_phase (s : State) {p : Nat} (h : p < 16) : (s.setPhase p).phase = p := by
  rw [State.phase, (setPhase_quiet s p).regs _ (by decide), State.get_put_same]
  exact Nat.mod_eq_of_lt h

theorem get_setPhase (s : State) (p : Nat) {f : Fld} (h : f.key ∉ bookkeeping) (hne : f.key ≠ Reg.PWR_STATUS_PHASE.key) :
    (s.setPhase p).get f = s.get f :=
  ((setPhase_quiet s p).regs f h).trans (State.get_put_ne s p hne)

/-- What taking the keys up leaves: the keys in both places, and all else but the sticky bits of the roles. -/
structure KeysTaken (ks : AMap Nat (List Byte)) (s t : State) : Prop where
  keys   : t.roles.keys = ks
  keeper : t.keeper = { s.keeper with keys := ks }
  tc     : t.tc = s.tc
  mem    : t.mem = s.mem
  disc   : t.disc = s.disc
  regs   : ∀ f : Fld, f.key ∉ bookkeeping → f.key ≠ Reg.ROLE_STICKY_STICKY.key → t.get f = s.get f

/-- The keys after the keeper's check: the keeper's, or with its contents lost the sealed copies unless these are bad too (R431). -/
theorem takeKeys_taken (s : State) (lost sealedBad : Bool) :
    KeysTaken (if lost = false then s.keeper.keys else if sealedBad then [] else s.roles.sealed) s (s.takeKeys lost sealedBad) := by
  have hks : (if ¬ lost = true then s.keeper.keys else if sealedBad then [] else s.roles.sealed) =
      if lost = false then s.keeper.keys else if sealedBad then [] else s.roles.sealed := by
    simp only [Bool.not_eq_true]
  unfold State.takeKeys
  rw [hks]
  generalize (if lost = false then s.keeper.keys else if sealedBad then [] else s.roles.sealed) = ks
  extract_lets _ roles keeper s1
  have h1 : KeysTaken ks s s1 := ⟨rfl, rfl, rfl, rfl, rfl, fun _ _ _ => rfl⟩
  clear_value s1
  split
  · refine ⟨.trans ?_ h1.keys, .trans ?_ h1.keeper, .trans ?_ h1.tc, .trans ?_ h1.mem, .trans ?_ h1.disc,
      fun f hf hne => .trans ?_ (h1.regs f hf hne)⟩
    · exact congrArg Roles.keys (view_foldl State.roles (fun s r => view_ite State.roles (raise_roles s _ _ _) rfl) s1 _)
    · exact view_foldl State.keeper (fun s r => view_ite State.keeper (raise_keeper s _ _ _) rfl) s1 _
    · exact view_foldl State.tc (fun s r => view_ite State.tc (raise_tc s _ _ _) rfl) s1 _
    · exact view_foldl State.mem (fun s r => view_ite State.mem (raise_mem s _ _ _) rfl) s1 _
    · exact view_foldl State.disc (fun s r => view_ite State.disc (raise_disc s _ _ _) rfl) s1 _
    · refine view_foldl (fun s => s.get f) (fun s r => view_ite (fun s => s.get f) (get_raise s hf ?_) rfl) s1 _
      rintro p ⟨⟩
      exact hne
  · exact h1

/-- The state once the keeper's contents are judged, before the keys are taken up. -/
def State.judged (s : State) (stopped crcBad : Bool) : State :=
  let bo := s.keeper.brownOut
  let ok := ! (bo || stopped || crcBad)
  let s := s.putB Reg.PWR_STATUS_KEEP_VALID ok
  let s := { s with keeper := { s.keeper with brownOut := false } }
  let s := if bo then { s with log := { s.log with keeper := [], nextSeq := 0 } }.setVar .keepLost 1 else s
  if ok then s else s.keeperLost.raise (evPwr 2 .warning) [i1 (b2n bo), i1 (b2n stopped), i1 (b2n crcBad)]

theorem execKeeperCheck_eq (s : State) (stopped crcBad sealedBad : Bool) :
    execKeeperCheck stopped crcBad sealedBad s = .next (if s.starting 0 = false then s else
      (((((s.judged stopped crcBad).takeKeys (s.keeper.brownOut || crcBad) sealedBad).domainOn 0).domainOn 1).setPhase 1)) := by
  unfold execKeeperCheck
  cases s.starting 0
  · rfl
  · rfl

/-- What the judgement of the keeper's contents leaves: with them lost or the RTC stopped, no models and the event. -/
structure Judged (bad : Bool) (s t : State) : Prop where
  keeper : t.keeper = { s.keeper with brownOut := false }
  roles  : t.roles = s.roles
  tc     : t.tc = s.tc
  mem    : t.mem = s.mem
  valid  : t.get Reg.PWR_STATUS_KEEP_VALID = if bad = true then 0 else 1
  disc   : t.disc = if bad = true then ⟨{}, []⟩ else s.disc
  sticky : bad = true → t.fbit Reg.PWR_STICKY_STICKY 2 = true

theorem judged_judged (s : State) (stopped crcBad : Bool) :
    Judged (s.keeper.brownOut || stopped || crcBad) s (s.judged stopped crcBad) := by
  unfold State.judged
  extract_lets bo ok s1 keeper s2 log s3
  have h3 : s3.keeper = { s.keeper with brownOut := false } ∧ s3.roles = s.roles ∧ s3.tc = s.tc ∧ s3.mem = s.mem ∧
      s3.get Reg.PWR_STATUS_KEEP_VALID = b2n ok ∧ s3.disc = s.disc := by
    have hvalid : s2.get Reg.PWR_STATUS_KEEP_VALID = b2n ok :=
      (State.get_put_same s _ _).trans (Nat.mod_eq_of_lt (b2n_lt ok))
    unfold s3
    cases bo
    · exact ⟨rfl, rfl, rfl, rfl, hvalid, rfl⟩
    · exact ⟨rfl, rfl, rfl, rfl, hvalid, rfl⟩
  clear_value s3
  obtain ⟨hkeeper, hroles, htc, hmem, hvalid, hdisc⟩ := h3
  have hok : ok = ! (s.keeper.brownOut || stopped || crcBad) := rfl
  generalize (s.keeper.brownOut || stopped || crcBad) = bad at hok ⊢
  clear_value ok
  subst hok
  cases bad with
  | false => exact ⟨hkeeper, hroles, htc, hmem, hvalid, hdisc, fun h => nomatch h⟩
  | true =>
    have hlost : s3.keeperLost.get Reg.PWR_STATUS_KEEP_VALID = 0 := by
      refine (get_filter_regs (fun k => ! isKept k) s3 Reg.PWR_STATUS_KEEP_VALID).trans ?_
      rw [hvalid]
      exact ite_self 0
    rw [if_neg (show ¬ (! true) = true by decide)]
    refine ⟨(raise_keeper _ _ _ _).trans hkeeper, (raise_roles _ _ _ _).trans hroles, (raise_tc _ _ _ _).trans htc,
      (raise_mem _ _ _ _).trans hmem, (get_raise _ (by decide) ?_).trans hlost, raise_disc _ _ _ _,
      fun _ => fbit_raise _ rfl (by decide) (by decide)⟩
    rintro p ⟨⟩
    decide

/-- The domains' power up in the keeper's check leaves the units of both present. -/
theorem domainsOn_units (s : State) {a b : Nat} (ha : a ≠ 7) (hb : b ≠ 7) :
    ∀ h ∈ domainUnits a ++ domainUnits b, (((s.domainOn a).domainOn b).unit h).st ≠ .absent := by
  intro h hh
  rcases List.mem_append.1 hh with hh | hh
  · have hup := (domainOn_units s ha).1 h hh
    rwa [(domainOn_units (s.domainOn a) hb).2 h hup]
  · exact (domainOn_units (s.domainOn a) hb).1 h hh

theorem keeperCheck_spec (s : State) (stopped crcBad sealedBad : Bool) : ∃ t, execKeeperCheck stopped crcBad sealedBad s = .next t ∧
    if s.starting 0 = false then t = s
    else
      let lost := s.keeper.brownOut || crcBad
      t.phase = 1 ∧ t.keeper.brownOut = false ∧ t.get Reg.PWR_STATUS_KEEP_VALID = (if lost = true ∨ stopped = true then 0 else 1) ∧
      t.roles.keys = (if lost = false then s.keeper.keys else if sealedBad then [] else s.roles.sealed) ∧
      (∀ h ∈ domainUnits 0 ++ domainUnits 1, (t.unit h).st ≠ .absent) ∧ t.mem = s.mem ∧ t.tc = s.tc ∧
      if lost = true ∨ stopped = true then t.disc = ⟨{}, []⟩ ∧ t.fbit Reg.PWR_STICKY_STICKY 2 = true else t.disc = s.disc := by
  refine ⟨_, execKeeperCheck_eq s stopped crcBad sealedBad, ?_⟩
  by_cases hst : s.starting 0 = false
  · rw [if_pos hst, if_pos hst]
  rw [if_neg hst, if_neg hst]
  intro lost
  have hbad : (s.keeper.brownOut || stopped || crcBad) = true ↔ lost = true ∨ stopped = true := by
    unfold lost
    simp only [Bool.or_eq_true]
    tauto
  have j := judged_judged s stopped crcBad
  have k := takeKeys_taken (s.judged stopped crcBad) lost sealedBad
  rw [j.keeper, j.roles] at k
  generalize s.judged stopped crcBad = w at j k ⊢
  generalize w.takeKeys lost sealedBad = u at k ⊢
  have r := (domainOn_raised u (d := 0) (by decide)).trans (domainOn_raised (u.domainOn 0) (d := 1) (by decide))
  have hu := domainsOn_units u (a := 0) (b := 1) (by decide) (by decide)
  generalize (u.domainOn 0).domainOn 1 = v at r hu ⊢
  have q := setPhase_quiet v 1
  have hget : ∀ f : Fld, f.key ∉ bookkeeping → f.key ∉ [Reg.PWR_STATUS_PHASE.key, Reg.PWR_STATUS_ON.key, Reg.ROLE_STICKY_STICKY.key] →
      (v.setPhase 1).get f = w.get f := by
    intro f hf hne
    simp only [List.mem_cons, List.not_mem_nil, or_false, not_or] at hne
    obtain ⟨hphase, hon, hrole⟩ := hne
    exact (get_setPhase v 1 hf hphase).trans ((r.regs f hf hon).trans (k.regs f hf hrole))
  have hbrown : (v.setPhase 1).keeper.brownOut = false := by
    rw [q.keeper]
    show v.keeper.brownOut = false
    rw [r.keeper, k.keeper]
    exact congrArg Keeper.brownOut j.keeper
  have hkeys : (v.setPhase 1).roles.keys = if lost = false then s.keeper.keys else if sealedBad then [] else s.roles.sealed := by
    rw [q.roles]
    exact (congrArg Roles.keys r.roles).trans k.keys
  have hdisc : (v.setPhase 1).disc = w.disc := q.disc.trans (r.disc.trans k.disc)
  refine ⟨setPhase_phase v (by decide), hbrown, ?_, hkeys, fun h hh => ?_, q.mem.trans (r.mem.trans (k.mem.trans j.mem)),
    q.tc.trans (r.tc.trans (k.tc.trans j.tc)), ?_⟩
  · rw [hget _ (by decide) (by decide), j.valid]
    simp only [hbad]
  · rw [State.unit, q.units]
    exact hu h hh
  · rw [hdisc, j.disc, State.fbit, hget _ (by decide) (by decide)]
    split
    · next hlost => exact ⟨if_pos (hbad.2 hlost), j.sticky (hbad.2 hlost)⟩
    · next hlost => exact if_neg (mt hbad.1 hlost)

end

end Sys2Proof.Machine
end

section
/-! PROOFS. TCLK's lock and the boot image (R343, R346, R362, R457, R458). -/

namespace Sys2Proof.Machine

section

variable (s : State)

/-! ## TCLK -/

theorem tclkPllLock_spec : ∃ t, execTclkPllLock s = .next t ∧
    if s.starting 1 = true then t.phase = 2 ∧ t.get Reg.PWR_STATUS_OSC_MISSING = 0 ∧ t.tc = s.tc else t = s := by
  refine ⟨_, rfl, ?_⟩
  split
  · refine ⟨setPhase_phase _ (by decide), ?_, (setPhase_quiet _ 2).tc⟩
    exact (get_setPhase _ 2 (by decide) (by decide)).trans (State.get_put_same _ _ _)
  · rfl

theorem oscMissing_spec (secs : Nat) : ∃ t, execOscMissing secs s = .next t ∧
    if s.starting 1 = true ∧ 10 ≤ secs
    then t.phase = 1 ∧ t.get Reg.PWR_STATUS_OSC_MISSING = 1 ∧ t.fbit Reg.PWR_STICKY_STICKY 6 = true ∧ t.tc = s.tc
    else t = s := by
  refine ⟨_, rfl, ?_⟩
  split
  · next h =>
    have hget : ∀ f : Fld, f.key ∉ bookkeeping → f.key ≠ Reg.PWR_STICKY_STICKY.key →
        ((s.put Reg.PWR_STATUS_OSC_MISSING 1).raise (evPwr 6 .critical) [i4 secs]).get f = (s.put Reg.PWR_STATUS_OSC_MISSING 1).get f := by
      intro f hf hne
      refine get_raise _ hf ?_
      rintro p ⟨⟩
      exact hne
    obtain ⟨hphase, -⟩ : s.phase = 1 ∧ (! s.packageBad) = true := by simpa [State.starting] using h.1
    refine ⟨?_, (hget _ (by decide) (by decide)).trans (State.get_put_same _ _ _), fbit_raise _ rfl (by decide) (by decide), raise_tc _ _ _ _⟩
    exact (hget _ (by decide) (by decide)).trans ((State.get_put_ne _ _ (by decide)).trans hphase)
  · rfl

/-! ## The boot image -/

/-- The registers of a boot image and the phase, past what its start does with the fence and the role. -/
theorem setRole_frame (r : Nat) : (∀ f : Fld, f.key ∉ bookkeeping → f.key ≠ Reg.TWN_STATUS_ROLE.key → (s.setRole r).get f = s.get f) ∧
    (r < 8 → (s.setRole r).get Reg.TWN_STATUS_ROLE = r) := by
  unfold State.setRole
  extract_lets old
  split
  · next h => exact ⟨fun _ _ _ => rfl, fun _ => h⟩
  · have hget : ∀ (u : State) (items : List Item) {f : Fld}, f.key ∉ bookkeeping → (u.raise evRoleChange items).get f = u.get f :=
      fun u items f hf => (raise_quiet u evRoleChange items 0).regs f hf
    refine ⟨fun f hf hne => (hget _ _ hf).trans (State.get_put_ne _ _ hne), fun hr => ?_⟩
    exact (hget _ _ (by decide)).trans ((State.get_put_same _ _ _).trans (Nat.mod_eq_of_lt hr))

/-- An image that runs from a slot, past what its start does with the fence and the role (R331, R343, R346, R457). -/
structure Boots (slot version : Nat) (s t : State) : Prop where
  phase  : t.phase = 3
  slot   : t.get Reg.PWR_STATUS_FW_SLOT = slot
  ver    : t.get Reg.FW_VERSION_VERSION = version
  twin   : if s.get Reg.TWN_CTRL_TWIN_EN = 0 then t.get Reg.TWN_STATUS_ROLE = 0 ∧ t.get Reg.TWN_STATUS_CLAIMING = 1
    else t.timer .listen = some (s.runNs + s.get Reg.TWN_CTRL_LISTEN * lapNs)

theorem booted_boots {slot version : Nat} (hs : slot < 2) (hv : version < 2 ^ 32) : Boots slot version s (s.booted slot version) ∧
    (s.booted slot version).get Reg.PWR_STICKY_STICKY = s.get Reg.PWR_STICKY_STICKY := by
  unfold State.booted
  extract_lets s1 s2
  have hphase : s2.phase = 3 := setPhase_phase s1 (by decide)
  have hslot : s2.get Reg.PWR_STATUS_FW_SLOT = slot :=
    (get_setPhase s1 3 (by decide) (by decide)).trans
      ((State.get_put_ne _ _ (by decide)).trans ((State.get_put_same _ _ _).trans (Nat.mod_eq_of_lt hs)))
  have hver : s2.get Reg.FW_VERSION_VERSION = version :=
    (get_setPhase s1 3 (by decide) (by decide)).trans ((State.get_put_same _ _ _).trans (Nat.mod_eq_of_lt hv))
  have hget : ∀ f : Fld, f.key ∉ bookkeeping →
      f.key ∉ [Reg.PWR_STATUS_PHASE.key, Reg.PWR_STATUS_FW_SLOT.key, Reg.FW_VERSION_VERSION.key] → s2.get f = s.get f := by
    intro f hf hne
    simp only [List.mem_cons, List.not_mem_nil, or_false, not_or] at hne
    obtain ⟨hp, hs, hv⟩ := hne
    exact (get_setPhase s1 3 hf hp).trans ((State.get_put_ne _ _ hv).trans (State.get_put_ne _ _ hs))
  have hen := hget Reg.TWN_CTRL_TWIN_EN (by decide) (by decide)
  have htc : s2.tc = s.tc := (setPhase_quiet s1 3).tc
  split
  · next h0 =>
    obtain ⟨hrole, hzero⟩ := setRole_frame (s2.driveFence true) 0
    have hkeep : ∀ f : Fld, f.key ∉ bookkeeping → f.key ≠ Reg.TWN_STATUS_ROLE.key → f.key ≠ Reg.TWN_STATUS_CLAIMING.key →
        ((s2.driveFence true).setRole 0).get f = s2.get f :=
      fun f hf hr hc => (hrole f hf hr).trans (State.get_put_ne s2 _ hc)
    refine ⟨⟨(hkeep _ (by decide) (by decide) (by decide)).trans hphase, (hkeep _ (by decide) (by decide) (by decide)).trans hslot,
      (hkeep _ (by decide) (by decide) (by decide)).trans hver, ?_⟩,
      (hkeep _ (by decide) (by decide) (by decide)).trans (hget _ (by decide) (by decide))⟩
    rw [if_pos (hen ▸ h0)]
    exact ⟨hzero (by decide), (hrole _ (by decide) (by decide)).trans (State.get_put_same s2 Reg.TWN_STATUS_CLAIMING _)⟩
  · next h0 =>
    refine ⟨⟨hphase, hslot, hver, ?_⟩, hget _ (by decide) (by decide)⟩
    rw [if_neg (hen ▸ h0), State.timer_arm_same, State.runNs, htc, hget _ (by decide) (by decide)]
    rfl

/-- The log's entries of the run before go to LOG_PREV, and no register beyond the bookkeeping changes (R422). -/
theorem keepPrev_spec : (∀ f : Fld, f.key ∉ bookkeeping → s.keepPrev.get f = s.get f) ∧ s.keepPrev.log.prev = s.log.keeper ∧
    s.keepPrev.tc = s.tc := by
  unfold State.keepPrev
  extract_lets prev lost log s1 s2
  have hraise : ∀ items, (∀ f : Fld, f.key ∉ bookkeeping → (s1.raise evLogPrev items).get f = s.get f) ∧
      (s1.raise evLogPrev items).log.prev = s.log.keeper ∧ (s1.raise evLogPrev items).tc = s.tc := by
    intro items
    have hheld := held_raise s1 evLogPrev items 0
    exact ⟨(raise_quiet s1 evLogPrev items 0).regs, congrArg (fun h => h.2.2.2) hheld, congrArg (fun h => h.2.1) hheld⟩
  have h2 : (∀ f : Fld, f.key ∉ bookkeeping → s2.get f = s.get f) ∧ s2.log.prev = s.log.keeper ∧ s2.tc = s.tc := by
    unfold s2
    cases lost
    · exact hraise _
    · exact ⟨fun _ _ => rfl, rfl, rfl⟩
  exact h2

theorem keepPrev_get {f : Fld} (hf : f.key ∉ bookkeeping) : s.keepPrev.get f = s.get f := (keepPrev_spec s).1 f hf

/-- RECOVERY (R457, R458). -/
theorem recovery_spec (causeA causeB : Nat) :
    (s.recovery causeA causeB).phase = 8 ∧ (s.recovery causeA causeB).get Reg.HIF_STATUS_STATE = 1 ∧
      (s.recovery causeA causeB).fbit Reg.PWR_STICKY_STICKY 1 = true := by
  unfold State.recovery
  extract_lets s1 s2
  have h1 : s1.phase = 8 := setPhase_phase _ (by decide)
  have h1s : s1.fbit Reg.PWR_STICKY_STICKY 1 = true := by
    rw [State.fbit, get_setPhase _ 8 (by decide) (by decide)]
    exact fbit_raise s rfl (by decide) (by decide)
  clear_value s1
  have r := ((domainOn_raised s1 (d := 8) (by decide)).trans (domainOn_raised _ (d := 13) (by decide))).trans
    (domainOn_raised ((s1.domainOn 8).domainOn 13) (d := 11) (by decide))
  have hget : ∀ f : Fld, f.key ∉ bookkeeping → f.key ∉ [Reg.PWR_STATUS_ON.key, Reg.FAB_STATUS_DCB_TRAINED.key, Reg.HIF_STATUS_STATE.key] →
      (s2.put Reg.HIF_STATUS_STATE 1).keepPrev.get f = s1.get f := by
    intro f hf hne
    simp only [List.mem_cons, List.not_mem_nil, or_false, not_or] at hne
    obtain ⟨hon, hdcb, hhif⟩ := hne
    exact (keepPrev_get _ hf).trans ((State.get_put_ne _ _ hhif).trans ((State.get_put_ne _ _ hdcb).trans (r.regs f hf hon)))
  refine ⟨(hget _ (by decide) (by decide)).trans h1, (keepPrev_get _ (by decide)).trans (State.get_put_same _ _ _), ?_⟩
  rw [State.fbit, hget _ (by decide) (by decide)]
  exact h1s

/-- The preferred slot's image, then the other's, then RECOVERY (R457, R458). -/
theorem booted_or_recovery (ca cb : Nat) {p first second : Nat} {ver : Nat → Nat} (hp : p < 2) (hver : ∀ n, ver n < 2 ^ 32) :
    let t := if first = 0 then s.booted p (ver p)
      else if second = 0 then (s.raise (evPwr 0 .warning) [i1 (1 - p), i1 first]).booted (1 - p) (ver (1 - p))
      else s.recovery ca cb
    (first = 0 → Boots p (ver p) s t) ∧
      (first ≠ 0 → second = 0 → Boots (1 - p) (ver (1 - p)) s t ∧ t.fbit Reg.PWR_STICKY_STICKY 0 = true) ∧
      (first ≠ 0 → second ≠ 0 → t.phase = 8 ∧ t.get Reg.HIF_STATUS_STATE = 1 ∧ t.fbit Reg.PWR_STICKY_STICKY 1 = true) := by
  intro t
  refine ⟨fun h1 => ?_, fun h1 h2 => ?_, fun h1 h2 => ?_⟩
  · have ht : t = s.booted p (ver p) := if_pos h1
    rw [ht]
    exact (booted_boots s hp (hver p)).1
  · have ht : t = (s.raise (evPwr 0 .warning) [i1 (1 - p), i1 first]).booted (1 - p) (ver (1 - p)) := (if_neg h1).trans (if_pos h2)
    rw [ht]
    have hget : ∀ f : Fld, f.key ∉ bookkeeping → f.key ≠ Reg.PWR_STICKY_STICKY.key →
        (s.raise (evPwr 0 .warning) [i1 (1 - p), i1 first]).get f = s.get f := by
      intro f hf hne
      refine get_raise _ hf ?_
      rintro q ⟨⟩
      exact hne
    have hbit : (s.raise (evPwr 0 .warning) [i1 (1 - p), i1 first]).fbit Reg.PWR_STICKY_STICKY 0 = true := fbit_raise s rfl (by decide) (by decide)
    have hen := hget Reg.TWN_CTRL_TWIN_EN (by decide) (by decide)
    have hlisten := hget Reg.TWN_CTRL_LISTEN (by decide) (by decide)
    have hns : (s.raise (evPwr 0 .warning) [i1 (1 - p), i1 first]).runNs = s.runNs := by rw [State.runNs, raise_tc]; rfl
    generalize s.raise (evPwr 0 .warning) [i1 (1 - p), i1 first] = u at hbit hen hlisten hns ⊢
    obtain ⟨⟨hphase, hslot, hv, htwin⟩, hsticky⟩ := booted_boots u (slot := 1 - p) (by omega) (hver (1 - p))
    rw [hen, hlisten, hns] at htwin
    refine ⟨⟨hphase, hslot, hv, htwin⟩, ?_⟩
    rw [State.fbit, hsticky]
    exact hbit
  · have ht : t = s.recovery ca cb := (if_neg h1).trans (if_neg h2)
    rw [ht]
    exact recovery_spec s ca cb

theorem fwBoot_spec (a b va vb : Nat) (hp : s.boot.preferred < 2) (hva : va < 2 ^ 32) (hvb : vb < 2 ^ 32) :
    ∃ t, execFwBoot a b va vb s = .next t ∧
      let p := s.boot.preferred
      let good (slot : Nat) : Prop := (if slot = 0 then a else b) = 0
      let runs (slot : Nat) : Prop := t.phase = 3 ∧ t.get Reg.PWR_STATUS_FW_SLOT = slot ∧
        t.get Reg.FW_VERSION_VERSION = (if slot = 0 then va else vb) ∧
        if s.get Reg.TWN_CTRL_TWIN_EN = 0 then t.get Reg.TWN_STATUS_ROLE = 0 ∧ t.get Reg.TWN_STATUS_CLAIMING = 1
        else t.timer .listen = some (s.runNs + s.get Reg.TWN_CTRL_LISTEN * lapNs)
      if s.starting 2 = false then t = s
      else (good p → runs p) ∧ (¬ good p → good (1 - p) → runs (1 - p) ∧ t.fbit Reg.PWR_STICKY_STICKY 0 = true) ∧
        (¬ good p → ¬ good (1 - p) → t.phase = 8 ∧ t.get Reg.HIF_STATUS_STATE = 1 ∧ t.fbit Reg.PWR_STICKY_STICKY 1 = true) := by
  refine ⟨_, rfl, ?_⟩
  intro p good runs
  unfold good runs
  by_cases hst : s.starting 2 = false
  · rw [if_pos hst]
    exact if_pos (by simp [hst])
  have hstart : s.starting 2 = true := eq_true_of_ne_false hst
  rw [if_neg hst]
  simp only [hstart, not_true_eq_false, if_false]
  have hswap : (if 1 - p = 0 then a else b) = if p = 0 then b else a := by
    change p < 2 at hp
    by_cases h : p = 0
    · rw [if_pos h, if_neg (by omega)]
    · rw [if_neg h, if_pos (by omega)]
  have hver : ∀ n, (if n = 0 then va else vb) < 2 ^ 32 := fun n => by
    split
    · exact hva
    · exact hvb
  rw [hswap]
  obtain ⟨hfirst, hsecond, hnone⟩ := booted_or_recovery s a b (first := if p = 0 then a else b) (second := if p = 0 then b else a) hp hver
  refine ⟨fun h => ?_, fun h1 h2 => ?_, hnone⟩
  · obtain ⟨hphase, hslot, hv, htwin⟩ := hfirst h
    exact ⟨hphase, hslot, hv, htwin⟩
  · obtain ⟨⟨hphase, hslot, hv, htwin⟩, hbit⟩ := hsecond h1 h2
    exact ⟨⟨hphase, hslot, hv, htwin⟩, hbit⟩

end

end Sys2Proof.Machine
end

section
/-! PROOFS. The time recovered from the keeper and the RTC (R459), the Track die and the Field die up, and start-up phase by phase (R457). -/

namespace Sys2Proof.Machine

section

/-! ## The time recovered -/

/-- The time, the RTC's count and the host's memory. -/
def State.restored (s : State) : Nat × Int × AMap Nat Byte := (s.tc.time, s.var .rtcCount, s.mem)

variable (s : State)

theorem restored_setVar {v : Var} (x : Int) (h : v ≠ .rtcCount) : (s.setVar v x).restored = s.restored := by
  have hv : (s.setVar v x).var .rtcCount = s.var .rtcCount := State.var_setVar_ne s x h.symm
  exact congrArg (fun n => (s.tc.time, n, s.mem)) hv

theorem restored_put (f : Fld) (v : Nat) : (s.put f v).restored = s.restored := rfl

theorem restored_setTime (now : Nat) :
    State.restored { s with tc := { s.tc with time := now, prev := now } } = (now, s.var .rtcCount, s.mem) := rfl

theorem restored_raise (e : Ev) (items : List Item) (role : Nat) : (s.raise e items role).restored = s.restored := by
  rw [State.restored, raise_tc, raise_mem, var_raise s (by decide)]
  rfl

theorem restored_takeTrace (t : Nat) : (s.takeTrace t).restored = s.restored :=
  view_ite State.restored ((restored_setVar _ _ (by decide)).trans (restored_setVar s _ (by decide))) rfl

theorem restored_anchor (t0 teb0 : Nat) (src uy : Option Nat) : (s.anchor t0 teb0 src uy).restored = s.restored := by
  unfold State.anchor
  extract_lets par u s1 s2 s3
  exact restored_setVar s2 _ (by decide)

theorem restored_noteFreq : s.noteFreq.restored = s.restored :=
  (restored_setVar _ _ (by decide)).trans (restored_setVar s _ (by decide))

theorem restored_discRate (old new : Nat) : (s.discRate old new).restored = s.restored := by
  have hrate : ∀ x, (s.setRate x).restored = s.restored := by
    intro x
    unfold State.setRate
    extract_lets y tc s1
    exact view_ite State.restored (s := s) rfl (restored_raise s1 _ _ _)
  unfold State.discRate
  extract_lets model s1 tc
  have h1 : s1.restored = s.restored := view_ite State.restored rfl (view_ite State.restored (hrate _) (view_ite State.restored (hrate _) rfl))
  exact h1

theorem restored_publishTeb (x : Nat) : (s.publishTeb x).restored = s.restored := by
  have hvalid : ∀ s : State, s.showValid.restored = s.restored := by
    intro s
    unfold State.showValid
    extract_lets first s1
    exact view_ite State.restored (s := s) (restored_raise s1 _ _ _) rfl
  have hshow : ∀ s : State, s.showDisc.restored = s.restored := by
    intro s
    unfold State.showDisc
    extract_lets s1 s2 s3
    exact hvalid s2
  unfold State.publishTeb
  extract_lets s1
  have h1 : s1.restored = s.restored := hshow _
  exact view_ite State.restored ((restored_raise _ _ _ _).trans h1) h1

theorem restored_discEvents (old new : Nat) : (s.discEvents old new).restored = s.restored := by
  unfold State.discEvents
  extract_lets s1 s2 s3
  have h1 : s1.restored = s.restored := restored_raise _ _ _ _
  have h2 : s2.restored = s.restored := view_ite State.restored ((restored_raise _ _ _ _).trans h1) h1
  have h3 : s3.restored = s.restored := view_ite State.restored ((restored_raise _ _ _ _).trans h2) h2
  exact view_ite State.restored rfl (view_ite State.restored ((restored_raise _ _ _ _).trans h3) h3)

theorem resumeLeap_spec : s.resumeLeap.restored = s.restored ∧ s.resumeLeap.get Reg.RTC_CFG_RTC_CLASS = s.get Reg.RTC_CFG_RTC_CLASS := by
  unfold State.resumeLeap
  extract_lets size
  split
  · exact ⟨rfl, rfl⟩
  · exact ⟨restored_setVar _ _ (by decide), (State.get_put_ne _ _ (by decide)).trans (State.get_put_ne _ _ (by decide))⟩

theorem tebSat_mod (x : Nat) : tebSat x % 2 ^ 32 = tebSat x := Nat.mod_eq_of_lt (by unfold tebSat; omega)

theorem restored_startCounts : s.startCounts.restored = s.restored :=
  (restored_setVar (s.setVar .lapNo (s.ns / lapNs)) (v := .dumpLast) (s.linear / 1000000 : Nat) (by decide)).trans
    (restored_setVar s _ (by decide))

theorem get_startCounts (f : Fld) : s.startCounts.get f = s.get f := rfl

theorem timeRecovery_started (rtc : Nat) (h : s.starting 3 = true) : ∃ t, execTimeRecovery rtc s = .next t ∧
    let cnt := (rtc + 2 ^ 48 - s.keeper.rtc % 2 ^ 48) % 2 ^ 48
    let foff := s.getI Reg.RTC_FOFF_FOFF
    t.phase = 4 ∧ t.var .rtcCount = (rtc % 2 ^ 48 : Nat) ∧ t.mem = s.mem ∧
    if s.get Reg.PWR_STATUS_KEEP_VALID = 1
    then t.tc.time = (s.keeper.time16 + recovery16 cnt foff) * 2 ^ 36 % timeMod ∧ t.get Reg.RECOV_DT_SECONDS = recoverySecs cnt foff % 2 ^ 32 ∧
      t.get Reg.RECOV_TEB0_TEB0 = tebSat (s.keeper.teb + recoveryTeb (rtcPpm (s.get Reg.RTC_CFG_RTC_CLASS)) cnt foff + 15625000) % 2 ^ 32
    else t.tc.time = 0 ∧ t.get Reg.RECOV_DT_SECONDS = 0 ∧ t.get Reg.RECOV_TEB0_TEB0 = 2 ^ 32 - 1 := by
  unfold execTimeRecovery
  rw [if_neg (not_not_intro h)]
  extract_lets ok k cnt foff s1 now tc s2 sum teb0 s3 s4 s5 st old s6 dt s7
  have h2 : s2.restored = (now, ((rtc % 2 ^ 48 : Nat) : Int), s.mem) := by
    refine (resumeLeap_spec _).1.trans ?_
    have hvar : s1.var .rtcCount = ((rtc % 2 ^ 48 : Nat) : Int) := State.var_setVar_same s _ _
    rw [restored_setTime, hvar]
    rfl
  have hcls : s2.get Reg.RTC_CFG_RTC_CLASS = s.get Reg.RTC_CFG_RTC_CLASS := (resumeLeap_spec _).2
  have h3 : s3.restored = s2.restored := rfl
  clear_value s2 s3
  have h4 : s4.restored = s3.restored := by
    unfold s4
    split
    · exact restored_takeTrace s3 k.trace
    · rfl
  clear_value s4
  have h5 : s5.restored = s4.restored := (restored_put _ Reg.HOB_STATUS_ANCHORED 1).trans <| (restored_noteFreq _).trans (restored_anchor s4 _ _ _ _)
  clear_value s5
  have h6 : s6.restored = s5.restored :=
    (restored_discEvents _ _ _).trans ((restored_publishTeb _ _).trans ((restored_discRate _ 5 st).trans (restored_put s5 Reg.HOB_STATUS_STATE st)))
  clear_value s6
  have h7 : s7.startCounts.restored = s6.restored :=
    (restored_startCounts s7).trans ((restored_put _ Reg.RECOV_TEB0_TEB0 teb0).trans (restored_put s6 Reg.RECOV_DT_SECONDS dt))
  have hdt : s7.get Reg.RECOV_DT_SECONDS = dt % 2 ^ 32 := (State.get_put_ne _ teb0 (by decide)).trans (State.get_put_same s6 Reg.RECOV_DT_SECONDS dt)
  have hteb : s7.get Reg.RECOV_TEB0_TEB0 = teb0 % 2 ^ 32 := State.get_put_same _ Reg.RECOV_TEB0_TEB0 teb0
  rw [← get_startCounts] at hdt hteb
  generalize s7.startCounts = u at h7 hdt hteb
  refine ⟨_, rfl, ?_⟩
  have hget : ∀ f : Fld, f.key ∉ bookkeeping → f.key ≠ Reg.PWR_STATUS_PHASE.key → f.key ≠ Reg.PWR_STICKY_STICKY.key →
      ((u.raise (evPwr 3 .info) [i4 dt, i4 teb0]).setPhase 4).get f = u.get f := by
    intro f hf hp hs
    refine (get_setPhase _ 4 hf hp).trans (get_raise u hf ?_)
    rintro p ⟨⟩
    exact hs
  have hall : ((u.raise (evPwr 3 .info) [i4 dt, i4 teb0]).setPhase 4).restored = (now, ((rtc % 2 ^ 48 : Nat) : Int), s.mem) :=
    (restored_raise _ _ _ _).trans ((restored_raise u (evPwr 3 .info) [i4 dt, i4 teb0] 0).trans <|
      (h7.trans (h6.trans (h5.trans (h4.trans (h3.trans h2))))))
  have hdt' := (hget _ (by decide) (by decide) (by decide)).trans hdt
  have hteb' := (hget _ (by decide) (by decide) (by decide)).trans (hteb.trans (tebSat_mod sum))
  have hphase : ((u.raise (evPwr 3 .info) [i4 dt, i4 teb0]).setPhase 4).phase = 4 := setPhase_phase _ (by decide)
  generalize (u.raise (evPwr 3 .info) [i4 dt, i4 teb0]).setPhase 4 = t at hdt' hteb' hphase hall ⊢
  have htime : t.tc.time = now := congrArg Prod.fst hall
  refine ⟨hphase, congrArg (fun r => r.2.1) hall, congrArg (fun r => r.2.2) hall, ?_⟩
  rw [htime, hdt', hteb']
  by_cases hok : s.get Reg.PWR_STATUS_KEEP_VALID = 1
  · have hok' : ok = true := decide_eq_true hok
    rw [if_pos hok]
    simp only [now, dt, sum, cnt, hok', if_true, hcls]
    exact ⟨rfl, rfl, (tebSat_mod _).symm⟩
  · have hok' : ok = false := decide_eq_false hok
    rw [if_neg hok]
    simp only [now, dt, sum, hok', Bool.false_eq_true, if_false]
    decide

theorem timeRecovery_spec (rtc : Nat) : ∃ t, execTimeRecovery rtc s = .next t ∧
    if s.starting 3 = false then t = s
    else
      let cnt := (rtc + 2 ^ 48 - s.keeper.rtc % 2 ^ 48) % 2 ^ 48
      let foff := s.getI Reg.RTC_FOFF_FOFF
      t.phase = 4 ∧ t.var .rtcCount = (rtc % 2 ^ 48 : Nat) ∧ t.mem = s.mem ∧
      if s.get Reg.PWR_STATUS_KEEP_VALID = 1
      then t.tc.time = (s.keeper.time16 + recovery16 cnt foff) * 2 ^ 36 % timeMod ∧ t.get Reg.RECOV_DT_SECONDS = recoverySecs cnt foff % 2 ^ 32 ∧
        t.get Reg.RECOV_TEB0_TEB0 = tebSat (s.keeper.teb + recoveryTeb (rtcPpm (s.get Reg.RTC_CFG_RTC_CLASS)) cnt foff + 15625000) % 2 ^ 32
      else t.tc.time = 0 ∧ t.get Reg.RECOV_DT_SECONDS = 0 ∧ t.get Reg.RECOV_TEB0_TEB0 = 2 ^ 32 - 1 := by
  by_cases hst : s.starting 3 = false
  · exact ⟨s, congrArg Host.Outcome.next (if_pos (by rw [hst]; decide)), by rw [if_pos hst]⟩
  · obtain ⟨t, ht, hspec⟩ := timeRecovery_started s rtc (eq_true_of_ne_false hst)
    exact ⟨t, ht, by rwa [if_neg hst]⟩

/-! ## The Track die and the Field die up -/

theorem trackUp_spec : ∃ t, execTrackUp s = .next t ∧
    if s.starting 4 = true ∧ ([2, 3, 4, 5, 6, 7].all s.powered) = true ∧ s.synSt 2 = 3 ∧ s.synSt 3 = 3
    then ∃ u, Quiet (s.put Reg.PWR_STATUS_PHASE 5) u ∧ t = u.gnssStart else t = s := by
  refine ⟨_, rfl, ?_⟩
  split
  · exact ⟨s.setPhase 5, setPhase_quiet s 5, rfl⟩
  · rfl

theorem fieldUp_spec : ∃ t, execFieldUp s = .next t ∧
    if s.starting 5 = true ∧ ([8, 9, 10, 11, 12, 13].all s.powered) = true
    then t.phase = 6 ∧ t.get Reg.HIF_STATUS_STATE = 1 ∧ t.get Reg.FAB_STATUS_DCB_TRAINED = 1 ∧ t.log.prev = s.log.keeper ∧ t.tc = s.tc
    else t = s := by
  refine ⟨_, rfl, ?_⟩
  split
  · obtain ⟨hget, hprev, htc⟩ := keepPrev_spec ((s.put Reg.FAB_STATUS_DCB_TRAINED 1).put Reg.HIF_STATUS_STATE 1)
    generalize ((s.put Reg.FAB_STATUS_DCB_TRAINED 1).put Reg.HIF_STATUS_STATE 1).keepPrev = u at hget hprev htc ⊢
    have hheld := held_raise (u.put Reg.PWR_STATUS_PHASE 6) evStartPhase [i1 u.phase, i1 6] 0
    refine ⟨setPhase_phase u (by decide), ?_, ?_, (congrArg (fun h => h.2.2.2) hheld).trans hprev, (setPhase_quiet u 6).tc.trans htc⟩
    · exact (get_setPhase u 6 (by decide) (by decide)).trans ((hget _ (by decide)).trans (State.get_put_same _ _ _))
    · exact (get_setPhase u 6 (by decide) (by decide)).trans
        ((hget _ (by decide)).trans ((State.get_put_ne _ _ (by decide)).trans (State.get_put_same _ _ _)))
  · rfl

end

/-- Settles O51: each phase's step, from the package reset to the Field die's domains. -/
theorem startUp : Obligations.StartUp := by
  intro s
  refine ⟨fun cause => ⟨_, rfl, ?_⟩, keeperCheck_spec s, tclkPllLock_spec s, oscMissing_spec s, fwBoot_spec s, timeRecovery_spec s,
    trackUp_spec s, fieldUp_spec s⟩
  by_cases h : cause < 3
  · rw [if_neg (by omega), if_pos h]
    exact packageReset_spec s h
  · rw [if_pos (by omega)]
    exact if_neg h

end Sys2Proof.Machine
end

section
/-! PROOFS. A unit's fence and the end of its reset (R38, R40, R41, R46, R49): its record, the others', and what is held of it. -/

namespace Sys2Proof.Machine

section

variable {s : State} {hid cause : Nat}

/-! ## The fence -/

/-- A fence puts the unit out, holds its content, and touches no other unit and not the time. -/
theorem fenceUnit_held (by_ : Nat) (h : ¬ ((s.unit hid).st = .absent ∨ (s.unit hid).st = .fenced)) :
    (s.fenceUnit hid cause by_).units = aput s.units hid { s.unit hid with st := .fenced, cause := cause, fencedBy := by_ } ∧
      (s.fenceUnit hid cause by_).tc = s.tc ∧ (s.fenceUnit hid cause by_).pf.frozen = aput s.pf.frozen hid (s.content [] hid).1 := by
  have hc := held_content s [] hid
  unfold State.fenceUnit
  extract_lets u
  rw [if_neg h]
  generalize s.content [] hid = x at hc ⊢
  obtain ⟨ws, v⟩ := x
  have ho := held_unitOut ((v.holdContent hid ws).setUnit hid { u with st := .fenced, cause := cause, fencedBy := by_ }) hid true
  have hunits : v.units = s.units := congrArg (fun h => h.1) hc
  have hfrozen : v.pf.frozen = s.pf.frozen := congrArg (fun h => h.2.2.1) hc
  refine ⟨?_, ?_, ?_⟩
  · exact (congrArg (fun h => h.1) ho).trans (congrArg (fun m => aput m hid _) hunits)
  · exact (congrArg (fun h => h.2.1) ho).trans (congrArg (fun h => h.2.1) hc)
  · exact (congrArg (fun h => h.2.2.1) ho).trans (congrArg (fun m => aput m hid ws) hfrozen)

/-- A unit fenced with its record then touched again, and logged: its record, the others', the time and what is held of it. -/
theorem fenced_unit (r : UnitRec → UnitRec) (e : Ev) (items : List Item)
    (h : ¬ ((s.unit hid).st = .absent ∨ (s.unit hid).st = .fenced)) :
    let f := s.fenceUnit hid cause hid
    let t := ((f.setUnit hid (r (f.unit hid))).raise e items).resetsEnded
    t.unit hid = r { s.unit hid with st := .fenced, cause := cause, fencedBy := hid } ∧
      (∀ h, h ≠ hid → t.unit h = s.unit h) ∧ t.tc = s.tc ∧ aget t.pf.frozen hid = some (s.content [] hid).1 := by
  intro f t
  obtain ⟨hunits, htc, hfrozen⟩ := fenceUnit_held (s := s) (cause := cause) hid h
  have hf : f.unit hid = { s.unit hid with st := .fenced, cause := cause, fencedBy := hid } := by
    rw [State.unit, hunits, aget_aput_same]
    rfl
  have ht : t.held = (f.setUnit hid (r (f.unit hid))).held := (held_resetsEnded _).trans (held_raise _ _ _ _)
  have htu : ∀ h, t.unit h = (f.setUnit hid (r (f.unit hid))).unit h := fun h => by
    rw [State.unit, show t.units = _ from congrArg (fun h => h.1) ht]
    rfl
  refine ⟨?_, fun h hne => ?_, (congrArg (fun h => h.2.1) ht).trans htc, ?_⟩
  · rw [htu, State.unit_setUnit_same, hf]
  · rw [htu, State.unit_setUnit_ne _ _ hne, State.unit, hunits, aget_aput_ne _ _ hne]
    rfl
  · rw [show t.pf.frozen = f.pf.frozen from congrArg (fun h => h.2.2.1) ht, hfrozen, aget_aput_same]

/-! ## A fault detected -/

/-- A fault of a unit that is out already changes nothing (R40). -/
theorem unitFault_out (hcore : isCore hid = false) (h : (s.unit hid).st = .absent ∨ (s.unit hid).st = .fenced) : s.unitFault hid cause = s := by
  unfold State.unitFault
  rw [if_neg (by rw [hcore]; decide), if_pos h]

/-- An ENABLED unit that no reset has just returned is fenced, with its cause and no other unit (R40). -/
theorem unitFault_enabled (hcore : isCore hid = false) (hst : (s.unit hid).st = .enabled) (hreset : (s.unit hid).resetAt = none) :
    (s.unitFault hid cause).unit hid = ⟨.fenced, cause, 0, none, hid⟩ ∧ (∀ h, h ≠ hid → (s.unitFault hid cause).unit h = s.unit h) ∧
      (s.unitFault hid cause).tc = s.tc := by
  have hin : ¬ ((s.unit hid).st = .absent ∨ (s.unit hid).st = .fenced) := by
    rw [hst]
    rintro (h | h)
    · cases h
    · cases h
  obtain ⟨hunit, hother, htc, -⟩ := fenced_unit (cause := cause) (fun r => { r with repeats := 0, resetAt := none }) (evUnit 0x01 hid .error)
    [i2 hid, i1 cause] hin
  unfold State.unitFault
  rw [if_neg (by rw [hcore]; decide), if_neg hin]
  simp only [hreset, Bool.false_eq_true, if_false]
  exact ⟨hunit, hother, htc⟩

/-- The crypto's 12 units of a cluster are no units of R42. -/
theorem crypto_unit (hlo : 0xA000 ≤ hid) (hhi : hid < 0xA00C) : allUnits.contains hid = true ∧ isCore hid = false := by
  have hall : ∀ k < 12, allUnits.contains (0xA000 + k) = true ∧ isCore (0xA000 + k) = false := by decide
  have h := hall (hid - 0xA000) (by omega)
  rwa [show 0xA000 + (hid - 0xA000) = hid by omega] at h

theorem unitFenced_spec (s : State) (hid cause : Nat) : ∃ t, execUnitFenced hid cause s = .next t ∧
    if cause < 1 ∨ 7 < cause then t = s
    else (allUnits.contains hid = true → t = s.unitFault hid cause) ∧
      (isCore hid = false → allUnits.contains hid = true → (s.unit hid).st = .absent ∨ (s.unit hid).st = .fenced → t = s) ∧
      (0xA000 ≤ hid → hid < 0xA00C → (s.unit hid).st = .enabled → (s.unit hid).resetAt = none →
        t.unit hid = ⟨.fenced, cause, 0, none, hid⟩ ∧ (∀ h, h ≠ hid → t.unit h = s.unit h) ∧ t.tc = s.tc) ∧
      (allUnits.contains hid = false → hid % 256 ≠ 255 → t = s) ∧
      (allUnits.contains hid = false → hid % 256 = 255 → hid / 256 % 16 < 15 → hid / 4096 % 8 < 4 →
        (∃ h ∈ allUnits, h / 256 = hid / 256) →
        ((∀ h ∈ allUnits, h / 256 = hid / 256 → isCore h = true) → t = s.dieFault (hid / 32768) hid cause) ∧
        ((∃ h ∈ allUnits, h / 256 = hid / 256 ∧ isCore h = false) → t = s.fenceCluster hid 0x10000 cause)) := by
  refine ⟨_, rfl, ?_⟩
  by_cases hcause : cause < 1 ∨ 7 < cause
  · rw [if_pos hcause, if_pos hcause]
  rw [if_neg hcause, if_neg hcause]
  cases hin : allUnits.contains hid with
  | true =>
    refine ⟨fun _ => if_pos rfl, fun hcore _ hout => (if_pos rfl).trans (unitFault_out hcore hout), fun hlo hhi hst hreset => ?_, nofun, nofun⟩
    rw [if_pos rfl]
    exact unitFault_enabled (crypto_unit hlo hhi).2 hst hreset
  | false =>
    rw [if_neg Bool.false_ne_true]
    refine ⟨nofun, nofun, fun hlo hhi => ?_, fun _ hff => if_neg fun h => hff h.1, fun _ hff hcl hreg hsome => ?_⟩
    · exact absurd ((crypto_unit hlo hhi).1.symm.trans hin) (by decide)
    · have hname : hid % 256 = 0xFF ∧ hid / 256 % 16 < 15 ∧ hid / 4096 % 8 < 4 ∧
          (allUnits.any fun h => decide (h / 256 = hid / 256)) = true := by
        refine ⟨hff, hcl, hreg, ?_⟩
        simpa using hsome
      rw [if_pos hname]
      refine ⟨fun hall => if_pos ?_, fun hone => if_neg ?_⟩
      · refine List.all_eq_true.2 fun h hh => ?_
        obtain ⟨hmem, hclu⟩ := List.mem_filter.1 hh
        exact hall h hmem (of_decide_eq_true hclu)
      · simpa using hone

/-! ## The end of a reset -/

/-- A channel's reset puts its registers and its record back (R41, R49). -/
theorem unitCleared_channel (s : State) {hid : Nat} (hlo : 0x2000 ≤ hid) (hhi : hid < 0x2C00) :
    s.unitCleared hid = { s with regs := s.regs.filter fun x => ! clearsWith hid true x.1 }.setChan (chanOf hid) {} := by
  have hown : s.stoodIn hid = false := decide_eq_false (by omega)
  unfold State.unitCleared
  extract_lets s1 own s2
  have h1 : s1 = s := if_neg (by omega)
  have h2 : own = true := by rw [show own = ! s1.stoodIn hid from rfl, h1, hown]; rfl
  rw [if_neg (by omega), if_neg (by omega), if_neg (by omega), if_neg (by omega), if_neg (by omega), if_pos ⟨hlo, hhi⟩]
  unfold s2
  rw [h1, h2]

/-- The channel's event before its registers are cleared only logs and counts. -/
theorem unitCleared_chEvent (s : State) {hid : Nat} (hlo : 0x2000 ≤ hid) (hhi : hid < 0x2C00) (old st : Nat) :
    Quiet (s.unitCleared hid) ((s.chEvent (chanOf hid) old st).unitCleared hid) := by
  have q : Quiet s (s.chEvent (chanOf hid) old st) := raise_quiet_of_sticky_none rfl s _ 0
  rw [unitCleared_channel s hlo hhi, unitCleared_channel _ hlo hhi]
  generalize s.chEvent (chanOf hid) old st = u at q ⊢
  refine ⟨fun f hf => ?_, q.vars, ?_⟩
  · have hs := get_filter_regs (fun k => ! clearsWith hid true k) s f
    have hu := get_filter_regs (fun k => ! clearsWith hid true k) u f
    rw [q.regs f hf] at hu
    exact hu.trans hs.symm
  · exact congrArg (fun x : State => x.setChan (chanOf hid) {}) q.rest

theorem unitResetDone_spec (s : State) (hid : Nat) (pass : Bool) : ∃ t, execUnitResetDone hid pass s = .next t ∧
    if (s.unit hid).st ≠ .resetting then t = s
    else if pass then ∃ v, Quiet ((s.setUnit hid { s.unit hid with
        st := if isCore hid = true then .enabled else .disabled, resetAt := some s.runNs }).unitCleared hid) v ∧ t = v.resetsEnded
    else t.unit hid = { s.unit hid with st := .fenced, cause := 2, fencedBy := hid, resetAt := none } ∧
      (∀ h, h ≠ hid → t.unit h = s.unit h) ∧ t.tc = s.tc ∧ aget t.pf.frozen hid = some (s.content [] hid).1 ∧
      ∃ v, Quiet ((s.fenceUnit hid 2 hid).setUnit hid { (s.fenceUnit hid 2 hid).unit hid with resetAt := none }) v ∧ t = v.resetsEnded := by
  refine ⟨_, rfl, ?_⟩
  by_cases hst : (s.unit hid).st ≠ .resetting
  · rw [if_pos hst, if_pos hst]
  rw [if_neg hst, if_neg hst]
  have hres : (s.unit hid).st = .resetting := not_not.1 hst
  cases pass with
  | true =>
    rw [if_pos rfl, if_pos rfl]
    refine ⟨_, ?_, rfl⟩
    refine Quiet.trans ?_ (raise_quiet_of_sticky_none (evUnit_sticky 0x06 hid .info) _ [i2 hid, i1 1] 0)
    by_cases h : 0x2000 ≤ hid ∧ hid < 0x2C00
    · rw [if_pos h]
      exact unitCleared_chEvent _ h.1 h.2 7 0
    · rw [if_neg h]
      exact .refl _
  | false =>
    rw [if_neg Bool.false_ne_true, if_neg Bool.false_ne_true]
    have hin : ¬ ((s.unit hid).st = .absent ∨ (s.unit hid).st = .fenced) := by
      rw [hres]
      rintro (h | h)
      · cases h
      · cases h
    obtain ⟨hunit, hother, htc, hfrozen⟩ := fenced_unit (cause := 2) (fun r => { r with resetAt := none }) (evUnit 0x01 hid .error)
      [i2 hid, i1 2] hin
    exact ⟨hunit, hother, htc, hfrozen, _,
      raise_quiet_of_sticky_none (evUnit_sticky 0x01 hid .error) _ [i2 hid, i1 2] 0, rfl⟩

end

end Sys2Proof.Machine
end

section
/-! PROOFS. A die's fault (R46, R48, R362), a domain's loss and its return (R32, R40, R449), and the fabric's faults (R395, R396, R398). -/

namespace Sys2Proof.Machine

section

variable (s : State)

/-! ## A die's fault -/

theorem completeRunning_apart (op : Nat) (arg : List Nat) (st d : Nat) (b : Bool) : Apart s (s.completeRunning op arg st d b) := by
  unfold State.completeRunning
  split
  · exact complete_apart _ _ _ _ _
  · exact .refl s

theorem endWaiting_apart (st : Nat) : Apart s (s.endWaiting st) := by
  unfold State.endWaiting
  generalize s.hif.inflight.filter InFlight.waitsHandover = es
  induction es generalizing s with
  | nil => exact .refl s
  | cons e es ih => exact (complete_apart s e.ctx st 0 false).trans (ih _)

/-- A handover cancelled is pending no more, and its commands are completed (R341). -/
theorem cancelHandover_spec (st : Nat) : (s.cancelHandover st).get Reg.TWN_STATUS_HANDOVER_PENDING ≠ 1 ∧
    ∀ v : Var, v ∉ bookVars → (s.cancelHandover st).var v = s.var v := by
  unfold State.cancelHandover
  split
  · extract_lets lap s1
    have a := (completeRunning_apart s1 0x0D02 [lap] st 0 false).trans (endWaiting_apart _ Status.interrupted)
    refine ⟨?_, a.vars⟩
    rw [a.regs _ (by decide), State.get_put_ne _ _ (by decide), State.get_put_same]
    decide
  · next h => exact ⟨h, fun _ _ => rfl⟩

theorem var_setRole (r : Nat) {v : Var} (h : v ∉ bookVars) (hi : v ≠ .imaged) : (s.setRole r).var v = s.var v := by
  unfold State.setRole
  extract_lets old
  split
  · rfl
  · exact (var_raise _ h).trans (State.var_setVar_ne s 0 hi)

theorem tc_setRole (r : Nat) : (s.setRole r).tc = s.tc := by
  unfold State.setRole
  extract_lets old
  split
  · rfl
  · exact raise_tc _ _ _ _

/-- The engine of a die's fault, before its ports stop serving and its host interface halts. -/
def State.dieLost (s : State) (d hid cause : Nat) : State :=
  let dh := if d = 0 then 0x7FFF else 0xFFFF
  let s := s.setVar (.dieFault d) (1 + hid)
  let s := if d = 0 then { s with tc := { s.tc with plan := none } } else s
  let s := s.raise { code := 0x0801 + 0x100 * d, hid := dh, sev := .critical } [i2 hid, i1 cause]
  let s := s.raise { code := 0x0A01, hid := 0x7FFE, sev := .critical } [i2 dh, i1 cause]
  ((s.cancelHandover Status.interrupted).driveFence false).setRole 5

/-- An open host interface halted (R362). -/
def State.haltHost (s : State) : State :=
  if s.hostOpen then { s.put Reg.HIF_STATUS_STATE 3 with hif := { s.hif with stDirty := false } } else s

theorem dieFault_eq (d hid cause : Nat) (h : ¬ s.dieBad d = true) : s.dieFault d hid cause = (s.dieLost d hid cause).serveUpdate.haltHost := by
  unfold State.dieFault State.dieLost
  rw [if_neg h]
  extract_lets dh s1 tc s2 s3 s4 s5 s6 put hif
  have h6 : (((s4.cancelHandover Status.interrupted).driveFence false).setRole 5).serveUpdate = s6 := rfl
  rw [h6]
  clear_value s6
  rfl

/-- The engine is out of service, with the fence released and no handover pending, and a step decided is not made (R46, R48). -/
theorem dieLost_spec (d hid cause : Nat) :
    let u := s.dieLost d hid cause
    u.var (.dieFault d) = 1 + (hid : Nat) ∧ u.get Reg.TWN_STATUS_ROLE = 5 ∧ u.get Reg.TWN_STATUS_CLAIMING = 0 ∧
      u.get Reg.TWN_STATUS_HANDOVER_PENDING ≠ 1 ∧ u.tc = if d = 0 then { s.tc with plan := none } else s.tc := by
  unfold State.dieLost
  extract_lets dh s1 tc s2 s3 s4 u
  have hvar2 : s2.var (.dieFault d) = 1 + (hid : Nat) := by
    have hvar1 : s1.var (.dieFault d) = 1 + (hid : Nat) := State.var_setVar_same s _ _
    unfold s2
    split
    · exact hvar1
    · exact hvar1
  have htc2 : s2.tc = if d = 0 then { s.tc with plan := none } else s.tc := apply_ite State.tc (d = 0) _ s1
  clear_value s2
  have hvar4 : s4.var (.dieFault d) = 1 + (hid : Nat) := (var_raise s3 (by simp [bookVars])).trans ((var_raise s2 (by simp [bookVars])).trans hvar2)
  have htc4 : s4.tc = s2.tc := (raise_tc s3 _ _ _).trans (raise_tc s2 _ _ _)
  clear_value s4
  obtain ⟨hpending, hvars⟩ := cancelHandover_spec s4 Status.interrupted
  have hheld := held_cancelHandover s4 Status.interrupted false
  have hu : u = ((s4.cancelHandover Status.interrupted).driveFence false).setRole 5 := rfl
  clear_value u
  subst hu
  generalize s4.cancelHandover Status.interrupted = v at hpending hvars hheld ⊢
  obtain ⟨hregs, hrole⟩ := setRole_frame (v.driveFence false) 5
  refine ⟨?_, hrole (by decide), ?_, ?_, ?_⟩
  · rw [var_setRole _ _ (by simp [bookVars]) (by simp)]
    exact (hvars _ (by simp [bookVars])).trans hvar4
  · exact (hregs _ (by decide) (by decide)).trans (State.get_put_same v Reg.TWN_STATUS_CLAIMING _)
  · rw [hregs _ (by decide) (by decide)]
    exact fun h => hpending ((State.get_put_ne v _ (by decide)).symm.trans h)
  · exact (tc_setRole (v.driveFence false) 5).trans ((congrArg (fun h => h.2.1) hheld).trans (htc4.trans htc2))

theorem dieFault_spec (die hid cause : Nat) : ∃ t, execDieFault die hid cause s = .next t ∧
    if 2 ≤ die ∨ s.dieBad die = true then t = s
    else ∃ u : State, u.var (.dieFault die) = 1 + (hid : Nat) ∧ u.get Reg.TWN_STATUS_ROLE = 5 ∧ u.get Reg.TWN_STATUS_CLAIMING = 0 ∧
      u.get Reg.TWN_STATUS_HANDOVER_PENDING ≠ 1 ∧ u.tc = (if die = 0 then { s.tc with plan := none } else s.tc) ∧
      if u.serveUpdate.hostOpen = true then t.get Reg.HIF_STATUS_STATE = 3 ∧ t.hif.stDirty = false ∧
        t = { u.serveUpdate.put Reg.HIF_STATUS_STATE 3 with hif := t.hif }
      else t = u.serveUpdate := by
  refine ⟨_, rfl, ?_⟩
  by_cases hdie : die < 2
  · rw [if_pos hdie]
    by_cases hbad : s.dieBad die = true
    · rw [if_pos (Or.inr hbad)]
      exact if_pos hbad
    · rw [if_neg (fun h => h.elim (by omega) hbad), dieFault_eq s die hid cause hbad]
      obtain ⟨hvar, hrole, hclaim, hpending, htc⟩ := dieLost_spec s die hid cause
      refine ⟨s.dieLost die hid cause, hvar, hrole, hclaim, hpending, htc, ?_⟩
      generalize (s.dieLost die hid cause).serveUpdate = w
      unfold State.haltHost
      split
      · exact ⟨State.get_put_same w Reg.HIF_STATUS_STATE 3, rfl, rfl⟩
      · rfl
  · rw [if_neg hdie, if_pos (Or.inl (by omega))]

theorem regionFenced_spec (hid cause : Nat) : ∃ t, execRegionFenced hid cause s = .next t ∧
    if hid % 4096 = 0xFFF ∧ hid / 4096 % 8 < 4 ∧ hid < 0x10000 then t = s.fenceRegion (regionOfHid hid) cause else t = s := by
  refine ⟨_, rfl, ?_⟩
  split
  · rfl
  · rfl

/-! ## Domains -/

theorem unitsAbsent_spec (d : Nat) : ∃ t, execUnitsAbsent d s = .next t ∧
    if 13 < d ∨ s.powered d = false then t = s
    else
      let u := (offOrder d).foldl (fun f x => f.domainOff x) s
      let loses (die : Nat) : Bool := (offOrder d).any fun x => s.powered x && decide (domainDie x = die) && (domainUnits x).any isCore
      let v := if loses 0 then u.dieFault 0 0x7FFF 6 else u
      t = if loses 1 then v.dieFault 1 0xFFFF 6 else v := by
  refine ⟨_, rfl, ?_⟩
  simp only [Bool.not_eq_true]
  split
  · rfl
  · rfl

theorem unitsPresent_spec (d : Nat) : ∃ t, execUnitsPresent d s = .next t ∧
    if 13 < d ∨ s.mayPower d = false then t = s
    else (∀ h ∈ domainUnits d, d ≠ 7 → (t.unit h).st ≠ .absent ∧ ((s.unit h).st ≠ .absent → t.unit h = s.unit h)) ∧
      (d ≠ 7 → t.powered d = true) := by
  refine ⟨_, rfl, ?_⟩
  simp only [Bool.not_eq_true]
  split
  · rfl
  · next h =>
    have hlt : d < 14 := by
      by_contra hge
      exact h (Or.inl (by omega))
    refine ⟨fun x hx hd => ?_, fun hd => domainOn_powered s hd hlt⟩
    obtain ⟨hup, hstay⟩ := domainOn_units s hd
    exact ⟨hup x hx, hstay x⟩

/-! ## The fabric's faults -/

theorem fabricFault_eq (hid cause : Nat) : s.fabricFault hid cause =
    if hid % 256 = 255 ∧ allUnits.contains hid = false then s.clusterFault hid cause else s.unitFault hid cause := by
  unfold State.fabricFault
  simp only [Bool.not_eq_true]

/-- A fault of the fabric logged and counted: its sticky bit, and all else but the bookkeeping as before. -/
structure Fabric (n : Nat) (s t : State) : Prop where
  regs   : ∀ f : Fld, f.key ∉ bookkeeping → t.get f = s.get f
  sticky : t.fbit Reg.FAB_STICKY_STICKY n = true
  tc     : t.tc = s.tc
  mem    : t.mem = s.mem
  units  : t.units = s.units
  parity : t.parity = s.parity

theorem raiseFab_fabric {n : Nat} (hn : n < 6) (sev : Sev) (hid : Nat) (items : List Item) : Fabric n s (s.raiseFab n sev hid items) := by
  obtain ⟨hregs, htc, hmem, hunits, hparity⟩ := raiseFab_frame s n sev hid items
  exact ⟨hregs, fabSticky_raiseFab hn sev hid items, htc, hmem, hunits, hparity⟩

theorem Fabric.count {n : Nat} {s t : State} (h : Fabric n s t) (hid ev : Nat) (a : Attr) (w : Nat) :
    Fabric n s (t.pmcEvent (regionOfHid hid) ev a w) := by
  have q := pmcEvent_quiet t ev a w (regionOfHid_lt hid)
  refine ⟨fun f hf => (q.regs f hf).trans (h.regs f hf), ?_, q.tc.trans h.tc, q.mem.trans h.mem, q.units.trans h.units,
    q.parity.trans h.parity⟩
  rw [State.fbit, fabSticky_pmcEvent]
  exact h.sticky

/-- An access no one answers, in the registers that record it (R395). -/
def State.missed (s : State) (ini addr : Nat) (write window : Bool) : State :=
  let s := s.bump Reg.FAB_DEF_COUNT_COUNT
  let s := (s.put Reg.FAB_DEF_ADDR_LO_ADDR_LO addr).put Reg.FAB_DEF_ADDR_HI_ADDR_HI (addr / 2 ^ 32)
  ((s.put Reg.FAB_DEF_INFO_HID ini).putB Reg.FAB_DEF_INFO_WRITE write).putB Reg.FAB_DEF_INFO_REG_WINDOW window

theorem missed_spec (ini addr : Nat) (write window : Bool) (h : ini < 2 ^ 16) :
    let u := s.missed ini addr write window
    u.get Reg.FAB_DEF_COUNT_COUNT = (s.get Reg.FAB_DEF_COUNT_COUNT + 1) % 2 ^ 32 ∧ u.get Reg.FAB_DEF_ADDR_LO_ADDR_LO = addr % 2 ^ 32 ∧
      u.get Reg.FAB_DEF_ADDR_HI_ADDR_HI = addr / 2 ^ 32 % 2 ^ 32 ∧ u.get Reg.FAB_DEF_INFO_HID = ini ∧ u.get Reg.FAB_DEF_INFO_WRITE = b2n write ∧
      u.get Reg.FAB_DEF_INFO_REG_WINDOW = b2n window := by
  unfold State.missed
  extract_lets s1 s2 u
  have hinfo : ∀ f : Fld, f.key ∉ [Reg.FAB_DEF_INFO_HID.key, Reg.FAB_DEF_INFO_WRITE.key, Reg.FAB_DEF_INFO_REG_WINDOW.key] →
      u.get f = s2.get f := by
    intro f hf
    simp only [List.mem_cons, List.not_mem_nil, or_false, not_or] at hf
    obtain ⟨hhid, hwrite, hwindow⟩ := hf
    exact (State.get_put_ne _ _ hwindow).trans ((State.get_put_ne _ _ hwrite).trans (State.get_put_ne s2 _ hhid))
  refine ⟨?_, ?_, ?_, ?_, ?_, ?_⟩
  · rw [hinfo _ (by decide)]
    exact (State.get_put_ne _ _ (by decide)).trans ((State.get_put_ne s1 _ (by decide)).trans (State.get_put_same s _ _))
  · rw [hinfo _ (by decide)]
    exact (State.get_put_ne _ _ (by decide)).trans (State.get_put_same s1 _ _)
  · rw [hinfo _ (by decide)]
    exact State.get_put_same _ _ _
  · exact (State.get_put_ne _ _ (by decide)).trans ((State.get_put_ne _ _ (by decide)).trans
      ((State.get_put_same s2 _ _).trans (Nat.mod_eq_of_lt h)))
  · exact (State.get_put_ne _ _ (by decide)).trans ((State.get_put_same _ _ _).trans (Nat.mod_eq_of_lt (b2n_lt write)))
  · exact (State.get_put_same _ _ _).trans (Nat.mod_eq_of_lt (b2n_lt window))

/-- What a missed access leads to, once it is recorded (R395). -/
def State.missedBy (s : State) (ini : Nat) (write : Bool) : State :=
  if ini = 0xB000 then (if write then s else { s with hif := { s.hif with rdata := 2 ^ 32 - 1 } })
  else if ini = 0x0600 then s
  else s.fabricFault ini 5

theorem defaultHit_eq (ini addr : Nat) (write window : Bool) : s.defaultHit ini addr write window =
    (((s.missed ini addr write window).raiseFab 0 .warning ini [i2 ini, i4 addr, i1 (b2n write)]).pmcEvent (regionOfHid ini) 0x04
      { hid := some ini }).missedBy ini write := by
  unfold State.defaultHit
  extract_lets s1 s2 s3 s4 s5 hif
  have h3 : s.missed ini addr write window = s3 := rfl
  have h5 : (s3.raiseFab 0 .warning ini [i2 ini, i4 addr, i1 (b2n write)]).pmcEvent (regionOfHid ini) 0x04 { hid := some ini } = s5 := rfl
  rw [h3, h5]
  clear_value s5
  rfl

theorem defaultHit_spec (ini addr : Nat) (write window : Bool) (h : ini < 2 ^ 16) :
    ∃ t u : State, execDefaultHit ini addr write window s = .next t ∧
      u.get Reg.FAB_DEF_COUNT_COUNT = (s.get Reg.FAB_DEF_COUNT_COUNT + 1) % 2 ^ 32 ∧ u.get Reg.FAB_DEF_ADDR_LO_ADDR_LO = addr % 2 ^ 32 ∧
      u.get Reg.FAB_DEF_ADDR_HI_ADDR_HI = addr / 2 ^ 32 % 2 ^ 32 ∧ u.get Reg.FAB_DEF_INFO_HID = ini ∧ u.get Reg.FAB_DEF_INFO_WRITE = b2n write ∧
      u.get Reg.FAB_DEF_INFO_REG_WINDOW = b2n window ∧ u.fbit Reg.FAB_STICKY_STICKY 0 = true ∧ u.mem = s.mem ∧ u.tc = s.tc ∧
      if ini = 0xB000 then t = if write then u else { u with hif := { u.hif with rdata := 2 ^ 32 - 1 } }
      else if ini = 0x0600 then t = u
      else t = if ini % 256 = 255 ∧ allUnits.contains ini = false then u.clusterFault ini 5 else u.unitFault ini 5 := by
  obtain ⟨hcount, hlo, hhi, hhid, hwrite, hwindow⟩ := missed_spec s ini addr write window h
  have fab := (raiseFab_fabric (s.missed ini addr write window) (n := 0) (by decide) .warning ini [i2 ini, i4 addr, i1 (b2n write)]).count ini 0x04
    { hid := some ini } 1
  refine ⟨_, _, congrArg Host.Outcome.next (defaultHit_eq s ini addr write window), (fab.regs _ (by decide)).trans hcount,
    (fab.regs _ (by decide)).trans hlo, (fab.regs _ (by decide)).trans hhi, (fab.regs _ (by decide)).trans hhid,
    (fab.regs _ (by decide)).trans hwrite, (fab.regs _ (by decide)).trans hwindow, fab.sticky, fab.mem, fab.tc, ?_⟩
  rw [← fabricFault_eq]
  unfold State.missedBy
  split
  · rfl
  · split
    · rfl
    · rfl

theorem hsTimeout_spec (target ini : Nat) : ∃ t u : State, execHsTimeout target ini s = .next t ∧
    u.get Reg.FAB_TIMEOUTS_COUNT = (s.get Reg.FAB_TIMEOUTS_COUNT + 1) % 2 ^ 32 ∧ u.fbit Reg.FAB_STICKY_STICKY 3 = true ∧ u.units = s.units ∧
    u.mem = s.mem ∧ t = if target % 256 = 255 ∧ allUnits.contains target = false then u.clusterFault target 4 else u.unitFault target 4 := by
  have fab := raiseFab_fabric (s.bump Reg.FAB_TIMEOUTS_COUNT) (n := 3) (by decide) .error target [i2 target, i2 ini]
  refine ⟨_, _, rfl, (fab.regs _ (by decide)).trans (State.get_put_same s _ _), fab.sticky, fab.units, fab.mem, ?_⟩
  exact fabricFault_eq _ target 4

/-! ## Parity -/

/-- The errors of a unit within 1 s of this one, this one first (R398). -/
def State.parityErrs (s : State) (hid : Nat) : List Nat :=
  s.runNs :: ((aget s.parity hid).getD []).filter fun t => decide (s.runNs < t + secNs)

/-- A parity error recorded (R398, R401). -/
def State.parityBad (s : State) (hid q : Nat) : State :=
  let s := if q < 6 then s else s.bump Reg.FAB_PARITY_ERR_COUNT
  let s := s.put Reg.FAB_PARITY_LAST_HID hid
  { s with parity := aput s.parity hid (s.parityErrs hid) }

theorem parityBad_spec (hid q : Nat) (h : hid < 2 ^ 16) :
    let u := s.parityBad hid q
    u.get Reg.FAB_PARITY_LAST_HID = hid ∧
      u.get Reg.FAB_PARITY_ERR_COUNT = (if q < 6 then s.get Reg.FAB_PARITY_ERR_COUNT else (s.get Reg.FAB_PARITY_ERR_COUNT + 1) % 2 ^ 32) ∧
      u.get Reg.FAB_CTRL_PAR_LIMIT = s.get Reg.FAB_CTRL_PAR_LIMIT ∧ u.units = s.units ∧ u.mem = s.mem ∧
      u.parity = aput s.parity hid (s.parityErrs hid) := by
  unfold State.parityBad
  extract_lets s1 s2 u
  have hput : s2.get Reg.FAB_PARITY_LAST_HID = hid := (State.get_put_same s1 _ _).trans (Nat.mod_eq_of_lt h)
  have hne : ∀ f : Fld, f.key ≠ Reg.FAB_PARITY_LAST_HID.key → s2.get f = s1.get f := fun f hf => State.get_put_ne s1 hid hf
  by_cases hq : q < 6
  · have h1 : s1 = s := if_pos hq
    refine ⟨hput, (hne _ (by decide)).trans ?_, (hne _ (by decide)).trans ?_, ?_⟩
    · rw [h1, if_pos hq]
    · rw [h1]
    · unfold u s2
      rw [h1]
      exact ⟨rfl, rfl, rfl⟩
  · have h1 : s1 = s.bump Reg.FAB_PARITY_ERR_COUNT := if_neg hq
    refine ⟨hput, (hne _ (by decide)).trans ?_, (hne _ (by decide)).trans ?_, ?_⟩
    · rw [h1, if_neg hq]
      exact State.get_put_same s _ _
    · rw [h1]
      exact State.get_put_ne s _ (by decide)
    · unfold u s2
      rw [h1]
      exact ⟨rfl, rfl, rfl⟩

/-- A parity error logged and counted. -/
def State.parityShown (s : State) (hid q : Nat) : State :=
  ((s.parityBad hid q).raiseFab 1 .error hid [i2 hid, i1 (if q < 6 then q else 0xFF), i4 (s.parityErrs hid).length]).pmcEvent
    (regionOfHid hid) 0x05 { hid := some hid }

theorem execParity_eq (hid q : Nat) : execParity hid q s = .next (
    if (s.parityShown hid q).get Reg.FAB_CTRL_PAR_LIMIT < (s.parityErrs hid).length
    then { s.parityShown hid q with parity := adel (s.parityShown hid q).parity hid }.unitFault hid 1
    else s.parityShown hid q) := by
  unfold execParity
  extract_lets s1 s2 errs s3 s4 s5
  have herrs : errs = s.parityErrs hid := by
    by_cases hq : q < 6
    · have h1 : s1 = s := if_pos hq
      unfold errs s2
      rw [h1]
      rfl
    · have h1 : s1 = s.bump Reg.FAB_PARITY_ERR_COUNT := if_neg hq
      unfold errs s2
      rw [h1]
      rfl
  have h3 : s.parityBad hid q = s3 := rfl
  have h5 : s.parityShown hid q = s5 := by
    unfold State.parityShown
    rw [h3, ← herrs]
  clear_value s5
  subst h5
  rw [herrs]

theorem parity_spec (hid q : Nat) (h : hid < 2 ^ 16) : ∃ t u : State, execParity hid q s = .next t ∧ u.get Reg.FAB_PARITY_LAST_HID = hid ∧
    u.get Reg.FAB_PARITY_ERR_COUNT = (if q < 6 then s.get Reg.FAB_PARITY_ERR_COUNT else (s.get Reg.FAB_PARITY_ERR_COUNT + 1) % 2 ^ 32) ∧
    u.fbit Reg.FAB_STICKY_STICKY 1 = true ∧ u.units = s.units ∧ u.mem = s.mem ∧
    let at_ := s.runNs :: ((aget s.parity hid).getD []).filter fun t => decide (s.runNs < t + 1000000000)
    u.parity = aput s.parity hid at_ ∧
    t = if s.get Reg.FAB_CTRL_PAR_LIMIT < at_.length then { u with parity := adel u.parity hid }.unitFault hid 1 else u := by
  obtain ⟨hlast, hcount, hlimit, hunits, hmem, hparity⟩ := parityBad_spec s hid q h
  have fab : Fabric 1 (s.parityBad hid q) (s.parityShown hid q) := (raiseFab_fabric _ (by decide) _ _ _).count hid _ _ _
  have hlim := (fab.regs Reg.FAB_CTRL_PAR_LIMIT (by decide)).trans hlimit
  refine ⟨_, s.parityShown hid q, execParity_eq s hid q, (fab.regs _ (by decide)).trans hlast, (fab.regs _ (by decide)).trans hcount, fab.sticky,
    fab.units.trans hunits, fab.mem.trans hmem, fab.parity.trans hparity, ?_⟩
  rw [hlim]
  rfl

end

/-- Settles O56: a unit's fence and its reset's end, then the die, the domains and the fabric. -/
theorem unitFaults : Obligations.UnitFaults := by
  intro s
  exact ⟨unitFenced_spec s, regionFenced_spec s, dieFault_spec s, unitResetDone_spec s, unitsAbsent_spec s, unitsPresent_spec s,
    defaultHit_spec s, hsTimeout_spec s, parity_spec s⟩

end Sys2Proof.Machine
end

section
/-! PROOFS. The Time Core's rate limits, thresholds, UTC offset and phase correction (R61, R69, R71, R77). -/

namespace Sys2Proof.Machine

section

variable {s : State} {c : Ctx}

/-! ## What a fetch leaves, and a command that ends at once -/

/-- A fetch changes the host interface's rings and the sessions alone. -/
theorem fetch_eq (s : State) (c : Ctx) : ∃ h r, s.fetch c = { s with hif := h, roles := r } := by
  have htouch : ∀ t : State, ∃ r, t.touch c = { t with roles := r } := by
    intro t
    unfold State.touch
    split
    · split
      · exact ⟨_, rfl⟩
      · exact ⟨t.roles, rfl⟩
    · exact ⟨t.roles, rfl⟩
  unfold State.fetch State.advance
  extract_lets e hf s1
  obtain ⟨h, h1⟩ : ∃ h, s1 = { s with hif := h } := by
    unfold s1
    split
    · exact ⟨_, rfl⟩
    · exact ⟨s.hif, rfl⟩
  rw [h1]
  obtain ⟨r, hr⟩ := htouch _
  exact ⟨_, r, hr⟩

/-- A command whose effect answers a status ends with it and its DATA, on the state its effect leaves. -/
theorem runCmd_answers {o : OpInfo} {body : List Int} {eff : Nat → State → Res} {u : State} {st d : Nat} {v : State → State}
    (hr : Ready s c o) (he : eff (s.sessionRole c.ring c.session) (s.fetch c) = ⟨u, some st, d⟩) (hq : Quiet (v (s.fetch c)) u) :
    Ends s c o st d v (s.runCmd c o body eff) :=
  runCmd_Ends hr body eff (by rw [he]) (by rw [he]) (by rw [he]; exact hq)

/-! ## The four settings -/

theorem slewFits_fetch (x : Int) : (s.fetch c).slewFits x = s.slewFits x := by
  simp only [State.slewFits, fetch_tc]

theorem slewFits_iff (s : State) (x : Int) : s.slewFits x = true ↔ (s.tc.slew + x).natAbs ≤ 1000000000 * 2 ^ 52 := decide_eq_true_iff

theorem phaseAdj_ends (hr : Ready s c opPhaseAdj) (x : Int) :
    let t := s.runCmd c opPhaseAdj [x] (phaseAdjEff x)
    if (s.tc.slew + x * 2 ^ 20).natAbs ≤ 1000000000 * 2 ^ 52
    then Ends s c opPhaseAdj Status.ok 0 (fun f => { f with tc := { f.tc with slew := f.tc.slew + x * 2 ^ 20 } }) t
    else Ends s c opPhaseAdj Status.range 0 id t := by
  intro t
  have hfits := slewFits_iff s (x * 2 ^ 20)
  rw [← slewFits_fetch (c := c)] at hfits
  split
  · next h => exact runCmd_answers hr (if_pos (hfits.2 h)) (change_quiet _ _ _ _ _ _ _)
  · next h => exact runCmd_refused hr (if_neg (mt hfits.1 h))

theorem slewLimitSet_ends (hr : Ready s c opSlewLimitSet) (x : Nat) :
    let t := s.runCmd c opSlewLimitSet [x] (slewLimitSetEff x)
    if 28147 ≤ x ∧ x ≤ 28147497671
    then Ends s c opSlewLimitSet Status.ok 0 (fun f => (f.put Reg.SLEW_LIMIT_LO_SL_LO (x % 2 ^ 32)).put Reg.SLEW_LIMIT_HI_SL_HI (x / 2 ^ 32)) t
    else Ends s c opSlewLimitSet Status.range 0 id t := by
  intro t
  split
  · next h => exact runCmd_answers hr (if_neg (by omega)) ((change_quiet _ _ _ _ _ _ _).trans (change_quiet _ _ _ _ _ _ _))
  · next h => exact runCmd_refused hr (if_pos (by omega))

theorem stepThreshSet_ends (hr : Ready s c opStepThreshSet) (x : Nat) :
    let t := s.runCmd c opStepThreshSet [x] (stepThreshSetEff x)
    if x ≤ 1000000000 then Ends s c opStepThreshSet Status.ok 0 (fun f => f.put Reg.STEP_THRESH_THRESH x) t
    else Ends s c opStepThreshSet Status.range 0 id t := by
  intro t
  split
  · next h => exact runCmd_answers hr (if_neg (by omega)) (change_quiet _ _ _ _ _ _ _)
  · next h => exact runCmd_refused hr (if_pos (by omega))

/-- The UTC offset set on a state: NEXT follows CURRENT, with the leap announced on top while one is pending, and L with it (R71). -/
theorem utcOffsetSetEff_ok (f : State) (role : Nat) {x : Int} (hfree : f.get Reg.TCO_STATUS_LEAP_COMMITTED ≠ 1) (hlo : -32768 ≤ x)
    (hhi : x ≤ 32767) : ∃ u, utcOffsetSetEff x role f = ⟨u, some Status.ok, 0⟩ ∧
      Quiet (if f.get Reg.TCO_STATUS_LEAP_PENDING = 1 then
          ((f.putI Reg.UTC_OFFSET_CURRENT x).putI Reg.UTC_OFFSET_NEXT (x + f.leapSign)).put64 Reg.LEAP_AT_LO_LA_LO Reg.LEAP_AT_HI_LA_HI
            (toBits 64 ((f.leapAt : Int) + (x - f.utcNow) * 1000000000))
        else (f.putI Reg.UTC_OFFSET_CURRENT x).putI Reg.UTC_OFFSET_NEXT x) u := by
  have hrange : ¬ (x < -32768 ∨ 32767 < x) := by omega
  have hpending : (f.putI Reg.UTC_OFFSET_CURRENT x).get Reg.TCO_STATUS_LEAP_PENDING = f.get Reg.TCO_STATUS_LEAP_PENDING :=
    State.get_put_ne _ _ (by decide)
  have hsign : (f.putI Reg.UTC_OFFSET_CURRENT x).leapSign = f.leapSign := by
    rw [State.leapSign, State.leapSign, State.putI, State.get_put_ne _ _ (by decide)]
  have hat : ((f.putI Reg.UTC_OFFSET_CURRENT x)).leapAt = f.leapAt := by
    rw [State.leapAt, State.leapAt, State.get64, State.get64, State.putI, State.get_put_ne _ _ (by decide), State.get_put_ne _ _ (by decide)]
  refine ⟨_, (if_neg hfree).trans (if_neg hrange), ?_⟩
  rw [hpending, hsign, hat]
  exact change_quiet _ _ _ _ _ _ _

theorem utcOffsetSet_ends (hr : Ready s c opUtcOffsetSet) {x : Int} (hlo : -32768 ≤ x) (hhi : x ≤ 32767) :
    let t := s.runCmd c opUtcOffsetSet [x] (utcOffsetSetEff x)
    if s.get Reg.TCO_STATUS_LEAP_COMMITTED = 1 then Ends s c opUtcOffsetSet Status.leapCommitted 0 id t
    else if s.get Reg.TCO_STATUS_LEAP_PENDING = 1 then
      Ends s c opUtcOffsetSet Status.ok 0 (fun f => ((f.putI Reg.UTC_OFFSET_CURRENT x).putI Reg.UTC_OFFSET_NEXT (x + s.leapSign)).put64
        Reg.LEAP_AT_LO_LA_LO Reg.LEAP_AT_HI_LA_HI (toBits 64 ((s.leapAt : Int) + (x - s.utcNow) * 1000000000))) t
    else Ends s c opUtcOffsetSet Status.ok 0 (fun f => (f.putI Reg.UTC_OFFSET_CURRENT x).putI Reg.UTC_OFFSET_NEXT x) t := by
  intro t
  by_cases hcommitted : s.get Reg.TCO_STATUS_LEAP_COMMITTED = 1
  · rw [if_pos hcommitted]
    exact runCmd_refused hr (if_pos ((fetch_get s c _).trans hcommitted))
  rw [if_neg hcommitted]
  obtain ⟨u, he, hq⟩ := utcOffsetSetEff_ok (s.fetch c) (s.sessionRole c.ring c.session)
    (by rw [fetch_get]; exact hcommitted) hlo hhi
  rw [fetch_get] at hq
  have hreads : (s.fetch c).leapSign = s.leapSign ∧ (s.fetch c).leapAt = s.leapAt ∧ (s.fetch c).utcNow = s.utcNow := by
    obtain ⟨h, r, e⟩ := fetch_eq s c
    rw [e]
    exact ⟨rfl, rfl, rfl⟩
  obtain ⟨hsign, hat, hnow⟩ := hreads
  rw [hsign, hat, hnow] at hq
  split
  · next hpending =>
    rw [if_pos hpending] at hq
    exact runCmd_answers hr he hq
  · next hpending =>
    rw [if_neg hpending] at hq
    exact runCmd_answers hr he hq

end

/-- Settles O6: each of the four by its own lemma. -/
theorem timeCoreSettings : Obligations.TimeCoreSettings := by
  unfold Obligations.TimeCoreSettings
  intro s c
  exact ⟨fun x hr => ⟨_, rfl, phaseAdj_ends hr x⟩, fun x hr => ⟨_, rfl, slewLimitSet_ends hr x⟩,
    fun x hr => ⟨_, rfl, stepThreshSet_ends hr x⟩, fun x hr hlo hhi => ⟨_, rfl, utcOffsetSet_ends hr hlo hhi⟩⟩

end Sys2Proof.Machine
end

section
/-! PROOFS. The queue of the commands that wait (R57, R381): what a step takes of it, and what an edge of TCLK on an empty one leaves of the
host interface. -/

namespace Sys2Proof.Machine

section

variable (s : State)

theorem hif_raiseTim (k : Nat) (sev : Sev) (hid lane : Nat) (items : List Item) : (s.raiseTim k sev hid lane items).hif = s.hif := by
  unfold State.raiseTim
  extract_lets v last s1
  have h1 : s1.hif = s.hif := view_ite State.hif rfl rfl
  exact view_ite State.hif rfl ((raise_hif _ _ _ _).trans h1)

theorem hif_checkPulses (g : Nat) : (s.checkPulses g).hif = s.hif := by
  have hone : ∀ (s : State) (n : Nat), (s.checkPulse n).hif = s.hif := by
    intro s n
    unfold State.checkPulse
    exact view_ite State.hif (raise_hif _ _ _ _) rfl
  exact view_foldl State.hif (fun s n => view_ite State.hif (hone s n) rfl) s _

theorem hif_synEdge (dt : Int) : (s.synEdge dt).hif = s.hif := by
  refine view_foldl State.hif (fun s g => view_ite State.hif ?_ rfl) s _
  extract_lets r s1
  exact view_ite (s := s) State.hif ((hif_checkPulses _ _).trans (raise_hif _ _ _ _)) rfl

theorem hif_sweepHeats : s.sweepHeats.hif = s.hif := by
  have hfalse : ∀ (s : State) (k n : Nat), (s.falseStarts k n).hif = s.hif := by
    intro s k n
    unfold State.falseStarts
    exact view_ite State.hif rfl (hif_raiseTim _ _ _ _ _ _)
  have hone : ∀ (s : State) (k : Nat), (s.sweepStops k).hif = s.hif := by
    intro s k
    unfold State.sweepStops
    extract_lets h now
    split
    exact view_ite State.hif rfl (hfalse _ _ _)
  refine view_foldl State.hif (fun s p => ?_) s _
  exact view_ite State.hif (hone s p.1) rfl

theorem hif_sampleClock : s.sampleClock.hif = s.hif := by
  unfold State.sampleClock
  extract_lets s1
  have h1 : s1.hif = s.hif := view_ite State.hif rfl rfl
  split
  · rfl
  · exact view_ite State.hif h1 h1

/-- An edge of TCLK touches nothing of the host interface's own state. -/
theorem hif_tclk : s.tclk.hif = s.hif := by
  have htick : s.tick.hif = s.hif := by
    unfold State.tick
    extract_lets was isOpen s1 s2
    have h2 : s2.hif = s.hif := view_ite (s := s) State.hif rfl rfl
    exact view_ite State.hif ((raise_hif _ _ _ _).trans h2) h2
  unfold State.tclk
  rw [hif_sampleClock, hif_sweepHeats, hif_synEdge, htick]

/-- Every edge counts one, that of a Time Core under a die fault too. -/
theorem edges_nextTc : s.nextTc.edges = s.tc.edges + 1 := by
  unfold State.nextTc
  split
  · rfl
  · rfl

/-- A step takes the front command and leaves the rest as they wait. -/
theorem pending_of_steps {s t : State} (h : Steps s t) : t.pending = s.pending.tail := by
  unfold Steps step at h
  split at h
  · next hp =>
    obtain rfl := Host.Outcome.next.inj h
    rw [(State.idle_keeps (keeps_refl s)).pend, hp]
    rfl
  · next i rest hp =>
    rw [(exec_keepsO (keeps_refl _) t h).pend, hp]
    rfl

end

/-- Settles O2: no command touches the queue's rest, and an empty queue leaves the edge. -/
theorem queueOrder : Obligations.QueueOrder := by
  unfold Obligations.QueueOrder
  intro s t h
  refine ⟨pending_of_steps h, fun hempty => ?_⟩
  obtain rfl : s.idle = t := by
    unfold Steps step at h
    rw [hempty] at h
    exact Host.Outcome.next.inj h
  unfold State.idle
  split
  · next hearly => exact if_neg (by omega)
  · next hlocked =>
    rw [if_pos (by omega)]
    obtain ⟨b, hb⟩ := tclk_timeMem s
    obtain ⟨htc, hmem⟩ := Prod.mk.inj hb
    exact ⟨(congrArg TimeCore.edges htc).trans (edges_nextTc s), hmem, hif_tclk s⟩

end Sys2Proof.Machine
end

section
/-! PROOFS. The compare units (R65 to R68, R77): armed, taken out, and fired. -/

namespace Sys2Proof.Machine

section

variable {s : State} {c : Ctx} {n : Nat}

/-! ## Arming and taking out -/

theorem now80_fetch : (s.fetch c).now80 = s.now80 := by simp only [State.now80, fetch_at16]

theorem cmpPfTrigger_quiet (s : State) (n : Nat) : Quiet s (s.cmpPfTrigger n) := by
  unfold State.cmpPfTrigger
  exact .ite (pfTrigger_quiet _ _) (.refl s)

/-- A compare unit armed: its configuration, its target, its period where it is periodic, and whether the target lies in the past (R65, R67). -/
def State.armCmp (s : State) (n mode : Nat) (actEvent actPf : Bool) (target period now : Nat) : State :=
  let armed := ((((((s.put (Reg.CMP_CTRL_MODE n) mode).put (Reg.CMP_CTRL_ACT_EVENT n) (b2n actEvent)).put (Reg.CMP_CTRL_ACT_PF n) (b2n actPf)).put
    (Reg.CMP_CTRL_ARMED n) 1).put (Reg.CMP_CTRL_LATE n) 0).put (Reg.CMP_CTRL_STEPPED n) 0)
  let aimed := armed.setCmpTgt n target
  let paced := if mode = 2 then (((aimed.put (Reg.CMP_PER_LO_PER n) (period / 2 ^ 16)).put (Reg.CMP_PER_HI_PER n) (period / 2 ^ 48)).put
    (Reg.CMP_PER_FRAC_PER n) period).setVar (.cmpPer n) period else aimed
  paced.setVar (.cmpLate n) (if diff80 (target % 2 ^ 80) now ≤ 0 then 1 else 0)

/-- What CMP_ARM refuses with RANGE (R67). -/
def cmpArmBad (n mode target period now : Nat) : Prop :=
  15 < n ∨ (mode ≠ 1 ∧ mode ≠ 2) ∨ 2 ^ 62 * 2 ^ 16 ≤ (diff80 (target % 2 ^ 80) now).natAbs
    ∨ (mode = 2 ∧ (period < 1000 * 2 ^ 16 ∨ 2 ^ 40 * 2 ^ 16 < period))

variable {mode : Nat} {ev pf : Bool} {target period : Nat}

theorem cmpArm_range (hr : Ready s c opCmpArm) (h : cmpArmBad n mode target period s.now80) (body : List Int) :
    Ends s c opCmpArm Status.range 0 id (s.runCmd c opCmpArm body (cmpArmEff n mode ev pf target period)) := by
  rw [← now80_fetch (c := c)] at h
  exact runCmd_refused hr (if_pos h)

theorem cmpArm_busy (hr : Ready s c opCmpArm) (h : ¬ cmpArmBad n mode target period s.now80) (hb : s.get (Reg.CMP_CTRL_ARMED n) = 1)
    (body : List Int) : Ends s c opCmpArm Status.busy 0 id (s.runCmd c opCmpArm body (cmpArmEff n mode ev pf target period)) := by
  rw [← now80_fetch (c := c)] at h
  rw [← fetch_get s c] at hb
  exact runCmd_refused hr ((if_neg h).trans (if_pos hb))

theorem cmpArmEff_ok (f : State) (role : Nat) (h : ¬ cmpArmBad n mode target period f.now80) (hb : f.get (Reg.CMP_CTRL_ARMED n) ≠ 1) :
    ∃ u, cmpArmEff n mode ev pf target period role f = ⟨u, some Status.ok, 0⟩ ∧ Quiet (f.armCmp n mode ev pf target period f.now80) u := by
  refine ⟨_, (if_neg h).trans (if_neg hb), ?_⟩
  refine Quiet.trans ?_ (change_quiet _ _ _ _ _ _ _)
  refine Quiet.trans ?_ (cmpPfTrigger_quiet _ _)
  unfold State.armCmp
  have hlate : (b2n (decide (diff80 (target % 2 ^ 80) f.now80 ≤ 0)) : Int) = if diff80 (target % 2 ^ 80) f.now80 ≤ 0 then 1 else 0 := by
    by_cases hp : diff80 (target % 2 ^ 80) f.now80 ≤ 0
    · rw [if_pos hp, decide_eq_true hp]; rfl
    · rw [if_neg hp, decide_eq_false hp]; rfl
  rw [hlate]
  exact .refl _

theorem cmpArm_ok (hr : Ready s c opCmpArm) (h : ¬ cmpArmBad n mode target period s.now80) (hb : s.get (Reg.CMP_CTRL_ARMED n) ≠ 1)
    (body : List Int) :
    Ends s c opCmpArm Status.ok 0 (fun f => f.armCmp n mode ev pf target period s.now80) (s.runCmd c opCmpArm body (cmpArmEff n mode ev pf target period)) := by
  rw [← now80_fetch (c := c)] at h
  rw [← fetch_get s c] at hb
  obtain ⟨u, he, hq⟩ := cmpArmEff_ok (ev := ev) (pf := pf) (s.fetch c) (s.sessionRole c.ring c.session) h hb
  rw [now80_fetch] at hq
  exact runCmd_answers hr he hq

theorem cmpDisarms (hr : Ready s c opCmpDisarm) (hn : n < 16) (body : List Int) :
    Ends s c opCmpDisarm Status.ok 0 (fun f => f.put (Reg.CMP_CTRL_ARMED n) 0) (s.runCmd c opCmpDisarm body (cmpDisarmEff n)) := by
  refine runCmd_answers hr (if_neg (by omega)) (Quiet.trans ?_ (change_quiet _ _ _ _ _ _ _))
  exact .of rfl rfl rfl

/-! ## Firing -/

/-- The instant latched and the flags of a firing that no step made. -/
def State.firedCmp (s : State) (n : Nat) : State :=
  let latched := (((s.put (Reg.CMP_FIRED_LO_FIRED n) (s.now80 / 2 ^ 16)).put (Reg.CMP_FIRED_HI_FIRED n) (s.now80 / 2 ^ 48)).put
    (Reg.CMP_FIRED_FRAC_FIRED n) s.now80)
  let marked := (latched.put (Reg.CMP_CTRL_LATE n) (if s.var (.cmpLate n) = 1 then 1 else 0)).put (Reg.CMP_CTRL_STEPPED n) 0
  (if s.var (.cmpLate n) = 1 then marked.put Reg.TCO_STICKY_CMP_LATE 1 else marked).setVar (.cmpLate n) 0

/-- The unit after a firing: its next member, or disarmed. -/
def State.nextCmp (s : State) (n : Nat) : State :=
  let per := (s.var (.cmpPer n)).toNat
  let passed := (diff80 s.now80 (s.cmpTgt n)).toNat / per + 1
  if s.get (Reg.CMP_CTRL_MODE n) = 2 then
    let next := (s.firedCmp n).setCmpTgt n (s.cmpTgt n + passed * per)
    if s.var (.cmpLate n) = 1 then next.put (Reg.CMP_CTRL_SKIPPED n) (min passed 65535) else next
  else (s.firedCmp n).put (Reg.CMP_CTRL_ARMED n) 0

theorem cmpMembers_of_reached {at80 tgt per : Nat} (h : 0 ≤ diff80 at80 tgt) : cmpMembers at80 tgt per = (diff80 at80 tgt).toNat / per + 1 :=
  if_neg (by omega)

/-- A firing that no step made: what it changes beside its event and its photo-finish trigger (R66, R67). -/
theorem fireCmp_quiet (h : 0 ≤ diff80 s.now80 (s.cmpTgt n)) : Quiet (s.nextCmp n) (s.fireCmp n none) := by
  unfold State.fireCmp
  extract_lets tgt late periodic per at80 passed jumped stepped s1 s2 s3 s4 s5 aimed s6 s7
  have h7 : Quiet s6 s7 := .ite (raise_quiet_of_sticky_none rfl _ _ _) (.refl s6)
  have hs5 : s5 = s.firedCmp n := by
    unfold s5 s4 s3 s2 s1 stepped jumped late State.firedCmp
    by_cases hl : s.var (.cmpLate n) = 1 <;> simp [hl, State.putB, b2n, at80]
  have hs6 : s6 = s.nextCmp n := by
    unfold s6 aimed State.nextCmp
    rw [hs5]
    by_cases hp : s.get (Reg.CMP_CTRL_MODE n) = 2
    · by_cases hl : s.var (.cmpLate n) = 1 <;>
        simp [periodic, late, per, passed, tgt, at80, stepped, jumped, hp, hl, cmpMembers_of_reached h]
    · simp [periodic, hp]
  rw [← hs6]
  exact .ite (h7.trans (cmpPfTrigger_quiet _ _)) h7

end

/-- Settles O7: CMP_ARM by its refusals, CMP_DISARM, and the firing that no step made. -/
theorem compareUnits : Obligations.CompareUnits := by
  unfold Obligations.CompareUnits
  intro s c n hn
  refine ⟨fun mode ev pf target period hr hmode hnear hper => ⟨_, rfl, ?_⟩,
    fun mode ev pf target period hr hfar => ⟨_, rfl, cmpArm_range hr (.inr (.inr (.inl hfar))) _⟩,
    fun hr => ⟨_, rfl, cmpDisarms hr hn _⟩, ⟨_, rfl, ?_⟩⟩
  · have hgood : ¬ cmpArmBad n mode target period s.now80 := by
      unfold cmpArmBad
      omega
    split
    · next hb => exact cmpArm_busy hr hgood hb _
    · next hb => exact cmpArm_ok hr hgood hb _
  · by_cases h : s.get (Reg.CMP_CTRL_ARMED n) = 1 ∧ 0 ≤ diff80 s.now80 (s.cmpTgt n)
    · have hfires : n < 16 ∧ s.cmpReached n = true := ⟨hn, decide_eq_true h⟩
      rw [if_pos h, if_pos hfires]
      have hq := fireCmp_quiet h.2
      unfold State.nextCmp at hq
      intro latched late marked noted per passed
      split
      · next hp => rwa [if_pos hp] at hq
      · next hp => rwa [if_neg hp] at hq
    · have hstays : ¬ (n < 16 ∧ s.cmpReached n = true) := fun hf => h (of_decide_eq_true hf.2)
      rw [if_neg h, if_neg hstays]

end Sys2Proof.Machine
end

section
/-! PROOFS. The leap second (R70 to R72, R77): announced, withdrawn, refused, and its three instants. -/

namespace Sys2Proof.Machine

section

variable {s : State} {c : Ctx}

/-! ## LEAP_SET -/

/-- L of an announcement, in seconds, by the UTC offset of a state (R70). -/
def State.leapL (s : State) (year month : Nat) (sign : Int) : Int := (monthEnd year month : Int) + s.utcNow + sign

/-- Whether an announcement of the GNSS stands that no host's command takes away (R70). -/
def State.leapHeld (s : State) : Bool :=
  decide (s.get Reg.TCO_STATUS_LEAP_PENDING = 1 ∧ s.var .leapSrc = 1 ∧ ¬ s.hostOnly ∧ s.gnssLaneUp)

theorem leapHeld_iff (s : State) : s.leapHeld = true ↔
    s.get Reg.TCO_STATUS_LEAP_PENDING = 1 ∧ s.var .leapSrc = 1 ∧ s.hostOnly = false ∧ s.gnssLaneUp = true := by
  rw [State.leapHeld, decide_eq_true_iff, Bool.not_eq_true]

/-- What of a state LEAP_SET reads, a fetch leaves. -/
theorem leapReads_fetch (s : State) (c : Ctx) : (s.fetch c).utcNow = s.utcNow ∧ (s.fetch c).leapHeld = s.leapHeld := by
  obtain ⟨h, r, e⟩ := fetch_eq s c
  rw [e]
  exact ⟨rfl, rfl⟩

variable {year month : Nat} {sign : Int}

/-- LEAP_SET's effect once its operands are in range and none is committed. -/
theorem leapSetEff_eq (f : State) (role : Nat) (hfree : f.get Reg.TCO_STATUS_LEAP_COMMITTED ≠ 1)
    (hin : (sign = 1 ∨ sign = -1 ∨ sign = 0) ∧ 1970 ≤ year ∧ year ≤ 65535 ∧ 1 ≤ month ∧ month ≤ 12) :
    leapSetEff year month sign role f =
      if sign = 0 then
        if f.get Reg.TCO_STATUS_LEAP_PENDING = 0 then ⟨f, some Status.ok, 0⟩
        else if f.leapHeld = true then ⟨f.refuseLeap 0 1 0 0 f.utcNow, some Status.leapConflict, 0⟩
        else ⟨(f.withdrawLeap 0).change role 0x0000 0x0205 0x100070 0 0, some Status.ok, 0⟩
      else if f.leapL year month sign * secUnits - f.tc.time < 43200 * secUnits then ⟨f, some Status.range, 0⟩
      else if f.leapHeld = true then ⟨f.refuseLeap 0 1 sign (f.leapL year month sign) (f.utcNow + sign), some Status.leapConflict, 0⟩
      else ⟨(f.announceLeap 0 sign (f.leapL year month sign).toNat).change role 0x0000 0x0205 0x100070 (f.get Reg.UTC_OFFSET_NEXT)
        ((f.announceLeap 0 sign (f.leapL year month sign).toNat).get Reg.UTC_OFFSET_NEXT), some Status.ok, 0⟩ := by
  have hok : ¬ ((sign ≠ 1 ∧ sign ≠ -1 ∧ sign ≠ 0) ∨ month < 1 ∨ 12 < month ∨ year < 1970 ∨ 65535 < year) := by omega
  unfold leapSetEff
  rw [if_neg hfree, if_neg hok]
  rfl

theorem setBit_zero_odd (n : Nat) : setBit n 0 % 2 = 1 := by
  rw [setBit_eq, withBit, pow_zero, Nat.mod_one]
  simp only [b2n, if_true]
  omega

/-- A bit that is a field of its own: setting it writes 1. -/
theorem putBit_flag (f : State) {g : Fld} (hw : g.width = 1) : f.putBit g 0 true = f.put g 1 := by
  unfold State.putBit State.put
  rw [hw, if_pos rfl, pow_one, setBit_zero_odd]

/-- A leap refused sets LEAP_CONFLICT, and its offer is told of at most once (R70). -/
theorem refuseLeap_quiet (f : State) (src kind : Nat) (sign l utc : Int) : ∃ offers,
    Quiet ({ f with tc := { f.tc with offers := offers } }.put Reg.TCO_STICKY_LEAP_CONFLICT 1) (f.refuseLeap src kind sign l utc) := by
  by_cases htold : f.tc.offers.contains ⟨src, kind, sign, l, utc⟩ = true
  · refine ⟨f.tc.offers, ?_⟩
    rw [State.refuseLeap, if_pos htold]
    exact .refl _
  · refine ⟨⟨src, kind, sign, l, utc⟩ :: f.tc.offers, ?_⟩
    rw [State.refuseLeap, if_neg htold, ← putBit_flag _ rfl]
    exact raise_quiet { f with tc := { f.tc with offers := ⟨src, kind, sign, l, utc⟩ :: f.tc.offers } } evLeapConflict _ _

theorem announceLeap_quiet (f : State) (l : Int) (hsign : sign = 1 ∨ sign = -1) :
    Quiet (((((f.putI Reg.UTC_OFFSET_NEXT (f.utcNow + sign)).put64 Reg.LEAP_AT_LO_LA_LO Reg.LEAP_AT_HI_LA_HI
      (l.toNat * 1000000000 % 2 ^ 64)).put Reg.TCO_STATUS_LEAP_PENDING 1).put Reg.TCO_STATUS_LEAP_SIGN (if sign = -1 then 1 else 0)).setVar
      .leapSrc 0) (f.announceLeap 0 sign l.toNat) := by
  have hneg : b2n (decide (sign < 0)) = if sign = -1 then 1 else 0 := by
    rcases hsign with rfl | rfl
    · rfl
    · rfl
  unfold State.announceLeap
  rw [← hneg]
  exact raise_quiet_of_sticky_none rfl _ _ _

theorem withdrawLeap_quiet (f : State) (src : Nat) :
    Quiet ((f.put Reg.UTC_OFFSET_NEXT (f.get Reg.UTC_OFFSET_CURRENT)).put Reg.TCO_STATUS_LEAP_PENDING 0) (f.withdrawLeap src) := by
  unfold State.withdrawLeap
  exact raise_quiet_of_sticky_none rfl _ _ _

/-- LEAP_SET with operands in range while no leap is committed (R70, R71, R77). -/
theorem leapSet_ends (hr : Ready s c opLeapSet) (hfree : s.get Reg.TCO_STATUS_LEAP_COMMITTED = 0)
    (hin : (sign = 1 ∨ sign = -1 ∨ sign = 0) ∧ 1970 ≤ year ∧ year ≤ 65535 ∧ 1 ≤ month ∧ month ≤ 12) (body : List Int) :
    let t := s.runCmd c opLeapSet body (leapSetEff year month sign)
    let far : Prop := 43200 * (1000000000 * 2 ^ 52) ≤ s.leapL year month sign * (1000000000 * 2 ^ 52) - s.tc.time
    (sign = 0 → s.get Reg.TCO_STATUS_LEAP_PENDING = 0 → Ends s c opLeapSet Status.ok 0 id t) ∧
    (sign = 0 → s.get Reg.TCO_STATUS_LEAP_PENDING ≠ 0 → s.leapHeld = false → Ends s c opLeapSet Status.ok 0 (fun f =>
      (f.put Reg.UTC_OFFSET_NEXT (s.get Reg.UTC_OFFSET_CURRENT)).put Reg.TCO_STATUS_LEAP_PENDING 0) t) ∧
    (sign ≠ 0 → far → s.leapHeld = false → Ends s c opLeapSet Status.ok 0 (fun f =>
      ((((f.putI Reg.UTC_OFFSET_NEXT (s.utcNow + sign)).put64 Reg.LEAP_AT_LO_LA_LO Reg.LEAP_AT_HI_LA_HI
        ((s.leapL year month sign).toNat * 1000000000 % 2 ^ 64)).put Reg.TCO_STATUS_LEAP_PENDING 1).put Reg.TCO_STATUS_LEAP_SIGN
        (if sign = -1 then 1 else 0)).setVar .leapSrc 0) t) ∧
    (sign ≠ 0 → ¬ far → Ends s c opLeapSet Status.range 0 id t) ∧
    (sign = 0 ∨ far → s.leapHeld = true → ∃ offers, Ends s c opLeapSet Status.leapConflict 0 (fun f =>
      { f with tc := { f.tc with offers := offers } }.put Reg.TCO_STICKY_LEAP_CONFLICT 1) t) := by
  intro t far
  obtain ⟨hnow, hheld⟩ := leapReads_fetch s c
  have hl : (s.fetch c).leapL year month sign = s.leapL year month sign := by rw [State.leapL, State.leapL, hnow]
  have he := leapSetEff_eq (year := year) (month := month) (sign := sign) (s.fetch c) (s.sessionRole c.ring c.session)
    (by rw [fetch_get, hfree]; decide) hin
  have hunits : (secUnits : Int) = 1000000000 * 2 ^ 52 := by decide
  simp only [fetch_get, fetch_tc, hheld, hl, hnow, hunits] at he
  refine ⟨fun hz hp => ?_, fun hz hp hh => ?_, fun hz hf hh => ?_, fun hz hf => ?_, fun hz hh => ?_⟩
  · rw [if_pos hz, if_pos hp] at he
    exact runCmd_refused hr he
  · rw [if_pos hz, if_neg hp, if_neg (by simp [hh])] at he
    have q := withdrawLeap_quiet (s.fetch c) 0
    rw [fetch_get] at q
    exact runCmd_answers hr he (q.trans (change_quiet _ _ _ _ _ _ _))
  · rw [if_neg hz, if_neg (not_lt.2 hf), if_neg (by simp [hh])] at he
    have q := announceLeap_quiet (sign := sign) (s.fetch c) (s.leapL year month sign) (by omega)
    rw [hnow] at q
    exact runCmd_answers hr he (q.trans (change_quiet _ _ _ _ _ _ _))
  · rw [if_neg hz, if_pos (not_le.1 hf)] at he
    exact runCmd_refused hr he
  · have hp : s.get Reg.TCO_STATUS_LEAP_PENDING ≠ 0 := by
      rw [((leapHeld_iff s).1 hh).1]
      decide
    by_cases h0 : sign = 0
    · rw [if_pos h0, if_neg hp, if_pos hh] at he
      obtain ⟨offers, q⟩ := refuseLeap_quiet (s.fetch c) 0 1 0 0 s.utcNow
      exact ⟨offers, runCmd_answers hr he q⟩
    · rw [if_neg h0, if_neg (not_lt.2 (hz.resolve_left h0)), if_pos hh] at he
      obtain ⟨offers, q⟩ := refuseLeap_quiet (s.fetch c) 0 1 sign (s.leapL year month sign) (s.utcNow + sign)
      exact ⟨offers, runCmd_answers hr he q⟩

/-! ## The three instants -/

theorem pastLeap_iff (s : State) (plus : Int) : s.pastLeap plus = true ↔ 0 ≤ linDiff s.linear s.leapAt - plus * 1000000000 :=
  decide_eq_true_iff

/-- At L - 43,200 s the announcement is committed and the smear window opens (R71, R72). -/
theorem leapCommitted_commits (h : s.get Reg.TCO_STATUS_LEAP_PENDING = 1 ∧ s.get Reg.TCO_STATUS_LEAP_COMMITTED = 0 ∧ s.pastLeap (-43200) = true) :
    ∃ t, exec .leapCommitted s = .next t ∧
      Quiet (((((s.put Reg.TCO_STATUS_LEAP_COMMITTED 1).put Reg.TCO_STATUS_SMEAR_ACTIVE 1).setVar .smearL (s.leapAt / 1000000000 : Nat)).setVar
        .smearSign s.leapSign).setVar .smearBefore s.utcNow) t := by
  refine ⟨_, congrArg Host.Outcome.next (if_pos h), ?_⟩
  have hget : ∀ f : Fld, f.key ≠ Reg.TCO_STATUS_LEAP_COMMITTED.key → f.key ≠ Reg.TCO_STATUS_SMEAR_ACTIVE.key →
      ((s.put Reg.TCO_STATUS_LEAP_COMMITTED 1).put Reg.TCO_STATUS_SMEAR_ACTIVE 1).get f = s.get f :=
    fun f h1 h2 => (State.get_put_ne _ _ h2).trans (State.get_put_ne _ _ h1)
  refine Quiet.trans ?_ (raise_quiet_of_sticky_none rfl _ _ _)
  simp only [State.leapAt, State.leapSign, State.utcNow, State.get64, secNs]
  rw [hget _ (by decide) (by decide), hget _ (by decide) (by decide), hget _ (by decide) (by decide), hget _ (by decide) (by decide)]
  exact .refl _

/-- At L, CURRENT takes NEXT and the announcement ends (R71). -/
theorem leapApplied_applies (h : s.get Reg.TCO_STATUS_LEAP_COMMITTED = 1 ∧ s.pastLeap 0 = true) :
    ∃ t, exec .leapApplied s = .next t ∧
      Quiet (((s.put Reg.UTC_OFFSET_CURRENT (s.get Reg.UTC_OFFSET_NEXT)).put Reg.TCO_STATUS_LEAP_PENDING 0).put Reg.TCO_STATUS_LEAP_COMMITTED 0) t :=
  ⟨_, congrArg Host.Outcome.next (if_pos h), raise_quiet_of_sticky_none rfl _ _ _⟩

end

/-- Settles O8: LEAP_SET by its operands and what stands, and each of the three instants by whether it has come. -/
theorem leapSecond : Obligations.LeapSecond := by
  unfold Obligations.LeapSecond
  intro s c
  refine ⟨fun year month sign hr hfree hy1 hy2 hm1 hm2 => ?_, ?_, ?_, ?_⟩
  · intro l ahead held
    have hends := fun hsign => leapSet_ends (year := year) (month := month) (sign := sign) hr hfree ⟨hsign, hy1, hy2, hm1, hm2⟩
      [(year : Int), month, sign]
    have hheld : s.leapHeld = true ↔ s.get Reg.TCO_STATUS_LEAP_PENDING = 1 ∧ held := leapHeld_iff s
    have hnot : s.get Reg.TCO_STATUS_LEAP_PENDING = 0 ∨ ¬ held → s.leapHeld = false := fun h => by
      rw [← Bool.not_eq_true, hheld]
      rintro ⟨h1, h2⟩
      rcases h with h | h
      · omega
      · exact h h2
    refine ⟨fun hz hp => ?_, fun hz hp hh => ?_, fun hz hf hh => ?_, fun hz hf => ?_, fun hz hp hh => ?_⟩
    · obtain ⟨hnone, -⟩ := hends (by omega)
      exact ⟨_, rfl, hnone hz hp⟩
    · obtain ⟨-, hwithdrawn, -⟩ := hends (by omega)
      exact ⟨_, rfl, hwithdrawn hz (by omega) (hnot (.inr hh))⟩
    · obtain ⟨-, -, hannounced, -⟩ := hends (by omega)
      exact ⟨_, rfl, hannounced (by omega) hf (hnot hh)⟩
    · obtain ⟨-, -, -, hnear, -⟩ := hends (by omega)
      exact ⟨_, rfl, hnear (by omega) (not_le.2 hf)⟩
    · obtain ⟨-, -, -, -, hconflict⟩ := hends (by omega)
      obtain ⟨offers, h⟩ := hconflict (hz.imp_right And.right) (hheld.2 ⟨hp, hh⟩)
      exact ⟨_, offers, rfl, h⟩
  · have hpast : s.pastLeap (-43200) = true ↔ 0 ≤ linDiff s.linear s.leapAt + 43200 * 1000000000 := by
      rw [pastLeap_iff]
      omega
    split
    · next h => exact leapCommitted_commits (by rwa [hpast])
    · next h => exact congrArg Host.Outcome.next (if_neg (by rwa [hpast]))
  · have hpast : s.pastLeap 0 = true ↔ 0 ≤ linDiff s.linear s.leapAt := by
      rw [pastLeap_iff]
      omega
    split
    · next h => exact leapApplied_applies (by rwa [hpast])
    · next h => exact congrArg Host.Outcome.next (if_neg (by rwa [hpast]))
  · split
    · next h => exact congrArg Host.Outcome.next (if_pos h)
    · next h => exact congrArg Host.Outcome.next (if_neg h)

end Sys2Proof.Machine
end

section
/-! PROOFS. What the commands refuse with nothing changed (R65, R71, R77, R109, R112, R159, R182, R230, R257, R328, R382, R444). -/

namespace Sys2Proof.Machine

section

variable {s : State} {c : Ctx}

/-- While a leap is committed LEAP_SET is refused; before, with an operand out of range (R70, R71). -/
theorem leapSet_refused {year month : Nat} {sign : Int} {st : Nat} (hr : Ready s c opLeapSet)
    (h : if s.get Reg.TCO_STATUS_LEAP_COMMITTED = 1 then st = Status.leapCommitted
      else st = Status.range ∧ ((sign ≠ 1 ∧ sign ≠ -1 ∧ sign ≠ 0) ∨ month < 1 ∨ 12 < month ∨ year < 1970 ∨ 65535 < year)) :
    ∃ t, exec (.leapSet c year month sign) s = .next t ∧ Ends s c opLeapSet st 0 id t := by
  refine ⟨_, rfl, ?_⟩
  rw [← fetch_get s c] at h
  split at h
  · next hcommitted =>
    rw [h]
    exact runCmd_refused hr (if_pos hcommitted)
  · next hfree =>
    rw [h.1]
    exact runCmd_refused hr ((if_neg hfree).trans (if_pos h.2))

/-- UTC_OFFSET_SET is refused so too (R71, R77). -/
theorem utcOffsetSet_refused {x : Int} {st : Nat} (hr : Ready s c opUtcOffsetSet)
    (h : if s.get Reg.TCO_STATUS_LEAP_COMMITTED = 1 then st = Status.leapCommitted else st = Status.range ∧ (x < -32768 ∨ 32767 < x)) :
    ∃ t, exec (.utcOffsetSet c x) s = .next t ∧ Ends s c opUtcOffsetSet st 0 id t := by
  refine ⟨_, rfl, ?_⟩
  rw [← fetch_get s c] at h
  split at h
  · next hcommitted =>
    rw [h]
    exact runCmd_refused hr (if_pos hcommitted)
  · next hfree =>
    rw [h.1]
    exact runCmd_refused hr ((if_neg hfree).trans (if_pos h.2))

/-- A SUSPECT lane whose offset SLEW_REMAIN has no room for cannot be forced, where the force would bring that offset into it (R109). -/
theorem laneForce_refused {n : Nat} (hr : Ready s c (opLaneForce (s.isPartner n))) (hn : n < 16) (hsuspect : s.laneSt n = 5)
    (htype : s.laneType n ≠ 3) (hpartner : ¬ (s.laneSrc n = 0x14 ∧ s.serves = true)) (harmed : s.get Reg.TCO_STATUS_STEP_ARMED = 0)
    (hfits : s.slewFits (s.offsetNow n * 2 ^ 36) = false)
    (hbrings : (s.lanePT n = true ∧ (s.inHoldover = true ∨ s.get (Reg.LANE_STATE_CAUSE n) = 8)) ∨ s.laneType n = 2 ∨
      (s.lanePT n = true ∧ s.serves = true ∧ ∃ m, s.cur = some m ∧ s.laneSrc m = 0x14)) :
    ∃ t, exec (.laneForce c n) s = .next t ∧ Ends s c (opLaneForce (s.isPartner n)) Status.range 0 id t := by
  refine ⟨_, rfl, runCmd_refused hr ?_⟩
  have hfit : ¬ (¬ (s.laneSt n = 3 ∨ s.laneSt n = 4 ∨ s.laneSt n = 5) ∨ s.laneType n = 3 ∨ (s.isPartner n = true ∧ s.serves = true)) := by
    have : s.isPartner n = true ↔ s.laneSrc n = 0x14 := decide_eq_true_iff
    rw [this]
    simp only [hsuspect, htype, hpartner, or_true, not_true, or_false, not_false_iff]
  have hwhole : s.bringsWhole n = true ∨ s.retiresBuild n = true := by
    rcases hbrings with ⟨hpt, hcause⟩ | htime | ⟨hpt, hserves, m, hcur, hsrc⟩
    · refine .inl ?_
      rw [State.bringsWhole, hpt, Bool.true_and, Bool.or_eq_true, decide_eq_true_iff]
      exact hcause.imp_right fun h => ⟨hsuspect, h⟩
    · exact .inr (decide_eq_true (.inl htime))
    · refine .inr (decide_eq_true (.inr ⟨hpt, hserves, ?_⟩))
      rw [hcur]
      exact decide_eq_true hsrc
  obtain ⟨h, r, e⟩ := fetch_eq s c
  rw [e]
  have hroom : s.laneSt n = 5 ∧ s.get Reg.TCO_STATUS_STEP_ARMED = 0 ∧ (s.bringsWhole n = true ∨ s.retiresBuild n = true) ∧
      ¬ s.slewFits (s.offsetNow n * 2 ^ 36) = true := ⟨hsuspect, harmed, hwhole, Bool.not_eq_true _ ▸ hfits⟩
  exact (if_neg (by omega)).trans ((if_neg hfit).trans (if_pos hroom))

/-- A heat's operands out of range, its TDC lane taken, or a TDC lane that does not work (R156, R159). -/
theorem heatStart_refused {k : Nat} {p : HeatPar} {st : Nat} (hr : Ready s c opHeatStart)
    (h : if 23 < k ∨ p.ok = false then st = Status.range
      else if s.servesLane k = true ∨ s.heatRuns k = true then st = Status.busy
      else s.tdcWorks k = false ∧ st = if s.unitFenced (tdcHid k) = true then Status.fenced else Status.notFit) :
    Ends s c opHeatStart st 0 id (s.runCmd c opHeatStart [] (heatStartEff k p)) := by
  refine runCmd_refused hr ?_
  have hreads : (s.fetch c).servesLane k = s.servesLane k ∧ (s.fetch c).heatRuns k = s.heatRuns k ∧
      (s.fetch c).tdcWorks k = s.tdcWorks k ∧ (s.fetch c).unitFenced (tdcHid k) = s.unitFenced (tdcHid k) := by
    obtain ⟨h, r, e⟩ := fetch_eq s c
    rw [e]
    exact ⟨rfl, rfl, rfl, rfl⟩
  obtain ⟨hserves, hruns, hworks, hfenced⟩ := hreads
  unfold heatStartEff
  rw [hserves, hruns, hworks, hfenced]
  have hrange : 23 < k ∨ p.ok = false ↔ 23 < k ∨ ¬ p.ok = true := by rw [Bool.not_eq_true]
  split at h
  · next hbad => rw [if_pos (hrange.1 hbad), h]
  · next hok =>
    rw [if_neg (mt hrange.2 hok)]
    split at h
    · next htaken => rw [if_pos htaken, h]
    · next hfree =>
      obtain ⟨hidle, hst⟩ := h
      rw [if_neg hfree, if_pos (by simp [hidle]), hst]

/-- REFIN_DELAY_SET out of range, and the delay of the SELECTED pin (R159). -/
theorem refinDelaySet_refused {pin : Nat} {delay : Int} {st : Nat} (hr : Ready s c opRefinDelaySet)
    (h : if 7 < pin ∨ delay < -1024000000 ∨ 1024000000 < delay then st = Status.range
      else st = Status.busy ∧ ∃ n, s.cur = some n ∧ s.laneSrc n = pin) :
    ∃ t, exec (.refinDelaySet c pin delay) s = .next t ∧ Ends s c opRefinDelaySet st 0 id t := by
  refine ⟨_, rfl, runCmd_refused hr ?_⟩
  unfold refinDelaySetEff
  split at h
  · next hbad => rw [if_pos hbad, h]
  · next hok =>
    obtain ⟨hst, n, hcur, hsrc⟩ := h
    have hcur' : (s.fetch c).cur = some n := by rw [State.cur, fetch_get, fetch_get]; exact hcur
    have hsrc' : (s.fetch c).laneSrc n = pin := by rw [State.laneSrc, fetch_get]; exact hsrc
    rw [if_neg hok, hcur', hst]
    exact if_pos (decide_eq_true hsrc')

/-- A buffer that is empty or holds a record of no TYPE is refused whole (R230). -/
theorem gnssNavLoad_refused {addr len : Nat} {parityBad tooOld : List Nat} {rs : List NavRec} (hr : Ready s c opGnssNavLoad)
    (hdma : c.dmaOk = true) (hparse : parseNav (len + 1) (memRead s.mem addr len) = some rs) (hbad : len = 0 ∨ ∃ r ∈ rs, 2 < r.typ) :
    ∃ t, exec (.gnssNavLoad c addr len parityBad tooOld) s = .next t ∧ Ends s c opGnssNavLoad Status.range 0 id t := by
  refine ⟨_, rfl, runCmd_refused hr ?_⟩
  have hany : len = 0 ∨ (rs.any fun r => decide (2 < r.typ)) = true := by simpa using hbad
  unfold gnssNavLoadEff
  rw [if_neg (by simp [hdma]), fetch_mem, hparse]
  exact if_pos hany

end

/-- Settles O60: each command's refusals by the order in which its effect judges its operands. -/
theorem refusals : Obligations.Refusals := by
  unfold Obligations.Refusals
  rintro s c i o st hr (⟨n, hn, rfl, hmem⟩ | ⟨n, mode, ev, pf, target, period, ⟨⟩, hbad⟩ | ⟨year, month, sign, rfl, rfl, h⟩ | ⟨x, rfl, rfl, h⟩ |
    ⟨n, hn, ⟨⟩, hsuspect, htype, hpartner, harmed, hfits, hbrings⟩ | ⟨k, p, rfl, rfl, h⟩ | ⟨k, hk, ⟨⟩⟩ | ⟨pin, delay, rfl, rfl, h⟩ |
    ⟨g, hg, rfl, hmem⟩ | ⟨g, num, den, ⟨⟩, hbad⟩ | ⟨addr, len, parityBad, tooOld, rs, ⟨⟩, hdma, hparse, hbad⟩ | ⟨k, who, hk, rfl, hmem⟩ |
    ⟨target, addr, clear, h1, h2, ⟨⟩⟩)
  · simp only [List.mem_cons, Prod.mk.injEq, List.not_mem_nil, or_false] at hmem
    rcases hmem with ⟨rfl, rfl⟩ | ⟨rfl, rfl⟩
    · exact ⟨_, rfl, runCmd_refused hr (if_pos hn)⟩
    · exact ⟨_, rfl, runCmd_refused hr (if_pos hn)⟩
  · exact ⟨_, rfl, cmpArm_range hr (hbad.imp_right fun h => h.imp_right .inr) _⟩
  · exact leapSet_refused hr h
  · exact utcOffsetSet_refused hr h
  · exact laneForce_refused hr hn hsuspect htype hpartner harmed hfits hbrings
  · exact ⟨_, rfl, heatStart_refused hr h⟩
  · exact ⟨_, rfl, runCmd_refused hr (if_pos hk)⟩
  · exact refinDelaySet_refused hr h
  · simp only [List.mem_cons, Prod.mk.injEq, List.not_mem_nil, or_false] at hmem
    rcases hmem with ⟨rfl, rfl⟩ | ⟨rfl, rfl⟩
    · exact ⟨_, rfl, runCmd_refused hr (if_pos hg)⟩
    · exact ⟨_, rfl, runCmd_refused hr (if_pos hg)⟩
  · exact ⟨_, rfl, runCmd_refused hr (if_pos hbad)⟩
  · exact gnssNavLoad_refused hr hdma hparse hbad
  · simp only [List.mem_cons, Prod.mk.injEq, List.not_mem_nil, or_false] at hmem
    rcases hmem with ⟨rfl, rfl⟩ | ⟨rfl, rfl⟩ | ⟨rfl, rfl⟩ | ⟨rfl, rfl⟩
    · exact ⟨_, rfl, runCmd_refused hr (if_pos hk)⟩
    · exact ⟨_, rfl, runCmd_refused hr (if_pos hk)⟩
    · exact ⟨_, rfl, runCmd_refused hr (if_pos hk)⟩
    · exact ⟨_, rfl, runCmd_refused hr (if_pos hk)⟩
  · exact ⟨_, rfl, runCmd_refused hr (if_pos ⟨h1, h2⟩)⟩

end Sys2Proof.Machine
end

section
/-! PROOFS. The photo-finish (R63, R407 to R413, R424): its triggers, what a latch reads and writes, and a snapshot's end. -/

namespace Sys2Proof.Machine

section

variable {s t : State} {c : Ctx}

/-! ## What a record reads -/

/-- A state without the count of the free values it has taken: all that reading a CONTENT leaves alone. -/
def State.spent (s : State) : State := { s with free := 0 }

/-- What reading a CONTENT leaves, by the parts that are read here. -/
theorem fields_of_spent (h : t.spent = s.spent) : t.regs = s.regs ∧ t.pf = s.pf ∧ t.pmc = s.pmc ∧ t.tc = s.tc ∧ t.mem = s.mem :=
  have field {α : Type} (f : State → α) : f t.spent = f s.spent := congrArg f h
  ⟨field State.regs, field State.pf, field State.pmc, field State.tc, field State.mem⟩

theorem spent_snd_ite {α : Type} {x y : α × State} {p : Prop} [Decidable p] (hx : x.2.spent = s.spent) (hy : y.2.spent = s.spent) :
    (if p then x else y).2.spent = s.spent := by
  split
  · exact hx
  · exact hy

theorem spent_measWords (s : State) (ms : List ChMeas) (n : Nat) : (s.measWords ms n).2.spent = s.spent := by
  unfold State.measWords
  split
  · rfl
  · rfl

theorem spent_content (s : State) (ms : List ChMeas) (h : Nat) : (s.content ms h).2.spent = s.spent := by
  unfold State.content
  repeat' refine spent_snd_ite ?_ ?_
  any_goals rfl
  exact spent_measWords s ms ((h - 0x2000) / 0x100 * 16 + h % 16)

/-- A unit's record carries its HID, and takes free values at most (R411). -/
theorem record_spent (s : State) (ms : List ChMeas) (h at16 : Nat) (hs : Bool) :
    (s.record ms h at16 hs).1.hid = h ∧ (s.record ms h at16 hs).2.spent = s.spent := by
  unfold State.record
  extract_lets u stepped seq
  split
  · exact ⟨rfl, rfl⟩
  · split
    · exact ⟨rfl, rfl⟩
    · exact ⟨rfl, spent_content s ms h⟩

theorem poison_hid (r : PfRec) (bad : List (Nat × Nat)) : (r.poison bad).hid = r.hid := by
  unfold PfRec.poison
  extract_lets ws
  split
  · rfl
  · rfl

theorem oldRec_hid (s : State) (h : Nat) : (s.oldRec h).hid = h := by
  unfold State.oldRec
  cases hfind : s.pf.recs.find? fun r => decide (r.hid = h) with
  | none => rfl
  | some r => exact of_decide_eq_true (List.find?_some (p := fun r : PfRec => decide (r.hid = h)) hfind)

/-! ## The snapshot memory written -/

/-- One unit's turn as the snapshot memory is written. -/
def State.latchOne (s : State) (ms : List ChMeas) (at16 : Nat → Nat) (hs : Bool) (now : Nat → Bool) (h : Nat) : PfRec × State :=
  if now h then ((s.record ms h (at16 h) hs).1.poison s.pf.bad, (s.record ms h (at16 h) hs).2) else (s.oldRec h, s)

variable (ms : List ChMeas) (at16 : Nat → Nat) (hs : Bool) (now : Nat → Bool)

theorem latchAll_cons (s : State) (h : Nat) (l : List Nat) : s.latchAll ms at16 hs now (h :: l) =
    ((s.latchOne ms at16 hs now h).1 :: ((s.latchOne ms at16 hs now h).2.latchAll ms at16 hs now l).1,
      ((s.latchOne ms at16 hs now h).2.latchAll ms at16 hs now l).2) := rfl

theorem latchOne_spent (s : State) (h : Nat) :
    (s.latchOne ms at16 hs now h).1.hid = h ∧ (s.latchOne ms at16 hs now h).2.spent = s.spent := by
  obtain ⟨hhid, hspent⟩ := record_spent s ms h (at16 h) hs
  unfold State.latchOne
  split
  · exact ⟨(poison_hid _ _).trans hhid, hspent⟩
  · exact ⟨oldRec_hid s h, rfl⟩

/-- The memory lists the units latched in their order, and writing it takes free values at most. -/
theorem latchAll_spent (s : State) (l : List Nat) :
    (s.latchAll ms at16 hs now l).1.map (·.hid) = l ∧ (s.latchAll ms at16 hs now l).2.spent = s.spent := by
  induction l generalizing s with
  | nil => exact ⟨rfl, rfl⟩
  | cons h l ih =>
    obtain ⟨hhid, hone⟩ := latchOne_spent ms at16 hs now s h
    obtain ⟨hmap, hrest⟩ := ih (s.latchOne ms at16 hs now h).2
    rw [latchAll_cons]
    exact ⟨by rw [List.map_cons, hhid, hmap], hrest.trans hone⟩

/-- A unit that does not latch keeps the record it has. -/
theorem latchAll_old (s : State) (l : List Nat) :
    ∀ r ∈ (s.latchAll ms at16 hs now l).1, now r.hid = false → r = s.oldRec r.hid := by
  induction l generalizing s with
  | nil => exact fun r hr => absurd hr List.not_mem_nil
  | cons h l ih =>
    obtain ⟨hhid, hone⟩ := latchOne_spent ms at16 hs now s h
    intro r hr hout
    rw [latchAll_cons] at hr
    rcases List.mem_cons.1 hr with rfl | hr
    · rw [hhid] at hout ⊢
      unfold State.latchOne
      rw [hout]
      rfl
    · obtain ⟨-, hpf, -⟩ := fields_of_spent hone
      exact (ih _ r hr hout).trans (by rw [State.oldRec, hpf]; rfl)

end

section

variable (s : State) (c : Ctx)

/-! ## Triggers -/

theorem put64_regs_get64 {lo hi : Fld} {v : Nat} (hne : lo.key ≠ hi.key) (hlo : lo.width = 32) (hhi : hi.width = 32) (hv : v < 2 ^ 64) :
    (s.put64 lo hi v).get64 lo hi = v := by
  unfold State.get64 State.put64
  rw [State.get_put_ne _ _ hne, State.get_put_same, State.get_put_same, hlo, hhi]
  omega

theorem earliest_spec : ∀ (l : List PfTrig), match earliest l with
    | none => l = []
    | some a => (∃ x ∈ l, x.at16 = a) ∧ ∀ x ∈ l, a ≤ x.at16
  | [] => rfl
  | y :: l => by
    have ih := earliest_spec l
    unfold earliest
    cases he : earliest l with
    | none =>
      rw [he] at ih
      subst ih
      exact ⟨⟨y, .head _, rfl⟩, fun x hx => by rw [List.mem_singleton.1 hx]⟩
    | some a =>
      rw [he] at ih
      obtain ⟨⟨z, hz, hza⟩, hmin⟩ := ih
      refine ⟨?_, List.forall_mem_cons.2 ⟨Nat.min_le_left _ _, fun x hx => (Nat.min_le_right _ _).trans (hmin x hx)⟩⟩
      rcases le_total y.at16 a with h | h
      · exact ⟨y, .head _, (Nat.min_eq_left h).symm⟩
      · exact ⟨z, .tail _ hz, hza.trans (Nat.min_eq_right h).symm⟩

theorem earliest_eq {l : List PfTrig} {a : Nat} (hex : ∃ x ∈ l, x.at16 = a) (hmin : ∀ x ∈ l, a ≤ x.at16) : earliest l = some a := by
  have h := earliest_spec l
  obtain ⟨x, hx, hxa⟩ := hex
  cases he : earliest l with
  | none =>
    rw [he] at h
    subst h
    exact absurd hx List.not_mem_nil
  | some b =>
    rw [he] at h
    obtain ⟨⟨y, hy, hyb⟩, hle⟩ := h
    have hab := hmin y hy
    have hba := hle x hx
    exact congrArg some (by omega)

theorem pf_pmcEvent (r ev : Nat) (a : Attr) (w : Nat) : (s.pmcEvent r ev a w).pf = s.pf := by
  have hlog : ∀ (s : State) (e : LogEntry), (s.logOnly e).pf = s.pf := fun s e => view_ite State.pf rfl rfl
  have hadd : ∀ (s : State) (k : Nat), (s.pmcAdd r k w).pf = s.pf := fun s k =>
    view_ite State.pf (view_ite State.pf (hlog _ _) rfl) rfl
  have hfrom : ∀ n, (s.pmcFrom r ev w a n).pf = s.pf := by
    intro n
    induction n with
    | zero => rfl
    | succ k ih => exact view_ite State.pf ((hadd _ _).trans ih) ih
  exact hfrom 8

/-- A record of the state journal leaves the photo-finish network alone. -/
theorem pf_sendState (kind role result op : Nat) (body : List Int) : (s.sendState kind role result op body).pf = s.pf := by
  unfold State.sendState State.stateRecord State.sendRecord
  exact view_ite State.pf (view_ite State.pf (pf_pmcEvent _ _ _ _ _) rfl) rfl

/-! ## PF_SNAPSHOT -/

/-- The instant a PF_SNAPSHOT names, in units of 2^-16 ns (R424). -/
def State.pfDue (s : State) (at16 : Nat) : Nat :=
  if at16 = 0 then s.at16 + 100 * 65536
  else ((s.at16 : Int) + linDiff (at16 / 65536 % 2 ^ 64) s.linear * 65536 + at16 % 65536 - s.at16 % 65536).toNat

/-- The trigger a PF_SNAPSHOT leaves, with what it sends the partner where the system takes it (R407, R424). -/
def State.pfAsked (s : State) (c : Ctx) (role due : Nat) (system : Bool) (addr : Nat) : State :=
  let u := (s.hold c opPfSnapshot role []).pfTrigger ⟨due, if system then 4 else 2, 0, 0, some c, addr, false⟩
  if system then u.sendState 3 role Status.ok 0x0F01 [due] else u

theorem pfAsked_trigs (role due : Nat) (system : Bool) (addr : Nat) : (s.pfAsked c role due system addr).pf.trigs =
    s.pf.trigs ++ [⟨due, if system then 4 else 2, 0, 0, some c, addr, decide (s.var .stepEdge = (s.tc.edges : Int) + 1)⟩] := by
  have h : (s.pfAsked c role due system addr).pf = ((s.hold c opPfSnapshot role []).pfTrigger
      ⟨due, if system then 4 else 2, 0, 0, some c, addr, false⟩).pf := view_ite State.pf (pf_sendState _ _ _ _ _ _) rfl
  rw [h]
  rfl

theorem pfSnapshotEff_eq (at16 : Nat) (system : Bool) (addr role : Nat) : pfSnapshotEff c at16 system addr role s =
    if at16 ≠ 0 ∧ 2 ^ 62 ≤ (linDiff (at16 / 65536 % 2 ^ 64) s.linear).natAbs then ⟨s, some Status.range, 0⟩
    else if system = true ∧ s.get Reg.TWN_STATUS_ROLE ≠ 2 then ⟨s, some Status.notFit, 0⟩
    else if s.pf.held = true ∨ (s.pf.trigs.any fun t => t.cmd.isSome) = true then ⟨s, some Status.busy, 0⟩
    else if (system = true ∧ s.pfDue at16 < s.at16 + 2 * lapNs * 65536) ∨ s.pfDue at16 < s.at16 + 100 * 65536 then
      ⟨s, some Status.tooSoon, 0⟩
    else ⟨s.pfAsked c role (s.pfDue at16) system addr, none, 0⟩ := rfl

theorem pfDue_fetch (at16 : Nat) : (s.fetch c).pfDue at16 = s.pfDue at16 := by
  simp only [State.pfDue, fetch_at16, fetch_linear]

variable {s c}

theorem pfSnapshot_ends (at16 : Nat) (system : Bool) (addr : Nat) (hr : Ready s c opPfSnapshot) :
    let t := s.runCmd c opPfSnapshot [] (pfSnapshotEff c at16 system addr)
    let due := s.pfDue at16
    let role := s.sessionRole c.ring c.session
    if at16 ≠ 0 ∧ 2 ^ 62 ≤ (linDiff (at16 / 65536 % 2 ^ 64) s.linear).natAbs then Ends s c opPfSnapshot Status.range 0 id t
    else if system = true ∧ s.get Reg.TWN_STATUS_ROLE ≠ 2 then Ends s c opPfSnapshot Status.notFit 0 id t
    else if s.pf.held = true ∨ ∃ x ∈ s.pf.trigs, x.cmd.isSome = true then Ends s c opPfSnapshot Status.busy 0 id t
    else if (system = true ∧ due < s.at16 + 2 * lapNs * 65536) ∨ due < s.at16 + 100 * 65536 then Ends s c opPfSnapshot Status.tooSoon 0 id t
    else Starts s c (fun f => f.pfAsked c role due system addr) t ∧ t.pf.trigs = s.pf.trigs ++
      [⟨due, if system then 4 else 2, 0, 0, some c, addr, decide (s.var .stepEdge = (s.tc.edges : Int) + 1)⟩] := by
  intro t due role
  have heff := pfSnapshotEff_eq (s.fetch c) c at16 system addr role
  rw [pfDue_fetch, fetch_linear, fetch_get, fetch_pf, fetch_at16] at heff
  by_cases hrange : at16 ≠ 0 ∧ 2 ^ 62 ≤ (linDiff (at16 / 65536 % 2 ^ 64) s.linear).natAbs
  · rw [if_pos hrange] at heff ⊢
    exact runCmd_refused hr heff
  rw [if_neg hrange] at heff ⊢
  by_cases hfit : system = true ∧ s.get Reg.TWN_STATUS_ROLE ≠ 2
  · rw [if_pos hfit] at heff ⊢
    exact runCmd_refused hr heff
  rw [if_neg hfit] at heff ⊢
  by_cases hbusy : s.pf.held = true ∨ (s.pf.trigs.any fun t => t.cmd.isSome) = true
  · rw [if_pos hbusy] at heff
    rw [if_pos (hbusy.imp_right List.any_eq_true.1)]
    exact runCmd_refused hr heff
  rw [if_neg hbusy] at heff
  rw [if_neg (mt (Or.imp_right List.any_eq_true.2) hbusy)]
  by_cases hsoon : (system = true ∧ due < s.at16 + 2 * lapNs * 65536) ∨ due < s.at16 + 100 * 65536
  · rw [if_pos hsoon] at heff ⊢
    exact runCmd_refused hr heff
  rw [if_neg hsoon] at heff ⊢
  refine ⟨runCmd_Starts hr _ _ (by rw [heff]) (by rw [heff]; exact .refl _), ?_⟩
  have ht : t = _ := runCmd_runs hr _ _ heff rfl
  rw [ht, pfAsked_trigs, fetch_pf, fetch_var, fetch_tc]

/-! ## The pin -/

theorem pfTrig_taken (s : State) :
    let t := (s.put64 Reg.PF_PIN_AT_LO_AT_LO Reg.PF_PIN_AT_HI_AT_HI s.linear).pfTrigger ⟨s.at16 + pfLead16, 1, 0, 0, none, 0, false⟩
    t.get64 Reg.PF_PIN_AT_LO_AT_LO Reg.PF_PIN_AT_HI_AT_HI = s.linear ∧ t.pf.trigs = s.pf.trigs ++
      [⟨s.at16 + 100 * 65536, 1, 0, 0, none, 0, decide (s.var .stepEdge = (s.tc.edges : Int) + 1)⟩] ∧ t.tc = s.tc ∧ t.mem = s.mem :=
  ⟨put64_regs_get64 s (by decide) rfl rfl (Nat.mod_lt _ (by decide)), rfl, rfl, rfl⟩

/-! ## The latch -/

theorem get_pfSources {now : List PfTrig} {f : Fld} (h1 : f.key ≠ Reg.PF_SOURCES_SRC.key) (h2 : f.key ≠ Reg.PF_SOURCES_CMP.key)
    (h3 : f.key ≠ Reg.PF_SOURCES_CODE.key) : (s.pfSources now).get f = s.get f := by
  unfold State.pfSources
  rw [State.get_put_ne _ _ h3, State.get_put_ne _ _ h2, State.get_put_ne _ _ h1]

/-- The registers a snapshot shows once it is taken (R408, R409). -/
def State.pfShow (s : State) (t : Nat) (now : List PfTrig) : State :=
  ((((s.bump Reg.PF_SEQ_SEQ).put64 Reg.PF_AT_LO_AT_LO Reg.PF_AT_HI_AT_HI (t / 65536 % 2 ^ 64)).put Reg.PF_AT_FRAC_FRAC (t % 65536)).pfSources
    now).putB Reg.PF_FLAGS_STEPPED (now.any fun x => x.stepped)

theorem pfShow_get (t : Nat) (now : List PfTrig) : (s.pfShow t now).get Reg.PF_SEQ_SEQ = (s.get Reg.PF_SEQ_SEQ + 1) % 2 ^ 32 ∧
    (s.pfShow t now).get64 Reg.PF_AT_LO_AT_LO Reg.PF_AT_HI_AT_HI = t / 65536 % 2 ^ 64 ∧
    (s.pfShow t now).get Reg.PF_AT_FRAC_FRAC = t % 65536 ∧
    (s.pfShow t now).get Reg.PF_FLAGS_STEPPED = b2n (now.any fun x => x.stepped) := by
  have hflags : ∀ f : Fld, f.key ≠ Reg.PF_FLAGS_STEPPED.key → f.key ≠ Reg.PF_SOURCES_SRC.key → f.key ≠ Reg.PF_SOURCES_CMP.key →
      f.key ≠ Reg.PF_SOURCES_CODE.key → (s.pfShow t now).get f = (((s.bump Reg.PF_SEQ_SEQ).put64 Reg.PF_AT_LO_AT_LO Reg.PF_AT_HI_AT_HI
        (t / 65536 % 2 ^ 64)).put Reg.PF_AT_FRAC_FRAC (t % 65536)).get f := fun f h0 h1 h2 h3 =>
    (State.get_put_ne _ _ h0).trans (get_pfSources h1 h2 h3)
  refine ⟨?_, ?_, ?_, ?_⟩
  · rw [hflags _ (by decide) (by decide) (by decide) (by decide), State.get_put_ne _ _ (by decide), State.put64,
      State.get_put_ne _ _ (by decide), State.get_put_ne _ _ (by decide)]
    exact State.get_put_same _ _ _
  · rw [State.get64, hflags _ (by decide) (by decide) (by decide) (by decide), hflags _ (by decide) (by decide) (by decide) (by decide),
      State.get_put_ne _ _ (by decide), State.get_put_ne _ _ (by decide)]
    exact put64_regs_get64 _ (by decide) rfl rfl (Nat.mod_lt _ (by decide))
  · rw [hflags _ (by decide) (by decide) (by decide) (by decide), State.get_put_same]
    exact Nat.mod_mod _ _
  · have h : (s.pfShow t now).get Reg.PF_FLAGS_STEPPED = b2n (now.any fun x => x.stepped) % 2 ^ 1 := State.get_put_same _ _ _
    rw [h]
    cases now.any fun x => x.stepped
    · rfl
    · rfl

/-- What a snapshot taken shows, keeps and copies, and that no other trigger, no time and no memory goes with it (R408, R409, R418). -/
theorem pfTake_shows (x : Latched) (t : Nat) (now : List PfTrig) :
    let u := s.pfTake x t now
    u.get Reg.PF_SEQ_SEQ = (s.get Reg.PF_SEQ_SEQ + 1) % 2 ^ 32 ∧
      u.get64 Reg.PF_AT_LO_AT_LO Reg.PF_AT_HI_AT_HI = t / 65536 % 2 ^ 64 ∧ u.get Reg.PF_AT_FRAC_FRAC = t % 65536 ∧ u.pf.busy = true ∧
      u.get Reg.PF_FLAGS_STEPPED = b2n (now.any fun x => x.stepped) ∧ u.pf.trigs = s.pf.trigs ∧ u.pf.recs.map (·.hid) = allUnits ∧
      u.pmc.snap = s.pmc.cnt ∧ u.pmc.cnt = s.pmc.cnt ∧ u.tc = s.tc ∧ u.mem = s.mem := by
  intro u
  let v : State := { (s.pfShow t now).snapCounters with pf := { (s.pfShow t now).snapCounters.pf with bad := x.bad } }
  obtain ⟨hmap, hspent⟩ := latchAll_spent x.ms (fun h => if h < 0x8000 then v.at16 else t) false latchesAtOnce v allUnits
  have hu : u = (v.latchAll x.ms (fun h => if h < 0x8000 then v.at16 else t) false latchesAtOnce allUnits).2.pfStore
      (v.latchAll x.ms (fun h => if h < 0x8000 then v.at16 else t) false latchesAtOnce allUnits).1
      ((now.find? fun x => x.cmd.isSome).getD (now.headD ⟨t, 0, 0, 0, none, 0, false⟩)) := by
    unfold u State.pfTake
    rfl
  clear_value u
  generalize v.latchAll x.ms (fun h => if h < 0x8000 then v.at16 else t) false latchesAtOnce allUnits = r at hmap hspent hu
  obtain ⟨hregs, hpf, hpmc, htc, hmem⟩ := fields_of_spent hspent
  obtain ⟨hseq, hat, hfrac, hflag⟩ := pfShow_get (s := s) t now
  have hget : ∀ f, u.get f = (s.pfShow t now).get f := fun f => by
    rw [hu]
    exact congrArg (fun m => (aget m f.key).getD f.reset) hregs
  have htrigs : r.2.pf.trigs = s.pf.trigs := by rw [hpf]; rfl
  have hsnap : r.2.pmc.snap = s.pmc.cnt := by rw [hpmc]; rfl
  have hcnt : r.2.pmc.cnt = s.pmc.cnt := by rw [hpmc]; rfl
  rw [State.get64, hget, hget, hget, hget, hget, hu]
  exact ⟨hseq, hat, hfrac, rfl, hflag, htrigs, hmap, hsnap, hcnt, htc, hmem⟩

/-- A latch when the earliest instant has come: its triggers are missed, or make one snapshot (R408, R409, R413). -/
theorem pfLatch_latches (x : Latched) {at_ : Nat} (he : earliest s.pf.trigs = some at_) :
    ∃ t, exec (.pfLatch x) s = .next t ∧
      if s.at16 < at_ then t = s
      else
        let now := s.pf.trigs.filter fun x => x.at16 = at_
        let u := { s with pf := { s.pf with trigs := s.pf.trigs.filter fun x => x.at16 ≠ at_ } }
        if s.pf.busy = true ∨ s.pf.held = true then t = now.foldl (fun f x => f.pfMiss x) u
        else t = u.pfTake x at_ now := by
  refine ⟨_, rfl, ?_⟩
  rw [he]
  dsimp only
  split
  · rfl
  · split
    · rfl
    · rfl

/-! ## A snapshot's end -/

/-- The snapshot memory as a handshake's end leaves it. -/
def State.withRecs (s : State) (rs : List PfRec) : State := { s with pf := { s.pf with recs := rs } }

theorem execPfTaken_busy (hbusy : s.pf.busy = true) {x : List PfRec × State}
    (hx : s.latchAll [] (fun _ => s.at16) true (fun h => s.pf.unlatched.contains h) allUnits = x) :
    exec .pfTaken s = .next (x.2.withRecs x.1).pfDone := by
  show Host.Outcome.next (if ¬ s.pf.busy = true then s else _) = _
  rw [if_neg (by simp [hbusy])]
  dsimp only
  rw [hx]
  rfl

theorem pfTaken_ends (hbusy : s.pf.busy = true) : ∃ u : State, exec .pfTaken s = .next u.pfDone ∧ u.regs = s.regs ∧ u.tc = s.tc ∧ u.mem = s.mem ∧
    u.pf.recs.map (·.hid) = allUnits ∧ u.pf.current = s.pf.current ∧
    ∀ r ∈ u.pf.recs, s.pf.unlatched.contains r.hid = false → r = s.oldRec r.hid := by
  obtain ⟨hmap, hspent⟩ := latchAll_spent [] (fun _ => s.at16) true (fun h => s.pf.unlatched.contains h) s allUnits
  have hold := latchAll_old [] (fun _ => s.at16) true (fun h => s.pf.unlatched.contains h) s allUnits
  generalize hx : s.latchAll [] (fun _ => s.at16) true (fun h => s.pf.unlatched.contains h) allUnits = x at hmap hspent hold
  obtain ⟨hregs, hpf, -, htc, hmem⟩ := fields_of_spent hspent
  have hcur : x.2.pf.current = s.pf.current := by rw [hpf]
  exact ⟨x.2.withRecs x.1, execPfTaken_busy hbusy hx, hregs, htc, hmem, hmap, hcur, hold⟩

/-- The record of a unit that has not latched in time (R409). -/
def PfRec.late (s : State) (late : List Nat) (r : PfRec) : PfRec :=
  if late.contains r.hid then
    { r with flags := 32 + 8 * s.get Reg.PF_FLAGS_STEPPED, st := (s.unit r.hid).st, seq := s.get Reg.PF_SEQ_SEQ } else r

theorem late_hid (late : List Nat) (r : PfRec) : (r.late s late).hid = r.hid := by
  unfold PfRec.late
  split
  · rfl
  · rfl

theorem execNoLatch_busy {hids late : List Nat} (hl : (s.pf.unlatched.filter fun h => hids.contains h) = late)
    (hgo : ¬ (¬ s.pf.busy = true ∨ late = [])) {x : List PfRec × State}
    (hx : s.latchAll [] (fun _ => s.at16) true (fun h => (s.pf.unlatched.filter fun h => ! hids.contains h).contains h) allUnits = x) :
    exec (.noLatch hids) s = .next (x.2.withRecs (x.1.map fun r => r.late x.2 late)).pfDone := by
  show Host.Outcome.next (if ¬ s.pf.busy = true ∨ (s.pf.unlatched.filter fun h => hids.contains h) = [] then s else _) = _
  rw [hl, if_neg hgo]
  dsimp only
  rw [hx]
  rfl

theorem noLatch_ends {hids : List Nat} (hbusy : s.pf.busy = true) (hlate : ∃ h ∈ s.pf.unlatched, hids.contains h = true) :
    ∃ u : State, exec (.noLatch hids) s = .next u.pfDone ∧ u.regs = s.regs ∧ u.tc = s.tc ∧ u.mem = s.mem ∧
      u.pf.recs.map (·.hid) = allUnits ∧ ∀ r ∈ u.pf.recs, r.hid ∈ s.pf.unlatched → hids.contains r.hid = true →
        r.content = (s.oldRec r.hid).content ∧ r.flags = 32 + 8 * s.get Reg.PF_FLAGS_STEPPED ∧ r.seq = s.get Reg.PF_SEQ_SEQ := by
  have hnow : ∀ h, hids.contains h = true → (s.pf.unlatched.filter fun h => ! hids.contains h).contains h = false := by
    intro h hhid
    rw [← Bool.not_eq_true, List.contains_iff_mem, List.mem_filter, hhid]
    exact fun h => Bool.false_ne_true h.2
  obtain ⟨hmap, hspent⟩ := latchAll_spent [] (fun _ => s.at16) true
    (fun h => (s.pf.unlatched.filter fun h => ! hids.contains h).contains h) s allUnits
  have hold := latchAll_old [] (fun _ => s.at16) true (fun h => (s.pf.unlatched.filter fun h => ! hids.contains h).contains h) s allUnits
  generalize hx : s.latchAll [] (fun _ => s.at16) true (fun h => (s.pf.unlatched.filter fun h => ! hids.contains h).contains h) allUnits = x
    at hmap hspent hold
  generalize hl : (s.pf.unlatched.filter fun h => hids.contains h) = late
  have hgo : ¬ (¬ s.pf.busy = true ∨ late = []) := by
    obtain ⟨h, hin, hhid⟩ := hlate
    have hmem : h ∈ late := hl ▸ List.mem_filter.2 ⟨hin, hhid⟩
    simp [hbusy, List.ne_nil_of_mem hmem]
  obtain ⟨hregs, -, -, htc, hmem⟩ := fields_of_spent hspent
  refine ⟨_, execNoLatch_busy hl hgo hx, hregs, htc, hmem, ?_, ?_⟩
  · show (x.1.map fun r => r.late x.2 late).map (·.hid) = allUnits
    rw [List.map_map, ← hmap]
    exact List.map_congr_left fun r _ => late_hid late r
  · intro r hr hin hhid
    obtain ⟨r0, hr0, rfl⟩ := List.mem_map.1 hr
    rw [late_hid] at hin hhid ⊢
    have hislate : late.contains r0.hid = true := List.contains_iff_mem.2 (hl ▸ List.mem_filter.2 ⟨hin, hhid⟩)
    have hget : ∀ f, x.2.get f = s.get f := fun f => by rw [State.get, State.get, hregs]
    rw [← hold r0 hr0 (hnow _ hhid), PfRec.late, if_pos hislate, hget, hget]
    exact ⟨rfl, rfl, rfl⟩

end

/-- Settles O39: PF_SNAPSHOT by its refusals, the pin, the latch of the earliest instant, and the two ways a snapshot ends. -/
theorem snapshots : Obligations.Snapshots := by
  unfold Obligations.Snapshots
  intro s
  refine ⟨fun c at16 system addr hr => ⟨_, rfl, pfSnapshot_ends at16 system addr hr⟩, fun falling => ?_, fun x => ?_, ?_, fun hids => ?_⟩
  · have hedge : (if falling = true then 1 else 0) = b2n falling := rfl
    rw [hedge]
    by_cases h : s.get Reg.PF_CTRL_SRC_PIN = 1 ∧ s.get Reg.PF_CTRL_PIN_EDGE = b2n falling ∧ s.lapsRun = true
    · refine ⟨_, congrArg Host.Outcome.next (if_pos h), ?_⟩
      rw [if_pos h]
      exact pfTrig_taken s
    · refine ⟨_, congrArg Host.Outcome.next (if_neg h), ?_⟩
      rw [if_neg h]
  · cases he : earliest s.pf.trigs with
    | none =>
      have hempty := earliest_spec s.pf.trigs
      rw [he] at hempty
      refine ⟨s, ?_, fun _ => rfl, fun at_ hex => ?_⟩
      · show Host.Outcome.next _ = _
        rw [he]
      · rw [hempty] at hex
        obtain ⟨x, hx, -⟩ := hex
        exact absurd hx List.not_mem_nil
    | some b =>
      obtain ⟨t, ht, hcases⟩ := pfLatch_latches x he
      refine ⟨t, ht, fun hempty => ?_, fun at_ hex hmin => ?_⟩
      · rw [hempty] at he
        cases he
      obtain rfl : b = at_ := Option.some.inj (he.symm.trans (earliest_eq hex hmin))
      split
      · next h => rwa [if_pos h] at hcases
      · next h =>
        rw [if_neg h] at hcases
        intro now u
        split
        · next hbusy => rwa [if_pos hbusy] at hcases
        · next hfree =>
          rw [if_neg hfree] at hcases
          have hshows := pfTake_shows (s := u) x b now
          rw [show u.pfTake x b now = t from hcases.symm] at hshows
          exact hshows
  · by_cases hbusy : s.pf.busy = true
    · obtain ⟨u, hu, hrest⟩ := pfTaken_ends hbusy
      refine ⟨_, hu, ?_⟩
      rw [if_neg (by simp [hbusy])]
      exact ⟨u, rfl, hrest⟩
    · refine ⟨_, congrArg Host.Outcome.next (if_pos hbusy), ?_⟩
      rw [if_pos (by simpa using hbusy)]
  · by_cases hgo : s.pf.busy = true ∧ ∃ h ∈ s.pf.unlatched, hids.contains h = true
    · obtain ⟨u, hu, hrest⟩ := noLatch_ends hgo.1 hgo.2
      refine ⟨_, hu, ?_⟩
      rw [if_neg (by simpa using hgo)]
      exact ⟨u, rfl, hrest⟩
    · have hstays : s.pf.busy = false ∨ ∀ h ∈ s.pf.unlatched, hids.contains h = false := by
        by_cases hb : s.pf.busy = true
        · refine .inr fun h hin => ?_
          rw [← Bool.not_eq_true]
          exact fun hhid => hgo ⟨hb, h, hin, hhid⟩
        · exact .inl (by simpa using hb)
      have hnone : ¬ s.pf.busy = true ∨ (s.pf.unlatched.filter fun h => hids.contains h) = [] :=
        hstays.imp (fun h => by simp [h]) fun h => List.filter_eq_nil_iff.2 fun a ha => by rw [h a ha]; exact Bool.false_ne_true
      refine ⟨_, congrArg Host.Outcome.next (if_pos hnone), ?_⟩
      rw [if_pos hstays]

end Sys2Proof.Machine
end

section
/-! PROOFS. The discipline's commands and what time does to it (R62, R115, R121 to R123, R131, R137, R138): what publishing a bound, making an
anchor and showing the model write and leave, and the model's seconds. -/

namespace Sys2Proof.Machine

section

variable (s : State)

/-! ## What the discipline shows -/

/-- The fields that follow the state and the bound. -/
def shownKeys : List Nat :=
  [Reg.HOB_TRACE_TRACE.key, Reg.HOB_STATUS_CC_DEFAULT.key, Reg.HOB_STATUS_CC_TELECOM.key, Reg.HOB_STATUS_MODEL_VALID.key,
    Reg.HOB_STICKY_MODEL_VALID.key, Reg.HOB_STATUS_SETTLING.key]

/-- The fields a bound is published in. -/
def tebKeys : List Nat := [Reg.HOB_TEB_TEB.key, Reg.HOB_STATUS_TEB_SAT.key, Reg.HOB_STICKY_TEB_SAT.key] ++ shownKeys

/-- The fields of an anchor. -/
def anchorKeys : List Nat :=
  [Reg.HOB_T0_LO_T0_LO.key, Reg.HOB_T0_HI_T0_HI.key, Reg.HOB_TEB0_TEB0.key, Reg.HOB_UY_USE_UY.key, Reg.HOB_AMAX_USE_AMAX.key,
    Reg.HOB_W_USE_W.key, Reg.HOB_STATUS_ATOMIC_USE.key]

/-- The fields the model is shown in. -/
def modelKeys : List Nat :=
  [Reg.HOB_MODEL_RATE_LO_R_LO.key, Reg.HOB_MODEL_RATE_HI_R_HI.key, Reg.HOB_MODEL_DRIFT_DRIFT.key, Reg.HOB_MODEL_SRC_LANE.key,
    Reg.HOB_MODEL_SRC_ATOMIC.key, Reg.HOB_MODEL_SRC_VALID.key, Reg.HOB_MODEL_SRC_DRIFT_FITTED.key, Reg.HOB_MODEL_UY_UY.key,
    Reg.HOB_FIT_AT_LO_FA_LO.key, Reg.HOB_FIT_AT_HI_FA_HI.key]

theorem ne_of_notMem {f : Fld} {ks : List Nat} (h : f.key ∉ ks) {k : Nat} (hk : k ∈ ks) : f.key ≠ k := fun e => h (e ▸ hk)

theorem get_put64_ne {lo hi f : Fld} (v : Nat) (hlo : f.key ≠ lo.key) (hhi : f.key ≠ hi.key) : (s.put64 lo hi v).get f = s.get f :=
  (State.get_put_ne _ _ hhi).trans (State.get_put_ne _ _ hlo)

/-- What an event writes: its sticky bit and the bookkeeping. -/
theorem get_raise_sticky {e : Ev} {items : List Item} {role : Nat} {f g : Fld} {k : Nat} (he : e.sticky = some (g, k))
    (hb : f.key ∉ bookkeeping) (hg : f.key ≠ g.key) : (s.raise e items role).get f = s.get f :=
  get_raise s hb fun p hp => by
    obtain rfl : (g, k) = p := Option.some.inj (he.symm.trans hp)
    exact hg

theorem evHob_raised {k role : Nat} {sev : Sev} {items : List Item} (hw : (hobSticky k).width = 1) (hb : (hobSticky k).key ∉ bookkeeping) :
    (s.raise (evHob k sev) items role).get (hobSticky k) = 1 := by
  rw [sticky_raise s (e := evHob k sev) rfl hb, hw, pow_one, setBit_zero_odd]

/-- What showing the model's validity leaves: time, timers, the model itself and every other scalar. -/
theorem showValid_keeps : s.showValid.tc = s.tc ∧ s.showValid.timers = s.timers ∧ s.showValid.disc = s.disc ∧
    ∀ v ∉ bookVars, s.showValid.var v = s.var v :=
  ⟨view_ite State.tc (raise_tc _ _ _ _) rfl, view_ite State.timers (raise_timers _ _ _ _) rfl, view_ite State.disc (raise_disc _ _ _ _) rfl,
    fun v hv => view_ite (fun u : State => u.var v) (var_raise _ hv) rfl⟩

theorem get_showValid {f : Fld} (hb : f.key ∉ bookkeeping) (hv : f.key ≠ Reg.HOB_STATUS_MODEL_VALID.key)
    (hs : f.key ≠ Reg.HOB_STICKY_MODEL_VALID.key) : s.showValid.get f = s.get f :=
  view_ite (fun u : State => u.get f) ((get_raise_sticky _ rfl hb hs).trans (State.get_put_ne _ _ hv)) (State.get_put_ne _ _ hv)

theorem showValid_shows : s.showValid.get Reg.HOB_STATUS_MODEL_VALID = b2n s.modelValid := by
  have hput : (s.putB Reg.HOB_STATUS_MODEL_VALID s.modelValid).get Reg.HOB_STATUS_MODEL_VALID = b2n s.modelValid := by
    rw [State.putB, State.get_put_same]
    cases s.modelValid
    · rfl
    · rfl
  unfold State.showValid
  extract_lets first u
  split
  · exact (get_raise_sticky _ rfl (by decide) (by decide)).trans hput
  · exact hput

theorem showDisc_keeps : s.showDisc.tc = s.tc ∧ s.showDisc.timers = s.timers ∧ s.showDisc.disc = s.disc ∧
    ∀ v ∉ bookVars, s.showDisc.var v = s.var v := by
  unfold State.showDisc
  extract_lets u1 u2 u3
  exact showValid_keeps u2

theorem get_showDisc {f : Fld} (hb : f.key ∉ bookkeeping) (h : f.key ∉ shownKeys) : s.showDisc.get f = s.get f := by
  unfold State.showDisc
  extract_lets u1 u2 u3
  have h1 : u1.get f = s.get f := State.get_put_ne _ _ (ne_of_notMem h (by decide))
  have h2 : u2.get f = u1.get f := (State.get_put_ne _ _ (ne_of_notMem h (by decide))).trans (State.get_put_ne _ _ (ne_of_notMem h (by decide)))
  have h3 : u3.get f = u2.get f := get_showValid u2 hb (ne_of_notMem h (by decide)) (ne_of_notMem h (by decide))
  exact (State.get_put_ne _ _ (ne_of_notMem h (by decide))).trans (h3.trans (h2.trans h1))

theorem showDisc_shows : s.showDisc.get Reg.HOB_STATUS_MODEL_VALID = b2n s.modelValid := by
  unfold State.showDisc
  extract_lets u1 u2 u3
  have hvalid : u2.modelValid = s.modelValid := by
    have hget : u2.get Reg.HOB_LOCK_HIST_SECONDS = s.get Reg.HOB_LOCK_HIST_SECONDS :=
      (State.get_put_ne _ _ (by decide)).trans ((State.get_put_ne _ _ (by decide)).trans (State.get_put_ne _ _ (by decide)))
    rw [State.modelValid, State.modelValid, hget]
  exact (State.get_put_ne _ _ (by decide)).trans ((showValid_shows u2).trans (congrArg b2n hvalid))

/-! ## Bounds and anchors -/

theorem publishTeb_keeps (x : Nat) : (s.publishTeb x).tc = s.tc ∧ (s.publishTeb x).timers = s.timers ∧
    ∀ v ∉ bookVars, (s.publishTeb x).var v = s.var v := by
  unfold State.publishTeb
  extract_lets u
  obtain ⟨htc, htimers, -, hvars⟩ := showDisc_keeps ((s.put Reg.HOB_TEB_TEB (tebSat x)).putB Reg.HOB_STATUS_TEB_SAT (decide (2 ^ 32 ≤ x)))
  exact ⟨(view_ite State.tc (raise_tc u _ _ _) rfl).trans htc, (view_ite State.timers (raise_timers u _ _ _) rfl).trans htimers,
    fun v hv => (view_ite (fun w : State => w.var v) (s := u) (var_raise _ hv) rfl).trans (hvars v hv)⟩

theorem get_publishTeb (x : Nat) {f : Fld} (hb : f.key ∉ bookkeeping) (h : f.key ∉ tebKeys) : (s.publishTeb x).get f = s.get f := by
  have hshown : f.key ∉ shownKeys := fun hk => h (List.mem_append_right _ hk)
  unfold State.publishTeb
  extract_lets u
  have hu : u.get f = s.get f := (get_showDisc _ hb hshown).trans
    ((State.get_put_ne _ _ (ne_of_notMem h (by decide))).trans (State.get_put_ne _ _ (ne_of_notMem h (by decide))))
  exact (view_ite (fun w : State => w.get f) (s := u) (get_raise_sticky _ rfl hb (ne_of_notMem h (by decide))) rfl).trans hu

/-- A saturated bound shows all ones, TEB_SAT and its sticky bit (R131, R138). -/
theorem publishTeb_saturated {x : Nat} (hx : 2 ^ 32 ≤ x) : (s.publishTeb x).get Reg.HOB_TEB_TEB = 2 ^ 32 - 1 ∧
    (s.publishTeb x).get Reg.HOB_STATUS_TEB_SAT = 1 ∧ (s.publishTeb x).get Reg.HOB_STICKY_TEB_SAT = 1 := by
  have hsat : tebSat x = 2 ^ 32 - 1 := by rw [tebSat]; omega
  unfold State.publishTeb
  rw [if_pos hx, hsat, decide_eq_true hx]
  refine ⟨?_, ?_, evHob_raised _ (k := 3) rfl (by decide)⟩
  · rw [get_raise_sticky _ (e := evHob 3 .error) rfl (by decide) (by decide), get_showDisc _ (by decide) (by decide), State.putB,
      State.get_put_ne _ _ (by decide), State.get_put_same]
    rfl
  · rw [get_raise_sticky _ (e := evHob 3 .error) rfl (by decide) (by decide), get_showDisc _ (by decide) (by decide), State.putB,
      State.get_put_same]
    rfl

theorem get_anchor (t0 teb0 : Nat) (src uy : Option Nat) {f : Fld} (h : f.key ∉ anchorKeys) : (s.anchor t0 teb0 src uy).get f = s.get f := by
  unfold State.anchor
  extract_lets par u u1 u2 u3
  have h1 : u1.get f = s.get f := (State.get_put_ne _ _ (ne_of_notMem h (by decide))).trans
    (get_put64_ne _ _ (ne_of_notMem h (by decide)) (ne_of_notMem h (by decide)))
  have h2 : u2.get f = u1.get f := (State.get_put_ne _ _ (ne_of_notMem h (by decide))).trans
    ((State.get_put_ne _ _ (ne_of_notMem h (by decide))).trans (State.get_put_ne _ _ (ne_of_notMem h (by decide))))
  exact (State.get_put_ne u3 _ (ne_of_notMem h (by decide))).trans (h2.trans h1)

/-- An anchor's instant and its bound (R127). -/
theorem anchor_shows {t0 : Nat} (ht0 : t0 < 2 ^ 64) (teb0 : Nat) (src uy : Option Nat) :
    (s.anchor t0 teb0 src uy).get64 Reg.HOB_T0_LO_T0_LO Reg.HOB_T0_HI_T0_HI = t0 ∧
      (s.anchor t0 teb0 src uy).get Reg.HOB_TEB0_TEB0 = tebSat teb0 % 2 ^ 32 := by
  unfold State.anchor
  extract_lets par u u1 u2 u3
  have h2 : ∀ f : Fld, f.key ≠ Reg.HOB_STATUS_ATOMIC_USE.key → f.key ≠ Reg.HOB_W_USE_W.key → f.key ≠ Reg.HOB_AMAX_USE_AMAX.key →
      f.key ≠ Reg.HOB_UY_USE_UY.key → (u3.putB Reg.HOB_STATUS_ATOMIC_USE src.isSome).get f = u1.get f := fun f k1 k2 k3 k4 =>
    (State.get_put_ne u3 _ k1).trans ((State.get_put_ne _ _ k2).trans ((State.get_put_ne _ _ k3).trans (State.get_put_ne _ _ k4)))
  refine ⟨?_, ?_⟩
  · rw [State.get64, h2 _ (by decide) (by decide) (by decide) (by decide), h2 _ (by decide) (by decide) (by decide) (by decide),
      State.get_put_ne _ _ (by decide), State.get_put_ne _ _ (by decide)]
    exact put64_regs_get64 s (by decide) rfl rfl ht0
  · rw [h2 _ (by decide) (by decide) (by decide) (by decide)]
    exact State.get_put_same _ _ _

theorem dropSource_keeps : s.dropSource.tc = s.tc ∧ s.dropSource.timers = s.timers ∧ (∀ v, v ≠ .holdSrc → s.dropSource.var v = s.var v) ∧
    ∀ f : Fld, f.key ≠ Reg.HOB_STATUS_ATOMIC_USE.key → s.dropSource.get f = s.get f :=
  ⟨view_ite State.tc rfl rfl, view_ite State.timers rfl rfl, fun v hv => view_ite (fun u : State => u.var v) rfl (State.var_setVar_ne _ _ hv),
    fun f hf => view_ite (fun u : State => u.get f) rfl (State.get_put_ne _ _ hf)⟩

/-! ## TIME_RESET -/

/-- A step armed, the loop to settle again, and no lane that holds the bound's phase (R62, R115, R132). -/
def State.unsettle (s : State) : State :=
  ((((s.put Reg.TCO_STATUS_STEP_ARMED 1).setVar .settled 0).stopTimer .settle).setVar .phaseLane 0).setVar .traceRec 0

/-- The anchor of a saturated bound at the present, which is a FREQUENCY lane's too (R130, R131). -/
def State.saturate (s : State) (src : Option Nat) : State :=
  ((s.setVar .freezeTeb (2 ^ 32 - 1 : Nat)).anchor s.linear (2 ^ 32 - 1) src none).noteFreq

/-- TIME_RESET up to the bound it publishes (R62, R131). -/
def State.resetAnchor (s : State) : State :=
  (s.unsettle.saturate s.unsettle.modelSource).dropSource.put Reg.HOB_STATUS_ANCHORED 1

theorem timeResetEff_eq (role : Nat) : timeResetEff role s =
    ⟨(s.resetAnchor.publishTeb (2 ^ 32)).change role 0x0000 0x0201 noOffset 0 0, some Status.ok, 0⟩ := rfl

theorem unsettle_shows : s.unsettle.tc = s.tc ∧ s.unsettle.get Reg.TCO_STATUS_STEP_ARMED = 1 ∧ s.unsettle.var .settled = 0 ∧
    s.unsettle.timer .settle = none ∧ ∀ f : Fld, f.key ≠ Reg.TCO_STATUS_STEP_ARMED.key → s.unsettle.get f = s.get f := by
  refine ⟨rfl, State.get_put_same _ _ _, ?_, State.timer_stopTimer_same _ _, fun f hf => State.get_put_ne _ _ hf⟩
  rw [State.unsettle, State.var_setVar_ne _ _ (by decide), State.var_setVar_ne _ _ (by decide)]
  exact State.var_setVar_same _ _ _

theorem get_saturate (src : Option Nat) {f : Fld} (h : f.key ∉ anchorKeys) : (s.saturate src).get f = s.get f :=
  get_anchor (s.setVar .freezeTeb (2 ^ 32 - 1 : Nat)) s.linear (2 ^ 32 - 1) src none h

theorem saturate_shows (src : Option Nat) : (s.saturate src).tc = s.tc ∧ (s.saturate src).timers = s.timers ∧
    (s.saturate src).var .settled = s.var .settled ∧ (s.saturate src).get64 Reg.HOB_T0_LO_T0_LO Reg.HOB_T0_HI_T0_HI = s.linear ∧
    (s.saturate src).get Reg.HOB_TEB0_TEB0 = 2 ^ 32 - 1 := by
  obtain ⟨hat, hteb⟩ := anchor_shows (s.setVar .freezeTeb (2 ^ 32 - 1 : Nat)) (t0 := s.linear) (Nat.mod_lt _ (by decide)) (2 ^ 32 - 1) src none
  refine ⟨rfl, rfl, ?_, hat, hteb⟩
  rw [State.saturate, State.noteFreq, State.var_setVar_ne _ _ (by decide), State.var_setVar_ne _ _ (by decide)]
  exact (State.var_setVar_ne _ _ (by decide)).trans (State.var_setVar_ne _ _ (by decide))

theorem get_resetAnchor {f : Fld} (hf : f.key ≠ Reg.HOB_STATUS_ANCHORED.key) (hu : f.key ≠ Reg.HOB_STATUS_ATOMIC_USE.key) :
    s.resetAnchor.get f = (s.unsettle.saturate s.unsettle.modelSource).get f := by
  obtain ⟨-, -, -, hdrop⟩ := dropSource_keeps (s.unsettle.saturate s.unsettle.modelSource)
  exact (State.get_put_ne _ _ hf).trans (hdrop f hu)

theorem resetAnchor_shows : s.resetAnchor.tc = s.tc ∧ s.resetAnchor.get Reg.TCO_STATUS_STEP_ARMED = 1 ∧
    s.resetAnchor.get Reg.HOB_TEB0_TEB0 = 2 ^ 32 - 1 ∧
    s.resetAnchor.get64 Reg.HOB_T0_LO_T0_LO Reg.HOB_T0_HI_T0_HI = s.linear ∧ s.resetAnchor.get Reg.HOB_STATUS_ANCHORED = 1 ∧
    s.resetAnchor.var .settled = 0 ∧ s.resetAnchor.timer .settle = none ∧
    s.resetAnchor.get Reg.HOB_STATUS_STATE = s.get Reg.HOB_STATUS_STATE := by
  obtain ⟨htc, harmed, hsettled, htimer, hget⟩ := unsettle_shows s
  obtain ⟨hatc, htimers, hvar, hat, hteb⟩ := saturate_shows s.unsettle s.unsettle.modelSource
  obtain ⟨hdtc, hdtimers, hdvar, -⟩ := dropSource_keeps (s.unsettle.saturate s.unsettle.modelSource)
  refine ⟨hdtc.trans (hatc.trans htc), ?_, ?_, ?_, State.get_put_same _ _ _, (hdvar _ (by decide)).trans (hvar.trans hsettled), ?_, ?_⟩
  · rw [get_resetAnchor _ (by decide) (by decide), get_saturate _ _ (by decide), harmed]
  · rw [get_resetAnchor _ (by decide) (by decide), hteb]
  · rw [State.get64, get_resetAnchor _ (by decide) (by decide), get_resetAnchor _ (by decide) (by decide)]
    exact hat
  · exact (congrArg (fun m => aget m Tm.settle) (hdtimers.trans htimers)).trans htimer
  · rw [get_resetAnchor _ (by decide) (by decide), get_saturate _ _ (by decide), hget _ (by decide)]

/-- What TIME_RESET leaves to be completed. -/
theorem timeReset_shows : let t := s.resetAnchor.publishTeb (2 ^ 32)
    t.tc = s.tc ∧ t.get Reg.TCO_STATUS_STEP_ARMED = 1 ∧
      t.get Reg.HOB_TEB_TEB = 2 ^ 32 - 1 ∧ t.get Reg.HOB_STATUS_TEB_SAT = 1 ∧ t.get Reg.HOB_STICKY_TEB_SAT = 1 ∧
      t.get Reg.HOB_TEB0_TEB0 = 2 ^ 32 - 1 ∧ t.get64 Reg.HOB_T0_LO_T0_LO Reg.HOB_T0_HI_T0_HI = s.linear ∧
      t.get Reg.HOB_STATUS_ANCHORED = 1 ∧ t.var .settled = 0 ∧ t.timer .settle = none ∧
      t.get Reg.HOB_STATUS_STATE = s.get Reg.HOB_STATUS_STATE := by
  obtain ⟨htc, harmed, hteb0, hat, hanchored, hsettled, htimer, hstate⟩ := resetAnchor_shows s
  obtain ⟨hteb, hsat, hsticky⟩ := publishTeb_saturated s.resetAnchor (Nat.le_refl (2 ^ 32))
  obtain ⟨hptc, hptimers, hpvar⟩ := publishTeb_keeps s.resetAnchor (2 ^ 32)
  intro t
  have hget : ∀ f : Fld, f.key ∉ bookkeeping → f.key ∉ tebKeys → t.get f = s.resetAnchor.get f := fun f => get_publishTeb _ _
  refine ⟨hptc.trans htc, ?_, hteb, hsat, hsticky, ?_, ?_, ?_, (hpvar _ (by decide)).trans hsettled, ?_, ?_⟩
  · rw [hget _ (by decide) (by decide), harmed]
  · rw [hget _ (by decide) (by decide), hteb0]
  · rw [State.get64, hget _ (by decide) (by decide), hget _ (by decide) (by decide)]
    exact hat
  · rw [hget _ (by decide) (by decide), hanchored]
  · rw [State.timer, hptimers]
    exact htimer
  · rw [hget _ (by decide) (by decide), hstate]

/-! ## MODEL_RESET -/

theorem get_showModel (src : Option Nat) {f : Fld} (h : f.key ∉ modelKeys) : (s.showModel src).get f = s.get f := by
  unfold State.showModel
  extract_lets a par u1 u2 u3 u4
  have h1 : u1.get f = s.get f := get_put64_ne _ _ (ne_of_notMem h (by decide)) (ne_of_notMem h (by decide))
  have h2 : u2.get f = u1.get f := (State.get_put_ne _ _ (ne_of_notMem h (by decide))).trans (State.get_put_ne _ _ (ne_of_notMem h (by decide)))
  have h3 : u3.get f = u2.get f := (State.get_put_ne _ _ (ne_of_notMem h (by decide))).trans (State.get_put_ne _ _ (ne_of_notMem h (by decide)))
  have h4 : u4.get f = u3.get f := (State.get_put_ne _ _ (ne_of_notMem h (by decide))).trans (State.get_put_ne _ _ (ne_of_notMem h (by decide)))
  exact (get_put64_ne _ _ (ne_of_notMem h (by decide)) (ne_of_notMem h (by decide))).trans (h4.trans (h3.trans (h2.trans h1)))

/-- The models and the seconds of lock forgotten, and shown so (R137). -/
def State.forgetModel (s : State) : State :=
  (({ (s.setVar .shadowOn 0) with disc := ⟨{}, []⟩ } : State).put Reg.HOB_LOCK_HIST_SECONDS 0).showModel none

theorem modelResetEff_eq (role : Nat) : modelResetEff role s =
    if s.get Reg.HOB_STATUS_STATE = 3 ∨ s.get Reg.HOB_STATUS_STATE = 4 ∨ (s.get Reg.HOB_STATUS_STATE = 1 ∧ s.selKind = 0)
    then ⟨s, some Status.busy, 0⟩
    else ⟨((s.forgetModel.raise (evHob 4 .warning) [i1 role] role).showDisc).change role 0x0500 0x0402 noOffset 0 0, some Status.ok, 0⟩ := rfl

theorem modelReset_shows (role : Nat) : let t := (s.forgetModel.raise (evHob 4 .warning) [i1 role] role).showDisc
    t.disc = ⟨{}, []⟩ ∧ t.get Reg.HOB_LOCK_HIST_SECONDS = 0 ∧ t.get Reg.HOB_STATUS_MODEL_VALID = 0 ∧
      t.get Reg.HOB_STICKY_MODEL_RESET = 1 ∧ t.tc = s.tc ∧ t.get Reg.HOB_STATUS_STATE = s.get Reg.HOB_STATUS_STATE := by
  intro t
  obtain ⟨htc, -, hdisc, -⟩ := showDisc_keeps (s.forgetModel.raise (evHob 4 .warning) [i1 role] role)
  have hget : ∀ f : Fld, f.key ∉ bookkeeping → f.key ∉ shownKeys →
      t.get f = (s.forgetModel.raise (evHob 4 .warning) [i1 role] role).get f := fun f => get_showDisc _
  have hraise : ∀ f : Fld, f.key ∉ bookkeeping → f.key ≠ Reg.HOB_STICKY_MODEL_RESET.key → f.key ∉ modelKeys →
      (s.forgetModel.raise (evHob 4 .warning) [i1 role] role).get f = (s.put Reg.HOB_LOCK_HIST_SECONDS 0).get f := fun f hb hs hm =>
    (get_raise_sticky s.forgetModel (e := evHob 4 .warning) rfl hb hs).trans (get_showModel _ none hm)
  have hlock : (s.forgetModel.raise (evHob 4 .warning) [i1 role] role).get Reg.HOB_LOCK_HIST_SECONDS = 0 := by
    rw [hraise _ (by decide) (by decide) (by decide)]
    exact State.get_put_same _ _ _
  have hinvalid : (s.forgetModel.raise (evHob 4 .warning) [i1 role] role).modelValid = false := by
    rw [State.modelValid, hlock]
    rfl
  refine ⟨hdisc.trans (raise_disc _ _ _ _), ?_, ?_, ?_, htc.trans (raise_tc _ _ _ _), ?_⟩
  · rw [hget _ (by decide) (by decide), hlock]
  · exact (showDisc_shows _).trans (congrArg b2n hinvalid)
  · rw [hget _ (by decide) (by decide)]
    exact evHob_raised _ (k := 4) rfl (by decide)
  · rw [hget _ (by decide) (by decide), hraise _ (by decide) (by decide) (by decide)]
    exact State.get_put_ne _ _ (by decide)

/-! ## TEB_PREDICT -/

/-- A saturated anchor stands for a sum that no term brings back below saturation (R131). -/
theorem tebSat_tebAnchored (uy amax w t : Nat) :
    tebSat (tebAnchored s.teb0 uy amax w t) = min (tebAnchored (s.get Reg.HOB_TEB0_TEB0) uy amax w t) (2 ^ 32 - 1) := by
  unfold tebSat tebAnchored State.teb0
  split
  · next h => rw [h]; omega
  · rfl

/-- What of a state TEB_PREDICT reads, a fetch leaves. -/
theorem boundReads_fetch (c : Ctx) : (s.fetch c).boundAnchored = s.boundAnchored ∧ (s.fetch c).t0 = s.t0 := by
  obtain ⟨h, r, e⟩ := fetch_eq s c
  rw [e]
  exact ⟨rfl, rfl⟩

/-- The bound TEB_PREDICT answers in an anchored state (R137). -/
def State.predicted (s : State) (tau : Nat) : Nat :=
  min (tebAnchored (s.get Reg.HOB_TEB0_TEB0) (s.get Reg.HOB_UY_USE_UY) (s.get Reg.HOB_AMAX_USE_AMAX) (s.get Reg.HOB_W_USE_W)
    ((linDiff s.linear s.t0).toNat + tau * 1000000000)) (2 ^ 32 - 1)

theorem tebPredictEff_anchored (hb : s.boundAnchored = true) {tau : Nat} (htau : ¬ (tau < 1 ∨ 31536000 < tau)) (role : Nat) :
    ∃ secs, tebPredictEff tau role s = ⟨s, some Status.ok, s.predicted tau + 2 ^ 32 * secs⟩ := by
  unfold tebPredictEff State.predictAnchor
  rw [if_neg htau, if_pos hb]
  dsimp only
  rw [tebSat_tebAnchored]
  exact ⟨_, rfl⟩

/-! ## The model's seconds -/

/-- The lanes' sums of q_H begun anew for some lanes. -/
def State.clearSums (s : State) (l : List Nat) : State := l.foldl (fun s n => s.setLane n { s.lane n with qSum := 0, qCnt := 0 }) s

theorem lane_setLane (n m : Nat) (r : LaneRec) : (s.setLane n r).lane m = if m = n then r else s.lane m := by
  unfold State.lane State.setLane
  split
  · next h => rw [h, aget_aput_same]; rfl
  · next h => rw [aget_aput_ne _ _ h]

theorem clearSums_lane (l : List Nat) (n : Nat) :
    (s.clearSums l).lane n = if n ∈ l then { s.lane n with qSum := 0, qCnt := 0 } else s.lane n := by
  induction l generalizing s with
  | nil => rfl
  | cons m l ih =>
    have hcons : s.clearSums (m :: l) = (s.setLane m { s.lane m with qSum := 0, qCnt := 0 }).clearSums l := rfl
    rw [hcons, ih, lane_setLane]
    by_cases hm : n = m
    · subst hm
      simp
    · simp [hm]

theorem clearSums_keeps (l : List Nat) : (s.clearSums l).tc = s.tc ∧ (s.clearSums l).regs = s.regs :=
  ⟨view_foldl State.tc (f := fun s n => s.setLane n { s.lane n with qSum := 0, qCnt := 0 }) (fun _ _ => rfl) s l,
    view_foldl State.regs (f := fun s n => s.setLane n { s.lane n with qSum := 0, qCnt := 0 }) (fun _ _ => rfl) s l⟩

/-- A second of the model begun: its start noted, the sums of q_H empty, and nothing else of time or registers touched (R122, R123). -/
theorem beginSecond_shows : s.beginSecond.var .secOn = 1 ∧ s.beginSecond.var .secEdges = s.tc.edges ∧
    s.beginSecond.var .secAdj = s.tc.adjSum ∧ s.beginSecond.var .secAt = s.runNs ∧
    s.beginSecond.timer .modelSec = some (s.runNs + 1000000000) ∧ s.beginSecond.regs = s.regs ∧ s.beginSecond.tc = s.tc ∧
    ∀ n, n < 16 → s.beginSecond.lane n = { s.lane n with qSum := 0, qCnt := 0 } := by
  obtain ⟨htc, hregs⟩ := clearSums_keeps s allLanes
  have hlanes := clearSums_lane s allLanes
  have hb : s.beginSecond = (((((s.clearSums allLanes).setVar .secEdges (s.clearSums allLanes).tc.edges).setVar .secAdj
    (s.clearSums allLanes).tc.adjSum).setVar .secAt (s.clearSums allLanes).runNs).setVar .secOn 1).arm .modelSec secNs := rfl
  rw [hb]
  generalize s.clearSums allLanes = u at htc hregs hlanes
  have hrun : u.runNs = s.runNs := by rw [State.runNs, htc]; rfl
  rw [hrun, htc]
  generalize hw : (((u.setVar .secEdges s.tc.edges).setVar .secAdj s.tc.adjSum).setVar .secAt s.runNs) = w
  have hwtc : w.tc = s.tc := by rw [← hw]; exact htc
  refine ⟨State.var_setVar_same w _ _, ?_, ?_, ?_, ?_, ?_, hwtc, fun n hn => ?_⟩
  · exact (State.var_setVar_ne w _ (by decide)).trans (by
      rw [← hw, State.var_setVar_ne _ _ (by decide), State.var_setVar_ne _ _ (by decide), State.var_setVar_same])
  · exact (State.var_setVar_ne w _ (by decide)).trans (by rw [← hw, State.var_setVar_ne _ _ (by decide), State.var_setVar_same])
  · exact (State.var_setVar_ne w _ (by decide)).trans (by rw [← hw, State.var_setVar_same])
  · rw [State.arm, State.timer_setTimer_same, State.runNs, State.setVar_tc, hwtc]
    rfl
  · exact (congrArg State.regs hw.symm).trans hregs
  · have hlane : w.lane n = u.lane n := by rw [← hw]; rfl
    exact hlane.trans ((hlanes n).trans (if_pos (List.mem_range.2 hn)))

theorem modelRefit_cases : ∃ t, exec .modelRefit s = .next t ∧
    if s.get Reg.HOB_STATUS_STATE ≠ 2 ∨ s.get Reg.TIM_STATUS_WARMING = 1 then t = s.setVar .secOn 0
    else if s.var .secOn = 0 then t = s.beginSecond
    else if s.due .modelSec then
      let mean := roundDiv (s.tc.adjSum - s.var .secAdj) (25 * (s.tc.edges - (s.var .secEdges).toNat : Nat))
      let made := s.recordSecond mean ((s.var .secAt).toNat + 500000000)
      let counted := made.bumpSat Reg.HOB_LOCK_HIST_SECONDS
      t = (counted.showModel counted.pickSrc).beginSecond
    else t = s := by
  refine ⟨_, rfl, ?_⟩
  by_cases hlocked : s.get Reg.HOB_STATUS_STATE ≠ 2 ∨ s.get Reg.TIM_STATUS_WARMING = 1
  · rw [if_pos hlocked, if_pos hlocked]
  rw [if_neg hlocked, if_neg hlocked]
  by_cases hon : s.var .secOn = 0
  · rw [if_pos hon, if_pos hon]
  rw [if_neg hon, if_neg hon]
  by_cases hdue : s.due .modelSec = true
  · rw [if_neg (not_not_intro hdue), if_pos hdue]
    rfl
  · rw [if_pos hdue, if_neg hdue]

/-- The model becomes valid: MODEL_VALID, and its sticky bit where it was clear before (R121, R138). -/
theorem modelValid_quiet : ∃ t, exec .modelValid s = .next t ∧
    if s.modelValid = false then t = s
    else if s.get Reg.HOB_STATUS_MODEL_VALID = 0 then Quiet ((s.put Reg.HOB_STATUS_MODEL_VALID 1).putBit Reg.HOB_STICKY_MODEL_VALID 0 true) t
    else t = s.put Reg.HOB_STATUS_MODEL_VALID 1 := by
  refine ⟨_, rfl, ?_⟩
  cases hvalid : s.modelValid with
  | false => rfl
  | true =>
    rw [if_neg (by decide), if_pos rfl, State.showValid, hvalid, Bool.true_and]
    by_cases hfirst : s.get Reg.HOB_STATUS_MODEL_VALID = 0
    · rw [if_pos hfirst, if_pos (decide_eq_true hfirst)]
      exact raise_quiet (s.putB Reg.HOB_STATUS_MODEL_VALID true) (evHob 6 .info) _ _
    · rw [if_neg hfirst, if_neg (mt of_decide_eq_true hfirst)]
      rfl

end

/-- Settles O10: the three commands by what their effects show, and the three events of time. -/
theorem discipline : Obligations.Discipline := by
  unfold Obligations.Discipline
  refine ⟨fun s c => ⟨fun hr => ⟨_, rfl, ?_⟩, fun hr => ⟨_, rfl, ?_⟩, fun tau hr hb => ⟨_, rfl, ?_⟩⟩, fun s => ⟨⟨_, rfl, ?_⟩, ?_, modelValid_quiet s⟩⟩
  · obtain ⟨htc, harmed, hteb, hsat, hsticky, hteb0, hat, hanchored, hsettled, htimer, hstate⟩ := timeReset_shows (s.fetch c)
    rw [fetch_tc] at htc
    rw [fetch_linear] at hat
    rw [fetch_get] at hstate
    have h := (change_quiet _ _ _ _ _ _ _).apart.trans (runCmd_apart hr [] timeResetEff (timeResetEff_eq _ _) rfl)
    generalize (s.fetch c).resetAnchor.publishTeb (2 ^ 32) = u at *
    rw [h.tc, h.regs _ (by decide), h.regs _ (by decide), h.regs _ (by decide), h.regs _ (by decide), h.regs _ (by decide),
      h.regs _ (by decide), h.regs _ (by decide), h.vars _ (by decide), h.timers .settle nofun nofun, State.get64, h.regs _ (by decide),
      h.regs _ (by decide)]
    exact ⟨htc, harmed, hteb, hsat, hsticky, hteb0, hat, hanchored, hsettled, htimer, hstate⟩
  · have heff := modelResetEff_eq (s.fetch c) (s.sessionRole c.ring c.session)
    rw [fetch_get, show (s.fetch c).selKind = s.selKind by obtain ⟨h, r, e⟩ := fetch_eq s c; rw [e]; rfl] at heff
    by_cases hbusy : s.get Reg.HOB_STATUS_STATE = 3 ∨ s.get Reg.HOB_STATUS_STATE = 4 ∨ (s.get Reg.HOB_STATUS_STATE = 1 ∧ s.selKind = 0)
    · rw [if_pos hbusy] at heff ⊢
      exact runCmd_refused hr heff
    · rw [if_neg hbusy] at heff ⊢
      obtain ⟨hdisc, hlock, hvalid, hsticky, htc, hstate⟩ := modelReset_shows (s.fetch c) (s.sessionRole c.ring c.session)
      rw [fetch_tc] at htc
      rw [fetch_get] at hstate
      have h := (change_quiet _ _ _ _ _ _ _).apart.trans (runCmd_apart hr [] modelResetEff heff rfl)
      rw [h.disc, h.regs _ (by decide), h.regs _ (by decide), h.regs _ (by decide), h.tc, h.regs _ (by decide), hdisc]
      exact ⟨rfl, rfl, hlock, hvalid, hsticky, htc, hstate⟩
  · by_cases htau : tau < 1 ∨ 31536000 < tau
    · rw [if_pos htau]
      exact runCmd_refused hr (if_pos htau)
    · rw [if_neg htau]
      obtain ⟨hanchored, ht0⟩ := boundReads_fetch s c
      obtain ⟨secs, heff⟩ := tebPredictEff_anchored (s.fetch c) (hanchored.trans hb) htau (s.sessionRole c.ring c.session)
      rw [State.predicted, fetch_get, fetch_get, fetch_get, fetch_get, fetch_linear, ht0] at heff
      exact ⟨secs, runCmd_refused hr heff⟩
  · by_cases hsettles : s.due .settle ∧ s.selKind ≠ 0 ∧ s.var .settled = 0
    · rw [if_pos hsettles, if_pos hsettles, State.settleIfDue, if_pos hsettles]
      rfl
    · rw [if_neg hsettles, if_neg hsettles]
  · obtain ⟨t, ht, hcases⟩ := modelRefit_cases s
    refine ⟨t, ht, ?_⟩
    by_cases hlocked : s.get Reg.HOB_STATUS_STATE ≠ 2 ∨ s.get Reg.TIM_STATUS_WARMING = 1
    · rwa [if_pos hlocked] at hcases ⊢
    rw [if_neg hlocked] at hcases ⊢
    by_cases hon : s.var .secOn = 0
    · rw [if_pos hon] at hcases ⊢
      rw [hcases]
      exact ⟨rfl, beginSecond_shows s⟩
    · rwa [if_neg hon] at hcases ⊢

end Sys2Proof.Machine
end

section
/-! PROOFS. The lap boundary's last act, the markers (R335, R337), and the step (R63): what moves at its edge, and that the compares, the groups,
the time of day, the baseband and the dump engine that take the step change neither the time nor the step's record. -/

namespace Sys2Proof.Machine

section

variable (s : State)

/-! ## What a step shows -/

/-- The fields a step is recorded in, and the one the model's validity is read from. -/
def stepFlds : List Fld :=
  [Reg.STEP_AT_LO_SA_LO, Reg.STEP_AT_HI_SA_HI, Reg.STEP_SIZE_LO_SS_LO, Reg.STEP_SIZE_HI_SS_HI, Reg.TCO_STICKY_STEP_DONE,
    Reg.HOB_LOCK_HIST_SECONDS]

/-- What a step's end is told by: the Time Core, the host's memory, the step's record, its edge, and the build-out's beginning. -/
def State.stepView (s : State) : TimeCore × AMap Nat Byte × List Nat × Int × Int :=
  (s.tc, s.mem, stepFlds.map s.get, s.var .stepEdge, s.var .bSlewAt)

variable {s} {t : State}

theorem stepView_of (htc : t.tc = s.tc) (hmem : t.mem = s.mem) (hget : ∀ f ∈ stepFlds, t.get f = s.get f)
    (hedge : t.var .stepEdge = s.var .stepEdge) (hbo : t.var .bSlewAt = s.var .bSlewAt) : t.stepView = s.stepView := by
  rw [State.stepView, State.stepView, htc, hmem, List.map_congr_left hget, hedge, hbo]

theorem of_stepView (h : t.stepView = s.stepView) : t.tc = s.tc ∧ t.mem = s.mem ∧ (∀ f ∈ stepFlds, t.get f = s.get f) ∧
    t.var .stepEdge = s.var .stepEdge ∧ t.var .bSlewAt = s.var .bSlewAt := by
  unfold State.stepView at h
  obtain ⟨htc, hmem, hget, hedge, hbo⟩ : _ ∧ _ ∧ _ ∧ _ ∧ _ := by simpa only [Prod.mk.injEq] using h
  exact ⟨htc, hmem, List.map_inj_left.1 hget, hedge, hbo⟩

/-- Logging and counting change nothing of it. -/
theorem stepView_quiet (h : Quiet s t) : t.stepView = s.stepView := by
  have hkeys : ∀ f ∈ stepFlds, f.key ∉ bookkeeping := by decide
  exact stepView_of h.tc h.mem (fun f hf => h.regs f (hkeys f hf)) (h.vars _ (by decide)) (h.vars _ (by decide))

theorem stepView_setVar (s : State) {v : Var} (x : Int) (h : Var.stepEdge ≠ v ∧ Var.bSlewAt ≠ v) : (s.setVar v x).stepView = s.stepView :=
  stepView_of rfl rfl (fun _ _ => rfl) (State.var_setVar_ne _ _ h.1) (State.var_setVar_ne _ _ h.2)

theorem stepView_put (s : State) {f : Fld} (v : Nat) (h : ∀ g ∈ stepFlds, g.key ≠ f.key) : (s.put f v).stepView = s.stepView :=
  stepView_of rfl rfl (fun g hg => State.get_put_ne _ _ (h g hg)) rfl rfl

/-- A field between the compare units' and the outputs' last ones. -/
def Fld.far (f : Fld) : Prop := f.lo < 32 ∧ 0x100100 ≤ f.addr ∧ f.addr < 0x150000

theorem stepView_putFar (s : State) {f : Fld} (v : Nat) (h : f.far) : (s.put f v).stepView = s.stepView := by
  have hflds : ∀ g ∈ stepFlds, g.lo < 32 ∧ (g.addr < 0x100100 ∨ 0x150000 ≤ g.addr) := by decide
  obtain ⟨hlo, hge, hlt⟩ := h
  refine stepView_put s v fun g hg => ?_
  obtain ⟨hglo, hbelow | habove⟩ := hflds g hg
  · exact key_ne_of_addr_lt (by omega) hglo
  · exact (key_ne_of_addr_lt (by omega) hlo).symm

/-! ## The compares -/

/-- A compare unit's fields a firing writes. -/
def cmpFlds (n : Nat) : List Fld :=
  [Reg.CMP_FIRED_LO_FIRED n, Reg.CMP_FIRED_HI_FIRED n, Reg.CMP_FIRED_FRAC_FIRED n, Reg.CMP_CTRL_LATE n, Reg.CMP_CTRL_STEPPED n,
    Reg.CMP_CTRL_SKIPPED n, Reg.CMP_CTRL_ARMED n, Reg.CMP_TGT_LO_TGT n, Reg.CMP_TGT_HI_TGT n, Reg.CMP_TGT_FRAC_TGT n]

theorem far_of_cmp {n : Nat} (hn : n < 16) : ∀ f ∈ cmpFlds n, f.far := by
  simp only [cmpFlds, List.forall_mem_cons, Fld.far, Reg.CMP_FIRED_LO_FIRED, Reg.CMP_FIRED_HI_FIRED, Reg.CMP_FIRED_FRAC_FIRED, Reg.CMP_CTRL_LATE,
    Reg.CMP_CTRL_STEPPED, Reg.CMP_CTRL_SKIPPED, Reg.CMP_CTRL_ARMED, Reg.CMP_TGT_LO_TGT, Reg.CMP_TGT_HI_TGT, Reg.CMP_TGT_FRAC_TGT]
  refine ⟨?_, ?_, ?_, ?_, ?_, ?_, ?_, ?_, ?_, ?_, fun _ h => absurd h List.not_mem_nil⟩
  all_goals omega

theorem stepView_putCmp {n : Nat} (hn : n < 16) (s : State) {f : Fld} (v : Nat) (hf : f ∈ cmpFlds n) : (s.put f v).stepView = s.stepView :=
  stepView_putFar s v (far_of_cmp hn f hf)

theorem stepView_setCmpTgt {n : Nat} (hn : n < 16) (s : State) (x : Nat) : (s.setCmpTgt n x).stepView = s.stepView :=
  (stepView_putCmp hn _ _ (by simp [cmpFlds])).trans ((stepView_putCmp hn _ _ (by simp [cmpFlds])).trans
    (stepView_putCmp hn _ _ (by simp [cmpFlds])))

theorem stepView_fireCmp {n : Nat} (hn : n < 16) (s : State) (before : Option Nat) : (s.fireCmp n before).stepView = s.stepView := by
  unfold State.fireCmp
  extract_lets tgt late periodic per at80 passed jumped stepped s1 s2 s3 s4 s5 aimed s6 s7
  have h1 : s1.stepView = s.stepView := (stepView_putCmp hn _ _ (by simp [cmpFlds])).trans ((stepView_putCmp hn _ _ (by simp [cmpFlds])).trans
    (stepView_putCmp hn _ _ (by simp [cmpFlds])))
  have h2 : s2.stepView = s1.stepView := (stepView_putCmp hn _ _ (by simp [cmpFlds])).trans (stepView_putCmp hn _ _ (by simp [cmpFlds]))
  have h3 : s3.stepView = s2.stepView := view_ite State.stepView (stepView_put _ _ (by decide)) rfl
  have h4 : s4.stepView = s3.stepView := view_ite State.stepView (stepView_put _ _ (by decide)) rfl
  have h5 : s5.stepView = s4.stepView := stepView_setVar _ _ (by simp)
  have haimed : aimed.stepView = s5.stepView := stepView_setCmpTgt hn _ _
  have h6 : s6.stepView = s5.stepView := view_ite State.stepView
    (view_ite State.stepView ((stepView_putCmp hn _ _ (by simp [cmpFlds])).trans haimed)
      (view_ite State.stepView ((stepView_putCmp hn _ _ (by simp [cmpFlds])).trans haimed) haimed))
    (stepView_putCmp hn _ _ (by simp [cmpFlds]))
  have h7 : s7.stepView = s6.stepView := view_ite State.stepView (stepView_quiet (raise_quiet_of_sticky_none rfl _ _ _)) rfl
  have h : s7.stepView = s.stepView := h7.trans (h6.trans (h5.trans (h4.trans (h3.trans (h2.trans h1)))))
  exact view_ite State.stepView ((stepView_quiet (cmpPfTrigger_quiet _ _)).trans h) h

/-- A fold over units of which each turn leaves a part of the state alone. -/
theorem view_foldl_mem {α β : Type} (p : State → α) {f : State → β → State} (s : State) (l : List β) (h : ∀ s, ∀ x ∈ l, p (f s x) = p s) :
    p (l.foldl f s) = p s := by
  induction l generalizing s with
  | nil => rfl
  | cons x l ih => exact (ih (f s x) fun s y hy => h s y (.tail _ hy)).trans (h s x (.head _))

theorem stepView_stepCmps (s : State) (before : Nat) : (s.stepCmps before).stepView = s.stepView :=
  view_foldl_mem State.stepView s _ fun _ _ hn => view_ite State.stepView (stepView_fireCmp (List.mem_range.1 hn) _ _) rfl

/-! ## The groups, the time of day, the baseband and the dump engine -/

theorem stepView_checkPulse (s : State) (n : Nat) : (s.checkPulse n).stepView = s.stepView :=
  view_ite State.stepView ((stepView_quiet (raise_quiet_of_sticky_none rfl _ _ _)).trans (stepView_put _ _ (by decide))) rfl

theorem stepView_stepGroups (s : State) (x : Int) : (s.stepGroups x).stepView = s.stepView := by
  unfold State.stepGroups
  extract_lets u
  have hu : u.stepView = s.stepView := view_foldl_mem State.stepView s _ fun _ _ _ => view_ite State.stepView rfl rfl
  refine (view_foldl_mem State.stepView u _ fun w n hn => ?_).trans hu
  have hfar : (Reg.PULSE_STATE_STEPPED n).far := by
    have := List.mem_range.1 hn
    simp only [Fld.far, Reg.PULSE_STATE_STEPPED]
    omega
  extract_lets i o moved marked
  have hmoved : moved.stepView = w.stepView := rfl
  have hmarked : marked.stepView = moved.stepView := view_ite State.stepView (stepView_putFar _ _ hfar) rfl
  exact view_ite State.stepView ((stepView_checkPulse _ _).trans (hmarked.trans hmoved)) hmoved

theorem stepView_todStep (s : State) (whole : Int) : (s.todStep whole).stepView = s.stepView :=
  view_foldl_mem State.stepView s _ fun _ _ _ => stepView_setVar _ _ (by simp)

theorem stepView_oweEpoch (s : State) (stepped : Bool) : (s.oweEpoch stepped).stepView = s.stepView :=
  (stepView_setVar _ _ (by simp)).trans (stepView_setVar _ _ (by simp))

theorem stepView_gnssStep (s : State) (x : Int) : (s.gnssStep x).stepView = s.stepView :=
  view_ite State.stepView rfl <| view_ite State.stepView
    ((stepView_setVar _ _ (by simp)).trans ((stepView_setVar _ _ (by simp)).trans (stepView_setVar _ _ (by simp))))
    (view_ite State.stepView (stepView_oweEpoch _ _) (view_ite State.stepView (stepView_oweEpoch _ _) rfl))

theorem stepView_dumpStep (s : State) (before : Nat) : (s.dumpStep before).stepView = s.stepView :=
  view_ite State.stepView (view_ite State.stepView (stepView_setVar _ _ (by simp)) rfl) (stepView_setVar _ _ (by simp))

/-! ## The step's edge -/

/-- The build-out at a step: its beginning where the rest begins one, its end noted where the step retires it (R63, R497). -/
def State.stepBuildOut (s : State) (rest : Int) : State :=
  let begun := if rest ≠ 0 ∧ s.tc.bSlew = 0 then s.setVar .bSlewAt s.runNs else s
  if begun.tc.bSlew ≠ 0 ∧ rest = 0 then begun.noteRetired begun.cur else begun

/-- The Time Core moved by a step: its whole nanoseconds in the time, its rest in the slew, and no plan left (R63). -/
def TimeCore.stepped (tc : TimeCore) (whole rest : Int) : TimeCore :=
  { tc with time := (((tc.time : Int) + whole * nsUnit) % timeMod).toNat, slew := rest, bSlew := rest, plan := none }

/-- A step recorded (R63). -/
def State.recordStep (s : State) (lin : Nat) (whole : Int) : State :=
  (s.put64 Reg.STEP_AT_LO_SA_LO Reg.STEP_AT_HI_SA_HI lin).putI64 Reg.STEP_SIZE_LO_SS_LO Reg.STEP_SIZE_HI_SS_HI whole

/-- A step taken at its edge, before anything else takes it. -/
def State.stepMove (s : State) (whole rest : Int) : State :=
  let r := (s.stepBuildOut rest).recordStep s.linear whole
  let m := { r with tc := r.tc.stepped whole rest }.pfStep s.at16
  (((m.setVar .stepSum (m.var .stepSum + whole * 65536)).setVar .warmBroken 1).setVar .calSkew 1).doneAt .stepEdge

/-- What takes a step: the compares, the groups, the time of day, the baseband and the dump engine. -/
def State.stepTakers (s : State) (lin at16 : Nat) (whole : Int) : State :=
  ((((s.stepCmps (at16 % 2 ^ 80)).stepGroups (whole * nsUnit)).todStep whole).gnssStep whole).dumpStep lin

theorem stepTime_eq (s : State) (whole rest : Int) : s.stepTime whole rest =
    (((s.stepMove whole rest).raise evStepDone [i8 (toBits 64 whole), i8 s.linear]).stepTakers s.linear s.at16 whole).stepShadow whole := rfl

theorem stepView_stepTakers (s : State) (lin at16 : Nat) (whole : Int) : (s.stepTakers lin at16 whole).stepView = s.stepView :=
  (stepView_dumpStep _ _).trans ((stepView_gnssStep _ _).trans ((stepView_todStep _ _).trans ((stepView_stepGroups _ _).trans
    (stepView_stepCmps _ _))))

theorem stepBuildOut_shows (s : State) (rest : Int) :
    (s.stepBuildOut rest).tc = { s.tc with bDone := s.tc.bDone || decide (s.tc.bSlew ≠ 0 ∧ rest = 0) } ∧ (s.stepBuildOut rest).mem = s.mem ∧
      (s.stepBuildOut rest).regs = s.regs ∧
      (s.stepBuildOut rest).var .bSlewAt = if rest ≠ 0 ∧ s.tc.bSlew = 0 then (s.runNs : Int) else s.var .bSlewAt := by
  unfold State.stepBuildOut
  by_cases hbegins : rest ≠ 0 ∧ s.tc.bSlew = 0
  · have hstays : ¬ ((s.setVar .bSlewAt s.runNs).tc.bSlew ≠ 0 ∧ rest = 0) := fun h => hbegins.1 h.2
    have hno : ¬ (s.tc.bSlew ≠ 0 ∧ rest = 0) := hstays
    rw [if_pos hbegins, if_pos hbegins, if_neg hstays, decide_eq_false hno, Bool.or_false]
    exact ⟨rfl, rfl, rfl, State.var_setVar_same _ _ _⟩
  rw [if_neg hbegins, if_neg hbegins]
  by_cases hends : s.tc.bSlew ≠ 0 ∧ rest = 0
  · rw [if_pos hends, decide_eq_true hends, Bool.or_true]
    exact ⟨rfl, rfl, rfl, (State.var_setVar_ne _ _ (by decide)).trans (State.var_setVar_ne _ _ (by decide))⟩
  · rw [if_neg hends, decide_eq_false hends, Bool.or_false]
    exact ⟨rfl, rfl, rfl, rfl⟩

theorem recordStep_shows (s : State) {lin : Nat} (hlin : lin < 2 ^ 64) (whole : Int) :
    (s.recordStep lin whole).get64 Reg.STEP_AT_LO_SA_LO Reg.STEP_AT_HI_SA_HI = lin ∧
      (s.recordStep lin whole).getI64 Reg.STEP_SIZE_LO_SS_LO Reg.STEP_SIZE_HI_SS_HI = ofBits 64 (toBits 64 whole) ∧
      (s.recordStep lin whole).get Reg.HOB_LOCK_HIST_SECONDS = s.get Reg.HOB_LOCK_HIST_SECONDS := by
  have hbits : toBits 64 whole < 2 ^ 64 := by
    unfold toBits
    omega
  refine ⟨?_, ?_, ?_⟩
  · have hget : ∀ f : Fld, f.key ≠ Reg.STEP_SIZE_LO_SS_LO.key → f.key ≠ Reg.STEP_SIZE_HI_SS_HI.key → (s.recordStep lin whole).get f =
        (s.put64 Reg.STEP_AT_LO_SA_LO Reg.STEP_AT_HI_SA_HI lin).get f := fun f => get_put64_ne _ _
    rw [State.get64, hget _ (by decide) (by decide), hget _ (by decide) (by decide)]
    exact put64_regs_get64 s (by decide) rfl rfl hlin
  · exact congrArg (ofBits 64) (put64_regs_get64 _ (by decide) rfl rfl hbits)
  · rw [State.recordStep, State.putI64, get_put64_ne _ _ (by decide) (by decide), get_put64_ne _ _ (by decide) (by decide)]

/-- The Time Core, the record and the build-out's beginning as a step's edge leaves them. -/
theorem stepMove_shows (s : State) (whole rest : Int) : let m := s.stepMove whole rest
    m.tc = { s.tc.stepped whole rest with bDone := s.tc.bDone || decide (s.tc.bSlew ≠ 0 ∧ rest = 0) } ∧ m.mem = s.mem ∧
      m.get64 Reg.STEP_AT_LO_SA_LO Reg.STEP_AT_HI_SA_HI = s.linear ∧
      m.getI64 Reg.STEP_SIZE_LO_SS_LO Reg.STEP_SIZE_HI_SS_HI = ofBits 64 (toBits 64 whole) ∧ m.modelValid = s.modelValid ∧
      m.var .stepEdge = s.tc.edges + 1 ∧ m.var .bSlewAt = if rest ≠ 0 ∧ s.tc.bSlew = 0 then (s.runNs : Int) else s.var .bSlewAt := by
  obtain ⟨htc, hmem, hregs, hbo⟩ := stepBuildOut_shows s rest
  obtain ⟨hat, hsize, hlock⟩ := recordStep_shows (s.stepBuildOut rest) (lin := s.linear) (Nat.mod_lt _ (by decide)) whole
  generalize hb : s.stepBuildOut rest = b at *
  have hm : s.stepMove whole rest = ((((({ b.recordStep s.linear whole with tc := b.tc.stepped whole rest }.pfStep s.at16).setVar .stepSum
      (b.var .stepSum + whole * 65536)).setVar .warmBroken 1).setVar .calSkew 1).setVar .stepEdge (b.tc.edges + 1 : Nat)) := by
    rw [← hb]
    rfl
  rw [hm]
  refine ⟨congrArg (fun tc => TimeCore.stepped tc whole rest) htc, hmem, hat, hsize, ?_, ?_, ?_⟩
  · have hget : b.get Reg.HOB_LOCK_HIST_SECONDS = s.get Reg.HOB_LOCK_HIST_SECONDS := by rw [State.get, State.get, hregs]
    exact congrArg (fun n => decide (300 ≤ n)) (hlock.trans hget)
  · rw [State.var_setVar_same, htc]
    rfl
  · rw [State.var_setVar_ne _ _ (by decide), State.var_setVar_ne _ _ (by decide), State.var_setVar_ne _ _ (by decide),
      State.var_setVar_ne _ _ (by decide)]
    exact hbo

/-- The scalars of the shadow. -/
def shadowVars : List Var := [.shadowOn, .shadowAt, .shadowTeb, .shadowWait, .shadowUy, .shadowAmax, .shadowW]

theorem var_anchorShadow (s : State) (afterStep : Bool) {v : Var} (h : v ∉ shadowVars) : (s.anchorShadow afterStep).var v = s.var v := by
  have hne : ∀ w ∈ shadowVars, v ≠ w := fun w hw e => h (e ▸ hw)
  unfold State.anchorShadow
  extract_lets src par u s1 tc s2 s3 s4
  have h3 : s3.var v = s.var v := (State.var_setVar_ne _ _ (hne _ (by decide))).trans ((State.var_setVar_ne _ _ (hne _ (by decide))).trans
    ((State.var_setVar_ne _ _ (hne _ (by decide))).trans (State.var_setVar_ne s2 _ (hne _ (by decide)))))
  have h4 : s4.var v = s3.var v := (State.var_setVar_ne _ _ (hne _ (by decide))).trans ((State.var_setVar_ne _ _ (hne _ (by decide))).trans
    (State.var_setVar_ne _ _ (hne _ (by decide))))
  exact h4.trans h3

/-- The shadow at a step: anchored anew where the model is valid, and gone where it is not (R101). -/
theorem stepShadow_shows (s : State) (whole : Int) : let t := s.stepShadow whole
    t.tc = { s.tc with dep := t.tc.dep } ∧ t.mem = s.mem ∧ t.regs = s.regs ∧ t.var .stepEdge = s.var .stepEdge ∧
      t.var .bSlewAt = s.var .bSlewAt ∧ (s.modelValid = true → t.tc.dep = 0) ∧
      (s.modelValid = false → t.var .shadowOn = 0 ∧ t.tc.dep = s.tc.dep) := by
  intro t
  have ht : t = if s.modelValid = true then (s.carryShadows (whole * nsUnit)).anchorShadow true
      else ((s.carryShadows (whole * nsUnit)).setVar .shadowOn 0).setVar .shadowWait 0 := rfl
  clear_value t
  subst ht
  cases hvalid : s.modelValid with
  | true =>
    rw [if_pos rfl]
    exact ⟨rfl, rfl, rfl, var_anchorShadow _ _ (by decide), var_anchorShadow _ _ (by decide), fun _ => rfl, nofun⟩
  | false =>
    rw [if_neg (by decide)]
    refine ⟨rfl, rfl, rfl, ?_, ?_, nofun, fun _ => ⟨?_, rfl⟩⟩
    · exact (State.var_setVar_ne _ _ (by decide)).trans (State.var_setVar_ne _ _ (by decide))
    · exact (State.var_setVar_ne _ _ (by decide)).trans (State.var_setVar_ne _ _ (by decide))
    · exact (State.var_setVar_ne _ _ (by decide)).trans (State.var_setVar_same _ _ _)

/-- A step: what it does to the time and the slew, and its record (R63, R101, R497). -/
theorem stepTime_shows (s : State) (whole rest : Int) : let t := s.stepTime whole rest
    t.tc = { s.tc.stepped whole rest with dep := t.tc.dep, bDone := s.tc.bDone || decide (s.tc.bSlew ≠ 0 ∧ rest = 0) } ∧
      (s.modelValid = true → t.tc.dep = 0) ∧ (s.modelValid = false → t.var .shadowOn = 0 ∧ t.tc.dep = s.tc.dep) ∧
      t.var .stepEdge = s.tc.edges + 1 ∧ (t.var .bSlewAt = if rest ≠ 0 ∧ s.tc.bSlew = 0 then (s.runNs : Int) else s.var .bSlewAt) ∧
      t.get64 Reg.STEP_AT_LO_SA_LO Reg.STEP_AT_HI_SA_HI = s.linear ∧
      t.getI64 Reg.STEP_SIZE_LO_SS_LO Reg.STEP_SIZE_HI_SS_HI = ofBits 64 (toBits 64 whole) ∧ t.get Reg.TCO_STICKY_STEP_DONE = 1 ∧
      t.mem = s.mem := by
  obtain ⟨htc, hmem, hat, hsize, hvalid, hedge, hbo⟩ := stepMove_shows s whole rest
  rw [stepTime_eq]
  generalize s.stepMove whole rest = m at *
  have hdone : (m.raise evStepDone [i8 (toBits 64 whole), i8 s.linear]).get Reg.TCO_STICKY_STEP_DONE = 1 := by
    rw [sticky_raise m (e := evStepDone) rfl (by decide)]
    exact setBit_zero_odd _
  have hraise : ∀ f : Fld, f.key ∉ bookkeeping → f.key ≠ Reg.TCO_STICKY_STEP_DONE.key →
      (m.raise evStepDone [i8 (toBits 64 whole), i8 s.linear]).get f = m.get f := fun f => get_raise_sticky m (e := evStepDone) rfl
  have hrtc : (m.raise evStepDone [i8 (toBits 64 whole), i8 s.linear]).tc = m.tc := raise_tc _ _ _ _
  have hrmem : (m.raise evStepDone [i8 (toBits 64 whole), i8 s.linear]).mem = m.mem := raise_mem _ _ _ _
  have hrvar : ∀ v ∉ bookVars, (m.raise evStepDone [i8 (toBits 64 whole), i8 s.linear]).var v = m.var v := fun v hv => var_raise m hv
  generalize m.raise evStepDone [i8 (toBits 64 whole), i8 s.linear] = r at *
  obtain ⟨hutc, humem, huget, huedge, hubo⟩ := of_stepView (stepView_stepTakers r s.linear s.at16 whole)
  generalize r.stepTakers s.linear s.at16 whole = u at *
  obtain ⟨httc, htmem, htregs, htedge, htbo, hon, hoff⟩ := stepShadow_shows u whole
  generalize u.stepShadow whole = t at *
  have hget : ∀ f ∈ stepFlds, t.get f = r.get f := fun f hf => by
    rw [← huget f hf, State.get, State.get, htregs]
  have huvalid : u.modelValid = s.modelValid := by
    rw [← hvalid, State.modelValid, State.modelValid, huget _ (by simp [stepFlds]), hraise _ (by decide) (by decide)]
  have hdep : u.tc.dep = s.tc.dep := by rw [hutc, hrtc, htc]; rfl
  refine ⟨?_, fun hv => hon (huvalid.trans hv), fun hv => ?_, ?_, ?_, ?_, ?_, ?_, ?_⟩
  · rw [httc, hutc, hrtc, htc]
  · obtain ⟨hshadow, hkept⟩ := hoff (huvalid.trans hv)
    exact ⟨hshadow, hkept.trans hdep⟩
  · rw [htedge, huedge, hrvar _ (by decide), hedge]
  · rw [htbo, hubo, hrvar _ (by decide), hbo]
  · rw [State.get64, hget _ (by simp [stepFlds]), hget _ (by simp [stepFlds]), hraise _ (by decide) (by decide), hraise _ (by decide) (by decide)]
    exact hat
  · rw [State.getI64, State.get64, hget _ (by simp [stepFlds]), hget _ (by simp [stepFlds]), hraise _ (by decide) (by decide), hraise _ (by decide) (by decide)]
    exact hsize
  · rw [hget _ (by simp [stepFlds]), hdone]
  · rw [htmem, humem, hrmem, hmem]

/-! ## The markers of a lap -/

/-- A marker's launch on a pair that is UP, with its transmit stamp (R335). -/
def State.markSent (s : State) (n : Nat) (stamp : Int) : State :=
  { s with
    twin := { s.twin with markTx := aput s.twin.markTx n stamp }
    out := .relayMarker n (s.ns / lapNs % 2 ^ 24) (markerBlock (s.ns / lapNs)) :: s.out }

theorem launchMarker_eq (s : State) (n : Nat) (stamp : Int) : s.launchMarker n stamp =
    if s.get (Reg.RL_PAIR_STATUS_STATE n) = 2 then (s.markSent n stamp).pmcEvent 3 0x12 else s := rfl

theorem launchMarker_shows (s : State) {n : Nat} (stamp : Int) : let t := s.launchMarker n stamp
    t.twin.markRx = s.twin.markRx ∧
      (∀ m, aget t.twin.markTx m = if m = n ∧ s.get (Reg.RL_PAIR_STATUS_STATE n) = 2 then some stamp else aget s.twin.markTx m) ∧
      (∀ f : Fld, f.key ∉ bookkeeping → t.get f = s.get f) ∧ ∀ v ∉ bookVars, t.var v = s.var v := by
  rw [launchMarker_eq]
  by_cases hup : s.get (Reg.RL_PAIR_STATUS_STATE n) = 2
  · rw [if_pos hup]
    have hq : Quiet (s.markSent n stamp) ((s.markSent n stamp).pmcEvent 3 0x12) := pmcEvent_quiet _ _ _ _ (by decide)
    have hrx : ((s.markSent n stamp).pmcEvent 3 0x12).twin.markRx = s.twin.markRx := by
      rw [hq.twin]
      rfl
    refine ⟨hrx, fun m => (congrArg (fun w : Twin => aget w.markTx m) hq.twin).trans ?_, hq.regs, hq.vars⟩
    by_cases hm : m = n
    · rw [if_pos ⟨hm, hup⟩, hm]
      exact aget_aput_same _ _ _
    · rw [if_neg fun h => hm h.1]
      exact aget_aput_ne _ _ hm
  · rw [if_neg hup]
    exact ⟨rfl, fun m => (if_neg fun h => hup h.2).symm, fun _ _ => rfl, fun _ _ => rfl⟩

/-- A boundary before its markers leave: the stamps of the one before done with, and SYN_C watched anew (R335, R337). -/
def State.newMarks (v : State) : State :=
  ({ v with twin := { v.twin with
      markTx := [], markRx := v.twin.markRx.filter (fun e => decide (e.1 / 2 = v.ns / lapNs % 2 ^ 24))
      mark := { v.mark with at16 := v.ns / lapNs * lapNs * 65536 } } }.setVar .markUsable 0).setVar .lapBadC
    (b2n (decide (v.synSt 2 ≠ 3)))

theorem lapMarkers_eq (v : State) (tx0 tx1 : Int) : v.lapMarkers tx0 tx1 = (v.newMarks.launchMarker 0 tx0).launchMarker 1 tx1 := rfl

theorem newMarks_shows (v : State) : (∀ n, aget v.newMarks.twin.markTx n = none) ∧
    v.newMarks.twin.markRx = (v.twin.markRx.filter fun e => decide (e.1 / 2 = v.ns / lapNs % 2 ^ 24)) ∧
    (∀ f, v.newMarks.get f = v.get f) ∧ v.newMarks.var .markUsable = 0 ∧ v.newMarks.var .lapBadC = (if v.synSt 2 = 3 then 0 else 1) := by
  refine ⟨fun _ => rfl, rfl, fun _ => rfl, ?_, ?_⟩
  · exact (State.var_setVar_ne _ _ (by decide)).trans (State.var_setVar_same _ _ _)
  · rw [State.newMarks, State.var_setVar_same]
    by_cases hsyn : v.synSt 2 = 3
    · rw [if_pos hsyn, decide_eq_false (not_not_intro hsyn)]
      rfl
    · rw [if_neg hsyn, decide_eq_true hsyn]
      rfl

/-- A lap's markers: the stamps of the boundary before are done with, and one leaves on each pair that is UP (R335, R337). -/
theorem lapMarkers_shows (v : State) (tx0 tx1 : Int) : let t := v.lapMarkers tx0 tx1
    t.twin.markRx = (v.twin.markRx.filter fun e => decide (e.1 / 2 = v.ns / lapNs % 2 ^ 24)) ∧ t.var .markUsable = 0 ∧
      t.var .lapBadC = (if v.synSt 2 = 3 then 0 else 1) ∧
      aget t.twin.markTx 0 = (if v.get (Reg.RL_PAIR_STATUS_STATE 0) = 2 then some tx0 else none) ∧
      aget t.twin.markTx 1 = (if v.get (Reg.RL_PAIR_STATUS_STATE 1) = 2 then some tx1 else none) := by
  obtain ⟨htx, hrx, hget, husable, hbad⟩ := newMarks_shows v
  rw [lapMarkers_eq]
  generalize v.newMarks = m at *
  obtain ⟨h0rx, h0tx, h0get, h0var⟩ := launchMarker_shows m (n := 0) tx0
  obtain ⟨h1rx, h1tx, -, h1var⟩ := launchMarker_shows (m.launchMarker 0 tx0) (n := 1) tx1
  refine ⟨h1rx.trans (h0rx.trans hrx), ?_, ?_, ?_, ?_⟩
  · rw [h1var _ (by decide), h0var _ (by decide), husable]
  · rw [h1var _ (by decide), h0var _ (by decide), hbad]
  · rw [h1tx, if_neg (by simp), h0tx, htx, hget]
    simp only [true_and]
  · rw [h1tx, h0get _ (by decide), h0tx, if_neg (c := 1 = 0 ∧ _) (by simp), htx, hget]
    simp only [true_and]

/-! ## The boundary -/

/-- A lap boundary up to its markers, in its order (R87, R295; log entry 40). -/
def State.lapBody (s : State) : State :=
  let p := (s.doneAt .lapEdge).applyInbox.resynced.passPartner
  let q := (((p.pmcEvent 0 0x13).lapBursts.setVar .lapNo (p.ns / lapNs : Nat)).timLap.selectorLap.timUses).showFollowing
  ((q.lapAdmission q.reserved.1 q.reserved.2).serveUpdate).makerLap

theorem exec_lapBoundary (s : State) (tx0 tx1 : Int) : exec (.lapBoundary tx0 tx1) s =
    .next (if ¬ s.lapsRun = true ∨ ¬ s.atCrossing lapNs .lapEdge = true then s else s.lapBody.lapMarkers tx0 tx1) := rfl

/-- When an edge makes no boundary: the laps do not run, it crosses none, or it has made it (R59; log entry 9). -/
theorem noLap_iff (s : State) : (¬ s.lapsRun = true ∨ ¬ s.atCrossing lapNs .lapEdge = true) ↔
    (s.lapsRun = false ∨ ¬ (s.tc.prev / (lapNs * nsUnit) < s.tc.time / (lapNs * nsUnit)) ∨ s.var .lapEdge = (s.tc.edges : Int) + 1) := by
  simp only [State.atCrossing, State.crosses, Bool.and_eq_true, decide_eq_true_iff, not_and_or, Bool.not_eq_true, not_not, ne_eq]

end

/-- Settles O50: the lap boundary's order and its markers, and the step at the second marker's edge. -/
theorem lapAndStep : Obligations.LapAndStep := by
  unfold Obligations.LapAndStep
  intro s
  refine ⟨fun tx0 tx1 => ⟨_, exec_lapBoundary s tx0 tx1, ?_⟩, ⟨_, rfl, ?_⟩⟩
  · by_cases hidle : ¬ s.lapsRun = true ∨ ¬ s.atCrossing lapNs .lapEdge = true
    · rw [if_pos hidle, if_pos ((noLap_iff s).1 hidle)]
    · rw [if_neg hidle, if_neg (mt (noLap_iff s).2 hidle)]
      intro p q v
      have hv : v = s.lapBody := rfl
      clear_value v
      rw [← hv]
      exact ⟨rfl, lapMarkers_shows v tx0 tx1⟩
  · cases hplan : s.tc.plan with
    | none => rfl
    | some p =>
      dsimp only
      by_cases hstep : p.launches = 2 ∧ s.var .markerEdge = (s.tc.edges : Int) + 1
      · have hgo : ¬ (p.launches ≠ 2 ∨ s.var .markerEdge ≠ (s.tc.edges : Int) + 1) := by
          obtain ⟨hlaunches, hmarker⟩ := hstep
          simp [hlaunches, hmarker]
        rw [if_pos hstep, if_neg hgo]
        obtain ⟨htc, hon, hoff, hedge, hbo, hrecord⟩ := stepTime_shows s p.whole p.rest
        refine ⟨htc, hon, hoff, hedge, fun h => ?_, fun h0 h1 => ?_, hrecord⟩
        · rw [hbo, if_neg fun hb => h.elim (fun h => h hb.2) hb.1]
        · rw [hbo, if_pos ⟨h1, h0⟩]
      · have hstay : p.launches ≠ 2 ∨ s.var .markerEdge ≠ (s.tc.edges : Int) + 1 := not_and_or.1 hstep
        rw [if_neg hstep, if_pos hstay]

end Sys2Proof.Machine
end

section
/-! PROOFS. The selector's commands (R108 to R112). -/

namespace Sys2Proof.Machine

section

variable {s : State} {c : Ctx}

theorem isPartner_iff (s : State) (n : Nat) : s.isPartner n = true ↔ s.laneSrc n = 0x14 := decide_eq_true_iff

/-- What a force of a lane goes by, which a fetch leaves alone. -/
theorem laneReads_fetch (s : State) (c : Ctx) (n : Nat) : (s.fetch c).laneSt n = s.laneSt n ∧ (s.fetch c).laneType n = s.laneType n ∧
    (s.fetch c).isPartner n = s.isPartner n ∧ (s.fetch c).serves = s.serves := by
  obtain ⟨h, r, e⟩ := fetch_eq s c
  rw [e]
  exact ⟨rfl, rfl, rfl, rfl⟩

theorem laneForce_notFit {n : Nat} (hr : Ready s c (opLaneForce (s.isPartner n))) (hn : n < 16)
    (h : ¬ (s.laneSt n = 3 ∨ s.laneSt n = 4 ∨ s.laneSt n = 5) ∨ s.laneType n = 3 ∨ (s.laneSrc n = 0x14 ∧ s.serves = true)) (body : List Int) :
    Ends s c (opLaneForce (s.isPartner n)) Status.notFit 0 id (s.runCmd c (opLaneForce (s.isPartner n)) body (laneForceEff n)) := by
  obtain ⟨hst, htype, hpartner, hserves⟩ := laneReads_fetch s c n
  refine runCmd_refused hr ((if_neg (by omega)).trans (if_pos ?_))
  rw [hst, htype, hpartner, hserves, isPartner_iff]
  exact h

/-- A lane that is not SUSPECT is forced whatever its offset (R108). -/
theorem laneForce_forces {n : Nat} (hr : Ready s c (opLaneForce (s.isPartner n))) (hn : n < 16)
    (h : ¬ (¬ (s.laneSt n = 3 ∨ s.laneSt n = 4 ∨ s.laneSt n = 5) ∨ s.laneType n = 3 ∨ (s.laneSrc n = 0x14 ∧ s.serves = true)))
    (hst : s.laneSt n ≠ 5) (body : List Int) :
    Ends s c (opLaneForce (s.isPartner n)) Status.ok 0 (fun f => f.setForce (some n))
      (s.runCmd c (opLaneForce (s.isPartner n)) body (laneForceEff n)) := by
  obtain ⟨hst', htype, hpartner, hserves⟩ := laneReads_fetch s c n
  rw [← hst', ← htype, ← hserves, ← isPartner_iff, ← hpartner] at h
  rw [← hst'] at hst
  exact runCmd_answers hr ((if_neg (by omega)).trans ((if_neg h).trans (if_neg fun hs => hst hs.1))) (change_quiet _ _ _ _ _ _ _)

theorem laneRelease_releases (hr : Ready s c opLaneRelease) (body : List Int) :
    Ends s c opLaneRelease Status.ok 0 (fun f => f.setForce none) (s.runCmd c opLaneRelease body laneReleaseEff) :=
  runCmd_answers hr rfl (change_quiet _ _ _ _ _ _ _)

theorem laneClear_ends (hr : Ready s c opLaneClear) (n : Nat) (body : List Int) :
    let t := s.runCmd c opLaneClear body (laneClearEff n)
    if 16 ≤ n then Ends s c opLaneClear Status.range 0 id t
    else Ends s c opLaneClear Status.ok 0
      (fun f => f.setLane n { f.lane n with clear := decide (s.laneSt n = 5 ∨ s.laneSt n = 6) }) t := by
  intro t
  obtain ⟨hst, -⟩ := laneReads_fetch s c n
  split
  · next h => exact runCmd_refused hr (if_pos h)
  · next h =>
    rw [← hst]
    exact runCmd_answers hr (if_neg h) (change_quiet _ _ _ _ _ _ _)

theorem selModeSet_ends (hr : Ready s c opSelModeSet) (revertive wtr avg agree span : Nat) (body : List Int) :
    let t := s.runCmd c opSelModeSet body (selModeSetEff revertive wtr avg agree span)
    if revertive ≤ 1 ∧ wtr ≤ 3600 ∧ 10 ≤ avg ∧ avg ≤ 10000 ∧ agree < 2 ^ 32 ∧ 600 ≤ span ∧ span ≤ 65535
    then Ends s c opSelModeSet Status.ok 0 (fun f => ((((f.put Reg.SEL_CTRL_REVERTIVE revertive).put Reg.SEL_TIMERS_WTR wtr).put
      Reg.SEL_TIMERS_AVG_WIN avg).put Reg.SEL_AGREE_AGREE agree).put Reg.SEL_XCHK_XCHK_SPAN span) t
    else Ends s c opSelModeSet Status.range 0 id t := by
  intro t
  split
  · next h =>
    exact runCmd_answers hr (if_neg (by omega)) ((change_quiet _ _ _ _ _ _ _).trans ((change_quiet _ _ _ _ _ _ _).trans
      ((change_quiet _ _ _ _ _ _ _).trans (change_quiet _ _ _ _ _ _ _))))
  · next h => exact runCmd_refused hr (if_pos (by omega))

end

/-- Settles O11: LANE_FORCE by whether the lane is fit to be forced, and each of the three others by its own lemma. -/
theorem selectorCommands : Obligations.SelectorCommands := by
  unfold Obligations.SelectorCommands
  intro s c
  refine ⟨fun n hr hn => ⟨_, rfl, ?_⟩, fun hr => ⟨_, rfl, laneRelease_releases hr _⟩, fun n hr => ⟨_, rfl, laneClear_ends hr n _⟩,
    fun revertive wtr avg agree span hr => ⟨_, rfl, selModeSet_ends hr revertive wtr avg agree span _⟩⟩
  split
  · next h => exact laneForce_notFit hr hn h _
  · next h => exact fun hst => laneForce_forces hr hn h hst _

end Sys2Proof.Machine
end

section
/-! PROOFS. The selector's choice (R96, R98). -/

namespace Sys2Proof.Machine

/-- The reset state with lane 0 AVAILABLE and with 17 listed as its rank. The four bits of LANE_CFG.RANK cannot hold 17, so no write leaves it
there, but a state that is plain data may list it. -/
def overwideRank : State :=
  { State.reset with regs := [((Reg.LANE_STATE_STATE 0).key, 3), ((Reg.LANE_CFG_RANK 0).key, 17)] }

/-- Refutes O59: the search for the smallest rank starts at 16, so a state that lists a rank beyond the field's 15 has a fit lane and no choice. The
statement is of every state; it would need each rank within its field. -/
theorem not_selectorChoice : ¬ Obligations.SelectorChoice := by
  unfold Obligations.SelectorChoice
  intro h
  obtain ⟨-, -, -, hchoice, -⟩ := h overwideRank
  obtain ⟨hnone, -⟩ := hchoice rfl rfl
  exact hnone.1 (by decide) 0 (by decide)

end Sys2Proof.Machine
end

section
/-! PROOFS. The commands that set one register word of a block: what the common write of a word comes to, and each block's own refusals and
consequences (R112, R137, R159, R182, R201, R230, R257, R281, R301, R328, R356, R404, R424). -/

namespace Sys2Proof.Machine

section

variable {s : State} {c : Ctx}

/-! ## One register word set -/

/-- A word written for the host's class, and its change logged (R440). -/
def State.wordSet (s : State) (role op a v : Nat) (w : Word) : State :=
  let t := s.writeWord 0 a w (fun _ => true) v
  t.change role (hidOfAddr a) op a (s.rawWord w.fields) (t.rawWord w.fields)

variable {role op lo hi a v : Nat} {w : Word}

theorem setWord_nowhere (s : State) (h : a < lo ∨ hi ≤ a ∨ wordAt a = none) : s.setWord role op lo hi a v = ⟨s, some Status.range, 0⟩ := by
  unfold State.setWord
  by_cases hspan : lo ≤ a ∧ a < hi
  · have hnone : wordAt a = none := by simpa [Nat.not_lt.2 hspan.1, Nat.not_le.2 hspan.2] using h
    rw [if_neg (not_not_intro hspan), hnone]
  · rw [if_pos hspan]

/-- A word that stands in the span of its block is judged by its fields, and written. -/
theorem setWord_at (s : State) (hw : wordAt a = some w) (hlo : lo ≤ a) (hhi : a < hi) : s.setWord role op lo hi a v =
    if ∀ f ∈ w.fields, f.settable = false then ⟨s, some Status.notPermitted, 0⟩
    else if w.accepts v = false then ⟨s, some Status.range, 0⟩
    else ⟨s.wordSet role op a v w, some Status.ok, 0⟩ := by
  unfold State.setWord
  rw [if_neg (not_not_intro ⟨hlo, hhi⟩), hw]
  simp only [Bool.not_eq_true, List.all_eq_true, decide_eq_true_eq]
  rfl

theorem setWord_data (s : State) (role op lo hi a v : Nat) : (s.setWord role op lo hi a v).data = 0 := by
  unfold State.setWord
  split
  · rfl
  split
  · rfl
  dsimp only
  split
  · rfl
  split <;> rfl

/-- How a command that sets a word of its block ends: refused where no word stands, where software writes none of its fields, or for a value out of
range; else the word is written and what follows from the write is done. -/
def SetsWord (s : State) (c : Ctx) (o : OpInfo) (lo hi a v : Nat) (after : Word → State → State → State) (t : State) : Prop :=
  ((a < lo ∨ hi ≤ a ∨ wordAt a = none) → Ends s c o Status.range 0 id t) ∧
  ∀ w, wordAt a = some w → lo ≤ a → a < hi →
    if (∀ f ∈ w.fields, f.settable = false) then Ends s c o Status.notPermitted 0 id t
    else if w.accepts v = false then Ends s c o Status.range 0 id t
    else Ends s c o Status.ok 0 (fun f => after w f (f.wordSet (s.sessionRole c.ring c.session) o.op a v w)) t

/-- A command ends so if its effect hands on what the write of the word refuses, and follows a word written with its consequence. -/
theorem runCmd_setsWord {o : OpInfo} {body : List Int} {eff : Nat → State → Res} {after : Word → State → State → State} (hr : Ready s c o)
    (hrefused : ∀ st, st ≠ Status.ok →
      (s.fetch c).setWord (s.sessionRole c.ring c.session) o.op lo hi a v = ⟨s.fetch c, some st, 0⟩ →
      eff (s.sessionRole c.ring c.session) (s.fetch c) = ⟨s.fetch c, some st, 0⟩)
    (hwritten : ∀ w t, wordAt a = some w → (∃ f ∈ w.fields, f.settable = true) → w.accepts v = true →
      t = (s.fetch c).wordSet (s.sessionRole c.ring c.session) o.op a v w →
      (s.fetch c).setWord (s.sessionRole c.ring c.session) o.op lo hi a v = ⟨t, some Status.ok, 0⟩ →
      eff (s.sessionRole c.ring c.session) (s.fetch c) = ⟨after w (s.fetch c) t, some Status.ok, 0⟩) :
    SetsWord s c o lo hi a v after (s.runCmd c o body eff) := by
  refine ⟨fun h => runCmd_refused hr (hrefused _ (by decide) (setWord_nowhere _ h)), fun w hw hlo hhi => ?_⟩
  have hset := setWord_at (role := s.sessionRole c.ring c.session) (op := o.op) (v := v) (s.fetch c) hw hlo hhi
  split
  · next hshut =>
    rw [if_pos hshut] at hset
    exact runCmd_refused hr (hrefused _ (by decide) hset)
  next hopen =>
  rw [if_neg hopen] at hset
  split
  · next hrange =>
    rw [if_pos hrange] at hset
    exact runCmd_refused hr (hrefused _ (by decide) hset)
  · next hin =>
    rw [if_neg hin] at hset
    exact runCmd_answers hr (hwritten w _ hw (by simpa using hopen) (by simpa using hin) rfl hset) (.refl _)

/-- A command whose effect, past its own refusals, is the write of the word, with nothing to follow. -/
theorem runCmd_setsPlain {o : OpInfo} {body : List Int} {eff : Nat → State → Res} (hr : Ready s c o)
    (h : eff (s.sessionRole c.ring c.session) (s.fetch c) = (s.fetch c).setWord (s.sessionRole c.ring c.session) o.op lo hi a v) :
    SetsWord s c o lo hi a v (fun _ _ t => t) (s.runCmd c o body eff) :=
  runCmd_setsWord hr (fun _ _ hset => h.trans hset) fun _ _ _ _ _ _ hset => h.trans hset

/-- A command whose effect, past its own refusals, follows a word written with one consequence, where a condition on what is written asks for it. -/
theorem runCmd_setsWhen {o : OpInfo} {body : List Int} {eff : Nat → State → Res} {after : Word → State → State → State} {p : State → Prop}
    [DecidablePred p] {follow : State → State} (hr : Ready s c o)
    (h : let r := (s.fetch c).setWord (s.sessionRole c.ring c.session) o.op lo hi a v
      eff (s.sessionRole c.ring c.session) (s.fetch c) = if r.st = some Status.ok ∧ p r.s then ⟨follow r.s, r.st, 0⟩ else r)
    (hafter : ∀ w t, wordAt a = some w → after w (s.fetch c) t = if p t then follow t else t) :
    SetsWord s c o lo hi a v after (s.runCmd c o body eff) := by
  refine runCmd_setsWord hr (fun st hst hset => ?_) fun w t hw _ _ _ hset => ?_
  · rw [h, hset]
    exact if_neg fun e => hst (Option.some.inj e.1)
  · rw [h, hset, hafter w t hw]
    by_cases hp : p t
    · rw [if_pos hp, if_pos ⟨rfl, hp⟩]
    · rw [if_neg hp, if_neg fun e => hp e.2]

/-- A command whose effect, past its own refusals, follows a word written with one consequence. -/
theorem runCmd_setsThen {o : OpInfo} {body : List Int} {eff : Nat → State → Res} {after : Word → State → State → State} {follow : State → State}
    (hr : Ready s c o)
    (h : let r := (s.fetch c).setWord (s.sessionRole c.ring c.session) o.op lo hi a v
      eff (s.sessionRole c.ring c.session) (s.fetch c) = if r.st = some Status.ok then ⟨follow r.s, r.st, 0⟩ else r)
    (hafter : ∀ w t, wordAt a = some w → after w (s.fetch c) t = follow t) :
    SetsWord s c o lo hi a v after (s.runCmd c o body eff) :=
  runCmd_setsWhen (p := fun _ => True) (follow := follow) hr (h.trans (if_congr (and_iff_left trivial).symm rfl rfl))
    fun w t hw => (hafter w t hw).trans (if_pos trivial).symm

/-- A refusal judged next: the command ends with it, or goes on as the rest of its effect does. -/
theorem runCmd_judged {o : OpInfo} {body : List Int} {eff : Nat → State → Res} {p R : Prop} [Decidable p] {st : Nat} {rest : Res} (hr : Ready s c o)
    (h : eff (s.sessionRole c.ring c.session) (s.fetch c) = if p then ⟨s.fetch c, some st, 0⟩ else rest)
    (hrest : eff (s.sessionRole c.ring c.session) (s.fetch c) = rest → R) :
    if p then Ends s c o st 0 id (s.runCmd c o body eff) else R := by
  split
  · next hp => exact runCmd_refused hr (h.trans (if_pos hp))
  · next hp => exact hrest (h.trans (if_neg hp))

/-! ## What the commands' own refusals read, which a fetch leaves alone -/

theorem wordVal_at (s : State) (hw : wordAt a = some w) : s.wordVal a = s.rawWord w.fields := by rw [State.wordVal, hw]

theorem rawWord_fetch (s : State) (c : Ctx) (fs : List Fld) : (s.fetch c).rawWord fs = s.rawWord fs := by
  induction fs with
  | nil => rfl
  | cons f fs ih => rw [State.rawWord, State.rawWord, fetch_get, ih]

theorem staged_fetch (s : State) (c : Ctx) : (s.fetch c).hif.staged = s.hif.staged :=
  congrArg (fun u => u.hif.staged) (show (s.fetch c).apart = s.apart from (fetch_apart s c).rest)

theorem outRefusal_fetch (s : State) (c : Ctx) (cmd : Bool) (a v : Nat) : (s.fetch c).outRefusal cmd a v = s.outRefusal cmd a v := by
  have hstaged : ∀ b, (s.fetch c).stagedHi 0 b = s.stagedHi 0 b := fun b => by rw [State.stagedHi, State.stagedHi, staged_fetch]
  have hoffset : (s.fetch c).offsetOk a v = s.offsetOk a v := by rw [State.offsetOk, State.offsetOk, hstaged, fetch_get]
  obtain ⟨h, r, e⟩ := fetch_eq s c
  rw [State.outRefusal, hoffset, e]
  rfl

/-! ## The blocks of the Track die -/

/-- LANE_SET (R112). -/
theorem laneSet_ends (hr : Ready s c opLaneSet) (n off v : Nat) (body : List Int) :
    let t := s.runCmd c opLaneSet body (laneSetEff n off v)
    if 15 < n ∨ 0x2C < off ∨ (off = 0 ∧ laneCfgTaken v = false) ∨ (off = 4 ∧ nominalSettable v = false) then Ends s c opLaneSet Status.range 0 id t
    else if off = 0 ∧ s.laneSt n = 4 ∧ (v % 32 ≠ s.laneSrc n ∨ v / 32 % 4 ≠ s.laneType n) then Ends s c opLaneSet Status.busy 0 id t
    else SetsWord s c opLaneSet 0x110100 0x110900 (0x110100 + 0x80 * n + off) v (fun _ f g =>
      if g.laneCfg n ≠ f.laneCfg n ∧ g.laneRank n ≠ 0 then g.setLane n { g.lane n with changed := true } else g) t := by
  intro t
  have hreads : (s.fetch c).laneSt n = s.laneSt n ∧ (s.fetch c).laneSrc n = s.laneSrc n ∧ (s.fetch c).laneType n = s.laneType n := by
    obtain ⟨h, r, e⟩ := fetch_eq s c
    rw [e]
    exact ⟨rfl, rfl, rfl⟩
  obtain ⟨hst, hsrc, htype⟩ := hreads
  rw [← hst, ← hsrc, ← htype]
  refine runCmd_judged hr ((ite_or _ _ _ _).symm.trans (if_congr ?_ rfl rfl)) fun h => runCmd_judged hr h fun h => ?_
  · simp only [or_assoc, Bool.not_eq_true]
  · exact runCmd_setsWhen (p := fun t => t.laneCfg n ≠ (s.fetch c).laneCfg n ∧ t.laneRank n ≠ 0)
      (follow := fun t => t.setLane n { t.lane n with changed := true }) hr h fun _ _ _ => rfl

/-- HOB_SET (R137). -/
theorem hobSet_ends (hr : Ready s c opHobSet) (off v : Nat) (body : List Int) :
    let t := s.runCmd c opHobSet body (hobSetEff off v)
    if off < 0x20 ∨ (0x58 < off ∧ off < 0x100) ∨ 0x13C < off then Ends s c opHobSet Status.range 0 id t
    else SetsWord s c opHobSet 0x150020 0x150140 (0x150000 + off) v (fun w f g =>
      g.afterHob (0x150000 + off) (f.rawWord w.fields) (f.get Reg.HOB_OSC_CLASS_OCXO) (f.get Reg.HOB_OSC_CLASS_ATOMIC)) t := by
  intro t
  refine runCmd_judged hr ((ite_not _ _ _).symm.trans (if_congr (by omega) rfl rfl)) fun h => runCmd_setsThen (follow := fun t =>
    t.afterHob (0x150000 + off) ((s.fetch c).wordVal (0x150000 + off)) ((s.fetch c).get Reg.HOB_OSC_CLASS_OCXO)
      ((s.fetch c).get Reg.HOB_OSC_CLASS_ATOMIC)) hr h fun w t hw => ?_
  rw [wordVal_at _ hw]

theorem setsTol_iff (s : State) (off v : Nat) : s.setsTol off v = true ↔ off = 0x14 ∧ v % 65536 ≠ s.get Reg.TIM_CAL_CTRL_CAL_TOL := decide_eq_true_iff

/-- TIM_SET, with the role that its value asks for (R159). -/
theorem timSet_ends {o : OpInfo} (ho : o.op = opTimSet.op) (hr : Ready s c o) (off v : Nat) (body : List Int) :
    let t := s.runCmd c o body (timSetEff off v)
    if off ≠ 0x0C ∧ off ≠ 0x14 then Ends s c o Status.range 0 id t
    else SetsWord s c o 0x12000C 0x120018 (0x120000 + off)
      (if off = 0x14 ∧ v % 65536 ≠ s.get Reg.TIM_CAL_CTRL_CAL_TOL then v % 65536 + 65536 * s.get Reg.TIM_CAL_CTRL_STALE_AGE else v)
      (fun _ _ g => g) t := by
  intro t
  refine runCmd_judged hr ((ite_not _ _ _).symm.trans (if_congr (by omega) rfl rfl)) fun h => runCmd_setsPlain hr (h.trans ?_)
  simp only [setsTol_iff, fetch_get, ho]
  rfl

/-! ## SYN_SET -/

/-- The engine counts what it logs, queues and completes in registers below the photo-finish's. -/
theorem key_notMem_bookkeeping {f : Fld} (h : 0x60000 ≤ f.addr) : f.key ∉ bookkeeping := by
  have hbelow : ∀ k ∈ bookkeeping, k < 32 * 0x60000 := by decide
  intro hk
  have := hbelow _ hk
  unfold Fld.key at this
  omega

theorem synOk_quiet {s t : State} (h : Quiet s t) (g : Nat) : t.synFreqOk g = s.synFreqOk g ∧ t.synCfgOk g = s.synCfgOk g := by
  have hget : ∀ f : Fld, 0x60000 ≤ f.addr → t.get f = s.get f := fun f hf => h.regs f (key_notMem_bookkeeping hf)
  have hfreq : t.synFreqOk g = s.synFreqOk g := by
    simp only [State.synFreqOk, State.synNum]
    rw [hget (Reg.SYN_CFG_N g) (by simp only [Reg.SYN_CFG_N]; omega), hget (Reg.SYN_NUM_LO_NUM_LO g) (by simp only [Reg.SYN_NUM_LO_NUM_LO]; omega),
      hget (Reg.SYN_NUM_HI_NUM_HI g) (by simp only [Reg.SYN_NUM_HI_NUM_HI]; omega), hget (Reg.SYN_DEN_DEN g) (by simp only [Reg.SYN_DEN_DEN]; omega)]
  refine ⟨hfreq, ?_⟩
  rw [State.synCfgOk, State.synCfgOk, hfreq, hget (Reg.SYN_CFG_FILTER g) (by simp only [Reg.SYN_CFG_FILTER]; omega),
    hget (Reg.SYN_CFG_EXT_LF g) (by simp only [Reg.SYN_CFG_EXT_LF]; omega)]

theorem synTakes_iff (s t : State) {g off : Nat} (hg : g < 4) (hoff : off < 0x10) :
    s.synTakes t (0x130100 + 0x100 * g + off) = true ↔ s.synSt g = 0 ∨ t.synCfgOk g = true := by
  have hgroup : (0x130100 + 0x100 * g + off - 0x130100) / 0x100 = g := by omega
  rw [State.synTakes, hgroup, Bool.or_eq_true, decide_eq_true_iff]
  exact or_congr_left (by omega)

/-- Whether a group's registers, once written, keep to R161, and to R166 too where the group is not IDLE (R182). -/
def State.synKept (f u : State) (g : Nat) : Prop := u.synFreqOk g = true ∧ (f.synSt g = 0 ∨ u.synCfgOk g = true)

/-- Whether SYN_SET takes its value's own word, and refuses the configuration it would leave. -/
def State.synHeld (f : State) (g off v : Nat) : Prop :=
  off < 0x10 ∧ ∃ w, wordAt (0x130100 + 0x100 * g + off) = some w ∧ (∃ x ∈ w.fields, x.settable = true) ∧ w.accepts v = true ∧
    ¬ f.synKept (f.writeWord 0 (0x130100 + 0x100 * g + off) w (fun _ => true) v) g

/-- The change record that follows a write leaves the judgement of the group's configuration as it is. -/
theorem synKept_wordSet (f : State) {g off : Nat} (hg : g < 4) (hoff : off < 0x10) (role op v : Nat) (w : Word) :
    ((f.wordSet role op (0x130100 + 0x100 * g + off) v w).synFreqOk g = true ∧
      f.synTakes (f.wordSet role op (0x130100 + 0x100 * g + off) v w) (0x130100 + 0x100 * g + off) = true) ↔
      f.synKept (f.writeWord 0 (0x130100 + 0x100 * g + off) w (fun _ => true) v) g := by
  have hq : Quiet (f.writeWord 0 (0x130100 + 0x100 * g + off) w (fun _ => true) v) (f.wordSet role op (0x130100 + 0x100 * g + off) v w) :=
    change_quiet _ _ _ _ _ _ _
  rw [synTakes_iff _ _ hg hoff, (synOk_quiet hq g).1, (synOk_quiet hq g).2]
  rfl

/-- SYN_SET past its refusals of the fixed groups: the word is written unless the configuration it would leave is refused (R161, R166, R182). -/
theorem synSet_sets (hr : Ready s c opSynSet) {g off v : Nat} (hg : g < 4) (hoff : off ≤ 0x14) {eff : Nat → State → Res} (body : List Int)
    (h : let f := s.fetch c
      let r := f.setWord (s.sessionRole c.ring c.session) opSynSet.op (0x130100 + 0x100 * g) (0x130118 + 0x100 * g) (0x130100 + 0x100 * g + off) v
      eff (s.sessionRole c.ring c.session) f = if r.st ≠ some Status.ok then r
        else if off < 0x10 ∧ ¬ (r.s.synFreqOk g = true ∧ f.synTakes r.s (0x130100 + 0x100 * g + off) = true) then ⟨f, some Status.range, 0⟩
        else ⟨r.s.afterSyn f (0x130100 + 0x100 * g + off), r.st, 0⟩) [Decidable ((s.fetch c).synHeld g off v)] :
    let t := s.runCmd c opSynSet body eff
    if (s.fetch c).synHeld g off v then Ends s c opSynSet Status.range 0 id t
    else SetsWord s c opSynSet (0x130100 + 0x100 * g) (0x130118 + 0x100 * g) (0x130100 + 0x100 * g + off) v
      (fun _ f u => u.afterSyn f (0x130100 + 0x100 * g + off)) t := by
  intro t
  split
  · next hheld =>
    obtain ⟨hlt, w, hw, ⟨x, hx, hset⟩, hacc, hbad⟩ := hheld
    have hwrite := setWord_at (role := s.sessionRole c.ring c.session) (op := opSynSet.op) (v := v) (s.fetch c) hw
      (lo := 0x130100 + 0x100 * g) (hi := 0x130118 + 0x100 * g) (by omega) (by omega)
    rw [if_neg fun hall => by simp [hall x hx] at hset, if_neg (by simp [hacc])] at hwrite
    refine runCmd_refused hr (h.trans ?_)
    rw [hwrite]
    exact (if_neg (not_not_intro rfl)).trans (if_pos ⟨hlt, mt (synKept_wordSet _ hg hlt _ _ _ _).1 hbad⟩)
  · next hfree =>
    refine runCmd_setsWord hr (fun st hst hset => h.trans ?_) fun w t hw hset hacc ht hwrite => h.trans ?_
    · exact (if_pos fun e => hst (by rw [hset] at e; exact Option.some.inj e)).trans hset
    · have hkept : ¬ (off < 0x10 ∧ ¬ (t.synFreqOk g = true ∧ (s.fetch c).synTakes t (0x130100 + 0x100 * g + off) = true)) := by
        rintro ⟨hlt, hbad⟩
        rw [ht, synKept_wordSet _ hg hlt] at hbad
        exact hfree ⟨hlt, w, hw, hset, hacc, hbad⟩
      rw [hwrite]
      exact (if_neg (not_not_intro rfl)).trans (if_neg hkept)

theorem synSt_fetch (s : State) (c : Ctx) (g : Nat) : (s.fetch c).synSt g = s.synSt g := by
  simp only [State.synSt, fetch_unit, fetch_get]

/-- SYN_SET (R182). -/
theorem synSet_ends (hr : Ready s c opSynSet) (g off v : Nat) (body : List Int) [Decidable ((s.fetch c).synHeld g off v)] :
    let t := s.runCmd c opSynSet body (synSetEff g off v)
    if 3 < g ∨ 0x14 < off then Ends s c opSynSet Status.range 0 id t
    else if 2 ≤ g ∧ off < 0x10 ∧ (0 < off ∨ v / 256 % 256 ≠ 40 ∨ bit v 3 ≠ bit (s.get (Reg.SYN_CFG_EXT_LF g)) 0)
    then Ends s c opSynSet Status.notPermitted 0 id t
    else if (s.fetch c).synHeld g off v then Ends s c opSynSet Status.range 0 id t
    else SetsWord s c opSynSet (0x130100 + 0x100 * g) (0x130118 + 0x100 * g) (0x130100 + 0x100 * g + off) v
      (fun _ f u => u.afterSyn f (0x130100 + 0x100 * g + off)) t := by
  intro t
  rw [← fetch_get s c]
  split
  · next hspan => exact runCmd_refused hr (if_pos hspan)
  · next hspan => exact runCmd_judged hr (if_neg hspan) fun h => synSet_sets hr (by omega) (by omega) body h

/-! ## The blocks of the Field die -/

/-- OUT_SET (R201). -/
theorem outSet_ends (hr : Ready s c opOutSet) (hid off v : Nat) (body : List Int) :
    let t := s.runCmd c opOutSet body (outSetEff hid off v)
    (outBlock hid = none → Ends s c opOutSet Status.range 0 id t) ∧
    ∀ lo hi, outBlock hid = some (lo, hi) →
      (∀ st, s.outRefusal true (lo + off) v = some st → Ends s c opOutSet st 0 id t) ∧
      (s.outRefusal true (lo + off) v = none → SetsWord s c opOutSet lo hi (lo + off) v (fun _ _ g => g.afterOut (lo + off)) t) := by
  intro t
  refine ⟨fun h => runCmd_refused hr ?_, fun lo hi h => ⟨fun st hst => runCmd_refused hr ?_, fun hst => ?_⟩⟩
  · rw [outSetEff, h]
  · rw [← outRefusal_fetch s c] at hst
    simp only [outSetEff, h, hst]
  · rw [← outRefusal_fetch s c] at hst
    refine runCmd_setsThen (follow := fun t => t.afterOut (lo + off)) hr ?_ fun _ _ _ => rfl
    simp only [outSetEff, h, hst]
    rfl

/-- GNB_SET (R212, R230). -/
theorem gnbSet_ends (hr : Ready s c opGnbSet) (off v : Nat) (body : List Int) :
    let t := s.runCmd c opGnbSet body (gnbSetEff off v)
    if off < 0x0C ∨ (0x24 < off ∧ off < 0x80) ∨ (0xA4 < off ∧ off < 0x100) ∨ 0x108 < off ∨ (off = 0x1C ∧ 1000 < max (v % 32) s.codeMsMax * (v / 32 % 1024))
    then Ends s c opGnbSet Status.range 0 id t
    else SetsWord s c opGnbSet 0x18000C 0x18010C (0x180000 + off) v (fun w f g =>
      if f.rawWord w.fields ≠ v then g.afterGnb (0x180000 + off) (f.rawWord w.fields) else g) t := by
  intro t
  have hcode : (s.fetch c).codeMsMax = s.codeMsMax := by
    obtain ⟨h, r, e⟩ := fetch_eq s c
    rw [e]
    rfl
  rw [← hcode]
  refine runCmd_judged hr ((ite_or _ _ _ _).symm.trans (if_congr ?_ rfl rfl)) fun h => runCmd_setsWhen
    (p := fun _ => (s.fetch c).wordVal (0x180000 + off) ≠ v) (follow := fun t => t.afterGnb (0x180000 + off) ((s.fetch c).wordVal (0x180000 + off)))
    hr h fun w t hw => ?_
  · omega
  · rw [wordVal_at _ hw]

/-! ## The services -/

/-- PTP_INST_SET (R257). -/
theorem ptpInstSet_ends (hr : Ready s c opPtpInstSet) (k off v : Nat) (body : List Int) :
    let t := s.runCmd c opPtpInstSet body (ptpInstSetEff k off v)
    if 4 ≤ k ∨ (0x30 < off ∧ off < 0xC0) ∨ 0xFC < off ∨ (off = 0 ∧ 4 < v % 8) ∨ (off = 0x0C ∧ v / 2 ^ 16 % 2 ^ 10 < v % 2 ^ 10)
    then Ends s c opPtpInstSet Status.range 0 id t
    else if off < 8 ∧ s.instSt k ≠ 0 then Ends s c opPtpInstSet Status.busy 0 id t
    else SetsWord s c opPtpInstSet (0x340100 + 0x100 * k) (0x340200 + 0x100 * k) (0x340100 + 0x100 * k + off) v (fun _ _ g => g) t := by
  intro t
  have hst : (s.fetch c).instSt k = s.instSt k := fetch_get s c _
  rw [← hst]
  refine runCmd_judged hr ((ite_or _ _ _ _).symm.trans (if_congr (by omega) rfl rfl)) fun h => runCmd_judged hr h fun h => ?_
  rw [show 0x340200 + 0x100 * k = 0x340100 + 0x100 * k + 0x100 by omega]
  exact runCmd_setsPlain hr h

/-- Every security association has a first word. -/
theorem wordAt_sa {i : Nat} (hi : i < 32) : (wordAt (0x340800 + 0x20 * i)).isSome = true := by
  have hall : ∀ i < 32, (wordAt (0x340800 + 0x20 * i)).isSome = true := by decide
  exact hall i hi

/-- PTP_SA_SET (R246, R257). -/
theorem ptpSaSet_ends (hr : Ready s c opPtpSaSet) (i off v : Nat) (body : List Int)
    [Decidable (∀ w, wordAt (0x340800 + 0x20 * i) = some w → v / 2 ≠ s.rawWord w.fields / 2)] :
    let t := s.runCmd c opPtpSaSet body (ptpSaSetEff i off v)
    if 32 ≤ i ∨ 0x14 < off ∨ (off = 0 ∧ s.saClash i v = true) then Ends s c opPtpSaSet Status.range 0 id t
    else if s.saUsable i s.linear = true ∧ ((off = 0 ∧ ∀ w, wordAt (0x340800 + 0x20 * i) = some w → v / 2 ≠ s.rawWord w.fields / 2) ∨
      off = 4 ∨ off = 8 ∨ off = 0x0C) then Ends s c opPtpSaSet Status.busy 0 id t
    else SetsWord s c opPtpSaSet (0x340800 + 0x20 * i) (0x340818 + 0x20 * i) (0x340800 + 0x20 * i + off) v (fun _ _ g => g) t := by
  intro t
  have hreads : (s.fetch c).saClash i v = s.saClash i v ∧ (s.fetch c).saUsable i (s.fetch c).linear = s.saUsable i s.linear := by
    obtain ⟨h, r, e⟩ := fetch_eq s c
    rw [e]
    exact ⟨rfl, rfl⟩
  obtain ⟨hclash, husable⟩ := hreads
  rw [← hclash, ← husable]
  split
  · next h => exact runCmd_refused hr ((ite_or _ _ _ _).symm.trans (if_pos (or_assoc.2 h)))
  next h =>
  obtain ⟨w, hw⟩ := Option.isSome_iff_exists.1 (wordAt_sa (i := i) (by omega))
  refine runCmd_judged hr (((ite_or _ _ _ _).symm.trans (if_neg (mt or_assoc.1 h))).trans (if_congr ?_ rfl rfl)) fun h => ?_
  · simp only [hw, Option.some.injEq, forall_eq', rawWord_fetch]
  · rw [show 0x340818 + 0x20 * i = 0x340800 + 0x20 * i + 0x18 by omega]
    exact runCmd_setsPlain hr h

/-- NTP_SET (R272, R281). -/
theorem ntpSet_ends (hr : Ready s c opNtpSet) (off v : Nat) (body : List Int) :
    let t := s.runCmd c opNtpSet body (ntpSetEff off v)
    let m := (off - 0x1400) / 0x20
    let w := (off - 0x1400) % 0x20
    if off < 0x1000 ∨ 0x15FC < off then Ends s c opNtpSet Status.range 0 id t
    else if 0x1400 ≤ off ∧ s.mkHolds m = true ∧ (w = 4 ∨ (w = 0 ∧ (Reg.MK_CFG_KEY_SLOT m).part v ≠ s.get (Reg.MK_CFG_KEY_SLOT m)))
    then Ends s c opNtpSet Status.busy 0 id t
    else if 0x1400 ≤ off ∧ s.mkClash m w v = true then Ends s c opNtpSet Status.range 0 id t
    else SetsWord s c opNtpSet 0x341000 0x341600 (0x340000 + off) v (fun _ _ g => g.mintUpdate.ntpUpdate) t := by
  intro t m w
  have hreads : (s.fetch c).mkHolds m = s.mkHolds m ∧ (s.fetch c).mkClash m w v = s.mkClash m w v := by
    obtain ⟨h, r, e⟩ := fetch_eq s c
    rw [e]
    exact ⟨rfl, rfl⟩
  obtain ⟨hholds, hclash⟩ := hreads
  rw [← hholds, ← hclash, ← fetch_get s c]
  refine runCmd_judged hr (if_congr (by omega) rfl rfl) fun h => runCmd_judged hr h fun h => runCmd_judged hr h fun h => ?_
  exact runCmd_setsThen (follow := fun t => t.mintUpdate.ntpUpdate) hr h fun _ _ _ => rfl

/-- CLT_SET (R301). -/
theorem cltSet_ends (hr : Ready s c opCltSet) (off v : Nat) (body : List Int) :
    let t := s.runCmd c opCltSet body (cltSetEff off v)
    if off < 0x0C ∨ (0x1C < off ∧ off < 0x400) ∨ (0x4FC < off ∧ off < 0x1000) ∨ 0x2FFC < off ∨
      (off = 0x1C ∧ 256 < v % 256 + v / 2 ^ 8 % 256 + v / 2 ^ 16 % 256 + v / 2 ^ 24 % 256) ∨
      (0x1000 ≤ off ∧ off % 0x20 = 0x10 ∧ addrWidth (v / 2 ^ 8 % 4) < v % 256) ∨
      (off = 0x0C ∧ s.dramGiB < Reg.CLT_CTRL_BASE_GB.part v + 1) then Ends s c opCltSet Status.range 0 id t
    else if off = 0x0C ∧ s.get Reg.CLT_STATUS_READY = 1 ∧
      (Reg.CLT_CTRL_SIZE_LOG2.part v ≠ s.get Reg.CLT_CTRL_SIZE_LOG2 ∨ Reg.CLT_CTRL_BASE_GB.part v ≠ s.get Reg.CLT_CTRL_BASE_GB)
    then Ends s c opCltSet Status.busy 0 id t
    else SetsWord s c opCltSet 0x38000C 0x383000 (0x380000 + off) v (fun _ _ g => g) t := by
  intro t
  have hdram : (s.fetch c).dramGiB = s.dramGiB := by rw [State.dramGiB, State.dramGiB, fetch_get]
  rw [← hdram, ← fetch_get s c Reg.CLT_STATUS_READY, ← fetch_get s c Reg.CLT_CTRL_SIZE_LOG2, ← fetch_get s c Reg.CLT_CTRL_BASE_GB]
  refine runCmd_judged hr ?_ fun h => runCmd_judged hr h fun h => runCmd_setsPlain hr h
  unfold cltSetEff
  rw [← ite_or, ← ite_or, ← ite_or]
  exact if_congr (by omega) rfl rfl

/-- PORT_SET (R304, R306, R328). -/
theorem portSet_ends (hr : Ready s c opPortSet) (p off v : Nat) (body : List Int) :
    let t := s.runCmd c opPortSet body (portSetEff p off v)
    let mode := (Reg.PORT_CFG_MODE p).part v
    let fec := (Reg.PORT_CFG_FEC p).part v
    if 4 ≤ p ∨ 0x174 < off ∨ (off = 0 ∧ (4 < mode ∨ 2 < fec ∨ fecAllowed mode fec = false)) then Ends s c opPortSet Status.range 0 id t
    else if off = 0 ∧ (s.unit (0x8000 + p)).st ≠ .disabled then Ends s c opPortSet Status.busy 0 id t
    else SetsWord s c opPortSet (0x300000 + 0x4000 * p) (0x300178 + 0x4000 * p) (0x300000 + 0x4000 * p + off) v (fun _ _ g => g) t := by
  intro t mode fec
  rw [← fetch_unit s c]
  refine runCmd_judged hr ((ite_or _ _ _ _).symm.trans (if_congr ?_ rfl rfl)) fun h => runCmd_judged hr h fun h => runCmd_setsPlain hr h
  rw [or_assoc, Bool.not_eq_true]

/-! ## The fabric and the counters -/

/-- FAB_SET (R404). -/
theorem fabSet_ends (off : Nat) (hr : Ready s c (opFabSet off)) (v : Nat) (body : List Int) :
    let t := s.runCmd c (opFabSet off) body (fabSetEff off v)
    if isRqCtrl off = true then
      if 1 < v then Ends s c (opFabSet off) Status.range 0 id t
      else Ends s c (opFabSet off) Status.ok 0 (fun f =>
        (if v = 1 then f.flush ((off - 0x100) / 0x20) else f).change (s.sessionRole c.ring c.session) 0xB200 0x0E01 (0x40000 + off) 0 v) t
    else SetsWord s c (opFabSet off) 0x40000 0x401C0 (0x40000 + off) v (fun _ _ g => g) t := by
  intro t
  split
  · next hctrl => exact runCmd_judged hr (if_pos hctrl) fun h => runCmd_answers hr h (.refl _)
  · next hctrl => exact runCmd_setsPlain hr (if_neg hctrl)

/-- PMC_SET (R424, R426). -/
theorem pmcSet_ends (hr : Ready s c opPmcSet) (off v : Nat) (body : List Int) :
    let t := s.runCmd c opPmcSet body (pmcSetEff off v)
    if 0x400 ≤ off ∧ off < 0x2400 ∧ (off - 0x400) % 0x400 = 0x0C then
      if 511 < v then Ends s c opPmcSet Status.range 0 id t
      else Ends s c opPmcSet Status.ok 0 (fun f => (f.pmcClear ((off - 0x400) / 0x400) v).change (s.sessionRole c.ring c.session)
        (hidOfAddr (0x50000 + off)) 0x0F02 (0x50000 + off) 0 v) t
    else if 0x440 ≤ off ∧ off < 0x2400 ∧ 0x40 ≤ off % 0x400 ∧ off % 0x40 = 0x10 ∧ v % 64 ≠ 0 ∧ (v % 64 < 6 ∨ 48 < v % 64)
    then Ends s c opPmcSet Status.range 0 id t
    else SetsWord s c opPmcSet 0x50000 0x60000 (0x50000 + off) v (fun _ f g => f.hooked (0x50000 + off) fun _ => g) t := by
  intro t
  split
  · next hclear => exact runCmd_judged hr (if_pos hclear) fun h => runCmd_answers hr h (.refl _)
  · next hclear =>
    refine runCmd_judged hr (if_neg hclear) fun h => runCmd_setsThen (follow := fun u => (s.fetch c).hooked (0x50000 + off) fun _ => u) hr ?_ fun _ _ _ => rfl
    exact h.trans (if_congr Iff.rfl (by rw [setWord_data]; rfl) rfl)

end

/-- Settles O57: each block by its own lemma, over the common write of a word. -/
theorem blockSets : Obligations.BlockSets := by
  unfold Obligations.BlockSets
  intro s c role word plain
  refine ⟨fun n off v hr => ⟨_, rfl, laneSet_ends hr n off v _⟩, fun off v hr => ⟨_, rfl, hobSet_ends hr off v _⟩, ?_, ?_,
    fun hid off v hr => ⟨_, rfl, outSet_ends hr hid off v _⟩, fun off v hr => ⟨_, rfl, gnbSet_ends hr off v _⟩,
    fun k off v hr => ⟨_, rfl, ptpInstSet_ends hr k off v _⟩, fun i off v hr => ⟨_, rfl, ptpSaSet_ends hr i off v _⟩,
    fun off v hr => ⟨_, rfl, ntpSet_ends hr off v _⟩, fun off v hr => ⟨_, rfl, cltSet_ends hr off v _⟩,
    fun p off v hr => ⟨_, rfl, portSet_ends hr p off v _⟩, fun off v hr => ⟨_, rfl, runCmd_setsPlain hr rfl⟩,
    fun off v hr => ⟨_, rfl, fabSet_ends off hr v _⟩, fun off v hr => ⟨_, rfl, pmcSet_ends hr off v _⟩⟩
  · intro off v tol o hr
    have ho : { opTimSet with role := if s.setsTol off v = true then 3 else 2 } = o :=
      congrArg (fun r => { opTimSet with role := r }) (if_congr (setsTol_iff s off v) rfl rfl)
    exact ⟨_, congrArg (fun o => Host.Outcome.next (s.runCmd c o [off, v] (timSetEff off v))) ho, timSet_ends (o := o) rfl hr off v _⟩
  · intro g off v hr
    refine ⟨_, rfl, ?_⟩
    have h := synSet_ends hr g off v
    simp only [State.synHeld, State.synKept, synSt_fetch] at h
    exact h _

end Sys2Proof.Machine
end

section
/-! PROOFS. What happens to a lane: its measurements, its loss of signal, and the ends of its timers (R84 to R107, R497). -/

namespace Sys2Proof.Machine

section

variable {s : State} {n : Nat}

/-! ## A lane's change of state: what it shows and what it leaves -/

theorem dropShadow_keeps (s : State) (n : Nat) : (s.dropShadow n).regs = s.regs ∧ (s.dropShadow n).timers = s.timers ∧ (s.dropShadow n).tc = s.tc := by
  unfold State.dropShadow
  split <;> exact ⟨rfl, rfl, rfl⟩

/-- A lane's move to another state, before what the new state loads: state and cause shown, 0x0020, no timer of the old state, no earlier shadow. -/
def State.laneLeft (s : State) (n st cause : Nat) : State :=
  (((((s.put (Reg.LANE_STATE_CAUSE n) cause).put (Reg.LANE_STATE_STATE n) st).raise (evLaneState n)
    [i1 n, i1 (s.laneSt n), i1 st, i1 cause]).stopTimer (.qual n)).stopTimer (.disq n)).dropShadow n

theorem get_laneLeft {st cause : Nat} {f : Fld} (hb : f.key ∉ bookkeeping) : (s.laneLeft n st cause).get f =
    ((s.put (Reg.LANE_STATE_CAUSE n) cause).put (Reg.LANE_STATE_STATE n) st).get f := by
  rw [State.get, State.laneLeft, (dropShadow_keeps _ n).1]
  exact (raise_quiet_of_sticky_none (e := evLaneState n) rfl _ _ _).regs f hb

/-- A lane's timers once both are stopped. -/
theorem timer_stopBoth (s : State) (n : Nat) : ((s.stopTimer (.qual n)).stopTimer (.disq n)).timer (.qual n) = none ∧
    ((s.stopTimer (.qual n)).stopTimer (.disq n)).timer (.disq n) = none := by
  refine ⟨?_, State.timer_stopTimer_same _ _⟩
  rw [State.timer_stopTimer_ne (m := .disq n) (n := .qual n) _ nofun, State.timer_stopTimer_same]

theorem laneLeft_shows (s : State) (n : Nat) {st cause : Nat} (hst : st < 8) (hcause : cause < 256) : let t := s.laneLeft n st cause
    t.laneSt n = st ∧ t.get (Reg.LANE_STATE_CAUSE n) = cause ∧ t.timer (.qual n) = none ∧ t.timer (.disq n) = none ∧ t.tc = s.tc ∧
      t.get (Reg.LANE_TIMERS_QUAL_TIME n) = s.get (Reg.LANE_TIMERS_QUAL_TIME n) := by
  intro t
  obtain ⟨-, htimers, htc⟩ := dropShadow_keeps (((((s.put (Reg.LANE_STATE_CAUSE n) cause).put (Reg.LANE_STATE_STATE n) st).raise (evLaneState n)
    [i1 n, i1 (s.laneSt n), i1 st, i1 cause]).stopTimer (.qual n)).stopTimer (.disq n)) n
  have htimer : ∀ m : Tm, t.timer m = _ := fun m => congrArg (aget · m) htimers
  refine ⟨?_, ?_, (htimer _).trans (timer_stopBoth _ n).1, (htimer _).trans (timer_stopBoth _ n).2, htc.trans (raise_tc _ _ _ _), ?_⟩
  · rw [State.laneSt, get_laneLeft (key_notMem_bookkeeping (by simp only [Reg.LANE_STATE_STATE]; omega)), State.get_put_same]
    exact Nat.mod_eq_of_lt hst
  · rw [get_laneLeft (key_notMem_bookkeeping (by simp only [Reg.LANE_STATE_CAUSE]; omega)),
      State.get_put_ne _ _ (by simp [Fld.key, Reg.LANE_STATE_CAUSE, Reg.LANE_STATE_STATE]), State.get_put_same]
    exact Nat.mod_eq_of_lt hcause
  · rw [get_laneLeft (key_notMem_bookkeeping (by simp only [Reg.LANE_TIMERS_QUAL_TIME]; omega)),
      State.get_put_ne _ _ (by simp only [Fld.key, Reg.LANE_TIMERS_QUAL_TIME, Reg.LANE_STATE_STATE]; omega),
      State.get_put_ne _ _ (by simp only [Fld.key, Reg.LANE_TIMERS_QUAL_TIME, Reg.LANE_STATE_CAUSE]; omega)]

theorem laneTo_available (h : s.laneSt n ≠ 3) (cause : Nat) : s.laneTo n 3 cause = s.laneLeft n 3 cause := if_neg h

theorem laneTo_qualifying (h : s.laneSt n ≠ 2) (cause : Nat) : s.laneTo n 2 cause =
    (s.laneLeft n 2 cause).arm (.qual n) ((s.laneLeft n 2 cause).get (Reg.LANE_TIMERS_QUAL_TIME n) * secNs) := if_neg h

/-! ## Measurements -/

/-- A measurement shows its offset, a PHASE or FREQUENCY lane's folded into a period (R85). -/
theorem measureLane_offset (s : State) (n : Nat) (raw : Int) (m : Mark) :
    (s.measureLane n raw m).get64 (Reg.LANE_OFFSET_LO_OFS_LO n) (Reg.LANE_OFFSET_HI_OFS_HI n)
      = toBits 64 (if s.laneType n = 2 then raw else foldPhase raw (s.laneNom n)) := by
  have hbits : toBits 64 (if s.laneType n = 2 then raw else foldPhase raw (s.laneNom n)) < 2 ^ 64 := by
    unfold toBits
    omega
  have hget : ∀ f : Fld, f.key ≠ (Reg.LANE_FOFF_FOFF n).key → f.key ≠ (Reg.LANE_DRIFT_DRIFT n).key → (s.measureLane n raw m).get f =
      (s.putI64 (Reg.LANE_OFFSET_LO_OFS_LO n) (Reg.LANE_OFFSET_HI_OFS_HI n)
        (if s.laneType n = 2 then raw else foldPhase raw (s.laneNom n))).get f :=
    fun f hfreq hdrift => (State.get_put_ne _ _ hdrift).trans (State.get_put_ne _ _ hfreq)
  rw [State.get64, hget _ (by simp only [Fld.key, Reg.LANE_FOFF_FOFF, Reg.LANE_OFFSET_LO_OFS_LO]; omega)
      (by simp only [Fld.key, Reg.LANE_DRIFT_DRIFT, Reg.LANE_OFFSET_LO_OFS_LO]; omega),
    hget _ (by simp only [Fld.key, Reg.LANE_FOFF_FOFF, Reg.LANE_OFFSET_HI_OFS_HI]; omega)
      (by simp only [Fld.key, Reg.LANE_DRIFT_DRIFT, Reg.LANE_OFFSET_HI_OFS_HI]; omega)]
  exact put64_regs_get64 s (by simp only [Fld.key, Reg.LANE_OFFSET_LO_OFS_LO, Reg.LANE_OFFSET_HI_OFS_HI]; omega) rfl rfl hbits

/-! ## Loss of signal -/

/-- A SELECTED lane's loss freezes the loop, and a freeze touches nothing but its scalars (R91). -/
theorem freeze_shows (s : State) : s.freeze.regs = s.regs ∧ s.freeze.lanes = s.lanes ∧ s.freeze.tc = s.tc ∧
    (s.var .frozen = 0 → s.freeze.var .frozen = 1 ∧ s.freeze.var .freezeAt = s.linear ∧ s.freeze.var .freezeTeb = s.get Reg.HOB_TEB_TEB) := by
  unfold State.freeze
  split
  · next h => exact ⟨rfl, rfl, rfl, fun h0 => by rw [h] at h0; exact absurd h0 (by decide)⟩
  · refine ⟨rfl, rfl, rfl, fun _ => ⟨?_, ?_, State.var_setVar_same _ _ _⟩⟩
    · rw [State.var_setVar_ne _ _ (by decide), State.var_setVar_ne _ _ (by decide), State.var_setVar_same]
    · rw [State.var_setVar_ne _ _ (by decide), State.var_setVar_same]

/-- A lane's loss of signal, before the freeze: noted, with its sticky bit and event where the signal was up. -/
def State.losNoted (s : State) (n : Nat) : State :=
  let t := s.setLane n { s.lane n with up := false, los := true }
  if (s.lane n).up then t.raise (evLane n 0) [i1 n] else t

theorem laneLos_eq (hn : n < 16) (h : s.laneSt n ≠ 0) :
    s.laneLos n = if (s.losNoted n).laneSt n = 4 then (s.losNoted n).freeze else s.losNoted n := if_neg (by omega)

theorem get_losNoted {f : Fld} (hb : f.key ∉ bookkeeping) (hne : f.key ≠ (Reg.LANE_STICKY_LOS n).key) : (s.losNoted n).get f = s.get f := by
  unfold State.losNoted
  dsimp only
  split
  · exact get_raise_sticky _ (e := evLane n 0) rfl hb hne
  · rfl

theorem losNoted_shows (s : State) (hn : n < 16) : let t := s.losNoted n
    (t.lane n).up = false ∧ (t.lane n).los = true ∧ t.laneSt n = s.laneSt n ∧ t.get Reg.HOB_TEB_TEB = s.get Reg.HOB_TEB_TEB ∧ t.tc = s.tc ∧
      t.var .frozen = s.var .frozen := by
  intro t
  have ht : t.tc = s.tc ∧ t.var .frozen = s.var .frozen ∧ t.lane n = { s.lane n with up := false, los := true } := by
    show (s.losNoted n).tc = s.tc ∧ (s.losNoted n).var .frozen = s.var .frozen ∧ (s.losNoted n).lane n = _
    unfold State.losNoted
    dsimp only
    split
    · exact ⟨raise_tc _ _ _ _, var_raise _ (by decide), (raise_lane _ _ _ _ _).trans (State.lane_setLane_same _ _ _)⟩
    · exact ⟨rfl, rfl, State.lane_setLane_same _ _ _⟩
  obtain ⟨htc, hvar, hlane⟩ := ht
  refine ⟨by rw [hlane], by rw [hlane], ?_, ?_, htc, hvar⟩
  · exact get_losNoted (key_notMem_bookkeeping (by simp only [Reg.LANE_STATE_STATE]; omega))
      (by simp only [Fld.key, Reg.LANE_STATE_STATE, Reg.LANE_STICKY_LOS]; omega)
  · exact get_losNoted (by decide) (by simp only [Fld.key, Reg.HOB_TEB_TEB, Reg.LANE_STICKY_LOS]; omega)

theorem laneLos_shows (hn : n < 16) (h : s.laneSt n ≠ 0) : let t := s.laneLos n
    (t.lane n).up = false ∧ (t.lane n).los = true ∧
      (s.laneSt n = 4 → s.var .frozen = 0 → t.var .frozen = 1 ∧ t.var .freezeAt = s.linear ∧ t.var .freezeTeb = s.get Reg.HOB_TEB_TEB) ∧
      (s.laneSt n ≠ 4 → t.var .frozen = s.var .frozen) ∧ t.laneSt n = s.laneSt n ∧ t.tc = s.tc := by
  intro t
  have ht : t = if (s.losNoted n).laneSt n = 4 then (s.losNoted n).freeze else s.losNoted n := laneLos_eq hn h
  clear_value t
  obtain ⟨hup, hlos, hst, hteb, htc, hfrozen⟩ := losNoted_shows s hn
  obtain ⟨hregs, hlanes, htime, hfreeze⟩ := freeze_shows (s.losNoted n)
  have hlane : (s.losNoted n).freeze.lane n = (s.losNoted n).lane n := by rw [State.lane, State.lane, hlanes]
  have hlinear : (s.losNoted n).linear = s.linear := by rw [State.linear, State.linear, State.ns, State.ns, htc]
  rw [hfrozen, hlinear, hteb] at hfreeze
  rw [hst] at ht
  split at ht
  · next hsel =>
    subst ht
    refine ⟨by rw [hlane, hup], by rw [hlane, hlos], fun _ => hfreeze, fun hne => absurd hsel hne, ?_, htime.trans htc⟩
    rw [← hst, State.laneSt, State.laneSt, State.get, State.get, hregs]
  · next hsel =>
    subst ht
    exact ⟨hup, hlos, fun hst => absurd hst hsel, fun _ => hfrozen, hst, htc⟩

/-! ## Timers -/

theorem atLapOnly_eq (hlap : s.atLap = true) (hon : s.selectorOn = true) (f : State → State) : s.atLapOnly f = f s := if_pos ⟨hlap, hon⟩

theorem atLapOnly_stays {f : State → State} (h : s.atLap = true → s.selectorOn = true → f s = s) : s.atLapOnly f = s := by
  unfold State.atLapOnly
  split
  · next hlap => exact h hlap.1 hlap.2
  · rfl

/-- QUAL_TIME that ends out of holdover makes the lane AVAILABLE (R88, R107). -/
theorem qualTimeExpiry_available (hn : n < 16) (hlap : s.atLap = true) (hon : s.selectorOn = true) (hst : s.laneSt n = 2)
    (hdue : s.due (.qual n) = true) (hrank : s.laneRank n ≠ 0) (hlost : s.lostCause n = none) (hlimit : s.limitCause n = none)
    (hhold : s.inHoldover = false) : exec (.qualTimeExpiry n) s = .next (s.laneLeft n 3 0) := by
  have hqualified : s.qualified n = s.laneTo n 3 0 := if_neg fun h => by simp [hhold] at h
  rw [← laneTo_available (by omega), ← hqualified]
  exact congrArg Host.Outcome.next ((atLapOnly_eq hlap hon _).trans (if_pos ⟨hn, hst, hdue, hrank, hlost, hlimit⟩))

/-- DISQ_HOLD that ends begins the qualification (R88). -/
theorem disqHoldExpiry_qualifying (hn : n < 16) (hlap : s.atLap = true) (hon : s.selectorOn = true) (hst : s.laneSt n = 6)
    (hdue : s.due (.disq n) = true) (hrank : s.laneRank n ≠ 0) (hlost : s.lostCause n = none) : exec (.disqHoldExpiry n) s =
      .next ((s.laneLeft n 2 0).arm (.qual n) ((s.laneLeft n 2 0).get (Reg.LANE_TIMERS_QUAL_TIME n) * secNs)) := by
  rw [← laneTo_qualifying (by omega)]
  exact congrArg Host.Outcome.next ((atLapOnly_eq hlap hon _).trans (if_pos ⟨hn, hst, hdue, hrank, hlost⟩))

theorem warnOff_eq (s : State) (n k : Nat) : s.warnOff n k = ((s.setLane n { s.lane n with warn := clrBit (s.lane n).warn k }).put
    (Reg.LANE_STATE_WARN n) (if clrBit (s.lane n).warn k = 0 then 0 else 1)).stopTimer (.warn n k) := by
  unfold State.warnOff State.putB
  by_cases h : clrBit (s.lane n).warn k = 0 <;> simp [h, b2n]

/-- WTR that ends has the lane chosen anew, once the lap's lane states stand (R97). -/
theorem wtrExpiry_ends (s : State) : ∃ t, exec .wtrExpiry s = .next t ∧
    if s.atLap ∧ s.selectorOn ∧ s.due .wtr ∧ s.var .wtrLane ≠ 0 ∧ s.var .lapEdge = (s.tc.edges : Int) + 1 then t = (s.choose.setAllows).discLap
    else t = s := by
  refine ⟨_, rfl, ?_⟩
  split
  · next h =>
    obtain ⟨hlap, hon, hends⟩ := h
    exact (atLapOnly_eq hlap hon _).trans (if_pos hends)
  · next h => exact atLapOnly_stays fun hlap hon => if_neg fun hends => h ⟨hlap, hon, hends⟩

theorem warnClear_ends (s : State) {n k : Nat} (hn : n < 16) (hk : k < 3) : ∃ t, exec (.warnClear n k) s = .next t ∧
    if s.due (.warn n k) ∧ bit (s.lane n).warn k ∧ s.warnCrossed n k = false then t = (s.warnOff n k).setAllows else t = s := by
  refine ⟨_, rfl, ?_⟩
  split
  · next h =>
    obtain ⟨hdue, hbit, hwithin⟩ := h
    exact if_pos ⟨hn, hk, hdue, hbit, Bool.eq_false_iff.1 hwithin⟩
  · next h =>
    refine if_neg fun hends => h ?_
    obtain ⟨-, -, hdue, hbit, hwithin⟩ := hends
    exact ⟨hdue, hbit, Bool.eq_false_iff.2 hwithin⟩

/-- The episodes between two parties, or a forced lane's allowance against the second (R100, R109). -/
def State.episodesOf (s : State) (a b : Nat) : List Episode :=
  s.episodes.filter fun e => decide ((e.a = a ∧ e.b = b) ∨ (e.force = true ∧ e.a = b ∧ e.b = a))

theorem endAgreed_singleton (s : State) (e : Episode) :
    s.endAgreed [e] = if s.due e.timer ∧ s.agreeNow e then s.endEpisode e false else s := rfl

theorem disagreeEnd_ends (s : State) (a b : Nat) : ∃ t, exec (.disagreeEnd a b) s = .next t ∧
    if s.atLap ∧ s.selectorOn ∧ s.episodesOf a b ≠ [] then t = (s.endAgreed (s.episodesOf a b)).setAllows else t = s := by
  refine ⟨_, rfl, ?_⟩
  split
  · next h =>
    obtain ⟨hlap, hon, hsome⟩ := h
    exact (atLapOnly_eq hlap hon _).trans (if_neg (mt List.isEmpty_iff.1 hsome))
  · next h => exact atLapOnly_stays fun hlap hon => if_pos (List.isEmpty_iff.2 (not_not.1 fun hsome => h ⟨hlap, hon, hsome⟩))

/-- A build-out that has been retired is reported, and its note taken back (R497). -/
theorem buildoutRetired_ends (s : State) : ∃ t, exec .buildoutRetired s = .next t ∧
    if s.tc.bDone then Quiet { s with tc := { s.tc with bDone := false } } t else t = s := by
  by_cases h : s.tc.bDone = true
  · exact ⟨_, congrArg Host.Outcome.next (if_pos h), (if_pos h).mpr (raise_quiet_of_sticky_none rfl _ _ _)⟩
  · exact ⟨_, congrArg Host.Outcome.next (if_neg h), (if_neg h).mpr rfl⟩

/-! ## The shadow -/

/-- The shadow anchored anew: from no departure, with the bound in force (R101). -/
theorem anchorShadow_shows (s : State) (afterStep : Bool) : let t := s.anchorShadow afterStep
    t.tc = { s.tc with dep := 0 } ∧ t.regs = s.regs ∧ t.var .shadowOn = 1 ∧ t.var .shadowAt = s.runNs ∧ t.var .shadowTeb = s.get Reg.HOB_TEB_TEB ∧
      t.timer .shadow = some (s.runNs + s.get Reg.SEL_XCHK_XCHK_SPAN * 1000000000) := by
  intro t
  have hlast : ∀ v : Var, v ≠ .shadowUy → v ≠ .shadowAmax → v ≠ .shadowW → v ≠ .shadowWait → t.var v =
      ((((s.carryShadows s.tc.dep).setVar .shadowOn 1).setVar .shadowAt s.runNs).setVar .shadowTeb (s.get Reg.HOB_TEB_TEB)).var v := fun v hu ha hw hwait =>
    (State.var_setVar_ne _ _ hw).trans ((State.var_setVar_ne _ _ ha).trans ((State.var_setVar_ne _ _ hu).trans (State.var_setVar_ne _ _ hwait)))
  refine ⟨rfl, rfl, ?_, ?_, ?_, State.timer_arm_same _ _ _⟩
  · rw [hlast _ (by decide) (by decide) (by decide) (by decide), State.var_setVar_ne _ _ (by decide), State.var_setVar_ne _ _ (by decide),
      State.var_setVar_same]
  · rw [hlast _ (by decide) (by decide) (by decide) (by decide), State.var_setVar_ne _ _ (by decide), State.var_setVar_same]
  · rw [hlast _ (by decide) (by decide) (by decide) (by decide), State.var_setVar_same]

end

/-- Settles O12: a measurement by what it shows, a loss of signal by its note and freeze, each timer by the move it makes, and the shadow and the
build-out by their own lemmas. -/
theorem laneEvents : Obligations.LaneEvents := by
  unfold Obligations.LaneEvents
  refine ⟨fun s n hn => ⟨fun off hout => ?_, fun off hst hon hout => ?_, fun since hlos => ?_, fun since hst hlos => ?_, ?_, ?_, ?_, ?_, ?_⟩,
    fun s => ⟨fun hvalid hspan => ?_, ?_⟩⟩
  · exact congrArg Host.Outcome.next (if_pos hout)
  · have hmeasured : exec (.laneMeasurement n off) s = .next (s.laneMeasured n (s.laneReading n off) s.mark) :=
      congrArg Host.Outcome.next (if_neg (by simp [hout]))
    refine ⟨_, _, hmeasured, pmcEvent_quiet _ 0x10 {} 1 (show 0 < 8 by decide), rfl, measureLane_offset _ _ _ _, ?_⟩
    exact if_neg (not_or.2 ⟨by omega, not_or.2 ⟨hst, not_not_intro hon⟩⟩)
  · exact congrArg Host.Outcome.next (if_neg (by simp [hlos]))
  · exact ⟨_, congrArg Host.Outcome.next (if_pos hlos), laneLos_shows hn hst⟩
  · intro hlap hon hst hdue hrank hlost hlimit hhold
    obtain ⟨hst', hcause, hqual, -, htc, -⟩ := laneLeft_shows s n (show 3 < 8 by decide) (show 0 < 256 by decide)
    exact ⟨_, qualTimeExpiry_available hn hlap hon hst hdue hrank hlost hlimit hhold, hst', hcause, hqual, htc⟩
  · intro hlap hon hst hdue hrank hlost
    obtain ⟨hst', hcause, -, hdisq, htc, htime⟩ := laneLeft_shows s n (show 2 < 8 by decide) (show 0 < 256 by decide)
    refine ⟨_, disqHoldExpiry_qualifying hn hlap hon hst hdue hrank hlost, hst', hcause, ?_, ?_, htc⟩
    · exact (State.timer_setTimer_ne (m := .qual n) (n := .disq n) _ _ nofun).trans hdisq
    · rw [State.timer_arm_same, htime, State.runNs, State.runNs, htc]
      rfl
  · exact wtrExpiry_ends s
  · intro k hk
    obtain ⟨t, ht, hends⟩ := warnClear_ends s hn hk
    refine ⟨t, ht, ?_⟩
    split
    · next h => exact ⟨_, (if_pos h).mp hends, warnOff_eq s n k⟩
    · next h => exact (if_neg h).mp hends
  · intro b
    obtain ⟨t, ht, hends⟩ := disagreeEnd_ends s n b
    by_cases h : s.atLap = true ∧ s.selectorOn = true ∧ s.episodesOf n b ≠ []
    · exact ⟨t, ht, (if_pos h).mpr ⟨(if_pos h).mp hends, fun e he => he ▸ endAgreed_singleton s e⟩⟩
    · exact ⟨t, ht, (if_neg h).mpr ((if_neg h).mp hends)⟩
  · exact ⟨_, congrArg Host.Outcome.next (if_pos ⟨hvalid, hspan⟩), anchorShadow_shows s false⟩
  · exact buildoutRetired_ends s

end Sys2Proof.Machine
end

section
/-! PROOFS. What the time-interval measurement stands on (R139 to R160): where the registers of a TDC lane lie, what a condition of TIM_STICKY
changes, and what a command that ended has left. -/

namespace Sys2Proof.Machine

section

variable {s t : State} {c : Ctx} {k : Nat}

/-! ## The registers of a TDC lane -/

/-- Where the keys of a TDC lane's registers begin. -/
def tdcKey (k : Nat) : Nat := 0x2402000 + 0x1000 * k

@[simp] theorem key_TDC_CFG_USE (k : Nat) : (Reg.TDC_CFG_USE k).key = tdcKey k := by simp only [Fld.key, Reg.TDC_CFG_USE, tdcKey]; omega
@[simp] theorem key_TDC_CFG_START_SRC (k : Nat) : (Reg.TDC_CFG_START_SRC k).key = tdcKey k + 2 := by simp only [Fld.key, Reg.TDC_CFG_START_SRC, tdcKey]; omega
@[simp] theorem key_TDC_CFG_START_EDGE (k : Nat) : (Reg.TDC_CFG_START_EDGE k).key = tdcKey k + 8 := by simp only [Fld.key, Reg.TDC_CFG_START_EDGE, tdcKey]; omega
@[simp] theorem key_TDC_CFG_STOP_SRC (k : Nat) : (Reg.TDC_CFG_STOP_SRC k).key = tdcKey k + 9 := by simp only [Fld.key, Reg.TDC_CFG_STOP_SRC, tdcKey]; omega
@[simp] theorem key_TDC_CFG_STOP_EDGE (k : Nat) : (Reg.TDC_CFG_STOP_EDGE k).key = tdcKey k + 15 := by simp only [Fld.key, Reg.TDC_CFG_STOP_EDGE, tdcKey]; omega
@[simp] theorem key_TDC_CFG_SPLITS (k : Nat) : (Reg.TDC_CFG_SPLITS k).key = tdcKey k + 16 := by simp only [Fld.key, Reg.TDC_CFG_SPLITS, tdcKey]; omega
@[simp] theorem key_TDC_CFG_SIGNED (k : Nat) : (Reg.TDC_CFG_SIGNED k).key = tdcKey k + 20 := by simp only [Fld.key, Reg.TDC_CFG_SIGNED, tdcKey]; omega
@[simp] theorem key_TDC_CFG_SCALE (k : Nat) : (Reg.TDC_CFG_SCALE k).key = tdcKey k + 21 := by simp only [Fld.key, Reg.TDC_CFG_SCALE, tdcKey]; omega
@[simp] theorem key_TDC_CFG_KEEP (k : Nat) : (Reg.TDC_CFG_KEEP k).key = tdcKey k + 22 := by simp only [Fld.key, Reg.TDC_CFG_KEEP, tdcKey]; omega
@[simp] theorem key_TDC_CFG_STAT_SPLIT (k : Nat) : (Reg.TDC_CFG_STAT_SPLIT k).key = tdcKey k + 23 := by simp only [Fld.key, Reg.TDC_CFG_STAT_SPLIT, tdcKey]; omega
@[simp] theorem key_TDC_CFG_SERVED_BY (k : Nat) : (Reg.TDC_CFG_SERVED_BY k).key = tdcKey k + 26 := by simp only [Fld.key, Reg.TDC_CFG_SERVED_BY, tdcKey]; omega
@[simp] theorem key_TDC_HEAT_N (k : Nat) : (Reg.TDC_HEAT_N k).key = tdcKey k + 128 := by simp only [Fld.key, Reg.TDC_HEAT_N, tdcKey]; omega
@[simp] theorem key_TDC_HEAT_DONE (k : Nat) : (Reg.TDC_HEAT_DONE k).key = tdcKey k + 144 := by simp only [Fld.key, Reg.TDC_HEAT_DONE, tdcKey]; omega
@[simp] theorem key_TDC_WINDOW_WINDOW (k : Nat) : (Reg.TDC_WINDOW_WINDOW k).key = tdcKey k + 256 := by simp only [Fld.key, Reg.TDC_WINDOW_WINDOW, tdcKey]; omega
@[simp] theorem key_TDC_SIGNED_WIN_WIN (k : Nat) : (Reg.TDC_SIGNED_WIN_WIN k).key = tdcKey k + 384 := by simp only [Fld.key, Reg.TDC_SIGNED_WIN_WIN, tdcKey]; omega
@[simp] theorem key_TDC_STATE_HEAT_STATE (k : Nat) : (Reg.TDC_STATE_HEAT_STATE k).key = tdcKey k + 512 := by simp only [Fld.key, Reg.TDC_STATE_HEAT_STATE, tdcKey]; omega
@[simp] theorem key_TDC_STATE_WARM_SEEN (k : Nat) : (Reg.TDC_STATE_WARM_SEEN k).key = tdcKey k + 515 := by simp only [Fld.key, Reg.TDC_STATE_WARM_SEEN, tdcKey]; omega
@[simp] theorem key_TDC_STATE_STEP_SEEN (k : Nat) : (Reg.TDC_STATE_STEP_SEEN k).key = tdcKey k + 516 := by simp only [Fld.key, Reg.TDC_STATE_STEP_SEEN, tdcKey]; omega
@[simp] theorem key_TDC_STATE_SPARE_SEEN (k : Nat) : (Reg.TDC_STATE_SPARE_SEEN k).key = tdcKey k + 517 := by simp only [Fld.key, Reg.TDC_STATE_SPARE_SEEN, tdcKey]; omega
@[simp] theorem key_TDC_STATE_HEAT_NO (k : Nat) : (Reg.TDC_STATE_HEAT_NO k).key = tdcKey k + 528 := by simp only [Fld.key, Reg.TDC_STATE_HEAT_NO, tdcKey]; omega
@[simp] theorem key_TDC_FALSE_START_COUNT (k : Nat) : (Reg.TDC_FALSE_START_COUNT k).key = tdcKey k + 640 := by simp only [Fld.key, Reg.TDC_FALSE_START_COUNT, tdcKey]; omega
@[simp] theorem key_TDC_TIMEOUTS_COUNT (k : Nat) : (Reg.TDC_TIMEOUTS_COUNT k).key = tdcKey k + 896 := by simp only [Fld.key, Reg.TDC_TIMEOUTS_COUNT, tdcKey]; omega
@[simp] theorem key_STAT_COUNT_INCLUDED (k : Nat) : (Reg.STAT_COUNT_INCLUDED k).key = tdcKey k + 1152 := by simp only [Fld.key, Reg.STAT_COUNT_INCLUDED, tdcKey]; omega
@[simp] theorem key_STAT_COUNT_EXCLUDED (k : Nat) : (Reg.STAT_COUNT_EXCLUDED k).key = tdcKey k + 1168 := by simp only [Fld.key, Reg.STAT_COUNT_EXCLUDED, tdcKey]; omega
@[simp] theorem key_STAT_MEAN_LO_MEAN_LO (k : Nat) : (Reg.STAT_MEAN_LO_MEAN_LO k).key = tdcKey k + 1280 := by simp only [Fld.key, Reg.STAT_MEAN_LO_MEAN_LO, tdcKey]; omega
@[simp] theorem key_STAT_MEAN_HI_MEAN_HI (k : Nat) : (Reg.STAT_MEAN_HI_MEAN_HI k).key = tdcKey k + 1408 := by simp only [Fld.key, Reg.STAT_MEAN_HI_MEAN_HI, tdcKey]; omega
@[simp] theorem key_STAT_SD_SD (k : Nat) : (Reg.STAT_SD_SD k).key = tdcKey k + 1536 := by simp only [Fld.key, Reg.STAT_SD_SD, tdcKey]; omega
@[simp] theorem key_STAT_MIN_LO_MIN_LO (k : Nat) : (Reg.STAT_MIN_LO_MIN_LO k).key = tdcKey k + 1664 := by simp only [Fld.key, Reg.STAT_MIN_LO_MIN_LO, tdcKey]; omega
@[simp] theorem key_STAT_MIN_HI_MIN_HI (k : Nat) : (Reg.STAT_MIN_HI_MIN_HI k).key = tdcKey k + 1792 := by simp only [Fld.key, Reg.STAT_MIN_HI_MIN_HI, tdcKey]; omega
@[simp] theorem key_STAT_MAX_LO_MAX_LO (k : Nat) : (Reg.STAT_MAX_LO_MAX_LO k).key = tdcKey k + 1920 := by simp only [Fld.key, Reg.STAT_MAX_LO_MAX_LO, tdcKey]; omega
@[simp] theorem key_STAT_MAX_HI_MAX_HI (k : Nat) : (Reg.STAT_MAX_HI_MAX_HI k).key = tdcKey k + 2048 := by simp only [Fld.key, Reg.STAT_MAX_HI_MAX_HI, tdcKey]; omega

/-- A TDC lane's register is none of the bookkeeping, and lies beyond the TIM's own. -/
theorem tdc_notMem_bookkeeping {f : Fld} (h : tdcKey k ≤ f.key) : f.key ∉ bookkeeping := by
  have hbelow : ∀ j ∈ bookkeeping, j < 0x2402000 := by decide
  intro hf
  have := hbelow _ hf
  unfold tdcKey at h
  omega

theorem tdc_ne_timSticky {f : Fld} (h : tdcKey k ≤ f.key) : f.key ≠ Reg.TIM_STICKY_STICKY.key := by
  have hsticky : Reg.TIM_STICKY_STICKY.key < 0x2402000 := by decide
  unfold tdcKey at h
  omega

theorem get_tdc_quiet (h : Quiet s t) {f : Fld} (hf : tdcKey k ≤ f.key) : t.get f = s.get f := h.regs f (tdc_notMem_bookkeeping hf)

/-! ## A condition of TIM_STICKY (R160) -/

/-- A condition raised: its sticky bit alone within a second of the last raising, else the event, its time noted where it is enabled. -/
theorem raiseTim_cases (s : State) (j : Nat) (sev : Sev) (hid lane : Nat) (items : List Item) :
    s.raiseTim j sev hid lane items = s.putBit Reg.TIM_STICKY_STICKY j true ∨
      ∃ n x, s.raiseTim j sev hid lane items = s.raise (evTim j sev hid) items ∨
        s.raiseTim j sev hid lane items = (s.setVar (.timRaised j n) x).raise (evTim j sev hid) items := by
  unfold State.raiseTim
  extract_lets v last u
  split
  · exact .inl rfl
  · unfold u
    split
    · exact .inr ⟨_, _, .inr rfl⟩
    · exact .inr ⟨0, 0, .inl rfl⟩

section

variable (s) (j : Nat) (sev : Sev) (hid lane : Nat) (items : List Item)

/-- What the sticky bit, the noted time and an event leave alone, a condition leaves alone. -/
theorem view_raiseTim {α : Type} (p : State → α) (hput : p (s.putBit Reg.TIM_STICKY_STICKY j true) = p s)
    (hvar : ∀ n x, p (s.setVar (.timRaised j n) x) = p s) (hraise : ∀ u : State, p (u.raise (evTim j sev hid) items) = p u) :
    p (s.raiseTim j sev hid lane items) = p s := by
  obtain h | ⟨n, x, h | h⟩ := raiseTim_cases s j sev hid lane items
  · rw [h, hput]
  · rw [h, hraise]
  · rw [h, hraise, hvar]

@[simp] theorem raiseTim_tc : (s.raiseTim j sev hid lane items).tc = s.tc :=
  view_raiseTim s j sev hid lane items State.tc rfl (fun _ _ => rfl) fun _ => raise_tc _ _ _ _

@[simp] theorem raiseTim_timers : (s.raiseTim j sev hid lane items).timers = s.timers :=
  view_raiseTim s j sev hid lane items State.timers rfl (fun _ _ => rfl) fun _ => raise_timers _ _ _ _

@[simp] theorem raiseTim_tim : (s.raiseTim j sev hid lane items).tim = s.tim :=
  view_raiseTim s j sev hid lane items State.tim rfl (fun _ _ => rfl) fun _ => raise_tim _ _ _ _

@[simp] theorem raiseTim_heat : (s.raiseTim j sev hid lane items).heat k = s.heat k := by simp only [State.heat, raiseTim_tim]

theorem get_raiseTim {f : Fld} (hb : f.key ∉ bookkeeping) (hf : f.key ≠ Reg.TIM_STICKY_STICKY.key) :
    (s.raiseTim j sev hid lane items).get f = s.get f :=
  view_raiseTim s j sev hid lane items (State.get · f) (State.get_put_ne _ _ hf) (fun _ _ => rfl)
    fun _ => get_raise_sticky _ (e := evTim j sev hid) rfl hb hf

theorem get_tdc_raiseTim {f : Fld} (hf : tdcKey k ≤ f.key) : (s.raiseTim j sev hid lane items).get f = s.get f :=
  get_raiseTim _ _ _ _ _ _ (tdc_notMem_bookkeeping hf) (tdc_ne_timSticky hf)

theorem var_raiseTim {v : Var} (hb : v ∉ bookVars) (hv : ∀ n, v ≠ .timRaised j n) : (s.raiseTim j sev hid lane items).var v = s.var v :=
  view_raiseTim s j sev hid lane items (State.var · v) rfl (fun _ _ => State.var_setVar_ne _ _ (hv _)) fun _ => var_raise _ hb

/-- A condition raised shows in its sticky bit. -/
theorem fbit_raiseTim (hj : j < 9) : (s.raiseTim j sev hid lane items).fbit Reg.TIM_STICKY_STICKY j = true := by
  have hraised : ∀ u : State, (u.raise (evTim j sev hid) items).fbit Reg.TIM_STICKY_STICKY j = true :=
    fun u => fbit_raise u (e := evTim j sev hid) rfl (by decide) hj
  obtain h | ⟨n, x, h | h⟩ := raiseTim_cases s j sev hid lane items
  · rw [h, fbit_putBit s j true hj, if_pos rfl]
  · rw [h, hraised]
  · rw [h, hraised]

end

/-! ## A command that ended -/

/-- A command that ended has left its effect, but for what fetching and completing change. -/
theorem Ends.apart {o : OpInfo} {st d : Nat} {v : State → State} (h : Ends s c o st d v t) : Apart (v (s.fetch c)) t := by
  obtain ⟨u, body, hu, rfl⟩ := h
  exact hu.apart.trans (finishCmd_apart _ _ _ _ _ _ _)

end

end Sys2Proof.Machine
end

section
/-! PROOFS. Heats (R142 to R151, R158, R159): the commands that arm and stop one, the edges that open a measurement and split it, and the window
that closes it. -/

namespace Sys2Proof.Machine

section

variable {s : State} {c : Ctx} {k fine : Nat}

/-! ## A heat armed and stopped -/

theorem armHeat_shows (s : State) (k : Nat) {p : HeatPar} (h : p.ok = true) : let t := s.armHeat k p
    t.heatSt k = 1 ∧ t.get (Reg.TDC_HEAT_N k) = p.n ∧ t.get (Reg.TDC_HEAT_DONE k) = 0 ∧ t.get (Reg.TDC_CFG_SPLITS k) = p.splits ∧
      t.get (Reg.TDC_WINDOW_WINDOW k) = p.window ∧ t.get (Reg.STAT_COUNT_INCLUDED k) = 0 ∧
      t.get (Reg.TDC_STATE_HEAT_NO k) = (s.get (Reg.TDC_STATE_HEAT_NO k) + 1) % 2 ^ 16 ∧ (t.heat k).meas = none := by
  intro t
  simp only [HeatPar.ok, Bool.and_eq_true, decide_eq_true_eq] at h
  have hmeas : (t.heat k).meas = none := by simp [t, State.armHeat, State.useUpdate, State.putI64, State.put64, State.heat_setHeat_same]
  have hget : t.heatSt k = 1 % 2 ^ 3 ∧ t.get (Reg.TDC_HEAT_N k) = p.n % 2 ^ 16 ∧ t.get (Reg.TDC_HEAT_DONE k) = 0 % 2 ^ 16 ∧
      t.get (Reg.TDC_CFG_SPLITS k) = p.splits % 2 ^ 4 ∧ t.get (Reg.TDC_WINDOW_WINDOW k) = p.window % 2 ^ 22 ∧
      t.get (Reg.STAT_COUNT_INCLUDED k) = 0 % 2 ^ 16 ∧
      t.get (Reg.TDC_STATE_HEAT_NO k) = (s.get (Reg.TDC_STATE_HEAT_NO k) + 1) % 2 ^ 16 := by
    simp only [t, State.armHeat, State.useUpdate, State.heatSt, State.putI64, State.put64, State.bump]
    refine ⟨?_, ?_, ?_, ?_, ?_, ?_, ?_⟩
    all_goals simp [State.get_put_ne]
    all_goals exact State.get_put_same _ _ _
  obtain ⟨hst, hn, hdone, hsplits, hwindow, hcount, hno⟩ := hget
  refine ⟨hst, hn.trans (Nat.mod_eq_of_lt ?_), hdone, hsplits.trans (Nat.mod_eq_of_lt ?_), hwindow.trans (Nat.mod_eq_of_lt ?_), hcount, hno, hmeas⟩
  · omega
  · omega
  · omega

theorem heatStart_arms {p : HeatPar} (hr : Ready s c opHeatStart) (hk : k < 24) (hok : p.ok = true) (hserves : s.servesLane k = false)
    (hruns : s.heatRuns k = false) (hworks : s.tdcWorks k = true) (body : List Int) :
    Ends s c opHeatStart Status.ok ((s.get (Reg.TDC_STATE_HEAT_NO k) + 1) % 2 ^ 16) (fun f => f.armHeat k p)
      (s.runCmd c opHeatStart body (heatStartEff k p)) := by
  obtain ⟨-, -, -, -, -, -, hno, -⟩ := armHeat_shows (s.fetch c) k hok
  rw [fetch_get] at hno
  have hreads : (s.fetch c).servesLane k = s.servesLane k ∧ (s.fetch c).heatRuns k = s.heatRuns k ∧
      (s.fetch c).tdcWorks k = s.tdcWorks k := by
    obtain ⟨h, r, e⟩ := fetch_eq s c
    rw [e]
    exact ⟨rfl, rfl, rfl⟩
  obtain ⟨hserves', hruns', hworks'⟩ := hreads
  have heff : heatStartEff k p (s.sessionRole c.ring c.session) (s.fetch c) = ⟨_, some Status.ok, _⟩ :=
    (if_neg (by simp [hok]; omega)).trans ((if_neg (by simp [hserves', hserves, hruns', hruns])).trans (if_neg (by simp [hworks', hworks])))
  refine runCmd_answers hr (heff.trans (congrArg _ hno)) (change_quiet _ _ _ _ _ _ _)

/-- An ARMED heat stopped: no measurement is open, so that its end is all. -/
theorem stopHeat_armed (h : s.heatSt k = 1) (hleaving : s.var (.tdcLeaving k) = 0) :
    Quiet (((s.put (Reg.TDC_STATE_HEAT_STATE k) 4).stopTimer (.tdcWindow k)).useUpdate k) ((s.stopHeat k 4 0).leaveTdc k) := by
  have hruns : s.heatRuns k = true := decide_eq_true (.inl h)
  have hend : s.stopHeat k 4 0 = s.endHeat k 4 := by simp [State.stopHeat, hruns, h]
  have hquiet : Quiet (((s.put (Reg.TDC_STATE_HEAT_STATE k) 4).stopTimer (.tdcWindow k)).useUpdate k) (s.endHeat k 4) :=
    raise_quiet_of_sticky_none (e := evHeat 0 .info (tdcHid k)) rfl _ _ _
  have hstays : (s.endHeat k 4).leaveTdc k = s.endHeat k 4 := if_pos ((hquiet.vars _ (by simp [bookVars])).trans hleaving)
  rw [hend, hstays]
  exact hquiet

theorem heatStop_stops (hr : Ready s c opHeatStop) (hk : k < 24) (body : List Int) :
    Ends s c opHeatStop Status.ok 0 (fun f => (f.stopHeat k 4 0).leaveTdc k) (s.runCmd c opHeatStop body (heatStopEff k)) :=
  runCmd_answers hr (if_neg (by omega)) (change_quiet _ _ _ _ _ _ _)

/-! ## REFIN_DELAY_SET and WARM_SET -/

theorem refinDelaySet_ends (hr : Ready s c opRefinDelaySet) {pin : Nat} (hpin : pin < 8) (hcur : s.cur = none) (delay : Int)
    (body : List Int) : let t := s.runCmd c opRefinDelaySet body (refinDelaySetEff pin delay)
    if -1024000000 ≤ delay ∧ delay ≤ 1024000000 then
      Ends s c opRefinDelaySet Status.ok 0 (fun f => f.putI (Reg.REFIN_DELAY_DELAY pin) delay) t
    else Ends s c opRefinDelaySet Status.range 0 id t := by
  intro t
  split
  · next h =>
    have hcur' : (s.fetch c).cur = none := by
      rw [← hcur, State.cur, State.cur, fetch_get, fetch_get]
    exact runCmd_answers hr ((if_neg (by omega)).trans (if_neg (by rw [hcur']; exact Bool.false_ne_true))) (change_quiet _ _ _ _ _ _ _)
  · next h => exact runCmd_refused hr (if_pos (by omega))

theorem warmSet_ends (hr : Ready s c opWarmSet) (body : List Int) : Ends s c opWarmSet Status.ok 0
    (fun f => ((f.put Reg.TIM_STATUS_WARMING 1).put Reg.TIM_STATUS_WARM_BY_TIMEOUT 0).setVar .warmAt f.runNs)
      (s.runCmd c opWarmSet body warmSetEff) :=
  runCmd_answers hr rfl ((raise_quiet_of_sticky_none (e := evHeat 2 .info 0x03FF) rfl _ _ _).trans (change_quiet _ _ _ _ _ _ _))

/-! ## An edge stamped (R142 to R145, R149) -/

theorem tdcStamped_quiet (s : State) (k src fine : Nat) :
    Quiet (s.setVar (.tdcStamp k) ((s.stampTime fine : Int) - s.srcDelay src)) (s.tdcStamped k src fine) :=
  pmcEvent_quiet _ _ _ _ (by decide)

theorem scaled_quiet {t : State} (h : Quiet s t) (src : Nat) : t.scaled k src fine = s.scaled k src fine := by
  have hscale : t.get (Reg.TDC_CFG_SCALE k) = s.get (Reg.TDC_CFG_SCALE k) := get_tdc_quiet (k := k) h (by simp)
  have hdelay : t.srcDelay src = s.srcDelay src := by
    rw [State.srcDelay, State.srcDelay, State.getI, State.getI,
      h.regs _ (key_notMem_bookkeeping (by simp only [Reg.REFIN_DELAY_DELAY]; omega))]
  simp only [State.scaled, hscale, hdelay, State.stampTclk, State.stampTime, h.tc]

theorem heatSteps_quiet {t : State} (h : Quiet s t) : t.heatSteps k = s.heatSteps k := by
  rw [State.heatSteps, State.heatSteps, get_tdc_quiet (k := k) h (by simp), h.vars _ (by decide)]

/-- An edge taken on its channel: the channel's last stamp, and the stamp noted and counted, whatever else the lane keeps of its heat. -/
def State.edgeTaken (s : State) (k src fine : Nat) (h : HeatRec) : State := (s.setHeat k h).tdcStamped k src fine

section

variable (s) (src : Nat) (h : HeatRec)

theorem edgeTaken_quiet : Quiet ((s.setHeat k h).setVar (.tdcStamp k) ((s.stampTime fine : Int) - s.srcDelay src)) (s.edgeTaken k src fine h) :=
  tdcStamped_quiet _ _ _ _

@[simp] theorem edgeTaken_tc : (s.edgeTaken k src fine h).tc = s.tc := (edgeTaken_quiet s src h).tc

@[simp] theorem edgeTaken_heat : (s.edgeTaken k src fine h).heat k = h := by
  rw [State.heat, (edgeTaken_quiet s src h).tim]
  exact State.heat_setHeat_same s k h

theorem edgeTaken_get {f : Fld} (hf : tdcKey k ≤ f.key) : (s.edgeTaken k src fine h).get f = s.get f := get_tdc_quiet (edgeTaken_quiet s src h) hf

@[simp] theorem edgeTaken_heatSt : (s.edgeTaken k src fine h).heatSt k = s.heatSt k := edgeTaken_get s src h (by simp)

@[simp] theorem edgeTaken_scaled (src' : Nat) : (s.edgeTaken k src fine h).scaled k src' fine = s.scaled k src' fine :=
  scaled_quiet (edgeTaken_quiet s src h) src'

@[simp] theorem edgeTaken_heatSteps : (s.edgeTaken k src fine h).heatSteps k = s.heatSteps k := by
  rw [heatSteps_quiet (edgeTaken_quiet s src h), State.heatSteps, State.heatSteps,
    State.var_setVar_ne (v := .tdcStamp k) (w := .stepSum) _ _ nofun]
  rfl

theorem edgeTaken_stamp : (s.edgeTaken k src fine h).var (.tdcStamp k) = s.stampTime fine - s.srcDelay src :=
  ((edgeTaken_quiet s src h).vars _ (by simp [bookVars])).trans (State.var_setVar_same _ _ _)

end

/-! ## The START edge (R146) -/

/-- The measurement that a START edge opens. -/
def State.newMeas (s : State) (k fine : Nat) : OpenMeas :=
  ⟨((s.stampTime fine : Int) - s.srcDelay (s.get (Reg.TDC_CFG_START_SRC k))).toNat, s.scaled k (s.get (Reg.TDC_CFG_START_SRC k)) fine,
    s.heatSteps k, [], 0, decide (s.get Reg.TIM_STATUS_WARMING = 1), false, s.bySpare k⟩

theorem openMeas_eq (hwait : (s.heat k).waiting = []) : s.openMeas k fine =
    ((s.setHeat k { s.heat k with meas := some (s.newMeas k fine), waiting := [] }).put (Reg.TDC_STATE_HEAT_STATE k) 2).arm (.tdcWindow k)
      (s.get (Reg.TDC_WINDOW_WINDOW k) * 1000) := by
  simp only [State.openMeas, hwait]
  rfl

theorem windowPast_none (h : (s.heat k).meas = none) (src : Nat) : s.windowPast k src fine = s := by rw [State.windowPast, h]

/-- A START edge taken on its channel. -/
def State.startTaken (s : State) (k fine : Nat) : State :=
  s.edgeTaken k (s.get (Reg.TDC_CFG_START_SRC k)) fine { s.heat k with lastStart := some (s.stampTclk fine) }

theorem startEdge_opens (hk : k < 24) (hfine : fine < 102400) (hinputs : s.sameInput k = false) (hst : s.heatSt k = 1)
    (hmeas : (s.heat k).meas = none) (hlive : inDeadTime (s.heat k).lastStart (s.stampTclk fine) = false) :
    exec (.startEdge k fine) s = .next ((s.startTaken k fine).openMeas k fine) := by
  have hruns : s.heatRuns k = true := decide_eq_true (.inl hst)
  have hpast : (s.startTaken k fine).windowPast k (s.get (Reg.TDC_CFG_START_SRC k)) fine = s.startTaken k fine :=
    windowPast_none (by rw [State.startTaken, edgeTaken_heat]; exact hmeas) _
  have harmed : (s.startTaken k fine).heatSt k = 1 := (edgeTaken_heatSt _ _ _).trans hst
  have hchannel : s.startChannel k fine = (s.startTaken k fine).openMeas k fine :=
    calc s.startChannel k fine
      _ = (if ((s.startTaken k fine).windowPast k (s.get (Reg.TDC_CFG_START_SRC k)) fine).heatSt k = 1 then _ else _) :=
          if_neg (by rw [hlive]; exact Bool.false_ne_true)
      _ = ((s.startTaken k fine).windowPast k (s.get (Reg.TDC_CFG_START_SRC k)) fine).openMeas k fine := if_pos (by rw [hpast, harmed])
      _ = _ := by rw [hpast]
  rw [← hchannel, ← Nat.mod_eq_of_lt hfine]
  exact congrArg Host.Outcome.next ((if_neg (by omega)).trans ((if_pos hruns).trans
    ((if_neg (by rw [hinputs]; exact Bool.false_ne_true)).trans (by rw [Nat.mod_mod]))))

theorem startTaken_reads (s : State) (k fine : Nat) : let u := s.startTaken k fine
    u.heat k = { s.heat k with lastStart := some (s.stampTclk fine) } ∧ u.tc = s.tc ∧
      u.get (Reg.TDC_WINDOW_WINDOW k) = s.get (Reg.TDC_WINDOW_WINDOW k) ∧
      (u.newMeas k fine).scaled = s.scaled k (s.get (Reg.TDC_CFG_START_SRC k)) fine ∧ (u.newMeas k fine).steps = s.heatSteps k ∧
      u.var (.tdcStamp k) = s.stampTime fine - s.srcDelay (s.get (Reg.TDC_CFG_START_SRC k)) := by
  have hget : ∀ f : Fld, tdcKey k ≤ f.key → (s.startTaken k fine).get f = s.get f := fun f hf => edgeTaken_get _ _ _ hf
  refine ⟨edgeTaken_heat _ _ _, edgeTaken_tc _ _ _, hget _ (by simp), ?_, ?_, ?_⟩
  · simp only [State.newMeas, hget _ (show tdcKey k ≤ (Reg.TDC_CFG_START_SRC k).key by simp)]
    rw [State.startTaken, edgeTaken_scaled]
  · simp only [State.newMeas]
    rw [State.startTaken, edgeTaken_heatSteps]
  · rw [State.startTaken, edgeTaken_stamp]

theorem openMeas_shows (hwait : (s.heat k).waiting = []) : let t := s.openMeas k fine
    t.heatSt k = 2 ∧ t.heat k = { s.heat k with meas := some (s.newMeas k fine), waiting := [] } ∧
      t.timer (.tdcWindow k) = some (s.runNs + s.get (Reg.TDC_WINDOW_WINDOW k) * 1000) ∧ t.vars = s.vars ∧ t.tc = s.tc := by
  intro t
  have ht : t = _ := openMeas_eq hwait
  rw [ht]
  exact ⟨State.get_put_same _ _ _, State.heat_setHeat_same _ _ _, State.timer_arm_same _ _ _, rfl, rfl⟩

/-! ## The STOP edge (R146, R148) -/

/-- A STOP edge taken on its channel. -/
def State.stopTaken (s : State) (k fine : Nat) : State :=
  s.edgeTaken k (s.get (Reg.TDC_CFG_STOP_SRC k)) fine { s.heat k with lastStop := some (s.stampTclk fine) }

/-- The interval a STOP edge ends, on the heat's scale, the steps made since its START taken out (R145). -/
def State.interval (s : State) (k fine : Nat) (m : OpenMeas) : Int :=
  (s.scaled k (s.get (Reg.TDC_CFG_STOP_SRC k)) fine - m.scaled) - (s.heatSteps k - m.steps)

theorem stopEdge_takes {m : OpenMeas} (hk : k < 24) (hfine : fine < 102400) (hinputs : s.sameInput k = false) (hst : s.heatSt k = 2)
    (hmeas : (s.heat k).meas = some m) (hlive : inDeadTime (s.heat k).lastStop (s.stampTclk fine) = false)
    (hwindow : s.interval k fine m ≤ s.get (Reg.TDC_WINDOW_WINDOW k) * 65536000) :
    exec (.stopEdge k fine) s = .next ((s.stopTaken k fine).takeStop k fine) := by
  have hruns : s.heatRuns k = true := decide_eq_true (.inr hst)
  have hpast : (s.stopTaken k fine).windowPast k (s.get (Reg.TDC_CFG_STOP_SRC k)) fine = s.stopTaken k fine := by
    have hopen : ((s.stopTaken k fine).heat k).meas = some m := by
      rw [State.stopTaken, edgeTaken_heat]
      exact hmeas
    rw [State.windowPast, hopen]
    refine if_neg (not_lt.2 ?_)
    rw [State.stopTaken, edgeTaken_scaled, edgeTaken_heatSteps, edgeTaken_get _ _ _ (by simp)]
    exact hwindow
  have hstill : (s.stopTaken k fine).heatRuns k = true := decide_eq_true (.inr ((edgeTaken_heatSt _ _ _).trans hst))
  have hchannel : s.stopChannel k fine = (s.stopTaken k fine).takeStop k fine :=
    calc s.stopChannel k fine
      _ = (if ((s.stopTaken k fine).windowPast k (s.get (Reg.TDC_CFG_STOP_SRC k)) fine).heatRuns k = true then _ else _) :=
          if_neg (by rw [hlive]; exact Bool.false_ne_true)
      _ = ((s.stopTaken k fine).windowPast k (s.get (Reg.TDC_CFG_STOP_SRC k)) fine).takeStop k fine := if_pos (by rw [hpast, hstill])
      _ = _ := by rw [hpast]
  rw [← hchannel]
  refine congrArg Host.Outcome.next ((if_pos ⟨hk, hruns⟩).trans ((if_neg (by rw [hinputs]; exact Bool.false_ne_true)).trans ?_))
  rw [Nat.mod_eq_of_lt hfine]

/-- A measurement with one split more. -/
def splitMore (m : OpenMeas) (x : Int) (stepped spare : Bool) : OpenMeas :=
  { m with splits := m.splits ++ [recorded x], stepped := m.stepped || stepped, spare := m.spare || spare }

theorem stopTaken_reads (s : State) (k fine : Nat) (m : OpenMeas) : let u := s.stopTaken k fine
    u.interval k fine m = s.interval k fine m ∧ u.signedWin k = s.signedWin k ∧ u.heatSteps k = s.heatSteps k := by
  have hget : ∀ f : Fld, tdcKey k ≤ f.key → (s.stopTaken k fine).get f = s.get f := fun f hf => edgeTaken_get _ _ _ hf
  refine ⟨?_, ?_, edgeTaken_heatSteps _ _ _⟩
  · rw [State.interval, hget _ (by simp), State.stopTaken, edgeTaken_scaled, edgeTaken_heatSteps]
    rfl
  · rw [State.signedWin, State.signedWin, hget _ (by simp), hget _ (by simp)]

/-- A split that is not the last one joins the measurement in hand. -/
theorem addSplit_adds {m : OpenMeas} (hmeas : (s.heat k).meas = some m) (hmore : m.splits.length + 1 < s.get (Reg.TDC_CFG_SPLITS k)) (x : Int)
    (stepped spare : Bool) : s.addSplit k x stepped spare = s.setHeat k { s.heat k with meas := some (splitMore m x stepped spare) } := by
  simp only [State.addSplit, hmeas]
  refine if_neg ?_
  simp only [State.get_setHeat, List.length_append, List.length_singleton]
  omega

theorem falseStarts_shows (s : State) (k : Nat) {n : Nat} (hn : n ≠ 0) : let t := s.falseStarts k n
    t.heat k = { s.heat k with falses := (s.heat k).falses + n } ∧ t.heatSt k = s.heatSt k ∧ t.tc = s.tc ∧
      t.get (Reg.TDC_FALSE_START_COUNT k) = (s.get (Reg.TDC_FALSE_START_COUNT k) + n) % 2 ^ 32 := by
  intro t
  have ht : t = _ := if_neg hn
  rw [ht]
  refine ⟨?_, ?_, raiseTim_tc _ _ _ _ _ _, ?_⟩
  · rw [raiseTim_heat]
    exact State.heat_setHeat_same _ _ _
  · rw [State.heatSt, get_tdc_raiseTim (k := k) _ _ _ _ _ _ (by simp)]
    exact State.get_put_ne _ _ (by simp)
  · rw [get_tdc_raiseTim (k := k) _ _ _ _ _ _ (by simp)]
    exact State.get_put_same _ _ _

/-- A STOP edge within the window adds its split, one before it is a false start. -/
theorem takeStop_shows {m : OpenMeas} (hmeas : (s.heat k).meas = some m) (hmore : m.splits.length + 1 < s.get (Reg.TDC_CFG_SPLITS k)) :
    let t := s.takeStop k fine
    t.heatSt k = s.heatSt k ∧ t.tc = s.tc ∧ (t.heat k).lastStop = (s.heat k).lastStop ∧
      (-s.signedWin k ≤ s.interval k fine m →
        ∃ m', (t.heat k).meas = some m' ∧ m'.splits = m.splits ++ [recorded (s.interval k fine m)] ∧
          m'.stepped = (m.stepped || decide (s.heatSteps k ≠ m.steps))) ∧
      (¬ -s.signedWin k ≤ s.interval k fine m →
        (t.heat k).meas = some m ∧ t.get (Reg.TDC_FALSE_START_COUNT k) = (s.get (Reg.TDC_FALSE_START_COUNT k) + 1) % 2 ^ 32) := by
  intro t
  have ht : t = if -s.signedWin k ≤ s.interval k fine m then
      s.addSplit k (s.interval k fine m) (decide (s.heatSteps k ≠ m.steps)) (s.bySpare k) else s.falseStarts k 1 := by
    simp only [t, State.takeStop, hmeas, State.splitWindow, decide_eq_true_eq]
    rfl
  clear_value t
  split at ht
  · next h =>
    rw [addSplit_adds hmeas hmore] at ht
    have hheat := State.heat_setHeat_same s k
    subst ht
    rw [hheat]
    exact ⟨rfl, rfl, rfl, fun _ => ⟨_, rfl, rfl, rfl⟩, fun hbefore => absurd h hbefore⟩
  · next h =>
    obtain ⟨hheat, hst, htc, hcount⟩ := falseStarts_shows s k (n := 1) (by decide)
    subst ht
    rw [hheat]
    exact ⟨hst, htc, rfl, fun hin => absurd hin h, fun _ => ⟨hmeas, hcount⟩⟩

/-! ## The window elapsed (R146, R150, R151) -/

/-- The flags of a measurement gathered into the heat's. -/
def State.flagsSeen (s : State) (k : Nat) (m : OpenMeas) : State :=
  let s := if m.warming then s.put (Reg.TDC_STATE_WARM_SEEN k) 1 else s
  let s := if m.stepped then s.put (Reg.TDC_STATE_STEP_SEEN k) 1 else s
  if m.spare then s.put (Reg.TDC_STATE_SPARE_SEEN k) 1 else s

/-- The registers the flags are gathered in. -/
def seenKeys (k : Nat) : List Nat :=
  [(Reg.TDC_STATE_WARM_SEEN k).key, (Reg.TDC_STATE_STEP_SEEN k).key, (Reg.TDC_STATE_SPARE_SEEN k).key]

theorem flagsSeen_keeps (s : State) (k : Nat) (m : OpenMeas) : (∃ r, s.flagsSeen k m = { s with regs := r }) ∧
    ∀ f : Fld, f.key ∉ seenKeys k → (s.flagsSeen k m).get f = s.get f := by
  have hflag : ∀ (u : State) (b : Bool) (g : Fld), g.key ∈ seenKeys k → (∃ r, (if b then u.put g 1 else u) = { u with regs := r }) ∧
      ∀ f : Fld, f.key ∉ seenKeys k → (if b then u.put g 1 else u).get f = u.get f := by
    intro u b g hg
    split
    · exact ⟨⟨_, rfl⟩, fun f hf => State.get_put_ne _ _ fun e => hf (e ▸ hg)⟩
    · exact ⟨⟨_, rfl⟩, fun _ _ => rfl⟩
  unfold State.flagsSeen
  extract_lets s1 s2
  obtain ⟨⟨r1, h1⟩, g1⟩ := hflag s m.warming _ (.head _)
  obtain ⟨⟨r2, h2⟩, g2⟩ := hflag s1 m.stepped _ (.tail _ (.head _))
  obtain ⟨⟨r3, h3⟩, g3⟩ := hflag s2 m.spare _ (.tail _ (.tail _ (.head _)))
  refine ⟨⟨r3, ?_⟩, fun f hf => (g3 f hf).trans ((g2 f hf).trans (g1 f hf))⟩
  rw [h3, show s2 = _ from h2, show s1 = _ from h1]

/-- The statistics write registers of their own, behind every other of the lane, and no measurement (R151). -/
theorem addStats_keeps (s : State) (k : Nat) (splits : List (Int × Bool)) : let t := s.addStats k splits
    t.tc = s.tc ∧ t.timers = s.timers ∧ t.vars = s.vars ∧ (t.heat k).meas = (s.heat k).meas ∧
      ∀ f : Fld, f.key < tdcKey k + 1152 → t.get f = s.get f := by
  intro t
  have hne : ∀ {f g : Fld}, f.key < tdcKey k + 1152 → tdcKey k + 1152 ≤ g.key → f.key ≠ g.key := fun hf hg => by omega
  unfold t State.addStats
  split
  · exact ⟨rfl, rfl, rfl, rfl, fun f hf => State.get_put_ne _ _ (hne hf (by simp))⟩
  · refine ⟨rfl, rfl, rfl, ?_, fun f hf => ?_⟩
    · exact (congrArg HeatRec.meas (State.heat_setHeat_same s k _)).trans rfl
    simp only [State.showStats, State.putI64, State.put64]
    repeat rw [State.get_put_ne _ _ (hne hf (by simp))]
    rfl

/-- A measurement taken out of its heat: its flags gathered, its window stopped, its splits in the statistics. -/
def State.measOut (s : State) (k : Nat) (m : OpenMeas) : State :=
  (((s.flagsSeen k m).setHeat k { s.heat k with meas := none, falses := 0 }).stopTimer (.tdcWindow k)).addStats k m.splits

theorem measOut_shows (s : State) (k : Nat) (m : OpenMeas) : let t := s.measOut k m
    (t.heat k).meas = none ∧ t.timer (.tdcWindow k) = none ∧ t.tc = s.tc ∧ t.vars = s.vars ∧
      ∀ f : Fld, f.key < tdcKey k + 1152 → f.key ∉ seenKeys k → t.get f = s.get f := by
  intro t
  obtain ⟨⟨r, hseen⟩, hflags⟩ := flagsSeen_keeps s k m
  obtain ⟨htc, htimers, hvars, hmeas, hstats⟩ :=
    addStats_keeps (((s.flagsSeen k m).setHeat k { s.heat k with meas := none, falses := 0 }).stopTimer (.tdcWindow k)) k m.splits
  refine ⟨hmeas.trans (congrArg HeatRec.meas (State.heat_setHeat_same _ _ _)), ?_, ?_, ?_, fun f hf hs => (hstats f hf).trans (hflags f hs)⟩
  · exact (congrArg (aget · (Tm.tdcWindow k)) htimers).trans (State.timer_stopTimer_same _ _)
  · exact htc.trans (show (s.flagsSeen k m).tc = s.tc by rw [hseen])
  · exact hvars.trans (show (s.flagsSeen k m).vars = s.vars by rw [hseen])

/-- A measurement whose window has elapsed is closed, and counted as a timeout. -/
theorem closeCore_shows {m : OpenMeas} (hmeas : (s.heat k).meas = some m) (hkeep : s.get (Reg.TDC_CFG_KEEP k) = 0) (last : Bool) :
    let t := s.closeCore k true last
    (t.heat k).meas = none ∧ t.timer (.tdcWindow k) = none ∧ t.tc = s.tc ∧ t.var (.tdcLeaving k) = s.var (.tdcLeaving k) ∧
      t.get (Reg.TDC_HEAT_DONE k) = (s.get (Reg.TDC_HEAT_DONE k) + 1) % 2 ^ 16 ∧
      t.get (Reg.TDC_TIMEOUTS_COUNT k) = (s.get (Reg.TDC_TIMEOUTS_COUNT k) + 1) % 2 ^ 32 := by
  intro t
  have ht : t = (((s.measOut k m).bump (Reg.TDC_TIMEOUTS_COUNT k)).raiseTim 2 .info (tdcHid k) k [i1 k]).bump (Reg.TDC_HEAT_DONE k) := by
    have hdiscard : ¬ s.get (Reg.TDC_CFG_KEEP k) = 1 := by omega
    simp only [t, State.closeCore, hmeas, if_neg hdiscard, if_true]
    rfl
  obtain ⟨hout, hwindow, htc, hvars, hget⟩ := measOut_shows s k m
  have hraised : ∀ f : Fld, tdcKey k ≤ f.key → f.key ≠ (Reg.TDC_TIMEOUTS_COUNT k).key → _ = (s.measOut k m).get f := fun f hf hne =>
    (get_tdc_raiseTim ((s.measOut k m).bump (Reg.TDC_TIMEOUTS_COUNT k)) 2 .info (tdcHid k) k [i1 k] hf).trans (State.get_put_ne _ _ hne)
  rw [ht]
  refine ⟨?_, ?_, ?_, ?_, ?_, ?_⟩
  · exact (congrArg HeatRec.meas (raiseTim_heat _ _ _ _ _ _)).trans hout
  · exact (congrArg (aget · (Tm.tdcWindow k)) (raiseTim_timers _ _ _ _ _ _)).trans hwindow
  · exact (raiseTim_tc _ _ _ _ _ _).trans htc
  · exact (var_raiseTim (v := .tdcLeaving k) _ _ _ _ _ _ (by simp [bookVars]) nofun).trans (congrArg (fun vs => (aget vs (Var.tdcLeaving k)).getD 0) hvars)
  · refine (State.get_put_same _ _ _).trans (congrArg (fun n => (n + 1) % 2 ^ 16) ?_)
    exact (hraised _ (by simp) (by simp)).trans (hget _ (by simp) (by simp [seenKeys]))
  · refine (State.get_put_ne _ _ (by simp)).trans ((get_tdc_raiseTim (k := k) _ _ _ _ _ _ (by simp)).trans ((State.get_put_same _ _ _).trans ?_))
    rw [hget _ (by simp) (by simp [seenKeys])]
    rfl

theorem windowExpiry_closes {m : OpenMeas} (hk : k < 24) (hst : s.heatSt k = 2) (hdue : s.due (.tdcWindow k) = true)
    (hmeas : (s.heat k).meas = some m) (hkeep : s.get (Reg.TDC_CFG_KEEP k) = 0) (hleaving : s.var (.tdcLeaving k) = 0)
    (hmore : s.get (Reg.TDC_HEAT_DONE k) + 1 < s.get (Reg.TDC_HEAT_N k)) :
    exec (.windowExpiry k) s = .next ((s.closeCore k true false).put (Reg.TDC_STATE_HEAT_STATE k) 1) := by
  obtain ⟨-, -, -, hstays, -⟩ := closeCore_shows hmeas hkeep false
  have hclose : s.closeMeas k true = (s.closeCore k true false).put (Reg.TDC_STATE_HEAT_STATE k) 1 := by
    have hlast : decide (s.get (Reg.TDC_HEAT_N k) ≤ s.get (Reg.TDC_HEAT_DONE k) + 1) = false := decide_eq_false (by omega)
    simp only [State.closeMeas, hmeas, hlast, Bool.false_eq_true, if_false]
    exact if_pos (hstays.trans hleaving)
  rw [← hclose]
  exact congrArg Host.Outcome.next (if_pos ⟨hk, hst, hdue⟩)

end

/-- Settles O13: each command by its own lemma, and what an armed heat shows read through its completion. -/
theorem intervalCommands : Obligations.IntervalCommands := by
  unfold Obligations.IntervalCommands
  refine fun s c => ⟨fun k p hr hk hok hserves hruns hworks => ?_, fun k hr hk => ?_,
    fun pin delay hr hpin hcur => ⟨_, rfl, refinDelaySet_ends hr hpin hcur delay _⟩, fun hr => ⟨_, rfl, warmSet_ends hr _⟩⟩
  · have hends := heatStart_arms hr hk hok hserves hruns hworks []
    have hget : ∀ f : Fld, tdcKey k ≤ f.key → _ = _ := fun f hf => hends.apart.regs f (tdc_notMem_bookkeeping hf)
    obtain ⟨hst, hn, hdone, hsplits, hwindow, hcount, -, hmeas⟩ := armHeat_shows (s.fetch c) k hok
    refine ⟨_, rfl, hends, (hget _ (by simp)).trans hst, (hget _ (by simp)).trans hn, (hget _ (by simp)).trans hdone,
      (hget _ (by simp)).trans hsplits, (hget _ (by simp)).trans hwindow, (hget _ (by simp)).trans hcount, ?_⟩
    rw [State.heat, hends.apart.tim]
    exact hmeas
  · have hends := heatStop_stops hr hk []
    refine ⟨_, rfl, hends, fun hst hleaving => hends.of_quiet (stopHeat_armed ?_ ?_)⟩
    · exact (fetch_get _ _ _).trans hst
    · exact (fetch_var _ _ _).trans hleaving

/-- Settles O14: the START edge by the measurement it opens, the STOP edge by where its interval lies, and the window by what closing leaves. -/
theorem intervalEvents : Obligations.IntervalEvents := by
  unfold Obligations.IntervalEvents
  intro s k fine hk hfine hinputs
  refine ⟨fun hst hmeas hwait hlive => ?_, fun m hst hmeas hmore hlive hwindow => ?_, fun m hst hdue hmeas hkeep hleaving hmore => ?_⟩
  · obtain ⟨hheat, htime, hwindow, hscaled, hsteps, hstamp⟩ := startTaken_reads s k fine
    obtain ⟨hopen, hheat', htimer, hvars, htc⟩ := openMeas_shows (s := s.startTaken k fine) (k := k) (fine := fine) (by rw [hheat]; exact hwait)
    rw [hheat] at hheat'
    rw [hwindow, State.runNs, htime] at htimer
    refine ⟨_, _, startEdge_opens hk hfine hinputs hst hmeas hlive, hopen, by rw [hheat'], rfl, hscaled, hsteps, by rw [hheat'], htimer, ?_,
      htc.trans htime⟩
    rw [← hstamp, State.var, hvars]
    rfl
  · obtain ⟨hinterval, hsigned, hsteps⟩ := stopTaken_reads s k fine m
    have hheat : (s.stopTaken k fine).heat k = _ := edgeTaken_heat _ _ _
    obtain ⟨hst', htc, hstop, hin, hbefore⟩ := takeStop_shows (s := s.stopTaken k fine) (k := k) (fine := fine) (m := m) (by rw [hheat]; exact hmeas)
      (by rw [State.stopTaken, edgeTaken_get _ _ _ (by simp)]; exact hmore)
    rw [hinterval, hsigned] at hin hbefore
    rw [hsteps] at hin
    rw [State.stopTaken, edgeTaken_get _ _ _ (by simp)] at hbefore
    refine ⟨_, stopEdge_takes hk hfine hinputs hst hmeas hlive hwindow, ?_, ?_, ?_, ?_⟩
    · exact hst'.trans ((edgeTaken_heatSt _ _ _).trans hst)
    · exact htc.trans (edgeTaken_tc _ _ _)
    · rw [hstop, hheat]
    · split
      · next h => exact hin h
      · next h => exact hbefore h
  · obtain ⟨hout, htimer, htc, -, hdone, htimeouts⟩ := closeCore_shows hmeas hkeep false
    exact ⟨_, windowExpiry_closes hk hst hdue hmeas hkeep hleaving hmore, State.get_put_same _ _ _, hout,
      (State.get_put_ne _ _ (by simp)).trans hdone, (State.get_put_ne _ _ (by simp)).trans htimeouts, htimer, htc⟩

end Sys2Proof.Machine
end

section
/-! PROOFS. The calibration rotation (R154 to R157), the work a TDC lane takes back (R156), and the warm-up flag (R158). -/

namespace Sys2Proof.Machine

section

variable {s : State} {k : Nat}

/-! ## The slot: connected, handed over, reconnected -/

/-- A row that acts under a condition and else changes nothing. -/
theorem next_ite {o : Host.Outcome State Fault Refusal} {p : Prop} [Decidable p] {a b : State} (h : o = .next (if p then a else b)) :
    ∃ t, o = .next t ∧ if p then t = a else t = b := by
  refine ⟨_, h, ?_⟩
  by_cases hp : p
  · rw [if_pos hp, if_pos hp]
  · rw [if_neg hp, if_neg hp]

/-- A check and a comparison within CAL_TOL take the new table, and the unit has failed no rotation (R155). -/
theorem calReconnect_passes {err diff : Int} (herr : err.natAbs ≤ s.get Reg.TIM_CAL_CTRL_CAL_TOL)
    (hdiff : diff.natAbs ≤ s.get Reg.TIM_CAL_CTRL_CAL_TOL) (lsb : Nat) : exec (.calReconnect k err diff lsb) s = .next (
      if s.var .calUnit = k + 1 ∧ s.var .calPhase = 2 ∧ s.due .cal then
        ({ ((s.setVar .calPhase 3).putI (Reg.TDC_CAL_DIFF_DIFF k) (satI 16 diff)).put (Reg.TDC_CAL_LSB_LSB k) lsb with
          tim := { s.tim with fails := aput s.tim.fails k 0 } }.setVar .calOk 1).setTimer .cal (s.runNs + 1000000)
      else s) := by
  have heff : exec (.calReconnect k err diff lsb) s = execCalReconnect k err diff lsb s := rfl
  rw [heff]
  simp only [execCalReconnect, herr, hdiff, decide_true, if_true, true_and, true_or]
  rfl

/-! ## The work returned (R154, R156) -/

/-- A unit's work its own again, and no unit in the rotation's hands. -/
def State.calOwn (s : State) (k : Nat) : State :=
  (((((s.put (Reg.TDC_CFG_SERVED_BY k) k).put (Reg.TDC_CFG_SERVED_BY 24) 24).setVar .calUnit 0).setVar .calPhase 0).stopTimer .cal)

/-- The spare, free of the lane it stood in for, rotates again. -/
def State.spareFree (s : State) : State :=
  ((s.put Reg.TIM_STATUS_SPARE_SUBST 0).put Reg.TIM_STATUS_SUBST_LANE 0).putB Reg.TIM_STATUS_ROTATING (s.unitOn (tdcHid 24))

/-- A unit that passed its check is new again. -/
def State.calPassed (s : State) (k : Nat) : State :=
  if s.var .calOk = 1 then { s with tim := { s.tim with calAt := aput s.tim.calAt k s.runNs, stale := s.tim.stale.filter (· ≠ k) } } else s

theorem calReturn_returns (hunit : s.var .calUnit = k + 1) (hphase : s.var .calPhase = 3) (hdue : s.due .cal = true) :
    exec (.calReturn k) s = .next (((s.calOwn k).useUpdate k).calPassed k) := by
  have hback : decide (s.var .calPhase = 4) = false := by rw [hphase]; rfl
  refine congrArg Host.Outcome.next ((if_pos ⟨hunit, by omega, hdue⟩).trans ?_)
  simp only [hback, Bool.false_eq_true, if_false]
  rfl

theorem calReturn_takesBack (hunit : s.var .calUnit = k + 1) (hphase : s.var .calPhase = 4) (hdue : s.due .cal = true) :
    exec (.calReturn k) s = .next ((((s.calOwn k).spareFree).useUpdate k).calPassed k) := by
  have hback : decide (s.var .calPhase = 4) = true := by rw [hphase]; rfl
  refine congrArg Host.Outcome.next ((if_pos ⟨hunit, by omega, hdue⟩).trans ?_)
  simp only [hback, if_true]
  rfl

theorem calOwn_shows (s : State) (hk : k < 25) : let t := s.calOwn k
    t.get (Reg.TDC_CFG_SERVED_BY k) = k ∧ t.get (Reg.TDC_CFG_SERVED_BY 24) = 24 ∧ t.var .calUnit = 0 ∧ t.timer .cal = none ∧
      t.heatSt k = s.heatSt k ∧ t.var .calOk = s.var .calOk := by
  intro t
  refine ⟨?_, State.get_put_same _ _ _, ?_, State.timer_stopTimer_same _ _, ?_, ?_⟩
  · by_cases h : k = 24
    · subst h
      exact State.get_put_same _ _ _
    · refine (State.get_put_ne _ _ ?_).trans ((State.get_put_same _ _ _).trans (Nat.mod_eq_of_lt (show k < 2 ^ 5 by omega)))
      simp only [key_TDC_CFG_SERVED_BY, tdcKey]
      omega
  · exact (State.var_setVar_ne _ _ (by decide)).trans (State.var_setVar_same _ _ _)
  · refine (State.get_put_ne _ _ ?_).trans (State.get_put_ne _ _ (by simp))
    simp only [key_TDC_CFG_SERVED_BY, key_TDC_STATE_HEAT_STATE, tdcKey]
    omega
  · exact (State.var_setVar_ne _ _ (by decide)).trans (State.var_setVar_ne _ _ (by decide))

/-- A unit that is in no slot has its heat's use while one runs (R139). -/
theorem useUpdate_runs (hfree : s.var .calUnit = 0) (hk : k < 24) (hruns : s.heatRuns k = true) :
    (s.useUpdate k).get (Reg.TDC_CFG_USE k) = 1 := by
  have huse : s.useOf k = 1 := by
    have hslot : ¬ (s.var .calUnit = k + 1 ∧ (s.var .calPhase = 2 ∨ s.var .calPhase = 3)) := by omega
    rw [State.useOf, if_neg hslot, if_neg (by omega), if_pos hruns]
  rw [State.useUpdate, huse]
  exact State.get_put_same _ _ _

/-- TIM_STATUS lies before the lanes' registers. -/
theorem tdc_ne_timStatus {f g : Fld} (hf : tdcKey k ≤ f.key) (hg : g.addr = 0x120000) (hlo : g.lo < 32) : f.key ≠ g.key := by
  unfold tdcKey at hf
  have : g.key < 0x2402000 := by
    unfold Fld.key
    omega
  omega

theorem spareServed_ne_use (k : Nat) : (Reg.TDC_CFG_SERVED_BY 24).key ≠ (Reg.TDC_CFG_USE k).key := by
  simp only [key_TDC_CFG_SERVED_BY, key_TDC_CFG_USE, tdcKey]
  omega

theorem spareFree_shows (s : State) : let t := s.spareFree
    t.get Reg.TIM_STATUS_SPARE_SUBST = 0 ∧ t.get Reg.TIM_STATUS_SUBST_LANE = 0 ∧
      t.get Reg.TIM_STATUS_ROTATING = (if s.unitOn (tdcHid 24) then 1 else 0) ∧
      ∀ (j : Nat) (f : Fld), tdcKey j ≤ f.key → t.get f = s.get f := by
  intro t
  refine ⟨?_, ?_, ?_, fun j f hf => ?_⟩
  · exact (State.get_put_ne _ _ (by decide)).trans ((State.get_put_ne _ _ (by decide)).trans (State.get_put_same _ _ _))
  · exact (State.get_put_ne _ _ (by decide)).trans (State.get_put_same _ _ _)
  · refine (State.get_put_same _ _ _).trans ?_
    cases s.unitOn (tdcHid 24) <;> rfl
  · exact (State.get_put_ne _ _ (tdc_ne_timStatus hf rfl (by decide))).trans ((State.get_put_ne _ _ (tdc_ne_timStatus hf rfl (by decide))).trans
      (State.get_put_ne _ _ (tdc_ne_timStatus hf rfl (by decide))))

theorem calPassed_keeps (s : State) (k : Nat) : (s.calPassed k).regs = s.regs ∧ (s.calPassed k).vars = s.vars ∧
    (s.calPassed k).timers = s.timers := by
  unfold State.calPassed
  split
  · exact ⟨rfl, rfl, rfl⟩
  · exact ⟨rfl, rfl, rfl⟩

/-- A unit that passed its check has the age 0, and is not stale. -/
theorem calPassed_age (h : s.var .calOk = 1) : (s.calPassed k).calAge k = 0 ∧ k ∉ (s.calPassed k).tim.stale := by
  have hpassed : s.calPassed k = _ := if_pos h
  rw [hpassed]
  refine ⟨?_, by simp⟩
  simp only [State.calAge, aget_aput_same]
  simp [State.runNs]

/-- A unit back at its work: every register and scalar as it was, but for its use, its age and its staleness. -/
theorem returned_reads (u : State) (k : Nat) : let t := (u.useUpdate k).calPassed k
    (∀ f : Fld, f.key ≠ (Reg.TDC_CFG_USE k).key → t.get f = u.get f) ∧ (∀ v : Var, t.var v = u.var v) ∧ (∀ m : Tm, t.timer m = u.timer m) ∧
      (u.var .calUnit = 0 → k < 24 → u.heatRuns k = true → t.get (Reg.TDC_CFG_USE k) = 1) ∧
      (u.var .calOk = 1 → t.calAge k = 0 ∧ k ∉ t.tim.stale) := by
  intro t
  obtain ⟨hregs, hvars, htimers⟩ := calPassed_keeps (u.useUpdate k) k
  have hget : ∀ f : Fld, t.get f = (u.useUpdate k).get f := fun f => congrArg (fun m => (aget m f.key).getD f.reset) hregs
  exact ⟨fun f hf => (hget f).trans (State.get_put_ne _ _ hf), fun v => congrArg (fun m => (aget m v).getD 0) hvars,
    fun m => congrArg (aget · m) htimers, fun hfree hk hruns => (hget _).trans (useUpdate_runs hfree hk hruns), fun h => calPassed_age h⟩

/-- The end of a slot. -/
theorem calReturn_shows (hk : k < 25) (hunit : s.var .calUnit = k + 1) (hphase : s.var .calPhase = 3) (hdue : s.due .cal = true)
    (hok : s.var .calOk = 1) : ∃ t, exec (.calReturn k) s = .next t ∧
      t.get (Reg.TDC_CFG_SERVED_BY k) = k ∧ t.get (Reg.TDC_CFG_SERVED_BY 24) = 24 ∧ t.calAge k = 0 ∧ t.var .calUnit = 0 ∧ t.timer .cal = none ∧
        k ∉ t.tim.stale ∧ (k < 24 → s.heatRuns k = true → t.get (Reg.TDC_CFG_USE k) = 1) := by
  obtain ⟨hserved, hspare, hfree, htimer, hst, hok'⟩ := calOwn_shows s hk
  obtain ⟨hget, hvar, htm, huse, hpassed⟩ := returned_reads (s.calOwn k) k
  obtain ⟨hage, hfresh⟩ := hpassed (hok'.trans hok)
  refine ⟨_, calReturn_returns hunit hphase hdue, (hget _ (by simp)).trans hserved, (hget _ (spareServed_ne_use k)).trans hspare, hage,
    (hvar _).trans hfree, (htm _).trans htimer, hfresh, fun hlane hruns => huse hfree hlane ?_⟩
  rw [State.heatRuns, hst]
  exact hruns

/-- The end of the overlap after which a lane has its work back from the spare. -/
theorem calReturn_substituted (hk : k < 24) (hunit : s.var .calUnit = k + 1) (hphase : s.var .calPhase = 4) (hdue : s.due .cal = true) :
    ∃ t, exec (.calReturn k) s = .next t ∧ t.get (Reg.TDC_CFG_SERVED_BY k) = k ∧ t.get (Reg.TDC_CFG_SERVED_BY 24) = 24 ∧
      t.get Reg.TIM_STATUS_SPARE_SUBST = 0 ∧ t.get Reg.TIM_STATUS_SUBST_LANE = 0 ∧
      t.get Reg.TIM_STATUS_ROTATING = (if s.unitOn (tdcHid 24) then 1 else 0) ∧ t.var .calUnit = 0 ∧ t.timer .cal = none := by
  obtain ⟨hserved, hspare, hfree, htimer, -, -⟩ := calOwn_shows s (k := k) (by omega)
  obtain ⟨hget, hvar, htm, -, -⟩ := returned_reads (s.calOwn k).spareFree k
  obtain ⟨hsubst, hlane, hrotating, hrest⟩ := spareFree_shows (s.calOwn k)
  have hstatus : ∀ {g : Fld}, g.addr = 0x120000 → g.lo < 32 → g.key ≠ (Reg.TDC_CFG_USE k).key :=
    fun hg hlo => (tdc_ne_timStatus (k := k) (by simp) hg hlo).symm
  refine ⟨_, calReturn_takesBack hunit hphase hdue, ?_, ?_, (hget _ (hstatus rfl (by decide))).trans hsubst,
    (hget _ (hstatus rfl (by decide))).trans hlane, (hget _ (hstatus rfl (by decide))).trans hrotating, (hvar _).trans hfree, (htm _).trans htimer⟩
  · exact (hget _ (by simp)).trans ((hrest k _ (by simp)).trans hserved)
  · exact (hget _ (spareServed_ne_use k)).trans ((hrest 24 _ (by simp)).trans hspare)

/-! ## A stale unit, and a lane that takes back its work (R156, R157) -/

theorem calStale_reports (hk : k < 25) (hage : s.get Reg.TIM_CAL_CTRL_STALE_AGE < s.calAge k) (hfresh : k ∉ s.tim.stale) :
    ∃ t, exec (.calStale k) s = .next t ∧ k ∈ t.tim.stale ∧ bit (t.get Reg.TIM_STICKY_STICKY) 5 = true ∧ t.tc = s.tc := by
  refine ⟨_, congrArg Host.Outcome.next (if_pos ⟨hk, hage, hfresh⟩), ?_, fbit_raiseTim _ _ _ _ _ _ (by decide), raiseTim_tc _ _ _ _ _ _⟩
  rw [raiseTim_tim]
  exact List.mem_cons_self

theorem takeBack_begins (hk : k < 24) (hsecond : s.atSecond = true) (hon : s.unitOn (tdcHid k) = true)
    (hsubst : s.get Reg.TIM_STATUS_SPARE_SUBST = 1) (hlane : s.get Reg.TIM_STATUS_SUBST_LANE = k) (hfree : s.var .calUnit = 0)
    (hmoved : aget s.tim.moved k = none) {diff : Int} (hdiff : diff.natAbs ≤ s.get Reg.TIM_CAL_CTRL_CAL_TOL) :
    exec (.takeBack ⟨k, diff⟩) s = .next (((((s.setVar .calUnit (k + 1)).setVar .calPhase 4).setVar .calOk 0).putI (Reg.TDC_CAL_DIFF_DIFF k)
      (satI 16 diff)).setTimer .cal (s.runNs + 1000000)) := by
  have htol : ((((s.setVar .calUnit (k + 1)).setVar .calPhase 4).setVar .calOk 0).putI (Reg.TDC_CAL_DIFF_DIFF k) (satI 16 diff)).get
      Reg.TIM_CAL_CTRL_CAL_TOL = s.get Reg.TIM_CAL_CTRL_CAL_TOL :=
    State.get_put_ne _ _ (by simp only [Fld.key, Reg.TIM_CAL_CTRL_CAL_TOL, Reg.TDC_CAL_DIFF_DIFF]; omega)
  refine congrArg Host.Outcome.next ((if_pos ⟨hk, hsecond, hon⟩).trans ?_)
  simp only [hsubst, hlane, hfree, htol, hdiff, true_and, if_true]
  show (match aget s.tim.moved k with | some m => _ | none => _) = _
  rw [hmoved]
  rfl

/-! ## The warm-up flag (R158) -/

/-- WARMING cleared, by the run of seconds or by its time limit, with the condition that says which. -/
theorem warmEnd_shows (s : State) {byTimeout j : Nat} (hby : byTimeout < 2) (hj : j < 9) (sev : Sev) (items : List Item) :
    let t := ((s.put Reg.TIM_STATUS_WARMING 0).put Reg.TIM_STATUS_WARM_BY_TIMEOUT byTimeout).raiseTim j sev 0x03FF 0 items
    t.get Reg.TIM_STATUS_WARMING = 0 ∧ t.get Reg.TIM_STATUS_WARM_BY_TIMEOUT = byTimeout ∧ bit (t.get Reg.TIM_STICKY_STICKY) j = true ∧
      t.tc = s.tc := by
  intro t
  refine ⟨?_, ?_, fbit_raiseTim _ _ _ _ _ _ hj, raiseTim_tc _ _ _ _ _ _⟩
  · exact (get_raiseTim _ _ _ _ _ _ (by decide) (by decide)).trans ((State.get_put_ne _ _ (by decide)).trans (State.get_put_same _ _ _))
  · exact (get_raiseTim _ _ _ _ _ _ (by decide) (by decide)).trans ((State.get_put_same _ _ _).trans (Nat.mod_eq_of_lt hby))

end

/-- Settles O15: the slot from its start to its return, the stale unit, the overlap of a lane that takes back its work, and the flag's two ends. -/
theorem calibrationAndWarmUp : Obligations.CalibrationAndWarmUp := by
  unfold Obligations.CalibrationAndWarmUp
  refine ⟨fun s k hk => ⟨next_ite rfl, next_ite rfl, fun err diff lsb herr hdiff => next_ite (calReconnect_passes herr hdiff lsb), ?_,
    fun hage hfresh => calStale_reports hk hage hfresh,
    fun diff hlane hsecond hon hsubst hfor hfree hmoved hdiff => takeBack_begins hlane hsecond hon hsubst hfor hfree hmoved hdiff,
    fun hlane hunit hphase hdue => calReturn_substituted hlane hunit hphase hdue⟩,
    fun s => ⟨fun hwarm hedge hlen hspan => ?_, fun hwarm hlimit hlate => ?_, fun hcold => ?_⟩⟩
  · by_cases h : s.var .calUnit = k + 1 ∧ s.var .calPhase = 3 ∧ s.due .cal = true ∧ s.var .calOk = 1
    · obtain ⟨hunit, hphase, hdue, hok⟩ := h
      obtain ⟨t, ht, hshows⟩ := calReturn_shows hk hunit hphase hdue hok
      exact ⟨t, ht, fun _ _ _ _ => hshows⟩
    · exact ⟨_, rfl, fun hunit hphase hdue hok => absurd ⟨hunit, hphase, hdue, hok⟩ h⟩
  · exact ⟨_, congrArg Host.Outcome.next (if_pos ⟨hwarm, hedge, hlen, hspan⟩), warmEnd_shows s (by decide) (by decide) _ _⟩
  · exact ⟨_, congrArg Host.Outcome.next (if_pos ⟨hwarm, hlimit, hlate⟩), warmEnd_shows s (by decide) (by decide) _ _⟩
  · have hnot : ¬ s.get Reg.TIM_STATUS_WARMING = 1 := by omega
    exact ⟨⟨_, rfl, if_neg fun h => hnot h.1⟩, ⟨_, rfl, if_neg fun h => hnot h.1⟩⟩

end Sys2Proof.Machine
end

section
/-! PROOFS. Maker work (R157, R450, R458, R461, R462, R464): what the twin's role does with it, and what a STANDBY runs. -/

namespace Sys2Proof.Machine

section

variable {s : State} {c : Ctx} {o : OpInfo} {body : List Int} {eff : Nat → State → Res}

/-! ## Acceptance by role (R461) -/

/-- Whether the last baton shows a partner fit to take over. -/
def State.canHandOver (s : State) : Prop :=
  ∃ b, s.twin.baton = some b ∧ b.role = 3 ∧ b.synced = true ∧ b.following = true ∧ b.regions = 0

/-- What becomes of maker work on a twin that is no STANDBY: it waits for a handover two laps ahead, or is refused. -/
def MakerHeld (s : State) (c : Ctx) (o : OpInfo) (args : List Nat) (t : State) : Prop :=
  (s.get Reg.TWN_STATUS_ROLE = 2 → s.canHandOver → s.get Reg.TWN_STATUS_HANDOVER_PENDING ≠ 1 →
    Starts s c (fun f => (f.planHandover 2).hold c o (s.sessionRole c.ring c.session) (makerMark :: args)) t ∧
      t.get Reg.TWN_STATUS_HANDOVER_PENDING = 1 ∧ t.get Reg.TWN_HANDOVER_LAP = (s.ns / lapNs + 2) % 2 ^ 32) ∧
  (s.get Reg.TWN_STATUS_ROLE = 0 ∨ (s.get Reg.TWN_STATUS_ROLE = 2 ∧ ¬ s.canHandOver) → Ends s c o Status.refusedActive 0 id t) ∧
  (s.get Reg.TWN_STATUS_ROLE ≠ 0 → s.get Reg.TWN_STATUS_ROLE ≠ 2 → s.get Reg.TWN_STATUS_ROLE ≠ 3 → Ends s c o Status.notFit 0 id t)

theorem batonFit_iff (b : Baton) : b.fit = true ↔ b.role = 3 ∧ b.synced = true ∧ b.following = true ∧ b.regions = 0 := decide_eq_true_iff

/-- An acceptance by role once more, with the partner's fitness said in full. -/
theorem makerEff_eq (s : State) (c : Ctx) (o : OpInfo) (args : List Nat) (role : Nat) (run : Nat → State → Res) [Decidable s.canHandOver] :
    s.makerEff c o args role run =
      if s.get Reg.TWN_STATUS_ROLE = 3 then run role s
      else if s.get Reg.TWN_STATUS_ROLE = 2 ∧ s.canHandOver then
        ⟨((if s.get Reg.TWN_STATUS_HANDOVER_PENDING = 1
          then s.completeRunning 0x0D02 [s.get Reg.TWN_HANDOVER_LAP] Status.interrupted 0 else s).planHandover 2).hold c o role
            (makerMark :: args), none, 0⟩
      else if s.get Reg.TWN_STATUS_ROLE = 2 ∨ s.get Reg.TWN_STATUS_ROLE = 0 then ⟨s, some Status.refusedActive, 0⟩
      else ⟨s, some Status.notFit, 0⟩ := by
  unfold State.makerEff
  cases hb : s.twin.baton with
  | none =>
    have hnone : ¬ s.canHandOver := fun ⟨b, h, _⟩ => by rw [hb] at h; cases h
    simp [hnone]
  | some b =>
    have hiff : s.canHandOver ↔ b.fit = true := by
      rw [batonFit_iff]
      exact ⟨fun ⟨b', h, hfit⟩ => by rw [hb] at h; cases h; exact hfit, fun h => ⟨b, hb, h⟩⟩
    simp [hiff]

theorem makerReads_fetch (s : State) (c : Ctx) :
    (s.fetch c).canHandOver = s.canHandOver ∧ (s.fetch c).makerBusy = s.makerBusy ∧ (s.fetch c).ns = s.ns := by
  simp only [State.canHandOver, fetch_twin, State.makerBusy, fetch_var, State.ns, fetch_tc, and_self]

/-- A command whose effect answers no status runs on from the state its effect leaves. -/
theorem runCmd_runsOn {u : State} {d : Nat} (hr : Ready s c o) (he : eff (s.sessionRole c.ring c.session) (s.fetch c) = ⟨u, none, d⟩) :
    s.runCmd c o body eff = u := runCmd_runs hr body eff he rfl

theorem runCmd_makerHeld {args : List Nat} {run : Nat → State → Res} (hr : Ready s c o)
    (he : eff (s.sessionRole c.ring c.session) (s.fetch c) = (s.fetch c).makerEff c o args (s.sessionRole c.ring c.session) run) :
    MakerHeld s c o args (s.runCmd c o body eff) := by
  classical
  obtain ⟨hfits, -, hns⟩ := makerReads_fetch s c
  rw [makerEff_eq, fetch_get, fetch_get, hfits] at he
  refine ⟨fun hactive hfit hfree => ?_, fun hrefused => ?_, fun halone hactive hstandby => ?_⟩
  · rw [if_neg (by omega), if_pos ⟨hactive, hfit⟩, if_neg hfree] at he
    rw [runCmd_runsOn hr he]
    refine ⟨.refl _, ?_, ?_⟩
    · exact (State.get_put_ne _ _ (by decide)).trans (State.get_put_same _ _ _)
    · rw [← hns]
      exact State.get_put_same _ _ _
  · rw [if_neg (by omega), if_neg, if_pos (by omega)] at he
    · exact runCmd_refused hr he
    · rintro ⟨hactive, hfit⟩
      exact hrefused.elim (by omega) fun h => h.2 hfit
  · rw [if_neg hstandby, if_neg (fun h => hactive h.1), if_neg (by omega)] at he
    exact runCmd_refused hr he

theorem makerEff_standby (h : s.get Reg.TWN_STATUS_ROLE = 3) (args : List Nat) (role : Nat) (run : Nat → State → Res) :
    (s.fetch c).makerEff c o args role run = run role (s.fetch c) := if_pos ((fetch_get _ _ _).trans h)

/-! ## Self-test and calibration (R157, R462) -/

theorem lowestSet_spec {m : Nat} (h0 : m ≠ 0) (h63 : m ≤ 63) :
    ∃ k, lowestSet m = some k ∧ k < 6 ∧ bit m k = true ∧ ∀ j, j < k → bit m j = false := by
  cases h : lowestSet m with
  | none =>
    have hclear : ∀ j, j < 6 → bit m j = false := by simpa [lowestSet] using h
    have hbits : m = 0 := by
      have hbit : ∀ j, j < 6 → ¬ m / 2 ^ j % 2 = 1 := fun j hj => of_decide_eq_false (hclear j hj)
      have b0 := hbit 0 (by omega)
      have b1 := hbit 1 (by omega)
      have b2 := hbit 2 (by omega)
      have b3 := hbit 3 (by omega)
      have b4 := hbit 4 (by omega)
      have b5 := hbit 5 (by omega)
      omega
    exact absurd hbits h0
  | some k =>
    obtain ⟨hk, hmem, hbelow⟩ := List.find?_range_eq_some.1 h
    exact ⟨k, rfl, List.mem_range.1 hmem, hk, fun j hj => by simpa using hbelow j hj⟩

/-- The state in which a self-test's first set begins: the command logged and in flight, its outcome empty, the set shown and its end set. -/
def State.bistSetUp (s : State) (c : Ctx) (role sets : Nat) (fails : List Nat) (k : Nat) : State :=
  let s := (s.change role 0x7FFE 0x1102 noOffset sets 0).hold c opBistRun role (bistMark :: fails)
  let s := (((s.put Reg.BIST_STATUS_PASSED 0).put Reg.BIST_STATUS_FAILED 0).setVar .bistFirst 0).setVar .bistLeft sets
  let s := (s.setVar .bistSet (k + 1 : Nat)).setVar .bistLeft (clrBit (s.var .bistLeft).toNat k : Nat)
  ((s.put Reg.BIST_STATUS_SET k).put Reg.PWR_STATUS_BIST_RUNNING 1).arm .bist (bistNs k)

theorem bistRun_begins (hfree : s.makerBusy = false) {sets k : Nat} (hk : lowestSet sets = some k) (fails : List Nat) (role : Nat) :
    bistRun c sets fails role s = ⟨(s.bistSetUp c role sets fails k).bistTakes k, none, 0⟩ := by
  simp only [bistRun, hfree, Bool.false_eq_true, if_false, hk]
  rfl

theorem mem_hold (s : State) (c : Ctx) (o : OpInfo) (role : Nat) (arg : List Nat) :
    ⟨c, o.op, role, true, arg, none⟩ ∈ (s.hold c o role arg).hif.inflight := List.mem_append_right _ (.head _)

theorem bistSetUp_shows (s : State) (c : Ctx) (role sets : Nat) (fails : List Nat) {k : Nat} (hk : k < 6) :
    let u := s.bistSetUp c role sets fails k
    u.tc = s.tc ∧ u.var .bistSet = (k + 1 : Nat) ∧ u.get Reg.BIST_STATUS_SET = k ∧ u.get Reg.PWR_STATUS_BIST_RUNNING = 1 ∧
      u.get Reg.BIST_STATUS_PASSED = 0 ∧ u.get Reg.BIST_STATUS_FAILED = 0 ∧ u.timer .bist = some (s.runNs + bistNs k) ∧
      ⟨c, opBistRun.op, role, true, bistMark :: fails, none⟩ ∈ u.hif.inflight := by
  intro u
  have hset : k % 2 ^ 3 = k := Nat.mod_eq_of_lt (by omega)
  refine ⟨change_tc _ _ _ _ _ _ _, ?_, ?_, ?_, ?_, ?_, ?_, mem_hold _ _ _ _ _⟩
  · exact (State.var_setVar_ne _ _ (by decide)).trans (State.var_setVar_same _ _ _)
  · exact (State.get_put_ne _ _ (by decide)).trans ((State.get_put_same _ _ _).trans hset)
  · exact State.get_put_same _ _ _
  · exact (State.get_put_ne _ _ (by decide)).trans ((State.get_put_ne _ _ (by decide)).trans
      ((State.get_put_ne _ _ (by decide)).trans (State.get_put_same _ _ _)))
  · exact (State.get_put_ne _ _ (by decide)).trans ((State.get_put_ne _ _ (by decide)).trans (State.get_put_same _ _ _))
  · refine (State.timer_arm_same _ _ _).trans (congrArg (fun n => some (n + bistNs k)) ?_)
    exact change_runNs _ _ _ _ _ _ _

/-- BIST_RUN on a STANDBY. -/
theorem bistRun_runs {sets : Nat} {fails : List Nat} (hr : Ready s c opBistRun) (h0 : sets ≠ 0) (h63 : sets ≤ 63)
    (he : eff (s.sessionRole c.ring c.session) (s.fetch c) = bistRun c sets fails (s.sessionRole c.ring c.session) (s.fetch c)) :
    let t := s.runCmd c opBistRun body eff
    if s.makerBusy = true then Ends s c opBistRun Status.notFit 0 id t
    else ∃ (k : Nat) (u : State), k < 6 ∧ bit sets k = true ∧ (∀ j, j < k → bit sets j = false) ∧ t = u.bistTakes k ∧ u.tc = s.tc ∧
      u.var .bistSet = (k + 1 : Nat) ∧ u.get Reg.BIST_STATUS_SET = k ∧ u.get Reg.PWR_STATUS_BIST_RUNNING = 1 ∧
      u.get Reg.BIST_STATUS_PASSED = 0 ∧ u.get Reg.BIST_STATUS_FAILED = 0 ∧ u.timer .bist = some (s.runNs + bistNs k) ∧
      ⟨c, opBistRun.op, s.sessionRole c.ring c.session, true, bistMark :: fails, none⟩ ∈ u.hif.inflight := by
  intro t
  obtain ⟨-, hbusy, -⟩ := makerReads_fetch s c
  split
  · next h => exact runCmd_refused hr (he.trans (if_pos (hbusy.trans h)))
  · next h =>
    obtain ⟨k, hfirst, hk, hbit, hbelow⟩ := lowestSet_spec h0 h63
    have hbegins := he.trans (bistRun_begins (hbusy.trans (Bool.eq_false_iff.2 h)) hfirst fails _)
    obtain ⟨htc, hset, hshown, hrunning, hpassed, hfailed, htimer, hflight⟩ :=
      bistSetUp_shows (s.fetch c) c (s.sessionRole c.ring c.session) sets fails hk
    rw [fetch_tc] at htc
    rw [fetch_runNs] at htimer
    exact ⟨k, _, hk, hbit, hbelow, runCmd_runsOn hr hbegins, htc, hset, hshown, hrunning, hpassed, hfailed, htimer, hflight⟩

/-- The state in which a maker calibration begins: the command logged and in flight, and its end set. -/
def State.calSetUp (s : State) (c : Ctx) (role : Nat) : State :=
  (((s.change role 0x03FF 0x0506 noOffset 0 0).hold c opTimCalibrate role [calMark]).setVar .calRun 1).arm .bist (bistNs 2)

theorem calRun_begins (hfree : s.makerBusy = false) (role : Nat) : calRun c role s = ⟨(s.calSetUp c role).bistTakes 2, none, 0⟩ := by
  simp only [calRun, hfree, Bool.false_eq_true, if_false]
  rfl

theorem calSetUp_shows (s : State) (c : Ctx) (role : Nat) : let u := s.calSetUp c role
    u.var .calRun = 1 ∧ u.timer .bist = some (s.runNs + 1200000000) ∧ u.tc = s.tc ∧
      ⟨c, opTimCalibrate.op, role, true, [calMark], none⟩ ∈ u.hif.inflight := by
  intro u
  refine ⟨State.var_setVar_same _ _ _, ?_, change_tc _ _ _ _ _ _ _, mem_hold _ _ _ _ _⟩
  rw [show 1200000000 = bistNs 2 from rfl]
  refine (State.timer_arm_same _ _ _).trans (congrArg (fun n => some (n + bistNs 2)) ?_)
  exact change_runNs _ _ _ _ _ _ _

/-- TIM_CALIBRATE on a STANDBY. -/
theorem calRun_runs (hr : Ready s c opTimCalibrate)
    (he : eff (s.sessionRole c.ring c.session) (s.fetch c) = calRun c (s.sessionRole c.ring c.session) (s.fetch c)) :
    let t := s.runCmd c opTimCalibrate body eff
    if s.makerBusy = true then Ends s c opTimCalibrate Status.notFit 0 id t
    else ∃ u : State, t = u.bistTakes 2 ∧ u.var .calRun = 1 ∧ u.timer .bist = some (s.runNs + 1200000000) ∧ u.tc = s.tc ∧
      ⟨c, opTimCalibrate.op, s.sessionRole c.ring c.session, true, [calMark], none⟩ ∈ u.hif.inflight := by
  intro t
  obtain ⟨-, hbusy, -⟩ := makerReads_fetch s c
  split
  · next h => exact runCmd_refused hr (he.trans (if_pos (hbusy.trans h)))
  · next h =>
    have hbegins := he.trans (calRun_begins (hbusy.trans (Bool.eq_false_iff.2 h)) _)
    obtain ⟨hrun, htimer, htc, hflight⟩ := calSetUp_shows (s.fetch c) c (s.sessionRole c.ring c.session)
    rw [fetch_tc] at htc
    rw [fetch_runNs] at htimer
    exact ⟨_, runCmd_runsOn hr hbegins, hrun, htimer, htc, hflight⟩

/-! ## Fuses and trims (R464) -/

theorem fuseOk_iff (s : State) (field value : Nat) : s.fuseOk field value = true ↔
    (field = 0 ∧ value < 2 ^ 16 ∧ s.get Reg.FW_SVN_SVN &&& value = s.get Reg.FW_SVN_SVN) ∨
      (field = 1 ∧ value < 2 ^ 4 ∧ s.get Reg.FW_SVN_REVOKED &&& value = s.get Reg.FW_SVN_REVOKED) := by
  unfold State.fuseOk keepsFuses
  split
  · next h => simp [h]
  · next h => simp [h]

theorem trimOk_iff (trim value : Nat) : trimOk trim value = true ↔
    (trim = 0 ∧ value < 4) ∨ (trim = 1 ∧ value < 16) ∨ (trim = 2 ∧ value < 64 ∧ value / 4 % 4 = 0) := by
  simp [trimOk]

/-- A trim written to the board record; the load applies at once. -/
def State.trimmed (s : State) (trim value : Nat) : State :=
  let s := { s with boot := { s.boot with
    trims := (trimFields trim value).foldl (fun (m : AMap Nat Nat) (x : Fld × Nat) => aput m x.1.key x.2) s.boot.trims } }
  if trim = 1 then s.put Reg.RTC_CFG_LOAD value else s

theorem trimmed_boot (s : State) (trim value : Nat) : (s.trimmed trim value).boot.trims =
    (trimFields trim value).foldl (fun (m : AMap Nat Nat) (x : Fld × Nat) => aput m x.1.key x.2) s.boot.trims := by
  unfold State.trimmed
  dsimp only
  split
  · rfl
  · rfl

theorem trimmed_shows (s : State) {trim value : Nat} (h : trimOk trim value = true) : let t := s.trimmed trim value
    (trim = 1 → t.get Reg.RTC_CFG_LOAD = value) ∧ (trim = 0 → aget t.boot.trims Reg.RTC_CFG_RTC_CLASS.key = some value) ∧
      (trim = 1 → aget t.boot.trims Reg.RTC_CFG_LOAD.key = some value) ∧
      (trim = 2 → aget t.boot.trims Reg.MEM_CFG_SIZE.key = some (value % 4) ∧ aget t.boot.trims Reg.MEM_CFG_RATE.key = some (value / 16)) := by
  intro t
  rw [trimOk_iff] at h
  rw [show t.boot.trims = _ from trimmed_boot s trim value]
  refine ⟨?_, ?_, ?_, ?_⟩
  · rintro rfl
    exact (State.get_put_same _ _ _).trans (Nat.mod_eq_of_lt (show value < 2 ^ 4 by omega))
  · rintro rfl
    exact aget_aput_same _ _ _
  · rintro rfl
    exact aget_aput_same _ _ _
  · rintro rfl
    have hrate : value / 16 % 4 = value / 16 := Nat.mod_eq_of_lt (by omega)
    have hkeys : Reg.MEM_CFG_SIZE.key ≠ Reg.MEM_CFG_RATE.key := by decide
    exact ⟨(aget_aput_ne _ _ hkeys).trans (aget_aput_same _ _ _), (aget_aput_same _ _ _).trans (congrArg some hrate)⟩

/-- FUSE_WRITE on a STANDBY. -/
theorem fuseRun_ends {field value : Nat} (hr : Ready s c opFuseWrite)
    (he : eff (s.sessionRole c.ring c.session) (s.fetch c) = fuseRun field value (s.sessionRole c.ring c.session) (s.fetch c)) :
    Ends s c opFuseWrite Status.ok 0 (fun f => if field = 0 then { f.put Reg.FW_SVN_SVN value with boot := { f.boot with fwSvn := some value } }
      else { f.put Reg.FW_SVN_REVOKED value with boot := { f.boot with revoked := some value } }) (s.runCmd c opFuseWrite body eff) :=
  runCmd_answers hr he (change_quiet _ _ _ _ _ _ _)

/-- TRIM_SET on a STANDBY. -/
theorem trimRun_ends {trim value : Nat} (hr : Ready s c opTrimSet) (hok : trimOk trim value = true)
    (he : eff (s.sessionRole c.ring c.session) (s.fetch c) = trimRun trim value (s.sessionRole c.ring c.session) (s.fetch c)) :
    let t := s.runCmd c opTrimSet body eff
    (∃ v, Ends s c opTrimSet Status.ok 0 v t) ∧ (trim = 1 → t.get Reg.RTC_CFG_LOAD = value) ∧
      (trim = 0 → aget t.boot.trims Reg.RTC_CFG_RTC_CLASS.key = some value) ∧ (trim = 1 → aget t.boot.trims Reg.RTC_CFG_LOAD.key = some value) ∧
      (trim = 2 → aget t.boot.trims Reg.MEM_CFG_SIZE.key = some (value % 4) ∧ aget t.boot.trims Reg.MEM_CFG_RATE.key = some (value / 16)) := by
  intro t
  have hends : Ends s c opTrimSet Status.ok 0 (·.trimmed trim value) t := runCmd_answers hr he (change_quiet _ _ _ _ _ _ _)
  have hboot : t.boot = ((s.fetch c).trimmed trim value).boot := (congrArg State.boot hends.apart.rest).trans rfl
  obtain ⟨hload, htrims⟩ := trimmed_shows (s.fetch c) hok
  rw [hboot]
  exact ⟨⟨_, hends⟩, fun h => (hends.apart.regs _ (by decide)).trans (hload h), htrims⟩

/-! ## Firmware and domains (R450, R458, R464) -/

theorem fwUpdate_ends (hr : Ready s c opFwUpdate) (target len verify : Nat) :
    let t := s.runCmd c opFwUpdate body (fwUpdateEff c.dmaOk target len verify)
    if 2 < target then Ends s c opFwUpdate Status.range 0 id t
    else if target < 2 ∧ target = s.get Reg.PWR_STATUS_FW_SLOT ∧ s.phase ≠ 8 then Ends s c opFwUpdate Status.busy 0 id t
    else if 4194304 < len then Ends s c opFwUpdate Status.range 3 id t
    else if c.dmaOk = false then Ends s c opFwUpdate Status.dmaError 0 id t
    else if target = 2 then Ends s c opFwUpdate Status.ok 0 (fun f => f.recordWritten len) t
    else if verify ≠ 0 then Ends s c opFwUpdate Status.range verify id t
    else Ends s c opFwUpdate Status.ok 0 (fun f => { f with boot := { f.boot with preferred := target } }) t := by
  intro t
  have hslot : (target < 2 ∧ target = (s.fetch c).get Reg.PWR_STATUS_FW_SLOT ∧ (s.fetch c).phase ≠ 8) ↔
      (target < 2 ∧ target = s.get Reg.PWR_STATUS_FW_SLOT ∧ s.phase ≠ 8) := by simp only [State.phase, fetch_get]
  split
  · next h => exact runCmd_refused hr (if_pos h)
  next hknown =>
  split
  · next h => exact runCmd_refused hr ((if_neg hknown).trans (if_pos (hslot.2 h)))
  next hinUse =>
  have hother := mt hslot.1 hinUse
  split
  · next h => exact runCmd_refused hr ((if_neg hknown).trans ((if_neg hother).trans (if_pos h)))
  next hlen =>
  split
  · next h => exact runCmd_refused hr ((if_neg hknown).trans ((if_neg hother).trans ((if_neg hlen).trans (if_pos (Bool.eq_false_iff.1 h)))))
  next hdma =>
  have hread : fwUpdateEff c.dmaOk target len verify (s.sessionRole c.ring c.session) (s.fetch c) = _ :=
    (if_neg hknown).trans ((if_neg hother).trans ((if_neg hlen).trans (if_neg (by simpa using hdma))))
  split
  · next h => exact runCmd_answers hr (hread.trans (if_pos h)) (change_quiet _ _ _ _ _ _ _)
  next hslots =>
  split
  · next h => exact runCmd_refused hr (hread.trans ((if_neg hslots).trans (if_pos h)))
  · next h => exact runCmd_answers hr (hread.trans ((if_neg hslots).trans (if_neg h))) (change_quiet _ _ _ _ _ _ _)

theorem domainReads_fetch (s : State) (c : Ctx) (d : Nat) : (s.fetch c).powered d = s.powered d ∧ (s.fetch c).offBusy d = s.offBusy d := by
  obtain ⟨h, r, e⟩ := fetch_eq s c
  rw [e]
  exact ⟨rfl, rfl⟩

theorem neverOff_iff (d : Nat) : neverOff d = true ↔ d = 0 ∨ d = 1 ∨ d = 8 ∨ d = 11 ∨ d = 13 := decide_eq_true_iff

/-- A domain switched off by command. -/
theorem domainOff_ends {op d : Nat} (hr : Ready s c o)
    (he : eff (s.sessionRole c.ring c.session) (s.fetch c) = domainOffEff op d (s.sessionRole c.ring c.session) (s.fetch c)) :
    let t := s.runCmd c o body eff
    if d = 0 ∨ d = 1 ∨ d = 8 ∨ d = 11 ∨ d = 13 then Ends s c o Status.notPermitted 0 id t
    else if s.powered d = false then Ends s c o Status.ok 0 id t
    else if s.offBusy d = true then Ends s c o Status.busy 0 id t
    else Ends s c o Status.ok 0 (fun f => (f.domainOff d).setVar (.offCmd d) 1) t := by
  intro t
  obtain ⟨hpowered, hbusy⟩ := domainReads_fetch s c d
  rw [← hpowered, ← hbusy]
  split
  · next h => exact runCmd_refused hr (he.trans (if_pos ((neverOff_iff d).2 h)))
  next hkept =>
  have hmay := mt (neverOff_iff d).1 hkept
  split
  · next h => exact runCmd_answers hr (he.trans ((if_neg hmay).trans (if_pos (Bool.eq_false_iff.1 h)))) (change_quiet _ _ _ _ _ _ _)
  next hon =>
  have hread := he.trans ((if_neg hmay).trans (if_neg (not_not_intro (Bool.not_eq_false _ ▸ hon))))
  split
  · next h => exact runCmd_refused hr (hread.trans (if_pos h))
  · next h => exact runCmd_answers hr (hread.trans (if_neg h)) (change_quiet _ _ _ _ _ _ _)

/-- A domain's power switched on by command, and the training of its DRAM begun anew. -/
def State.powerOn (s : State) (d : Nat) : State :=
  let u := (s.setVar (.offCmd d) 0).powerBit d true
  if d = 12 then ((u.put Reg.MEM_STATUS_FAILED 0).put Reg.MEM_STATUS_ATTEMPTS 0).put Reg.MEM_STATUS_FAIL_CH 0 else u

theorem powerOn_shows (s : State) {d : Nat} (hd : d < 14) : (s.powerOn d).powered d = true ∧ (s.powerOn d).var (.offCmd d) = 0 := by
  have hbit : ((s.setVar (.offCmd d) 0).powerBit d true).powered d = true ∧ ((s.setVar (.offCmd d) 0).powerBit d true).var (.offCmd d) = 0 := by
    obtain ⟨o, e⟩ := powerBit_eq (s.setVar (.offCmd d) 0) d true
    rw [e]
    exact ⟨(fbit_putBit _ d true hd).trans (if_pos rfl), State.var_setVar_same _ _ _⟩
  unfold State.powerOn
  extract_lets u
  split
  · refine ⟨Eq.trans ?_ hbit.1, hbit.2⟩
    refine congrArg (fun n => bit n d) ?_
    exact (State.get_put_ne _ _ (by decide)).trans ((State.get_put_ne _ _ (by decide)).trans (State.get_put_ne _ _ (by decide)))
  · exact hbit

/-- A domain switched on by command. -/
theorem domainOn_ends {op d : Nat} (hr : Ready s c o) (hd : d < 14)
    (he : eff (s.sessionRole c.ring c.session) (s.fetch c) = domainOnEff op d (s.sessionRole c.ring c.session) (s.fetch c)) :
    let t := s.runCmd c o body eff
    if s.powered d = true then Ends s c o Status.ok 0 id t
    else if (d = 9 ∨ d = 10) ∧ s.synSt 3 ≠ 3 then Ends s c o Status.busy 0 id t
    else t.powered d = true ∧ t.var (.offCmd d) = 0 ∧ Ends s c o Status.ok 0 (·.powerOn d) t := by
  intro t
  rw [← (domainReads_fetch s c d).1, ← synSt_fetch s c 3]
  split
  · next h => exact runCmd_answers hr (he.trans (if_pos h)) (change_quiet _ _ _ _ _ _ _)
  next hoff =>
  split
  · next h => exact runCmd_refused hr (he.trans ((if_neg hoff).trans (if_pos h)))
  next hlocked =>
  have hends : Ends s c o Status.ok 0 (·.powerOn d) t :=
    runCmd_answers hr (he.trans ((if_neg hoff).trans (if_neg hlocked))) (change_quiet _ _ _ _ _ _ _)
  obtain ⟨hon, hvar⟩ := powerOn_shows (s.fetch c) hd
  have happart := hends.apart
  exact ⟨(congrArg (fun n => bit n d) (happart.regs _ (by decide))).trans hon, (happart.vars _ (by simp [bookVars])).trans hvar, hends⟩

/-! ## The Field die's reset (R450) -/

theorem fieldReset_shows (s : State) : s.fieldReset.var .fieldReset = 1 ∧ s.fieldReset.get Reg.HIF_STATUS_STATE = 0 ∧
    s.fieldReset.keys = [] ∧ s.fieldReset.insts = [] ∧ s.fieldReset.ports = [] := by
  unfold State.fieldReset
  extract_lets s1 s2 s3 field s4 s5
  exact ⟨State.var_setVar_same _ _ _, (State.get_put_ne _ _ (by decide)).trans (State.get_put_same _ _ _), rfl, rfl, rfl⟩

/-- FIELD_RESET on a STANDBY. -/
theorem fieldResetRun_ends (hr : Ready s c o)
    (he : eff (s.sessionRole c.ring c.session) (s.fetch c) = fieldResetRun (s.sessionRole c.ring c.session) (s.fetch c)) :
    let t := s.runCmd c o body eff
    if s.makerBusy = true then Ends s c o Status.notFit 0 id t
    else Ends s c o Status.ok 0 (fun f => (f.change (s.sessionRole c.ring c.session) 0x7FFE 0x1101 noOffset 8 2).fieldReset) t ∧
      t.var .fieldReset = 1 ∧ t.get Reg.HIF_STATUS_STATE = 0 ∧ t.keys = [] ∧ t.insts = [] ∧ t.ports = [] := by
  intro t
  obtain ⟨-, hbusy, -⟩ := makerReads_fetch s c
  rw [← hbusy]
  split
  · next h => exact runCmd_refused hr (he.trans (if_pos h))
  next hfree =>
  have hends : Ends s c o Status.ok 0 (fun f => (f.change (s.sessionRole c.ring c.session) 0x7FFE 0x1101 noOffset 8 2).fieldReset) t :=
    runCmd_answers hr (he.trans (if_neg hfree)) (.refl _)
  obtain ⟨hvar, hstate, hkeys, hinsts, hports⟩ := fieldReset_shows ((s.fetch c).change (s.sessionRole c.ring c.session) 0x7FFE 0x1101 noOffset 8 2)
  have happart := hends.apart
  exact ⟨hends, (happart.vars _ (by decide)).trans hvar, (happart.regs _ (by decide)).trans hstate, (congrArg State.keys happart.rest).trans hkeys,
    (congrArg State.insts happart.rest).trans hinsts, (congrArg State.ports happart.rest).trans hports⟩

theorem pwrDomainSetEff_fieldReset {d : Nat} (hd : d = 8) (c : Ctx) (role : Nat) (s : State) :
    pwrDomainSetEff c d 2 role s = s.makerEff c (opPwrDomainSet 2) [] role fieldResetRun :=
  (if_neg (by omega)).trans ((if_neg (by omega)).trans (if_neg (by omega)))

end

/-- Settles O53: what the role does with maker work, once for all six commands, and then what a STANDBY runs of each. -/
theorem makerWork : Obligations.MakerWork := by
  unfold Obligations.MakerWork
  intro s c role fit held
  refine ⟨fun sets fails hr => ⟨_, rfl, ?_⟩, fun hr => ⟨_, rfl, runCmd_makerHeld hr rfl, fun h => calRun_runs hr (makerEff_standby h _ _ _)⟩,
    fun field value hr => ⟨_, rfl, ?_⟩, fun trim value hr => ⟨_, rfl, ?_⟩, fun target addr len verify hr => ⟨_, rfl, fwUpdate_ends hr _ _ _⟩,
    fun hr => ⟨_, rfl, ?_⟩, fun d action hr => ⟨_, rfl, ?_⟩⟩
  case refine_1 =>
    by_cases h : sets = 0 ∨ 63 < sets
    · exact (if_pos h).mpr (runCmd_refused hr (if_pos h))
    · exact (if_neg h).mpr ⟨runCmd_makerHeld hr (if_neg h),
        fun hs => bistRun_runs hr (by omega) (by omega) ((if_neg h).trans (makerEff_standby hs _ _ _))⟩
  case refine_2 =>
    intro ok
    have hok : (s.fetch c).fuseOk field value = true ↔ ok := by rw [fuseOk_iff, fetch_get, fetch_get]
    refine ⟨fun h => runCmd_refused hr (if_pos (mt hok.1 h)), fun h => ?_⟩
    have htaken := not_not_intro (hok.2 h)
    exact ⟨runCmd_makerHeld hr (if_neg htaken), fun hs => fuseRun_ends hr ((if_neg htaken).trans (makerEff_standby hs _ _ _))⟩
  case refine_3 =>
    intro ok
    refine ⟨fun h => runCmd_refused hr (if_pos (mt (trimOk_iff trim value).1 h)), fun h => ?_⟩
    have hok := (trimOk_iff trim value).2 h
    have htaken := not_not_intro hok
    exact ⟨runCmd_makerHeld hr (if_neg htaken), fun hs => trimRun_ends hr hok ((if_neg htaken).trans (makerEff_standby hs _ _ _))⟩
  case refine_4 =>
    have hmaker := pwrDomainSetEff_fieldReset rfl c role (s.fetch c)
    exact ⟨runCmd_makerHeld hr hmaker, fun hs => fieldResetRun_ends hr (hmaker.trans (makerEff_standby hs _ _ _))⟩
  case refine_5 =>
    intro o
    split
    · next h => exact runCmd_refused hr (if_pos h)
    next hknown =>
    split
    · next h => exact domainOff_ends hr ((if_neg hknown).trans (if_pos h))
    next hoff =>
    split
    · next h => exact domainOn_ends hr (by omega) ((if_neg hknown).trans ((if_neg hoff).trans (if_pos h)))
    next hon =>
    obtain rfl : action = 2 := by omega
    exact runCmd_makerHeld hr (pwrDomainSetEff_fieldReset (by omega) c role (s.fetch c))

end Sys2Proof.Machine
end

section
/-! PROOFS. The synthesis groups' side of a state (R161 to R183): where a group's registers lie, and what the outputs that follow a group, the
commands that end with it and the pairs of the Relay Link leave of it. -/

namespace Sys2Proof.Machine

section

variable {s t u : State} {g : Nat}

/-! ## The registers of a group -/

/-- Where the keys of a group's registers begin. -/
def synKey (g : Nat) : Nat := 0x2602000 + 0x2000 * g

@[simp] theorem key_SYN_STATE_STATE (g : Nat) : (Reg.SYN_STATE_STATE g).key = synKey g + 768 := by simp only [Fld.key, Reg.SYN_STATE_STATE, synKey]; omega
@[simp] theorem key_SYN_STATE_TH_ENGAGED (g : Nat) : (Reg.SYN_STATE_TH_ENGAGED g).key = synKey g + 771 := by simp only [Fld.key, Reg.SYN_STATE_TH_ENGAGED, synKey]; omega
@[simp] theorem key_SYN_STATE_RAMPING (g : Nat) : (Reg.SYN_STATE_RAMPING g).key = synKey g + 772 := by simp only [Fld.key, Reg.SYN_STATE_RAMPING, synKey]; omega
@[simp] theorem key_SYN_STATE_CAUSE (g : Nat) : (Reg.SYN_STATE_CAUSE g).key = synKey g + 774 := by simp only [Fld.key, Reg.SYN_STATE_CAUSE, synKey]; omega
@[simp] theorem key_SYN_STATE_CFG_PENDING (g : Nat) : (Reg.SYN_STATE_CFG_PENDING g).key = synKey g + 776 := by simp only [Fld.key, Reg.SYN_STATE_CFG_PENDING, synKey]; omega
@[simp] theorem key_SYN_STATE_RAMP_LEFT (g : Nat) : (Reg.SYN_STATE_RAMP_LEFT g).key = synKey g + 784 := by simp only [Fld.key, Reg.SYN_STATE_RAMP_LEFT, synKey]; omega
@[simp] theorem key_SYN_STICKY_STICKY (g : Nat) : (Reg.SYN_STICKY_STICKY g).key = synKey g + 896 := by simp only [Fld.key, Reg.SYN_STICKY_STICKY, synKey]; omega
@[simp] theorem key_SYN_BAND_BAND (g : Nat) : (Reg.SYN_BAND_BAND g).key = synKey g + 1152 := by simp only [Fld.key, Reg.SYN_BAND_BAND, synKey]; omega
@[simp] theorem key_SYN_BAND_LO (g : Nat) : (Reg.SYN_BAND_LO g).key = synKey g + 1158 := by simp only [Fld.key, Reg.SYN_BAND_LO, synKey]; omega
@[simp] theorem key_SYN_BAND_HI (g : Nat) : (Reg.SYN_BAND_HI g).key = synKey g + 1171 := by simp only [Fld.key, Reg.SYN_BAND_HI, synKey]; omega
@[simp] theorem key_SYN_LOCK_K (g : Nat) : (Reg.SYN_LOCK_K g).key = synKey g + 520 := by simp only [Fld.key, Reg.SYN_LOCK_K, synKey]; omega
@[simp] theorem key_SYN_LOCK_LOCK_TOL (g : Nat) : (Reg.SYN_LOCK_LOCK_TOL g).key = synKey g + 528 := by simp only [Fld.key, Reg.SYN_LOCK_LOCK_TOL, synKey]; omega
@[simp] theorem key_SYN_LOCK_UNLOCK_TOL (g : Nat) : (Reg.SYN_LOCK_UNLOCK_TOL g).key = synKey g + 532 := by simp only [Fld.key, Reg.SYN_LOCK_UNLOCK_TOL, synKey]; omega
@[simp] theorem key_SYN_HOLD_RELOCK_DELAY (g : Nat) : (Reg.SYN_HOLD_RELOCK_DELAY g).key = synKey g + 640 := by simp only [Fld.key, Reg.SYN_HOLD_RELOCK_DELAY, synKey]; omega
@[simp] theorem key_SYN_HOLD_HOLD_DEV (g : Nat) : (Reg.SYN_HOLD_HOLD_DEV g).key = synKey g + 656 := by simp only [Fld.key, Reg.SYN_HOLD_HOLD_DEV, synKey]; omega
@[simp] theorem key_SYN_VCO_KHZ_FREQ (g : Nat) : (Reg.SYN_VCO_KHZ_FREQ g).key = synKey g + 1792 := by simp only [Fld.key, Reg.SYN_VCO_KHZ_FREQ, synKey]; omega
@[simp] theorem key_SYN_LOSSES_COUNT (g : Nat) : (Reg.SYN_LOSSES_COUNT g).key = synKey g + 1920 := by simp only [Fld.key, Reg.SYN_LOSSES_COUNT, synKey]; omega
@[simp] theorem key_SYN_RELOCK_FAILS_COUNT (g : Nat) : (Reg.SYN_RELOCK_FAILS_COUNT g).key = synKey g + 2048 := by simp only [Fld.key, Reg.SYN_RELOCK_FAILS_COUNT, synKey]; omega
@[simp] theorem key_SYN_LAST_LOSS_LO_AT_LO (g : Nat) : (Reg.SYN_LAST_LOSS_LO_AT_LO g).key = synKey g + 2304 := by simp only [Fld.key, Reg.SYN_LAST_LOSS_LO_AT_LO, synKey]; omega
@[simp] theorem key_SYN_LAST_LOSS_HI_AT_HI (g : Nat) : (Reg.SYN_LAST_LOSS_HI_AT_HI g).key = synKey g + 2432 := by simp only [Fld.key, Reg.SYN_LAST_LOSS_HI_AT_HI, synKey]; omega

/-- A register of a group's block that no event sets: each but its sticky bits. -/
def Fld.ofGroup (f : Fld) (g : Nat) : Prop := synKey g ≤ f.key ∧ f.key < synKey g + 0x2000 ∧ f.key ≠ (Reg.SYN_STICKY_STICKY g).key

/-! ## What leaves a group alone -/

/-- A state that has a group of another as it was: the time, the units, the group's record, its deadlines, and its registers. -/
structure GroupKept (g : Nat) (s t : State) : Prop where
  tc      : t.tc = s.tc
  units   : t.units = s.units
  grp     : t.grp g = s.grp g
  relock  : t.timer (.relock g) = s.timer (.relock g)
  acquire : t.timer (.acquire g) = s.timer (.acquire g)
  regs    : ∀ f : Fld, f.ofGroup g → t.get f = s.get f

theorem GroupKept.refl (s : State) : GroupKept g s s := ⟨rfl, rfl, rfl, rfl, rfl, fun _ _ => rfl⟩

theorem GroupKept.trans (h : GroupKept g s t) (k : GroupKept g t u) : GroupKept g s u :=
  ⟨k.tc.trans h.tc, k.units.trans h.units, k.grp.trans h.grp, k.relock.trans h.relock, k.acquire.trans h.acquire,
    fun f hf => (k.regs f hf).trans (h.regs f hf)⟩

theorem GroupKept.ite {p : Prop} [Decidable p] (h : GroupKept g s t) (k : GroupKept g s u) : GroupKept g s (if p then t else u) := by
  split
  · exact h
  · exact k

theorem GroupKept.foldl {α : Type} {f : State → α → State} (h : ∀ s x, GroupKept g s (f s x)) (s : State) (l : List α) :
    GroupKept g s (l.foldl f s) := by
  induction l generalizing s with
  | nil => exact .refl s
  | cons x l ih => exact (h s x).trans (ih _)

theorem GroupKept.of_same (h : (t.tc, t.units, t.syn, t.timers, t.regs) = (s.tc, s.units, s.syn, s.timers, s.regs)) : GroupKept g s t := by
  simp only [Prod.mk.injEq] at h
  obtain ⟨htc, hunits, hsyn, htimers, hregs⟩ := h
  exact ⟨htc, hunits, by rw [State.grp, hsyn, State.grp], by rw [State.timer, htimers, State.timer], by rw [State.timer, htimers, State.timer],
    fun f _ => by rw [State.get, hregs, State.get]⟩

theorem GroupKept.of_apart (h : Apart s t) : GroupKept g s t where
  tc := h.tc
  units := h.units
  grp := by rw [State.grp, h.syn, State.grp]
  relock := h.timers _ (fun _ => nofun) nofun
  acquire := h.timers _ (fun _ => nofun) nofun
  regs := fun f hf => h.regs f (tdc_notMem_bookkeeping (k := 0) (le_trans (by simp only [tdcKey, synKey]; omega) hf.1))

theorem GroupKept.of_quiet (h : Quiet s t) : GroupKept g s t := .of_apart h.apart

/-! What is done to both states alike. -/

theorem GroupKept.put (h : GroupKept g s t) (f : Fld) (v : Nat) : GroupKept g (s.put f v) (t.put f v) where
  tc := h.tc
  units := h.units
  grp := h.grp
  relock := h.relock
  acquire := h.acquire
  regs := fun z hz => by
    by_cases hkey : z.key = f.key
    · simp only [State.get, State.put_regs, hkey, aget_aput_same]
    · rw [State.get_put_ne _ _ hkey, State.get_put_ne _ _ hkey, h.regs z hz]

theorem GroupKept.setGrp (h : GroupKept g s t) (r : SynRec) : GroupKept g (s.setGrp g r) (t.setGrp g r) where
  tc := h.tc
  units := h.units
  grp := by rw [State.grp_setGrp_same, State.grp_setGrp_same]
  relock := h.relock
  acquire := h.acquire
  regs := h.regs

theorem GroupKept.armRelock (h : GroupKept g s t) (ns : Nat) : GroupKept g (s.arm (.relock g) ns) (t.arm (.relock g) ns) where
  tc := h.tc
  units := h.units
  grp := h.grp
  relock := by rw [State.timer_arm_same, State.timer_arm_same, State.runNs, h.tc, State.runNs]
  acquire := by rw [State.arm, State.timer_setTimer_ne _ _ (by simp), h.acquire, State.arm, State.timer_setTimer_ne _ _ (by simp)]
  regs := h.regs

/-! What is read of both states alike. -/

theorem synSt_eq (h : (s.unit (0x1000 + g)).st ≠ .absent) : s.synSt g = s.get (Reg.SYN_STATE_STATE g) := if_neg h

/-- A group in a state of R175 other than ABSENT is present, and its register shows the state. -/
theorem present_of_synSt {st : Nat} (h : s.synSt g = st) (hst : st ≠ 7) :
    (s.unit (0x1000 + g)).st ≠ .absent ∧ s.get (Reg.SYN_STATE_STATE g) = st := by
  have hpresent : (s.unit (0x1000 + g)).st ≠ .absent := fun habsent => hst (h.symm.trans (if_pos habsent))
  exact ⟨hpresent, (synSt_eq hpresent).symm.trans h⟩

theorem synSt_put (hpresent : (s.unit (0x1000 + g)).st ≠ .absent) {st : Nat} (hst : st < 8) : (s.put (Reg.SYN_STATE_STATE g) st).synSt g = st :=
  (synSt_eq (s := s.put _ st) hpresent).trans ((State.get_put_same _ _ _).trans (Nat.mod_eq_of_lt hst))

theorem GroupKept.unit (h : GroupKept g s t) (n : Nat) : t.unit n = s.unit n := by rw [State.unit, h.units, State.unit]

theorem GroupKept.synSt (h : GroupKept g s t) : t.synSt g = s.synSt g := by
  rw [State.synSt, h.unit, h.regs _ (by simp [Fld.ofGroup]), State.synSt]

theorem GroupKept.lockCfg (h : GroupKept g s t) : t.lockCfg g = s.lockCfg g := by
  have hregs : t.lockRegs g = s.lockRegs g := by
    simp only [State.lockRegs]
    rw [h.regs (Reg.SYN_LOCK_LOCK_TOL g) (by simp [Fld.ofGroup]), h.regs (Reg.SYN_LOCK_UNLOCK_TOL g) (by simp [Fld.ofGroup]),
      h.regs (Reg.SYN_LOCK_K g) (by simp [Fld.ofGroup]), h.regs (Reg.SYN_HOLD_RELOCK_DELAY g) (by simp [Fld.ofGroup]),
      h.regs (Reg.SYN_HOLD_HOLD_DEV g) (by simp [Fld.ofGroup])]
  rw [State.lockCfg, State.lockCfg, h.grp, hregs]

/-! ## Events, commands that end, and what lies beyond the groups -/

/-- The registers beyond the groups' blocks: those of the outputs and of the Field die. -/
theorem groupKept_put (hg : g < 4) (s : State) {f : Fld} (v : Nat) (hf : 0x140000 ≤ f.addr) : GroupKept g s (s.put f v) where
  tc := rfl
  units := rfl
  grp := rfl
  relock := rfl
  acquire := rfl
  regs := fun z hz => State.get_put_ne _ _ fun hkey => by
    obtain ⟨-, hlt, -⟩ := hz
    rw [hkey, Fld.key, synKey] at hlt
    omega

/-- What an event changes, logged and counted, is its sticky bit. -/
theorem groupKept_raise (s : State) {e : Ev} (items : List Item) (role : Nat)
    (h : ∀ p, e.sticky = some p → p.1.key = (Reg.SYN_STICKY_STICKY g).key) : GroupKept g s (s.raise e items role) where
  tc := raise_tc _ _ _ _
  units := raise_units _ _ _ _
  grp := raise_grp _ _ _ _ _
  relock := by simp only [State.timer, raise_timers]
  acquire := by simp only [State.timer, raise_timers]
  regs := fun f hf => by
    have hbook : f.key ∉ bookkeeping := tdc_notMem_bookkeeping (k := 0) (le_trans (by simp only [tdcKey, synKey]; omega) hf.1)
    exact get_raise s hbook fun p hp => by rw [h p hp]; exact hf.2.2

theorem groupKept_raiseSyn (s : State) (n : Nat) (sev : Sev) (items : List Item) : GroupKept g s (s.raise (evSyn g n sev) items) :=
  groupKept_raise s _ _ fun p hp => by
    obtain rfl : (Reg.SYN_STICKY_STICKY g, n) = p := Option.some.inj hp
    rfl

theorem groupKept_stopHold (s : State) : GroupKept g s (s.stopTimer .synHold) :=
  ⟨rfl, rfl, rfl, State.timer_stopTimer_ne _ (by simp), State.timer_stopTimer_ne _ (by simp), fun _ _ => rfl⟩

theorem groupKept_synEnd (s : State) (o : OpInfo) (n st d : Nat) (b : Bool) : GroupKept g s (s.synEnd o n st d b) := by
  unfold State.synEnd
  split
  · exact .ite (.of_apart (finishCarried_apart _ _ _ _ _ _ _)) (.of_apart (complete_apart _ _ _ _ _))
  · exact .refl s

/-! ## The outputs (R187 to R191, R197) -/

theorem groupKept_squelch (s : State) (i : Nat) : GroupKept g s (s.squelch i) := .ite (.of_same rfl) (.refl s)

section

variable (hg : g < 4) (s : State)

include hg

theorem groupKept_checkPulses (n : Nat) : GroupKept g s (s.checkPulses n) := by
  have hone : ∀ (s : State) (n : Nat), GroupKept g s (s.checkPulse n) := by
    intro s n
    unfold State.checkPulse
    extract_lets i e r u
    have hset : GroupKept g s (s.setOut i { r with warned := true }) := .of_same rfl
    have hu : GroupKept g s u := hset.trans (groupKept_put hg _ (f := Reg.OUT_STICKY_MISALIGNED) _ (by decide))
    exact .ite (hu.trans (groupKept_raise _ _ _ nofun)) (.refl s)
  exact .foldl (fun s n => .ite (hone s n) (.refl s)) s _

theorem groupKept_outTo (i st : Nat) : GroupKept g s (s.outTo i st) := by
  have hput : GroupKept g s (s.put (outStF i) st) := by
    unfold outStF
    split
    · exact groupKept_put hg _ _ (Nat.le_add_right_of_le (by decide))
    · exact groupKept_put hg _ _ (Nat.le_add_right_of_le (by decide))
  unfold State.outTo
  exact .ite (.refl s) (hput.trans (groupKept_raise _ _ _ nofun))

theorem groupKept_alignDone (i : Nat) (e0 : Int) (jump : Bool) : GroupKept g s (s.alignDone i e0 jump) := by
  unfold State.alignDone
  extract_lets r s1 s2
  have h1 : GroupKept g s s1 := .of_same rfl
  have h2 : GroupKept g s1 s2 := .ite (.refl _) ((groupKept_put hg _ _ (Nat.le_add_right_of_le (by decide))).trans (groupKept_put hg _ _ (Nat.le_add_right_of_le (by decide))))
  exact h1.trans (h2.trans (groupKept_raise _ _ _ nofun))

theorem groupKept_startOut (i : Nat) : GroupKept g s (s.startOut i) := by
  unfold State.startOut
  refine .ite ((groupKept_put hg s _ (Nat.le_add_right_of_le (by decide))).trans (.of_same rfl)) ?_
  extract_lets s1 r from2ms s2 s3
  have h2 : GroupKept g s s2 := (groupKept_put hg s _ (Nat.le_add_right_of_le (by decide))).trans (.of_same rfl)
  have h3 : GroupKept g s2 s3 := (groupKept_put hg _ _ (Nat.le_add_right_of_le (by decide))).trans (groupKept_put hg _ _ (Nat.le_add_right_of_le (by decide)))
  exact (h2.trans h3).trans (.ite (.refl _) (.of_same rfl))

theorem groupKept_followGrp (i : Nat) : GroupKept g s (s.followGrp i) := by
  have hresume : GroupKept g s (s.resumeJump i) := by
    unfold State.resumeJump
    split
    · exact .ite (.refl s) (.ite (.refl s) (.of_same rfl))
    · exact .refl s
  unfold State.followGrp
  extract_lets st o al s1
  have h1 : GroupKept g s s1 := (groupKept_startOut hg _ _).trans (groupKept_outTo hg _ _ _)
  clear_value s1 al
  refine .ite (.ite ?_ (.ite (hresume.trans (groupKept_outTo hg _ _ _)) (.refl s)))
    (.ite (.ite (groupKept_outTo hg _ _ _) (.refl s)) (.ite ((groupKept_squelch _ _).trans (groupKept_outTo hg _ _ _)) (.refl s)))
  split
  · exact h1.trans (groupKept_alignDone hg _ _ _ _)
  · exact h1

theorem groupKept_followAll (n : Nat) : GroupKept g s (s.followAll n) :=
  .foldl (fun s i => .ite (groupKept_followGrp hg s i) (.refl s)) s _

/-! ## The pairs of the Relay Link (R333) -/

theorem groupKept_startPair (n : Nat) : GroupKept g s (s.startPair n) := by
  have hpair : GroupKept g s (s.setPair n 1) := by
    unfold State.setPair
    extract_lets old s1 s2
    have h2 : GroupKept g s s2 := (groupKept_put hg s _ (Nat.le_add_right_of_le (by decide))).trans (groupKept_put hg _ _ (by decide))
    exact .ite h2 (h2.trans (groupKept_raise _ _ _ nofun))
  unfold State.startPair State.trainPair
  refine .ite (hpair.trans ⟨rfl, rfl, rfl, ?_, ?_, fun _ _ => rfl⟩) (.refl s)
  · exact State.timer_setTimer_ne _ _ nofun
  · exact State.timer_setTimer_ne _ _ nofun

/-! ## A group's state changed (R175) -/

/-- A group's state shown, whatever follows of it. -/
theorem groupKept_synFrom (n old st : Nat) : GroupKept g (s.put (Reg.SYN_STATE_STATE n) st) (s.synFrom n old st) := by
  unfold State.synFrom
  exact .ite (.refl _) ((groupKept_raise _ (e := evSynState n) _ _ nofun).trans (groupKept_followAll hg _ _))

theorem groupKept_synTo {st : Nat} (h : s.get (Reg.SYN_STATE_STATE g) ≠ st) :
    GroupKept g (s.put (Reg.SYN_STATE_STATE g) st) (s.synTo g st) := by
  unfold State.synTo
  extract_lets old
  rw [if_neg h]
  exact groupKept_synFrom hg _ _ _ _

end

end

end Sys2Proof.Machine
end

section
/-! PROOFS. How a synthesis group loses lock and comes back (R173 to R177, R182): the loss, the failed attempt, the attempt begun, and the release. -/

namespace Sys2Proof.Machine

section

variable {s : State} {g : Nat}

/-! ## A ramp broken off (R181) -/

theorem rampBreak_none (h : (s.grp g).ramp = none) (st : Nat) : s.rampBreak g st = s := by
  rw [State.rampBreak, h]

/-- A ramp's end moves the group's record and shows that no ramp runs, and leaves the rest of the group alone. -/
theorem rampBreak_cases (hg : g < 4) (s : State) (st : Nat) : s.rampBreak g st = s ∨
    ∃ r, GroupKept g (((s.setGrp g r).put (Reg.SYN_STATE_RAMPING g) 0).put (Reg.SYN_STATE_RAMP_LEFT g) 0) (s.rampBreak g st) := by
  cases hramp : (s.grp g).ramp with
  | none => exact .inl (rampBreak_none hramp st)
  | some p =>
    refine .inr ⟨{ s.grp g with g := clampG ((s.tc.time : Int) - roundDiv (s.grp g).phi (max 1 (s.grp g).num)), ramp := none }, ?_⟩
    have hend : s.rampEnd g = _ := if_neg (by simp [hramp])
    simp only [State.rampBreak, hramp, hend]
    exact (groupKept_checkPulses hg _ _).trans (groupKept_synEnd _ _ _ _ _ _)

theorem rampBreak_keeps (hg : g < 4) (s : State) (st : Nat) : let t := s.rampBreak g st
    t.units = s.units ∧ t.get (Reg.SYN_STATE_STATE g) = s.get (Reg.SYN_STATE_STATE g) ∧ t.timer (.acquire g) = s.timer (.acquire g) := by
  intro t
  obtain h | ⟨r, h⟩ := rampBreak_cases hg s st
  · rw [show t = s from h]
    exact ⟨rfl, rfl, rfl⟩
  · refine ⟨h.units, (h.regs _ (by simp [Fld.ofGroup])).trans ?_, h.acquire⟩
    rw [State.get_put_ne _ _ (by simp), State.get_put_ne _ _ (by simp), State.get_setGrp]

/-! ## The loss of lock (R175, R176) -/

/-- A loss of lock as it is shown and counted, before its event. -/
def State.lossShown (s : State) (g cause : Nat) : State :=
  let u := s.setGrp g { s.grp g with lossAt := s.runNs, attempts := 0, windows := 0, released := false, back := 0, devOver := false }
  (((u.put (Reg.SYN_STATE_TH_ENGAGED g) 1).put (Reg.SYN_STATE_CAUSE g) cause).put64 (Reg.SYN_LAST_LOSS_LO_AT_LO g)
    (Reg.SYN_LAST_LOSS_HI_AT_HI g) s.linear).bump (Reg.SYN_LOSSES_COUNT g)

/-- The group's side of a loss of lock. -/
def State.lost (s : State) (g cause : Nat) : State :=
  ((s.lossShown g cause).arm (.relock g) (1000000 * (s.lockCfg g).delay)).put (Reg.SYN_STATE_STATE g) 4

/-- A register of the group that a loss does not write. -/
theorem lossShown_get (s : State) (cause : Nat) {f : Fld} (hth : f.key ≠ (Reg.SYN_STATE_TH_ENGAGED g).key)
    (hcause : f.key ≠ (Reg.SYN_STATE_CAUSE g).key) (hlo : f.key ≠ (Reg.SYN_LAST_LOSS_LO_AT_LO g).key)
    (hhi : f.key ≠ (Reg.SYN_LAST_LOSS_HI_AT_HI g).key) (hcount : f.key ≠ (Reg.SYN_LOSSES_COUNT g).key) :
    (s.lossShown g cause).get f = s.get f := by
  rw [State.lossShown, State.bump, State.get_put_ne _ _ hcount, get_put64_ne _ _ hlo hhi, State.get_put_ne _ _ hcause, State.get_put_ne _ _ hth,
    State.get_setGrp]

theorem lossShown_lockCfg (s : State) (cause : Nat) : (s.lossShown g cause).lockCfg g = s.lockCfg g := by
  have hwin : ((s.lossShown g cause).grp g).win = (s.grp g).win := by
    show (((s.setGrp g _).grp g).win) = _
    rw [State.grp_setGrp_same]
  have hregs : (s.lossShown g cause).lockRegs g = s.lockRegs g := by
    simp [State.lockRegs, lossShown_get]
  rw [State.lockCfg, State.lockCfg, hwin, hregs]

theorem groupKept_loseLock (hg : g < 4) (h : s.get (Reg.SYN_STATE_STATE g) = 3) (cause : Nat) :
    GroupKept g ((s.rampBreak g Status.interrupted).lost g cause) (s.loseLock g cause) := by
  obtain ⟨-, hst, -⟩ := rampBreak_keeps hg s Status.interrupted
  rw [h] at hst
  unfold State.loseLock
  generalize s.rampBreak g Status.interrupted = w at hst
  extract_lets w r s3 s4 s5 s6 s7 s8
  have h5 : s5 = w.lossShown g cause := rfl
  have h6 : GroupKept g s5 s6 := groupKept_raiseSyn _ _ _ _
  have hcfg : s6.lockCfg g = w.lockCfg g := h6.lockCfg.trans (lossShown_lockCfg w cause)
  have h7 : GroupKept g (s5.arm (.relock g) (1000000 * (w.lockCfg g).delay)) s7 := by
    rw [← hcfg]
    exact h6.armRelock _
  have h8 : GroupKept g s7 s8 := .ite (.of_same rfl) (.ite (groupKept_stopHold _) (.refl _))
  have hshown : s8.get (Reg.SYN_STATE_STATE g) = 3 := by
    rw [(h7.trans h8).regs _ (by simp [Fld.ofGroup]), h5]
    exact (lossShown_get w cause (by simp) (by simp) (by simp) (by simp) (by simp)).trans hst
  exact ((h7.trans h8).put _ 4).trans (groupKept_synTo hg _ (by rw [hshown]; decide))

/-- What a loss of lock shows (R175). -/
theorem lost_shows (s : State) {cause : Nat} (hcause : cause < 4) : let t := s.lost g cause
    t.get (Reg.SYN_STATE_STATE g) = 4 ∧ t.get (Reg.SYN_STATE_CAUSE g) = cause ∧ t.get (Reg.SYN_STATE_TH_ENGAGED g) = 1 ∧
      t.get (Reg.SYN_LOSSES_COUNT g) = (s.get (Reg.SYN_LOSSES_COUNT g) + 1) % 2 ^ 32 ∧
      t.get64 (Reg.SYN_LAST_LOSS_LO_AT_LO g) (Reg.SYN_LAST_LOSS_HI_AT_HI g) = s.linear ∧
      t.get (Reg.SYN_VCO_KHZ_FREQ g) = s.get (Reg.SYN_VCO_KHZ_FREQ g) ∧
      t.timer (.relock g) = some (s.runNs + 1000000 * (s.lockCfg g).delay) ∧ t.timer (.acquire g) = s.timer (.acquire g) := by
  intro t
  have hlinear : s.linear < 2 ^ 64 := Nat.mod_lt _ (by decide)
  have hget : ∀ f : Fld, f.key ≠ (Reg.SYN_STATE_STATE g).key → t.get f = (s.lossShown g cause).get f := fun f hf => State.get_put_ne _ _ hf
  refine ⟨State.get_put_same _ _ _, ?_, ?_, ?_, ?_, ?_, State.timer_arm_same _ _ _, State.timer_setTimer_ne _ _ (by simp)⟩
  · rw [hget _ (by simp), State.lossShown, State.bump, State.get_put_ne _ _ (by simp), get_put64_ne _ _ (by simp) (by simp), State.get_put_same]
    exact Nat.mod_eq_of_lt hcause
  · rw [hget _ (by simp), State.lossShown, State.bump, State.get_put_ne _ _ (by simp), get_put64_ne _ _ (by simp) (by simp),
      State.get_put_ne _ _ (by simp), State.get_put_same]
    rfl
  · rw [hget _ (by simp), State.lossShown, State.bump, State.get_put_same, get_put64_ne _ _ (by simp) (by simp),
      State.get_put_ne _ _ (by simp), State.get_put_ne _ _ (by simp)]
    rfl
  · rw [State.get64, hget _ (by simp), hget _ (by simp), State.lossShown, State.bump, State.get_put_ne _ _ (by simp),
      State.get_put_ne _ _ (by simp)]
    exact put64_regs_get64 _ (by simp) rfl rfl hlinear
  · exact (hget _ (by simp)).trans (lossShown_get s cause (by simp) (by simp) (by simp) (by simp) (by simp))

theorem loseLock_shows (hg : g < 4) (h : s.synSt g = 3) (hramp : (s.grp g).ramp = none) {cause : Nat} (hcause : cause < 4) :
    let t := s.loseLock g cause
    t.synSt g = 4 ∧ t.get (Reg.SYN_STATE_CAUSE g) = cause ∧ t.get (Reg.SYN_STATE_TH_ENGAGED g) = 1 ∧
      t.get (Reg.SYN_LOSSES_COUNT g) = (s.get (Reg.SYN_LOSSES_COUNT g) + 1) % 2 ^ 32 ∧
      t.get64 (Reg.SYN_LAST_LOSS_LO_AT_LO g) (Reg.SYN_LAST_LOSS_HI_AT_HI g) = s.linear ∧
      t.get (Reg.SYN_VCO_KHZ_FREQ g) = s.get (Reg.SYN_VCO_KHZ_FREQ g) ∧
      t.timer (.relock g) = some (s.runNs + 1000000 * (s.lockCfg g).delay) ∧ t.tc = s.tc := by
  intro t
  obtain ⟨hpresent, hst⟩ := present_of_synSt h (by decide)
  have hkept : GroupKept g (s.lost g cause) t := by
    have hkept := groupKept_loseLock hg hst cause
    rwa [rampBreak_none hramp] at hkept
  obtain ⟨hstate, hc, hth, hcount, hat, hvco, hdelay, -⟩ := lost_shows s hcause (g := g)
  refine ⟨hkept.synSt.trans ((synSt_eq (s := s.lost g cause) hpresent).trans hstate), (hkept.regs _ ?_).trans hc, (hkept.regs _ ?_).trans hth,
    (hkept.regs _ ?_).trans hcount, ?_, (hkept.regs _ ?_).trans hvco, hkept.relock.trans hdelay, hkept.tc⟩
  case refine_4 =>
    rw [State.get64, hkept.regs _ (by simp [Fld.ofGroup]), hkept.regs _ (by simp [Fld.ofGroup])]
    exact hat
  all_goals simp [Fld.ofGroup]

/-! ## A failed attempt, a new one, and the release (R175, R177) -/

/-- A failed attempt as it is counted, before its event. -/
def State.failShown (s : State) (g : Nat) : State :=
  ((s.setGrp g { s.grp g with attempts := (s.grp g).attempts + 1, windows := 0, released := false, back := 0 }).put
    (Reg.SYN_STATE_TH_ENGAGED g) 1).bump (Reg.SYN_RELOCK_FAILS_COUNT g)

/-- The group's side of a failed attempt. -/
def State.failed (s : State) (g : Nat) : State := ((s.failShown g).arm (.relock g) 1000000000).put (Reg.SYN_STATE_STATE g) 4

theorem groupKept_relockFail (hg : g < 4) (h : s.get (Reg.SYN_STATE_STATE g) = 5) : GroupKept g (s.failed g) (s.relockFail g) := by
  unfold State.relockFail
  extract_lets r s1 s2 s3
  have h3 : GroupKept g (s.failShown g) s3 := groupKept_raiseSyn _ _ _ _
  have hshown : s3.get (Reg.SYN_STATE_STATE g) = 5 := by
    rw [h3.regs _ (by simp [Fld.ofGroup]), State.failShown, State.bump, State.get_put_ne _ _ (by simp), State.get_put_ne _ _ (by simp)]
    exact h
  exact ((h3.armRelock _).put _ 4).trans (groupKept_synTo hg _ (by
    show s3.get _ ≠ 4
    rw [hshown]
    decide))

theorem relockFail_shows (hg : g < 4) (h : s.synSt g = 5) : let t := s.relockFail g
    t.synSt g = 4 ∧ t.get (Reg.SYN_RELOCK_FAILS_COUNT g) = (s.get (Reg.SYN_RELOCK_FAILS_COUNT g) + 1) % 2 ^ 32 ∧
      (t.grp g).attempts = (s.grp g).attempts + 1 ∧ t.timer (.relock g) = some (s.runNs + 1000000000) ∧ t.tc = s.tc := by
  intro t
  obtain ⟨hpresent, hst⟩ := present_of_synSt h (by decide)
  have hkept : GroupKept g (s.failed g) t := groupKept_relockFail hg hst
  refine ⟨hkept.synSt.trans (synSt_put (s := (s.failShown g).arm _ _) hpresent (by decide)),
    (hkept.regs _ (by simp [Fld.ofGroup])).trans ?_, ?_, hkept.relock.trans (State.timer_arm_same _ _ _), hkept.tc⟩
  · rw [State.failed, State.get_put_ne _ _ (by simp), State.arm, State.get_setTimer, State.failShown, State.bump, State.get_put_same,
      State.get_put_ne _ _ (by simp)]
    rfl
  · rw [hkept.grp]
    exact congrArg SynRec.attempts (State.grp_setGrp_same s g _)

theorem relock_begins (hg : g < 4) (h : s.synSt g = 4) (hfenced : s.unitFenced (0x1000 + g) = false) (hdue : s.due (.relock g) = true) :
    let t := s.relock g
    t.synSt g = 5 ∧ (t.grp g).released = false ∧ t.timer (.relock g) = none ∧ t.tc = s.tc := by
  intro t
  obtain ⟨hpresent, hst⟩ := present_of_synSt h (by decide)
  let u := (s.setGrp g { s.grp g with windows := 0, released := false, back := 0 }).stopTimer (.relock g)
  have ht : t = u.synTo g 5 := if_pos ⟨h, by simp [hfenced], hdue⟩
  have hkept : GroupKept g (u.put (Reg.SYN_STATE_STATE g) 5) t := by
    rw [ht]
    exact groupKept_synTo hg u (by
      show s.get _ ≠ 5
      rw [hst]
      decide)
  refine ⟨hkept.synSt.trans (synSt_put (s := u) hpresent (by decide)), ?_,
    hkept.relock.trans (State.timer_stopTimer_same _ _), hkept.tc⟩
  rw [hkept.grp]
  exact congrArg SynRec.released (State.grp_setGrp_same s g _)

theorem relockRelease_releases (hg : g < 4) (h : s.synSt g = 5) (hheld : (s.grp g).released = false) (off rate : Int) :
    ∃ t, exec (.relockRelease g off rate) s = .next t ∧
      t.get (Reg.SYN_STATE_TH_ENGAGED g) = 0 ∧ (t.grp g).g = clampG off ∧ (t.grp g).phi = ((s.tc.time : Int) - clampG off) * (s.grp g).num ∧
      (t.grp g).rD = rate ∧ (t.grp g).released = true ∧ (t.grp g).back = 1 ∧ t.synSt g = 5 ∧ t.tc = s.tc := by
  obtain ⟨hpresent, hst⟩ := present_of_synSt h (by decide)
  let r : SynRec := { s.grp g with
    g := clampG off, phi := ((s.tc.time : Int) - clampG off) * (s.grp g).num, rD := rate, rTick := rate, released := true, back := 1, windows := 0 }
  let u := (s.setGrp g r).put (Reg.SYN_STATE_TH_ENGAGED g) 0
  have hkept : GroupKept g u (u.checkPulses g) := groupKept_checkPulses hg u g
  have hgrp : (u.checkPulses g).grp g = r := hkept.grp.trans (State.grp_setGrp_same s g r)
  refine ⟨u.checkPulses g, congrArg Host.Outcome.next (if_neg (by simp [h, hheld]; omega)), ?_⟩
  rw [hgrp]
  refine ⟨(hkept.regs _ (by simp [Fld.ofGroup])).trans (State.get_put_same _ _ _), rfl, rfl, rfl, rfl, rfl, hkept.synSt.trans ?_, hkept.tc⟩
  exact (synSt_eq (s := u) hpresent).trans ((State.get_put_ne _ _ (by simp)).trans hst)

/-! ## A slip, and the end of a window (R173, R174, R182) -/

theorem exec_cycleSlip_locked (hg : g < 4) (h : s.synSt g = 3) : exec (.cycleSlip g) s = .next (s.loseLock g 1) :=
  congrArg Host.Outcome.next ((if_neg (by omega)).trans (if_pos h))

theorem exec_cycleSlip_released (hg : g < 4) (h : s.synSt g = 5) (hreleased : (s.grp g).released = true) :
    exec (.cycleSlip g) s = .next (s.relockFail g) :=
  congrArg Host.Outcome.next ((if_neg (by omega)).trans ((if_neg (by omega)).trans (if_pos ⟨h, hreleased⟩)))

/-- The good windows in succession that a window with a difference makes of a group's. -/
def State.goodWindows (s : State) (g diff : Nat) : Nat := if diff ≤ (s.lockCfg g).tol then (s.grp g).windows + 1 else 0

/-- A window measured and counted, before it is judged. -/
def State.windowCounted (s : State) (g diff khz : Nat) : State :=
  (s.put (Reg.SYN_VCO_KHZ_FREQ g) (min khz (2 ^ 23 - 1))).setGrp g { s.grp g with windows := s.goodWindows g diff }

/-- A window over: the next one goes by the registers. -/
def State.windowOver (s : State) (g : Nat) : State := s.setGrp g { s.grp g with win := none }

theorem lockCfg_putVco (s : State) (v : Nat) : (s.put (Reg.SYN_VCO_KHZ_FREQ g) v).lockCfg g = s.lockCfg g := by
  have hregs : (s.put (Reg.SYN_VCO_KHZ_FREQ g) v).lockRegs g = s.lockRegs g := by simp [State.lockRegs, State.get_put_ne]
  rw [State.lockCfg, State.lockCfg, hregs, State.grp_put]

/-- How a window is judged, by the state of the group. -/
theorem exec_lockWindow (hg : g < 4) (diff khz : Nat) (foff : Int) (hlow : 2 ≤ s.synSt g) (hhigh : s.synSt g ≤ 5) :
    exec (.lockWindow g diff khz foff) s = .next (State.windowOver (
      let w := s.windowCounted g diff khz
      if s.synSt g = 2 then (if (s.lockCfg g).k ≤ s.goodWindows g diff then w.synLock g else w)
      else if s.synSt g = 3 then (if (s.lockCfg g).unl < diff then w.loseLock g 2 else w)
      else if s.synSt g = 4 then w.heldFreq g foff
      else if ¬ (s.grp g).released then (w.setGrp g { s.grp g with windows := 0 }).heldFreq g foff
      else if (s.grp g).back ≠ 0 then w.setGrp g { s.grp g with windows := 0 }
      else if (s.lockCfg g).unl < diff then w.relockFail g
      else if (s.lockCfg g).k ≤ s.goodWindows g diff then w.synLock g else w) g) := by
  show execLockWindow g diff khz foff s = _
  unfold execLockWindow
  simp only [if_neg (show ¬ 3 < g by omega), if_neg (show ¬ (s.synSt g < 2 ∨ 5 < s.synSt g) by omega), lockCfg_putVco, State.grp_put,
    decide_eq_true_eq]
  rfl

theorem windowCounted_shows (s : State) (g diff khz : Nat) : let w := s.windowCounted g diff khz
    w.synSt g = s.synSt g ∧ w.get (Reg.SYN_VCO_KHZ_FREQ g) = min khz (2 ^ 23 - 1) ∧
      w.get (Reg.SYN_STATE_CAUSE g) = s.get (Reg.SYN_STATE_CAUSE g) ∧ w.grp g = { s.grp g with windows := s.goodWindows g diff } ∧ w.tc = s.tc := by
  intro w
  have hstate : w.get (Reg.SYN_STATE_STATE g) = s.get (Reg.SYN_STATE_STATE g) := State.get_put_ne _ _ (by simp)
  refine ⟨?_, ?_, State.get_put_ne _ _ (by simp), State.grp_setGrp_same _ _ _, rfl⟩
  · rw [State.synSt, hstate]
    rfl
  · exact (State.get_put_same _ _ _).trans (Nat.mod_eq_of_lt ((Nat.min_le_right _ _).trans_lt (show 2 ^ 23 - 1 < 2 ^ 23 by decide)))

theorem lockWindow_locked (hg : g < 4) (diff khz : Nat) (foff : Int) (h : s.synSt g = 3) (hramp : (s.grp g).ramp = none) :
    ∃ t, exec (.lockWindow g diff khz foff) s = .next t ∧ t.get (Reg.SYN_VCO_KHZ_FREQ g) = min khz (2 ^ 23 - 1) ∧ t.tc = s.tc ∧
      (t.grp g).win = none ∧
      if (s.lockCfg g).unl < diff
      then t.synSt g = 4 ∧ t.get (Reg.SYN_STATE_CAUSE g) = 2 ∧ t.get (Reg.SYN_STATE_TH_ENGAGED g) = 1
      else t.synSt g = 3 ∧ t.get (Reg.SYN_STATE_CAUSE g) = s.get (Reg.SYN_STATE_CAUSE g) := by
  obtain ⟨hstate, hvco, hcause, hgrp, htc⟩ := windowCounted_shows s g diff khz
  refine ⟨_, exec_lockWindow hg diff khz foff (by omega) (by omega), ?_⟩
  rw [if_neg (by omega), if_pos h]
  by_cases hbad : (s.lockCfg g).unl < diff
  · rw [if_pos hbad, if_pos hbad]
    obtain ⟨hheld, hc, hth, -, -, hfreq, -, htime⟩ := loseLock_shows hg (hstate.trans h) (by rw [hgrp]; exact hramp) (cause := 2) (by decide)
    exact ⟨hfreq.trans hvco, htime.trans htc, congrArg SynRec.win (State.grp_setGrp_same _ _ _), hheld, hc, hth⟩
  · rw [if_neg hbad, if_neg hbad]
    exact ⟨hvco, htc, congrArg SynRec.win (State.grp_setGrp_same _ _ _), hstate.trans h, hcause⟩

/-- No window is judged before the ramp back has ended (R177). -/
theorem lockWindow_rampingBack (hg : g < 4) (diff khz : Nat) (foff : Int) (h : s.synSt g = 5) (hreleased : (s.grp g).released = true)
    (hback : (s.grp g).back ≠ 0) : ∃ t, exec (.lockWindow g diff khz foff) s = .next t ∧ t.synSt g = 5 ∧ (t.grp g).windows = 0 ∧
      (t.grp g).released = true ∧ t.tc = s.tc := by
  obtain ⟨hstate, -, -, -, htc⟩ := windowCounted_shows s g diff khz
  refine ⟨_, exec_lockWindow hg diff khz foff (by omega) (by omega), ?_⟩
  dsimp only
  rw [if_neg (by omega), if_neg (by omega), if_neg (by omega), if_neg (by simp [hreleased]), if_pos hback, State.windowOver, State.grp_setGrp_same,
    State.grp_setGrp_same]
  exact ⟨hstate.trans h, rfl, hreleased, htc⟩

end

/-- Settles O17: a loss and a failed attempt each by what it shows, whether a slip or a window's end brings it. -/
theorem synthesisLossOfLock : Obligations.SynthesisLossOfLock := by
  unfold Obligations.SynthesisLossOfLock
  intro s g hg
  refine ⟨fun h hramp => ?_, fun diff khz foff h hramp => lockWindow_locked hg diff khz foff h hramp, fun h hreleased => ?_,
    fun h hfenced hdue => ⟨?_, ?_⟩, fun off rate h hheld => relockRelease_releases hg h hheld off rate,
    fun diff khz foff h hreleased hback => lockWindow_rampingBack hg diff khz foff h hreleased hback⟩
  · obtain ⟨hheld, hcause, hth, hcount, hat, -, hdelay, htc⟩ := loseLock_shows hg h hramp (cause := 1) (by decide)
    exact ⟨_, exec_cycleSlip_locked hg h, hheld, hcause, hth, hcount, hat, hdelay, htc⟩
  · exact ⟨_, exec_cycleSlip_released hg h hreleased, relockFail_shows hg h⟩
  · refine ⟨_, rfl, ?_⟩
    by_cases hfirst : (s.grp g).attempts = 0
    · rw [if_pos hfirst, if_pos ⟨by omega, hfirst⟩]
      exact relock_begins hg h hfenced hdue
    · rw [if_neg hfirst, if_neg fun hand => hfirst hand.2]
  · refine ⟨_, rfl, ?_⟩
    by_cases hagain : (s.grp g).attempts ≠ 0
    · rw [if_pos hagain, if_pos ⟨by omega, hagain⟩]
      exact relock_begins hg h hfenced hdue
    · rw [if_neg hagain, if_neg fun hand => hagain hand.2]

end Sys2Proof.Machine
end

section
/-! PROOFS. How a synthesis group comes into lock (R165, R173 to R175, R178): band calibration, ACQUIRE and its timeout, the lock, the follower's tick,
and the end of SYN_D's hold. -/

namespace Sys2Proof.Machine

section

variable {s : State} {g : Nat}

/-! ## Band calibration and ACQUIRE (R175) -/

/-- A band found, shown, with its 20 ms of ACQUIRE begun. -/
def State.bandFound (s : State) (g band lo hi : Nat) : State :=
  ((((s.put (Reg.SYN_BAND_BAND g) band).put (Reg.SYN_BAND_LO g) lo).put (Reg.SYN_BAND_HI g) hi).setGrp g { s.grp g with windows := 0 }).arm
    (.acquire g) 20000000

theorem bandFound_get (s : State) (band lo hi : Nat) {f : Fld} (hband : f.key ≠ (Reg.SYN_BAND_BAND g).key) (hlo : f.key ≠ (Reg.SYN_BAND_LO g).key)
    (hhi : f.key ≠ (Reg.SYN_BAND_HI g).key) : (s.bandFound g band lo hi).get f = s.get f := by
  rw [State.bandFound, State.arm, State.get_setTimer, State.get_setGrp, State.get_put_ne _ _ hhi, State.get_put_ne _ _ hlo, State.get_put_ne _ _ hband]

theorem bandFound_shows (s : State) {band lo hi : Nat} (hband : band < 2 ^ 6) (hlo : lo < 2 ^ 13) (hhi : hi < 2 ^ 13) :
    (s.bandFound g band lo hi).get (Reg.SYN_BAND_BAND g) = band ∧ (s.bandFound g band lo hi).get (Reg.SYN_BAND_LO g) = lo ∧
      (s.bandFound g band lo hi).get (Reg.SYN_BAND_HI g) = hi := by
  refine ⟨?_, ?_, (State.get_put_same _ _ _).trans (Nat.mod_eq_of_lt hhi)⟩
  · rw [State.bandFound, State.arm, State.get_setTimer, State.get_setGrp, State.get_put_ne _ _ (by simp), State.get_put_ne _ _ (by simp),
      State.get_put_same]
    exact Nat.mod_eq_of_lt hband
  · rw [State.bandFound, State.arm, State.get_setTimer, State.get_setGrp, State.get_put_ne _ _ (by simp), State.get_put_same]
    exact Nat.mod_eq_of_lt hlo

theorem bandCalDone_acquires (hg : g < 4) {band lo hi : Nat} (hband : band < 2 ^ 6) (hlo : lo < 2 ^ 13) (hhi : hi < 2 ^ 13) (h : s.synSt g = 1) :
    ∃ t, exec (.bandCalDone g true band lo hi) s = .next t ∧
      t.synSt g = 2 ∧ t.get (Reg.SYN_BAND_BAND g) = band ∧ t.get (Reg.SYN_BAND_LO g) = lo ∧ t.get (Reg.SYN_BAND_HI g) = hi ∧
      t.timer (.acquire g) = some (s.runNs + 20000000) ∧ (t.grp g).windows = 0 ∧ t.tc = s.tc := by
  obtain ⟨hpresent, hst⟩ := present_of_synSt h (by decide)
  let u := s.bandFound g band lo hi
  have hcal : u.get (Reg.SYN_STATE_STATE g) = 1 := (bandFound_get s _ _ _ (by simp) (by simp) (by simp)).trans hst
  have hkept : GroupKept g (u.put (Reg.SYN_STATE_STATE g) 2) (u.synTo g 2) := groupKept_synTo hg u (by rw [hcal]; decide)
  have hget : ∀ f : Fld, f.ofGroup g → f.key ≠ (Reg.SYN_STATE_STATE g).key → (u.synTo g 2).get f = u.get f :=
    fun f hf hne => (hkept.regs f hf).trans (State.get_put_ne _ _ hne)
  obtain ⟨hb, hl, hh⟩ := bandFound_shows (g := g) s hband hlo hhi
  refine ⟨u.synTo g 2, congrArg Host.Outcome.next ((if_neg (by omega)).trans (if_pos rfl)), hkept.synSt.trans (synSt_put (s := u) hpresent (by decide)),
    (hget _ (by simp [Fld.ofGroup]) (by simp)).trans hb, (hget _ (by simp [Fld.ofGroup]) (by simp)).trans hl,
    (hget _ (by simp [Fld.ofGroup]) (by simp)).trans hh, hkept.acquire.trans (State.timer_arm_same _ _ _), ?_, hkept.tc⟩
  rw [hkept.grp]
  exact congrArg SynRec.windows (State.grp_setGrp_same _ g _)

theorem acquireTimeout_recalibrates (hg : g < 4) (h : s.synSt g = 2) (hdue : s.due (.acquire g) = true) (hfirst : (s.grp g).tries = 0) :
    ∃ t, exec (.acquireTimeout g) s = .next t ∧ t.synSt g = 1 ∧
      (t.grp g).tries = 1 ∧ t.get (Reg.SYN_RELOCK_FAILS_COUNT g) = (s.get (Reg.SYN_RELOCK_FAILS_COUNT g) + 1) % 2 ^ 32 ∧
      t.timer (.acquire g) = none ∧ t.tc = s.tc := by
  obtain ⟨hpresent, hst⟩ := present_of_synSt h (by decide)
  let u := ((s.bump (Reg.SYN_RELOCK_FAILS_COUNT g)).stopTimer (.acquire g)).setGrp g { s.grp g with tries := 1, windows := 0 }
  have hacquire : u.get (Reg.SYN_STATE_STATE g) = 2 := (State.get_put_ne _ _ (by simp)).trans hst
  have hkept : GroupKept g (u.put (Reg.SYN_STATE_STATE g) 1) (u.synTo g 1) := groupKept_synTo hg u (by rw [hacquire]; decide)
  have hrow : exec (.acquireTimeout g) s = .next (u.synTo g 1) :=
    congrArg Host.Outcome.next ((if_neg (by simp [h, hdue]; omega)).trans (if_pos hfirst))
  refine ⟨u.synTo g 1, hrow, hkept.synSt.trans (synSt_put (s := u) hpresent (by decide)), ?_, (hkept.regs _ (by simp [Fld.ofGroup])).trans ?_,
    hkept.acquire.trans (State.timer_stopTimer_same _ _), hkept.tc⟩
  · rw [hkept.grp]
    exact congrArg SynRec.tries (State.grp_setGrp_same _ g _)
  · exact (State.get_put_ne _ _ (by simp)).trans (State.get_put_same _ _ _)

/-! ## The lock (R175, R333) -/

/-- A group that locks shows it and stops its ACQUIRE; then one that was fenced meanwhile loses its lock, and SYN_C's brings up the pairs. -/
theorem synLock_cases (hg : g < 4) (h : s.get (Reg.SYN_STATE_STATE g) ≠ 3) :
    ∃ u, GroupKept g ((s.stopTimer (.acquire g)).put (Reg.SYN_STATE_STATE g) 3) u ∧
      s.synLock g = if u.unitFenced (0x1000 + g) then u.loseLock g 3 else if g = 2 then (u.startPair 0).startPair 1 else u := by
  unfold State.synLock
  extract_lets r was s1 s2 s3 s4
  refine ⟨s4, ?_, rfl⟩
  have h2 : GroupKept g s1 s2 := by
    refine .ite ⟨rfl, rfl, rfl, ?_, ?_, fun _ _ => rfl⟩ (.refl _)
    · exact State.timer_setTimer_ne _ _ (by simp)
    · exact State.timer_setTimer_ne _ _ (by simp)
  have h3 : GroupKept g (s2.put (Reg.SYN_STATE_STATE g) 3) s3 := groupKept_synTo hg _ (by
    rw [h2.regs _ (by simp [Fld.ofGroup])]
    exact h)
  have h4 : GroupKept g s3 s4 := .ite (groupKept_synEnd _ _ _ _ _ _) (groupKept_raise _ (e := evRelocked g) _ _ nofun)
  exact (h2.put _ 3).trans (h3.trans h4)

theorem synLock_shows (hg : g < 4) (h : s.synSt g = 2) : let t := s.synLock g
    t.synSt g = (if s.unitFenced (0x1000 + g) then 4 else 3) ∧ t.timer (.acquire g) = none := by
  intro t
  obtain ⟨hpresent, hst⟩ := present_of_synSt h (by decide)
  obtain ⟨u, hkept, ht⟩ := synLock_cases (s := s) hg (by rw [hst]; decide)
  have hstopped : u.timer (.acquire g) = none := hkept.acquire.trans (State.timer_stopTimer_same _ _)
  have hlocked : u.get (Reg.SYN_STATE_STATE g) = 3 := (hkept.regs _ (by simp [Fld.ofGroup])).trans (State.get_put_same _ _ _)
  have hunit : u.unit (0x1000 + g) = s.unit (0x1000 + g) := hkept.unit _
  have hfenced : u.unitFenced (0x1000 + g) = s.unitFenced (0x1000 + g) := by rw [State.unitFenced, hunit, State.unitFenced]
  rw [hfenced] at ht
  rw [show t = _ from ht]
  split
  · obtain ⟨hunits, -, hacquire⟩ := rampBreak_keeps hg u Status.interrupted
    obtain ⟨hheld, -, -, -, -, -, -, htimer⟩ := lost_shows (u.rampBreak g Status.interrupted) (g := g) (cause := 3) (by decide)
    have hlost := groupKept_loseLock hg hlocked 3
    refine ⟨hlost.synSt.trans ((synSt_eq ?_).trans hheld), hlost.acquire.trans (htimer.trans (hacquire.trans hstopped))⟩
    rw [State.unit, show ((u.rampBreak g Status.interrupted).lost g 3).units = u.units from hunits, ← State.unit, hunit]
    exact hpresent
  · have hpairs : GroupKept g u (if g = 2 then (u.startPair 0).startPair 1 else u) :=
      .ite ((groupKept_startPair hg u 0).trans (groupKept_startPair hg _ 1)) (.refl u)
    refine ⟨hpairs.synSt.trans ((synSt_eq ?_).trans hlocked), hpairs.acquire.trans hstopped⟩
    rw [hunit]
    exact hpresent

theorem lockWindow_acquires (hg : g < 4) (diff khz : Nat) (foff : Int) (h : s.synSt g = 2) :
    ∃ t, exec (.lockWindow g diff khz foff) s = .next t ∧
      if diff ≤ (s.lockCfg g).tol ∧ (s.lockCfg g).k ≤ (s.grp g).windows + 1
      then t.synSt g = (if s.unitFenced (0x1000 + g) then 4 else 3) ∧ t.timer (.acquire g) = none
      else (s.lockCfg g).k ≠ 0 → t.synSt g = 2 ∧ (t.grp g).windows = if diff ≤ (s.lockCfg g).tol then (s.grp g).windows + 1 else 0 := by
  obtain ⟨hstate, -, -, hgrp, -⟩ := windowCounted_shows s g diff khz
  refine ⟨_, exec_lockWindow hg diff khz foff (by omega) (by omega), ?_⟩
  rw [if_pos h]
  split
  · next hlocks =>
    have hgood : s.goodWindows g diff = (s.grp g).windows + 1 := if_pos hlocks.1
    rw [if_pos (hgood ▸ hlocks.2)]
    exact synLock_shows hg (hstate.trans h)
  · next hwaits =>
    intro hk
    have hfew : ¬ (s.lockCfg g).k ≤ s.goodWindows g diff := by
      unfold State.goodWindows
      split
      · next hgood => exact fun hle => hwaits ⟨hgood, hle⟩
      · omega
    rw [if_neg hfew]
    refine ⟨hstate.trans h, ?_⟩
    rw [State.windowOver, State.grp_setGrp_same, hgrp]
    rfl

/-! ## The follower's tick, and the end of the hold (R165, R178) -/

theorem followerTick_ticks (s : State) : ∃ t, exec .followerTick s = .next t ∧
    if s.crosses 1000000 = true ∧ s.var .tickEdge ≠ (s.tc.edges : Int) + 1
    then t = (((((s.setVar .tickEdge (s.tc.edges + 1 : Nat)).tickGrp 0).tickGrp 1).tickGrp 2).tickGrp 3) else t = s := by
  have hcrossing : s.atCrossing 1000000 .tickEdge = true ↔ s.crosses 1000000 = true ∧ s.var .tickEdge ≠ (s.tc.edges : Int) + 1 := by
    rw [State.atCrossing, Bool.and_eq_true, decide_eq_true_iff]
  refine ⟨_, rfl, ?_⟩
  by_cases h : s.atCrossing 1000000 .tickEdge = true
  · have hgroups : List.range 4 = [0, 1, 2, 3] := by decide
    rw [if_pos (hcrossing.1 h), if_neg (not_not_intro h)]
    simp only [hgroups, List.foldl_cons, List.foldl_nil, State.doneAt]
  · rw [if_neg (mt hcrossing.2 h), if_pos h]

theorem synHoldEnd_ends (s : State) : ∃ t, exec .synHoldEnd s = .next t ∧
    if s.due .synHold ∧ s.synSt 3 = 3 then t = s.stopTimer .synHold ∧ t.synHolding = false else t = s := by
  refine ⟨_, rfl, ?_⟩
  split
  · next hends =>
    have hlocked : (s.stopTimer .synHold).synSt 3 = 3 := hends.2
    exact ⟨rfl, by simp [State.synHolding, hlocked, State.timer_stopTimer_same]⟩
  · rfl

end

/-- Settles O18: a group's way into lock event by event, the follower's tick, and the end of SYN_D's hold. -/
theorem synthesisLock : Obligations.SynthesisLock := by
  unfold Obligations.SynthesisLock
  intro s g hg
  exact ⟨fun band lo hi hband hlo hhi h => bandCalDone_acquires hg hband hlo hhi h,
    fun h hdue hfirst => acquireTimeout_recalibrates hg h hdue hfirst, fun diff khz foff h => lockWindow_acquires hg diff khz foff h,
    followerTick_ticks s, synHoldEnd_ends s⟩

end Sys2Proof.Machine
end

section
/-! PROOFS. The synthesis groups' commands (R162, R163, R167, R168, R175, R180 to R182). -/

namespace Sys2Proof.Machine

section

variable {s : State} {c : Ctx} {g : Nat}

/-! ## SYN_START (R162, R163, R175) -/

theorem synCfgOk_fetch (s : State) (c : Ctx) (g : Nat) : (s.fetch c).synCfgOk g = s.synCfgOk g := by
  simp only [State.synCfgOk, State.synFreqOk, State.synNum, fetch_get]

/-- The record a group starts with: its registers' values, with the phase of the present time (R162, R163). -/
def State.startRec (s : State) (g : Nat) : SynRec :=
  { num := s.synNum g, den := s.get (Reg.SYN_DEN_DEN g), n := s.get (Reg.SYN_CFG_N g), rTick := s.tc.rt, rD := s.tc.rt
    phi := s.tc.time * s.synNum g }

theorem synStart_shows (hg : g < 4) (s : State) (hpresent : (s.unit (0x1000 + g)).st ≠ .absent) : let t := s.synStart g
    t.synSt g = 1 ∧ t.get (Reg.SYN_STATE_CFG_PENDING g) = 0 ∧ t.get (Reg.SYN_STATE_TH_ENGAGED g) = 0 ∧ t.tc = s.tc ∧ t.grp g = s.startRec g := by
  intro t
  let u := ((s.setGrp g (s.startRec g)).put (Reg.SYN_STATE_CFG_PENDING g) 0).put (Reg.SYN_STATE_TH_ENGAGED g) 0
  have hkept : GroupKept g (u.put (Reg.SYN_STATE_STATE g) 1) t := groupKept_synFrom hg u _ _ _
  refine ⟨hkept.synSt.trans (synSt_put (s := u) hpresent (by decide)), (hkept.regs _ (by simp [Fld.ofGroup])).trans ?_,
    (hkept.regs _ (by simp [Fld.ofGroup])).trans ?_, hkept.tc, hkept.grp.trans (State.grp_setGrp_same s g _)⟩
  · rw [State.get_put_ne _ _ (by simp), State.get_put_ne _ _ (by simp)]
    exact State.get_put_same _ _ _
  · rw [State.get_put_ne _ _ (by simp)]
    exact State.get_put_same _ _ _

/-- A command held in flight and recorded as a change leaves the registers of the groups, the time and the units. -/
theorem heldChange_keeps (s : State) (c : Ctx) (o : OpInfo) (role : Nat) (arg : List Nat) (hid op off old new : Nat) :
    let u := ((s.fetch c).hold c o role arg).change role hid op off old new
    (∀ f : Fld, 0x60000 ≤ f.addr → u.get f = s.get f) ∧ u.tc = s.tc ∧ ∀ n, u.unit n = s.unit n := by
  intro u
  refine ⟨fun f hf => (get_change _ _ _ _ _ _ _ (key_notMem_bookkeeping hf)).trans (fetch_get s c f), (change_tc _ _ _ _ _ _ _).trans (fetch_tc s c),
    fun n => ?_⟩
  rw [State.unit, change_units]
  exact fetch_unit s c n

theorem synStart_starts (hg : g < 4) (hr : Ready s c opSynStart) :
    let t := s.runCmd c opSynStart [g] (synStartEff c g)
    if s.synSt g ≠ 0 then Ends s c opSynStart Status.busy 0 id t
    else if s.synCfgOk g = false then Ends s c opSynStart Status.range 0 id t
    else ∃ u, Starts s c (fun f => f.hold c opSynStart (s.sessionRole c.ring c.session) [g]) u ∧ t = u.synStart g ∧ t.synSt g = 1 ∧
      t.get (Reg.SYN_STATE_CFG_PENDING g) = 0 ∧ t.get (Reg.SYN_STATE_TH_ENGAGED g) = 0 ∧ t.tc = s.tc ∧
      t.grp g = { num := s.synNum g, den := s.get (Reg.SYN_DEN_DEN g), n := s.get (Reg.SYN_CFG_N g), rTick := s.tc.rt, rD := s.tc.rt
                  phi := s.tc.time * s.synNum g } := by
  intro t
  have hidle := synSt_fetch s c g
  have hok := synCfgOk_fetch s c g
  have hspan : ¬ 3 < g := by omega
  by_cases hbusy : s.synSt g ≠ 0
  · rw [if_pos hbusy]
    exact runCmd_refused hr ((if_neg hspan).trans (if_pos (hidle ▸ hbusy)))
  rw [if_neg hbusy]
  by_cases hrange : s.synCfgOk g = false
  · rw [if_pos hrange]
    exact runCmd_refused hr ((if_neg hspan).trans ((if_neg (hidle ▸ hbusy)).trans (if_pos (by simp [hok, hrange]))))
  rw [if_neg hrange]
  let role := s.sessionRole c.ring c.session
  let u := ((s.fetch c).hold c opSynStart role [g]).change role (0x1000 + g) 0x0602 noOffset 0 0
  have ht : t = u.synStart g :=
    runCmd_runsOn hr ((if_neg hspan).trans ((if_neg (hidle ▸ hbusy)).trans (if_neg (by simpa [hok] using hrange))))
  obtain ⟨hget, htc, hunit⟩ := heldChange_keeps s c opSynStart role [g] (0x1000 + g) 0x0602 noOffset 0 0
  obtain ⟨hpresent, -⟩ := present_of_synSt (not_not.1 hbusy) (by decide)
  obtain ⟨hst, hpending, hth, htime, hgrp⟩ := synStart_shows hg u (hunit _ ▸ hpresent)
  have hrec : u.startRec g = s.startRec g := by
    simp only [State.startRec, State.synNum]
    rw [htc, hget (Reg.SYN_CFG_N g) (by simp only [Reg.SYN_CFG_N]; omega), hget (Reg.SYN_NUM_LO_NUM_LO g) (by simp only [Reg.SYN_NUM_LO_NUM_LO]; omega),
      hget (Reg.SYN_NUM_HI_NUM_HI g) (by simp only [Reg.SYN_NUM_HI_NUM_HI]; omega), hget (Reg.SYN_DEN_DEN g) (by simp only [Reg.SYN_DEN_DEN]; omega)]
  refine ⟨u, change_quiet _ _ _ _ _ _ _, ht, ?_⟩
  rw [ht]
  exact ⟨hst, hpending, hth, htime.trans htc, hgrp.trans hrec⟩

/-! ## SYN_STOP (R180, R182) -/

theorem synPinned_iff (s : State) (g : Nat) :
    s.synPinned g = true ↔ (g = 3 ∧ (s.powered 9 ∨ s.powered 10)) ∨ (g = 2 ∧ s.get Reg.TWN_CTRL_TWIN_EN = 1) := decide_eq_true_iff

theorem synStop_ends (hg : g < 4) (hr : Ready s c opSynStop) :
    let t := s.runCmd c opSynStop [g] (synStopEff g)
    if (g = 3 ∧ (s.powered 9 ∨ s.powered 10)) ∨ (g = 2 ∧ s.get Reg.TWN_CTRL_TWIN_EN = 1) then Ends s c opSynStop Status.busy 0 id t
    else Ends s c opSynStop Status.ok 0 (fun f => f.synStop g Status.interrupted) t := by
  intro t
  have hspan : ¬ 3 < g := by omega
  have hpinned := synPinned_iff s g
  rw [← synPinned_fetch (c := c)] at hpinned
  split
  · next h => exact runCmd_refused hr ((if_neg hspan).trans (if_pos (hpinned.2 h)))
  · next h => exact runCmd_answers hr ((if_neg hspan).trans (if_neg (mt hpinned.1 h))) (change_quiet _ _ _ _ _ _ _)

/-! ## SYN_FREQ_STEP (R167, R168, R180 to R182) -/

theorem stepFits_fetch (s : State) (c : Ctx) (g num den : Nat) : (s.fetch c).stepFits g num den = s.stepFits g num den := by
  simp only [State.stepFits, fetch_grp, fetch_get]

theorem drivesPulse_fetch (s : State) (c : Ctx) (g : Nat) : (s.fetch c).drivesPulse g = s.drivesPulse g := by
  simp only [State.drivesPulse, State.outGrp, State.outSt, fetch_get]
  rfl

theorem put_quiet_congr {s t : State} (h : Quiet s t) (f : Fld) (v : Nat) : Quiet (s.put f v) (t.put f v) where
  regs f' hf' := by
    by_cases hkey : f'.key = f.key
    · simp only [State.get, State.put, hkey, aget_aput_same]
    · rw [State.get_put_ne _ _ hkey, State.get_put_ne _ _ hkey]
      exact h.regs f' hf'
  vars := h.vars
  rest := h.rest

theorem setGrp_quiet_congr {s t : State} (h : Quiet s t) (g : Nat) (r : SynRec) : Quiet (s.setGrp g r) (t.setGrp g r) :=
  ⟨h.regs, h.vars, congrArg (fun x : State => x.setGrp g r) h.rest⟩

theorem le_ceilDiv_mul {b : Nat} (a : Nat) (hb : 0 < b) : a ≤ ceilDiv a b * b := by
  have hlt : a + b - 1 < ceilDiv a b * b + b := Nat.lt_div_mul_add hb
  omega

/-- The left ticks of a ramp that begins: at most 10 ppm of the starting frequency in each (R168). -/
def rampTicks (r : SynRec) (num den : Nat) : Nat :=
  max 1 (ceilDiv (((num * r.den : Nat) - (r.num * den : Nat) : Int).natAbs * 100000) (max 1 (r.num * den)))

theorem rampTicks_pos (r : SynRec) (num den : Nat) : 1 ≤ rampTicks r num den := le_max_left _ _

theorem diff_le_rampTicks_mul (r : SynRec) (num den : Nat) :
    ((num * r.den : Nat) - (r.num * den : Nat) : Int).natAbs * 100000 ≤ rampTicks r num den * max 1 (r.num * den) :=
  (le_ceilDiv_mul _ (lt_of_lt_of_le one_pos (le_max_left _ _))).trans (Nat.mul_le_mul_right _ (le_max_right _ _))

theorem synFreqStep_starts {num den : Nat} (hg : g < 4) (hnum : 0 < num) (hnum' : num < 2 ^ 48) (hden : 0 < den) (hden' : den < 65536)
    (hr : Ready s c opSynFreqStep) :
    let t := s.runCmd c opSynFreqStep [g, num, den] (synFreqStepEff c g num den)
    if 2 ≤ g then Ends s c opSynFreqStep Status.notPermitted 0 id t
    else if s.synSt g ≠ 3 ∨ (s.grp g).ramp ≠ none then Ends s c opSynFreqStep Status.busy 0 id t
    else if s.stepFits g num den = false then Ends s c opSynFreqStep Status.range 0 id t
    else if s.drivesPulse g then Ends s c opSynFreqStep Status.busy 0 id t
    else ∃ p : Ramp, p.made = 0 ∧ p.num1 = num ∧ p.den1 = den ∧ p.num0 = (s.grp g).num ∧ p.den0 = (s.grp g).den ∧ 1 ≤ p.total ∧
      ((num * p.den0 : Nat) - (p.num0 * den : Nat) : Int).natAbs * 100000 ≤ p.total * max 1 (p.num0 * den) ∧
      Starts s c (fun f => (((f.hold c opSynFreqStep (s.sessionRole c.ring c.session) [g, num, den]).setGrp g
        { s.grp g with ramp := some p, num := p.num, den := (s.grp g).den * 100000, phi := (s.grp g).phi * 100000 }).put
        (Reg.SYN_STATE_RAMPING g) 1).put (Reg.SYN_STATE_RAMP_LEFT g) p.total) t := by
  intro t
  let role := s.sessionRole c.ring c.session
  have hspan : ¬ (3 < g ∨ num = 0 ∨ 2 ^ 48 ≤ num ∨ den = 0 ∨ 65536 ≤ den) := by omega
  have heff : synFreqStepEff c g num den role (s.fetch c) = _ := if_neg hspan
  by_cases hclock : 2 ≤ g
  · rw [if_pos hclock]
    exact runCmd_refused hr (heff.trans (if_pos hclock))
  rw [if_neg hclock]
  replace heff := heff.trans (if_neg hclock)
  have hbusy : ((s.fetch c).synSt g ≠ 3 ∨ ((s.fetch c).grp g).ramp.isSome = true) ↔ (s.synSt g ≠ 3 ∨ (s.grp g).ramp ≠ none) := by
    rw [synSt_fetch, fetch_grp, Option.isSome_iff_ne_none]
  by_cases h : s.synSt g ≠ 3 ∨ (s.grp g).ramp ≠ none
  · rw [if_pos h]
    exact runCmd_refused hr (heff.trans (if_pos (hbusy.2 h)))
  rw [if_neg h]
  replace heff := heff.trans (if_neg (mt hbusy.1 h))
  rw [stepFits_fetch] at heff
  by_cases hfits : s.stepFits g num den = false
  · rw [if_pos hfits]
    exact runCmd_refused hr (heff.trans (if_pos (by simp [hfits])))
  rw [if_neg hfits]
  replace heff := heff.trans (if_neg (by simpa using hfits))
  rw [drivesPulse_fetch] at heff
  by_cases hpulse : s.drivesPulse g = true
  · rw [if_pos hpulse]
    exact runCmd_refused hr (heff.trans (if_pos hpulse))
  rw [if_neg hpulse]
  replace heff := heff.trans (if_neg hpulse)
  have ht := runCmd_runsOn (body := [g, num, den]) hr heff
  rw [fetch_grp] at ht
  refine ⟨⟨0, rampTicks (s.grp g) num den, decide (0 < ((num * (s.grp g).den : Nat) - ((s.grp g).num * den : Nat) : Int)), (s.grp g).num, (s.grp g).den,
    num, den, false⟩, rfl, rfl, rfl, rfl, rfl, rampTicks_pos _ _ _, diff_le_rampTicks_mul _ _ _, ?_⟩
  rw [Starts, show t = _ from ht]
  exact put_quiet_congr (put_quiet_congr (setGrp_quiet_congr (change_quiet _ _ _ _ _ _ _) _ _) _ _) _ _

end

/-- Settles O16: each command's checks, read before its fetch, pick its refusal; past them it does what its group's lemma shows. -/
theorem synthesisCommands : Obligations.SynthesisCommands := by
  unfold Obligations.SynthesisCommands
  intro s c g hg
  exact ⟨fun hr => ⟨_, rfl, synStart_starts hg hr⟩, fun hr => ⟨_, rfl, synStop_ends hg hr⟩,
    fun num den hnum hnum' hden hden' hr => ⟨_, rfl, synFreqStep_starts hg hnum hnum' hden hden' hr⟩⟩

end Sys2Proof.Machine
end

section
/-! PROOFS. OUT_ALIGN, and what the outputs send (R172, R187, R189, R190, R194 to R196, R199 to R201). -/

namespace Sys2Proof.Machine

section

variable {s t : State} {c : Ctx} {i k n mask method rate : Nat}

/-! ## The outputs' registers -/

/-- Where the keys of a clock output's, a pulse output's and a time-of-day unit's registers begin. -/
def clkKey (i : Nat) : Nat := 0x2802000 + 0x400 * i
@[inherit_doc clkKey] def pulseKey (n : Nat) : Nat := 0x2808000 + 0x800 * n
@[inherit_doc clkKey] def todKey (k : Nat) : Nat := 0x2810000 + 0x400 * k

@[simp] theorem key_CLK_STATE_STATE (i : Nat) : (Reg.CLK_STATE_STATE i).key = clkKey i + 128 := by simp only [Fld.key, Reg.CLK_STATE_STATE, clkKey]; omega
@[simp] theorem key_CLK_STATE_FENCE_LAST (i : Nat) : (Reg.CLK_STATE_FENCE_LAST i).key = clkKey i + 132 := by simp only [Fld.key, Reg.CLK_STATE_FENCE_LAST, clkKey]; omega
@[simp] theorem key_CLK_PH_PH (i : Nat) : (Reg.CLK_PH_PH i).key = clkKey i + 256 := by simp only [Fld.key, Reg.CLK_PH_PH, clkKey]; omega
@[simp] theorem key_PULSE_STATE_STATE (n : Nat) : (Reg.PULSE_STATE_STATE n).key = pulseKey n + 896 := by simp only [Fld.key, Reg.PULSE_STATE_STATE, pulseKey]; omega
@[simp] theorem key_PULSE_ERR_LO_E_LO (n : Nat) : (Reg.PULSE_ERR_LO_E_LO n).key = pulseKey n + 1024 := by simp only [Fld.key, Reg.PULSE_ERR_LO_E_LO, pulseKey]; omega
@[simp] theorem key_PULSE_ERR_HI_E_HI (n : Nat) : (Reg.PULSE_ERR_HI_E_HI n).key = pulseKey n + 1152 := by simp only [Fld.key, Reg.PULSE_ERR_HI_E_HI, pulseKey]; omega
@[simp] theorem key_PULSE_QERR_QERR (n : Nat) : (Reg.PULSE_QERR_QERR n).key = pulseKey n + 1280 := by simp only [Fld.key, Reg.PULSE_QERR_QERR, pulseKey]; omega
@[simp] theorem key_PULSE_EDGE_LO_AT_LO (n : Nat) : (Reg.PULSE_EDGE_LO_AT_LO n).key = pulseKey n + 1408 := by simp only [Fld.key, Reg.PULSE_EDGE_LO_AT_LO, pulseKey]; omega
@[simp] theorem key_PULSE_EDGE_HI_AT_HI (n : Nat) : (Reg.PULSE_EDGE_HI_AT_HI n).key = pulseKey n + 1536 := by simp only [Fld.key, Reg.PULSE_EDGE_HI_AT_HI, pulseKey]; omega
@[simp] theorem key_TOD_SENT_COUNT (k : Nat) : (Reg.TOD_SENT_COUNT k).key = todKey k + 128 := by simp only [Fld.key, Reg.TOD_SENT_COUNT, todKey]; omega
@[simp] theorem key_TOD_LAST_SEQ (k : Nat) : (Reg.TOD_LAST_SEQ k).key = todKey k + 256 := by simp only [Fld.key, Reg.TOD_LAST_SEQ, todKey]; omega
@[simp] theorem key_TOD_LAST_NO_EDGE (k : Nat) : (Reg.TOD_LAST_NO_EDGE k).key = todKey k + 264 := by simp only [Fld.key, Reg.TOD_LAST_NO_EDGE, todKey]; omega

theorem outStF_clock (hi : i < 16) : outStF i = Reg.CLK_STATE_STATE i := if_pos hi

theorem outFlF_clock (hi : i < 16) : outFlF i = Reg.CLK_STATE_FENCE_LAST i := if_pos hi

theorem outStF_pulse (n : Nat) : outStF (16 + n) = Reg.PULSE_STATE_STATE n := by simp [outStF]

/-- The registers of the outputs lie past all that logging and counting write. -/
theorem outKey_notMem_bookkeeping {f : Fld} (hf : clkKey 0 ≤ f.key) : f.key ∉ bookkeeping :=
  tdc_notMem_bookkeeping (k := 0) (le_trans (by decide) hf)

theorem outStF_notMem_bookkeeping (i : Nat) : (outStF i).key ∉ bookkeeping := by
  refine outKey_notMem_bookkeeping ?_
  unfold outStF
  split
  · simp only [key_CLK_STATE_STATE, clkKey]
    omega
  · simp only [key_PULSE_STATE_STATE, clkKey, pulseKey]
    omega

theorem Quiet.outSt (h : Quiet s t) (i : Nat) : t.outSt i = s.outSt i := h.regs _ (outStF_notMem_bookkeeping i)

theorem Quiet.outp (h : Quiet s t) (i : Nat) : t.outp i = s.outp i := by rw [State.outp, h.outs, State.outp]

/-! ## OUT_ALIGN (R195, R196, R201) -/

theorem outSt_fetch (s : State) (c : Ctx) (i : Nat) : (s.fetch c).outSt i = s.outSt i := fetch_get s c _

theorem outGrp_fetch (s : State) (c : Ctx) (i : Nat) : (s.fetch c).outGrp i = s.outGrp i := by simp only [State.outGrp, fetch_get]

theorem alignRefusal_fetch (s : State) (c : Ctx) (i : Nat) : (s.fetch c).alignRefusal i = s.alignRefusal i := by
  rw [State.alignRefusal, outSt_fetch, outGrp_fetch, synSt_fetch, State.alignRefusal]

theorem outAlign_outOfRange (hr : Ready s c opOutAlign)
    (hout : mask = 0 ∨ 2 ^ 24 ≤ mask ∨ 1 < method ∨ (rate ≠ 0 ∧ (rate < 28147 ∨ 28147497671 < rate))) :
    Ends s c opOutAlign Status.range 0 id (s.runCmd c opOutAlign [mask, method, rate] (outAlignEff mask method rate)) :=
  runCmd_refused hr (if_pos (hout.imp_right (Or.imp_right (Or.imp_right fun hrate => by rw [alignRateOk, decide_eq_true_iff]; omega))))

/-- The first output of a mask that OUT_ALIGN refuses. -/
def State.firstRefused (s : State) (mask : Nat) : Option Nat := (allOuts.filter fun i => bit mask i).find? fun i => (s.alignRefusal i).isSome

theorem firstRefused_eq_some (hi : i < 24) (hbit : bit mask i = true) (hrefused : s.alignRefusal i ≠ none)
    (hfirst : ∀ j, j < i → bit mask j = true → s.alignRefusal j = none) : s.firstRefused mask = some i := by
  rw [State.firstRefused, List.find?_filter, allOuts, List.find?_range_eq_some]
  refine ⟨by simpa [hbit, Option.isSome_iff_ne_none] using hrefused, List.mem_range.2 hi, fun j hj => ?_⟩
  cases hb : bit mask j with
  | false => rfl
  | true => simp [hfirst j hj hb]

theorem firstRefused_eq_none (hall : ∀ i, i < 24 → bit mask i = true → s.alignRefusal i = none) : s.firstRefused mask = none := by
  rw [State.firstRefused, List.find?_eq_none]
  intro i hi
  obtain ⟨hrange, hbit⟩ := List.mem_filter.1 hi
  simp [hall i (List.mem_range.1 hrange) hbit]

section

variable (hmask : 0 < mask) (hmask' : mask < 2 ^ 24) (hmethod : method ≤ 1) (hrate : alignRateOk rate = true)

include hmask hmask' hmethod hrate

/-- OUT_ALIGN in range goes by the first output of its mask that is refused. -/
theorem outAlignEff_inRange (role : Nat) (s : State) :
    outAlignEff mask method rate role s = match s.firstRefused mask with
      | some i => ⟨s, s.alignRefusal i, outHid i⟩
      | none => ⟨((allOuts.filter fun i => bit mask i).foldl (fun s i => s.alignOut (decide (method = 0)) rate i) s).change role
          (outHid ((allOuts.filter fun i => bit mask i).headD 0)) 0x0702 noOffset 0 mask, some Status.ok, 0⟩ := by
  have hin : ¬ (mask = 0 ∨ 2 ^ 24 ≤ mask ∨ 1 < method ∨ ¬ alignRateOk rate = true) := by
    simp only [hrate, not_true_eq_false, or_false]
    omega
  unfold outAlignEff
  rw [if_neg hin]
  rfl

theorem outAlign_refused (hr : Ready s c opOutAlign) (hi : i < 24) (hbit : bit mask i = true) (hrefused : s.alignRefusal i ≠ none)
    (hfirst : ∀ j, j < i → bit mask j = true → s.alignRefusal j = none) :
    ∃ st, s.alignRefusal i = some st ∧
      Ends s c opOutAlign st (outHid i) id (s.runCmd c opOutAlign [mask, method, rate] (outAlignEff mask method rate)) := by
  obtain ⟨st, hst⟩ := Option.ne_none_iff_exists'.1 hrefused
  have hfirst' : (s.fetch c).firstRefused mask = some i :=
    firstRefused_eq_some hi hbit (by rwa [alignRefusal_fetch]) fun j hj hb => (alignRefusal_fetch s c j).trans (hfirst j hj hb)
  refine ⟨st, hst, runCmd_refused hr ?_⟩
  rw [outAlignEff_inRange hmask hmask' hmethod hrate, hfirst']
  simp only [alignRefusal_fetch, hst]

theorem outAlign_aligns (hr : Ready s c opOutAlign) (hall : ∀ i, i < 24 → bit mask i = true → s.alignRefusal i = none) :
    Ends s c opOutAlign Status.ok 0 (fun f => (allOuts.filter fun i => bit mask i).foldl (fun u i => u.alignOut (decide (method = 0)) rate i) f)
      (s.runCmd c opOutAlign [mask, method, rate] (outAlignEff mask method rate)) := by
  have hnone : (s.fetch c).firstRefused mask = none :=
    firstRefused_eq_none fun i hi hb => (alignRefusal_fetch s c i).trans (hall i hi hb)
  have heff := outAlignEff_inRange hmask hmask' hmethod hrate (s.sessionRole c.ring c.session) (s.fetch c)
  rw [hnone] at heff
  exact runCmd_answers hr heff (change_quiet _ _ _ _ _ _ _)

end

/-! ## A clock output aligned alone (R187, R188) -/

theorem allOuts_filter_bit (hi : i < 16) : (allOuts.filter fun j => bit (2 ^ i) j) = [i] :=
  (by decide : ∀ i < 16, (allOuts.filter fun j => bit (2 ^ i) j) = [i]) i hi

theorem outTo_shows (s : State) (i : Nat) {st : Nat} (hst : st < 8) : (s.outTo i st).outSt i = st := by
  have hwidth : (outStF i).width = 3 := by
    unfold outStF
    split <;> rfl
  unfold State.outTo
  extract_lets old
  split
  · assumption
  · rw [(raise_quiet_of_sticky_none rfl _ _ _).outSt, State.outSt, State.get_put_same, hwidth]
    exact Nat.mod_eq_of_lt hst

theorem get_outTo_ne {f : Fld} (st : Nat) (hf : f.key ∉ bookkeeping) (hne : f.key ≠ (outStF i).key) : (s.outTo i st).get f = s.get f := by
  unfold State.outTo
  extract_lets old
  split
  · rfl
  · rw [(raise_quiet_of_sticky_none rfl _ _ _).regs f hf, State.get_put_ne _ _ hne]

/-- The end of a clock's alignment leaves the registers and the time alone. -/
theorem alignDone_clock (hi : i < 16) (s : State) (e0 : Int) (jump : Bool) :
    Quiet (s.setOut i { s.outp i with align := none, warned := false }) (s.alignDone i e0 jump) := by
  unfold State.alignDone
  extract_lets r s1 s2
  rw [show s2 = s1 from if_pos hi]
  exact raise_quiet_of_sticky_none rfl _ _ _

theorem alignOut_starts (hi : i < 16) (hwait : s.outSt i = 2) (jump : Bool) (rate : Nat) :
    let t := s.alignOut jump rate i
    t.outSt i = 3 ∧ t.get (Reg.CLK_STATE_FENCE_LAST i) = 0 ∧ (t.outp i).align = none ∧ t.tc = s.tc := by
  intro t
  let u := (((s.startOut i).put (outFlF i) 0).outTo i 3)
  have ht : t = u.alignDone i (s.outErr i).to16 jump := if_pos hwait
  have hquiet := alignDone_clock hi u (s.outErr i).to16 jump
  rw [← ht] at hquiet
  have hnotMem : (Reg.CLK_STATE_FENCE_LAST i).key ∉ bookkeeping :=
    outKey_notMem_bookkeeping (by simp only [key_CLK_STATE_FENCE_LAST, clkKey]; omega)
  refine ⟨(hquiet.outSt i).trans (outTo_shows _ i (by decide)), ?_, ?_, ?_⟩
  · refine (hquiet.regs _ hnotMem).trans ((get_outTo_ne 3 hnotMem (by simp [outStF_clock hi])).trans ?_)
    rw [outFlF_clock hi, State.get_put_same]
    rfl
  · rw [hquiet.outp, State.outp_setOut_same]
  · have hstart : ((s.startOut i).put (outFlF i) 0).held = s.held := held_startOut s i
    exact hquiet.tc.trans (congrArg (fun h => h.2.1) ((held_outTo _ i 3).trans hstart))

theorem outAlign_startsClock (hr : Ready s c opOutAlign) (hmethod : method ≤ 1) (hrate : alignRateOk rate = true) (hi : i < 16)
    (hwait : s.outSt i = 2) (hlocked : s.synSt (s.outGrp i) = 3) :
    let t := s.runCmd c opOutAlign [2 ^ i, method, rate] (outAlignEff (2 ^ i) method rate)
    t.outSt i = 3 ∧ t.get (Reg.CLK_STATE_FENCE_LAST i) = 0 ∧ (t.outp i).align = none ∧ t.tc = s.tc := by
  intro t
  have hrefusal : s.alignRefusal i = none := by simp [State.alignRefusal, hwait, hlocked]
  have hall : ∀ j, j < 24 → bit (2 ^ i) j = true → s.alignRefusal j = none := fun j hj hb => by
    have hmem : j ∈ allOuts.filter fun j => bit (2 ^ i) j := List.mem_filter.2 ⟨List.mem_range.2 hj, hb⟩
    rw [allOuts_filter_bit hi, List.mem_singleton] at hmem
    rw [hmem, hrefusal]
  have hends := outAlign_aligns (Nat.two_pow_pos i) (Nat.pow_lt_pow_right (by decide) (by omega)) hmethod hrate hr hall
  rw [allOuts_filter_bit hi] at hends
  have hapart := hends.apart
  obtain ⟨hst, hfence, halign, htc⟩ := alignOut_starts (s := s.fetch c) hi ((fetch_get s c _).trans hwait) (decide (method = 0)) rate
  refine ⟨(hapart.regs _ (outStF_notMem_bookkeeping i)).trans hst, (hapart.regs _ (outKey_notMem_bookkeeping ?_)).trans hfence, ?_,
    hapart.tc.trans (htc.trans (fetch_tc s c))⟩
  · simp only [key_CLK_STATE_FENCE_LAST, clkKey]
    omega
  · rw [State.outp, show t.outs = _ from hapart.outs]
    exact halign

/-! ## The walk of a clock output (R172, R196) -/

theorem endWalk_none (h : (s.outp i).align = none) : s.endWalk i = s := by rw [State.endWalk, h]

theorem execClockWalkStep_eq (hi : i < 16) (hwalk : s.mayWalk i = true) (hdue : s.walkDue i = true) :
    execClockWalkStep i s = .next (if s.offPhase i then s.walkStep i else s.endWalk i) := by
  unfold execClockWalkStep
  rw [if_neg (by simp [hi, hwalk, hdue]; omega)]

theorem toBits_lt (x : Int) : toBits 32 x < 2 ^ 32 := by
  unfold toBits
  omega

theorem walkStep_shows (hi : i < 16) (halign : (s.outp i).align = none) :
    let t := s.walkStep i
    t.get (Reg.CLK_PH_PH i) = toBits 32 (s.getI (Reg.CLK_PH_PH i) + (if 0 < (s.outErr i).n then 1 else -1)) ∧
      (t.outp i).walkAt = s.tc.run ∧ t.outSt i = s.outSt i ∧ t.tc = s.tc := by
  intro t
  let x := s.getI (Reg.CLK_PH_PH i) + (if 0 < (s.outErr i).n then 1 else -1)
  let u := (s.putI (Reg.CLK_PH_PH i) x).setOut i { s.outp i with walkAt := s.tc.run }
  have hquiet : Quiet u (u.pmcEvent 1 0x10) := pmcEvent_quiet _ _ _ _ (by decide)
  have ht : t = u.pmcEvent 1 0x10 := by
    refine Eq.trans ?_ (endWalk_none (i := i) ?_)
    · simp only [t, State.walkStep, if_pos hi, decide_eq_true_eq]
      rfl
    · rw [hquiet.outp, State.outp_setOut_same]
      exact halign
  rw [ht]
  refine ⟨?_, ?_, ?_, hquiet.tc⟩
  · rw [hquiet.regs _ (outKey_notMem_bookkeeping (by simp only [key_CLK_PH_PH, clkKey]; omega))]
    exact (State.get_put_same _ _ _).trans (Nat.mod_eq_of_lt (toBits_lt x))
  · rw [hquiet.outp, State.outp_setOut_same]
  · rw [hquiet.outSt]
    exact State.get_put_ne _ _ (by simp [outStF_clock hi])

theorem clockWalkStep_walks (hi : i < 16) (halign : (s.outp i).align = none) (hwalk : s.mayWalk i = true) (hdue : s.walkDue i = true) :
    ∃ t, exec (.clockWalkStep i) s = .next t ∧
      if s.offPhase i then t.get (Reg.CLK_PH_PH i) = toBits 32 (s.getI (Reg.CLK_PH_PH i) + (if 0 < (s.outErr i).n then 1 else -1)) ∧
        (t.outp i).walkAt = s.tc.run ∧ t.outSt i = 3 ∧ t.tc = s.tc
      else t = s := by
  refine ⟨_, execClockWalkStep_eq hi hwalk hdue, ?_⟩
  have hrun : s.outSt i = 3 := (of_decide_eq_true hwalk).1
  split
  · obtain ⟨hph, hat, hst, htc⟩ := walkStep_shows hi halign
    exact ⟨hph, hat, hst.trans hrun, htc⟩
  · exact endWalk_none halign

/-! ## A pulse output's edge (R189, R190, R194) -/

/-- A state that has a pulse output's series as another: the registers, the groups and the time, and its record but for the pulse in hand. -/
structure SeriesKept (n : Nat) (s t : State) : Prop where
  regs : t.regs = s.regs
  syn  : t.syn = s.syn
  tc   : t.tc = s.tc
  kept : t.outp (16 + n) = { s.outp (16 + n) with active := (t.outp (16 + n)).active }

theorem SeriesKept.get (h : SeriesKept n s t) : t.get = s.get := funext fun f => by rw [State.get, h.regs, State.get]

theorem SeriesKept.grp (h : SeriesKept n s t) : t.grp = s.grp := funext fun g => by rw [State.grp, h.syn, State.grp]

theorem SeriesKept.a (h : SeriesKept n s t) : (t.outp (16 + n)).a = (s.outp (16 + n)).a := by rw [h.kept]

theorem SeriesKept.ofs (h : SeriesKept n s t) : (t.outp (16 + n)).ofs = (s.outp (16 + n)).ofs := by rw [h.kept]

theorem SeriesKept.pulsePer (h : SeriesKept n s t) (m : Nat) : t.pulsePer m = s.pulsePer m := by simp only [State.pulsePer, h.get]

theorem SeriesKept.outSt (h : SeriesKept n s t) (i : Nat) : t.outSt i = s.outSt i := by simp only [State.outSt, h.get]

theorem SeriesKept.outGrp (h : SeriesKept n s t) (i : Nat) : t.outGrp i = s.outGrp i := by simp only [State.outGrp, h.get]

theorem SeriesKept.pathErr (h : SeriesKept n s t) (i : Nat) : t.pathErr i = s.pathErr i := by
  simp only [State.pathErr, State.outDelay, h.outGrp, h.get, h.grp]

theorem SeriesKept.pulseLevel (h : SeriesKept n s t) (b : Bool) : t.pulseLevel n b = s.pulseLevel n b := by
  simp only [State.pulseLevel, h.get]

theorem SeriesKept.outErr (h : SeriesKept n s t) : t.outErr (16 + n) = s.outErr (16 + n) := by
  have hn : ¬ 16 + n < 16 := by omega
  simp only [State.outErr, if_neg hn, h.pathErr, h.pulsePer, h.a]

theorem SeriesKept.qerr (h : SeriesKept n s t) (k : Int) : t.qerr n k = s.qerr n k := by
  simp only [State.qerr, h.outGrp, h.grp, h.pulsePer, h.a, h.ofs]

theorem SeriesKept.padTime (h : SeriesKept n s t) (k : Int) : t.padTime n k = s.padTime n k := by
  simp only [State.padTime, State.padLate, h.qerr, h.pathErr, h.pulsePer, h.a, h.ofs]

theorem SeriesKept.idealOf (h : SeriesKept n s t) (k : Int) : t.idealOf n k = s.idealOf n k := by
  simp only [State.idealOf, h.pathErr, h.pulsePer, h.a]

theorem SeriesKept.idealLinear (h : SeriesKept n s t) (k : Int) : t.idealLinear n k = s.idealLinear n k := by
  simp only [State.idealLinear, h.pulsePer, h.ofs]

/-- A pulse output as the end of the pulse in hand leaves it, its driver at a level. -/
def State.pulseEnded (s : State) (n : Nat) (high : Bool) (at_ : Int) : State :=
  (s.setOut (16 + n) { s.outp (16 + n) with active := none }).drive (16 + n) high at_

theorem pulseEnded_outp (s : State) (n : Nat) (high : Bool) (at_ : Int) :
    (s.pulseEnded n high at_).outp (16 + n) = { s.outp (16 + n) with active := none } := State.outp_setOut_same s _ _

theorem endPulse_keeps (s : State) (n : Nat) : SeriesKept n s (s.endPulse n) := by
  have hsame : SeriesKept n s s := ⟨rfl, rfl, rfl, rfl⟩
  have hended : ∀ high at_, SeriesKept n s (s.pulseEnded n high at_) := fun high at_ => ⟨rfl, rfl, rfl, by rw [pulseEnded_outp]⟩
  unfold State.endPulse
  extract_lets i
  split
  · split
    · exact hsame
    · exact hended _ _
  · exact hsame

theorem endPulse_ends {x : Int} (hruns : s.outSt (16 + n) = 3 ∨ s.outSt (16 + n) = 4) (hactive : (s.outp (16 + n)).active = some x)
    (hover : x ≤ s.tc.time) :
    (s.endPulse n).out = .drive (16 + n) (s.pulseLevel n false) (x / 2 ^ 36) :: s.out ∧ ((s.endPulse n).outp (16 + n)).active = none := by
  have heq : s.endPulse n = s.pulseEnded n (s.pulseLevel n false) (x / 2 ^ 36) := by
    simp only [State.endPulse, hactive, if_neg (not_lt.2 hover), hruns, decide_true, Bool.true_and, State.pulseEnded]
  rw [heq]
  exact ⟨rfl, by rw [pulseEnded_outp]⟩

theorem idealLinear_lt (s : State) (n : Nat) (k : Int) : s.idealLinear n k < 2 ^ 64 := by
  unfold State.idealLinear
  extract_lets p
  omega

theorem edgeEvent_quiet (s : State) (n lin : Nat) (q e : Int) : Quiet s (s.edgeEvent n lin q e) :=
  .ite (raise_quiet_of_sticky_none rfl _ _ _) (.refl s)

theorem emitEdge_shows (s : State) (n : Nat) (k : Int) :
    let t := s.emitEdge n k
    t.out = .drive (16 + n) (s.pulseLevel n true) (s.padTime n k / 2 ^ 36) ::
        .pulse n (s.idealLinear n (s.idealOf n k)) (s.outErr (16 + n)).to16 (s.qerr n k).near16 :: s.out ∧
      (t.outp (16 + n)).active = some (s.padTime n k + ((s.outp (16 + n)).width * 2 ^ 52 : Nat)) ∧
      t.get64 (Reg.PULSE_EDGE_LO_AT_LO n) (Reg.PULSE_EDGE_HI_AT_HI n) = s.idealLinear n (s.idealOf n k) ∧
      (t.outp (16 + n)).next = k + 1 ∧ (t.outp (16 + n)).last = s.padTime n k ∧ t.outSt (16 + n) = s.outSt (16 + n) ∧ t.tc = s.tc := by
  unfold State.emitEdge
  extract_lets i q e lin pad s1 s2 ends r s3 s4 s5 t
  have hquiet : Quiet s5 t := (pmcEvent_quiet _ _ _ _ (by decide)).trans (edgeEvent_quiet _ _ _ _ _)
  have hrec : t.outp i = { r with next := k + 1, last := pad, active := some ends } := (hquiet.outp i).trans (State.outp_setOut_same s2 i _)
  refine ⟨hquiet.out, by rw [hrec]; rfl, ?_, by rw [hrec], by rw [hrec], ?_, hquiet.tc⟩
  · rw [State.get64, hquiet.regs _ (outKey_notMem_bookkeeping ?_), hquiet.regs _ (outKey_notMem_bookkeeping ?_)]
    · exact put64_regs_get64 s4 (by simp) rfl rfl (idealLinear_lt s n _)
    · simp only [key_PULSE_EDGE_HI_AT_HI, pulseKey, clkKey]
      omega
    · simp only [key_PULSE_EDGE_LO_AT_LO, pulseKey, clkKey]
      omega
  · refine (hquiet.outSt i).trans ?_
    rw [State.outSt, State.outSt, outStF_pulse]
    exact (get_put64_ne _ _ (by simp) (by simp)).trans ((State.get_put_ne _ _ (by simp)).trans (get_put64_ne _ _ (by simp) (by simp)))

theorem pulseEdge_eq (hruns : s.outSt (16 + n) = 3 ∨ s.outSt (16 + n) = 4) (halign : (s.outp (16 + n)).align = none) :
    s.pulseEdge n = if s.padTime n (s.outp (16 + n)).next ≤ s.tc.time then (s.endPulse n).emitEdge n (s.outp (16 + n)).next else s.endPulse n := by
  have hkept := endPulse_keeps s n
  have hnext : ((s.endPulse n).outp (16 + n)).next = (s.outp (16 + n)).next := by rw [hkept.kept]
  have hnone : ((s.endPulse n).outp (16 + n)).align = none := by rw [hkept.kept, halign]
  unfold State.pulseEdge
  extract_lets i u r normal
  rw [if_neg (by rw [hkept.outSt]; exact not_not.2 hruns)]
  rw [show r.align = none from hnone]
  simp only [normal, r, hnext, hkept.padTime, hkept.tc, u, i]

theorem pulseEdge_emits (hn : n < 8) (hruns : s.outSt (16 + n) = 3 ∨ s.outSt (16 + n) = 4) (halign : (s.outp (16 + n)).align = none) :
    ∃ t, exec (.pulseEdge n) s = .next t ∧
      let ended := s.endPulse n
      (∀ x, (s.outp (16 + n)).active = some x → x ≤ s.tc.time →
        ended.out = .drive (16 + n) (s.pulseLevel n false) (x / 2 ^ 36) :: s.out ∧ (ended.outp (16 + n)).active = none) ∧
      if s.padTime n (s.outp (16 + n)).next ≤ s.tc.time then
        t.out = .drive (16 + n) (s.pulseLevel n true) (s.padTime n (s.outp (16 + n)).next / 2 ^ 36) ::
          .pulse n (s.idealLinear n (s.idealOf n (s.outp (16 + n)).next)) (s.outErr (16 + n)).to16
            (s.qerr n (s.outp (16 + n)).next).near16 :: ended.out ∧
        (t.outp (16 + n)).active = some (s.padTime n (s.outp (16 + n)).next + ((s.outp (16 + n)).width * 2 ^ 52 : Nat)) ∧
        t.get64 (Reg.PULSE_EDGE_LO_AT_LO n) (Reg.PULSE_EDGE_HI_AT_HI n) = s.idealLinear n (s.idealOf n (s.outp (16 + n)).next) ∧
        (t.outp (16 + n)).next = (s.outp (16 + n)).next + 1 ∧ (t.outp (16 + n)).last = s.padTime n (s.outp (16 + n)).next ∧
        t.outSt (16 + n) = s.outSt (16 + n) ∧ t.tc = s.tc
      else t = ended := by
  have hexec : exec (.pulseEdge n) s = .next (s.pulseEdge n) := congrArg _ (if_neg (by omega))
  refine ⟨_, hexec, fun x => endPulse_ends hruns, ?_⟩
  rw [pulseEdge_eq hruns halign]
  have hkept := endPulse_keeps s n
  have hwidth : ((s.endPulse n).outp (16 + n)).width = (s.outp (16 + n)).width := by rw [hkept.kept]
  have hshows := emitEdge_shows (s.endPulse n) n (s.outp (16 + n)).next
  simp only [hkept.pulseLevel, hkept.padTime, hkept.idealLinear, hkept.idealOf, hkept.outErr, hkept.qerr, hkept.outSt, hkept.tc, hwidth] at hshows
  split
  · exact hshows
  · rfl

/-! ## A time-of-day unit's message (R199) -/

/-- A time-of-day unit that has sent a message: told of, numbered and counted. -/
def State.todSent (s : State) (k : Nat) (msg : List Byte) (noEdge : Bool) (at_ : Int) : State :=
  let s := { s with out := .tod k msg :: s.out }
  let s := (s.put (Reg.TOD_LAST_SEQ k) (s.var (.todSeq k)).toNat).putB (Reg.TOD_LAST_NO_EDGE k) noEdge
  let s := (s.setVar (.todSeq k) ((s.var (.todSeq k) + 1) % 256)).setVar (.todLast k) at_
  (s.bump (Reg.TOD_SENT_COUNT k)).pmcEvent 1 0x12

theorem todSent_shows (s : State) (k : Nat) (msg : List Byte) (noEdge : Bool) (at_ : Int) :
    let t := s.todSent k msg noEdge at_
    t.out = .tod k msg :: s.out ∧ t.var (.todSeq k) = (s.var (.todSeq k) + 1) % 256 ∧ t.var (.todLast k) = at_ ∧
      t.get (Reg.TOD_SENT_COUNT k) = (s.get (Reg.TOD_SENT_COUNT k) + 1) % 2 ^ 32 ∧ t.tc = s.tc := by
  unfold State.todSent
  extract_lets s1 s2 s3 t
  have hquiet : Quiet (s3.bump (Reg.TOD_SENT_COUNT k)) t := pmcEvent_quiet _ _ _ _ (by decide)
  have hcount : s3.get (Reg.TOD_SENT_COUNT k) = s.get (Reg.TOD_SENT_COUNT k) :=
    (State.get_put_ne _ _ (by simp)).trans (State.get_put_ne _ _ (by simp))
  refine ⟨hquiet.out, ?_, ?_, ?_, hquiet.tc⟩
  · rw [hquiet.vars _ (by simp [bookVars])]
    exact (State.var_setVar_ne _ _ (by simp)).trans (State.var_setVar_same _ _ _)
  · rw [hquiet.vars _ (by simp [bookVars])]
    exact State.var_setVar_same _ _ _
  · rw [hquiet.regs _ (outKey_notMem_bookkeeping ?_), State.bump, State.get_put_same, hcount]
    · rfl
    · simp only [key_TOD_SENT_COUNT, todKey, clkKey]
      omega

theorem execTodMessage_eq (hk : k < 2) (hon : s.unitOn (0x1300 + k) = true) (hn : n = s.get (Reg.TOD_CFG_PULSE k)) :
    let u := (s.todSeries n).1
    let edge := (s.todSeries n).2
    execTodMessage k s = .next (if u.edge16 n edge ≤ s.var (.todLast k) then s
      else s.todSent k (u.todMessage k n edge) (! decide (s.outSt (16 + n) = 3 ∨ s.outSt (16 + n) = 4)) (u.edge16 n edge)) := by
  subst hn
  have hguard : ∀ at_ : Int, (1 < k ∨ ¬ s.unitOn (0x1300 + k) = true ∨ at_ ≤ s.var (.todLast k)) ↔ at_ ≤ s.var (.todLast k) := by
    intro at_
    simp only [hon, not_true_eq_false, false_or]
    omega
  exact congrArg _ (if_congr (hguard _) rfl rfl)

theorem todMessage_sends (hk : k < 2) (hn : n = s.get (Reg.TOD_CFG_PULSE k)) (hon : s.unitOn (0x1300 + k) = true) :
    ∃ t, exec (.todMessage k) s = .next t ∧
      let u := (s.todSeries n).1
      let edge := (s.todSeries n).2
      if s.var (.todLast k) < u.edge16 n edge then t.out = .tod k (u.todMessage k n edge) :: s.out ∧
        t.var (.todSeq k) = (s.var (.todSeq k) + 1) % 256 ∧ t.var (.todLast k) = u.edge16 n edge ∧
        t.get (Reg.TOD_SENT_COUNT k) = (s.get (Reg.TOD_SENT_COUNT k) + 1) % 2 ^ 32 ∧ t.tc = s.tc
      else t = s := by
  refine ⟨_, execTodMessage_eq hk hon hn, ?_⟩
  intro u edge
  by_cases hnew : s.var (.todLast k) < u.edge16 n edge
  · rw [if_pos hnew, if_neg (not_le.2 hnew)]
    exact todSent_shows _ _ _ _ _
  · rw [if_neg hnew, if_pos (not_lt.1 hnew)]

end

/-- Settles O19: OUT_ALIGN by the first output it refuses, a walk by its one step, a pulse's edge by the state its pulse in hand ends in, and a
message by the series it is made from. -/
theorem outputs : Obligations.Outputs := by
  unfold Obligations.Outputs
  exact ⟨fun s c mask method rate hr => ⟨fun hout => ⟨_, rfl, outAlign_outOfRange hr hout⟩, fun hmask hmask' hmethod hrate =>
      ⟨fun i hi hbit hrefused hfirst =>
          have ⟨st, hst, hends⟩ := outAlign_refused hmask hmask' hmethod hrate hr hi hbit hrefused hfirst
          ⟨_, st, rfl, hst, hends⟩,
        fun hall => ⟨_, rfl, outAlign_aligns hmask hmask' hmethod hrate hr hall⟩,
        fun i hi hmask_eq hwait hlocked => ⟨_, rfl, hmask_eq ▸ outAlign_startsClock hr hmethod hrate hi hwait hlocked⟩⟩⟩,
    fun s => ⟨fun i hi halign hwalk hdue => clockWalkStep_walks hi halign hwalk hdue, fun n hn hruns halign => pulseEdge_emits hn hruns halign,
      fun k n hk hn hon => todMessage_sends hk hn hon⟩⟩

end Sys2Proof.Machine
end

section
/-! PROOFS. The baseband's channels (R211, R212, R216): where their registers lie, and what the withdrawal of a search, the loss of the locks, a
change of state and the engines' next searches leave alone. -/

namespace Sys2Proof.Machine

section

variable {s t : State} {f : Fld} {n : Nat}

/-! ## The registers of the baseband -/

/-- Where the keys of the baseband's registers begin, those of a channel's, and those of an acquisition engine's. -/
def gnbKey : Nat := 0x3000000
@[inherit_doc gnbKey] def chKey (n : Nat) : Nat := 0x3020000 + 0x400 * n
@[inherit_doc gnbKey] def acqKey (k : Nat) : Nat := 0x3060000 + 0x200 * k

@[simp] theorem key_CH_STATUS_STATE (n : Nat) : (Reg.CH_STATUS_STATE n).key = chKey n := by simp only [Fld.key, Reg.CH_STATUS_STATE, chKey]; omega
@[simp] theorem key_CH_STATUS_EXCLUDE (n : Nat) : (Reg.CH_STATUS_EXCLUDE n).key = chKey n + 16 := by simp only [Fld.key, Reg.CH_STATUS_EXCLUDE, chKey]; omega
@[simp] theorem key_CH_STATUS_CODE_LOCK (n : Nat) : (Reg.CH_STATUS_CODE_LOCK n).key = chKey n + 24 := by simp only [Fld.key, Reg.CH_STATUS_CODE_LOCK, chKey]; omega
@[simp] theorem key_CH_STATUS_CARRIER_LOCK (n : Nat) : (Reg.CH_STATUS_CARRIER_LOCK n).key = chKey n + 25 := by simp only [Fld.key, Reg.CH_STATUS_CARRIER_LOCK, chKey]; omega
@[simp] theorem key_CH_STATUS_USED (n : Nat) : (Reg.CH_STATUS_USED n).key = chKey n + 26 := by simp only [Fld.key, Reg.CH_STATUS_USED, chKey]; omega
@[simp] theorem key_CH_CN0_CN0 (n : Nat) : (Reg.CH_CN0_CN0 n).key = chKey n + 128 := by simp only [Fld.key, Reg.CH_CN0_CN0, chKey]; omega
@[simp] theorem key_CH_DOPPLER_DOPPLER (n : Nat) : (Reg.CH_DOPPLER_DOPPLER n).key = chKey n + 256 := by simp only [Fld.key, Reg.CH_DOPPLER_DOPPLER, chKey]; omega
@[simp] theorem key_CH_RESID_RESIDUAL (n : Nat) : (Reg.CH_RESID_RESIDUAL n).key = chKey n + 512 := by simp only [Fld.key, Reg.CH_RESID_RESIDUAL, chKey]; omega
@[simp] theorem key_CH_SLIPS_COUNT (n : Nat) : (Reg.CH_SLIPS_COUNT n).key = chKey n + 640 := by simp only [Fld.key, Reg.CH_SLIPS_COUNT, chKey]; omega
@[simp] theorem key_ACQ_STATUS_BUSY (k : Nat) : (Reg.ACQ_STATUS_BUSY k).key = acqKey k := by simp only [Fld.key, Reg.ACQ_STATUS_BUSY, acqKey]; omega
@[simp] theorem key_ACQ_STATUS_AIDED (k : Nat) : (Reg.ACQ_STATUS_AIDED k).key = acqKey k + 1 := by simp only [Fld.key, Reg.ACQ_STATUS_AIDED, acqKey]; omega
@[simp] theorem key_ACQ_STATUS_CHANNEL (k : Nat) : (Reg.ACQ_STATUS_CHANNEL k).key = acqKey k + 8 := by simp only [Fld.key, Reg.ACQ_STATUS_CHANNEL, acqKey]; omega
@[simp] theorem key_ACQ_STATUS_SIG (k : Nat) : (Reg.ACQ_STATUS_SIG k).key = acqKey k + 16 := by simp only [Fld.key, Reg.ACQ_STATUS_SIG, acqKey]; omega
@[simp] theorem key_ACQ_STATUS_SVID (k : Nat) : (Reg.ACQ_STATUS_SVID k).key = acqKey k + 24 := by simp only [Fld.key, Reg.ACQ_STATUS_SVID, acqKey]; omega

/-- The registers of the baseband lie past all that logging and counting write. -/
theorem gnb_notMem_bookkeeping (hf : gnbKey ≤ f.key) : f.key ∉ bookkeeping :=
  tdc_notMem_bookkeeping (k := 0) (le_trans (by decide) hf)

/-- A register of channel n: its key lies in the channel's block. -/
def Fld.ofChannel (f : Fld) (n : Nat) : Prop := chKey n ≤ f.key ∧ f.key < chKey n + 0x400

theorem Fld.ofChannel.above (hf : f.ofChannel n) : chKey 0 ≤ f.key := by
  have h := hf.1
  unfold chKey at h ⊢
  omega

theorem Fld.ofChannel.notMem_bookkeeping (hf : f.ofChannel n) : f.key ∉ bookkeeping :=
  gnb_notMem_bookkeeping (le_trans (by decide) hf.above)

theorem Fld.ofChannel.lt_acqKey (hf : f.ofChannel n) (hn : n < 192) : f.key < acqKey 0 := by
  have h := hf.2
  unfold chKey at h
  unfold acqKey
  omega

theorem Fld.ofChannel.ne_CH_TRACK (hf : f.ofChannel n) : f.key ≠ Reg.GNB_STATUS_CH_TRACK.key :=
  ((by decide : Reg.GNB_STATUS_CH_TRACK.key < chKey 0).trans_le hf.above).ne'

theorem ofChannel_STATE (n : Nat) : (Reg.CH_STATUS_STATE n).ofChannel n := by simp [Fld.ofChannel]

theorem ofChannel_SLIPS (n : Nat) : (Reg.CH_SLIPS_COUNT n).ofChannel n := by simp [Fld.ofChannel]

/-! ## Searches (R212) -/

theorem ne_of_lt_acqKey (hf : f.key < acqKey 0) {k j : Nat} : f.key ≠ acqKey k + j := by
  unfold acqKey at *
  omega

theorem get_beginSearch (hf : f.key < acqKey 0) (s : State) (k m : Nat) : (s.beginSearch k m).get f = s.get f := by
  have hput : ∀ (u : State) (g : Fld) (v : Nat) {j : Nat}, g.key = acqKey k + j → (u.put g v).get f = u.get f := fun u g v j hg =>
    State.get_put_ne u v (hg ▸ ne_of_lt_acqKey hf)
  exact (hput _ _ _ (key_ACQ_STATUS_SVID k)).trans ((hput _ _ _ (key_ACQ_STATUS_SIG k)).trans ((hput _ _ _ (key_ACQ_STATUS_CHANNEL k)).trans
    ((hput _ _ _ (key_ACQ_STATUS_AIDED k)).trans (hput _ _ _ (j := 0) (key_ACQ_STATUS_BUSY k)))))

theorem get_dispatchSearch (hf : f.key < acqKey 0) (s : State) : s.dispatchSearch.get f = s.get f := by
  refine view_foldl (State.get · f) (fun s k => view_ite (State.get · f) ?_ rfl) s _
  split
  · exact get_beginSearch hf _ _ _
  · rfl

theorem get_freeAcq (hf : f.key < acqKey 0) (s : State) (k : Nat) : (s.freeAcq k).get f = s.get f :=
  State.get_put_ne _ _ (by simpa using ne_of_lt_acqKey hf (j := 0))

theorem get_dropSearch (hf : f.key < acqKey 0) (s : State) (m : Nat) : (s.dropSearch m).get f = s.get f := by
  refine view_foldl (State.get · f) (fun s k => ?_) _ _
  split
  · exact view_ite (State.get · f) (get_freeAcq hf s k) rfl
  · rfl

/-! ## Locks and states (R216) -/

/-- Of the registers, the loss of a channel's locks changes CARRIER_LOCK, CODE_LOCK, USED and the losses counted. -/
theorem get_clearLocks (s : State) {m : Nat} (hcarrier : f.key ≠ chKey m + 25) (hslips : f.key ≠ chKey m + 640) (hcode : f.key ≠ chKey m + 24)
    (hused : f.key ≠ chKey m + 26) : (s.clearLocks m).get f = s.get f := by
  have hlose : (s.loseCarrier m).get f = s.get f := by
    unfold State.loseCarrier
    refine view_ite (State.get · f) rfl ?_
    exact (State.get_put_ne _ _ (by simpa using hslips)).trans (State.get_put_ne _ _ (by simpa using hcarrier))
  exact (State.get_put_ne _ _ (by simpa using hused)).trans ((State.get_put_ne _ _ (by simpa using hcode)).trans hlose)

/-- A channel without carrier lock has none to lose: the losses counted stay as they are. -/
theorem slips_clearLocks (s : State) (h : s.get (Reg.CH_STATUS_CARRIER_LOCK n) = 0) :
    (s.clearLocks n).get (Reg.CH_SLIPS_COUNT n) = s.get (Reg.CH_SLIPS_COUNT n) := by
  have hlose : s.loseCarrier n = s := if_pos h
  refine (State.get_put_ne _ _ (by simp)).trans ((State.get_put_ne _ _ (by simp)).trans ?_)
  rw [hlose]

theorem get_chTo (s : State) {m st : Nat} (hb : f.key ∉ bookkeeping) (hstate : f.key ≠ chKey m) (htrack : f.key ≠ Reg.GNB_STATUS_CH_TRACK.key) :
    (s.chTo m st).get f = s.get f := by
  unfold State.chTo
  refine view_ite (State.get · f) rfl (((raise_quiet_of_sticky_none rfl _ _ _).regs f hb).trans ?_)
  exact (State.get_put_ne _ _ htrack).trans (State.get_put_ne _ _ (by simpa using hstate))

theorem state_chTo (s : State) (n : Nat) {st : Nat} (hst : st < 8) : (s.chTo n st).get (Reg.CH_STATUS_STATE n) = st := by
  unfold State.chTo
  extract_lets old
  split
  · assumption
  · refine ((raise_quiet_of_sticky_none rfl _ _ _).regs _ (ofChannel_STATE n).notMem_bookkeeping).trans ?_
    refine (State.get_put_ne _ _ (ofChannel_STATE n).ne_CH_TRACK).trans ((State.get_put_same _ _ _).trans ?_)
    exact Nat.mod_eq_of_lt hst

/-- A channel's register but its STATE is left alone when its search begins again. -/
theorem get_toSearch (s : State) {st : Nat} (hf : f.ofChannel n) (hn : n < 192) (hstate : f.key ≠ chKey n) : (s.toSearch n st).get f = s.get f := by
  have hgo : ((s.dropSearch n).chTo n st).get f = s.get f := by
    rw [get_chTo _ hf.notMem_bookkeeping hstate hf.ne_CH_TRACK, get_dropSearch (hf.lt_acqKey hn)]
  unfold State.toSearch
  rw [get_dispatchSearch (hf.lt_acqKey hn), ← hgo]
  rfl

end

end Sys2Proof.Machine
end

section
/-! PROOFS. What happens to a GNSS channel (R207, R208, R212, R215, R216). -/

namespace Sys2Proof.Machine

/-- At PULL_IN's deadline a channel whose carrier was never locked keeps its losses counted as they are (R216). -/
theorem pullinTimeExpiry_keeps_slips {s : State} {n : Nat} (hn : n < 192) (hst : s.chSt n = 2) (hdue : s.due (.pullIn n) = true)
    (hcarrier : s.get (Reg.CH_STATUS_CARRIER_LOCK n) = 0) :
    ∃ t, exec (.pullinTimeExpiry n) s = .next t ∧ t.get (Reg.CH_SLIPS_COUNT n) = s.get (Reg.CH_SLIPS_COUNT n) := by
  have hexec : exec (.pullinTimeExpiry n) s = .next ((s.clearLocks n).toSearch n 1) := by
    show execPullinTimeExpiry n s = _
    rw [execPullinTimeExpiry, if_pos ⟨by omega, hst, hdue⟩]
  refine ⟨_, hexec, ?_⟩
  rw [get_toSearch _ (ofChannel_SLIPS n) hn (by simp), slips_clearLocks s hcarrier]

/-- Channel 0 in PULL_IN at its deadline, its carrier not locked, with a count of losses beyond the 32 bits of CH_SLIPS. -/
def overfullSlips : State :=
  { State.reset with
    units := [(chHid 0, ⟨.enabled, 0, 0, none, chHid 0⟩)]
    timers := [(.pullIn 0, 0)]
    regs := [((Reg.CH_STATUS_STATE 0).key, 2), ((Reg.CH_SLIPS_COUNT 0).key, 2 ^ 32)] }

/-- Refutes O21: a state is plain data, and nothing in the statement holds CH_SLIPS within its 32 bits. A channel whose carrier was never locked
keeps its count of losses at PULL_IN's deadline as it is, where the statement says it is cut to 32 bits; the two differ where it holds 2^32. -/
theorem not_gnssChannels : ¬ Obligations.GnssChannels := by
  unfold Obligations.GnssChannels
  intro h
  obtain ⟨-, -, -, hexpiry, -⟩ := h overfullSlips 0 (by decide)
  have hst : overfullSlips.chSt 0 = 2 := by decide
  have hdue : overfullSlips.due (.pullIn 0) = true := by decide
  obtain ⟨t, ht, -, -, -, -, -, hclaim⟩ := hexpiry hst hdue
  obtain ⟨u, hu, hkept⟩ := pullinTimeExpiry_keeps_slips (by decide) hst hdue (by decide)
  obtain rfl : t = u := Host.Outcome.next.inj (ht.symm.trans hu)
  rw [hkept] at hclaim
  exact absurd hclaim (by decide)

end Sys2Proof.Machine
end

section
/-! PROOFS. The baseband's commands (R214, R223, R228 to R230): GNSS_POS_SET, GNSS_NAV_LOAD, GNSS_NAV_READ and GNSS_COLD_START. -/

namespace Sys2Proof.Machine

section

variable {s t : State} {c : Ctx} {n : Nat}

theorem gnssSelected_fetch (s : State) (c : Ctx) : (s.fetch c).gnssSelected = s.gnssSelected := by
  obtain ⟨h, r, e⟩ := fetch_eq s c
  rw [e]
  rfl

/-! ## GNSS_POS_SET (R223, R230) -/

/-- What GNSS_POS_SET takes: a survey of 600 s to a day, or a position near the Earth's surface with its uncertainty. -/
def posInRange (mode : Nat) (x y z : Int) (posU time : Nat) : Prop :=
  (mode = 1 ∧ 600 ≤ time ∧ time ≤ 86400) ∨ (mode = 2 ∧ 6300000000 ^ 2 ≤ (x * x + y * y + z * z).toNat ∧
    (x * x + y * y + z * z).toNat ≤ 6400000000 ^ 2 ∧ posU < 2 ^ 32)

/-- A survey begun, or the held position set. -/
def State.posSet (f : State) (mode : Nat) (x y z : Int) (posU time : Nat) : State :=
  if mode = 1 then { ((f.put Reg.GNB_STATUS_POS_STATE 1).put Reg.GNB_SURVEY_SURVEY_TIME time).put Reg.GNB_SURVEY_DONE_ELAPSED 0 with
    gnss := { f.gnss with sx := 0, sy := 0, sz := 0, sq := 0 } }
  else ((((f.putI64 Reg.GNB_POS_X_LO_X_LO Reg.GNB_POS_X_HI_X_HI x).putI64 Reg.GNB_POS_Y_LO_Y_LO Reg.GNB_POS_Y_HI_Y_HI y).putI64
    Reg.GNB_POS_Z_LO_Z_LO Reg.GNB_POS_Z_HI_Z_HI z).put Reg.GNB_POS_U_POS_U posU).put Reg.GNB_STATUS_POS_STATE 2

section

variable {mode posU time : Nat} {x y z : Int}

theorem gnssPosSetEff_outOfRange (h : ¬ posInRange mode x y z posU time) (role : Nat) (s : State) :
    gnssPosSetEff mode x y z posU time role s = ⟨s, some Status.range, 0⟩ := by
  unfold posInRange at h
  unfold gnssPosSetEff
  extract_lets r2
  split_ifs
  · rfl
  · rfl
  · rfl
  · omega
  · omega

theorem gnssPosSetEff_inRange (h : posInRange mode x y z posU time) (role : Nat) (s : State) :
    gnssPosSetEff mode x y z posU time role s = if s.gnssSelected then ⟨s, some Status.busy, 0⟩ else
      ⟨(s.posSet mode x y z posU time).change role 0x2E00 0x0802 0x180040 (s.get Reg.GNB_STATUS_POS_STATE) mode, some Status.ok, 0⟩ := by
  unfold posInRange at h
  unfold gnssPosSetEff
  extract_lets r2
  rw [if_neg (by omega), if_neg (by omega), if_neg (by omega)]
  rfl

theorem gnssPosSet_ends (hr : Ready s c opGnssPosSet) : let t := s.runCmd c opGnssPosSet [mode, x, y, z, posU, time] (gnssPosSetEff mode x y z posU time)
    (posInRange mode x y z posU time → if s.gnssSelected then Ends s c opGnssPosSet Status.busy 0 id t
      else Ends s c opGnssPosSet Status.ok 0 (fun f => f.posSet mode x y z posU time) t) ∧
    (¬ posInRange mode x y z posU time → Ends s c opGnssPosSet Status.range 0 id t) := by
  refine ⟨fun h => ?_, fun h => runCmd_refused hr (gnssPosSetEff_outOfRange h _ _)⟩
  have heff := gnssPosSetEff_inRange h (s.sessionRole c.ring c.session) (s.fetch c)
  rw [gnssSelected_fetch] at heff
  split
  · next hsel => exact runCmd_refused hr (heff.trans (if_pos hsel))
  · next hsel => exact runCmd_answers hr (heff.trans (if_neg hsel)) (change_quiet _ _ _ _ _ _ _)

end

/-! ## GNSS_NAV_LOAD (R228, R229) -/

theorem navReject_of_tc (h : t.tc = s.tc) (r : NavRec) : t.navReject r = s.navReject r := by
  have hlinear : t.linear = s.linear := by rw [State.linear, State.ns, h, State.linear, State.ns]
  rw [State.navReject, State.navFar, hlinear, State.navReject, State.navFar]

theorem takeLoaded_tc (s : State) (r : NavRec) : (s.takeLoaded r).tc = s.tc := by
  unfold State.takeLoaded
  split
  · split
    · rfl
    · exact raise_tc _ _ _ _
  · rfl

/-- A load counts each record once, and as rejected those that the time at its start rejects: no record taken moves it. -/
theorem loadNav_counts (rs : List NavRec) (s : State) (k : Nat × Nat) :
    (State.loadNav s k rs).2.1 + (State.loadNav s k rs).2.2 = k.1 + k.2 + rs.length ∧
      (State.loadNav s k rs).2.2 = k.2 + (rs.filter fun r => (s.navReject r).isSome).length := by
  induction rs generalizing s k with
  | nil => exact ⟨rfl, rfl⟩
  | cons r rs ih =>
    have hnext : ∀ u : State, u.tc = s.tc → (fun r => (u.navReject r).isSome) = fun r => (s.navReject r).isSome :=
      fun u hu => funext fun r => by rw [navReject_of_tc hu]
    unfold State.loadNav
    cases hr : s.navReject r with
    | some cause =>
      obtain ⟨hsum, hbad⟩ := ih (s.raise (evGnb 3 .warning 0x2E00) [i1 r.const, i1 r.svid, i1 r.typ, i1 cause]) (k.1, k.2 + 1)
      rw [hnext _ (raise_tc _ _ _ _)] at hbad
      rw [List.filter_cons_of_pos (by simp [hr]), List.length_cons, List.length_cons]
      exact ⟨by rw [hsum]; omega, by rw [hbad]; omega⟩
    | none =>
      obtain ⟨hsum, hbad⟩ := ih (s.takeLoaded r) (k.1 + 1, k.2)
      rw [hnext _ (takeLoaded_tc _ _)] at hbad
      rw [List.filter_cons_of_neg (by simp [hr]), List.length_cons]
      exact ⟨by rw [hsum]; omega, hbad⟩

section

variable {addr len : Nat}

theorem gnssNavLoad_noDma (hr : Ready s c opGnssNavLoad) (hdma : c.dmaOk = false) :
    Ends s c opGnssNavLoad Status.dmaError 0 id (s.runCmd c opGnssNavLoad [] (gnssNavLoadEff c.dmaOk addr len)) :=
  runCmd_refused hr (if_pos (by simp [hdma]))

theorem gnssNavLoad_malformed (hr : Ready s c opGnssNavLoad) (hdma : c.dmaOk = true) (hparse : parseNav (len + 1) (memRead s.mem addr len) = none) :
    Ends s c opGnssNavLoad Status.range 0 id (s.runCmd c opGnssNavLoad [] (gnssNavLoadEff c.dmaOk addr len)) := by
  refine runCmd_refused hr ?_
  rw [gnssNavLoadEff, if_neg (by simp [hdma]), fetch_mem, hparse]

theorem gnssNavLoad_loads {rs : List NavRec} (hr : Ready s c opGnssNavLoad) (hdma : c.dmaOk = true)
    (hparse : parseNav (len + 1) (memRead s.mem addr len) = some rs) (hlen : 0 < len) (htyp : ∀ r ∈ rs, r.typ ≤ 2) :
    ∃ ok bad, ok + bad = rs.length ∧ bad = (rs.filter fun r => (s.navReject r).isSome).length ∧
      Ends s c opGnssNavLoad Status.ok (ok + 2 ^ 32 * bad) (fun f => (State.loadNav f (0, 0) rs).1)
        (s.runCmd c opGnssNavLoad [] (gnssNavLoadEff c.dmaOk addr len)) := by
  obtain ⟨hsum, hbad⟩ := loadNav_counts rs (s.fetch c) (0, 0)
  have htime : (fun r => ((s.fetch c).navReject r).isSome) = fun r => (s.navReject r).isSome :=
    funext fun r => by rw [navReject_of_tc (fetch_tc s c)]
  rw [htime] at hbad
  have hwell : ¬ (len = 0 ∨ (rs.any fun r => decide (2 < r.typ)) = true) := by
    simp only [List.any_eq_true, decide_eq_true_iff, not_or, not_exists, not_and]
    exact ⟨by omega, fun r hmem => by have := htyp r hmem; omega⟩
  refine ⟨_, _, hsum.trans (by simp), hbad.trans (by simp), runCmd_answers hr ?_ (.refl _)⟩
  rw [gnssNavLoadEff, if_neg (by simp [hdma]), fetch_mem, hparse]
  exact if_neg hwell

end

/-! ## GNSS_NAV_READ (R229) -/

/-- The records GNSS_NAV_READ writes: all, or those of one TYPE. -/
def State.navBytes (s : State) (sel : Nat) : List Byte := (s.gnss.nav.filter fun r => sel = 0 ∨ r.typ + 1 = sel).flatMap NavRec.bytes

theorem gnssNavRead_ends {addr len sel : Nat} (hr : Ready s c opGnssNavRead) :
    let t := s.runCmd c opGnssNavRead [] (gnssNavReadEff c.dmaOk addr len sel)
    let bs := s.navBytes sel
    if 3 < sel then Ends s c opGnssNavRead Status.range 0 id t
    else if len < bs.length then Ends s c opGnssNavRead Status.range bs.length id t
    else if c.dmaOk = false then Ends s c opGnssNavRead Status.dmaError 0 id t
    else Ends s c opGnssNavRead Status.ok bs.length (fun f => f.dmaWrite addr bs) t := by
  intro t bs
  have hbs : (s.fetch c).navBytes sel = bs := by rw [State.navBytes, fetch_gnss]; rfl
  have heff : gnssNavReadEff c.dmaOk addr len sel (s.sessionRole c.ring c.session) (s.fetch c) =
      if 3 < sel then ⟨s.fetch c, some Status.range, 0⟩ else if len < bs.length then ⟨s.fetch c, some Status.range, bs.length⟩
      else if ¬ c.dmaOk then ⟨s.fetch c, some Status.dmaError, 0⟩ else ⟨(s.fetch c).dmaWrite addr bs, some Status.ok, bs.length⟩ := by
    rw [← hbs]
    rfl
  by_cases hsel : 3 < sel
  · rw [if_pos hsel] at heff ⊢
    exact runCmd_refused hr heff
  rw [if_neg hsel] at heff ⊢
  by_cases hlen : len < bs.length
  · rw [if_pos hlen] at heff ⊢
    exact runCmd_refused hr heff
  rw [if_neg hlen] at heff ⊢
  cases hdma : c.dmaOk with
  | false => exact runCmd_refused hr (heff.trans (if_pos (by simp [hdma])))
  | true => exact runCmd_answers (v := fun f => f.dmaWrite addr bs) hr (heff.trans (if_neg (by simp [hdma]))) (.refl _)

/-! ## GNSS_COLD_START (R214, R216, R230) -/

/-- The navigation data the baseband holds: its records, what UTC data it decoded, and what it acted on (R225, R228). -/
def State.navData (s : State) : List NavRec × AMap (Nat × Nat) UtcData × Option UtcData := (s.gnss.nav, s.gnss.utc, s.gnss.acted)

theorem navData_releaseCh (s : State) (n : Nat) : (s.releaseCh n).navData = s.navData := by
  have hdrop : (s.dropSearch n).navData = s.navData := by
    refine view_foldl State.navData (fun s k => ?_) _ _
    split
    · exact view_ite State.navData rfl rfl
    · rfl
  have hclear : ∀ u : State, (u.clearLocks n).navData = u.navData := by
    intro u
    have hlose : (u.loseCarrier n).navData = u.navData := view_ite State.navData rfl rfl
    exact hlose
  have hto : ∀ u : State, (u.chTo n 0).navData = u.navData := fun u =>
    view_ite State.navData rfl (by simp only [State.navData, State.chEvent, raise_gnss]; rfl)
  have hdispatch : ∀ u : State, u.dispatchSearch.navData = u.navData := by
    refine fun u => view_foldl State.navData (fun s k => view_ite State.navData ?_ rfl) u _
    split
    · rfl
    · rfl
  unfold State.releaseCh
  refine view_ite State.navData rfl ?_
  rw [hdispatch, hto, hclear, hdrop]

/-- A channel released is OFF, and every other channel in the state it was in. -/
theorem state_releaseCh (s : State) {m : Nat} (hm : m < 192) (n : Nat) :
    (s.releaseCh n).get (Reg.CH_STATUS_STATE m) = if m = n then 0 else s.get (Reg.CH_STATUS_STATE m) := by
  have hacq := (ofChannel_STATE m).lt_acqKey hm
  unfold State.releaseCh
  by_cases hoff : s.get (Reg.CH_STATUS_STATE n) = 0
  · rw [if_pos hoff]
    split
    · next h => rw [h, hoff]
    · rfl
  rw [if_neg hoff, get_dispatchSearch hacq]
  split
  · next h => rw [h, state_chTo _ _ (by decide)]
  · next h =>
    have hkey : ∀ i, i < 0x400 → chKey m ≠ chKey n + i := by
      intro i hi
      unfold chKey
      omega
    rw [get_chTo _ (ofChannel_STATE m).notMem_bookkeeping (by simpa using hkey 0 (by decide)) (ofChannel_STATE m).ne_CH_TRACK,
      get_clearLocks _ (by simpa using hkey 25 (by decide)) (by simpa using hkey 640 (by decide)) (by simpa using hkey 24 (by decide))
        (by simpa using hkey 26 (by decide)), get_dropSearch hacq]

/-- Every channel released: those of the list are OFF. -/
theorem state_releaseAll (l : List Nat) (s : State) {m : Nat} (hm : m < 192) (h : m ∈ l ∨ s.get (Reg.CH_STATUS_STATE m) = 0) :
    (l.foldl (fun s n => s.releaseCh n) s).get (Reg.CH_STATUS_STATE m) = 0 := by
  induction l generalizing s with
  | nil => exact h.resolve_left (List.not_mem_nil)
  | cons n l ih =>
    refine ih _ ?_
    rw [state_releaseCh s hm]
    by_cases hmn : m = n
    · exact .inr (if_pos hmn)
    · rw [if_neg hmn]
      exact h.imp_left fun hmem => (List.mem_cons.1 hmem).resolve_left hmn

/-- The state that has forgotten its navigation data, with every channel OFF. -/
def State.forgot (s : State) : State :=
  allChans.foldl (fun s n => s.releaseCh n) { s with gnss := { s.gnss with nav := [], utc := [], acted := none } }

theorem forgot_shows (s : State) : s.forgot.navData = ([], [], none) ∧ s.forgot.tc = s.tc ∧
    ∀ n, n < 192 → s.forgot.get (Reg.CH_STATUS_STATE n) = 0 := by
  unfold State.forgot
  refine ⟨?_, ?_, fun n hn => state_releaseAll allChans _ hn (.inl (List.mem_range.2 hn))⟩
  · rw [view_foldl State.navData navData_releaseCh]
    rfl
  · rw [view_foldl State.tc fun s n => congrArg (fun h => h.2.1) (held_releaseCh s n)]

theorem gnssColdStartEff_free (h : ¬ s.gnssSelected = true) (role : Nat) :
    gnssColdStartEff role s = ⟨s.forgot.restartTtff.change role 0x2E00 0x0805 noOffset 0 0, some Status.ok, 0⟩ := by
  unfold gnssColdStartEff State.forgot
  rw [if_neg h]

theorem gnssColdStart_starts (hr : Ready s c opGnssColdStart) : let t := s.runCmd c opGnssColdStart [] gnssColdStartEff
    if s.gnssSelected then Ends s c opGnssColdStart Status.busy 0 id t
    else t.gnss.nav = [] ∧ t.gnss.utc = [] ∧ t.gnss.acted = none ∧ t.get Reg.GNB_TTFF_TTFF = 2 ^ 32 - 1 ∧ t.var .gnssStart = s.runNs ∧
      t.tc = s.tc ∧ ∀ n, n < 192 → t.get (Reg.CH_STATUS_STATE n) = 0 := by
  intro t
  by_cases hsel : s.gnssSelected = true
  · rw [if_pos hsel]
    exact runCmd_refused hr (if_pos ((gnssSelected_fetch s c).trans hsel))
  rw [if_neg hsel]
  have heff := gnssColdStartEff_free (s := s.fetch c) (by rwa [gnssSelected_fetch]) (s.sessionRole c.ring c.session)
  have hrun := runCmd_apart hr [] gnssColdStartEff heff rfl
  obtain ⟨hnav, htc, hstates⟩ := forgot_shows (s.fetch c)
  rw [fetch_tc] at htc
  generalize (s.fetch c).forgot = u at hrun hnav htc hstates
  have hleft : Apart u.restartTtff t := (change_quiet _ _ _ _ _ _ _).apart.trans hrun
  have hdata : t.navData = ([], [], none) := by
    rw [State.navData, hleft.gnss]
    exact hnav
  simp only [State.navData, Prod.mk.injEq] at hdata
  obtain ⟨hrecs, hutc, hacted⟩ := hdata
  refine ⟨hrecs, hutc, hacted, ?_, ?_, hleft.tc.trans htc, fun n hn => ?_⟩
  · rw [hleft.regs _ (by decide)]
    exact State.get_put_same _ _ _
  · rw [hleft.vars _ (by decide), ← show u.runNs = s.runNs by rw [State.runNs, htc, State.runNs]]
    exact State.var_setVar_same _ _ _
  · rw [hleft.regs _ (ofChannel_STATE n).notMem_bookkeeping, ← hstates n hn]
    exact State.get_put_ne _ _ ((by decide : Reg.GNB_TTFF_TTFF.key < chKey 0).trans_le (ofChannel_STATE n).above).ne'

end

/-- Settles O20: each command by its own lemma. -/
theorem gnssCommands : Obligations.GnssCommands := by
  unfold Obligations.GnssCommands
  intro s c
  refine ⟨fun mode x y z posU time hr => ⟨_, rfl, ?_⟩, fun addr len parityBad tooOld hr => ⟨_, rfl, ?_⟩,
    fun addr len sel hr => ⟨_, _, rfl, rfl, gnssNavRead_ends hr⟩, fun hr => ⟨_, rfl, gnssColdStart_starts hr⟩⟩
  · obtain ⟨hin, hout⟩ := gnssPosSet_ends (mode := mode) (x := x) (y := y) (z := z) (posU := posU) (time := time) hr
    split
    · next h => exact hin h
    · next h => exact hout h
  · split
    · next hdma => exact gnssNavLoad_noDma hr hdma
    · next hdma =>
      have hdma' := Bool.eq_true_of_not_eq_false hdma
      exact ⟨gnssNavLoad_malformed hr hdma', fun rs hparse hlen htyp => gnssNavLoad_loads hr hdma' hparse hlen htyp⟩

end Sys2Proof.Machine
end

section
/-! PROOFS. Epochs, surveys and navigation data (R217, R218, R220, R223, R228): what a latch keeps and shows, the mean position held, and what
takes a navigation message's place. -/

namespace Sys2Proof.Machine

section

variable {s t : State} {f : Fld}

/-! ## Epochs (R217, R218, R220) -/

/-- What an epoch latches of a state beside its channels' measurements, and the time. -/
structure LatchKept (s t : State) : Prop where
  tc    : t.tc = s.tc
  units : t.units = s.units
  vars  : ∀ v : Var, v ∉ bookVars → t.var v = s.var v
  regs  : ∀ f : Fld, f.key ∉ bookkeeping → f.key ≠ Reg.GNB_MEAS_DROPPED_COUNT.key → f.key ≠ Reg.GNB_STICKY_STICKY.key → t.get f = s.get f

theorem LatchKept.refl (s : State) : LatchKept s s := ⟨rfl, rfl, fun _ _ => rfl, fun _ _ _ _ => rfl⟩

theorem dropEpoch_keeps (s : State) : LatchKept s s.dropEpoch := by
  unfold State.dropEpoch
  split
  · exact .refl s
  · extract_lets g u
    refine ⟨raise_tc _ _ _ _, raise_units _ _ _ _, fun v hv => var_raise u hv, fun f hb hcount hsticky => ?_⟩
    exact (get_raise_sticky u (e := evGnb 2 .warning 0x2E00) rfl hb hsticky).trans (State.get_put_ne _ _ hcount)

theorem abandonEpoch_keeps (s : State) : LatchKept s s.abandonEpoch := by
  unfold State.abandonEpoch
  split
  · obtain ⟨htc, hunits, hvars, hregs⟩ := dropEpoch_keeps { s with gnss := { s.gnss with latch := none } }
    exact ⟨htc, hunits, hvars, hregs⟩
  · exact .refl s

section

variable (h : LatchKept s t)

include h

theorem LatchKept.linear : t.linear = s.linear := by rw [State.linear, State.ns, h.tc, State.linear, State.ns]

theorem LatchKept.epochNow : t.epochNow = s.epochNow := by
  rw [State.epochNow, State.epochNs, h.linear, h.regs _ (by decide) (by decide) (by decide), State.epochNow, State.epochNs]

theorem LatchKept.epochOwes : t.epochOwes = s.epochOwes := by
  rw [State.epochOwes, h.tc, h.vars _ (by decide), State.epochOwes]

theorem LatchKept.mark : t.mark = s.mark := by
  rw [State.mark, State.at16, h.tc, h.vars _ (by decide), State.mark, State.at16]

theorem LatchKept.chSt {n : Nat} : t.chSt n = s.chSt n := by
  have hch := ofChannel_STATE n
  have hbelow : ∀ g : Fld, g.key < chKey 0 → (Reg.CH_STATUS_STATE n).key ≠ g.key := fun g hg => (hg.trans_le hch.above).ne'
  rw [State.chSt, State.unit, h.units, h.regs _ hch.notMem_bookkeeping (hbelow _ (by decide)) (hbelow _ (by decide)), State.chSt, State.unit]

end

/-- Where a measurement is of a channel, whoever brings it. -/
theorem measOf_ch (s : State) (ms : List ChMeas) (n : Nat) : (s.measOf ms n).ch = n := by
  unfold State.measOf
  split
  · next m hm => exact (of_decide_eq_true (List.find?_some hm :) : m.ch = n)
  · rfl

theorem latching_ch (s : State) (ms : List ChMeas) : ((s.latching ms).map s.snap).map (·.ch) = allChans.filter fun n => 2 ≤ s.chSt n ∧ s.chSt n ≤ 4 := by
  rw [State.latching, List.map_map, List.map_map]
  exact (List.map_congr_left fun n _ => measOf_ch s ms n).trans (List.map_id _)

/-- A channel latched changes its own registers and record. -/
theorem latched_keeps (s : State) (m : ChMeas) : (s.latched m).tc = s.tc ∧ (s.latched m).vars = s.vars ∧ (s.latched m).gnss.latch = s.gnss.latch ∧
    ∀ f : Fld, f.key < chKey 0 → (s.latched m).get f = s.get f := by
  refine ⟨rfl, rfl, rfl, fun f hf => (State.get_put_ne _ _ ?_).trans (State.get_put_ne _ _ ?_)⟩
  · rw [key_CH_DOPPLER_DOPPLER]
    unfold chKey at *
    omega
  · rw [key_CH_CN0_CN0]
    unfold chKey at *
    omega

theorem latchedAll_keeps (s : State) (live : List ChMeas) : let t := live.foldl (fun s m => s.latched m) s
    t.tc = s.tc ∧ (∀ v, t.var v = s.var v) ∧ t.gnss.latch = s.gnss.latch ∧ ∀ f : Fld, f.key < chKey 0 → t.get f = s.get f :=
  ⟨view_foldl State.tc (fun s m => (latched_keeps s m).1) _ _,
    fun v => congrArg (fun vs => (aget vs v).getD 0) (view_foldl State.vars (fun s m => (latched_keeps s m).2.1) s live),
    view_foldl (fun s => s.gnss.latch) (fun s m => (latched_keeps s m).2.2.1) _ _,
    fun f hf => view_foldl (State.get · f) (fun s m => (latched_keeps s m).2.2.2 f hf) _ _⟩

theorem linear_lt (s : State) : s.linear < 2 ^ 64 := Nat.mod_lt _ (by decide)

theorem epoch_latches (ms : List ChMeas) (hruns : s.gnssRuns = true) (hon : s.unitOn 0x2E00 = true) (hat : s.atEpoch = true) :
    ∃ t, exec (.epoch ms) s = .next t ∧
      (∃ l, t.gnss.latch = some l ∧ l.linear = s.linear ∧ l.frac = s.frac16 ∧ l.stepped = (s.epochOwes && decide (s.var .epochStep = 1)) ∧ l.run = s.runNs ∧
        l.rate = s.tc.rt ∧ l.mark = s.mark ∧ l.chans.map (·.ch) = allChans.filter fun n => 2 ≤ s.chSt n ∧ s.chSt n ≤ 4) ∧
      t.get Reg.GNB_EPOCH_NO_EPOCH_NO = (s.get Reg.GNB_EPOCH_NO_EPOCH_NO + 1) % 2 ^ 32 ∧
      t.get64 Reg.GNB_LATCH_LO_AT_LO Reg.GNB_LATCH_HI_AT_HI = s.linear ∧ t.var .epochLast = s.epochNow ∧ t.var .epochOwed = 0 ∧ t.tc = s.tc := by
  obtain ⟨t, ht⟩ : ∃ t, exec (.epoch ms) s = .next t := ⟨_, rfl⟩
  refine ⟨t, ht, ?_⟩
  replace ht : execEpoch ms s = .next t := ht
  have hgo : ¬ (¬ s.gnssRuns = true ∨ ¬ s.unitOn 0x2E00 = true ∨ ¬ s.atEpoch = true) := by simp [hruns, hon, hat]
  unfold execEpoch at ht
  rw [if_neg hgo] at ht
  extract_lets a live l g u v at ht
  have hkept : LatchKept s a := abandonEpoch_keeps s
  obtain ⟨htc, hvars, hlatch, hregs⟩ := latchedAll_keeps v live
  have hquiet : Quiet (live.foldl (fun s m => s.latched m) v) t := by
    rw [← Host.Outcome.next.inj ht]
    exact pmcEvent_quiet _ _ _ _ (by decide)
  have hnow : a.epochNow = s.epochNow := hkept.epochNow
  have hrun : a.runNs = s.runNs := by rw [State.runNs, hkept.tc, State.runNs]
  have hfrac : a.frac16 = s.frac16 := by rw [State.frac16, State.at16, hkept.tc, State.frac16, State.at16]
  have hchans : (fun n => decide (2 ≤ a.chSt n ∧ a.chSt n ≤ 4)) = fun n => decide (2 ≤ s.chSt n ∧ s.chSt n ≤ 4) :=
    funext fun n => by rw [hkept.chSt]
  refine ⟨⟨l, ?_, hkept.linear, hfrac, ?_, hrun, congrArg TimeCore.rt hkept.tc, hkept.mark, ?_⟩, ?_, ?_, ?_, ?_, hquiet.tc.trans (htc.trans hkept.tc)⟩
  · rw [hquiet.gnss, hlatch]
    rfl
  · show (a.epochOwes && decide (a.var .epochStep = 1)) = _
    rw [hkept.epochOwes, hkept.vars _ (by decide)]
  · exact (latching_ch a ms).trans (by rw [hchans])
  · rw [hquiet.regs _ (by decide), hregs _ (by decide), show v.get _ = _ from get_put64_ne _ _ (by decide) (by decide), State.bump, State.get_put_same,
      ← hkept.regs Reg.GNB_EPOCH_NO_EPOCH_NO (by decide) (by decide) (by decide)]
    rfl
  · rw [State.get64, hquiet.regs _ (by decide), hregs _ (by decide), hquiet.regs _ (by decide), hregs _ (by decide), ← hkept.linear]
    exact put64_regs_get64 _ (by decide) rfl rfl (linear_lt a)
  · rw [hquiet.vars _ (by decide), hvars, ← hnow]
    exact (State.var_setVar_ne _ _ (by decide)).trans (State.var_setVar_same _ _ _)
  · rw [hquiet.vars _ (by decide), hvars]
    exact State.var_setVar_same _ _ _

/-- At any other edge an epoch is not latched. -/
theorem epoch_waits (ms : List ChMeas) (h : ¬ (s.gnssRuns = true ∧ s.unitOn 0x2E00 = true ∧ s.atEpoch = true)) : exec (.epoch ms) s = .next s := by
  show execEpoch ms s = _
  unfold execEpoch
  rw [if_pos (by simpa only [not_and_or] using h)]

/-! ## Surveys (R223) -/

theorem get64_put_ne (s : State) {lo hi : Fld} (v : Nat) (h : ∀ k ∈ [lo.key, hi.key], k ≠ f.key) : (s.put f v).get64 lo hi = s.get64 lo hi := by
  rw [State.get64, State.get_put_ne _ _ (h _ (by simp)), State.get_put_ne _ _ (h _ (by simp)), State.get64]

theorem get64_put64_ne (s : State) {lo hi lo' hi' : Fld} (v : Nat) (h : ∀ k ∈ [lo.key, hi.key], k ≠ lo'.key ∧ k ≠ hi'.key) :
    (s.put64 lo' hi' v).get64 lo hi = s.get64 lo hi :=
  (get64_put_ne _ _ fun k hk => (h k hk).2).trans (get64_put_ne _ _ fun k hk => (h k hk).1)

/-- A 64-bit pair set to a signed number reads its two's complement. -/
theorem get64_putI64 (s : State) {lo hi : Fld} (x : Int) (hne : lo.key ≠ hi.key) (hlo : lo.width = 32) (hhi : hi.width = 32) :
    (s.putI64 lo hi x).get64 lo hi = toBits 64 x := by
  rw [State.putI64, hhi]
  refine put64_regs_get64 s hne hlo hhi ?_
  unfold toBits
  omega

theorem surveyDone_holds {n : Nat} (hn : n = s.get Reg.GNB_SURVEY_DONE_ELAPSED) (hsurvey : s.get Reg.GNB_STATUS_POS_STATE = 1) (hpos : 0 < n)
    (htime : s.get Reg.GNB_SURVEY_SURVEY_TIME ≤ n) :
    ∃ t, exec .surveyDone s = .next t ∧ t.get Reg.GNB_STATUS_POS_STATE = 2 ∧
      t.get64 Reg.GNB_POS_X_LO_X_LO Reg.GNB_POS_X_HI_X_HI = toBits 64 (roundDiv s.gnss.sx n) ∧
      t.get64 Reg.GNB_POS_Y_LO_Y_LO Reg.GNB_POS_Y_HI_Y_HI = toBits 64 (roundDiv s.gnss.sy n) ∧
      t.get64 Reg.GNB_POS_Z_LO_Z_LO Reg.GNB_POS_Z_HI_Z_HI = toBits 64 (roundDiv s.gnss.sz n) ∧ t.tc = s.tc := by
  obtain ⟨t, ht⟩ : ∃ t, exec .surveyDone s = .next t := ⟨_, rfl⟩
  refine ⟨t, ht, ?_⟩
  replace ht : execSurveyDone s = .next t := ht
  unfold execSurveyDone at ht
  rw [← hn] at ht
  extract_lets m g sum2 u sx sy sz p at ht
  rw [if_neg (by omega)] at ht
  have hquiet : Quiet p t := by
    rw [← Host.Outcome.next.inj ht]
    exact raise_quiet_of_sticky_none rfl _ _ _
  have hheld : ∀ {lo hi : Fld}, (∀ k ∈ [lo.key, hi.key], k ∉ bookkeeping ∧ k ≠ Reg.GNB_POS_U_POS_U.key ∧ k ≠ Reg.GNB_STATUS_POS_STATE.key) →
      t.get64 lo hi = sz.get64 lo hi := by
    intro lo hi hkeys
    rw [State.get64, hquiet.regs _ (hkeys _ (by simp)).1, hquiet.regs _ (hkeys _ (by simp)).1, ← State.get64]
    exact (get64_put_ne _ _ fun k hk => (hkeys k hk).2.2).trans (get64_put_ne _ _ fun k hk => (hkeys k hk).2.1)
  refine ⟨?_, ?_, ?_, ?_, hquiet.tc⟩
  · rw [hquiet.regs _ (by decide)]
    exact State.get_put_same _ _ _
  · rw [hheld (by decide)]
    exact (get64_put64_ne _ _ (by decide)).trans ((get64_put64_ne _ _ (by decide)).trans (get64_putI64 _ _ (by decide) rfl rfl))
  · rw [hheld (by decide)]
    exact (get64_put64_ne _ _ (by decide)).trans (get64_putI64 _ _ (by decide) rfl rfl)
  · rw [hheld (by decide)]
    exact get64_putI64 _ _ (by decide) rfl rfl

/-! ## Navigation data (R225, R228) -/

/-- A record decoded takes the place of those it supersedes, and changes nothing else but the sticky bit of an event. -/
theorem takeDecoded_takes (s : State) (r : NavRec) : (s.takeDecoded r).gnss.nav = s.gnss.nav.filter (fun o => ! supersedes r o) ++ [r] ∧
    (s.takeDecoded r).tc = s.tc ∧
    ∀ f : Fld, f.key ∉ bookkeeping → f.key ≠ Reg.GNB_STICKY_STICKY.key → (s.takeDecoded r).get f = s.get f := by
  unfold State.takeDecoded
  extract_lets old g u
  have hu : u.gnss.nav = s.gnss.nav.filter (fun o => ! supersedes r o) ++ [r] ∧ u.tc = s.tc ∧
      ∀ f : Fld, f.key ∉ bookkeeping → f.key ≠ Reg.GNB_STICKY_STICKY.key → u.get f = s.get f := ⟨rfl, rfl, fun _ _ _ => rfl⟩
  clear_value old
  cases old with
  | none => exact hu
  | some o =>
    dsimp only
    split
    · rw [raise_gnss, raise_tc]
      exact ⟨hu.1, hu.2.1, fun f hb hsticky => get_raise_sticky u (e := evGnb 4 .warning 0x2E00) rfl hb hsticky⟩
    · exact hu

theorem navDecode_takes {const svid typ msg : Nat} {body : List Byte} {utc : Option UtcData} (hruns : s.gnssRuns = true) (hsvid : svid ∈ svids const)
    (htyp : typ ≤ 2) (hutc : timeOf const ≠ s.get Reg.GNB_CTRL_REF_CONST ∨ utc = none) :
    exec (.navDecode const svid typ msg body utc) s = .next (s.takeDecoded ⟨const, svid, typ, false, msg, s.linear, body⟩) := by
  show execNavDecode const svid typ msg body utc s = _
  have hgo : ¬ (¬ s.gnssRuns = true ∨ svid ∉ svids const ∨ 2 < typ) := by
    simp only [hruns, hsvid, not_true_eq_false, false_or]
    omega
  unfold execNavDecode
  rw [if_neg hgo]
  extract_lets u
  cases utc with
  | none => rfl
  | some x =>
    have href : u.get Reg.GNB_CTRL_REF_CONST = s.get Reg.GNB_CTRL_REF_CONST := (takeDecoded_takes s _).2.2 _ (by decide) (by decide)
    exact congrArg _ (if_pos (href ▸ hutc.resolve_right nofun))

theorem navDecode_holds {const svid typ msg : Nat} {body : List Byte} {utc : Option UtcData} (hruns : s.gnssRuns = true) (hsvid : svid ∈ svids const)
    (htyp : typ ≤ 2) (hutc : timeOf const ≠ s.get Reg.GNB_CTRL_REF_CONST ∨ utc = none) :
    ∃ t, exec (.navDecode const svid typ msg body utc) s = .next t ∧ ⟨const, svid, typ, false, msg, s.linear, body⟩ ∈ t.gnss.nav ∧ t.tc = s.tc ∧
      ∀ r ∈ s.gnss.nav, supersedes ⟨const, svid, typ, false, msg, s.linear, body⟩ r = false → r ∈ t.gnss.nav := by
  obtain ⟨hnav, htc, -⟩ := takeDecoded_takes s ⟨const, svid, typ, false, msg, s.linear, body⟩
  refine ⟨_, navDecode_takes hruns hsvid htyp hutc, ?_, htc, fun r hr hkeep => ?_⟩
  · rw [hnav]
    exact List.mem_append_right _ (List.mem_singleton.2 rfl)
  · rw [hnav]
    exact List.mem_append_left _ (List.mem_filter.2 ⟨hr, by rw [hkeep]; rfl⟩)

end

end Sys2Proof.Machine
end

section
/-! PROOFS. Solutions (R220, R223 to R226): the mean of one estimate, an epoch of no channel, an epoch of one satellite in a held position, and a
solution overdue. -/

namespace Sys2Proof.Machine

section

variable {s t : State}

/-! ## The mean of one estimate (R223, R224) -/

theorem roundDiv_mul (x : Int) {w : Nat} (hw : 0 < w) : roundDiv (w * x) w = x := by
  have hdiv : ∀ n : Nat, (w * n * 2 + w) / (2 * w) = n := fun n =>
    Nat.div_eq_of_lt_le (by nlinarith) (by nlinarith)
  unfold roundDiv
  obtain ⟨n, rfl | rfl⟩ := x.eq_nat_or_neg
  · rw [← Int.natCast_mul, if_neg (by omega), Int.toNat_natCast, hdiv]
  · rw [mul_neg, ← Int.natCast_mul, neg_neg, Int.toNat_natCast, hdiv]
    split
    · rfl
    · next hzero =>
      have hn : n = 0 := (Nat.mul_eq_zero.1 (by omega : w * n = 0)).resolve_left hw.ne'
      rw [hn, Nat.mul_zero, Int.natCast_zero, neg_zero, Int.toNat_zero, Nat.zero_mul, Nat.zero_add, Nat.div_eq_of_lt (by omega), Int.natCast_zero]

/-- An estimate whose variance does not exceed 2^96 has a weight. -/
theorem Est.w_pos {e : Est} (h : e.v ≤ 2 ^ 96) : 0 < e.w := Nat.div_pos (by omega) (by omega)

theorem meanSol_single {e : Est} (h : e.v ≤ 2 ^ 96) : (meanSol [e]).t = e.x ∧ (meanSol [e]).res = [0] ∧ (meanSol [e]).resid e = 0 := by
  have hmean : (meanSol [e]).t = e.x := by
    have hw := Est.w_pos h
    show roundDiv (0 + e.w * e.x) (max 1 (0 + e.w)) = e.x
    rw [zero_add, zero_add, max_eq_right hw, roundDiv_mul _ hw]
  refine ⟨hmean, ?_, ?_⟩
  · show [e.x - (meanSol [e]).t] = [0]
    rw [hmean, sub_self]
  · show e.x - ((meanSol [e]).t + roundDiv (-(e.e.1 * 0 + e.e.2.1 * 0 + e.e.2.2 * 0)) (2 ^ 30)) = 0
    rw [hmean]
    simp [roundDiv]

/-- One estimate is its own solution: it leaves no residual that could exclude it. -/
theorem solveOut_single {e : Est} (h : e.v ≤ 2 ^ 96) (n k : Nat) : solveOut false n k [e] = (some ([e], meanSol [e]), []) := by
  obtain ⟨-, hres, -⟩ := meanSol_single h
  cases k with
  | zero => rfl
  | succ k => simp [solveOut, hres, worst]

theorem estimates_single (h : s.get Reg.GNB_CTRL_IONO_DUAL = 0) (ch : ChSnap) (m : SolIn) : s.estimates [(ch, m)] = [s.single ch m] := by
  simp [State.estimates, h]

/-! ## The epoch taken up (R217, R226) -/

/-- The epoch in hand taken up for its solution: none is in hand, and the next is due within two periods. -/
def State.takenUp (s : State) : State := { s with gnss := { s.gnss with latch := none } }.arm .solution (2 * s.epochNs)

/-- An epoch of no channel has no solution (R226). -/
theorem solution_empty {ins : List SolIn} {corr px py pz : Int} {l : Latch} (hlatch : s.gnss.latch = some l) (hruns : s.gnssRuns = true)
    (hon : s.unitOn 0x2E00 = true) (hchans : l.chans = []) (hmin : 0 < s.get Reg.GNB_MASK_MIN_SATS) :
    exec (.solution ins corr px py pz) s =
      .next ((s.takenUp.solnLost []).writeEpoch [(s.takenUp.solnLost []).epochBytes l false 0 0 0 (2 ^ 32 - 1) (2 ^ 32 - 1)]) := by
  show execSolution ins corr px py pz s = _
  unfold execSolution
  rw [hlatch]
  dsimp -zeta only
  rw [if_neg (by simp [hruns, hon])]
  extract_lets g u inOf chans l' excl cands es survey minSats enough both found outs v used outCh inEst results w sats consts was mm src lost
  have hnone : chans = [] := by
    unfold chans
    rw [hchans]
    rfl
  have hl : l' = l := by
    unfold l'
    rw [hnone, ← hchans]
  have hexcl : excl = [] := by
    unfold excl
    rw [hnone]
    rfl
  have hes : es = [] := by
    unfold es cands
    rw [hexcl]
    rfl
  have hsats : ¬ minSats ≤ satCount es := by
    have hpos : 0 < minSats := by
      have : 0 < u.get Reg.GNB_MASK_MIN_SATS := hmin
      unfold minSats
      split
      · omega
      · exact this
    rw [hes]
    exact not_le.2 hpos
  have hboth : both = (none, []) := if_neg (by simp [enough, hsats])
  have hfound : found = none := congrArg Prod.fst hboth
  have houts : outs = [] := congrArg Prod.snd hboth
  have hresults : results = [] := by
    unfold results
    rw [hexcl]
    rfl
  have hw : w = s.takenUp := by
    unfold w v
    rw [hresults, houts]
    rfl
  have hlost : lost = s.takenUp.solnLost [] := by
    unfold lost
    rw [hw, hresults]
    rfl
  rw [hfound]
  dsimp only
  rw [hlost, hl, hnone]
  rfl

/-! ## One satellite in a held position (R223 to R226) -/

/-- What the solution found of a channel, put into the channel's registers and record (R222). -/
def State.putRes (s : State) (r : ChRes) : State :=
  (((s.put (Reg.CH_STATUS_EXCLUDE r.ch) r.excl).putB (Reg.CH_STATUS_USED r.ch) r.used).putI (Reg.CH_RESID_RESIDUAL r.ch) r.resid).setChan r.ch
    { s.chan r.ch with elev := r.elev, azim := r.azim }

/-- What the solution found of a channel shown, and counted where the channel is used. -/
def State.showRes (s : State) (r : ChRes) : State := if r.used then (s.putRes r).pmcEvent 2 0x12 else s.putRes r

theorem showRes_shows (s : State) {r : ChRes} (hexcl : r.excl = 0) (hused : r.used = true) (hresid : r.resid = 0) : let t := s.showRes r
    t.get (Reg.CH_STATUS_USED r.ch) = 1 ∧ t.get (Reg.CH_STATUS_EXCLUDE r.ch) = 0 ∧ t.get (Reg.CH_RESID_RESIDUAL r.ch) = 0 ∧
      t.tc = s.tc ∧ t.gnss.latch = s.gnss.latch ∧ ∀ f : Fld, f.key < chKey 0 → f.key ∉ bookkeeping → t.get f = s.get f := by
  intro t
  have hquiet : Quiet (s.putRes r) t := by
    rw [show t = (s.putRes r).pmcEvent 2 0x12 from if_pos hused]
    exact pmcEvent_quiet _ _ _ _ (by decide)
  have hput : ∀ f : Fld, f.ofChannel r.ch → t.get f = (s.putRes r).get f := fun f hf => hquiet.regs f hf.notMem_bookkeeping
  have hbelow : ∀ f : Fld, f.key < chKey 0 → ∀ i, f.key ≠ chKey r.ch + i := by
    intro f hf i
    unfold chKey at *
    omega
  refine ⟨?_, ?_, ?_, hquiet.tc, (congrArg Gnss.latch hquiet.gnss :), fun f hf hb => ?_⟩
  · rw [hput _ (by simp [Fld.ofChannel])]
    refine (State.get_put_ne _ _ (by simp)).trans ((State.get_put_same _ _ _).trans ?_)
    rw [hused]
    rfl
  · rw [hput _ (by simp [Fld.ofChannel])]
    refine (State.get_put_ne _ _ (by simp)).trans ((State.get_put_ne _ _ (by simp)).trans ((State.get_put_same _ _ _).trans ?_))
    rw [hexcl]
    rfl
  · rw [hput _ (by simp [Fld.ofChannel])]
    refine (State.get_put_same _ _ _).trans ?_
    rw [hresid]
    rfl
  · rw [hquiet.regs _ hb]
    exact (State.get_put_ne _ _ (by simpa using hbelow f hf _)).trans
      ((State.get_put_ne _ _ (by simpa using hbelow f hf _)).trans (State.get_put_ne _ _ (by simpa using hbelow f hf _)))

/-- A valid solution shown: its satellites, its uncertainty, the time to the first fix, and the event where none was valid before (R214, R226). -/
def State.showValidSoln (s : State) (sats unc sigT ttff : Nat) : State :=
  let u := (((s.put Reg.GNB_STATUS_SOLN_VALID 1).put Reg.GNB_STATUS_SATS_USED sats).put Reg.GNB_U_SRC_U_SRC unc).put Reg.GNB_SIGMA_T_SIGMA sigT
  let first := decide (u.get Reg.GNB_TTFF_TTFF = 2 ^ 32 - 1)
  let v := if first then u.put Reg.GNB_TTFF_TTFF (min ttff (2 ^ 32 - 2)) else u
  if decide (s.get Reg.GNB_STATUS_SOLN_VALID = 1) then v
  else v.raise (evGnbInfo 0x0210 6 0x2E00) ([i1 sats, i4 unc] ++ if first then [i4 ttff] else [])

theorem showValidSoln_shows (s : State) {unc : Nat} (hunc : unc < 2 ^ 32) (sigT ttff : Nat) : let t := s.showValidSoln 1 unc sigT ttff
    t.get Reg.GNB_STATUS_SOLN_VALID = 1 ∧ t.get Reg.GNB_STATUS_SATS_USED = 1 ∧ t.get Reg.GNB_U_SRC_U_SRC = unc ∧ t.tc = s.tc ∧ t.gnss = s.gnss ∧
      ∀ f : Fld, chKey 0 ≤ f.key → t.get f = s.get f := by
  intro t
  let u := (((s.put Reg.GNB_STATUS_SOLN_VALID 1).put Reg.GNB_STATUS_SATS_USED 1).put Reg.GNB_U_SRC_U_SRC unc).put Reg.GNB_SIGMA_T_SIGMA sigT
  have hkeep : ∀ {α : Type} (p : State → α), (∀ v, p (u.put Reg.GNB_TTFF_TTFF v) = p u) →
      (∀ (w : State) items, p (w.raise (evGnbInfo 0x0210 6 0x2E00) items) = p w) → p t = p u := by
    intro α p hput hraise
    have hfirst : ∀ (b : Prop) [Decidable b] (v : Nat), p (if b then u.put Reg.GNB_TTFF_TTFF v else u) = p u := fun b _ v => view_ite p (hput v) rfl
    unfold t State.showValidSoln
    exact view_ite p (hfirst _ _) ((hraise _ _).trans (hfirst _ _))
  have hget : ∀ f : Fld, f.key ∉ bookkeeping → f.key ≠ Reg.GNB_TTFF_TTFF.key → t.get f = u.get f := fun f hb hne =>
    hkeep (State.get · f) (fun v => State.get_put_ne _ _ hne) fun w items => (raise_quiet_of_sticky_none rfl _ _ _).regs f hb
  refine ⟨?_, ?_, ?_, hkeep State.tc (fun _ => rfl) fun w items => raise_tc _ _ _ _, hkeep State.gnss (fun _ => rfl) fun w items => raise_gnss _ _ _ _,
    fun f hf => ?_⟩
  · rw [hget _ (by decide) (by decide)]
    exact (State.get_put_ne _ _ (by decide)).trans ((State.get_put_ne _ _ (by decide)).trans ((State.get_put_ne _ _ (by decide)).trans
      (State.get_put_same _ _ _)))
  · rw [hget _ (by decide) (by decide)]
    exact (State.get_put_ne _ _ (by decide)).trans ((State.get_put_ne _ _ (by decide)).trans (State.get_put_same _ _ _))
  · rw [hget _ (by decide) (by decide)]
    exact (State.get_put_ne _ _ (by decide)).trans ((State.get_put_same _ _ _).trans (Nat.mod_eq_of_lt hunc))
  · have hne : ∀ g : Fld, g.key < chKey 0 → f.key ≠ g.key := fun g hg => (hg.trans_le hf).ne'
    rw [hget f (gnb_notMem_bookkeeping (le_trans (by decide) hf)) (hne _ (by decide))]
    exact (State.get_put_ne _ _ (hne _ (by decide))).trans ((State.get_put_ne _ _ (hne _ (by decide))).trans
      ((State.get_put_ne _ _ (hne _ (by decide))).trans (State.get_put_ne _ _ (hne _ (by decide)))))

/-- An epoch in hand of one satellite that may be used, by one signal, while the position is held and one satellite is enough (R222, R223, R226). -/
structure OneInHold (s : State) (ins : List SolIn) (l : Latch) (ch : ChSnap) (m : SolIn) : Prop where
  latch   : s.gnss.latch = some l
  runs    : s.gnssRuns = true
  on      : s.unitOn 0x2E00 = true
  sli     : s.unitOn 0x2D00 = true
  one     : l.chans = [ch]
  given   : ins = [m]
  same    : m.ch = ch.ch
  free    : s.unitFenced (chHid ch.ch) = false
  exclude : s.exclude ch (some m) = 0
  dual    : s.get Reg.GNB_CTRL_IONO_DUAL = 0
  held    : s.get Reg.GNB_STATUS_POS_STATE = 2
  sats    : s.get Reg.GNB_MASK_MIN_SATS = 1
  weight  : (s.single ch m).v ≤ 2 ^ 96

/-- What the baseband's lane measures of one satellite in a held position: its estimate, put onto TAI (R225). -/
def State.heldOffset (s : State) (ch : ChSnap) (m : SolIn) (corr : Int) : Int :=
  m.x + m.iono + s.delaysOf ch.sig + kOf (s.get Reg.GNB_CTRL_REF_CONST) * 65536 - corr

section

variable {ins : List SolIn} {corr px py pz : Int} {l : Latch} {ch : ChSnap} {m : SolIn} (h : OneInHold s ins l ch m)

include h

/-- One satellite in a held position is its own solution: used, with no residual, and given to the baseband's lane as it is shown. -/
theorem solution_single : ∃ (r : ChRes) (unc sigT ttff : Nat) (entries : List (List Byte)),
    (r.ch = ch.ch ∧ r.excl = 0 ∧ r.used = true ∧ r.resid = 0) ∧ unc < 2 ^ 32 ∧
      exec (.solution ins corr px py pz) s = .next ((((s.takenUp.showRes r).showValidSoln 1 unc sigT ttff).sourceMeasured 0x08 (s.heldOffset ch m corr)
        unc { l.mark with at16 := l.linear * 65536 + l.frac }).writeEpoch entries) := by
  obtain ⟨t, ht⟩ : ∃ t, exec (.solution ins corr px py pz) s = .next t := ⟨_, rfl⟩
  rw [ht]
  replace ht : execSolution ins corr px py pz s = .next t := ht
  unfold execSolution at ht
  rw [h.latch] at ht
  dsimp -zeta only at ht
  rw [if_neg (by simp [h.runs, h.on])] at ht
  extract_lets g u inOf chans l' excl cands es survey minSats enough both found outs v used outCh inEst results w sats consts was mm src lost at ht
  have hin : inOf ch.ch = some m := by simp [inOf, h.given, h.same]
  have hchans : chans = [ch] := by
    have : u.unitFenced (chHid ch.ch) = false := h.free
    simp [chans, h.one, this]
  have hexcl : excl = [(ch, 0)] := by
    have : u.exclude ch (some m) = 0 := h.exclude
    simp [excl, hchans, hin, this]
  have hcands : cands = [(ch, m)] := by simp [cands, hexcl, hin]
  let e := s.single ch m
  have hes : es = [e] := by
    unfold es
    rw [hcands]
    exact estimates_single h.dual ch m
  have hsurvey : survey = false := by
    have : u.get Reg.GNB_STATUS_POS_STATE = 2 := h.held
    simp [survey, this]
  have hmin : minSats = 1 := by
    have : u.get Reg.GNB_MASK_MIN_SATS = 1 := h.sats
    simp [minSats, hsurvey, this]
  have henough : enough = true := by
    have h1 : u.get Reg.GNB_STATUS_POS_STATE = 2 := h.held
    have h2 : u.unitOn 0x2D00 = true := h.sli
    have h3 : satCount [e] = 1 := rfl
    simp [enough, hmin, hes, h1, h2, h3]
  obtain ⟨hmean, -, hown⟩ := meanSol_single h.weight
  have hboth : both = (some ([e], meanSol [e]), []) := by
    unfold both
    rw [if_pos henough, hsurvey, hes]
    exact solveOut_single h.weight _ _
  have hfound : found = some ([e], meanSol [e]) := congrArg Prod.fst hboth
  have houts : outs = [] := congrArg Prod.snd hboth
  have hused : used = [e] := by
    unfold used
    rw [hfound]
  have hest : inEst ch.ch = some e := by simp [inEst, hused, e, State.single]
  obtain ⟨r, hresults, hch, hr0, hrused, hresid⟩ : ∃ r, results = [r] ∧ r.ch = ch.ch ∧ r.excl = 0 ∧ r.used = true ∧ r.resid = 0 := by
    refine ⟨_, congrArg (List.map _) hexcl, rfl, ?_, ?_, ?_⟩
    · exact if_pos (by rw [hest]; rfl)
    · exact congrArg Option.isSome hest
    · dsimp only
      rw [hest, hfound]
      show satI 32 (roundDiv ((meanSol [e]).resid e) 256) = 0
      rw [hown]
      rfl
  have hw : w = s.takenUp.showRes r := by
    unfold w v
    rw [hresults, houts]
    rfl
  rw [hfound] at ht
  dsimp -zeta only at ht
  extract_lets off unc sigT a b first ttff c d f z at ht
  have hoff : off = s.heldOffset ch m corr := by
    have href : w.get Reg.GNB_CTRL_REF_CONST = s.get Reg.GNB_CTRL_REF_CONST := by
      obtain ⟨-, -, -, -, -, hkept⟩ := showRes_shows s.takenUp hr0 hrused hresid
      rw [hw, hkept _ (by decide) (by decide)]
      rfl
    unfold off
    rw [hmean, href]
    rfl
  have hone : sats = 1 := by
    unfold sats
    rw [hused]
    rfl
  have hshown : f = (s.takenUp.showRes r).showValidSoln 1 unc sigT ttff :=
    calc f = d := if_neg (by simp [hsurvey])
      _ = w.showValidSoln sats unc sigT ttff := rfl
      _ = _ := by rw [hw, hone]
  have hunc : unc < 2 ^ 32 := (Nat.min_le_right _ _).trans_lt (by decide)
  let entries := z.epochBytes l' true sats consts off unc sigT :: (chans.zip results).map fun p => z.chanBytes l' p.1 p.2
  refine ⟨r, unc, sigT, ttff, entries, ⟨hch, hr0, hrused, hresid⟩, hunc, ht.symm.trans ?_⟩
  rw [← hshown, ← hoff]

theorem solution_single_shows :
    ∃ (t u : State) (entries : List (List Byte)) (unc : Nat), exec (.solution ins corr px py pz) s = .next t ∧ u.get Reg.GNB_STATUS_SOLN_VALID = 1 ∧
      u.get Reg.GNB_STATUS_SATS_USED = 1 ∧ u.get (Reg.CH_STATUS_USED ch.ch) = 1 ∧ u.get (Reg.CH_STATUS_EXCLUDE ch.ch) = 0 ∧
      u.get (Reg.CH_RESID_RESIDUAL ch.ch) = 0 ∧ u.get Reg.GNB_U_SRC_U_SRC = unc ∧ u.tc = s.tc ∧ u.gnss.latch = none ∧
      t = (u.sourceMeasured 0x08 (s.heldOffset ch m corr) unc { l.mark with at16 := l.linear * 65536 + l.frac }).writeEpoch entries := by
  obtain ⟨r, unc, sigT, ttff, entries, ⟨hch, hexcl, hused, hresid⟩, hunc, hexec⟩ := solution_single (corr := corr) (px := px) (py := py) (pz := pz) h
  obtain ⟨hchUsed, hchExcl, hchResid, htc, hdone, -⟩ := showRes_shows s.takenUp hexcl hused hresid
  obtain ⟨hvalid, hsatsUsed, hsrc, htc', hgnss, hkept⟩ := showValidSoln_shows (s.takenUp.showRes r) hunc sigT ttff
  have habove : ∀ i, chKey 0 ≤ chKey r.ch + i := by
    intro i
    unfold chKey
    omega
  rw [← hkept _ (by simpa using habove _), hch] at hchUsed hchExcl hchResid
  exact ⟨_, _, entries, unc, hexec, hvalid, hsatsUsed, hchUsed, hchExcl, hchResid, hsrc, htc'.trans htc, (congrArg Gnss.latch hgnss).trans hdone, rfl⟩

end

/-- A solution overdue is none (R226). -/
theorem solutionTimeout_ends (s : State) : ∃ t, exec .solutionTimeout s = .next t ∧
    if s.gnssRuns ∧ s.due .solution then t = (s.stopTimer .solution).solnLost [] else t = s := by
  refine ⟨_, rfl, ?_⟩
  split
  · rfl
  · rfl

end

/-- Settles O22: each step of an epoch's, and of a survey's and a message's, by its own lemma. -/
theorem gnssSolution : Obligations.GnssSolution := by
  unfold Obligations.GnssSolution
  intro s
  refine ⟨fun ms => ?_, fun ins corr px py pz hnone => ⟨s, ?_, rfl⟩, fun ins corr px py pz l hlatch hruns hon hsli => ⟨fun hchans hmin => ?_, ?_⟩,
    solutionTimeout_ends s, fun n hn hsurvey hpos htime => surveyDone_holds hn hsurvey hpos htime,
    fun const svid typ msg body utc hruns hsvid htyp hutc => navDecode_holds hruns hsvid htyp hutc⟩
  · by_cases hgo : s.gnssRuns = true ∧ s.unitOn 0x2E00 = true ∧ s.atEpoch = true
    · obtain ⟨hruns, hon, hat⟩ := hgo
      simpa only [if_pos (And.intro hruns (And.intro hon hat))] using epoch_latches ms hruns hon hat
    · refine ⟨s, epoch_waits ms hgo, ?_⟩
      rw [if_neg hgo]
  · show execSolution ins corr px py pz s = _
    rw [execSolution, hnone]
  · exact ⟨_, _, solution_empty hlatch hruns hon hchans hmin, rfl, rfl⟩
  · intro ch m hl hins hm _ hfree hexclude hdual hheld hsats hv
    exact solution_single_shows ⟨hlatch, hruns, hon, hsli, hl, hins, hm, hfree, hexclude, hdual, hheld, hsats, hv⟩

end Sys2Proof.Machine
end

section
/-! PROOFS. PTP messages without authentication (R236, R247, R248): what signing and verifying come to where AUTH is OFF, what an event of the PTP
service writes, and an INST's record set twice. -/

namespace Sys2Proof

theorem aput_aput {κ α : Type} [DecidableEq κ] (m : AMap κ α) (k : κ) (v w : α) : aput (aput m k v) k w = aput m k w := by
  induction m with
  | nil => simp [aput]
  | cons c m ih =>
    by_cases h : c.1 = k
    · simp [aput, h]
    · simp [aput, h, ih]

end Sys2Proof

namespace Sys2Proof.Machine

section

variable {s : State} {k : Nat}

theorem setInst_setInst (s : State) (k : Nat) (r w : InstRec) : (s.setInst k r).setInst k w = s.setInst k w := by
  simp only [State.setInst, aput_aput]

theorem skipped_false (s : State) (k : Nat) : s.skipped k false = false := by simp [State.skipped]

/-! ## Signatures (R247, R248) -/

section

variable (h : s.get (Reg.PTP_INST_CFG_AUTH k) = 0)

include h

theorem signGroup_off : s.signGroup k = (.send none, s) := if_pos h

theorem signClient_off (signed : Bool) : s.signClient k signed = (.send none, s) := if_pos (.inl h)

theorem verify_off (auth : Option AuthTlv) (t : Nat) : s.verify k auth t = (some none, s) := if_pos h

end

theorem verified_off {q : PtpIn} (h : s.get (Reg.PTP_INST_CFG_AUTH q.inst) = 0) : s.verified q = (true, s) := by
  unfold State.verified
  rw [verify_off h]

/-! ## Events (R258) -/

/-- The registers of the PTP service from PTP_CLOCK_ID on: none is written by an event. -/
theorem ptp_ne_sticky {f : Fld} (hf : 0x340010 ≤ f.addr) : f.key ≠ Reg.PTP_STICKY_STICKY.key :=
  (key_ne_of_addr_lt (lt_of_lt_of_le (by decide) hf) (by decide)).symm

theorem get_raisePtp {f : Fld} (hf : 0x340010 ≤ f.addr) (s : State) (n : Nat) (sev : Sev) (hid : Nat) (items : List Item) :
    (s.raise (evPtp n sev hid) items).get f = s.get f :=
  get_raise_sticky s (e := evPtp n sev hid) rfl (key_notMem_bookkeeping (le_trans (by decide) hf)) (ptp_ne_sticky hf)

end

end Sys2Proof.Machine
end

section
/-! PROOFS. What the PTP master sends (R234 to R238, R248, R252): Sync, Announce and Pdelay_Req at their boundaries, a granted client's messages, and
the change of key. -/

namespace Sys2Proof.Machine

section

variable {s t : State} {k : Nat}

/-! ## By multicast (R234, R236) -/

theorem syncAll_off (h : s.get (Reg.PTP_INST_CFG_AUTH k) = 0) :
    s.syncAll k = (s.setInst k { s.inst k with seqSync := seqUp (s.inst k).seqSync }).toAll k
      fun u p tr => u.composeSync k p tr none (s.inst k).seqSync (u.logSync k) none := by
  unfold State.syncAll
  rw [signGroup_off h]

theorem announceAll_off (h : s.get (Reg.PTP_INST_CFG_AUTH k) = 0) :
    s.announceAll k = (s.setInst k { s.inst k with seqAnn := seqUp (s.inst k).seqAnn }).toAll k
      fun u p tr => u.composeAnnounce k p tr none (s.inst k).seqAnn (u.logAnn k) none := by
  unfold State.announceAll
  rw [signGroup_off h]

/-- A SERVICE INST that is SERVING, with AUTH OFF. -/
structure Serving (s : State) (k : Nat) : Prop where
  lt      : k < 4
  serving : s.instSt k = 2
  service : s.instRole k = 0
  off     : s.get (Reg.PTP_INST_CFG_AUTH k) = 0

theorem syncTx_multicast (h : Serving s k) (hmulti : s.prof k ≠ 4) : exec (.syncTx k none false) s = .next (
    if s.dueAt (s.logSync k) (s.inst k).lastSync = false then s
    else (s.setInst k { s.inst k with lastSync := s.tc.edges + 1, seqSync := ((s.inst k).seqSync + 1) % 65536 }).toAll k
      fun u p tr => u.composeSync k p tr none (s.inst k).seqSync (u.logSync k) none) := by
  show execSyncTx k none false s = _
  unfold execSyncTx
  rw [if_neg (not_not.2 ⟨h.lt, h.serving, h.service⟩)]
  refine congrArg _ (if_congr (by simp [hmulti]) rfl ?_)
  extract_lets r u
  have hoff : u.get (Reg.PTP_INST_CFG_AUTH k) = 0 := h.off
  rw [skipped_false, if_neg Bool.false_ne_true, syncAll_off hoff, State.inst_setInst_same, setInst_setInst]
  rfl

theorem announceTx_multicast (h : Serving s k) (hmulti : s.prof k ≠ 4) : exec (.announceTx k none false) s = .next (
    if s.dueAt (s.logAnn k) (s.inst k).lastAnn = false then s
    else (s.setInst k { s.inst k with lastAnn := s.tc.edges + 1, seqAnn := ((s.inst k).seqAnn + 1) % 65536 }).toAll k
      fun u p tr => u.composeAnnounce k p tr none (s.inst k).seqAnn (u.logAnn k) none) := by
  show execAnnounceTx k none false s = _
  unfold execAnnounceTx
  rw [if_neg (not_not.2 ⟨h.lt, h.serving, h.service⟩)]
  refine congrArg _ (if_congr (by simp [hmulti]) rfl ?_)
  extract_lets r u
  have hoff : u.get (Reg.PTP_INST_CFG_AUTH k) = 0 := h.off
  rw [skipped_false, if_neg Bool.false_ne_true, announceAll_off hoff, State.inst_setInst_same, setInst_setInst]
  rfl

theorem pdelayReqTx_multicast (hk : k < 4) (hserving : s.instSt k = 2) (hp2p : s.prof k = 1) (hoff : s.get (Reg.PTP_INST_CFG_AUTH k) = 0) :
    exec (.pdelayReqTx k) s = .next (
      if s.dueAt (s.logDly k) (s.inst k).lastDly = false then s
      else (s.setInst k { s.inst k with
          lastDly := s.tc.edges + 1, seqDelay := ((s.inst k).seqDelay + 1) % 65536
          asked := (s.instPorts k).flatMap fun p => (s.transports k).map fun tr => (p + 4 * tr, ((s.inst k).seqDelay, 0)) }).toAll k
        fun u _ tr => { typ := 2, inst := k, trans := tr, dst := none, seq := (s.inst k).seqDelay, log := u.logDly k, sa := none }) := by
  show execPdelayReqTx k s = _
  unfold execPdelayReqTx
  refine congrArg _ (if_congr (by simp [hk, hserving, hp2p]) rfl ?_)
  extract_lets r u
  have hu : u.get (Reg.PTP_INST_CFG_AUTH k) = 0 := hoff
  rw [signGroup_off hu]
  dsimp only
  rw [State.inst_setInst_same, setInst_setInst]
  rfl

/-! ## To a granted client (R238, R248) -/

/-- The sequence number of an INST's next Sync (message type 1) or Announce (0), and its record once that is passed. -/
def InstRec.grantSeq (r : InstRec) (typ : Nat) : Nat := if typ = 1 then r.seqSync else r.seqAnn
@[inherit_doc InstRec.grantSeq] def InstRec.grantSeqUp (r : InstRec) (typ : Nat) : InstRec :=
  if typ = 1 then { r with seqSync := (r.seqSync + 1) % 65536 } else { r with seqAnn := (r.seqAnn + 1) % 65536 }

/-- A granted client's Sync or Announce, unsigned. -/
def State.grantMsg (s : State) (k typ : Nat) (c : CKey) (seq : Nat) (log : Int) : PtpMsg :=
  if typ = 1 then s.composeSync k c.port (transOf c.kind) (some c) seq log none
  else s.composeAnnounce k c.port (transOf c.kind) (some c) seq log none

theorem grantMsg_fields (s : State) (k typ : Nat) (c : CKey) (seq : Nat) (log : Int) : let m := s.grantMsg k typ c seq log
    m.typ = (if typ = 1 then 0 else 11) ∧ m.dst = some c ∧ m.log = log ∧ m.inst = k ∧ m.seq = seq ∧ m.sa = none := by
  unfold State.grantMsg
  split
  · exact ⟨rfl, rfl, rfl, rfl, rfl, rfl⟩
  · exact ⟨rfl, rfl, rfl, rfl, rfl, rfl⟩

/-- The state in which such a message is composed: its grant is noted as served at this edge, and its sequence number is passed. -/
def State.grantPassed (s : State) (k typ : Nat) (g : CalRec) : State :=
  (s.servedGrant g (s.tc.edges + 1)).setInst k ((s.inst k).grantSeqUp typ)

theorem grantTx_off {typ : Nat} {c : CKey} {g : CalRec} (hoff : s.get (Reg.PTP_INST_CFG_AUTH k) = 0)
    (hg : s.grantOf c typ = some g) (hinst : g.inst = k) (hport : (s.instPorts k).contains c.port = true) :
    s.grantTx k typ c false = if s.grantLive g = false ∨ s.dueAt g.log g.last = false then s
      else (s.grantPassed k typ g).txPush c.port (s.clientTci c) (.ptp ((s.grantPassed k typ g).grantMsg k typ c ((s.inst k).grantSeq typ) g.log)) := by
  unfold State.grantTx
  rw [hg]
  dsimp only
  rw [hport]
  refine if_congr (by simp [hinst]) rfl ?_
  have hu : (s.servedGrant g (s.tc.edges + 1)).get (Reg.PTP_INST_CFG_AUTH k) = 0 := hoff
  rw [skipped_false, if_neg Bool.false_ne_true, signClient_off hu]
  dsimp only
  unfold State.grantMsg State.grantPassed InstRec.grantSeqUp InstRec.grantSeq
  by_cases htyp : typ = 1
  · simp only [if_pos htyp]
    rfl
  · simp only [if_neg htyp]
    rfl

theorem grantTx_exec {typ : Nat} (htyp : typ = 0 ∨ typ = 1) (h : Serving s k) (c : CKey) :
    exec (if typ = 1 then .syncTx k (some c) false else .announceTx k (some c) false) s = .next (s.grantTx k typ c.norm false) := by
  obtain rfl | rfl := htyp
  · show execAnnounceTx k (some c) false s = _
    unfold execAnnounceTx
    rw [if_neg (not_not.2 ⟨h.lt, h.serving, h.service⟩)]
  · show execSyncTx k (some c) false s = _
    unfold execSyncTx
    rw [if_neg (not_not.2 ⟨h.lt, h.serving, h.service⟩)]

/-! ## The change of key (R246, R248) -/

/-- Whether two states have the same security associations at the same instant. -/
structure SameSas (s t : State) : Prop where
  regs   : ∀ f : Fld, 0x340800 ≤ f.addr → t.get f = s.get f
  linear : t.linear = s.linear

theorem SameSas.saFrom (h : SameSas s t) (i : Nat) : t.saFrom i = s.saFrom i := by
  have hlo := h.regs (Reg.SA_FROM_LO_FROM_LO i) (by show _ ≤ 0x340808 + 0x20 * i; omega)
  have hhi := h.regs (Reg.SA_FROM_HI_FROM_HI i) (by show _ ≤ 0x34080C + 0x20 * i; omega)
  simp only [State.saFrom, State.get64, hlo, hhi]

theorem SameSas.saUsable (h : SameSas s t) (i : Nat) : t.saUsable i t.linear = s.saUsable i s.linear := by
  have hvalid := h.regs (Reg.SA_CFG_VALID i) (by show _ ≤ 0x340800 + 0x20 * i; omega)
  have hlo := h.regs (Reg.SA_UNTIL_LO_UNTIL_LO i) (by show _ ≤ 0x340810 + 0x20 * i; omega)
  have hhi := h.regs (Reg.SA_UNTIL_HI_UNTIL_HI i) (by show _ ≤ 0x340814 + 0x20 * i; omega)
  unfold State.saUsable State.saUntil State.get64
  rw [hvalid, hlo, hhi, h.saFrom, h.linear]

theorem SameSas.txSa (h : SameSas s t) (k : Nat) {p q : Nat → Bool} (hq : ∀ i, p i = q i) : t.txSa k p = s.txSa k q := by
  have htx : ∀ i, t.get (Reg.SA_CFG_TX i) = s.get (Reg.SA_CFG_TX i) := fun i => h.regs _ (by show _ ≤ 0x340800 + 0x20 * i; omega)
  have hlater : t.laterSa = s.laterSa := by
    funext a i
    unfold State.laterSa
    simp only [h.saFrom]
  simp only [State.txSa, h.saUsable, htx, hq, hlater]

theorem SameSas.groupSa (h : SameSas s t) (k : Nat) : t.groupSa k = s.groupSa k :=
  h.txSa k fun i => by rw [h.regs _ (by show _ ≤ 0x340800 + 0x20 * i; omega)]

theorem SameSas.saSigns (h : SameSas s t) (k i : Nat) : t.saSigns k i = s.saSigns k i := by
  have hspp : ∀ j, t.get (Reg.SA_CFG_SPP j) = s.get (Reg.SA_CFG_SPP j) := fun j => h.regs _ (by show _ ≤ 0x340800 + 0x20 * j; omega)
  unfold State.saSigns
  rw [h.groupSa, h.txSa k fun j => by rw [hspp, hspp], h.txSa k fun _ => rfl]

/-- Whether an SA has taken over transmissions, once an SA_SWITCH has judged it (R248). -/
def State.saTaken (s : State) (k i : Nat) : Int :=
  if s.saUsable i s.linear = false then 0 else if s.var (.saOn i) ≠ 0 then s.var (.saOn i) else if s.saSigns k i then 1 else 0

theorem SameSas.saTaken (h : SameSas s t) {i : Nat} (hvar : t.var (.saOn i) = s.var (.saOn i)) : t.saTaken k i = s.saTaken k i := by
  simp only [State.saTaken, h.saUsable, h.saSigns, hvar]

theorem saTakes_get {f : Fld} (hf : 0x340010 ≤ f.addr) (s : State) (i : Nat) : (s.saTakes k i).get f = s.get f := by
  unfold State.saTakes
  exact view_ite (State.get · f) rfl (view_ite (State.get · f) rfl (get_raisePtp hf _ _ _ _ _))

theorem saTakes_tc (s : State) (k i : Nat) : (s.saTakes k i).tc = s.tc := by
  unfold State.saTakes
  exact view_ite State.tc rfl (view_ite State.tc rfl (raise_tc _ _ _ _))

theorem saTakes_sameSas (s : State) (k i : Nat) : SameSas s (s.saTakes k i) :=
  ⟨fun f hf => saTakes_get (le_trans (by decide) hf) s i, by simp only [State.linear, State.ns, saTakes_tc]⟩

theorem saOn_notMem_bookVars (i : Nat) : Var.saOn i ∉ bookVars := by simp [bookVars]

theorem saTakes_var_same (s : State) (k i : Nat) : (s.saTakes k i).var (.saOn i) = s.saTaken k i := by
  unfold State.saTakes State.saTaken
  by_cases husable : s.saUsable i s.linear = false
  · rw [if_pos husable, if_pos (by simp [husable])]
    exact State.var_setVar_same _ _ _
  rw [if_neg husable, if_neg (by simpa using husable)]
  by_cases hon : s.var (.saOn i) = 0
  · rw [if_neg (not_not.2 hon)]
    by_cases hsigns : s.saSigns k i = true
    · rw [if_pos hsigns, if_neg (by simp [hon, hsigns]), var_raise _ (saOn_notMem_bookVars i)]
      exact State.var_setVar_same _ _ _
    · rw [if_neg hsigns, if_pos (.inr (by simpa using hsigns)), hon]
  · rw [if_pos hon, if_pos (.inl hon)]

theorem saTakes_var_ne (s : State) (k : Nat) {i j : Nat} (h : j ≠ i) : (s.saTakes k i).var (.saOn j) = s.var (.saOn j) := by
  have hset : ∀ x, (s.setVar (.saOn i) x).var (.saOn j) = s.var (.saOn j) := fun x => State.var_setVar_ne _ _ (by simpa using h)
  unfold State.saTakes
  exact view_ite (State.var · (.saOn j)) (hset 0)
    (view_ite (State.var · (.saOn j)) rfl ((var_raise _ (saOn_notMem_bookVars j)).trans (hset 1)))

/-- Several SAs judged in turn: each once, as it stood before. -/
theorem saTakes_foldl {l : List Nat} (hl : l.Nodup) {i : Nat} (hi : i ∈ l) (s : State) :
    (l.foldl (fun u j => u.saTakes k j) s).var (.saOn i) = s.saTaken k i := by
  induction l generalizing s with
  | nil => exact absurd hi List.not_mem_nil
  | cons j l ih =>
    obtain ⟨hj, hl⟩ := List.nodup_cons.1 hl
    rw [List.foldl_cons]
    by_cases hij : i = j
    · subst hij
      rw [← saTakes_var_same]
      exact view_foldl_mem (State.var · (.saOn i)) _ _ fun u j hmem => saTakes_var_ne u k fun e => hj (e ▸ hmem)
    · rw [ih hl ((List.mem_cons.1 hi).resolve_left hij), (saTakes_sameSas s k j).saTaken (saTakes_var_ne s k hij)]

theorem saSwitch_takes (hk : k < 4) (hauth : s.get (Reg.PTP_INST_CFG_AUTH k) ≠ 0) : ∃ t, exec (.saSwitch k) s = .next t ∧ t.tc = s.tc ∧
    t.get (Reg.PTP_INST_STATE_NO_TX_SA k) = (if (s.groupSa k).isSome then 0 else s.get (Reg.PTP_INST_STATE_NO_TX_SA k)) ∧
    ∀ i, 8 * k ≤ i → i < 8 * k + 8 → t.var (.saOn i) = s.saTaken k i := by
  let u := if (s.groupSa k).isSome then s.put (Reg.PTP_INST_STATE_NO_TX_SA k) 0 else s
  let l := (List.range 8).map (8 * k + ·)
  have hexec : exec (.saSwitch k) s = .next (l.foldl (fun v i => v.saTakes k i) u) := by
    show execSaSwitch k s = _
    unfold execSaSwitch
    rw [if_neg (not_not.2 ⟨hk, hauth⟩)]
  have hsame : SameSas s u := by
    refine ⟨fun f hf => view_ite (State.get · f) (State.get_put_ne _ _ ?_) rfl, view_ite State.linear rfl rfl⟩
    exact (key_ne_of_addr_lt (by show 0x340118 + 0x100 * k < f.addr; omega) (by show 8 < 32; decide)).symm
  refine ⟨_, hexec, (view_foldl State.tc (fun v i => saTakes_tc v k i) _ _).trans (view_ite State.tc rfl rfl), ?_, fun i hlo hhi => ?_⟩
  · rw [view_foldl (State.get · (Reg.PTP_INST_STATE_NO_TX_SA k)) fun v i => saTakes_get (by show _ ≤ 0x340118 + 0x100 * k; omega) v i]
    unfold u
    split
    · exact State.get_put_same _ _ _
    · rfl
  · have hmem : i ∈ l := List.mem_map.2 ⟨i - 8 * k, List.mem_range.2 (by omega), by omega⟩
    rw [saTakes_foldl (List.nodup_range.map fun a b (hab : 8 * k + a = 8 * k + b) => by omega) hmem]
    exact hsame.saTaken (view_ite (State.var · (.saOn i)) rfl rfl)

end

/-- Settles O23: each of the messages by its own lemma, and the change of key SA by SA. -/
theorem ptpTransmission : Obligations.PtpTransmission := by
  unfold Obligations.PtpTransmission
  intro s k hk
  refine ⟨fun hserving hservice hmulti hoff => ?_, fun hserving hp2p hoff => next_ite (pdelayReqTx_multicast hk hserving hp2p hoff),
    fun typ c g htyp hserving hservice hoff hg hinst hport => ?_, saSwitch_takes hk⟩
  · have h : Serving s k := ⟨hk, hserving, hservice, hoff⟩
    exact ⟨next_ite (syncTx_multicast h hmulti), next_ite (announceTx_multicast h hmulti)⟩
  · refine ⟨_, grantTx_exec htyp ⟨hk, hserving, hservice, hoff⟩ c, ?_⟩
    rw [grantTx_off hoff hg hinst hport]
    split
    · rfl
    · obtain ⟨hmtyp, hdst, hlog, hminst, hseq, hsa⟩ := grantMsg_fields (s.grantPassed k typ g) k typ c.norm ((s.inst k).grantSeq typ) g.log
      exact ⟨_, _, rfl, hmtyp, hdst, hlog, hminst, hseq, hsa, rfl⟩

end Sys2Proof.Machine
end

section
/-! PROOFS. What the PTP master answers (R234, R239, R242 to R244, R290): delay requests, the requests and cancellations of Signaling messages, and a
grant at its expiry. -/

namespace Sys2Proof.Machine

section

variable {s u : State} {q : PtpIn}

/-! ## Delay requests (R234, R239) -/

/-- The unsigned Delay_Resp to a Delay_Req: its receive stamp, and the rest of it taken from the correction (R239). -/
def State.delayResp (s : State) (q : PtpIn) : PtpMsg :=
  let st := s.rxStamp q.peer.key.port q.at_
  { typ := 9, inst := q.inst, trans := q.trans, dst := if q.unicast then some q.peer.key else none, seq := q.seq, log := s.delayLog q
    time := st / 65536, corr := q.corr - (st % 65536 : Nat), tlv := s.tlvFor q.inst q.peer.key.port, sa := none, fromB := q.peer.toB
    req := some (q.clock, q.portNo, q.seq) }

/-- The unsigned Pdelay_Resp to a Pdelay_Req, to which the port adds the turnaround from its receive stamp (R239). -/
def State.pdelayResp (s : State) (q : PtpIn) : PtpMsg :=
  { typ := 3, inst := q.inst, trans := q.trans, dst := if q.unicast then some q.peer.key else none, seq := q.seq, log := 0x7F
    corr := q.corr, turn := s.rxStamp q.peer.key.port q.at_, sa := none, fromB := q.peer.toB, req := some (q.clock, q.portNo, q.seq) }

/-- A message sent in answer to another, over the port it came by. -/
def State.reply (s : State) (q : PtpIn) (m : PtpMsg) : State := s.txPush q.peer.key.port (replyTci q.peer.key q.peer.pcp) (.ptp m)

/-- What becomes of a Delay_Req (R239). -/
theorem delayReq_ends (htakes : s.instTakes q.inst q.norm.peer.key.port = true) : ∃ t a u, exec (.delayReq q) s = .next t ∧
    (s.bump (Reg.RX_DELAY_REQ_COUNT q.inst)).letIn q.norm.peer 0 1 (b2n q.auth.isSome) true = (a, u) ∧
    if a.verdict ≠ .admitted ∨ u.instSt q.inst ≠ 2 then t = u
    else u.get (Reg.PTP_INST_CFG_AUTH q.inst) = 0 → if u.delayOk q.norm = false then t = u else t = u.reply q.norm (u.delayResp q.norm) := by
  obtain ⟨a, u, hlet⟩ : ∃ a u, (s.bump (Reg.RX_DELAY_REQ_COUNT q.inst)).letIn q.norm.peer 0 1 (b2n q.auth.isSome) true = (a, u) := ⟨_, _, rfl⟩
  obtain ⟨t, ht⟩ : ∃ t, exec (.delayReq q) s = .next t := ⟨_, rfl⟩
  refine ⟨t, a, u, ht, hlet, ?_⟩
  replace ht : execDelayReq q s = .next t := ht
  unfold execDelayReq at ht
  extract_lets r k c v at ht
  rw [if_neg (show ¬ ¬ s.instTakes k c.port = true from not_not.2 htakes),
    show v.letIn r.peer 0 1 (b2n r.auth.isSome) true = (a, u) from hlet] at ht
  replace ht := (Host.Outcome.next.inj ht).symm
  split
  · next hout => exact ht.trans (if_pos hout)
  · next hin =>
    intro hoff
    replace ht := ht.trans (if_neg hin)
    extract_lets st at ht
    rw [show u.verify k r.auth (st / 65536) = (some none, u) from verify_off hoff _ _] at ht
    split
    · next hno => exact ht.trans (if_pos (by simpa using hno))
    · next hyes => exact ht.trans (if_neg (by simpa using hyes))

/-- What becomes of a Pdelay_Req in PROFILE 1 (R234, R239). -/
theorem pdelayReq_ends (htakes : s.instTakes q.inst q.norm.peer.key.port = true) (hp2p : s.prof q.inst = 1) :
    ∃ t a u, exec (.pdelayReq q) s = .next t ∧
      (s.bump (Reg.RX_DELAY_REQ_COUNT q.inst)).letIn q.norm.peer 0 1 (b2n q.auth.isSome) false = (a, u) ∧
      if a.verdict ≠ .admitted ∨ u.instSt q.inst ≠ 2 then t = u
      else u.get (Reg.PTP_INST_CFG_AUTH q.inst) = 0 → t = u.reply q.norm (u.pdelayResp q.norm) := by
  obtain ⟨a, u, hlet⟩ : ∃ a u, (s.bump (Reg.RX_DELAY_REQ_COUNT q.inst)).letIn q.norm.peer 0 1 (b2n q.auth.isSome) false = (a, u) := ⟨_, _, rfl⟩
  obtain ⟨t, ht⟩ : ∃ t, exec (.pdelayReq q) s = .next t := ⟨_, rfl⟩
  refine ⟨t, a, u, ht, hlet, ?_⟩
  replace ht : execPdelayReq q s = .next t := ht
  unfold execPdelayReq at ht
  extract_lets r k c v at ht
  rw [if_neg (show ¬ ¬ (s.instTakes k c.port = true ∧ s.prof k = 1) from not_not.2 ⟨htakes, hp2p⟩),
    show v.letIn r.peer 0 1 (b2n r.auth.isSome) false = (a, u) from hlet] at ht
  replace ht := (Host.Outcome.next.inj ht).symm
  split
  · next hout => exact ht.trans (if_pos hout)
  · next hin =>
    intro hoff
    replace ht := ht.trans (if_neg hin)
    extract_lets st at ht
    rw [show u.verify k r.auth (st / 65536) = (some none, u) from verify_off hoff _ _] at ht
    exact ht

/-! ## Signaling messages (R242, R244) -/

/-- A Signaling message received: what `f` makes of it where admission and R247 let it through, and else what they leave (R242, R247). -/
def State.afterSignaling (s : State) (q : PtpIn) (f : Option Nat × Option Nat → State → State) : State :=
  match s.openSignaling q with
  | (none, u) => u
  | (some y, u) => f y u

theorem afterSignaling_barred (hopen : s.openSignaling q = (none, u)) (f : Option Nat × Option Nat → State → State) : s.afterSignaling q f = u := by
  unfold State.afterSignaling
  rw [hopen]

theorem afterSignaling_open {y : Option Nat × Option Nat} (hopen : s.openSignaling q = (some y, u)) (f : Option Nat × Option Nat → State → State) :
    s.afterSignaling q f = f y u := by
  unfold State.afterSignaling
  rw [hopen]

/-- A client's Signaling message: taken where an INST runs, put to admission and R247, and answered by one that negotiates and is SERVING. -/
theorem signaling_ends {o : Host.Outcome State Fault Refusal} {f : Option Nat → Option Nat → State → State}
    (h : o = .next (if ¬ s.instTakes q.inst q.norm.peer.key.port then s
      else s.afterSignaling q.norm fun y u => if u.negotiates q.inst ∧ u.instSt q.inst = 2 then f y.1 y.2 u else u)) :
    ∃ t, o = .next t ∧ if s.instTakes q.inst q.norm.peer.key.port = false then t = s
      else (∀ u, s.openSignaling q.norm = (none, u) → t = u) ∧
        ∀ u slot sa, s.openSignaling q.norm = (some (slot, sa), u) → if u.negotiates q.inst ∧ u.instSt q.inst = 2 then t = f slot sa u else t = u := by
  refine ⟨_, h, ?_⟩
  split
  · next hno => exact if_pos (by simp [hno])
  · next htakes =>
    have hgo : ¬ ¬ s.instTakes q.inst q.norm.peer.key.port = true := by simpa using htakes
    rw [if_neg hgo]
    refine ⟨fun u hu => afterSignaling_barred hu _, fun u slot sa hu => ?_⟩
    rw [afterSignaling_open hu]
    split
    · rfl
    · rfl

theorem requestUnicast_signals (s : State) (q : PtpIn) (tlvs : List NegTlv) : exec (.requestUnicastTransmission q tlvs) s = .next (
    if ¬ s.instTakes q.inst q.norm.peer.key.port then s
    else s.afterSignaling q.norm fun y u =>
      if u.negotiates q.inst ∧ u.instSt q.inst = 2 then tlvs.foldl (fun v x => v.answerRequest q.norm y.1 y.2 x) u else u) := by
  show execRequestUnicastTransmission q tlvs s = _
  unfold execRequestUnicastTransmission State.afterSignaling
  dsimp only
  obtain ⟨_ | ⟨slot, sa⟩, u⟩ := s.openSignaling q.norm
  · rfl
  · rfl

theorem cancelUnicast_signals (s : State) (q : PtpIn) (tlvs : List NegTlv) : exec (.cancelUnicastTransmission q tlvs) s = .next (
    if ¬ s.instTakes q.inst q.norm.peer.key.port then s
    else s.afterSignaling q.norm fun y u =>
      if u.negotiates q.inst ∧ u.instSt q.inst = 2 then tlvs.foldl (fun v x => v.answerCancel q.norm y.2 x) u else u) := by
  show execCancelUnicastTransmission q tlvs s = _
  unfold execCancelUnicastTransmission State.afterSignaling
  dsimp only
  obtain ⟨_ | ⟨slot, sa⟩, u⟩ := s.openSignaling q.norm
  · rfl
  · rfl

/-! ## A grant at its expiry (R243, R244, R290) -/

/-- What a change of the client table's entries leaves alone: the grant calendar and the time. -/
def State.calAndTime (s : State) : List CalRec × TimeCore := (s.clt.calendar, s.tc)

theorem calAndTime_raise (s : State) (e : Ev) (items : List Item) : (s.raise e items).calAndTime = s.calAndTime := by
  simp only [State.calAndTime, raise_clt, raise_tc]

theorem calAndTime_cacheIn (s : State) (n : Nat) (dirty : Bool) : (s.cacheIn n dirty).calAndTime = s.calAndTime := by
  have hcache : ∀ (v : State) m, { v with clt := { v.clt with cache := m } }.calAndTime = v.calAndTime := fun _ _ => rfl
  unfold State.cacheIn
  exact (hcache _ _).trans (view_ite State.calAndTime rfl rfl)

theorem calAndTime_putEntry (s : State) (slot : Nat) (e : CltEntry) : (s.putEntry slot e).calAndTime = s.calAndTime := by
  unfold State.putEntry
  exact calAndTime_cacheIn _ _ _

theorem calAndTime_readSlot (s : State) (n : Nat) : (s.readSlot n).2.calAndTime = s.calAndTime := by
  unfold State.readSlot
  split
  · rfl
  · split
    · exact calAndTime_raise _ _ _
    · rfl

theorem calAndTime_modEntry (s : State) (slot : Nat) (f : CltEntry → CltEntry) : (s.modEntry slot f).calAndTime = s.calAndTime := by
  have hread := calAndTime_readSlot s slot
  unfold State.modEntry
  split
  · next e u hu =>
    rw [hu] at hread
    exact (calAndTime_putEntry _ _ _).trans hread
  · next u hu =>
    rw [hu] at hread
    exact hread

/-- A calendar without the record of a client and message type. -/
def calWithout (l : List CalRec) (c : CKey) (typ : Nat) : List CalRec := l.filter fun x => decide (¬ (x.key = c ∧ x.typ = typ))

theorem grantOf_key {c : CKey} {typ : Nat} {g : CalRec} (hg : s.grantOf c typ = some g) : g.key = c ∧ g.typ = typ := by
  simpa using List.find?_some hg

theorem find_calWithout_same (l : List CalRec) (c : CKey) (typ : Nat) :
    (calWithout l c typ).find? (fun g => decide (g.key = c ∧ g.typ = typ)) = none := by
  rw [List.find?_eq_none]
  intro x hx
  have hout := (List.mem_filter.1 hx).2
  simpa only [decide_eq_true_eq] using hout

theorem find_calWithout_ne (l : List CalRec) {c d : CKey} {typ y : Nat} (hne : d ≠ c ∨ y ≠ typ) :
    (calWithout l c typ).find? (fun g => decide (g.key = d ∧ g.typ = y)) = l.find? fun g => decide (g.key = d ∧ g.typ = y) := by
  rw [calWithout, List.find?_filter]
  congr 1
  funext x
  by_cases hx : x.key = d ∧ x.typ = y
  · obtain ⟨rfl, rfl⟩ := hx
    simpa [-not_and, not_and_or] using hne
  · simp [hx]

/-- A grant's release takes its record out of the calendar. -/
theorem release_calAndTime {c : CKey} {typ : Nat} {g : CalRec} (hg : s.grantOf c typ = some g) :
    (s.release c typ).calAndTime = (calWithout s.clt.calendar c typ, s.tc) := by
  unfold State.release
  rw [hg]
  dsimp only
  split
  · exact calAndTime_modEntry _ _ _
  · rfl

/-- A record put into a calendar that has none of its client and type is added to it. -/
theorem putCal_calAndTime {g : CalRec} (hg : s.grantOf g.key g.typ = none) :
    (s.putCal g).calAndTime = (calWithout s.clt.calendar g.key g.typ ++ [g], s.tc) := by
  unfold State.putCal
  rw [hg]
  rfl

/-- A grant over: its record is out, but for a renewal that waits for its GRANT, which takes its place (R243, R244). -/
theorem grantOver_calendar {c : CKey} {typ : Nat} {g : CalRec} (hg : s.grantOf c typ = some g) : (s.grantOver g).tc = s.tc ∧
    (g.next = none → (s.grantOver g).grantOf c typ = none) ∧
    (∀ l e, g.next = some (l, e) → (s.grantOver g).grantOf c typ = some { g with log := l, expiry := e, waits := true, next := none }) ∧
    ∀ d y, (d ≠ c ∨ y ≠ typ) → (s.grantOver g).grantOf d y = s.grantOf d y := by
  obtain ⟨rfl, rfl⟩ := grantOf_key hg
  obtain ⟨hcal, htc⟩ := Prod.mk.inj (release_calAndTime hg)
  have hnone : (s.release g.key g.typ).grantOf g.key g.typ = none := by
    rw [State.grantOf, hcal, find_calWithout_same]
  have hothers : ∀ d y, (d ≠ g.key ∨ y ≠ g.typ) → (s.release g.key g.typ).grantOf d y = s.grantOf d y := fun d y hne => by
    rw [State.grantOf, hcal, find_calWithout_ne _ hne, ← State.grantOf]
  unfold State.grantOver
  cases hnext : g.next with
  | none => exact ⟨htc, fun _ => hnone, nofun, hothers⟩
  | some x =>
    obtain ⟨l, e⟩ := x
    dsimp only
    let r : CalRec := { g with log := l, expiry := e, waits := true, next := none }
    obtain ⟨hcal', htc'⟩ := Prod.mk.inj (putCal_calAndTime (g := r) hnone)
    refine ⟨htc'.trans htc, nofun, ?_, fun d y hne => ?_⟩
    · rintro l' e' ⟨⟩
      rw [State.grantOf, hcal', List.find?_append, find_calWithout_same, Option.none_or]
      exact List.find?_cons_of_pos (by simp [r])
    · have hr : [r].find? (fun x => decide (x.key = d ∧ x.typ = y)) = none :=
        List.find?_cons_of_neg fun heq => by
          obtain ⟨hkey, htyp⟩ := of_decide_eq_true heq
          exact hne.elim (· hkey.symm) (· htyp.symm)
      rw [← hothers d y hne, State.grantOf, hcal', List.find?_append, find_calWithout_ne _ hne, hr, Option.or_none, ← State.grantOf]

theorem grantExpiry_ends {c : CKey} {typ : Nat} {g : CalRec} (hg : s.grantOf c.norm typ = some g) :
    exec (.grantExpiry c typ) s = .next (if s.grantRuns g then s else s.grantOver g) := by
  show execGrantExpiry c typ s = _
  unfold execGrantExpiry
  rw [hg]

end

/-- Settles O24: each message by what becomes of it, and a grant at its expiry by what is left of the calendar. -/
theorem ptpService : Obligations.PtpService := by
  unfold Obligations.PtpService
  intro s q
  refine ⟨fun htakes _ => ⟨?_, fun hp2p => ?_⟩,
    fun tlvs => signaling_ends (requestUnicast_signals s q tlvs),
    fun tlvs => signaling_ends (f := fun _ sa u => tlvs.foldl (fun v x => v.answerCancel q.norm sa x) u) (cancelUnicast_signals s q tlvs),
    fun c typ g hg => ?_⟩
  · obtain ⟨t, a, u, ht, hlet, hcases⟩ := delayReq_ends htakes
    refine ⟨t, a, u, ht, hlet, ?_⟩
    split at hcases
    · next hout => rwa [if_pos hout]
    · next hin =>
      rw [if_neg hin]
      intro hoff
      replace hcases := hcases hoff
      split at hcases
      · next hno => rwa [if_pos hno]
      · next hyes =>
        rw [if_neg hyes]
        exact ⟨u.delayResp q.norm, rfl, rfl, rfl, rfl, rfl, rfl, rfl, rfl, hcases⟩
  · obtain ⟨t, a, u, ht, hlet, hcases⟩ := pdelayReq_ends htakes hp2p
    refine ⟨t, a, u, ht, hlet, ?_⟩
    split at hcases
    · next hout => rwa [if_pos hout]
    · next hin =>
      rw [if_neg hin]
      exact fun hoff => ⟨u.pdelayResp q.norm, rfl, rfl, rfl, rfl, rfl, rfl, rfl, hcases hoff⟩
  · refine ⟨_, grantExpiry_ends hg, ?_⟩
    split
    · rfl
    · exact grantOver_calendar hg

end Sys2Proof.Machine
end

section
/-! PROOFS. The commands of the PTP service (R232, R233, R236, R257): what each reads, which a fetch leaves alone, and what it leaves. -/

namespace Sys2Proof.Machine

section

variable {s : State} {c : Ctx} {k : Nat}

/-! ## PTP_INST_START (R232, R233, R236) -/

/-- What a start accepted comes to: WAIT with a record that begins now, the change noted, and the INST judged. -/
def State.startInst (s : State) (k role now : Nat) : State :=
  let v := (((s.setInst k { offAt := now, annAt := now }).setInstSt k 1).change role 0x90FF 0x0902 0xFFFFFFFF k 0).ptpJudge k
  if v.instRole k = 1 then v.upJudge k else v

theorem ptpInstStart_ends (hr : Ready s c opPtpInstStart) (hk : k < 4) (body : List Int) :
    let t := s.runCmd c opPtpInstStart body (ptpInstStartEff k)
    if s.instSt k ≠ 0 then Ends s c opPtpInstStart Status.busy 0 id t
    else if s.profileOk k = false ∨ s.instClash k ∨ s.clockId = 0 ∨
      (s.instRole k = 1 ∧ ((List.range 4).filter fun p => s.fbit (Reg.PTP_INST_CFG_PORTS k) p).length ≠ 1)
    then Ends s c opPtpInstStart Status.range 0 id t
    else Ends s c opPtpInstStart Status.ok 0 (fun f => f.startInst k (s.sessionRole c.ring c.session) s.runNs) t := by
  intro t
  have hreads : (s.fetch c).instSt k = s.instSt k ∧ (s.fetch c).profileOk k = s.profileOk k ∧ (s.fetch c).instClash k = s.instClash k ∧
      (s.fetch c).clockId = s.clockId ∧ (s.fetch c).instRole k = s.instRole k ∧
      (s.fetch c).fbit (Reg.PTP_INST_CFG_PORTS k) = s.fbit (Reg.PTP_INST_CFG_PORTS k) := by
    obtain ⟨h, r, e⟩ := fetch_eq s c
    rw [e]
    exact ⟨rfl, rfl, rfl, rfl, rfl, rfl⟩
  obtain ⟨hst, hok, hclash, hid, hrole, hports⟩ := hreads
  rw [← hst, ← hok, ← hclash, ← hid, ← hrole, ← hports]
  refine runCmd_judged hr (if_neg (by omega)) fun h =>
    runCmd_judged (rest := ⟨(s.fetch c).startInst k (s.sessionRole c.ring c.session) s.runNs, some Status.ok, 0⟩) hr
      (h.trans (if_congr ?_ rfl ?_)) fun h => runCmd_answers hr h (.refl _)
  · rw [Bool.not_eq_true]
  · rw [← fetch_runNs s c]
    rfl

/-! ## PTP_INST_STOP (R236) -/

theorem setInstSt_instSt (s : State) (k : Nat) {v : Nat} (hv : v < 4) : (s.setInstSt k v).instSt k = v := by
  let u := (s.put (Reg.PTP_INST_STATE_STATE k) v).putBit Reg.PTP_STATUS_SERVING k (decide (v = 2))
  have hne : (Reg.PTP_INST_STATE_STATE k).key ≠ Reg.PTP_STATUS_SERVING.key :=
    (key_ne_of_addr_lt (by show 0x340000 < 0x340118 + 0x100 * k; omega) (by decide)).symm
  have hu : u.instSt k = v :=
    calc u.instSt k = (s.put (Reg.PTP_INST_STATE_STATE k) v).instSt k := State.get_put_ne _ _ hne
      _ = v % 4 := State.get_put_same _ _ _
      _ = v := Nat.mod_eq_of_lt hv
  have hraise : ∀ items, (u.raise evInstState items).instSt k = u.instSt k := fun items =>
    (raise_quiet_of_sticky_none rfl _ _ _).regs _ (key_notMem_bookkeeping (by show 0x60000 ≤ 0x340118 + 0x100 * k; omega))
  show State.instSt (if s.instSt k = v then u else u.raise evInstState [i1 k, i1 (s.instSt k), i1 v]) k = v
  split
  · exact hu
  · exact (hraise _).trans hu

theorem setInstSt_tc (s : State) (k v : Nat) : (s.setInstSt k v).tc = s.tc := by
  unfold State.setInstSt
  exact view_ite State.tc rfl (raise_tc _ _ _ _)

theorem ptpJudge_off (h : s.instSt k = 0) : s.ptpJudge k = s.put (Reg.PTP_INST_STATE_PORTS_SERVING k) 0 := by
  unfold State.ptpJudge
  simp [h]

/-- What the stop of a SERVICE INST without grants leaves. -/
def State.stopInst (s : State) (k : Nat) : State := ((s.setInstSt k 0).ptpJudge k).setInst k {}

theorem stopInst_eq (s : State) (k : Nat) : s.stopInst k = ((s.setInstSt k 0).put (Reg.PTP_INST_STATE_PORTS_SERVING k) 0).setInst k {} := by
  unfold State.stopInst
  rw [ptpJudge_off (setInstSt_instSt s k (by decide))]

theorem stopInst_shows (s : State) (k : Nat) : (s.stopInst k).instSt k = 0 ∧ (s.stopInst k).inst k = {} ∧
    (s.stopInst k).get (Reg.PTP_INST_STATE_PORTS_SERVING k) = 0 ∧ (s.stopInst k).tc = s.tc := by
  rw [stopInst_eq]
  refine ⟨?_, State.inst_setInst_same _ _ _, State.get_put_same _ _ _, ?_⟩
  · have hne : (Reg.PTP_INST_STATE_STATE k).key ≠ (Reg.PTP_INST_STATE_PORTS_SERVING k).key := by
      simp [Fld.key, Reg.PTP_INST_STATE_STATE, Reg.PTP_INST_STATE_PORTS_SERVING]
    exact (State.get_put_ne _ _ hne).trans (setInstSt_instSt s k (by decide))
  · exact setInstSt_tc s k 0

/-- The stop of a SERVICE INST, where no grant is in the calendar. -/
theorem ptpInstStopEff_service {f : State} {role : Nat} (hk : k < 4) (hservice : f.instRole k = 0) (hcal : f.clt.calendar = []) :
    ptpInstStopEff k role f = ⟨(f.stopInst k).change role 0x90FF 0x0903 0xFFFFFFFF k 0, some Status.ok, 0⟩ := by
  have hcancel : (f.cancelGrants k none).2 = f := by
    unfold State.cancelGrants
    rw [hcal]
    rfl
  have hgive : f.giveAllBack k = f := if_neg (by omega)
  unfold ptpInstStopEff
  rw [if_neg (by omega), hcancel, hgive]
  simp only [hservice]
  rfl

theorem ptpInstStop_ends (hr : Ready s c opPtpInstStop) (hk : k < 4) (hservice : s.instRole k = 0) (hcal : s.clt.calendar = []) (body : List Int) :
    let t := s.runCmd c opPtpInstStop body (ptpInstStopEff k)
    Ends s c opPtpInstStop Status.ok 0 (fun f => f.stopInst k) t ∧ t.instSt k = 0 ∧ t.inst k = {} ∧
      t.get (Reg.PTP_INST_STATE_PORTS_SERVING k) = 0 ∧ t.tc = s.tc := by
  intro t
  have heff := ptpInstStopEff_service (role := s.sessionRole c.ring c.session) hk ((fetch_get s c _).trans hservice)
    ((congrArg Clt.calendar (fetch_clt s c)).trans hcal)
  have hends : Ends s c opPtpInstStop Status.ok 0 (fun f => f.stopInst k) t :=
    runCmd_answers hr heff (change_quiet _ _ _ _ _ _ _)
  obtain ⟨hst, hinst, hports, htc⟩ := stopInst_shows (s.fetch c) k
  have hapart := hends.apart
  refine ⟨hends, ?_, ?_, ?_, hapart.tc.trans (htc.trans (fetch_tc s c))⟩
  · exact (hapart.regs _ (key_notMem_bookkeeping (by show 0x60000 ≤ 0x340118 + 0x100 * k; omega))).trans hst
  · exact (congrArg (fun m => (aget m k).getD ({} : InstRec)) hapart.insts).trans hinst
  · exact (hapart.regs _ (key_notMem_bookkeeping (by show 0x60000 ≤ 0x340118 + 0x100 * k; omega))).trans hports

/-! ## PTP_CLOCK_ID_SET (R232, R257) -/

theorem running_iff (s : State) : ((List.range 4).any fun k => decide (s.instSt k ≠ 0)) = true ↔
    s.instSt 0 ≠ 0 ∨ s.instSt 1 ≠ 0 ∨ s.instSt 2 ≠ 0 ∨ s.instSt 3 ≠ 0 := by
  simp [List.range_succ]

theorem ptpClockIdSet_ends (hr : Ready s c opPtpClockIdSet) (id_ : Nat) (body : List Int) :
    let t := s.runCmd c opPtpClockIdSet body (ptpClockIdSetEff id_)
    if s.instSt 0 ≠ 0 ∨ s.instSt 1 ≠ 0 ∨ s.instSt 2 ≠ 0 ∨ s.instSt 3 ≠ 0 then Ends s c opPtpClockIdSet Status.busy 0 id t
    else if 2 ^ 64 ≤ id_ then Ends s c opPtpClockIdSet Status.range 0 id t
    else Ends s c opPtpClockIdSet Status.ok 0 (fun f => f.put64 Reg.PTP_CLOCK_ID_LO_ID_LO Reg.PTP_CLOCK_ID_HI_ID_HI id_) t ∧ t.clockId = id_ := by
  intro t
  have hst : ∀ j, (s.fetch c).instSt j = s.instSt j := fun j => fetch_get s c _
  simp only [← hst]
  refine runCmd_judged hr (if_congr (running_iff _) rfl rfl) fun h => ?_
  split
  · next hbig => exact runCmd_refused hr (h.trans (if_pos hbig))
  next hid =>
  replace h := h.trans (if_neg hid)
  have hends : Ends s c opPtpClockIdSet Status.ok 0 (fun f => f.put64 Reg.PTP_CLOCK_ID_LO_ID_LO Reg.PTP_CLOCK_ID_HI_ID_HI id_) t :=
    runCmd_answers hr h (change_quiet _ _ _ _ _ _ _)
  refine ⟨hends, ?_⟩
  have hapart := hends.apart
  rw [State.clockId, State.get64, hapart.regs _ (by decide), hapart.regs _ (by decide)]
  exact put64_regs_get64 _ (by decide) rfl rfl (by omega)

/-! ## PTP_GRANT_CANCEL (R257) -/

theorem ptpGrantCancel_ends (hr : Ready s c opPtpGrantCancel) (hk : k < 4) (who : Option CKey) (body : List Int) :
    Ends s c opPtpGrantCancel Status.ok (s.cancelGrants k who).1 (fun f => (f.cancelGrants k who).2)
      (s.runCmd c opPtpGrantCancel body (ptpGrantCancelEff k who)) := by
  have hcount : ((s.fetch c).cancelGrants k who).1 = (s.cancelGrants k who).1 := by
    obtain ⟨h, r, e⟩ := fetch_eq s c
    rw [e]
    rfl
  have heff : ptpGrantCancelEff k who (s.sessionRole c.ring c.session) (s.fetch c) =
      ⟨((s.fetch c).cancelGrants k who).2.change (s.sessionRole c.ring c.session) 0x90FF 0x0906 0xFFFFFFFF k ((s.fetch c).cancelGrants k who).1,
        some Status.ok, ((s.fetch c).cancelGrants k who).1⟩ := if_neg (by omega)
  rw [← hcount]
  exact runCmd_answers hr heff (change_quiet _ _ _ _ _ _ _)

end

/-- Settles O25: each command by its own lemma. -/
theorem ptpCommands : Obligations.PtpCommands := by
  unfold Obligations.PtpCommands
  intro s c
  exact ⟨fun k hr hk => ⟨_, rfl, ptpInstStart_ends hr hk _⟩, fun k hr hk hservice hcal => ⟨_, rfl, ptpInstStop_ends hr hk hservice hcal _⟩,
    fun id_ hr => ⟨_, rfl, ptpClockIdSet_ends hr id_ _⟩, fun k who hr hk => ⟨_, _, rfl, rfl, ptpGrantCancel_ends hr hk who _⟩⟩

end Sys2Proof.Machine
end

section
/-! PROOFS. What the slave side of PTP makes of what it hears (R234, R251, R252, R254, R256), without authentication. -/

namespace Sys2Proof.Machine

section

variable {s : State} {q : PtpIn}

/-! ## What a message is taken by -/

theorem upTakes_iff : s.upTakes q = true ↔ s.instTakes q.inst q.peer.key.port = true ∧ s.instRole q.inst = 1 := decide_eq_true_iff

/-- An INST that takes a message on a port runs there. -/
theorem instTakes_runs {k p : Nat} (h : s.instTakes k p = true) : k < 4 ∧ p < 4 ∧ s.instOn k p = true := by
  obtain ⟨hk, hp, hon, -⟩ := of_decide_eq_true h
  exact ⟨hk, hp, hon⟩

/-! ## Announce messages (R251, R256) -/

/-- What an event of the PTP service raised with a gap leaves alone: what its sticky bit, its gap's variable and its raising do. -/
theorem view_raiseGapPtp {α : Type} (p : State → α) {n : Nat} {sev : Sev} {hid : Nat} {items : List Item} (v : Var) (gap : Nat)
    (hbit : p (s.putBit Reg.PTP_STICKY_STICKY n true) = p s) (hset : ∀ x, p (s.setVar v x) = p s)
    (hraise : ∀ u : State, p (u.raise (evPtp n sev hid) items) = p u) : p (s.raiseGap v gap (evPtp n sev hid) items) = p s := by
  unfold State.raiseGap
  exact view_ite p hbit (view_ite p rfl ((hraise _).trans (view_ite p (hset _) rfl)))

/-- A foreign Announce on a SERVICE port: counted, and raised once per minute (R256). -/
def State.foreignHeard (s : State) (q : PtpIn) : State :=
  (s.bump (Reg.FOREIGN_ANNOUNCE_COUNT q.inst)).raiseGap (.ptpRaised 3 q.peer.key.port) (60 * secNs) (evPtp 3 .warning)
    [i1 q.peer.key.port, i8 q.clock]

theorem foreignHeard_counts (s : State) (q : PtpIn) :
    (s.foreignHeard q).get (Reg.FOREIGN_ANNOUNCE_COUNT q.inst) = (s.get (Reg.FOREIGN_ANNOUNCE_COUNT q.inst) + 1) % 2 ^ 32 ∧
      (s.foreignHeard q).tc = s.tc ∧ (s.foreignHeard q).insts = s.insts := by
  have haddr : 0x340010 ≤ (Reg.FOREIGN_ANNOUNCE_COUNT q.inst).addr := by show _ ≤ 0x340164 + 0x100 * q.inst; omega
  refine ⟨?_, view_raiseGapPtp State.tc _ _ rfl (fun _ => rfl) fun u => raise_tc _ _ _ _,
    view_raiseGapPtp State.insts _ _ rfl (fun _ => rfl) fun u => raise_insts _ _ _ _⟩
  exact (view_raiseGapPtp (State.get · (Reg.FOREIGN_ANNOUNCE_COUNT q.inst)) _ _ (State.get_put_ne _ _ (ptp_ne_sticky haddr)) (fun _ => rfl)
    fun u => get_raisePtp haddr u _ _ _ _).trans (State.get_put_same _ _ _)

/-- An Announce that names this clock as grandmaster is a loop: counted, and nothing else of it taken (R251). -/
theorem upAnnounce_loop {b : AnnounceBody} (tlv : Option BoundTlv) (hgm : b.gm = s.clockId) : let t := s.upAnnounce q.norm b tlv
    t.get (Reg.LOOP_DISCARD_COUNT q.inst) = (s.get (Reg.LOOP_DISCARD_COUNT q.inst) + 1) % 2 ^ 32 ∧ t.insts = s.insts ∧ t.tc = s.tc := by
  intro t
  let p := q.norm.peer.key.port
  have ht : t = (s.bump (Reg.LOOP_DISCARD_COUNT q.inst)).raise (evPtp 4 .warning (0x8000 + p)) [i1 p] := if_pos hgm
  rw [ht]
  refine ⟨?_, raise_insts _ _ _ _, raise_tc _ _ _ _⟩
  exact (get_raisePtp (by show _ ≤ 0x340168 + 0x100 * q.inst; omega) _ _ _ _ _).trans (State.get_put_same _ _ _)

theorem announceRx_service (b : AnnounceBody) (tlv : Option BoundTlv) (hoff : s.get (Reg.PTP_INST_CFG_AUTH q.inst) = 0) (hk : q.inst < 4)
    (hp : q.norm.peer.key.port < 4) (hon : s.instOn q.inst q.norm.peer.key.port = true) (hservice : s.instRole q.inst = 0) :
    exec (.announceRx q b tlv) s = .next (if q.clock = s.clockId then s else s.foreignHeard q.norm) := by
  show execAnnounceRx q b tlv s = _
  unfold execAnnounceRx
  extract_lets r k
  refine congrArg _ ((if_neg (not_not.2 ⟨hk, hp, hon⟩)).trans ((if_pos hservice).trans ?_))
  rw [show s.verified r = (true, s) from verified_off hoff]
  rfl

section

variable (htakes : s.upTakes q.norm = true) (hoff : s.get (Reg.PTP_INST_CFG_AUTH q.inst) = 0)

include htakes hoff

theorem announceRx_upstream (b : AnnounceBody) (tlv : Option BoundTlv) : exec (.announceRx q b tlv) s = .next (s.upAnnounce q.norm b tlv) := by
  obtain ⟨hinst, hrole⟩ := upTakes_iff.1 htakes
  have hservice : ¬ s.instRole q.norm.inst = 0 := by omega
  show execAnnounceRx q b tlv s = _
  unfold execAnnounceRx
  extract_lets r k
  refine congrArg _ ((if_neg (not_not.2 (instTakes_runs hinst))).trans ((if_neg hservice).trans ((if_neg (not_not.2 htakes)).trans ?_)))
  rw [show s.verified r = (true, s) from verified_off hoff]

/-! ## Offsets and delays (R252) -/

theorem syncRx_upstream (t1 : Nat) (tlv : Option BoundTlv) :
    exec (.syncRx q t1 tlv) s = .next (if s.fromParent q.norm then s.syncTaken q.norm q.inst t1 tlv else s) := by
  show execSyncRx q t1 tlv s = _
  unfold execSyncRx
  extract_lets r k
  refine congrArg _ ((if_neg (not_not.2 htakes)).trans ?_)
  rw [show s.verified r = (true, s) from verified_off hoff]
  rfl

end

/-- The delay request that a response answers, open no longer. -/
def State.closeAsk (s : State) (q : PtpIn) : State :=
  s.setInst q.inst { s.inst q.inst with asked := adel (s.inst q.inst).asked (q.peer.key.port + 4 * q.trans) }

theorem closeAsk_inst (s : State) (q : PtpIn) : (s.closeAsk q).inst q.inst =
    { s.inst q.inst with asked := adel (s.inst q.inst).asked (q.peer.key.port + 4 * q.trans) } := State.inst_setInst_same _ _ _

theorem answered_open {st : Nat} (hst : st ≠ 0) (hask : aget (s.inst q.inst).asked (q.peer.key.port + 4 * q.trans) = some (q.seq, st)) :
    s.answered q = (some st, s.closeAsk q) := by
  unfold State.answered
  dsimp only
  rw [hask]
  exact if_pos ⟨rfl, hst⟩

theorem addDelay_inst (s : State) (k : Nat) (d : Int) : (s.addDelay k d).tc = s.tc ∧
    (s.addDelay k d).inst k = { s.inst k with delays := (d :: (s.inst k).delays).take (max 1 (s.get (Reg.PTP_UP_CTRL_DELAY_AVG k))) } := by
  unfold State.addDelay
  dsimp only
  split
  · exact ⟨rfl, State.inst_setInst_same _ _ _⟩
  · exact ⟨rfl, State.inst_setInst_same _ _ _⟩

section

variable {st : Nat} (hoff : s.get (Reg.PTP_INST_CFG_AUTH q.inst) = 0) (hserving : s.instSt q.inst = 2) (hst : st ≠ 0)
  (hask : aget (s.inst q.inst).asked (q.norm.peer.key.port + 4 * q.trans) = some (q.seq, st))

include hoff hserving hst hask

/-- The parent's Delay_Resp: one measurement of the mean path delay (R252). -/
theorem delayRespRx_measures {d : Int} (t4 : Nat) (htakes : s.upTakes q.norm = true) (hparent : s.fromParent q.norm = true)
    (hprof : s.prof q.inst ≠ 1) (hdown : (s.inst q.inst).down = some d) : exec (.delayRespRx q t4) s =
      .next ((s.closeAsk q.norm).addDelay q.inst (truncDiv (d + ((t4 : Int) - st - q.corr)) 2)) := by
  have hd : ((s.closeAsk q.norm).inst q.norm.inst).down = some d := by
    rw [closeAsk_inst]
    exact hdown
  show execDelayRespRx q t4 s = _
  unfold execDelayRespRx
  extract_lets r
  refine congrArg _ ((if_neg (not_not.2 ⟨htakes, hserving, hprof⟩)).trans ?_)
  rw [show s.verified r = (true, s) from verified_off hoff]
  refine (if_neg (not_not.2 hparent)).trans ?_
  rw [answered_open (q := r) hst hask]
  dsimp only
  rw [hd]
  rfl

/-- The neighbour's Pdelay_Resp to a SERVICE INST: the delay, shown (R234). -/
theorem pdelayRespRx_shows (turn : Int) (htakes : s.instTakes q.inst q.norm.peer.key.port = true) (hp2p : s.prof q.inst = 1)
    (hservice : s.instRole q.inst = 0) : exec (.pdelayRespRx q turn) s = .next ((s.closeAsk q.norm).put (Reg.PTP_PEER_DELAY_DELAY q.inst)
      (satU 32 (truncDiv ((s.rxStamp q.norm.peer.key.port q.at_ : Int) - st - turn - q.corr) 2 / 256))) := by
  show execPdelayRespRx q turn s = _
  unfold execPdelayRespRx
  extract_lets r k
  refine congrArg _ ((if_neg (not_not.2 ⟨htakes, hserving, hp2p⟩)).trans ?_)
  rw [show s.verified r = (true, s) from verified_off hoff]
  dsimp only
  rw [answered_open (q := r) hst hask]
  exact if_pos hservice

end

theorem satU_lt (w : Nat) (x : Int) : satU w x < 2 ^ w := by
  have hpos : 0 < 2 ^ w := Nat.two_pow_pos w
  have hcast : ((2 ^ w : Nat) : Int) = 2 ^ w := by norm_num
  unfold satU
  split_ifs <;> omega

/-! ## Timeouts (R254) -/

theorem announceTimeout_upstream {j : Nat} (hj : j < 4) (hup : s.instRole j = 1) (hon : s.instSt j ≠ 0) :
    exec (.announceTimeout j) s = .next ((s.upJudge j).parentSilent j) := congrArg _ (if_neg (not_not.2 ⟨hj, hon, hup⟩))

theorem losTimeExpiry_upstream {j : Nat} (hj : j < 4) (hup : s.instRole j = 1) (hon : s.instSt j ≠ 0) :
    exec (.losTimeExpiry j) s = .next (s.upJudge j) := congrArg _ (if_pos ⟨hj, hon, hup⟩)

theorem timeouts_service {j : Nat} (hservice : s.instRole j ≠ 1) : exec (.announceTimeout j) s = .next s ∧ exec (.losTimeExpiry j) s = .next s :=
  ⟨congrArg _ (if_pos fun h => hservice h.2.2), congrArg _ (if_neg fun h => hservice h.2.2)⟩

end

/-- Settles O26: each message by what takes it and what it leaves, and the timeouts by the role. -/
theorem upstreamMessages : Obligations.UpstreamMessages := by
  unfold Obligations.UpstreamMessages
  rintro s q k p rfl rfl hoff
  refine ⟨fun b tlv hk hp hon hservice => ?_, fun b tlv htakes => ?_, fun t1 tlv htakes => ?_,
    fun t4 st d htakes hserving hparent hprof hst hask hdown => ?_, fun turn st htakes hserving hp2p hservice hst hask => ?_,
    fun j hj hup hon => ⟨⟨_, announceTimeout_upstream hj hup hon, rfl⟩, _, losTimeExpiry_upstream hj hup hon, rfl⟩, fun j _ hservice => ?_⟩
  · refine ⟨_, announceRx_service b tlv hoff hk hp hon hservice, ?_⟩
    split
    · rfl
    · exact foreignHeard_counts s q.norm
  · refine ⟨_, announceRx_upstream htakes hoff b tlv, ?_⟩
    split
    · next hgm => exact upAnnounce_loop tlv hgm
    · rfl
  · refine ⟨_, syncRx_upstream htakes hoff t1 tlv, ?_⟩
    split
    · exact ⟨_, _, rfl, rfl, rfl⟩
    · rfl
  · obtain ⟨htc, hinst⟩ := addDelay_inst (s.closeAsk q.norm) q.inst (truncDiv (d + ((t4 : Int) - st - q.corr)) 2)
    rw [show (s.closeAsk q.norm).inst q.inst = _ from closeAsk_inst s q.norm] at hinst
    exact ⟨_, delayRespRx_measures hoff hserving hst hask t4 htakes hparent hprof hdown, congrArg InstRec.delays hinst,
      congrArg InstRec.asked hinst, htc⟩
  · refine ⟨_, pdelayRespRx_shows hoff hserving hst hask turn htakes hp2p hservice, ?_, congrArg InstRec.asked (closeAsk_inst s q.norm), rfl⟩
    exact (State.get_put_same _ _ _).trans (Nat.mod_eq_of_lt (satU_lt _ _))
  · obtain ⟨hann, hlos⟩ := timeouts_service (s := s) hservice
    exact ⟨⟨s, hann, rfl⟩, s, hlos, rfl⟩

end Sys2Proof.Machine
end

section
/-! PROOFS. What the slave side of PTP sends (R236, R251, R252), without authentication: Delay_Req by multicast, and the grants it asks for and is
given. -/

namespace Sys2Proof.Machine

section

variable {s : State} {k : Nat}

/-! ## Delay requests (R252) -/

theorem delayReqTx_multicast {f : Foreign} (hk : k < 4) (hoff : s.get (Reg.PTP_INST_CFG_AUTH k) = 0) (hserving : s.instSt k = 2)
    (hup : s.instRole k = 1) (he2e : s.prof k ≠ 1) (hmulti : s.prof k ≠ 4) (hparent : s.parentOf k = some f) : exec (.delayReqTx k) s = .next (
      if s.dueAt (s.logDly k) (s.inst k).lastDly = false then s
      else (s.setInst k { s.inst k with
          lastDly := s.tc.edges + 1, seqDelay := ((s.inst k).seqDelay + 1) % 65536
          asked := (s.transports k).map fun tr => (s.instPort k + 4 * tr, ((s.inst k).seqDelay, 0)) }).toAll k
        fun _ _ tr => { typ := 1, inst := k, trans := tr, dst := none, seq := (s.inst k).seqDelay, log := 0x7F, sa := none }) := by
  show execDelayReqTx k s = _
  unfold execDelayReqTx
  refine congrArg _ (if_congr (by simp [hk, hserving, hup, he2e]) rfl ?_)
  rw [hparent]
  have huni : decide (s.prof k = 4) = false := decide_eq_false hmulti
  simp only [huni, Bool.false_and, Bool.false_eq_true, if_false]
  have hu : ∀ r, (s.setInst k r).get (Reg.PTP_INST_CFG_AUTH k) = 0 := fun _ => hoff
  rw [signGroup_off (hu _)]
  dsimp only
  rw [State.inst_setInst_same, setInst_setInst]
  rfl

/-! ## Grants asked for and given (R251) -/

/-- The log interval that an INST asks a message type's grant for. -/
def State.askedLog (s : State) (k typ : Nat) : Int := if typ = 0 then s.logAnn k else if typ = 1 then s.logSync k else s.logDly k

/-- The unsigned request for a grant of 300 s from a configured master. -/
def State.grantAsk (s : State) (k m typ : Nat) : PtpMsg :=
  { typ := 12, inst := k, trans := transOf (s.masterKey k m).kind, dst := some (s.masterKey k m), seq := (s.inst k).seqSig, log := 0x7F, sa := none
    neg := [⟨0, typ, s.askedLog k typ, 300⟩] }

theorem grantRenewal_asks {m typ : Nat} (hk : k < 4) (hoff : s.get (Reg.PTP_INST_CFG_AUTH k) = 0) (hm : m < 4) (htyp : typ < 3)
    (hserving : s.instSt k = 2) (hup : s.instRole k = 1) (hprof : s.prof k = 4) (hvalid : s.get (Reg.PTP_UP_MCFG_VALID k m) = 1) :
    exec (.grantRenewal k m typ) s = .next (
      if s.runNs + 60 * secNs < (aget (s.inst k).grants (4 * m + typ)).getD 0 then s
      else ((s.setInst k { s.inst k with seqSig := ((s.inst k).seqSig + 1) % 65536 }).txPush (s.masterKey k m).port (s.clientTci (s.masterKey k m))
        (.ptp (s.grantAsk k m typ))).upShow k) := by
  show execGrantRenewal k m typ s = _
  unfold execGrantRenewal
  refine congrArg _ (if_congr (by simp [hk, hm, htyp, hserving, hup, hprof, hvalid]) rfl ?_)
  rw [signClient_off hoff]
  rfl

/-- A GRANT's TLV taken from master m: its grant runs from now for its duration, and a denial leaves none. -/
def State.takeGrant (s : State) (k m : Nat) (x : NegTlv) : State :=
  if x.kind = 1 ∧ x.typ < 3 then
    s.setInst k { s.inst k with grants := aput (s.inst k).grants (4 * m + x.typ) (if x.dur = 0 then 0 else s.runNs + x.dur * secNs) }
  else s

/-- The configured master whose GRANTs an INST takes: none while it does not negotiate. -/
def State.granter (s : State) (q : PtpIn) : Option Nat := if s.instSt q.inst = 2 ∧ s.prof q.inst = 4 then s.masterOf q.inst q.peer.key else none

theorem grantRx_takes {q : PtpIn} (tlvs : List NegTlv) (htakes : s.upTakes q.norm = true) : exec (.grantRx q tlvs) s = .next (
    s.afterSignaling q.norm fun _ v => match v.granter q.norm with
      | none => v
      | some m => (tlvs.foldl (fun u x => u.takeGrant q.inst m x) v).upJudge q.inst) := by
  show execGrantRx q tlvs s = _
  unfold execGrantRx State.afterSignaling
  refine congrArg _ ((if_neg (not_not.2 htakes)).trans ?_)
  dsimp only
  obtain ⟨_ | y, v⟩ := s.openSignaling q.norm
  · rfl
  · rfl

end

/-- Settles O27: each message sent by its own lemma, and a grant given by who gives it. -/
theorem upstreamRequests : Obligations.UpstreamRequests := by
  unfold Obligations.UpstreamRequests
  intro s k hk hoff
  refine ⟨fun f hserving hup he2e hmulti hparent => next_ite (delayReqTx_multicast hk hoff hserving hup he2e hmulti hparent),
    fun m typ hm htyp hserving hup hprof hvalid => ?_, ?_⟩
  · refine ⟨_, grantRenewal_asks hk hoff hm htyp hserving hup hprof hvalid, ?_⟩
    split
    · rfl
    · exact ⟨s.grantAsk k m typ, rfl, rfl, rfl, rfl, rfl, rfl, rfl⟩
  · rintro q tlvs rfl htakes
    refine ⟨_, grantRx_takes tlvs htakes, fun u hu => afterSignaling_barred hu _, fun v y hv => ?_⟩
    rw [afterSignaling_open hv]
    split
    · next hnone =>
      rw [show v.granter q.norm = none from hnone]
    · next m hm =>
      rw [show v.granter q.norm = some m from hm]
      rfl

end Sys2Proof.Machine
end

section
/-! PROOFS. NTP and NTS requests (R260 to R264, R269, R273), and the launch of sealed replies (R274, R275). -/

namespace Sys2Proof.Machine

section

variable {s : State} {q : Peer} {p : Nat}

/-! ## A request received (R260, R261, R273) -/

/-- Counting a request leaves each register below the counter alone, and with them whether a port answers. -/
theorem ntpServes_received (hp : p < 4) : (s.bump Reg.NTP_RX_COUNT).ntpServes p = s.ntpServes p := by
  have hget : ∀ f : Fld, f.addr < 0x341200 → f.lo < 32 → (s.bump Reg.NTP_RX_COUNT).get f = s.get f := fun f hf hlo =>
    State.get_put_ne s _ (key_ne_of_addr_lt hf hlo)
  have hlink := hget (Reg.PORT_STATUS_LINK p) (by show 0x300180 + 0x4000 * p < _; omega) (by show 0 < 32; decide)
  rw [Bool.eq_iff_iff]
  simp only [State.ntpServes, State.fbit, State.portServes, State.portUp, State.tbState, State.serves, decide_eq_true_eq, hlink,
    hget Reg.NTP_CTRL_PORT_EN (by decide) (by decide), hget Reg.TB_STATUS_STATE (by decide) (by decide),
    hget Reg.TWN_STATUS_ROLE (by decide) (by decide)]

/-- An NTS request reaches past its header, where its Unique Identifier stands. -/
theorem ntpKind_nts_length {pay : List Byte} (h : s.ntpKind pay = .nts) : 48 ≤ pay.length := by
  by_contra hshort
  have hrest : pay.drop 48 = [] := List.drop_eq_nil_of_le (by omega)
  unfold State.ntpKind at h
  dsimp only at h
  split_ifs at h
  next hnts =>
    obtain ⟨-, hfield⟩ := hnts
    rw [hrest] at hfield
    exact Bool.false_ne_true hfield

/-- What becomes of an NTS request on a port of the engine (R260, R273). -/
theorem ntsRequest_judged (hp : q.key.norm.port < 4) (at_ : MiiAt) (pay : List Byte) :
    let r : Peer := { q with key := q.key.norm }
    let v := s.bump Reg.NTP_RX_COUNT
    exec (.ntsRequest q at_ pay) s = .next (
      if s.ntpKind pay ≠ .nts then s
      else if s.ntpServes r.key.port = false then v.notServing r 2
      else if s.get Reg.NTP_CTRL_NTS_EN = 0 then v.bump Reg.NTS_MALFORMED_COUNT
      else (ntsParse pay).elim (v.bump Reg.NTS_MALFORMED_COUNT) fun x => v.ntsOpen r (v.rxStamp r.key.port at_) pay x) := by
  intro r v
  have hnot : (4 ≤ r.key.port ∨ pay.length < 48 ∨ s.ntpKind pay ≠ .nts) ↔ s.ntpKind pay ≠ .nts := by
    refine ⟨fun h hnts => ?_, fun h => .inr (.inr h)⟩
    have hlength := ntpKind_nts_length hnts
    rcases h with h | h | h
    · exact absurd hp (not_lt.2 h)
    · omega
    · exact h hnts
  have hserves : ¬ v.ntpServes r.key.port = true ↔ s.ntpServes r.key.port = false := by
    rw [Bool.not_eq_true, ntpServes_received hp]
  have hen : v.get Reg.NTP_CTRL_NTS_EN = s.get Reg.NTP_CTRL_NTS_EN := State.get_put_ne _ _ (by decide)
  show execNtsRequest q at_ pay s = _
  unfold execNtsRequest
  refine congrArg _ (if_congr hnot rfl (if_congr hserves rfl (if_congr (by rw [hen]) rfl ?_)))
  cases ntsParse pay with
  | none => rfl
  | some x => rfl

/-! ## A plain request (R263, R264, R269) -/

/-- The reply to a plain request: its header answers the request's, its origin the request's transmit timestamp (R263). -/
def State.plainReply (s : State) (q : Peer) (rx : Nat) (pay : List Byte) (cls : Nat) : NtpMsg where
  dst := q.key
  dport := q.sport
  fromB := q.toB
  hdr := s.ntpHeader (netField pay 0 1 / 8 % 8) (replyPoll (ofBits 8 (netField pay 2 1)) (s.get (Reg.NTP_CLASS_MINPOLL cls)) 0)
    (s.rootDisp (s.pPort q.key.port)) rx (s.smeared cls) ((pay.drop 40).take 8) 0
  ext := []
  smear := s.smeared cls
  kiss := false
  tp := none
  disp := 0

theorem plainRequest_ends (s : State) (q : Peer) (rx : Nat) (pay : List Byte) : ∃ a u, s.letIn q 3 1 0 false = (a, u) ∧
    let t := s.plainRequest q rx pay
    (a.verdict = .refused → t = u) ∧ (a.verdict = .shed → t = u.kiss q pay a.cls false) ∧
    (a.verdict = .admitted → u.get (Reg.NTP_CLASS_NTS_ONLY a.cls) = 1 → t = u.kiss q pay a.cls true) ∧
    (a.verdict = .admitted → u.get (Reg.NTP_CLASS_NTS_ONLY a.cls) ≠ 1 → u.unsync = false →
      t = u.txPush q.key.port (replyTci q.key q.pcp) (.ntp (u.plainReply q rx pay a.cls))) := by
  obtain ⟨a, u, hlet⟩ : ∃ a u, s.letIn q 3 1 0 false = (a, u) := ⟨_, _, rfl⟩
  refine ⟨a, u, hlet, ?_⟩
  unfold State.plainRequest
  rw [hlet]
  dsimp only
  refine ⟨fun h => ?_, fun h => ?_, fun h honly => ?_, fun h hany hsync => ?_⟩
  · rw [h]
  · rw [h]
  · rw [h]
    exact if_pos honly
  · rw [h]
    exact (if_neg hany).trans (if_neg (by simp [hsync]))

/-! ## The launch of a sealed reply (R274, R275) -/

/-- A held reply taken from its port. -/
def State.unheld (s : State) (p : Nat) (i : TxItem) : State :=
  s.setPort p { s.port p with held := dropFirst (fun j => decide (j = i)) (s.port p).held }

/-- A sealed reply leaves as it was sealed, and is counted. -/
def State.launchSealed (s : State) (p : Nat) (i : TxItem) (m : NtpMsg) : State :=
  (({ s with out := .ntp p i.tci m.dst (m.hdr ++ m.ext) (s.ntpCarriage p m (m.hdr ++ m.ext)) :: s.out }.sent p
    (udpFrameLen m.dst i.tci (m.hdr.length + m.ext.length)) (some 2)).bump Reg.NTS_TX_COUNT).pmcEvent 5 0x12 { cls := some 2 }

theorem sent_out (s : State) (p len : Nat) (cls : Option Nat) : (s.sent p len cls).out = s.out := (pmcEvent_quiet _ _ _ _ (by decide)).out

/-- What a frame that leaves counts lies in its port's registers. -/
theorem get_sent {f : Fld} (hp : p < 4) (hf : 0x340000 ≤ f.addr) (s : State) (len : Nat) (cls : Option Nat) :
    (s.sent p len cls).get f = s.get f := by
  have hne : ∀ g : Fld, g.addr < 0x340000 → g.lo < 32 → f.key ≠ g.key := fun g hg hlo =>
    (key_ne_of_addr_lt (lt_of_lt_of_le hg hf) hlo).symm
  have hframes := hne (Reg.TX_FRAMES_COUNT p) (by show 0x300204 + 0x4000 * p < _; omega) (by show 0 < 32; decide)
  have hlow := hne (Reg.TX_OCTETS_LO_LO p) (by show 0x300210 + 0x4000 * p < _; omega) (by show 0 < 32; decide)
  have hhigh := hne (Reg.TX_OCTETS_HI_HI p) (by show 0x300214 + 0x4000 * p < _; omega) (by show 0 < 32; decide)
  unfold State.sent
  rw [(pmcEvent_quiet _ _ _ _ (by decide)).regs f (key_notMem_bookkeeping (le_trans (by decide) hf)), State.addOctets,
    get_put64_ne _ _ hlow hhigh]
  exact State.get_put_ne _ _ hframes

theorem launchSealed_shows (hp : p < 4) (s : State) (i : TxItem) (m : NtpMsg) :
    (s.launchSealed p i m).out = .ntp p i.tci m.dst (m.hdr ++ m.ext) (s.ntpCarriage p m (m.hdr ++ m.ext)) :: s.out ∧
      (s.launchSealed p i m).get Reg.NTS_TX_COUNT = (s.get Reg.NTS_TX_COUNT + 1) % 2 ^ 32 := by
  let v : State := { s with out := .ntp p i.tci m.dst (m.hdr ++ m.ext) (s.ntpCarriage p m (m.hdr ++ m.ext)) :: s.out }
  let w := v.sent p (udpFrameLen m.dst i.tci (m.hdr.length + m.ext.length)) (some 2)
  have hquiet : Quiet (w.bump Reg.NTS_TX_COUNT) (s.launchSealed p i m) := pmcEvent_quiet _ _ _ _ (by decide)
  have hout : (w.bump Reg.NTS_TX_COUNT).out = w.out := State.put_out _ _ _
  refine ⟨hquiet.out.trans (hout.trans (sent_out v _ _ _)), ?_⟩
  rw [hquiet.regs _ (by decide), State.bump, State.get_put_same, get_sent hp (by decide) v]
  rfl

/-- A reply that comes too late is taken from its port and counted; nothing leaves. -/
theorem lateDrop_shows (s : State) (p : Nat) (i : TxItem) : let t := (s.unheld p i).bump Reg.NTP_TX_LATE_DROP_COUNT
    t.get Reg.NTP_TX_LATE_DROP_COUNT = (s.get Reg.NTP_TX_LATE_DROP_COUNT + 1) % 2 ^ 32 ∧ t.out = s.out ∧
      (t.port p).held = dropFirst (fun j => decide (j = i)) (s.port p).held ∧ t.tc = s.tc :=
  ⟨State.get_put_same _ _ _, rfl, congrArg PortRec.held (State.port_setPort_same _ _ _), rfl⟩

theorem ntsLaunch_none (hp : p < 4) (hnone : (s.port p).held = []) (at_ : Nat) : exec (.ntsLaunch p at_) s = .next s := by
  show execNtsLaunch p at_ s = _
  unfold execNtsLaunch
  rw [if_neg (by omega), hnone]
  rfl

/-- The held reply of the earliest promised time, at the launch point: it waits, is dropped as late, or is judged by the dispersion it would need
by then (R274, R275). -/
theorem ntsLaunch_first {i : TxItem} {m : NtpMsg} {tp at_ : Nat} (hp : p < 4)
    (hfirst : (s.port p).held.foldl earlierHeld none = some (i, m, tp)) (hgoes : s.halted p i.prio = false) :
    exec (.ntsLaunch p at_) s = .next (
      if s.txStamp p at_ < tp * 65536 then s
      else if tp * 65536 + qOf (s.mode p) * 256 < s.txStamp p at_ ∨ ¬ s.portUp p ∨ ¬ s.unitOn (0x8000 + p) then
        (s.unheld p i).bump Reg.NTP_TX_LATE_DROP_COUNT
      else
        let u := (s.unheld p i).stampTaken p (some 2)
        let now := u.rootDisp (u.pPort p + qOf (u.mode p))
        if m.disp < now then (u.bump Reg.NTP_STALE_DROP_COUNT).raiseNtp 5 .warning [i1 p, i4 m.disp, i4 now]
        else u.launchSealed p i m) := by
  show execNtsLaunch p at_ s = _
  unfold execNtsLaunch
  refine congrArg _ ((if_neg (by omega)).trans ?_)
  rw [hfirst]
  exact if_congr (by simp [hgoes]) rfl rfl

end

/-- Settles O28: a request by its kind, and a sealed reply by where its launch lies against its promised time. -/
theorem ntpAndNts : Obligations.NtpAndNts := by
  unfold Obligations.NtpAndNts
  refine ⟨?_, fun s p at_ hp => ⟨fun hnone => ⟨s, ntsLaunch_none hp hnone at_, rfl⟩, fun i m tp hfirst hgoes =>
    ⟨_, ntsLaunch_first hp hfirst hgoes, ?_⟩⟩⟩
  · rintro s q at_ pay r rfl hp hpay
    constructor
    · refine ⟨_, congrArg Host.Outcome.next (if_neg (not_or.2 ⟨not_le.2 hp, hpay⟩)), ?_⟩
      cases s.ntpKind pay with
      | version => exact ⟨rfl, State.get_put_same _ _ _⟩
      | mode => exact ⟨rfl, State.get_put_same _ _ _⟩
      | toHost => rfl
      | nts => rfl
      | mac =>
        dsimp only
        rw [ntpServes_received hp]
        split
        · rfl
        · rfl
      | plain =>
        dsimp only
        rw [ntpServes_received hp]
        split
        · rfl
        split
        · obtain ⟨a, u, hlet, hrefused, hshed, honly, hreply⟩ := plainRequest_ends (s.bump Reg.NTP_RX_COUNT) { q with key := q.key.norm }
            ((s.bump Reg.NTP_RX_COUNT).rxStamp q.key.norm.port at_) pay
          exact ⟨a, u, hlet, hrefused, hshed, honly, fun h hany hsync =>
            ⟨u.plainReply { q with key := q.key.norm } _ pay a.cls, rfl, rfl, rfl, rfl, rfl, rfl, rfl, hreply h hany hsync⟩⟩
        · rfl
    · refine ⟨_, ntsRequest_judged hp at_ pay, ?_⟩
      split
      · rfl
      split
      · rfl
      cases ntsParse pay with
      | none =>
        rw [if_pos (.inr rfl)]
        exact ite_self _
      | some x =>
        by_cases hen : s.get Reg.NTP_CTRL_NTS_EN = 0
        · rw [if_pos (.inl hen), if_pos hen]
        · rw [if_neg (by simp [hen]), if_neg hen]
          exact ⟨x, rfl, rfl⟩
  · split
    · rfl
    split
    · next hlate =>
      rw [if_pos (.inl hlate)]
      exact lateDrop_shows s p i
    · next hintime =>
      intro hup hon
      rw [if_neg (by simp [hintime, hup, hon])]
      refine ⟨(s.unheld p i).stampTaken p (some 2), rfl, fun hholds => ?_⟩
      dsimp only
      rw [if_neg (not_lt.2 hholds)]
      exact launchSealed_shows hp _ i m

end Sys2Proof.Machine
end

section
/-! PROOFS. Key slots, cookies and the entry that mints (R40, R270, R272, R278 to R281): what the commands read, which a fetch leaves alone, and
what a slot set or emptied, and the minting entry judged, leave. -/

namespace Sys2Proof.Machine

section

variable {s t : State} {c : Ctx} {o : OpInfo}

/-- What an event raised with a gap leaves alone: what its sticky bit, its gap's variable and its raising do. -/
theorem view_raiseGap {α : Type} (p : State → α) {e : Ev} {items : List Item} (v : Var) (gap : Nat) (hstuck : p (s.stuck e) = p s)
    (hset : ∀ x, p (s.setVar v x) = p s) (hraise : ∀ u : State, p (u.raise e items) = p u) : p (s.raiseGap v gap e items) = p s := by
  unfold State.raiseGap
  exact view_ite p hstuck (view_ite p rfl ((hraise _).trans (view_ite p (hset _) rfl)))

/-! ## What the commands read, which a fetch leaves alone -/

theorem unitBars_fetch (hid : Nat) : (s.fetch c).unitBars hid = s.unitBars hid := by simp only [State.unitBars, fetch_unit]

theorem keyInUse_fetch (slot : Nat) : (s.fetch c).keyInUse slot = s.keyInUse slot := by
  obtain ⟨h, r, e⟩ := fetch_eq s c
  rw [e]
  rfl

theorem minter_fetch : (s.fetch c).minter (s.fetch c).linear = s.minter s.linear := by
  obtain ⟨h, r, e⟩ := fetch_eq s c
  rw [e]
  rfl

theorem drbgGives_fetch : (s.fetch c).drbgGives = s.drbgGives := by simp only [State.drbgGives, fetch_get]

/-! ## A slot set or emptied (R278 to R280) -/

theorem compareKey_keys (s : State) (slot : Nat) : (s.compareKey slot).keys = s.keys := by
  unfold State.compareKey State.keyMismatch State.raiseKey
  exact view_ite State.keys rfl (view_raiseGap State.keys _ _ rfl (fun _ => rfl) fun u => raise_keys _ _ _ _)

theorem sendState_keys (s : State) (kind role result op : Nat) (body : List Int) : (s.sendState kind role result op body).keys = s.keys := by
  unfold State.sendState
  exact view_ite State.keys (stateRecord_apart _ _ _ _ _ _).keys rfl

theorem setSlot_key (s : State) (slot : Nat) (k : Option KeySlot) (n : Nat) : (s.setSlot slot k).key n = if n = slot then k else s.key n := by
  unfold State.setSlot State.key
  rw [compareKey_keys, sendState_keys]
  by_cases hn : n = slot
  · rw [if_pos hn, hn]
    cases k with
    | none => exact aget_adel_same _ _
    | some x => exact aget_aput_same _ _ _
  · rw [if_neg hn]
    cases k with
    | none => exact aget_adel_ne _ hn
    | some x => exact aget_aput_ne _ _ hn

/-- A command that sets a slot changes that slot alone. -/
theorem Ends.key_setSlot {slot st d : Nat} {k : Option KeySlot} (h : Ends s c o st d (fun f => f.setSlot slot k) t) :
    t.key slot = k ∧ ∀ n, n ≠ slot → t.key n = s.key n := by
  have hkey : ∀ n, t.key n = if n = slot then k else s.key n := fun n => by
    rw [State.key, h.apart.keys, ← State.key, setSlot_key, State.key, fetch_keys, ← State.key]
  exact ⟨(hkey slot).trans (if_pos rfl), fun n hn => (hkey n).trans (if_neg hn)⟩

/-! ## KEY_INSTALL and KEY_ERASE (R40, R279, R281) -/

theorem runCmd_keyTableBarred {body : List Int} {eff : Nat → State → Res} {st : Nat} (hr : Ready s c o) (hbars : s.unitBars 0xA300 = some st) :
    Ends s c o st 0 id (s.runCmd c o body fun role => keyWork (eff role)) :=
  runCmd_refused hr (by rw [keyWork, unitBars_fetch, hbars])

theorem keyWork_open (hbars : s.unitBars 0xA300 = none) (f : State → Res) : keyWork f (s.fetch c) = f (s.fetch c) := by
  rw [keyWork, unitBars_fetch, hbars]

/-- The key that KEY_INSTALL reads in the clear. -/
def State.plainKey (s : State) (usage addr : Nat) : KeySlot := ⟨usage, false, memRead s.mem addr (usageLen usage)⟩

theorem keyInstall_ends (hr : Ready s c opKeyInstall) (hopen : s.unitBars 0xA300 = none) (slot usage addr len : Nat) (body : List Int) :
    let t := s.runCmd c opKeyInstall body (keyInstallEff c.dmaOk slot usage none addr len)
    if 4096 ≤ slot ∨ usage = 0 ∨ 5 ≤ usage then Ends s c opKeyInstall Status.range 0 id t
    else if s.keyInUse slot then Ends s c opKeyInstall Status.busy 0 id t
    else if c.dmaOk = false then Ends s c opKeyInstall Status.dmaError 0 id t
    else Ends s c opKeyInstall Status.ok (Crypto.kcv (s.plainKey usage addr).key) (fun f => f.setSlot slot (some (s.plainKey usage addr))) t ∧
      t.key slot = some (s.plainKey usage addr) ∧ ∀ n, n ≠ slot → t.key n = s.key n := by
  intro t
  have hkey : (s.fetch c).plainKey usage addr = s.plainKey usage addr := by rw [State.plainKey, fetch_mem, ← State.plainKey]
  rw [← hkey]
  let k := (s.fetch c).plainKey usage addr
  have hkcv : ((s.fetch c).setSlot slot (some k)).slotKcv slot = Crypto.kcv k.key := by rw [State.slotKcv, setSlot_key, if_pos rfl]
  rw [← hkcv]
  refine runCmd_judged hr ((keyWork_open hopen _).trans (if_congr (by simp) rfl rfl)) fun h =>
    runCmd_judged hr (h.trans (if_congr (by rw [keyInUse_fetch]) rfl rfl)) fun h =>
    runCmd_judged hr (h.trans (if_congr (iff_of_eq (Bool.not_eq_true _)) rfl rfl)) fun h => ?_
  have hends : Ends s c opKeyInstall Status.ok _ (fun f => f.setSlot slot (some k)) t :=
    runCmd_answers hr h ((change_quiet _ _ _ _ _ _ _).trans (raise_quiet_of_sticky_none (e := evKeyInfo 0) rfl _ _ _))
  exact ⟨hends, hends.key_setSlot⟩

theorem keyErase_ends (hr : Ready s c opKeyErase) (hopen : s.unitBars 0xA300 = none) (slot : Nat) (body : List Int) :
    let t := s.runCmd c opKeyErase body (keyEraseEff slot)
    if 4096 ≤ slot then Ends s c opKeyErase Status.range 0 id t
    else if s.keyInUse slot then Ends s c opKeyErase Status.busy 0 id t
    else Ends s c opKeyErase Status.ok 0 (fun f => f.setSlot slot none) t ∧ t.key slot = none ∧ ∀ n, n ≠ slot → t.key n = s.key n := by
  intro t
  refine runCmd_judged hr (keyWork_open hopen _) fun h =>
    runCmd_judged hr (h.trans (if_congr (by rw [keyInUse_fetch]) rfl rfl)) fun h => ?_
  have hends : Ends s c opKeyErase Status.ok 0 (fun f => f.setSlot slot none) t :=
    runCmd_answers hr h ((change_quiet _ _ _ _ _ _ _).trans (raise_quiet_of_sticky_none (e := evKeyInfo 1) rfl _ _ _))
  exact ⟨hends, hends.key_setSlot⟩

/-! ## NTS_COOKIE_MAKE (R270, R281) -/

section

variable {n keys out : Nat} {body : List Int}

theorem cookieMake_unminted (hr : Ready s c opCookieMake) (hn : ¬ (n = 0 ∨ 8 < n)) (hm : s.minter s.linear = none) :
    Ends s c opCookieMake Status.notFit 0 id (s.runCmd c opCookieMake body (cookieMakeEff c.dmaOk n keys out)) :=
  runCmd_refused hr (by rw [cookieMakeEff, if_neg hn, minter_fetch, hm])

theorem cookieMake_minted {m : Nat} (hr : Ready s c opCookieMake) (hn : ¬ (n = 0 ∨ 8 < n)) (hm : s.minter s.linear = some m) :
    let t := s.runCmd c opCookieMake body (cookieMakeEff c.dmaOk n keys out)
    if s.drbgGives then
      if c.dmaOk then Ends s c opCookieMake Status.ok 0 (fun f =>
        let r := f.cookies {} m (memRead s.mem keys 64) n
        r.2.dmaWrite out r.1.flatten) t
      else Ends s c opCookieMake Status.dmaError 0 id t
    else Ends s c opCookieMake Status.notFit 0 id t := by
  intro t
  have heff : cookieMakeEff c.dmaOk n keys out (s.sessionRole c.ring c.session) (s.fetch c) =
      if ¬ s.drbgGives then ⟨s.fetch c, some Status.notFit, 0⟩
      else if ¬ c.dmaOk then ⟨s.fetch c, some Status.dmaError, 0⟩
      else
        let r := (s.fetch c).cookies {} m (memRead s.mem keys 64) n
        ⟨r.2.dmaWrite out r.1.flatten, some Status.ok, 0⟩ := by
    rw [cookieMakeEff, if_neg hn, minter_fetch, hm, drbgGives_fetch, fetch_mem]
  split
  · next hgives =>
    replace heff := heff.trans (if_neg (not_not.2 hgives))
    split
    · next hdma => exact runCmd_answers hr (heff.trans (if_neg (not_not.2 hdma))) (.refl _)
    · next hdma => exact runCmd_refused hr (heff.trans (if_pos hdma))
  · next hgives => exact runCmd_refused hr (heff.trans (if_pos hgives))

end

/-! ## The entry that mints (R272) -/

theorem get_raiseNtp {f : Fld} (hb : f.key ∉ bookkeeping) (hs : f.key ≠ Reg.NTP_STICKY_STICKY.key) (s : State) (n : Nat) (sev : Sev)
    (items : List Item) : (s.raiseNtp n sev items).get f = s.get f :=
  view_raiseGap (State.get · f) _ _ (State.get_put_ne _ _ hs) (fun _ => rfl) fun _ => get_raise_sticky _ (e := evNtp n sev) rfl hb hs

theorem raiseNtp_tc (s : State) (n : Nat) (sev : Sev) (items : List Item) : (s.raiseNtp n sev items).tc = s.tc :=
  view_raiseGap State.tc _ _ rfl (fun _ => rfl) fun _ => raise_tc _ _ _ _

theorem view_mintUpdate_some {α : Type} (p : State → α) {m : Nat} (hm : s.minter s.linear = some m)
    (hraise : ∀ (u : State) items, p (u.raise (evNtp 3 .info) items) = p u) :
    p s.mintUpdate = p ((s.put Reg.NTP_STATUS_MINT_ENTRY m).put Reg.NTP_STATUS_MINT_VALID 1) := by
  unfold State.mintUpdate
  rw [hm]
  exact view_ite p (hraise _ _) rfl

theorem view_mintUpdate_none {α : Type} (p : State → α) (hm : s.minter s.linear = none)
    (hraise : ∀ u : State, p (u.raiseNtp 4 .error []) = p u) : p s.mintUpdate = p (s.put Reg.NTP_STATUS_MINT_VALID 0) := by
  unfold State.mintUpdate
  rw [hm]
  exact view_ite p (hraise _) rfl

theorem mintUpdate_tc (s : State) : s.mintUpdate.tc = s.tc := by
  cases hm : s.minter s.linear with
  | some m => exact view_mintUpdate_some State.tc hm fun _ _ => raise_tc _ _ _ _
  | none => exact view_mintUpdate_none State.tc hm fun _ => raiseNtp_tc _ _ _ _

theorem mintUpdate_shows_some {m : Nat} (hm : s.minter s.linear = some m) :
    s.mintUpdate.get Reg.NTP_STATUS_MINT_ENTRY = m % 2 ^ 4 ∧ s.mintUpdate.get Reg.NTP_STATUS_MINT_VALID = 1 := by
  have hget : ∀ f : Fld, f.key ∉ bookkeeping → f.key ≠ Reg.NTP_STICKY_STICKY.key → s.mintUpdate.get f = _ := fun f hb hs =>
    view_mintUpdate_some (State.get · f) hm fun _ _ => get_raise_sticky _ (e := evNtp 3 .info) rfl hb hs
  rw [hget _ (by decide) (by decide), hget _ (by decide) (by decide), State.get_put_ne _ _ (by decide), State.get_put_same, State.get_put_same]
  exact ⟨rfl, rfl⟩

theorem mintUpdate_shows_none (hm : s.minter s.linear = none) : s.mintUpdate.get Reg.NTP_STATUS_MINT_VALID = 0 :=
  (view_mintUpdate_none (State.get · Reg.NTP_STATUS_MINT_VALID) hm fun _ => get_raiseNtp (by decide) (by decide) _ _ _ _).trans
    (State.get_put_same _ _ _)

end

/-- Settles O29: each command past its refusals by its own lemma, and the minting entry by whether any can mint. -/
theorem keySlots : Obligations.KeySlots := by
  unfold Obligations.KeySlots
  intro s c
  refine ⟨fun slot usage addr len hr => ⟨_, rfl, ?_⟩, fun slot hr => ⟨_, rfl, ?_⟩, fun n keys out hr => ⟨_, rfl, ?_⟩,
    s.mintUpdate, rfl, mintUpdate_tc s, ?_⟩
  · cases hbars : s.unitBars 0xA300 with
    | some st => exact runCmd_keyTableBarred hr hbars
    | none => exact keyInstall_ends hr hbars slot usage addr len _
  · cases hbars : s.unitBars 0xA300 with
    | some st => exact runCmd_keyTableBarred hr hbars
    | none => exact keyErase_ends hr hbars slot _
  · split
    · next hn => exact runCmd_refused hr (if_pos hn)
    · next hn =>
      cases hm : s.minter s.linear with
      | some m => exact cookieMake_minted hr hn hm
      | none => exact cookieMake_unminted hr hn hm
  · cases hm : s.minter s.linear with
    | some m => exact mintUpdate_shows_some hm
    | none => exact mintUpdate_shows_none hm

end Sys2Proof.Machine
end

section
/-! PROOFS. The client table read and written (R286, R288, R290): what reading, caching and dropping an entry leave alone, the entry a search finds,
and the slot a new key gets. -/

namespace Sys2Proof.Machine

variable (s : State)

/-! ## What new entries are made of, and what leaves it alone -/

/-- What a new entry of a key takes from the state: the salt of its drop bucket and the time (R285, R286). -/
def State.saltAndTime : List Byte × TimeCore := (s.clt.salt, s.tc)

/-- The entry CLT_ENTRY_ADD starts from where the table holds none of the key (R301). -/
def State.freshEntry (k : CKey) : CltEntry := { key := k.norm, created := s.linear, bucket := s.dropBucket k }

theorem freshEntry_congr {t : State} (h : t.saltAndTime = s.saltAndTime) (k : CKey) : t.freshEntry k = s.freshEntry k := by
  obtain ⟨hsalt, htc⟩ := Prod.mk.inj h
  simp only [State.freshEntry, State.dropBucket, State.keyHash, State.linear, State.ns, hsalt, htc]

theorem saltAndTime_raise (e : Ev) (items : List Item) : (s.raise e items).saltAndTime = s.saltAndTime := by
  simp only [State.saltAndTime, raise_clt, raise_tc]

theorem saltAndTime_cacheIn (n : Nat) (dirty : Bool) : (s.cacheIn n dirty).saltAndTime = s.saltAndTime := by
  have hcache : ∀ (v : State) m, { v with clt := { v.clt with cache := m } }.saltAndTime = v.saltAndTime := fun _ _ => rfl
  unfold State.cacheIn
  exact (hcache _ _).trans (view_ite State.saltAndTime rfl rfl)

theorem saltAndTime_freeBad (n : Nat) : (s.freeBad n).saltAndTime = s.saltAndTime := saltAndTime_raise _ _ _

/-! ## A slot read (R290) -/

@[simp] theorem cacheIn_entries (n : Nat) (dirty : Bool) : (s.cacheIn n dirty).clt.entries = s.clt.entries := by
  have hcache : ∀ (v : State) m, { v with clt := { v.clt with cache := m } }.clt.entries = v.clt.entries := fun _ _ => rfl
  unfold State.cacheIn
  exact (hcache _ _).trans (view_ite (fun u : State => u.clt.entries) rfl rfl)

@[simp] theorem freeBad_clt (n : Nat) : (s.freeBad n).clt = (s.dropEntry n).clt := raise_clt _ _ _ _

variable {s} {m n : Nat} {e : CltEntry} {k : CKey} {u : State}

theorem readSlot_empty (h : aget s.clt.entries n = none) : s.readSlot n = (none, s) := by
  unfold State.readSlot
  rw [h]

theorem readSlot_bad (h : aget s.clt.entries n = some e) (hout : s.cached n = false) (hbad : s.clt.bad.contains n = true) :
    s.readSlot n = (none, s.freeBad n) := by
  unfold State.readSlot
  simp only [h, hout, hbad, Bool.not_false, Bool.and_self, if_true]

theorem readSlot_good (h : aget s.clt.entries n = some e) (hgood : s.cached n = true ∨ s.clt.bad.contains n = false) :
    s.readSlot n = (some e, s) := by
  unfold State.readSlot
  rw [h]
  refine if_neg ?_
  rcases hgood with hin | hgood
  · simp only [hin, Bool.not_true, Bool.false_and, Bool.false_eq_true, not_false_eq_true]
  · simp only [hgood, Bool.and_false, Bool.false_eq_true, not_false_eq_true]

/-- What reading a slot can do: nothing to an empty slot or to a good entry, which it gives, and a bad entry is freed. -/
theorem readSlot_cases (s : State) (n : Nat) : s.readSlot n = (none, s) ∨ (s.readSlot n = (none, s.freeBad n)) ∨
    ∃ e, aget s.clt.entries n = some e ∧ s.readSlot n = (some e, s) := by
  cases h : aget s.clt.entries n with
  | none => exact .inl (readSlot_empty h)
  | some e =>
    by_cases hgood : s.cached n = true ∨ s.clt.bad.contains n = false
    · exact .inr (.inr ⟨e, rfl, readSlot_good h hgood⟩)
    · obtain ⟨hout, hbad⟩ := not_or.1 hgood
      exact .inr (.inl (readSlot_bad h (Bool.not_eq_true _ ▸ hout) (Bool.not_eq_false _ ▸ hbad)))

theorem saltAndTime_readSlot (s : State) (n : Nat) : (s.readSlot n).2.saltAndTime = s.saltAndTime := by
  obtain h | h | ⟨e, -, h⟩ := readSlot_cases s n
  · rw [h]
  · rw [h]
    exact saltAndTime_freeBad s n
  · rw [h]

/-! ## A key located (R286) -/

/-- A lookup of a slot counted as a hit or a miss of the cache (R286). -/
def State.countLookup (s : State) (n : Nat) : State :=
  if s.cached n then s.bump Reg.CLT_CACHE_HITS_COUNT else (s.bump Reg.CLT_CACHE_MISSES_COUNT).pmcEvent 5 0x13

theorem saltAndTime_countLookup (s : State) (n : Nat) : (s.countLookup n).saltAndTime = s.saltAndTime := by
  have h : Quiet (s.bump Reg.CLT_CACHE_MISSES_COUNT) ((s.bump Reg.CLT_CACHE_MISSES_COUNT).pmcEvent 5 0x13) :=
    pmcEvent_quiet _ _ _ _ (by decide)
  refine view_ite State.saltAndTime rfl ?_
  simp only [State.saltAndTime, h.clt, h.tc]
  rfl

/-- A search ends at its first slot if that holds the key's entry; it goes on behind it otherwise. -/
theorem confirm_cons (s : State) (k : CKey) (n : Nat) (ns : List Nat) :
    s.confirm k (n :: ns) = match (s.countLookup n).readSlot n with
      | (none, u) => u.confirm k ns
      | (some e, u) => if e.key = k.norm then (some (n, e), u.cacheIn n false) else (u.cacheIn n false).confirm k ns := rfl

/-- A search leaves salt and time alone, and the entry it finds stands in the slot it names. -/
theorem confirm_spec (k : CKey) (ns : List Nat) (s : State) : (s.confirm k ns).2.saltAndTime = s.saltAndTime ∧
    ∀ n e, (s.confirm k ns).1 = some (n, e) → aget (s.confirm k ns).2.clt.entries n = some e := by
  induction ns generalizing s with
  | nil => exact ⟨rfl, fun _ _ h => nomatch h⟩
  | cons n ns ih =>
    have hcount := saltAndTime_countLookup s n
    rw [confirm_cons]
    obtain h | h | ⟨e, he, h⟩ := readSlot_cases (s.countLookup n) n
    · rw [h]
      exact ⟨(ih _).1.trans hcount, (ih _).2⟩
    · rw [h]
      exact ⟨(ih _).1.trans ((saltAndTime_freeBad _ n).trans hcount), (ih _).2⟩
    · rw [h]
      have hcache := (saltAndTime_cacheIn (s.countLookup n) n false).trans hcount
      dsimp only
      split
      · refine ⟨hcache, fun n' e' h' => ?_⟩
        cases h'
        exact (congrArg (aget · n) (cacheIn_entries _ _ _)).trans he
      · exact ⟨(ih _).1.trans hcache, (ih _).2⟩

theorem locate_saltAndTime {r : Option (Nat × CltEntry)} (h : s.locate k = (r, u)) : u.saltAndTime = s.saltAndTime := by
  have hspec := (confirm_spec k (s.matching k) s).1
  rwa [← State.locate, h] at hspec

theorem locate_entry (h : s.locate k = (some (n, e), u)) : aget u.clt.entries n = some e := by
  have hspec := (confirm_spec k (s.matching k) s).2 n e
  rw [← State.locate, h] at hspec
  exact hspec rfl

/-! ## A slot for a new key (R288) -/

/-- The state in which a new key's slot is chosen: where no candidate is free, each has been read. -/
def State.candidatesRead (s : State) (k : CKey) : State :=
  if s.freeSlots k = [] then (s.candSlots k).foldl (fun s n => (s.readSlot n).2) s else s

theorem saltAndTime_candidatesRead (s : State) (k : CKey) : (s.candidatesRead k).saltAndTime = s.saltAndTime :=
  view_ite State.saltAndTime (view_foldl State.saltAndTime saltAndTime_readSlot _ _) rfl

/-- The entry that gives way to a new key (R288). -/
def State.evicted (s : State) (cand : List Nat) : Option (Nat × CltEntry) :=
  ((cand.filterMap fun n => (aget s.clt.entries n).map fun e => (n, e)).filter fun e =>
    e.2.learned && ¬ e.2.pinned && ¬ e.2.granted).foldl olderOf none

theorem findSlot_eq (s : State) (k : CKey) (rule : Nat) : s.findSlot k rule =
    let v := s.candidatesRead k
    let free := v.freeSlots k
    if free ≠ [] then (free[v.takeFree.1 % free.length]?, v.takeFree.2)
    else match v.evicted (s.candSlots k) with
      | some (n, _) => (some n, (v.dropEntry n).bump Reg.CLT_EVICTED_COUNT)
      | none => (none, (v.bump Reg.CLT_TABLE_FULL_COUNT).raise (evClt 1 .warning) [i1 rule, i1 k.kind]) := rfl

/-- The slot found holds no entry any more, and salt and time are as they were. -/
theorem findSlot_spec {rule : Nat} {r : Option Nat} (h : s.findSlot k rule = (r, u)) :
    u.saltAndTime = s.saltAndTime ∧ ∀ n, r = some n → aget u.clt.entries n = none := by
  have hread := saltAndTime_candidatesRead s k
  rw [findSlot_eq] at h
  extract_lets v free at h
  split at h
  · obtain ⟨rfl, rfl⟩ := Prod.mk.inj h
    refine ⟨hread, fun n hn => ?_⟩
    have hmem : n ∈ free := List.mem_of_getElem? hn
    exact Option.isNone_iff_eq_none.1 (List.mem_filter.1 hmem).2
  · split at h
    · next n _ _ =>
      obtain ⟨rfl, rfl⟩ := Prod.mk.inj h
      refine ⟨hread, fun n' hn => ?_⟩
      cases hn
      exact aget_adel_same _ _
    · obtain ⟨rfl, rfl⟩ := Prod.mk.inj h
      exact ⟨(saltAndTime_raise _ _ _).trans hread, fun _ hn => nomatch hn⟩

end Sys2Proof.Machine
end

section
/-! PROOFS. The client table's commands (R40, R299, R301), each past its refusals. -/

namespace Sys2Proof.Machine

variable {s t : State} {c : Ctx} {o : OpInfo} {body : List Int}

/-! ## Where the client-table engine takes new work (R40) -/

theorem runCmd_cltBarred {eff : Nat → State → Res} {st : Nat} (hr : Ready s c o) (hbars : s.unitBars 0x9200 = some st) :
    Ends s c o st 0 id (s.runCmd c o body fun role => cltWork (eff role)) :=
  runCmd_refused hr (by rw [cltWork, unitBars_fetch, hbars])

theorem cltWork_open (hbars : s.unitBars 0x9200 = none) (f : State → Res) : cltWork f (s.fetch c) = f (s.fetch c) := by
  rw [cltWork, unitBars_fetch, hbars]

/-! ## CLT_ENTRY_ADD -/

/-- An entry with what CLT_ENTRY_ADD writes into it (R301). -/
def pinEntry (e : CltEntry) (cls rule : Nat) (tag : List Byte) : CltEntry :=
  { e with pinned := true, ntpClass := cls, rule, hostTag := (tag ++ List.replicate 16 0).take 16 }

/-- What CLT_ENTRY_ADD writes into a slot: the entry there, or a new one, pinned. -/
def State.pinnedIn (s : State) (k : CKey) (cls rule : Nat) (tag : List Byte) (n : Nat) : CltEntry :=
  pinEntry ((aget s.clt.entries n).getD (s.freshEntry k)) cls rule tag

theorem cltAdd_ends (hr : Ready s c opCltAdd) (hopen : s.unitBars 0x9200 = none) (k : CKey) (cls rule : Nat) (tag : List Byte) :
    let t := s.runCmd c opCltAdd body (cltAddEff k cls rule tag)
    if k.ok = false ∨ 16 ≤ cls ∨ 256 ≤ rule then Ends s c opCltAdd Status.range 0 id t
    else if s.get Reg.CLT_STATUS_READY = 0 then Ends s c opCltAdd Status.busy 0 id t
    else match (s.fetch c).locate k with
      | (some (n, _), u) => Ends s c opCltAdd Status.ok n (fun _ => u.putEntry n (u.pinnedIn k cls rule tag n)) t
      | (none, v) => match v.findSlot k.norm rule with
        | (none, u) => Ends s c opCltAdd Status.tableFull 0 (fun _ => u) t
        | (some n, u) => Ends s c opCltAdd Status.ok n (fun _ => u.putEntry n (u.pinnedIn k cls rule tag n)) t := by
  intro t
  refine runCmd_judged hr ((cltWork_open hopen _).trans (if_congr (by rw [Bool.not_eq_true]) rfl rfl)) fun h =>
    runCmd_judged hr (h.trans (if_congr (by rw [fetch_get]) rfl rfl)) fun h => ?_
  dsimp only at h
  rcases hloc : (s.fetch c).locate k with ⟨_ | ⟨n, e⟩, v⟩
  · rw [hloc] at h
    dsimp only at h ⊢
    rcases hslot : v.findSlot k.norm rule with ⟨_ | n, u⟩
    · rw [hslot] at h
      exact runCmd_answers hr h (.refl _)
    · rw [hslot] at h
      obtain ⟨hsame, hempty⟩ := findSlot_spec hslot
      have hpin : u.pinnedIn k cls rule tag n = pinEntry ((s.fetch c).freshEntry k) cls rule tag := by
        rw [State.pinnedIn, hempty n rfl, Option.getD_none, freshEntry_congr _ (hsame.trans (locate_saltAndTime hloc))]
      dsimp only
      rw [hpin]
      exact runCmd_answers hr h (change_quiet _ _ _ _ _ _ _)
  · rw [hloc] at h
    have hpin : v.pinnedIn k cls rule tag n = pinEntry e cls rule tag := by rw [State.pinnedIn, locate_entry hloc, Option.getD_some]
    dsimp only
    rw [hpin]
    exact runCmd_answers hr h (change_quiet _ _ _ _ _ _ _)

/-! ## CLT_ENTRY_DEL -/

/-- A command that drops an entry empties its slot and no other. -/
theorem Ends.entries_dropEntry {st d n : Nat} {u : State} (h : Ends s c o st d (fun _ => u.dropEntry n) t) :
    aget t.clt.entries n = none ∧ ∀ m, m ≠ n → aget t.clt.entries m = aget u.clt.entries m := by
  have hentries : t.clt.entries = adel u.clt.entries n := congrArg Clt.entries h.apart.clt
  rw [hentries]
  exact ⟨aget_adel_same _ _, fun m hm => aget_adel_ne _ hm⟩

theorem cltDel_ends (hr : Ready s c opCltDel) (hopen : s.unitBars 0x9200 = none) (k : CKey) :
    let t := s.runCmd c opCltDel body (cltDelEff k)
    if k.ok = false then Ends s c opCltDel Status.range 0 id t
    else match (s.fetch c).locate k with
      | (some (n, e), u) => if e.granted then Ends s c opCltDel Status.busy 0 (fun _ => u) t
        else Ends s c opCltDel Status.ok 0 (fun _ => u.dropEntry n) t ∧ aget t.clt.entries n = none ∧
          ∀ m, m ≠ n → aget t.clt.entries m = aget u.clt.entries m
      | (none, u) => Ends s c opCltDel Status.ok 0 (fun _ => u) t := by
  intro t
  refine runCmd_judged hr ((cltWork_open hopen _).trans (if_congr (by rw [Bool.not_eq_true]) rfl rfl)) fun h => ?_
  rcases hloc : (s.fetch c).locate k with ⟨_ | ⟨n, e⟩, u⟩
  · rw [hloc] at h
    exact runCmd_answers hr h (change_quiet _ _ _ _ _ _ _)
  · rw [hloc] at h
    dsimp only at h ⊢
    split
    · next hgranted => exact runCmd_answers hr (h.trans (if_pos hgranted)) (.refl _)
    · next hgranted =>
      have hends : Ends s c opCltDel Status.ok 0 (fun _ => u.dropEntry n) t :=
        runCmd_answers hr (h.trans (if_neg hgranted)) (change_quiet _ _ _ _ _ _ _)
      exact ⟨hends, hends.entries_dropEntry⟩

/-! ## CLT_ENTRY_READ, CLT_DUMP and CLT_FLUSH -/

theorem cltRead_ends (hr : Ready s c opCltRead) (hopen : s.unitBars 0x9200 = none) (k : CKey) (addr : Nat) :
    let t := s.runCmd c opCltRead body (cltReadEff c.dmaOk k addr)
    match (s.fetch c).locate k with
    | (some (_, e), u) => if c.dmaOk then Ends s c opCltRead Status.ok 0 (fun _ => u.dmaWrite addr e.bytes) t
      else Ends s c opCltRead Status.dmaError 0 (fun _ => u) t
    | (none, u) => Ends s c opCltRead Status.notFound 0 (fun _ => u) t := by
  intro t
  have h : cltReadEff c.dmaOk k addr (s.sessionRole c.ring c.session) (s.fetch c) = _ := cltWork_open hopen _
  rcases hloc : (s.fetch c).locate k with ⟨_ | ⟨n, e⟩, u⟩
  · rw [hloc] at h
    exact runCmd_answers hr h (.refl _)
  · rw [hloc] at h
    dsimp only at h ⊢
    split
    · next hdma => exact runCmd_answers hr (h.trans (if_pos hdma)) (.refl _)
    · next hdma => exact runCmd_answers hr (h.trans (if_neg hdma)) (.refl _)

theorem cltDump_ends (hr : Ready s c opCltDump) (hopen : s.unitBars 0x9200 = none) (first n addr : Nat) :
    let t := s.runCmd c opCltDump body (cltDumpEff c.dmaOk first n addr)
    if n = 0 ∨ 65536 < n ∨ 2 ^ s.get Reg.CLT_CTRL_SIZE_LOG2 < first + n then Ends s c opCltDump Status.range 0 id t
    else if c.dmaOk then Ends s c opCltDump Status.ok 0 (fun f => (f.readRange first n).dmaWrite addr ((f.readRange first n).dumpBytes first n)) t
    else Ends s c opCltDump Status.dmaError 0 id t := by
  intro t
  refine runCmd_judged hr ((cltWork_open hopen _).trans (if_congr (by rw [fetch_get]) rfl rfl)) fun h => ?_
  split
  · next hdma => exact runCmd_answers hr (h.trans (if_neg (not_not.2 hdma))) (.refl _)
  · next hdma => exact runCmd_refused hr (h.trans (if_pos hdma))

/-- The entries CLT_FLUSH takes out (R301). -/
def State.flushed (s : State) : AMap Nat CltEntry := s.clt.entries.filter fun e => e.2.learned && ¬ e.2.granted

theorem cltFlush_ends (hr : Ready s c opCltFlush) (hopen : s.unitBars 0x9200 = none) :
    let u := (s.fetch c).readRange 0 (2 ^ s.get Reg.CLT_CTRL_SIZE_LOG2)
    Ends s c opCltFlush Status.ok u.flushed.length (fun _ => u.flushed.foldl (fun v e => v.dropEntry e.1) u)
      (s.runCmd c opCltFlush body cltFlushEff) := by
  rw [← fetch_get s c]
  exact runCmd_answers hr (cltWork_open hopen _) (change_quiet _ _ _ _ _ _ _)

end Sys2Proof.Machine
end

section
/-! PROOFS. What time does to the client table (R288, R290, R300): the sweep slot by slot, and the table's start. -/

namespace Sys2Proof.Machine

variable {s : State} {m n : Nat} {e : CltEntry}

/-! ## The judgement of one slot -/

/-- An entry the sweep takes out: learned, neither pinned nor granted, and older than AGE_TIME (R288). -/
def State.aged (s : State) (e : CltEntry) : Prop :=
  e.learned ∧ ¬ e.pinned ∧ ¬ e.granted ∧ (s.get Reg.CLT_AGE_AGE_TIME * secNs : Nat) < linDiff s.linear e.lastSeen

theorem not_aged_iff : ¬ s.aged e ↔ e.learned = false ∨ e.pinned = true ∨ e.granted = true ∨
    linDiff s.linear e.lastSeen ≤ (s.get Reg.CLT_AGE_AGE_TIME * secNs : Nat) := by
  simp only [State.aged, not_and_or, not_lt, Bool.not_eq_true, Bool.not_eq_false]

/-- What the sweep reads of a slot and judges it by. -/
def State.slotView (s : State) (m : Nat) : Option CltEntry × Bool × Bool × TimeCore × Nat :=
  (aget s.clt.entries m, s.cached m, s.clt.bad.contains m, s.tc, s.get Reg.CLT_AGE_AGE_TIME)

theorem ageSlot_stays (he : aget s.clt.entries m = some e) (hgood : s.cached m = true ∨ s.clt.bad.contains m = false) (hage : ¬ s.aged e) :
    s.ageSlot m = s := by
  unfold State.ageSlot
  rw [readSlot_good he hgood]
  exact if_neg hage

theorem ageSlot_aged (he : aget s.clt.entries m = some e) (hgood : s.cached m = true ∨ s.clt.bad.contains m = false) (hage : s.aged e) :
    s.ageSlot m = (s.dropEntry m).bump Reg.CLT_AGED_COUNT := by
  unfold State.ageSlot
  rw [readSlot_good he hgood]
  exact if_pos hage

theorem ageSlot_bad (he : aget s.clt.entries m = some e) (hout : s.cached m = false) (hbad : s.clt.bad.contains m = true) :
    s.ageSlot m = s.freeBad m := by
  unfold State.ageSlot
  rw [readSlot_bad he hout hbad]

/-- What the sweep can do to a slot. -/
theorem ageSlot_cases (s : State) (n : Nat) : s.ageSlot n = s ∨ s.ageSlot n = s.freeBad n ∨
    s.ageSlot n = (s.dropEntry n).bump Reg.CLT_AGED_COUNT := by
  unfold State.ageSlot
  obtain h | h | ⟨e, -, h⟩ := readSlot_cases s n
  · rw [h]
    exact .inl rfl
  · rw [h]
    exact .inr (.inl rfl)
  · rw [h]
    dsimp only
    split
    · exact .inr (.inr rfl)
    · exact .inl rfl

theorem ageSlot_tc (s : State) (n : Nat) : (s.ageSlot n).tc = s.tc := by
  obtain h | h | h := ageSlot_cases s n
  · rw [h]
  · rw [h]
    exact raise_tc _ _ _ _
  · rw [h]
    rfl

/-! ## A slot while the sweep judges another -/

theorem slotView_dropEntry (s : State) (h : m ≠ n) : (s.dropEntry n).slotView m = s.slotView m := by
  have hentry : aget (s.dropEntry n).clt.entries m = aget s.clt.entries m := aget_adel_ne _ h
  have hcached : (s.dropEntry n).cached m = s.cached m := congrArg Option.isSome (aget_adel_ne _ h)
  have hbad : (s.dropEntry n).clt.bad.contains m = s.clt.bad.contains m := by
    rw [Bool.eq_iff_iff, List.contains_iff_mem, List.contains_iff_mem]
    exact List.mem_erase_of_ne h
  have hage : (s.dropEntry n).get Reg.CLT_AGE_AGE_TIME = s.get Reg.CLT_AGE_AGE_TIME := State.get_put_ne _ _ (by decide)
  rw [State.slotView, hentry, hcached, hbad, hage]
  rfl

theorem slotView_put (s : State) {f : Fld} (v : Nat) (h : Reg.CLT_AGE_AGE_TIME.key ≠ f.key) : (s.put f v).slotView m = s.slotView m := by
  rw [State.slotView, State.get_put_ne _ _ h]
  rfl

theorem slotView_raiseClt (s : State) (k : Nat) (sev : Sev) (items : List Item) : (s.raise (evClt k sev) items).slotView m = s.slotView m := by
  rw [State.slotView, get_raise_sticky _ (e := evClt k sev) rfl (by decide) (by decide), State.cached, raise_clt, raise_tc]
  rfl

theorem slotView_ageSlot_ne (s : State) (h : m ≠ n) : (s.ageSlot n).slotView m = s.slotView m := by
  have hdrop := slotView_dropEntry s h
  obtain hn | hn | hn := ageSlot_cases s n
  · rw [hn]
  · rw [hn]
    exact (slotView_raiseClt _ _ _ _).trans ((slotView_put _ _ (by decide)).trans hdrop)
  · rw [hn]
    exact (slotView_put _ _ (by decide)).trans hdrop

/-! ## The sweep (R288) -/

/-- The sweep's turn at one slot. -/
def State.sweepSlot (s : State) (first count n : Nat) : State := if first ≤ n ∧ n < first + count then s.ageSlot n else s

/-- The state a sweep leaves. -/
def State.swept (s : State) (first count : Nat) : State := (s.clt.entries.map (·.1)).foldl (fun u n => u.sweepSlot first count n) s

theorem swept_tc (s : State) (first count : Nat) : (s.swept first count).tc = s.tc :=
  view_foldl State.tc (fun u n => view_ite State.tc (ageSlot_tc u n) rfl) _ _

theorem slotView_swept_outside {first count : Nat} (s : State) (h : m < first ∨ first + count ≤ m) :
    (s.swept first count).slotView m = s.slotView m := by
  refine view_foldl (State.slotView · m) (fun u n => ?_) _ _
  unfold State.sweepSlot
  split
  · exact slotView_ageSlot_ne _ (by omega)
  · rfl

theorem aged_congr {t : State} (h : t.slotView m = s.slotView m) (e : CltEntry) : t.aged e ↔ s.aged e := by
  simp only [State.slotView, Prod.mk.injEq] at h
  obtain ⟨-, -, -, htc, hage⟩ := h
  rw [State.aged, State.aged, hage, State.linear, State.ns, htc]
  rfl

/-- A good entry that has not aged stays through the whole sweep, as neither it nor what the sweep judges it by changes. -/
theorem slotView_swept_stays (s : State) (first count : Nat) (he : aget s.clt.entries m = some e)
    (hgood : s.cached m = true ∨ s.clt.bad.contains m = false) (hage : ¬ s.aged e) : (s.swept first count).slotView m = s.slotView m := by
  refine List.foldlRecOn (motive := fun u : State => u.slotView m = s.slotView m) _ _ rfl fun u hu n _ => ?_
  have hage' := mt (aged_congr hu e).1 hage
  have hparts := hu
  simp only [State.slotView, Prod.mk.injEq] at hparts
  obtain ⟨hentry, hcached, hbad, -, -⟩ := hparts
  unfold State.sweepSlot
  split
  · by_cases hn : m = n
    · subst hn
      rwa [ageSlot_stays (hentry.trans he) (by rwa [hcached, hbad]) hage']
    · exact (slotView_ageSlot_ne u hn).trans hu
  · exact hu

/-- A sweep over a table of one entry is the judgement of its slot. -/
theorem swept_single {first count : Nat} (h : s.clt.entries = [(m, e)]) (hlo : first ≤ m) (hhi : m < first + count) :
    s.swept first count = s.ageSlot m := by
  rw [State.swept, h]
  exact if_pos ⟨hlo, hhi⟩

theorem aget_single (h : s.clt.entries = [(m, e)]) : aget s.clt.entries m = some e := by
  rw [h]
  exact if_pos rfl

theorem adel_single (h : s.clt.entries = [(m, e)]) : adel s.clt.entries m = [] := by
  rw [h]
  exact if_pos rfl

theorem agedOut_shows (h : s.clt.entries = [(m, e)]) : let t := (s.dropEntry m).bump Reg.CLT_AGED_COUNT
    t.clt.entries = [] ∧ t.get Reg.CLT_AGED_COUNT = (s.get Reg.CLT_AGED_COUNT + 1) % 2 ^ 32 := by
  intro t
  have hcount : (s.dropEntry m).get Reg.CLT_AGED_COUNT = s.get Reg.CLT_AGED_COUNT := State.get_put_ne _ _ (by decide)
  refine ⟨adel_single h, (State.get_put_same _ _ _).trans ?_⟩
  rw [hcount]
  rfl

theorem freeBad_shows (h : s.clt.entries = [(m, e)]) : (s.freeBad m).clt.entries = [] ∧
    (s.freeBad m).get Reg.CLT_ENTRY_BAD_COUNT = (s.get Reg.CLT_ENTRY_BAD_COUNT + 1) % 2 ^ 32 := by
  have hcount : (s.dropEntry m).get Reg.CLT_ENTRY_BAD_COUNT = s.get Reg.CLT_ENTRY_BAD_COUNT := State.get_put_ne _ _ (by decide)
  refine ⟨(congrArg Clt.entries (freeBad_clt s m)).trans (adel_single h), ?_⟩
  rw [State.freeBad, get_raise_sticky _ (e := evClt 2 .error) rfl (by decide) (by decide), State.bump, State.get_put_same, hcount]
  rfl

/-! ## The table's start (R300) -/

/-- The table empty and READY under a salt. -/
def State.tableFresh (s : State) (salt : List Byte) : State :=
  ({ s with clt := { s.clt with entries := [], index := [], cache := [], bad := [], salt := salt } }.put Reg.CLT_STATUS_ENTRIES 0).put
    Reg.CLT_STATUS_READY 1

theorem tableReady_eq (s : State) : exec .tableReady s = .next (
    if s.get Reg.MEM_STATUS_TRAINED = 1 ∧ s.get Reg.CLT_STATUS_READY = 0 then (s.draw 16).2.tableFresh (s.draw 16).1 else s) := by
  show execTableReady s = _
  unfold execTableReady
  generalize s.draw 16 = d
  rfl

theorem draw_tc (s : State) (n : Nat) : (s.draw n).2.tc = s.tc := by
  dsimp only [State.draw]
  rw [(pmcEvent_quiet _ 0x13 {} (ceilDiv n 16) (by decide : 6 < 8)).tc]

theorem tableFresh_shows (s : State) (salt : List Byte) : let t := s.tableFresh salt
    t.get Reg.CLT_STATUS_READY = 1 ∧ t.get Reg.CLT_STATUS_ENTRIES = 0 ∧ t.clt.entries = [] ∧ t.clt.salt = salt ∧ t.tc = s.tc :=
  ⟨State.get_put_same _ _ _, (State.get_put_ne _ _ (by decide)).trans (State.get_put_same _ _ _), rfl, rfl, rfl⟩

/-- Settles O30: each command past its refusals by its own lemma, the sweep by what it does to one slot, and the table's start. -/
theorem clientTable : Obligations.ClientTable := by
  unfold Obligations.ClientTable
  constructor
  · intro s c
    exact ⟨fun k cls rule tag hr hopen => ⟨_, rfl, cltAdd_ends hr hopen k cls rule tag⟩,
      fun k hr hopen => ⟨_, rfl, cltDel_ends hr hopen k⟩,
      fun k addr hr hopen => ⟨_, rfl, cltRead_ends hr hopen k addr⟩,
      fun first n addr hr hopen => ⟨_, rfl, cltDump_ends hr hopen first n addr⟩,
      fun hr hopen => ⟨_, _, _, rfl, rfl, rfl, cltFlush_ends hr hopen⟩,
      fun st k cls rule tag addr hbars => ⟨fun hr => ⟨_, rfl, runCmd_cltBarred hr hbars⟩, fun hr => ⟨_, rfl, runCmd_cltBarred hr hbars⟩,
        fun hr => ⟨_, rfl, runCmd_cltBarred hr hbars⟩, fun hr => ⟨_, rfl, runCmd_cltBarred hr hbars⟩⟩⟩
  · intro s
    refine ⟨fun first n m => ⟨s.swept first n, rfl, swept_tc s first n, fun hout => congrArg Prod.fst (slotView_swept_outside s hout),
      fun e he hgood hyoung => ?_, fun e hone hlo hhi hlearned hpinned hgranted hold hgood => ?_, fun e hone hlo hhi hout hbad => ?_⟩,
      _, tableReady_eq s, ?_⟩
    · exact (congrArg Prod.fst (slotView_swept_stays s first n he hgood (not_aged_iff.2 hyoung))).trans he
    · have hage : s.aged e := ⟨hlearned, Bool.eq_false_iff.1 hpinned, Bool.eq_false_iff.1 hgranted, hold⟩
      rw [swept_single hone hlo hhi, ageSlot_aged (aget_single hone) hgood hage]
      exact agedOut_shows hone
    · rw [swept_single hone hlo hhi, ageSlot_bad (aget_single hone) hout hbad]
      exact freeBad_shows hone
    · split
      · obtain ⟨hready, hentries, hempty, hsalt, htc⟩ := tableFresh_shows (s.draw 16).2 (s.draw 16).1
        exact ⟨hready, hentries, hempty, hsalt, htc.trans (draw_tc s 16)⟩
      · rfl

end Sys2Proof.Machine
end

section
/-! PROOFS. The ports' registers (R304 to R330), and what an event of a port and its counters change (R326, R329). -/

namespace Sys2Proof.Machine

section

variable {s t u : State} {p : Nat}

/-! ## The registers of a port -/

/-- Where the keys of a port's registers begin. -/
def portKey (p : Nat) : Nat := 0x6000000 + 0x80000 * p

@[simp] theorem key_PORT_CFG_MODE (p : Nat) : (Reg.PORT_CFG_MODE p).key = portKey p := by simp only [Fld.key, Reg.PORT_CFG_MODE, portKey]; omega
@[simp] theorem key_PORT_CFG_FEC (p : Nat) : (Reg.PORT_CFG_FEC p).key = portKey p + 4 := by simp only [Fld.key, Reg.PORT_CFG_FEC, portKey]; omega
@[simp] theorem key_RX_SKEW_SKEW (p : Nat) : (Reg.RX_SKEW_SKEW p).key = portKey p + 10496 := by simp only [Fld.key, Reg.RX_SKEW_SKEW, portKey]; omega
@[simp] theorem key_RX_EXT_DELAY_DELAY (p : Nat) : (Reg.RX_EXT_DELAY_DELAY p).key = portKey p + 10752 := by simp only [Fld.key, Reg.RX_EXT_DELAY_DELAY, portKey]; omega
@[simp] theorem key_PORT_STATUS_LINK (p : Nat) : (Reg.PORT_STATUS_LINK p).key = portKey p + 12288 := by simp only [Fld.key, Reg.PORT_STATUS_LINK, portKey]; omega
@[simp] theorem key_PORT_STATUS_FEC_LOCK (p : Nat) : (Reg.PORT_STATUS_FEC_LOCK p).key = portKey p + 12291 := by simp only [Fld.key, Reg.PORT_STATUS_FEC_LOCK, portKey]; omega
@[simp] theorem key_PORT_STATUS_LOCAL_FAULT (p : Nat) : (Reg.PORT_STATUS_LOCAL_FAULT p).key = portKey p + 12292 := by simp only [Fld.key, Reg.PORT_STATUS_LOCAL_FAULT, portKey]; omega
@[simp] theorem key_PORT_STATUS_REMOTE_FAULT (p : Nat) : (Reg.PORT_STATUS_REMOTE_FAULT p).key = portKey p + 12293 := by simp only [Fld.key, Reg.PORT_STATUS_REMOTE_FAULT, portKey]; omega
@[simp] theorem key_PORT_STATUS_PAUSED (p : Nat) : (Reg.PORT_STATUS_PAUSED p).key = portKey p + 12296 := by simp only [Fld.key, Reg.PORT_STATUS_PAUSED, portKey]; omega
@[simp] theorem key_PORT_STATUS_WD_IGNORE (p : Nat) : (Reg.PORT_STATUS_WD_IGNORE p).key = portKey p + 12304 := by simp only [Fld.key, Reg.PORT_STATUS_WD_IGNORE, portKey]; omega
@[simp] theorem key_PORT_STICKY_STICKY (p : Nat) : (Reg.PORT_STICKY_STICKY p).key = portKey p + 12416 := by simp only [Fld.key, Reg.PORT_STICKY_STICKY, portKey]; omega
@[simp] theorem key_SYNCE_STATUS_RX_QL (p : Nat) : (Reg.SYNCE_STATUS_RX_QL p).key = portKey p + 11904 := by simp only [Fld.key, Reg.SYNCE_STATUS_RX_QL, portKey]; omega
@[simp] theorem key_SYNCE_STATUS_QL_VALID (p : Nat) : (Reg.SYNCE_STATUS_QL_VALID p).key = portKey p + 11908 := by simp only [Fld.key, Reg.SYNCE_STATUS_QL_VALID, portKey]; omega
@[simp] theorem key_SYNCE_STATUS_CDR_LOCK (p : Nat) : (Reg.SYNCE_STATUS_CDR_LOCK p).key = portKey p + 11909 := by simp only [Fld.key, Reg.SYNCE_STATUS_CDR_LOCK, portKey]; omega
@[simp] theorem key_SYNCE_STATUS_EXT_TLV_SEEN (p : Nat) : (Reg.SYNCE_STATUS_EXT_TLV_SEEN p).key = portKey p + 11910 := by simp only [Fld.key, Reg.SYNCE_STATUS_EXT_TLV_SEEN, portKey]; omega
@[simp] theorem key_RX_FRAMES_COUNT (p : Nat) : (Reg.RX_FRAMES_COUNT p).key = portKey p + 16384 := by simp only [Fld.key, Reg.RX_FRAMES_COUNT, portKey]; omega
@[simp] theorem key_RX_OCTETS_LO_LO (p : Nat) : (Reg.RX_OCTETS_LO_LO p).key = portKey p + 16640 := by simp only [Fld.key, Reg.RX_OCTETS_LO_LO, portKey]; omega
@[simp] theorem key_RX_OCTETS_HI_HI (p : Nat) : (Reg.RX_OCTETS_HI_HI p).key = portKey p + 16768 := by simp only [Fld.key, Reg.RX_OCTETS_HI_HI, portKey]; omega
@[simp] theorem key_RX_FIFO_DROP_COUNT (p : Nat) : (Reg.RX_FIFO_DROP_COUNT p).key = portKey p + 17152 := by simp only [Fld.key, Reg.RX_FIFO_DROP_COUNT, portKey]; omega
@[simp] theorem key_RX_RUNT_COUNT (p : Nat) : (Reg.RX_RUNT_COUNT p).key = portKey p + 17280 := by simp only [Fld.key, Reg.RX_RUNT_COUNT, portKey]; omega
@[simp] theorem key_RX_OVERSIZE_COUNT (p : Nat) : (Reg.RX_OVERSIZE_COUNT p).key = portKey p + 17408 := by simp only [Fld.key, Reg.RX_OVERSIZE_COUNT, portKey]; omega
@[simp] theorem key_RX_FCS_ERR_COUNT (p : Nat) : (Reg.RX_FCS_ERR_COUNT p).key = portKey p + 17536 := by simp only [Fld.key, Reg.RX_FCS_ERR_COUNT, portKey]; omega
@[simp] theorem key_RX_TRUNCATED_COUNT (p : Nat) : (Reg.RX_TRUNCATED_COUNT p).key = portKey p + 17664 := by simp only [Fld.key, Reg.RX_TRUNCATED_COUNT, portKey]; omega
@[simp] theorem key_RX_PAUSE_COUNT (p : Nat) : (Reg.RX_PAUSE_COUNT p).key = portKey p + 18816 := by simp only [Fld.key, Reg.RX_PAUSE_COUNT, portKey]; omega
@[simp] theorem key_RX_PFC_COUNT (p : Nat) : (Reg.RX_PFC_COUNT p).key = portKey p + 18944 := by simp only [Fld.key, Reg.RX_PFC_COUNT, portKey]; omega
@[simp] theorem key_PAUSE_WD_BREAKS_COUNT (p : Nat) : (Reg.PAUSE_WD_BREAKS_COUNT p).key = portKey p + 19072 := by simp only [Fld.key, Reg.PAUSE_WD_BREAKS_COUNT, portKey]; omega
@[simp] theorem key_STAMPS_FLAGGED_COUNT (p : Nat) : (Reg.STAMPS_FLAGGED_COUNT p).key = portKey p + 19328 := by simp only [Fld.key, Reg.STAMPS_FLAGGED_COUNT, portKey]; omega
@[simp] theorem key_FEC_CORRECTED_COUNT (p : Nat) : (Reg.FEC_CORRECTED_COUNT p).key = portKey p + 19456 := by simp only [Fld.key, Reg.FEC_CORRECTED_COUNT, portKey]; omega
@[simp] theorem key_FEC_UNCORRECTED_COUNT (p : Nat) : (Reg.FEC_UNCORRECTED_COUNT p).key = portKey p + 19584 := by simp only [Fld.key, Reg.FEC_UNCORRECTED_COUNT, portKey]; omega
@[simp] theorem key_PCS_ERR_BLOCKS_COUNT (p : Nat) : (Reg.PCS_ERR_BLOCKS_COUNT p).key = portKey p + 19712 := by simp only [Fld.key, Reg.PCS_ERR_BLOCKS_COUNT, portKey]; omega
@[simp] theorem key_LINK_DOWNS_COUNT (p : Nat) : (Reg.LINK_DOWNS_COUNT p).key = portKey p + 19840 := by simp only [Fld.key, Reg.LINK_DOWNS_COUNT, portKey]; omega
@[simp] theorem key_ESMC_RX_COUNT (p : Nat) : (Reg.ESMC_RX_COUNT p).key = portKey p + 19968 := by simp only [Fld.key, Reg.ESMC_RX_COUNT, portKey]; omega

/-- The registers of the ports lie past all that logging and counting write. -/
theorem port_notMem_bookkeeping {f : Fld} (hf : portKey p ≤ f.key) : f.key ∉ bookkeeping :=
  tdc_notMem_bookkeeping (k := 0) (le_trans (by unfold tdcKey portKey; omega) hf)

theorem Quiet.getPort (h : Quiet s t) {f : Fld} (hf : portKey p ≤ f.key) : t.get f = s.get f := h.regs f (port_notMem_bookkeeping hf)

/-! ## Counters (R326) -/

theorem portCount_eq (s : State) {f : Fld} (hf : f.width = 32) : s.portCount f = s.put f (min (s.get f + 1) (2 ^ 32 - 1)) := by
  rw [State.portCount, State.bumpSat, hf]

theorem get_portCount_same (s : State) {f : Fld} (hf : f.width = 32) : (s.portCount f).get f = min (s.get f + 1) (2 ^ 32 - 1) := by
  rw [portCount_eq s hf, State.get_put_same, hf]
  omega

theorem get_portCount_ne (s : State) {f g : Fld} (h : g.key ≠ f.key) : (s.portCount f).get g = s.get g := State.get_put_ne _ _ h

@[simp] theorem portCount_tc (s : State) (f : Fld) : (s.portCount f).tc = s.tc := rfl
@[simp] theorem portCount_mem (s : State) (f : Fld) : (s.portCount f).mem = s.mem := rfl
@[simp] theorem portCount_out (s : State) (f : Fld) : (s.portCount f).out = s.out := rfl
@[simp] theorem portCount_ports (s : State) (f : Fld) : (s.portCount f).ports = s.ports := rfl

/-! ## Events (R329) -/

/-- A state that differs from another only by what events of a port change: its sticky bits, when it raised them last, and what logging and
counting change with them. -/
structure PortTold (p : Nat) (s t : State) : Prop where
  regs : ∀ f : Fld, f.key ∉ bookkeeping → f.key ≠ (Reg.PORT_STICKY_STICKY p).key → t.get f = s.get f
  vars : ∀ v : Var, v ∉ bookVars → (∀ n, v ≠ .portRaised p n) → t.var v = s.var v
  rest : t.still = s.still

theorem Quiet.told (h : Quiet s t) : PortTold p s t := ⟨fun f hf _ => h.regs f hf, fun v hv _ => h.vars v hv, h.rest⟩

theorem PortTold.refl (s : State) : PortTold p s s := (Quiet.refl s).told

theorem PortTold.trans (h : PortTold p s t) (k : PortTold p t u) : PortTold p s u :=
  ⟨fun f hf hne => (k.regs f hf hne).trans (h.regs f hf hne), fun v hv hne => (k.vars v hv hne).trans (h.vars v hv hne), k.rest.trans h.rest⟩

theorem PortTold.ite {c : Prop} [Decidable c] (h : PortTold p s t) (k : PortTold p s u) : PortTold p s (if c then t else u) := by
  split <;> assumption

theorem PortTold.tc (h : PortTold p s t) : t.tc = s.tc := show t.still.tc = s.still.tc from congrArg State.tc h.rest
theorem PortTold.mem (h : PortTold p s t) : t.mem = s.mem := show t.still.mem = s.still.mem from congrArg State.mem h.rest
theorem PortTold.out (h : PortTold p s t) : t.out = s.out := show t.still.out = s.still.out from congrArg State.out h.rest
theorem PortTold.ports (h : PortTold p s t) : t.ports = s.ports := show t.still.ports = s.still.ports from congrArg State.ports h.rest
theorem PortTold.timers (h : PortTold p s t) : t.timers = s.timers := show t.still.timers = s.still.timers from congrArg State.timers h.rest

theorem PortTold.get (h : PortTold p s t) {f : Fld} (hf : portKey p ≤ f.key) (hne : f.key ≠ (Reg.PORT_STICKY_STICKY p).key) : t.get f = s.get f :=
  h.regs f (port_notMem_bookkeeping hf) hne

theorem sticky_told (s : State) (k : Nat) (b : Bool) : PortTold p s (s.putBit (Reg.PORT_STICKY_STICKY p) k b) :=
  ⟨fun _ _ hne => State.get_put_ne _ _ hne, fun _ _ _ => rfl, rfl⟩

theorem raised_told (s : State) (n : Nat) (x : Int) : PortTold p s (s.setVar (.portRaised p n) x) :=
  ⟨fun _ _ _ => rfl, fun _ _ hne => State.var_setVar_ne _ _ (hne n), rfl⟩

/-- An event of a port sets its sticky bit and notes when, and else only logs and counts. -/
theorem raisePort_told (s : State) (p n : Nat) (sev : Sev) (items : List Item) : PortTold p s (s.raisePort p n sev items) := by
  have hraise : ∀ v : State, PortTold p v (v.raise (evPort p n sev) items) := fun v =>
    (sticky_told v n true).trans (raise_quiet v (evPort p n sev) items 0).told
  unfold State.raisePort State.raiseGap
  exact .ite (sticky_told s n true) (.ite (.refl s) (.trans (.ite (raised_told s n _) (.refl s)) (hraise _)))

/-- A variable set to what it holds already. -/
theorem setVar_self_quiet (s : State) (v : Var) : Quiet (s.setVar v (s.var v)) s := by
  refine ⟨fun _ _ => rfl, fun w _ => ?_, rfl⟩
  by_cases h : w = v
  · rw [h, State.var_setVar_same]
  · rw [State.var_setVar_ne _ _ h]

/-- The event of a link's change sets no sticky bit; it notes when it was raised, if it was. -/
theorem linkEvent_quiet (s : State) (p old : Nat) : ∃ x, (x = s.var (.portRaised p 8) ∨ x = (s.runNs + 1 : Nat)) ∧
    Quiet (s.setVar (.portRaised p 8) x) (s.linkEvent p old) := by
  have hquiet : ∀ (v : State) (items : List Item), Quiet v (v.raise (evLinkState p) items) := fun v items =>
    raise_quiet_of_sticky_none rfl v items 0
  have hself := setVar_self_quiet s (.portRaised p 8)
  unfold State.linkEvent State.raiseGap
  dsimp only [evLinkState]
  split
  · exact ⟨_, .inl rfl, hself⟩
  · simp only [Bool.false_eq_true, and_false, if_false]
    split
    · exact ⟨_, .inr rfl, hquiet _ _⟩
    · exact ⟨_, .inl rfl, hself.trans (hquiet _ _)⟩

theorem linkEvent_told (s : State) (p old : Nat) : PortTold p s (s.linkEvent p old) := by
  obtain ⟨x, -, hquiet⟩ := linkEvent_quiet s p old
  exact (raised_told s 8 x).trans hquiet.told

end

end Sys2Proof.Machine
end

section
/-! PROOFS. A port's link (R304, R305, R323, R328). -/

namespace Sys2Proof.Machine

section

variable {s : State} {c : Ctx} {p skew : Nat}

/-! ## ALIGNING (R305, R323) -/

/-- A link ALIGNING, with 2 ms to go and the receiver's locks shown. -/
def State.aligning (s : State) (p : Nat) : State :=
  let u := (s.setLink p 2).arm (.align p) 2000000
  (u.put (Reg.SYNCE_STATUS_CDR_LOCK p) 1).putB (Reg.PORT_STATUS_FEC_LOCK p) (decide (u.get (Reg.PORT_CFG_FEC p) ≠ 0))

theorem aligning_shows (s : State) (p : Nat) : let t := s.aligning p
    t.get (Reg.PORT_STATUS_LINK p) = 2 ∧ t.timer (.align p) = some (s.runNs + 2000000) ∧ t.get (Reg.SYNCE_STATUS_CDR_LOCK p) = 1 ∧
      t.get (Reg.PORT_STATUS_FEC_LOCK p) = (if s.get (Reg.PORT_CFG_FEC p) = 0 then 0 else 1) ∧ t.tc = s.tc ∧ t.mem = s.mem ∧ t.units = s.units := by
  intro t
  refine ⟨?_, State.timer_arm_same _ _ _, (State.get_put_ne _ _ (by simp)).trans (State.get_put_same _ _ _), ?_, rfl, rfl, rfl⟩
  · exact (State.get_put_ne _ _ (by simp)).trans ((State.get_put_ne _ _ (by simp)).trans (State.get_put_same _ _ _))
  · refine (State.get_put_same _ _ _).trans ?_
    have hcfg : ((s.setLink p 2).arm (.align p) 2000000).get (Reg.PORT_CFG_FEC p) = s.get (Reg.PORT_CFG_FEC p) := State.get_put_ne _ _ (by simp)
    rw [hcfg]
    by_cases hfec : s.get (Reg.PORT_CFG_FEC p) = 0
    · simp [hfec, b2n]
    · rw [decide_eq_true hfec, if_neg hfec]
      rfl

theorem linkAlign_down (hp : p < 4) (h : s.get (Reg.PORT_STATUS_LINK p) = 1) : exec (.linkAlign p) s = .next (s.aligning p) := by
  show execLinkAlign p s = _
  have hstart : s.linkStart p = s := if_neg (by omega)
  unfold execLinkAlign
  rw [if_pos hp, hstart]
  dsimp only
  exact congrArg Host.Outcome.next (if_pos ⟨hp, h⟩)

theorem linkAlign_starts (hp : p < 4) (h : s.get (Reg.PORT_STATUS_LINK p) = 0) (hon : s.unitOn (0x8000 + p) = true) :
    exec (.linkAlign p) s = .next ((s.setLink p 1).aligning p) := by
  show execLinkAlign p s = _
  have hstart : s.linkStart p = s.setLink p 1 := if_pos ⟨h, hon⟩
  unfold execLinkAlign
  rw [if_pos hp, hstart]
  dsimp only
  exact congrArg Host.Outcome.next (if_pos ⟨hp, State.get_put_same _ _ _⟩)

theorem linkAlign_not (hdown : s.get (Reg.PORT_STATUS_LINK p) ≠ 1)
    (hoff : ¬ (s.get (Reg.PORT_STATUS_LINK p) = 0 ∧ s.unitOn (0x8000 + p) = true)) : exec (.linkAlign p) s = .next s := by
  show execLinkAlign p s = _
  have hstart : (if p < 4 then s.linkStart p else s) = s := by rw [State.linkStart, if_neg hoff, ite_self]
  unfold execLinkAlign
  rw [hstart]
  exact congrArg _ (if_neg fun h => hdown h.2)

theorem linkAlign_ends (hp : p < 4) : ∃ t, exec (.linkAlign p) s = .next t ∧
    if s.get (Reg.PORT_STATUS_LINK p) = 1 ∨ (s.get (Reg.PORT_STATUS_LINK p) = 0 ∧ s.unitOn (0x8000 + p))
    then t.get (Reg.PORT_STATUS_LINK p) = 2 ∧ t.timer (.align p) = some (s.runNs + 2000000) ∧ t.get (Reg.SYNCE_STATUS_CDR_LOCK p) = 1 ∧
      t.get (Reg.PORT_STATUS_FEC_LOCK p) = (if s.get (Reg.PORT_CFG_FEC p) = 0 then 0 else 1) ∧ t.tc = s.tc ∧ t.mem = s.mem ∧ t.units = s.units
    else t = s := by
  by_cases hdown : s.get (Reg.PORT_STATUS_LINK p) = 1
  · refine ⟨_, linkAlign_down hp hdown, ?_⟩
    rw [if_pos (.inl hdown)]
    exact aligning_shows s p
  by_cases hoff : s.get (Reg.PORT_STATUS_LINK p) = 0 ∧ s.unitOn (0x8000 + p) = true
  · refine ⟨_, linkAlign_starts hp hoff.1 hoff.2, ?_⟩
    have hfec : (s.setLink p 1).get (Reg.PORT_CFG_FEC p) = s.get (Reg.PORT_CFG_FEC p) := State.get_put_ne _ _ (by simp)
    rw [if_pos (.inr hoff), ← hfec]
    exact aligning_shows (s.setLink p 1) p
  · exact ⟨_, linkAlign_not hdown hoff, by rw [if_neg (not_or.2 ⟨hdown, hoff⟩)]⟩

/-! ## UP (R305) -/

theorem linkUp_shows (hp : p < 4) (hskew : skew < 2 ^ 32) (h : s.get (Reg.PORT_STATUS_LINK p) = 2 ∧ s.due (.align p) = false) :
    let u := s.linkUp p skew
    u.get (Reg.PORT_STATUS_LINK p) = 3 ∧ u.timer (.align p) = none ∧ u.get (Reg.RX_SKEW_SKEW p) = skew ∧
      u.get (Reg.PORT_STATUS_LOCAL_FAULT p) = 0 ∧ u.get (Reg.PORT_STATUS_REMOTE_FAULT p) = 0 ∧
      u.timer (.esmcInfo p) = some (s.runNs + 1000000000) ∧ u.tc = s.tc ∧ u.mem = s.mem := by
  intro u
  let v := ((((s.setLink p 3).stopTimer (.align p)).put (Reg.RX_SKEW_SKEW p) skew).put (Reg.PORT_STATUS_LOCAL_FAULT p) 0).put
    (Reg.PORT_STATUS_REMOTE_FAULT p) 0
  have hu : u = (v.linkEvent p 2).arm (.esmcInfo p) secNs := if_pos ⟨hp, h.1, by simp [h.2]⟩
  have htold : PortTold p v (v.linkEvent p 2) := linkEvent_told v p 2
  have hget : ∀ {f : Fld}, portKey p ≤ f.key → f.key ≠ (Reg.PORT_STICKY_STICKY p).key → u.get f = v.get f := fun hf hne => by
    rw [hu]
    exact htold.get hf hne
  have hrun : (v.linkEvent p 2).runNs = s.runNs := congrArg (fun tc : TimeCore => tc.run / nsUnit) htold.tc
  refine ⟨(hget (by simp) (by simp)).trans ?_, ?_, (hget (by simp) (by simp)).trans ?_, (hget (by simp) (by simp)).trans ?_,
    (hget (by simp) (by simp)).trans (State.get_put_same _ _ _), ?_, by rw [hu]; exact htold.tc, by rw [hu]; exact htold.mem⟩
  · refine (State.get_put_ne _ _ (by simp)).trans ((State.get_put_ne _ _ (by simp)).trans ((State.get_put_ne _ _ (by simp)).trans ?_))
    exact State.get_put_same _ _ _
  · rw [hu]
    refine (State.timer_setTimer_ne _ _ (by simp)).trans ((congrArg (aget · (Tm.align p)) htold.timers).trans ?_)
    exact State.timer_stopTimer_same _ _
  · refine (State.get_put_ne _ _ (by simp)).trans ((State.get_put_ne _ _ (by simp)).trans ((State.get_put_same _ _ _).trans ?_))
    exact Nat.mod_eq_of_lt hskew
  · exact (State.get_put_ne _ _ (by simp)).trans (State.get_put_same _ _ _)
  · rw [hu, State.timer_arm_same, hrun]
    rfl

theorem linkUp_ends (hp : p < 4) (hskew : skew < 2 ^ 32) : let u := s.linkUp p skew
    if s.get (Reg.PORT_STATUS_LINK p) = 2 ∧ s.due (.align p) = false
    then u.get (Reg.PORT_STATUS_LINK p) = 3 ∧ u.timer (.align p) = none ∧ u.get (Reg.RX_SKEW_SKEW p) = skew ∧
      u.get (Reg.PORT_STATUS_LOCAL_FAULT p) = 0 ∧ u.get (Reg.PORT_STATUS_REMOTE_FAULT p) = 0 ∧
      u.timer (.esmcInfo p) = some (s.runNs + 1000000000) ∧ u.tc = s.tc ∧ u.mem = s.mem
    else u = s := by
  intro u
  split
  · next h => exact linkUp_shows hp hskew h
  · next h => exact if_neg fun hup => h ⟨hup.2.1, eq_false_of_ne_true hup.2.2⟩

/-! ## DOWN (R305, R328) -/

/-- A link that goes DOWN by itself is counted. -/
theorem setLink_counted (s : State) (p : Nat) : (s.setLink p 1).portCount (Reg.LINK_DOWNS_COUNT p) =
    (s.put (Reg.PORT_STATUS_LINK p) 1).put (Reg.LINK_DOWNS_COUNT p) (min (s.get (Reg.LINK_DOWNS_COUNT p) + 1) (2 ^ 32 - 1)) := by
  rw [portCount_eq _ rfl, State.setLink, State.get_put_ne _ _ (by simp)]

theorem alignTimeout_ends (hp : p < 4) : exec (.alignTimeout p) s = .next (
    if s.get (Reg.PORT_STATUS_LINK p) = 2 ∧ s.due (.align p) then
      ((s.put (Reg.PORT_STATUS_LINK p) 1).put (Reg.LINK_DOWNS_COUNT p) (min (s.get (Reg.LINK_DOWNS_COUNT p) + 1) (2 ^ 32 - 1))).linkGone p
    else s) := by
  show execAlignTimeout p s = _
  unfold execAlignTimeout
  rw [setLink_counted]
  simp only [hp, true_and]

theorem linkDown_ends (hp : p < 4) (near far : Bool) : let u := s.linkDown p near far
    if s.get (Reg.PORT_STATUS_LINK p) = 3 then ∃ v x, u = v.linkGone p ∧ (x = s.var (.portRaised p 8) ∨ x = (s.runNs + 1 : Nat)) ∧
      Quiet (((((s.put (Reg.PORT_STATUS_LINK p) 1).put (Reg.LINK_DOWNS_COUNT p) (min (s.get (Reg.LINK_DOWNS_COUNT p) + 1) (2 ^ 32 - 1))).put
        (Reg.PORT_STATUS_LOCAL_FAULT p) (b2n near)).put (Reg.PORT_STATUS_REMOTE_FAULT p) (b2n far)).setVar (.portRaised p 8) x) v
    else u = s := by
  intro u
  split
  · next h =>
    rw [← setLink_counted]
    obtain ⟨x, hx, hquiet⟩ := linkEvent_quiet ((((s.setLink p 1).portCount (Reg.LINK_DOWNS_COUNT p)).put (Reg.PORT_STATUS_LOCAL_FAULT p)
      (b2n near)).put (Reg.PORT_STATUS_REMOTE_FAULT p) (b2n far)) p 3
    exact ⟨_, x, if_pos ⟨hp, decide_eq_true h⟩, hx, hquiet⟩
  · next h => exact if_neg fun hup => h (of_decide_eq_true hup.2)

theorem portLinkReset_ends (hp : p < 4) (hr : Ready s c opLinkReset) :
    let t := s.runCmd c opLinkReset [] (portLinkResetEff p)
    if s.unitFenced (0x8000 + p) then Ends s c opLinkReset Status.fenced 0 id t
    else if s.get (Reg.PORT_STATUS_LINK p) = 2 ∨ s.get (Reg.PORT_STATUS_LINK p) = 3 then
      Ends s c opLinkReset Status.ok 0 (fun f => ((f.put (Reg.PORT_STATUS_LINK p) 1).linkGone p).serveUpdate) t
    else Ends s c opLinkReset Status.notFit 0 id t := by
  intro t
  have hout : ¬ 4 ≤ p := by omega
  have hfence : (s.fetch c).unitFenced (0x8000 + p) = s.unitFenced (0x8000 + p) := by simp only [State.unitFenced, fetch_unit]
  rw [← fetch_get s c, ← hfence]
  split
  · next hfenced => exact runCmd_refused hr ((if_neg hout).trans (if_pos hfenced))
  next hfenced =>
  split
  · next hlink =>
    exact runCmd_answers hr ((if_neg hout).trans ((if_neg hfenced).trans (if_pos hlink))) (change_quiet _ _ _ _ _ _ _)
  · next hlink => exact runCmd_refused hr ((if_neg hout).trans ((if_neg hfenced).trans (if_neg hlink)))

end

/-- Settles O31: each of the link's moves, and the command, by its own lemma. -/
theorem portLinks : Obligations.PortLinks := by
  unfold Obligations.PortLinks
  intro s p hp
  exact ⟨linkAlign_ends hp, fun skew hskew => ⟨_, _, rfl, rfl, linkUp_ends hp hskew⟩, next_ite (alignTimeout_ends hp),
    fun near far => ⟨_, _, rfl, rfl, linkDown_ends hp near far⟩, fun c hr => ⟨_, rfl, portLinkReset_ends hp hr⟩⟩

end Sys2Proof.Machine
end

section
/-! PROOFS. Flow control (R320, R321). -/

namespace Sys2Proof.Machine

section

variable {s : State} {p q j : Nat}

/-- Where one turn of a fold alone touches a part of the state, the fold leaves there what that turn does. -/
theorem exists_view_turn {α β : Type} (view : State → α) {f : State → β → State} {l : List β} (hl : l.Nodup) {i : β} (hi : i ∈ l)
    (hother : ∀ u j, j ≠ i → view (f u j) = view u) (s : State) : ∃ u, view u = view s ∧ view (l.foldl f s) = view (f u i) := by
  induction l generalizing s with
  | nil => exact absurd hi List.not_mem_nil
  | cons j l ih =>
    obtain ⟨hj, hl⟩ := List.nodup_cons.1 hl
    rcases List.mem_cons.1 hi with rfl | hmem
    · exact ⟨s, rfl, view_foldl_mem view _ l fun u k hk => hother u k fun e => hj (e ▸ hk)⟩
    · obtain ⟨u, hu, hfold⟩ := ih hl hmem (f s j)
      exact ⟨u, hu.trans (hother s j fun e => hj (e ▸ hmem)), hfold⟩

/-! ## A priority halted and resumed (R320) -/

theorem halted_setHalt (s : State) (p j : Nat) (on : Bool) (hq : q < 8) : (s.setHalt p j on).halted p q = if q = j then on else s.halted p q :=
  fbit_putBit s j on hq

theorem get_setHalt {f : Fld} (s : State) (p j : Nat) (on : Bool) (hf : f.key ≠ (Reg.PORT_STATUS_PAUSED p).key) :
    (s.setHalt p j on).get f = s.get f := State.get_put_ne _ _ hf

/-- A pause of a priority that is not ignored halts it for the time, or resumes it. -/
theorem pausePrio_shows (hq : q < 8) (hheard : s.fbit (Reg.PORT_STATUS_WD_IGNORE p) q = false) (time : Nat) : let t := s.pausePrio p q time
    if time = 0 then t.halted p q = false ∧ aget (t.port p).pauseEnd q = none
    else t.halted p q = true ∧ aget (t.port p).pauseEnd q = some (s.runNs + quantaNs (s.mode p) time) := by
  intro t
  have hpause : t = s.pausePrio p q time := rfl
  unfold State.pausePrio at hpause
  rw [if_neg (by simp [hheard])] at hpause
  split
  · next hzero =>
    rw [if_pos hzero] at hpause
    rw [hpause, halted_setHalt _ _ _ _ hq, if_pos rfl]
    exact ⟨rfl, (congrArg (fun r => aget r.pauseEnd q) (State.port_setPort_same _ _ _)).trans (aget_adel_same _ _)⟩
  · next hzero =>
    rw [if_neg hzero] at hpause
    rw [hpause, halted_setHalt _ _ _ _ hq, if_pos rfl]
    exact ⟨rfl, (congrArg (fun r => aget r.pauseEnd q) (State.port_setPort_same _ _ _)).trans (aget_aput_same _ _ _)⟩

/-- What flow control shows of a priority, and what a pause of it reads. -/
def State.pauseView (s : State) (p q : Nat) : Bool × Option Nat × Nat × Nat × Bool :=
  (s.halted p q, aget (s.port p).pauseEnd q, s.runNs, s.mode p, s.fbit (Reg.PORT_STATUS_WD_IGNORE p) q)

theorem pauseView_pausePrio (s : State) (p : Nat) (hq : q < 8) (hj : q ≠ j) (time : Nat) :
    (s.pausePrio p j time).pauseView p q = s.pauseView p q := by
  have hset : ∀ (r : PortRec) (on : Bool), aget r.pauseEnd q = aget (s.port p).pauseEnd q →
      ((s.setPort p r).setHalt p j on).pauseView p q = s.pauseView p q := by
    intro r on hr
    have hmode : ((s.setPort p r).setHalt p j on).mode p = s.mode p := get_setHalt _ _ _ _ (by simp)
    have hport : ((s.setPort p r).setHalt p j on).port p = r := State.port_setPort_same _ _ _
    unfold State.pauseView
    rw [halted_setHalt _ _ _ _ hq, if_neg hj, hmode, hport, hr, State.fbit, get_setHalt _ _ _ _ (by simp)]
    rfl
  unfold State.pausePrio
  refine view_ite (State.pauseView · p q) (view_ite (State.pauseView · p q) rfl ?_) (view_ite (State.pauseView · p q) ?_ ?_)
  · unfold State.pauseView
    rw [State.port_setPort_same]
    rfl
  · exact hset _ _ (aget_adel_ne _ hj)
  · exact hset _ _ (aget_aput_ne _ _ hj)

/-- What no pause changes: the Time Core, host memory, what left the engine, and the port's FIFO. -/
def State.pauseRest (s : State) (p : Nat) : TimeCore × List Host.Cell × List Out × List TxItem := (s.tc, s.mem, s.out, (s.port p).fifo)

theorem pauseRest_pausePrio (s : State) (p q time : Nat) : (s.pausePrio p q time).pauseRest p = s.pauseRest p := by
  have hset : ∀ r : PortRec, r.fifo = (s.port p).fifo → (s.setPort p r).pauseRest p = s.pauseRest p := fun r hr => by
    rw [State.pauseRest, State.port_setPort_same, hr]
    rfl
  unfold State.pausePrio
  exact view_ite (State.pauseRest · p) (view_ite (State.pauseRest · p) rfl (hset _ rfl))
    (view_ite (State.pauseRest · p) (hset _ rfl) (hset _ rfl))

theorem get_pausePrio (s : State) (p q time : Nat) {f : Fld} (hf : f.key ≠ (Reg.PORT_STATUS_PAUSED p).key) :
    (s.pausePrio p q time).get f = s.get f := by
  unfold State.pausePrio
  exact view_ite (State.get · f) (view_ite (State.get · f) rfl rfl)
    (view_ite (State.get · f) (get_setHalt _ _ _ _ hf) (get_setHalt _ _ _ _ hf))

/-! ## A pause frame received (R320) -/

/-- What a pause frame does to one priority. -/
def State.pauseTurn (s : State) (p : Nat) (pfc : Bool) (mask : Nat) (quanta : List Nat) (q : Nat) : State :=
  if pfc then (if bit mask q then s.pausePrio p q (quanta.getD q 0) else s) else s.pausePrio p q (quanta.getD 0 0)

/-- A pause frame that the port obeys. -/
def State.paused (s : State) (p : Nat) (pfc : Bool) (mask : Nat) (quanta : List Nat) : State :=
  (List.range 8).foldl (fun u q => u.pauseTurn p pfc mask quanta q) (s.portCount (if pfc then Reg.RX_PFC_COUNT p else Reg.RX_PAUSE_COUNT p))

theorem pauseFrame_elsewhere {mask : PauseTo} (h : s.pauseTo p mask.dst = false) (pfc : Bool) (quanta : List Nat) :
    exec (.pauseFrame p pfc mask quanta) s = .next s := by
  show execPauseFrame p pfc mask quanta s = _
  unfold execPauseFrame
  rw [if_pos (.inr (.inr (by simp [h])))]

theorem pauseFrame_obeyed {mask : PauseTo} (hp : p < 4) (hup : s.portUp p = true) (hto : s.pauseTo p mask.dst = true) (pfc : Bool)
    (quanta : List Nat) : exec (.pauseFrame p pfc mask quanta) s = .next (s.paused p pfc mask.mask quanta) := by
  show execPauseFrame p pfc mask quanta s = _
  unfold execPauseFrame
  rw [if_neg (by simp [hup, hto]; omega)]
  rfl

theorem paused_shows (hq : q < 8) (hheard : s.get (Reg.PORT_STATUS_WD_IGNORE p) = 0) (pfc : Bool) (mask : Nat) (quanta : List Nat) :
    let t := s.paused p pfc mask quanta
    let time := if pfc then quanta.getD q 0 else quanta.getD 0 0
    if pfc = true ∧ bit mask q = false then t.halted p q = s.halted p q ∧ aget (t.port p).pauseEnd q = aget (s.port p).pauseEnd q
    else if time = 0 then t.halted p q = false ∧ aget (t.port p).pauseEnd q = none
    else t.halted p q = true ∧ aget (t.port p).pauseEnd q = some (s.runNs + quantaNs (s.mode p) time) := by
  intro t time
  let counted := s.portCount (if pfc then Reg.RX_PFC_COUNT p else Reg.RX_PAUSE_COUNT p)
  have hcounted : counted.pauseView p q = s.pauseView p q := by
    have hget : ∀ f : Fld, f.key ≠ (Reg.RX_PFC_COUNT p).key → f.key ≠ (Reg.RX_PAUSE_COUNT p).key → counted.get f = s.get f := fun f hpfc hpause =>
      get_portCount_ne s (by split <;> assumption)
    unfold State.pauseView State.halted State.fbit State.mode
    rw [hget _ (by simp) (by simp), hget _ (by simp) (by simp), hget _ (by simp) (by simp)]
    rfl
  obtain ⟨u, hu, hfold⟩ := exists_view_turn (State.pauseView · p q) List.nodup_range (List.mem_range.2 hq)
    (f := fun u q => u.pauseTurn p pfc mask quanta q) (fun v j hj => by
      exact view_ite (State.pauseView · p q) (view_ite (State.pauseView · p q) (pauseView_pausePrio v p hq hj.symm _) rfl)
        (pauseView_pausePrio v p hq hj.symm _)) counted
  obtain ⟨hhalt, hend, hrun, hmode, hignore⟩ : u.halted p q = s.halted p q ∧ aget (u.port p).pauseEnd q = aget (s.port p).pauseEnd q ∧
      u.runNs = s.runNs ∧ u.mode p = s.mode p ∧ u.fbit (Reg.PORT_STATUS_WD_IGNORE p) q = s.fbit (Reg.PORT_STATUS_WD_IGNORE p) q := by
    simpa only [State.pauseView, Prod.mk.injEq] using hu.trans hcounted
  have hhalt' : t.halted p q = (u.pauseTurn p pfc mask quanta q).halted p q := congrArg (·.1) hfold
  have hend' : aget (t.port p).pauseEnd q = aget ((u.pauseTurn p pfc mask quanta q).port p).pauseEnd q := congrArg (·.2.1) hfold
  rw [hhalt', hend']
  split
  · next hout =>
    rw [State.pauseTurn, if_pos hout.1, if_neg (by simp [hout.2])]
    exact ⟨hhalt, hend⟩
  · next hin =>
    have hturn : u.pauseTurn p pfc mask quanta q = u.pausePrio p q time := by
      unfold State.pauseTurn time
      split
      · next hpfc => rw [if_pos (by simpa [hpfc] using hin)]
      · rfl
    rw [hturn, ← hrun, ← hmode]
    exact pausePrio_shows hq (hignore.trans (by simp [State.fbit, hheard, bit])) time

theorem paused_keeps (s : State) (p : Nat) (pfc : Bool) (mask : Nat) (quanta : List Nat) : let t := s.paused p pfc mask quanta
    t.tc = s.tc ∧ t.mem = s.mem ∧ t.out = s.out ∧ (t.port p).fifo = (s.port p).fifo ∧
      t.get (if pfc then Reg.RX_PFC_COUNT p else Reg.RX_PAUSE_COUNT p) =
        min (s.get (if pfc then Reg.RX_PFC_COUNT p else Reg.RX_PAUSE_COUNT p) + 1) (2 ^ 32 - 1) := by
  have hturn : ∀ {α : Type} (view : State → α), (∀ u q time, view (u.pausePrio p q time) = view u) → ∀ u : State,
      view ((List.range 8).foldl (fun u q => u.pauseTurn p pfc mask quanta q) u) = view u := fun view h u =>
    view_foldl view (fun v q => view_ite view (view_ite view (h _ _ _) rfl) (h _ _ _)) u _
  have hkey : (if pfc then Reg.RX_PFC_COUNT p else Reg.RX_PAUSE_COUNT p).key ≠ (Reg.PORT_STATUS_PAUSED p).key := by split <;> simp
  have hrest : (s.paused p pfc mask quanta).pauseRest p = s.pauseRest p :=
    hturn (State.pauseRest · p) (fun u q time => pauseRest_pausePrio u p q time) _
  simp only [State.pauseRest, Prod.mk.injEq] at hrest
  obtain ⟨htc, hmem, hout, hfifo⟩ := hrest
  refine ⟨htc, hmem, hout, hfifo, (hturn (State.get · _) (fun u q time => get_pausePrio u p q time hkey) _).trans (get_portCount_same _ ?_)⟩
  split <;> rfl

theorem pauseExpiry_ends (hp : p < 4) (hq : q < 8) : ∃ t, exec (.pauseExpiry p q) s = .next t ∧
    match aget (s.port p).pauseEnd q with
    | some e => if e ≤ s.runNs then t.halted p q = false ∧ aget (t.port p).pauseEnd q = none ∧ t.tc = s.tc ∧
        (∀ j, j < 8 → j ≠ q → t.halted p j = s.halted p j) else t = s
    | none => t = s := by
  obtain ⟨t, ht⟩ : ∃ t, exec (.pauseExpiry p q) s = .next t := ⟨_, rfl⟩
  refine ⟨t, ht, ?_⟩
  replace ht : execPauseExpiry p q s = .next t := ht
  unfold execPauseExpiry at ht
  rw [if_pos ⟨hp, hq⟩] at ht
  replace ht := (Host.Outcome.next.inj ht).symm
  dsimp only at ht
  cases hend : aget (s.port p).pauseEnd q with
  | none => rwa [hend] at ht
  | some e =>
    rw [hend] at ht
    dsimp only at ht ⊢
    split
    · next hover =>
      rw [if_pos hover] at ht
      rw [ht, halted_setHalt _ _ _ _ hq, if_pos rfl]
      refine ⟨rfl, (congrArg (fun r => aget r.pauseEnd q) (State.port_setPort_same _ _ _)).trans (aget_adel_same _ _), rfl, fun j hj hne => ?_⟩
      rw [halted_setHalt _ _ _ _ hj, if_neg hne]
      rfl
    · next hover => rwa [if_neg hover] at ht

/-! ## The watchdog (R321) -/

/-- A pause broken by the watchdog. -/
def State.wdBreak (s : State) (p q : Nat) : State :=
  let r := s.port p
  let s := s.setPort p { r with pauseEnd := adel r.pauseEnd q, pausedAt := adel r.pausedAt q, ignored := aput r.ignored q s.runNs }
  ((s.setHalt p q false).putBit (Reg.PORT_STATUS_WD_IGNORE p) q true).portCount (Reg.PAUSE_WD_BREAKS_COUNT p)

theorem wdBreak_shows (s : State) (p j : Nat) (hq : q < 8) : let t := s.wdBreak p j
    t.halted p q = (if q = j then false else s.halted p q) ∧
      t.fbit (Reg.PORT_STATUS_WD_IGNORE p) q = (if q = j then true else s.fbit (Reg.PORT_STATUS_WD_IGNORE p) q) := by
  intro t
  let u := s.setPort p { s.port p with
    pauseEnd := adel (s.port p).pauseEnd j, pausedAt := adel (s.port p).pausedAt j, ignored := aput (s.port p).ignored j s.runNs }
  have hhalted : t.halted p q = (u.setHalt p j false).halted p q := congrArg (bit · q)
    ((get_portCount_ne _ (by simp)).trans (State.get_put_ne _ _ (by simp)))
  have hignore : t.fbit (Reg.PORT_STATUS_WD_IGNORE p) q = ((u.setHalt p j false).putBit (Reg.PORT_STATUS_WD_IGNORE p) j true).fbit
      (Reg.PORT_STATUS_WD_IGNORE p) q := congrArg (bit · q) (get_portCount_ne _ (by simp))
  rw [hhalted, hignore, halted_setHalt _ _ _ _ hq, fbit_putBit _ _ _ (by exact hq), State.fbit, get_setHalt _ _ _ _ (by simp)]
  exact ⟨rfl, rfl⟩

/-- The pauses of some priorities broken, and the event raised for it. -/
def State.wdBroken (s : State) (p : Nat) (qs : List Nat) : State :=
  (qs.foldl (fun u q => u.wdBreak p q) s).raisePort p 0 .warning [i1 (qs.foldl (fun a q => a + 2 ^ q) 0)]

theorem pauseWd_ends (hp : p < 4) : exec (.pauseWd p) s = .next (
    if s.get (Reg.PAUSE_CFG_WD_EN p) = 0 ∨ s.wdDue p = [] then s else s.wdBroken p (s.wdDue p)) := by
  show execPauseWd p s = _
  unfold execPauseWd
  refine congrArg Host.Outcome.next ?_
  by_cases hoff : s.get (Reg.PAUSE_CFG_WD_EN p) = 0
  · rw [if_pos (.inr hoff), if_pos (.inl hoff)]
  rw [if_neg (by omega)]
  by_cases hnone : s.wdDue p = []
  · exact (if_pos (List.isEmpty_iff.2 hnone)).trans (if_pos (.inr hnone)).symm
  · rw [if_neg (not_or.2 ⟨hoff, hnone⟩)]
    exact if_neg fun h => hnone (List.isEmpty_iff.1 h)

theorem wdBroken_shows (s : State) (p : Nat) {qs : List Nat} (hqs : qs.Nodup) : let t := s.wdBroken p qs
    t.tc = s.tc ∧ t.mem = s.mem ∧ t.out = s.out ∧
      ∀ q, q < 8 → if q ∈ qs then t.halted p q = false ∧ t.fbit (Reg.PORT_STATUS_WD_IGNORE p) q = true
        else t.halted p q = s.halted p q ∧ t.fbit (Reg.PORT_STATUS_WD_IGNORE p) q = s.fbit (Reg.PORT_STATUS_WD_IGNORE p) q := by
  intro t
  have htold : PortTold p (qs.foldl (fun u q => u.wdBreak p q) s) t := raisePort_told _ _ _ _ _
  refine ⟨htold.tc.trans (view_foldl State.tc (f := fun u q => u.wdBreak p q) (fun _ _ => rfl) _ _), htold.mem.trans (view_foldl State.mem (f := fun u q => u.wdBreak p q) (fun _ _ => rfl) _ _),
    htold.out.trans (view_foldl State.out (f := fun u q => u.wdBreak p q) (fun _ _ => rfl) _ _), fun q hq => ?_⟩
  let view := fun u : State => (u.halted p q, u.fbit (Reg.PORT_STATUS_WD_IGNORE p) q)
  have hview : view t = view (qs.foldl (fun u q => u.wdBreak p q) s) :=
    Prod.ext (congrArg (bit · q) (htold.get (by simp) (by simp))) (congrArg (bit · q) (htold.get (by simp) (by simp)))
  have hother : ∀ (u : State) (j : Nat), j ≠ q → view (u.wdBreak p j) = view u := fun u j hj => by
    obtain ⟨hhalt, hignore⟩ := wdBreak_shows u p j hq
    exact Prod.ext (hhalt.trans (if_neg hj.symm)) (hignore.trans (if_neg hj.symm))
  split
  · next hdue =>
    obtain ⟨u, -, hfold⟩ := exists_view_turn view hqs hdue hother s
    obtain ⟨hhalt, hignore⟩ := wdBreak_shows u p q hq
    have ht := hview.trans hfold
    exact ⟨(congrArg Prod.fst ht).trans (hhalt.trans (if_pos rfl)), (congrArg Prod.snd ht).trans (hignore.trans (if_pos rfl))⟩
  · next hdue =>
    have ht := hview.trans (view_foldl_mem view s qs fun u j hj => hother u j fun e => hdue (e ▸ hj))
    exact ⟨congrArg Prod.fst ht, congrArg Prod.snd ht⟩

theorem wdIgnoreEnd_ends (hp : p < 4) (hq : q < 8) : exec (.wdIgnoreEnd p q) s = .next (
    if s.fbit (Reg.PORT_STATUS_WD_IGNORE p) q = true ∧
      ((aget (s.port p).ignored q).getD 0 + 1000000000 ≤ s.runNs ∨ aget (s.port p).ignored q = none)
    then s.putBit (Reg.PORT_STATUS_WD_IGNORE p) q false else s) := by
  show execWdIgnoreEnd p q s = _
  unfold execWdIgnoreEnd
  simp only [hp, hq, true_and]
  by_cases hignore : s.fbit (Reg.PORT_STATUS_WD_IGNORE p) q = true
  · rw [if_pos hignore]
    cases hlast : aget (s.port p).ignored q with
    | none => simp [hignore]
    | some a =>
      have hiff : a + secNs ≤ s.runNs ↔
          s.fbit (Reg.PORT_STATUS_WD_IGNORE p) q = true ∧ (a + 1000000000 ≤ s.runNs ∨ some a = none) := by simp [hignore, secNs]
      exact congrArg Host.Outcome.next (if_congr hiff rfl rfl)
  · rw [if_neg hignore, if_neg fun h => hignore h.1]

end

end Sys2Proof.Machine
end

section
/-! PROOFS. SyncE and ESMC messages (R324, R325). -/

namespace Sys2Proof.Machine

section

variable {s : State} {p : Nat}

/-! ## A quality level received (R324) -/

/-- What the lanes of a port's recovered clock show leaves the registers of the ports alone. -/
theorem get_setQl (s : State) (p ql valid : Nat) {f : Fld} (hf : portKey 0 ≤ f.key) : (s.setQl p ql valid).get f =
    ((s.put (Reg.SYNCE_STATUS_RX_QL p) ql).put (Reg.SYNCE_STATUS_QL_VALID p) valid).get f := by
  refine view_foldl_mem (State.get · f) _ _ fun u n hn => view_ite (State.get · f) ?_ rfl
  have hlane : n < 16 := List.mem_range.1 hn
  have hql : (Reg.LANE_QL_QL n).key < portKey 0 := by simp only [Fld.key, Reg.LANE_QL_QL, portKey]; omega
  have hvalid : (Reg.LANE_QL_QL_VALID n).key < portKey 0 := by simp only [Fld.key, Reg.LANE_QL_QL_VALID, portKey]; omega
  exact (State.get_put_ne _ _ (by omega)).trans (State.get_put_ne _ _ (by omega))

theorem setQl_keeps (s : State) (p ql valid : Nat) : (s.setQl p ql valid).tc = s.tc ∧ (s.setQl p ql valid).timers = s.timers := by
  unfold State.setQl
  refine ⟨(view_foldl State.tc (fun _ _ => ?_) _ _).trans rfl, (view_foldl State.timers (fun _ _ => ?_) _ _).trans rfl⟩
  · split <;> rfl
  · split <;> rfl

theorem setQl_shows (s : State) (p ql valid : Nat) : let t := s.setQl p ql valid
    t.get (Reg.SYNCE_STATUS_RX_QL p) = ql % 2 ^ 4 ∧ t.get (Reg.SYNCE_STATUS_QL_VALID p) = valid % 2 ^ 1 ∧
      ∀ f : Fld, portKey p ≤ f.key → f.key ≠ (Reg.SYNCE_STATUS_RX_QL p).key → f.key ≠ (Reg.SYNCE_STATUS_QL_VALID p).key → t.get f = s.get f := by
  have hbase : portKey 0 ≤ portKey p := by unfold portKey; omega
  refine ⟨?_, ?_, fun f hf hql hvalid => ?_⟩
  · exact (get_setQl s p ql valid (by simp; omega)).trans ((State.get_put_ne _ _ (by simp)).trans (State.get_put_same _ _ _))
  · exact (get_setQl s p ql valid (by simp; omega)).trans (State.get_put_same _ _ _)
  · exact (get_setQl s p ql valid (le_trans hbase hf)).trans ((State.get_put_ne _ _ hvalid).trans (State.get_put_ne _ _ hql))

/-- A good PDU, before its event. -/
def State.esmcTaken (s : State) (p ssm : Nat) (ext : Bool) : State :=
  let s := (s.portCount (Reg.ESMC_RX_COUNT p)).setQl p (ssm % 16) 1
  (if ext then s.put (Reg.SYNCE_STATUS_EXT_TLV_SEEN p) 1 else s).arm (.esmcQuiet p) (5 * secNs)

theorem esmcTaken_shows (s : State) (p ssm : Nat) (ext : Bool) : let t := s.esmcTaken p ssm ext
    t.get (Reg.SYNCE_STATUS_RX_QL p) = ssm % 16 ∧ t.get (Reg.SYNCE_STATUS_QL_VALID p) = 1 ∧
      t.timer (.esmcQuiet p) = some (s.runNs + 5000000000) ∧ t.get (Reg.ESMC_RX_COUNT p) = min (s.get (Reg.ESMC_RX_COUNT p) + 1) (2 ^ 32 - 1) ∧
      t.tc = s.tc ∧ (ext = true → t.get (Reg.SYNCE_STATUS_EXT_TLV_SEEN p) = 1) := by
  obtain ⟨hql, hvalid, hrest⟩ := setQl_shows (s.portCount (Reg.ESMC_RX_COUNT p)) p (ssm % 16) 1
  have hcount := (hrest _ (by simp) (by simp) (by simp)).trans (get_portCount_same s (f := Reg.ESMC_RX_COUNT p) rfl)
  have htc : ((s.portCount (Reg.ESMC_RX_COUNT p)).setQl p (ssm % 16) 1).tc = s.tc := (setQl_keeps _ _ _ _).1
  unfold State.esmcTaken
  generalize (s.portCount (Reg.ESMC_RX_COUNT p)).setQl p (ssm % 16) 1 = u at *
  obtain ⟨v, hv⟩ : ∃ v, v = if ext then u.put (Reg.SYNCE_STATUS_EXT_TLV_SEEN p) 1 else u := ⟨_, rfl⟩
  have hget : ∀ {f : Fld}, f.key ≠ (Reg.SYNCE_STATUS_EXT_TLV_SEEN p).key → v.get f = u.get f := fun {f} hf => by
    rw [hv]
    exact view_ite (State.get · f) (State.get_put_ne _ _ hf) rfl
  have hvtc : v.tc = s.tc := by
    rw [hv, ← htc]
    exact view_ite State.tc rfl rfl
  dsimp only
  rw [← hv]
  refine ⟨(hget (by simp)).trans (hql.trans (Nat.mod_mod _ 16)), (hget (by simp)).trans hvalid, ?_, (hget (by simp)).trans hcount, hvtc, fun hext => ?_⟩
  · rw [State.timer_arm_same, State.runNs, hvtc]
    rfl
  · rw [if_pos hext] at hv
    rw [hv]
    exact State.get_put_same _ _ _

theorem esmcPdu_good (hp : p < 4) (hup : s.portUp p = true) (ssm : Nat) (ext : Bool) :
    ∃ t, exec (.esmcPdu p 0x0019A7 1 1 1 4 ssm ext) s = .next t ∧ PortTold p (s.esmcTaken p ssm ext) t := by
  refine ⟨_, rfl, ?_⟩
  rw [if_neg (by simp [hup]; omega), if_neg (by simp)]
  exact .ite (.refl _) (raisePort_told _ _ _ _ _)

theorem esmcPdu_bad {oui sub ver typ len : Nat} (hp : p < 4) (hup : s.portUp p = true)
    (hbad : ¬ (oui = 0x0019A7 ∧ sub = 1 ∧ ver = 1 ∧ typ = 1 ∧ len = 4)) (ssm : Nat) (ext : Bool) :
    exec (.esmcPdu p oui sub ver typ len ssm ext) s = .next (s.put (Reg.ESMC_BAD_COUNT p) (min (s.get (Reg.ESMC_BAD_COUNT p) + 1) (2 ^ 32 - 1))) := by
  show execEsmcPdu p oui sub ver typ len ssm ext s = _
  unfold execEsmcPdu
  rw [if_neg (by simp [hup]; omega), if_pos (by omega), portCount_eq s rfl]

theorem esmcPdu_ends (hp : p < 4) (hup : s.portUp p = true) (oui sub ver typ len ssm : Nat) (ext : Bool) :
    ∃ t, exec (.esmcPdu p oui sub ver typ len ssm ext) s = .next t ∧
      if oui = 0x0019A7 ∧ sub = 1 ∧ ver = 1 ∧ typ = 1 ∧ len = 4
      then t.get (Reg.SYNCE_STATUS_RX_QL p) = ssm % 16 ∧ t.get (Reg.SYNCE_STATUS_QL_VALID p) = 1 ∧
        t.timer (.esmcQuiet p) = some (s.runNs + 5000000000) ∧ t.get (Reg.ESMC_RX_COUNT p) = min (s.get (Reg.ESMC_RX_COUNT p) + 1) (2 ^ 32 - 1) ∧
        t.tc = s.tc ∧ (ext = true → t.get (Reg.SYNCE_STATUS_EXT_TLV_SEEN p) = 1)
      else t = s.put (Reg.ESMC_BAD_COUNT p) (min (s.get (Reg.ESMC_BAD_COUNT p) + 1) (2 ^ 32 - 1)) := by
  by_cases hgood : oui = 0x0019A7 ∧ sub = 1 ∧ ver = 1 ∧ typ = 1 ∧ len = 4
  · obtain ⟨rfl, rfl, rfl, rfl, rfl⟩ := hgood
    obtain ⟨t, ht, htold⟩ := esmcPdu_good hp hup ssm ext
    obtain ⟨hql, hvalid, htimer, hcount, htc, hext⟩ := esmcTaken_shows s p ssm ext
    refine ⟨t, ht, ?_⟩
    rw [if_pos (by decide), htold.get (by simp) (by simp), htold.get (by simp) (by simp), htold.get (by simp) (by simp),
      htold.get (by simp) (by simp), htold.tc, State.timer, htold.timers]
    exact ⟨hql, hvalid, htimer, hcount, htc, hext⟩
  · exact ⟨_, esmcPdu_bad hp hup hgood ssm ext, by rw [if_neg hgood]⟩

/-- The quality level lost: its code stays, and is no longer valid. -/
theorem esmcTimeout_due (hp : p < 4) (hdue : s.due (.esmcQuiet p) = true) : ∃ t, exec (.esmcTimeout p) s = .next t ∧
    PortTold p ((s.stopTimer (.esmcQuiet p)).setQl p (s.get (Reg.SYNCE_STATUS_RX_QL p)) 0) t := by
  refine ⟨_, rfl, ?_⟩
  rw [if_pos ⟨hp, hdue⟩]
  exact raisePort_told _ _ _ _ _

theorem esmcTimeout_ends (hp : p < 4) : ∃ t, exec (.esmcTimeout p) s = .next t ∧
    if s.due (.esmcQuiet p) then t.get (Reg.SYNCE_STATUS_QL_VALID p) = 0 ∧ t.get (Reg.SYNCE_STATUS_RX_QL p) = s.get (Reg.SYNCE_STATUS_RX_QL p) % 2 ^ 4 ∧
      t.timer (.esmcQuiet p) = none ∧ t.tc = s.tc else t = s := by
  by_cases hdue : s.due (.esmcQuiet p) = true
  · obtain ⟨t, ht, htold⟩ := esmcTimeout_due hp hdue
    obtain ⟨hql, hvalid, -⟩ := setQl_shows (s.stopTimer (.esmcQuiet p)) p (s.get (Reg.SYNCE_STATUS_RX_QL p)) 0
    obtain ⟨htc, htimers⟩ := setQl_keeps (s.stopTimer (.esmcQuiet p)) p (s.get (Reg.SYNCE_STATUS_RX_QL p)) 0
    refine ⟨t, ht, ?_⟩
    rw [if_pos hdue, htold.get (by simp) (by simp), htold.get (by simp) (by simp), htold.tc, State.timer, htold.timers, htimers]
    exact ⟨hvalid, hql, State.timer_stopTimer_same s _, htc⟩
  · refine ⟨s, ?_, by rw [if_neg hdue]⟩
    show execEsmcTimeout p s = _
    unfold execEsmcTimeout
    rw [if_neg fun h => hdue h.2]

/-! ## A port's own code sent (R325) -/

/-- What the frames put into a FIFO leave alone: the code last sent, what left the engine, and the Time Core. -/
def State.esmcView (s : State) (p : Nat) : Int × List Out × TimeCore := (s.var (.esmcCode p), s.out, s.tc)

theorem PortTold.esmcView {t : State} (h : PortTold p s t) : t.esmcView p = s.esmcView p := by
  rw [State.esmcView, h.vars _ (by simp [bookVars]) (by simp), h.out, h.tc, State.esmcView]

theorem fifoPush_shows (s : State) (p : Nat) (tci : Option Nat) (b : TxBody) : let t := s.fifoPush p tci b
    ⟨s.prioOf p tci, tci, b⟩ ∈ (t.port p).fifo ∧ t.esmcView p = s.esmcView p := by
  have hdrop : ∀ (u : State) (old : TxItem → Bool), (u.timeDrop p old).esmcView p = u.esmcView p := fun u old =>
    (raisePort_told _ _ _ _ _).esmcView
  unfold State.fifoPush
  extract_lets i old u mine v
  have hv : v.esmcView p = s.esmcView p :=
    (view_ite (State.esmcView · p) (hdrop u mine) rfl).trans (view_ite (State.esmcView · p) (hdrop s old) rfl)
  clear_value v
  refine ⟨?_, hv⟩
  rw [State.port_setPort_same]
  exact List.mem_append_right _ (List.mem_singleton.2 rfl)

/-- A PDU of the port's own code goes into its FIFO, with no more than 10 in any second. -/
theorem esmcSend_shows (s : State) (p : Nat) (event : Bool) : let u := s.esmcSend p event
    if 10 ≤ ((s.port p).esmcSent.filter fun a => decide (s.runNs < a + secNs)).length then u = s
    else (∃ j ∈ (u.port p).fifo, j = ⟨s.prioOf p (s.ownTci p), s.ownTci p, .esmc (s.esmcCode p) event⟩) ∧
      u.var (.esmcCode p) = s.esmcCode p + 1 ∧ u.out = s.out ∧ u.tc = s.tc := by
  intro u
  split
  · next hmany => exact if_pos hmany
  · next hfew =>
    let v := (s.setPort p { s.port p with
      esmcSent := s.runNs :: (s.port p).esmcSent.filter fun a => decide (s.runNs < a + secNs) }).setVar (.esmcCode p) (s.esmcCode p + 1)
    have hu : u = v.fifoPush p (s.ownTci p) (.esmc (s.esmcCode p) event) := if_neg hfew
    obtain ⟨hmem, hview⟩ := fifoPush_shows v p (s.ownTci p) (.esmc (s.esmcCode p) event)
    rw [← hu] at hmem hview
    exact ⟨⟨_, hmem, rfl⟩, (congrArg (·.1) hview).trans (State.var_setVar_same _ _ _), congrArg (·.2.1) hview, congrArg (·.2.2) hview⟩

theorem esmcSend_tc (s : State) (p : Nat) (event : Bool) : (s.esmcSend p event).tc = s.tc := by
  have h := esmcSend_shows s p event
  dsimp only at h
  split at h
  · rw [h]
  · exact h.2.2.2

theorem esmcInfoTx_eq (hp : p < 4) : exec (.esmcInfoTx p) s = .next (
    if s.esmcOn p = true ∧ s.due (.esmcInfo p) = true then (s.esmcSend p false).setTimer (.esmcInfo p) (s.runNs + 1000000000) else s) := by
  have harm : (s.esmcSend p false).arm (.esmcInfo p) secNs = (s.esmcSend p false).setTimer (.esmcInfo p) (s.runNs + 1000000000) := by
    rw [State.arm, State.runNs, esmcSend_tc]
    rfl
  show execEsmcInfoTx p s = _
  unfold execEsmcInfoTx
  rw [harm]
  simp only [hp, true_and]

theorem esmcEventTx_eq (hp : p < 4) : exec (.esmcEventTx p) s = .next (
    if s.esmcOn p = true ∧ s.var (.esmcCode p) ≠ 0 ∧ s.var (.esmcCode p) ≠ s.esmcCode p + 1 then s.esmcSend p true else s) := by
  show execEsmcEventTx p s = _
  unfold execEsmcEventTx
  simp only [hp, true_and]

end

/-- Settles O33: a pause by what it shows of one priority, its end and the watchdog, a received PDU by its form, and the port's own PDUs. -/
theorem flowControlAndEsmc : Obligations.FlowControlAndEsmc := by
  unfold Obligations.FlowControlAndEsmc
  intro s p hp
  refine ⟨fun mask pfc quanta helse => pauseFrame_elsewhere helse pfc quanta, fun q mask pfc quanta hup hq hheard hto => ?_,
    fun q hq => pauseExpiry_ends hp hq, ⟨_, pauseWd_ends hp, ?_⟩, fun q hq => ⟨_, wdIgnoreEnd_ends hp hq, ?_⟩,
    fun oui sub ver typ len ssm ext hup => esmcPdu_ends hp hup oui sub ver typ len ssm ext, esmcTimeout_ends hp,
    ⟨_, s.esmcSend p false, esmcInfoTx_eq hp, ?_⟩, _, esmcEventTx_eq hp, ?_⟩
  · obtain ⟨htc, hmem, hout, hfifo, hcount⟩ := paused_keeps s p pfc mask.mask quanta
    exact ⟨_, pauseFrame_obeyed hp hup hto pfc quanta, htc, hmem, hout, hfifo, hcount, paused_shows hq hheard pfc mask.mask quanta⟩
  · split
    · rfl
    · exact wdBroken_shows s p (List.nodup_range.filter _)
  · split
    · next hover =>
      rw [fbit_putBit _ _ _ (by exact hq), if_pos rfl]
      exact ⟨rfl, rfl, rfl⟩
    · rfl
  · split
    · exact ⟨esmcSend_shows s p false, rfl⟩
    · rfl
  · split
    · exact esmcSend_shows s p true
    · rfl

end Sys2Proof.Machine
end

section
/-! PROOFS. Frames received (R307 to R312, R326): what the stamp of one leaves alone, which check discards it, and what becomes of the rest. -/

namespace Sys2Proof.Machine

section

variable {s t : State} {p : Nat} {rx : RxFrame}

/-! ## Stamps (R307, R309) -/

/-- A port's register says nothing of the time bus and of the synthesis group that stamps follow. -/
theorem stampFlags_put (s : State) {f : Fld} (hf : portKey p ≤ f.key) (v q : Nat) : (s.put f v).stampFlags q = s.stampFlags q := by
  have hbus : Reg.TB_STATUS_STATE.key < portKey p := lt_of_lt_of_le (by decide : _ < 0x6000000) (Nat.le_add_right _ _)
  have hsyn : (Reg.SYN_STATE_STATE 3).key < portKey p := lt_of_lt_of_le (by decide : _ < 0x6000000) (Nat.le_add_right _ _)
  have htb : (s.put f v).tbState q = s.tbState q := by
    unfold State.tbState
    rw [State.get_put_ne _ _ (by omega)]
  have hhold : (s.put f v).synHolding = s.synHolding := by
    unfold State.synHolding State.synSt
    rw [State.get_put_ne _ _ (by omega)]
    rfl
  unfold State.stampFlags
  rw [htb, hhold]

theorem rxStamp_congr (hmode : t.get (Reg.PORT_CFG_MODE p) = s.get (Reg.PORT_CFG_MODE p)) (hfec : t.get (Reg.PORT_CFG_FEC p) = s.get (Reg.PORT_CFG_FEC p))
    (hskew : t.get (Reg.RX_SKEW_SKEW p) = s.get (Reg.RX_SKEW_SKEW p))
    (hdelay : t.get (Reg.RX_EXT_DELAY_DELAY p) = s.get (Reg.RX_EXT_DELAY_DELAY p)) (a : MiiAt) : t.rxStamp p a = s.rxStamp p a := by
  simp only [State.rxStamp, State.phyDelay, State.mode, State.getI, hmode, hfec, hskew, hdelay]

/-- A stamp taken is counted where it is flagged, and changes no other register of its port but the sticky bits. -/
theorem stampTaken_shows (s : State) (p : Nat) (cls : Option Nat) : let t := s.stampTaken p cls
    t.tc = s.tc ∧ t.mem = s.mem ∧ t.out = s.out ∧ (t.port p).fifo = (s.port p).fifo ∧
      t.get (Reg.STAMPS_FLAGGED_COUNT p) = (if s.stampFlags p = 0 then s.get (Reg.STAMPS_FLAGGED_COUNT p)
        else min (s.get (Reg.STAMPS_FLAGGED_COUNT p) + 1) (2 ^ 32 - 1)) ∧
      ∀ f : Fld, portKey p ≤ f.key → f.key ≠ (Reg.PORT_STICKY_STICKY p).key → f.key ≠ (Reg.STAMPS_FLAGGED_COUNT p).key → t.get f = s.get f := by
  have hfifo : ∀ {u w : State} (b : Bool), w.ports = u.ports → ((w.setPort p { w.port p with flagged := b }).port p).fifo = (u.port p).fifo :=
    fun b hports => by rw [State.port_setPort_same, State.port, hports, State.port]
  obtain ⟨v, hv, hveq⟩ : ∃ v, Quiet s v ∧ s.pmcEvent 4 0x12 { cls := cls } = v := ⟨_, pmcEvent_quiet _ _ _ _ (by decide), rfl⟩
  unfold State.stampTaken
  rw [hveq]
  dsimp only
  by_cases hflags : s.stampFlags p = 0
  · rw [if_pos hflags, if_pos hflags]
    exact ⟨hv.tc, hv.mem, hv.out, hfifo false hv.ports, hv.getPort (p := p) (by simp), fun f hf _ _ => hv.getPort hf⟩
  · rw [if_neg hflags, if_neg hflags]
    obtain ⟨w, hw, hweq⟩ : ∃ w, Quiet (v.portCount (Reg.STAMPS_FLAGGED_COUNT p)) w ∧
        (v.portCount (Reg.STAMPS_FLAGGED_COUNT p)).pmcEvent 4 0x13 = w := ⟨_, pmcEvent_quiet _ _ _ _ (by decide), rfl⟩
    rw [hweq]
    obtain ⟨t, ht, hteq⟩ : ∃ t, PortTold p (w.setPort p { w.port p with flagged := true }) t ∧
        (if decide ((w.port p).flagged = false) then
          (w.setPort p { w.port p with flagged := true }).raisePort p 4 .warning [i1 (s.stampFlags p % 2), i1 (s.stampFlags p / 2)]
        else w.setPort p { w.port p with flagged := true }) = t := ⟨_, .ite (raisePort_told _ _ _ _ _) (.refl _), rfl⟩
    rw [hteq]
    refine ⟨?_, ?_, ?_, ?_, ?_, fun f hf hsticky hcount => ?_⟩
    · rw [ht.tc, State.setPort_tc, hw.tc, portCount_tc, hv.tc]
    · rw [ht.mem, State.setPort_mem, hw.mem, portCount_mem, hv.mem]
    · rw [ht.out, State.setPort_out, hw.out, portCount_out, hv.out]
    · rw [State.port, ht.ports, ← State.port]
      exact hfifo true (by rw [hw.ports, portCount_ports, hv.ports])
    · rw [ht.get (by simp) (by simp), State.get_setPort, hw.getPort (p := p) (by simp), get_portCount_same _ rfl, hv.getPort (p := p) (by simp)]
    · rw [ht.get hf hsticky, State.get_setPort, hw.getPort hf, get_portCount_ne _ hcount, hv.getPort hf]

/-! ## A frame stamped and counted (R310, R326) -/

/-- The registers of its port that a frame's stamp and codewords change. -/
def stampKeys (p : Nat) : List Nat :=
  [(Reg.PORT_STICKY_STICKY p).key, (Reg.STAMPS_FLAGGED_COUNT p).key, (Reg.FEC_CORRECTED_COUNT p).key, (Reg.FEC_UNCORRECTED_COUNT p).key,
    (Reg.PCS_ERR_BLOCKS_COUNT p).key]

/-- The class by which a frame's stamp is counted. -/
def State.rxCls (s : State) (p : Nat) (rx : RxFrame) : Option Nat :=
  if (s.rxFails p rx).isSome ∨ ¬ s.passes p (parseFrame rx.bytes) then none else s.rxClass p (parseFrame rx.bytes)

/-- A frame's codewords and its stamp taken. -/
def State.rxBegun (s : State) (p : Nat) (rx : RxFrame) : State := (s.fecCount p rx).stampTaken p (s.rxCls p rx)

theorem rxBegun_shows (hok : rx.fecOk = 0) (hbad : rx.fecBad = 0) (hpcs : rx.pcsBad = 0) : let t := s.rxBegun p rx
    t.tc = s.tc ∧ t.mem = s.mem ∧ t.out = s.out ∧ (t.port p).fifo = (s.port p).fifo ∧
      t.get (Reg.STAMPS_FLAGGED_COUNT p) = (if s.stampFlags p = 0 then s.get (Reg.STAMPS_FLAGGED_COUNT p)
        else min (s.get (Reg.STAMPS_FLAGGED_COUNT p) + 1) (2 ^ 32 - 1)) ∧
      ∀ f : Fld, portKey p ≤ f.key → f.key ∉ stampKeys p → t.get f = s.get f := by
  have hfec : s.fecCount p rx = ((s.portCountBy (Reg.FEC_CORRECTED_COUNT p) 0).portCountBy (Reg.FEC_UNCORRECTED_COUNT p) 0).portCountBy
      (Reg.PCS_ERR_BLOCKS_COUNT p) 0 := by
    unfold State.fecCount
    rw [hok, hbad, hpcs]
    exact if_pos rfl
  have hflags : (s.fecCount p rx).stampFlags p = s.stampFlags p := by
    rw [hfec]
    exact (stampFlags_put (p := p) _ (by simp) _ _).trans ((stampFlags_put (p := p) _ (by simp) _ _).trans (stampFlags_put (p := p) _ (by simp) _ _))
  have hget : ∀ {f : Fld}, f.key ≠ (Reg.FEC_CORRECTED_COUNT p).key → f.key ≠ (Reg.FEC_UNCORRECTED_COUNT p).key →
      f.key ≠ (Reg.PCS_ERR_BLOCKS_COUNT p).key → (s.fecCount p rx).get f = s.get f := fun hcor hunc hblocks => by
    rw [hfec]
    exact (State.get_put_ne _ _ hblocks).trans ((State.get_put_ne _ _ hunc).trans (State.get_put_ne _ _ hcor))
  have htc : (s.fecCount p rx).tc = s.tc := by rw [hfec]; rfl
  have hmem : (s.fecCount p rx).mem = s.mem := by rw [hfec]; rfl
  have hout : (s.fecCount p rx).out = s.out := by rw [hfec]; rfl
  have hport : (s.fecCount p rx).port p = s.port p := by rw [hfec]; rfl
  unfold State.rxBegun
  generalize s.fecCount p rx = u at *
  obtain ⟨htc', hmem', hout', hfifo, hflagged, hrest⟩ := stampTaken_shows u p (s.rxCls p rx)
  rw [hflags, hget (by simp) (by simp) (by simp)] at hflagged
  refine ⟨htc'.trans htc, hmem'.trans hmem, hout'.trans hout, hfifo.trans (by rw [hport]), hflagged, fun f hf hkeys => ?_⟩
  simp only [stampKeys, List.mem_cons, List.not_mem_nil, or_false, not_or] at hkeys
  obtain ⟨hsticky, hcount, hcor, hunc, hblocks⟩ := hkeys
  exact (hrest f hf hsticky hcount).trans (hget hcor hunc hblocks)

/-- A frame that passed the checks, counted with its octets. -/
def State.rxCounted (s : State) (p : Nat) (rx : RxFrame) : State :=
  (((s.rxBegun p rx).portCount (Reg.RX_FRAMES_COUNT p)).addOctets (Reg.RX_OCTETS_LO_LO p) (Reg.RX_OCTETS_HI_HI p) rx.bytes.length).pmcEvent 4 0x10
    { cls := s.rxCls p rx }

theorem rxCounted_shows (hok : rx.fecOk = 0) (hbad : rx.fecBad = 0) (hpcs : rx.pcsBad = 0) : let v := s.rxCounted p rx
    v.get (Reg.RX_FRAMES_COUNT p) = min (s.get (Reg.RX_FRAMES_COUNT p) + 1) (2 ^ 32 - 1) ∧
      v.get64 (Reg.RX_OCTETS_LO_LO p) (Reg.RX_OCTETS_HI_HI p) =
        min (s.get64 (Reg.RX_OCTETS_LO_LO p) (Reg.RX_OCTETS_HI_HI p) + rx.bytes.length) (2 ^ 64 - 1) ∧ v.mem = s.mem ∧ v.out = s.out ∧ v.tc = s.tc ∧
      v.get (Reg.STAMPS_FLAGGED_COUNT p) = (if s.stampFlags p = 0 then s.get (Reg.STAMPS_FLAGGED_COUNT p)
        else min (s.get (Reg.STAMPS_FLAGGED_COUNT p) + 1) (2 ^ 32 - 1)) := by
  obtain ⟨htc, hmem, hout, -, hflagged, hrest⟩ := rxBegun_shows (s := s) (p := p) hok hbad hpcs
  unfold State.rxCounted
  generalize s.rxBegun p rx = u at *
  obtain ⟨n, hn⟩ : ∃ n, u.portCount (Reg.RX_FRAMES_COUNT p) = n := ⟨_, rfl⟩
  rw [hn]
  obtain ⟨v, hv, hveq⟩ : ∃ v, Quiet (n.addOctets (Reg.RX_OCTETS_LO_LO p) (Reg.RX_OCTETS_HI_HI p) rx.bytes.length) v ∧
      (n.addOctets (Reg.RX_OCTETS_LO_LO p) (Reg.RX_OCTETS_HI_HI p) rx.bytes.length).pmcEvent 4 0x10 { cls := s.rxCls p rx } = v :=
    ⟨_, pmcEvent_quiet _ _ _ _ (by decide), rfl⟩
  rw [hveq]
  have hoctets : n.get64 (Reg.RX_OCTETS_LO_LO p) (Reg.RX_OCTETS_HI_HI p) = s.get64 (Reg.RX_OCTETS_LO_LO p) (Reg.RX_OCTETS_HI_HI p) := by
    unfold State.get64
    rw [← hn, get_portCount_ne _ (by simp), get_portCount_ne _ (by simp), hrest _ (by simp) (by simp [stampKeys]),
      hrest _ (by simp) (by simp [stampKeys])]
  have hset : v.get64 (Reg.RX_OCTETS_LO_LO p) (Reg.RX_OCTETS_HI_HI p) =
      min (n.get64 (Reg.RX_OCTETS_LO_LO p) (Reg.RX_OCTETS_HI_HI p) + rx.bytes.length) (2 ^ 64 - 1) := by
    rw [State.get64, hv.getPort (p := p) (by simp), hv.getPort (p := p) (by simp)]
    exact put64_regs_get64 n (by simp) rfl rfl (by omega)
  have hmem' : n.mem = s.mem := by rw [← hn, portCount_mem, hmem]
  have hout' : n.out = s.out := by rw [← hn, portCount_out, hout]
  have htc' : n.tc = s.tc := by rw [← hn, portCount_tc, htc]
  refine ⟨?_, hset.trans (by rw [hoctets]), hv.mem.trans hmem', hv.out.trans hout', hv.tc.trans htc', ?_⟩
  · rw [hv.getPort (p := p) (by simp), State.addOctets, get_put64_ne _ _ (by simp) (by simp), ← hn, get_portCount_same _ rfl,
      hrest _ (by simp) (by simp [stampKeys])]
  · rw [hv.getPort (p := p) (by simp), State.addOctets, get_put64_ne _ _ (by simp) (by simp), ← hn, get_portCount_ne _ (by simp), hflagged]

/-! ## The checks (R310) -/

/-- A frame is discarded under the counter of the first check that it fails. -/
theorem rxFails_ends {P : Fld → Prop} {Q : Prop} (hfails : ∀ f, s.rxFails p rx = some f → P f) (hpasses : s.rxFails p rx = none → Q) :
    if rx.noRoom then P (Reg.RX_FIFO_DROP_COUNT p)
    else if rx.bytes.length < 64 then P (Reg.RX_RUNT_COUNT p)
    else if s.get (Reg.PORT_CFG_MAX_FRAME p) < rx.bytes.length then P (Reg.RX_OVERSIZE_COUNT p)
    else if rx.fcsBad then P (Reg.RX_FCS_ERR_COUNT p)
    else if rx.cut then P (Reg.RX_TRUNCATED_COUNT p)
    else Q := by
  unfold State.rxFails at hfails hpasses
  split
  · next h => exact hfails _ (if_pos h)
  next h1 =>
  rw [if_neg h1] at hfails hpasses
  split
  · next h => exact hfails _ (if_pos h)
  next h2 =>
  rw [if_neg h2] at hfails hpasses
  split
  · next h => exact hfails _ (if_pos h)
  next h3 =>
  rw [if_neg h3] at hfails hpasses
  split
  · next h => exact hfails _ (if_pos h)
  next h4 =>
  rw [if_neg h4] at hfails hpasses
  split
  · next h => exact hfails _ (if_pos h)
  · next h => exact hpasses (if_neg h)

/-- Each check's counter is one of the port's that neither stamps nor codewords change. -/
theorem rxFails_counter {f : Fld} (h : s.rxFails p rx = some f) : f.width = 32 ∧ portKey p ≤ f.key ∧ f.key ∉ stampKeys p := by
  unfold State.rxFails at h
  split_ifs at h
  all_goals
    obtain rfl := Option.some.inj h
    exact ⟨rfl, by simp, by simp [stampKeys]⟩

theorem rxDiscarded_shows (hok : rx.fecOk = 0) (hbad : rx.fecBad = 0) (hpcs : rx.pcsBad = 0) {f : Fld} (hf : s.rxFails p rx = some f) :
    let t := (s.rxBegun p rx).portCount f
    t.get f = min (s.get f + 1) (2 ^ 32 - 1) ∧ t.tc = s.tc ∧ t.mem = s.mem ∧ t.out = s.out ∧ (t.port p).fifo = (s.port p).fifo := by
  obtain ⟨hwidth, hkey, hstamp⟩ := rxFails_counter hf
  obtain ⟨htc, hmem, hout, hfifo, -, hrest⟩ := rxBegun_shows (s := s) (p := p) hok hbad hpcs
  generalize s.rxBegun p rx = u at *
  exact ⟨(get_portCount_same u hwidth).trans (by rw [hrest f hkey hstamp]), htc, hmem, hout, hfifo⟩

/-! ## Where a frame goes (R311, R312) -/

/-- A frame that passed the checks, filtered or at its one destination. -/
def State.rxPlaced (v : State) (p stamp : Nat) (rx : RxFrame) : State :=
  let f := parseFrame rx.bytes
  if ¬ v.passes p f then v.portCount (Reg.RX_FILTERED_COUNT p)
  else match v.steer p f with
    | .drop c => v.portCount (c p)
    | .ptpDrop k => v.bump (Reg.DISCARDED_COUNT k)
    | .unit u k =>
      let w := { v with out := .steered p u k :: v.out }
      if u = 1 ∧ w.get (Reg.SYNCE_CFG_ESMC_TO_HOST p) = 1 then w.toHost p stamp 5 f rx else w
    | .host r => v.toHost p stamp r f rx

theorem frameReceived_not (h : s.unitOn (0x8000 + p) = false ∨ (s.portUp p = false ∧ rx.cut = false)) :
    exec (.frameReceived p rx) s = .next s := by
  show execFrameReceived p rx s = _
  unfold execFrameReceived
  rw [if_pos]
  rintro ⟨-, hon, hlink⟩
  rcases h with hoff | ⟨hdown, hwhole⟩
  · rw [hoff] at hon
    exact absurd hon (by decide)
  · rw [hdown, hwhole] at hlink
    exact absurd hlink (by decide)

theorem frameReceived_taken (hp : p < 4) (hon : s.unitOn (0x8000 + p) = true) (hlink : s.portUp p = true ∨ rx.cut = true) :
    (∀ f, s.rxFails p rx = some f → exec (.frameReceived p rx) s = .next ((s.rxBegun p rx).portCount f)) ∧
    (s.rxFails p rx = none → exec (.frameReceived p rx) s = .next ((s.rxCounted p rx).rxPlaced p
      ((((s.rxBegun p rx).portCount (Reg.RX_FRAMES_COUNT p)).addOctets (Reg.RX_OCTETS_LO_LO p) (Reg.RX_OCTETS_HI_HI p) rx.bytes.length).rxStamp p rx.at_)
      rx)) := by
  have hexec : exec (.frameReceived p rx) s = execFrameReceived p rx s := rfl
  unfold execFrameReceived at hexec
  rw [if_neg (not_not.2 ⟨hp, hon, hlink⟩)] at hexec
  refine ⟨fun f hf => hexec.trans ?_, fun hnone => hexec.trans ?_⟩
  · unfold State.rxBegun State.rxCls
    dsimp only
    rw [hf]
  · unfold State.rxCounted State.rxBegun State.rxCls
    dsimp only
    rw [hnone]
    rfl

/-- A frame is stamped by registers that its own count does not touch. -/
theorem rxStamp_counted (hok : rx.fecOk = 0) (hbad : rx.fecBad = 0) (hpcs : rx.pcsBad = 0) (a : MiiAt) :
    (((s.rxBegun p rx).portCount (Reg.RX_FRAMES_COUNT p)).addOctets (Reg.RX_OCTETS_LO_LO p) (Reg.RX_OCTETS_HI_HI p) rx.bytes.length).rxStamp p a =
      s.rxStamp p a := by
  obtain ⟨-, -, -, -, -, hrest⟩ := rxBegun_shows (s := s) (p := p) hok hbad hpcs
  have hget : ∀ {f : Fld}, portKey p ≤ f.key → f.key ∉ stampKeys p → f.key ≠ (Reg.RX_FRAMES_COUNT p).key → f.key ≠ (Reg.RX_OCTETS_LO_LO p).key →
      f.key ≠ (Reg.RX_OCTETS_HI_HI p).key →
      (((s.rxBegun p rx).portCount (Reg.RX_FRAMES_COUNT p)).addOctets (Reg.RX_OCTETS_LO_LO p) (Reg.RX_OCTETS_HI_HI p) rx.bytes.length).get f = s.get f :=
    fun hf hstamp hframes hlow hhigh => (get_put64_ne _ _ hlow hhigh).trans ((get_portCount_ne _ hframes).trans (hrest _ hf hstamp))
  exact rxStamp_congr (hget (by simp) (by simp [stampKeys]) (by simp) (by simp) (by simp))
    (hget (by simp) (by simp [stampKeys]) (by simp) (by simp) (by simp))
    (hget (by simp) (by simp [stampKeys]) (by simp) (by simp) (by simp))
    (hget (by simp) (by simp [stampKeys]) (by simp) (by simp) (by simp)) a

theorem rxPlaced_ends (v : State) (p stamp : Nat) (rx : RxFrame) : let t := v.rxPlaced p stamp rx
    if v.passes p (parseFrame rx.bytes) = false then t = v.portCount (Reg.RX_FILTERED_COUNT p)
    else match v.steer p (parseFrame rx.bytes) with
      | .drop f => t = v.portCount (f p)
      | .ptpDrop k => t = v.bump (Reg.DISCARDED_COUNT k)
      | .host r => t = v.toHost p stamp r (parseFrame rx.bytes) rx
      | .unit d k => let w := { v with out := .steered p d k :: v.out }
        if d = 1 ∧ v.get (Reg.SYNCE_CFG_ESMC_TO_HOST p) = 1 then t = w.toHost p stamp 5 (parseFrame rx.bytes) rx else t = w := by
  intro t
  split
  · next hout => exact if_pos (by simp [hout])
  · next hin =>
    have ht : t = _ := if_neg (by simpa using hin)
    rw [ht]
    cases hsteer : v.steer p (parseFrame rx.bytes) with
    | drop f => rfl
    | ptpDrop k => rfl
    | host r => rfl
    | unit d k =>
      dsimp only
      split
      · next hesmc => exact if_pos hesmc
      · next hesmc => exact if_neg hesmc

end

end Sys2Proof.Machine
end

section
/-! PROOFS. Frames given by the host and sent (R316, R317, R320, R379). -/

namespace Sys2Proof.Machine

section

variable {s : State} {p : Nat} {i j : TxItem}

/-! ## A frame of the host's taken (R316, R379) -/

/-- The body of a frame, from its descriptors. -/
def State.txRaw (s : State) (ds : List TxDesc) : List Byte := ds.flatMap fun d => memRead s.mem d.addr d.len

/-- A frame of fewer than 60 octets filled up. -/
def padded (raw : List Byte) : List Byte := raw ++ List.replicate (60 - raw.length) 0

/-- The priority of a frame of the host's. -/
def State.txPrio (s : State) (p : Nat) (body : List Byte) : Nat :=
  s.prioOf p (if netField body 12 2 = 0x8100 then some (netField body 14 2) else none)

/-- Whether a whole frame of the host's has to wait: its FIFO has no room, or its priority is halted. -/
abbrev State.txWaits (s : State) (p : Nat) (body : List Byte) : Prop :=
  hostRoom ≤ ((s.port p).fifo.filter fun i => ¬ i.engine ∧ i.prio = s.txPrio p body).length ∨
    (s.halted p (s.txPrio p body) = true ∧ macControl body = false)

theorem fetchFrame_waits {ds : List TxDesc} {good : Bool} (n : Nat) (dma : Bool)
    (h : good = true ∧ s.txWaits p (padded (s.txRaw ds))) : s.fetchFrame n p dma (some (ds, good)) = s := by
  refine if_pos ⟨h.1, h.2.imp decide_eq_true fun hhalt => ⟨hhalt.1, ?_⟩⟩
  rw [Bool.not_eq_true]
  exact hhalt.2

theorem txWaits_iff {good : Bool} {body : List Byte} : (good = true ∧ (decide (hostRoom ≤ ((s.port p).fifo.filter fun i =>
    ¬ i.engine ∧ i.prio = s.txPrio p body).length) = true ∨ (s.halted p (s.txPrio p body) = true ∧ ¬ macControl body = true))) ↔
      good = true ∧ s.txWaits p body := by
  simp only [State.txWaits, decide_eq_true_iff, Bool.not_eq_true]

theorem fetchFrame_dmaError {ds : List TxDesc} {good : Bool} (n : Nat) (h : ¬ (good = true ∧ s.txWaits p (padded (s.txRaw ds)))) :
    s.fetchFrame n p false (some (ds, good)) = s.ringError n 3 (s.entryAddr n 16 0 % 2 ^ 32) :=
  (if_neg (mt txWaits_iff.1 h)).trans (if_pos (by decide))

/-- A frame taken from its ring: dropped where its chain is bad or it is too long, else put into its FIFO. -/
def State.frameTaken (u : State) (p q : Nat) (good : Bool) (raw : List Byte) : State :=
  if ¬ good ∨ u.get (Reg.PORT_CFG_MAX_FRAME p) < raw.length + 4 then u.portCount (Reg.TX_HOST_DROP_COUNT p)
  else u.setPort p { u.port p with fifo := (u.port p).fifo ++ [⟨q, none, .host ⟨padded raw, none⟩⟩] }

theorem fetchFrame_taken {ds : List TxDesc} {good : Bool} (n : Nat) (h : ¬ (good = true ∧ s.txWaits p (padded (s.txRaw ds))))
    (hplain : ∀ d ∈ ds, d.ts = false) : s.fetchFrame n p true (some (ds, good)) =
      (s.consume n ds.length).frameTaken p (s.txPrio p (padded (s.txRaw ds))) good (s.txRaw ds) := by
  refine (if_neg (mt txWaits_iff.1 h)).trans ((if_neg (by decide)).trans ?_)
  cases ds with
  | nil => rfl
  | cons d ds =>
    obtain ⟨addr, len, sof, eof, ts, tag⟩ := d
    obtain rfl : ts = false := hplain _ (.head _)
    rfl

theorem hostFrameFetch_none (hp : p < 4) (dma : Bool) (h : s.portRing 3 p = none) : exec (.hostFrameFetch p dma) s = .next s := by
  show execHostFrameFetch p dma s = _
  unfold execHostFrameFetch
  rw [if_neg (by omega), h]

theorem hostFrameFetch_some (hp : p < 4) (dma : Bool) {n : Nat} (h : s.portRing 3 p = some n) :
    exec (.hostFrameFetch p dma) s = .next (s.fetchFrame n p dma (s.chain n (s.ringHas n) 0 [])) := by
  show execHostFrameFetch p dma s = _
  unfold execHostFrameFetch
  rw [if_neg (by omega), h]

theorem frameTaken_ends (u : State) (p q : Nat) (good : Bool) (raw : List Byte) :
    if good = false ∨ u.get (Reg.PORT_CFG_MAX_FRAME p) < raw.length + 4 then u.frameTaken p q good raw = u.portCount (Reg.TX_HOST_DROP_COUNT p)
    else u.frameTaken p q good raw = u.setPort p { u.port p with fifo := (u.port p).fifo ++ [⟨q, none, .host ⟨padded raw, none⟩⟩] } := by
  split
  · next hdropped => exact if_pos (hdropped.imp_left (Bool.not_eq_true _).mpr)
  · next hqueued => exact if_neg (mt (Or.imp_left (Bool.not_eq_true _).mp) hqueued)

/-- A frame of the host's waits, its bytes cannot be read, or it is taken whole. -/
theorem fetchFrame_ends (s : State) (n p : Nat) (dma : Bool) (ds : List TxDesc) (good : Bool) : let t := s.fetchFrame n p dma (some (ds, good))
    if good = true ∧ s.txWaits p (padded (s.txRaw ds)) then t = s
    else if dma = false then t = s.ringError n 3 (s.entryAddr n 16 0 % 2 ^ 32)
    else (∀ d ∈ ds, d.ts = false) → ∃ u, u = s.consume n ds.length ∧
      if good = false ∨ u.get (Reg.PORT_CFG_MAX_FRAME p) < (s.txRaw ds).length + 4 then t = u.portCount (Reg.TX_HOST_DROP_COUNT p)
      else t = u.setPort p { u.port p with
        fifo := (u.port p).fifo ++ [⟨s.txPrio p (padded (s.txRaw ds)), none, .host ⟨padded (s.txRaw ds), none⟩⟩] } := by
  intro t
  split
  · next hwaits => exact fetchFrame_waits n dma hwaits
  next hgoes =>
  cases dma with
  | false => exact fetchFrame_dmaError n hgoes
  | true =>
    intro hplain
    have ht : t = _ := fetchFrame_taken n hgoes hplain
    rw [ht]
    exact ⟨_, rfl, frameTaken_ends (s.consume n ds.length) p _ good _⟩

/-! ## The frame sent next (R316, R320) -/

/-- The frames of a priority that may be sent. -/
def State.sendable (s : State) (p q : Nat) : List TxItem := (s.port p).fifo.filter fun i => decide (i.prio = q) && (! s.halted p q || i.control)

/-- The frame of a priority to be sent first: the engine's before the host's. -/
def State.firstOf (s : State) (p q : Nat) : Option TxItem :=
  match (s.sendable p q).find? TxItem.engine with
  | some i => some i
  | none => (s.sendable p q).head?

theorem nextTx_eq (s : State) (p : Nat) : s.nextTx p = (List.range 8).reverse.findSome? (s.firstOf p) := rfl

theorem mem_sendable {q : Nat} : j ∈ s.sendable p q ↔ j ∈ (s.port p).fifo ∧ j.prio = q ∧ (s.halted p q = false ∨ j.control = true) := by
  simp [State.sendable]

/-- A priority that sends nothing is halted for all its frames. -/
theorem firstOf_none {q : Nat} (h : s.firstOf p q = none) (hj : j ∈ (s.port p).fifo) (hq : j.prio = q) : s.halted p q = true ∧ j.control = false := by
  have hempty : s.sendable p q = [] := by
    unfold State.firstOf at h
    split at h
    · contradiction
    · exact List.head?_eq_none_iff.1 h
  have hout : j ∉ s.sendable p q := by simp [hempty]
  have hnot := fun hor => hout (mem_sendable.2 ⟨hj, hq, hor⟩)
  simpa [not_or] using hnot

theorem firstOf_some {q : Nat} (h : s.firstOf p q = some i) :
    i ∈ s.sendable p q ∧ ∀ j ∈ s.sendable p q, j.engine = true → i.engine = true := by
  unfold State.firstOf at h
  split at h
  · next k hk =>
    obtain rfl := Option.some.inj h
    exact ⟨List.mem_of_find?_eq_some hk, fun _ _ _ => List.find?_some hk⟩
  · next hnone =>
    exact ⟨List.mem_of_mem_head? h, fun j hj heng => absurd heng (List.find?_eq_none.1 hnone j hj)⟩

theorem nextTx_none (h : s.nextTx p = none) (hi : i ∈ (s.port p).fifo) (hprio : i.prio < 8) : s.halted p i.prio = true ∧ i.control = false :=
  firstOf_none (List.findSome?_eq_none_iff.1 ((nextTx_eq s p).symm.trans h) _ (by simpa using hprio)) hi rfl

theorem nextTx_some (h : s.nextTx p = some i) : i ∈ (s.port p).fifo ∧ (s.halted p i.prio = false ∨ i.control = true) ∧
    (∀ j ∈ (s.port p).fifo, i.prio < j.prio → j.prio < 8 → s.halted p j.prio = true ∧ j.control = false) ∧
    (s.halted p i.prio = false → ∀ j ∈ (s.port p).fifo, j.prio = i.prio → j.engine = true → i.engine = true) := by
  obtain ⟨above, q, below, hsplit, hq, habove⟩ := List.findSome?_eq_some_iff.1 ((nextTx_eq s p).symm.trans h)
  obtain ⟨hmem, hengine⟩ := firstOf_some hq
  obtain ⟨hfifo, rfl, hopen⟩ := mem_sendable.1 hmem
  refine ⟨hfifo, hopen, fun j hj hlt hprio => ?_, fun hfree j hj hprio => hengine j (mem_sendable.2 ⟨hj, hprio, .inl hfree⟩)⟩
  have hdesc : (above ++ i.prio :: below).Pairwise (· > ·) := hsplit ▸ List.pairwise_reverse.2 List.pairwise_lt_range
  have hlisted : j.prio ∈ above ++ i.prio :: below := hsplit ▸ by simpa using hprio
  have hbelow := (List.pairwise_cons.1 (List.pairwise_append.1 hdesc).2.1).1
  rcases List.mem_append.1 hlisted with hin | hin
  · exact firstOf_none (habove _ hin) hj rfl
  rcases List.mem_cons.1 hin with heq | hin
  · omega
  · have := hbelow _ hin
    omega

/-! ## A frame launched (R316, R317, R325) -/

/-- A port whose frame has left its FIFO. -/
def State.unqueued (s : State) (p : Nat) (i : TxItem) : State :=
  s.setPort p { s.port p with fifo := dropFirst (fun j => decide (j = i)) (s.port p).fifo }

/-- A frame at its launch, by what it is. -/
def State.launched (u : State) (p at_ : Nat) (cut : Bool) (i : TxItem) : State :=
  match i.body with
  | .host f => u.launchHost p at_ cut f
  | .esmc code event => if cut then u else u.launchEsmc p i.tci code event
  | .ptp m => if cut then u else u.launchPtp p at_ i.tci m
  | .ntp m => if cut ∨ ¬ u.portUp p ∨ ¬ u.unitOn (0x8000 + p) ∨ u.follower then u else u.launchNtp p at_ i.tci m

theorem frameTransmit_none (hp : p < 4) (at_ : Nat) (cut : Bool) (h : s.nextTx p = none) : exec (.frameTransmit p at_ cut) s = .next s := by
  show execFrameTransmit p at_ cut s = _
  unfold execFrameTransmit
  rw [if_neg (by omega), h]

theorem frameTransmit_some (hp : p < 4) (at_ : Nat) (cut : Bool) (h : s.nextTx p = some i) :
    exec (.frameTransmit p at_ cut) s = .next ((s.unqueued p i).launched p at_ cut i) := by
  show execFrameTransmit p at_ cut s = _
  unfold execFrameTransmit
  rw [if_neg (by omega), h]
  rfl

theorem launchEsmc_out {u : State} (hup : u.portUp p = true) (hon : u.unitOn (0x8000 + p) = true) (tci : Option Nat) (code : Nat) (event : Bool) :
    (u.launchEsmc p tci code event).out = .esmc p code event :: u.out := by
  unfold State.launchEsmc
  rw [if_neg (by simp [hup, hon])]
  obtain ⟨-, -, hout, -⟩ := stampTaken_shows u p none
  exact (sent_out _ _ _ _).trans (congrArg _ hout)

theorem launched_ends (s u : State) (hup : u.portUp p = s.portUp p) (hon : u.unitOn (0x8000 + p) = s.unitOn (0x8000 + p))
    (hfollower : u.follower = s.follower) (hout : u.out = s.out) (at_ : Nat) (cut : Bool) (i : TxItem) : let t := u.launched p at_ cut i
    match i.body with
    | .host f => if s.portUp p = false ∨ cut = true then t = (u.portCount (Reg.TX_HOST_DROP_COUNT p)).tsqFail p f.stamp 2
        else t = u.launchHost p at_ cut f
    | .ptp m => if cut then t = u else t = u.launchPtp p at_ i.tci m
    | .esmc code event => if cut then t = u else t = u.launchEsmc p i.tci code event ∧
        (s.portUp p = true → s.unitOn (0x8000 + p) = true → t.out = .esmc p code event :: s.out)
    | .ntp m => if cut = true ∨ s.portUp p = false ∨ s.follower = true then t = u else s.unitOn (0x8000 + p) = true → t = u.launchNtp p at_ i.tci m := by
  obtain ⟨prio, tci, body⟩ := i
  rw [← hup, ← hon, ← hfollower, ← hout]
  cases body with
  | host f =>
    dsimp only
    split
    · next hlost =>
      rcases hlost with hdown | hcut
      · exact if_pos (.inl (by simp [hdown]))
      · exact if_pos (.inr (.inr hcut))
    · rfl
  | ptp m => cases cut <;> rfl
  | esmc code event =>
    cases cut with
    | true => rfl
    | false => exact ⟨rfl, fun hup hon => launchEsmc_out hup hon tci code event⟩
  | ntp m =>
    dsimp only
    split
    · next hlost =>
      rcases hlost with hcut | hdown | hfol
      · exact if_pos (.inl hcut)
      · exact if_pos (.inr (.inl (by simp [hdown])))
      · exact if_pos (.inr (.inr (.inr hfol)))
    · next hsent =>
      simp only [not_or, Bool.not_eq_true, Bool.not_eq_false] at hsent
      obtain ⟨hcut, hup, hfol⟩ := hsent
      exact fun hon => if_neg (by simp [hcut, hup, hfol, hon])

end

/-- Settles O32: a received frame by its checks and its one destination, a frame of the host's by its descriptors, and a frame sent by what it is. -/
theorem portFrames : Obligations.PortFrames := by
  unfold Obligations.PortFrames
  intro s p hp
  refine ⟨fun rx => frameReceived_not, fun rx hon hlink hok hbad hpcs => ?_, fun dma => ?_, fun at_ cut => ?_⟩
  · obtain ⟨hdiscarded, hplaced⟩ := frameReceived_taken hp hon hlink
    obtain ⟨t, ht⟩ : ∃ t, exec (.frameReceived p rx) s = .next t := ⟨_, rfl⟩
    refine ⟨t, ht, ?_⟩
    intro kept
    refine rxFails_ends (P := kept) (fun f hf => ?_) fun hnone => ?_
    · unfold kept
      rw [Host.Outcome.next.inj (ht.symm.trans (hdiscarded f hf))]
      exact rxDiscarded_shows hok hbad hpcs hf
    · obtain ⟨hframes, hoctets, hmem, hout, htc, hflagged⟩ := rxCounted_shows (s := s) (p := p) hok hbad hpcs
      rw [Host.Outcome.next.inj (ht.symm.trans (hplaced hnone)), rxStamp_counted hok hbad hpcs]
      exact ⟨s.rxCounted p rx, hframes, hoctets, hmem, hout, htc, hflagged, rxPlaced_ends (s.rxCounted p rx) p (s.rxStamp p rx.at_) rx⟩
  · -- `State.chain` recurses on a number of up to 2^32 entries: it stays abstract, so that no check unfolds it.
    obtain ⟨chain, hchain⟩ : ∃ chain, State.chain s = chain := ⟨_, rfl⟩
    rw [hchain]
    cases hring : s.portRing 3 p with
    | none => exact ⟨s, hostFrameFetch_none hp dma hring, rfl⟩
    | some n =>
      have hexec := hostFrameFetch_some hp dma hring
      rw [hchain] at hexec
      refine ⟨_, hexec, ?_⟩
      dsimp only
      cases chain n (s.ringHas n) 0 [] with
      | none => rfl
      | some c =>
        obtain ⟨ds, good⟩ := c
        exact fetchFrame_ends s n p dma ds good
  · cases hnext : s.nextTx p with
    | none =>
      exact ⟨s, frameTransmit_none hp at_ cut hnext, fun i hi hprio => nextTx_none hnext hi hprio, rfl⟩
    | some i =>
      obtain ⟨hmem, hopen, habove, hengine⟩ := nextTx_some hnext
      exact ⟨_, frameTransmit_some hp at_ cut hnext, hmem, hopen, habove, hengine,
        launched_ends s (s.unqueued p i) rfl rfl rfl rfl at_ cut i⟩

end Sys2Proof.Machine
end
